-- ==== Sys2Proof/Word.lean ====
section
/-!
DEFINITION. The register word and the memory byte of the module (R9, R30): a register is 32 bits, a byte 8 bits.
-/
namespace Sys2Proof

/-- A register word (R9: "register" means a 32-bit register; R30: little-endian, 32-bit accesses only). -/
abbrev Word := BitVec 32

/-- A byte of memory or of a frame (R9). -/
abbrev Byte := BitVec 8

end Sys2Proof
end

