-- ==== Sys2Proof/Syntax.lean ====
section
/-!
DEFINITION. The commands of the module (one constructor of `Instr` for every row of the spec's table of operations
and events) and the plain data their operands carry: frames as records of what the module reads in them, and the
readings a sensor, a wire or the outside world presents. Multi-byte fields are numbers.
-/
namespace Sys2Proof

/-! ### Frames (chapters 3 and 4) -/

/-- A PRP trailer or an HSR tag (R81, R82): sequence number and LAN or ring path identifier. -/
structure PrpTag where
  hsr : Bool
  seq : Nat
  lan : Nat := 0
  deriving DecidableEq, Repr

/-- A MACsec SecTAG with its ICV (R85): SCI, whether the tag carries it (32 bytes added, else 24), association
number, packet number and the integrity check value that stood in the frame. -/
structure SecTag where
  sci : Nat
  sciIncl : Bool
  an : Nat
  pn : Nat
  conf : Bool
  icv : Nat
  deriving DecidableEq, Repr

/-- PTP message types the module tells apart (R104, R105). -/
inductive PtpKind
  | sync | followUp | pdelayReq | pdelayResp | pdelayRespFu | other
  deriving DecidableEq, Repr

/-- The fields of a PTP message the module reads or writes (R104, R105): correctionField in units of 2^-16 ns. -/
structure PtpMsg where
  kind : PtpKind
  twoStep : Bool := false
  domain : Nat := 0
  src : Nat := 0
  seq : Nat := 0
  corr : Int := 0
  originSec : Nat := 0
  originNs : Nat := 0
  deriving DecidableEq, Repr

/-! ### Sampled values (chapter 5) -/

/-- One ASDU of an SV frame as the plane decodes it (R116): each channel an INT32 value and a 32-bit quality; `seqLen` is
the length of seqData in bytes. -/
structure SvAsdu where
  smpCnt : Nat
  confRev : Nat
  smpSynch : Nat
  smpRate : Option Nat := none
  smpMod : Option Nat := none
  seqLen : Nat
  chans : List (Int × Nat)
  deriving DecidableEq, Repr

/-- An SV APDU (R116, R118): svID, noASDU, the header's simulation bit, whether the BER structure is good, the ASDUs and
the IEC 62351-6 tag where present. -/
structure SvPdu where
  svid : List Byte
  noAsdu : Nat
  sim : Bool := false
  berOk : Bool := true
  asdus : List SvAsdu
  tag : Option (List Byte) := none
  deriving DecidableEq, Repr

/-! ### GOOSE (chapter 8) -/

/-- A GOOSE APDU as the subscriber decodes it (R211): each member its MEMBER_TYPE encoding and its value. -/
structure GoosePdu where
  gocbRef : List Byte
  stNum : Nat
  sqNum : Nat
  tal : Nat
  confRev : Nat
  ndsCom : Bool := false
  numEntries : Nat
  sim : Bool := false
  berOk : Bool := true
  members : List (Nat × Nat)
  tag : Option (List Byte) := none
  deriving DecidableEq, Repr

/-- A GOOSE frame of the module's publisher (R215, R217): the template with t (seconds, fraction, quality byte), stNum,
sqNum, timeAllowedToLive and allData written into it. -/
structure GoosePub where
  idx : Nat
  tmpl : List Byte
  sec : Nat
  frac : Nat
  tq : Nat
  stNum : Nat
  sqNum : Nat
  tal : Nat
  members : List (Nat × Nat)
  deriving DecidableEq, Repr

/-- A point of the process image (R193): value, quality, short stamp; as it stands after power-on. -/
structure Point where
  value : Nat := 0
  qual : Nat := 1
  stamp : Nat := 0
  deriving DecidableEq, Repr

/-- A new state a subscriber reports in a MAP frame (R358): subscription, stNum, sqNum, ingress stamp, members. -/
structure GState where
  sub : Nat
  stNum : Nat
  sqNum : Nat
  stamp : Nat
  members : List (Nat × Nat)
  deriving DecidableEq, Repr

/-! ### On-line change (chapter 8) -/

/-- A symbol table entry (R204): KIND 0 DATA, 1 TIMER, 2 EDGE, 3 CONST. -/
structure Sym where
  id : Nat
  hash : Nat
  off : Nat
  kind : Nat
  size : Nat
  deriving DecidableEq, Repr

/-- What an instance's bank header names (R204): the data area, the entries of the tasks of TC0 to TC7 and of the error task,
symbols, points (index, SYMBOL_ID, TYPE_HASH). -/
structure Bank where
  base : Nat := 0
  tasks : List Nat := []
  errTask : Nat := 0
  syms : List Sym := []
  points : List (Nat × Nat × Nat) := []
  deriving DecidableEq, Repr

/-- A presence map as a MAP frame carries it (R128, R356): tick number, the stream slots present, the sender's SYNC code and
TSU_HOLD_EST, the GOOSE new states and expired subscriptions it reports (R358) and shared point values with quality (R359). -/
structure PMap where
  tick : Nat
  present : List Nat
  sync : Nat
  holdEst : Nat
  goose : List GState := []
  expired : List Nat := []
  shared : List (Nat × Point) := []
  deriving DecidableEq, Repr

/-! ### Migration frames (chapter 9) -/

/-- The state of a publication as it is transferred (R245, R373): entry, stNum, sqNum, LAST_TAG, tick of the state, tick of its
first release and of the next one, SYNC codes of t, member values. -/
structure PubState where
  idx : Nat
  stNum : Nat
  sqNum : Nat
  lastTag : Word
  tick : Nat
  utc : Nat
  relTick : Nat
  next : Nat
  syncs : List Nat
  last : List (Nat × Nat)
  deriving DecidableEq, Repr

/-- A migration frame (R245). Its header: session, KIND (1 PAGE, 2 POINTS, 3 STATE, 4 END, 5 ACK, 6 ABORT), SWITCH_TAG, SEQ, page
address, the count of END. What its payload spells in plain text: page bytes, point writes, ring pointers (local pair: transmit head and
tail, receive head and tail), OVR_RUN and publication states. What follows the header on the wire: the encrypted payload and the tag. -/
structure MigMsg where
  session : Nat
  kind : Nat
  switch : Word
  seq : Nat := 0
  addr : Nat := 0
  data : List Nat := []
  points : List (Nat × Point) := []
  rings : List (Nat × Nat × Nat × Nat × Nat) := []
  ovr : Nat := 0
  pubs : List PubState := []
  count : Nat := 0
  cipher : List Nat := []
  mac : List Nat := []
  deriving DecidableEq, Repr

/-! ### Safety terminals (chapter 12) -/

/-- What one safety channel reads in a safety cycle (R294, R295, R304, R305, R309): the terminals SIA0 to SIA15, SIB0 to SIB15
and EDM0 to EDM7 that read closed (bit n), VFIELD in mV, the outputs whose test of this channel's switch in this cycle
reads back wrong, and whether the other channel's exchange arrived. -/
structure HwsRead where
  sia : Nat := 0
  sib : Nat := 0
  edm : Nat := 0
  vfield : Nat := 24000
  sw : Nat := 0
  heard : Bool := true
  deriving DecidableEq, Repr

/-! ### Frames of the duplex pair (chapter 15) -/

/-- A SYNC frame (R356): heartbeat of a cycle with PREFERRED (log 80), hash with NOCMP, control fields of resynchronisation and swap, injections
(tag, point, value, quality), deck sequence numbers, beacon address, mirror length and CRC-64. -/
structure SyncMsg where
  cyc : Nat
  side : Bool
  state : Nat
  active : Bool
  configId : Nat
  preferred : Bool := false
  hash : Nat
  nocmp : Bool
  resyncReq : Bool := false
  resyncTag : Option Nat := none
  swapReq : Bool := false
  swapTag : Option Nat := none
  ackTag : Option Nat := none
  confirmTag : Option Nat := none
  inj : List (Nat × Nat × Nat × Nat) := []
  ordSeq : Nat := 0
  privSeq : Nat := 0
  beacon : Nat := 0
  mirLen : Nat := 0
  mirCrc : Nat := 0
  deriving DecidableEq, Repr

/-- A tracking reference as it is transferred (R148, R373). -/
structure RefState where
  engine : Nat
  ref : Nat
  active : Bool
  phi : Nat
  used : Nat
  freq : Nat
  periods : List Nat
  prev : Option Int
  lastCross : Option Nat
  seen : Nat
  outIdx : Nat
  good : Nat
  lost : Bool
  deriving DecidableEq, Repr

/-- A subscription as it is transferred (R373). -/
structure SubState where
  idx : Nat
  stNum : Nat
  sqNum : Nat
  deadline : Nat
  state : Nat
  deriving DecidableEq, Repr

/-- A running tally point as it is transferred (R373): TOT, ACC, the current interval (valid, flags, SEQ, START_SEC, TICKS,
MISSING, GATED, totals at its start), open creep gates. -/
structure TalState where
  engine : Nat
  point : Nat
  tot : List Nat
  acc : List Nat
  ivl : List Nat
  start : List Nat
  gates : List Bool
  deriving DecidableEq, Repr

/-- State transferred to a joining module (R373): references, publications, subscriptions, tally points of an engine, and
pulse outputs (output, BACKLOG, FRAC); `engine` names the engine whose references or points these are. -/
structure RStateMsg where
  engine : Option Nat := none
  refs : List RefState := []
  pubs : List PubState := []
  subs : List SubState := []
  points : List TalState := []
  pulses : List (Nat × Nat × Nat) := []
  /-- The last frame of this group. -/
  last : Bool := true
  deriving DecidableEq, Repr

/-! ### Window frames and module health (chapter 19) -/

/-- What an ANNOUNCE carries beside slot and shelf (R447): role, DEVICE_ID, SYS_ID, SYS_STATUS, the twelve capacities, PWR_CYCLES,
RST_CAUSE, HLT_EOL_DAYS and HLT_EOL_INFO. -/
structure Announce where
  mgr : Bool
  deviceId : List Nat
  sysId : Nat
  sysStatus : Nat
  caps : List Nat
  cycles : Nat
  cause : Nat
  eolDays : Nat
  eolInfo : Nat
  deriving DecidableEq, Repr

/-- One entry of a WRITE or READ frame (R451, R454): an access by register address, or a bad access (R30). -/
inductive WinOp
  | write (addr data : Nat)
  | read (addr : Nat)
  | bad (addr : Nat) (wr : Bool)
  deriving DecidableEq, Repr

/-- The kinds of window frames (R447, R452 to R455). -/
inductive WinKind
  | announce (a : Announce)
  | req (seq : Nat) (ops : List WinOp)
  | resp (seq : Nat) (data : List Nat)
  | intr (idx : Nat)
  deriving DecidableEq, Repr

/-- A window frame: its shelf field, the slot that sent it and the slot it is for. -/
structure WinMsg where
  shelf : Nat
  src : Nat
  dst : Nat
  kind : WinKind
  deriving DecidableEq, Repr

/-- One doubleword of a host memory request (R451): whether all byte enables are set, and the data of a write. -/
structure HostDw where
  full : Bool := true
  data : Nat := 0
  deriving DecidableEq, Repr

/-- A read of an SFP's diagnostics (R456): no module, a module without SFF-8472 diagnostics, a read that failed, or the serial
number, the powers in 0.1 µW, the low-warning threshold of the transmit power, and whether an alarm flag is set. -/
inductive SfpRead
  | absent
  | noDiag
  | failed
  | ok (serial tx rx lowWarn : Nat) (alarm : Bool)
  deriving DecidableEq, Repr

/-! ### Start-up (chapter 18) -/

/-- What a power-on reset finds (R25, R382, R398, R424, R445, R466): raw bit-error rate of the PUF read in 0.1 %, whether the check
of the reconstruction passed, pages of units whose self-test fails, DRAM words that read back uncorrectable after the fill, whether
VAUX is present, and the straps as they read. -/
structure StartUp where
  pufErr : Nat := 0
  pufOk : Bool := true
  failed : List Nat := []
  badWords : List Nat := []
  vaux : Bool := true
  slot : Nat := 63
  shelf : Nat := 63
  mgr : Bool := false
  sideB : Bool := false
  deriving DecidableEq, Repr

/-! ### The frame -/

/-- What a frame carries beyond its addressing, in the form the block that reads it needs. -/
inductive Body
  | raw (payload : List Byte)
  | pause (quanta : Nat)
  | control (opcode : Nat)
  | ptp (m : PtpMsg)
  | supervision (node : Nat)
  | sv (p : SvPdu)
  | map (m : PMap)
  | goose (p : GoosePdu)
  | goosePub (p : GoosePub)
  | mig (m : MigMsg)
  | sync (m : SyncMsg)
  | mirror (cyc : Nat) (data : List Nat)
  | rstate (tick : Nat) (m : RStateMsg)
  | window (m : WinMsg)
  deriving DecidableEq, Repr, Inhabited

/-- An Ethernet frame as a port receives or sends it: addresses, VLAN tag (PCP, VID), EtherType after any tag, APPID
(SV and GOOSE, R79), size in bytes as R9 counts it, whether the FCS is good, redundancy trailer or tag, SecTAG, body. -/
structure Frame where
  da : Nat
  sa : Nat
  vlan : Option (Nat × Nat) := none
  et : Nat
  appid : Nat := 0
  size : Nat
  fcsOk : Bool := true
  prp : Option PrpTag := none
  sec : Option SecTag := none
  body : Body := .raw []
  deriving DecidableEq, Repr

/-- A window that starts: its instance, and the addresses of task memory its tasks read in it (R384). -/
structure TaskWindow where
  inst : Nat
  reads : List Nat := []
  deriving DecidableEq, Repr

/-! ### The commands -/

/-- The commands of the module: one constructor for each row of the table of operations and events. -/
inductive Instr
  /-- BAD_ACCESS: A register access of wrong width or alignment, or to a reserved page or offset, performs no write, reads 0 and is counted in SYS_CNT_BAD_ACCESS. (R30) -/
  | badAccess (m a width : Nat) (wr : Bool)
  /-- REG_WRITE: A write to a register that has no row of its own is checked against range, lock, stopped-state and COMMIT_BUSY rules and then performed or refused. (R42) -/
  | regWrite (m a : Nat) (v : Word)
  /-- REG64_LOW_READ: A read of the low word of a 64-bit register latches the high word for the next read by the same master. (R31) -/
  | reg64LowRead (m a : Nat)
  /-- REG64_HIGH_WRITE: A write of the high word of a 64-bit register makes the register take the held low word and the high word together. (R31) -/
  | reg64HighWrite (m a : Nat) (v : Word)
  /-- RWS_WRITE: A write to an RWS register changes only the shadow, or is refused with COMMIT_BUSY while a COMMIT is pending. (R43) -/
  | rwsWrite (m a : Nat) (v : Word)
  /-- ENABLE: A CTRL write that changes ENABLE gates the block instance clock; clearing it stops a running instance at once and applies a pending COMMIT. (R487) -/
  | enable (m p : Nat) (v : Word)
  /-- SOFT_RESET: CTRL.SOFT_RESET stops the instance and returns configuration and header to reset values, keeping counters and fence state. (R38) -/
  | softReset (m p : Nat) (v : Word)
  /-- COMMIT: CTRL.COMMIT checks the whole shadow and either refuses it, makes it active at once, or sets COMMIT_PENDING until the safe boundary. (R44) -/
  | commit (m p : Nat) (v : Word)
  /-- COMMIT_APPLY: At the block's safe boundary a pending shadow becomes active in one step, COMMIT_PENDING clears, COMMIT_TAG is written and COMMIT_DONE is set. (R44) -/
  | commitApply (p : Nat)
  /-- STOP: CTRL.STOP stops the block instance at its safe boundary. (R37) -/
  | stop (m p : Nat) (v : Word)
  /-- START: CTRL.START checks and starts the block instance, refused with RANGE while ENABLE is 0. (R487) -/
  | start (m p : Nat) (v : Word)
  /-- CNT_SNAPSHOT: CTRL.CNT_SNAPSHOT copies every live counter of the page into the snapshot region in one clock and writes CNT_SNAP_TAG. (R50) -/
  | cntSnapshot (m p : Nat) (v : Word)
  /-- CNT_CLEAR: CTRL.CNT_CLEAR clears every counter of the page or multi-page block in one clock of its island. (R49) -/
  | cntClear (m p : Nat) (v : Word)
  /-- IRQ_STATUS_CLEAR: A W1C write of IRQ_STATUS clears bits and lowers the page line, so a new event raises it again. (R54) -/
  | irqStatusClear (m p : Nat) (v : Word)
  /-- IRQ_FORCE: A write of 1 to IRQ_FORCE sets that IRQ_STATUS bit exactly as the event would. (R52) -/
  | irqForce (m p : Nat) (v : Word)
  /-- IRQ_ROUTE_WRITE: A write of IRQ_ROUTE routes the page line to a vector, refused with NOT_OWNER on a VF page for a vector the VF does not own. (R55) -/
  | irqRouteWrite (m p : Nat) (v : Word)
  /-- LOCK: A write of LOCK advances or restarts the 0x5A5A, 0xA5A5 unlock sequence, or relocks the page with 0. (R48) -/
  | lockWrite (m p : Nat) (v : Word)
  /-- LOCK_TIMEOUT: One second after an unlock the page relocks by itself. (R48) -/
  | lockTimeout (p : Nat)
  /-- TBL_READ: TBL_UPDATE.OP = 1 reads an entry, or a segment of it from the entry buffer, into TBL_DATA. (R57) -/
  | tblRead (m p : Nat)
  /-- TBL_WRITE: TBL_UPDATE.OP = 2 writes TBL_DATA to an entry or adds a segment to an assembly, checked by the owning block, and sets BUSY. (R56) -/
  | tblWrite (m p : Nat)
  /-- TBL_OP_DONE: A table operation completes and BUSY clears, from which moment the entry governs later frames, samples and requests. (R58) -/
  | tblOpDone (p : Nat)
  /-- UNIT_FENCE: A unit meets its fault criterion or fails self-test and is fenced: STATUS.FENCED, SYS DEGRADED, SYS_CAP reduced, its work treated under R27, then a deck record. (R25) -/
  | unitFence (p : Nat)
  /-- MODULE_FAIL: A non-fenceable unit fails: the module sets FAILED, stops publication and role-bound actions and writes a SYSTEM record of type 0x08. (R29) -/
  | moduleFail (p cause : Nat)
  /-- FRAME_RX: A frame received at a port is stamped, judged for size, FCS, control and VLAN, admitted to the Landing and, at its end, enqueued at every target or refused. (R67) -/
  | frameRx (p : Nat) (f : Frame)
  /-- PAUSE_EXPIRY: The pause quanta run out and the port resumes transmission. (R70) -/
  | pauseExpiry (p : Nat)
  /-- PAUSE_WDOG: Continuous paused time exceeds PAUSE_WDOG: the port resumes, counts and starts the holdoff. (R70) -/
  | pauseWdog (p : Nat)
  /-- PAUSE_HOLDOFF_END: PAUSE_HOLDOFF expires and received PAUSE frames are honoured again. (R70) -/
  | pauseHoldoffEnd (p : Nat)
  /-- H1_POST: A frame posted through H1 is classified and waits until enough Landing cells are free, then is written and enqueued. (R68) -/
  | h1Post
  /-- PORT_FRAME_SELECT: An idle egress port selects the highest open non-empty queue and starts a frame that fits the gate interval. (R72) -/
  | portFrameSelect (e : Nat)
  /-- FRAME_TX_DONE: A port has read a frame's last cell and sent it; the reference count falls and the transmit stamp is captured where requested. (R77) -/
  | frameTxDone (e : Nat)
  /-- LINK_UP: A port's link comes up and the port takes part in forwarding decisions again. (R76) -/
  | linkUp (p : Nat)
  /-- LINK_DOWN: A port's link goes down; it leaves every decision and its queued frames are discarded. (R76) -/
  | linkDown (p : Nat)
  /-- GATE_ENTRY_ADVANCE: A gate-list interval expires and the port's gates take the next entry's states. (R73) -/
  | gateEntryAdvance (e : Nat)
  /-- GATE_BANK_SWITCH: At the first cycle start after a commit the other gate-list bank becomes operating and GATE_SWITCH is set. (R73) -/
  | gateBankSwitch (e : Nat)
  /-- FDB_AGE_OUT: A dynamic FDB entry not refreshed for SWC_FDB_AGE seconds is removed. (R75) -/
  | fdbAgeOut (i : Nat)
  /-- DUP_ENTRY_FORGET: A duplicate entry that saw no frame for SWC_RED_FORGET ms is released. (R83) -/
  | dupEntryForget (i : Nat)
  /-- SUPERVISION_SEND: Every SWC_RED_LIFECHECK ms each active redundancy pair sends supervision frames. (R84) -/
  | supervisionSend (pair : Nat)
  /-- CAGE_SUPPLY_TRIP: An SFP cage draws over 400 mA for 10 ms, its supply switches off and its link is held down. (R469) -/
  | cageSupplyTrip (p : Nat)
  /-- MAC_TSF_POP: A write of MAC_TSF_POP removes the head entry of the transmit stamp FIFO. (R107) -/
  | macTsfPop (p : Nat)
  /-- TICK_START: The TSU issues the start of tick k with SEC and k to every island. (R95) -/
  | tickStart
  /-- TSU_ADJ_RATE: A write of TSU_ADJ_RATE sets the rate correction and restarts the discipline watchdog in LOCKED. (R96) -/
  | tsuAdjRate (v : Word)
  /-- TSU_ADJ_PHASE: A write of TSU_ADJ_PHASE starts a slew of the offset, discarding any previous slew. (R97) -/
  | tsuAdjPhase (v : Word)
  /-- SLEW_DONE: The whole offset of a slew has been applied and SLEWING clears. (R97) -/
  | slewDone
  /-- LATCH: TSU_CMD.LATCH copies station time to the TSU_LAT_* registers in one clock. (R98) -/
  | latch
  /-- STEP: TSU_CMD.STEP sets station time, discards the slew, records skipped ticks and re-evaluates armed targets. (R98) -/
  | step
  /-- LOCKED: TSU_CMD.LOCKED moves the sync state to LOCKED and starts the discipline watchdog. (R99) -/
  | locked
  /-- HOLD: TSU_CMD.HOLD moves LOCKED to HOLDOVER with the rate frozen at the 16 s mean. (R99) -/
  | hold
  /-- RELEASE: TSU_CMD.RELEASE moves HOLDOVER or HOLD_EXCEEDED to UNLOCKED. (R99) -/
  | release
  /-- DISC_WDOG: The discipline watchdog expires in LOCKED and the state enters HOLDOVER by the watchdog. (R99) -/
  | discWdog
  /-- HOLD_UPDATE: Each second in holdover TSU_HOLD_ELAPSED and TSU_HOLD_EST are updated, entering HOLD_EXCEEDED when the limit is passed. (R101) -/
  | holdUpdate (dT : Int)
  /-- TO_EDGE: A time output reaches its target and gives a leading edge, or sets LATE if armed in the past. (R108) -/
  | toEdge (n : Nat)
  /-- TO_PULSE_END: WIDTH passes after a time-output edge and the pulse ends; ONCE clears ARMED. (R108) -/
  | toPulseEnd (n : Nat)
  /-- TI_EDGE: A selected edge on a capture input is captured with full time and FRAC into its FIFO, or lost and counted. (R110) -/
  | tiEdge (n : Nat) (falling : Bool) (width : Nat)
  /-- TSU_TI_POP: A write of TSU_TI_POP removes the head entry of the named capture FIFO. (R110) -/
  | tsuTiPop (v : Word)
  /-- TC_SYNC_ENTRY_RELEASE: A two-step Sync entry of the transparent clock is released 100 ms after its Sync. (R105) -/
  | tcSyncEntryRelease
  /-- SV_FRAME_DECODE: An SV frame from an ingest lane is matched, checked, authenticated and its samples placed on the grid or discarded. (R116) -/
  | svFrameDecode (lane : Nat)
  /-- SVA_STR_POP: A write of SVA_STR_POP removes the oldest stranger entry. (R136) -/
  | svaStrPop
  /-- TICK_CLOSE: At tick start plus CLOSE_DELAY the plane freezes the tick, sends its presence map when paired, and makes it final at once on a single module. (R125) -/
  | tickClose
  /-- PARTNER_MAP_RX: A partner MAP frame arrives; its presence map is held or completes the agreed close of its tick. (R128) -/
  | partnerMapRx
  /-- AGREE_WAIT_EXPIRY: No partner map arrived by close + AGREE_WAIT, so the tick closes solo on its own map. (R129) -/
  | agreeWaitExpiry
  /-- FLT_TICK_RUN: An engine runs its chains over a final tick once the plane completed it and its previous run ended, advancing references and writing outputs. (R157) -/
  | fltTickRun (e : Nat)
  /-- FLT_CHAIN_START: FLT_CHAIN_CMD START checks and starts a chain, activating a pending reference COMMIT. (R159) -/
  | fltChainStart (e c : Nat)
  /-- FLT_CHAIN_STOP: FLT_CHAIN_CMD STOP stops a chain at the end of the current tick run. (R159) -/
  | fltChainStop (e c : Nat)
  /-- CLEAR_SAT: FLT_CHAIN_CMD CLEAR_SAT clears a chain's sticky SAT flag. (R141) -/
  | clearSat (e c : Nat)
  /-- FLT_REF_CMD: A write of FLT_REF_CMD copies a tracking reference's state from another engine at the start of the next run. (R149) -/
  | fltRefCmd (e : Nat) (v : Word)
  /-- FLT_EVT_POP: A write of FLT_EVT_POP removes the head entry of the engine event FIFO. (R152) -/
  | fltEvtPop (e : Nat)
  /-- ADC_SCAN_START: SCAN_OFFSET after a tick start a running converter begins its scan of slots. (R169) -/
  | adcScanStart (c : Nat) (temp : Int)
  /-- ADC_CONVERSION_DONE: A conversion ends; slot results are reported to the process image, ADC_DATA, window comparator and autorange. (R169) -/
  | adcConversionDone (c : Nat) (raw : Int)
  /-- SHUNT_TRIP: Shunt voltage above 1.6 V opens the current-mode shunt within 10 µs. (R168) -/
  | shuntTrip (a : Nat)
  /-- SHUNT_CLOSE: ADC_CMD.SHUNT_CLOSE recloses an open shunt. (R168) -/
  | shuntClose (c : Nat)
  /-- URGENT: ADC_CMD.URGENT requests one urgent conversion after the one in progress, merged if one waits. (R173) -/
  | urgent (c : Nat)
  /-- CAL: ADC_CMD.CAL starts calibration of a stopped converter. (R177) -/
  | cal (c : Nat)
  /-- CAL_DONE: Calibration ends, stores offsets, gains and temperature and sets CAL_VALID. (R177) -/
  | calDone (c : Nat) (offs gains : List Int) (temp : Int)
  /-- ADC_DATA_READ: A read of ADC_DATA returns the value, clears VALID and OVR and latches info and stamp. (R174) -/
  | adcDataRead (c : Nat)
  /-- CYCLE_START: At boundary B_j outputs of the previous cycle are released and cycle j starts if its tokens have arrived. (R182) -/
  | cycleStart
  /-- SNAP_WAIT_END: The missing tick-frozen or filter-done token arrives and the delayed cycle's windows start. (R184) -/
  | snapWaitEnd
  /-- WINDOW_START: An instance's window starts and it runs its error task, overrun continuation and due tasks. (R188) -/
  | windowStart (w : TaskWindow)
  /-- WINDOW_END: An instance's window expires and a task still running is suspended. (R189) -/
  | windowEnd (i : Nat)
  /-- ACTIVATION_END: A task activation finishes or a TC7 task yields. (R189) -/
  | activationEnd (i cls : Nat)
  /-- POINT_WRITE: An instance stages a point write, refused outside its ranges or beyond its quota. (R196) -/
  | pointWrite (i cls p value qual : Nat) (keep : Option Nat)
  /-- KERF_START: The kerf starts at B_(j+1) − K: forces, image commit, hash, GOOSE assembly and on-line change steps run. (R186) -/
  | kerfStart (used : Nat)
  /-- PI_READ: CYC_PI_CMD OP = 1 reads a committed point and its directory entry. (R198) -/
  | piRead
  /-- PI_WRITE: CYC_PI_CMD OP = 2 stages a point write as instance 0. (R198) -/
  | piWrite (keep : Bool)
  /-- PI_DIRECTORY_WRITE: CYC_PI_CMD OP = 3 writes a point's directory entry outside write ranges. (R198) -/
  | piDirectoryWrite
  /-- INST_START: CYC_INST_CMD START starts an instance at the first boundary at least 1 µs later. (R219) -/
  | instStart (i : Nat)
  /-- INST_STOP: CYC_INST_CMD STOP aborts activations and applies safe values in the next kerf. (R219) -/
  | instStop (i : Nat)
  /-- RESTART: CYC_INST_CMD RESTART clears OVR_RUN and lets a faulted instance run from the next cycle. (R191) -/
  | restart (i : Nat)
  /-- PREPARE: CYC_OLC_CMD PREPARE matches the symbol tables of the active and new banks. (R205) -/
  | prepare (m : Nat) (v : Word)
  /-- PREPARE_DONE: Symbol matching completes and the change becomes PREPARED with its counts. (R205) -/
  | prepareDone
  /-- ARM: CYC_OLC_CMD ARM arms the change at SWITCH_TAG, refused with OLC_LATE if too late. (R206) -/
  | arm
  /-- ABORT: CYC_OLC_CMD ABORT returns a PREPARED or ARMED change to IDLE. (R206) -/
  | abort
  /-- OLC_RELEASE: CYC_OLC_CMD RELEASE frees the old bank after DONE. (R206) -/
  | olcRelease
  /-- OLC_HELD_CYCLE_END: After a large carry the copy ends and steps 6 to 8 run in the kerf of SWITCH_TAG. (R210) -/
  | olcHeldCycleEnd
  /-- GOOSE_RX: A GOOSE frame at H1 is matched and checked, and handled as new state, repeat or duplicate. (R212) -/
  | gooseRx
  /-- GOOSE_EXPIRED: A subscription's deadline passes and its member points turn invalid and oldData. (R212) -/
  | gooseExpired (n : Nat)
  /-- RING_TAIL_WRITE: A write of a ring tail posts descriptors, refused whole if occupancy would exceed the limit. (R226) -/
  | ringTailWrite (f l d v : Nat)
  /-- DESCRIPTOR_FETCH: The VFM fetches a posted descriptor and its skidder issues requests by deficit round robin after window checks. (R231) -/
  | descriptorFetch (q : Nat)
  /-- SKIDDER_RETURN: Read data returns or a write is accepted by memory, retiring a tag or slot. (R231) -/
  | skidderReturn (k i : Nat)
  /-- DESCRIPTOR_COMPLETE: A descriptor completes with its status, DONE written last, and the ring continues or stops. (R228) -/
  | descriptorComplete (ring : Nat)
  /-- H1_RX_DELIVER: A frame delivered to H1 goes to GOOSE, PTP, migration or the rings named by its RSEL. (R230) -/
  | h1RxDeliver
  /-- ITR_EXPIRY: The moderation interval of a ring route ends and merged events send a message. (R238) -/
  | itrExpiry (f l : Nat)
  /-- RESET_DRAIN: VFM_VF_CMD RESET_DRAIN resets a VF, letting its issued requests complete. (R239) -/
  | resetDrain (f : Nat)
  /-- RESET_SQUASH: VFM_VF_CMD RESET_SQUASH resets a VF, discarding its requests. (R239) -/
  | resetSquash (f : Nat)
  /-- RESET_TAG_TIMEOUT: 48 µs into a reset any tag or slot of the VF still held is retired as squashed. (R239) -/
  | resetTagTimeout (f : Nat)
  /-- RESET_DONE: The VF's last tag retires, rings are cleared and RESET_STATE becomes DONE. (R239) -/
  | resetDone (f : Nat)
  /-- SWAP_LOG: VFM_VF_CMD SWAP_LOG makes the other dirty bitmap active. (R243) -/
  | swapLog (f : Nat)
  /-- SWAP_LOG_DONE: Every write issued before the swap is marked and SWAP_BUSY clears. (R243) -/
  | swapLogDone (f : Nat)
  /-- MIG_ARM: VFM_VF_CMD MIG_ARM arms a migration as source or destination. (R244) -/
  | migArm (f : Nat)
  /-- MIG_ABORT: VFM_VF_CMD MIG_ABORT aborts the move on that side. (R246) -/
  | migAbort (f : Nat)
  /-- QP_RESTART: VFM_QP_CMD RESTART clears a stopped ring's pointers and STOPPED. (R228) -/
  | qpRestart (q : Nat)
  /-- QP_STOP: VFM_QP_CMD STOP drains one queue pair alone. (R228) -/
  | qpStop (q : Nat)
  /-- MIG_FREEZE: The source VF freezes at the end of its last activation of S − 1 and sends PAGE, POINTS, STATE and END frames. (R245) -/
  | migFreeze (f : Nat)
  /-- MIG_FRAME_RX: The destination stages a migration frame and, when complete, becomes STAGED and sends ACK. (R246) -/
  | migFrameRx
  /-- MIG_DEADLINE: Deadline D passes without STAGED and the destination sends ABORT and returns to IDLE. (R246) -/
  | migDeadline (f : Nat)
  /-- MIG_ACK_RX: The source receives ACK and commits, or sends ABORT if its kerf has started. (R246) -/
  | migAckRx
  /-- MIG_ABORT_RX: An ABORT frame aborts the move, undoing a destination commit. (R246) -/
  | migAbortRx
  /-- TAL_TICK_RUN: A tally engine runs every running point's program over a final tick, serving pulse outputs and saves. (R253) -/
  | talTickRun (e : Nat)
  /-- SAVE_WRITE_DONE: A save has been written to MRAM with the Blaze last. (R286) -/
  | saveWriteDone (e : Nat)
  /-- TAL_POINT_START: TAL_PT_CMD START checks and starts a point from the next tick. (R271) -/
  | talPointStart (e l : Nat)
  /-- TAL_POINT_STOP: TAL_PT_CMD STOP stops a point at the end of the current run. (R271) -/
  | talPointStop (e l : Nat)
  /-- TAL_CLEAR_SAT: TAL_PT_CMD CLEAR_SAT clears a point's SAT flag. (R271) -/
  | talClearSat (e l : Nat)
  /-- SAVE_NOW: TAL_SAVE_CMD SAVE_NOW makes a save at the end of the next run. (R291) -/
  | saveNow (e : Nat)
  /-- ZERO_POINT: TAL_SAVE_CMD ZERO_POINT clears totals, accumulators and interval of a stopped point. (R291) -/
  | zeroPoint (e l : Nat)
  /-- ACCEPT_EMPTY: TAL_SAVE_CMD ACCEPT_EMPTY zeroes an engine with no valid save and clears NO_VALID. (R291) -/
  | acceptEmpty (e : Nat)
  /-- DFO_PULSE_END: WIDTH expires and the pulse output opens its switch. (R280) -/
  | dfoPulseEnd (n : Nat)
  /-- SAFETY_CYCLE: Each 250 µs safety cycle samples inputs, latches requests, evaluates inputs and outputs and commands the switches. (R295) -/
  | safetyCycle (a b : HwsRead) (misaligned : Bool)
  /-- SAFETY_REQ_VECTOR: A GOOSE or instance request vector arrives at a safety channel and is merged if the FIFO is full. (R306) -/
  | safetyReqVector
  /-- OUTPUT_OVERLOAD: Load current above 0.7 A opens both switches within 100 µs and latches OVERLOAD. (R304) -/
  | outputOverload (n : Nat)
  /-- FAULT_ACK: HWS_CMD.FAULT_ACK clears EDM faults and OVERLOAD of the named outputs. (R303) -/
  | faultAck (out : Nat)
  /-- SAFETY_SELFTEST_DONE: The safety island completes its self-test after VMAIN is present. (R310) -/
  | safetySelftestDone
  /-- ACQ_TICK_BLOCK: Each set builds its block for tick k, evaluates triggers, writes the ring and staging. (R318) -/
  | acqTickBlock
  /-- CHOKE_STEP: Every 480 ticks the Choker raises or lowers λ by the staging backlog. (R328) -/
  | chokeStep
  /-- FLASH_UNIT_WRITE: The flusher writes a 1 MiB unit to the record store, freeing pre-extent blocks. (R327) -/
  | flashUnitWrite (u : Nat)
  /-- ACQ_SET_START: ACQ_SET_CMD START empties the ring and starts the set at the next tick. (R321) -/
  | acqSetStart (n : Nat)
  /-- ACQ_SET_STOP: ACQ_SET_CMD STOP stops the set at the end of the tick, closing an open record. (R321) -/
  | acqSetStop (n : Nat)
  /-- TRIGGER: ACQ_SET_CMD TRIGGER places a manual trigger at the present time. (R324) -/
  | trigger (n : Nat)
  /-- RESUME: ACQ_SET_CMD RESUME moves a FROZEN set to FILLING. (R321) -/
  | resume (n : Nat)
  /-- ACQ_XTRIG_CMD: A write of ACQ_XTRIG_CMD places a cross-module trigger at the written time in the named sets. (R324) -/
  | acqXtrigCmd (v : Word)
  /-- RESCAN: ACQ_CMD RESCAN scans unit headers and queues every unreleased record. (R330) -/
  | rescan
  /-- ACQ_REC_RELEASE: A write of ACQ_REC_RELEASE frees every unit of the named record. (R329) -/
  | acqRecRelease (v : Word)
  /-- ACQ_REC_POP: A write of ACQ_REC_POP removes the head entry of the record FIFO. (R330) -/
  | acqRecPop
  /-- EVR_POST: EVR_POST_CMD posts an ordinary record, checked and then read from memory. (R341) -/
  | evrPost (v : Word)
  /-- POST_DONE: The post body has been read and the record enters the buffer or folds. (R341) -/
  | postDone
  /-- HW_RECORD_SUBMIT: A hardware block hands a record to EVR; a privileged one enters the queue or waits. (R342) -/
  | hwRecordSubmit
  /-- PRIV_RECORD_WRITE: EVR writes a queued privileged record into MRAM with its Blaze last. (R347) -/
  | privRecordWrite
  /-- PRIV_LOSS_RECORD: When queue and area have room, EVR writes a SYSTEM type 0x05 record of records lost. (R348) -/
  | privLossRecord
  /-- PRIV_MIRROR: A valid privileged record is mirrored to flash within 10 ms in SEQ order. (R348) -/
  | privMirror
  /-- FLUSH: EVR_CMD.FLUSH starts a flush of the ordinary buffer. (R345) -/
  | flush
  /-- FLUSH_DONE: A flush ends and a further start condition may start another. (R345) -/
  | flushDone
  /-- EVR_PRIV_RELEASE: A write of EVR_PRIV_RELEASE lets mirror flash behind the SEQ be reused. (R348) -/
  | evrPrivRelease (v : Word)
  /-- DUP_SYNC_RX: A partner SYNC frame arrives with heartbeat, hash, control fields and injections. (R356) -/
  | dupSyncRx
  /-- MIRROR_RX: A MIRROR frame arrives and the STANDBY keeps the newest snapshot. (R363) -/
  | mirrorRx
  /-- RSTATE_RX: An RSTATE frame carries transferred state to a joining module. (R373) -/
  | rstateRx
  /-- CONFIG_DIVERGE: The partner's DUP_CONFIG_ID differs for 4,800 heartbeats and DIVERGE is raised with CONFIG. (R364) -/
  | configDiverge
  /-- PAIRING_TIMEOUT: Two seconds in PAIRING pass and the module decides its role by what it found. (R372) -/
  | pairingTimeout
  /-- RESYNC: DUP_CMD RESYNC requests resynchronisation from the ACTIVE module. (R373) -/
  | resync
  /-- SWAP: DUP_CMD SWAP on a SYNCED STANDBY requests the role change. (R374) -/
  | swap
  /-- TAKE: DUP_CMD TAKE in RECOVERY makes the module ACTIVE in SOLO. (R372) -/
  | take
  /-- PREFERRED_RETURN: A healthy PREFERRED STANDBY takes ACTIVE back after HOLDOFF seconds in NORMAL mode. (R374) -/
  | preferredReturn
  /-- GO: DUP_INJ_CMD GO tags a role-bound image write and sends it to the partner. (R360) -/
  | go
  /-- CRUISER_READ: The Cruiser reads a word in an idle cycle and handles it as a read. (R390) -/
  | cruiserRead (m : Nat)
  /-- PARTIAL_WRITE: A partial write is merged or refused according to what the word holds. (R385) -/
  | partialWrite (a : Nat) (bs : List Byte) (req idx : Nat)
  /-- LAP_WARN: A running lap exceeds its limit and LAP_WARN is set. (R391) -/
  | lapWarn (m : Nat)
  /-- MEM_INJ_CMD: A write of MEM_INJ_CMD inverts named bits of a stored word without new check bits. (R381) -/
  | memInjCmd (v : Word)
  /-- CLEAR_SAVED: MEM_CMD CLEAR_SAVED empties the saved remap list from the next power-on. (R389) -/
  | clearSaved
  /-- MEM_LOG_POP: A write of MEM_LOG_POP removes the head entry of the error log. (R387) -/
  | memLogPop
  /-- FLASH_WEAR: Flash wear reaches 90 % or spares run out and the controller warns or becomes read-only. (R394) -/
  | flashWear (used spare : Nat)
  /-- DERIVE: KSU OP DERIVE fills a slot from its parent or the root by the SP 800-108 KDF. (R404) -/
  | derive (slot : Nat)
  /-- STAGE: KSU OP STAGE reads key material into the slot's staging. (R407) -/
  | stage (slot : Nat)
  /-- VERIFY: KSU OP VERIFY compares the staged material's check value. (R407) -/
  | verify (slot : Nat)
  /-- KSU_COMMIT: KSU OP COMMIT makes verified staged material the slot's material. (R407) -/
  | ksuCommit (slot : Nat)
  /-- ABORT_STAGE: KSU OP ABORT_STAGE discards the staging. (R407) -/
  | abortStage (slot : Nat)
  /-- UNWRAP: KSU OP UNWRAP unwraps a key into a slot and re-parents it. (R410) -/
  | unwrap (slot parent : Nat)
  /-- MSG: KSU OP MSG checks an update message and installs a key or owner. (R409) -/
  | msg (slot : Nat)
  /-- INVALIDATE: KSU OP INVALIDATE zeroises a slot and orphans its descendants. (R413) -/
  | invalidate (slot : Nat)
  /-- SIGN: KSU OP SIGN signs a digest with an ECDSA slot. (R414) -/
  | sign (slot : Nat)
  /-- PUBKEY: KSU OP PUBKEY writes a public key to memory. (R414) -/
  | pubkey (slot arg : Nat)
  /-- SAVE_BLOB: KSU OP SAVE_BLOB writes a storage blob and clears UNSAVED. (R411) -/
  | saveBlob (slot : Nat)
  /-- LOAD_BLOB: KSU OP LOAD_BLOB restores material if tag and GEN verify. (R411) -/
  | loadBlob (slot : Nat)
  /-- EXTEND: KSU OP EXTEND extends a measurement register with a digest. (R400) -/
  | extend (mr : Nat)
  /-- LOCK_MR: KSU OP LOCK_MR locks a measurement register against extension. (R400) -/
  | lockMr (mr : Nat)
  /-- RUN: KSU OP RUN ends start-up. (R416) -/
  | run
  /-- SET_OWNER: KSU OP SET_OWNER programs the first owner row. (R409) -/
  | setOwner
  /-- OP_DONE: A KSU operation completes, reports KSU_RESULT and sets OP_DONE. (R414) -/
  | opDone
  /-- TAMPER_DETECT: A tamper source is detected and the response of its class and the KSU state is taken. (R417) -/
  | tamperDetect (src value : Nat)
  /-- TAMPER_CLEAR: A tamper source returns to clear and an entry is recorded. (R418) -/
  | tamperClear (src value : Nat)
  /-- TAMPER_HOLD_END: One second after a soft source clears, KSU commands are accepted again. (R417) -/
  | tamperHoldEnd
  /-- ACK: TMP_CMD ACK clears SEEN, keeping the record. (R418) -/
  | ack
  /-- POWER_FAIL_WARNING: VMAIN low or EXT_PFW_N raises the warning and the flush order starts. (R428) -/
  | powerFailWarning (ext : Bool)
  /-- PFW_CLEARED: VMAIN stays above 17 V for 10 ms and the warning clears. (R428) -/
  | pfwCleared
  /-- FLUSH_END: The power-fail flush ends and the module resumes, warm-resets or sheds. (R431) -/
  | flushEnd
  /-- SHED_RECOVER: VMAIN returns for 100 ms while HELD and the module makes a power-on reset. (R431) -/
  | shedRecover (b : StartUp)
  /-- STORE_EMPTY: The hold-up store falls to 15 V and the module switches off. (R431) -/
  | storeEmpty
  /-- ABRUPT_LOSS: Supply is lost before the FINAL saves complete and PWR_LOSS_RTC is recorded. (R432) -/
  | abruptLoss (torn : Bool)
  /-- HOLDUP_READY: The store first reaches 44 V after a start; capacitance is measured. (R427) -/
  | holdupReady (chargeUs : Nat)
  /-- VAUX_LOW: VAUX falls below 2.7 V while VMAIN is present. (R425) -/
  | vauxLow
  /-- OVERTEMP_SHUTDOWN: A die reaches 125 °C and the module switches off. (R479) -/
  | overtempShutdown
  /-- POWER_ON_RESET: VMAIN qualified starts the power-on sequence: fill, keys, self-tests, restores and release of Vehus. (R436) -/
  | powerOnReset (b : StartUp)
  /-- WARM: RST_CMD WARM requests a warm reset after preparation. (R438) -/
  | warm
  /-- COLD: RST_CMD COLD requests a power-on reset after preparation. (R438) -/
  | cold
  /-- WARM_RESET: After preparation the warm reset is performed, keeping memory, time and safety island. (R439) -/
  | warmReset
  /-- RST_WDOG_KICK: A write of RST_WDOG_KICK restarts the timeout, or counts a bad kick. (R440) -/
  | rstWdogKick (v : Word)
  /-- WDOG_EXPIRY: TIMEOUT ms pass without a kick and a warm reset with cause WDOG follows. (R440) -/
  | wdogExpiry
  /-- BUTTON_PRESS: The button or RST_IN_N closed for 10 ms is recognised and requests a warm reset. (R441) -/
  | buttonPress (rstIn : Bool)
  /-- RESET_HOLD_RELEASE: Reset is released 2 s after recognition, latching STUCK if still closed. (R441) -/
  | resetHoldRelease
  /-- STUCK_CLEAR: A STUCK input seen open for 100 ms is heeded again. (R441) -/
  | stuckClear (rstIn : Bool)
  /-- PERST_N: PERST_N resets only the PCIe endpoint of the manager. (R438) -/
  | perstN
  /-- ANNOUNCE_SEND: Every 100 ms, or on a SYS change, the module sends an ANNOUNCE on P9. (R447) -/
  | announceSend
  /-- ANNOUNCE_RX: An ANNOUNCE updates the manager's slot table state. (R448) -/
  | announceRx
  /-- SLOT_LOST: No ANNOUNCE for LOSS_COUNT periods makes a PRESENT slot LOST. (R448) -/
  | slotLost (n : Nat)
  /-- SLOT_CONFLICT_END: No second DEVICE_ID for 1 s ends a CONFLICT slot. (R448) -/
  | slotConflictEnd (n : Nat)
  /-- MGR_TAKEOVER: The serving manager silent for LOSS_COUNT periods, the standby manager serves. (R449) -/
  | mgrTakeover
  /-- HOST_WINDOW_ACCESS: A host memory request is split into 32-bit accesses, performed locally or packed for a worker. (R451) -/
  | hostWindowAccess (bar tag addr : Nat) (wr : Bool) (dws : List HostDw)
  /-- WINDOW_FRAME_SEND: Packed writes are sent in a WRITE frame at 128 entries, a read, or 0.5 µs. (R452) -/
  | windowFrameSend (n : Nat)
  /-- WINDOW_FRAME_RX: A worker performs a WRITE or READ frame in sequence once and acknowledges it. (R454) -/
  | windowFrameRx
  /-- WINDOW_RESPONSE_RX: A worker's acknowledgement or read response reaches the manager and completes to the host. (R452) -/
  | windowResponseRx
  /-- WINDOW_RETRY_TIMEOUT: A frame unacknowledged for 20 µs is resent, and after RETRY tries the slot becomes LOST. (R454) -/
  | windowRetryTimeout (n : Nat)
  /-- WINDOW_READ_TIMEOUT: A read without response within RD_TIMEOUT completes with 0xFFFF_FFFF. (R453) -/
  | windowReadTimeout (n : Nat)
  /-- INTR_FRAME_RX: A worker's INTR frame raises its MSI-X entry on the manager. (R455) -/
  | intrFrameRx
  /-- FORGET: SHF_CMD FORGET returns a LOST slot to ABSENT. (R448) -/
  | forget (n : Nat)
  /-- ACK_RESET: SHF_CMD ACK_RESET clears RESET_SEEN for a slot. (R448) -/
  | ackReset (n : Nat)
  /-- HLT_SAMPLE: Every hour of OPTIME HLT samples its monitors and updates fits and days left. (R456) -/
  | hltSample (ro : List Nat) (sfp : List SfpRead)
  /-- HLT_RESTART: HLT_CMD RESTART restarts a monitor's fit. (R457) -/
  | hltRestart (i : Nat)
  /-- SO_REPLACED: HLT_CMD SO_REPLACED copies CNT_SO_OPSn to the base and restarts the contactor fit. (R457) -/
  | soReplaced (i : Nat)
  /-- MGR_LOST: A worker that has received no manager ANNOUNCE for LOSS_COUNT periods sets SHF_STATUS.MGR_LOST and IRQ_STATUS.MGR_LOST. (R449) -/
  | mgrLost
  /-- SFP_REFIT: An SFP removed and refitted in a cage whose supply tripped gets its cage supply back. (R469) -/
  | sfpRefit (p : Nat)
  /-- KEEP_ALIVE_OFF: VAUX is lost while the keep-alive island sleeps on it, and the island goes OFF, stopping the RTC and sleep tamper monitors. (R434) -/
  | keepAliveOff
  /-- VAUX_RETURN: VAUX is applied while VMAIN is absent and the keep-alive island leaves OFF for SLEEP. (R434) -/
  | vauxReturn
  /-- BUTTON_RELEASE: The reset button or RST_IN_N contact opens within 2 s of recognition and the asserted reset is released. (R441) -/
  | buttonRelease (rstIn : Bool)
  deriving DecidableEq, Repr

end Sys2Proof
end

