-- ==== Sys2Proof/WellFormed.lean ====
section
/-!
DEFINITION. Well-formed commands: every operand within the field that carries it, or the range of what it names.
-/
namespace Sys2Proof

/-- A master: 0 Vehus, 1 to 63 the software of a VF's instance, 64 the host window (R30, R224). -/
def isMaster (m : Nat) : Bool := decide (m ≤ 64)

/-- A page of the register region (R34). -/
def isPage (p : Nat) : Bool := decide (p < 2048)

/-- A 4-byte aligned address of the register region (R30, R33). -/
def isRegAddr (a : Nat) : Bool := decide (a < 0x00800000) && decide (a % 4 = 0)

/-- A frame's addresses, VLAN tag and EtherType fit their fields, and its size its ports (R9, R66). -/
def isFrame (f : Frame) : Bool :=
  decide (f.da < 2 ^ 48) && decide (f.sa < 2 ^ 48) && decide (f.et < 2 ^ 16) && decide (f.size < 2 ^ 16) &&
    (match f.vlan with | some (pcp, vid) => decide (pcp < 8) && decide (vid < 4096) | none => true)

/-- What a safety channel reads fits its terminals (R294). -/
def isRead (r : HwsRead) : Bool :=
  decide (r.sia < 2 ^ 16) && decide (r.sib < 2 ^ 16) && decide (r.edm < 2 ^ 8) && decide (r.sw < 2 ^ 8)

/-- What a start finds fits the straps and the PUF's error field (R398, R445). -/
def isStart (b : StartUp) : Bool :=
  decide (b.slot < 64) && decide (b.shelf < 64) && decide (b.pufErr ≤ 1000) && b.failed.all isPage

/-- A command's operands lie in their ranges. -/
def Instr.wf : Instr → Bool
  | .badAccess m _ width _ => isMaster m && decide (width ≠ 0)
  | .regWrite m a _ => isMaster m && isRegAddr a
  | .reg64LowRead m a => isMaster m && isRegAddr a
  | .reg64HighWrite m a _ => isMaster m && isRegAddr a
  | .rwsWrite m a _ => isMaster m && isRegAddr a
  | .enable m p _ => isMaster m && isPage p
  | .softReset m p _ => isMaster m && isPage p
  | .commit m p _ => isMaster m && isPage p
  | .commitApply p => isPage p
  | .stop m p _ => isMaster m && isPage p
  | .start m p _ => isMaster m && isPage p
  | .cntSnapshot m p _ => isMaster m && isPage p
  | .cntClear m p _ => isMaster m && isPage p
  | .irqStatusClear m p _ => isMaster m && isPage p
  | .irqForce m p _ => isMaster m && isPage p
  | .irqRouteWrite m p _ => isMaster m && isPage p
  | .lockWrite m p _ => isMaster m && isPage p
  | .lockTimeout p => isPage p
  | .tblRead m p => isMaster m && isPage p
  | .tblWrite m p => isMaster m && isPage p
  | .tblOpDone p => isPage p
  | .unitFence p => isPage p
  | .moduleFail p cause => isPage p && decide (cause < 256)
  | .frameRx p f => decide (p < 11) && isFrame f
  | .pauseExpiry p => decide (p < 10)
  | .pauseWdog p => decide (p < 10)
  | .pauseHoldoffEnd p => decide (p < 10)
  | .h1Post => true
  | .portFrameSelect e => decide (e < 12)
  | .frameTxDone e => decide (e < 12)
  | .linkUp p => decide (p < 10)
  | .linkDown p => decide (p < 10)
  | .gateEntryAdvance e => decide (e < 12)
  | .gateBankSwitch e => decide (e < 12)
  | .fdbAgeOut i => decide (i < 32768)
  | .dupEntryForget i => decide (i < 4096)
  | .supervisionSend pair => decide (pair < 4)
  | .cageSupplyTrip p => decide (p < 6)
  | .macTsfPop p => decide (p < 10)
  | .tickStart => true
  | .tsuAdjRate _ => true
  | .tsuAdjPhase _ => true
  | .slewDone => true
  | .latch => true
  | .step => true
  | .locked => true
  | .hold => true
  | .release => true
  | .discWdog => true
  | .holdUpdate _ => true
  | .toEdge n => decide (n < 4)
  | .toPulseEnd n => decide (n < 4)
  | .tiEdge n _ _ => decide (n < 4)
  | .tsuTiPop _ => true
  | .tcSyncEntryRelease => true
  | .svFrameDecode lane => decide (lane < 4)
  | .svaStrPop => true
  | .tickClose => true
  | .partnerMapRx => true
  | .agreeWaitExpiry => true
  | .fltTickRun e => decide (e < 64)
  | .fltChainStart e c => decide (e < 64) && decide (c < 128)
  | .fltChainStop e c => decide (e < 64) && decide (c < 128)
  | .clearSat e c => decide (e < 64) && decide (c < 128)
  | .fltRefCmd e _ => decide (e < 64)
  | .fltEvtPop e => decide (e < 64)
  | .adcScanStart c _ => decide (c < 2)
  | .adcConversionDone c _ => decide (c < 2)
  | .shuntTrip a => decide (a < 12)
  | .shuntClose c => decide (c < 2)
  | .urgent c => decide (c < 2)
  | .cal c => decide (c < 2)
  | .calDone c offs gains _ => decide (c < 2) && decide (offs.length = 5) && decide (gains.length = 5)
  | .adcDataRead c => decide (c < 2)
  | .cycleStart => true
  | .snapWaitEnd => true
  | .windowStart w => decide (w.inst < 64) && w.reads.all (fun a => decide (a < 2 ^ 40))
  | .windowEnd i => decide (i < 64)
  | .activationEnd i cls => decide (i < 64) && decide (cls < 9)
  | .pointWrite i cls p value qual _ => decide (i < 64) && decide (cls < 9) && decide (p < 2 ^ 20) && decide (value < 2 ^ 64) && decide (qual < 2 ^ 32)
  | .kerfStart _ => true
  | .piRead => true
  | .piWrite _ => true
  | .piDirectoryWrite => true
  | .instStart i => decide (i < 64)
  | .instStop i => decide (i < 64)
  | .restart i => decide (i < 64)
  | .prepare m _ => isMaster m
  | .prepareDone => true
  | .arm => true
  | .abort => true
  | .olcRelease => true
  | .olcHeldCycleEnd => true
  | .gooseRx => true
  | .gooseExpired n => decide (n < 1024)
  | .ringTailWrite f l d v => decide (f < 64) && decide (l < 8) && decide (d < 2) && decide (v < 4096)
  | .descriptorFetch q => decide (q < 256)
  | .skidderReturn k _ => decide (k < 16)
  | .descriptorComplete ring => decide (ring < 512)
  | .h1RxDeliver => true
  | .itrExpiry f l => decide (f < 64) && decide (l < 8)
  | .resetDrain f => decide (f < 64)
  | .resetSquash f => decide (f < 64)
  | .resetTagTimeout f => decide (f < 64)
  | .resetDone f => decide (f < 64)
  | .swapLog f => decide (f < 64)
  | .swapLogDone f => decide (f < 64)
  | .migArm f => decide (f < 64)
  | .migAbort f => decide (f < 64)
  | .qpRestart q => decide (q < 256)
  | .qpStop q => decide (q < 256)
  | .migFreeze f => decide (f < 64)
  | .migFrameRx => true
  | .migDeadline f => decide (f < 64)
  | .migAckRx => true
  | .migAbortRx => true
  | .talTickRun e => decide (e < 8)
  | .saveWriteDone e => decide (e < 8)
  | .talPointStart e l => decide (e < 8) && decide (l < 64)
  | .talPointStop e l => decide (e < 8) && decide (l < 64)
  | .talClearSat e l => decide (e < 8) && decide (l < 64)
  | .saveNow e => decide (e < 8)
  | .zeroPoint e l => decide (e < 8) && decide (l < 64)
  | .acceptEmpty e => decide (e < 8)
  | .dfoPulseEnd n => decide (n < 8)
  | .safetyCycle a b _ => isRead a && isRead b
  | .safetyReqVector => true
  | .outputOverload n => decide (n < 8)
  | .faultAck out => decide (out < 256)
  | .safetySelftestDone => true
  | .acqTickBlock => true
  | .chokeStep => true
  | .flashUnitWrite u => decide (u < 65536)
  | .acqSetStart n => decide (n < 4)
  | .acqSetStop n => decide (n < 4)
  | .trigger n => decide (n < 4)
  | .resume n => decide (n < 4)
  | .acqXtrigCmd _ => true
  | .rescan => true
  | .acqRecRelease _ => true
  | .acqRecPop => true
  | .evrPost _ => true
  | .postDone => true
  | .hwRecordSubmit => true
  | .privRecordWrite => true
  | .privLossRecord => true
  | .privMirror => true
  | .flush => true
  | .flushDone => true
  | .evrPrivRelease _ => true
  | .dupSyncRx => true
  | .mirrorRx => true
  | .rstateRx => true
  | .configDiverge => true
  | .pairingTimeout => true
  | .resync => true
  | .swap => true
  | .take => true
  | .preferredReturn => true
  | .go => true
  | .cruiserRead m => decide (m < 4)
  | .partialWrite a bs _ _ => decide (a < 2 ^ 40) && !bs.isEmpty && decide (bs.length ≤ 8)
  | .lapWarn m => decide (m < 4)
  | .memInjCmd _ => true
  | .clearSaved => true
  | .memLogPop => true
  | .flashWear used _ => decide (used ≤ 10000)
  | .derive slot => decide (slot < 256)
  | .stage slot => decide (slot < 256)
  | .verify slot => decide (slot < 256)
  | .ksuCommit slot => decide (slot < 256)
  | .abortStage slot => decide (slot < 256)
  | .unwrap slot parent => decide (slot < 256) && decide (parent < 256)
  | .msg slot => decide (slot < 256)
  | .invalidate slot => decide (slot < 256)
  | .sign slot => decide (slot < 256)
  | .pubkey slot arg => decide (slot < 256) && decide (arg < 256)
  | .saveBlob slot => decide (slot < 256)
  | .loadBlob slot => decide (slot < 256)
  | .extend mr => decide (mr < 256)
  | .lockMr mr => decide (mr < 256)
  | .run => true
  | .setOwner => true
  | .opDone => true
  | .tamperDetect src _ => decide (src < 6)
  | .tamperClear src _ => decide (src < 6)
  | .tamperHoldEnd => true
  | .ack => true
  | .powerFailWarning _ => true
  | .pfwCleared => true
  | .flushEnd => true
  | .shedRecover b => isStart b
  | .storeEmpty => true
  | .abruptLoss _ => true
  | .holdupReady _ => true
  | .vauxLow => true
  | .overtempShutdown => true
  | .powerOnReset b => isStart b
  | .warm => true
  | .cold => true
  | .warmReset => true
  | .rstWdogKick _ => true
  | .wdogExpiry => true
  | .buttonPress _ => true
  | .resetHoldRelease => true
  | .stuckClear _ => true
  | .perstN => true
  | .announceSend => true
  | .announceRx => true
  | .slotLost n => decide (n < 64)
  | .slotConflictEnd n => decide (n < 64)
  | .mgrTakeover => true
  | .hostWindowAccess bar _ addr _ dws => (bar == 0 || bar == 2) && decide (addr % 4 = 0) && !dws.isEmpty && dws.all (fun d => decide (d.data < 2 ^ 32))
  | .windowFrameSend n => decide (n < 64)
  | .windowFrameRx => true
  | .windowResponseRx => true
  | .windowRetryTimeout n => decide (n < 64)
  | .windowReadTimeout n => decide (n < 64)
  | .intrFrameRx => true
  | .forget n => decide (n < 64)
  | .ackReset n => decide (n < 64)
  | .hltSample ro sfp => decide (ro.length = 8) && decide (sfp.length = 6)
  | .hltRestart i => decide (i < 32)
  | .soReplaced i => decide (i < 32)
  | .mgrLost => true
  | .sfpRefit p => decide (p < 6)
  | .keepAliveOff => true
  | .vauxReturn => true
  | .buttonRelease _ => true

end Sys2Proof
end

