-- ==== Sys2Proof/Decode.lean ====
section
/-!
DEFINITION. Decoding. The module takes commands, and its table gives no row any bits, so no word spells a command.
-/
namespace Sys2Proof

/-- The command a word of `nbits` bits spells by the table's bits: the table of operations and events gives none. -/
def decodeTableWord (_nbits _w : Nat) : Option Instr := none

end Sys2Proof
end

