-- ==== Sys2Proof/Machine/Bits.lean ====
section
/-!
DEFINITION. Bit fields, signed readings, saturation and the sparse stores (sorted association lists with a default)
every block of the model works on.
-/
namespace Sys2Proof.Machine

/-! ### Fields of a register word (R9: bit range [msb:lsb], both ends inclusive) -/

/-- The word holding `n` modulo 2^32. -/
def w32 (n : Nat) : Word := BitVec.ofNat 32 n

/-- The field of `n` bits whose lowest bit is `lo`. -/
def fld (w : Word) (lo n : Nat) : Nat := (w.toNat >>> lo) % 2 ^ n

/-- Bit `i` of a word. -/
def bit (w : Word) (i : Nat) : Bool := w.toNat.testBit i

/-- One bit as a number. -/
def b2n (b : Bool) : Nat := if b then 1 else 0

/-- A word with the field of `n` bits at `lo` replaced by `v` (modulo 2^n). -/
def setFld (w : Word) (lo n v : Nat) : Word :=
  w32 ((w.toNat &&& (0xFFFFFFFF ^^^ ((2 ^ n - 1) <<< lo))) ||| ((v % 2 ^ n) <<< lo))

/-- A word with bit `i` set to `b`. -/
def setBit (w : Word) (i : Nat) (b : Bool) : Word := setFld w i 1 (b2n b)

/-- The field read as a two's complement number of `n` bits. -/
def sfld (w : Word) (lo n : Nat) : Int :=
  let v := fld w lo n
  if v < 2 ^ (n - 1) then (v : Int) else (v : Int) - 2 ^ n

/-- A natural number of `n` bits read as two's complement. -/
def toS (n v : Nat) : Int :=
  let v := v % 2 ^ n
  if v < 2 ^ (n - 1) then (v : Int) else (v : Int) - 2 ^ n

/-- An integer as the natural number of its `n`-bit two's complement form. -/
def ofS (n : Nat) (i : Int) : Nat := (i % (2 ^ n : Int)).toNat

/-- An integer as a 32-bit two's complement word. -/
def wS (i : Int) : Word := w32 (ofS 32 i)

/-- Saturation to a signed range of `n` bits: the value and whether it was changed. -/
def satS (n : Nat) (i : Int) : Int × Bool :=
  let hi : Int := 2 ^ (n - 1) - 1
  let lo : Int := -(2 ^ (n - 1))
  if i > hi then (hi, true) else if i < lo then (lo, true) else (i, false)

/-- The signed 32-bit difference `a - b` of two short stamps (R93, R94). -/
def diff32 (a b : Nat) : Int := toS 32 (ofS 32 ((a : Int) - (b : Int)))

/-- Ceiling of a division. -/
def cdiv (a b : Nat) : Nat := (a + b - 1) / b

/-! ### Sparse stores: sorted lists of key and value, no entry equal to the default -/

/-- The value at a key, the default where the store lists none. -/
def sget {β : Type} (d : β) (k : Nat) : List (Nat × β) → β
  | [] => d
  | (a, b) :: t => if a = k then b else sget d k t

/-- Put a value at a key, keeping the keys in rising order. -/
def sput {β : Type} (k : Nat) (v : β) : List (Nat × β) → List (Nat × β)
  | [] => [(k, v)]
  | (a, b) :: t =>
    if k < a then (k, v) :: (a, b) :: t
    else if a = k then (k, v) :: t
    else (a, b) :: sput k v t

/-- Remove a key. -/
def sdel {β : Type} (k : Nat) (m : List (Nat × β)) : List (Nat × β) := m.filter (fun e => e.1 != k)

/-- Set a key of a store whose default at that key is `d`: writing the default removes the entry. -/
def sset {β : Type} [DecidableEq β] (d : β) (k : Nat) (v : β) (m : List (Nat × β)) : List (Nat × β) :=
  if v = d then sdel k m else sput k v m

/-- Remove every key of the half-open range [lo, hi). -/
def sclear {β : Type} (lo hi : Nat) (m : List (Nat × β)) : List (Nat × β) :=
  m.filter (fun e => e.1 < lo || hi ≤ e.1)

/-- The canonical form of a store: keys strictly rising, no entry equal to its default. -/
def swf {β : Type} [DecidableEq β] (d : Nat → β) : List (Nat × β) → Bool
  | [] => true
  | [(a, b)] => decide (b ≠ d a)
  | (a, b) :: (a', b') :: t => decide (b ≠ d a) && decide (a < a') && swf d ((a', b') :: t)

/-- The first element that meets a test, with its place. -/
def findI {α : Type} (p : α → Bool) (l : List α) : Option (Nat × α) :=
  go 0 l
where
  go (n : Nat) : List α → Option (Nat × α)
    | [] => none
    | a :: t => if p a then some (n, a) else go (n + 1) t

/-- Apply a function `n` times along 0, 1, …, n-1. -/
def iter {σ : Type} (n : Nat) (f : Nat → σ → σ) (s : σ) : σ := (List.range n).foldl (fun s i => f i s) s

/-- A list of bytes cut or filled with zeros to a length. -/
def fit (n : Nat) (l : List Nat) : List Nat := (l ++ List.replicate n 0).take n

end Sys2Proof.Machine
end

