-- ==== Sys2Proof/Machine/Crc.lean ====
section
/-!
DEFINITION. The checks the spec names by their polynomials: CRC-16/CCITT-FALSE (R75), CRC-32C (R284) and CRC-64 (R361),
and the bytes of a number in wire order.
-/
namespace Sys2Proof.Machine

/-- The `n` low bytes of a number, most significant first (wire order). -/
def bytesBE (n v : Nat) : List Nat := (List.range n).map (fun i => v / 256 ^ (n - 1 - i) % 256)

/-- The `n` low bytes of a number, least significant first (memory order). -/
def bytesLE (n v : Nat) : List Nat := (List.range n).map (fun i => v / 256 ^ i % 256)

/-- The number a little-endian byte list spells. -/
def ofLE (l : List Nat) : Nat := l.foldr (fun b a => b % 256 + 256 * a) 0

/-- The number a big-endian byte list spells. -/
def ofBE (l : List Nat) : Nat := l.foldl (fun a b => a * 256 + b % 256) 0

/-- `n` shifts of an unreflected CRC register of width `w`. -/
def crcShift (w poly : Nat) : Nat → Nat → Nat
  | 0, c => c
  | n + 1, c => crcShift w poly n (if c.testBit (w - 1) then (c * 2 % 2 ^ w) ^^^ poly else c * 2 % 2 ^ w)

/-- `n` shifts of a reflected CRC register. -/
def crcShiftR (poly : Nat) : Nat → Nat → Nat
  | 0, c => c
  | n + 1, c => crcShiftR poly n (if c.testBit 0 then (c / 2) ^^^ poly else c / 2)

/-- CRC-16/CCITT-FALSE: polynomial 0x1021, initial value 0xFFFF, no reflection, no final XOR (R75). -/
def crc16 (bs : List Nat) : Nat := bs.foldl (fun c b => crcShift 16 0x1021 8 (c ^^^ (b % 256 * 256))) 0xFFFF

/-- CRC-32C: reflected polynomial 0x82F63B78, initial value and final XOR all ones. -/
def crc32c (bs : List Nat) : Nat :=
  (bs.foldl (fun c b => crcShiftR 0x82F63B78 8 (c ^^^ (b % 256))) 0xFFFFFFFF) ^^^ 0xFFFFFFFF

/-- CRC-64 with polynomial 0x42F0E1EBA9EA3693, initial value 0, no reflection, no final XOR (R361). -/
def crc64 (bs : List Nat) : Nat := bs.foldl (fun c b => crcShift 64 0x42F0E1EBA9EA3693 8 (c ^^^ (b % 256 * 2 ^ 56))) 0

end Sys2Proof.Machine
end

