-- ==== Sys2Proof/Config.lean ====
section
/-!
DEFINITION. What an implementation fixes and the spec does not give: free values and the cryptographic primitives and
secrets the spec names without withheld detail. Every constant here is opaque: nothing can be proved of its value.
-/
namespace Sys2Proof.Config

/-- A fresh 32-bit value the spec leaves open, by the model's free counter (log 2). -/
opaque freeWord : Nat → Word

/-- The MACsec integrity check value of a frame whose SecTAG carries ICV 0, under a key (R85: GCM-AES-256). -/
opaque macsecIcv : List Byte → Frame → Nat

/-- The IEC 62351-6 tag of an SV APDU without its tag: algorithm (1 HMAC-SHA-256, 2 AES-256-GMAC), bytes, key (R118). -/
opaque svTag : Nat → Nat → List Byte → SvPdu → List Byte

/-- The IEC 62351-6 tag of a GOOSE APDU without its tag: algorithm, bytes, key (R211). -/
opaque gooseTag : Nat → Nat → List Byte → GoosePdu → List Byte

/-- Wire bytes of a frame's body after its EtherType, in the encoding the standard of that EtherType gives (R227). -/
opaque bodyBytes : Body → List Nat

/-- The body that wire bytes spell under an EtherType (R227): the inverse reading of the same standards. -/
opaque bodyOf : Nat → List Nat → Body

/-- allData of a publication in its IEC 61850-8-1 encoding (R361): member types and values. -/
opaque allData : List (Nat × Nat) → List Nat

/-- A sample or value of a capture channel the spec states no value for (log 86). -/
opaque acqOpen : Nat → Word

/-- Where words the module's units read lie in memory (R379, R384; log 153): a channel of the plane history (place of the tick, channel),
a point of the process image, and the words of a frame's cell of the Landing (frame, cell). -/
opaque planeAt : Nat → Nat → Nat
opaque pointAt : Nat → Nat
opaque cellAt : Nat → Nat → Nat

/-- The value delivered with the poison response of the word at an address (R384; log 153). -/
opaque poisonVal : Nat → BitVec 64

/-- ENTRY_ACTIVE of the CYC pages, whose code the spec does not give (log 49). -/
opaque cycEntryActive : Nat

/-- The quality a QUALITY member at point 0 encodes, which has no point before it (log 143). -/
opaque noPointQual : Nat

/-- Gain and delay of a sensor table that a live write left with fewer than two points (log 71): sensor, temperature. -/
opaque sensorOpen : Nat → Int → Int × Int

/-! Cryptography the spec names by its standards, over byte lists, and the module's secrets (chapter 17). -/

/-- IV of a migration frame, whose header is given (R245; log 66). -/
opaque migIv : List Nat → List Nat

/-- Bytes of a STATE payload (R245; log 66): ring pointers, OVR_RUN, and each publication as a list of numbers. -/
opaque migState : List (Nat × Nat × Nat × Nat × Nat) → Nat → List (List Nat) → List Nat

/-- SHA-384. -/
opaque sha384 : List Nat → List Nat

/-- HMAC-SHA-384: key, message. -/
opaque hmac384 : List Nat → List Nat → List Nat

/-- The public key X ‖ Y of a P-384 private scalar. -/
opaque ecPub : List Nat → List Nat

/-- ECDSA P-384 signature r ‖ s: private scalar, digest, and the number of the random value drawn for it. -/
opaque ecdsaSign : List Nat → List Nat → Nat → List Nat

/-- Whether a signature verifies: public key, digest, signature. -/
opaque ecdsaVerify : List Nat → List Nat → List Nat → Bool

/-- ECDH shared secret of a private scalar and a public key. -/
opaque ecdh : List Nat → List Nat → List Nat

/-- AES-256-GCM: key, IV, additional data, plain text; cipher text and tag. -/
opaque gcmSeal : List Nat → List Nat → List Nat → List Nat → List Nat × List Nat

/-- AES-256-GCM opening: key, IV, additional data, cipher text, tag. -/
opaque gcmOpen : List Nat → List Nat → List Nat → List Nat → List Nat → Option (List Nat)

/-- RFC 3394 unwrap: key-encryption key, wrapped bytes. -/
opaque kwUnwrap : List Nat → List Nat → Option (List Nat)

/-- The 384-bit root secret the module's array and helper data give (R398). -/
opaque rootSecret : List Nat

/-- CONTEXT of the identity (0) and transport (1) key derivations (R399; log 90). -/
opaque pairContext : Nat → List Nat

/-- KAS as its n-th random draw gives it (R411). -/
opaque kasValue : Nat → List Nat

/-- Digest of the first-stage loader, with which the start sequence extends MR0 (R400; log 90). -/
opaque loaderDigest : List Nat

/-- The flash key of namespace 1 the start sequence places in slot 255 (R402; log 90). -/
opaque flashKey : List Byte

/-- Sundian's PCI vendor ID (R450), whose value the spec does not state. -/
opaque pciVendor : Nat

/-- First flash block of the event deck, a value of the module (R346, chapter 14; log 128). -/
opaque deckBase : Nat

/-- A measurement the spec gives a register for without a rule that fixes it (R442: 0 VMAIN, 1 VAUX, 2 store voltage, 3 input power), at
a clock of the time island (log 97). -/
opaque measured : Nat → Nat → Nat

end Sys2Proof.Config
end

