-- ==== Sys2Proof/Machine/RegMap.lean ====
section
/-!
DEFINITION. The register map: every register of every block page as the chapters give it (offset, access class of
R11, writable bits, reset value, protected bits of R48, ranges of R40 and R41). Offsets R36 and R56 define stand first.
-/
namespace Sys2Proof.Machine

/-- Access class of a register (R11); `cnt` is SAT (R49). -/
inductive Acc
  | ro | rw | rws | wo | w1c | cnt
  deriving DecidableEq, Repr

/-- A field with a documented range: bits [hi:lo], least and greatest value, whether the field is signed, whether a
value of 0 raises ZERO_FIELD (kind "0 invalid", R41) and whether 0 is allowed beside the range (kind "0 off"). -/
structure Rng where
  hi : Nat
  lo : Nat
  min : Int
  max : Int
  zeroBad : Bool := false
  zeroOff : Bool := false
  sgn : Bool := false
  deriving DecidableEq, Repr

/-- One row of a register map: `n` registers of one shape at `off`, `off + stride`, …; `wide` registers are 64 bits. -/
structure RegDef where
  off : Nat
  n : Nat
  stride : Nat
  acc : Acc
  wide : Bool
  mask : Nat
  maskHi : Nat
  rst : Nat
  prot : Nat
  rngs : List Rng
  deriving DecidableEq, Repr

/-! ### Offsets of the registers -/
namespace R

abbrev PAGE_ID : Nat := 0x000
abbrev PAGE_CAPS : Nat := 0x004
abbrev CTRL : Nat := 0x008
abbrev STATUS : Nat := 0x00C
abbrev IRQ_STATUS : Nat := 0x010
abbrev IRQ_ENABLE : Nat := 0x014
abbrev IRQ_FORCE : Nat := 0x018
abbrev ERR_CODE : Nat := 0x01C
abbrev LOCK : Nat := 0x020
abbrev IRQ_ROUTE : Nat := 0x024
abbrev CNT_SNAP_TAG : Nat := 0x028
abbrev COMMIT_TAG : Nat := 0x02C
abbrev TBL_ADDR : Nat := 0xC00
abbrev TBL_UPDATE : Nat := 0xC04
abbrev TBL_DATA : Nat := 0xC80
abbrev CNT_REFUSED : Nat := 0x800
abbrev CNT_CFG_ERR : Nat := 0x804
abbrev SYS_ID : Nat := 0x400
abbrev SYS_STATUS : Nat := 0x404
abbrev SYS_CAP_RT_PAIRS : Nat := 0x410
abbrev SYS_CAP_VF : Nat := 0x414
abbrev SYS_CAP_PORTS : Nat := 0x418
abbrev SYS_CAP_STREAMS : Nat := 0x41C
abbrev SYS_CAP_CHANNELS : Nat := 0x420
abbrev SYS_CAP_FLT_ENG : Nat := 0x424
abbrev SYS_CAP_FLT_CHAINS : Nat := 0x428
abbrev SYS_CAP_TAL : Nat := 0x42C
abbrev SYS_CAP_MTR_ELEC : Nat := 0x430
abbrev SYS_CAP_MTR_PROC : Nat := 0x434
abbrev SYS_CAP_SKD : Nat := 0x438
abbrev SYS_CAP_DRAM_GIB : Nat := 0x43C
abbrev SYS_CNT_BAD_ACCESS : Nat := 0x808
abbrev PWR_CFG : Nat := 0x040
abbrev PWR_STATUS : Nat := 0x400
abbrev PWR_VMAIN : Nat := 0x404
abbrev PWR_VAUX : Nat := 0x408
abbrev PWR_HOLDUP_V : Nat := 0x40C
abbrev PWR_HOLDUP_CAP : Nat := 0x410
abbrev PWR_POWER : Nat := 0x414
abbrev PWR_PF_TIME : Nat := 0x418
abbrev PWR_LOSS_RTC : Nat := 0x420
abbrev PWR_RTC : Nat := 0x428
abbrev PWR_CNT_PFW : Nat := 0x808
abbrev PWR_CNT_PF_CLEARED : Nat := 0x80C
abbrev PWR_CNT_SHED : Nat := 0x810
abbrev PWR_CNT_ABRUPT : Nat := 0x814
abbrev PWR_CNT_EXT_PFW : Nat := 0x818
abbrev RST_WDOG_CFG : Nat := 0x040
abbrev RST_CMD : Nat := 0x060
abbrev RST_WDOG_KICK : Nat := 0x064
abbrev RST_CAUSE : Nat := 0x400
abbrev RST_BUTTON : Nat := 0x404
abbrev RST_WDOG_LEFT : Nat := 0x408
abbrev RST_CNT_WARM : Nat := 0x808
abbrev RST_CNT_COLD : Nat := 0x80C
abbrev RST_CNT_WDOG : Nat := 0x810
abbrev RST_CNT_STUCK : Nat := 0x814
abbrev RST_CNT_BAD_KICK : Nat := 0x818
abbrev KSU_ADDR : Nat := 0x050
abbrev KSU_LEN : Nat := 0x058
abbrev KSU_CMD : Nat := 0x060
abbrev KSU_DATA : Nat := 0x080
abbrev KSU_STATUS : Nat := 0x400
abbrev KSU_RESULT : Nat := 0x404
abbrev KSU_PUF_ERR : Nat := 0x408
abbrev KSU_COUNTER : Nat := 0x410
abbrev KSU_ID : Nat := 0x440
abbrev KSU_CNT_DERIVE : Nat := 0x808
abbrev KSU_CNT_COMMIT : Nat := 0x80C
abbrev KSU_CNT_MSG_OK : Nat := 0x810
abbrev KSU_CNT_REPLAY : Nat := 0x814
abbrev KSU_CNT_MSG_BAD : Nat := 0x818
abbrev KSU_CNT_ORPHANED : Nat := 0x81C
abbrev KSU_CNT_ABORTED : Nat := 0x820
abbrev KSU_CNT_USE_REFUSED : Nat := 0x830
abbrev KSU_CNT_OPS : Nat := 0x840
abbrev TMP_CFG : Nat := 0x040
abbrev TMP_CMD : Nat := 0x050
abbrev TMP_STATUS : Nat := 0x400
abbrev TMP_REC_SEQ : Nat := 0x404
abbrev TMP_CNT_SRC : Nat := 0x808
abbrev MEM_CFG : Nat := 0x040
abbrev MEM_INJ_ADDR : Nat := 0x050
abbrev MEM_INJ_CMD : Nat := 0x058
abbrev MEM_CMD : Nat := 0x05C
abbrev MEM_STATUS : Nat := 0x400
abbrev MEM_REMAP_USED : Nat := 0x404
abbrev MEM_LOG_LEVEL : Nat := 0x408
abbrev MEM_LOG_POP : Nat := 0x40C
abbrev MEM_LOG_ADDR : Nat := 0x410
abbrev MEM_LOG_INFO : Nat := 0x418
abbrev MEM_LOG_TAG : Nat := 0x41C
abbrev MEM_FL_WEAR : Nat := 0x420
abbrev MEM_FL_SPARE : Nat := 0x424
abbrev MEM_CNT_CE_DRAM : Nat := 0x808
abbrev MEM_CNT_CE_SRAM : Nat := 0x80C
abbrev MEM_CNT_UE_DRAM : Nat := 0x810
abbrev MEM_CNT_UE_SRAM : Nat := 0x814
abbrev MEM_CNT_POISON_READ : Nat := 0x818
abbrev MEM_CNT_PW_MERGED : Nat := 0x81C
abbrev MEM_CNT_PW_REFUSED : Nat := 0x820
abbrev MEM_CNT_REMAP : Nat := 0x824
abbrev MEM_CNT_REMAP_FULL : Nat := 0x828
abbrev MEM_CNT_TRACK_FULL : Nat := 0x82C
abbrev MEM_CNT_LOG_LOST : Nat := 0x830
abbrev MEM_CNT_FL_READ_ERR : Nat := 0x834
abbrev MEM_CNT_FL_BYTES_WR : Nat := 0x840
abbrev MEM_CNT_FL_BYTES_RD : Nat := 0x848
abbrev CRU_CFG : Nat := 0x040
abbrev CRU_LAP_LIMIT_DRAM : Nat := 0x044
abbrev CRU_LAP_LIMIT_SRAM : Nat := 0x048
abbrev CRU_LAP_LAST : Nat := 0x400
abbrev CRU_LAP_MAX : Nat := 0x404
abbrev CRU_LAP_POS : Nat := 0x408
abbrev CRU_STATUS : Nat := 0x440
abbrev CRU_CNT_LAP_WARN : Nat := 0x808
abbrev CRU_CNT_SCRUB_CE : Nat := 0x80C
abbrev CRU_CNT_SCRUB_UE : Nat := 0x810
abbrev CRU_CNT_LAPS : Nat := 0x814
abbrev TSU_CFG : Nat := 0x040
abbrev TSU_DISC_WDOG : Nat := 0x044
abbrev TSU_HOLD_LIMIT : Nat := 0x048
abbrev TSU_SLEW_MAX : Nat := 0x04C
abbrev TSU_UTC_OFFSET : Nat := 0x050
abbrev TSU_PORT_ADJ : Nat := 0x060
abbrev TSU_TO_CTRL : Nat := 0x0A0
abbrev TSU_TO_START : Nat := 0x0A4
abbrev TSU_TO_PERIOD : Nat := 0x0A8
abbrev TSU_TO_WIDTH : Nat := 0x0AC
abbrev TSU_TI_CFG : Nat := 0x0E0
abbrev TSU_LINKDLY : Nat := 0x100
abbrev TSU_ADJ_RATE : Nat := 0x140
abbrev TSU_ADJ_PHASE : Nat := 0x144
abbrev TSU_SET_SEC : Nat := 0x148
abbrev TSU_SET_NS : Nat := 0x150
abbrev TSU_CMD : Nat := 0x154
abbrev TSU_STATE : Nat := 0x400
abbrev TSU_HOLD_ELAPSED : Nat := 0x404
abbrev TSU_HOLD_EST : Nat := 0x408
abbrev TSU_HOLD_BASE : Nat := 0x40C
abbrev TSU_HOLD_RATE : Nat := 0x410
abbrev TSU_HOLD_TEMPCO : Nat := 0x414
abbrev TSU_RATE_HELD : Nat := 0x418
abbrev TSU_TICK_GAP : Nat := 0x41C
abbrev TSU_LAT_SEC : Nat := 0x420
abbrev TSU_LAT_NS : Nat := 0x428
abbrev TSU_LAT_SHORT : Nat := 0x42C
abbrev TSU_LAT_TICK : Nat := 0x430
abbrev TSU_TI_SEC_LO : Nat := 0x440
abbrev TSU_TI_INFO : Nat := 0x444
abbrev TSU_TI_NS : Nat := 0x448
abbrev TSU_TI_LEVEL : Nat := 0x44C
abbrev TSU_TI_POP : Nat := 0x480
abbrev TSU_TO_STATUS : Nat := 0x484
abbrev TSU_CNT_STEP : Nat := 0x808
abbrev TSU_CNT_HOLDOVER : Nat := 0x80C
abbrev TSU_CNT_DISC_WDOG : Nat := 0x810
abbrev TSU_CNT_TO_LATE : Nat := 0x814
abbrev TSU_CNT_TI_OVF : Nat := 0x818
abbrev TSU_CNT_TICK_GAP : Nat := 0x828
abbrev TSU_CNT_TC_NO_MATCH : Nat := 0x82C
abbrev MAC_CFG : Nat := 0x040
abbrev MAC_MAX_LEN : Nat := 0x044
abbrev MAC_PAUSE : Nat := 0x048
abbrev MAC_ADDR_LO : Nat := 0x050
abbrev MAC_ADDR_HI : Nat := 0x054
abbrev MAC_VLAN : Nat := 0x058
abbrev MAC_SCI : Nat := 0x060
abbrev MAC_MACSEC_CFG : Nat := 0x068
abbrev MAC_REPLAY_WIN : Nat := 0x06C
abbrev MAC_PN_THRESH : Nat := 0x070
abbrev MAC_LINK : Nat := 0x400
abbrev MAC_TSF_LEVEL : Nat := 0x480
abbrev MAC_TSF_POP : Nat := 0x484
abbrev MAC_TSF_STAMP : Nat := 0x488
abbrev MAC_TSF_INFO : Nat := 0x48C
abbrev MAC_TSF_LAST_TAG : Nat := 0x490
abbrev MAC_CNT_RUNT : Nat := 0x808
abbrev MAC_CNT_FCS_ERR : Nat := 0x80C
abbrev MAC_CNT_OVERSIZE : Nat := 0x810
abbrev MAC_CNT_RX_OVF : Nat := 0x814
abbrev MAC_CNT_PAUSE_RX : Nat := 0x818
abbrev MAC_CNT_PAUSE_WDOG : Nat := 0x81C
abbrev MAC_CNT_CTRL_UNSUP : Nat := 0x820
abbrev MAC_CNT_MACSEC_NOTAG : Nat := 0x824
abbrev MAC_CNT_MACSEC_ICV_FAIL : Nat := 0x828
abbrev MAC_CNT_MACSEC_REPLAY : Nat := 0x82C
abbrev MAC_CNT_MACSEC_PN_EXH : Nat := 0x830
abbrev MAC_CNT_LINK_DOWN : Nat := 0x834
abbrev MAC_CNT_TS_DROP : Nat := 0x838
abbrev MAC_CNT_VLAN_DROP : Nat := 0x83C
abbrev MAC_CNT_RX_FRAMES : Nat := 0x840
abbrev MAC_CNT_RX_BYTES : Nat := 0x848
abbrev MAC_CNT_TX_FRAMES : Nat := 0x850
abbrev MAC_CNT_TX_BYTES : Nat := 0x858
abbrev SWC_CFG : Nat := 0x040
abbrev SWC_FDB_AGE : Nat := 0x044
abbrev SWC_PCP_MAP : Nat := 0x048
abbrev SWC_ET_CLASS : Nat := 0x050
abbrev SWC_LND_FREE : Nat := 0x400
abbrev SWC_LND_MIN_FREE : Nat := 0x404
abbrev SWC_FDB_USED : Nat := 0x408
abbrev SWC_CNT_UNK_DROP : Nat := 0x808
abbrev SWC_QLIM : Nat := 0x040
abbrev SWC_QAGE : Nat := 0x060
abbrev SWC_GATE_CTRL : Nat := 0x080
abbrev SWC_GATE_BASE_NS : Nat := 0x084
abbrev SWC_GATE_BASE_SEC : Nat := 0x088
abbrev SWC_GATE_CYCLE : Nat := 0x090
abbrev SWC_QDEPTH : Nat := 0x400
abbrev SWC_GATE_OPER : Nat := 0x420
abbrev SWCP_CNT_ENQ : Nat := 0x810
abbrev SWCP_CNT_DEQ : Nat := 0x814
abbrev SWCP_CNT_DROP_FULL : Nat := 0x818
abbrev SWCP_CNT_DROP_DOWN : Nat := 0x81C
abbrev SWCP_CNT_DROP_GATE : Nat := 0x820
abbrev SWCP_CNT_DROP_AGE : Nat := 0x824
abbrev SWCP_CNT_DROP_OVERSIZE : Nat := 0x828
abbrev SWC_RED_MODE : Nat := 0x040
abbrev SWC_RED_FORGET : Nat := 0x048
abbrev SWC_RED_LIFECHECK : Nat := 0x04C
abbrev SWC_RED_SUP_ADDR : Nat := 0x050
abbrev SWCR_CNT_DUP_DISCARD : Nat := 0x808
abbrev SWCR_CNT_OUT_OF_WINDOW : Nat := 0x818
abbrev SWCR_CNT_TRACK_REFUSED : Nat := 0x828
abbrev SWCR_CNT_HSR_OWN : Nat := 0x82C
abbrev SWC_HASH_CFG : Nat := 0x040
abbrev SWC_LAG_CFG : Nat := 0x044
abbrev SVA_CFG : Nat := 0x040
abbrev SVA_TICK_CFG : Nat := 0x044
abbrev SVA_AGREE_CFG : Nat := 0x048
abbrev SVA_TICK_STAT : Nat := 0x400
abbrev SVA_CLOSE_INFO : Nat := 0x404
abbrev SVA_SLOTS_USED : Nat := 0x408
abbrev SVA_CHANNELS_USED : Nat := 0x40C
abbrev SVA_CNT_NO_MATCH : Nat := 0x808
abbrev SVA_CNT_STRANGER_REFUSED : Nat := 0x80C
abbrev SVA_CNT_SOLO_TICKS : Nat := 0x810
abbrev SVA_CNT_AGREE_LATE : Nat := 0x814
abbrev SVA_CNT_ONE_SIDED : Nat := 0x818
abbrev SVA_CNT_SIM_DISCARD : Nat := 0x81C
abbrev SVA_CNT_FRAMES_IN : Nat := 0x840
abbrev SVA_MAP_OWN : Nat := 0x400
abbrev SVA_MAP_PARTNER : Nat := 0x440
abbrev SVA_MAP_AGREED : Nat := 0x480
abbrev SVA_STATE_MAP : Nat := 0x4C0
abbrev SVA_STR_HEAD : Nat := 0x400
abbrev SVA_STR_POP : Nat := 0x404
abbrev FLT_REF_CFG : Nat := 0x040
abbrev FLT_REF_FREQ : Nat := 0x050
abbrev FLT_LOAD : Nat := 0x400
abbrev FLT_RUN_TIME : Nat := 0x404
abbrev FLT_LAST_TICK : Nat := 0x408
abbrev FLT_REF_FREQ_ACT : Nat := 0x410
abbrev FLT_REF_PHASE : Nat := 0x420
abbrev FLT_REF_STATUS : Nat := 0x430
abbrev FLT_CHAIN_SEL : Nat := 0x440
abbrev FLT_CHAIN_DELAY : Nat := 0x444
abbrev FLT_CHAIN_SETTLE : Nat := 0x448
abbrev FLT_CHAIN_STAT : Nat := 0x44C
abbrev FLT_CHAIN_CMD : Nat := 0x460
abbrev FLT_REF_CMD : Nat := 0x464
abbrev FLT_EVT_LEVEL : Nat := 0x480
abbrev FLT_EVT_POP : Nat := 0x484
abbrev FLT_EVT_INFO : Nat := 0x488
abbrev FLT_EVT_TICK : Nat := 0x48C
abbrev FLT_EVT_I : Nat := 0x490
abbrev FLT_EVT_Q : Nat := 0x494
abbrev FLT_CNT_SAT : Nat := 0x808
abbrev FLT_CNT_EVT : Nat := 0x80C
abbrev FLT_CNT_EVT_LOST : Nat := 0x810
abbrev FLT_CNT_TRACK_LOST : Nat := 0x814
abbrev FLT_CNT_RUN_LATE : Nat := 0x818
abbrev ADC_CFG : Nat := 0x040
abbrev ADC_PLAUS_CFG : Nat := 0x044
abbrev ADC_PLAUS_TOL : Nat := 0x048
abbrev ADC_SLOT_CFG : Nat := 0x080
abbrev ADC_SLOT_PI : Nat := 0x084
abbrev ADC_SLOT_LOW : Nat := 0x088
abbrev ADC_SLOT_HIGH : Nat := 0x08C
abbrev ADC_STATUS : Nat := 0x400
abbrev ADC_DATA : Nat := 0x404
abbrev ADC_DATA_INFO : Nat := 0x408
abbrev ADC_DATA_STAMP : Nat := 0x40C
abbrev ADC_GAIN_ACT : Nat := 0x410
abbrev ADC_WIN_OUT : Nat := 0x418
abbrev ADC_WIN_EVT : Nat := 0x41C
abbrev ADC_CMD : Nat := 0x420
abbrev ADC_PLAUS_DIFF : Nat := 0x424
abbrev ADC_CAL_OFF : Nat := 0x440
abbrev ADC_CAL_GAIN : Nat := 0x460
abbrev ADC_CAL_TEMP : Nat := 0x480
abbrev ADC_CNT_OVERRUN : Nat := 0x808
abbrev ADC_CNT_CLIP : Nat := 0x80C
abbrev ADC_CNT_RANGE_SW : Nat := 0x810
abbrev ADC_CNT_URGENT : Nat := 0x814
abbrev ADC_CNT_URG_MERGED : Nat := 0x818
abbrev ADC_CNT_PLAUS : Nat := 0x81C
abbrev ADC_CNT_WIN_EVT : Nat := 0x820
abbrev ADC_CNT_SHUNT_TRIP : Nat := 0x824
abbrev ADC_CNT_CONV : Nat := 0x828
abbrev CYC_CFG : Nat := 0x040
abbrev CYC_PAIR_CFG : Nat := 0x044
abbrev CYC_INST_CMD : Nat := 0x050
abbrev CYC_OLC_INST : Nat := 0x060
abbrev CYC_OLC_TAG : Nat := 0x068
abbrev CYC_OLC_CMD : Nat := 0x06C
abbrev CYC_CYCLE_TAG : Nat := 0x400
abbrev CYC_KERF_USED : Nat := 0x404
abbrev CYC_KERF_MAX : Nat := 0x408
abbrev CYC_PI_PEAK : Nat := 0x40C
abbrev CYC_FORCES : Nat := 0x410
abbrev CYC_FAULT_MAP : Nat := 0x420
abbrev CYC_OLC_STATUS : Nat := 0x440
abbrev CYC_OLC_CARRY : Nat := 0x444
abbrev CYC_OLC_N_CARRIED : Nat := 0x448
abbrev CYC_OLC_N_NEW : Nat := 0x44C
abbrev CYC_OLC_N_DROPPED : Nat := 0x450
abbrev CYC_OLC_N_CHANGED : Nat := 0x454
abbrev CYC_SLACK_MIN0 : Nat := 0x400
abbrev CYC_SLACK_MIN1 : Nat := 0x404
abbrev CYC_BUDGET_SUM : Nat := 0x408
abbrev CYC_PI_INDEX : Nat := 0xD00
abbrev CYC_PI_CMD : Nat := 0xD04
abbrev CYC_PI_VALUE : Nat := 0xD08
abbrev CYC_PI_QUAL : Nat := 0xD10
abbrev CYC_PI_STAMP : Nat := 0xD14
abbrev CYC_PI_ID : Nat := 0xD18
abbrev CYC_PI_HASH : Nat := 0xD1C
abbrev CYC_CNT_OVERRUN : Nat := 0x808
abbrev CYC_CNT_FAULT : Nat := 0x80C
abbrev CYC_CNT_SNAP_WAIT : Nat := 0x810
abbrev CYC_CNT_QUOTA : Nat := 0x814
abbrev CYC_CNT_WR_DENIED : Nat := 0x818
abbrev CYC_CNT_FORCE_DROPPED : Nat := 0x81C
abbrev CYC_CNT_OLC : Nat := 0x820
abbrev CYC_CNT_OLC_HELD : Nat := 0x824
abbrev CYC_CNT_TICK_SKIPPED : Nat := 0x828
abbrev CYC_CNT_GOOSE_DUP : Nat := 0x82C
abbrev CYC_CNT_GOOSE_EXPIRED : Nat := 0x830
abbrev CYC_CNT_GOOSE_DEFER : Nat := 0x834
abbrev CYC_CNT_ERR_CALLS : Nat := 0x838
abbrev CYC_CNT_PUB_SENT : Nat := 0x840
abbrev CYCP_CNT_OVERRUN : Nat := 0x808
abbrev CYCP_CNT_BUDGET_EXCEED : Nat := 0x80C
abbrev CYCP_CNT_SKIPPED_ACT : Nat := 0x810
abbrev VFM_FN_CFG : Nat := 0x040
abbrev VFM_KERF_SKD : Nat := 0x050
abbrev VFM_QP_CMD : Nat := 0x058
abbrev VFM_QP_ROUTE : Nat := 0x060
abbrev VFM_QP_ITR : Nat := 0x080
abbrev VFM_DIRTY_CFG : Nat := 0x0A0
abbrev VFM_DIRTY_BASE0 : Nat := 0x0A8
abbrev VFM_DIRTY_BASE1 : Nat := 0x0B0
abbrev VFM_DIRTY_SIZE : Nat := 0x0B8
abbrev VFM_MIG_CFG : Nat := 0x0C0
abbrev VFM_MIG_TAG : Nat := 0x0C4
abbrev VFM_MIG_DA_LO : Nat := 0x0C8
abbrev VFM_MIG_DA_HI : Nat := 0x0CC
abbrev VFM_MIG_STAGE : Nat := 0x0D0
abbrev VFM_MIG_STAGE_SIZE : Nat := 0x0D8
abbrev VFM_MIG_SESSION : Nat := 0x0DC
abbrev VFM_VF_CMD : Nat := 0x100
abbrev VFM_QP_TX_TAIL : Nat := 0x400
abbrev VFM_QP_RX_TAIL : Nat := 0x404
abbrev VFM_QP_TX_HEAD : Nat := 0x408
abbrev VFM_QP_RX_HEAD : Nat := 0x40C
abbrev VFM_VF_STATUS : Nat := 0x480
abbrev VFM_RESET_TIME : Nat := 0x484
abbrev VFM_MIG_STATUS : Nat := 0x490
abbrev VFM_MIG_DELTA : Nat := 0x494
abbrev VFM_DIRTY_STATUS : Nat := 0x498
abbrev VFM_QP_EVT : Nat := 0x4A0
abbrev VFM_CNT_POST_REFUSED : Nat := 0x808
abbrev VFM_CNT_WINDOW : Nat := 0x80C
abbrev VFM_CNT_ZERO_LEN : Nat := 0x810
abbrev VFM_CNT_RX_NOBUF : Nat := 0x814
abbrev VFM_CNT_RX_TRUNC : Nat := 0x818
abbrev VFM_CNT_RESET : Nat := 0x81C
abbrev VFM_CNT_RX_FROZEN : Nat := 0x820
abbrev VFM_CNT_POISON : Nat := 0x824
abbrev VFM_CNT_MIG_ABORT : Nat := 0x828
abbrev VFM_CNT_MIG_BAD : Nat := 0x82C
abbrev VFM_CNT_DESC : Nat := 0x840
abbrev VFM_CNT_RX_FRAMES : Nat := 0x848
abbrev VFM_CNT_TX_FRAMES : Nat := 0x850
abbrev SKD_STATUS : Nat := 0x400
abbrev SKD_QP_COUNT : Nat := 0x404
abbrev SKD_PEAK : Nat := 0x408
abbrev SKD_KERF_LAST : Nat := 0x40C
abbrev SKD_CNT_SQUASHED : Nat := 0x808
abbrev SKD_CNT_TAG_FORCED : Nat := 0x80C
abbrev SKD_CNT_POISON : Nat := 0x810
abbrev SKD_CNT_MEM_ERR : Nat := 0x814
abbrev SKD_CNT_KERF_COPY : Nat := 0x818
abbrev SKD_CNT_OPS : Nat := 0x840
abbrev SKD_CNT_BYTES_RD : Nat := 0x848
abbrev SKD_CNT_BYTES_WR : Nat := 0x850
abbrev SKD_CNT_CUT : Nat := 0x858
abbrev TAL_CFG : Nat := 0x040
abbrev TAL_SAVE_CFG : Nat := 0x044
abbrev TAL_SAVE_CMD : Nat := 0x048
abbrev TAL_PT_CMD : Nat := 0x060
abbrev TAL_LOAD : Nat := 0x400
abbrev TAL_RUN_TIME : Nat := 0x404
abbrev TAL_LAST_TICK : Nat := 0x408
abbrev TAL_PI_LAG : Nat := 0x40C
abbrev TAL_INPUTS : Nat := 0x410
abbrev TAL_RUN_MAP : Nat := 0x418
abbrev TAL_SAT_MAP : Nat := 0x420
abbrev TAL_MISS_MAP : Nat := 0x428
abbrev TAL_SAVE_STATUS : Nat := 0x430
abbrev TAL_SAVE_SEQ : Nat := 0x434
abbrev TAL_SAVE_TAG : Nat := 0x438
abbrev TAL_SAVE_GAP : Nat := 0x43C
abbrev TAL_CNT_MISSING : Nat := 0x808
abbrev TAL_CNT_GATED : Nat := 0x80C
abbrev TAL_CNT_SAT : Nat := 0x810
abbrev TAL_CNT_CLAMP : Nat := 0x814
abbrev TAL_CNT_NEG : Nat := 0x818
abbrev TAL_CNT_RUN_LATE : Nat := 0x81C
abbrev TAL_CNT_IVL_CLOSED : Nat := 0x820
abbrev TAL_CNT_TEMP_DEFAULT : Nat := 0x824
abbrev TAL_CNT_SAVES : Nat := 0x828
abbrev TAL_CNT_SAVE_TORN : Nat := 0x82C
abbrev TAL_CNT_UNSAVED_GAP : Nat := 0x830
abbrev TAL_CNT_RUNS : Nat := 0x840
abbrev DFO_CFG : Nat := 0x040
abbrev DFO_CONST : Nat := 0x044
abbrev DFO_STATE : Nat := 0x400
abbrev DFO_OUT : Nat := 0x420
abbrev DFO_CNT_PULSE_LOST : Nat := 0x808
abbrev DFO_CNT_PULSES : Nat := 0x840
abbrev HWS_GEN_CFG : Nat := 0x040
abbrev HWS_CFG_CRC : Nat := 0x044
abbrev HWS_CFG_CONFIRM : Nat := 0x048
abbrev HWS_CMD : Nat := 0x050
abbrev HWS_STATUS : Nat := 0x400
abbrev HWS_IN_STATE : Nat := 0x404
abbrev HWS_IN_FILT : Nat := 0x408
abbrev HWS_OUT_STATE : Nat := 0x40C
abbrev HWS_REQ : Nat := 0x410
abbrev HWS_CFG_ACTIVE : Nat := 0x414
abbrev HWS_VFIELD : Nat := 0x418
abbrev HWS_CYCLE : Nat := 0x41C
abbrev HWS_LAST_TICK : Nat := 0x420
abbrev HWS_IN_DIAG : Nat := 0x440
abbrev HWS_OUT_DIAG : Nat := 0x480
abbrev HWS_CNT_DEMAND : Nat := 0x808
abbrev HWS_CNT_DISC_FAULT : Nat := 0x80C
abbrev HWS_CNT_TP_FAULT : Nat := 0x810
abbrev HWS_CNT_EDM_FAULT : Nat := 0x814
abbrev HWS_CNT_OUT_FAULT : Nat := 0x818
abbrev HWS_CNT_REQ_LOSS : Nat := 0x81C
abbrev HWS_CNT_TICK_LOST : Nat := 0x820
abbrev HWS_CNT_RESET_STUCK : Nat := 0x824
abbrev HWS_CNT_VFIELD_FAULT : Nat := 0x828
abbrev HWS_CNT_SYNC_FAULT : Nat := 0x82C
abbrev HWS_CNT_SO_OPS : Nat := 0x840
abbrev ACQ_CFG : Nat := 0x040
abbrev ACQ_XTRIG_SEC : Nat := 0x050
abbrev ACQ_XTRIG_NS : Nat := 0x058
abbrev ACQ_XTRIG_CMD : Nat := 0x05C
abbrev ACQ_CMD : Nat := 0x064
abbrev ACQ_REC_RELEASE : Nat := 0x068
abbrev ACQ_STAGE_FILL : Nat := 0x400
abbrev ACQ_CHOKE : Nat := 0x404
abbrev ACQ_RING_BYTES : Nat := 0x408
abbrev ACQ_STORE_FREE : Nat := 0x40C
abbrev ACQ_REC_LEVEL : Nat := 0x410
abbrev ACQ_REC_POP : Nat := 0x414
abbrev ACQ_REC_ID : Nat := 0x418
abbrev ACQ_REC_INFO : Nat := 0x420
abbrev ACQ_CNT_CHOKE_STEP : Nat := 0x808
abbrev ACQ_CNT_STAGE_DROP : Nat := 0x80C
abbrev ACQ_CNT_XTRIG : Nat := 0x810
abbrev ACQ_CNT_REC_FIFO_FULL : Nat := 0x814
abbrev ACQ_CNT_PF_CUT : Nat := 0x818
abbrev ACQ_CNT_FLASH_BYTES : Nat := 0x840
abbrev ACQ_SET_CFG : Nat := 0x040
abbrev ACQ_SET_LEN : Nat := 0x044
abbrev ACQ_SET_CMD : Nat := 0x060
abbrev ACQ_SET_STATUS : Nat := 0x400
abbrev ACQ_SET_REC : Nat := 0x404
abbrev ACQ_SET_TRIG_TAG : Nat := 0x40C
abbrev ACQ_SET_BLOCK : Nat := 0x410
abbrev ACQS_CNT_TRIG : Nat := 0x808
abbrev ACQS_CNT_TRIG_IGNORED : Nat := 0x80C
abbrev ACQS_CNT_RING_STALL : Nat := 0x810
abbrev ACQS_CNT_MASK_VIOL : Nat := 0x814
abbrev ACQS_CNT_MASK_SKIP : Nat := 0x818
abbrev ACQS_CNT_REC : Nat := 0x81C
abbrev ACQS_CNT_BLOCKS : Nat := 0x840
abbrev EVR_CFG : Nat := 0x040
abbrev EVR_POST_ADDR : Nat := 0x050
abbrev EVR_POST_INFO : Nat := 0x058
abbrev EVR_POST_CMD : Nat := 0x05C
abbrev EVR_CMD : Nat := 0x060
abbrev EVR_PRIV_RELEASE : Nat := 0x064
abbrev EVR_STATUS : Nat := 0x400
abbrev EVR_ORD_FILL : Nat := 0x404
abbrev EVR_PRIV_FILL : Nat := 0x408
abbrev EVR_ORD_SEQ : Nat := 0x40C
abbrev EVR_PRIV_SEQ : Nat := 0x410
abbrev EVR_MIRROR_SEQ : Nat := 0x414
abbrev EVR_OPTIME : Nat := 0x418
abbrev EVR_OP_HOURS : Nat := 0x420
abbrev EVR_PWR_CYCLES : Nat := 0x424
abbrev EVR_DECK_BASE : Nat := 0x428
abbrev EVR_ORD_HEAD : Nat := 0x42C
abbrev EVR_CNT_FOLDED : Nat := 0x808
abbrev EVR_CNT_ORD_LOST : Nat := 0x80C
abbrev EVR_CNT_PRIV_LOST : Nat := 0x810
abbrev EVR_CNT_TORN : Nat := 0x814
abbrev EVR_CNT_FLUSH : Nat := 0x818
abbrev EVR_CNT_SEG_OVERWRITE : Nat := 0x81C
abbrev EVR_CNT_REPEAT_SAT : Nat := 0x820
abbrev EVR_CNT_POISON : Nat := 0x824
abbrev EVR_CNT_ORD_RECORDS : Nat := 0x840
abbrev EVR_CNT_PRIV_RECORDS : Nat := 0x848
abbrev DUP_CFG : Nat := 0x040
abbrev DUP_TIMING : Nat := 0x044
abbrev DUP_PAIR_MAC_LO : Nat := 0x048
abbrev DUP_PAIR_MAC_HI : Nat := 0x04C
abbrev DUP_CONFIG_ID : Nat := 0x050
abbrev DUP_CMD : Nat := 0x060
abbrev DUP_INJ_POINT : Nat := 0x070
abbrev DUP_INJ_VALUE : Nat := 0x074
abbrev DUP_INJ_QUAL : Nat := 0x07C
abbrev DUP_INJ_CMD : Nat := 0x080
abbrev DUP_STATUS : Nat := 0x400
abbrev DUP_HB_MISS : Nat := 0x404
abbrev DUP_LAST_HASH_TAG : Nat := 0x408
abbrev DUP_OWN_HASH : Nat := 0x410
abbrev DUP_PARTNER_HASH : Nat := 0x418
abbrev DUP_DIVERGE_TAG : Nat := 0x420
abbrev DUP_RESYNC_TAG : Nat := 0x424
abbrev DUP_HEALTHY_TIME : Nat := 0x428
abbrev DUP_MIRROR_BYTES : Nat := 0x42C
abbrev DUP_SWAP_TAG : Nat := 0x430
abbrev DUP_INJ_TAG : Nat := 0x440
abbrev DUP_CNT_HB_MISS : Nat := 0x808
abbrev DUP_CNT_HASH_MISMATCH : Nat := 0x80C
abbrev DUP_CNT_HASH_SKIP : Nat := 0x810
abbrev DUP_CNT_ROLE_CHANGE : Nat := 0x814
abbrev DUP_CNT_SPLIT_BRAIN : Nat := 0x818
abbrev DUP_CNT_RESYNC : Nat := 0x81C
abbrev DUP_CNT_INJ_LATE : Nat := 0x820
abbrev DUP_CNT_RB_SUPPRESSED : Nat := 0x824
abbrev DUP_CNT_GOOSE_FROM_PARTNER : Nat := 0x828
abbrev DUP_CNT_LINK_DROP : Nat := 0x82C
abbrev DUP_CNT_SYNC_FRAMES : Nat := 0x840
abbrev DUP_CNT_MIRROR_BYTES : Nat := 0x848
abbrev SHF_CFG : Nat := 0x040
abbrev SHF_ROLE_OVR : Nat := 0x050
abbrev SHF_CMD : Nat := 0x060
abbrev SHF_STATUS : Nat := 0x400
abbrev SHF_PRESENT : Nat := 0x404
abbrev SHF_MGR_SLOT : Nat := 0x40C
abbrev SHF_PCI_ID : Nat := 0x410
abbrev SHF_CNT_RD_TIMEOUT : Nat := 0x808
abbrev SHF_CNT_RETRY : Nat := 0x80C
abbrev SHF_CNT_WIN_DISCARD : Nat := 0x810
abbrev SHF_CNT_INTR : Nat := 0x814
abbrev SHF_CNT_SLOT_LOST : Nat := 0x818
abbrev SHF_CNT_SLOT_CONFLICT : Nat := 0x81C
abbrev SHF_CNT_BAD_FRAME : Nat := 0x820
abbrev SHF_CNT_DUP_FRAME : Nat := 0x824
abbrev SHF_CNT_WIN_WR : Nat := 0x840
abbrev SHF_CNT_WIN_RD : Nat := 0x848
abbrev HLT_CFG : Nat := 0x040
abbrev HLT_CMD : Nat := 0x060
abbrev HLT_SO_RATED : Nat := 0x080
abbrev HLT_EOL_DAYS : Nat := 0x400
abbrev HLT_EOL_INFO : Nat := 0x404
abbrev HLT_RO : Nat := 0x410
abbrev HLT_SFP_TX : Nat := 0x440
abbrev HLT_SFP_RX : Nat := 0x444
abbrev HLT_SO_BASE : Nat := 0x480
abbrev HLT_SO_DAYS : Nat := 0x4A0
abbrev HLT_CNT_SFP_READ_ERR : Nat := 0x808
abbrev HLT_CNT_EOL_WARN : Nat := 0x80C
abbrev HLT_CNT_SAMPLES : Nat := 0x810
end R

/-! ### The rows of each page -/

/-- Registers of the SYS page set. -/
def rowsSYS : List RegDef :=
  [⟨0x400, 1, 4, .ro, false, 0, 0, 0x42420100, 0, []⟩,
   ⟨0x404, 1, 4, .ro, false, 0, 0, 0, 0, []⟩,
   ⟨0x410, 1, 4, .ro, false, 0, 0, 16, 0, []⟩,
   ⟨0x414, 1, 4, .ro, false, 0, 0, 63, 0, []⟩,
   ⟨0x418, 1, 4, .ro, false, 0, 0, 0x3FF, 0, []⟩,
   ⟨0x41C, 1, 4, .ro, false, 0, 0, 512, 0, []⟩,
   ⟨0x420, 1, 4, .ro, false, 0, 0, 4096, 0, []⟩,
   ⟨0x424, 1, 4, .ro, false, 0, 0, 64, 0, []⟩,
   ⟨0x428, 1, 4, .ro, false, 0, 0, 8192, 0, []⟩,
   ⟨0x42C, 1, 4, .ro, false, 0, 0, 8, 0, []⟩,
   ⟨0x430, 1, 4, .ro, false, 0, 0, 256, 0, []⟩,
   ⟨0x434, 1, 4, .ro, false, 0, 0, 128, 0, []⟩,
   ⟨0x438, 1, 4, .ro, false, 0, 0, 16, 0, []⟩,
   ⟨0x43C, 1, 4, .ro, false, 0, 0, 32, 0, []⟩,
   ⟨0x800, 1, 4, .cnt, false, 0, 0, 0, 0, []⟩,
   ⟨0x804, 1, 4, .cnt, false, 0, 0, 0, 0, []⟩,
   ⟨0x808, 1, 4, .cnt, false, 0, 0, 0, 0, []⟩]

/-- Registers of the PWR page set. -/
def rowsPWR : List RegDef :=
  [⟨0x040, 1, 4, .rws, false, 1, 0, 0, 0, []⟩,
   ⟨0x400, 1, 4, .ro, false, 0, 0, 0, 0, []⟩,
   ⟨0x404, 1, 4, .ro, false, 0, 0, 0, 0, []⟩,
   ⟨0x408, 1, 4, .ro, false, 0, 0, 0, 0, []⟩,
   ⟨0x40C, 1, 4, .ro, false, 0, 0, 0, 0, []⟩,
   ⟨0x410, 1, 4, .ro, false, 0, 0, 0, 0, []⟩,
   ⟨0x414, 1, 4, .ro, false, 0, 0, 0, 0, []⟩,
   ⟨0x418, 1, 4, .ro, false, 0, 0, 0, 0, []⟩,
   ⟨0x420, 1, 8, .ro, true, 0, 0, 0, 0, []⟩,
   ⟨0x428, 1, 8, .ro, true, 0, 0, 0, 0, []⟩,
   ⟨0x800, 7, 4, .cnt, false, 0, 0, 0, 0, []⟩]

/-- Registers of the RST page set. -/
def rowsRST : List RegDef :=
  [⟨0x040, 1, 4, .rws, false, 0x1FFFF, 0, 0, 0, [⟨15, 0, 100, 60000, false, true, false⟩]⟩,
   ⟨0x060, 1, 4, .wo, false, 3, 0, 0, 3, []⟩,
   ⟨0x064, 1, 4, .wo, false, 0xFFFFFFFF, 0, 0, 0, []⟩,
   ⟨0x400, 1, 4, .ro, false, 0, 0, 0, 0, []⟩,
   ⟨0x404, 1, 4, .ro, false, 0, 0, 0, 0, []⟩,
   ⟨0x408, 1, 4, .ro, false, 0, 0, 0, 0, []⟩,
   ⟨0x800, 7, 4, .cnt, false, 0, 0, 0, 0, []⟩]

/-- Registers of the KSU page set. -/
def rowsKSU : List RegDef :=
  [⟨0x050, 1, 8, .rw, true, 0xFFFFFFFF, 0xFF, 0, 0, []⟩,
   ⟨0x058, 1, 4, .rw, false, 0x3FF, 0, 0, 0, []⟩,
   ⟨0x060, 1, 4, .wo, false, 0x1FFFFF, 0, 0, 0, []⟩,
   ⟨0x080, 12, 4, .wo, false, 0xFFFFFFFF, 0, 0, 0, []⟩,
   ⟨0x400, 1, 4, .ro, false, 0, 0, 0, 0, []⟩,
   ⟨0x404, 1, 4, .ro, false, 0, 0, 0, 0, []⟩,
   ⟨0x408, 1, 4, .ro, false, 0, 0, 0, 0, []⟩,
   ⟨0x410, 1, 8, .ro, true, 0, 0, 0, 0, []⟩,
   ⟨0x440, 12, 4, .ro, false, 0, 0, 0, 0, []⟩,
   ⟨0x800, 9, 4, .cnt, false, 0, 0, 0, 0, []⟩,
   ⟨0x830, 4, 4, .cnt, false, 0, 0, 0, 0, []⟩,
   ⟨0x840, 1, 8, .cnt, true, 0, 0, 0, 0, []⟩]

/-- Registers of the TMP page set. -/
def rowsTMP : List RegDef :=
  [⟨0x040, 1, 4, .rws, false, 0x38, 0, 0x2F, 0x38, []⟩,
   ⟨0x050, 1, 4, .wo, false, 1, 0, 0, 0, []⟩,
   ⟨0x400, 1, 4, .ro, false, 0, 0, 0, 0, []⟩,
   ⟨0x404, 1, 4, .ro, false, 0, 0, 0, 0, []⟩,
   ⟨0x800, 8, 4, .cnt, false, 0, 0, 0, 0, []⟩]

/-- Registers of the MEM page set. -/
def rowsMEM : List RegDef :=
  [⟨0x040, 1, 4, .rws, false, 1, 0, 1, 0, []⟩,
   ⟨0x050, 1, 8, .rw, true, 0xFFFFFFFF, 0xFF, 0, 0xFFFFFFFF, []⟩,
   ⟨0x058, 1, 4, .wo, false, 0xFFFF03, 0, 0, 0xFFFF03, []⟩,
   ⟨0x05C, 1, 4, .wo, false, 1, 0, 0, 1, []⟩,
   ⟨0x400, 1, 4, .ro, false, 0, 0, 0, 0, []⟩,
   ⟨0x404, 1, 4, .ro, false, 0, 0, 0, 0, []⟩,
   ⟨0x408, 1, 4, .ro, false, 0, 0, 0, 0, []⟩,
   ⟨0x40C, 1, 4, .wo, false, 1, 0, 0, 0, []⟩,
   ⟨0x410, 1, 8, .ro, true, 0, 0, 0, 0, []⟩,
   ⟨0x418, 1, 4, .ro, false, 0, 0, 0, 0, []⟩,
   ⟨0x41C, 1, 4, .ro, false, 0, 0, 0, 0, []⟩,
   ⟨0x420, 1, 4, .ro, false, 0, 0, 0, 0, []⟩,
   ⟨0x424, 1, 4, .ro, false, 0, 0, 0, 0, []⟩,
   ⟨0x800, 14, 4, .cnt, false, 0, 0, 0, 0, []⟩,
   ⟨0x840, 2, 8, .cnt, true, 0, 0, 0, 0, []⟩]

/-- Registers of the CRU page set. -/
def rowsCRU : List RegDef :=
  [⟨0x040, 1, 4, .rws, false, 1, 0, 1, 0, []⟩,
   ⟨0x044, 1, 4, .rws, false, 0xFFFFFFFF, 0, 0xE10, 0, [⟨31, 0, 0, 86400, false, false, false⟩]⟩,
   ⟨0x048, 1, 4, .rws, false, 0xFFFFFFFF, 0, 0x3C, 0, [⟨31, 0, 0, 86400, false, false, false⟩]⟩,
   ⟨0x400, 4, 16, .ro, false, 0, 0, 0, 0, []⟩,
   ⟨0x404, 4, 16, .ro, false, 0, 0, 0, 0, []⟩,
   ⟨0x408, 4, 16, .ro, false, 0, 0, 0, 0, []⟩,
   ⟨0x440, 1, 4, .ro, false, 0, 0, 0, 0, []⟩,
   ⟨0x800, 9, 4, .cnt, false, 0, 0, 0, 0, []⟩]

/-- Registers of the TSU page set. -/
def rowsTSU : List RegDef :=
  [⟨0x040, 1, 4, .rws, false, 1, 0, 1, 0, []⟩,
   ⟨0x044, 1, 4, .rws, false, 0xFFFF, 0, 0x7D0, 0, [⟨15, 0, 0, 60000, false, false, false⟩]⟩,
   ⟨0x048, 1, 4, .rws, false, 0xFFFFF, 0, 0x3E8, 0, [⟨19, 0, 1, 1000000, true, false, false⟩]⟩,
   ⟨0x04C, 1, 4, .rws, false, 0x3FF, 0, 0x64, 0, [⟨9, 0, 1, 1000, true, false, false⟩]⟩,
   ⟨0x050, 1, 4, .rws, false, 0xFFFF, 0, 0x25, 0, []⟩,
   ⟨0x060, 10, 4, .rws, false, 0xFFFFFFFF, 0, 0, 0, []⟩,
   ⟨0x0A0, 4, 16, .rws, false, 0xF, 0, 0, 0, [⟨1, 0, 0, 2, false, false, false⟩]⟩,
   ⟨0x0A4, 4, 16, .rws, false, 0xFFFFFFFF, 0, 0, 0, []⟩,
   ⟨0x0A8, 4, 16, .rws, false, 0xFFFFFFFF, 0, 0, 0, []⟩,
   ⟨0x0AC, 4, 16, .rws, false, 0xFFFFFFFF, 0, 0, 0, []⟩,
   ⟨0x0E0, 4, 4, .rws, false, 0xFF03, 0, 0, 0, []⟩,
   ⟨0x100, 10, 4, .rw, false, 0xFFFFF, 0, 0, 0, []⟩,
   ⟨0x140, 1, 4, .rw, false, 0xFFFFFFFF, 0, 0, 0, [⟨31, 0, (-1000000000), 1000000000, false, false, true⟩]⟩,
   ⟨0x144, 1, 4, .rw, false, 0xFFFFFFFF, 0, 0, 0, [⟨31, 0, (-1000000), 1000000, false, false, true⟩]⟩,
   ⟨0x148, 1, 8, .rw, true, 0xFFFFFFFF, 0xFFFF, 0, 0, []⟩,
   ⟨0x150, 1, 4, .rw, false, 0x3FFFFFFF, 0, 0, 0, [⟨29, 0, 0, 999999999, false, false, false⟩]⟩,
   ⟨0x154, 1, 4, .wo, false, 0x1F, 0, 0, 2, []⟩,
   ⟨0x400, 1, 4, .ro, false, 0, 0, 0, 0, []⟩,
   ⟨0x404, 1, 4, .ro, false, 0, 0, 0, 0, []⟩,
   ⟨0x408, 1, 4, .ro, false, 0, 0, 0xFFFFFFFF, 0, []⟩,
   ⟨0x40C, 1, 4, .ro, false, 0, 0, 50, 0, []⟩,
   ⟨0x410, 1, 4, .ro, false, 0, 0, 9500, 0, []⟩,
   ⟨0x414, 1, 4, .ro, false, 0, 0, 10000, 0, []⟩,
   ⟨0x418, 1, 4, .ro, false, 0, 0, 0, 0, []⟩,
   ⟨0x41C, 1, 4, .ro, false, 0, 0, 0, 0, []⟩,
   ⟨0x420, 1, 8, .ro, true, 0, 0, 0, 0, []⟩,
   ⟨0x428, 1, 4, .ro, false, 0, 0, 0, 0, []⟩,
   ⟨0x42C, 1, 4, .ro, false, 0, 0, 0, 0, []⟩,
   ⟨0x430, 1, 4, .ro, false, 0, 0, 0, 0, []⟩,
   ⟨0x440, 4, 16, .ro, false, 0, 0, 0, 0, []⟩,
   ⟨0x444, 4, 16, .ro, false, 0, 0, 0, 0, []⟩,
   ⟨0x448, 4, 16, .ro, false, 0, 0, 0, 0, []⟩,
   ⟨0x44C, 4, 16, .ro, false, 0, 0, 0, 0, []⟩,
   ⟨0x480, 1, 4, .wo, false, 0xF, 0, 0, 0, []⟩,
   ⟨0x484, 1, 4, .ro, false, 0, 0, 0, 0, []⟩,
   ⟨0x800, 12, 4, .cnt, false, 0, 0, 0, 0, []⟩]

/-- Registers of the MAC page set. -/
def rowsMAC : List RegDef :=
  [⟨0x040, 1, 4, .rws, false, 0x7F37, 0, 0x900, 0x407, []⟩,
   ⟨0x044, 1, 4, .rws, false, 0x3FFF, 0, 0x5F2, 0x3FFF, [⟨13, 0, 1518, 9018, true, false, false⟩]⟩,
   ⟨0x048, 1, 4, .rws, false, 0xFFFFFFFF, 0, 0x03E80014, 0, [⟨31, 16, 1, 60000, true, false, false⟩, ⟨15, 0, 0, 60000, false, false, false⟩]⟩,
   ⟨0x050, 1, 4, .rws, false, 0xFFFFFFFF, 0, 0, 0, []⟩,
   ⟨0x054, 1, 4, .rws, false, 0xFFFF, 0, 0, 0, []⟩,
   ⟨0x058, 1, 4, .rws, false, 0x37FFF, 0, 1, 0, [⟨11, 0, 1, 4094, false, false, false⟩]⟩,
   ⟨0x060, 1, 8, .rws, true, 0xFFFFFFFF, 0xFFFFFFFF, 0, 0, []⟩,
   ⟨0x068, 1, 4, .rws, false, 0xB, 0, 8, 0, []⟩,
   ⟨0x06C, 1, 4, .rws, false, 0xFFFFFFFF, 0, 0, 0, []⟩,
   ⟨0x070, 1, 4, .rws, false, 0xFFFFFFFF, 0, 0xC0000000, 0, []⟩,
   ⟨0x400, 1, 4, .ro, false, 0, 0, 0, 0, []⟩,
   ⟨0x480, 1, 4, .ro, false, 0, 0, 0, 0, []⟩,
   ⟨0x484, 1, 4, .wo, false, 1, 0, 0, 0, []⟩,
   ⟨0x488, 1, 4, .ro, false, 0, 0, 0, 0, []⟩,
   ⟨0x48C, 1, 4, .ro, false, 0, 0, 0, 0, []⟩,
   ⟨0x490, 1, 4, .ro, false, 0, 0, 0, 0, []⟩,
   ⟨0x800, 16, 4, .cnt, false, 0, 0, 0, 0, []⟩,
   ⟨0x840, 4, 8, .cnt, true, 0, 0, 0, 0, []⟩]

/-- Registers of the SWC page set. -/
def rowsSWC : List RegDef :=
  [⟨0x040, 1, 4, .rws, false, 7, 0, 4, 0, []⟩,
   ⟨0x044, 1, 4, .rws, false, 0xFFFF, 0, 0x12C, 0, []⟩,
   ⟨0x048, 1, 4, .rws, false, 0xFFFFFF, 0, 0xFAC688, 0, []⟩,
   ⟨0x050, 8, 4, .rws, false, 0x8007FFFF, 0, 0, 0, []⟩,
   ⟨0x400, 1, 4, .ro, false, 0, 0, 0x10000, 0, []⟩,
   ⟨0x404, 1, 4, .ro, false, 0, 0, 0x10000, 0, []⟩,
   ⟨0x408, 1, 4, .ro, false, 0, 0, 0, 0, []⟩,
   ⟨0x800, 3, 4, .cnt, false, 0, 0, 0, 0, []⟩]

/-- Registers of the SWCP page set. -/
def rowsSWCP : List RegDef :=
  [⟨0x040, 8, 4, .rws, false, 0xFFFF, 0, 0x1000, 0, [⟨15, 0, 1, 65535, true, false, false⟩]⟩,
   ⟨0x060, 8, 4, .rws, false, 0xFFFFF, 0, 0, 0, [⟨19, 0, 0, 1000000, false, false, false⟩]⟩,
   ⟨0x080, 1, 4, .rws, false, 0x1FF03, 0, 0, 0, []⟩,
   ⟨0x084, 1, 4, .rws, false, 0x3FFFFFFF, 0, 0, 0, [⟨29, 0, 0, 999999999, false, false, false⟩]⟩,
   ⟨0x088, 1, 8, .rws, true, 0xFFFFFFFF, 0xFFFF, 0, 0, []⟩,
   ⟨0x090, 1, 4, .rws, false, 0xFFFFFFFF, 0, 0, 0, []⟩,
   ⟨0x400, 8, 4, .ro, false, 0, 0, 0, 0, []⟩,
   ⟨0x420, 1, 4, .ro, false, 0, 0, 0, 0, []⟩,
   ⟨0x800, 2, 4, .cnt, false, 0, 0, 0, 0, []⟩,
   ⟨0x810, 7, 4, .cnt, false, 0, 0, 0, 0, []⟩,
   ⟨0x830, 7, 4, .cnt, false, 0, 0, 0, 0, []⟩,
   ⟨0x850, 7, 4, .cnt, false, 0, 0, 0, 0, []⟩,
   ⟨0x870, 7, 4, .cnt, false, 0, 0, 0, 0, []⟩,
   ⟨0x890, 7, 4, .cnt, false, 0, 0, 0, 0, []⟩,
   ⟨0x8B0, 7, 4, .cnt, false, 0, 0, 0, 0, []⟩,
   ⟨0x8D0, 7, 4, .cnt, false, 0, 0, 0, 0, []⟩,
   ⟨0x8F0, 7, 4, .cnt, false, 0, 0, 0, 0, []⟩]

/-- Registers of the H0 page: its queues 4 to 7 are reserved (R89). -/
def rowsSWCPH : List RegDef :=
  (rowsSWCP.filter (fun r => r.off < 0x890)).map (fun r => if r.n = 8 then { r with n := 4 } else r)

/-- Registers of the SWCR page set. -/
def rowsSWCR : List RegDef :=
  [⟨0x040, 1, 4, .rws, false, 0xFFFF, 0, 0, 0, [⟨3, 0, 0, 4, false, false, false⟩, ⟨7, 4, 0, 4, false, false, false⟩, ⟨11, 8, 0, 4, false, false, false⟩, ⟨15, 12, 0, 4, false, false, false⟩]⟩,
   ⟨0x048, 1, 4, .rws, false, 0xFFFFFFFF, 0, 0x190, 0, [⟨31, 0, 10, 10000, true, false, false⟩]⟩,
   ⟨0x04C, 1, 4, .rws, false, 0xFFFFFFFF, 0, 0x7D0, 0, [⟨31, 0, 0, 60000, false, false, false⟩]⟩,
   ⟨0x050, 1, 4, .rws, false, 0xFF, 0, 0, 0, []⟩,
   ⟨0x800, 12, 4, .cnt, false, 0, 0, 0, 0, []⟩]

/-- Registers of the SWCH page set. -/
def rowsSWCH : List RegDef :=
  [⟨0x040, 1, 4, .rws, false, 0x1F, 0, 0x1F, 0, []⟩,
   ⟨0x044, 1, 4, .rws, false, 0xFFFFFFFF, 0, 0, 0, []⟩]

/-- Registers of the SVA page set. -/
def rowsSVA : List RegDef :=
  [⟨0x040, 1, 4, .rws, false, 0x1FF06, 0, 0x13200, 0, []⟩,
   ⟨0x044, 1, 4, .rws, false, 0xFFF, 0, 0x258, 0, [⟨11, 0, 100, 4000, false, false, false⟩]⟩,
   ⟨0x048, 1, 4, .rws, false, 0x7F, 0, 0x14, 0, [⟨6, 0, 8, 100, false, false, false⟩]⟩,
   ⟨0x400, 1, 4, .ro, false, 0, 0, 0, 0, []⟩,
   ⟨0x404, 1, 4, .ro, false, 0, 0, 0, 0, []⟩,
   ⟨0x408, 1, 4, .ro, false, 0, 0, 0, 0, []⟩,
   ⟨0x40C, 1, 4, .ro, false, 0, 0, 0, 0, []⟩,
   ⟨0x800, 8, 4, .cnt, false, 0, 0, 0, 0, []⟩,
   ⟨0x840, 1, 8, .cnt, true, 0, 0, 0, 0, []⟩]

/-- Registers of the SVA1 page set. -/
def rowsSVA1 : List RegDef :=
  [⟨0x400, 16, 4, .ro, false, 0, 0, 0, 0, []⟩,
   ⟨0x440, 16, 4, .ro, false, 0, 0, 0, 0, []⟩,
   ⟨0x480, 16, 4, .ro, false, 0, 0, 0, 0, []⟩,
   ⟨0x4C0, 96, 4, .ro, false, 0, 0, 0, 0, []⟩]

/-- Registers of the SVA2 page set. -/
def rowsSVA2 : List RegDef :=
  [⟨0x400, 1, 4, .ro, false, 0, 0, 0, 0, []⟩,
   ⟨0x404, 1, 4, .wo, false, 1, 0, 0, 0, []⟩]

/-- Registers of the FLT page set. -/
def rowsFLT : List RegDef :=
  [⟨0x040, 4, 4, .rws, false, 0xF3F7F, 0, 0x10100, 0, [⟨19, 16, 1, 15, true, false, false⟩, ⟨13, 12, 0, 1, false, false, false⟩, ⟨11, 8, 1, 15, true, false, false⟩]⟩,
   ⟨0x050, 4, 4, .rws, false, 0xFFFFFFFF, 0, 0x320000, 0, [⟨31, 0, 65536, 131072000, false, false, false⟩]⟩,
   ⟨0x400, 1, 4, .ro, false, 0, 0, 0, 0, []⟩,
   ⟨0x404, 1, 4, .ro, false, 0, 0, 0, 0, []⟩,
   ⟨0x408, 1, 4, .ro, false, 0, 0, 0, 0, []⟩,
   ⟨0x410, 4, 4, .ro, false, 0, 0, 0, 0, []⟩,
   ⟨0x420, 4, 4, .ro, false, 0, 0, 0, 0, []⟩,
   ⟨0x430, 1, 4, .ro, false, 0, 0, 0, 0, []⟩,
   ⟨0x440, 1, 4, .rw, false, 0x7F, 0, 0, 0, []⟩,
   ⟨0x444, 1, 4, .ro, false, 0, 0, 0, 0, []⟩,
   ⟨0x448, 1, 4, .ro, false, 0, 0, 0, 0, []⟩,
   ⟨0x44C, 1, 4, .ro, false, 0, 0, 0, 0, []⟩,
   ⟨0x460, 1, 4, .wo, false, 0x3007F, 0, 0, 0, []⟩,
   ⟨0x464, 1, 4, .wo, false, 0x3F3003, 0, 0, 0, []⟩,
   ⟨0x480, 1, 4, .ro, false, 0, 0, 0, 0, []⟩,
   ⟨0x484, 1, 4, .wo, false, 1, 0, 0, 0, []⟩,
   ⟨0x488, 1, 4, .ro, false, 0, 0, 0, 0, []⟩,
   ⟨0x48C, 1, 4, .ro, false, 0, 0, 0, 0, []⟩,
   ⟨0x490, 2, 4, .ro, false, 0, 0, 0, 0, []⟩,
   ⟨0x800, 7, 4, .cnt, false, 0, 0, 0, 0, []⟩]

/-- Registers of the ADC page set. -/
def rowsADC : List RegDef :=
  [⟨0x040, 1, 4, .rws, false, 0xFFFD1F, 0, 1, 0, [⟨23, 16, 0, 150, false, false, false⟩, ⟨4, 0, 1, 16, true, false, false⟩]⟩,
   ⟨0x044, 1, 4, .rws, false, 0x8F0FFFFF, 0, 0, 0, []⟩,
   ⟨0x048, 1, 4, .rws, false, 0xFFFFF, 0, 0, 0, []⟩,
   ⟨0x080, 16, 16, .rws, false, 0xF7F73F, 0, 0x100000, 0, []⟩,
   ⟨0x084, 16, 16, .rws, false, 0xFFFFF, 0, 0, 0, []⟩,
   ⟨0x088, 16, 16, .rws, false, 0xFFFFFFFF, 0, 0, 0, []⟩,
   ⟨0x08C, 16, 16, .rws, false, 0xFFFFFFFF, 0, 0, 0, []⟩,
   ⟨0x400, 1, 4, .ro, false, 0, 0, 0, 0, []⟩,
   ⟨0x404, 1, 4, .ro, false, 0, 0, 0, 0, []⟩,
   ⟨0x408, 1, 4, .ro, false, 0, 0, 0, 0, []⟩,
   ⟨0x40C, 1, 4, .ro, false, 0, 0, 0, 0, []⟩,
   ⟨0x410, 2, 4, .ro, false, 0, 0, 0, 0, []⟩,
   ⟨0x418, 1, 4, .ro, false, 0, 0, 0, 0, []⟩,
   ⟨0x41C, 1, 4, .w1c, false, 0xFFFF, 0, 0, 0, []⟩,
   ⟨0x420, 1, 4, .wo, false, 0xF7, 0, 0, 0, []⟩,
   ⟨0x424, 1, 4, .ro, false, 0, 0, 0, 0, []⟩,
   ⟨0x440, 5, 4, .ro, false, 0, 0, 0, 0, []⟩,
   ⟨0x460, 5, 4, .ro, false, 0, 0, 0x40000000, 0, []⟩,
   ⟨0x480, 1, 4, .ro, false, 0, 0, 0, 0, []⟩,
   ⟨0x800, 10, 4, .cnt, false, 0, 0, 0, 0, []⟩,
   ⟨0x828, 1, 8, .cnt, true, 0, 0, 0, 0, []⟩]

/-- Registers of the CYC0 page set. -/
def rowsCYC0 : List RegDef :=
  [⟨0x040, 1, 4, .rws, false, 0x7F1FFF, 0, 0xC02A8, 0, [⟨22, 16, 8, 50, true, false, false⟩, ⟨12, 0, 100, 4200, false, false, false⟩]⟩,
   ⟨0x050, 1, 4, .wo, false, 0x3003F, 0, 0, 0, []⟩,
   ⟨0x060, 1, 4, .rw, false, 0x3F, 0, 0, 0, []⟩,
   ⟨0x068, 1, 4, .rw, false, 0xFFFFFFFF, 0, 0, 0, []⟩,
   ⟨0x06C, 1, 4, .wo, false, 0xF, 0, 0, 0, []⟩,
   ⟨0x400, 1, 4, .ro, false, 0, 0, 0, 0, []⟩,
   ⟨0x404, 1, 4, .ro, false, 0, 0, 0, 0, []⟩,
   ⟨0x408, 1, 4, .ro, false, 0, 0, 0, 0, []⟩,
   ⟨0x40C, 1, 4, .ro, false, 0, 0, 0, 0, []⟩,
   ⟨0x410, 1, 4, .ro, false, 0, 0, 0, 0, []⟩,
   ⟨0x420, 1, 8, .ro, true, 0, 0, 0, 0, []⟩,
   ⟨0x440, 1, 4, .ro, false, 0, 0, 0, 0, []⟩,
   ⟨0x444, 1, 4, .ro, false, 0, 0, 0, 0, []⟩,
   ⟨0x448, 4, 4, .ro, false, 0, 0, 0, 0, []⟩,
   ⟨0xD00, 1, 4, .rw, false, 0xFFFFF, 0, 0, 0, []⟩,
   ⟨0xD04, 1, 4, .wo, false, 0x103, 0, 0, 0, []⟩,
   ⟨0xD08, 1, 8, .rw, true, 0xFFFFFFFF, 0xFFFFFFFF, 0, 0, []⟩,
   ⟨0xD10, 2, 4, .rw, false, 0xFFFFFFFF, 0, 0, 0, []⟩,
   ⟨0xD18, 2, 4, .rw, false, 0xFFFFFFFF, 0, 0, 0, []⟩,
   ⟨0x800, 15, 4, .cnt, false, 0, 0, 0, 0, []⟩,
   ⟨0x840, 1, 8, .cnt, true, 0, 0, 0, 0, []⟩]

/-- Registers of the CYC page set. -/
def rowsCYC : List RegDef :=
  [⟨0x044, 1, 4, .rws, false, 3, 0, 1, 0, [⟨1, 0, 0, 1, false, false, false⟩]⟩]

/-- Registers of the CYCP page set. -/
def rowsCYCP : List RegDef :=
  [⟨0x400, 2, 4, .ro, false, 0, 0, 0, 0, []⟩,
   ⟨0x408, 1, 4, .ro, false, 0, 0, 0, 0, []⟩,
   ⟨0x800, 5, 4, .cnt, false, 0, 0, 0, 0, []⟩]

/-- Registers of the VFM page set. -/
def rowsVFM : List RegDef :=
  [⟨0x040, 1, 4, .rws, false, 0xFF1FFF, 0, 0x101000, 0, [⟨23, 16, 1, 255, true, false, false⟩, ⟨12, 0, 1, 4096, true, false, false⟩]⟩,
   ⟨0x060, 8, 4, .rw, false, 0x1FF, 0, 0, 0, []⟩,
   ⟨0x080, 8, 4, .rws, false, 0xFFFF, 0, 0, 0, []⟩,
   ⟨0x0A0, 1, 4, .rws, false, 1, 0, 0, 0, []⟩,
   ⟨0x0A8, 1, 8, .rws, true, 0xFFFFFFF8, 0xFFFFFFFF, 0, 0, []⟩,
   ⟨0x0B0, 1, 8, .rws, true, 0xFFFFFFF8, 0xFFFFFFFF, 0, 0, []⟩,
   ⟨0x0B8, 1, 4, .rws, false, 0xFFFFFFFF, 0, 0, 0, []⟩,
   ⟨0x0C0, 1, 4, .rws, false, 0xFFFFF3, 0, 0x50000, 0, [⟨23, 16, 1, 50, true, false, false⟩, ⟨7, 4, 0, 9, false, false, false⟩, ⟨1, 0, 0, 2, false, false, false⟩]⟩,
   ⟨0x0C4, 1, 4, .rws, false, 0xFFFFFFFF, 0, 0, 0, []⟩,
   ⟨0x0C8, 1, 4, .rws, false, 0xFFFFFFFF, 0, 0, 0, []⟩,
   ⟨0x0CC, 1, 4, .rws, false, 0xFFFF, 0, 0, 0, []⟩,
   ⟨0x0D0, 1, 8, .rws, true, 0xFFFFFFFF, 0xFFFFFFFF, 0, 0, []⟩,
   ⟨0x0D8, 1, 4, .rws, false, 0xFFFFFFFF, 0, 0, 0, [⟨31, 0, 0, 4390912, false, false, false⟩]⟩,
   ⟨0x0DC, 1, 4, .rws, false, 0xFFFF, 0, 0, 0, []⟩,
   ⟨0x100, 1, 4, .wo, false, 7, 0, 0, 0, []⟩,
   ⟨0x400, 8, 16, .rw, false, 0xFFF, 0, 0, 0, []⟩,
   ⟨0x404, 8, 16, .rw, false, 0xFFF, 0, 0, 0, []⟩,
   ⟨0x408, 8, 16, .ro, false, 0, 0, 0, 0, []⟩,
   ⟨0x40C, 8, 16, .ro, false, 0, 0, 0, 0, []⟩,
   ⟨0x480, 1, 4, .ro, false, 0, 0, 0, 0, []⟩,
   ⟨0x484, 1, 4, .ro, false, 0, 0, 0, 0, []⟩,
   ⟨0x490, 1, 4, .ro, false, 0, 0, 0, 0, []⟩,
   ⟨0x494, 1, 4, .ro, false, 0, 0, 0, 0, []⟩,
   ⟨0x498, 1, 4, .ro, false, 0, 0, 0, 0, []⟩,
   ⟨0x4A0, 1, 4, .w1c, false, 0xFFFF, 0, 0, 0, []⟩,
   ⟨0x800, 12, 4, .cnt, false, 0, 0, 0, 0, []⟩,
   ⟨0x840, 3, 8, .cnt, true, 0, 0, 0, 0, []⟩]

/-- Registers of the VFM0 page set. -/
def rowsVFM0 : List RegDef :=
  [⟨0x050, 1, 4, .rws, false, 0xF, 0, 0, 0, []⟩,
   ⟨0x058, 1, 4, .wo, false, 0xFF0003, 0, 0, 0, []⟩]

/-- Registers of the SKD page set. -/
def rowsSKD : List RegDef :=
  [⟨0x400, 1, 4, .ro, false, 0, 0, 0, 0, []⟩,
   ⟨0x404, 1, 4, .ro, false, 0, 0, 0, 0, []⟩,
   ⟨0x408, 1, 4, .ro, false, 0, 0, 0, 0, []⟩,
   ⟨0x40C, 1, 4, .ro, false, 0, 0, 0, 0, []⟩,
   ⟨0x800, 7, 4, .cnt, false, 0, 0, 0, 0, []⟩,
   ⟨0x840, 4, 8, .cnt, true, 0, 0, 0, 0, []⟩]

/-- Registers of the TAL page set. -/
def rowsTAL : List RegDef :=
  [⟨0x040, 1, 4, .rws, false, 0xFFFF0000, 0, 0x03840000, 0, []⟩,
   ⟨0x044, 1, 4, .rws, false, 0x3FF, 0, 0x64, 0, [⟨9, 0, 1, 1000, true, false, false⟩]⟩,
   ⟨0x048, 1, 4, .wo, false, 0x3003F, 0, 0, 0x3003F, []⟩,
   ⟨0x060, 1, 4, .wo, false, 0x3003F, 0, 0, 0, []⟩,
   ⟨0x400, 1, 4, .ro, false, 0, 0, 0, 0, []⟩,
   ⟨0x404, 1, 4, .ro, false, 0, 0, 0, 0, []⟩,
   ⟨0x408, 1, 4, .ro, false, 0, 0, 0, 0, []⟩,
   ⟨0x40C, 1, 4, .ro, false, 0, 0, 2, 0, []⟩,
   ⟨0x410, 1, 4, .ro, false, 0, 0, 0, 0, []⟩,
   ⟨0x418, 2, 4, .ro, false, 0, 0, 0, 0, []⟩,
   ⟨0x420, 2, 4, .ro, false, 0, 0, 0, 0, []⟩,
   ⟨0x428, 2, 4, .ro, false, 0, 0, 0, 0, []⟩,
   ⟨0x430, 1, 4, .ro, false, 0, 0, 0, 0, []⟩,
   ⟨0x434, 1, 4, .ro, false, 0, 0, 0, 0, []⟩,
   ⟨0x438, 1, 4, .ro, false, 0, 0, 0, 0, []⟩,
   ⟨0x43C, 1, 4, .ro, false, 0, 0, 0, 0, []⟩,
   ⟨0x800, 13, 4, .cnt, false, 0, 0, 0, 0, []⟩,
   ⟨0x840, 1, 8, .cnt, true, 0, 0, 0, 0, []⟩]

/-- Registers of the DFO page set. -/
def rowsDFO : List RegDef :=
  [⟨0x040, 8, 8, .rws, false, 0xFF073F07, 0, 0, 0xFF073F07, []⟩,
   ⟨0x044, 8, 8, .rws, false, 0xFFFFFFFF, 0, 0, 0xFFFFFFFF, []⟩,
   ⟨0x400, 8, 4, .ro, false, 0, 0, 0, 0, []⟩,
   ⟨0x420, 1, 4, .ro, false, 0, 0, 0, 0, []⟩,
   ⟨0x800, 10, 4, .cnt, false, 0, 0, 0, 0, []⟩,
   ⟨0x840, 8, 8, .cnt, true, 0, 0, 0, 0, []⟩]

/-- Registers of the HWSA page set. -/
def rowsHWSA : List RegDef :=
  [⟨0x040, 1, 4, .rws, false, 0xFF, 0, 8, 0xFF, []⟩,
   ⟨0x044, 1, 4, .rws, false, 0xFFFFFFFF, 0, 0, 0xFFFFFFFF, []⟩,
   ⟨0x048, 1, 4, .rws, false, 0xFFFFFFFF, 0, 0, 0xFFFFFFFF, []⟩,
   ⟨0x050, 1, 4, .wo, false, 0xFF01, 0, 0, 0xFF01, []⟩]

/-- Registers of the HWS page set. -/
def rowsHWS : List RegDef :=
  [⟨0x400, 1, 4, .ro, false, 0, 0, 0, 0, []⟩,
   ⟨0x404, 1, 4, .ro, false, 0, 0, 0, 0, []⟩,
   ⟨0x408, 1, 4, .ro, false, 0, 0, 0, 0, []⟩,
   ⟨0x40C, 1, 4, .ro, false, 0, 0, 0, 0, []⟩,
   ⟨0x410, 1, 4, .ro, false, 0, 0, 0, 0, []⟩,
   ⟨0x414, 1, 4, .ro, false, 0, 0, 0, 0, []⟩,
   ⟨0x418, 1, 4, .ro, false, 0, 0, 0, 0, []⟩,
   ⟨0x41C, 1, 4, .ro, false, 0, 0, 0, 0, []⟩,
   ⟨0x420, 1, 4, .ro, false, 0, 0, 0, 0, []⟩,
   ⟨0x440, 16, 4, .ro, false, 0, 0, 0, 0, []⟩,
   ⟨0x480, 8, 4, .ro, false, 0, 0, 0, 0, []⟩,
   ⟨0x800, 12, 4, .cnt, false, 0, 0, 0, 0, []⟩,
   ⟨0x840, 8, 8, .cnt, true, 0, 0, 0, 0, []⟩]

/-- Registers of the ACQ0 page set. -/
def rowsACQ0 : List RegDef :=
  [⟨0x040, 1, 4, .rws, false, 0x701, 0, 0x401, 0, [⟨10, 8, 0, 4, false, false, false⟩]⟩,
   ⟨0x050, 1, 8, .rw, true, 0xFFFFFFFF, 0xFFFF, 0, 0, []⟩,
   ⟨0x058, 1, 4, .rw, false, 0x3FFFFFFF, 0, 0, 0, []⟩,
   ⟨0x05C, 1, 4, .wo, false, 0xF, 0, 0, 0, []⟩,
   ⟨0x064, 1, 4, .wo, false, 1, 0, 0, 0, []⟩,
   ⟨0x068, 1, 4, .wo, false, 0xFFFF, 0, 0, 0, []⟩,
   ⟨0x400, 1, 4, .ro, false, 0, 0, 0, 0, []⟩,
   ⟨0x404, 1, 4, .ro, false, 0, 0, 0, 0, []⟩,
   ⟨0x408, 1, 4, .ro, false, 0, 0, 0x40000000, 0, []⟩,
   ⟨0x40C, 1, 4, .ro, false, 0, 0, 0x10000, 0, []⟩,
   ⟨0x410, 1, 4, .ro, false, 0, 0, 0, 0, []⟩,
   ⟨0x414, 1, 4, .wo, false, 1, 0, 0, 0, []⟩,
   ⟨0x418, 1, 8, .ro, true, 0, 0, 0, 0, []⟩,
   ⟨0x420, 1, 4, .ro, false, 0, 0, 0, 0, []⟩,
   ⟨0x800, 7, 4, .cnt, false, 0, 0, 0, 0, []⟩,
   ⟨0x840, 1, 8, .cnt, true, 0, 0, 0, 0, []⟩]

/-- Registers of the ACQS page set. -/
def rowsACQS : List RegDef :=
  [⟨0x040, 1, 4, .rws, false, 0x3FFF07FF, 0, 0, 0, []⟩,
   ⟨0x044, 1, 4, .rws, false, 0xFFFF3FFF, 0, 0x07D001F4, 0, [⟨31, 16, 1, 60000, true, false, false⟩, ⟨13, 0, 0, 10000, false, false, false⟩]⟩,
   ⟨0x060, 1, 4, .wo, false, 0xF, 0, 0, 0, []⟩,
   ⟨0x400, 1, 4, .ro, false, 0, 0, 0, 0, []⟩,
   ⟨0x404, 1, 8, .ro, true, 0, 0, 0, 0, []⟩,
   ⟨0x40C, 1, 4, .ro, false, 0, 0, 0, 0, []⟩,
   ⟨0x410, 1, 4, .ro, false, 0, 0, 0, 0, []⟩,
   ⟨0x800, 8, 4, .cnt, false, 0, 0, 0, 0, []⟩,
   ⟨0x840, 1, 8, .cnt, true, 0, 0, 0, 0, []⟩]

/-- Registers of the EVR page set. -/
def rowsEVR : List RegDef :=
  [⟨0x040, 1, 4, .rws, false, 0xFFFF, 0, 0x3E8, 0, [⟨15, 0, 0, 60000, false, false, false⟩]⟩,
   ⟨0x050, 1, 8, .rw, true, 0xFFFFFFFF, 0xFF, 0, 0, []⟩,
   ⟨0x058, 1, 4, .rw, false, 0xFFFF7FFF, 0, 0, 0, []⟩,
   ⟨0x05C, 1, 4, .wo, false, 0xF, 0, 0, 0, []⟩,
   ⟨0x060, 1, 4, .wo, false, 1, 0, 0, 0, []⟩,
   ⟨0x064, 1, 4, .wo, false, 0xFFFFFFFF, 0, 0, 0, []⟩,
   ⟨0x400, 1, 4, .ro, false, 0, 0, 0, 0, []⟩,
   ⟨0x404, 1, 4, .ro, false, 0, 0, 0, 0, []⟩,
   ⟨0x408, 1, 4, .ro, false, 0, 0, 0, 0, []⟩,
   ⟨0x40C, 1, 4, .ro, false, 0, 0, 0, 0, []⟩,
   ⟨0x410, 1, 4, .ro, false, 0, 0, 0, 0, []⟩,
   ⟨0x414, 1, 4, .ro, false, 0, 0, 0, 0, []⟩,
   ⟨0x418, 1, 8, .ro, true, 0, 0, 0, 0, []⟩,
   ⟨0x420, 1, 4, .ro, false, 0, 0, 0, 0, []⟩,
   ⟨0x424, 1, 4, .ro, false, 0, 0, 0, 0, []⟩,
   ⟨0x428, 1, 4, .ro, false, 0, 0, 0, 0, []⟩,
   ⟨0x42C, 1, 4, .ro, false, 0, 0, 0, 0, []⟩,
   ⟨0x800, 10, 4, .cnt, false, 0, 0, 0, 0, []⟩,
   ⟨0x840, 2, 8, .cnt, true, 0, 0, 0, 0, []⟩]

/-- Registers of the DUP page set. -/
def rowsDUP : List RegDef :=
  [⟨0x040, 1, 4, .rws, false, 0x337, 0, 0x14, 0, []⟩,
   ⟨0x044, 1, 4, .rws, false, 0xFFFFFFFF, 0, 0x000A4060, 0, [⟨31, 16, 1, 600, true, false, false⟩, ⟨15, 13, 2, 7, true, false, false⟩, ⟨12, 0, 1, 4800, true, false, false⟩]⟩,
   ⟨0x048, 1, 4, .rws, false, 0xFFFFFFFF, 0, 0, 0, []⟩,
   ⟨0x04C, 1, 4, .rws, false, 0xFFFF, 0, 0, 0, []⟩,
   ⟨0x050, 1, 8, .rws, true, 0xFFFFFFFF, 0xFFFFFFFF, 0, 0, []⟩,
   ⟨0x060, 1, 4, .wo, false, 7, 0, 0, 4, []⟩,
   ⟨0x070, 1, 4, .rw, false, 0xFFFFF, 0, 0, 0, []⟩,
   ⟨0x074, 1, 8, .rw, true, 0xFFFFFFFF, 0xFFFFFFFF, 0, 0, []⟩,
   ⟨0x07C, 1, 4, .rw, false, 0xFFFFFFFF, 0, 0, 0, []⟩,
   ⟨0x080, 1, 4, .wo, false, 1, 0, 0, 0, []⟩,
   ⟨0x400, 1, 4, .ro, false, 0, 0, 0, 0, []⟩,
   ⟨0x404, 1, 4, .ro, false, 0, 0, 0, 0, []⟩,
   ⟨0x408, 1, 4, .ro, false, 0, 0, 0, 0, []⟩,
   ⟨0x410, 1, 8, .ro, true, 0, 0, 0, 0, []⟩,
   ⟨0x418, 1, 8, .ro, true, 0, 0, 0, 0, []⟩,
   ⟨0x420, 1, 4, .ro, false, 0, 0, 0, 0, []⟩,
   ⟨0x424, 1, 4, .ro, false, 0, 0, 0, 0, []⟩,
   ⟨0x428, 1, 4, .ro, false, 0, 0, 0, 0, []⟩,
   ⟨0x42C, 1, 4, .ro, false, 0, 0, 0, 0, []⟩,
   ⟨0x430, 1, 4, .ro, false, 0, 0, 0, 0, []⟩,
   ⟨0x440, 1, 4, .ro, false, 0, 0, 0, 0, []⟩,
   ⟨0x800, 12, 4, .cnt, false, 0, 0, 0, 0, []⟩,
   ⟨0x840, 2, 8, .cnt, true, 0, 0, 0, 0, []⟩]

/-- Registers of the SHF page set. -/
def rowsSHF : List RegDef :=
  [⟨0x040, 1, 4, .rws, false, 0xFFFF070F, 0, 0x00C80303, 0, [⟨31, 16, 10, 10000, true, false, false⟩, ⟨10, 8, 1, 7, true, false, false⟩, ⟨3, 0, 2, 15, true, false, false⟩]⟩,
   ⟨0x050, 1, 4, .rw, false, 3, 0, 0, 3, [⟨1, 0, 0, 2, false, false, false⟩]⟩,
   ⟨0x060, 1, 4, .wo, false, 0x3003F, 0, 0, 0, []⟩,
   ⟨0x400, 1, 4, .ro, false, 0, 0, 0xFFFFFF, 0, []⟩,
   ⟨0x404, 2, 4, .ro, false, 0, 0, 0, 0, []⟩,
   ⟨0x40C, 1, 4, .ro, false, 0, 0, 0, 0, []⟩,
   ⟨0x410, 1, 4, .ro, false, 0, 0, 0x06400000, 0, []⟩,
   ⟨0x800, 10, 4, .cnt, false, 0, 0, 0, 0, []⟩,
   ⟨0x840, 2, 8, .cnt, true, 0, 0, 0, 0, []⟩]

/-- Registers of the HLT page set. -/
def rowsHLT : List RegDef :=
  [⟨0x040, 1, 4, .rws, false, 0xFFFF0000, 0, 0x016D0000, 0, []⟩,
   ⟨0x060, 1, 4, .wo, false, 0x3001F, 0, 0, 0x3001F, []⟩,
   ⟨0x080, 8, 4, .rws, false, 0xFFFFFFFF, 0, 0, 0, []⟩,
   ⟨0x400, 1, 4, .ro, false, 0, 0, 0xFFFFFFFF, 0, []⟩,
   ⟨0x404, 1, 4, .ro, false, 0, 0, 0, 0, []⟩,
   ⟨0x410, 8, 4, .ro, false, 0, 0, 0, 0, []⟩,
   ⟨0x440, 6, 8, .ro, false, 0, 0, 0, 0, []⟩,
   ⟨0x444, 6, 8, .ro, false, 0, 0, 0, 0, []⟩,
   ⟨0x480, 8, 4, .ro, false, 0, 0, 0, 0, []⟩,
   ⟨0x4A0, 8, 4, .ro, false, 0, 0, 0xFFFFFFFF, 0, []⟩,
   ⟨0x800, 5, 4, .cnt, false, 0, 0, 0, 0, []⟩]

/-! ### Pages (R34) -/

/-- The blocks of R34. -/
inductive Block
  | sys | pwr | rst | ksu | tmp | mem | cru | tsu | mac | swc | sva | flt | adc | cyc | vfm | skd | tal | dfo | hws
  | acq | evr | dup | shf | hlt
  deriving DecidableEq, Repr

/-- The block a page belongs to and the page's index within the block's pages (R34); none on a reserved page. -/
def pageBlock (p : Nat) : Option (Block × Nat) :=
  if p = 0x000 then some (.sys, 0) else if p = 0x001 then some (.pwr, 0) else if p = 0x002 then some (.rst, 0)
  else if p = 0x010 then some (.ksu, 0) else if p = 0x011 then some (.tmp, 0)
  else if p = 0x020 then some (.mem, 0) else if p = 0x021 then some (.cru, 0) else if p = 0x030 then some (.tsu, 0)
  else if 0x040 ≤ p ∧ p ≤ 0x049 then some (.mac, p - 0x040)
  else if 0x050 ≤ p ∧ p ≤ 0x05F then some (.swc, p - 0x050)
  else if 0x080 ≤ p ∧ p ≤ 0x09F then some (.sva, p - 0x080)
  else if 0x0C0 ≤ p ∧ p ≤ 0x0FF then some (.flt, p - 0x0C0)
  else if 0x100 ≤ p ∧ p ≤ 0x101 then some (.adc, p - 0x100)
  else if 0x110 ≤ p ∧ p ≤ 0x11F then some (.cyc, p - 0x110)
  else if 0x140 ≤ p ∧ p ≤ 0x17F then some (.vfm, p - 0x140)
  else if 0x180 ≤ p ∧ p ≤ 0x18F then some (.skd, p - 0x180)
  else if 0x190 ≤ p ∧ p ≤ 0x197 then some (.tal, p - 0x190)
  else if p = 0x198 then some (.dfo, 0)
  else if 0x1A0 ≤ p ∧ p ≤ 0x1A1 then some (.hws, p - 0x1A0)
  else if 0x1B0 ≤ p ∧ p ≤ 0x1B4 then some (.acq, p - 0x1B0)
  else if p = 0x1C0 then some (.evr, 0) else if p = 0x1D0 then some (.dup, 0)
  else if p = 0x1E0 then some (.shf, 0) else if p = 0x1F0 then some (.hlt, 0)
  else none

/-- Block code (R34). -/
def Block.code : Block → Nat
  | .sys => 0x0001 | .pwr => 0x0002 | .rst => 0x0003 | .ksu => 0x0010 | .tmp => 0x0011 | .mem => 0x0020
  | .cru => 0x0021 | .tsu => 0x0030 | .mac => 0x0040 | .swc => 0x0050 | .sva => 0x0080 | .flt => 0x00C0
  | .adc => 0x0100 | .cyc => 0x0110 | .vfm => 0x0140 | .skd => 0x0180 | .tal => 0x0190 | .dfo => 0x0198
  | .hws => 0x01A0 | .acq => 0x01B0 | .evr => 0x01C0 | .dup => 0x01D0 | .shf => 0x01E0 | .hlt => 0x01F0

/-- Pages per instance (R34). -/
def Block.pages : Block → Nat
  | .swc => 16 | .sva => 32 | .hws => 2 | .acq => 5 | _ => 1

/-- First page of a block (R34). -/
def Block.base : Block → Nat
  | .sys => 0x000 | .pwr => 0x001 | .rst => 0x002 | .ksu => 0x010 | .tmp => 0x011 | .mem => 0x020
  | .cru => 0x021 | .tsu => 0x030 | .mac => 0x040 | .swc => 0x050 | .sva => 0x080 | .flt => 0x0C0
  | .adc => 0x100 | .cyc => 0x110 | .vfm => 0x140 | .skd => 0x180 | .tal => 0x190 | .dfo => 0x198
  | .hws => 0x1A0 | .acq => 0x1B0 | .evr => 0x1C0 | .dup => 0x1D0 | .shf => 0x1E0 | .hlt => 0x1F0

/-- PAGE_CAPS of a page (R488 and the chapters' PAGE_CAPS sentences). The SYS value is DEDUCED (log 1): the spec
states none, and the SYS page has counters (R51) and a table window (R53). -/
def pageCaps (p : Nat) : Nat :=
  match pageBlock p with
  | none => 0
  | some (b, i) =>
    match b with
    | .sys => 0x06 | .pwr => 0x03 | .rst => 0x0B | .ksu => 0x4E | .tmp => 0x0F | .mem => 0x4F | .cru => 0x43
    | .tsu => 0x0B
    | .mac => if i ≤ 5 || i = 8 then 0x4F else 0x4B
    | .swc => if i = 0 then 0x17 else if i ≤ 13 then 0x13 else if i = 14 then 0x11 else 0x10
    | .sva => if i = 0 then 0x77 else 0x10
    | .flt => 0x27 | .adc => 0x63
    | .cyc => if i = 0 then 0x6F else 0x2B
    | .vfm => if i = 0 then 0x47 else 0x43
    | .skd => 0x42 | .tal => 0x6F | .dfo => 0x4B
    | .hws => if i = 0 then 0x5F else 0x5A
    | .acq => if i = 0 then 0x77 else 0x53
    | .evr => 0x47 | .dup => 0x4F | .shf => 0x4F | .hlt => 0x0F

/-- The highest IRQ_STATUS bit of a page (R52 and each chapter's IRQ bits): bits 4 up to it are the block's own; the pages of a multi-page
block that name none have the common four. -/
def irqTop (p : Nat) : Nat :=
  match pageBlock p with
  | none => 0
  | some (b, i) =>
    match b with
    | .sys => 3 | .pwr => 8 | .rst => 4 | .ksu => 8 | .tmp => 6 | .mem => 11 | .cru => 5 | .tsu => 12 | .mac => 10
    | .swc => if 1 ≤ i ∧ i ≤ 12 then 6 else 3
    | .sva => if i = 0 then 8 else 3
    | .flt => 8 | .adc => 10 | .cyc => 12 | .vfm => 10 | .skd => 5 | .tal => 11 | .dfo => 4 | .hws => 12
    | .acq => if i = 0 then 11 else 3
    | .evr => 10 | .dup => 11 | .shf => 8 | .hlt => 6

/-- The bits of IRQ_STATUS, IRQ_ENABLE and IRQ_FORCE a page has; the others are reserved and read 0 (R11, R52). -/
def irqMask (p : Nat) : Word := w32 (2 ^ (irqTop p + 1) - 1)

/-- The registers of a page beside its header, counters' snapshot and table window. -/
def pageRows (p : Nat) : List RegDef :=
  match pageBlock p with
  | none => []
  | some (b, i) =>
    match b with
    | .sys => rowsSYS | .pwr => rowsPWR | .rst => rowsRST | .ksu => rowsKSU | .tmp => rowsTMP | .mem => rowsMEM
    | .cru => rowsCRU | .tsu => rowsTSU | .mac => rowsMAC
    | .swc => if i = 0 then rowsSWC else if i = 11 then rowsSWCPH else if i ≤ 12 then rowsSWCP else if i = 13 then rowsSWCR
              else if i = 14 then rowsSWCH else []
    | .sva => if i = 0 then rowsSVA else if i = 1 then rowsSVA1 else if i = 2 then rowsSVA2 else []
    | .flt => rowsFLT | .adc => rowsADC
    | .cyc => if i = 0 then rowsCYC0 ++ rowsCYC ++ rowsCYCP.filter (fun r => r.acc != .cnt) else rowsCYC ++ rowsCYCP
    | .vfm => if i = 0 then rowsVFM ++ rowsVFM0 else rowsVFM
    | .skd => rowsSKD | .tal => rowsTAL | .dfo => rowsDFO
    | .hws => if i = 0 then rowsHWSA ++ rowsHWS else rowsHWS
    | .acq => if i = 0 then rowsACQ0 else rowsACQS
    | .evr => rowsEVR | .dup => rowsDUP | .shf => rowsSHF | .hlt => rowsHLT

/-- The place of an offset in a row: index within the row and whether it is the high word of a 64-bit register. -/
def RegDef.at (r : RegDef) (off : Nat) : Option (Nat × Bool) :=
  if off < r.off then none
  else
    let d := off - r.off
    let i := d / r.stride
    if i < r.n then
      if d % r.stride = 0 then some (i, false)
      else if r.wide && d % r.stride = 4 then some (i, true) else none
    else none

/-- The row that holds an offset of a page. -/
def regAt (p off : Nat) : Option (RegDef × Nat × Bool) :=
  (pageRows p).findSome? (fun r => (r.at off).map (fun x => (r, x.1, x.2)))

/-- Reset value of the register word at a page offset (low and high word separately), for the SDN-YV64-E. -/
def regReset (p off : Nat) : Word :=
  match regAt p off with
  | none => 0
  | some (r, i, hi) =>
    if hi then w32 (r.rst >>> 32)
    else
      match pageBlock p with
      | some (.mac, n) =>
        if off = R.MAC_CFG then (if n ≤ 5 then 0x900 else if n ≤ 7 then 0x903 else if n = 8 then 0x800 else 0x904)
        else w32 r.rst
      | some (.swc, n) =>
        if n = 0 && r.off = R.SWC_ET_CLASS then
          (if i = 0 then 0x800788F7 else if i = 1 then 0x800688B8 else if i = 2 then 0x800588BA else 0)
        else if 1 ≤ n && n ≤ 12 && r.off = R.SWC_QAGE then
          (if n = 11 then (if i ≤ 3 then 0x7D0 else 0) else if i = 5 || i = 6 then 0x7D0 else 0)
        else w32 r.rst
      | some (.sva, n) =>
        if n = 1 && r.off = R.SVA_STATE_MAP then (if i < 16 then 0xFFFFFFFF else 0) else w32 r.rst
      | _ => w32 r.rst

end Sys2Proof.Machine
end

