-- ==== Sys2Proof/Machine/Blocks.lean ====
section
/-!
DEFINITION. The records State is made of, block by block: page headers (R36), table windows (R56), interrupt vectors
(R53), and every block's own state in the spec's terms. Plain data only.
-/
namespace Sys2Proof.Machine

/-- Ordering codes (R2). -/
inductive OrderCode
  | e | eo | yv32
  deriving DecidableEq, Repr

/-- What is fixed for one module and what its straps and pins present at the connectors (R2, R3, R353, R445, R463). -/
structure Ident where
  code : OrderCode := .e
  coated : Bool := false
  /-- SLOT_ID straps as read at the last power-on reset; every strap open reads 63 (R466). -/
  slotPins : Nat := 63
  /-- SHELF_ID straps as read at the last power-on reset (R466). -/
  shelfPins : Nat := 63
  /-- ROLE_SEL strap: 0 open, worker; 1 tied to GND, manager (R445). -/
  rolePins : Nat := 0
  /-- PAIR_SIDE strap: 2 tied to GND, side B; else open, side A (R353, R466). -/
  pairPins : Nat := 0
  /-- KEY_UPDATE_MODE fuse (R408). -/
  keyUpdateMode : Nat := 0
  deriving DecidableEq, Repr

/-- A page's header (R36, R487) and lock (R48). Times are in clocks of the free-running 250 MHz time-island clock or
in nanoseconds of station time as named. -/
structure Hdr where
  enable : Bool := false
  activeView : Bool := false
  /-- An accepted START that no STOP has followed (R487). -/
  started : Bool := false
  /-- Station time in ns of a STOP that waits for its safe boundary (R37). -/
  stopNs : Option Nat := none
  busy : Bool := false
  cfgErr : Bool := false
  commitPending : Bool := false
  /-- Station time of the pending COMMIT, in ns (R47). -/
  commitNs : Nat := 0
  fenced : Bool := false
  degraded : Bool := false
  irqStatus : Word := 0
  irqEnable : Word := 0
  errCode : Word := 0
  lockSeen : Bool := false
  unlocked : Bool := false
  unlockClk : Nat := 0
  routeEn : Bool := false
  vector : Nat := 0
  snapTag : Word := 0
  commitTag : Word := 0
  /-- CNT_SAT has been set since the last CNT_CLEAR (R51). -/
  satSeen : Bool := false
  deriving DecidableEq, Repr

/-- A table window (R56, R57): TBL_ADDR, TBL_DATA as a sparse store by word number, BUSY, the entry buffer of a
segmented read, the assembly of a segmented write, and the entry write that becomes effective when BUSY clears. -/
structure TblWin where
  addr : Nat := 0
  data : List (Nat × Word) := []
  busy : Bool := false
  buf : Option (Nat × List Word) := none
  asm : Option (Nat × List Word) := none
  pend : Option (Nat × List Word) := none
  deriving DecidableEq, Repr

/-- An interrupt vector (R53): OWNER, TARGET (0 Vehus, 1 host MSI-X, 2 core pair), MASK, PENDING, MSI-X entry. -/
structure Vec where
  owner : Nat := 0
  target : Nat := 0
  mask : Bool := false
  pending : Bool := false
  hostIdx : Nat := 0
  deriving DecidableEq, Repr

/-! ### TSU (chapter 4) -/

/-- Sync states of R99. -/
inductive Sync
  | unlocked | locked | holdover | holdExceeded
  deriving DecidableEq, Repr

/-- SYNC code of TSU_STATE. -/
def Sync.code : Sync → Nat
  | .unlocked => 0 | .locked => 1 | .holdover => 2 | .holdExceeded => 3

/-- A captured edge (R110). -/
structure TiEdge where
  sec : Nat
  ns : Nat
  frac : Nat
  falling : Bool
  deriving DecidableEq, Repr

/-- A time output (R108, R109): armed, LATE, the next leading edge S + n × PERIOD in full ns, whether that edge is
due at once because arming or a step found it in the past, the pulse in progress and its end. -/
structure TimeOut where
  armed : Bool := false
  late : Bool := false
  /-- Full time S of the first edge. -/
  firstNs : Nat := 0
  nextNs : Nat := 0
  /-- The first edge has been given; the full time of the last one given. -/
  given : Bool := false
  lastNs : Nat := 0
  lateFire : Bool := false
  pulse : Bool := false
  pulseEndNs : Nat := 0
  deriving DecidableEq, Repr

/-- A capture input (R110): its FIFO, and the full time in ns of the last captured edge. -/
structure TimeIn where
  fifo : List TiEdge := []
  lastNs : Option Nat := none
  deriving DecidableEq, Repr

/-- The time-stamp unit's state beside its registers. `now` is station time in units of 10^-12 ns, so that a rate in
units of 10^-12 and a slew in ppm act exactly at each 4 ns clock; `clk` counts the island's free-running clock. -/
structure Tsu where
  clk : Nat := 0
  now : Nat := 0
  sync : Sync := .unlocked
  wdogEntry : Bool := false
  /-- Clock of the last restart of the discipline watchdog (R99). -/
  wdogClk : Nat := 0
  /-- The rate in force, units of 10^-12. -/
  rate : Int := 0
  /-- Rates in force with the clock each began at, newest first, for the 16 s mean of R100. -/
  rateHist : List (Nat × Int) := [(0, 0)]
  /-- Slew: whether one is in progress and the offset not yet applied, in 10^-12 ns (R97). -/
  slewing : Bool := false
  slewLeft : Int := 0
  /-- Clock of the entry to holdover (R101). -/
  holdClk : Nat := 0
  /-- Last tick issued, as SEC × 4,800 + k, and the next one to issue (R95, R98). -/
  lastTick : Nat := 0
  nextTick : Nat := 1
  /-- Station time in ns set by the last STEP, and the last tick issued before it (R98, R182). -/
  stepNs : Nat := 0
  stepTick : Nat := 0
  /-- Backward steps so far (R270). -/
  backSteps : Nat := 0
  outs : List TimeOut := [{}, {}, {}, {}]
  ins : List TimeIn := [{}, {}, {}, {}]
  deriving DecidableEq, Repr

/-! ### MAC and Crosscut (chapter 3) -/

/-- One frame in an egress queue or in flight: the Landing identity it shares with the other targets' entries, the
frame as this port will send it, its cells, its ingress short stamp and port (0 to 9, 11 H1, 12 the module's own
generator), the bound receive selector (R74), the OVERSIZE and FCS_UNCHECKED marks (R66), a transmit stamp request
(R106), the one-step request with the answered ingress stamp (R104), and the egress stamp once started. -/
structure QEntry where
  id : Nat
  frame : Frame
  cells : Nat
  stamp : Nat
  ing : Nat
  rsel : Nat
  oversize : Bool := false
  tsReq : Option Nat := none
  oneStep : Option Nat := none
  /-- Egress stamp as total ns and FRAC, once started. -/
  egNs : Nat := 0
  egFrac : Nat := 0
  /-- Function instance that posted the frame, if one did. -/
  fn : Option Nat := none
  /-- FRAC of the ingress stamp and FRAC_VALID (R91). -/
  frac : Nat := 0
  fracOk : Bool := false
  /-- The ingest lane bound at ingress (R74, R79). -/
  lane : Nat := 0
  deriving DecidableEq, Repr

/-- An egress port of the Crosscut (R71 to R78): eight queues, frames in flight (one; on H0 one per lane), the
operating gate bank and entry, whether a bank change is pending. -/
structure EgPort where
  q : List (List QEntry) := [[], [], [], [], [], [], [], []]
  fly : List QEntry := []
  gateBank : Bool := false
  gateEntry : Nat := 0
  gatePending : Bool := false
  /-- Station time in ns at which the pending change was committed (R73). -/
  gateReqNs : Nat := 0
  /-- The gate list in operation: on, its BASE (ns), cycle (ns) and length as they were committed with its bank. -/
  gateOn : Bool := false
  gateBase : Nat := 0
  gateCycle : Nat := 0
  gateLen : Nat := 0
  deriving DecidableEq, Repr

/-- A frame MAC's state beside its registers (R61 to R70, R76, R107): the link, pause, cage supply and stamp FIFO. -/
structure Mac where
  linkUp : Bool := false
  fecLock : Bool := false
  txFault : Bool := false
  los : Bool := false
  present : Bool := false
  paused : Bool := false
  /-- The pause stops transmission only once the frame in flight has left (R70). -/
  pauseWait : Bool := false
  /-- Clock at which the pause quanta run out, and at which transmission first stopped. -/
  pauseEndClk : Nat := 0
  pauseStartClk : Nat := 0
  holdoff : Bool := false
  holdoffEndClk : Nat := 0
  /-- Transmit stamp FIFO: stamp, tag, FRAC, FRAC_VALID. -/
  tsf : List (Nat × Nat × Nat × Bool) := []
  lastTag : Nat := 0
  /-- The cage supply is switched off after an overcurrent (R469). -/
  supplyOff : Bool := false
  deriving DecidableEq, Repr

/-- A duplicate entry (R83): source, pair, highest sequence number, the 64-frame window (bit d: HIGH_SEQ - d seen)
and the clock of the last frame. -/
structure DupEntry where
  sa : Nat
  pair : Nat
  high : Nat
  window : Nat
  lastClk : Nat
  deriving DecidableEq, Repr

/-- A node table entry (R81, R84): the node, last-seen short stamp per LAN, whether it is a proxied node of a RedBox. -/
structure NodeEntry where
  mac : Nat
  lanA : Option Nat := none
  lanB : Option Nat := none
  proxied : Bool := false
  deriving DecidableEq, Repr

/-- A two-step Sync entry of the transparent clock (R105). -/
structure TcEntry where
  ing : Nat
  src : Nat
  seq : Nat
  domain : Nat
  syncClk : Nat
  /-- Egress ports the Sync was accepted on, with the residence in ns once it has left there. -/
  res : List (Nat × Option Int)
  deriving DecidableEq, Repr

/-- A frame posted through H1 that waits to be classified and written (R68). -/
structure H1Item where
  /-- Posting function instance; none for a frame of the module's own (publications, supervision). -/
  fn : Option Nat
  frame : Frame
  /-- Sequence number the descriptor supplies for a redundancy pair (R82, R369). -/
  seq : Option Nat := none
  tsReq : Option Nat := none
  oneStep : Option Nat := none
  /-- Ring that posted it (2 × QP), its DIRECT port mask, a queue fixed for it (R227, R245). -/
  ring : Option Nat := none
  direct : Option Nat := none
  queue : Option Nat := none
  deriving DecidableEq, Repr

/-- The Crosscut's state beside its registers and tables. -/
structure Swc where
  /-- Frames held in the Landing: identity, cells and reference count (R77). -/
  landing : List (Nat × Nat × Nat) := []
  nextId : Nat := 0
  minFree : Nat := 65536
  h1q : List H1Item := []
  /-- Ingest-lane crossings (R14): frames written and not yet taken, lanes 0 to 3. -/
  lanes : List (List QEntry) := [[], [], [], []]
  /-- Frames delivered to H1 and not yet handed on (R230). -/
  h1rx : List QEntry := []
  dups : List (Nat × DupEntry) := []
  nodes : List (Nat × NodeEntry) := []
  /-- Clock of the last refresh of a dynamic FDB entry, by entry number. -/
  fdbRef : List (Nat × Nat) := []
  /-- Own 16-bit sequence counter of each pair (R82). -/
  pairSeq : List Nat := [0, 0, 0, 0]
  supClk : List Nat := [0, 0, 0, 0]
  tc : List TcEntry := []
  /-- Source addresses under which frames have been posted through H1: the module's own beside MAC_ADDR (R83). -/
  ownSrc : List Nat := []
  /-- Addresses of receive SA entries that have accepted PN 0xFFFFFFFF: their lowest acceptable PN is 2^32 (R86). -/
  pnSpent : List Nat := []
  /-- Frames of the DUP block that wait for the frame in flight on P8, oldest first (R64). -/
  yard : List Frame := []
  deriving DecidableEq, Repr

/-! ### Sample plane (chapter 5) -/

/-- A placed sample: its number S × F + c (SYNC) or smpCnt and instant e in 2^-16 ns (UNSYNC), and its channels with
their quality as R134 forms it. -/
structure Sample where
  idx : Nat
  inst : Int := 0
  vals : List (Int × Nat)
  deriving DecidableEq, Repr

/-- A stream of the sample plane by stream slot (R113, R115, R132, R137): what the entry held when it became valid that
outlives it, the state, the status entry, the placed samples, the unsynchronised estimate and the values HOLD keeps. -/
structure Stream where
  valid : Bool := false
  /-- Its stream and channel slots are held: until the close after its removal (R115). -/
  held : Bool := false
  /-- Which making-valid of the slot the record belongs to (the model's own mark). -/
  gen : Nat := 0
  /-- Station time in ns from which the ingress of its frames counts (R115). -/
  fromNs : Nat := 0
  slots : Nat := 1
  chBase : Nat := 0
  nch : Nat := 0
  /-- First tick it places samples into (R115). -/
  fromTick : Nat := 0
  /-- 1 WAIT, 2 RUN, 3 GAP, 4 SILENT, 5 REJECT. -/
  state : Nat := 1
  cause : Nat := 0
  lastSynch : Nat := 0
  lastCnt : Nat := 0
  lastStamp : Nat := 0
  lastPresent : Nat := 0
  missRun : Nat := 0
  presRun : Nat := 0
  /-- Every tick of the missing run had a discarded frame; ticks with discarded frames. -/
  runRej : Bool := false
  rej : List Nat := []
  /-- Counters by status word 6 to 15; 16 is CNT_AUTH_ALT. -/
  cnts : List (Nat × Nat) := []
  samples : List Sample := []
  est : Int := 0
  cPrev : Option Nat := none
  hold : List Int := []
  deriving DecidableEq, Repr

/-- A stranger (R136). -/
structure Stranger where
  port : Nat
  noAsdu : Nat
  synch : Nat
  appid : Nat
  sa : Nat
  vid : Nat
  channels : Nat
  first : Nat
  last : Nat
  frames : Nat
  svid : List Byte
  deriving DecidableEq, Repr

/-- A stream as the close of a tick found it: its record without the samples, its entry, the grid values where it is locally present, the
SUBST_VALUEs of its channels (R125, R133, R137). -/
structure FrozenStr where
  str : Stream
  sub : List Word
  got : Option (List (Int × Nat)) := none
  subst : List Int := []
  deriving DecidableEq, Repr

/-- A tick frozen at its close and not yet final: station time and SYNC at the close, the valid streams by slot, the partner's map once it is
here, the GOOSE states and expired subscriptions this module reports for it (R125, R128, R358). -/
structure Frozen where
  tick : Nat
  closeNs : Nat
  sync : Nat := 0
  strs : List (Nat × FrozenStr) := []
  map : Option PMap := none
  report : List GState := []
  expired : List Nat := []
  deriving DecidableEq, Repr

/-- The plane's state beside its registers, tables and history. -/
structure Sva where
  streams : List (Nat × Stream) := []
  strHead : Nat := 0
  strangers : List Stranger := []
  /-- Started ticks not yet closed, with their close instants in ns (R125, R126). -/
  toClose : List (Nat × Nat) := []
  lastClosed : Option Nat := none
  /-- Ticks closed and not yet final, oldest first. -/
  frozen : List Frozen := []
  /-- Marks given to streams so far. -/
  gens : Nat := 0
  heldMaps : List PMap := []
  /-- Final ticks, newest first, at most 32: tick number, SOLO, and clock of the completion. -/
  finals : List (Nat × Bool × Nat) := []
  mapOwn : List Nat := []
  mapPartner : List Nat := []
  mapAgreed : List Nat := []
  deriving DecidableEq, Repr

/-! ### Filter engines (chapter 6) -/

/-- State of one stage: its last inputs (I, Q), newest first, MA's sums, DEC's count, THR's pickup and qualifier. -/
structure StageSt where
  hist : List (Int × Int) := []
  sumI : Int := 0
  sumQ : Int := 0
  cnt : Nat := 0
  picked : Bool := false
  qual : Nat := 0
  deriving DecidableEq, Repr

/-- A filter chain that has been started at least once (R154 to R161). -/
structure Chain where
  running : Bool := false
  /-- STOP takes effect at the end of the current run (R159). -/
  stopping : Bool := false
  stages : List StageSt := []
  /-- Input samples received since START, the last channel switch or a restart of the source. -/
  fill : Nat := 0
  /-- Times the count began anew, and those of the source the count goes with (R154). -/
  gen : Nat := 0
  srcGen : Nat := 0
  /-- Qualities of the last SETTLE input samples, newest first. -/
  win : List Nat := []
  sat : Bool := false
  valid : Bool := false
  trackLost : Bool := false
  outI : Int := 0
  outQ : Int := 0
  outQual : Nat := 0
  delay : Nat := 0
  settle : Nat := 0
  cost : Nat := 0
  startTag : Word := 0
  deriving DecidableEq, Repr

/-- State of a reference (R146 to R148): phase at sub-step 0 of the last run, and the frequency in use (Q16.16) and the lost
state in that run; the tracked frequency for the next run, the period history in 1/65,536 output samples, newest first, the
last output of the source, the place of the last crossing, outputs counted, and whether it is lost. -/
structure RefSt where
  /-- It has made a run in MODE = TRACK. -/
  active : Bool := false
  phi : Nat := 0
  /-- Tick number of its last run. -/
  run : Nat := 0
  used : Nat := 0
  lostRun : Bool := false
  freq : Nat := 0
  periods : List Nat := []
  prev : Option Int := none
  /-- Place of the crossing a period begins at; none after outputs that do not follow one another. -/
  lastCross : Option Nat := none
  /-- Place of the last crossing seen. -/
  seen : Nat := 0
  outIdx : Nat := 0
  /-- Valid periods within the range since the reference was last lost or one was not. -/
  good : Nat := 0
  lost : Bool := true
  deriving DecidableEq, Repr

/-- A threshold event (R152). -/
structure ThrEvent where
  chain : Nat
  stage : Nat
  pickup : Bool
  tick : Nat
  phase : Nat
  i : Int
  q : Int
  deriving DecidableEq, Repr

/-- A filter engine. -/
structure FltEng where
  chains : List (Nat × Chain) := []
  refs : List RefSt := [{}, {}, {}, {}]
  /-- The references as the last runs left them, newest first, at most 33 (R149). -/
  refsHist : List (Nat × List RefSt) := []
  /-- Copies requested by FLT_REF_CMD: destination, source engine, source reference. -/
  copies : List (Nat × Nat × Nat) := []
  /-- A START has been given that lets a pending COMMIT become active at the next run (R162). -/
  startSeen : Bool := false
  /-- References whose configuration changed: chains that mix or track with them restart in the next run. -/
  changed : List Nat := []
  evts : List ThrEvent := []
  lastRun : Option Nat := none
  /-- First tick it may run: the first that becomes final after ENABLE is set. -/
  fromTick : Nat := 0
  /-- Clock at which the last run ends. -/
  endClk : Nat := 0
  /-- FLT_LAST_TICK and FLT_RUN_TIME while the last run is not complete: those of the run before it. -/
  shown : Word × Word := (0, 0)
  deriving DecidableEq, Repr

/-! ### Memory (chapter 16) -/

/-- An entry of the error log (R387): reported address, kind, requester with its index, syndrome, tick tag. -/
structure MemLog where
  addr : Nat
  kind : Nat
  req : Nat
  idx : Nat
  syn : Nat
  tag : Word
  deriving DecidableEq, Repr

/-- The Cruiser's running lap of a memory (R390, R391): next word, laps completed, clock of its start, LAP_WARN, and
whether the running lap has raised it. -/
structure Lap where
  pos : Nat := 0
  no : Nat := 0
  startClk : Nat := 0
  warn : Bool := false
  raised : Bool := false
  deriving DecidableEq, Repr

/-- Memory integrity state: error log, remap tracker (word address, corrections, lap of the last one), saved remap list
with SAVED marks pending its clearing, the Cruiser's laps, flash wear. -/
structure MemSt where
  log : List MemLog := []
  track : List (Nat × Nat × Nat) := []
  saved : List Nat := []
  clearSaved : Bool := false
  laps : List (Nat × Lap) := []
  wearWarn : Bool := false
  readOnly : Bool := false
  deriving DecidableEq, Repr

/-! ### Event recorder (chapter 14) -/

/-- A record (R337, R338): SOURCE, CLASS, TYPE, SYNC, OWN_CLOCK, event time in total ns, OPTIME, PWR_CYCLES, body; SEQ
once accepted; REPEAT, REPEAT_SAT and LAST_DELTA (R344). -/
structure Rec where
  src : Nat
  cls : Nat
  typ : Nat
  sync : Nat := 0
  own : Bool := false
  ns : Nat := 0
  optime : Nat := 0
  pwr : Nat := 0
  body : List Nat
  seq : Nat := 0
  rep : Nat := 0
  repSat : Bool := false
  delta : Nat := 0
  deriving DecidableEq, Repr

/-- A segment of the flash deck (R346). -/
structure Seg where
  seq : Nat
  first : Nat
  pwr : Nat
  recs : List Rec
  deriving DecidableEq, Repr

/-- The event recorder's state beside its registers. -/
structure Evr where
  /-- Records in the crossings of R14, oldest first (R342). -/
  cross : List Rec := []
  ordBuf : List Rec := []
  /-- Fold table (R344): source and SEQ of its newest buffered record. -/
  fold : List (Nat × Nat) := []
  privQ : List Rec := []
  /-- Ring of the privileged area (R347): offset, length, SEQ (none: pad), not yet mirrored, oldest first. -/
  ring : List (Nat × Nat × Option Nat) := []
  /-- Valid records in the ring still to be mirrored. -/
  unmirrored : List Rec := []
  wptr : Nat := 0
  ordSeq : Nat := 0
  privSeq : Nat := 0
  mirrorSeq : Nat := 0
  optBase : Nat := 0
  pwrCycles : Nat := 1
  /-- A post whose body is being read: the record without its body, and the address. -/
  post : Option (Rec × Nat × Nat) := none
  /-- Records a running flush takes, and whether a further one follows it. -/
  flushing : Option Nat := none
  again : Bool := false
  /-- Records lost since the last record of type 0x05. -/
  lost : Nat := 0
  /-- Flash deck, newest segment first: ordinary region and mirror region; next segment sequence number of each; the SEQ up to which Vehus
  has archived. -/
  ordSegs : List Seg := []
  mirSegs : List Seg := []
  segSeq : Nat := 0
  mirSeq : Nat := 0
  releaseSeq : Option Nat := none
  nearFull : Bool := false
  /-- Step 3 of R349 has begun, or ended. -/
  pf3 : Bool := false
  pf4 : Bool := false
  deriving DecidableEq, Repr

/-! ### Local analog inputs (chapter 7) -/

/-- A slot of a converter: gain code in use under AUTO, results below the step-up limit in a row, last value, whether it
is outside its band. -/
structure AdcSlot where
  gain : Nat := 0
  up : Nat := 0
  last : Int := 0
  lastStamp : Nat := 0
  lastClip : Bool := false
  outside : Bool := false
  deriving DecidableEq, Repr

/-- The slot being converted: number, conversions done, sum of normalised raw values, clip seen, stamp of the first, gain
code, and the slot's configuration words as they stood at its start. -/
structure AdcScan where
  slot : Nat
  done : Nat := 0
  sum : Int := 0
  clip : Bool := false
  stamp : Nat := 0
  gain : Nat := 0
  cfg : List Word := []
  deriving DecidableEq, Repr

/-- A converter (R164 to R180). -/
structure Adc where
  /-- START has taken effect at a tick start. -/
  live : Bool := false
  stopping : Bool := false
  scan : Option AdcScan := none
  /-- Conversion in progress: urgent or not, start in ns, stamp, gain code. -/
  cur : Option (Bool × Nat × Nat × Nat) := none
  urgWait : Bool := false
  scanTick : Option Nat := none
  slots : List AdcSlot := List.replicate 16 {}
  /-- ADC_DATA: value, slot, input, gain code, stamp, and VALID, OVR, URGENT of the unread result. -/
  data : Int := 0
  info : Word := 0
  stamp : Nat := 0
  /-- INFO and STAMP as latched by the last read of ADC_DATA; none before the first. -/
  lat : Option (Word × Nat) := none
  calValid : Bool := false
  calBusy : Bool := false
  calNs : Nat := 0
  drift : Bool := false
  /-- AIN0 result of the present tick: value, quality, stamp. -/
  ain0 : Option (Int × Nat × Nat) := none
  deriving DecidableEq, Repr

/-- AIN0 plausibility (R175, R176): whether the tick's pair has been served, runs of mismatching and agreeing ticks. -/
structure Plaus where
  done : Bool := false
  bad : Nat := 0
  good : Nat := 0
  plaus : Bool := false
  single : Bool := false
  deriving DecidableEq, Repr

/-! ### Cycle executor (chapter 8) -/

/-- A task activation (R187 to R190): class (8: the error task), its cycle, whether it has finished, whether it has been
counted as an overrun, and the writes it has staged. -/
structure Act where
  cls : Nat
  cyc : Nat
  done : Bool := false
  counted : Bool := false
  writes : List (Nat × Point) := []
  deriving DecidableEq, Repr

/-- A function instance in the executor. -/
structure Inst where
  /-- 0 STOPPED, 1 RUN, 2 FAULT, 3 HELD. -/
  state : Nat := 0
  bank : Bool := false
  ovrRun : Nat := 0
  /-- Causes that arose since the last error call (R199). -/
  causes : Nat := 0
  errCause : Nat := 0
  errTag : Word := 0
  /-- Error block: kind and index of the first invalid item, number of invalid items. -/
  errFirst : Option (Nat × Nat) := none
  errCount : Nat := 0
  cntOvr : Nat := 0
  cntSkip : Nat := 0
  acts : List Act := []
  /-- Watched items invalid in the previous view. -/
  invalid : List (Nat × Nat) := []
  wrote : Nat := 0
  /-- Window of the present cycle: 0 not yet, 1 open, 2 over. -/
  window : Nat := 0
  /-- START given at this time in ns; STOP given. -/
  startNs : Option Nat := none
  stopReq : Bool := false
  /-- Safe values are due in the next kerf. -/
  safeReq : Bool := false
  /-- RESTART given: due tasks run from the next cycle. -/
  restart : Bool := false
  /-- In FAULT: its error task has still to run once. -/
  errOnce : Bool := false
  /-- Held for one cycle (R210, R247). -/
  heldCyc : Bool := false
  deriving DecidableEq, Repr

/-- An active force by table entry (R200, R201). -/
structure Force where
  point : Nat
  id : Nat
  hash : Nat
  value : Nat
  qual : Nat
  under : Option Point := none
  before : Point := {}
  deriving DecidableEq, Repr

/-- The on-line change (R205 to R210). -/
structure Olc where
  /-- 0 IDLE, 1 PREPARING, 2 PREPARED, 3 ARMED, 4 SWITCHING, 5 DONE. -/
  state : Nat := 0
  failOvr : Bool := false
  extended : Bool := false
  inst : Nat := 0
  tag : Nat := 0
  oldB : Bank := {}
  newB : Bank := {}
  deriving DecidableEq, Repr

/-- A GOOSE subscription's own state (R211 to R214). -/
structure GSub where
  /-- 0 OFF, 1 WAIT, 2 RUN, 3 EXPIRED. -/
  state : Nat := 0
  stNum : Nat := 0
  sqNum : Nat := 0
  stamp : Nat := 0
  deadline : Nat := 0
  members : List (Nat × Nat) := []
  frames : Nat := 0
  dup : Nat := 0
  expired : Nat := 0
  authFail : Nat := 0
  deriving DecidableEq, Repr

/-- A publication's own state (R216, R217): numbers, tick of the state, next repeat and its interval, member values. -/
structure GPub where
  started : Bool := false
  stNum : Nat := 0
  sqNum : Nat := 0
  lastTag : Word := 0
  /-- Tick of the state's cycle and its SecondsSinceEpoch, for t, with the SYNC states taken into account. -/
  tick : Nat := 0
  utc : Nat := 0
  syncs : List Nat := []
  /-- Tick of the first release of the state, and of the next release. -/
  relTick : Nat := 0
  next : Nat := 0
  last : List (Nat × Nat) := []
  stopped : Bool := false
  deriving DecidableEq, Repr

/-- The executor's state beside its tables. -/
structure Cyc where
  /-- Started ticks whose cycle has not begun. -/
  ticks : List Nat := []
  /-- Last cycle started, its boundary in ns; whether its kerf has run. -/
  cyc : Option Nat := none
  boundNs : Nat := 0
  kerfDone : Bool := false
  /-- The cycle waits for its tokens (R184); its view is fixed, and when its windows start. -/
  waiting : Bool := false
  viewed : Bool := false
  winNs : Nat := 0
  /-- A cycle has run instance tasks since the start (R437). -/
  ranTasks : Bool := false
  insts : List (Nat × Inst) := []
  adcStage : List (Nat × Nat × Point) := []
  /-- GOOSE writes in order of ingress: tag, point, what is written (a whole point, or quality bits of it). -/
  gooseStage : List (Nat × Nat × Option Nat × Nat × Nat) := []
  pfStage : List (Nat × Nat × Point) := []
  forces : List (Nat × Force) := []
  forceDirty : List Nat := []
  olc : Olc := {}
  gsubs : List (Nat × GSub) := []
  pubs : List (Nat × GPub) := []
  /-- Frames to be released at the next boundary, by publication. -/
  release : List (Nat × Frame) := []
  /-- Points as they were before the last two kerfs changed them: cycle, point, old content (R194). -/
  past : List (Nat × Nat × Point) := []
  /-- Cycle of the last kerf. -/
  lastKerf : Option Nat := none
  /-- Least slack per pair and core since CNT_CLEAR. -/
  slack : List (Nat × Nat) := []
  /-- BUDGET, ORDER and WR_QUOTA as active, by instance: words 0 and 1 of its entry (R221). -/
  active : List (Nat × Nat × Nat) := []
  /-- SYNC codes taken into account for t at the closes of recent ticks (R217). -/
  closeSync : List (Nat × List Nat) := []
  deriving DecidableEq, Repr

/-! ### Duplex pair (chapter 15) -/

/-- The DUP block's state beside its registers and tables. -/
structure Dup where
  /-- 0 OFF, 1 PAIRING, 2 SYNCED, 3 RESYNC, 4 DIVERGED, 5 SOLO, 6 YIELDED, 7 CONFLICT. -/
  state : Nat := 0
  active : Bool := false
  /-- SVA_CFG.PAIRED as it stands (R355). -/
  paired : Bool := false
  /-- Clock of the entry to PAIRING. -/
  pairClk : Nat := 0
  /-- A change decided, effective at the next boundary: state, role, cause (R354). -/
  pend : Option (Nat × Bool × Nat) := none
  /-- Last SYNC frame received, and the last few, newest first. -/
  partner : Option SyncMsg := none
  syncs : List SyncMsg := []
  hbMiss : Nat := 0
  cause : Nat := 0
  mismatch : Bool := false
  /-- Consecutive heartbeats whose DUP_CONFIG_ID differs. -/
  cfgDiff : Nat := 0
  /-- Own hashes by cycle with NOCMP, newest first. -/
  hashes : List (Nat × Nat × Bool) := []
  /-- Ticks that closed solo, newest first. -/
  solos : List Nat := []
  /-- Injections of this module not yet past their cycle, and how many the present cycle has taken. -/
  inj : List (Nat × Nat × Point) := []
  injNow : Nat := 0
  injSeen : List (Nat × Nat) := []
  mirRx : Option (Nat × List Nat) := none
  reqResync : Bool := false
  resyncTick : Option Nat := none
  answer : Option Nat := none
  matches_ : Nat := 0
  /-- Adopted in the present resynchronisation: references and tally points by engine, publications and subscriptions, mirror. -/
  refsFrom : List Nat := []
  ptsFrom : List Nat := []
  adoptedPubs : Bool := false
  adoptedMir : Bool := false
  reqSwap : Bool := false
  swapTick : Option Nat := none
  ack : Bool := false
  confirm : Bool := false
  healthyClk : Nat := 0
  /-- ADC writes to shared points by the tick they were made in (R359). -/
  shared : List (Nat × Nat × Point) := []
  /-- New states accepted since the last MAP frame (R358). -/
  gooseNew : List GState := []
  /-- Frames of the DUP block received on P8 and not yet handled. -/
  rx : List Body := []
  deriving DecidableEq, Repr

/-! ### Function instances and skidders (chapter 9) -/

/-- A queue pair's rings (R226, R228): heads and tails, stopped with direction and status. -/
structure Qp where
  txHead : Nat := 0
  txTail : Nat := 0
  rxHead : Nat := 0
  rxTail : Nat := 0
  /-- Status that stopped the transmit and the receive ring (R228), and which ring stopped first. -/
  txStop : Option Nat := none
  rxStop : Option Nat := none
  stopDir : Nat := 0
  deriving DecidableEq, Repr

/-- An operation of a ring (R227 to R231): ring 2 × QP + direction, function, kind (1 FRAME, 2 COPY, 3 RXBUF), descriptor
words and address, source, destination, length, bytes issued for reading and writing, bytes accepted by memory, data so
far, source offsets that were poisoned, the final status once known, the words a receive completion writes. -/
structure Op where
  ring : Nat
  fn : Nat
  kind : Nat
  desc : List Word
  addr : Nat
  src : Nat := 0
  dst : Nat := 0
  len : Nat := 0
  rdNext : Nat := 0
  wrNext : Nat := 0
  wrDone : Nat := 0
  buf : List Nat := []
  pois : List Nat := []
  memErr : Bool := false
  cut : Bool := false
  trunc : Bool := false
  status : Option Nat := none
  rxWords : List Word := []
  deriving DecidableEq, Repr

/-- A request a skidder holds a tag or slot for (R231): function, ring and descriptor address of its operation, address, offset in the
operation and length; a posted write carries its data and the words that are to take the poison pattern. -/
structure Req where
  fn : Nat
  ring : Nat
  desc : Nat
  wr : Bool
  addr : Nat
  off : Nat
  len : Nat
  data : List Nat := []
  pois : List Nat := []
  squashed : Bool := false
  /-- Its operation is no more: its ring was restarted (R228). -/
  orphan : Bool := false
  bitmap : Bool := false
  old : Bool := false
  deriving DecidableEq, Repr

/-- A skidder (R231, R232): credits by function, the function being visited, requests in flight. -/
structure Skd where
  credit : List (Nat × Int) := []
  cur : Nat := 0
  reqs : List Req := []
  /-- The operation in service by function: ring and descriptor address (R232). -/
  serving : List (Nat × Nat × Nat) := []
  /-- Kerf copies running: function and end, in ns of the free-running clock (R234). -/
  kerf : List (Nat × Nat) := []
  peakRd : Nat := 0
  peakWr : Nat := 0
  deriving DecidableEq, Repr

/-- A migration side (R244 to R247). -/
structure Mig where
  /-- 0 IDLE, 1 ARMED, 2 FROZEN, 3 SENDING, 4 STAGING, 5 STAGED, 6 COMMITTED, 7 HELD, 8 DONE, 9 ABORTED. -/
  state : Nat := 0
  tick : Nat := 0
  frames : Nat := 0
  delta : Nat := 0
  staged : List MigMsg := []
  /-- Count END gave. -/
  total : Option Nat := none
  deriving DecidableEq, Repr

/-- A function's own state in the VFM. -/
structure Vf where
  /-- 0 NONE, 1 STOPPING, 2 DRAINING, 3 SQUASHING, 4 DONE. -/
  reset : Nat := 0
  resetClk : Nat := 0
  /-- A reset that waits for the end of the kerf: whether it squashes (R239). -/
  resetReq : Option Bool := none
  frozen : Bool := false
  bitmap : Bool := false
  swapBusy : Bool := false
  mig : Mig := {}
  /-- Moderation by local route (R238): quiet until this clock time in ns, and whether events wait. -/
  itr : List (Nat × Nat × Bool) := []
  deriving DecidableEq, Repr

/-! ### Tally engines and pulse outputs (chapters 10 and 11) -/

/-- An interval of a point (R268 to R270): flags as bits [30:24], counts, TOT0 to TOT7 at its start, or, once closed, the
deltas. -/
structure TIvl where
  valid : Bool := false
  flags : Nat := 0
  seq : Nat := 0
  startSec : Nat := 0
  ticks : Nat := 0
  missing : Nat := 0
  gated : Nat := 0
  start : List Nat := List.replicate 8 0
  deriving DecidableEq, Repr

/-- A point's context (R252): STATE (0 stopped, 1 FILLING, 2 running), a START or STOP not yet effective, working registers
with their class (0 GOOD, 1 QUESTIONABLE, 2 UNUSABLE), accumulators, totals, delay lines newest first, samples pushed, open
creep gates, previous sensor samples by list entry × 4 + phase, last usable temperatures, flags and counts, intervals. -/
structure TPt where
  state : Nat := 0
  startNs : Option Nat := none
  w : List (Int × Nat) := List.replicate 16 (0, 0)
  acc : List Nat := List.replicate 8 0
  tot : List Nat := List.replicate 8 0
  lines : List (List (Int × Nat)) := List.replicate 8 []
  pushed : List Nat := List.replicate 8 0
  gates : List Bool := List.replicate 4 false
  prev : List (Nat × Int × Nat) := []
  temps : List (Nat × Int) := []
  sat : Bool := false
  tempDef : Bool := false
  lastTag : Word := 0
  missing : Nat := 0
  gated : Nat := 0
  cur : TIvl := {}
  ring : List TIvl := []
  deriving DecidableEq, Repr

/-- A save on its way to MRAM (R284 to R287): area, SEQ, tick, FINAL and the bytes before the Blaze. -/
structure TSave where
  area : Nat
  seq : Nat
  tick : Nat
  final : Bool
  bytes : List Nat
  deriving DecidableEq, Repr

/-- What the tally engines take as active at a tick (R254, R269, R270, R282): the lag L, TSU_UTC_OFFSET, IVL_LEN of each engine, CONST of
each pulse output. -/
structure TalAt where
  tick : Nat
  lag : Nat
  off : Int
  lens : List Nat
  consts : List Nat
  deriving DecidableEq, Repr

/-- A tally engine: its points, runs, input-table versions by cycle, the interval in force, saves and the last restore. -/
structure TalEng where
  pts : List (Nat × TPt) := []
  lastRun : Option Nat := none
  endClk : Nat := 0
  /-- What is shown until the run in progress is complete (R253): TAL_LAST_TICK and TAL_RUN_TIME, the points, the missing points. -/
  shown : Word × Word := (0, 0)
  shownPts : List (Nat × TPt) := []
  shownMiss : List Nat := []
  /-- First tick it may run (R288). -/
  fromTick : Nat := 0
  vers : List (Nat × List (Nat × Nat × Nat)) := []
  miss : List Nat := []
  off : Option Int := none
  len : Nat := 0
  ivlEnd : Option Nat := none
  backSteps : Nat := 0
  hashes : List (Nat × Nat) := []
  lastSave : Option Nat := none
  saveNow : Bool := false
  saves : List TSave := []
  area : Nat := 0
  seq : Nat := 0
  saveTag : Word := 0
  torn : Bool := false
  gap : Bool := false
  final : Bool := false
  noValid : Bool := true
  gapMs : Nat := 0
  /-- Restored pulse outputs not yet taken over (R289): output, binding, BACKLOG, FRAC. -/
  held : List (Nat × Nat × Nat × Nat) := []
  deriving DecidableEq, Repr

/-- A pulse output (R279 to R283): backlog and fraction, pulses of the last run and the time it ends, the pulse in
progress with the clock of its end, the clock of the last trailing edge, the switch, whether a loss has been recorded. -/
structure Dfo where
  backlog : Nat := 0
  frac : Nat := 0
  fresh : Nat := 0
  freshNs : Nat := 0
  pulse : Bool := false
  endClk : Nat := 0
  trailClk : Option Nat := none
  closed : Bool := false
  lossSeen : Bool := false
  deriving DecidableEq, Repr

/-! ### Hardwired path (chapter 12) -/

/-- A safety input in one channel (R297 to R299, R302): filtered states, counts of differing samples, previous samples, latched
test-pulse faults with their failure counts (side × 4 + source), the discrepancy, ON, cycles closed of a reset input,
whether that run gives a reset when both have opened. -/
structure HIn where
  fA : Bool := false
  fB : Bool := false
  nA : Nat := 0
  nB : Nat := 0
  pA : Bool := false
  pB : Bool := false
  tA : Bool := false
  tB : Bool := false
  tp : List Nat := List.replicate 8 0
  disc : Nat := 0
  df : Bool := false
  both : Bool := false
  on : Bool := false
  run : Nat := 0
  armed : Bool := false
  stuck : Bool := false
  deriving DecidableEq, Repr

/-- A safety output in one channel (R300 to R304): commanded on since a cycle, TRIP_n, waiting for a reset, latched faults as
HWS_OUTn_DIAG shows them (bits 1 to 6), a pending feedback check (true after energising) with its last cycle, the filtered
mirror contact. -/
structure HOut where
  on : Bool := false
  since : Nat := 0
  trip : Bool := false
  wait : Bool := true
  faults : Nat := 0
  chk : Option (Bool × Nat) := none
  mirror : Bool := false
  mirN : Nat := 0
  deriving DecidableEq, Repr

/-- One safety channel (R294). -/
structure HCh where
  ins : List HIn := List.replicate 16 {}
  outs : List HOut := List.replicate 8 {}
  vfield : Nat := 0
  vfBad : Nat := 0
  vfGood : Nat := 0
  vfFault : Bool := false
  /-- Cycles without the other channel's exchange. -/
  unheard : Nat := 0
  deriving DecidableEq, Repr

/-- The hardwired path: the number of the next cycle (not wrapped), both channels, request sources (0 GOOSE, 1 instance) with their newest vectors, cycles
without one and loss, vectors in the crossing FIFOs, ticks, the configuration. -/
structure Hws where
  cyc : Nat := 0
  a : HCh := {}
  b : HCh := {}
  selftest : Bool := false
  configured : Bool := false
  safe : Bool := false
  /-- Cycles in which the channels differed, in a row. -/
  diff : Nat := 0
  fifo : List (Nat × Nat × Nat) := []
  vecG : Nat × Nat := (0, 0)
  vecI : Nat := 0
  missG : Nat := 0
  missI : Nat := 0
  lostG : Bool := false
  lostI : Bool := false
  /-- A tick start since the last cycle; cycles without one; the last one's tag, time in ns and cycle. -/
  tickSeen : Bool := false
  tickMiss : Nat := 0
  tickLost : Bool := false
  tickTag : Word := 0
  tickNs : Nat := 0
  tickCyc : Nat := 0
  /-- Active tables (inputs 64 words, outputs 64 words), and those a pending COMMIT makes active. -/
  cfg : List Word := List.replicate 128 0
  cand : List Word := []
  crc : Word := 0
  deriving DecidableEq, Repr

/-! ### Disturbance capture (chapter 13) -/

/-- A block (R319): tick number, LAMBDA, FIRST_SUB, flags of byte 9, SYNC, IMG_TAG, TSU_HOLD_EST, binary channels (state,
invalid), quality bytes, samples by time and channel. -/
structure AcqBlk where
  tick : Nat
  lambda : Nat := 0
  firstSub : Nat := 0
  flags : Nat := 0
  sync : Nat
  imgTag : Word
  holdEst : Word
  bin : List (Bool × Bool)
  qual : List Nat
  smps : List (List Int)
  deriving DecidableEq, Repr

/-- A placed trigger as the trigger list holds it (R324, R325, R330): TYPE, INDEX, DIR, full time in 1/16 ns, s - 1 and frac,
DELAY, flags [0] EXTENDING, [1] XTRIG, [2] MANUAL, and whether a mask violation placed it. -/
structure AcqTrig where
  typ : Nat
  idx : Nat
  dir : Nat
  time : Nat
  prevS : Nat := 0
  frac : Nat := 0
  delay : Nat := 0
  flags : Nat := 0
  mask : Bool := false
  deriving DecidableEq, Repr

/-- A record not yet wholly on flash (R322, R330): id, set, tick of its trigger, first tick of the pre extent, last tick of
the post extent, triggers, pre and post blocks, flags [0] PRE_SHORT, [1] STAGE_DROP, [2] FROZEN, [3] STOPPED, [4] POWER_FAIL,
Choker changes, units with the next index, whether its header unit is written and whether it has ended, the set's
configuration words, F_NOM, the channel descriptors (analog: SRC_KIND, SRC, STRIDE, TAG, and DELAY or KIND; binary: POINT, TAG), UTC
offset, SYNC and TSU_HOLD_EST at the first trigger and at the end, GAP_BEFORE owed. -/
structure AcqRec where
  id : Nat
  set : Nat
  t0 : Nat
  start : Nat
  stop : Nat
  trigs : List AcqTrig := []
  preN : Nat := 0
  postN : Nat := 0
  flags : Nat := 0
  chokes : Nat := 0
  units : List Nat := []
  headed : Bool := false
  ended : Bool := false
  cfg : Nat × Nat := (0, 0)
  fNom : Bool := false
  analog : List (Nat × Nat × Nat × Word × Nat) := []
  binary : List (Nat × Word) := []
  utc : Nat := 0
  sync0 : Nat := 0
  hold0 : Word := 0
  sync1 : Nat := 0
  hold1 : Word := 0
  endTick : Nat := 0
  gap : Bool := false
  deriving DecidableEq, Repr

/-- A unit of the record store (R329): record, UNIT_INDEX, PART, LENGTH, the blocks it holds or the record as its header or
trailer states it. -/
structure AcqUnit where
  id : Nat
  idx : Nat
  part : Nat
  len : Nat
  blocks : List AcqBlk := []
  rec_ : Option AcqRec := none
  deriving DecidableEq, Repr

/-- A record set (R316 to R326): the STATE its work has reached, a pending START or RESUME, what the work has still to meet by tick (0 FILLING
from it, 1 a STOP at its end, 2 one for POWER_FAIL), the ring oldest first with
the record that holds each block, recent full-rate samples (value, valid) by sub-sample, the end of the last record, the
open record, stall and a GAP_BEFORE owed, disarmed trigger entries, binary states of the tick before, counts of masks, the
last record and trigger shown. -/
structure AcqSet where
  state : Nat := 0
  startNs : Option Nat := none
  ctl : List (Nat × Nat) := []
  ring : List (AcqBlk × Option Nat) := []
  hist : List (Nat × List (Int × Bool)) := []
  prevEnd : Option Nat := none
  cur : Option Nat := none
  stall : Bool := false
  gap : Bool := false
  disarmed : List Nat := []
  binPrev : List Bool := []
  maskCnt : List (Nat × Nat) := []
  lastId : Nat := 0
  trigTag : Word := 0
  deriving DecidableEq, Repr

/-- The capture block: sets, the last tick built, the Choker's level with its changes (deciding tick, old, new; newest
first) and the tick of its last decision, staging oldest first, records, the store by unit, the record FIFO (id, info), the
keep-alive record counter, triggers placed and not yet met by their tick (set, trigger). -/
structure Acq where
  sets : List (Nat × AcqSet) := []
  last : Option Nat := none
  lam : Nat := 0
  chokes : List (Nat × Nat × Nat) := []
  chokeTick : Option Nat := none
  stage : List (Nat × AcqBlk) := []
  recs : List AcqRec := []
  store : List (Nat × AcqUnit) := []
  fifo : List (Nat × Nat) := []
  seq : Nat := 0
  trigIn : List (Nat × AcqTrig) := []
  deriving DecidableEq, Repr

/-! ### Key store and tamper (chapter 17) -/

/-- A KSU slot (R402 to R407, R422). -/
structure KSlot where
  /-- 0 EMPTY, 1 ACTIVE, 2 ORPHANED, 3 ZEROISED. -/
  state : Nat := 0
  origin : Nat := 0
  unsaved : Bool := false
  parent : Nat := 0
  fromRoot : Bool := false
  type : Nat := 0
  dest : Nat := 0
  usage : Nat := 0
  policy : Nat := 0
  depth : Nat := 0
  lastTag : Word := 0
  /-- The material was derived from PARENT or unwrapped with it (R413). -/
  kid : Bool := false
  material : List Byte := []
  /-- Staged material and whether it was verified. -/
  staged : Option (List Byte × Bool) := none
  deriving DecidableEq, Repr

/-- Slot 255 as the start sequence leaves it: the flash key of namespace 1 (R402; log 90). -/
def bootSlot : KSlot :=
  { state := 1, origin := 1, fromRoot := true, dest := 8, depth := 1, material := Config.flashKey }

/-- A KSU operation in progress (R414): OP, SLOT, ARG, the registers it was given with, the target slot as it stood, and the
result once its work is done and only its record still waits (R342). -/
structure KOp where
  op : Nat
  slot : Nat
  arg : Nat
  addr : Nat
  len : Nat
  data : List Nat
  before : KSlot
  code : Option Nat := none
  deriving DecidableEq, Repr

/-- MR0 to MR7 as the start sequence leaves them: MR0 extended with the first-stage loader (R400). -/
def startMrs : List (List Nat) :=
  fit 48 (Config.sha384 (List.replicate 48 0 ++ fit 48 Config.loaderDigest)) :: List.replicate 7 (List.replicate 48 0)

/-- The key store beside its slots: ROOT_OK and ROOT_FAIL, whether the root is held, RUN given, LOCKED_OUT, TAMPER_HOLD with the
soft sources that hold it and the clock the last one cleared at, KAS (as the number of the random value drawn for it) and
KAS_NEW, MR0 to MR7 with their locks, owner rows in OTP (hashes, newest last), raw bit-error rate, the operation. -/
structure Ksu where
  rootOk : Bool := true
  rootFail : Bool := false
  root : Bool := true
  running : Bool := false
  lockedOut : Bool := false
  hold : Bool := false
  holdSrc : Nat := 0
  holdClk : Nat := 0
  kas : Option Nat := some 0
  kasNew : Bool := true
  mrs : List (List Nat) := startMrs
  mrLock : Nat := 0
  owners : List (List Nat) := []
  pufErr : Nat := 0
  op : Option KOp := none
  deriving DecidableEq, Repr

/-- The tamper unit: ACTIVE and SEEN of TMP_STATUS, SEQ of the next record entry (R418). -/
structure Tmp where
  active : Nat := 0
  seen : Nat := 0
  seq : Nat := 1
  deriving DecidableEq, Repr

/-! ### Supplies and resets (chapter 18) -/

/-- What of the module is powered: RUN (every island), RESET (a warm reset held asserted), HELD (shed, R431), SLEEP
(VAUX only, R434), OFF (neither supply). -/
inductive Phase
  | run | reset | held | sleep | off
  deriving DecidableEq, Repr

/-- A contact: the reset button or RST_IN_N (R441); the clock it last opened at while STUCK. -/
structure Contact where
  closed : Bool := false
  stuck : Bool := false
  openClk : Nat := 0
  deriving DecidableEq, Repr

/-- Supplies, hold-up store, warning and flush (R424 to R435). -/
structure Pwr where
  phase : Phase := .run
  vmainOk : Bool := true
  vauxOk : Bool := true
  holdupReady : Bool := false
  holdupLow : Bool := false
  /-- PWR_HOLDUP_CAP in µF. -/
  cap : Nat := 0
  /-- The warning is raised (R428). -/
  pfw : Bool := false
  /-- The flush of R429 runs; the clock it began at. -/
  pfMode : Bool := false
  flushClk : Nat := 0
  extPfw : Bool := false
  /-- Duration of the last flush in µs. -/
  pfTime : Nat := 0
  rtcValid : Bool := false
  kaLost : Bool := false
  abrupt : Bool := false
  /-- FINAL saves of the present warning or preparation are complete (R429 step 1, R432). -/
  finalDone : Bool := false
  /-- A reset request held until the flush ends: its cause and clock (R433). -/
  heldReset : Option (Nat × Nat) := none
  /-- The RTC in units of 1/32,768 s as it stood at a clock of the time island, from which it runs on (R435). -/
  rtc : Nat := 0
  rtcClk : Nat := 0
  /-- The copy in the keep-alive monotonic counters (R435). -/
  rtcCopy : Nat := 0
  /-- PWR_LOSS_RTC (R432). -/
  lossRtc : Nat := 0
  /-- The keep-alive island has been OFF since the last start (R434). -/
  kaOff : Bool := false
  deriving DecidableEq, Repr

/-- Resets (R438 to R441): RST_CAUSE, preparation for a reset (cause, clock of the request), the contacts, the clock of the last
kick or activation of the watchdog, and the contact whose press holds reset (true for RST_IN_N) with the clock of its
recognition. -/
structure Rst where
  cause : Nat := 0
  prep : Option (Nat × Nat) := none
  button : Contact := {}
  rstIn : Contact := {}
  kickClk : Nat := 0
  holdBy : Option (Bool × Nat) := none
  deriving DecidableEq, Repr

/-! ### Shelves and module health (chapter 19) -/

/-- A slot-table entry (R448, R460): STATE 0 ABSENT, 1 PRESENT, 2 REFUSED, 3 LOST, 4 CONFLICT; the last ANNOUNCE, its short stamp
and clock; every DEVICE_ID seen for the slot with the clock it was last seen. -/
structure Slot where
  state : Nat := 0
  resetSeen : Bool := false
  ann : Option Announce := none
  stamp : Nat := 0
  clk : Nat := 0
  lost : Nat := 0
  ids : List (List Nat × Nat) := []
  deriving DecidableEq, Repr

/-- A window frame in flight to a worker (R454): sequence number, entries with the host read and doubleword each read is for,
transmissions made, clock of the first and of the last one. -/
structure WinFly where
  seq : Nat
  ops : List (WinOp × Option (Nat × Nat))
  tries : Nat
  firstClk : Nat
  lastClk : Nat
  deriving DecidableEq, Repr

/-- The manager's side of the window to one worker (R452, R454): entries not yet in a frame, the clock the oldest came at, the
frames not yet acknowledged, oldest first, the next sequence number. -/
structure WinQ where
  queue : List (WinOp × Option (Nat × Nat)) := []
  firstClk : Nat := 0
  fly : List WinFly := []
  seq : Nat := 0
  deriving DecidableEq, Repr

/-- A host read in progress (R452, R453): tag, slot, its doublewords as they return. -/
structure HostReq where
  tag : Nat
  slot : Nat
  data : List (Option Word)
  deriving DecidableEq, Repr

/-- An MSI-X table entry (R450, R455; PCIe): address, data, the mask bit, set at reset, and the pending bit. -/
structure Msix where
  addr : Nat := 0
  data : Nat := 0
  mask : Bool := true
  pend : Bool := false
  deriving DecidableEq, Repr

/-- The shelf block. -/
structure Shf where
  /-- SHF_ROLE_OVR (keep-alive). -/
  ovr : Nat := 0
  /-- The role taken at the last reset: manager. -/
  mgr : Bool := false
  standby : Bool := false
  mgrLost : Bool := false
  /-- Clock of the last ANNOUNCE of another module for this slot. -/
  conflict : Option Nat := none
  slots : List (Nat × Slot) := []
  /-- Managers heard: slot and clock of the last ANNOUNCE. -/
  mgrs : List (Nat × Nat) := []
  /-- Clock of the last ANNOUNCE of a manager, or of the reset. -/
  mgrClk : Nat := 0
  /-- Clock of the last ANNOUNCE sent, and the SYS_STATUS and SYS_CAP_* values it carried. -/
  annClk : Option Nat := none
  annSig : List Nat := []
  /-- Window frames received on P9 and not yet taken, oldest first. -/
  rx : List WinMsg := []
  /-- A worker's side, by manager slot: sequence numbers performed with their responses, newest first. -/
  done : List (Nat × List (Nat × List Nat)) := []
  /-- Host indices of INTR frames still to be sent. -/
  intr : List Nat := []
  wins : List (Nat × WinQ) := []
  reads : List HostReq := []
  msix : List (Nat × Msix) := []
  deriving DecidableEq, Repr

/-- The fit of a monitor in keep-alive registers (R457): sample count, OPTIME of the first and the last sample, the sums over x (OPTIME
since the first sample) and y (value), the last value, the limit it was taken with, the tag of the last sample. -/
structure HFit where
  n : Nat := 0
  t0 : Nat := 0
  tl : Nat := 0
  sx : Int := 0
  sy : Int := 0
  sxx : Int := 0
  sxy : Int := 0
  syy : Int := 0
  value : Int := 0
  limit : Int := 0
  tag : Word := 0
  /-- The monitor is in use (R462). -/
  valid : Bool := false
  /-- Serial number of the SFP the samples came from (R457). -/
  serial : Option Nat := none
  /-- Its days have fallen below EOL_WARN. -/
  warned : Bool := false
  deriving DecidableEq, Repr

/-- Module health: fits by monitor, hours of OPTIME sampled, whether HLT_EOL_DAYS has fallen below EOL_WARN. -/
structure Hlt where
  fits : List (Nat × HFit) := []
  hour : Nat := 0
  warned : Bool := false
  deriving DecidableEq, Repr

/-! ### What leaves the module -/

/-- An effect seen outside the module: a frame sent at a port, an interrupt message of a vector (R54) with its target
and MSI-X entry, the data of a completed host read (R452), an MSI-X message to the host (R455). -/
inductive Output
  | tx (port : Nat) (f : Frame)
  | vector (v : Nat) (target : Nat) (idx : Nat)
  | hostRead (tag : Nat) (data : List Word)
  | msix (entry addr data : Nat)
  deriving DecidableEq, Repr

end Sys2Proof.Machine
end

