-- ==== Sys2Proof/Machine/State.lean ====
section
/-!
DEFINITION. The module's state (plain data), its stops, and the state right after reset.
-/
namespace Sys2Proof.Machine

/-- Why the machine can stop with a fault. The module has no operation that stops it for good: what the spec calls a
stop (a failed module, a switched-off supply) is state. -/
inductive Fault
  /-- Raised by no command of the model: an access outside the 16 MiB register space cannot be expressed as any
  event of the spec, R30 covers every address inside it. Kept so that the outcome type is closed; safe. -/
  | noSuchAddress
  deriving DecidableEq, Repr

/-- Why the machine can refuse a command. -/
inductive Refusal
  /-- A command whose meaning has not been written, by its mnemonic in the table of operations and events; raised by
  the dispatch alone. Safe: the run stops there. -/
  | notModelled (mnemonic : String)
  deriving DecidableEq, Repr

/-- The module's state. -/
structure State where
  /-- Ordering code and straps (R2, R353, R445). -/
  ident : Ident := {}
  /-- Page headers by page (R36). -/
  hdrs : List (Nat × Hdr) := []
  /-- Register words by address, where they differ from their reset value; the shadow of RWS registers (R43). -/
  regs : List (Nat × Word) := []
  /-- Active copies of RWS registers by address, where they differ from the reset value (R43). -/
  acts : List (Nat × Word) := []
  /-- Live counters by address, where not 0 (R49). -/
  cnts : List (Nat × Nat) := []
  /-- Counter snapshots by the live counter's address, where not 0 (R50). -/
  snaps : List (Nat × Nat) := []
  /-- Latched high words of 64-bit reads, by master and address (R31). -/
  lat : List (Nat × Word) := []
  /-- Held low words of 64-bit writes by address (R31). -/
  held : List (Nat × Word) := []
  /-- Data of the last register read. -/
  rdata : Word := 0
  /-- Table windows by page (R56). -/
  wins : List (Nat × TblWin) := []
  /-- Words of the table region by address, where they differ from their reset value (R33, R89). -/
  tbl : List (Nat × Word) := []
  /-- Interrupt vectors (R53). -/
  vecs : List (Nat × Vec) := []
  /-- Time-stamp unit (chapter 4). -/
  tsu : Tsu := {}
  /-- Frame MACs by port (chapter 3). -/
  macs : List (Nat × Mac) := []
  /-- Egress ports of the Crosscut by index: P0 to P9, 10 H0, 11 H1. -/
  egs : List (Nat × EgPort) := []
  /-- Crosscut (chapter 3). -/
  swc : Swc := {}
  /-- Bytes of DRAM, system and core-local SRAM by 40-bit address (R225, R379), where not 0 (R382; log 31). -/
  mem : List (Nat × Byte) := []
  /-- Bytes of the keep-alive MRAM by offset (R380), where not 0. -/
  mram : List (Nat × Byte) := []
  /-- Stored bits of a word (by word address / 8) that differ from its codeword, as an 80-bit mask (R381). -/
  flips : List (Nat × Nat) := []
  /-- Words that hold the poison pattern (R381). -/
  poison : List (Nat × Bool) := []
  /-- Error log, remap tracking, the Cruiser (chapter 16). -/
  memSt : MemSt := {}
  /-- Event recorder (chapter 14). -/
  evr : Evr := {}
  /-- Fenced DRAM groups of 1 GiB, a bit for each (R25, R382). -/
  memFenced : Nat := 0
  /-- Sample plane (chapter 5). -/
  sva : Sva := {}
  /-- Filter engines (chapter 6). -/
  flt : List (Nat × FltEng) := []
  /-- Threshold-event tokens in the crossing to the cycle executor (R152, EVT_CYC). -/
  thrCyc : List ThrEvent := []
  /-- Threshold events waiting for disturbance capture (R152, EVT_ACQ). -/
  thrAcq : List ThrEvent := []
  /-- Converters ADCA (0) and ADCB (1) (chapter 7). -/
  adcs : List (Nat × Adc) := []
  /-- Open current-mode shunts, by input number AIN0 to AIN11 (R168). -/
  shunts : List Nat := []
  /-- AIN0 plausibility (R175). -/
  plaus : Plaus := {}
  /-- Process image by point, where not as after power-on (R193). -/
  img : List (Nat × Point) := []
  /-- Directory entries SYMBOL_ID, TYPE_HASH by point, where not 0 (R193). -/
  dir : List (Nat × Nat × Nat) := []
  /-- Cycle executor (chapter 8). -/
  cyc : Cyc := {}
  /-- Request vectors on their way to the safety channels: source (0 GOOSE, 1 instance), TRIP, EXPIRED (R214, R218, R306). -/
  hwsIn : List (Nat × Nat × Nat) := []
  /-- Duplex pair (chapter 15). -/
  dup : Dup := {}
  /-- Queue pairs (R223). -/
  qps : List (Nat × Qp) := []
  /-- Operations fetched and not completed, oldest first (R231). -/
  ops : List Op := []
  /-- Skidders (R231). -/
  skds : List (Nat × Skd) := []
  /-- Functions of the VFM (chapter 9). -/
  vfs : List (Nat × Vf) := []
  /-- Migration frames taken from H1, by function (R230). -/
  migIn : List (Nat × MigMsg) := []
  /-- Tally engines (chapters 10 and 11). -/
  tals : List (Nat × TalEng) := []
  /-- What was active for the tally runs of recent ticks, newest first (R254, R269; log 149). -/
  talAts : List TalAt := []
  /-- Pulse outputs (chapter 11). -/
  dfos : List (Nat × Dfo) := []
  /-- Hardwired path (chapter 12). -/
  hws : Hws := {}
  /-- Disturbance capture (chapter 13). -/
  acq : Acq := {}
  /-- New GOOSE states signalled to ACQ (R324): subscription, members before and after, time in 1/16 ns. -/
  acqGoose : List (Nat × List (Nat × Nat) × List (Nat × Nat) × Nat) := []
  /-- KSU slots (R402). -/
  kslots : List (Nat × KSlot) := [(255, bootSlot)]
  /-- Copies of key material held by engines, by destination bit x 256 + slot (R412). -/
  ekeys : List (Nat × List Byte) := []
  /-- Key store (chapter 17). -/
  ksu : Ksu := {}
  /-- Tamper unit (R415 to R418). -/
  tmp : Tmp := {}
  /-- Supplies (chapter 18). -/
  pwr : Pwr := {}
  /-- Resets (chapter 18). -/
  rst : Rst := {}
  /-- Shelf block (chapter 19). -/
  shf : Shf := {}
  /-- Module health (chapter 19). -/
  hlt : Hlt := {}
  /-- What has left the module so far, newest first: frames, interrupt messages, host completions. -/
  out : List Output := []
  /-- The model's own counter for free values (log 2): not of the spec. -/
  free : Nat := 0
  /-- The commands that wait, first in first out (the block's interface). -/
  pending : List Instr := []
  deriving DecidableEq, Repr

/-- The machine right after a power-on reset of a new SDN-YV64-E with every self-test passed (R436): every field and
every register at its reset value. -/
def State.reset : State := {}

end Sys2Proof.Machine
end

