-- ==== Sys2Proof/Machine/Base.lean ====
section
/-!
DEFINITION. Words of the state every block reads: registers and their active copies, headers, the table region, the capacity of the
ordering code, and station time.
-/
namespace Sys2Proof.Machine

/-! ### Register words -/

/-- Address of a page's offset (R35). -/
def ka (p off : Nat) : Nat := p * 4096 + off

/-- The register word at a page's offset: the shadow of an RWS register (R43). -/
def State.rg (s : State) (p off : Nat) : Word := sget (regReset p off) (ka p off) s.regs

/-- Store a register word. -/
def State.setRg (s : State) (p off : Nat) (v : Word) : State :=
  { s with regs := sset (regReset p off) (ka p off) v s.regs }

/-- The active copy of an RWS register word (R43). -/
def State.ac (s : State) (p off : Nat) : Word := sget (regReset p off) (ka p off) s.acts

/-- Store an active word. -/
def State.setAc (s : State) (p off : Nat) (v : Word) : State :=
  { s with acts := sset (regReset p off) (ka p off) v s.acts }

/-- A 64-bit register, low word first (R31). -/
def State.rg64 (s : State) (p off : Nat) : Nat := (s.rg p off).toNat + (s.rg p (off + 4)).toNat * 2 ^ 32

/-- Store a 64-bit register. -/
def State.setRg64 (s : State) (p off v : Nat) : State :=
  (s.setRg p off (w32 v)).setRg p (off + 4) (w32 (v / 2 ^ 32))

/-- The active value of a 64-bit RWS register. -/
def State.ac64 (s : State) (p off : Nat) : Nat := (s.ac p off).toNat + (s.ac p (off + 4)).toNat * 2 ^ 32

/-- A bit of a read-only status word set to a value. -/
def State.putBit (s : State) (p off i : Nat) (b : Bool) : State := s.setRg p off (setBit (s.rg p off) i b)

/-! ### Headers -/

/-- The header of a page. -/
def State.hd (s : State) (p : Nat) : Hdr := sget {} p s.hdrs

/-- Store a header. -/
def State.setHd (s : State) (p : Nat) (h : Hdr) : State := { s with hdrs := sset {} p h s.hdrs }

/-- The page whose CTRL, STATUS, ERR_CODE and LOCK act for a page: index 0 of a multi-page block (R46). -/
def headPage (p : Nat) : Nat :=
  match pageBlock p with
  | some (b, _) => if (pageCaps p).testBit 4 then b.base else p
  | none => p

/-- Index of a page within a multi-page block, 0 elsewhere. -/
def pageIndex (p : Nat) : Nat := p - headPage p

/-- The pages CTRL on a page acts for: the page, or all pages of its multi-page block (R46). -/
def govPages (p : Nat) : List Nat :=
  match pageBlock p with
  | some (b, _) => if (pageCaps p).testBit 4 then (List.range b.pages).map (b.base + ·) else [p]
  | none => []

/-! ### Capacity (R4, R5) -/

/-- Number of filter engines, core pairs, VFs, tally engines, streams of the ordering code (R4). -/
def State.half (s : State) : Bool := s.ident.code == .yv32

/-- Stream and channel slots of the ordering code (R4, R59); no fence reduces them (R24). -/
def State.capStreams (s : State) : Nat := if s.half then 256 else 512
def State.capChannels (s : State) : Nat := if s.half then 2048 else 4096

/-- Whether a page serves a unit beyond the ordering code (R5): its STATUS.FENCED reads 1 from power-on. -/
def State.absent (s : State) (p : Nat) : Bool :=
  s.half && (match pageBlock p with
    | some (.mac, i) => 3 ≤ i && i ≤ 5
    | some (.flt, i) => 32 ≤ i
    | some (.cyc, i) => 8 ≤ i
    | some (.vfm, i) => 32 ≤ i
    | some (.tal, i) => 4 ≤ i
    | some (.swc, i) => 4 ≤ i && i ≤ 6
    | _ => false)

/-- Whether the unit of a page is fenced or absent: requests to it are refused with CAP_FULL (R5, R26). -/
def State.unusable (s : State) (p : Nat) : Bool := (s.hd p).fenced || s.absent p

/-- The blocks whose clock CTRL.ENABLE does not gate (R487). -/
def Block.alwaysOn : Block → Bool
  | .sys | .pwr | .rst | .ksu | .tmp | .mem | .cru | .tsu | .evr | .hws | .shf | .hlt => true
  | _ => false

/-- The module number (R21): shelf × 64 + slot. -/
def State.modNum (s : State) : Nat := s.ident.shelfPins % 64 * 64 + s.ident.slotPins % 64

/-! ### Station time (R90, R91, R95) -/

/-- Station time in whole nanoseconds. -/
def State.ns (s : State) : Nat := s.tsu.now / 10 ^ 12

/-- Seconds and nanoseconds of a total of nanoseconds (R90). -/
def secOf (ns : Nat) : Nat := ns / 1000000000
def nsOf (ns : Nat) : Nat := ns % 1000000000

/-- Short stamp of a total of nanoseconds (R91). -/
def shortOf (ns : Nat) : Nat := ns % 2 ^ 32

/-- The short stamp of now. -/
def State.short (s : State) : Nat := shortOf s.ns

/-- FRAC of now, in 62.5 ps units (R91). -/
def State.frac (s : State) : Nat := s.tsu.now % 10 ^ 12 / 62500000000

/-- Start of tick number c = SEC × 4,800 + k in total ns: floor(k × 10^9 / 4,800) past the second (R95). -/
def tickStartNs (c : Nat) : Nat := c / 4800 * 1000000000 + c % 4800 * 1000000000 / 4800

/-- The tick a total of nanoseconds lies in. -/
def tickOfNs (ns : Nat) : Nat := secOf ns * 4800 + ((nsOf ns + 1) * 4800 - 1) / 1000000000

/-- Tick tag of a tick number: [31:13] low 19 bits of SEC, [12:0] tick. -/
def tagOf (c : Nat) : Word := w32 (c / 4800 % 2 ^ 19 * 8192 + c % 4800)

/-- The current tick: the last one issued (R95). -/
def State.tick (s : State) : Nat := s.tsu.lastTick

/-- STATE of a record set in tick k (R321): what its work has reached, a START or RESUME that has taken effect, a STOP whose tick has ended. -/
def AcqSet.shown (x : AcqSet) (k : Nat) : Nat :=
  x.ctl.foldl (fun st e => if e.2 = 0 then 1 else if e.1 < k then 0 else st) x.state

/-- Clocks of 4 ns in a number of milliseconds. -/
def msClk (ms : Nat) : Nat := ms * 250000

/-- Clocks of the free-running 250 MHz clock since `c`. -/
def State.since (s : State) (c : Nat) : Nat := s.tsu.clk - c

/-- Upper bits of the free-running clock as nanoseconds. -/
def State.clkNs (s : State) : Nat := s.tsu.clk * 4

/-- The RTC: [63:15] seconds, [14:0] units of 1/32,768 s (R435). -/
def State.rtcNow (s : State) : Nat := s.pwr.rtc + s.since s.pwr.rtcClk * 32768 / 250000000

/-! ### Table words (R33, R89) -/

/-- Reset value of a table-region word: the indirection tables of the Crosscut hold i mod 8 for the groups and i mod 4
for H0 (R79, R88); a plane history entry holds value 0 with quality invalid and PLANE_SUBST (R115; log 20); CHG_QUAL of a
publication is 1 (R221) and EDM_TIME of a staged safety output 300 (R315); 0 elsewhere. -/
def tblReset (a : Nat) : Word :=
  if 0x0091C000 ≤ a ∧ a < 0x0091D000 then w32 ((a - 0x0091C000) / 4 % 8)
  else if 0x0091D000 ≤ a ∧ a < 0x0091D400 then w32 ((a - 0x0091D000) / 4 % 4)
  else if 0x00A40000 ≤ a ∧ a < 0x00B40000 then (if a % 8 = 4 then 0x00010001 else 0)
  else if 0x00DC0000 ≤ a ∧ a < 0x00DC8000 then (if a % 128 = 0 then 0x100 else 0)
  else if 0x00F10100 ≤ a ∧ a < 0x00F10200 then (if a % 32 = 4 then 300 else 0)
  else 0

/-- A word of the table region. -/
def State.tw (s : State) (a : Nat) : Word := sget (tblReset a) a s.tbl

/-- Store a word of the table region. -/
def State.setTw (s : State) (a : Nat) (v : Word) : State := { s with tbl := sset (tblReset a) a v s.tbl }

/-- Store successive words from an address. -/
def State.setTws (s : State) (a : Nat) : List Word → State
  | [] => s
  | w :: ws => (s.setTw a w).setTws (a + 4) ws

/-- `n` successive words from an address. -/
def State.tws (s : State) (a n : Nat) : List Word := (List.range n).map (fun i => s.tw (a + 4 * i))

end Sys2Proof.Machine
end

