-- ==== Sys2Proof/Machine/Sched.lean ====
section
/-!
DEFINITION. What runs when on the cores of the cycle executor: cycles, windows and slack (R182, R186 to R189), which the tasks'
own commands and the delivery of interrupt vectors to an instance ask for (R238).
-/
namespace Sys2Proof.Machine

/-- CYC page of pair p. -/
abbrev pCYC (p : Nat) : Nat := 0x110 + p

/-- Change of the executor's own state. -/
def State.updCyc (s : State) (f : Cyc → Cyc) : State := { s with cyc := f s.cyc }

/-! ### Instance entries (R187, R188, R221) -/

def instAddr (i : Nat) : Nat := 0x00D50000 + i * 256
def State.iw (s : State) (i w : Nat) : Word := s.tw (instAddr i + 4 * w)
def State.inst (s : State) (i : Nat) : Inst := sget {} i s.cyc.insts
def State.setInst (s : State) (i : Nat) (x : Inst) : State := s.updCyc (fun c => { c with insts := sset {} i x c.insts })
def State.updInst (s : State) (i : Nat) (f : Inst → Inst) : State := s.setInst i (f (s.inst i))

def iUsed (w0 : Word) : Bool := bit w0 31
def iPair (w0 : Word) : Nat := fld w0 16 4
def iCore (w0 : Word) : Nat := fld w0 12 2

/-- Words 0 and 1 of an entry with ORDER, BUDGET and WR_QUOTA as active (R221). -/
def State.iAct (s : State) (i : Nat) : Word × Word :=
  let a : Nat × Nat := sget (0, 0) i s.cyc.active
  (w32 a.1, w32 a.2)

/-- Configured instances. -/
def State.usedInsts (s : State) : List Nat := (List.range 64).filter (fun i => iUsed (s.iw i 0))

def State.iOrder (s : State) (i : Nat) : Nat := fld (s.iAct i).1 0 8
def State.iBudget (s : State) (i : Nat) : Nat := fld (s.iAct i).2 0 16 * 100
def State.iQuota (s : State) (i : Nat) : Nat := fld (s.iAct i).2 16 16

/-- Instances of the same window sequence (R188): the same pair and core. -/
def State.sameCore (s : State) (i j : Nat) : Bool :=
  iPair (s.iw i 0) == iPair (s.iw j 0) && iCore (s.iw i 0) == iCore (s.iw j 0)

/-! ### Time of a cycle (R182, R183, R186) -/

/-- CYC_PHASE in ns as active. -/
def State.phase (s : State) : Nat := fld (s.ac (pCYC 0) R.CYC_CFG) 0 13 * 1000

/-- Boundary of cycle j. -/
def State.bound (s : State) (j : Nat) : Nat := tickStartNs j + s.phase

/-- Kerf length K. -/
def State.kerfLen (s : State) : Nat := 208333 * fld (s.ac (pCYC 0) R.CYC_CFG) 16 7 / 100

/-- A boundary is passed over: by a forward step, or by a lowered phase (R182). -/
def State.passed (s : State) (j : Nat) : Bool :=
  (j ≤ s.tsu.stepTick && s.bound j < s.tsu.stepNs) || (s.cyc.cyc.isSome && s.bound j ≤ s.cyc.boundNs)

/-- The next started tick whose cycle exists. -/
def State.nextCyc (s : State) : Option Nat :=
  s.cyc.ticks.find? (fun j => !s.passed j)

/-- Boundary of the next cycle: of the next started tick, or of the next tick the TSU will issue. -/
def State.nextBound (s : State) : Nat :=
  match s.nextCyc with
  | some j => s.bound j
  | none => s.bound s.tsu.nextTick

/-- The current cycle; tick 0 before the first. -/
def State.cycNow (s : State) : Nat := (s.cyc.cyc).getD 0

/-- The executor runs: page 0x110 is clocked (R487). -/
def State.cycOn (s : State) : Bool := (s.hd (pCYC 0)).enable

/-- The kerf of the current cycle is due (R186). -/
def State.kerfDue (s : State) : Bool :=
  s.cycOn && s.cyc.cyc.isSome && !s.cyc.kerfDone && s.nextBound ≤ s.ns + s.kerfLen

/-! ### What runs on a core (R188, R189, R238) -/

/-- Start of an instance's window: windows of lower ORDER on its core come first, whatever they do (R188). -/
def State.winStart (s : State) (i : Nat) : Nat :=
  s.cyc.winNs + ((s.usedInsts.filter (fun k => s.sameCore i k && s.iOrder k < s.iOrder i)).map s.iBudget).sum

/-- The window of the present cycle can open: the view is fixed and the kerf has not started. -/
def State.inWindows (s : State) : Bool := s.cycOn && s.cyc.viewed && !s.cyc.kerfDone

/-- The window of an instance runs (R188). -/
def State.winRuns (s : State) (i : Nat) : Bool := (s.inst i).window = 1 && s.ns < s.winStart i + s.iBudget i

/-- The slack of an instance's core: its last window is over (R189). -/
def State.inSlack (s : State) (i : Nat) : Bool :=
  let own := s.usedInsts.filter (s.sameCore i)
  decide (s.cyc.winNs + (own.map s.iBudget).sum ≤ s.ns) && own.all (fun k => (s.inst k).window != 1)

/-- The activation an instance runs next, TC7 apart. -/
def Inst.front (x : Inst) : Option Nat := (x.acts.find? (fun a => !a.done && a.cls != 7)).map (fun a => a.cls)

/-- The instance a core's slack serves: of those for which `want` holds, the first in ORDER; none of a VF frozen for migration
(R189, R245). -/
def State.slackPick (s : State) (i : Nat) (want : Inst → Bool) : Option Nat :=
  let own := s.usedInsts.filter (fun k => s.sameCore i k && (s.inst k).window = 2 && !(sget ({} : Vf) k s.vfs).frozen && want (s.inst k))
  own.find? (fun k => own.all (fun m => s.iOrder k ≤ s.iOrder m))

/-- The instance that has the slack of a core: suspended activations in ORDER, then TC7 in ORDER (R189). -/
def State.slackOf (s : State) (i : Nat) : Option Nat :=
  (s.slackPick i (fun x => x.front.isSome)).orElse (fun _ => s.slackPick i (fun x => x.acts.any (fun a => a.cls == 7 && !a.done)))

/-- An instance is running, in its window or in the slack (R189, R238); none does in the kerf (R186). -/
def State.instRuns (s : State) (i : Nat) : Bool :=
  s.inWindows && !s.kerfDue && !(sget ({} : Vf) i s.vfs).frozen && (s.winRuns i || (s.inSlack i && s.slackOf i == some i))

/-- The task of class cls of an instance is the one that runs on its core now: the next of its activations, TC7 only in the slack and
after all of them. -/
def State.runsNow (s : State) (i cls : Nat) : Bool :=
  let x := s.inst i
  s.instRuns i && (if s.winRuns i then x.front == some cls else x.front.getD 7 == cls)

end Sys2Proof.Machine
end

