-- ==== Sys2Proof/Machine/Ops.lean ====
section
/-!
DEFINITION. The operations every block shares: interrupts and vectors (R52 to R55), counters, refusals (R40, R42, R51), commit
copies, and the power gate of a command.
-/
namespace Sys2Proof.Machine

/-! ### Interrupts (R52 to R55) -/

/-- The interrupt line of a page: OR of IRQ_STATUS AND IRQ_ENABLE (R52). -/
def Hdr.line (h : Hdr) : Bool := h.irqStatus &&& h.irqEnable != 0

/-- A vector's input: the OR of the page lines routed to it (R54). -/
def State.vecLine (s : State) (v : Nat) : Bool :=
  s.hdrs.any (fun e => e.2.routeEn && e.2.vector == v && e.2.line)

/-- A vector. -/
def State.vec (s : State) (v : Nat) : Vec := sget {} v s.vecs

/-- Store a vector. -/
def State.setVec (s : State) (v : Nat) (x : Vec) : State := { s with vecs := sset {} v x s.vecs }

/-- Something leaves the module. -/
def State.emit (s : State) (o : Output) : State := { s with out := o :: s.out }

/-- An MSI-X entry of the manager's endpoint is raised (R455): a message, or its pending bit while it is masked. -/
def State.msixRaise (s : State) (n : Nat) : State :=
  let x := sget {} n s.shf.msix
  if x.mask then { s with shf := { s.shf with msix := sset {} n { x with pend := true } s.shf.msix } }
  else s.emit (.msix n x.addr x.data)

/-- A vector sends its message (R53, R455): a host vector through the manager's MSI-X table, from a worker in an INTR frame. -/
def State.vecSend (s : State) (v : Nat) (x : Vec) : State :=
  if x.target = 1 then
    if s.shf.mgr then s.msixRaise (x.hostIdx % 32) else { s with shf := { s.shf with intr := s.shf.intr ++ [x.hostIdx % 32] } }
  else s.emit (.vector v x.target x.hostIdx)

/-- A vector may deliver now: it is not masked (R54), and the instance that owns it is running where its core pair is the target
(R238). -/
def State.vecOpen (s : State) (x : Vec) : Bool := !x.mask && !(x.target == 2 && x.owner != 0 && !s.instRuns x.owner)

/-- A vector's input rises (R54): one message, or PENDING until it may be delivered. -/
def State.fire (s : State) (v : Nat) : State :=
  let x := s.vec v
  if s.vecOpen x then s.vecSend v x else s.setVec v { x with pending := true }

/-- Change a page's header; every vector whose input rises by it is handled under R54. -/
def State.updHd (s : State) (p : Nat) (f : Hdr → Hdr) : State :=
  let h := s.hd p
  let h' := f h
  let s' := s.setHd p h'
  let rise (v : Nat) (t : State) : State := if !s.vecLine v && s'.vecLine v then t.fire v else t
  let t := if h'.routeEn then rise h'.vector s' else s'
  if h.routeEn && h.vector != h'.vector then rise h.vector t else t

/-- Set bits of a page's IRQ_STATUS as their events do (R52). -/
def State.irq (s : State) (p i : Nat) : State :=
  s.updHd p (fun h => { h with irqStatus := h.irqStatus ||| w32 (1 <<< i) })

/-! ### Counters (R49, R51) -/

/-- TSU_UTC_OFFSET, signed (R90). -/
def State.utcOff (s : State) : Int := sfld (s.ac 0x030 R.TSU_UTC_OFFSET) 0 16

/-- A live counter by page and offset. -/
def State.cn (s : State) (p off : Nat) : Nat := sget 0 (ka p off) s.cnts

/-- The greatest value of a counter: 64 bits where the map marks it so, else 32 (R49). -/
def cntMax (p off : Nat) : Nat :=
  match regAt p off with
  | some (r, _, _) => if r.wide then 2 ^ 64 - 1 else 2 ^ 32 - 1
  | none => 2 ^ 32 - 1

/-- Count `n` events: the counter stops at its maximum; the first saturation of a counter of the page since its last
CNT_CLEAR sets IRQ_STATUS.CNT_SAT (R49, R51). -/
def State.bumpBy (s : State) (p off n : Nat) : State :=
  let v := s.cn p off
  let v' := min (cntMax p off) (v + n)
  let s := { s with cnts := sset 0 (ka p off) v' s.cnts }
  if v < cntMax p off && v' == cntMax p off && !(s.hd p).satSeen then
    (s.updHd p (fun h => { h with satSeen := true })).irq p 2
  else s

/-- Count one event. -/
def State.bump (s : State) (p off : Nat) : State := s.bumpBy p off 1

/-! ### Refusals (R40, R42, R51) -/

/-! Codes of R40. -/
namespace Err
abbrev zeroField : Nat := 0x01
abbrev capFull : Nat := 0x02
abbrev range : Nat := 0x03
abbrev ctrlConflict : Nat := 0x04
abbrev locked : Nat := 0x05
abbrev notStopped : Nat := 0x06
abbrev commitBusy : Nat := 0x07
abbrev tblBusy : Nat := 0x08
abbrev notOwner : Nat := 0x09
abbrev tblSeq : Nat := 0x0A
end Err

/-- The page whose CNT_REFUSED and CNT_CFG_ERR count a refusal on a page: its own where it has counters, else index 0
of its block (log 3). -/
def countPage (p : Nat) : Nat := if (pageCaps p).testBit 1 then p else headPage p

/-- A refusal on a page: STATUS.CFG_ERR, ERR_CODE with PAGE_INDEX and OFFSET, IRQ_STATUS.CFG_ERR, CNT_CFG_ERR, and
CNT_REFUSED for CAP_FULL (R40, R42, R46, R51). Nothing else changes. -/
def State.refuse (s : State) (p off code : Nat) : State :=
  let g := headPage p
  let s := s.updHd g (fun h => { h with cfgErr := true, errCode := w32 (pageIndex p * 2 ^ 20 + off * 256 + code) })
  let s := s.irq g 0
  let s := if code == Err.capFull then s.bump (countPage p) R.CNT_REFUSED else s
  s.bump (countPage p) R.CNT_CFG_ERR

/-- An accepted START or COMMIT clears STATUS.CFG_ERR (R39). -/
def State.accept (s : State) (p : Nat) : State := s.updHd (headPage p) (fun h => { h with cfgErr := false })

/-! ### Shadow and active copies (R43, R44) -/

/-- Offsets of a row's words. -/
def RegDef.words (r : RegDef) : List Nat :=
  (List.range r.n).flatMap (fun i => if r.wide then [r.off + i * r.stride, r.off + i * r.stride + 4] else [r.off + i * r.stride])

/-- Offsets of a page's words of one access class. -/
def accOffs (p : Nat) (c : Acc) : List Nat := ((pageRows p).filter (fun r => r.acc == c)).flatMap RegDef.words

/-- The shadow of every page CTRL acts for becomes active in one step (R44): COMMIT_PENDING, COMMIT_TAG, COMMIT_DONE. -/
def State.commitTake (s : State) (g : Nat) : State :=
  let s := (govPages g).foldl (fun s p => (accOffs p .rws).foldl (fun s o => s.setAc p o (s.rg p o)) s) s
  let s := (govPages g).foldl (fun s p => s.updHd p (fun h => { h with commitTag := tagOf s.tick })) s
  (s.updHd g (fun h => { h with commitPending := false })).irq g 1

/-- The instance of a page stands still (R487). -/
def State.stopEnd (s : State) (g : Nat) : State := s.updHd g (fun h => { h with started := false, stopNs := none })

/-! ### What runs (R487) -/

/-- A chain, point, instance or set of the page runs that a START of its own started (log 121). -/
def State.partRuns (s : State) (p : Nat) : Bool :=
  match pageBlock p with
  | some (.flt, e) => (sget {} e s.flt).chains.any (fun c => c.2.running)
  | some (.tal, e) => (sget {} e s.tals).pts.any (fun x => x.2.state != 0 || x.2.startNs.isSome)
  | some (.cyc, n) => s.cyc.insts.any (fun x => x.2.state != 0 && fld (s.tw (0x00D50000 + x.1 * 256)) 16 4 == n)
  | some (.acq, _) => s.acq.sets.any (fun x => x.2.shown s.tick != 0 || x.2.startNs.isSome)
  | _ => false

/-- The block instance a page belongs to runs (R487). -/
def State.running (s : State) (p : Nat) : Bool :=
  match pageBlock p with
  | none => false
  | some (b, _) =>
    let g := headPage p
    if b.alwaysOn then false
    else if (pageCaps g).testBit 5 then (s.hd g).enable && ((s.hd g).started || s.partRuns g) else (s.hd g).enable

/-! ### The failed state (R29) and role-bound actions (R369) -/

/-- SYS_STATUS.FAILED: all publication and all role-bound actions have stopped (R29). -/
def State.failed (s : State) : Bool := bit (sget (regReset 0 R.SYS_STATUS) (ka 0 R.SYS_STATUS) s.regs) 1

/-! ### Rounding -/

/-- Division rounded to nearest, ties away from zero (R121, R122). -/
def roundDiv (n : Int) (d : Nat) : Int :=
  if n < 0 then -(((2 * (-n).toNat + d) / (2 * d) : Nat) : Int) else ((2 * n.toNat + d) / (2 * d) : Nat)

/-! ### The gate of a command -/

/-- Every island fed from VMAIN runs. -/
def State.onMain (s : State) : Bool := s.pwr.phase == .run

/-- The time and safety islands are fed and run: also in a held reset and after a shed (R431, R439). -/
def State.onTime (s : State) : Bool := s.pwr.phase == .run || s.pwr.phase == .reset || s.pwr.phase == .held

/-- The keep-alive island is fed (R434). -/
def State.onKeep (s : State) : Bool := s.pwr.phase != .off

/-- What acts whatever of the module is fed: contacts, and supplies that come and go. -/
def State.always (_ : State) : Bool := true

/-- The answer of a command that acts by `f` while `on` holds; an island without supply or clock does nothing. The queue is the
step's own: no command touches it. -/
def act (on : State → Bool) (f : State → State) (s : State) : Host.Outcome State Fault Refusal :=
  .next (if on s then { f s with pending := s.pending } else s)

/-- An access to the page restarts a half-given unlock sequence (R48): in a multi-page block the sequence is that of page index 0, and an
access to another page of the block is no access to it. -/
def State.touch (s : State) (p : Nat) : State :=
  if (s.hd p).lockSeen then s.setHd p { s.hd p with lockSeen := false } else s

/-- The answer of a command that is a register access to page `p` and acts by `f`. -/
def actReg (on : State → Bool) (p : Nat) (f : State → State) (s : State) : Host.Outcome State Fault Refusal :=
  act on (fun s => f (s.touch p)) s

/-- A free value of 32 bits that the spec leaves open: the opaque Config.freeWord at the model's own counter, which
advances (log 2). -/
def State.freeWord (s : State) : Word × State := (Config.freeWord s.free, { s with free := s.free + 1 })

end Sys2Proof.Machine
end

