-- ==== Sys2Proof/Machine/Keys.lean ====
section
/-!
DEFINITION. Keys in the engines (R403, R412): what an engine gets when it uses a KSU slot.
-/
namespace Sys2Proof.Machine

/-- The KSU page. -/
abbrev pKSU : Nat := 0x010

/-- A KSU slot. -/
def State.kslot (s : State) (i : Nat) : KSlot := sget {} i s.kslots

/-- Store a KSU slot. -/
def State.setKslot (s : State) (i : Nat) (k : KSlot) : State := { s with kslots := sset {} i k s.kslots }

/-- A slot carries a destination bit (R403). -/
def State.keyDest (s : State) (slot d : Nat) : Bool := (s.kslot slot).dest.testBit d

/-- An engine of destination bit d uses a slot (R412): its copy, else the material of an ACTIVE slot that carries the bit,
which it then keeps; else the key is refused and counted in CNT_USE_REFUSEDd. The counters of bits 4 and 5 have no address of
their own (R421 gives 0x840 to CNT_OPS) and are kept unread (log 91). -/
def State.useKey (s : State) (slot d : Nat) : Option (List Byte) × State :=
  match s.ekeys.find? (fun e => e.1 == d * 256 + slot) with
  | some e => (some e.2, s)
  | none =>
    let k := s.kslot slot
    if k.state = 1 ∧ k.dest.testBit d then
      (some k.material, { s with ekeys := sput (d * 256 + slot) k.material s.ekeys })
    else (none, s.bump pKSU (if d < 4 then R.KSU_CNT_USE_REFUSED + 4 * d else 0xFE0 + 4 * d))

end Sys2Proof.Machine
end

