-- ==== Sys2Proof/Machine/Mem.lean ====
section
/-!
DEFINITION. Memory and the Cruiser (chapter 16): bytes and check bits, reads of damaged words, partial writes, the error
log, remapping, laps, flash wear.
-/
namespace Sys2Proof.Machine

/-- The MEM and CRU pages. -/
abbrev pMEM : Nat := 0x020
abbrev pCRU : Nat := 0x021

def State.updMem (s : State) (f : MemSt → MemSt) : State := { s with memSt := f s.memSt }

/-! ### Bytes -/

/-- The canonical form of a memory: addresses strictly rising, no byte listed that an unlisted address reads as (0; log 31). -/
def Memory.wf (m : List (Nat × Byte)) : Bool := swf (fun _ => 0) m

/-- A byte of memory. -/
def State.byte (s : State) (a : Nat) : Byte := sget 0 a s.mem

/-- `n` bytes as numbers. -/
def State.bytes (s : State) (a n : Nat) : List Nat := (List.range n).map (fun i => (s.byte (a + i)).toNat)

/-- Bytes of the range held, and bytes put there; nothing but those bytes changes. -/
def putBytes (a : Nat) (bs : List Nat) (m : List (Nat × Byte)) : List (Nat × Byte) :=
  bs.zipIdx.foldl (fun m b => sset 0 (a + b.2) (BitVec.ofNat 8 b.1) m) m

/-- Bytes of the keep-alive MRAM. -/
def State.mramBytes (s : State) (a n : Nat) : List Nat := (List.range n).map (fun i => (sget (0 : Byte) (a + i) s.mram).toNat)

/-- Write bytes of MRAM. -/
def State.writeMram (s : State) (a : Nat) (bs : List Nat) : State := { s with mram := putBytes a bs s.mram }

/-- Number of ones of a number of `n` bits. -/
def ones (n v : Nat) : Nat := ((List.range n).filter v.testBit).length

/-! ### Which memory (R379) -/

/-- Memory of an address as the Cruiser numbers them (0 DRAM, 1 core-local SRAM, 2 Landing, 3 system SRAM) with the
group of its remap table: 0 for DRAM, 1 + g for SRAM group g. -/
def memOf (a : Nat) : Option (Nat × Nat) :=
  if a < 0x800000000 then some (0, 0)
  else if 0x1100000000 ≤ a ∧ a < 0x1101000000 then some (1, 1 + (a - 0x1100000000) / 0x100000)
  else if 0x1200000000 ≤ a ∧ a < 0x1201000000 then some (2, 17 + (a - 0x1200000000) / 0x100000)
  else if 0x1000000000 ≤ a ∧ a < 0x1001000000 then some (3, 33 + (a - 0x1000000000) / 0x100000)
  else none

/-- Base address and number of words of a memory. -/
def memSpan (m : Nat) : Nat × Nat :=
  match m with
  | 0 => (0, 0x100000000) | 1 => (0x1100000000, 0x200000) | 2 => (0x1200000000, 0x200000) | _ => (0x1000000000, 0x200000)

def isDram (a : Nat) : Bool := a < 0x800000000

/-! ### The error log (R387) -/

/-- An event of memory enters the log, or is lost to a full one. The syndrome is that of the word's error; the code's
matrix is not given, so it is a free value (log 32). -/
def State.memEvent (s : State) (a kind req idx : Nat) : State :=
  if 16 ≤ s.memSt.log.length then (s.bump pMEM R.MEM_CNT_LOG_LOST).irq pMEM 11
  else
    let f := s.freeWord
    f.2.updMem (fun m => { m with
      log := m.log ++ [{ addr := a, kind := kind, req := req, idx := idx, syn := f.1.toNat % 2 ^ 16, tag := tagOf s.tick }] })

/-! ### Remapping (R388, R389) -/

/-- Entry addresses of a remap group: 32 for DRAM, 16 for an SRAM group. -/
def remapEntries (g : Nat) : List Nat :=
  if g = 0 then (List.range 32).map (fun i => 0x00FC0000 + i * 16)
  else (List.range 16).map (fun i => 0x00FC0200 + (16 * (g - 1) + i) * 16)

/-- A word's damage is gone: fresh check bits, or the poison pattern. -/
def State.setWordState (s : State) (a : Nat) (poisoned : Bool) : State :=
  let w := a / 8
  let s := { s with flips := sdel w s.flips, poison := sset false w poisoned s.poison }
  if poisoned then { s with mem := sclear (w * 8) (w * 8 + 8) s.mem } else s

/-- A remap entry is filled for a word and the remap logged (R387, R388), for the requester whose access found it. -/
def State.remapInto (s : State) (e a : Nat) (ue : Bool) (req idx : Nat) : State :=
  let s := s.setTws e
    [w32 (2 ^ 31 + b2n ue * 2 ^ 29), w32 a, w32 (a / 2 ^ 32 % 2 ^ 8), tagOf s.tick]
  let s := s.updMem (fun m => { m with saved := m.saved ++ [a], track := m.track.filter (fun t => t.1 != a) })
  ((s.bump pMEM R.MEM_CNT_REMAP).irq pMEM 7).memEvent a 5 req idx

/-- A free remap entry of a group. -/
def State.freeEntry (s : State) (g : Nat) : Option Nat := (remapEntries g).find? (fun e => !bit (s.tw e) 31)

/-- A word is moved to a spare, or stays in use for want of an entry. -/
def State.remap (s : State) (a : Nat) (ue : Bool) (req idx : Nat) : State :=
  match memOf a with
  | none => s
  | some (_, g) =>
    match s.freeEntry g with
    | some e => s.remapInto e a ue req idx
    | none => ((s.bump pMEM R.MEM_CNT_REMAP_FULL).irq pMEM 8).memEvent a 6 req idx

/-- A correction is tracked (R388); at the third, with AUTO_REMAP, the word is remapped. -/
def State.trackCorr (s : State) (a req idx : Nat) : State :=
  match memOf a with
  | none => s
  | some (m, g) =>
    let lap := (sget ({} : Lap) m s.memSt.laps).no
    let same (t : Nat × Nat × Nat) : Bool := t.1 == a
    let grp (t : Nat × Nat × Nat) : Bool := (memOf t.1).map (·.2) == some g
    let s := match s.memSt.track.find? same with
      | some t => s.updMem (fun x => { x with track := (a, t.2.1 + 1, lap) :: x.track.filter (fun t => !same t) })
      | none =>
        if (if g = 0 then 64 else 4) ≤ (s.memSt.track.filter grp).length then s.bump pMEM R.MEM_CNT_TRACK_FULL
        else s.updMem (fun x => { x with track := (a, 1, lap) :: x.track })
    let n := ((s.memSt.track.find? same).map (fun t => t.2.1)).getD 0
    if bit (s.ac pMEM R.MEM_CFG) 0 && 3 ≤ n then s.remap a false req idx else s

/-- A correctable word found: counted, logged and tracked (R383, R385). -/
def State.corrected (s : State) (a kind req idx : Nat) : State :=
  let s := s.setWordState a false
  let s := (s.bump pMEM (if isDram a then R.MEM_CNT_CE_DRAM else R.MEM_CNT_CE_SRAM)).irq pMEM 4
  (s.memEvent a kind req idx).trackCorr a req idx

/-- An uncorrectable word found: poison pattern, counted, logged under the kind of the access that found it, remapped at once (R383,
R385, R388; log 35). -/
def State.uncorrectable (s : State) (a kind req idx : Nat) : State :=
  let s := (s.setWordState a true).bump pMEM (if isDram a then R.MEM_CNT_UE_DRAM else R.MEM_CNT_UE_SRAM)
  (s.memEvent a kind req idx).remap a true req idx

/-- What the decoder finds in a word (R381, R383). -/
inductive WordIs
  | clean | correctable | uncorr | poisoned
  deriving DecidableEq, Repr

/-- The decoder's finding. Four or more wrong bits are beyond what R381 guarantees: a free value decides between an
uncorrectable word and a wrong correction, whose data is free too (log 33). -/
def State.wordIs (s : State) (a : Nat) : WordIs × State :=
  let w := a / 8
  let n := ones 80 (sget 0 w s.flips)
  if sget false w s.poison then (if n = 0 then (.poisoned, s) else (.uncorr, s))
  else if n = 0 then (.clean, s)
  else if n ≤ 2 then (.correctable, s)
  else if n = 3 then (.uncorr, s)
  else
    let f := s.freeWord
    if f.1.toNat % 2 = 0 then (.uncorr, f.2)
    else
      let lo := f.2.freeWord
      let hi := lo.2.freeWord
      (.correctable, { hi.2 with mem := putBytes (w * 8) (bytesLE 4 lo.1.toNat ++ bytesLE 4 hi.1.toNat) hi.2.mem })

/-- A read of one word (R383): whether it gave a poison response. -/
def State.readWord (s : State) (a req idx : Nat) : Bool × State :=
  let x := s.wordIs a
  match x.1 with
  | .clean => (false, x.2)
  | .correctable => (false, x.2.corrected a 0 req idx)
  | .uncorr => (true, (x.2.irq pMEM 5).uncorrectable a 2 req idx)
  | .poisoned => (true, (x.2.bump pMEM R.MEM_CNT_POISON_READ).memEvent a 3 req idx)

/-- Damaged words of a range. -/
def State.damaged (s : State) (a n : Nat) : List Nat :=
  if n = 0 then []
  else
    let ws := (s.flips.map (fun e => e.1)) ++ (s.poison.map (fun e => e.1))
    (ws.filter (fun w => a / 8 ≤ w && w ≤ (a + n - 1) / 8)).dedup

/-- A read of a byte range by a requester: the bytes, whether any word gave a poison response, the state after it. -/
def State.readMem (s : State) (a n req idx : Nat) : List Nat × Bool × State :=
  let r := (s.damaged a n).foldl (fun acc w =>
    let x := acc.2.readWord (w * 8) req idx
    (acc.1 || x.1, x.2)) (false, s)
  (r.2.bytes a n, r.1, r.2)

/-- Reads of the words at addresses `as` by a requester, each word once: what a damaged one leaves (R383). -/
def State.readAt (s : State) (as : List Nat) (req idx : Nat) : State :=
  if s.flips.isEmpty && s.poison.isEmpty then s
  else ((s.damaged 0 (2 ^ 40)).filter (fun w => as.any (fun a => a / 8 == w))).foldl (fun s w => (s.readWord (w * 8) req idx).2) s

/-- A read of the word at an address gives a poison response. -/
def State.spoilt (s : State) (a : Nat) : Bool :=
  !(s.flips.isEmpty && s.poison.isEmpty) && (match (s.wordIs a).1 with | .uncorr | .poisoned => true | _ => false)

/-- Whole words of `n` bytes at each of the addresses are written: fresh check bits (R386). -/
def State.freshAt (s : State) (as : List Nat) (n : Nat) : State :=
  if s.flips.isEmpty && s.poison.isEmpty then s
  else { s with
    flips := as.foldl (fun l a => sclear (a / 8) ((a + n) / 8) l) s.flips,
    poison := as.foldl (fun l a => sclear (a / 8) ((a + n) / 8) l) s.poison }

/-- A partial write of bytes within one word (R385): whether it was refused. -/
def State.partialWrite (s : State) (a : Nat) (bs : List Nat) (req idx : Nat) : Bool × State :=
  let x := s.wordIs a
  let w := a / 8 * 8
  let put (t : State) : State := { t with mem := putBytes a bs t.mem }
  match x.1 with
  | .clean => (false, put x.2)
  | .correctable => (false, put ((x.2.bump pMEM R.MEM_CNT_PW_MERGED).corrected w 1 req idx))
  | .uncorr => (true, ((x.2.bump pMEM R.MEM_CNT_PW_REFUSED).irq pMEM 6).uncorrectable w 4 req idx)
  | .poisoned => (true, ((x.2.bump pMEM R.MEM_CNT_PW_REFUSED).irq pMEM 6).memEvent w 4 req idx)

/-- A write of whole aligned words (R386): fresh check bits whatever they held. -/
def State.writeWords (s : State) (a : Nat) (bs : List Nat) : State :=
  let lo := a / 8
  let hi := (a + bs.length) / 8
  { s with mem := putBytes a bs s.mem, flips := sclear lo hi s.flips, poison := sclear lo hi s.poison }

/-- A write of any byte range: partial words at its ends, whole words between; whether any part was refused. -/
def State.writeMem (s : State) (a : Nat) (bs : List Nat) (req idx : Nat) : Bool × State :=
  let head := min bs.length ((8 - a % 8) % 8)
  let mid := (bs.length - head) / 8 * 8
  let r1 := if head = 0 then (false, s) else s.partialWrite a (bs.take head) req idx
  let s2 := r1.2.writeWords (a + head) ((bs.drop head).take mid)
  let tail := bs.drop (head + mid)
  let r3 := if tail.isEmpty then (false, s2) else s2.partialWrite (a + head + mid) tail req idx
  (r1.1 || r3.1, r3.2)

/-! ### The Cruiser (R390, R391) -/

def State.lap (s : State) (m : Nat) : Lap := sget {} m s.memSt.laps
def State.setLap (s : State) (m : Nat) (l : Lap) : State := s.updMem (fun x => { x with laps := sset {} m l x.laps })

/-- Milliseconds of the running lap, on the free-running clock. -/
def State.lapMs (s : State) (m : Nat) : Nat := s.since (s.lap m).startClk / 250000

/-- Lap limit of a memory in ms; 0 turns the warning off. -/
def State.lapLimit (s : State) (m : Nat) : Nat :=
  (s.ac pCRU (if m = 0 then R.CRU_LAP_LIMIT_DRAM else R.CRU_LAP_LIMIT_SRAM)).toNat * 1000

/-- The word of a memory the Cruiser reads next, past fenced DRAM groups (`fenced` by group number). -/
def nextWord (fenced : Nat → Bool) (m pos : Nat) : Nat :=
  if m ≠ 0 then pos
  else (List.range 32).foldl (fun p g => if p / 0x8000000 = g ∧ fenced g then (g + 1) * 0x8000000 else p) pos

/-- A lap ends: figures, counters, LAP_WARN, and the tracked words it released. -/
def State.lapEnd (s : State) (m : Nat) : State :=
  let l := s.lap m
  let ms := s.lapMs m
  let lim := s.lapLimit m
  let s := s.setRg pCRU (R.CRU_LAP_LAST + 16 * m) (w32 ms)
  let s := s.setRg pCRU (R.CRU_LAP_MAX + 16 * m) (w32 (max ms (s.rg pCRU (R.CRU_LAP_MAX + 16 * m)).toNat))
  let s := s.bump pCRU (R.CRU_CNT_LAPS + 4 * m)
  let warn := if lim = 0 ∨ ms ≤ lim then false else l.warn
  let s := s.updMem (fun x => { x with
    track := x.track.filter (fun t => (memOf t.1).map (·.1) != some m || l.no ≤ t.2.2) })
  s.setLap m { pos := 0, no := l.no + 1, startClk := s.tsu.clk, warn := warn, raised := false }

/-- CRUISER_READ: the next word of a memory, in an idle cycle, handled as a read (R383, R390). -/
def State.cruise (s : State) (m : Nat) : State :=
  if !(bit (s.ac pCRU R.CRU_CFG) 0 && m < 4) then s
  else
    let fenced (g : Nat) : Bool := s.memFenced.testBit g
    let sp := memSpan m
    let pos := nextWord fenced m (s.lap m).pos
    let s := if pos < sp.2 then
        let x := s.wordIs (sp.1 + pos * 8)
        let r := s.readWord (sp.1 + pos * 8) 0 m
        match x.1 with
        | .correctable => r.2.bump pCRU R.CRU_CNT_SCRUB_CE
        | .uncorr => (r.2.bump pCRU R.CRU_CNT_SCRUB_UE).irq pCRU 5
        | _ => r.2
      else s
    let nxt := nextWord fenced m (pos + 1)
    if sp.2 ≤ nxt then s.lapEnd m else s.setLap m { s.lap m with pos := nxt }

/-- LAP_WARN (R391): the running lap's elapsed time exceeds the limit; once in a lap. -/
def State.lapWarn (s : State) (m : Nat) : State :=
  let l := s.lap m
  if m < 4 && s.lapLimit m != 0 && s.lapLimit m < s.lapMs m && !l.raised then
    ((s.setLap m { l with warn := true, raised := true }).bump pCRU R.CRU_CNT_LAP_WARN).irq pCRU 4
  else s

/-! ### Register commands and flash -/

/-- MEM_INJ_CMD (R48, chapter 16): stored bits of a word are inverted. BIT numbers above 79, BITS 0 or 3, and an address
outside the memories are refused with RANGE (log 34). -/
def State.memInj (s : State) (v : Word) : State :=
  let n := fld v 0 2
  let b1 := fld v 8 8
  let b2 := fld v 16 8
  let a := s.rg64 pMEM R.MEM_INJ_ADDR
  if n = 0 ∨ n = 3 ∨ 79 < b1 ∨ (n = 2 ∧ 79 < b2) ∨ (memOf a).isNone then s.refuse pMEM R.MEM_INJ_CMD Err.range
  else
    let m := sget 0 (a / 8) s.flips ^^^ (1 <<< b1)
    let m := if n = 2 then m ^^^ (1 <<< b2) else m
    { s with flips := sset 0 (a / 8) m s.flips }

/-- FLASH_WEAR (R394): rated life used and spare blocks left, in 0.01 % units, as the controller finds them. -/
def State.flashWear (s : State) (used spare : Nat) : State :=
  let s := (s.setRg pMEM R.MEM_FL_WEAR (w32 (min 0xFFFF used))).setRg pMEM R.MEM_FL_SPARE (w32 (min 0xFFFF spare))
  let s := if 9000 ≤ used && !s.memSt.wearWarn then (s.updMem (fun m => { m with wearWarn := true })).irq pMEM 9 else s
  if spare = 0 && !s.memSt.readOnly then (s.updMem (fun m => { m with readOnly := true })).irq pMEM 10 else s

/-- A write of a remap entry (R389, R396): one in use is held; an address must lie in the entry's memory. -/
def State.remapWrCheck (s : State) (e : Nat) (ws : List Word) : Option Nat :=
  let w (i : Nat) : Word := (ws[i]?).getD 0
  let a := (w 1).toNat + fld (w 2) 0 8 * 2 ^ 32
  let g := if e < 0x00FC0200 then 0 else 1 + (e - 0x00FC0200) / 256
  let all := (remapEntries g).any (fun o => bit (s.tw o) 31 && (s.tw (o + 4)).toNat + fld (s.tw (o + 8)) 0 8 * 2 ^ 32 == a)
  if bit (s.tw e) 31 then some 0x40
  else if !bit (w 0) 31 then none
  else if a % 8 ≠ 0 ∨ (memOf a).map (fun x => x.2) ≠ some g then some Err.range
  else if all then some 0x40
  else none

/-- Bytes written to flash are counted (R395). -/
def State.flashWrote (s : State) (n : Nat) : State := s.bumpBy pMEM R.MEM_CNT_FL_BYTES_WR n

/-- A remap entry written by Vehus: the word moves with its corrected contents or the poison pattern (R388, R389). -/
def State.remapWritten (s : State) (e : Nat) : State :=
  if bit (s.tw e) 31 then
    let a := (s.tw (e + 4)).toNat + fld (s.tw (e + 8)) 0 8 * 2 ^ 32
    let x := s.wordIs a
    let bad := x.1 == .uncorr || x.1 == .poisoned
    let t := x.2.setWordState a bad
    t.remapInto e a (x.1 == .uncorr) 2 0
  else s

/-- Read-only registers of the MEM page. -/
def State.memRo (s : State) (off : Nat) : Option Word :=
  let m := s.memSt
  let h := m.log.head?
  let free (g : Nat) : Bool := (remapEntries g).any (fun e => !bit (s.tw e) 31)
  let held (g : Nat) : Nat := ((remapEntries g).filter (fun e => bit (s.tw e) 31)).length
  if off = R.MEM_STATUS then
    some (w32 (3 + 4 * b2n (!free 0) + 8 * b2n ((List.range 48).any (fun g => !free (g + 1))) + 16 + 32 * b2n m.readOnly +
      64 * b2n m.wearWarn))
  else if off = R.MEM_REMAP_USED then
    some (w32 (held 0 + ((List.range 48).map (fun g => held (g + 1))).sum * 2 ^ 16))
  else if off = R.MEM_LOG_LEVEL then some (w32 m.log.length)
  else if off = R.MEM_LOG_ADDR then some (match h with | some e => w32 e.addr | none => 0)
  else if off = R.MEM_LOG_ADDR + 4 then some (match h with | some e => w32 (e.addr / 2 ^ 32) | none => 0)
  else if off = R.MEM_LOG_INFO then
    some (match h with
      | some e => w32 (2 ^ 31 + e.kind % 8 * 2 ^ 28 + e.req % 16 * 2 ^ 24 + e.idx % 64 * 2 ^ 16 + e.syn)
      | none => 0)
  else if off = R.MEM_LOG_TAG then some (match h with | some e => e.tag | none => 0)
  else none

/-- Read-only registers of the CRU page. -/
def State.cruRo (s : State) (off : Nat) : Option Word :=
  if 0x400 ≤ off ∧ off < 0x440 ∧ off % 16 = 8 then
    let m := (off - 0x400) / 16
    some (w32 ((s.lap m).pos * 10000 / (memSpan m).2))
  else if off = R.CRU_STATUS then
    some (w32 ((List.range 4).foldl (fun a m => a + b2n (s.lap m).warn * 2 ^ m) 0))
  else none

/-! ### The commands -/

/-- CRUISER_READ (R390) of memory `m`. -/
def execCruiserRead (m : Nat) (s : State) : Host.Outcome State Fault Refusal := act State.onMain (fun s => s.cruise m) s

/-- LAP_WARN (R391) of memory `m`. -/
def execLapWarn (m : Nat) (s : State) : Host.Outcome State Fault Refusal := act State.onMain (fun s => s.lapWarn m) s

/-- MEM_INJ_CMD: a protected register (R48). -/
def execMemInjCmd (v : Word) (s : State) : Host.Outcome State Fault Refusal :=
  actReg State.onMain pMEM (fun s =>
    if v &&& 0xFFFF03 = 0 ∨ (s.hd pMEM).unlocked then s.memInj v else s.refuse pMEM R.MEM_INJ_CMD Err.locked) s

/-- CLEAR_SAVED (R389): protected; the list is empty from the next power-on. -/
def execClearSaved (s : State) : Host.Outcome State Fault Refusal :=
  actReg State.onMain pMEM (fun s =>
    if (s.hd pMEM).unlocked then s.updMem (fun m => { m with clearSaved := true })
    else s.refuse pMEM R.MEM_CMD Err.locked) s

/-- MEM_LOG_POP (R387): no effect when empty. -/
def execMemLogPop (s : State) : Host.Outcome State Fault Refusal :=
  actReg State.onMain pMEM (fun s => s.updMem (fun m => { m with log := m.log.drop 1 })) s

/-- FLASH_WEAR (R394). -/
def execFlashWear (used spare : Nat) (s : State) : Host.Outcome State Fault Refusal :=
  act State.onMain (fun s => s.flashWear used spare) s

end Sys2Proof.Machine
end

