-- ==== Sys2Proof/Machine/Tsu.lean ====
section
/-!
DEFINITION. The time-stamp unit (chapter 4): the clock of the time island, tick numbers, rate, slew and step, sync
states and holdover, time outputs and capture inputs.
-/
namespace Sys2Proof.Machine

/-- The TSU page. -/
abbrev pTSU : Nat := 0x030

/-- Change of the TSU's state. -/
def State.updTsu (s : State) (f : Tsu → Tsu) : State := { s with tsu := f s.tsu }

/-- Part of a slew applied at one clock: TSU_SLEW_MAX as active, or the remainder (R97); in 10^-12 ns. -/
def slewPart (left : Int) (ppm : Nat) : Int :=
  let m : Int := 4000000 * (ppm : Int)
  if left > m then m else if left < -m then -m else left

/-- One clock of the time island (4 ns): station time advances by 4 ns, the rate in force and the slew (R96, R97). -/
def State.clock (s : State) : State :=
  s.updTsu (fun t =>
    let d := slewPart t.slewLeft (fld (s.ac pTSU R.TSU_SLEW_MAX) 0 10)
    { t with clk := t.clk + 1, now := (t.now + (4000000000000 + 4 * t.rate + d)).toNat, slewLeft := t.slewLeft - d })

/-- The rates in force since a clock: the entries that began after it and the one in force at it. -/
def keepRates (lo : Nat) : List (Nat × Int) → List (Nat × Int)
  | [] => []
  | e :: rest => if e.1 ≤ lo then [e] else e :: keepRates lo rest

/-- The rate in force becomes `r` (R96), remembered for the mean over 16 s of R100. -/
def Tsu.setRate (t : Tsu) (r : Int) : Tsu :=
  { t with rate := r, rateHist := (t.clk, r) :: keepRates (t.clk - 4000000000) t.rateHist }

/-- Sum of rate × clocks over the window [from, to) of the free-running clock. -/
def rateSum (lo hi : Nat) : List (Nat × Int) → Int
  | [] => 0
  | (c, r) :: rest =>
    let b := max c lo
    (if b < hi then r * ((hi - b : Nat) : Int) else 0) + rateSum lo (min hi c) rest

/-- Mean of the rate applied over the preceding 16 s, or over the time since the clock began where that is shorter,
rounded toward minus infinity (R100; log 4). -/
def Tsu.meanRate (t : Tsu) : Int :=
  let lo := t.clk - 4000000000
  if t.clk = lo then t.rate else rateSum lo t.clk t.rateHist / ((t.clk - lo : Nat) : Int)

/-- A change of the sync state sets IRQ_STATUS.STATE_CHANGE (R99); TSU_HOLD_EST as R101 gives it outside holdover. -/
def State.setSync (s : State) (y : Sync) : State :=
  let s := (s.updTsu (fun t => { t with sync := y })).irq pTSU 4
  match y with
  | .locked => (s.updTsu (fun t => { t with wdogClk := t.clk, wdogEntry := false })).setRg pTSU R.TSU_HOLD_EST 0
  | .unlocked => (s.updTsu (fun t => { t with wdogEntry := false })).setRg pTSU R.TSU_HOLD_EST 0xFFFFFFFF
  | _ => s

/-- In HOLDOVER or HOLD_EXCEEDED (R100). -/
def State.inHold (s : State) : Bool := s.tsu.sync == .holdover || s.tsu.sync == .holdExceeded

/-- Entry to HOLDOVER: the rate frozen at the mean, the slew discarded, the entry counted (R99, R100). -/
def State.enterHold (s : State) (byWdog : Bool) : State :=
  let m := s.tsu.meanRate
  let s := s.updTsu (fun t =>
    { (t.setRate m) with slewing := false, slewLeft := 0, wdogEntry := byWdog, holdClk := t.clk })
  let s := (s.setRg pTSU R.TSU_RATE_HELD (wS m)).setRg pTSU R.TSU_HOLD_ELAPSED 0
  let s := s.setRg pTSU R.TSU_HOLD_EST (s.rg pTSU R.TSU_HOLD_BASE)
  let s := s.bump pTSU R.TSU_CNT_HOLDOVER
  let s := s.updTsu (fun t => { t with sync := .holdover })
  let s := s.irq pTSU 4
  if byWdog then (s.bump pTSU R.TSU_CNT_DISC_WDOG).irq pTSU 11 else s

/-- TSU_CMD.LOCKED (R99). -/
def State.tsuLocked (s : State) : State := if s.tsu.sync == .locked then s else s.setSync .locked

/-- TSU_CMD.HOLD (R99). -/
def State.tsuHold (s : State) : State := if s.tsu.sync == .locked then s.enterHold false else s

/-- TSU_CMD.RELEASE (R99). -/
def State.tsuRelease (s : State) : State := if s.inHold then s.setSync .unlocked else s

/-- TSU_CMD.LATCH (R98). -/
def State.tsuLatch (s : State) : State :=
  let n := s.ns
  let s := s.setRg64 pTSU R.TSU_LAT_SEC (secOf n % 2 ^ 48)
  let s := (s.setRg pTSU R.TSU_LAT_NS (w32 (nsOf n))).setRg pTSU R.TSU_LAT_SHORT (w32 (shortOf n))
  s.setRg pTSU R.TSU_LAT_TICK (tagOf s.tick)

/-- First tick whose start lies at or after a total of nanoseconds. -/
def tickAtOrAfter (ns : Nat) : Nat :=
  let c := tickOfNs ns
  if tickStartNs c = ns then c else c + 1

/-- First edge S + n × PERIOD after a time. -/
def nextEdge (first period after : Nat) : Nat :=
  if after < first then first else if period = 0 then first else first + ((after - first) / period + 1) * period

/-- Mode of a time output in its active configuration: 0 OFF, 1 ONCE, 2 PERIODIC. -/
def State.toMode (s : State) (n : Nat) : Nat := fld (s.ac pTSU (R.TSU_TO_CTRL + 16 * n)) 0 2
def State.toPeriod (s : State) (n : Nat) : Nat := (s.ac pTSU (R.TSU_TO_PERIOD + 16 * n)).toNat
def State.toWidth (s : State) (n : Nat) : Nat := (s.ac pTSU (R.TSU_TO_WIDTH + 16 * n)).toNat
def State.toStart (s : State) (n : Nat) : Nat := (s.ac pTSU (R.TSU_TO_START + 16 * n)).toNat

/-- Comparison of an output's target with station time under R94, at arming and after a step: pending, due now, or in
the past (fires at once with LATE). -/
def State.toCompare (s : State) (n : Nat) (o : TimeOut) : TimeOut :=
  let d := diff32 (s.toStart n) s.short
  let full := ((s.ns : Int) + d).toNat
  if d < 0 then { o with firstNs := full, nextNs := full, lateFire := true }
  else { o with firstNs := full, nextNs := full, lateFire := false }

/-- Arming at the COMMIT that selects the mode (R108); OFF ends a pulse in progress. LATE clears at arming. -/
def State.toArm (s : State) (n : Nat) : State :=
  let o : TimeOut :=
    if s.toMode n = 0 then {} else s.toCompare n { armed := true }
  s.updTsu (fun t => { t with outs := t.outs.set n o })

/-- Re-evaluation of an armed output after a step by `d` ns (R98, R108; log 5): a first edge not yet given is compared again
under R94; later edges passed over are not given; after a backward step the next edge is the first after the last one
given. A pulse in progress keeps its length: its end moves with the step. -/
def State.toStepped (s : State) (n : Nat) (d : Int) : State :=
  let o := (s.tsu.outs[n]?).getD {}
  let o := if o.pulse then { o with pulseEndNs := ((o.pulseEndNs : Int) + d).toNat } else o
  let o' : TimeOut :=
    if !o.armed then o
    else if !o.given then s.toCompare n o
    else if s.toMode n = 2 then
      { o with nextNs := nextEdge o.firstNs (s.toPeriod n) (max o.lastNs (s.ns - 1)) }
    else o
  s.updTsu (fun t => { t with outs := t.outs.set n o' })

/-- TSU_CMD.STEP once unlocked (R98, R100): HOLD_ACTIVE in holdover. -/
def State.tsuStep (s : State) : State :=
  if s.inHold then s.refuse pTSU R.TSU_CMD 0x40
  else
    let old := s.ns
    let new := (s.rg64 pTSU R.TSU_SET_SEC % 2 ^ 48) * 1000000000 + fld (s.rg pTSU R.TSU_SET_NS) 0 30
    let last := s.tsu.lastTick
    let fwd := decide (old ≤ new)
    let nxt := if fwd then max (last + 1) (tickAtOrAfter new) else last + 1
    let gap := nxt - (last + 1)
    let s := s.updTsu (fun t =>
    { t with
      now := new * 10 ^ 12, slewing := false, slewLeft := 0, nextTick := nxt, stepNs := new, stepTick := last,
      backSteps := if fwd then t.backSteps else t.backSteps + 1 })
    let s := (s.bump pTSU R.TSU_CNT_STEP).irq pTSU 5
    let s := if fwd then s.setRg pTSU R.TSU_TICK_GAP (w32 gap) else s
    let s := if fwd && gap != 0 then (s.bumpBy pTSU R.TSU_CNT_TICK_GAP gap).irq pTSU 12 else s
    iter 4 (fun n s => s.toStepped n ((new : Int) - old)) s

/-- An accepted write of TSU_ADJ_RATE (R96, R99, R100). -/
def State.adjRate (s : State) (v : Word) : State :=
  if s.inHold then s.refuse pTSU R.TSU_ADJ_RATE 0x40
  else if v.toInt < -1000000000 || 1000000000 < v.toInt then s.refuse pTSU R.TSU_ADJ_RATE Err.range
  else
    let s := s.setRg pTSU R.TSU_ADJ_RATE v
    s.updTsu (fun t =>
      let t := t.setRate v.toInt
      if t.sync == .locked then { t with wdogClk := t.clk } else t)

/-- An accepted write of TSU_ADJ_PHASE (R97, R100). -/
def State.adjPhase (s : State) (v : Word) : State :=
  if s.inHold then s.refuse pTSU R.TSU_ADJ_PHASE 0x40
  else if v.toInt < -1000000 || 1000000 < v.toInt then s.refuse pTSU R.TSU_ADJ_PHASE Err.range
  else
    (s.setRg pTSU R.TSU_ADJ_PHASE v).updTsu (fun t =>
      { t with slewing := v != 0, slewLeft := v.toInt * 10 ^ 12 })

/-- The discipline watchdog's expiry (R99). -/
def State.discDue (s : State) : Bool :=
  let w := fld (s.ac pTSU R.TSU_DISC_WDOG) 0 16
  s.tsu.sync == .locked && w != 0 && msClk w ≤ s.since s.tsu.wdogClk

/-- TSU_HOLD_RATE and TSU_HOLD_TEMPCO of the module's time base, in 0.01 ns/s and 0.01 ns/s per K (R7, R102). -/
def State.holdRate (s : State) : Nat := if s.ident.code == .eo then 25 else 9500
def State.holdTempco (s : State) : Nat := if s.ident.code == .eo then 100 else 10000

/-- The update of each second in holdover (R101): the estimate is rounded up to whole ns (log 6). HOLD_EST is compared with HOLD_LIMIT at this
update alone, not at the entry nor when a COMMIT lowers the limit: R99 names no moment (the model's choice, log 140). -/
def State.holdUpdate (s : State) (dT : Int) : State :=
  let t := (s.rg pTSU R.TSU_HOLD_ELAPSED).toNat + 1
  if s.inHold && t * 250000000 ≤ s.since s.tsu.holdClk then
    let c := (s.holdRate + s.holdTempco * dT.natAbs) * t
    let est := min 0xFFFFFFFF ((s.rg pTSU R.TSU_HOLD_BASE).toNat + cdiv c 100)
    let s := (s.setRg pTSU R.TSU_HOLD_ELAPSED (w32 t)).setRg pTSU R.TSU_HOLD_EST (w32 est)
    if s.tsu.sync == .holdover && fld (s.ac pTSU R.TSU_HOLD_LIMIT) 0 20 < est then
      ((s.updTsu (fun t => { t with sync := .holdExceeded })).irq pTSU 4).irq pTSU 6
    else s
  else s

/-- The start of the next tick is due: at the first clock edge at or after it (R95). -/
def State.tickDue (s : State) : Bool := tickStartNs s.tsu.nextTick ≤ s.ns

/-- The TSU issues the next tick start (R95). -/
def State.tsuTick (s : State) : State :=
  s.updTsu (fun t => { t with lastTick := t.nextTick, nextTick := t.nextTick + 1 })

/-! ### Time outputs and capture inputs -/

/-- A leading edge of an output (R108): late at arming or after a step, or at its time. -/
def State.toEdge (s : State) (n : Nat) : State :=
  let o := (s.tsu.outs[n]?).getD {}
  if !(o.armed && !o.pulse && (o.lateFire || (o.nextNs ≤ s.ns && !(o.given && s.toMode n = 1)))) then s
  else
    let at_ := if o.lateFire then s.ns else o.nextNs
    let o' := { o with
      pulse := true, pulseEndNs := at_ + s.toWidth n, given := true, lastNs := at_, lateFire := false,
      late := o.late || o.lateFire,
      nextNs := if s.toMode n = 2 then nextEdge o.firstNs (s.toPeriod n) at_ else o.nextNs }
    let s := s.updTsu (fun t => { t with outs := t.outs.set n o' })
    if o.lateFire then (s.bump pTSU R.TSU_CNT_TO_LATE).irq pTSU 7 else s

/-- WIDTH passes and the pulse ends; ONCE clears ARMED and sets TO_DONE (R108, R109; log 7). -/
def State.toPulseEnd (s : State) (n : Nat) : State :=
  let o := (s.tsu.outs[n]?).getD {}
  if !(o.pulse && o.pulseEndNs ≤ s.ns) then s
  else
    let once := s.toMode n = 1
    let s := s.updTsu (fun t =>
      { t with outs := t.outs.set n { o with pulse := false, armed := if once then false else o.armed } })
    if once then s.irq pTSU 8 else s

/-- Level of an output's pin (R108, R109): held inactive while QUALIFY is 1 and SYNC is UNLOCKED. -/
def State.toPin (s : State) (n : Nat) : Bool :=
  let c := s.ac pTSU (R.TSU_TO_CTRL + 16 * n)
  let o := (s.tsu.outs[n]?).getD {}
  (o.pulse && !(bit c 3 && s.tsu.sync == .unlocked)) != bit c 2

/-- An edge is one the input selects, in a pulse no shorter than MIN_WIDTH (R110). -/
def State.tiSelected (s : State) (n : Nat) (falling : Bool) (width : Nat) : Bool :=
  let c := s.ac pTSU (R.TSU_TI_CFG + 4 * n)
  (if falling then bit c 1 else bit c 0) && decide (4 * fld c 8 8 ≤ width)

/-- An edge follows the last captured one by less than 40 ns (R110). -/
def State.tiNear (s : State) (n : Nat) : Bool :=
  match ((s.tsu.ins[n]?).getD {}).lastNs with
  | some l => decide (l ≤ s.ns ∧ s.ns < l + 40)
  | none => false

/-- An edge at a capture input: captured, ignored (a pulse shorter than MIN_WIDTH), or lost and counted (R110).
`width` is the length in ns of the pulse the edge begins. -/
def State.tiCapture (s : State) (n : Nat) (falling : Bool) (width : Nat) : State :=
  let i := (s.tsu.ins[n]?).getD {}
  if !s.tiSelected n falling width then s
  else
    if s.tiNear n || 16 ≤ i.fifo.length then (s.bump pTSU (R.TSU_CNT_TI_OVF + 4 * n)).irq pTSU 10
    else
      let e : TiEdge := { sec := secOf s.ns % 2 ^ 48, ns := nsOf s.ns, frac := s.frac, falling := falling }
      (s.updTsu (fun t =>
        { t with ins := t.ins.set n { fifo := i.fifo ++ [e], lastNs := some s.ns } })).irq pTSU 9

/-- TSU_TI_POP: each bit set removes the head of its input's FIFO (R110). -/
def State.tiPop (s : State) (v : Word) : State :=
  iter 4 (fun n s =>
    if bit v n then
      s.updTsu (fun t =>
        let i := (t.ins[n]?).getD {}
        { t with ins := t.ins.set n { i with fifo := i.fifo.drop 1 } })
    else s) s

/-- A TSU_CMD write with no protected bit refused: LATCH, STEP, then one state command; two or more state commands in
one write are refused with RANGE and none acts. -/
def State.tsuCmd (s : State) (v : Word) : State :=
  let s := if bit v 0 then s.tsuLatch else s
  let s := if bit v 1 then s.tsuStep else s
  let n := b2n (bit v 2) + b2n (bit v 3) + b2n (bit v 4)
  if 2 ≤ n then s.refuse pTSU R.TSU_CMD Err.range
  else if bit v 2 then s.tsuLocked
  else if bit v 3 then s.tsuHold
  else if bit v 4 then s.tsuRelease
  else s

/-! ### COMMIT, soft reset and reads -/

/-- The TSU's own checks at COMMIT (R41, R108): offset and code of the first field refused. -/
def State.tsuCheck (s : State) : Option (Nat × Nat) :=
  (List.range 4).findSome? (fun n =>
    let m := fld (s.rg pTSU (R.TSU_TO_CTRL + 16 * n)) 0 2
    let per := (s.rg pTSU (R.TSU_TO_PERIOD + 16 * n)).toNat
    let wid := (s.rg pTSU (R.TSU_TO_WIDTH + 16 * n)).toNat
    let pOff := R.TSU_TO_PERIOD + 16 * n
    let wOff := R.TSU_TO_WIDTH + 16 * n
    if m = 2 && per = 0 then some (pOff, Err.zeroField)
    else if m = 2 && (per < 1000 || 4000000000 < per) then some (pOff, Err.range)
    else if m ≠ 0 && wid = 0 then some (wOff, Err.zeroField)
    else if m = 2 && (wid < 10 || per < wid + 10) then some (wOff, Err.range)
    else if m = 1 && (wid < 10 || 1000000000 < wid) then some (wOff, Err.range)
    else none)

/-- Registers of one time output. -/
def toOffs (n : Nat) : List Nat :=
  [R.TSU_TO_CTRL + 16 * n, R.TSU_TO_START + 16 * n, R.TSU_TO_PERIOD + 16 * n, R.TSU_TO_WIDTH + 16 * n]

/-- What follows when the TSU's shadow becomes active: outputs whose registers changed are armed (log 8), the
watchdog restarts when its active value changed (R99). -/
def State.tsuApplied (old s : State) : State :=
  let s := iter 4 (fun n s =>
    if (toOffs n).any (fun o => old.ac pTSU o != s.ac pTSU o) then s.toArm n else s) s
  if old.ac pTSU R.TSU_DISC_WDOG != s.ac pTSU R.TSU_DISC_WDOG then s.updTsu (fun t => { t with wdogClk := t.clk })
  else s

/-- SOFT_RESET of the TSU page beyond the registers (R490): outputs go OFF, inputs stop with empty FIFOs, the
watchdog restarts; time, ticks, SYNC, rate, slew and holdover are kept. -/
def State.tsuSoft (s : State) : State :=
  s.updTsu (fun t => { t with outs := [{}, {}, {}, {}], ins := [{}, {}, {}, {}], wdogClk := t.clk })

/-- Read-only registers of the TSU page whose content is state of the unit. -/
def State.tsuRo (s : State) (off : Nat) : Option Word :=
  let ti (n : Nat) : TimeIn := (s.tsu.ins[n]?).getD {}
  if off = R.TSU_STATE then
    some (w32 (s.tsu.sync.code + 4 * b2n s.tsu.wdogEntry + 32 * b2n s.tsu.slewing + 64 * b2n (s.ident.code == .eo)))
  else if off = R.TSU_HOLD_RATE then some (w32 s.holdRate)
  else if off = R.TSU_HOLD_TEMPCO then some (w32 s.holdTempco)
  else if off = R.TSU_TO_STATUS then
    some (w32 ((List.range 4).foldl (fun a n =>
      let o := (s.tsu.outs[n]?).getD {}
      a + b2n o.armed * 2 ^ n + b2n o.late * 2 ^ (4 + n)) 0))
  else if R.TSU_TI_SEC_LO ≤ off ∧ off < R.TSU_TI_SEC_LO + 0x40 then
    let n := (off - R.TSU_TI_SEC_LO) / 16
    let h := (ti n).fifo.head?
    match off % 16 with
    | 0 => some (match h with | some e => w32 e.sec | none => 0)
    | 4 => some (match h with
        | some e => w32 (2 ^ 31 + b2n e.falling * 2 ^ 30 + e.frac * 2 ^ 20 + e.sec / 2 ^ 32 % 2 ^ 16)
        | none => 0)
    | 8 => some (match h with | some e => w32 e.ns | none => 0)
    | _ => some (w32 (ti n).fifo.length)
  else none

/-! ### The commands -/

/-- TSU_ADJ_RATE (R96). -/
def execTsuAdjRate (v : Word) (s : State) : Host.Outcome State Fault Refusal := actReg State.onTime pTSU (fun s => s.adjRate v) s

/-- TSU_ADJ_PHASE (R97). -/
def execTsuAdjPhase (v : Word) (s : State) : Host.Outcome State Fault Refusal :=
  actReg State.onTime pTSU (fun s => s.adjPhase v) s

/-- SLEW_DONE (R97): due once the whole offset has been applied. -/
def execSlewDone (s : State) : Host.Outcome State Fault Refusal :=
  act State.onTime (fun s =>
    if s.tsu.slewing && s.tsu.slewLeft == 0 then s.updTsu (fun t => { t with slewing := false }) else s) s

/-- LATCH (R98). -/
def execLatch (s : State) : Host.Outcome State Fault Refusal := actReg State.onTime pTSU State.tsuLatch s

/-- STEP (R98, R48): a protected field, refused with LOCKED while the page is locked. -/
def execStep (s : State) : Host.Outcome State Fault Refusal :=
  actReg State.onTime pTSU (fun s =>
    if (s.hd pTSU).unlocked then s.tsuStep else s.refuse pTSU R.TSU_CMD Err.locked) s

/-- LOCKED (R99). -/
def execLocked (s : State) : Host.Outcome State Fault Refusal := actReg State.onTime pTSU State.tsuLocked s

/-- HOLD (R99). -/
def execHold (s : State) : Host.Outcome State Fault Refusal := actReg State.onTime pTSU State.tsuHold s

/-- RELEASE (R99). -/
def execRelease (s : State) : Host.Outcome State Fault Refusal := actReg State.onTime pTSU State.tsuRelease s

/-- DISC_WDOG (R99): due when the watchdog has run its time without a restart. -/
def execDiscWdog (s : State) : Host.Outcome State Fault Refusal :=
  act State.onTime (fun s => if s.discDue then s.enterHold true else s) s

/-- HOLD_UPDATE (R101): `dT` is the change in module temperature since entry, in kelvin. -/
def execHoldUpdate (dT : Int) (s : State) : Host.Outcome State Fault Refusal :=
  act State.onTime (fun s => s.holdUpdate dT) s

/-- TSU_TI_POP (R110). -/
def execTsuTiPop (v : Word) (s : State) : Host.Outcome State Fault Refusal := actReg State.onTime pTSU (fun s => s.tiPop v) s

end Sys2Proof.Machine
end

