-- ==== Sys2Proof/Machine/Swc.lean ====
section
/-!
DEFINITION. The frame MACs and the Crosscut (chapter 3): links, pause, forwarding decisions, hashing, the Landing,
queues and gates, PRP and HSR, MACsec, ageing, the transparent clock and the transmit stamp FIFO (chapter 4).
-/
namespace Sys2Proof.Machine

/-! ### Pages and state access -/

/-- Page of the MAC of port p, of the Crosscut's page 0, and of egress port e (R34, R88). -/
abbrev pMAC (p : Nat) : Nat := 0x040 + p
abbrev pSWC : Nat := 0x050
abbrev pEG (e : Nat) : Nat := 0x051 + e
abbrev pRED : Nat := 0x05D
abbrev pHASH : Nat := 0x05E

def State.mac (s : State) (p : Nat) : Mac := sget {} p s.macs
def State.setMac (s : State) (p : Nat) (m : Mac) : State := { s with macs := sset {} p m s.macs }
def State.eg (s : State) (e : Nat) : EgPort := sget {} e s.egs
def State.setEg (s : State) (e : Nat) (x : EgPort) : State := { s with egs := sset {} e x s.egs }
def State.updSwc (s : State) (f : Swc → Swc) : State := { s with swc := f s.swc }

/-- MAC_CFG as active on a port. -/
def State.macCfg (s : State) (p : Nat) : Word := s.ac (pMAC p) R.MAC_CFG

/-- MAC_MAX_LEN as active. -/
def State.maxLen (s : State) (p : Nat) : Nat := fld (s.ac (pMAC p) R.MAC_MAX_LEN) 0 14

/-- Line rate of a port in Gb/s by its SPEED code (R61). -/
def speedRate (code : Nat) : Nat := if code = 0 then 25 else if code = 1 ∨ code = 4 then 10 else 1
def State.rate (s : State) (p : Nat) : Nat := speedRate (fld (s.macCfg p) 0 3)

/-- Time in ns a frame of a size occupies the line, with preamble and gap (R69). -/
def State.lineNs (s : State) (p size : Nat) : Nat := cdiv ((size + 20) * 8) (s.rate p)

/-- The MAC of a port runs (R487) and its unit is usable. -/
def State.macRuns (s : State) (p : Nat) : Bool := s.running (pMAC p) && !s.unusable (pMAC p)

/-- A port can transmit (R76). -/
def State.canTx (s : State) (p : Nat) : Bool := (s.mac p).linkUp && bit (s.macCfg p) 13 && s.macRuns p

/-- Bytes MACsec adds on a port: 32 with the SCI, 24 without (R66, MAC_MACSEC_CFG). -/
def State.macsecAdd (s : State) (p : Nat) : Nat := if bit (s.ac (pMAC p) R.MAC_MACSEC_CFG) 3 then 32 else 24

/-- Whether a frame passes a MACsec port unprotected (R85): EAPOL always, PTP while MACSEC_BYPASS_PTP is 1. -/
def State.macsecBypass (s : State) (p et : Nat) : Bool := et == 0x888E || (et == 0x88F7 && bit (s.macCfg p) 11)

/-- MACsec is on at a port (P0 to P5 and P8 alone support it, R85). -/
def State.macsecOn (s : State) (p : Nat) : Bool := (p ≤ 5 || p == 8) && bit (s.macCfg p) 10

/-- Address of SA entry i of a port's MACsec table (R87). -/
def saAddr (p i : Nat) : Nat := 0x00960000 + (if p = 8 then 6 else p) * 0x2000 + i * 64

/-! ### Landing (R67, R68, R77) -/

/-- Cells of 256 bytes a frame takes. -/
def cellsOf (size : Nat) : Nat := cdiv size 256

/-- Free cells of the Landing. -/
def State.lndFree (s : State) : Nat := 65536 - (s.swc.landing.map (fun x => x.2.1)).sum

/-- The lowest free-cell count is kept for SWC_LND_MIN_FREE. -/
def State.lndMark (s : State) : State :=
  let n := s.lndFree
  s.updSwc (fun c => { c with minFree := min c.minFree n })

/-- One target has given up its share of a frame: the count falls, and at zero the cells are free (R77). -/
def State.lndDrop (s : State) (id : Nat) : State :=
  s.updSwc (fun c => { c with
    landing :=
    (c.landing.map (fun x => if x.1 = id then (x.1, x.2.1, x.2.2 - 1) else x)).filter (fun x => x.2.2 != 0) })

/-! ### Tables: FDB, groups, VLANs, indirection (R74, R75, R79, R89) -/

/-- Address of FDB entry number i = bucket × 8 + way. -/
def fdbAddr (i : Nat) : Nat := 0x00800000 + i * 32

/-- The bucket of a MAC address and VID (R75). -/
def fdbBucket (mac vid : Nat) : Nat := crc16 (bytesBE 6 mac ++ bytesBE 2 (vid % 4096)) % 4096

/-- Whether FDB entry i is valid and holds a MAC and VID. -/
def State.fdbMatch (s : State) (i mac vid : Nat) : Bool :=
  let w1 := s.tw (fdbAddr i + 4)
  bit w1 31 && fld w1 16 12 == vid % 4096 && fld w1 0 16 == mac / 2 ^ 32 % 2 ^ 16 && (s.tw (fdbAddr i)).toNat == mac % 2 ^ 32

/-- The entry that holds a MAC and VID. -/
def State.fdbFind (s : State) (mac vid : Nat) : Option Nat :=
  ((List.range 8).map (fun w => fdbBucket mac vid * 8 + w)).find? (fun i => s.fdbMatch i mac vid)

/-- Members of a VID: its port mask while the VLAN entry is valid, else none. -/
def State.vlanMembers (s : State) (vid : Nat) : Nat :=
  let a := 0x00920000 + vid % 4096 * 8
  if bit (s.tw (a + 4)) 31 then fld (s.tw a) 0 16 else 0

/-- Ports that send a VID untagged. -/
def State.vlanUntag (s : State) (vid : Nat) : Nat := fld (s.tw (0x00920000 + vid % 4096 * 8 + 4)) 0 16

/-- Redundancy mode of a pair (R81). -/
def State.redMode (s : State) (pair : Nat) : Nat := fld (s.ac pRED R.SWC_RED_MODE) (4 * pair) 4

/-- The pair of a port whose mode is not OFF. -/
def State.pairOf (s : State) (p : Nat) : Option Nat :=
  if p ≤ 7 && s.redMode (p / 2) != 0 then some (p / 2) else none

/-- Members of an aggregation group (R80). -/
def State.lagMembers (s : State) (g : Nat) : List Nat :=
  (List.range 8).filter (fun p => bit (s.ac pHASH R.SWC_LAG_CFG) (8 * g + p))

/-- The group a port belongs to. -/
def State.lagOf (s : State) (p : Nat) : Option Nat := (List.range 4).find? (fun g => (s.lagMembers g).contains p)

/-- Hash key bytes of a frame (R79). -/
def State.hashKey (s : State) (f : Frame) (vid : Nat) : List Nat :=
  let c := s.ac pHASH R.SWC_HASH_CFG
  (if bit c 0 then bytesBE 6 f.da else []) ++ (if bit c 1 then bytesBE 6 f.sa else []) ++
  (if bit c 2 then bytesBE 2 (vid % 4096) else []) ++ (if bit c 3 then bytesBE 2 f.et else []) ++
  (if bit c 4 && (f.et == 0x88BA || f.et == 0x88B8) then bytesBE 2 f.appid else [])

/-- Index into the indirection tables. -/
def State.hashIdx (s : State) (f : Frame) (vid : Nat) : Nat := crc16 (s.hashKey f vid) % 256

/-- The ingest lane of a frame (R71, R79). -/
def State.laneOf (s : State) (f : Frame) (vid : Nat) : Nat :=
  fld (s.tw (0x0091D000 + s.hashIdx f vid * 4)) 0 3 % 4

/-- The member of a group that carries a frame: the (ordinal mod n)-th member, or the next one that can transmit in ascending order,
wrapping; with every member down the lowest-numbered member, which refuses it (R76, R79, R80). A group with no configured member carries
nothing, and its share is dropped uncounted: the spec states no counter for it (the model's choice, log 133). -/
def State.lagPick (s : State) (g : Nat) (f : Frame) (vid : Nat) : Option Nat :=
  let ms := s.lagMembers g
  match ms with
  | [] => none
  | m0 :: _ =>
    let k := fld (s.tw (0x0091C000 + g * 0x400 + s.hashIdx f vid * 4)) 0 3 % ms.length
    let order := ms.drop k ++ ms.take k
    match order.find? s.canTx with
    | some p => some p
    | none => some m0

/-! ### Counting on port pages -/

/-- Offset of counter c (0 ENQ, 1 DEQ, 2 DROP_FULL, 3 DROP_DOWN, 4 DROP_GATE, 5 DROP_AGE, 6 DROP_OVERSIZE) of queue q. -/
def qCnt (q c : Nat) : Nat := 0x810 + 0x20 * q + 4 * c

/-- Cells queued in a queue (SWC_QDEPTHq). -/
def State.qDepth (s : State) (e q : Nat) : Nat := ((((s.eg e).q[q]?).getD []).map (fun x => x.cells)).sum

/-! ### Gates (R73) -/

/-- Segments (start, end, gates) of a port's operating list over one cycle; the last entry's states hold to its end. -/
def State.gateSegs (s : State) (e : Nat) : List (Nat × Nat × Nat) :=
  let x := s.eg e
  let base := 0x00910000 + (2 * e + b2n x.gateBank) * 0x800
  let segs := (List.range x.gateLen).foldl
    (fun (acc : Nat × List (Nat × Nat × Nat)) i =>
      let g := fld (s.tw (base + i * 8)) 0 8
      let n := acc.1 + (s.tw (base + i * 8 + 4)).toNat
      (n, acc.2 ++ [(acc.1, if i + 1 = x.gateLen then max n x.gateCycle else n, g)])) (0, [])
  segs.2

/-- Place in the operating cycle at a time. -/
def State.gatePos (s : State) (e ns : Nat) : Nat :=
  let x := s.eg e
  if x.gateCycle = 0 then 0 else (ns - x.gateBase) % x.gateCycle

/-- Entry the operating list has at a time. -/
def State.gateEntryAt (s : State) (e ns : Nat) : Nat :=
  match findI (fun (g : Nat × Nat × Nat) => decide (s.gatePos e ns < g.2.1)) (s.gateSegs e) with
  | some (i, _) => i
  | none => 0

/-- One full cycle of (duration, gates) from a time on. -/
def State.gateWalk (s : State) (e ns : Nat) : List (Nat × Nat) :=
  let pos := s.gatePos e ns
  let segs := s.gateSegs e
  (segs.filter (fun g => pos < g.2.1)).map (fun g => (g.2.1 - max g.1 pos, g.2.2)) ++
  (segs.filter (fun g => g.1 < pos)).map (fun g => (min g.2.1 pos - g.1, g.2.2))

/-- Time until queue q's gate next has state `want`, from a walk; none if it never has. -/
def gateWait (q : Nat) (want : Bool) : List (Nat × Nat) → Option Nat
  | [] => none
  | (d, g) :: rest => if g.testBit q == want then some 0 else (gateWait q want rest).map (· + d)

/-- Queue q's gate is open now: always while GATE_EN is 0; else by the operating entry. -/
def State.gateOpen (s : State) (e q : Nat) : Bool :=
  let x := s.eg e
  if !x.gateOn then true
  else (fld (s.tw (0x00910000 + (2 * e + b2n x.gateBank) * 0x800 + x.gateEntry * 8)) 0 8).testBit q

/-- Time until queue q's gate next opens (0 if open), none if never. -/
def State.gateOpensIn (s : State) (e q : Nat) : Option Nat :=
  if s.gateOpen e q then some 0 else gateWait q true (s.gateWalk e s.ns)

/-- Time until queue q's gate next closes, none if it stays open. -/
def State.gateClosesIn (s : State) (e q : Nat) : Option Nat :=
  if !(s.eg e).gateOn then none else gateWait q false (s.gateWalk e s.ns)

/-! ### Enqueue (R66, R77) -/

/-- Redundancy trailer or tag of a frame at a port (R82): the pair's own, under its number, towards an active pair, none elsewhere. -/
def State.egTag (s : State) (e : Nat) (f : Frame) (seq : Nat) : Frame :=
  match s.pairOf e with
  | some pr =>
    let m := s.redMode pr
    { f with
      prp := some { hsr := m == 2 || m == 4, seq := seq, lan := e % 2 },
      size := if f.prp.isNone then f.size + 6 else f.size }
  | none => if f.prp.isSome then { f with prp := none, size := f.size - 6 } else f

/-- What an egress port makes of a frame: VLAN tag added or removed by the VID's UNTAG mask, redundancy trailer or tag
added towards an active pair and removed elsewhere, padding to 64 bytes (R65, R66, R82). -/
def State.egFrame (s : State) (e : Nat) (f : Frame) (vid pcp seq : Nat) : Frame :=
  let untag := (s.vlanUntag vid).testBit e
  let f := match f.vlan, untag with
    | none, false => { f with vlan := some (pcp, vid), size := f.size + 4 }
    | some _, true => { f with vlan := none, size := f.size - 4 }
    | _, _ => f
  let f := s.egTag e f seq
  if f.size < 64 then { f with size := 64 } else f

/-- A frame received at a ring port that leaves at the other port of its pair goes on as it came (R83). -/
def State.ringOn (s : State) (ing e : Nat) : Bool := ing ≤ 7 && e ≤ 7 && e / 2 == ing / 2 && (s.pairOf e).isSome

/-- Whether MACsec will add its tag to a frame leaving at e. -/
def State.egMacsec (s : State) (e : Nat) (f : Frame) : Bool := e ≤ 9 && s.macsecOn e && !s.macsecBypass e f.et

/-- Why a port refuses its share, as the counter's number; none if it accepts (R77). Where several reasons hold the one counted is the
first of link or TX_EN, queue limit, size, gate: the spec gives no order (the model's choice, log 134). -/
def State.egRefuse (s : State) (e q : Nat) (f : Frame) (stamp : Nat) : Option Nat :=
  let size := f.size + (if s.egMacsec e f then s.macsecAdd e else 0)
  let age := fld (s.ac (pEG e) (R.SWC_QAGE + 4 * q)) 0 20
  if e ≤ 9 && !s.canTx e then some 3
  else if fld (s.ac (pEG e) (R.SWC_QLIM + 4 * q)) 0 16 ≤ s.qDepth e q then some 2
  else if e ≤ 9 && s.maxLen e < size then some 6
  else if age ≠ 0 && (match s.gateOpensIn e q with
      | some w => decide (diff32 s.short stamp + w > age * 1000)
      | none => true) then some 4
  else none

/-- Enqueue at one target: accepted into queue q, or refused and counted. Answers whether it was accepted. -/
def State.enqOne (s : State) (e q : Nat) (x : QEntry) : Bool × State :=
  match s.egRefuse e q x.frame x.stamp with
  | some c =>
    let s := s.bump (pEG e) (qCnt q c)
    (false, if c = 2 then s.irq (pEG e) 6 else s)
  | none =>
    let g := s.eg e
    let s := s.setEg e { g with q := g.q.set q (((g.q[q]?).getD []) ++ [x]) }
    (true, s.bump (pEG e) (qCnt q 0))

/-- A frame bound to its targets at ingress (R74). -/
structure Bound where
  /-- Egress ports 0 to 11. -/
  ports : List Nat
  queue : Nat
  lane : Nat
  rsel : Nat
  vid : Nat
  pcp : Nat
  deriving DecidableEq, Repr

/-- A pair's own next sequence number (R82). -/
def State.pairNo (s : State) (pr : Nat) : Nat := (s.swc.pairSeq[pr]?).getD 0

/-- The active pairs a frame is sent into under a number of the pair's own. -/
def State.numbered (s : State) (b : Bound) (x : QEntry) (seq : Option Nat) : List Nat :=
  if seq.isSome then []
  else (List.range 4).filter (fun pr => b.ports.any (fun e => s.pairOf e == some pr && !s.ringOn x.ing e))

/-- The frame as one target sends it: under the number supplied, else the number of the target's own pair (R82). -/
def State.frameAt (s : State) (f : Frame) (b : Bound) (x : QEntry) (seq : Option Nat) (e : Nat) : Frame :=
  if (e = 11 ∧ x.oversize) ∨ s.ringOn x.ing e then f
  else s.egFrame e f b.vid b.pcp (seq.getD (match s.pairOf e with | some pr => s.pairNo pr | none => 0))

/-- The frame offered to one target after another: those that have accepted it, and the state. -/
def State.offer (s : State) (b : Bound) (x : QEntry) (fr : Nat → Frame) (ports : List Nat) : List Nat × State :=
  ports.foldl (fun (acc : List Nat × State) e =>
    let y := acc.2.enqOne e (if e = 10 then b.lane else b.queue) { x with frame := fr e }
    (if y.1 then acc.1 ++ [e] else acc.1, y.2)) ([], s)

/-- Write a frame to the Landing once and offer it to every target; the reference count is what accepted (R77). Answers the ports that did.
A MAC control frame is offered to no port (R63). -/
def State.enqueueAll (s : State) (f : Frame) (b : Bound) (x : QEntry) (seq : Option Nat) : List Nat × State :=
  let id := s.swc.nextId
  let cells := cellsOf f.size
  let ports := if f.et = 0x8808 then b.ports.filter (9 < ·) else b.ports
  let b := { b with ports := ports }
  let t := s.updSwc (fun c => { c with
    nextId := id + 1, pairSeq := (s.numbered b x seq).foldl (fun l pr => l.set pr ((s.pairNo pr + 1) % 65536)) c.pairSeq })
  let r := t.offer b { x with id := id, cells := cells, rsel := b.rsel, lane := b.lane } (s.frameAt f b x seq) ports
  if r.1.isEmpty then r
  else (r.1, ((r.2.freshAt ((List.range cells).map (Config.cellAt id)) 256).updSwc (fun c =>
    { c with landing := c.landing ++ [(id, cells, r.1.length)] })).lndMark)

/-- A frame is read from its cells by port e: whether a word gave a poison response (R384). -/
def State.lndRead (s : State) (id cells e : Nat) : Bool × State :=
  if s.flips.isEmpty && s.poison.isEmpty then (false, s)
  else (List.range cells).foldl (fun acc n =>
    let r := acc.2.readMem (Config.cellAt id n) 256 4 e
    (acc.1 || r.2.1, r.2.2)) (false, s)

/-- `enqueueAll` where the ports that accept do not matter. -/
def State.enqueue (s : State) (f : Frame) (b : Bound) (x : QEntry) (seq : Option Nat) : State := (s.enqueueAll f b x seq).2

/-! ### Classification and decision (R71, R74) -/

/-- Queue of a frame: the first valid class whose EtherType it has, else its PCP through the map. -/
def State.queueOf (s : State) (f : Frame) (pcp : Nat) : Nat :=
  match (List.range 8).find? (fun n =>
      let w := s.ac pSWC (R.SWC_ET_CLASS + 4 * n)
      bit w 31 && fld w 0 16 == f.et) with
  | some n => fld (s.ac pSWC (R.SWC_ET_CLASS + 4 * n)) 16 3
  | none => fld (s.ac pSWC R.SWC_PCP_MAP) (3 * (pcp % 8)) 3

/-- Outcome of the lookup: the 16-bit port mask and receive selector, or a drop, counted in CNT_UNK_DROP or not. -/
inductive Look
  | ports (mask rsel : Nat)
  | drop (counted : Bool)
  deriving DecidableEq, Repr

/-- The forwarding lookup (R74). -/
def State.lookup (s : State) (f : Frame) (vid : Nat) : Look :=
  let cfg := s.ac pSWC R.SWC_CFG
  match s.fdbFind f.da vid with
  | some i =>
    let w2 := s.tw (fdbAddr i + 8)
    if bit w2 29 then .drop false
    else if bit w2 30 then
      let ga := 0x00900000 + fld w2 16 12 * 16
      if bit (s.tw ga) 31 then .ports (fld (s.tw ga) 0 16) (fld (s.tw (ga + 4)) 0 9) else .drop true
    else .ports (fld w2 0 16) (fld (s.tw (fdbAddr i + 12)) 0 9)
  | none =>
    let multi := (f.da / 2 ^ 40).testBit 0
    if f.et == 0x88BA && bit cfg 2 then .ports (2 ^ 10) 0
    else if (if multi then bit cfg 1 else bit cfg 0) then .ports (s.vlanMembers vid) 0
    else .drop true

/-- Egress ports of a mask: non-members of the VID and the ingress port (with its pair or group) removed, groups
resolved to one member, an active pair's lower bit standing for both its ports (R74, R79, R81). -/
def State.resolve (s : State) (mask ing vid : Nat) (f : Frame) : List Nat :=
  let m := mask &&& s.vlanMembers vid
  let inPair := s.pairOf ing
  let keep (e : Nat) : Bool := e != ing && (match inPair with | some pr => e / 2 != pr || e > 7 | none => true)
  let direct := (List.range 12).filter (fun e =>
    match s.pairOf e with
    | some pr => m.testBit (2 * pr)
    | none => m.testBit e)
  let lags := (List.range 4).filter (fun g => m.testBit (12 + g) && s.lagOf ing != some g)
  let picked := lags.filterMap (fun g => s.lagPick g f vid)
  (List.range 12).filter (fun e => (direct.contains e || picked.contains e) && keep e)

/-- The whole decision bound at ingress. -/
def State.bind (s : State) (f : Frame) (ing vid pcp : Nat) : Look × Bound :=
  let l := s.lookup f vid
  match l with
  | .ports m r =>
    (l, { ports := s.resolve m ing vid f, queue := s.queueOf f pcp, lane := s.laneOf f vid, rsel := r, vid := vid, pcp := pcp })
  | .drop _ => (l, { ports := [], queue := 0, lane := 0, rsel := 0, vid := vid, pcp := pcp })

/-! ### Learning and ageing (R75) -/

/-- Learn the source of a good frame: refresh its dynamic entry, or take the first free way of its bucket; a full bucket
refuses the learn, counted in CNT_REFUSED. -/
def State.learn (s : State) (p sa vid : Nat) : State :=
  let mask := match s.pairOf p with
    | some pr => 2 ^ (2 * pr)
    | none => match s.lagOf p with | some g => 2 ^ (12 + g) | none => 2 ^ p
  let fresh (i : Nat) (t : State) : State :=
    (t.setTw (fdbAddr i + 16) 0).updSwc (fun c => { c with fdbRef := sput i t.tsu.clk c.fdbRef })
  if (sa / 2 ^ 40).testBit 0 then s
  else match s.fdbFind sa vid with
    | some i =>
      let w2 := s.tw (fdbAddr i + 8)
      if bit w2 31 then s else fresh i (s.setTw (fdbAddr i + 8) (setFld w2 0 16 mask))
    | none =>
      match ((List.range 8).map (fun w => fdbBucket sa vid * 8 + w)).find? (fun i => !bit (s.tw (fdbAddr i + 4)) 31) with
      | none => s.bump pSWC R.CNT_REFUSED
      | some i =>
        fresh i (s.setTws (fdbAddr i)
          [w32 sa, w32 (2 ^ 31 + vid % 4096 * 2 ^ 16 + sa / 2 ^ 32 % 2 ^ 16), w32 mask, 0])

/-- Seconds since a dynamic entry's last refresh (its AGE). -/
def State.fdbAge (s : State) (i : Nat) : Nat := s.since (sget s.tsu.clk i s.swc.fdbRef) / 250000000

/-- A dynamic FDB entry not refreshed for SWC_FDB_AGE seconds is removed. -/
def State.fdbAgeOut (s : State) (i : Nat) : State :=
  let lim := fld (s.ac pSWC R.SWC_FDB_AGE) 0 16
  if lim ≠ 0 && i < 32768 && bit (s.tw (fdbAddr i + 4)) 31 && !bit (s.tw (fdbAddr i + 8)) 31 && lim ≤ s.fdbAge i then
    (s.setTws (fdbAddr i) [0, 0, 0, 0, 0]).updSwc (fun c => { c with fdbRef := sdel i c.fdbRef })
  else s

/-! ### Duplicate discard (R83) -/

/-- The decision for a frame with sequence number `seq` on an entry: accepted or not, out of window or not, and the
entry after it. Bit d of the window stands for HIGH_SEQ - d. -/
def dupDecide (e : DupEntry) (seq clk : Nat) : Bool × Bool × DupEntry :=
  let d := toS 16 (ofS 16 ((seq : Int) - e.high))
  if d > 0 then
    (true, false, { e with window := ((e.window <<< d.toNat) ||| 1) % 2 ^ 64, high := seq % 65536, lastClk := clk })
  else if d > -64 then
    let k := (-d).toNat
    if e.window.testBit k then (false, false, { e with lastClk := clk })
    else (true, false, { e with window := e.window ||| 2 ^ k, lastClk := clk })
  else (true, true, { e with window := 1, high := seq % 65536, lastClk := clk })

/-- First free number of a sparse store below a limit. -/
def freeSlot {β : Type} (lim : Nat) (m : List (Nat × β)) : Option Nat :=
  if m.length < lim then (List.range (m.length + 1)).find? (fun i => !(m.any (fun e => e.1 == i))) else none

/-- Duplicate check of a tagged frame received in a pair: accepted or discarded, counted (R83). -/
def State.dupCheck (s : State) (pair sa seq : Nat) : Bool × State :=
  match s.swc.dups.find? (fun e => e.2.sa == sa && e.2.pair == pair) with
  | some (i, e) =>
    let r := dupDecide e seq s.tsu.clk
    let s := s.updSwc (fun c => { c with dups := sput i r.2.2 c.dups })
    let s := if r.1 then s else s.bump pRED (R.SWCR_CNT_DUP_DISCARD + 4 * pair)
    (r.1, if r.2.1 then s.bump pRED (R.SWCR_CNT_OUT_OF_WINDOW + 4 * pair) else s)
  | none =>
    match freeSlot 4096 s.swc.dups with
    | none => (true, s.bump pRED R.SWCR_CNT_TRACK_REFUSED)
    | some i =>
      let e : DupEntry := { sa := sa, pair := pair, high := seq % 65536, window := 1, lastClk := s.tsu.clk }
      (true, s.updSwc (fun c => { c with dups := sput i e c.dups }))

/-- A duplicate entry that saw no frame for SWC_RED_FORGET ms is released. -/
def State.dupForget (s : State) (i : Nat) : State :=
  match s.swc.dups.find? (fun e => e.1 == i) with
  | some (_, e) =>
    if msClk (s.ac pRED R.SWC_RED_FORGET).toNat ≤ s.since e.lastClk then
      s.updSwc (fun c => { c with dups := sdel i c.dups })
    else s
  | none => s

/-- A node enters the node table, or its last-seen stamp is refreshed; a node beyond 1,024 is counted in CNT_REFUSED
(R81, R84). -/
def State.nodeSeen (s : State) (node : Nat) (lan : Option Nat) (proxied : Bool) : State :=
  let up (n : NodeEntry) : NodeEntry :=
    match lan with
    | some 0 => { n with lanA := some s.short }
    | some _ => { n with lanB := some s.short }
    | none => n
  match s.swc.nodes.find? (fun e => e.2.mac == node) with
  | some (i, e) => s.updSwc (fun c => { c with nodes := sput i (up { e with proxied := e.proxied || proxied }) c.nodes })
  | none =>
    match freeSlot 1024 s.swc.nodes with
    | none => s.bump pRED R.CNT_REFUSED
    | some i => s.updSwc (fun c => { c with nodes := sput i (up { mac := node, proxied := proxied }) c.nodes })

/-! ### Pause and links (R63, R70, R76) -/

/-- A pause ends. -/
def Mac.resume (m : Mac) : Mac := { m with paused := false, pauseWait := false }

/-- A received PAUSE (R70): counted; honoured while PAUSE_EN is 1 and no holdoff runs. The time is measured from the moment transmission first
stops, which is after the frame in flight. -/
def State.pauseRx (s : State) (p quanta : Nat) : State :=
  let s := s.bump (pMAC p) R.MAC_CNT_PAUSE_RX
  let m := s.mac p
  if !bit (s.macCfg p) 8 || m.holdoff then s
  else if quanta = 0 then s.setMac p m.resume
  else
    let dur := cdiv (quanta * 512) (s.rate p * 4)
    s.setMac p { m with
      paused := true, pauseEndClk := s.tsu.clk + dur,
      pauseWait := if m.paused then m.pauseWait else !(s.eg p).fly.isEmpty,
      pauseStartClk := if m.paused then m.pauseStartClk else s.tsu.clk }

/-- The frame in flight has left a port: a pause that waited for it stops transmission now (R70). -/
def State.pauseBegin (s : State) (p : Nat) : State :=
  let m := s.mac p
  if m.pauseWait then s.setMac p { m with pauseWait := false, pauseStartClk := s.tsu.clk } else s

/-- The quanta run out and transmission resumes. -/
def State.pauseExpire (s : State) (p : Nat) : State :=
  let m := s.mac p
  if m.paused && decide (m.pauseEndClk ≤ s.tsu.clk) then s.setMac p m.resume else s

/-- Continuous paused time exceeds PAUSE_WDOG (R70). -/
def State.pauseWdog (s : State) (p : Nat) : State :=
  let m := s.mac p
  let c := s.ac (pMAC p) R.MAC_PAUSE
  if m.paused && !m.pauseWait && fld c 0 16 ≠ 0 && msClk (fld c 0 16) < s.since m.pauseStartClk then
    let s := s.setMac p { m.resume with holdoff := true, holdoffEndClk := s.tsu.clk + msClk (fld c 16 16) }
    (s.bump (pMAC p) R.MAC_CNT_PAUSE_WDOG).irq (pMAC p) 5
  else s

/-- PAUSE_HOLDOFF expires. -/
def State.pauseHoldoffEnd (s : State) (p : Nat) : State :=
  let m := s.mac p
  if m.holdoff && decide (m.holdoffEndClk ≤ s.tsu.clk) then s.setMac p { m with holdoff := false } else s

/-- The frames in a port's queues are discarded and counted in DROP_DOWN per queue (R76). -/
def State.flushQueues (s : State) (p : Nat) : State :=
  let x := s.eg p
  let s := iter 8 (fun q s =>
    ((x.q[q]?).getD []).foldl (fun s y => (s.lndDrop y.id).bump (pEG p) (qCnt q 3)) s) s
  s.setEg p { x with q := [[], [], [], [], [], [], [], []] }

/-- What waits in a port's queues and what is in flight is lost; on P8 also the DUP block's frames that waited for it (R64, R76). -/
def State.flushPort (s : State) (p : Nat) : State :=
  let s := s.flushQueues p
  let s := (s.eg p).fly.foldl (fun s y => s.lndDrop y.id) s
  let s := s.setEg p { s.eg p with fly := [] }
  if p = 8 then (s.updSwc (fun c => { c with yard := [] })).bumpBy 0x1D0 R.DUP_CNT_LINK_DROP s.swc.yard.length else s

/-- A port's link goes down (R76). It ends a running pause and the holdoff, on which the spec is silent (the model's choice, log 135). -/
def State.linkLost (s : State) (p : Nat) : State :=
  let m := s.mac p
  if !m.linkUp then s
  else
    let s := s.setMac p { m.resume with linkUp := false, holdoff := false }
    ((s.bump (pMAC p) R.MAC_CNT_LINK_DOWN).irq (pMAC p) 4).flushPort p

/-- A port's link comes up: only where its MAC runs, its unit is usable and its cage is fed (R5, R76, R469, R487). -/
def State.linkGained (s : State) (p : Nat) : State :=
  let m := s.mac p
  if 9 < p || m.linkUp || !s.macRuns p || m.supplyOff then s
  else (s.setMac p { m with linkUp := true }).irq (pMAC p) 4

/-! ### MACsec receive (R85, R86) -/

/-- The receive SA of a frame: entry 4 + 4c + a, valid, with its SCI and AN. -/
def State.rxSa (s : State) (p : Nat) (t : SecTag) : Option Nat :=
  ((List.range 16).map (fun c => 4 + 4 * c + t.an % 4)).find? (fun i =>
    let a := saAddr p i
    bit (s.tw a) 31 && !bit (s.tw a) 30 && fld (s.tw a) 0 2 == t.an % 4 &&
      (s.tw (a + 8)).toNat + (s.tw (a + 12)).toNat * 2 ^ 32 == t.sci)

/-- Destination bit of a port's MACsec keys: 0 for P0 to P5, 2 on P8 (R85, R403). -/
def macsecDest (p : Nat) : Nat := if p = 8 then 2 else 0

/-- The lowest acceptable PN of a receive SA: 2^32 once PN 0xFFFFFFFF has been accepted (R86). -/
def State.pnLow (s : State) (a : Nat) : Nat := if s.swc.pnSpent.contains a then 2 ^ 32 else (s.tw (a + 16)).toNat

/-- A receive SA has accepted a PN: the lowest acceptable one rises past it. -/
def State.pnTaken (s : State) (a pn : Nat) : State :=
  if pn < s.pnLow a then s
  else if pn = 0xFFFFFFFF then (s.setTw (a + 16) 0xFFFFFFFF).updSwc (fun c => { c with pnSpent := a :: c.pnSpent })
  else s.setTw (a + 16) (w32 (pn + 1))

/-- MACsec at reception: the frame without its tag, or none where it is dropped, with the drop counted. Only a frame without a SecTAG can pass
unprotected (R85). A frame whose SecTAG names no valid receive SA is one without a valid SecTAG and counts in CNT_MACSEC_NOTAG (the model's
reading, log 138). -/
def State.macsecRx (s : State) (p : Nat) (f : Frame) : Option Frame × State :=
  if !s.macsecOn p then (some f, s)
  else match f.sec with
    | none => if s.macsecBypass p f.et then (some f, s) else (none, s.bump (pMAC p) R.MAC_CNT_MACSEC_NOTAG)
    | some t =>
      match s.rxSa p t with
      | none => (none, s.bump (pMAC p) R.MAC_CNT_MACSEC_NOTAG)
      | some i =>
        let a := saAddr p i
        if t.pn + (s.ac (pMAC p) R.MAC_REPLAY_WIN).toNat < s.pnLow a then (none, s.bump (pMAC p) R.MAC_CNT_MACSEC_REPLAY)
        else match s.useKey (fld (s.tw (a + 4)) 0 8) (macsecDest p) with
          | (none, s) => (none, s.bump (pMAC p) R.MAC_CNT_MACSEC_ICV_FAIL)
          | (some key, s) =>
            if Config.macsecIcv key { f with sec := some { t with icv := 0 } } ≠ t.icv then
              (none, s.bump (pMAC p) R.MAC_CNT_MACSEC_ICV_FAIL)
            else
              (some { f with sec := none, size := f.size - (if t.sciIncl then 32 else 24) }, s.pnTaken a t.pn)

/-- A transmit SA's next PN has reached the threshold, where it had not before (R86). -/
def State.pnThresh (s : State) (p old new : Nat) : State :=
  let lim := (s.ac (pMAC p) R.MAC_PN_THRESH).toNat
  if old < lim ∧ lim ≤ new then s.irq (pMAC p) 8 else s

/-- The transmit SAs of a port whose entries are valid: entry numbers. -/
def State.txSas (s : State) (p : Nat) : List Nat :=
  if p ≤ 5 ∨ p = 8 then (List.range 4).filter (fun i => bit (s.tw (saAddr p i)) 31) else []

/-- An SA entry has been written: a receive SA starts at the PN written; a transmit SA written at or past the threshold has reached it. -/
def State.saWritten (s : State) (p a : Nat) : State :=
  let s := s.updSwc (fun c => { c with pnSpent := c.pnSpent.filter (· != a) })
  let i := (a - saAddr p 0) / 64
  if (s.txSas p).contains i then s.pnThresh p 0 (max 1 (s.tw (a + 16)).toNat) else s

/-! ### Reception (R65, R67, R69, R71, R74, R83) -/

/-- Ingress stamp with the port's RX_ADJ (R92; log 9). -/
def State.rxStamp (s : State) (p : Nat) : Nat :=
  shortOf (((s.tsu.now : Int) + sfld (s.ac pTSU (R.TSU_PORT_ADJ + 4 * p)) 0 16 * 62500000000).toNat / 10 ^ 12)

/-- FRAC of an ingress stamp and FRAC_VALID (R91, R92): the 1 Gb/s ports P6 and P7 have no interpolation. -/
def State.rxFrac (s : State) (p : Nat) : Nat × Bool :=
  if p = 6 ∨ p = 7 then (0, false)
  else (((s.tsu.now : Int) + sfld (s.ac pTSU (R.TSU_PORT_ADJ + 4 * p)) 0 16 * 62500000000).toNat % 10 ^ 12 / 62500000000, true)

/-- The transparent clock's part at reception (R105), with the ports that have accepted the frame: a two-step Sync takes an entry, a Follow_Up
without one is counted. A port whose MACSEC_BYPASS_PTP is 0 corrects nothing (R103). -/
def State.tcRx (s : State) (p : Nat) (f : Frame) (ports : List Nat) : State :=
  match f.body with
  | .ptp m =>
    let outs := ports.filter (fun e => e ≤ 9 && bit (s.macCfg e) 11)
    if !bit (s.ac pTSU R.TSU_CFG) 0 || f.et ≠ 0x88F7 then s
    else match m.kind with
      | .sync =>
        if !m.twoStep || outs.isEmpty then s
        else if 64 ≤ s.swc.tc.length then s.bump pTSU R.CNT_REFUSED
        else s.updSwc (fun c => { c with
          tc := c.tc ++ [
          {
            ing := p, src := m.src, seq := m.seq, domain := m.domain, syncClk := s.tsu.clk,
            res := outs.map (fun e => (e, none)) }] })
      | .followUp =>
        if outs.isEmpty || s.swc.tc.any (fun t =>
            t.ing == p && t.src == m.src && t.seq == m.seq && t.domain == m.domain) then s
        else s.bump pTSU R.TSU_CNT_TC_NO_MATCH
      | _ => s
  | _ => s

/-- A Pdelay message: never forwarded, it goes to the PF through H1 (R105). -/
def isPdelay (f : Frame) : Bool :=
  match f.body with
  | .ptp m => f.et == 0x88F7 && (m.kind == .pdelayReq || m.kind == .pdelayResp || m.kind == .pdelayRespFu)
  | _ => false

/-- Forwarding of a good frame: learning, decision, one enqueue at every target (the other ring port among them, where the frame goes round
its ring), the transparent clock (R69, R74, R75, R83, R105). -/
def State.forward (s : State) (p : Nat) (f : Frame) (stamp vid pcp : Nat) (ring : Option Nat) : State :=
  let s := if bit (s.macCfg p) 9 then s.learn p f.sa vid else s
  let x : QEntry :=
    { id := 0, frame := f, cells := 0, stamp := stamp, ing := p, rsel := 0, frac := (s.rxFrac p).1, fracOk := (s.rxFrac p).2 }
  let dest (ports : List Nat) : Bound :=
    { ports := ports, queue := s.queueOf f pcp, lane := 0, rsel := 0, vid := vid, pcp := pcp }
  let go (b : Bound) (s : State) : State := let r := s.enqueueAll f b x none; r.2.tcRx p f r.1
  if isPdelay f then s.enqueue f (dest [11]) x none
  else match s.bind f p vid pcp with
    | (.drop c, _) =>
      let s := if c then s.bump pSWC R.SWC_CNT_UNK_DROP else s
      (match ring with | some e => go (dest [e]) s | none => s)
    | (.ports _ _, b) => go { b with ports := (ring.toList ++ b.ports) } s

/-- The module's own address on a port (MAC_ADDR). -/
def State.ownAddr (s : State) (p : Nat) : Nat :=
  fld (s.ac (pMAC p) R.MAC_ADDR_HI) 0 16 * 2 ^ 32 + (s.ac (pMAC p) R.MAC_ADDR_LO).toNat

/-- An address of the module's own: a port's MAC_ADDR, or one under which a frame has been posted through H1 (R83; log 139). -/
def State.isOwn (s : State) (a : Nat) : Bool := (List.range 10).any (fun p => s.ownAddr p == a) || s.swc.ownSrc.contains a

/-- The node that sent a frame which entered outside a RedBox pair is proxied by it (R81); `ing` 11 is H1. -/
def State.proxySeen (s : State) (ing sa : Nat) : State :=
  if (List.range 4).any (fun pr => (s.redMode pr == 3 || s.redMode pr == 4) && (7 < ing || ing / 2 != pr)) then s.nodeSeen sa none true else s

/-- Redundancy at reception (R81, R83, R84): supervision frames enter the node table with the LAN of the port they came by; a tagged frame
passes the duplicate window; in the ring modes a frame is forwarded to the other ring port unless duplicate, own, or for the module
alone. Answers whether the frame goes on to the normal decision, and the other ring port where it goes round. A frame without a tag has no
number and is no duplicate (log 139). -/
def State.redRx (s : State) (p : Nat) (f : Frame) : Bool × Option Nat × State :=
  let s := s.proxySeen p f.sa
  match s.pairOf p with
  | none => (true, none, s)
  | some pr =>
    let ring := s.redMode pr == 2 || s.redMode pr == 4
    let s := match f.body with
      | .supervision node => s.nodeSeen node (some (p % 2)) false
      | _ => s
    let round : Option Nat := if ring && !s.isOwn f.da then some (if p % 2 = 0 then p + 1 else p - 1) else none
    if ring && s.isOwn f.sa then (false, none, s.bump pRED R.SWCR_CNT_HSR_OWN)
    else match f.prp with
      | none => (true, round, s)
      | some t => let r := s.dupCheck pr f.sa t.seq; (r.1, round, r.2)

/-- A window frame on the shelf port: one of another shelf, or that holds none, is discarded and counted (R447). -/
def State.windowIn (s : State) (f : Frame) : State :=
  match f.body with
  | .window m =>
    if m.shelf = s.ident.shelfPins % 64 then { s with shf := { s.shf with rx := s.shf.rx ++ [m] } }
    else s.bump 0x1E0 R.SHF_CNT_BAD_FRAME
  | _ => s.bump 0x1E0 R.SHF_CNT_BAD_FRAME

/-- FRAME_RX (R67): the whole handling of one frame received at port p. -/
def State.frameRx (s : State) (p : Nat) (f : Frame) : State :=
  if 9 < p || !s.macRuns p || !(s.mac p).linkUp || !bit (s.macCfg p) 12 then s
  else
    let m := pMAC p
    let stamp := s.rxStamp p
    let control := f.et == 0x8808
    let admitted := s.running pSWC && cellsOf (s.maxLen p) ≤ s.lndFree
    if !control && !admitted then (s.bump m R.MAC_CNT_RX_OVF).irq m 6
    else if f.size < 64 then s.bump m R.MAC_CNT_RUNT
    else if s.maxLen p < f.size then
      let s := (s.bump m R.MAC_CNT_OVERSIZE).irq m 7
      let vc := s.ac m R.MAC_VLAN
      let pcp := match f.vlan with | some v => v.1 | none => fld vc 12 3
      if control then s
      else s.enqueue { f with size := s.maxLen p }
        { ports := [11], queue := s.queueOf f pcp, lane := 0, rsel := 0, vid := 1, pcp := pcp }
        { id := 0, frame := f, cells := 0, stamp := stamp, ing := p, rsel := 0, oversize := true, frac := (s.rxFrac p).1,
          fracOk := (s.rxFrac p).2 } none
    else if !f.fcsOk then s.bump m R.MAC_CNT_FCS_ERR
    else
      let s := (s.bump m R.MAC_CNT_RX_FRAMES).bumpBy m R.MAC_CNT_RX_BYTES f.size
      if control then
        match f.body with
        | .pause q => s.pauseRx p q
        | _ => s.bump m R.MAC_CNT_CTRL_UNSUP
      else match s.macsecRx p f with
        | (none, s) => s
        | (some f, s) =>
          let vc := s.ac m R.MAC_VLAN
          let vid := match f.vlan with | some v => v.2 | none => fld vc 0 12
          if p = 9 && f.et == 0x88B7 then s.windowIn f
          else if p = 8 && f.et == 0x88B6 then
            (if (s.hd 0x1D0).enable then { s with dup := { s.dup with rx := s.dup.rx ++ [f.body] } } else s.bump 0x1D0 R.DUP_CNT_LINK_DROP)
          else
          let pcp := match f.vlan with | some v => v.1 | none => fld vc 12 3
          if (bit vc 16 && f.vlan.isNone) || (bit vc 17 && !(s.vlanMembers vid).testBit p) then s.bump m R.MAC_CNT_VLAN_DROP
          else
            let r := s.redRx p f
            if r.1 then r.2.2.forward p f stamp vid pcp r.2.1 else r.2.2

/-! ### H1 (R65, R68, R71, R74) -/

/-- Classify and enqueue the oldest frame posted through H1 once the Crosscut runs and its cells are free (R68). -/
def State.h1Take (s : State) : State :=
  match s.swc.h1q with
  | [] => s
  | i :: rest =>
    let f := if i.frame.size < 64 then { i.frame with size := 64 } else i.frame
    if !s.running pSWC || s.lndFree < cellsOf f.size then s
    else
      let s := s.updSwc (fun c => { c with
        h1q := rest, ownSrc := if c.ownSrc.contains f.sa then c.ownSrc else f.sa :: c.ownSrc })
      let s := s.proxySeen 11 f.sa
      let vid := match f.vlan with | some v => v.2 | none => 1
      let pcp := match f.vlan with | some v => v.1 | none => 0
      let x : QEntry :=
        {
          id := 0, frame := f, cells := 0, stamp := s.short, ing := 11, rsel := 0, tsReq := i.tsReq,
          oneStep := i.oneStep, fn := i.fn }
      let q := i.queue.getD (s.queueOf f pcp)
      match i.direct with
      | some mask =>
        s.enqueue f
          { ports := (List.range 12).filter mask.testBit, queue := q, lane := s.laneOf f vid, rsel := 0, vid := vid, pcp := pcp } x i.seq
      | none =>
        match s.bind f 11 vid pcp with
        | (.drop c, _) => if c then s.bump pSWC R.SWC_CNT_UNK_DROP else s
        | (.ports _ _, b) => s.enqueue f { b with queue := q } x i.seq

/-! ### Selection and transmission (R70, R72, R78, R86, R104 to R107) -/

/-- Age of a queued frame exceeds its queue's limit (R78). -/
def State.aged (s : State) (e q : Nat) (x : QEntry) : Bool :=
  let lim := fld (s.ac (pEG e) (R.SWC_QAGE + 4 * q)) 0 20
  lim ≠ 0 && decide (diff32 s.short x.stamp > lim * 1000)

/-- Time in ns the transmission of a queued frame takes, with what MACsec adds: at a port on its line; an ingest lane takes 25 Gb/s and H1
100 Gb/s (R61, R66, R72). -/
def State.sendNs (s : State) (e : Nat) (f : Frame) : Nat :=
  if e = 10 then cdiv (f.size * 8) 25
  else if e = 11 then cdiv (f.size * 8) 100
  else s.lineNs e (f.size + (if s.egMacsec e f then s.macsecAdd e else 0))

/-- The frame at the head of queue q can start now: its gate is open and its transmission ends before the gate next
closes (R72). -/
def State.fits (s : State) (e q : Nat) (x : QEntry) : Bool :=
  s.gateOpen e q && (match s.gateClosesIn e q with
    | none => true
    | some w => decide (s.sendNs e x.frame ≤ w))

/-- Take the head of queue q. -/
def State.deq (s : State) (e q : Nat) : State :=
  let x := s.eg e
  s.setEg e { x with q := x.q.set q (((x.q[q]?).getD []).drop 1) }

/-- Correction of a PTP message as it leaves at port e with egress stamp `eg` (R104, R105). -/
def State.ptpOut (s : State) (e : Nat) (x : QEntry) (eg frac : Nat) : Frame × State :=
  match x.frame.body with
  | .ptp m =>
    let upd (m : PtpMsg) : Frame := { x.frame with body := .ptp m }
    if x.frame.et ≠ 0x88F7 || !bit (s.macCfg e) 11 then (x.frame, s)
    else if x.ing ≤ 9 then
      if !bit (s.ac pTSU R.TSU_CFG) 0 then (x.frame, s)
      else
        let res := diff32 (shortOf eg) x.stamp
        let dly : Int := fld (s.rg pTSU (R.TSU_LINKDLY + 4 * x.ing)) 0 20
        match m.kind with
        | .sync =>
          if m.twoStep then
            (x.frame, s.updSwc (fun c => { c with
              tc := c.tc.map (fun t =>
              if t.ing == x.ing && t.src == m.src && t.seq == m.seq && t.domain == m.domain then
                { t with res := t.res.map (fun r => if r.1 = e then (e, some res) else r) } else t) }))
          else (upd { m with corr := m.corr + (res + dly) * 65536 }, s)
        | .followUp =>
          match s.swc.tc.find? (fun t => t.ing == x.ing && t.src == m.src && t.seq == m.seq && t.domain == m.domain) with
          | some t =>
            let got := match t.res.find? (fun r => r.1 == e) with | some (_, some r) => some r | _ => none
            let left := t.res.filter (fun r => r.1 != e)
            let s := s.updSwc (fun c => { c with
              tc := (c.tc.map (fun u =>
              if u == t then { u with res := left } else u)).filter (fun u => !u.res.isEmpty) })
            (match got with
              | some r => upd { m with corr := m.corr + (r + dly) * 65536 }
              | none => x.frame, s)
          | none => (x.frame, s)
        | _ => (x.frame, s)
    else match x.oneStep, m.kind with
      | some _, .sync =>
        let adj := sfld (s.ac pTSU (R.TSU_PORT_ADJ + 4 * e)) 16 16
        (upd { m with originSec := secOf eg, originNs := nsOf eg, corr := m.corr + ((frac : Int) + adj) * 4096 }, s)
      | some ing, .pdelayResp => (upd { m with corr := m.corr + diff32 (shortOf eg) ing * 65536 }, s)
      | _, _ => (x.frame, s)
  | _ => (x.frame, s)

/-- MACsec at transmission (R86): the SecTAG with the next PN, or none where the SA is exhausted or absent. -/
def State.macsecTx (s : State) (p : Nat) (f : Frame) : Option Frame × State :=
  if !s.egMacsec p f then (some f, s)
  else
    let an := fld (s.ac (pMAC p) R.MAC_MACSEC_CFG) 0 2
    let a := saAddr p an
    let pn := (s.tw (a + 16)).toNat
    if !bit (s.tw a) 31 then (none, s)
    else if pn = 0xFFFFFFFF then (none, (s.bump (pMAC p) R.MAC_CNT_MACSEC_PN_EXH).irq (pMAC p) 9)
    else
      let incl := bit (s.ac (pMAC p) R.MAC_MACSEC_CFG) 3
      let t : SecTag := {
        sci := s.ac64 (pMAC p) R.MAC_SCI, sciIncl := incl, an := an, pn := pn,
        conf := bit (s.tw a) 29, icv := 0 }
      let g := { f with sec := some t, size := f.size + s.macsecAdd p }
      match s.useKey (fld (s.tw (a + 4)) 0 8) (macsecDest p) with
      | (none, s) => (none, s)
      | (some key, s) =>
        let icv := Config.macsecIcv key g
        (some { g with sec := some { t with icv := icv } }, (s.setTw (a + 16) (w32 (pn + 1))).pnThresh p pn (pn + 1))

/-- A frame of the DUP block leaves on P8 ahead of every queue of the Crosscut (R64). -/
def State.yardOut (s : State) (f : Frame) : State :=
  match s.macsecTx 8 f with
  | (none, s) => s.bump 0x1D0 R.DUP_CNT_LINK_DROP
  | (some g, s) => ((s.bump (pMAC 8) R.MAC_CNT_TX_FRAMES).bumpBy (pMAC 8) R.MAC_CNT_TX_BYTES g.size).emit (.tx 8 g)

/-- The DUP block sends a frame on P8: it waits only for the frame in flight (R64). -/
def State.yardSend (s : State) (f : Frame) : State :=
  if !s.canTx 8 then s.bump 0x1D0 R.DUP_CNT_LINK_DROP
  else if (s.eg 8).fly.isEmpty then s.yardOut f
  else s.updSwc (fun c => { c with yard := c.yard ++ [f] })

/-- The frames of the DUP block that waited leave. -/
def State.yardDrain (s : State) : State := s.swc.yard.foldl State.yardOut (s.updSwc (fun c => { c with yard := [] }))

/-- An egress port can start a frame: none in flight, and at P0 to P9 able to transmit and not paused (R70, R72, R76). -/
def State.egIdle (s : State) (e : Nat) : Bool :=
  (s.eg e).fly.isEmpty && (if 9 < e then e ≤ 11 else s.canTx e && !(s.mac e).paused) && s.running pSWC

/-- Selection at an egress port, with fuel for the frames discarded by age on the way (R72, R78). -/
def State.select (s : State) (e : Nat) : Nat → State
  | 0 => s
  | fuel + 1 =>
    let qs := (List.range 8).reverse
    let head (q : Nat) : Option QEntry := ((s.eg e).q[q]?).getD [] |>.head?
    match qs.find? (fun q => match head q with
        | some x => s.gateOpen e q && (s.aged e q x || s.fits e q x) && (e != 10 || laneRoom s q x)
        | none => false) with
    | none => s
    | some q =>
      match head q with
      | none => s
      | some x =>
        let s := s.deq e q
        if s.aged e q x then
          (((s.lndDrop x.id).bump (pEG e) (qCnt q 5)).irq (pEG e) 5).select e fuel
        else
          let bad := s.lndRead x.id x.cells e
          let s := bad.2
          if 9 < e then
            -- a frame that cannot be read is dropped (R384)
            if bad.1 then ((s.lndDrop x.id).bump (pEG e) (qCnt q 5)).select e fuel
            else
              let s := s.bump (pEG e) (qCnt q 1)
              s.setEg e { s.eg e with fly := (s.eg e).fly ++ [x] }
          else
            let s := s.bump (pEG e) (qCnt q 1)
            let eg := s.ns
            let fr := if e = 6 || e = 7 then 0 else s.frac
            let r := s.ptpOut e x eg fr
            match r.2.macsecTx e r.1 with
            | (none, s) => (s.lndDrop x.id).select e fuel
            | (some f, s) =>
              -- it ends with an inverted FCS where a word of it cannot be read (R384)
              let f := { f with fcsOk := f.fcsOk && !bad.1 }
              s.setEg e { s.eg e with fly := [{ x with frame := f, egNs := eg, egFrac := fr }] }
where
  /-- The lane's crossing of 512 entries of 64 bytes has room for the frame, and no frame is being written to it. -/
  laneRoom (s : State) (lane : Nat) (x : QEntry) : Bool :=
    let used := (((s.swc.lanes[lane]?).getD []).map (fun y => cdiv y.frame.size 64)).sum
    used + cdiv x.frame.size 64 ≤ 512

end Sys2Proof.Machine
end

