-- ==== Sys2Proof/Machine/Sva.lean ====
section
/-!
DEFINITION. The sample plane (chapter 5): subscriptions, frame acceptance, placement on the grid, interpolation, the
close of a tick, stream states and substitution, strangers.
-/
namespace Sys2Proof.Machine

/-- Pages of the SVA block. -/
abbrev pSVA : Nat := 0x080
abbrev pDUP : Nat := 0x1D0

def State.updSva (s : State) (f : Sva → Sva) : State := { s with sva := f s.sva }

/-- The stream record of a slot. -/
def State.strm (s : State) (slot : Nat) : Stream := sget {} slot s.sva.streams
def State.setStrm (s : State) (slot : Nat) (x : Stream) : State :=
  s.updSva (fun v => { v with streams := sset {} slot x v.streams })

/-- SVA_CFG.PAIRED as the DUP block sets it (R128, R355). -/
def State.paired (s : State) : Bool := s.dup.paired

/-- DUP_CFG.EN as active, in any pair state (R114). -/
def State.pairOn (s : State) : Bool := bit (s.ac pDUP R.DUP_CFG) 0

/-! ### Subscription entries (R112 to R114, R137) -/

/-- Words of a subscription entry, with the fields the rules name. -/
abbrev Sub := List Word

def Sub.w (e : Sub) (i : Nat) : Word := (e[i]?).getD 0
def Sub.valid (e : Sub) : Bool := bit (Sub.w e 0) 31
def Sub.rateCode (e : Sub) : Nat := fld (Sub.w e 0) 28 2
/-- Samples per second. -/
def Sub.rate (e : Sub) : Nat :=
  match Sub.rateCode e with | 0 => 4000 | 1 => 4800 | 2 => 12800 | _ => 14400
def Sub.unsync (e : Sub) : Bool := bit (Sub.w e 0) 27
def Sub.noAsdu (e : Sub) : Nat := fld (Sub.w e 0) 23 4
def Sub.dsCh (e : Sub) : Nat := fld (Sub.w e 0) 18 5
def Sub.substMode (e : Sub) : Nat := fld (Sub.w e 0) 16 2
def Sub.appid (e : Sub) : Nat := fld (Sub.w e 0) 0 16
def Sub.chMask (e : Sub) : Nat := fld (Sub.w e 1) 16 16
def Sub.chBase (e : Sub) : Nat := fld (Sub.w e 1) 0 12
def Sub.recover (e : Sub) : Nat := fld (Sub.w e 2) 16 16
def Sub.dropout (e : Sub) : Nat := fld (Sub.w e 2) 0 16
def Sub.tagLen (e : Sub) : Nat := fld (Sub.w e 3) 24 3
def Sub.authReq (e : Sub) : Bool := bit (Sub.w e 3) 23
def Sub.auth (e : Sub) : Nat := fld (Sub.w e 3) 21 2
def Sub.syncSubst (e : Sub) : Bool := bit (Sub.w e 3) 20
def Sub.reqSync (e : Sub) : Nat := fld (Sub.w e 3) 18 2
def Sub.matchSa (e : Sub) : Bool := bit (Sub.w e 3) 17
def Sub.gapInvalid (e : Sub) : Bool := bit (Sub.w e 3) 16
def Sub.pubDelay (e : Sub) : Nat := fld (Sub.w e 3) 0 14
def Sub.key2Valid (e : Sub) : Bool := bit (Sub.w e 4) 16
def Sub.key2 (e : Sub) : Nat := fld (Sub.w e 4) 8 8
def Sub.key (e : Sub) : Nat := fld (Sub.w e 4) 0 8
def Sub.confRev (e : Sub) : Nat := (Sub.w e 5).toNat
def Sub.sa (e : Sub) : Nat := fld (Sub.w e 7) 0 16 * 2 ^ 32 + (Sub.w e 6).toNat
def Sub.svidLen (e : Sub) : Nat := fld (Sub.w e 8) 0 7

/-- Byte n of a string field laid out under R489 from word `i0` of an entry. -/
def strByte (e : List Word) (i0 n : Nat) : Byte := BitVec.ofNat 8 (fld ((e[i0 + n / 4]?).getD 0) (8 * (n % 4)) 8)

def Sub.svid (e : Sub) : List Byte := (List.range (min 64 (Sub.svidLen e))).map (strByte e 9)

/-- Phases per tick and stream slots taken (R113): three for 12,800 and 14,400 Hz. -/
def Sub.phases (e : Sub) : Nat := if 2 ≤ Sub.rateCode e then 3 else 1

/-- Selected dataset channels in ascending order. -/
def Sub.chans (e : Sub) : List Nat := (List.range 16).filter (fun i => (Sub.chMask e).testBit i)

/-- Channel slots taken. -/
def Sub.nChan (e : Sub) : Nat := (Sub.chans e).length * Sub.phases e

/-- The subscription entry of a slot as it stands. -/
def State.sub (s : State) (slot : Nat) : Sub := s.tws (0x00A00000 + slot * 128) 32

/-- Slots whose entries are valid. -/
def State.validSubs (s : State) : List Nat := (s.sva.streams.filter (fun e => e.2.valid)).map (fun e => e.1)

/-- Two entries would match the same frames (R112). -/
def Sub.clash (a b : Sub) : Bool :=
  Sub.appid a == Sub.appid b && Sub.svid a == Sub.svid b &&
    !(Sub.matchSa a && Sub.matchSa b && Sub.sa a != Sub.sa b)

/-- Half-open ranges overlap. -/
def overlap (a n b m : Nat) : Bool := a < b + m && b < a + n

/-- The slot is held by the entry one or two slots before it (TAKEN, R113), until the close after that entry's removal (R115). -/
def State.subTaken (s : State) (slot : Nat) : Bool :=
  s.sva.streams.any (fun e => e.2.held && e.1 < slot && slot < e.1 + e.2.slots)

/-- Authentication pairing and length are among those of R118. -/
def Sub.authOk (e : Sub) : Bool :=
  match Sub.auth e with
  | 0 => true
  | 1 => 1 ≤ Sub.tagLen e && Sub.tagLen e ≤ 3
  | 2 => Sub.tagLen e == 0 || Sub.tagLen e == 2
  | _ => false

/-- Checks of a subscription write in the order of R114: the code of the first rule that fails. -/
def State.subCheck (s : State) (slot : Nat) (e : Sub) : Option Nat :=
  let others := (s.validSubs.filter (· != slot)).map (fun o => (o, s.strm o, s.sub o))
  if s.subTaken slot then some 0x41
  else if !Sub.valid e then none
  else if Sub.noAsdu e = 0 ∨ Sub.dsCh e = 0 ∨ Sub.dropout e = 0 ∨ Sub.recover e = 0 ∨ Sub.svidLen e = 0 then some Err.zeroField
  else if Sub.chMask e = 0 ∨ 2 ^ Sub.dsCh e ≤ Sub.chMask e ∨ 8 < Sub.noAsdu e ∨ 16 < Sub.dsCh e ∨ 4800 < Sub.dropout e ∨
      4800 < Sub.recover e ∨ 64 < Sub.svidLen e ∨ Sub.substMode e = 3 ∨ Sub.reqSync e = 3 ∨ 10000 < Sub.pubDelay e ∨
      3 < Sub.tagLen e ∨ !Sub.authOk e then some Err.range
  else if s.capStreams < slot + Sub.phases e ∨
      s.capChannels < Sub.chBase e + Sub.nChan e then some Err.capFull
  else if others.any (fun o => overlap slot (Sub.phases e) o.1 o.2.1.slots) then some 0x41
  else if others.any (fun o => overlap (Sub.chBase e) (Sub.nChan e) o.2.1.chBase (o.2.1.nch * o.2.1.slots)) then some 0x42
  else if Sub.auth e ≠ 0 ∧ !(s.keyDest (Sub.key e) 1 && (!Sub.key2Valid e || s.keyDest (Sub.key2 e) 1)) then some 0x40
  else if others.any (fun o => Sub.clash e o.2.2) then some 0x43
  else if Sub.unsync e ∧ s.pairOn then some 0x44
  else if (s.strm slot).valid then some 0x45
  else none

/-- What follows when a subscription entry's write becomes effective (R58, R115): a new stream in WAIT with cleared
status, or the removal of a stream, whose slots stay held until the next close. -/
def State.subWritten (s : State) (slot : Nat) : State :=
  let e := s.sub slot
  if Sub.valid e then
    ((s.setStrm slot
      {
        valid := true, held := true, gen := s.sva.gens + 1, fromNs := s.ns, slots := Sub.phases e, chBase := Sub.chBase e,
        nch := (Sub.chans e).length, fromTick := s.tick + 1 }).updSva (fun v => { v with gens := v.gens + 1 })).irq pSVA 4
  else if (s.strm slot).valid then
    (s.setStrm slot { s.strm slot with valid := false, samples := [] }).irq pSVA 4
  else s

/-! ### Placement (R119 to R123) -/

/-- Phase instants of the grid are numbered at 14,400 Hz: phase p of tick k is number 3k + p. Those of a stream that need
sample n of a stream at F samples per second (R122): the coinciding one, or all strictly within two samples of it. -/
def needsSample (F n ph : Nat) : Bool :=
  let x := ph * F
  if x % 14400 = 0 then x / 14400 == n else n < x / 14400 + 3 && x / 14400 < n + 2

/-- Phases of a stream's grid (every third for a one-phase stream) that need sample n. -/
def needPhases (F phases n : Nat) : List Nat :=
  let lo := (n - 2) * 14400 / F
  ((List.range 20).map (fun i => lo + i)).filter (fun ph => (phases = 3 ∨ ph % 3 = 0) && needsSample F n ph)

/-- First and last tick that need sample n. -/
def firstNeed (F phases n : Nat) : Nat := ((needPhases F phases n).head?.getD (3 * n)) / 3
def lastNeed (F phases n : Nat) : Nat := ((needPhases F phases n).getLast?.getD 0) / 3

/-- Phase instant number `ph` scaled to units of 2^-16 ns / 9. -/
def phase9 (ph : Nat) : Int := (ph : Int) * 40960000000

/-- First and last tick that need a sample placed at e of an unsynchronised stream with period T (R121): phase instants t
with e - 2T ≤ t < e + 2T. -/
def firstNeedU (phases : Nat) (e T : Int) : Nat :=
  let a := (9 * (e - 2 * T)).toNat
  let step := if phases = 3 then 40960000000 else 122880000000
  cdiv a step * (if phases = 3 then 1 else 3) / 3

def lastNeedU (phases : Nat) (e T : Int) : Nat :=
  let a := (9 * (e + 2 * T) - 1).toNat
  let step := if phases = 3 then 40960000000 else 122880000000
  a / step * (if phases = 3 then 1 else 3) / 3

/-- A station-time instant extended from a short stamp against now (R93). -/
def State.extend (s : State) (stamp : Nat) : Nat := ((s.ns : Int) + diff32 stamp s.short).toNat

/-- A tick's samples count as late once the tick has been frozen (R125). -/
def State.closedUpTo (s : State) (k : Nat) : Bool :=
  match s.sva.lastClosed with
  | some c => k ≤ c
  | none => false

/-- Count an event of a stream in its status entry by word number (R137). -/
def Stream.count (x : Stream) (w : Nat) : Stream :=
  let lim := if 15 ≤ w then 2 ^ 16 - 1 else 2 ^ 32 - 1
  { x with cnts := sset 0 w (min lim (sget 0 w x.cnts + 1)) x.cnts }

/-- A sample late for its first tick: counted once, IRQ LATE at the first since its last clear (R119, SVA IRQ bit 8). -/
def State.svLate (s : State) (slot : Nat) : State := (s.setStrm slot ((s.strm slot).count 7)).irq pSVA 8

/-- Quality a value carries from the publisher's 32 bits and the module's own bits (R134). -/
def gridQ (q : Nat) (unsync syncLost authOk : Bool) : Nat :=
  let base := q % 2 ^ 14
  let base := if syncLost && base % 4 = 0 then base + 3 else base
  base + b2n unsync * 2 ^ 18 + b2n syncLost * 2 ^ 19 + b2n authOk * 2 ^ 20

/-- The selected channels of an ASDU with their qualities. -/
def Sub.pick (e : Sub) (a : SvAsdu) (syncLost authOk : Bool) : List (Int × Nat) :=
  (Sub.chans e).map (fun i =>
    let c := (a.chans[i]?).getD (0, 1)
    (c.1, gridQ c.2 (Sub.unsync e) syncLost authOk))

/-- Placement of one ASDU of a synchronised stream (R119, R135). -/
def State.placeSync (s : State) (slot : Nat) (e : Sub) (a : SvAsdu) (arr : Nat) (authOk : Bool) : State :=
  let F := Sub.rate e
  let d : Int := (arr : Int) * F - (a.smpCnt : Int) * 1000000000
  let S := (d + F * 500000000) / (F * 1000000000)
  let tol : Int := fld (s.ac pSVA R.SVA_CFG) 8 8 * 1000 * F
  let x := s.strm slot
  if d - S * (F * 1000000000) < -tol then s.setStrm slot (x.count 8)
  else
    let n := (S * F + a.smpCnt).toNat
    if x.samples.any (fun m => m.idx == n) then s.setStrm slot (x.count 9)
    else
      let first := firstNeed F (Sub.phases e) n
      let late := s.closedUpTo first
      let s := if late then s.svLate slot else s
      if late && s.closedUpTo (lastNeed F (Sub.phases e) n) then s
      else
        let m : Sample := { idx := n, vals := Sub.pick e a (a.smpSynch < Sub.reqSync e) authOk }
        s.setStrm slot { s.strm slot with samples := (s.strm slot).samples ++ [m] }

/-- Placement of one ASDU of an unsynchronised stream (R121); `arr` in units of 2^-16 ns. -/
def State.placeUnsync (s : State) (slot : Nat) (e : Sub) (a : SvAsdu) (arr : Int) (authOk : Bool) : State :=
  let F := Sub.rate e
  let T := roundDiv (1000000000 * 65536) F
  let x := s.strm slot
  let m := arr - (Sub.pubDelay e : Int) * 1000 * 65536
  if x.cPrev = some a.smpCnt then s.setStrm slot (x.count 9)
  else
    let step := match x.cPrev with | some c => (a.smpCnt + F - c % F) % F | none => 0
    let p := x.est + T * step
    let restart := x.cPrev.isNone || decide (2 * (m - p).natAbs > T)
    let est := if restart then m else p + roundDiv (m - p) 16
    let x := if restart then { x.count 14 with samples := [] } else x
    -- a gap in smpCnt leaves no run of consecutive samples across it
    let smp : Sample := { idx := a.smpCnt, inst := est, vals := Sub.pick e a (a.smpSynch < Sub.reqSync e) authOk }
    let late := s.closedUpTo (firstNeedU (Sub.phases e) est T)
    let keep := !(late && s.closedUpTo (lastNeedU (Sub.phases e) est T))
    let s := s.setStrm slot { x with est := est, cPrev := some a.smpCnt }
    let s := if late then s.svLate slot else s
    if keep || !late then s.setStrm slot { s.strm slot with samples := (s.strm slot).samples ++ [smp] } else s

/-! ### Acceptance and authentication (R116, R118, R120) -/

/-- Rates whose smpRate per nominal period is a whole number (R116). -/
def smpRateOk (F fNom : Nat) (a : SvAsdu) : Bool :=
  match a.smpRate with
  | none => a.smpMod != some 2
  | some r =>
    match a.smpMod with
    | some 1 => r == F
    | some 2 => false
    | _ => F % fNom == 0 && r == F / fNom

/-- Why a frame is refused before authentication, as CAUSE (R116). -/
def State.svCause (s : State) (e : Sub) (p : SvPdu) : Option Nat :=
  let fNom := if bit (s.ac pSVA R.SVA_CFG) 2 then 60 else 50
  if !p.berOk || p.noAsdu != Sub.noAsdu e || p.asdus.length != p.noAsdu then some 1
  else if p.asdus.any (fun a => a.confRev != Sub.confRev e) then some 3
  else if p.asdus.any (fun a => a.seqLen != Sub.dsCh e * 8) then some 1
  else if p.asdus.any (fun a => Sub.rate e ≤ a.smpCnt) then some 2
  else if p.asdus.any (fun a => !smpRateOk (Sub.rate e) fNom a) then some 1
  else if p.sim != bit (s.ac pSVA R.SVA_CFG) 1 then some 5
  else none

/-- Length of a tag in bytes by TAG_LEN. -/
def tagBytes (code : Nat) : Nat := match code with | 0 => 8 | 1 => 10 | 2 => 16 | _ => 32

/-- Tag verification with KEY_SLOT and, where valid, KEY_SLOT2 (R118): whether the frame passes, AUTH_OK, whether the
alternate key served. -/
def State.svAuth (s : State) (e : Sub) (p : SvPdu) : (Bool × Bool × Bool) × State :=
  if Sub.auth e = 0 then ((true, false, false), s)
  else match p.tag with
    | none => ((!Sub.authReq e, false, false), s)
    | some t =>
      let good (k : Option (List Byte)) : Bool :=
        match k with
        | none => false
        | some key => t.length == tagBytes (Sub.tagLen e) && t == Config.svTag (Sub.auth e) (tagBytes (Sub.tagLen e)) key { p with tag := none }
      let r := s.useKey (Sub.key e) 1
      if good r.1 then ((true, true, false), r.2)
      else if Sub.key2Valid e then
        let r2 := r.2.useKey (Sub.key2 e) 1
        if good r2.1 then ((true, true, true), r2.2) else ((false, false, false), r2.2)
      else ((false, false, false), r.2)

/-- A channel slot beyond the ordering code takes no write (R5). -/
def State.chanCheck (s : State) (a : Nat) : Option Nat := if s.capChannels ≤ (a - 0x00A10000) / 16 then some Err.capFull else none

/-- A frame discarded under R116 with its CAUSE, counted in the stream's counter; the tick its stamp falls in is
remembered for the REJECT test (R132) until that tick is final. -/
def State.svDiscard (s : State) (slot cause arr : Nat) : State :=
  let x := s.strm slot
  let w := match cause with | 3 => 11 | 4 => 12 | 6 => 15 | _ => 10
  let x := if cause = 5 then x else x.count w
  let t := tickOfNs arr
  let s := s.setStrm slot { x with cause := cause, rej := if x.rej.contains t then x.rej else t :: x.rej }
  if cause = 5 then s.bump pSVA R.SVA_CNT_SIM_DISCARD
  else if cause = 4 then s.irq pSVA 7 else s

/-! ### Strangers (R136) -/

/-- A frame that matches no entry creates or updates a stranger entry, or is refused when all 64 are held. -/
def State.stranger (s : State) (x : QEntry) (p : SvPdu) : State :=
  let synch := match p.asdus.getLast? with | some a => a.smpSynch | none => 0
  let same (t : Stranger) : Bool :=
    t.sa == x.frame.sa && t.appid == x.frame.appid && t.svid.length == p.svid.length && t.svid.take 32 == p.svid.take 32
  if !bit (s.ac pSVA R.SVA_CFG) 16 then s
  else if s.sva.strangers.any same then
    s.updSva (fun v => { v with
      strangers := v.strangers.map (fun t =>
      if same t then { t with last := x.stamp, frames := min 0xFFFFFFFF (t.frames + 1), synch := synch } else t) })
  else if 64 ≤ s.sva.strangers.length then s.bump pSVA R.SVA_CNT_STRANGER_REFUSED
  else
    let t : Stranger :=
      {
        port := x.ing, noAsdu := p.noAsdu, synch := synch, appid := x.frame.appid, sa := x.frame.sa,
        vid := (match x.frame.vlan with | some v => v.2 | none => 0),
        channels := (match p.asdus.head? with | some a => min 255 (a.seqLen / 8) | none => 0),
        first := x.stamp, last := x.stamp, frames := 1, svid := p.svid }
    (s.updSva (fun v => { v with strangers := v.strangers ++ [t] })).irq pSVA 5

/-- SVA_STR_POP: the oldest entry is removed; no effect when empty. -/
def State.strPop (s : State) : State :=
  if s.sva.strangers.isEmpty then s
  else s.updSva (fun v => { v with strangers := v.strangers.drop 1, strHead := (v.strHead + 1) % 64 })

/-! ### One frame from a lane (R116) -/

/-- The valid entry an SV frame that came in at `arr` ns belongs to (R112): one in effect at its ingress (R115). -/
def State.svMatch (s : State) (f : Frame) (p : SvPdu) (arr : Nat) : Option Nat :=
  s.validSubs.find? (fun slot =>
    let e := s.sub slot
    Sub.appid e == f.appid && Sub.svid e == p.svid && (!Sub.matchSa e || Sub.sa e == f.sa) && (s.strm slot).fromNs ≤ arr)

/-- Decode of one frame taken from a lane by the running plane. -/
def State.svFrame (s : State) (x : QEntry) (p : SvPdu) : State :=
  let s := s.bump pSVA R.SVA_CNT_FRAMES_IN
  match s.svMatch x.frame p (s.extend x.stamp) with
  | none => (s.bump pSVA R.SVA_CNT_NO_MATCH).stranger x p
  | some slot =>
    let e := s.sub slot
    let arr := s.extend x.stamp
    let low := (p.asdus.map (fun a => a.smpSynch)).foldl min 255
    match s.svCause e p with
    | some c => s.svDiscard slot c arr
    | none =>
      let r := s.svAuth e p
      let s := r.2
      if !r.1.1 then s.svDiscard slot 4 arr
      else
        let s := if r.1.2.2 then s.setStrm slot ((s.strm slot).count 16) else s
        if low < Sub.reqSync e && Sub.syncSubst e then s.svDiscard slot 6 arr
        else
          let y := s.strm slot
          let lastA := p.asdus.getLast?
          let s := s.setStrm slot
            { y.count 6 with
              lastSynch := (match lastA with | some a => a.smpSynch | none => 0),
              lastCnt := (match lastA with | some a => a.smpCnt | none => 0), lastStamp := x.stamp }
          p.asdus.foldl (fun s a =>
            if Sub.unsync e then s.placeUnsync slot e a ((arr : Int) * 65536 + (x.frac : Int) * 4096) r.1.2.1
            else s.placeSync slot e a arr r.1.2.1) s

/-- SV_FRAME_DECODE: the next frame of a lane is taken; a stopped plane discards it uncounted, one with ENABLE = 0 takes
nothing (R487). -/
def State.svDecode (s : State) (lane : Nat) : State :=
  match ((s.swc.lanes[lane]?).getD []) with
  | [] => s
  | x :: rest =>
    if !(s.hd pSVA).enable then s
    else
      let s := s.updSwc (fun c => { c with lanes := c.lanes.set lane rest })
      if !s.running pSVA then s
      else match x.frame.body with
        | .sv p => s.svFrame x p
        | _ => s

/-! ### Grid values (R122, R133) -/

/-- Weight of R122 step 2 in Q2.30 from u in Q0.32: numerator over 2^96 × den, rounded once. -/
def lagW (num : Int) (den : Nat) : Int := roundDiv (num * 2 ^ 30) (den * 2 ^ 96)

/-- 4-point Lagrange interpolation at u (Q0.32) over four equally spaced samples, saturated to INT32 (R122). -/
def lagrange (u : Int) (a b c d : Int) : Int :=
  let D : Int := 2 ^ 32
  let w0 := lagW (-u * (u - D) * (u - 2 * D)) 6
  let w1 := lagW ((u + D) * (u - D) * (u - 2 * D)) 2
  let w2 := lagW (-(u + D) * u * (u - 2 * D)) 2
  let w3 := lagW ((u + D) * u * (u - D)) 6
  (satS 32 (roundDiv (a * w0 + b * w1 + c * w2 + d * w3) (2 ^ 30))).1

/-- Rank of a validity: good, questionable, invalid; the reserved value ranks as invalid (R133, R134). -/
def valRank (v : Nat) : Nat := if v % 4 = 0 then 0 else if v % 4 = 3 then 1 else 2

/-- Quality of a value interpolated from samples of the given qualities (R133). -/
def mixQ (qs : List Nat) : Nat :=
  let r := (qs.map valRank).foldl max 0
  let val := if r = 0 then 0 else if r = 1 then 3 else 1
  let orAll := qs.foldl (· ||| ·) 0
  let detail := orAll &&& 0x002F3FFC
  let auth := if qs.all (fun q => q.testBit 20) then 2 ^ 20 else 0
  ((detail ||| 2 ^ 17) &&& (0xFFFFFFFF ^^^ 2 ^ 20)) ||| auth ||| val

/-- Interpolation of all channels over four samples. -/
def mixVals (u : Int) (a b c d : Sample) : List (Int × Nat) :=
  (List.range a.vals.length).map (fun i =>
    let g (m : Sample) : Int × Nat := (m.vals[i]?).getD (0, 1)
    (lagrange u (g a).1 (g b).1 (g c).1 (g d).1, mixQ [(g a).2, (g b).2, (g c).2, (g d).2]))

/-- Values of one phase of a synchronised stream, where its samples are placed. -/
def phaseSync (F ph : Nat) (ss : List Sample) : Option (List (Int × Nat)) :=
  let at_ (n : Nat) : Option Sample := ss.find? (fun m => m.idx == n)
  let x := ph * F
  let n := x / 14400
  if x % 14400 = 0 then (at_ n).map (fun m => m.vals)
  else match at_ (n - 1), at_ n, at_ (n + 1), at_ (n + 2) with
    | some a, some b, some c, some d => some (mixVals (roundDiv ((x % 14400 : Nat) * 2 ^ 32) 14400) a b c d)
    | _, _, _, _ => none

/-- Four successive samples with consecutive counts around an instant (scaled by 9), the second the last at or before. -/
def bracket (F : Nat) (t9 : Int) : List Sample → Option (Sample × Sample × Sample × Sample)
  | a :: b :: c :: d :: rest =>
    if 9 * b.inst ≤ t9 && t9 < 9 * c.inst && (a.idx + 1) % F == b.idx % F && (b.idx + 1) % F == c.idx % F &&
        (c.idx + 1) % F == d.idx % F then some (a, b, c, d)
    else bracket F t9 (b :: c :: d :: rest)
  | _ => none

/-- Values of one phase of an unsynchronised stream. -/
def phaseUnsync (F ph : Nat) (ss : List Sample) : Option (List (Int × Nat)) :=
  match ss.find? (fun m => 9 * m.inst == phase9 ph) with
  | some m => some m.vals
  | none =>
    match bracket F (phase9 ph) ss with
    | some (a, b, c, d) =>
      let u := roundDiv ((phase9 ph - 9 * b.inst) * 2 ^ 32) (9 * (c.inst - b.inst)).toNat
      some (mixVals (min u (2 ^ 32 - 1)) a b c d)
    | none => none

/-- All phases of a tick, or none where the stream is not present for it (R123). -/
def State.gridOf (s : State) (slot k : Nat) : Option (List (Int × Nat)) :=
  let e := s.sub slot
  let x := s.strm slot
  if !x.valid || k < x.fromTick then none
  else
    (List.range (Sub.phases e)).foldl (fun acc p =>
      match acc, (if Sub.unsync e then phaseUnsync (Sub.rate e) (3 * k + p) x.samples
                  else phaseSync (Sub.rate e) (3 * k + p) x.samples) with
      | some l, some v => some (l ++ v)
      | _, _ => none) (some [])

/-! ### The close (R125 to R129) -/

/-- A started tick waits for its close (R125, R126). -/
def State.svaTick (s : State) : State :=
  if s.running pSVA then
    let at_ := tickStartNs s.tick + fld (s.ac pSVA R.SVA_TICK_CFG) 0 12 * 1000
    s.updSva (fun v => { v with toClose := v.toClose ++ [(s.tick, at_)] })
  else s

/-- The oldest started tick is due to close: also while earlier ones wait for the partner's maps (R126). -/
def State.closeDue (s : State) : Bool :=
  s.running pSVA && (match s.sva.toClose with
    | (_, t) :: _ => t ≤ s.ns
    | [] => false)

/-- A valid stream as the close of tick k finds it. -/
def State.freezeStr (s : State) (k slot : Nat) : FrozenStr :=
  let x := s.strm slot
  { str := { x with samples := [], rej := [] }, sub := s.sub slot, got := s.gridOf slot k,
    subst := (List.range (x.nch * x.slots)).map (fun i => (s.tw (0x00A10000 + (x.chBase + i) * 16 + 4)).toInt) }

/-- Streams locally present in a frozen tick, by their first slot. -/
def Frozen.present (fz : Frozen) : List Nat := (fz.strs.filter (fun e => e.2.got.isSome)).map (fun e => e.1)

/-- Stream slots of some of a frozen tick's streams: a three-slot stream on all of its slots (R128). -/
def Frozen.spread (fz : Frozen) (l : List Nat) : List Nat :=
  (fz.strs.filter (fun e => l.contains e.1)).flatMap (fun e => (List.range e.2.str.slots).map (e.1 + ·))

/-- The freeze: presence and grid values of the tick as they stand (R125); streams removed before it free their slots (R115); the partner's map
of the tick is taken where it is held already, and maps older than the tick are late (R128, R129). -/
def State.svaFreeze (s : State) : State :=
  match s.sva.toClose with
  | [] => s
  | (k, _) :: rest =>
    let fz : Frozen := {
      tick := k, closeNs := s.ns, sync := s.tsu.sync.code, strs := s.validSubs.map (fun i => (i, s.freezeStr k i))
      map := s.sva.heldMaps.find? (fun m => m.tick == k) }
    let stale := (s.sva.heldMaps.filter (fun m => m.tick < k)).length
    (s.updSva (fun v =>
      { v with
        toClose := rest, lastClosed := some k, frozen := v.frozen ++ [fz], mapOwn := fz.spread fz.present
        streams := v.streams.map (fun e => if e.2.valid then e else (e.1, { e.2 with held := false }))
        heldMaps := v.heldMaps.filter (fun m => k < m.tick) })).bumpBy pSVA R.SVA_CNT_AGREE_LATE stale

/-- State of a stream after a final close by its presence (R132). -/
def Stream.next (x : Stream) (recover dropout k : Nat) (present : Bool) : Stream :=
  if present then
    let pr := x.presRun + 1
    let st := if x.state = 2 || x.state = 3 then 2 else if recover ≤ pr then 2 else x.state
    { x with state := st, presRun := pr, missRun := 0, runRej := false, lastPresent := k, rej := x.rej.filter (k < ·) }
  else
    let mr := x.missRun + 1
    let allRej := (x.missRun = 0 || x.runRej) && x.rej.contains k
    let st := if x.state = 2 || x.state = 3 then (if dropout ≤ mr then (if allRej then 5 else 4) else 3) else x.state
    { (x.count 13) with state := st, presRun := 0, missRun := mr, runRej := allRej, rej := x.rej.filter (k < ·) }

/-- Quality of a substituted channel (R133). -/
def substQ (state : Nat) (gapInvalid : Bool) (mode : Nat) : Nat :=
  (if state = 3 && !gapInvalid then 3 else 1) + 2 ^ 10 + 2 ^ 16 + (if mode = 0 then 2 ^ 7 else 0)

/-- Address of a channel's value in the history of a tick (R137). -/
def histAddr (k c : Nat) : Nat := 0x00A40000 + k % 32 * 0x8000 + c * 8

/-- Grid value and quality of a channel slot in a closed tick, as the history holds them; invalid with failure where the word gives a
poison response (R384). -/
def State.grid (s : State) (k c : Nat) : Int × Nat :=
  let a := Config.planeAt (k % 32) c
  if s.spoilt a then (((Config.poisonVal a).setWidth 32).toInt, 65)
  else ((s.tw (histAddr k c)).toInt, (s.tw (histAddr k c + 4)).toNat)

/-- Values a stream's channels get in a final tick after which its record is `x` (R133), with SOLO_TICK of a solo close (R129). -/
def FrozenStr.vals (f : FrozenStr) (x : Stream) (got : Option (List (Int × Nat))) (solo : Bool) : List (Int × Nat) :=
  let mode := Sub.substMode f.sub
  let base := match got with
    | some v => v
    | none =>
      (List.range (x.nch * x.slots)).map (fun i =>
        let v : Int := match mode with
          | 0 => (x.hold[i]?).getD 0
          | 1 => 0
          | _ => (f.subst[i]?).getD 0
        (v, substQ x.state (Sub.gapInvalid f.sub) mode))
  if solo then base.map (fun c => (c.1, c.2 ||| 2 ^ 21)) else base

/-- Write a stream's channels into the history of a tick. -/
def State.putChans (s : State) (k c : Nat) : List (Int × Nat) → State
  | [] => s
  | (v, q) :: rest => ((s.setTw (histAddr k c) (wS v)).setTw (histAddr k c + 4) (w32 q)).putChans k (c + 1) rest

/-- Samples a stream still needs once tick k is final. -/
def keepSamples (e : Sub) (k : Nat) (l : List Sample) : List Sample :=
  l.filter (fun m =>
    if Sub.unsync e then k < lastNeedU (Sub.phases e) m.inst (roundDiv (1000000000 * 65536) (Sub.rate e))
    else k < lastNeed (Sub.rate e) (Sub.phases e) m.idx)

/-- One stream of a tick that becomes final: its channels, from the tick as it was frozen, and, unless the entry has been made valid anew
since, its state and what it holds. -/
def State.finalStr (s : State) (k : Nat) (agreed solo : Bool) (slot : Nat) (f : FrozenStr) : State :=
  let cur := s.strm slot
  let same := cur.gen == f.str.gen
  let x := if same then cur else f.str
  let got := if agreed then f.got else none
  let y := x.next (Sub.recover f.sub) (Sub.dropout f.sub) k agreed
  let s := s.putChans k x.chBase (f.vals y got solo)
  if !same then s
  else
    let s := s.setStrm slot { y with
      hold := (match got with | some v => v.map (fun c => c.1) | none => y.hold), samples := keepSamples f.sub k y.samples }
    if x.valid && y.state != x.state then s.irq pSVA 4 else s

/-- The oldest frozen tick becomes final on an agreed map (R125, R128, R132, R133): grid values, substitution, stream states, the tick-frozen
token. -/
def State.svaFinal (s : State) (partner : Option PMap) (solo : Bool) : State :=
  match s.sva.frozen with
  | [] => s
  | fz :: rest =>
    let k := fz.tick
    let agreed := match partner with
      | some m => fz.present.filter (fun i => m.present.contains i)
      | none => fz.present
    let oneSided := fz.present.length - agreed.length
    let s := s.bumpBy pSVA R.SVA_CNT_ONE_SIDED oneSided
    let s := { s with tbl := sclear (histAddr k 0) (histAddr k 0 + 0x8000) s.tbl }.freshAt ((List.range 4096).map (Config.planeAt (k % 32))) 8
    let s := fz.strs.foldl (fun s e => s.finalStr k (agreed.contains e.1) solo e.1 e.2) s
    let tenths := (s.ns - fz.closeNs) / 100
    let info := b2n solo + 2 * b2n partner.isSome + fz.sync * 16 +
      (match partner with | some m => m.sync % 4 * 64 | none => 0) + min tenths 0xFFF * 256
    let s := (s.setRg pSVA R.SVA_TICK_STAT (tagOf k)).setRg pSVA R.SVA_CLOSE_INFO (w32 info)
    let s := s.updSva (fun v =>
      { v with
        frozen := rest, finals := ((k, solo, s.tsu.clk) :: v.finals).take 32,
        mapPartner := (match partner with | some m => m.present | none => []), mapAgreed := fz.spread agreed })
    if solo then (s.bump pSVA R.SVA_CNT_SOLO_TICKS).irq pSVA 6 else s

/-- A partner's map while the plane runs (R128, R129): it belongs to a frozen tick that waits for it, is held for a tick not yet closed (at
most 16, while the plane runs paired), or is late. -/
def State.svaMap (s : State) (m : PMap) : State :=
  if !s.running pSVA then s
  else if s.sva.frozen.any (fun fz => fz.tick == m.tick) then
    s.updSva (fun v => { v with
      frozen := v.frozen.map (fun fz => if fz.tick = m.tick ∧ fz.map = none then { fz with map := some m } else fz) })
  else if s.closedUpTo m.tick then s.bump pSVA R.SVA_CNT_AGREE_LATE
  else if !s.paired ∨ 16 ≤ s.sva.heldMaps.length then s
  else s.updSva (fun v => { v with heldMaps := v.heldMaps ++ [m] })

/-- No partner map for the oldest frozen tick by close + AGREE_WAIT (R129). -/
def State.agreeExpired (s : State) : Bool :=
  match s.sva.frozen with
  | fz :: _ => s.paired && fz.map.isNone && decide (fz.closeNs + fld (s.ac pSVA R.SVA_AGREE_CFG) 0 7 * 1000 ≤ s.ns)
  | [] => false

/-- Newest final tick. -/
def State.lastFinal (s : State) : Option Nat := s.sva.finals.head?.map (fun f => f.1)

/-- A tick is final. -/
def State.isFinal (s : State) (k : Nat) : Bool := s.sva.finals.any (fun f => f.1 == k)

/-! ### COMMIT, stop, reads -/

/-- The plane's own check at COMMIT (R127). -/
def State.svaCheck (s : State) : Option (Nat × Nat × Nat) :=
  let close := fld (s.rg pSVA R.SVA_TICK_CFG) 0 12
  let wait := if s.paired then fld (s.rg pSVA R.SVA_AGREE_CFG) 0 7 else 0
  if fld (s.ac 0x110 R.CYC_CFG) 0 13 < close + 10 + wait then some (pSVA, R.SVA_TICK_CFG, Err.range) else none

/-- A new close delay applies to the tick whose start is the boundary (R47, R126). -/
def State.svaApplied (s : State) : State :=
  let at_ := tickStartNs s.tick + fld (s.ac pSVA R.SVA_TICK_CFG) 0 12 * 1000
  s.updSva (fun v => { v with toClose := v.toClose.map (fun e => if e.1 = s.tick then (e.1, at_) else e) })

/-- A stopped plane closes no tick (R487). -/
def State.svaStopped (s : State) : State := s.updSva (fun v => { v with toClose := [], frozen := [], heldMaps := [] })

/-- CNT_CLEAR on page 0 clears the stream status counters too (R137). -/
def State.svaCntClear (s : State) : State :=
  s.updSva (fun v => { v with streams := v.streams.map (fun e => (e.1, { e.2 with cnts := [] })) })

/-- Bits of word w of a 512-bit map. -/
def mapWord (l : List Nat) (w : Nat) : Word := w32 ((l.filter (fun i => i / 32 == w)).foldl (fun a i => a ||| 2 ^ (i % 32)) 0)

/-- Stream slots in a state; a three-slot stream on all its bits. The slots 256 to 511 that the SDN-YV32-E does not have show as free ones, on
which the spec is silent (the model's choice, log 141). -/
def State.slotsIn (s : State) (st : Nat) : List Nat :=
  if st = 0 then (List.range 512).filter (fun i => !(s.sva.streams.any (fun e => e.2.valid && e.1 ≤ i && i < e.1 + e.2.slots)))
  else (s.sva.streams.filter (fun e => e.2.valid && e.2.state == st)).flatMap (fun e => (List.range e.2.slots).map (e.1 + ·))

/-- Read-only registers of the SVA pages that show its state. -/
def State.svaRo (s : State) (idx off : Nat) : Option Word :=
  if idx = 0 then
    let used := s.sva.streams.filter (fun e => e.2.held)
    if off = R.SVA_SLOTS_USED then some (w32 (used.map (fun e => e.2.slots)).sum)
    else if off = R.SVA_CHANNELS_USED then some (w32 (used.map (fun e => e.2.nch * e.2.slots)).sum)
    else none
  else if idx = 1 then
    if 0x400 ≤ off ∧ off < 0x440 then some (mapWord s.sva.mapOwn ((off - 0x400) / 4))
    else if 0x440 ≤ off ∧ off < 0x480 then some (mapWord s.sva.mapPartner ((off - 0x440) / 4))
    else if 0x480 ≤ off ∧ off < 0x4C0 then some (mapWord s.sva.mapAgreed ((off - 0x480) / 4))
    else if 0x4C0 ≤ off ∧ off < 0x640 then some (mapWord (s.slotsIn ((off - 0x4C0) / 64)) ((off - 0x4C0) % 64 / 4))
    else none
  else if idx = 2 ∧ off = R.SVA_STR_HEAD then some (w32 (s.sva.strHead + s.sva.strangers.length * 256))
  else none

/-- Words of the SVA tables that show state (R137): TAKEN, the read-only half of channel slots, stream status, strangers. -/
def State.svaTblWord (s : State) (a : Nat) : Option Word :=
  if 0x00A00000 ≤ a ∧ a < 0x00A10000 ∧ a % 128 = 0 then
    if s.subTaken ((a - 0x00A00000) / 128) then some (setBit (s.tw a) 30 true) else none
  else if 0x00A10000 ≤ a ∧ a < 0x00A20000 ∧ a % 16 = 0 then
    let c := (a - 0x00A10000) / 16
    match s.sva.streams.find? (fun e => e.2.held && e.2.chBase ≤ c && c < e.2.chBase + e.2.nch * e.2.slots) with
    | none => some 0
    | some (slot, x) =>
      let i := (c - x.chBase) % x.nch
      let ds := ((Sub.chans (s.sub slot))[i]?).getD 0
      some (w32 (2 ^ 31 + (c - x.chBase) / x.nch * 2 ^ 20 + ds * 2 ^ 16 + slot))
  else if 0x00A20000 ≤ a ∧ a < 0x00A28000 then
    let x := s.strm ((a - 0x00A20000) / 64)
    let c (w : Nat) : Nat := sget 0 w x.cnts
    match a % 64 / 4 with
    | 0 => some (w32 ((if x.valid then x.state else 0) + x.cause * 16 + x.lastSynch % 4 * 256))
    | 1 => some (w32 x.lastCnt)
    | 2 => some (w32 x.lastStamp)
    | 3 => some (tagOf x.lastPresent)
    | 4 => some (w32 x.missRun)
    | 5 => some (w32 x.presRun)
    | 15 => some (w32 (c 15 + c 16 * 2 ^ 16))
    | w => some (w32 (c w))
  else if 0x00A30000 ≤ a ∧ a < 0x00A31000 then
    let i := (a - 0x00A30000) / 64
    match s.sva.strangers[(i + 64 - s.sva.strHead) % 64]? with
    | none => some 0
    | some t => match a % 64 / 4 with
      | 0 => some (w32 (2 ^ 31 + t.port % 16 * 2 ^ 24 + t.noAsdu % 16 * 2 ^ 20 + t.synch % 16 * 2 ^ 16 + t.appid % 2 ^ 16))
      | 1 => some (w32 t.sa)
      | 2 => some (w32 (t.sa / 2 ^ 32 % 2 ^ 16))
      | 3 => some (w32 (t.vid % 2 ^ 12 + t.channels % 256 * 2 ^ 16))
      | 4 => some (w32 t.first)
      | 5 => some (w32 t.last)
      | 6 => some (w32 t.frames)
      | 7 => some (w32 (t.svid.length % 256))
      | w => some (w32 (ofLE ((List.range 4).map (fun j => ((t.svid[(w - 8) * 4 + j]?).getD 0).toNat))))
  else none

/-! ### The commands -/

/-- SV_FRAME_DECODE (R116): the next frame of an ingest lane. -/
def execSvFrameDecode (lane : Nat) (s : State) : Host.Outcome State Fault Refusal :=
  act State.onMain (fun s => s.svDecode lane) s

/-- SVA_STR_POP (R136). -/
def execSvaStrPop (s : State) : Host.Outcome State Fault Refusal := actReg State.onMain pSVA State.strPop s

end Sys2Proof.Machine
end

