-- ==== Sys2Proof/Machine/Flt.lean ====
section
/-!
DEFINITION. The filter engines (chapter 6): the stages' arithmetic, references and frequency tracking, settling and
quality, the run of a tick, starting, stopping and changing chains.
-/
namespace Sys2Proof.Machine

/-- Page of filter engine e. -/
abbrev pFLT (e : Nat) : Nat := 0x0C0 + e

def State.fe (s : State) (e : Nat) : FltEng := sget {} e s.flt
def State.setFe (s : State) (e : Nat) (x : FltEng) : State := { s with flt := sset {} e x s.flt }

/-! ### Sine table (R145) -/

/-- π × 2^128. -/
def piScaled : Int := 1069028584064966747859680373161870783300

/-- Taylor sum of sin x × 2^128 for x scaled by 2^128: remaining terms, index, current term. -/
def sinSum (x : Int) : Nat → Nat → Int → Int
  | 0, _, t => t
  | n + 1, k, t => t + sinSum x n (k + 2) (-(t * x / ((2 ^ 128 : Nat) : Int) * x / ((2 ^ 128 : Nat) : Int) / (((k + 1) * (k + 2) : Nat) : Int)))

/-- Table value E[i] = round(sin(i × π / 2,048) × 2^31), limited to 2^31 - 1. -/
def sinE (i : Nat) : Int :=
  let x := piScaled * i / 2048
  min (2 ^ 31 - 1) (roundDiv (sinSum x 20 1 x) (2 ^ 97))

/-- Quarter wave T(r) for r from 0 to 2^30. -/
def quarter (r : Nat) : Int :=
  let i : Nat := r / 2 ^ 20
  let f : Nat := r % 2 ^ 20
  if f = 0 then sinE i else sinE i + roundDiv ((sinE (i + 1) - sinE i) * (f : Int)) (2 ^ 20)

/-- sin Φ in Q1.31. -/
def sinPhi (phi : Nat) : Int :=
  let r := phi % 2 ^ 30
  match phi / 2 ^ 30 % 4 with
  | 0 => quarter r
  | 1 => quarter (2 ^ 30 - r)
  | 2 => -quarter r
  | _ => -quarter (2 ^ 30 - r)

/-- cos Φ. -/
def cosPhi (phi : Nat) : Int := sinPhi ((phi + 2 ^ 30) % 2 ^ 32)

/-! ### Chain entries (R163) -/

/-- Address of chain c's entry, of an engine's coefficient, and of a chain's output in a tick's history. -/
def chainAddr (e c : Nat) : Nat := 0x00B40000 + (e * 128 + c) * 128
def coefAddr (e i : Nat) : Nat := 0x00C40000 + e * 0x2000 + i * 4
def outAddr (k chain : Nat) : Nat := 0x00CC0000 + k % 4 * 0x20000 + chain * 16

/-- Fields of a chain entry given as its words. -/
def cw (ws : List Word) (i : Nat) : Word := (ws[i]?).getD 0
def cUsed (ws : List Word) : Bool := bit (cw ws 0) 31
def cStages (ws : List Word) : Nat := fld (cw ws 0) 24 4
def cComp (ws : List Word) : Nat := fld (cw ws 0) 20 2
def cKind (ws : List Word) : Nat := fld (cw ws 0) 18 2
def cPhases (ws : List Word) : Nat := fld (cw ws 0) 16 2
def cStride (ws : List Word) : Nat := fld (cw ws 1) 16 12
def cSrc (ws : List Word) : Nat := fld (cw ws 1) 0 13
def sWord (ws : List Word) (j : Nat) : Word := cw ws (2 + j)
def sType (ws : List Word) (j : Nat) : Nat := fld (sWord ws j) 28 4
def sP0 (ws : List Word) (j : Nat) : Word := cw ws (10 + 2 * j)
def sP1 (ws : List Word) (j : Nat) : Word := cw ws (11 + 2 * j)
def maL (ws : List Word) (j : Nat) : Nat := fld (sWord ws j) 0 13
def firN (ws : List Word) (j : Nat) : Nat := fld (sWord ws j) 0 9
def firShift (ws : List Word) (j : Nat) : Nat := fld (sWord ws j) 16 6
def firBase (ws : List Word) (j : Nat) : Nat := fld (sP0 ws j) 0 11
def decD (ws : List Word) (j : Nat) : Nat := fld (sWord ws j) 0 9
def mixSelf (ws : List Word) (j : Nat) : Bool := bit (sWord ws j) 2
def mixRef (ws : List Word) (j : Nat) : Nat := fld (sWord ws j) 0 2
def mixSq (ws : List Word) (j : Nat) : Nat := fld (sWord ws j) 4 5
def thrMag2 (ws : List Word) (j : Nat) : Bool := bit (sWord ws j) 17
def thrUnder (ws : List Word) (j : Nat) : Bool := bit (sWord ws j) 16
def thrQual (ws : List Word) (j : Nat) : Nat := fld (sWord ws j) 0 16

/-- Words of local chain c of engine e. -/
def State.chainW (s : State) (e c : Nat) : List Word := s.tws (chainAddr e c) 26

/-- Stage numbers of a chain. -/
def stageNos (ws : List Word) : List Nat := List.range (min 8 (cStages ws))

/-- Product of the decimation factors before stage j (R153). -/
def decBefore (ws : List Word) (j : Nat) : Nat :=
  (List.range j).foldl (fun p i => if sType ws i = 3 then p * decD ws i else p) 1

/-- Total decimation of a chain. -/
def decTotal (ws : List Word) : Nat := decBefore ws (min 8 (cStages ws))

/-- Delay of a stage in half samples of its own input, and its fill (R140). -/
def stDelay (ws : List Word) (j : Nat) : Nat :=
  match sType ws j with | 1 => maL ws j - 1 | 2 => firN ws j - 1 | _ => 0
def stFill (ws : List Word) (j : Nat) : Nat :=
  match sType ws j with | 1 => maL ws j | 2 => firN ws j | 3 => decD ws j | _ => 1

/-- Cost of a stage per input sample (R140). -/
def stCost (ws : List Word) (j : Nat) (complex : Bool) : Nat :=
  match sType ws j with
  | 1 => if complex then 4 else 2
  | 2 => let c := cdiv (firN ws j) 2 + 1; if complex then 2 * c else c
  | 3 => 1
  | 4 => if mixSelf ws j then 1 else 2
  | 5 => if complex then 2 else 1
  | _ => if complex then 3 else 2

/-- Whether the signal is complex before stage j, from what it is at the chain's input (R139, R140). -/
def cplxBefore (ws : List Word) (start : Bool) (j : Nat) : Bool :=
  start || (List.range j).any (fun i => sType ws i == 4 && !mixSelf ws i)

/-- A chained input that takes both components starts complex. -/
def startCplx (ws : List Word) : Bool := cKind ws == 1 && cComp ws == 2

/-- Figures of a chain through its sources (at most 128 deep): DELAY, decimation from the head, PHASES of the head. -/
def State.chainHead (s : State) (e : Nat) : Nat → Nat → Nat × Nat × Nat
  | 0, _ => (0, 1, 1)
  | n + 1, c =>
    let ws := s.chainW e c
    let own := (stageNos ws).foldl (fun a j => a + stDelay ws j * decBefore ws j) 0
    if cKind ws = 1 then
      let r := s.chainHead e n (cSrc ws)
      (r.1 + own * r.2.1, r.2.1 * decTotal ws, r.2.2)
    else (own, decTotal ws, cPhases ws)

/-- DELAY (R153). -/
def State.chainDelay (s : State) (e c : Nat) : Nat := (s.chainHead e 128 c).1

/-- SETTLE (R154). -/
def chainSettle (ws : List Word) : Nat := 1 + (stageNos ws).foldl (fun a j => a + (stFill ws j - 1) * decBefore ws j) 0

/-- Input samples of a chain per tick (R158). -/
def State.chainIn (s : State) (e c : Nat) : Nat :=
  let ws := s.chainW e c
  if cKind ws = 1 then let r := s.chainHead e 128 (cSrc ws); cdiv r.2.2 (max 1 r.2.1) else cPhases ws

/-- Cost of a chain per tick (R158). -/
def State.chainCost (s : State) (e c : Nat) : Nat :=
  let ws := s.chainW e c
  let n := s.chainIn e c
  4 + (stageNos ws).foldl (fun a j => a + stCost ws j (cplxBefore ws (startCplx ws) j) * cdiv n (max 1 (decBefore ws j))) 0

/-- Costs of an engine's running chains as its entries give them: a chained chain's follows its source (R158). -/
def State.recost (s : State) (e : Nat) : State :=
  s.setFe e { s.fe e with chains := (s.fe e).chains.map (fun c =>
    if c.2.running then (c.1, { c.2 with cost := s.chainCost e c.1 }) else c) }

/-- FLT_LOAD: cost of the running chains. -/
def State.fltLoad (s : State) (e : Nat) : Nat :=
  ((s.fe e).chains.map (fun x => if x.2.running then x.2.cost else 0)).sum

/-! ### Stages (R141 to R151) -/

/-- Rounding and saturation to INT32 (R141): the value and whether it saturated. -/
def reduce32 (n : Int) (d : Nat) : Int × Bool := satS 32 (roundDiv n d)

/-- n-th past input of a stage's history, 0 before the start. -/
def histAt (h : List (Int × Int)) (i : Nat) : Int × Int := (h[i]?).getD (0, 0)

/-- Coefficient of an engine, 18 bits signed (R143). -/
def State.coef (s : State) (e i : Nat) : Int := sfld (s.tw (coefAddr e i)) 0 18

/-- FIR sum over one component of the history, newest first (R143). -/
def State.firSum (s : State) (e : Nat) (ws : List Word) (j : Nat) (h : List Int) : Int :=
  let n := firN ws j
  let at_ (i : Nat) : Int := (h[i]?).getD 0
  let pairs := (List.range (n / 2)).foldl
    (fun a i => a + s.coef e (firBase ws j + i) * (at_ i + at_ (n - 1 - i))) 0
  if n % 2 = 1 then pairs + s.coef e (firBase ws j + (n - 1) / 2) * at_ ((n - 1) / 2) else pairs

/-- The condition of a THR stage for a compared value: met, or ended (R151). -/
def thrTest (ws : List Word) (j : Nat) (i q : Int) : Bool × Bool :=
  let l := (sP0 ws j).toInt
  let h := (sP1 ws j).toInt
  let out := if thrUnder ws j then l + h else l - h
  let mag := thrMag2 ws j
  let v := if mag then i * i + q * q else i
  let lv := if mag then l * l else l
  let ov := if mag then out * out else out
  if thrUnder ws j then (decide (v ≤ lv), decide (ov < v)) else (decide (lv ≤ v), decide (v < ov))

/-- One sample through a stage: its new state, the sample it passes on (or none), the number of saturated results, and
the direction of a threshold event where one is raised. `phi` is the reference phase at the sample's instant; `good`
says that the chain is VALID and its output validity not invalid. -/
def State.stage (s : State) (e : Nat) (ws : List Word) (j : Nat) (cplx good : Bool) (phi : Nat) (x : Int × Int)
    (st : StageSt) : StageSt × Option (Int × Int) × Nat × Option Bool :=
  match sType ws j with
  | 1 =>
    let L := maL ws j
    let old := histAt st.hist (L - 1)
    let si := st.sumI + x.1 - old.1
    let sq := st.sumQ + x.2 - old.2
    let a := reduce32 si L
    let b := if cplx then reduce32 sq L else (0, false)
    ({ st with hist := (x :: st.hist).take L, sumI := si, sumQ := sq }, some (a.1, b.1), b2n a.2 + b2n b.2, none)
  | 2 =>
    let h := (x :: st.hist).take (firN ws j)
    let d := 2 ^ firShift ws j
    let a := reduce32 (s.firSum e ws j (h.map (fun p => p.1))) d
    let b := if cplx then reduce32 (s.firSum e ws j (h.map (fun p => p.2))) d else (0, false)
    ({ st with hist := h }, some (a.1, b.1), b2n a.2 + b2n b.2, none)
  | 3 =>
    let n := st.cnt + 1
    ({ st with cnt := n }, if n % max 1 (decD ws j) = 0 then some x else none, 0, none)
  | 4 =>
    if mixSelf ws j then
      let a := reduce32 (x.1 * x.1) (2 ^ mixSq ws j)
      (st, some (a.1, 0), b2n a.2, none)
    else
      let a := reduce32 (x.1 * cosPhi phi) (2 ^ 31)
      let b := reduce32 (-(x.1 * sinPhi phi)) (2 ^ 31)
      (st, some (a.1, b.1), b2n a.2 + b2n b.2, none)
  | 5 =>
    let g := (sP0 ws j).toInt
    let o := (sP1 ws j).toInt
    let a := reduce32 (x.1 * g + o * 2 ^ 24) (2 ^ 24)
    let b := if cplx then reduce32 (x.2 * g) (2 ^ 24) else (0, false)
    (st, some (a.1, b.1), b2n a.2 + b2n b.2, none)
  | _ =>
    if !good then ({ st with qual := 0 }, some x, 0, none)
    else
      let t := thrTest ws j x.1 x.2
      let cond := if st.picked then t.2 else t.1
      let n := if cond then st.qual + 1 else 0
      if cond && max 1 (thrQual ws j) ≤ n then
        ({ st with picked := !st.picked, qual := 0 }, some x, 0, some (!st.picked))
      else ({ st with qual := n }, some x, 0, none)

/-! ### Quality (R155, R156) -/

/-- Quality of an output from the window of input qualities, without VALID, NEW and SAT. -/
def winQ (valid lost : Bool) (win : List Nat) : Nat :=
  let r := (win.map valRank).foldl max 0
  let v := if !valid || r = 2 then 1 else if r = 1 || lost then 3 else 0
  let orAll := win.foldl (· ||| ·) 0
  let keep := orAll &&& 0x002F0C00
  let auth := if !win.isEmpty && win.all (fun q => q.testBit 20) then 2 ^ 20 else 0
  keep ||| auth ||| v

/-! ### References (R146, R147) -/

/-- INC of a frequency in Q16.16. -/
def incOf (f : Nat) : Nat := (roundDiv ((f : Int) * 65536) 14400).toNat % 2 ^ 32

/-- Configuration of a reference as active. -/
def State.refCfg (s : State) (e n : Nat) : Word := s.ac (pFLT e) (R.FLT_REF_CFG + 4 * n)
def State.refTrack (s : State) (e n : Nat) : Bool := fld (s.refCfg e n) 12 2 == 1
def State.refHarm (s : State) (e n : Nat) : Nat := fld (s.refCfg e n) 16 4
def State.refFixed (s : State) (e n : Nat) : Nat := (s.ac (pFLT e) (R.FLT_REF_FREQ + 4 * n)).toNat

/-- Phase of a reference at sub-step p of the tick of its last run. -/
def RefSt.phase (r : RefSt) (p : Nat) : Nat := (r.phi + incOf r.used * p) % 2 ^ 32

/-- The reference in its run of tick k (R146, R147): its frequency in use, tracked, fallback while lost, or fixed; Φ from the
tick number (FIXED), 0 at the first run after it became active, or advanced over the sub-steps since its last run with the
frequency in use in that run. Outputs that other ticks separate from the last ones form no pair. -/
def State.refStart (s : State) (e n k : Nat) (r : RefSt) : RefSt :=
  let back := s.refHarm e n * s.refFixed e n
  if !s.refTrack e n then { run := k, used := s.refFixed e n, phi := (incOf (s.refFixed e n) * (3 * k)) % 2 ^ 32 }
  else if !r.active then { active := true, lost := true, lostRun := true, run := k, used := back }
  else
    let q := { r with
      phi := (r.phi + incOf r.used * (3 * (k - r.run))) % 2 ^ 32, run := k, used := if r.lost then back else r.freq, lostRun := r.lost }
    if r.run + 1 = k then q else { q with prev := none, lastCross := none }

/-- Reference n of an engine as its last run before tick k left it, where it was in MODE = TRACK then (R149). -/
def State.refLeft (s : State) (e n k : Nat) : Option RefSt :=
  ((s.fe e).refsHist.find? (fun h => h.1 < k)).bind (fun h => (h.2[n]?).filter (fun r => r.active))

/-- The references at the start of an engine's run of tick k, with the copies of R149. A source in MODE = FIXED has no state
(R148) and leaves the destination as it is. -/
def State.refsStart (s : State) (e k : Nat) : List RefSt :=
  (List.range 4).map (fun n =>
    s.refStart e n k ((s.fe e).copies.foldl (fun r c => if c.1 = n then (s.refLeft c.2.1 c.2.2 k).getD r else r)
      (((s.fe e).refs[n]?).getD {})))

/-- Nominal frequency in Hz (SVA_CFG.F_NOM). -/
def State.fNom (s : State) : Nat := if bit (s.ac pSVA R.SVA_CFG) 2 then 60 else 50

/-- The reference is lost: tracking resumes after TRACK_CYC valid periods from here (R147). -/
def RefSt.lose (r : RefSt) : RefSt := { r with lost := true, good := 0 }

/-- One output of the source chain through the tracker of a reference (R146, R147): `num` / `den` outputs per second, `ok` says
the output is VALID and not invalid. A crossing is taken between two such outputs. Periods are in 1/65,536 output samples. -/
def State.trackOne (s : State) (e n num den : Nat) (r : RefSt) (ok : Bool) (x : Int) : RefSt :=
  let cyc := fld (s.refCfg e n) 8 4
  let fn := s.fNom
  let idx := r.outIdx + 1
  let r := { r with outIdx := idx }
  if !ok then { r.lose with prev := none }
  else
    let cross : Option Nat := match r.prev with
      | some p => if p < 0 && 0 ≤ x then some ((idx - 1) * 65536 + (roundDiv (-p * 65536) (x - p).toNat).toNat) else none
      | none => none
    let r := { r with prev := some x }
    match cross with
    | none => if 4 * num * 65536 < (idx * 65536 - r.seen) * fn * den then r.lose else r
    | some c =>
      let r := { r with seen := c }
      match r.lastCross with
      | none => { r with lastCross := some c }
      | some c0 =>
        let per := c - c0
        let ps := (per :: r.periods).take cyc
        -- estimate N × rate × 65,536 / Σ periods Hz, within 0.7 to 1.3 of F_NOM
        let inRange (m tot : Nat) : Bool :=
          7 * fn * tot * den ≤ 10 * m * num * 65536 && 10 * m * num * 65536 ≤ 13 * fn * tot * den
        let r := { r with lastCross := some c, periods := ps, good := if inRange 1 per then min (r.good + 1) 16 else 0 }
        let r := { r with freq := s.refHarm e n * (roundDiv ((ps.length * num * 65536 * 65536 : Nat) : Int) (ps.sum * den)).toNat }
        if r.lost then { r with lost := decide (r.good < cyc) }
        else if inRange ps.length ps.sum then r else r.lose

/-! ### The run of a tick (R157) -/

/-- One output sample of a chain within a run: phase of the input sample it came from, value, quality. -/
abbrev OutSmp := Nat × (Int × Int) × Nat

/-- Running through the stages: the chain's stage states, the sample still in flight, saturations, events. -/
def State.stages (s : State) (e : Nat) (ws : List Word) (good : Bool) (phi : Nat → Nat) (x : Int × Int) (sts : List StageSt) :
    List StageSt × Option (Int × Int) × Nat × List (Nat × Bool × Int × Int) :=
  (stageNos ws).foldl
    (fun acc j =>
      match acc.2.1 with
      | none => acc
      | some v =>
        let st := (acc.1[j]?).getD {}
        let r := s.stage e ws j (cplxBefore ws (startCplx ws) j) good (phi (mixRef ws j)) v st
        (acc.1.set j r.1, r.2.1, acc.2.2.1 + r.2.2.1,
          match r.2.2.2 with | some d => acc.2.2.2 ++ [(j, d, v.1, v.2)] | none => acc.2.2.2))
    (sts, some x, 0, [])

/-- Input samples of a chain in the run of tick k: phase, value, quality (R139). -/
def State.chainInputs (s : State) (ws : List Word) (k : Nat) (outs : List (Nat × List OutSmp)) : List OutSmp :=
  if cKind ws = 1 then
    (((outs.find? (fun o => o.1 == cSrc ws)).map (fun o => o.2)).getD []).map (fun o =>
      (o.1, (match cComp ws with | 0 => (o.2.1.1, 0) | 1 => (o.2.1.2, 0) | _ => o.2.1), o.2.2))
  else
    (List.range (cPhases ws)).map (fun p =>
      let g := s.grid k (cSrc ws + p * cStride ws)
      (p, (g.1, 0), g.2))

/-- Words of the plane history that the chains of an engine read in the run of tick k (R384). -/
def State.fltReads (s : State) (e k : Nat) : List Nat :=
  (s.fe e).chains.flatMap (fun c =>
    let ws := s.chainW e c.1
    if !c.2.running || cKind ws = 1 then []
    else (List.range (cPhases ws)).map (fun p => Config.planeAt (k % 32) (cSrc ws + p * cStride ws)))

/-- References a chain mixes with. -/
def mixRefs (ws : List Word) : List Nat :=
  ((stageNos ws).filter (fun j => sType ws j == 4 && !mixSelf ws j)).map (mixRef ws)

/-- A chain mixes with a reference that is lost in this run. -/
def mixesLost (ws : List Word) (refs : List RefSt) : Bool := (mixRefs ws).any (fun n => ((refs[n]?).getD {}).lostRun)

/-- A chain's samples of one run: the chain after it, its outputs, saturations and events (stage, pickup, phase, I, Q). -/
def State.chainRun (s : State) (e : Nat) (ws : List Word) (refs : List RefSt) (srcValid : Bool) (ins : List OutSmp) (c : Chain) :
    Chain × List OutSmp × Nat × List (Nat × Bool × Nat × Int × Int) :=
  ins.foldl
    (fun acc i =>
      let c := acc.1
      let fill := c.fill + 1
      let valid := c.settle ≤ fill && srcValid
      let win := (i.2.2 :: c.win).take c.settle
      let q := winQ valid (mixesLost ws refs) win
      let good := valid && q % 4 != 1
      let r := s.stages e ws good (fun n => ((refs[n]?).getD {}).phase i.1) i.2.1 c.stages
      let c' := { c with stages := r.1, fill := fill, win := win, sat := c.sat || r.2.2.1 != 0 }
      let out := match r.2.1 with
        | some v => acc.2.1 ++ [(i.1, v, q)]
        | none => acc.2.1
      (c', out, acc.2.2.1 + r.2.2.1, acc.2.2.2 ++ r.2.2.2.map (fun v => (v.1, v.2.1, i.1, v.2.2.1, v.2.2.2))))
    (c, [], 0, [])

/-- Quality word of a chain's output entry of a tick (R156): from its last output, or kept from before with NEW = 0. -/
def entryQ (c : Chain) (last : Option Nat) (overflow badRef : Bool) : Nat :=
  let low := match last with
    | some q => q
    | none => if c.valid then c.outQual else (c.outQual &&& 0xFFFFFFFC) ||| 1
  let low := (low &&& 0x00FFFFEB) ||| (if overflow then 4 else 0) ||| (if badRef then 16 else 0)
  low ||| b2n c.valid * 2 ^ 24 ||| b2n last.isSome * 2 ^ 25 ||| b2n c.sat * 2 ^ 26

/-- Write a chain's output entry into the history of a tick. -/
def State.putOut (s : State) (e c k : Nat) (x : Chain) : State :=
  s.setTws (outAddr k (e * 128 + c)) [wS x.outI, wS x.outQ, w32 x.outQual, tagOf k]

/-- An event to the targets of its stage (R152). -/
def State.thrRaise (s : State) (e : Nat) (w : Word) (ev : ThrEvent) : State :=
  let s := (s.bump (pFLT e) R.FLT_CNT_EVT).irq (pFLT e) 5
  let s := if bit w 18 then { s with thrCyc := s.thrCyc ++ [ev] } else s
  let s := if bit w 19 then { s with thrAcq := s.thrAcq ++ [ev] } else s
  if bit w 20 then
    if 64 ≤ (s.fe e).evts.length then (s.bump (pFLT e) R.FLT_CNT_EVT_LOST).irq (pFLT e) 6
    else s.setFe e { s.fe e with evts := (s.fe e).evts ++ [ev] }
  else s

/-- A chain as a START leaves it (R159): histories cleared, thresholds dropped out, SAT cleared, settling anew. -/
def State.freshChain (s : State) (e c : Nat) (old : Chain) : Chain :=
  { old with
    running := true, stopping := false, stages := (stageNos (s.chainW e c)).map (fun _ => {}), fill := 0, win := [],
    gen := old.gen + 1, sat := false, valid := false, trackLost := false, delay := s.chainDelay e c, settle := chainSettle (s.chainW e c),
    cost := s.chainCost e c, startTag := tagOf s.tick }

/-- A chained chain's count begins anew where its source's did (R154). -/
def Chain.follow (x src : Chain) (ws : List Word) : Chain :=
  if cKind ws = 1 ∧ src.gen ≠ x.srcGen then { x with fill := 0, valid := false, gen := x.gen + 1, srcGen := src.gen } else x

/-- One chain's part of the run (R157): state and outputs of the chains run before it are given. -/
def State.runChain (s : State) (e k c : Nat) (refs : List RefSt) (outs : List (Nat × List OutSmp)) :
    List (Nat × List OutSmp) × State :=
  let x := sget {} c (s.fe e).chains
  if !x.running then
    -- a stopped chain's entry: VALID 0, invalid, last value (R159)
    let y := { x with outQual := ((x.outQual &&& 0x00FFFFE8) ||| 1) + b2n x.sat * 2 ^ 26 }
    (outs, (s.setFe e { s.fe e with chains := sput c y (s.fe e).chains }).putOut e c k y)
  else
    let ws := s.chainW e c
    let src := sget ({} : Chain) (cSrc ws) (s.fe e).chains
    let srcValid := cKind ws != 1 || (src.running && src.valid)
    let x := x.follow src ws
    let r := s.chainRun e ws refs srcValid (s.chainInputs ws k outs) x
    let y := r.1
    let lost := mixesLost ws refs
    let last := r.2.1.getLast?
    let y := { y with
                    valid := decide (y.settle ≤ y.fill) && srcValid,
                    trackLost := lost, outI := (match last with | some o => o.2.1.1 | none => y.outI),
                      outQ := (match last with | some o => o.2.1.2 | none => y.outQ) }
    let y := { y with outQual := entryQ y (last.map (fun o => o.2.2)) (r.2.2.1 != 0) lost, running := !y.stopping, stopping := false }
    let s := (s.setFe e { s.fe e with chains := sput c y (s.fe e).chains }).putOut e c k y
    let s := s.bumpBy (pFLT e) R.FLT_CNT_SAT r.2.2.1
    let s := if y.sat && !x.sat then s.irq (pFLT e) 4 else s
    let s := if y.valid && !x.valid then s.irq (pFLT e) 8 else s
    let s := r.2.2.2.foldl (fun s v =>
      s.thrRaise e (sWord ws v.1)
        { chain := e * 128 + c, stage := v.1, pickup := v.2.1, tick := k, phase := v.2.2.1, i := v.2.2.2.1, q := v.2.2.2.2 }) s
    (outs ++ [(c, r.2.1)], s)

/-- The tracker of a reference after the run (R146, R147): the source chain gives 4,800 × PHASES / D outputs per second. -/
def State.trackRef (s : State) (e n : Nat) (outs : List (Nat × List OutSmp)) (r : RefSt) : RefSt :=
  if !s.refTrack e n then r
  else
    let src := fld (s.refCfg e n) 0 7
    let h := s.chainHead e 128 src
    let x := sget ({} : Chain) src (s.fe e).chains
    match outs.find? (fun o => o.1 == src) with
    | none => { r.lose with prev := none, lastCross := none }
    | some o =>
      let r := if x.valid then r else r.lose
      o.2.foldl (fun r v => s.trackOne e n (4800 * h.2.2) (max 1 h.2.1) r (x.valid && v.2.2 % 4 != 1 && v.2.2 % 4 != 2) v.2.1.1) r

/-- A pending COMMIT of the references becomes active (R162): changed references are remembered. -/
def State.fltActivate (s : State) (e : Nat) (old : State) : State :=
  let ch := (List.range 4).filter (fun n =>
    old.ac (pFLT e) (R.FLT_REF_CFG + 4 * n) != s.ac (pFLT e) (R.FLT_REF_CFG + 4 * n) ||
    old.ac (pFLT e) (R.FLT_REF_FREQ + 4 * n) != s.ac (pFLT e) (R.FLT_REF_FREQ + 4 * n))
  let x := s.fe e
  s.setFe e { x with
                   startSeen := false, changed := (x.changed ++ ch).eraseDups,
                     refs := (List.range 4).map (fun n => if ch.contains n then {} else (x.refs[n]?).getD {}) }

/-- A pending COMMIT is activated by a chain START (R162). -/
def State.fltCommitNow (s : State) (e : Nat) : State :=
  let p := pFLT e
  if (s.hd p).commitPending then
    let old := s
    let s := iter 4 (fun n s =>
      (s.setAc p (R.FLT_REF_CFG + 4 * n) (s.rg p (R.FLT_REF_CFG + 4 * n))).setAc p (R.FLT_REF_FREQ + 4 * n) (s.rg p (R.FLT_REF_FREQ + 4 * n))) s
    let s := s.updHd p (fun h => { h with commitPending := false, commitTag := tagOf s.tick })
    (s.fltActivate e old).irq p 1
  else s

/-- The next tick an engine has to run: the oldest final tick after its last run (R157). -/
def State.fltNext (s : State) (e : Nat) : Option (Nat × Nat) :=
  ((s.sva.finals.filter (fun f => (s.fe e).fromTick ≤ f.1 && (match (s.fe e).lastRun with | some l => decide (l < f.1) | none => true))).getLast?).map
    (fun f => (f.1, f.2.2))

/-- An engine makes runs: ENABLE = 1 and neither fenced nor beyond the ordering code. -/
def State.fltLive (s : State) (e : Nat) : Bool := (s.hd (pFLT e)).enable && !s.unusable (pFLT e) && e < 64

/-- An engine that makes runs has still to run a tick before k. -/
def State.fltBehind (s : State) (e k : Nat) : Bool :=
  s.fltLive e && (match s.fltNext e with | some f => decide (f.1 < k) | none => false)

/-- A COMMIT of the references that a START released becomes active at the next tick run (R162). -/
def State.fltReleased (s : State) (e : Nat) : State :=
  if (s.hd (pFLT e)).commitPending && (s.fe e).startSeen then s.fltCommitNow e else s

/-- Reference n of an engine in its run of tick k: as that run left it, as the run to come will begin, or, of a tick it did not
run, as its last run before. -/
def State.refAt (s : State) (e n k : Nat) : RefSt :=
  let x := s.fe e
  let ahead := match x.lastRun with | some l => decide (k ≤ l) | none => false
  let rs := if ahead then ((x.refsHist.find? (fun h => h.1 ≤ k)).map (fun h => h.2)).getD [] else (s.fltReleased e).refsStart e k
  (rs[n]?).getD {}

/-- What the run of tick k waits for: the end of the run before, the references a joining module adopts (R373), and the run of
the tick before of an engine whose reference is copied (R149). -/
def State.fltWaits (s : State) (e k : Nat) : Bool :=
  decide (s.tsu.clk < (s.fe e).endClk) || (s.dup.state == 3 && s.dup.resyncTick == some k && !s.dup.refsFrom.contains e) ||
    (s.fe e).copies.any (fun c => s.fltBehind c.2.1 k)

/-- FLT_TICK_RUN: the whole run of the engine's next tick (R157). -/
def State.fltRun (s : State) (e : Nat) : State :=
  match s.fltNext e with
  | none => s
  | some (k, done) =>
    if !s.fltLive e || s.fltWaits e k then s
    else
      let s := s.fltReleased e
      let x := s.fe e
      let late := done < x.endClk
      -- chains that mix with or track a changed reference restart in this run (R162)
      let hit (c : Nat) : Bool :=
        (mixRefs (s.chainW e c)).any (fun n => x.changed.contains n) ||
        (List.range 4).any (fun n => x.changed.contains n && s.refTrack e n && fld (s.refCfg e n) 0 7 == c)
      let chains := x.chains.map (fun c => if c.2.running && hit c.1 then (c.1, s.freshChain e c.1 c.2) else c)
      let refs := s.refsStart e k
      let s := (s.setFe e { x with chains := chains, changed := [], copies := [] }).recost e
      let s := s.readAt (s.fltReads e k) 5 e
      let r := (chains.map (fun c => c.1)).foldl (fun acc c => acc.2.runChain e k c refs acc.1) (([] : List (Nat × List OutSmp)), s)
      let s := r.2
      let after := (List.range 4).map (fun n => s.trackRef e n r.1 ((refs[n]?).getD {}))
      let newLost := ((List.range 4).filter (fun n => ((after[n]?).getD {}).lost && !((refs[n]?).getD {}).lost)).length
      let load := s.fltLoad e
      let s := iter 4 (fun n s =>
        let x := (refs[n]?).getD {}
        (s.setRg (pFLT e) (R.FLT_REF_FREQ_ACT + 4 * n) (w32 x.used)).setRg (pFLT e) (R.FLT_REF_PHASE + 4 * n) (w32 x.phi)) s
      let s := s.setFe e { s.fe e with
        refs := after, refsHist := ((k, after) :: x.refsHist).take 33, lastRun := some k, endClk := s.tsu.clk + cdiv (load * 10) 24,
        shown := (s.rg (pFLT e) R.FLT_LAST_TICK, s.rg (pFLT e) R.FLT_RUN_TIME) }
      let s := (s.setRg (pFLT e) R.FLT_LAST_TICK (tagOf k)).setRg (pFLT e) R.FLT_RUN_TIME (w32 (min 0xFFF (cdiv load 60)))
      let s := s.bumpBy (pFLT e) R.FLT_CNT_TRACK_LOST newLost
      let s := if newLost != 0 then s.irq (pFLT e) 7 else s
      if late then s.bump (pFLT e) R.FLT_CNT_RUN_LATE else s

/-- The filter-done token of tick k has been sent: every engine that makes runs has finished it (R157). -/
def State.fltDone (s : State) (k : Nat) : Bool :=
  (List.range 64).all (fun e => !s.fltLive e || k < (s.fe e).fromTick || (match (s.fe e).lastRun with
    | some l => decide (k < l) || (k == l && decide ((s.fe e).endClk ≤ s.tsu.clk))
    | none => false))

/-! ### Start and stop (R158, R159, R162) -/

/-- Checks of a chain at START in the order of R159: the ERR_CODE of the first that fails. -/
def State.chainCheck (s : State) (e c : Nat) (used : Nat → Bool) : Option Nat :=
  let ws := s.chainW e c
  let js := stageNos ws
  let zero := cStages ws = 0 || (cKind ws = 0 && cPhases ws = 0) ||
    js.any (fun j => (sType ws j == 1 && maL ws j == 0) || (sType ws j == 2 && firN ws j == 0) || (sType ws j == 3 && decD ws j == 0))
  let badStage (j : Nat) : Bool :=
    match sType ws j with
    | 1 => 4096 < maL ws j
    | 2 => 256 < firN ws j || 2048 < firBase ws j + cdiv (firN ws j) 2
    | 3 => 256 < decD ws j
    | 4 => false
    | 5 => false
    | 6 => thrMag2 ws j && ((sP0 ws j).toInt < 0 || (sP1 ws j).toInt < 0 || (!thrUnder ws j && (sP0 ws j).toInt < (sP1 ws j).toInt))
    | _ => true
  let range := 8 < cStages ws || 1 < cKind ws || (cKind ws = 0 && cPhases ws = 2) || (cKind ws = 1 && cComp ws = 3) ||
    js.any badStage ||
    (cKind ws = 1 && 127 < cSrc ws) || (cKind ws = 0 && s.capChannels ≤ cSrc ws + (cPhases ws - 1) * cStride ws)
  let badSrc := cKind ws = 1 && (c ≤ cSrc ws || !used (cSrc ws))
  let mixes := js.filter (fun j => sType ws j == 4)
  let order := 1 < mixes.length || mixes.any (fun j => cplxBefore ws (startCplx ws) j) ||
    js.any (fun j => sType ws j == 6 && thrMag2 ws j && !cplxBefore ws (startCplx ws) j)
  if !cUsed ws then some Err.range
  else if zero then some Err.zeroField
  else if range then some Err.range
  else if badSrc then some 0x41
  else if order then some 0x42
  else none

/-- FLT_CHAIN_CMD.OP = START (R159): `off` is the register a refusal names. -/
def State.chainStart (s : State) (e c off : Nat) : State :=
  let p := pFLT e
  if s.unusable p then s.refuse p off Err.capFull
  else
    let x := sget ({} : Chain) c (s.fe e).chains
    let s := s.fltCommitNow e
    if x.running then s
    else match s.chainCheck e c (fun i => cUsed (s.chainW e i)) with
      | some code => s.refuse p off code
      | none =>
        let y := s.freshChain e c x
        let t := (s.setFe e { s.fe e with chains := sput c y (s.fe e).chains }).recost e
        if 120000 < t.fltLoad e then s.refuse p off 0x40 else t.accept p

/-- CTRL.START of an engine's page: every USED chain that is not running, all or none, after a pending COMMIT (R159, R162).
Answers the code of a refusal and the state it leaves, or the state after the start. -/
def State.fltStartAll (s : State) (e : Nat) : (Nat × State) ⊕ State :=
  let todo := (List.range 128).filter (fun c => cUsed (s.chainW e c) && !(sget ({} : Chain) c (s.fe e).chains).running)
  if s.unusable (pFLT e) then .inl (Err.capFull, s)
  else if todo.isEmpty then
    .inr (if (s.hd (pFLT e)).commitPending then s.setFe e { s.fe e with startSeen := true } else s)
  else
    let t := s.fltCommitNow e
    match todo.findSome? (fun c => t.chainCheck e c (fun i => cUsed (t.chainW e i))) with
    | some code => .inl (code, t)
    | none =>
      let u := (todo.foldl (fun (u : State) c =>
        u.setFe e { u.fe e with chains := sput c (t.freshChain e c (sget {} c (u.fe e).chains)) (u.fe e).chains }) t).recost e
      if 120000 < u.fltLoad e then .inl (0x40, t) else .inr u

/-- FLT_CHAIN_CMD.OP = STOP: at the end of the current tick run. -/
def State.chainStop (s : State) (e c : Nat) : State :=
  let x := sget ({} : Chain) c (s.fe e).chains
  if s.unusable (pFLT e) then s.refuse (pFLT e) R.FLT_CHAIN_CMD Err.capFull
  else if x.running then
    s.setFe e { s.fe e with chains := sput c { x with running := false, valid := false } (s.fe e).chains }
  else s

/-- FLT_CHAIN_CMD.OP = CLEAR_SAT (R141). -/
def State.chainClearSat (s : State) (e c : Nat) : State :=
  let x := sget ({} : Chain) c (s.fe e).chains
  if s.unusable (pFLT e) then s.refuse (pFLT e) R.FLT_CHAIN_CMD Err.capFull
  else if x.sat then s.setFe e { s.fe e with chains := sput c { x with sat := false } (s.fe e).chains } else s

/-- CTRL.STOP of an engine's page: every chain stops as FLT_CHAIN_CMD stops one (R159). -/
def State.fltStop (s : State) (e : Nat) : State :=
  s.setFe e { s.fe e with chains := (s.fe e).chains.map (fun c => (c.1, { c.2 with running := false, valid := false })) }

/-- Every chain of an engine stops and its latest output entry clears VALID (R27, R487). -/
def State.fltStopAll (s : State) (e : Nat) : State :=
  let k := ((s.fe e).lastRun).getD 0
  (s.fe e).chains.foldl (fun s c =>
    if c.2.running then
      let y := { c.2 with running := false, stopping := false, valid := false, outQual := ((c.2.outQual &&& 0x06FFFFFC) ||| 1) }
      (s.setFe e { s.fe e with chains := sput c.1 y (s.fe e).chains }).putOut e c.1 k y
    else s) s

/-- FLT_REF_CMD (R149). -/
def State.fltRefCmd (s : State) (e : Nat) (v : Word) : State :=
  let p := pFLT e
  let src := fld v 16 6
  let dst := fld v 0 2
  if s.unusable p then s.refuse p R.FLT_REF_CMD Err.capFull
  else if !s.refTrack e dst then s.refuse p R.FLT_REF_CMD Err.range
  else if s.unusable (pFLT src) then s.refuse p R.FLT_REF_CMD Err.capFull
  else s.setFe e { s.fe e with copies := (s.fe e).copies ++ [(dst, src, fld v 12 2)] }

/-! ### Tables and reads (R160, R161, R163) -/

/-- Bits of a stage word that its TYPE gives a meaning (R163). -/
def stageMask (w : Word) : Word :=
  match fld w 28 4 with
  | 1 => 0xF0001FFF
  | 2 => 0xF03F01FF
  | 3 => 0xF00001FF
  | 4 => 0xF00001F7
  | 6 => 0xF01FFFFF
  | _ => 0xF0000000

/-- Writable bits of word i of a chain entry written as `ws`; parameters a stage does not use are kept as written (R163). -/
def chainMask (ws : List Word) (i : Nat) : Word :=
  if i = 0 then 0x8F3F0000
  else if i = 1 then 0x0FFF1FFF
  else if i < 10 then stageMask (cw ws i)
  else if 26 ≤ i then 0
  else if i % 2 = 0 ∧ sType ws ((i - 10) / 2) = 2 then 0x7FF
  else 0xFFFFFFFF

/-- Bits of a stage word that may change only while the chain is stopped: all but QUAL, DIR and EVT_* of a THR stage. -/
def stoppedBits (w : Word) : Word := if fld w 28 4 = 6 then w &&& 0xFFE2_0000 else w

/-- Check of a chain entry write on a running chain (R160). -/
def State.chainWrCheck (s : State) (e c : Nat) (ws : List Word) : Option Nat :=
  let old := s.chainW e c
  if !(sget ({} : Chain) c (s.fe e).chains).running then none
  else if cw ws 0 != cw old 0 || (List.range 8).any (fun j => stoppedBits (sWord ws j) != stoppedBits (sWord old j)) ||
      (List.range 8).any (fun j => sType old j == 2 && sP0 ws j != sP0 old j) then some Err.notStopped
  else none

/-- A coefficient write: sign extension, and no running chain's FIR reads it (R160, R163). -/
def State.coefWrCheck (s : State) (e i : Nat) (w : Word) : Option Nat :=
  if w.toInt != sfld w 0 18 then some Err.range
  else if (s.fe e).chains.any (fun c => c.2.running && (let ws := s.chainW e c.1
      (stageNos ws).any (fun j => sType ws j == 2 && firBase ws j ≤ i && i < firBase ws j + cdiv (firN ws j) 2))) then some Err.notStopped
  else none

/-- What a chain entry's write does to a running chain: a change of its source is a channel switch (R161). -/
def State.chainWritten (s : State) (e c : Nat) (old : List Word) : State :=
  let x := sget ({} : Chain) c (s.fe e).chains
  let ws := s.chainW e c
  if x.running && (cSrc ws != cSrc old || (cKind ws = 0 && cStride ws != cStride old)) then
    let y := { x with
      stages := (stageNos ws).map (fun j => { picked := ((x.stages[j]?).getD {}).picked }), fill := 0, win := [], gen := x.gen + 1,
      valid := false, startTag := tagOf s.tick }
    (s.setFe e { s.fe e with chains := sput c y (s.fe e).chains }).recost e
  else s

/-- STATE, SAT and TRACK_LOST of a chain as entry word 26 shows them. -/
def chainStat (x : Chain) : Word :=
  w32 ((if x.running then (if x.valid then 2 else 1) else 0) + b2n x.sat * 2 ^ 8 + b2n x.trackLost * 2 ^ 9)

/-- Read-only registers of an FLT page that show its state. -/
def State.fltRo (s : State) (e off : Nat) : Option Word :=
  let sel := fld (s.rg (pFLT e) R.FLT_CHAIN_SEL) 0 7
  let x := sget ({} : Chain) sel (s.fe e).chains
  let ev := (s.fe e).evts.head?
  let busy := s.tsu.clk < (s.fe e).endClk
  if off = R.FLT_LOAD then some (w32 (s.fltLoad e))
  else if busy ∧ off = R.FLT_LAST_TICK then some (s.fe e).shown.1
  else if busy ∧ off = R.FLT_RUN_TIME then some (s.fe e).shown.2
  else if off = R.FLT_REF_STATUS then
    some (w32 ((List.range 4).foldl (fun a n =>
      let r := ((s.fe e).refs[n]?).getD {}
      let t := s.refTrack e n
      a + b2n (t && !r.lost) * 2 ^ n + b2n (t && r.lost) * 2 ^ (4 + n)) 0))
  else if off = R.FLT_CHAIN_DELAY then some (w32 x.delay)
  else if off = R.FLT_CHAIN_SETTLE then some (w32 x.settle)
  else if off = R.FLT_CHAIN_STAT then some (chainStat x)
  else if off = R.FLT_EVT_LEVEL then some (w32 (s.fe e).evts.length)
  else if off = R.FLT_EVT_INFO then
    some (match ev with
      | some v => w32 (2 ^ 31 + b2n v.pickup * 2 ^ 30 + v.stage * 2 ^ 20 + v.phase * 2 ^ 16 + v.chain % 128)
      | none => 0)
  else if off = R.FLT_EVT_TICK then some (match ev with | some v => tagOf v.tick | none => 0)
  else if off = R.FLT_EVT_I then some (match ev with | some v => wS v.i | none => 0)
  else if off = R.FLT_EVT_Q then some (match ev with | some v => wS v.q | none => 0)
  else none

/-- Words 26 to 31 of a chain entry (R163). -/
def State.fltTblWord (s : State) (a : Nat) : Option Word :=
  if 0x00B40000 ≤ a ∧ a < 0x00C40000 ∧ 104 ≤ a % 128 then
    let n := (a - 0x00B40000) / 128
    let x := sget ({} : Chain) (n % 128) (s.fe (n / 128)).chains
    match a % 128 / 4 with
    | 26 => some (chainStat x)
    | 27 => some (w32 (x.settle - x.fill))
    | 28 => some (w32 x.delay)
    | 29 => some (w32 x.cost)
    | 30 => some x.startTag
    | _ => some 0
  else none

/-! ### The commands -/

/-- FLT_CHAIN_START (R159). -/
def execFltChainStart (e c : Nat) (s : State) : Host.Outcome State Fault Refusal :=
  actReg State.onMain (pFLT e) (fun s => s.chainStart e c R.FLT_CHAIN_CMD) s

/-- FLT_CHAIN_STOP (R159). -/
def execFltChainStop (e c : Nat) (s : State) : Host.Outcome State Fault Refusal :=
  actReg State.onMain (pFLT e) (fun s => s.chainStop e c) s

/-- CLEAR_SAT (R141). -/
def execClearSat (e c : Nat) (s : State) : Host.Outcome State Fault Refusal :=
  actReg State.onMain (pFLT e) (fun s => s.chainClearSat e c) s

/-- FLT_REF_CMD (R149). -/
def execFltRefCmd (e : Nat) (v : Word) (s : State) : Host.Outcome State Fault Refusal :=
  actReg State.onMain (pFLT e) (fun s => s.fltRefCmd e v) s

/-- FLT_EVT_POP (R152): no effect when empty. -/
def execFltEvtPop (e : Nat) (s : State) : Host.Outcome State Fault Refusal :=
  actReg State.onMain (pFLT e) (fun s => s.setFe e { s.fe e with evts := (s.fe e).evts.drop 1 }) s

end Sys2Proof.Machine
end

