-- ==== Sys2Proof/Machine/Evr.lean ====
section
/-!
DEFINITION. The event recorder (chapter 14): records, posting, folding, flush, the privileged area with its Blaze,
mirroring and loss.
-/
namespace Sys2Proof.Machine

/-- The EVR page. -/
abbrev pEVR : Nat := 0x1C0

def State.updEvr (s : State) (f : Evr → Evr) : State := { s with evr := f s.evr }

/-- Operating time in 100 ms units (R338): it advances while VMAIN is present, on the free-running clock. -/
def State.optime (s : State) : Nat := (s.evr.optBase + s.tsu.clk / 25000000) % 2 ^ 40

/-- A record as a hardware block hands it over now (R338, R340): the body is completed to units of 8 bytes, at least 16. -/
def State.mkRec (s : State) (src cls typ : Nat) (body : List Nat) : Rec :=
  let n := max 16 (cdiv body.length 8 * 8)
  {
    src := src, cls := cls, typ := typ, sync := s.tsu.sync.code, ns := s.ns, optime := s.optime, pwr := s.evr.pwrCycles,
    body := body ++ List.replicate (n - body.length) 0 }

/-- A hardware block's record enters the crossing to EVR (R342). -/
def State.deck (s : State) (src cls typ : Nat) (body : List Nat) : State :=
  let r := s.mkRec src cls typ body
  s.updEvr (fun e => { e with cross := e.cross ++ [r] })

/-- The first eight bytes of a body: the source's tick tag (R340). -/
def tagBody (tag : Word) : List Nat := bytesLE 8 tag.toNat

/-- A record of the source still waits in the crossing (R342): an operation recorded by it has not completed. -/
def State.deckWaits (s : State) (src : Nat) : Bool := s.evr.cross.any (fun r => r.src == src && 8 ≤ r.cls)

/-- Header and body bytes of a record (R337). -/
def Rec.bytes (r : Rec) : List Nat :=
  bytesLE 4 (r.body.length / 8 % 256 * 2 ^ 24 + r.typ % 256 * 2 ^ 16 + r.src % 2 ^ 16) ++
  bytesLE 4 (r.cls % 16 * 2 ^ 28 + r.sync % 4 * 2 ^ 26 + b2n r.own * 2 ^ 25 + b2n r.repSat * 2 ^ 24 + r.rep % 2 ^ 16) ++
  bytesLE 4 r.seq ++ bytesLE 4 (nsOf r.ns) ++ bytesLE 8 (secOf r.ns % 2 ^ 48) ++ bytesLE 8 r.optime ++ bytesLE 4 r.pwr ++
  bytesLE 4 r.delta ++ r.body

/-- Stored size: header, body, end mark. -/
def Rec.size (r : Rec) : Nat := 48 + r.body.length

/-- EVR is in PF_MODE (R349): from the warning to the end of the flush, or of step 3 where the warning has cleared. -/
def State.evrPf (s : State) : Bool := s.pwr.pfMode && !(s.evr.pf4 && !s.pwr.pfw)

/-- The end mark (R337). -/
def Rec.mark (r : Rec) : List Nat := bytesLE 4 (crc32c r.bytes) ++ bytesLE 4 0x424C415A

/-! ### Flush (R345) -/

/-- A start condition of a flush: it takes the records now in the buffer and clears their fold entries, or follows the
flush that runs. -/
def State.flushStart (s : State) : State :=
  s.updEvr (fun e =>
    if e.flushing.isSome then { e with again := true }
    else { e with flushing := some e.ordBuf.length, fold := [] })

/-- Bytes in the ordinary buffer. -/
def Evr.ordFill (e : Evr) : Nat := (e.ordBuf.map Rec.size).sum

/-- Bytes a segment has used. -/
def Seg.used (g : Seg) : Nat := 64 + (g.recs.map Rec.size).sum

/-- A record appended to a region of the deck (newest segment first): into its segment, or a new one. -/
def segAppend (next pwr : Nat) (r : Rec) : List Seg → List Seg × Bool
  | g :: rest => if g.used + r.size ≤ 2 ^ 20 then ({ g with recs := g.recs ++ [r] } :: rest, false)
                 else ({ seq := next, first := r.seq, pwr := pwr, recs := [r] } :: g :: rest, true)
  | [] => ([{ seq := next, first := r.seq, pwr := pwr, recs := [r] }], true)

/-- One buffered record to the ordinary region; the oldest of 3,584 segments is reused (R346). -/
def State.ordOut (s : State) (r : Rec) : State :=
  let x := segAppend s.evr.segSeq s.evr.pwrCycles r s.evr.ordSegs
  let reuse := 3584 < x.1.length
  let s := s.updEvr (fun e => { e with ordSegs := x.1.take 3584, segSeq := if x.2 then e.segSeq + 1 else e.segSeq })
  let s := s.flashWrote (r.size + (if x.2 then 64 else 0))
  if reuse then s.bump pEVR R.EVR_CNT_SEG_OVERWRITE else s

/-- FLUSH_DONE (R345, R349): in PF_MODE the end of step 3; read-only flash takes nothing (R394). -/
def State.flushDone (s : State) : State :=
  match s.evr.flushing with
  | none => s
  | some n =>
    if s.memSt.readOnly || (s.pwr.pfMode && !s.evr.pf3) then s
    else
      let out := s.evr.ordBuf.take n
      let s := out.foldl State.ordOut s
      let s := s.updEvr (fun e =>
        { e with ordBuf := e.ordBuf.drop n, flushing := none, pf4 := e.pf4 || (e.pf3 && !e.again) })
      let s := (s.bump pEVR R.EVR_CNT_FLUSH).irq pEVR 5
      if s.evr.again then (s.updEvr (fun e => { e with again := false })).flushStart else s

/-! ### Ordinary records (R343, R344) -/

/-- An ordinary record lost. -/
def State.ordLost (s : State) : State := (s.bump pEVR R.EVR_CNT_ORD_LOST).irq pEVR 6

/-- The record an event folds into, if any. -/
def State.foldInto (s : State) (r : Rec) : Option Rec :=
  let win := fld (s.ac pEVR R.EVR_CFG) 0 16
  if win = 0 then none
  else (s.evr.fold.find? (fun f => f.1 == r.src)).bind (fun f =>
    (s.evr.ordBuf.find? (fun b => b.seq == f.2 && b.src == r.src)).bind (fun b =>
      let last := b.ns + b.delta * 1000000
      if b.typ = r.typ ∧ b.body.length = r.body.length ∧ crc32c b.body = crc32c r.body ∧ last ≤ r.ns ∧
          r.ns ≤ last + win * 1000000 then some b else none))

/-- An accepted ordinary record: folded, buffered with the next SEQ, or lost. -/
def State.ordAccept (s : State) (r : Rec) : State :=
  match s.foldInto r with
  | some b =>
    let sat := decide (65535 ≤ b.rep)
    let b' := { b with
      rep := min 65535 (b.rep + 1), repSat := b.repSat || sat, delta := min (2 ^ 32 - 1) ((r.ns - b.ns) / 1000000) }
    let s := s.updEvr (fun e => { e with ordBuf := e.ordBuf.map (fun x => if x.seq == b.seq then b' else x) })
    let s := s.bump pEVR R.EVR_CNT_FOLDED
    if sat then s.bump pEVR R.EVR_CNT_REPEAT_SAT else s
  | none =>
    if 2 ^ 21 < s.evr.ordFill + r.size then s.ordLost
    else
      let before := s.evr.ordFill
      let r := { r with seq := s.evr.ordSeq }
      let off := fld (s.ac pEVR R.EVR_CFG) 0 16 = 0
      let s := s.updEvr (fun e =>
        let others := e.fold.filter (fun f => f.1 != r.src)
        { e with
          ordBuf := e.ordBuf ++ [r], ordSeq := (e.ordSeq + 1) % 2 ^ 32,
          fold := if off then [] else if others.length < 32 then others ++ [(r.src, r.seq)] else others })
      let s := s.bump pEVR R.EVR_CNT_ORD_RECORDS
      if before < 1572864 && 1572864 ≤ s.evr.ordFill then (s.irq pEVR 4).flushStart else s

/-! ### Posting (R341) -/

/-- Body ranges a post may name: DRAM and system SRAM (R225). -/
def postRange (a n : Nat) : Bool :=
  a + n ≤ 0x800000000 || (0x1000000000 ≤ a && a + n ≤ 0x1001000000)

/-- EVR_POST_CMD. -/
def State.evrPost (s : State) (v : Word) : State :=
  let info := s.rg pEVR R.EVR_POST_INFO
  let len := fld info 24 8
  let a := s.rg64 pEVR R.EVR_POST_ADDR
  let cls := fld v 0 4
  if len = 0 then s.refuse pEVR R.EVR_POST_CMD Err.zeroField
  else if len = 1 ∨ 128 < len ∨ a % 8 ≠ 0 ∨ !postRange a (len * 8) ∨ 7 < cls then s.refuse pEVR R.EVR_POST_CMD Err.range
  else if s.evr.post.isSome then s.refuse pEVR R.EVR_POST_CMD 0x40
  else if s.evr.pf3 && s.evrPf then s.ordLost
  else
    let r := { s.mkRec (0x8000 + fld info 0 15) cls (fld info 16 8) [] with body := [] }
    s.updEvr (fun e => { e with post := some (r, a, len * 8) })

/-- Step 2 of the flush has ended (R349, R429): every privileged record is in MRAM, a post accepted before has its body, and the ordinary
buffer is flushed. -/
def State.pfStep3 (s : State) : State :=
  if s.pwr.pfMode && s.pwr.finalDone && !s.evr.pf3 && s.evr.privQ.isEmpty && s.evr.post.isNone &&
      s.evr.cross.all (fun r => r.cls < 8) then
    (s.updEvr (fun e => { e with pf3 := true })).flushStart
  else s

/-- The post's body has been read (R341): a poison response leaves the poison pattern in its place. -/
def State.postDone (s : State) : State :=
  match s.evr.post with
  | none => s
  | some (r, a, n) =>
    let x := s.readMem a n 2 0
    let s := x.2.2
    let s := if x.2.1 then s.bump pEVR R.EVR_CNT_POISON else s
    let s := s.updEvr (fun e => { e with post := none })
    ((s.ordAccept { r with body := x.1 }).irq pEVR 10).pfStep3

/-! ### Privileged records (R342, R347, R348) -/

/-- A lost privileged record. -/
def State.privLost (s : State) : State :=
  ((s.updEvr (fun e => { e with lost := e.lost + 1 })).bump pEVR R.EVR_CNT_PRIV_LOST).irq pEVR 7

/-- A privileged record enters the queue with the next SEQ; classes 8, 10, 11 and 13 start a flush. -/
def State.privAccept (s : State) (r : Rec) : State :=
  let r := { r with seq := s.evr.privSeq }
  let s := s.updEvr (fun e => { e with privQ := e.privQ ++ [r], privSeq := (e.privSeq + 1) % 2 ^ 32 })
  if [8, 10, 11, 13].contains r.cls then s.flushStart else s

/-- Whether the record at a place of the crossing can be taken now: an ordinary one, a privileged one while the queue has
room, or one of the safety channels, which never wait. -/
def State.canSubmit (s : State) (r : Rec) : Bool :=
  r.cls < 8 || s.evr.privQ.length < 64 || (r.src == 0x1A0 || r.src == 0x1A1)

/-- HW_RECORD_SUBMIT: the first record of the crossing that need not wait is taken. -/
def State.hwSubmit (s : State) : State :=
  match findI s.canSubmit s.evr.cross with
  | none => s
  | some (i, r) =>
    let s := s.updEvr (fun e => { e with cross := e.cross.eraseIdx i })
    if r.cls < 8 then s.ordAccept r
    else if 64 ≤ s.evr.privQ.length then s.privLost
    else s.privAccept r

/-- Bytes of the privileged area not yet mirrored. -/
def Evr.privFill (e : Evr) : Nat := (e.ring.map (fun x => x.2.1)).sum

/-- The pad a record of `n` bytes needs before it, and whether the area has room for both. -/
def Evr.padFor (e : Evr) (n : Nat) : Nat := if 65536 < e.wptr + n then 65536 - e.wptr else 0
def Evr.room (e : Evr) (n : Nat) : Bool := e.privFill + e.padFor n + n ≤ 65536

/-- The head of the privileged queue is written into MRAM, the Blaze last, or lost to a full area (R347, R348). -/
def State.privWrite (s : State) : State :=
  match s.evr.privQ with
  | [] => s
  | r :: rest =>
    let e := s.evr
    let s := s.updEvr (fun e => { e with privQ := rest })
    if !e.room r.size then s.privLost
    else
      let pad := e.padFor r.size
      let s := if pad = 0 then s
        else s.writeMram e.wptr (bytesLE 4 pad ++ bytesLE 4 0xF0000000 ++ List.replicate (pad - 8) 0)
      let off := if pad = 0 then e.wptr else 0
      let s := s.writeMram off (r.bytes ++ r.mark)
      (s.updEvr (fun e =>
        { e with
          ring := e.ring ++ (if pad = 0 then [] else [(e.wptr, pad, none)]) ++ [(off, r.size, some r.seq)],
          unmirrored := e.unmirrored ++ [r], wptr := (off + r.size) % 65536 })).bump pEVR R.EVR_CNT_PRIV_RECORDS

/-- PRIV_LOSS_RECORD (R342, R348): one record of type 0x05 with the number lost since the last one. -/
def State.privLossRec (s : State) : State :=
  if s.evr.lost = 0 ∨ 64 ≤ s.evr.privQ.length ∨ !s.evr.room 64 then s
  else
    let r := s.mkRec pEVR 13 0x05 (tagBody (tagOf s.tick) ++ bytesLE 8 s.evr.lost)
    (s.updEvr (fun e => { e with lost := 0 })).privAccept r

/-- A SEQ up to which Vehus has archived covers a record (R348). -/
def Evr.archived (e : Evr) (seq : Nat) : Bool :=
  match e.releaseSeq with
  | some q => decide (diff32 seq q ≤ 0)
  | none => false

/-- Segments of the mirror region in use: not wholly behind the released SEQ (R348). -/
def Evr.mirUsed (e : Evr) : List Seg := e.mirSegs.filter (fun g => g.recs.any (fun r => !e.archived r.seq))

/-- The mirror region has no room for a record. -/
def Evr.mirFull (e : Evr) (n : Nat) : Bool :=
  512 ≤ e.mirUsed.length && (match e.mirSegs with | g :: _ => 2 ^ 20 < g.used + n | [] => false)

/-- PRIV_MIRROR (R348): the oldest unmirrored record goes to the mirror region; suspended in PF_MODE (R349). -/
def State.privMirror (s : State) : State :=
  match s.evr.unmirrored with
  | [] => s
  | r :: rest =>
    if s.evrPf || s.memSt.readOnly || s.evr.mirFull r.size then s
    else
      let x := segAppend s.evr.mirSeq s.evr.pwrCycles r s.evr.mirUsed
      let e := s.evr
      let near := decide (384 ≤ x.1.length)
      let keep := (e.ring.dropWhile (fun g => g.2.2 != some r.seq)).drop 1
      let s := s.updEvr (fun e =>
        { e with
          unmirrored := rest, mirSegs := x.1, mirSeq := if x.2 then e.mirSeq + 1 else e.mirSeq, mirrorSeq := r.seq,
          ring := keep, nearFull := near })
      let s := s.flashWrote (r.size + (if x.2 then 64 else 0))
      if near && !e.nearFull then s.irq pEVR 9 else s

/-- EVR_PRIV_RELEASE (R348). -/
def State.privRelease (s : State) (v : Word) : State :=
  s.updEvr (fun e =>
    let e := { e with releaseSeq := some v.toNat }
    { e with nearFull := decide (384 ≤ e.mirUsed.length) })

/-! ### Reads -/

/-- Read-only registers of the EVR page. -/
def State.evrRo (s : State) (off : Nat) : Option Word :=
  let e := s.evr
  if off = R.EVR_STATUS then
    some (w32 (b2n (e.flushing.isSome) + 2 * b2n s.evrPf + 4 * b2n (e.lost != 0) + 8 * b2n e.post.isSome +
      16 * b2n (s.memSt.readOnly || (match e.unmirrored with | r :: _ => e.mirFull r.size | [] => e.mirFull 1072))))
  else if off = R.EVR_ORD_FILL then some (w32 e.ordFill)
  else if off = R.EVR_PRIV_FILL then some (w32 e.privFill)
  else if off = R.EVR_ORD_SEQ then some (w32 e.ordSeq)
  else if off = R.EVR_PRIV_SEQ then some (w32 e.privSeq)
  else if off = R.EVR_MIRROR_SEQ then some (w32 e.mirrorSeq)
  else if off = R.EVR_OPTIME then some (w32 s.optime)
  else if off = R.EVR_OPTIME + 4 then some (w32 (s.optime / 2 ^ 32))
  else if off = R.EVR_OP_HOURS then some (w32 (s.optime / 36000))
  else if off = R.EVR_PWR_CYCLES then some (w32 e.pwrCycles)
  else if off = R.EVR_DECK_BASE then some (w32 Config.deckBase)
  else if off = R.EVR_ORD_HEAD then some (w32 (match e.ordSegs with | g :: _ => g.seq % 3584 | [] => 0))
  else none

/-- The privileged area as the table window shows it (R352). -/
def State.evrTblWord (s : State) (a : Nat) : Option Word :=
  if 0x00F90000 ≤ a ∧ a < 0x00FA0000 then some (w32 (ofLE ((s.mramBytes (a - 0x00F90000) 4)))) else none

/-! ### The commands -/

/-- EVR_POST (R341). -/
def execEvrPost (v : Word) (s : State) : Host.Outcome State Fault Refusal := actReg State.onMain pEVR (fun s => s.evrPost v) s

/-- POST_DONE (R341). -/
def execPostDone (s : State) : Host.Outcome State Fault Refusal := act State.onMain State.postDone s

/-- HW_RECORD_SUBMIT (R342). -/
def execHwRecordSubmit (s : State) : Host.Outcome State Fault Refusal := act State.onMain State.hwSubmit s

/-- PRIV_RECORD_WRITE (R347). -/
def execPrivRecordWrite (s : State) : Host.Outcome State Fault Refusal :=
  act State.onMain (fun s => s.privWrite.pfStep3) s

/-- PRIV_LOSS_RECORD (R348). -/
def execPrivLossRecord (s : State) : Host.Outcome State Fault Refusal := act State.onMain State.privLossRec s

/-- PRIV_MIRROR (R348). -/
def execPrivMirror (s : State) : Host.Outcome State Fault Refusal := act State.onMain State.privMirror s

/-- FLUSH (R345). -/
def execFlush (s : State) : Host.Outcome State Fault Refusal := actReg State.onMain pEVR State.flushStart s

/-- FLUSH_DONE (R345). -/
def execFlushDone (s : State) : Host.Outcome State Fault Refusal := act State.onMain State.flushDone s

/-- EVR_PRIV_RELEASE (R348). -/
def execEvrPrivRelease (v : Word) (s : State) : Host.Outcome State Fault Refusal :=
  actReg State.onMain pEVR (fun s => s.privRelease v) s

end Sys2Proof.Machine
end

