-- ==== Sys2Proof/Machine/Image.lean ====
section
/-!
DEFINITION. The process image (R193 to R198): points, directory, staging of writes, and the local analog inputs that write
it (chapter 7).
-/
namespace Sys2Proof.Machine

/-! ### Points -/

/-- A point as committed. -/
def State.pt (s : State) (i : Nat) : Point := sget {} i s.img
def State.setPt (s : State) (i : Nat) (x : Point) : State := { s with img := sset {} i x s.img }

/-- A point as a unit reads it: invalid with failure where its word gives a poison response (R384). -/
def State.readPt (s : State) (i : Nat) : Point :=
  if s.spoilt (Config.pointAt i) then { s.pt i with value := (Config.poisonVal (Config.pointAt i)).toNat, qual := 65 } else s.pt i

/-- A point written: its word with fresh check bits (R386). -/
def State.writePt (s : State) (i : Nat) (x : Point) : State := (s.setPt i x).freshAt [Config.pointAt i] 8

/-- A point's directory entry; a TYPE_HASH of 0 marks it unused. -/
def State.dirAt (s : State) (i : Nat) : Nat × Nat := sget (0, 0) i s.dir
def State.setDir (s : State) (i : Nat) (x : Nat × Nat) : State := { s with dir := sset (0, 0) i x s.dir }

def State.updDup (s : State) (f : Dup → Dup) : State := { s with dup := f s.dup }

/-- DUP_CFG.EN as active on a running page. -/
def State.dupEn (s : State) : Bool := (s.hd 0x1D0).enable && bit (s.ac 0x1D0 R.DUP_CFG) 0

/-- Shared-point entry of a point (R359, R378). -/
def State.sharedIdx (s : State) (p : Nat) : Option Nat :=
  (List.range 32).find? (fun i => bit (s.tw (0x00FA1000 + i * 8)) 31 && fld (s.tw (0x00FA1000 + i * 8)) 0 20 == p)

/-- An ADC write: staged with the plane tick it is made in (R171, R195), or kept for the agreed close when the point is
shared in a pair (R359). -/
def State.stageAdc (s : State) (p : Nat) (x : Point) : State :=
  if s.dupEn && (s.sharedIdx p).isSome then
    s.updDup (fun d => { d with shared := (d.shared.filter (fun e => s.tick < e.1 + 8 && !(e.1 == s.tick && e.2.1 == p))) ++ [(s.tick, p, x)] })
  else s.updCyc (fun c => { c with adcStage := c.adcStage ++ [(s.tick, p, x)] })

/-! ### Converters (chapter 7) -/

/-- Page of converter c. -/
abbrev pADC (c : Nat) : Nat := 0x100 + c

def State.adc (s : State) (c : Nat) : Adc := sget {} c s.adcs
def State.setAdc (s : State) (c : Nat) (x : Adc) : State := { s with adcs := sset {} c x s.adcs }
def State.updAdc (s : State) (c : Nat) (f : Adc → Adc) : State := s.setAdc c (f (s.adc c))

/-- Configuration words of a slot as active: CFG, PI, LOW, HIGH. -/
def State.slotCfg (s : State) (c n : Nat) : List Word := (List.range 4).map (fun i => s.ac (pADC c) (R.ADC_SLOT_CFG + 16 * n + 4 * i))

/-- Fields of a slot's CFG word. -/
def sIn (w : Word) : Nat := fld w 0 4
def sCurrent (w : Word) : Bool := fld w 4 2 == 1
def sAvg (w : Word) : Nat := fld w 12 3

/-- Gain code of a conversion of a slot: 8 in current mode, fixed, or the slot's automatic gain (R165, R167). -/
def State.slotGain (s : State) (c n : Nat) (w : Word) : Nat :=
  if sCurrent w then 3 else if fld w 8 3 = 0 then (((s.adc c).slots[n]?).getD {}).gain else fld w 8 3 - 1

/-- Number of active slots. -/
def State.nSlots (s : State) (c : Nat) : Nat := fld (s.ac (pADC c) R.ADC_CFG) 0 5

/-- Input number AIN0 to AIN11 of an external position (R164). -/
def ainOf (c pos : Nat) : Option Nat :=
  if pos = 0 then some 0 else if c = 0 then (if pos ≤ 6 then some pos else none) else (if pos ≤ 5 then some (pos + 6) else none)

/-- The next conversion of the scan starts, or the scan is over. -/
def State.adcNext (s : State) (c : Nat) : State :=
  let x := s.adc c
  if x.urgWait then
    let w := s.ac (pADC c) (R.ADC_SLOT_CFG + 16 * fld (s.ac (pADC c) R.ADC_CFG) 12 4)
    s.setAdc c { x with urgWait := false, cur := some (true, s.ns, s.short, s.slotGain c (fld (s.ac (pADC c) R.ADC_CFG) 12 4) w) }
  else match x.scan with
    | none => s.setAdc c { x with cur := none }
    | some k =>
      if k.done = 0 && s.nSlots c ≤ k.slot then s.setAdc c { x with scan := none, cur := none }
      else
        let k := if k.done = 0 then
            let w := s.slotCfg c k.slot
            { k with cfg := w, stamp := s.short, gain := s.slotGain c k.slot ((w[0]?).getD 0), sum := 0, clip := false }
          else k
        s.setAdc c { x with scan := some k, cur := some (false, s.ns, s.short, k.gain) }

/-- Tick starts at the converters (R175, R180): START takes effect; an AIN0 result left without its pair serves alone. -/
def State.adcTick (s : State) : State :=
  let one (c : Nat) (s : State) : State :=
    let x := s.adc c
    let run := s.running (pADC c) && !s.unusable (pADC c)
    s.setAdc c { x with live := x.live || (run && !x.stopping), ain0 := none, scanTick := none }
  let s := one 0 (one 1 s)
  { s with plaus := { s.plaus with done := false, single := false } }

/-- ADC_SCAN_START (R169, R178): due SCAN_OFFSET after the tick start, once in a tick; `temp` is the die temperature in
0.01 °C as the module measures it. -/
def State.adcScan (s : State) (c : Nat) (temp : Int) : State :=
  let x := s.adc c
  let off := fld (s.ac (pADC c) R.ADC_CFG) 16 8
  if !(x.live && x.scan.isNone && x.scanTick != some s.tick && tickStartNs s.tick + off * 1000 ≤ s.ns && c < 2) then s
  else
    let cal := (s.rg (pADC c) R.ADC_CAL_TEMP).toInt
    let hot := x.calValid && decide (1500 < (temp - cal).natAbs) && !x.drift
    let s := if hot then (s.setAdc c { x with drift := true }).irq (pADC c) 9 else s
    let s := s.updAdc c (fun x => { x with scan := some { slot := 0 }, scanTick := some s.tick })
    if (s.adc c).cur.isNone then s.adcNext c else s

/-- A normalised raw value after calibration (R177). -/
def State.adcCal (s : State) (c g : Nat) (v : Int) : Int :=
  let off := (s.rg (pADC c) (R.ADC_CAL_OFF + 4 * g)).toInt
  let gain : Int := (s.rg (pADC c) (R.ADC_CAL_GAIN + 4 * g)).toInt
  max (-2097152) (min 2097152 (roundDiv ((v - off) * gain) (2 ^ 30)))

/-- A result reaches ADC_DATA (R174). -/
def State.adcData (s : State) (c slot inp g : Nat) (urgent : Bool) (v : Int) (stamp : Nat) : State :=
  let x := s.adc c
  let unread := bit x.info 31
  let info := w32 (2 ^ 31 + b2n unread * 2 ^ 30 + b2n urgent * 2 ^ 29 + slot * 2 ^ 16 + inp * 2 ^ 8 + g)
  let s := (s.setAdc c { x with data := v, info := info, stamp := stamp }).irq (pADC c) 5
  if unread then (s.bump (pADC c) R.ADC_CNT_OVERRUN).irq (pADC c) 4 else s

/-- Automatic gain after a slot's result (R167). -/
def State.adcAuto (s : State) (c n : Nat) (w : Word) (v : Int) : State :=
  if sCurrent w || fld w 8 3 != 0 then s
  else
    let x := s.adc c
    let t := (x.slots[n]?).getD {}
    let fs := 2097152 / 2 ^ t.gain
    let put (t : AdcSlot) (s : State) : State := s.setAdc c { x with slots := x.slots.set n t }
    if 97 * fs ≤ v.natAbs * 100 then
      if 0 < t.gain then (put { t with gain := t.gain - 1, up := 0 } s).bump (pADC c) R.ADC_CNT_RANGE_SW
      else put { t with up := 0 } s
    else if v.natAbs * 1000 < 225 * fs then
      if fld w 20 4 ≤ t.up + 1 && t.gain < 4 then (put { t with gain := t.gain + 1, up := 0 } s).bump (pADC c) R.ADC_CNT_RANGE_SW
      else put { t with up := min 15 (t.up + 1) } s
    else put { t with up := 0 } s

/-- The window comparator of a slot (R179). -/
def State.adcWin (s : State) (c n : Nat) (cfg : List Word) (v : Int) : State :=
  let w := (cfg[0]?).getD 0
  if !bit w 17 then s
  else
    let x := s.adc c
    let t := (x.slots[n]?).getD {}
    let out := decide (v < ((cfg[2]?).getD 0).toInt ∨ ((cfg[3]?).getD 0).toInt < v)
    let ev := (out && !t.outside) || (!out && t.outside && bit w 18)
    let s := s.setAdc c { x with slots := x.slots.set n { t with outside := out } }
    if ev then
      ((s.setRg (pADC c) R.ADC_WIN_EVT (setBit (s.rg (pADC c) R.ADC_WIN_EVT) n true)).irq (pADC c) 6).bump (pADC c) R.ADC_CNT_WIN_EVT
    else s

/-- Worst validity of two (R172). -/
def worstVal (a b : Nat) : Nat := if a = 1 ∨ b = 1 then 1 else if a = 3 ∨ b = 3 then 3 else 0

/-- The AIN0 pair, or a single result, written to PLAUS_PI (R175, R176); stamp and details are those of the later result
and of both (log 41). -/
def State.plausWrite (s : State) (v : Int) (q stamp : Nat) : State :=
  s.stageAdc (fld (s.ac (pADC 0) R.ADC_PLAUS_CFG) 0 20) { value := ofS 64 v, qual := q, stamp := stamp }

def State.plausPair (s : State) (a b : Int × Nat × Nat) (later : Nat) : State :=
  let cfg := s.ac (pADC 0) R.ADC_PLAUS_CFG
  let d := a.1 - b.1
  let mism := decide (fld (s.ac (pADC 0) R.ADC_PLAUS_TOL) 0 20 < d.natAbs)
  let n := fld cfg 24 4
  let p := s.plaus
  let bad := if mism then min 15 (p.bad + 1) else 0
  let good := if mism then 0 else min 15 (p.good + 1)
  let set := mism && !p.plaus && n ≤ bad
  let now := if set then true else if p.plaus && !mism && n ≤ good then false else p.plaus
  let s := { s with plaus := { p with done := true, bad := bad, good := good, plaus := now } }
  let s := s.setRg (pADC 0) R.ADC_PLAUS_DIFF (wS d)
  let s := if set then (s.irq (pADC 0) 7).bump (pADC 0) R.ADC_CNT_PLAUS else s
  let val := worstVal (worstVal (a.2.1 % 4) (b.2.1 % 4)) (if now then 1 else if mism then 3 else 0)
  let det := ((a.2.1 ||| b.2.1) &&& 0xFFFFFFFC) ||| (if mism then 2 ^ 8 else 0)
  s.plausWrite (roundDiv (a.1 + b.1) 2) (det ||| val) later

/-- A converter has still to convert AIN0 in this tick: a slot it has not finished holds it. -/
def State.ain0Due (s : State) (c : Nat) : Bool :=
  let x := s.adc c
  let holds (from_ : Nat) : Bool := (List.range (min 16 (s.nSlots c))).any (fun n =>
    decide (from_ ≤ n) && sIn (s.ac (pADC c) (R.ADC_SLOT_CFG + 16 * n)) == 0)
  x.live && (match x.scan with
    | none => x.scanTick != some s.tick && holds 0
    | some k => (match k.cfg[0]? with | some w => sIn w == 0 || holds (k.slot + 1) | none => holds k.slot))

/-- The result of one converter alone (R176). -/
def State.plausSingle (s : State) (r : Int × Nat × Nat) : State :=
  { s with plaus := { s.plaus with done := true, single := true } }.plausWrite r.1 ((r.2.1 &&& 0xFFFFFFFC) ||| worstVal (r.2.1 % 4) 3) r.2.2

/-- Converter c stops, or holds AIN0 in no slot it has still to convert: a result of the other that waits for it serves alone (R176). -/
def State.plausAlone (s : State) (c : Nat) : State :=
  if !bit (s.ac (pADC 0) R.ADC_PLAUS_CFG) 31 || s.plaus.done || (s.adc c).ain0.isSome || s.ain0Due c then s
  else match (s.adc (1 - c)).ain0 with
    | some r => s.plausSingle r
    | none => s

/-- An AIN0 result with plausibility on; the first result of a converter in the tick counts. -/
def State.plausIn (s : State) (c : Nat) (v : Int) (q stamp : Nat) : State :=
  if !bit (s.ac (pADC 0) R.ADC_PLAUS_CFG) 31 || s.plaus.done || (s.adc c).ain0.isSome then s
  else
    let s := s.updAdc c (fun x => { x with ain0 := some (v, q, stamp) })
    match (s.adc 0).ain0, (s.adc 1).ain0 with
    | some a, some b => s.plausPair a b stamp
    | _, _ => s.plausAlone (1 - c)

/-- Quality of a result (R172). -/
def State.adcQual (s : State) (c : Nat) (w : Word) (v : Int) (clip : Bool) : Nat :=
  let shunt := sCurrent w && (match ainOf c (sIn w) with | some a => s.shunts.contains a | none => false)
  let band := sCurrent w && decide (v * 4000 < 36 * 2 ^ 22 ∨ 21 * 2 ^ 22 < v * 400)
  let val := worstVal (if shunt || band then 1 else 0) (if clip then 3 else 0)
  val + b2n clip * 4 + b2n band * 8 + b2n shunt * 64 + b2n (s.adc c).drift * 512

/-- A slot's result is reported (R169 to R179). -/
def State.adcResult (s : State) (c : Nat) (k : AdcScan) : State :=
  let w := (k.cfg[0]?).getD 0
  let v := s.adcCal c k.gain (roundDiv k.sum (2 ^ sAvg w))
  let q := s.adcQual c w v k.clip
  let x := s.adc c
  let s := s.setAdc c { x with slots := x.slots.set k.slot { (x.slots[k.slot]?).getD {} with last := v, lastStamp := k.stamp, lastClip := k.clip } }
  let s := if bit w 15 then s.stageAdc (fld ((k.cfg[1]?).getD 0) 0 20) { value := ofS 64 v, qual := q, stamp := k.stamp } else s
  let s := if bit w 16 then s.adcData c k.slot (sIn w) k.gain false v k.stamp else s
  let s := (s.adcWin c k.slot k.cfg v).adcAuto c k.slot w v
  if sIn w = 0 then s.plausIn c v q k.stamp else s

/-- STOP takes effect (R180): every PI_EN slot is written once more, invalid and oldData beside what R172 sets of its last value. -/
def State.adcHalt (s : State) (c : Nat) : State :=
  let x := s.adc c
  let s := (s.setAdc c { x with live := false, stopping := false, scan := none, cur := none, urgWait := false }).stopEnd (pADC c)
  let s := s.plausAlone c
  iter (min 16 (s.nSlots c)) (fun n s =>
    let w := s.ac (pADC c) (R.ADC_SLOT_CFG + 16 * n)
    if bit w 15 then
      let t := (x.slots[n]?).getD {}
      s.stageAdc (fld (s.ac (pADC c) (R.ADC_SLOT_PI + 16 * n)) 0 20)
        { value := ofS 64 t.last, qual := (s.adcQual c w t.last t.lastClip &&& 0xFFFFFFFC) ||| 0x81, stamp := t.lastStamp }
    else s) s

/-- ADC_CONVERSION_DONE (R166 to R173): a conversion takes 1 µs; `raw` is its 18-bit code. -/
def State.adcDone (s : State) (c : Nat) (raw : Int) : State :=
  let x := s.adc c
  match x.cur with
  | none => s
  | some (urgent, start, stamp, g) =>
    if s.ns < start + 1000 then s
    else
      let raw := max (-131072) (min 131071 raw)
      let clip := raw == 131071 || raw == -131072
      let norm := raw * 16 / ((2 ^ g : Nat) : Int)
      let s := (s.setAdc c { x with cur := none }).bump (pADC c) R.ADC_CNT_CONV
      let s := if clip then s.bump (pADC c) R.ADC_CNT_CLIP else s
      let s :=
        if urgent then
          let n := fld (s.ac (pADC c) R.ADC_CFG) 12 4
          (s.bump (pADC c) R.ADC_CNT_URGENT).adcData c n (sIn (s.ac (pADC c) (R.ADC_SLOT_CFG + 16 * n))) g true
            (s.adcCal c g norm) stamp
        else match x.scan with
          | none => s
          | some k =>
            let k := { k with done := k.done + 1, sum := k.sum + norm, clip := k.clip || clip }
            if 2 ^ sAvg ((k.cfg[0]?).getD 0) ≤ k.done then
              (s.updAdc c (fun x => { x with scan := some { slot := k.slot + 1 } })).adcResult c k
            else s.updAdc c (fun x => { x with scan := some k })
      if x.stopping then (if (s.hd (pADC c)).commitPending then s.commitTake (pADC c) else s).adcHalt c else (s.adcNext c).plausAlone c

/-- An urgent request (R173). -/
def State.adcUrgent (s : State) (c off : Nat) : State :=
  if !s.running (pADC c) then s.refuse (pADC c) off 0x41
  else
    let x := s.adc c
    if x.urgWait then s.bump (pADC c) R.ADC_CNT_URG_MERGED
    else
      let s := s.setAdc c { x with urgWait := true }
      if x.cur.isNone then s.adcNext c else s

/-- A captured edge of a capture input requests urgent conversions (R173). -/
def State.adcEdge (s : State) (n : Nat) : State :=
  iter 2 (fun c s =>
    let w := s.ac (pADC c) R.ADC_CFG
    if bit w 8 && fld w 10 2 = n then s.adcUrgent c R.ADC_CMD else s) s

/-- ADC_CMD.CAL (R177); a calibration in progress starts again. -/
def State.adcCalStart (s : State) (c : Nat) : State :=
  if s.running (pADC c) then s.refuse (pADC c) R.ADC_CMD Err.notStopped
  else (s.updAdc c (fun x => { x with calBusy := true, calNs := s.clkNs })).updHd (pADC c) (fun h => { h with busy := true })

/-- CAL_DONE (R177): offsets and gains per gain code and the die temperature as measured; due after 3.2 ms. -/
def State.adcCalDone (s : State) (c : Nat) (offs gains : List Int) (temp : Int) : State :=
  let x := s.adc c
  if !x.calBusy || s.clkNs < x.calNs + 3200000 then s
  else
    let s := iter 5 (fun g s =>
      (s.setRg (pADC c) (R.ADC_CAL_OFF + 4 * g) (wS ((offs[g]?).getD 0))).setRg (pADC c) (R.ADC_CAL_GAIN + 4 * g)
        (wS ((gains[g]?).getD (2 ^ 30)))) s
    let s := s.setRg (pADC c) R.ADC_CAL_TEMP (wS temp)
    let s := s.updAdc c (fun x => { x with calBusy := false, calValid := true, drift := false })
    (s.updHd (pADC c) (fun h => { h with busy := false })).irq (pADC c) 8

/-- Converters an input belongs to. -/
def adcsOf (a : Nat) : List Nat := if a = 0 then [0, 1] else if a ≤ 6 then [0] else if a ≤ 11 then [1] else []

/-- A slot of a converter reads an input in current mode. -/
def State.inCurrent (s : State) (c a : Nat) : Bool :=
  (List.range 16).any (fun n =>
    let w := s.ac (pADC c) (R.ADC_SLOT_CFG + 16 * n)
    sCurrent w && ainOf c (sIn w) == some a)

/-- SHUNT_TRIP (R168): the shunt of input AINa opens. -/
def State.shuntTrip (s : State) (a : Nat) : State :=
  if s.shunts.contains a || !(adcsOf a).any (fun c => s.inCurrent c a) then s
  else
    let s := { s with shunts := (s.shunts ++ [a]).mergeSort }
    (adcsOf a).foldl (fun s c => if s.inCurrent c a then (s.irq (pADC c) 10).bump (pADC c) R.ADC_CNT_SHUNT_TRIP else s) s

/-- ADC_CMD.SHUNT_CLOSE (R168): the open shunts of the converter's inputs reclose. -/
def State.shuntClose (s : State) (c : Nat) : State :=
  { s with shunts := s.shunts.filter (fun a => !(adcsOf a).contains c) }

/-- ADC_DATA read (R174): the value is returned, VALID and OVR clear after it, INFO and STAMP are latched. -/
def State.adcRead (s : State) (c : Nat) : State :=
  let x := s.adc c
  let s := s.setAdc c { x with lat := some (x.info, x.stamp), info := setFld x.info 30 2 0 }
  { s with rdata := wS x.data }

/-- The converter's own checks at COMMIT (R41, R170, R175, R179 and the field tables). -/
def State.adcCheck (s : State) (c : Nat) : Option (Nat × Nat) :=
  let p := pADC c
  let n := fld (s.rg p R.ADC_CFG) 0 5
  let w (i : Nat) : Word := s.rg p (R.ADC_SLOT_CFG + 16 * i)
  let slotBad (i : Nat) : Option (Nat × Nat) :=
    let x := w i
    let off := R.ADC_SLOT_CFG + 16 * i
    if fld x 8 3 = 0 && !sCurrent x && fld x 20 4 = 0 then some (off, Err.zeroField)
    else if 4 < sAvg x ∨ 5 < fld x 8 3 ∨ 1 < fld x 4 2 ∨ (sCurrent x ∧ 6 < sIn x) then some (off, Err.range)
    else if bit x 17 && decide ((s.rg p (R.ADC_SLOT_HIGH + 16 * i)).toInt < (s.rg p (R.ADC_SLOT_LOW + 16 * i)).toInt) then
      some (R.ADC_SLOT_LOW + 16 * i, Err.range)
    else none
  let sum := ((List.range (min 16 n)).map (fun i => 2 ^ sAvg (w i))).sum
  let cfg := s.rg p R.ADC_PLAUS_CFG
  match (List.range 16).findSome? slotBad with
  | some e => some e
  | none =>
    if 200 < fld (s.rg p R.ADC_CFG) 16 8 + sum + 1 then some (R.ADC_CFG, Err.range)
    else if c = 0 && bit cfg 31 && fld cfg 24 4 = 0 then some (R.ADC_PLAUS_CFG, Err.zeroField)
    else if c = 0 && bit cfg 31 && fld (s.rg p R.ADC_PLAUS_TOL) 0 20 = 0 then some (R.ADC_PLAUS_TOL, Err.zeroField)
    else none

/-- START (R177, R179): the code of a refusal, or the comparators inside. -/
def State.adcStart (s : State) (c : Nat) : Nat ⊕ State :=
  if !(s.adc c).calValid then .inl 0x40
  else .inr (s.updAdc c (fun x => { x with slots := x.slots.map (fun t => { t with outside := false }), stopping := false }))

/-- STOP (R180): at the end of the conversion in progress. -/
def State.adcStop (s : State) (c : Nat) : State :=
  if (s.adc c).cur.isNone then (if (s.adc c).live then s.adcHalt c else s)
  else s.updAdc c (fun x => { x with stopping := true })

/-- What a COMMIT that becomes active does to the slot or the urgent conversion just begun (R173, R180). -/
def State.adcApplied (s : State) (c : Nat) : State :=
  let x := s.adc c
  let s := match x.cur, x.scan with
    | some (true, t, _, _), _ => if t = s.ns then (s.setAdc c { x with urgWait := true }).adcNext c else s
    | some (false, t, _, _), some k => if t = s.ns && k.done = 0 then (s.setAdc c { x with scan := some { slot := k.slot } }).adcNext c else s
    | _, _ => s
  s.plausAlone c

/-- SOFT_RESET beyond the registers (R38, R177): the factors are kept. -/
def State.adcSoft (s : State) (c : Nat) : State :=
  let x := s.adc c
  let s := if x.live then s.adcHalt c else s
  s.setAdc c { calValid := x.calValid, drift := x.drift }

/-- Read-only registers of the ADC pages. -/
def State.adcRo (s : State) (c off : Nat) : Option Word :=
  let x := s.adc c
  if off = R.ADC_STATUS then
    some (w32 (b2n x.calValid + 2 * b2n x.calBusy + 4 * b2n x.drift + 8 * b2n (c == 0 && s.plaus.plaus) +
      16 * b2n (s.shunts.any (fun a => (adcsOf a).contains c)) + 32 * b2n (c == 0 && s.plaus.single)))
  else if off = R.ADC_DATA_INFO then
    -- VALID and OVR show a waiting result beside what the last read latched (log 40)
    some (match x.lat with | some l => l.1 ||| (x.info &&& 0xC0000000) | none => x.info)
  else if off = R.ADC_DATA_STAMP then some (w32 (match x.lat with | some l => l.2 | none => x.stamp))
  else if off = R.ADC_GAIN_ACT ∨ off = R.ADC_GAIN_ACT + 4 then
    let b := (off - R.ADC_GAIN_ACT) * 2
    some (w32 ((List.range 8).foldl (fun a i =>
      a + s.slotGain c (b + i) (s.ac (pADC c) (R.ADC_SLOT_CFG + 16 * (b + i))) * 16 ^ i) 0))
  else if off = R.ADC_WIN_OUT then
    some (w32 (x.slots.zipIdx.foldl (fun a t => a + b2n t.1.outside * 2 ^ t.2) 0))
  else none

/-! ### The commands -/

/-- ADC_SCAN_START (R169) of converter `c` with the die temperature. -/
def execAdcScanStart (c : Nat) (temp : Int) (s : State) : Host.Outcome State Fault Refusal :=
  act State.onMain (fun s => s.adcScan c temp) s

/-- ADC_CONVERSION_DONE (R169) with the raw code. -/
def execAdcConversionDone (c : Nat) (raw : Int) (s : State) : Host.Outcome State Fault Refusal :=
  act State.onMain (fun s => if c < 2 then s.adcDone c raw else s) s

/-- SHUNT_TRIP (R168) at input AINa. -/
def execShuntTrip (a : Nat) (s : State) : Host.Outcome State Fault Refusal := act State.onMain (fun s => s.shuntTrip a) s

/-- SHUNT_CLOSE (R168). -/
def execShuntClose (c : Nat) (s : State) : Host.Outcome State Fault Refusal :=
  actReg State.onMain (pADC c) (fun s => if c < 2 then s.shuntClose c else s) s

/-- URGENT (R173). -/
def execUrgent (c : Nat) (s : State) : Host.Outcome State Fault Refusal :=
  actReg State.onMain (pADC c) (fun s => if c < 2 then s.adcUrgent c R.ADC_CMD else s) s

/-- CAL (R177). -/
def execCal (c : Nat) (s : State) : Host.Outcome State Fault Refusal :=
  actReg State.onMain (pADC c) (fun s => if c < 2 then s.adcCalStart c else s) s

/-- CAL_DONE (R177). -/
def execCalDone (c : Nat) (offs gains : List Int) (temp : Int) (s : State) : Host.Outcome State Fault Refusal :=
  act State.onMain (fun s => if c < 2 then s.adcCalDone c offs gains temp else s) s

/-- ADC_DATA_READ (R174). -/
def execAdcDataRead (c : Nat) (s : State) : Host.Outcome State Fault Refusal :=
  actReg State.onMain (pADC c) (fun s => if c < 2 then s.adcRead c else s) s

end Sys2Proof.Machine
end

