-- ==== Sys2Proof/Machine/Cyc.lean ====
section
/-!
DEFINITION. The cycle executor (chapter 8): cycles, windows, activations, the kerf's image commit, forcing, starting and
stopping instances, point access by the PF.
-/
namespace Sys2Proof.Machine

/-- Period of a class in ticks (R187); TC7 is never due. -/
def period (c : Nat) : Nat :=
  match c with | 0 => 1 | 1 => 2 | 2 => 4 | 3 => 16 | 4 => 96 | 5 => 480 | _ => 4800

def State.clsEn (s : State) (i c : Nat) : Bool := bit (s.iw i 3) c
def State.clsOff (s : State) (i c : Nat) : Nat := fld (s.iw i (8 + c)) 0 13

/-- Class c of an instance is due in cycle j. -/
def State.due (s : State) (i c j : Nat) : Bool :=
  c < 7 && s.clsEn i c && (j % 4800 + 4800 - s.clsOff i c) % period c == 0

/-- Due activations of class c in the cycles a to b - 1. -/
def State.dueIn (s : State) (i c a b : Nat) : Nat :=
  if c < 7 && s.clsEn i c then
    let P := period c
    let o := s.clsOff i c % P
    let upTo (n : Nat) : Nat := if n ≤ o then 0 else (n - 1 - o) / P + 1
    upTo b - upTo a
  else 0

/-- A started tick waits for its cycle. -/
def State.cycTick (s : State) : State :=
  if s.cycOn then s.updCyc (fun c => { c with ticks := c.ticks ++ [s.tick] }) else s

/-- Both tokens of a cycle have arrived (R184), and a joining module's cycle R has the partner's state (R373). -/
def State.tokens (s : State) (j : Nat) : Bool :=
  s.isFinal j && s.fltDone j && !(s.dup.state = 3 && s.dup.resyncTick = some j && !(s.dup.adoptedPubs && s.dup.adoptedMir))

/-! ### Banks in instance memory (R204) -/

def State.memWord (s : State) (a : Nat) : Nat := ofLE (s.bytes a 4)

/-- The bank that begins at an address (log 51): words of the header are the entries of TC0 to TC7 and of the error task, then the
data area, the symbol table with its length and the point list with its length, each as an offset from the header. -/
def State.bank (s : State) (b : Nat) : Bank :=
  let w (n : Nat) : Nat := s.memWord (b + 4 * n)
  let sym (a : Nat) : Sym :=
    {
      id := s.memWord a, hash := s.memWord (a + 4), off := s.memWord (a + 8), kind := s.memWord (a + 12) / 2 ^ 28,
      size := s.memWord (a + 12) % 2 ^ 28 }
  {
    tasks := (List.range 8).map w, errTask := w 8, base := b + w 9,
    syms := (List.range (w 11)).map (fun n => sym (b + w 10 + 16 * n)),
    points := (List.range (w 13)).map (fun n =>
      let a := b + w 12 + 12 * n
      (s.memWord a % 2 ^ 20, s.memWord (a + 4), s.memWord (a + 8))) }

/-- An instance's BANK0 or BANK1. -/
def State.bankOf (s : State) (i : Nat) (one : Bool) : Bank := s.bank (s.iw i (4 + b2n one)).toNat

/-- Directory entries from a point list. -/
def State.setDirs (s : State) (ps : List (Nat × Nat × Nat)) : State := ps.foldl (fun s p => s.setDir p.1 (p.2.1, p.2.2)) s

/-! ### The view (R184, R194, R199) -/

/-- A point as an activation of cycle j sees it: as it stood before the kerf of cycle j and those after it (R194). -/
def State.viewPt (s : State) (j p : Nat) : Point :=
  match s.cyc.past.find? (fun e => j ≤ e.1 && e.2.1 == p) with
  | some e => e.2.2
  | none => s.readPt p

/-- A watched item is invalid: channel, chain or point. -/
def State.itemBad (s : State) (j kind i : Nat) : Bool :=
  match kind with
  | 0 => valRank (s.grid j i).2 == 2
  | 1 => let q := (s.tw (outAddr j i + 8)).toNat
         s.tw (outAddr j i + 12) != tagOf j || !q.testBit 24 || valRank q == 2
  | _ => valRank (s.viewPt j i).qual == 2

/-- Watched items of an instance. -/
def State.watched (s : State) (i : Nat) : List (Nat × Nat) :=
  (List.range 2048).flatMap (fun n =>
    let a := 0x00D58000 + n * 16
    let w := s.tw a
    if bit w 31 && fld w 24 6 == i then
      let lo := (s.tw (a + 4)).toNat
      (List.range ((s.tw (a + 8)).toNat + 1 - lo)).map (fun k => (fld w 16 2, lo + k))
    else [])

/-- Words the view of cycle j reads: watched channels and points. -/
def State.viewReads (s : State) (j : Nat) : List Nat :=
  s.usedInsts.flatMap (fun i => (s.watched i).filterMap (fun w =>
    match w.1 with
    | 0 => some (Config.planeAt (j % 32) w.2)
    | 1 => none
    | _ => some (Config.pointAt w.2)))

/-- The view of cycle j is fixed: watch ranges give INPUT_INVALID and INPUT_RECOVERED; a damaged word among them is read as R384 says. -/
def State.fixView (s : State) (j : Nat) : State :=
  let r := s.readAt (s.viewReads j) 1 0
  let s := s.usedInsts.foldl (fun s i =>
    let x := s.inst i
    let bad := (s.watched i).filter (fun w => s.itemBad j w.1 w.2)
    let fresh := bad.any (fun w => !x.invalid.contains w)
    let rec_ := bad.isEmpty && !x.invalid.isEmpty
    s.setInst i { x with
      causes := x.causes ||| (if fresh then 1 else 0) ||| (if rec_ then 2 else 0), invalid := bad,
      errFirst := bad.head?, errCount := bad.length }) r
  s.updCyc (fun c => { c with
    viewed := true, waiting := false, winNs := (if c.waiting then s.ns else c.boundNs) + 2000 })

/-! ### Windows and activations (R189, R190) -/

/-- A task of class c is running or waits to: a new activation of it is not started (R190). -/
def Inst.busy (x : Inst) (c : Nat) : Bool := x.acts.any (fun a => a.cls == c)

/-- Activations a window opens with: the error task where it is called, overruns, the due tasks, TC7 for the slack (R189). A
faulted instance has its error task alone. -/
def State.winActs (s : State) (i : Nat) (x : Inst) (call : Bool) : List Act :=
  let j := s.cycNow
  let new (c : Nat) : List Act := if x.busy c then [] else [{ cls := c, cyc := j }]
  (if call then new 8 else []) ++ x.acts ++
    (if x.state = 2 then []
     else ((List.range 7).filter (fun c => s.due i c j)).flatMap new ++ (if s.clsEn i 7 then new 7 else []))

/-- WINDOW_START: the error task, the continuation of overruns, the due tasks (R189 to R191, R199). An error task still running is not
called again: its causes wait, and the activation counts as skipped (R190). -/
def State.winOpen (s : State) (i : Nat) : State :=
  let x := s.inst i
  let j := s.cycNow
  let runs := x.state = 1 || (x.state = 2 && (x.errOnce || !x.acts.isEmpty))
  if !(s.inWindows && iUsed (s.iw i 0) && runs && x.window = 0 && !x.heldCyc && s.winStart i ≤ s.ns &&
      !s.unusable (pCYC (iPair (s.iw i 0))) && i < 64) then s
  else
    let want := x.causes != 0 && (x.state = 1 || x.errOnce)
    let call := want && !x.busy 8
    let late := (if x.state = 1 then ((List.range 7).filter (fun c => s.due i c j && x.busy c)).length else 0) + b2n (want && x.busy 8)
    let y := { x with
      window := 1, errOnce := x.errOnce && x.busy 8, acts := s.winActs i x call, cntSkip := min 0xFFFFFFFF (x.cntSkip + late) }
    let s := s.setInst i (if call then { y with errCause := x.causes, errTag := tagOf j, causes := 0 } else y)
    let s := if call then s.bump (pCYC 0) R.CYC_CNT_ERR_CALLS else s
    let p := iPair (s.iw i 0)
    if p = 0 then s else s.bumpBy (pCYC p) R.CYCP_CNT_SKIPPED_ACT late

/-- WINDOW_END: a task still running is suspended and counted (R189). -/
def State.winClose (s : State) (i : Nat) : State :=
  let x := s.inst i
  if !(s.inWindows && x.window = 1 && s.winStart i + s.iBudget i ≤ s.ns) then s
  else
    let s := s.setInst i { x with window := 2 }
    let p := iPair (s.iw i 0)
    if x.acts.any (fun a => !a.done && a.cls != 7) then
      let s := if p = 0 then s else s.bump (pCYC p) R.CYCP_CNT_BUDGET_EXCEED
      s.irq (pCYC p) 12
    else s

/-- ACTIVATION_END: an activation finishes, or TC7 yields. -/
def State.actEnd (s : State) (i cls : Nat) : State :=
  if s.runsNow i cls then
    s.updInst i (fun x => { x with acts := x.acts.map (fun a => if a.cls == cls then { a with done := true } else a) })
  else s

/-- An error cause arises for an instance. -/
def State.cause (s : State) (i b : Nat) : State := s.updInst i (fun x => { x with causes := x.causes ||| 2 ^ b })

/-- A point lies in a write range that names an instance as OWNER (R196). -/
def State.inRange (s : State) (own : Option Nat) (p : Nat) : Bool :=
  (List.range 1024).any (fun n =>
    let a := 0x00D54000 + n * 16
    let w := s.tw a
    bit w 31 && (own.isNone || own == some (fld w 24 6)) && (s.tw (a + 4)).toNat ≤ p && p ≤ (s.tw (a + 8)).toNat)

/-- Whether an instance may stage a write of a point: outside its ranges or beyond its quota it is discarded, counted and a
cause raised (R196). -/
def State.mayWrite (s : State) (i p : Nat) : Bool × State :=
  if !s.inRange (some i) p then (false, (s.bump (pCYC 0) R.CYC_CNT_WR_DENIED).cause i 4)
  else if s.iQuota i ≤ (s.inst i).wrote then
    (false, ((s.bump (pCYC 0) R.CYC_CNT_QUOTA).irq (pCYC 0) 11).cause i 3)
  else (true, s.updInst i (fun x => { x with wrote := x.wrote + 1 }))

/-- POINT_WRITE (R196, R197): value and quality, with the instance's own stamp for KEEP_STAMP. -/
def State.pointWrite (s : State) (i cls p value qual : Nat) (keep : Option Nat) : State :=
  if !(s.runsNow i cls && p < 2 ^ 20) then s
  else
    let r := s.mayWrite i p
    if !r.1 then r.2
    else r.2.updInst i (fun x => { x with
      acts := x.acts.map (fun a =>
        if a.cls == cls && !a.done then
          { a with writes := a.writes ++
              [(p, { value := value % 2 ^ 64, qual := qual % 2 ^ 32, stamp := keep.getD (shortOf (tickStartNs a.cyc)) % 2 ^ 32 })] }
        else a) })

/-! ### Forcing (R200 to R203) -/

def forceAddr (e : Nat) : Nat := 0x00D40000 + e * 64

/-- The active force on a point. -/
def State.forceOf (s : State) (p : Nat) : Option (Nat × Force) := s.cyc.forces.find? (fun f => f.2.point == p)

/-- A FORCE or CONFIG record of the executor: tick tag, point, entry or instance (log 45). -/
def State.cycRec (s : State) (cls typ a b : Nat) : State :=
  s.deck (pCYC 0) cls typ (tagBody (tagOf s.cycNow) ++ bytesLE 4 a ++ bytesLE 4 b)

/-- The previous content of a point is kept for views that still read it (R194). -/
def State.keepPast (s : State) (p : Nat) : State :=
  s.updCyc (fun c => { c with past := c.past ++ [(s.cycNow, p, s.pt p)] })

/-- A forced point takes the force's value in the kerf of cycle j. -/
def State.forceApply (s : State) (e : Nat) (f : Force) : State :=
  let j := s.cycNow
  let s := (s.keepPast f.point).writePt f.point
    { value := f.value, qual := f.qual ||| 2 ^ 12, stamp := shortOf (tickStartNs j) }
  (s.updCyc (fun c => { c with forces := sput e f c.forces })).setTw (forceAddr e + 40) (tagOf j)

/-- A removed force: the point takes the latest underlying write, or its value from before. -/
def State.forceLift (s : State) (e : Nat) (f : Force) : State :=
  let s := (s.keepPast f.point).writePt f.point (f.under.getD f.before)
  s.updCyc (fun c => { c with forces := sdel e c.forces })

/-- One changed force entry, in the first step of a kerf. -/
def State.forceStep (s : State) (e : Nat) : State :=
  let a := forceAddr e
  let w := s.tw a
  let new : Force :=
    {
      point := fld w 0 20, id := (s.tw (a + 4)).toNat, hash := (s.tw (a + 8)).toNat, qual := (s.tw (a + 12)).toNat,
      value := (s.tw (a + 16)).toNat + (s.tw (a + 20)).toNat * 2 ^ 32 }
  let s := match s.cyc.forces.find? (fun f => f.1 == e), bit w 31 with
    | none, false => s
    | none, true => (s.forceApply e { new with before := s.pt new.point }).cycRec 4 1 new.point e
    | some f, false => (s.forceLift e f.2).cycRec 4 3 f.2.point e
    | some f, true =>
      if f.2.point = new.point then
        (s.forceApply e { new with under := f.2.under, before := f.2.before }).cycRec 4 2 new.point e
      else
        let s := (s.forceLift e f.2).cycRec 4 3 f.2.point e
        (s.forceApply e { new with before := s.pt new.point }).cycRec 4 1 new.point e
  s.irq (pCYC 0) 7

/-- Force changes (R200), the first step of a kerf. -/
def State.kerfForces (s : State) : State :=
  let d := s.cyc.forceDirty
  d.foldl State.forceStep (s.updCyc (fun c => { c with forceDirty := [] }))

/-- Checks of a force entry's write (R200): code of the refusal. -/
def State.forceCheck (s : State) (e : Nat) (ws : List Word) : Option Nat :=
  let w := (ws[0]?).getD 0
  let p := fld w 0 20
  if !bit w 31 then none
  else if (List.range 1024).any (fun o => o != e && bit (s.tw (forceAddr o)) 31 && fld (s.tw (forceAddr o)) 0 20 == p) then
    some 0x41
  else if (s.dirAt p).2 = 0 then some Err.range
  else none

/-- A force entry's write: its identity is recorded, and it takes effect in the next kerf. -/
def State.forceWritten (s : State) (e : Nat) : State :=
  let d := s.dirAt (fld (s.tw (forceAddr e)) 0 20)
  let s := if bit (s.tw (forceAddr e)) 31 then s.setTws (forceAddr e + 4) [w32 d.1, w32 d.2] else s
  s.updCyc (fun c => { c with forceDirty := (c.forceDirty.filter (· != e)) ++ [e] })

/-! ### Image commit (R195) -/

/-- A committed write: to the point, or to what lies under its force (R201); the image ends at point 2^20 - 1. -/
def State.commitPt (s : State) (p : Nat) (x : Point) : State :=
  if 2 ^ 20 ≤ p then s else
  match s.forceOf p with
  | some (e, f) => s.updCyc (fun c => { c with forces := sput e { f with under := some x } c.forces })
  | none => (s.keepPast p).writePt p x

/-- The content a quality change acts on: the latest write under a force, or the point. -/
def State.latest (s : State) (p : Nat) : Point :=
  match s.forceOf p with
  | some (_, f) => f.under.getD f.before
  | none => s.pt p

/-- One staged GOOSE write (R212, R213): a whole point; bits [12:0] of a point's quality; or the marks of expiry. -/
def State.commitGoose (s : State) (g : Nat × Nat × Option Nat × Nat × Nat) : State :=
  let x := s.latest g.2.1
  s.commitPt g.2.1
    (match g.2.2.1 with
     | some v => { value := v % 2 ^ 64, qual := g.2.2.2.1, stamp := g.2.2.2.2 }
     | none =>
       if g.2.2.2.1 = 2 ^ 20 then { x with qual := (x.qual &&& 0xFFFFFFFC) ||| 1 ||| 2 ^ 7 }
       else { x with qual := (x.qual &&& 0xFFFFC000) ||| (g.2.2.2.1 % 2 ^ 13) })

/-- The writes an instance's finished activations commit in a kerf: late ones first, then by class. -/
def Inst.commits (x : Inst) (j : Nat) : List (Nat × Point) :=
  let fin := x.acts.filter (fun a => a.done)
  let late := fin.filter (fun a => a.cyc < j && a.cls != 7)
  let now := fin.filter (fun a => !(a.cyc < j && a.cls != 7))
  let byCls (l : List Act) : List (Nat × Point) :=
    ([8] ++ List.range 8).flatMap (fun c => (l.filter (fun (a : Act) => a.cls == c)).flatMap (fun (a : Act) => a.writes))
  byCls late ++ byCls now

/-- Safe values of an instance (R219): they bypass ranges and quota, not forcing. -/
def State.safeValues (s : State) (i : Nat) : State :=
  let w := s.iw i 2
  iter (fld w 16 16) (fun n s =>
    let a := 0x00D60000 + (fld w 0 16 + n) % 4096 * 16
    s.commitPt (fld (s.tw a) 0 20)
      {
        value := (s.tw (a + 8)).toNat + (s.tw (a + 12)).toNat * 2 ^ 32, qual := (s.tw (a + 4)).toNat,
        stamp := shortOf (tickStartNs s.cycNow) }) s

/-- Image commit of the kerf of cycle j (R195, R213). -/
def State.commitImage (s : State) : State :=
  let j := s.cycNow
  let adc := s.cyc.adcStage.filter (fun w => w.1 ≤ j)
  let gs := s.cyc.gooseStage.filter (fun w => w.1 ≤ j)
  let gNow := gs.take 2048
  let pf := s.cyc.pfStage.filter (fun w => w.1 ≤ j)
  let s := s.updCyc (fun c => { c with
    adcStage := c.adcStage.filter (fun w => j < w.1),
    gooseStage := gs.drop 2048 ++ c.gooseStage.filter (fun w => j < w.1), pfStage := c.pfStage.filter (fun w => j < w.1) })
  let s := s.bumpBy (pCYC 0) R.CYC_CNT_GOOSE_DEFER (gs.length - 2048)
  let s := adc.foldl (fun s w => s.commitPt w.2.1 w.2.2) s
  let s := gNow.foldl State.commitGoose s
  let inst := pf.map (fun w => (w.2.1, w.2.2)) ++ s.usedInsts.flatMap (fun i => (s.inst i).commits j)
  let s := inst.foldl (fun s w => s.commitPt w.1 w.2) s
  let n := adc.length + gNow.length + inst.length
  let s := s.setRg (pCYC 0) R.CYC_PI_PEAK (w32 (max n (s.rg (pCYC 0) R.CYC_PI_PEAK).toNat))
  s.usedInsts.foldl (fun s i => s.updInst i (fun x => { x with acts := x.acts.filter (fun a => !a.done) })) s

/-! ### Overruns, faults, stops at the kerf (R190, R191, R219) -/

/-- Running activations are aborted and their staged outputs discarded; finished ones still commit (R191, R219). -/
def Inst.abort (x : Inst) : Inst :=
  { x with acts := x.acts.filter (fun a => a.done), safeReq := true, restart := false, startNs := none, stopReq := false }

/-- An instance goes to FAULT: activations aborted, safe values due in this kerf; an instance in FAULT already keeps it. -/
def State.instFault (s : State) (i : Nat) (errTask : Bool) : State :=
  let x := s.inst i
  let s := s.setInst i { x.abort with state := 2, errOnce := errTask, heldCyc := false, causes := if errTask then x.causes ||| 4 else x.causes }
  if x.state = 2 then s else (s.bump (pCYC 0) R.CYC_CNT_FAULT).irq (pCYC (iPair (s.iw i 0))) 5

/-- Overrun accounting of one instance at the kerf (R190, R191); `lenient` in the first cycle of a resynchronisation
(R373). -/
def State.overrun (s : State) (lenient : Bool) (i : Nat) : State :=
  let x := s.inst i
  let run := x.acts.filter (fun a => !a.done && a.cls != 7)
  let new := (run.filter (fun a => !a.counted)).length
  let p := iPair (s.iw i 0)
  let s := s.setInst i { x with
    acts := x.acts.map (fun a => if !a.done && a.cls != 7 then { a with counted := true } else a),
    cntOvr := min 0xFFFFFFFF (x.cntOvr + new),
    ovrRun := if run.isEmpty then 0 else if lenient then x.ovrRun else min 3 (x.ovrRun + 1) }
  let s := if new = 0 then s else
    let s := s.bumpBy (pCYC 0) R.CYC_CNT_OVERRUN new
    (if p = 0 then s else s.bumpBy (pCYC p) R.CYC_CNT_OVERRUN new).irq (pCYC p) 4
  if x.state = 1 && 3 ≤ (s.inst i).ovrRun then s.instFault i true else s

/-- A pending STOP takes effect. -/
def State.instStopNow (s : State) (i : Nat) : State :=
  if (s.inst i).stopReq then
    s.updInst i (fun x => { x.abort with state := 0, ovrRun := 0, errOnce := false, heldCyc := false })
  else s

/-- Slack of a core of the cycle, in 0.1 µs (CYC_SLACK_MIN): from the end of its last window to the kerf. -/
def State.slackMark (s : State) (kerfNs : Nat) : State :=
  iter 32 (fun n s =>
    let own := s.usedInsts.filter (fun i => iPair (s.iw i 0) == n / 2 && (iCore (s.iw i 0) == n % 2 || iCore (s.iw i 0) == 2))
    let stop := s.cyc.winNs + (own.map s.iBudget).sum
    let v := (kerfNs - stop) / 100
    s.updCyc (fun c => { c with slack := sput n (match c.slack.find? (fun e => e.1 == n) with | some e => min e.2 v | none => v) c.slack })) s

/-- Steps 1 and 2 of the kerf (R206): overruns, faults and stops, force changes, image commit, safe values. `used` is the
time the kerf's work takes in 0.1 µs. -/
def State.kerf12 (s : State) (used : Nat) (lenient : Nat → Bool) : State :=
  let s := (s.setRg (pCYC 0) R.CYC_KERF_USED (w32 (min 0xFFFF used))).setRg (pCYC 0) R.CYC_KERF_MAX
    (w32 (max (min 0xFFFF used) (s.rg (pCYC 0) R.CYC_KERF_MAX).toNat))
  let s := if s.cyc.viewed then s.slackMark (s.nextBound - s.kerfLen) else s
  let s := s.updCyc (fun c => { c with
    kerfDone := true, waiting := false, past := c.past.filter (fun e => some e.1 == c.lastKerf), lastKerf := some s.cycNow })
  let s := s.usedInsts.foldl (fun s i => if (s.inst i).state = 1 || (s.inst i).state = 2 then s.overrun (lenient i) i else s) s
  let s := (List.range 64).foldl State.instStopNow s
  let s := s.kerfForces.commitImage
  (List.range 64).foldl (fun s i =>
    if (s.inst i).safeReq then (s.safeValues i).updInst i (fun x => { x with safeReq := false }) else s) s

/-! ### The boundary (R182, R184, R219) -/

/-- The next cycle can start. -/
def State.cycDue (s : State) : Option Nat :=
  if !s.cycOn || (s.cyc.cyc.isSome && !s.cyc.kerfDone) then none
  else match s.nextCyc with
    | some j => if s.bound j ≤ s.ns then some j else none
    | none => none

/-- A START given at least 1 µs before boundary `b` takes effect (R219): the instance runs, the directory entries of its points are
those of its bank (R198), and the first frames of its publications go out anew (R216). -/
def State.instBegin (s : State) (i b : Nat) : State :=
  let x := s.inst i
  match x.startNs with
  | some t =>
    if t + 1000 ≤ b && x.state = 0 then
      let s := s.setInst i { x with state := 1, startNs := none, acts := [], invalid := [], causes := 0, ovrRun := 0 }
      let s := s.setDirs (s.bankOf i x.bank).points
      s.updCyc (fun c => { c with pubs := c.pubs.map (fun e =>
        if fld (s.tw (0x00DC0000 + e.1 * 128)) 24 6 = i then (e.1, { e.2 with started := false, stopped := false }) else e) })
    else s
  | none => s

/-- Cycle j starts: skipped activations counted, pending STARTs and RESTARTs, tokens checked. -/
def State.cycBegin (s : State) (j : Nat) : State :=
  let b := s.bound j
  let skipped : Nat := match s.cyc.cyc with
    | some last => ((List.range 64).map (fun i =>
        if (s.inst i).state = 1 then ((List.range 7).map (fun c => s.dueIn i c (last + 1) j)).sum else 0)).sum
    | none => 0
  let s := s.bumpBy (pCYC 0) R.CYC_CNT_TICK_SKIPPED skipped
  let s := s.updCyc (fun c => { c with
    ticks := c.ticks.filter (fun t => j < t), cyc := some j, boundNs := b, kerfDone := false, viewed := false, waiting := false })
  let s := s.setRg (pCYC 0) R.CYC_CYCLE_TAG (tagOf j)
  let s := (List.range 64).foldl (fun (s : State) i => (s.updInst i (fun x =>
    let x := { x with window := 0, wrote := 0 }
    if x.restart then { x with state := 1, ovrRun := 0, restart := false, errOnce := false } else x)).instBegin i b) s
  let s := s.updCyc (fun c => { c with ranTasks := c.ranTasks || c.insts.any (fun x => x.2.state == 1) })
  if s.tokens j then s.fixView j
  else ((s.updCyc (fun c => { c with waiting := true })).bump (pCYC 0) R.CYC_CNT_SNAP_WAIT).irq (pCYC 0) 6

/-- SNAP_WAIT_END: the tokens a started cycle waits for have arrived. -/
def State.snapEnd (s : State) : State :=
  if s.cyc.waiting && !s.cyc.kerfDone && s.tokens s.cycNow then s.fixView s.cycNow else s

/-- The request vector of R218 from the points as committed. -/
def State.reqVector (s : State) : Nat :=
  (List.range 32).foldl (fun v n =>
    let w := s.tw (0x00D70000 + n * 16)
    let x := s.readPt (fld w 0 20)
    let set := if valRank x.qual = 2 then bit w 30 else x.value != 0
    if bit w 31 && set then v ||| fld (s.tw (0x00D70000 + n * 16 + 4)) 0 8 else v) 0

/-! ### Commands of the PF (R191, R198, R219) -/

/-- Fields of an instance entry as START checks them (R40, R41, R187, R221). -/
def State.instCheck (s : State) (i : Nat) : Option Nat :=
  let w (n : Nat) : Word := s.iw i n
  let core := iCore (w 0)
  let mode := fld (s.ac (pCYC (iPair (w 0))) R.CYC_PAIR_CFG) 0 2
  if fld (w 1) 0 16 = 0 ∨ fld (w 1) 16 16 = 0 then some Err.zeroField
  else if 6080 < fld (w 1) 16 16 ∨ core = 3 ∨ (core = 2) ≠ (mode = 1) ∨
      (List.range 7).any (fun c => period c ≤ fld (w (8 + c)) 0 13) then some Err.range
  else none

/-- CYC_INST_CMD START: refused with INST_STATE unless stopped and configured, with CAP_FULL on a fenced pair, and where a
field of the entry is 0 or out of range. -/
def State.instStart (s : State) (i off pg : Nat) : State :=
  let x := s.inst i
  if s.absent (0x140 + i) then s.refuse pg off Err.capFull
  else if x.state ≠ 0 || !iUsed (s.iw i 0) then s.refuse pg off 0x46
  else if s.unusable (pCYC (iPair (s.iw i 0))) then s.refuse pg off Err.capFull
  else match s.instCheck i with
    | some c => s.refuse pg off c
    | none => s.setInst i { x with startNs := some s.ns, stopReq := false }

/-- CYC_INST_CMD STOP. -/
def State.instStop (s : State) (i off pg : Nat) : State :=
  let x := s.inst i
  if s.absent (0x140 + i) then s.refuse pg off Err.capFull
  else if x.state = 0 && x.startNs.isNone then s.refuse pg off 0x46
  else if x.state = 0 then s.setInst i { x with startNs := none }
  else s.setInst i { x with stopReq := true }

/-- CYC_INST_CMD RESTART. -/
def State.instRestart (s : State) (i : Nat) : State :=
  let x := s.inst i
  if s.absent (0x140 + i) then s.refuse (pCYC 0) R.CYC_INST_CMD Err.capFull
  else if x.state ≠ 2 then s.refuse (pCYC 0) R.CYC_INST_CMD 0x46
  else if s.unusable (pCYC (iPair (s.iw i 0))) then s.refuse (pCYC 0) R.CYC_INST_CMD Err.capFull
  else s.setInst i { x with restart := true }

/-- CYC_PI_CMD (R198). -/
def State.piIndex (s : State) : Nat := fld (s.rg (pCYC 0) R.CYC_PI_INDEX) 0 20

def State.piRead (s : State) : State :=
  let i := s.piIndex
  let x := s.pt i
  let d := s.dirAt i
  let s := s.setRg64 (pCYC 0) R.CYC_PI_VALUE x.value
  let s := (s.setRg (pCYC 0) R.CYC_PI_QUAL (w32 x.qual)).setRg (pCYC 0) R.CYC_PI_STAMP (w32 x.stamp)
  (s.setRg (pCYC 0) R.CYC_PI_ID (w32 d.1)).setRg (pCYC 0) R.CYC_PI_HASH (w32 d.2)

def State.piWrite (s : State) (keep : Bool) : State :=
  let r := s.mayWrite 0 s.piIndex
  if !r.1 then r.2
  else
    let j := s.cycNow
    let stamp := if keep then (s.rg (pCYC 0) R.CYC_PI_STAMP).toNat else shortOf (tickStartNs j)
    r.2.updCyc (fun c => { c with pfStage := c.pfStage ++
      [(j, s.piIndex, { value := s.rg64 (pCYC 0) R.CYC_PI_VALUE, qual := (s.rg (pCYC 0) R.CYC_PI_QUAL).toNat, stamp := stamp })] })

def State.piDir (s : State) : State :=
  if s.inRange none s.piIndex then s.refuse (pCYC 0) R.CYC_PI_CMD 0x46
  else s.setDir s.piIndex ((s.rg (pCYC 0) R.CYC_PI_ID).toNat, (s.rg (pCYC 0) R.CYC_PI_HASH).toNat)

/-! ### COMMIT and table checks (R183, R188, R196, R221) -/

/-- Budgets, orders and quotas as a COMMIT of page 0x110 would make them active. -/
def State.overbooked (s : State) : Bool :=
  let us := s.usedInsts
  let kerf := 208333 * fld (s.rg (pCYC 0) R.CYC_CFG) 16 7 / 100
  let space := 208333 - kerf - 2000
  let clash (i : Nat) : Bool :=
    let seq := us.filter (s.sameCore i)
    decide (space < (seq.map (fun k => fld (s.iw k 1) 0 16 * 100)).sum) ||
      seq.any (fun k => k != i && fld (s.iw k 0) 0 8 == fld (s.iw i 0) 0 8)
  let ranges := (List.range 1024).filterMap (fun n =>
    let a := 0x00D54000 + n * 16
    let w := s.tw a
    if bit w 31 then some (fld w 24 6, (s.tw (a + 4)).toNat, (s.tw (a + 8)).toNat) else none)
  us.any clash || decide (6080 < (us.map (fun i => fld (s.iw i 1) 16 16)).sum) ||
    ranges.any (fun r => ranges.any (fun q => r.1 != q.1 && r.2.1 ≤ q.2.2 && q.2.1 ≤ r.2.2))

/-- COMMIT checks of the CYC pages: page, offset and code. -/
def State.cycCheck (s : State) (p : Nat) : Option (Nat × Nat × Nat) :=
  let modeChg := fld (s.rg (pCYC p) R.CYC_PAIR_CFG) 0 2 != fld (s.ac (pCYC p) R.CYC_PAIR_CFG) 0 2
  let close := fld (s.ac 0x080 R.SVA_TICK_CFG) 0 12
  let wait := if s.dup.paired then fld (s.ac 0x080 R.SVA_AGREE_CFG) 0 7 else 0
  if modeChg && s.usedInsts.any (fun i => iPair (s.iw i 0) == p && (s.inst i).state != 0) then
    some (pCYC p, R.CYC_PAIR_CFG, Err.notStopped)
  else if p = 0 && s.usedInsts.any (fun i => fld (s.iw i 1) 0 16 == 0 || fld (s.iw i 1) 16 16 == 0) then
    some (pCYC 0, R.CTRL, Err.zeroField)
  else if p = 0 && fld (s.rg (pCYC 0) R.CYC_CFG) 0 13 < close + 10 + wait then some (pCYC 0, R.CYC_CFG, Err.range)
  else if p = 0 && s.overbooked then some (pCYC 0, R.CTRL, 0x40)
  else none

/-- BUDGET, ORDER and WR_QUOTA become active with a COMMIT of page 0x110 (R221). -/
def State.cycApplied (s : State) (p : Nat) : State :=
  if p = 0 then
    (List.range 64).foldl (fun s i =>
      s.updCyc (fun c => { c with active := sset (0, 0) i ((s.iw i 0).toNat, (s.iw i 1).toNat) c.active })) s
  else s

/-- Bits of words 0 and 1 a write to a running instance may change. -/
def State.instWrCheck (s : State) (i : Nat) (ws : List Word) : Option Nat :=
  let w (n : Nat) : Word := (ws[n]?).getD 0
  let x := s.inst i
  let same := (List.range 16).all (fun n =>
    if n = 1 then true
    else if n = 0 then (w 0 &&& 0x800F3000) == (s.iw i 0 &&& 0x800F3000)
    else if n = 6 || n = 7 then true else w n == s.iw i n)
  if s.absent (0x140 + i) then some Err.capFull
  else if x.state ≠ 0 && !same then some Err.notStopped
  else if iUsed (w 0) && x.state = 0 && s.unusable (pCYC (iPair (w 0))) then some Err.capFull
  else none

/-- An entry of the write ranges, watch ranges, safe values or request map: a KIND the table gives, an instance the ordering code has. -/
def State.cycWrCheck (s : State) (a : Nat) (w : Word) : Option Nat :=
  if a < 0x00D60000 then
    if bit w 31 && s.absent (0x140 + fld w 24 6) then some Err.capFull
    else if 0x00D58000 ≤ a ∧ fld w 16 2 = 3 then some Err.range
    else none
  else none

/-! ### Reads -/

/-- Read-only registers of the CYC pages. -/
def State.cycRo (s : State) (p off : Nat) : Option Word :=
  let fm (k : Nat) : Word := w32 ((List.range 32).foldl (fun a i => a + b2n ((s.inst (k * 32 + i)).state == 2) * 2 ^ i) 0)
  let slack (n : Nat) : Word := w32 (((s.cyc.slack.find? (fun e => e.1 == 2 * p + n)).map (fun e => e.2)).getD 0)
  let sum (c : Nat) : Nat := ((s.usedInsts.filter (fun i => iPair (s.iw i 0) == p && (iCore (s.iw i 0) == c || iCore (s.iw i 0) == 2))).map
    (fun i => s.iBudget i / 100)).sum
  let o := s.cyc.olc
  if p = 0 then
    if off = R.CYC_FORCES then some (w32 s.cyc.forces.length)
    else if off = R.CYC_FAULT_MAP then some (fm 0)
    else if off = R.CYC_FAULT_MAP + 4 then some (fm 1)
    else if off = R.CYC_OLC_STATUS then some (w32 (o.state + b2n o.extended * 256 + b2n o.failOvr * 512))
    else none
  else if off = R.CYC_SLACK_MIN0 then some (slack 0)
  else if off = R.CYC_SLACK_MIN0 + 4 then some (slack 1)
  else if off = R.CYC_BUDGET_SUM then some (w32 (sum 0 + sum 1 * 2 ^ 16))
  else none

/-- Read-only words of instance and force entries. -/
def State.cycTblWord (s : State) (a : Nat) (activeView : Bool) : Option Word :=
  if 0x00D50000 ≤ a ∧ a < 0x00D54000 then
    let i := (a - 0x00D50000) / 256
    let x := s.inst i
    match a % 256 / 4 with
    | 0 =>
      let w := if activeView then setFld (s.tw a) 0 8 (s.iOrder i) else s.tw a
      some (setFld w 28 3 x.state)
    | 1 => if activeView then some (s.iAct i).2 else none
    | 6 => some (w32 (b2n x.bank))
    | 16 => some (w32 x.ovrRun)
    | 17 => some (w32 x.errCause)
    | 18 => some x.errTag
    | 19 => some (w32 x.cntOvr)
    | 20 => some (w32 x.cntSkip)
    | _ => none
  else if 0x00D40000 ≤ a ∧ a < 0x00D50000 then
    let e := (a - 0x00D40000) / 64
    let u : Point := match s.cyc.forces.find? (fun f => f.1 == e) with
      | some f => f.2.under.getD { qual := 0 }
      | none => { qual := 0 }
    match a % 64 / 4 with
    | 6 => some (w32 u.value)
    | 7 => some (w32 (u.value / 2 ^ 32))
    | 8 => some (w32 u.qual)
    | 9 => some (w32 u.stamp)
    | _ => none
  else none

/-- What CNT_CLEAR on a CYC page clears beside counters: the extremes measured since it. -/
def State.cycCntClear (s : State) (p : Nat) : State :=
  let s := if p = 0 then
      (s.setRg (pCYC 0) R.CYC_KERF_MAX 0).setRg (pCYC 0) R.CYC_PI_PEAK 0 else s
  s.updCyc (fun c => { c with slack := c.slack.filter (fun e => e.1 / 2 != p) })

/-! ### The commands -/

/-- SNAP_WAIT_END (R184). -/
def execSnapWaitEnd (s : State) : Host.Outcome State Fault Refusal := act State.onMain State.snapEnd s

/-- WINDOW_END (R189) of instance `i`. -/
def execWindowEnd (i : Nat) (s : State) : Host.Outcome State Fault Refusal := act State.onMain (fun s => s.winClose i) s

/-- ACTIVATION_END (R189). -/
def execActivationEnd (i cls : Nat) (s : State) : Host.Outcome State Fault Refusal :=
  act State.onMain (fun s => s.actEnd i cls) s

/-- POINT_WRITE (R196). -/
def execPointWrite (i cls p value qual : Nat) (keep : Option Nat) (s : State) : Host.Outcome State Fault Refusal :=
  act State.onMain (fun s => s.pointWrite i cls p value qual keep) s

/-- PI_READ (R198). -/
def execPiRead (s : State) : Host.Outcome State Fault Refusal := actReg State.onMain (pCYC 0) State.piRead s

/-- PI_WRITE (R198). -/
def execPiWrite (keep : Bool) (s : State) : Host.Outcome State Fault Refusal :=
  actReg State.onMain (pCYC 0) (fun s => s.piWrite keep) s

/-- PI_DIRECTORY_WRITE (R198). -/
def execPiDirectoryWrite (s : State) : Host.Outcome State Fault Refusal := actReg State.onMain (pCYC 0) State.piDir s

/-- INST_START (R219). -/
def execInstStart (i : Nat) (s : State) : Host.Outcome State Fault Refusal :=
  actReg State.onMain (pCYC 0) (fun s => s.instStart i R.CYC_INST_CMD (pCYC 0)) s

/-- INST_STOP (R219). -/
def execInstStop (i : Nat) (s : State) : Host.Outcome State Fault Refusal :=
  actReg State.onMain (pCYC 0) (fun s => s.instStop i R.CYC_INST_CMD (pCYC 0)) s

/-- RESTART (R191). -/
def execRestart (i : Nat) (s : State) : Host.Outcome State Fault Refusal :=
  actReg State.onMain (pCYC 0) (fun s => s.instRestart i) s

end Sys2Proof.Machine
end

