-- ==== Sys2Proof/Machine/Acq.lean ====
section
/-!
DEFINITION. Disturbance capture (chapter 13): blocks, ring, triggers, masks, records.
-/
namespace Sys2Proof.Machine

abbrev pACQ : Nat := 0x1B0
/-- Page of set n. -/
abbrev pACQS (n : Nat) : Nat := 0x1B1 + n

def State.updAcq (s : State) (f : Acq → Acq) : State := { s with acq := f s.acq }
def State.aset (s : State) (n : Nat) : AcqSet := sget {} n s.acq.sets
def State.setAset (s : State) (n : Nat) (x : AcqSet) : State := s.updAcq (fun a => { a with sets := sset {} n x a.sets })
/-- STATE of set n now (R321). -/
def State.asetState (s : State) (n : Nat) : Nat := (s.aset n).shown s.tick
def State.arec (s : State) (id : Nat) : Option AcqRec := s.acq.recs.find? (fun r => r.id == id)
def State.updRec (s : State) (id : Nat) (f : AcqRec → AcqRec) : State :=
  s.updAcq (fun a => { a with recs := a.recs.map (fun r => if r.id == id then f r else r) })

/-! ### Configuration of a set (R316, R320) -/

def State.acqCfg (s : State) (n : Nat) : Word := s.ac (pACQS n) R.ACQ_SET_CFG
def cfgAnalog (w : Word) : Nat := fld w 0 11
def cfgBinary (w : Word) : Nat := fld w 16 12
/-- Samples of a tick at full rate. -/
def cfgSubs (w : Word) : Nat := if bit w 28 then 3 else 1
def msTicks (ms : Nat) : Nat := cdiv (ms * 48) 10
def lenPre (w : Word) : Nat := msTicks (fld w 0 14)
def lenPost (w : Word) : Nat := msTicks (fld w 16 16)

def pad8 (n : Nat) : Nat := cdiv n 8 * 8

/-- Bytes of a block (R319). -/
def blockBytes (na nb samples : Nat) : Nat := 32 + pad8 (cdiv (2 * nb) 8) + pad8 na + pad8 (4 * samples * na)

def AcqBlk.size (b : AcqBlk) : Nat := blockBytes b.qual.length b.bin.length b.smps.length

/-- Partition of a set (R320): a quarter of the ring that fenced DRAM groups leave. -/
def State.acqPart (s : State) : Nat := (max 1 (4 - (ones 32 s.memFenced))) * 2 ^ 28

def aEntry (n i : Nat) : Nat := 0x00F20000 + n * 0x4000 + i * 16
def bEntry (n i : Nat) : Nat := 0x00F30000 + n * 0x4000 + i * 8
def tEntry (n i : Nat) : Nat := 0x00F40000 + n * 0x400 + i * 16
def mHead (m : Nat) : Nat := 0x00F41000 + m * 16
def mVert (m v : Nat) : Nat := 0x00F50000 + m * 0x1000 + v * 16

/-! ### Samples (R316 to R319) -/

/-- Value and quality of an analog channel at sub-sample p of tick k. -/
def State.acqVal (s : State) (n i k p : Nat) : Int × Nat :=
  let w := s.tw (aEntry n i)
  let src := fld w 0 20
  if !bit w 31 then ((Config.acqOpen i).toInt, 1)
  else match fld w 29 2 with
    | 0 => s.grid k (src + p * fld (s.tw (aEntry n i + 4)) 0 12)
    | 1 =>
      let a := outAddr k src
      ((s.tw a).toInt, if s.tw (a + 12) = tagOf k && !s.unusable (pFLT (src / 128)) then (s.tw (a + 8)).toNat else 1)
    | _ =>
      let x := s.readPt src
      ((satS 32 (toS 64 x.value)).1, x.qual % 2 ^ 14)

/-- Validity of the worst of several quality words (R134). -/
def worstValidity (qs : List Nat) : Nat :=
  if qs.any (fun q => valRank q == 2) then 1 else if qs.any (fun q => q % 4 == 3) then 3 else 0

/-- The condensed quality byte of a channel's samples (R319); `flt`: a filter source, whose SAT joins the overflow. -/
def qualByte (flt : Bool) (qs : List Nat) : Nat :=
  let any (b : Nat) : Bool := qs.any (fun q => q.testBit b)
  worstValidity qs + b2n (any 2 || (flt && any 26)) * 4 + b2n (any 10 || any 16) * 8 + b2n (any 11) * 16 +
    b2n (any 17 || any 18) * 32 + b2n (any 19) * 64 + b2n (any 21) * 128

/-- Tick tag of the last completed kerf (R318). -/
def State.imgTag (s : State) : Word :=
  match s.cyc.lastKerf with
  | some j => tagOf j
  | none => 0

/-- The full-rate block of tick k for a set, with the validity of each sample. -/
def State.acqBuild (s : State) (n k : Nat) : AcqBlk × List (List (Int × Bool)) :=
  let c := s.acqCfg n
  let na := cfgAnalog c
  let rows := (List.range (cfgSubs c)).map (fun p => (List.range na).map (fun i => s.acqVal n i k p))
  let qual := (List.range na).map (fun i =>
    qualByte (fld (s.tw (aEntry n i)) 29 2 == 1) (rows.map (fun r => ((r[i]?).getD (0, 1)).2)))
  let bin := (List.range (cfgBinary c)).map (fun i =>
    let w := s.tw (bEntry n i)
    let x := s.readPt (fld w 0 20)
    (bit w 31 && x.value != 0, !bit w 31 || valRank x.qual == 2))
  let solo := s.sva.finals.any (fun f => f.1 == k && f.2.1)
  ({
      tick := k, flags := b2n solo * 4, sync := s.tsu.sync.code, imgTag := s.imgTag, holdEst := s.rg pTSU R.TSU_HOLD_EST, bin := bin,
      qual := qual, smps := rows.map (fun r => r.map (fun v => v.1)) },
    rows.map (fun r => r.map (fun v => (v.1, valRank v.2 != 2))))

/-- Words a set's block of tick k reads (R384). -/
def State.acqReads (s : State) (n k : Nat) : List Nat :=
  let c := s.acqCfg n
  (List.range (cfgAnalog c)).flatMap (fun i =>
    let w := s.tw (aEntry n i)
    if !bit w 31 then []
    else match fld w 29 2 with
      | 0 => (List.range (cfgSubs c)).map (fun p => Config.planeAt (k % 32) (fld w 0 20 + p * fld (s.tw (aEntry n i + 4)) 0 12))
      | 1 => []
      | _ => [Config.pointAt (fld w 0 20)]) ++
    ((List.range (cfgBinary c)).filter (fun i => bit (s.tw (bEntry n i)) 31)).map (fun i => Config.pointAt (fld (s.tw (bEntry n i)) 0 20))

/-- The bytes of a block as they lie in ring, staging and store (R319), with the CRC-32C at bytes 28 to 31. -/
def AcqBlk.bytes (b : AcqBlk) : List Nat :=
  let pad (l : List Nat) : List Nat := l ++ List.replicate (pad8 l.length - l.length) 0
  let bins := pad ((List.range (cdiv (2 * b.bin.length) 8)).map (fun j =>
    (List.range 4).foldl (fun a i => match b.bin[4 * j + i]? with
      | some v => a + b2n v.1 * 4 ^ i + b2n v.2 * 2 * 4 ^ i
      | none => a) 0))
  let head (crc : Nat) : List Nat :=
    bytesLE 6 (b.tick / 4800) ++ bytesLE 2 (b.tick % 4800) ++ [b.lambda + b.smps.length * 16 + b.firstSub * 64, b.flags] ++
      bytesLE 2 b.sync ++ bytesLE 4 b.imgTag.toNat ++ bytesLE 4 b.holdEst.toNat ++ bytesLE 4 b.size ++ bytesLE 4 0 ++ bytesLE 4 crc
  let rest := bins ++ pad b.qual ++ pad (b.smps.flatMap (fun r => r.flatMap (fun v => bytesLE 4 (ofS 32 v))))
  head (crc32c (head 0 ++ rest)) ++ rest

/-! ### The Choker (R328) -/

/-- First sub-sample at which a decision of tick t from level a to b applies, n samples a tick. -/
def chokeAt (n t a b : Nat) : Nat :=
  let m := 2 ^ max a b
  cdiv (t * n) m * m

/-- Level at sub-sample s. -/
def Acq.lamAt (x : Acq) (n s : Nat) : Nat :=
  match x.chokes.find? (fun c => chokeAt n c.1 c.2.1 c.2.2 ≤ s) with
  | some c => c.2.2
  | none => match x.chokes.getLast? with
    | some c => c.2.1
    | none => x.lam

/-- A full-rate sample of a set's channel as the ring or the recent history holds it. -/
def AcqSet.full (x : AcqSet) (n s ch : Nat) : Option Int :=
  match x.hist.find? (fun h => h.1 == s) with
  | some h => (h.2[ch]?).map (fun v => v.1)
  | none => (x.ring.find? (fun b => b.1.tick == s / n)).bind (fun b => (b.1.smps[s % n]?).bind (fun r => r[ch]?))

/-- A block of a post extent from the full-rate block: samples with s mod f = 0, each the mean of the f samples up to it. -/
def State.acqChoke (s : State) (n : Nat) (b : AcqBlk) : AcqBlk :=
  let m := cfgSubs (s.acqCfg n)
  let x := s.aset n
  let subs := (List.range m).filter (fun p => (b.tick * m + p) % 2 ^ s.acq.lamAt m (b.tick * m + p) == 0)
  let val (p ch : Nat) : Int :=
    let at_ := b.tick * m + p
    let f := 2 ^ s.acq.lamAt m at_
    roundDiv (((List.range f).map (fun d =>
      (if d ≤ p then (b.smps[p - d]?).bind (fun r => r[ch]?) else x.full m (at_ - d) ch).getD (Config.acqOpen (at_ - d)).toInt)).sum) f
  let chg := s.acq.chokes.any (fun c => chokeAt m c.1 c.2.1 c.2.2 / m == b.tick)
  { b with
    lambda := s.acq.lamAt m (b.tick * m + m - 1), firstSub := subs.headD 0, flags := b.flags ||| 16 ||| (b2n chg * 2),
    smps := subs.map (fun p => (List.range b.qual.length).map (val p)) }

/-! ### Staging (R327) -/

/-- Bytes in staging. -/
def Acq.backlog (x : Acq) : Nat := (x.stage.map (fun e => e.2.size)).sum

/-- A post block of a record on its way into staging: dropped whole where 512 MiB have no room for it. -/
def State.acqStage (s : State) (id : Nat) (b : AcqBlk) : State :=
  match s.arec id with
  | none => s
  | some r =>
    let trig := r.trigs.any (fun t => tickOfNs (t.time / 16) == b.tick)
    let b := { s.acqChoke r.set b with flags := (s.acqChoke r.set b).flags ||| b2n trig ||| b2n r.gap * 8 }
    if 2 ^ 29 < s.acq.backlog + b.size then
      ((s.updRec id (fun r => { r with flags := r.flags ||| 2, gap := true })).bump pACQ R.ACQ_CNT_STAGE_DROP).irq pACQ 7
    else
      (s.updAcq (fun a => { a with stage := a.stage ++ [(id, b)] })).updRec id (fun r => { r with postN := r.postN + 1, gap := false })

/-! ### The ring (R320, R323) -/

/-- Room for a block: oldest blocks go, unless a record holds them; then the writer stalls. -/
def ringRoom (part need : Nat) : List (AcqBlk × Option Nat) → Option (List (AcqBlk × Option Nat))
  | [] => some []
  | e :: t =>
    if ((e :: t).map (fun x => x.1.size)).sum + need ≤ part then some (e :: t)
    else if e.2.isSome then none
    else ringRoom part need t

/-- The ring writer of a set with the block of the present tick. -/
def State.acqRing (s : State) (n : Nat) (b : AcqBlk) : State :=
  let x := s.aset n
  match ringRoom s.acqPart b.size x.ring with
  | none =>
    let s := s.setAset n { x with stall := true, gap := true }
    if x.stall then s else (s.bump (pACQS n) R.ACQS_CNT_RING_STALL).irq pACQ 8
  | some r =>
    let b := { b with flags := b.flags ||| b2n x.gap * 8 }
    (s.setAset n { x with ring := r ++ [(b, none)], stall := false, gap := false }).bump (pACQS n) R.ACQS_CNT_BLOCKS

/-! ### Trigger times (R324, R325) -/

/-- Instant of sub-sample p of tick k in units of 1/144 ns (R113). -/
def inst144 (k p : Nat) : Nat := tickStartNs k * 144 + p * 10000000

/-- The same to the nearest 1/16 ns. -/
def to16 (t : Nat) : Nat := (2 * t + 9) / 18

/-- Sub-sample s of a set with m samples a tick as an instant. -/
def subInst (m s : Nat) : Nat := inst144 (s / m) (s % m)

/-- Condition, re-arming and the level crossed of an analog entry (R325). -/
def anaHit (dir : Nat) (lvl x : Int) : Bool :=
  match dir with
  | 0 => lvl ≤ x
  | 1 => x ≤ lvl
  | _ => lvl ≤ x || x ≤ -lvl

def anaRearm (dir : Nat) (lvl hyst x : Int) : Bool :=
  match dir with
  | 0 => x < lvl - hyst
  | 1 => lvl + hyst < x
  | _ => -(lvl - hyst) < x && x < lvl - hyst

/-- frac and time in 1/16 ns of a crossing at sub-sample s from the sample before it. -/
def anaTime (m s : Nat) (lvl : Int) (prev : Option Int) (x : Int) : Nat × Nat :=
  match prev with
  | none => (0, to16 (subInst m s))
  | some y =>
    let f : Nat := if x = y then (Config.acqOpen s).toNat % 256 else (max 0 (min 255 (Int.fdiv (256 * (lvl - y)) (x - y)))).toNat
    let a := subInst m (s - 1)
    (f, (2 * (a * 256 + f * (subInst m s - a)) + 2304) / 4608)

/-- An ANALOG entry over the samples of a tick: whether it is disarmed after them, and the triggers it fires. -/
def anaScan (m dir : Nat) (lvl hyst : Int) (ch : Nat) (get : Nat → Option (Int × Bool)) : List Nat → Bool → Bool × List AcqTrig
  | [], dis => (dis, [])
  | s :: rest, dis =>
    match get s with
    | some (x, true) =>
      if dis then anaScan m dir lvl hyst ch get rest (!anaRearm dir lvl hyst x)
      else if anaHit dir lvl x then
        let l := if dir = 2 && !decide (lvl ≤ x) then -lvl else lvl
        let prev := match get (s - 1) with | some (y, true) => some y | _ => none
        let f := anaTime m s l prev x
        let r := anaScan m dir lvl hyst ch get rest true
        (r.1, { typ := 0, idx := ch, dir := dir, time := f.2, prevS := s - 1, frac := f.1 } :: r.2)
      else anaScan m dir lvl hyst ch get rest false
    | _ => anaScan m dir lvl hyst ch get rest dis

/-! ### Masks (R326) -/

/-- Vertices of a mask: X, LOW, HIGH. -/
def State.maskV (s : State) (m : Nat) : List (Nat × Int × Int) :=
  (List.range (fld (s.tw (mHead m + 4)) 0 9)).map (fun v =>
    (fld (s.tw (mVert m v)) 0 16, (s.tw (mVert m v + 4)).toInt, (s.tw (mVert m v + 8)).toInt))

/-- The two vertices around a phase, wrapped. -/
def maskAround (vs : List (Nat × Int × Int)) (x : Nat) : Option ((Int × Int × Int) × (Int × Int × Int) × Int) :=
  match vs.head?, vs.getLast? with
  | some f, some l =>
    if x < f.1 then some (((l.1 : Int) - 65536, l.2), (f.1, f.2), x)
    else match ((vs.zip (vs.drop 1)).find? (fun p => p.1.1 ≤ x && x < p.2.1)) with
      | some p => some ((p.1.1, p.1.2), (p.2.1, p.2.2), x)
      | none => some ((l.1, l.2), ((f.1 : Int) + 65536, f.2), x)
  | _, _ => none

/-- A sample violates a mask: it lies outside the exact interpolation of LOW or HIGH. -/
def maskBad (vs : List (Nat × Int × Int)) (x : Nat) (v : Int) : Bool :=
  match maskAround vs x with
  | none => false
  | some (a, b, x) =>
    let d := b.1 - a.1
    let lo := a.2.1 * d + (x - a.1) * (b.2.1 - a.2.1)
    let hi := a.2.2 * d + (x - a.1) * (b.2.2 - a.2.2)
    v * d < lo || hi < v * d

/-- The sample at sub-step p of tick k is not evaluated by a mask for its reference (R326). -/
def State.maskRef (s : State) (w : Word) (k p : Nat) : Option Nat :=
  let e := fld w 16 6
  let n := fld w 24 2
  if s.unusable (pFLT e) then none
  else
    let r := s.refAt e n k
    if r.lostRun then none else some (r.phase p / 65536)

/-- One mask over the samples of a tick for its set: counts and the sub-samples of its violations. -/
def State.maskScan (s : State) (n m : Nat) (rows : List (List (Int × Bool))) (k : Nat) : State × List Nat :=
  let w := s.tw (mHead m)
  let q := max 1 (fld (s.tw (mHead m + 4)) 16 8)
  let ch := fld w 0 10
  let vs := s.maskV m
  (rows.zipIdx).foldl (fun (acc : State × List Nat) r =>
    let s := acc.1
    let p := r.2
    let cnt := sget 0 m (s.aset n).maskCnt
    let put (s : State) (c : Nat) : State := s.setAset n { s.aset n with maskCnt := sset 0 m c (s.aset n).maskCnt }
    match r.1[ch]?, s.maskRef w k (if rows.length = 1 then 0 else p) with
    | some (v, true), some x =>
      if maskBad vs x v then
        let c := min 256 (cnt + 1)
        let s := put s c
        if c = q then
          (((s.bump (pACQS n) R.ACQS_CNT_MASK_VIOL).irq pACQ 10), acc.2 ++ [p])
        else (s, acc.2)
      else (put s 0, acc.2)
    | _, _ => ((put s 0).bump (pACQS n) R.ACQS_CNT_MASK_SKIP, acc.2)) (s, [])

/-! ### Records (R322, R330) -/

/-- Descriptors of a set's analog channels (R330): SRC_KIND, SRC, STRIDE, TAG, and the chain's DELAY or the slot's KIND. -/
def State.anaDescs (s : State) (n : Nat) : List (Nat × Nat × Nat × Word × Nat) :=
  (List.range (cfgAnalog (s.acqCfg n))).map (fun i =>
    let w := s.tw (aEntry n i)
    let src := fld w 0 20
    let more := match fld w 29 2 with
      | 0 => fld (s.tw (0x00A10000 + 16 * src + 8)) 0 2
      | 1 => (sget ({} : Chain) (src % 128) (s.fe (src / 128)).chains).delay
      | _ => 0
    (fld w 29 2, src, fld (s.tw (aEntry n i + 4)) 0 12, s.tw (aEntry n i + 8), more))

/-- Descriptors of a set's binary channels (R330): POINT, TAG. -/
def State.binDescs (s : State) (n : Nat) : List (Nat × Word) :=
  (List.range (cfgBinary (s.acqCfg n))).map (fun i => (fld (s.tw (bEntry n i)) 0 20, s.tw (bEntry n i + 4)))

/-- A record opens at tick T, in the work of tick k. -/
def State.acqOpen (s : State) (n T k : Nat) (t : AcqTrig) : State :=
  let x := s.aset n
  let pre := lenPre (s.ac (pACQS n) R.ACQ_SET_LEN)
  let post := lenPost (s.ac (pACQS n) R.ACQ_SET_LEN)
  let first := max (T - pre) (match x.prevEnd with | some e => e + 1 | none => 0)
  let id := s.modNum * 2 ^ 52 + s.acq.seq % 2 ^ 52
  let held := x.ring.filter (fun b => first ≤ b.1.tick && b.1.tick < T && b.2.isNone)
  let short := x.state = 1 || held.length < pre
  let r : AcqRec :=
    {
      id := id, set := n, t0 := T, start := (held.head?.map (fun b => b.1.tick)).getD T, stop := T + post - 1, trigs := [t],
      preN := held.length, flags := b2n short ||| b2n t.mask * 4, cfg := ((s.acqCfg n).toNat, (s.ac (pACQS n) R.ACQ_SET_LEN).toNat),
      fNom := bit (s.ac pSVA R.SVA_CFG) 2, analog := s.anaDescs n, binary := s.binDescs n,
      utc := fld (s.ac pTSU R.TSU_UTC_OFFSET) 0 16, sync0 := s.tsu.sync.code, hold0 := s.rg pTSU R.TSU_HOLD_EST }
  let s := s.setAset n { x with
    state := 3, cur := some id, lastId := id,
    ring := x.ring.map (fun b => if first ≤ b.1.tick && b.1.tick < T && b.2.isNone then (b.1, some id) else b) }
  let s := s.updAcq (fun a => { a with recs := a.recs ++ [r], seq := a.seq + 1 })
  let s := s.bump (pACQS n) R.ACQS_CNT_REC
  -- post blocks the ring already holds; what a stalled writer left out before the block of this tick is a gap
  let s := (x.ring.filter (fun b => T ≤ b.1.tick && (match x.prevEnd with | some e => decide (e < b.1.tick) | none => true) &&
      b.1.tick < k && b.1.tick < T + post)).foldl (fun s b => s.acqStage id b.1) s
  if x.gap then s.updRec id (fun r => { r with gap := true }) else s

/-- The block of tick T carries TRIG, where the ring or staging already holds it (R319). -/
def State.acqMark (s : State) (n id T : Nat) : State :=
  let mark (b : AcqBlk) : AcqBlk := if b.tick = T then { b with flags := b.flags ||| 1 } else b
  let x := s.aset n
  (s.setAset n { x with ring := x.ring.map (fun b => (mark b.1, b.2)) }).updAcq (fun a =>
    { a with stage := a.stage.map (fun e => if e.1 = id then (id, mark e.2) else e) })

/-- A trigger is placed in a set in the work of tick k (R321, R322, R324). -/
def State.acqPlace (s : State) (n k : Nat) (t : AcqTrig) : State :=
  let x := s.aset n
  let T := tickOfNs (t.time / 16)
  let ignored (s : State) : State := s.bump (pACQS n) R.ACQS_CNT_TRIG_IGNORED
  let placed (s : State) : State :=
    ((s.setAset n { s.aset n with trigTag := tagOf T }).bump (pACQS n) R.ACQS_CNT_TRIG).irq pACQ 4
  match x.state with
  | 1 => placed (s.acqOpen n T k t)
  | 2 => placed (s.acqOpen n T k t)
  | 3 =>
    match x.cur.bind s.arec with
    | none => ignored s
    | some r =>
      if T < r.t0 || r.stop < T || 16 ≤ r.trigs.length then ignored s
      else
        let ext := bit (s.acqCfg n) 29
        let stop := if ext then max r.stop (min (r.t0 + 287999) (T + lenPost (s.ac (pACQS n) R.ACQ_SET_LEN) - 1)) else r.stop
        placed ((s.updRec r.id (fun r => { r with
          trigs := r.trigs ++ [{ t with flags := t.flags ||| b2n ext }], stop := stop,
          flags := r.flags ||| b2n (t.mask && ext) * 4 })).acqMark n r.id T)
  | _ => ignored s

/-- A record ends after tick k; `flag` adds STOPPED or POWER_FAIL. -/
def State.acqEnd (s : State) (n k flag : Nat) : State :=
  let x := s.aset n
  match x.cur.bind s.arec with
  | none => s
  | some r =>
    let s := s.updRec r.id (fun r => { r with
      ended := true, endTick := min r.stop k, stop := min r.stop k, flags := r.flags ||| flag, sync1 := s.tsu.sync.code,
      hold1 := s.rg pTSU R.TSU_HOLD_EST })
    let frozen := r.flags.testBit 2
    let s := s.setAset n { x with state := if frozen then 4 else 2, cur := none, prevEnd := some (min r.stop k) }
    if frozen && flag = 0 then s.irq pACQ 9 else s

/-! ### The work of a tick (R318) -/

/-- Triggers of one FLT_EVENT or GOOSE entry of word `w` (R324): the events of ticks up to k that it names. -/
def State.acqEvent (s : State) (w : Word) (k : Nat) : List AcqTrig :=
  let dir := fld w 26 2
  let ix := fld w 0 13
  match fld w 28 3 with
  | 2 =>
    (s.thrAcq.filter (fun v => v.chain == ix && v.tick ≤ k && (dir = 2 || (dir = 0) == v.pickup))).map (fun v =>
      {
        typ := 2, idx := ix, dir := dir, time := to16 (inst144 v.tick v.phase),
        delay := (sget ({} : Chain) (ix % 128) (s.fe (ix / 128)).chains).delay })
  | 4 =>
    let mem := fld w 16 6
    (s.acqGoose.filter (fun g => g.1 == ix &&
      (let old := match g.2.1[mem]? with | some v => v.2 != 0 | none => false
       let new := match g.2.2.1[mem]? with | some v => v.1 == 0 && v.2 != 0 | none => false
       let isB := match g.2.2.1[mem]? with | some v => v.1 == 0 | none => false
       isB && old != new && (dir = 2 || (dir = 0) == new)))).map (fun g =>
        { typ := 4, idx := ix, dir := dir, time := g.2.2.2 })
  | _ => []

/-- Triggers of a set's FLT_EVENT and GOOSE entries in the work of tick k. -/
def State.acqEvents (s : State) (n k : Nat) : List AcqTrig :=
  (List.range 64).flatMap (fun i => if bit (s.tw (tEntry n i)) 31 then s.acqEvent (s.tw (tEntry n i)) k else [])

/-- Triggers of a set's ANALOG and BINARY entries in tick k, with the table's memory; `rows` are the full-rate samples of the tick. -/
def State.acqSampled (s : State) (n k : Nat) (b : AcqBlk) (rows : List (List (Int × Bool))) : State × List AcqTrig :=
  let m := cfgSubs (s.acqCfg n)
  let x := s.aset n
  let get (sub ch : Nat) : Option (Int × Bool) :=
    if sub / m = k then (rows[sub % m]?).bind (fun r => r[ch]?)
    else (x.hist.find? (fun h => h.1 == sub)).bind (fun h => h.2[ch]?)
  (List.range 64).foldl (fun (acc : State × List AcqTrig) i =>
    let s := acc.1
    let w := s.tw (tEntry n i)
    let dir := fld w 26 2
    let ix := fld w 0 13
    if !bit w 31 then acc
    else match fld w 28 3 with
      | 0 =>
        if cfgAnalog (s.acqCfg n) ≤ ix then acc
        else
          let r := anaScan m dir (s.tw (tEntry n i + 4)).toInt ((s.tw (tEntry n i + 8)).toNat : Int) ix (fun sub => get sub ix)
            ((List.range m).map (k * m + ·)) (x.disarmed.contains i)
          let y := s.aset n
          let s := s.setAset n { y with disarmed := if r.1 then i :: y.disarmed.erase i else y.disarmed.erase i }
          (s, acc.2 ++ r.2)
      | 1 =>
        match b.bin[ix]?, x.binPrev[ix]? with
        | some v, some old =>
          if v.1 != old && (dir = 2 || (dir = 0) == v.1) then
            let ref := tickStartNs k
            let t := ((ref : Int) + diff32 (s.pt (fld (s.tw (bEntry n ix)) 0 20)).stamp (shortOf ref)).toNat
            (s, acc.2 ++ [{ typ := 1, idx := ix, dir := dir, time := t * 16 }])
          else acc
        | _, _ => acc
      | _ => acc) (s, [])

/-- Masks of a set, each USED one counted; every TYPE 5 entry that names one places a trigger for each of its violations. -/
def State.acqMasks (s : State) (n k : Nat) (rows : List (List (Int × Bool))) : State × List AcqTrig :=
  (List.range 64).foldl (fun (acc : State × List AcqTrig) m =>
    let s := acc.1
    let w := s.tw (mHead m)
    if !bit w 31 || fld w 29 2 ≠ n then acc
    else
      let r := s.maskScan n m rows k
      let named := (List.range 64).filter (fun i =>
        let t := s.tw (tEntry n i)
        bit t 31 && fld t 28 3 == 5 && fld t 0 13 == m)
      (r.1, acc.2 ++ r.2.flatMap (fun p =>
        named.map (fun i => { typ := 5, idx := m, dir := fld (s.tw (tEntry n i)) 26 2, time := to16 (inst144 k p), mask := true })))) (s, [])

/-- Triggers in the order of their times. -/
def byTime (l : List AcqTrig) : List AcqTrig := l.foldr (fun t r => (r.takeWhile (fun u => u.time < t.time)) ++ t :: (r.dropWhile (fun u => u.time < t.time))) []

/-- FILLING begins (R321, R325): the ring is emptied and every entry armed. -/
def AcqSet.fill (x : AcqSet) : AcqSet :=
  { x with
    state := 1, cur := none, ring := [], hist := [], disarmed := [], binPrev := [], maskCnt := [], stall := false, gap := false }

/-- ARMED once PRE_TICKS blocks are held in the ring (R321). -/
def AcqSet.arm (x : AcqSet) (pre : Nat) : AcqSet := if x.state = 1 && pre ≤ x.ring.length then { x with state := 2 } else x

/-- What a set's work meets before tick k (`last` = k) or after it (`last` = k + 1): STARTs and RESUMEs up to k, STOPs at the end of ticks
before `last`, a STOP closing the open record. -/
def State.acqCtl (s : State) (n k last : Nat) : State :=
  let due (e : Nat × Nat) : Bool := if e.2 = 0 then e.1 ≤ k else e.1 < last
  let l := (s.aset n).ctl
  let s := (l.takeWhile due).foldl (fun (s : State) e =>
    if e.2 = 0 then s.setAset n (s.aset n).fill
    else
      let s := s.acqEnd n e.1 (if e.2 = 2 then 16 else 8)
      s.setAset n { s.aset n with state := 0 }) s
  s.setAset n { s.aset n with ctl := l.dropWhile due }

/-- A pending START or RESUME takes effect at the first tick start at least 1 µs after it (R321). While the plane is stopped no tick
becomes final, and what was asked takes effect without one. -/
def State.acqBegin (s : State) : State :=
  iter 4 (fun n s =>
    let x := s.aset n
    let s := match x.startNs with
      | some t => if t + 1000 ≤ tickStartNs s.tick then s.setAset n { x with startNs := none, ctl := x.ctl ++ [(s.tick, 0)] } else s
      | none => s
    if s.running pSVA || (s.aset n).ctl.isEmpty then s else s.acqCtl n s.tick s.tick) s

/-- The work of tick k for one set. -/
def State.acqSetTick (s : State) (n k : Nat) : State :=
  let s := s.acqCtl n k k
  let pre := lenPre (s.ac (pACQS n) R.ACQ_SET_LEN)
  let s := s.setAset n ((s.aset n).arm pre)
  let m := cfgSubs (s.acqCfg n)
  let mine (t : Nat × AcqTrig) : Bool := t.1 == n && decide (tickOfNs (t.2.time / 16) ≤ k)
  let waiting := (s.acq.trigIn.filter mine).map (fun t => t.2)
  let s := s.updAcq (fun a => { a with trigIn := a.trigIn.filter (fun t => !mine t) })
  let frozen := (s.aset n).state = 4
  if (s.aset n).state = 0 then (waiting ++ s.acqEvents n k).foldl (fun s t => s.acqPlace n k t) s
  else
    let s := s.readAt (s.acqReads n k) 5 n
    let r := s.acqBuild n k
    let a := s.acqSampled n k r.1 r.2
    let b := a.1.acqMasks n k r.2
    let all := byTime (waiting ++ s.acqEvents n k ++ a.2 ++ b.2)
    let now := all.filter (fun t => tickOfNs (t.time / 16) ≤ k)
    let s := b.1.updAcq (fun q => { q with trigIn := q.trigIn ++ (all.filter (fun t => k < tickOfNs (t.time / 16))).map (fun t => (n, t)) })
    let trig := now.any (fun t => tickOfNs (t.time / 16) == k)
    let blk := { r.1 with flags := r.1.flags ||| b2n trig }
    let s := now.foldl (fun s t => s.acqPlace n k t) s
    let s := if frozen then s else s.acqRing n blk
    let s := match (s.aset n).cur.bind s.arec with
      | some q => if k ≤ q.stop then s.acqStage q.id blk else s
      | none => s
    let y : AcqSet := { s.aset n with
      hist := (((r.2.zipIdx.map (fun e => (k * m + e.2, e.1))).reverse) ++ (s.aset n).hist).take 64,
      binPrev := r.1.bin.map (fun v => v.1) }
    let s := s.setAset n (y.arm pre)
    let s := match y.cur.bind s.arec with
      | some q => if q.stop ≤ k then s.acqEnd n k 0 else s
      | none => s
    s.acqCtl n k (k + 1)

/-- The next tick capture works on: the oldest final tick after the last one whose filters have finished. -/
def State.acqNext (s : State) : Option Nat :=
  let fs := (s.sva.finals.map (fun f => f.1)).filter (fun k => match s.acq.last with | some l => decide (l < k) | none => true)
  match fs.min? with
  | some k => if s.fltDone k then some k else none
  | none => none

/-- ACQ_TICK_BLOCK: every set's block and triggers of the next tick. -/
def State.acqTick (s : State) : State :=
  if !(s.hd pACQ).enable then s
  else match s.acqNext with
    | none => s
    | some k =>
      let s := iter 4 (fun n s => s.acqSetTick n k) s
      let s := { s with thrAcq := s.thrAcq.filter (fun v => k < v.tick), acqGoose := [] }
      s.updAcq (fun a => { a with last := some k })

/-- ACQ_TICK_BLOCK (R318). -/
def execAcqTickBlock (s : State) : Host.Outcome State Fault Refusal := act State.onMain State.acqTick s

end Sys2Proof.Machine
end

