-- ==== Sys2Proof/Machine/Region.lean ====
section
/-!
DEFINITION. What a function may reach in memory and what its dirty log marks (R225, R235 to R237, R242).
-/
namespace Sys2Proof.Machine

/-- Pages of function f and of skidder k. -/
abbrev pVFM (f : Nat) : Nat := 0x140 + f
abbrev pSKD (k : Nat) : Nat := 0x180 + k

def State.vf (s : State) (f : Nat) : Vf := sget {} f s.vfs
def State.setVf (s : State) (f : Nat) (x : Vf) : State := { s with vfs := sset {} f x s.vfs }

/-! ### Windows (R225, R235 to R237) -/

/-- A byte range lies inside one memory of R225. -/
def inMemory (a n : Nat) : Bool :=
  a + n ≤ 0x800000000 || (0x1000000000 ≤ a && a + n ≤ 0x1001000000) || (0x1100000000 ≤ a && a + n ≤ 0x1101000000)

def winAddr (f r : Nat) : Nat := 0x00E00000 + f * 0x400 + r * 16

/-- Regions of a VF that are valid: number, RD, WR, first byte, end. -/
def State.regions (s : State) (f : Nat) : List (Nat × Bool × Bool × Nat × Nat) :=
  (List.range 64).filterMap (fun r =>
    let w := s.tw (winAddr f r)
    if bit w 31 then
      some (r, bit w 30, bit w 29, fld (s.tw (winAddr f r + 4)) 0 28 * 4096, fld (s.tw (winAddr f r + 8)) 0 28 * 4096 + 4096)
    else none)

/-- An access of a function is permitted. -/
def State.permit (s : State) (f a n : Nat) (rd wr : Bool) : Bool :=
  inMemory a n && (f = 0 || (s.regions f).any (fun r => (!rd || r.2.1) && (!wr || r.2.2.1) && r.2.2.2.1 ≤ a && a + n ≤ r.2.2.2.2))

/-! ### Dirty log (R242) -/

/-- Bits of a dirty bitmap that stand for a byte range: pages of the valid regions below a region, plus the page within it. -/
def State.dirtyBits (s : State) (f a n : Nat) : List Nat :=
  let rs := s.regions f
  rs.zipIdx.flatMap (fun r =>
    let base := ((rs.take r.2).map (fun q => (q.2.2.2.2 - q.2.2.2.1) / 4096)).sum
    let lo := max a r.1.2.2.2.1
    let hi := min (a + n) r.1.2.2.2.2
    if hi ≤ lo then [] else (List.range ((hi - 1) / 4096 + 1 - lo / 4096)).map (fun i => base + lo / 4096 + i - r.1.2.2.2.1 / 4096))

/-- Bytes written for a VF are marked in a bitmap of the dirty log. -/
def State.dirtyMark (s : State) (f : Nat) (bm : Bool) (a n : Nat) : State :=
  if f = 0 || !bit (s.ac (pVFM f) R.VFM_DIRTY_CFG) 0 then s
  else
    let b := s.ac64 (pVFM f) (if bm then R.VFM_DIRTY_BASE1 else R.VFM_DIRTY_BASE0)
    { s with
      mem := (s.dirtyBits f a n).foldl (fun m i =>
        let v := (sget (0 : Byte) (b + i / 8) m).toNat
        sset 0 (b + i / 8) (BitVec.ofNat 8 (v ||| 2 ^ (i % 8))) m) s.mem }

/-! ### Kerf copies (R234) -/

def State.skd (s : State) (k : Nat) : Skd := sget {} k s.skds
def State.setSkd (s : State) (k : Nat) (x : Skd) : State := { s with skds := sset {} k x s.skds }

/-- The skidder that makes kerf copies. -/
def State.kerfSkd (s : State) : Nat :=
  let k := fld (s.ac (pVFM 0) R.VFM_KERF_SKD) 0 4
  if s.unusable (pSKD k) then ((List.range 16).find? (fun n => !s.unusable (pSKD n))).getD k else k

/-- A kerf copy for function f runs. -/
def State.kerfBusy (s : State) (f : Nat) : Bool := s.skds.any (fun e => e.2.kerf.any (fun c => c.1 == f && s.clkNs < c.2))

/-- A kerf copy runs on a skidder other than k. -/
def State.kerfElse (s : State) (k : Nat) : Bool := s.skds.any (fun e => e.1 != k && e.2.kerf.any (fun c => s.clkNs < c.2))

/-- A kerf copy of `n` bytes for function f starts: counted, with its duration at 37.5 GB/s in 0.1 µs; copies follow each other. -/
def State.kerfCopied (s : State) (f n : Nat) : State :=
  let k := s.kerfSkd
  let x := s.skd k
  let from_ := (x.kerf.map (fun c => c.2)).foldl max s.clkNs
  let s := s.setSkd k { x with kerf := x.kerf.filter (fun c => s.clkNs < c.2) ++ [(f, from_ + cdiv (n * 10) 375)] }
  (s.bump (pSKD k) R.SKD_CNT_KERF_COPY).setRg (pSKD k) R.SKD_KERF_LAST (w32 (min 0xFFFF (cdiv n 3750)))

/-- Bytes copied for function f in whole words (R386), on the kerf's skidder. -/
def State.copyMem (s : State) (f src dst n : Nat) : State :=
  let r := s.readMem src n 3 s.kerfSkd
  (r.2.2.writeMem dst r.1 3 s.kerfSkd).2.dirtyMark f (s.vf f).bitmap dst n

end Sys2Proof.Machine
end

