-- ==== Sys2Proof/Machine/Goose.lean ====
section
/-!
DEFINITION. The GOOSE subscriber and publisher (R211 to R217) and the on-line change of an instance (R204 to R210).
-/
namespace Sys2Proof.Machine

/-! ### Subscriptions (R211 to R214) -/

def gsubAddr (n : Nat) : Nat := 0x00D80000 + n * 256
def gpubAddr (n : Nat) : Nat := 0x00DC0000 + n * 128
def State.gw (s : State) (n w : Nat) : Word := s.tw (gsubAddr n + 4 * w)
def State.pw (s : State) (n w : Nat) : Word := s.tw (gpubAddr n + 4 * w)
def State.gsub (s : State) (n : Nat) : GSub := sget {} n s.cyc.gsubs
def State.setGsub (s : State) (n : Nat) (x : GSub) : State := s.updCyc (fun c => { c with gsubs := sset {} n x c.gsubs })
def State.gpub (s : State) (n : Nat) : GPub := sget {} n s.cyc.pubs
def State.setGpub (s : State) (n : Nat) (x : GPub) : State := s.updCyc (fun c => { c with pubs := sset {} n x c.pubs })

/-- MEMBER_TYPE of member m from the eight words beginning at `f`. -/
def memType (f : Nat → Word) (m : Nat) : Nat := fld (f (6 + m / 8)) (4 * (m % 8)) 4

def gMembers (w0 : Word) : Nat := fld w0 16 7

/-- gocbRef of a subscription entry given as words (R489). -/
def gocbRef (ws : List Word) : List Byte :=
  (List.range (min 64 (fld ((ws[16]?).getD 0) 0 7))).map (strByte ws 17)

def State.gsubWords (s : State) (n : Nat) : List Word := s.tws (gsubAddr n) 64

def gSa (ws : List Word) : Nat := fld ((ws[3]?).getD 0) 0 16 * 2 ^ 32 + ((ws[2]?).getD 0).toNat

/-- Two entries would match the same frames. -/
def gClash (a b : List Word) : Bool :=
  let w (l : List Word) : Word := (l[0]?).getD 0
  fld (w a) 0 16 == fld (w b) 0 16 && gocbRef a == gocbRef b && !(bit (w a) 30 && bit (w b) 30 && gSa a != gSa b)

/-- ENTRY_ACTIVE of the CYC pages: one of the codes R40 leaves to a block, which its chapter does not give (log 49). -/
def entryActive : Nat := 0x40 + Config.cycEntryActive % 192

/-- Checks of a subscription write (R211, R214, R221): codes in the order zero, range, key, duplicate, active. -/
def State.gsubCheck (s : State) (n : Nat) (ws : List Word) : Option Nat :=
  let w (i : Nat) : Word := (ws[i]?).getD 0
  let auth := fld (w 4) 21 2
  let len := fld (w 4) 24 3
  let authOk := auth = 0 || (auth = 1 && 1 ≤ len && len ≤ 3) || (auth = 2 && (len = 0 || len = 2))
  let trip (k : Nat) : Nat := fld (w (14 + k / 2)) (16 * (k % 2)) 16
  let badTrip (k : Nat) : Bool :=
    (trip k).testBit 15 && (decide (gMembers (w 0) ≤ trip k / 256 % 64) || memType w (trip k / 256 % 64) != 0)
  if !bit (w 0) 31 then none
  else if gMembers (w 0) = 0 ∨ fld (w 16) 0 7 = 0 then some Err.zeroField
  else if 64 < gMembers (w 0) ∨ 64 < fld (w 16) 0 7 ∨ !authOk ∨ (List.range (min 64 (gMembers (w 0)))).any (fun m => 7 < memType w m) ∨
      (List.range 4).any badTrip then some Err.range
  else if auth ≠ 0 ∧ !(s.keyDest (fld (w 4) 0 8) 1 && (!bit (w 4) 16 || s.keyDest (fld (w 4) 8 8) 1)) then some 0x48
  else if (List.range 1024).any (fun o => o != n && bit (s.gw o 0) 31 && gClash ws (s.gsubWords o)) then some 0x47
  else if bit (s.gw n 0) 31 then some entryActive
  else none

/-- A subscription entry's write: a new one begins in WAIT. -/
def State.gsubWritten (s : State) (n : Nat) : State :=
  s.setGsub n { state := if bit (s.gw n 0) 31 then 1 else 0 }

/-- OR of the masks of the trip maps: TRIP of those whose member is TRUE, EXPIRED of those of expired entries (R306). -/
def State.gooseVector (s : State) : Nat × Nat :=
  s.cyc.gsubs.foldl (fun v e =>
    if !bit (s.gw e.1 0) 31 then v
    else (List.range 4).foldl (fun v k =>
      let t := fld (s.gw e.1 (14 + k / 2)) (16 * (k % 2)) 16
      if !t.testBit 15 then v
      else
        let on := match e.2.members[t / 256 % 64]? with | some m => m.2 != 0 | none => false
        (if on then v.1 ||| (t % 256) else v.1, if e.2.state = 3 then v.2 ||| (t % 256) else v.2)) v) (0, 0)

/-- The GOOSE vector is sent to the safety channels (R214, R306). -/
def State.sendGooseVec (s : State) : State :=
  let v := s.gooseVector
  { s with hwsIn := s.hwsIn ++ [(0, v.1, v.2)] }

/-- Value a member writes to its point, by MEMBER_TYPE (R213). -/
def memValue (t v : Nat) : Nat :=
  match t with
  | 0 => if v = 0 then 0 else 1
  | 1 => ofS 64 (toS 32 v)
  | 2 => v % 2 ^ 32
  | 3 => v % 2 ^ 32
  | 4 => v % 4
  | 5 => v % 2 ^ 13
  | 7 => v % 2 ^ 32
  | _ => v % 2 ^ 64

/-- Staged writes of a new state (R213): each member's point, and for a QUALITY member the quality of the point before. -/
def State.stageMembers (s : State) (n tag stamp : Nat) (ms : List (Nat × Nat)) : State :=
  let b := fld (s.gw n 5) 0 20
  let ws := ms.zipIdx.flatMap (fun m =>
    let own := [(tag, b + m.2, some (memValue m.1.1 m.1.2), 0, stamp)]
    if m.1.1 = 5 && b + m.2 ≠ 0 then own ++ [(tag, b + m.2 - 1, none, m.1.2 % 2 ^ 13, 0)] else own)
  s.updCyc (fun c => { c with gooseStage := c.gooseStage ++ ws })

/-- A frame passes the tests of R211 with the fields of R118 for its tag. -/
def State.gooseOk (s : State) (n : Nat) (p : GoosePdu) : Bool :=
  let w0 := s.gw n 0
  p.berOk && p.confRev == (s.gw n 1).toNat && !p.ndsCom && p.numEntries == gMembers w0 && p.members.length == gMembers w0 &&
    p.members.zipIdx.all (fun m => m.1.1 == memType (s.gw n) m.2) && p.sim == bit (s.ac 0x080 R.SVA_CFG) 1

def State.gooseAuth (s : State) (n : Nat) (p : GoosePdu) : Bool × State :=
  let w := s.gw n 4
  if fld w 21 2 = 0 then (true, s)
  else match p.tag with
    | none => (!bit w 23, s)
    | some t =>
      let len := tagBytes (fld w 24 3)
      let good (k : Option (List Byte)) : Bool :=
        match k with
        | none => false
        | some key => t.length == len && t == Config.gooseTag (fld w 21 2) len key { p with tag := none }
      let r := s.useKey (fld w 0 8) 1
      if good r.1 then (true, r.2)
      else if bit w 16 then
        let r2 := r.2.useKey (fld w 8 8) 1
        (good r2.1, r2.2)
      else (false, r.2)

/-- A new state accepted: staged by the tick of its stamp on a single module, reported in the next MAP frame in a pair
(R212, R358). -/
def State.gooseNew (s : State) (n stamp : Nat) (p : GoosePdu) : State :=
  if s.dupEn then
    s.updDup (fun d => { d with gooseNew := d.gooseNew ++
      [{ sub := n, stNum := p.stNum, sqNum := p.sqNum, stamp := stamp, members := p.members }] })
  else s.stageMembers n (tickOfNs (s.extend stamp)) stamp p.members

/-- One GOOSE frame offered to the subscriber (R211, R212): whether an entry matched it. -/
def State.gooseRx (s : State) (f : Frame) (stamp frac : Nat) (p : GoosePdu) : Bool × State :=
  match s.cyc.gsubs.find? (fun e => e.2.state != 0 && fld (s.gw e.1 0) 0 16 == f.appid &&
      gocbRef (s.gsubWords e.1) == p.gocbRef && (!bit (s.gw e.1 0) 30 || gSa (s.gsubWords e.1) == f.sa)) with
  | none => (false, s)
  | some (n, x) =>
    let cnt (v : Nat) : Nat := min 0xFFFFFFFF (v + 1)
    let x := { x with frames := cnt x.frames }
    if !s.gooseOk n p then (true, s.setGsub n x)
    else
      let a := s.gooseAuth n p
      let s := a.2
      if !a.1 then (true, s.setGsub n { x with authFail := cnt x.authFail })
      else
        let fresh := x.state = 1 || p.stNum != x.stNum
        let rep := !fresh && x.sqNum < p.sqNum
        if !fresh && !rep then (true, (s.setGsub n { x with dup := cnt x.dup }).bump (pCYC 0) R.CYC_CNT_GOOSE_DUP)
        else
          let back := x.state = 3
          let y := { x with
            state := 2, stNum := p.stNum, sqNum := p.sqNum, stamp := stamp, deadline := (stamp + p.tal * 1000000) % 2 ^ 32,
            members := if fresh then p.members else x.members }
          let s := s.setGsub n y
          let s := if fresh then
              { s with acqGoose := s.acqGoose ++ [(n, x.members, p.members, s.extend stamp * 16 + frac)] } else s
          let s := if fresh then s.gooseNew n stamp p else s
          (true, if fresh || back then s.sendGooseVec else s)

/-- An entry enters EXPIRED: its points keep their values and turn invalid and oldData (R212). -/
def State.gooseExpire (s : State) (n j : Nat) : State :=
  let x := s.gsub n
  let b := fld (s.gw n 5) 0 20
  let s := s.setGsub n { x with state := 3, expired := min 0xFFFFFFFF (x.expired + 1) }
  let s := s.updCyc (fun c => { c with gooseStage := c.gooseStage ++
    (List.range (gMembers (s.gw n 0))).map (fun m => (j, b + m, none, 2 ^ 20, 0)) })
  ((s.bump (pCYC 0) R.CYC_CNT_GOOSE_EXPIRED).irq (pCYC 0) 10).sendGooseVec

/-- GOOSE_EXPIRED of a single module (R212): the deadline has passed at the boundary just gone, compared under R94. -/
def State.gooseDeadline (s : State) (n : Nat) : State :=
  if (s.gsub n).state = 2 && !s.dup.paired && s.cyc.cyc.isSome && diff32 (s.gsub n).deadline (shortOf s.cyc.boundNs) < 0 then
    s.gooseExpire n s.cycNow
  else s

/-! ### Publications (R215 to R217) -/

/-- Member values of a publication from the points as committed: MEMBER_TYPE and encoded value. -/
def State.pubMembers (s : State) (n : Nat) : List (Nat × Nat) :=
  let b := fld (s.pw n 1) 0 20
  (List.range (gMembers (s.pw n 0))).map (fun m =>
    let t := memType (s.pw n) m
    (t, if t = 5 then (if b + m = 0 then Config.noPointQual else (s.readPt (b + m - 1)).qual) % 2 ^ 13
        else memValue t (s.readPt (b + m)).value))

/-- Bits [12:0] of the member points' qualities, looked at with CHG_QUAL = 1. -/
def State.pubQuals (s : State) (n : Nat) : List (Nat × Nat) :=
  if bit (s.pw n 0) 8 then
    (List.range (gMembers (s.pw n 0))).map (fun m => (8, (s.readPt (fld (s.pw n 1) 0 20 + m)).qual % 2 ^ 13))
  else []

/-- Template bytes of a publication (R489). -/
def State.pubTmpl (s : State) (n : Nat) : List Byte :=
  (List.range (min 512 (fld (s.pw n 5) 0 10))).map (fun i =>
    BitVec.ofNat 8 (fld (s.tw (0x00DD0000 + n * 512 + i / 4 * 4)) (8 * (i % 4)) 8))

/-- The quality byte of t (R217): LeapSecondsKnown, ClockFailure, ClockNotSynchronized, TimeAccuracy. -/
def timeQ (syncs : List Nat) : Nat :=
  128 + 64 * b2n (syncs.contains 3) + 32 * b2n (syncs.contains 0) + (if syncs.all (fun y => y == 1 || y == 2) then 20 else 31)

/-- The frame of a publication's state (R215, R217, R366): addresses and tag from its template. -/
def State.pubFrame (s : State) (n : Nat) (x : GPub) : Frame :=
  let t := s.pubTmpl n
  let num (l : List Byte) : Nat := ofBE (l.map (fun b => b.toNat))
  let tagged := num ((t.drop 12).take 2) == 0x8100
  let h := if tagged then 4 else 0
  let ns := tickStartNs x.tick
  let sa := if s.dupEn then fld (s.ac pDUP R.DUP_PAIR_MAC_HI) 0 16 * 2 ^ 32 + (s.ac pDUP R.DUP_PAIR_MAC_LO).toNat
            else num ((t.drop 6).take 6)
  {
    da := num (t.take 6), sa := sa,
    vlan := if tagged then some (num ((t.drop 14).take 2) / 2 ^ 13, num ((t.drop 14).take 2) % 2 ^ 12) else none,
    et := num ((t.drop (12 + h)).take 2), appid := num ((t.drop (14 + h)).take 2), size := t.length + 4,
    body := .goosePub {
      idx := n, tmpl := t, sec := x.utc, frac := nsOf ns * 2 ^ 24 / 1000000000,
      tq := timeQ x.syncs, stNum := x.stNum, sqNum := x.sqNum, tal := fld (s.pw n 4) 0 16,
      members := x.last.take (gMembers (s.pw n 0)) } }

/-- Offset of the repeat after offset d (R216): MIN_T, 2 MIN_T, 4 MIN_T …, then every MAX_T. -/
def nextRepeat (d maxT : Nat) : Nat := d + min d maxT

/-- The first offset of the schedule at or after `t` from offset d on; the fuel is above the doublings up to MAX_T. -/
def repeatFrom (maxT t : Nat) : Nat → Nat → Nat
  | 0, d => d
  | n + 1, d =>
    if t ≤ d then d else if maxT ≤ d then d + cdiv (t - d) (max 1 maxT) * max 1 maxT else repeatFrom maxT t n (nextRepeat d maxT)

/-- A publication in the kerf of cycle j (R216): a new state, a repeat due at the next boundary, or nothing; repeats of boundaries
passed over are left out. The members of an owner in its held cycle keep their values (R210). `quiet` evaluates without releasing
(R247). -/
def State.pubStep (s : State) (quiet : Nat → Bool) (n : Nat) : State :=
  let w0 := s.pw n 0
  let x := s.gpub n
  let own := (s.inst (fld w0 24 6)).state
  if !bit w0 31 || (x.stopped && own != 1) then s
  else if (own = 0 || own = 3) && !x.started then s
  else
    let j := s.cycNow
    let s := s.readAt ((List.range (gMembers (s.pw n 0))).map (fun m => Config.pointAt (fld (s.pw n 1) 0 20 + m))) 1 0
    let now := s.pubMembers n ++ s.pubQuals n
    let minT := fld (s.pw n 2) 0 13
    let maxT := fld (s.pw n 3) 0 19
    let new := !x.started || (now != x.last && !(s.inst (fld w0 24 6)).heldCyc)
    let due := x.relTick + repeatFrom maxT (j + 1 - x.relTick) 20 (x.next - x.relTick)
    if new then
      let st := if x.started then (if x.stNum = 2 ^ 32 - 1 then 1 else x.stNum + 1) else max 1 (x.stNum + 1)
      let syncs := ((s.cyc.closeSync.find? (fun e => e.1 == j)).map (fun e => e.2)).getD [s.tsu.sync.code]
      let y : GPub :=
        {
          started := true, stNum := st, sqNum := 0, lastTag := tagOf j, tick := j,
          utc := (((secOf (tickStartNs j) : Int) - s.utcOff) % 2 ^ 32).toNat, syncs := syncs, relTick := j + 1,
          next := j + 1 + minT, last := now }
      let s := s.setGpub n y
      if quiet n then s else s.updCyc (fun c => { c with release := c.release ++ [(n, s.pubFrame n y)] })
    else if due = j + 1 then
      let d := due - x.relTick
      let y := { x with stopped := false, sqNum := if x.sqNum = 2 ^ 32 - 1 then 1 else x.sqNum + 1, next := x.relTick + nextRepeat d maxT }
      let s := s.setGpub n y
      if quiet n then s else s.updCyc (fun c => { c with release := c.release ++ [(n, s.pubFrame n y)] })
    else s

/-- Checks of a publication write (R215, R221). -/
def State.gpubCheck (s : State) (n : Nat) (ws : List Word) : Option Nat :=
  let w (i : Nat) : Word := (ws[i]?).getD 0
  let minT := fld (w 2) 0 13
  let maxT := fld (w 3) 0 19
  let len := fld (w 5) 0 10
  if !bit (w 0) 31 then none
  else if s.absent (0x140 + fld (w 0) 24 6) then some Err.capFull
  else if gMembers (w 0) = 0 ∨ minT = 0 ∨ maxT = 0 ∨ fld (w 4) 0 16 = 0 ∨ len = 0 then some Err.zeroField
  else if 64 < gMembers (w 0) ∨ 4800 < minT ∨ maxT < minT ∨ 288000 < maxT ∨ len < 64 ∨ 512 < len ∨
      (List.range (min 64 (gMembers (w 0)))).any (fun m => 7 < memType w m) then some Err.range
  else if bit (s.pw n 0) 31 then some entryActive
  else none

def State.gpubWritten (s : State) (n : Nat) : State := s.setGpub n {}

/-! ### On-line change (R204 to R210) -/

def State.updOlc (s : State) (f : Olc → Olc) : State := s.updCyc (fun c => { c with olc := f c.olc })

/-- Symbols carried from the old bank to the new (R205). -/
def carried (o n : Bank) : List (Sym × Sym) :=
  n.syms.filterMap (fun y => (o.syms.find? (fun x =>
    x.id == y.id && x.hash == y.hash && x.kind == y.kind && x.size == y.size && y.kind != 3)).map (fun x => (x, y)))

def carryBytes (o n : Bank) : Nat := ((carried o n).map (fun c => c.2.size)).sum

/-- A symbol table in strictly ascending SYMBOL_ID. -/
def symOrdered : List Sym → Bool
  | a :: b :: t => a.id < b.id && symOrdered (b :: t)
  | _ => true

/-- Counts of R205: carried, new, dropped, changed. -/
def olcCounts (o n : Bank) : Nat × Nat × Nat × Nat :=
  let c := (carried o n).length
  let has (b : Bank) (y : Sym) : Bool := b.syms.any (fun x => x.id == y.id)
  let changed := n.syms.filter (fun y => o.syms.any (fun x =>
    x.id == y.id && (x.hash != y.hash || x.kind != y.kind || x.size != y.size)))
  (c, (n.syms.filter (fun y => !has o y)).length, (o.syms.filter (fun y => !has n y)).length, changed.length)

/-- CYC_OLC_CMD.PREPARE (R205): the instance's active bank against the other, as they lie in instance memory. -/
def State.olcPrepare (s : State) : State :=
  let i := fld (s.rg (pCYC 0) R.CYC_OLC_INST) 0 6
  let o := s.bankOf i (s.inst i).bank
  let n := s.bankOf i (!(s.inst i).bank)
  let r (c : Nat) : State := s.refuse (pCYC 0) R.CYC_OLC_CMD c
  if s.absent (0x140 + i) then r Err.capFull
  else if 65536 < o.syms.length || 65536 < n.syms.length then r Err.range
  else if !symOrdered o.syms || !symOrdered n.syms then r 0x45
  else if 1 ≤ s.cyc.olc.state && s.cyc.olc.state ≤ 4 then r 0x42
  else if (s.inst i).state ≠ 1 then r 0x46
  else if 2 ^ 22 < carryBytes o n then r 0x43
  else s.updOlc (fun _ => { state := 1, inst := i, oldB := o, newB := n })

/-- Symbol matching is complete: PREPARED with its counts. -/
def State.olcPrepared (s : State) : State :=
  let x := s.cyc.olc
  if x.state ≠ 1 then s
  else
    let c := olcCounts x.oldB x.newB
    let b := carryBytes x.oldB x.newB
    let s := (s.setRg (pCYC 0) R.CYC_OLC_CARRY (w32 b)).setRg (pCYC 0) R.CYC_OLC_N_CARRIED (w32 c.1)
    let s := (s.setRg (pCYC 0) (R.CYC_OLC_N_CARRIED + 4) (w32 c.2.1)).setRg (pCYC 0) (R.CYC_OLC_N_CARRIED + 8) (w32 c.2.2.1)
    let s := s.setRg (pCYC 0) (R.CYC_OLC_N_CARRIED + 12) (w32 c.2.2.2)
    s.updOlc (fun x => { x with state := 2, extended := decide (2 ^ 18 < b) })

/-- A tick tag as a tick number near now: the tag holds the low 19 bits of SEC. -/
def State.untag (s : State) (v : Word) : Nat :=
  let sec := s.tick / 4800
  let lo := fld v 13 19
  let base := sec / 2 ^ 19 * 2 ^ 19 + lo
  let near := if sec + 2 ^ 18 < base then base - 2 ^ 19 else if base + 2 ^ 18 < sec then base + 2 ^ 19 else base
  near * 4800 + fld v 0 13

/-- CYC_OLC_CMD.ARM (R206): refused with OLC_LATE when the kerf of cycle SWITCH_TAG - 1 has started. -/
def State.olcArm (s : State) : State :=
  let t := s.untag (s.rg (pCYC 0) R.CYC_OLC_TAG)
  let j := s.cycNow
  if s.cyc.olc.state ≠ 2 then s.refuse (pCYC 0) R.CYC_OLC_CMD 0x46
  else if t ≤ j || (t = j + 1 && s.cyc.kerfDone) then s.refuse (pCYC 0) R.CYC_OLC_CMD 0x44
  else s.updOlc (fun x => { x with state := 3, tag := t, failOvr := false })

/-- CYC_OLC_CMD.ABORT. -/
def State.olcAbort (s : State) : State :=
  if s.cyc.olc.state = 2 || s.cyc.olc.state = 3 then s.updOlc (fun _ => {})
  else s.refuse (pCYC 0) R.CYC_OLC_CMD 0x46

/-- CYC_OLC_CMD.RELEASE: the old bank is freed after DONE. -/
def State.olcRelease (s : State) : State :=
  if s.cyc.olc.state = 5 then s.updOlc (fun _ => {}) else s.refuse (pCYC 0) R.CYC_OLC_CMD 0x46

/-- Step 5: the carried data goes from the old to the new data area; a carried timer keeps the new PRESET (R207). -/
def State.olcCopy (s : State) : State :=
  let x := s.cyc.olc
  (carried x.oldB x.newB).foldl (fun s c =>
    let src := x.oldB.base + c.1.off
    let dst := x.newB.base + c.2.off
    if c.2.kind = 1 then (s.copyMem x.inst src dst 8).copyMem x.inst (src + 12) (dst + 12) 4
    else if c.2.kind = 2 then s.copyMem x.inst src dst 8
    else s.copyMem x.inst src dst c.2.size) s

/-- Step 6: a new edge detector takes the current value of its input as PREV (R208): a point's value, or the symbol of the new bank at
that offset with its SIZE. -/
def State.olcEdges (s : State) : State :=
  let x := s.cyc.olc
  let old := (carried x.oldB x.newB).map (fun c => c.2.id)
  (x.newB.syms.filter (fun y => y.kind == 2 && !old.contains y.id)).foldl (fun s y =>
    let a := x.newB.base + y.off
    let ref := ofLE (s.bytes (a + 8) 4)
    let len := match x.newB.syms.find? (fun z => z.off == ref) with | some z => min 8 z.size | none => 8
    let v := if ref.testBit 31 then (s.pt (ref % 2 ^ 20)).value else ofLE (s.bytes (x.newB.base + ref) len)
    (s.writeMem a (bytesLE 8 v) 1 0).2.dirtyMark x.inst (s.vf x.inst).bitmap a 8) s

/-- The point the directory now gives an identity, the force's own where it still has it (R209). -/
def State.dirFind (s : State) (f : Force) : Option Nat :=
  if s.dirAt f.point = (f.id, f.hash) then some f.point
  else (s.dir.find? (fun e => e.2 == (f.id, f.hash) && f.hash != 0)).map (fun e => e.1)

/-- Instance whose write ranges hold a point. -/
def State.ownerOf (s : State) (p : Nat) : Option Nat := (List.range 64).find? (fun i => s.inRange (some i) p)

/-- A force whose identity is gone is dropped (R209). -/
def State.forceDrop (s : State) (e : Nat) (f : Force) : State :=
  let s := s.setTw (forceAddr e) (setBit (s.tw (forceAddr e)) 31 false)
  let s := (s.bump (pCYC 0) R.CYC_CNT_FORCE_DROPPED).irq (pCYC 0) 9
  ((match s.ownerOf f.point with | some i => s.cause i 6 | none => s)).cycRec 4 4 f.point e

/-- A force moves to the point that has its identity now. -/
def State.forceMove (s : State) (e : Nat) (f : Force) (p : Nat) : State :=
  let s := s.setTw (forceAddr e) (setFld (s.tw (forceAddr e)) 0 20 p)
  s.forceApply e { f with point := p, before := s.pt p, under := none }

/-- Step 7: directory entries of the instance are replaced from the new point list, forces checked (R209). Every force that does not
stay is lifted before one of them takes its new point. -/
def State.olcDir (s : State) : State :=
  let x := s.cyc.olc
  let s := (s.setDirs (x.oldB.points.map (fun p => (p.1, 0, 0)))).setDirs x.newB.points
  let go := s.cyc.forces.filter (fun f => s.dirFind f.2 != some f.2.point)
  let dst := go.map (fun f => (f, s.dirFind f.2))
  let s := go.foldl (fun s f => s.forceLift f.1 f.2) s
  dst.foldl (fun s f => match f.2 with | some p => s.forceMove f.1.1 f.1.2 p | none => s.forceDrop f.1.1 f.1.2) s

/-- Steps 6 to 8 (R206). -/
def State.olcSwitch (s : State) : State :=
  let i := s.cyc.olc.inst
  let s := s.olcEdges.olcDir
  let s := s.updInst i (fun x => { x with bank := !x.bank, heldCyc := false })
  let s := s.updOlc (fun x => { x with state := 5 })
  ((s.bump (pCYC 0) R.CYC_CNT_OLC).irq (pCYC 0) 8).cycRec 5 1 i (s.iw i 6).toNat

/-- Steps 5 to 8 in the kerf of cycle SWITCH_TAG - 1, or step 5 and a held cycle for a large carry (R206, R210). -/
def State.kerfOlc (s : State) : State :=
  let x := s.cyc.olc
  if x.state = 3 && x.tag ≤ s.cycNow + 1 then
    if (s.inst x.inst).acts.any (fun a => !a.done && a.cls != 7) || (s.inst x.inst).state ≠ 1 then
      s.updOlc (fun x => { x with state := 2, failOvr := true })
    else
      let s := s.olcCopy
      if x.extended then
        ((s.updOlc (fun x => { x with state := 4 })).updInst x.inst (fun y => { y with heldCyc := true, acts := [] })).bump
          (pCYC 0) R.CYC_CNT_OLC_HELD
      else s.olcSwitch
  else s

/-- OLC_HELD_CYCLE_END (R210): steps 6 to 8 in the kerf of cycle SWITCH_TAG. -/
def State.olcHeldEnd (s : State) : State :=
  let x := s.cyc.olc
  if x.state = 4 && s.cyc.kerfDone && x.tag ≤ s.cycNow then s.olcSwitch else s

/-- A CYC_OLC_CMD write. -/
def State.olcCmd (s : State) (v : Word) : State :=
  let s := if bit v 0 then s.olcPrepare else s
  let s := if bit v 1 then s.olcArm else s
  let s := if bit v 2 then s.olcAbort else s
  if bit v 3 then s.olcRelease else s

/-! ### Reads -/

/-- Read-only words of subscription and publication entries. -/
def State.gooseTblWord (s : State) (a : Nat) : Option Word :=
  if 0x00D80000 ≤ a ∧ a < 0x00DC0000 then
    let x := s.gsub ((a - 0x00D80000) / 256)
    match a % 256 / 4 with
    | 0 => some (setFld (s.tw a) 28 2 x.state)
    | 33 => some (w32 x.stNum)
    | 34 => some (w32 x.sqNum)
    | 35 => some (w32 x.stamp)
    | 36 => some (w32 x.deadline)
    | 37 => some (w32 x.frames)
    | 38 => some (w32 x.dup)
    | 39 => some (w32 x.expired)
    | 40 => some (w32 x.authFail)
    | _ => none
  else if 0x00DC0000 ≤ a ∧ a < 0x00DC8000 then
    let x := s.gpub ((a - 0x00DC0000) / 128)
    match a % 128 / 4 with
    | 14 => some (w32 x.stNum)
    | 15 => some (w32 x.sqNum)
    | 16 => some x.lastTag
    | _ => none
  else none

/-! ### The commands -/

/-- GOOSE_EXPIRED (R212) of subscription `n`. -/
def execGooseExpired (n : Nat) (s : State) : Host.Outcome State Fault Refusal :=
  act State.onMain (fun s => s.gooseDeadline n) s

/-- PREPARE_DONE (R205). -/
def execPrepareDone (s : State) : Host.Outcome State Fault Refusal := act State.onMain State.olcPrepared s

/-- ARM (R206). -/
def execArm (s : State) : Host.Outcome State Fault Refusal := actReg State.onMain (pCYC 0) State.olcArm s

/-- ABORT (R206). -/
def execAbort (s : State) : Host.Outcome State Fault Refusal := actReg State.onMain (pCYC 0) State.olcAbort s

/-- OLC_RELEASE (R206). -/
def execOlcRelease (s : State) : Host.Outcome State Fault Refusal := actReg State.onMain (pCYC 0) State.olcRelease s

/-- OLC_HELD_CYCLE_END (R210). -/
def execOlcHeldCycleEnd (s : State) : Host.Outcome State Fault Refusal := act State.onMain State.olcHeldEnd s

end Sys2Proof.Machine
end

