-- ==== Sys2Proof/Machine/AcqCmd.lean ====
section
/-!
DEFINITION. Commands of disturbance capture (chapter 13): starting and stopping sets, triggers from outside, the Choker, the
flusher and the record store.
-/
namespace Sys2Proof.Machine

/-! ### Sets (R316, R320, R321, R326) -/

/-- What refuses a START of a set: offset on its page and code. -/
def State.acqStartCheck (s : State) (n : Nat) : Option (Nat × Nat) :=
  let c := s.acqCfg n
  let masks := (List.range 64).filter (fun m => bit (s.tw (mHead m)) 31 && fld (s.tw (mHead m)) 29 2 == n)
  let nv (m : Nat) : Nat := fld (s.tw (mHead m + 4)) 0 9
  let rec rise : List (Nat × Int × Int) → Bool
    | a :: b :: t => a.1 < b.1 && rise (b :: t)
    | _ => true
  if cfgAnalog c = 0 ∧ cfgBinary c = 0 then some (R.ACQ_SET_CFG, Err.zeroField)
  else if masks.any (fun m => nv m == 0) then some (R.ACQ_SET_CMD, Err.zeroField)
  else if masks.any (fun m => nv m == 1 || 256 < nv m) then some (R.ACQ_SET_CMD, Err.range)
  else if masks.any (fun m => !rise (s.maskV m)) then some (R.ACQ_SET_CMD, 0x40)
  else none

/-- ACQ_SET_CMD.START. -/
def State.acqStart (s : State) (n : Nat) : State :=
  if s.asetState n ≠ 0 then s
  else match s.acqStartCheck n with
    | some (o, c) => s.refuse (pACQS n) o c
    | none => (s.setAset n { s.aset n with startNs := some s.ns }).accept (pACQS n)

/-- CTRL.START on page 0x1B0: every STOPPED set that has channels, all or none. Answers the page, offset and code of a refusal,
or the state after it. -/
def State.acqStartAll (s : State) : (Nat × Nat × Nat) ⊕ State :=
  let todo := (List.range 4).filter (fun n => s.asetState n == 0 && (cfgAnalog (s.acqCfg n) != 0 || cfgBinary (s.acqCfg n) != 0))
  match todo.findSome? (fun n => (s.acqStartCheck n).map (fun e => (pACQS n, e.1, e.2))) with
  | some e => .inl e
  | none => .inr (todo.foldl (fun s n => s.setAset n { s.aset n with startNs := some s.ns }) s)

/-- A set that is not STOPPED stops at the end of the current tick (`kind` 1 by command, 2 for a power failure); a pending START or RESUME is
withdrawn. -/
def State.acqStopAt (s : State) (n kind : Nat) : State :=
  let x := s.aset n
  s.setAset n { x with startNs := none, ctl := if s.asetState n = 0 then x.ctl else x.ctl ++ [(s.tick, kind)] }

/-- ACQ_SET_CMD.STOP: at the end of the current tick. -/
def State.acqStop (s : State) (n : Nat) : State := s.acqStopAt n 1

/-- ACQ_SET_CMD.RESUME. -/
def State.acqResume (s : State) (n : Nat) : State :=
  if s.asetState n = 4 then s.setAset n { s.aset n with startNs := some s.ns } else s

/-- A trigger placed from outside: it meets the block of its tick, or the next block. -/
def State.acqPut (s : State) (n : Nat) (t : AcqTrig) : State := s.updAcq (fun a => { a with trigIn := a.trigIn ++ [(n, t)] })

/-- A trigger from outside: ignored and counted in STOPPED and FROZEN (R321). -/
def State.acqGive (s : State) (n : Nat) (t : AcqTrig) : State :=
  if s.asetState n = 0 || s.asetState n = 4 then s.bump (pACQS n) R.ACQS_CNT_TRIG_IGNORED else s.acqPut n t

/-- ACQ_SET_CMD.TRIGGER. -/
def State.acqManual (s : State) (n : Nat) : State :=
  s.acqGive n { typ := 0, idx := 0, dir := 0, time := s.ns * 16, flags := 4 }

/-- ACQ_XTRIG_CMD. -/
def State.acqXtrig (s : State) (v : Word) : State :=
  let ns := fld (s.rg pACQ R.ACQ_XTRIG_NS) 0 30
  let total := (s.rg pACQ R.ACQ_XTRIG_SEC).toNat * 1000000000 + fld (s.rg pACQ (R.ACQ_XTRIG_SEC + 4)) 0 16 * 2 ^ 32 * 1000000000 + ns
  if 999999999 < ns ∨ s.ns < total then s.refuse pACQ R.ACQ_XTRIG_CMD Err.range
  else
    let s := s.bump pACQ R.ACQ_CNT_XTRIG
    iter 4 (fun n s =>
      if !bit v n then s else s.acqGive n { typ := 0, idx := 0, dir := 0, time := total * 16, flags := 2 }) s

/-- An edge captured on TIn triggers the sets whose tables name it, once for each entry that does (R324). -/
def State.acqTiEdge (s : State) (n : Nat) : State :=
  if !(s.hd pACQ).enable then s
  else iter 4 (fun g s =>
    let named := (List.range 64).filter (fun i =>
      let w := s.tw (tEntry g i)
      bit w 31 && fld w 28 3 == 3 && fld w 0 13 == n)
    named.foldl (fun (s : State) i =>
      s.acqGive g { typ := 3, idx := n, dir := fld (s.tw (tEntry g i)) 26 2, time := s.ns * 16 + s.frac }) s) s

/-- The power-fail warning: every set stops at the end of the tick in progress, its open record marked POWER_FAIL (R333). -/
def State.acqPowerFail (s : State) : State := iter 4 (fun n s => s.acqStopAt n 2) s

/-- Capture stops at once (R487): open records are closed with STOPPED, triggers not met yet are gone. -/
def State.acqHalt (s : State) : State :=
  let s := iter 4 (fun n s =>
    let s := if (s.aset n).state = 3 then s.acqEnd n (s.acq.last.getD s.tick) 8 else s
    s.setAset n { s.aset n with state := 0, startNs := none, ctl := [] }) s
  s.updAcq (fun a => { a with trigIn := [] })

/-! ### The Choker (R328) -/

/-- CHOKE_STEP: the decision of a tick with TICK_COUNT mod 480 = 0. -/
def State.chokeStep (s : State) : State :=
  let c := s.ac pACQ R.ACQ_CFG
  let k := s.tick
  let x := s.acq
  if !(s.hd pACQ).enable || !bit c 0 || k % 480 ≠ 0 || x.chokeTick = some k then s
  else
    let lam := if 402653184 < x.backlog && x.lam < fld c 8 3 then x.lam + 1
      else if x.backlog < 134217728 && 0 < x.lam then x.lam - 1 else x.lam
    let s := s.updAcq (fun a => { a with chokeTick := some k })
    if lam = x.lam then s
    else
      let s := s.updAcq (fun a => { a with
        lam := lam, chokes := ((k, x.lam, lam) :: a.chokes).take 128,
        recs := a.recs.map (fun r => if r.ended then r else { r with chokes := r.chokes + 1 }) })
      (s.bump pACQ R.ACQ_CNT_CHOKE_STEP).irq pACQ 6

/-! ### The flusher and the store (R327, R329, R330) -/

/-- The blocks that fit one unit, from the front. -/
def unitFill : Nat → List AcqBlk → Nat
  | _, [] => 0
  | room, b :: t => if b.size ≤ room then 1 + unitFill (room - b.size) t else 0

/-- Store one unit and count its bytes. -/
def State.putUnit (s : State) (u : Nat) (x : AcqUnit) : State :=
  let s := s.updAcq (fun a => { a with store := sput u x a.store })
  let s := s.updRec x.id (fun r => { r with units := u :: r.units })
  (s.bumpBy pACQ R.ACQ_CNT_FLASH_BYTES (64 + x.len)).flashWrote (64 + x.len)

/-- Index of a record's next unit. -/
def AcqRec.next (r : AcqRec) : Nat := r.units.length

/-- Payload bytes of a header unit: the fixed header with the trigger list, then the channel descriptors. -/
def AcqRec.headLen (r : AcqRec) : Nat := 640 + 16 * cfgAnalog (w32 r.cfg.1) + 8 * cfgBinary (w32 r.cfg.1)

/-- An entry of the record FIFO: RECORD_ID and ACQ_REC_INFO. -/
def recInfo (set unit : Nat) (noTrailer : Bool) : Nat := 2 ^ 31 + b2n noTrailer * 2 ^ 30 + set * 2 ^ 24 + unit

/-- Queue a record; a full FIFO leaves it in the store. -/
def State.recQueue (s : State) (id info : Nat) : State :=
  if 256 ≤ s.acq.fifo.length then s.bump pACQ R.ACQ_CNT_REC_FIFO_FULL
  else s.updAcq (fun a => { a with fifo := a.fifo ++ [(id, info)] })

/-- Blocks of a record still held in its ring. -/
def State.heldOf (s : State) (r : AcqRec) : List AcqBlk :=
  ((s.aset r.set).ring.filter (fun b => b.2 == some r.id)).map (fun b => b.1)

/-- A record whose data units are all written: none staged, no pre-extent block held, or those given up at a power failure. -/
def State.trailerDue (s : State) (r : AcqRec) : Bool :=
  r.ended && r.headed && !s.acq.stage.any (fun e => e.1 == r.id) && (s.pwr.pfMode || (s.heldOf r).isEmpty)

/-- FLASH_UNIT_WRITE: the flusher writes its next unit to the free unit `u` (R327); in a power-fail flush not before its
step 4 (R333, R429). -/
def State.flashUnit (s : State) (u : Nat) : State :=
  let a := s.acq
  let header := a.recs.find? (fun r => !r.headed)
  let staged := a.stage.head?
  let done := a.recs.find? s.trailerDue
  let held := a.recs.find? (fun r => !(s.heldOf r).isEmpty)
  let work := header.isSome || staged.isSome || done.isSome || (held.isSome && !s.pwr.pfMode)
  if !(s.hd pACQ).enable || !work || (s.pwr.pfMode && !s.evr.pf4) then s
  else if 65536 ≤ a.store.length || s.memSt.readOnly then s.irq pACQ 11
  else if 65535 < u || a.store.any (fun e => e.1 == u) then s
  else match header, staged, done, held with
    | some r, _, _, _ =>
      (s.putUnit u { id := r.id, idx := r.next, part := 0, len := r.headLen, rec_ := some r }).updRec r.id (fun r => { r with headed := true })
    | none, some (id, _), _, _ =>
      let mine := (a.stage.filter (fun e => e.1 == id)).map (fun e => e.2)
      let k := unitFill 1048512 mine
      let bs := mine.take k
      let s := s.updAcq (fun a => { a with stage := (a.stage.filter (fun e => e.1 != id)) ++ (mine.drop k).map (fun b => (id, b)) })
      -- the rest of the record keeps its place ahead of other records' blocks
      let s := s.updAcq (fun a => { a with stage := a.stage.filter (fun e => e.1 == id) ++ a.stage.filter (fun e => e.1 != id) })
      s.putUnit u { id := id, idx := (match s.arec id with | some r => r.next | none => 0), part := 2, len := (bs.map AcqBlk.size).sum, blocks := bs }
    | none, none, some r, _ =>
      let s := s.putUnit u { id := r.id, idx := r.next, part := 3, len := 128 + 4 * (r.units.length + 1), rec_ := some { r with units := u :: r.units } }
      let s := s.updAcq (fun a => { a with recs := a.recs.filter (fun x => x.id != r.id) })
      let x := s.aset r.set
      let s := s.setAset r.set { x with ring := x.ring.map (fun b => if b.2 = some r.id then (b.1, none) else b) }
      (s.recQueue r.id (recInfo r.set u false)).irq pACQ 5
    | none, none, none, some r =>
      let bs := s.heldOf r
      let bs := bs.take (unitFill 1048512 bs)
      let x := s.aset r.set
      let s := s.setAset r.set { x with ring := x.ring.map (fun b =>
        if b.2 = some r.id && bs.any (fun c => c.tick == b.1.tick) then (b.1, none) else b) }
      s.putUnit u { id := r.id, idx := r.next, part := 1, len := (bs.map AcqBlk.size).sum, blocks := bs }
    | none, none, none, none => s

/-- ACQ_CMD.RESCAN: every record of the store not released and not queued, up to the free entries (R330). -/
def State.acqRescan (s : State) : State :=
  let st := s.acq.store
  let ids := ((st.map (fun e => e.2.id)).eraseDups).filter (fun i => (s.arec i).isNone && !s.acq.fifo.any (fun f => f.1 == i))
  ids.foldl (fun s i =>
    if 256 ≤ s.acq.fifo.length then s
    else match st.find? (fun e => e.2.id == i && e.2.part == 3), st.find? (fun e => e.2.id == i && e.2.part == 0) with
      | some (u, x), _ => s.recQueue i (recInfo ((x.rec_.map (fun r => r.set)).getD 0) u false)
      | none, some (u, x) => s.recQueue i (recInfo ((x.rec_.map (fun r => r.set)).getD 0) u true)
      | none, none => s) s

/-- ACQ_REC_RELEASE: the units of the record whose trailer, or header where it has none, is named. -/
def State.acqRelease (s : State) (v : Word) : State :=
  let u := fld v 0 16
  match s.acq.store.find? (fun e => e.1 == u) with
  | none => s
  | some (_, x) =>
    let names := x.part = 3 || (x.part = 0 && !s.acq.store.any (fun e => e.2.id == x.id && e.2.part == 3) && (s.arec x.id).isNone)
    if names then s.updAcq (fun a => { a with store := a.store.filter (fun e => e.2.id != x.id) }) else s

/-- ACQ_REC_POP. -/
def State.acqRecPop (s : State) : State := s.updAcq (fun a => { a with fifo := a.fifo.drop 1 })

/-! ### COMMIT and table checks (R316, R320, R332) -/

/-- COMMIT checks of the ACQ pages: page, offset and code. -/
def State.acqCheck (s : State) : Option (Nat × Nat × Nat) :=
  (List.range 4).findSome? (fun n =>
    let p := pACQS n
    let c := s.rg p R.ACQ_SET_CFG
    let l := s.rg p R.ACQ_SET_LEN
    let size := blockBytes (cfgAnalog c) (cfgBinary c) (cfgSubs c)
    if s.asetState n ≠ 0 ∧ ((c &&& 0x1FFF07FF) ≠ (s.ac p R.ACQ_SET_CFG &&& 0x1FFF07FF) ∨ l ≠ s.ac p R.ACQ_SET_LEN) then
      some (p, R.ACQ_SET_CFG, Err.notStopped)
    else if 1024 < cfgAnalog c ∨ 2048 < cfgBinary c then some (p, R.ACQ_SET_CFG, Err.capFull)
    else if s.acqPart < (lenPre l + 480) * size then some (p, R.ACQ_SET_LEN, Err.range)
    else none)

/-- Table writes of ACQ: code of a refusal. -/
def State.acqWrCheck (s : State) (a : Nat) (ws : List Word) : Option Nat :=
  let w (i : Nat) : Word := (ws[i]?).getD 0
  let off := a - 0x00F20000
  if off < 0x10000 then
    let src := fld (w 0) 0 20
    let cap := match fld (w 0) 29 2 with | 0 => 4096 | 1 => 8192 | _ => 2 ^ 20
    if s.asetState (off / 0x4000) ≠ 0 then some Err.notStopped
    else if fld (w 0) 29 2 = 3 || cap ≤ src then some Err.range
    else if s.half && fld (w 0) 29 2 < 2 && cap / 2 ≤ src then some Err.capFull
    else none
  else if off < 0x20000 then
    if s.asetState ((off - 0x10000) / 0x4000) ≠ 0 then some Err.notStopped else none
  else if off < 0x21000 then
    if 5 < fld (w 0) 28 3 || fld (w 0) 26 2 = 3 then some Err.range
    else if bit (w 0) 31 && fld (w 0) 28 3 = 2 && s.half && 4096 ≤ fld (w 0) 0 13 then some Err.capFull
    else none
  else
    let m := if off < 0x21400 then (off - 0x21000) / 16 else (off - 0x30000) / 0x1000
    let h := s.tw (mHead m)
    if bit h 31 && s.asetState (fld h 29 2) ≠ 0 && !(off < 0x21400 && !bit (w 0) 31) then some Err.notStopped
    else if off < 0x21400 then
      (if fld (w 1) 0 9 = 1 || 256 < fld (w 1) 0 9 then some Err.range
      else if bit (w 0) 31 && s.half && 32 ≤ fld (w 0) 16 6 then some Err.capFull
      else none)
    else if (w 2).toInt < (w 1).toInt then some Err.range
    else none

/-- A live trigger write re-arms its entry (R325). -/
def State.acqWritten (s : State) (a : Nat) : State :=
  let off := a - 0x00F40000
  if 0x00F40000 ≤ a ∧ off < 0x1000 then
    let n := off / 0x400
    let i := off % 0x400 / 16
    s.setAset n { s.aset n with disarmed := (s.aset n).disarmed.erase i }
  else s

/-! ### Reads -/

/-- Read-only registers of the ACQ pages. -/
def State.acqRo (s : State) (p off : Nat) : Option Word :=
  let a := s.acq
  if p = 0 then
    let id := (a.fifo.head?.map (fun f => f.1)).getD 0
    if off = R.ACQ_STAGE_FILL then some (w32 (a.backlog / 1024))
    else if off = R.ACQ_CHOKE then some (w32 a.lam)
    else if off = R.ACQ_RING_BYTES then some (w32 s.acqPart)
    else if off = R.ACQ_STORE_FREE then some (w32 (65536 - a.store.length))
    else if off = R.ACQ_REC_LEVEL then some (w32 a.fifo.length)
    else if off = R.ACQ_REC_ID then some (w32 id)
    else if off = R.ACQ_REC_ID + 4 then some (w32 (id / 2 ^ 32))
    else if off = R.ACQ_REC_INFO then some (w32 ((a.fifo.head?.map (fun f => f.2)).getD 0))
    else none
  else
    let n := p - 1
    let x := s.aset n
    let c := s.acqCfg n
    let short := match x.cur.bind s.arec with | some r => r.flags.testBit 0 | none => false
    if off = R.ACQ_SET_STATUS then some (w32 (s.asetState n + b2n x.cur.isSome * 2 ^ 8 + b2n x.stall * 2 ^ 9 + b2n short * 2 ^ 10))
    else if off = R.ACQ_SET_REC then some (w32 x.lastId)
    else if off = R.ACQ_SET_REC + 4 then some (w32 (x.lastId / 2 ^ 32))
    else if off = R.ACQ_SET_TRIG_TAG then some x.trigTag
    else if off = R.ACQ_SET_BLOCK then some (w32 (blockBytes (cfgAnalog c) (cfgBinary c) (cfgSubs c)))
    else none

/-! ### The commands -/

/-- CHOKE_STEP (R328). -/
def execChokeStep (s : State) : Host.Outcome State Fault Refusal := act State.onMain State.chokeStep s

/-- FLASH_UNIT_WRITE (R327) to the free unit `u`. -/
def execFlashUnitWrite (u : Nat) (s : State) : Host.Outcome State Fault Refusal := act State.onMain (fun s => s.flashUnit u) s

/-- ACQ_SET_START (R321). -/
def execAcqSetStart (n : Nat) (s : State) : Host.Outcome State Fault Refusal :=
  actReg State.onMain (pACQS n) (fun s => if n < 4 then s.acqStart n else s) s

/-- ACQ_SET_STOP (R321). -/
def execAcqSetStop (n : Nat) (s : State) : Host.Outcome State Fault Refusal :=
  actReg State.onMain (pACQS n) (fun s => if n < 4 then s.acqStop n else s) s

/-- TRIGGER (R324). -/
def execTrigger (n : Nat) (s : State) : Host.Outcome State Fault Refusal :=
  actReg State.onMain (pACQS n) (fun s => if n < 4 then s.acqManual n else s) s

/-- RESUME (R321). -/
def execResume (n : Nat) (s : State) : Host.Outcome State Fault Refusal :=
  actReg State.onMain (pACQS n) (fun s => if n < 4 then s.acqResume n else s) s

/-- ACQ_XTRIG_CMD (R324) with SET_MASK in `v`. -/
def execAcqXtrigCmd (v : Word) (s : State) : Host.Outcome State Fault Refusal :=
  actReg State.onMain pACQ (fun s => s.acqXtrig v) s

/-- RESCAN (R330). -/
def execRescan (s : State) : Host.Outcome State Fault Refusal := actReg State.onMain pACQ State.acqRescan s

/-- ACQ_REC_RELEASE (R329) naming the unit in `v`. -/
def execAcqRecRelease (v : Word) (s : State) : Host.Outcome State Fault Refusal := actReg State.onMain pACQ (fun s => s.acqRelease v) s

/-- ACQ_REC_POP (R330). -/
def execAcqRecPop (s : State) : Host.Outcome State Fault Refusal := actReg State.onMain pACQ State.acqRecPop s

end Sys2Proof.Machine
end

