-- ==== Sys2Proof/Machine/Vfm.lean ====
section
/-!
DEFINITION. Function instances and skidders (chapter 9): queue pairs, descriptors, windows, skidder arbitration, ring
interrupts, resets, the dirty log.
-/
namespace Sys2Proof.Machine

def State.qp (s : State) (q : Nat) : Qp := sget {} q s.qps
def State.setQp (s : State) (q : Nat) (x : Qp) : State := { s with qps := sset {} q x s.qps }

/-! ### Queue-pair entries (R223, R249) -/

def qpAddr (q : Nat) : Nat := 0x00DF0000 + q * 32
def State.qw (s : State) (q w : Nat) : Word := s.tw (qpAddr q + 4 * w)
def State.qValid (s : State) (q : Nat) : Bool := bit (s.qw q 0) 31
def State.qFn (s : State) (q : Nat) : Nat := if q < 4 then 0 else fld (s.qw q 0) 24 6
def State.qLocal (s : State) (q : Nat) : Nat := fld (s.qw q 0) 16 3
def State.qSkd (s : State) (q : Nat) : Nat := fld (s.qw q 0) 8 4
/-- SIZE and base of a ring; direction 0 transmit, 1 receive. -/
def State.qSize (s : State) (q d : Nat) : Nat := fld (s.qw q 1) (16 * d) 13
def State.qBase (s : State) (q d : Nat) : Nat := (s.qw q (2 + 2 * d)).toNat + (s.qw q (3 + 2 * d)).toNat * 2 ^ 32
def Qp.head (x : Qp) (d : Nat) : Nat := if d = 0 then x.txHead else x.rxHead
def Qp.tail (x : Qp) (d : Nat) : Nat := if d = 0 then x.txTail else x.rxTail
/-- Status that stopped a ring of a pair; STOPPED of its entry: one of its rings is stopped (log 144). -/
def Qp.stop (x : Qp) (d : Nat) : Option Nat := if d = 0 then x.txStop else x.rxStop
def Qp.stopped (x : Qp) : Bool := x.txStop.isSome || x.rxStop.isSome

/-- The pair a function addresses by local index. -/
def State.qOf (s : State) (f l : Nat) : Option Nat :=
  (List.range 256).find? (fun q => s.qValid q && s.qFn q == f && s.qLocal q == l)

/-! ### Windows (R237) -/

/-- A window violation of a function (R237). -/
def State.winFault (s : State) (f : Nat) : State :=
  let s := (s.bump (pVFM f) R.VFM_CNT_WINDOW).irq (pVFM f) 4
  if f = 0 then s else s.cause f 5

/-! ### Ring interrupts (R238) -/

/-- An event of local route q of function f, moderated by ITR. -/
def State.ringEvent (s : State) (f l dir : Nat) : State :=
  let s := s.setRg (pVFM f) R.VFM_QP_EVT (setBit (s.rg (pVFM f) R.VFM_QP_EVT) (8 * dir + l) true)
  let w := s.rg (pVFM f) (R.VFM_QP_ROUTE + 4 * l)
  if !bit w 8 then s
  else
    let itr := fld (s.ac (pVFM f) (R.VFM_QP_ITR + 4 * l)) 0 16
    let x := s.vf f
    match x.itr.find? (fun e => e.1 == l) with
    | some e =>
      if s.clkNs < e.2.1 then
        s.setVf f { x with itr := x.itr.map (fun y => if y.1 == l then (l, y.2.1, true) else y) }
      else
        (s.setVf f { x with itr := (l, s.clkNs + itr * 1000, false) :: x.itr.filter (fun y => y.1 != l) }).fire (fld w 0 8)
    | none =>
      (s.setVf f { x with itr := if itr = 0 then x.itr else (l, s.clkNs + itr * 1000, false) :: x.itr }).fire (fld w 0 8)

/-- ITR_EXPIRY: merged events send one message. -/
def State.itrExpire (s : State) (f l : Nat) : State :=
  let x := s.vf f
  match x.itr.find? (fun e => e.1 == l) with
  | some (_, t, wait) =>
    if s.clkNs < t then s
    else
      let w := s.rg (pVFM f) (R.VFM_QP_ROUTE + 4 * l)
      let itr := fld (s.ac (pVFM f) (R.VFM_QP_ITR + 4 * l)) 0 16
      let rest := x.itr.filter (fun y => y.1 != l)
      if wait && bit w 8 then (s.setVf f { x with itr := (l, s.clkNs + itr * 1000, false) :: rest }).fire (fld w 0 8)
      else s.setVf f { x with itr := rest }
  | none => s

/-- Vectors of an instance that waited for its window are delivered as it opens. -/
def State.windowVecs (s : State) (i : Nat) : State :=
  (s.vecs.filter (fun v => v.2.target == 2 && v.2.owner == i && v.2.pending && !v.2.mask)).foldl
    (fun s v => (s.setVec v.1 { s.vec v.1 with pending := false }).fire v.1) s

/-! ### Frames in memory -/

/-- Bytes of a frame without FCS. -/
def frameBytes (f : Frame) : List Nat :=
  bytesBE 6 f.da ++ bytesBE 6 f.sa ++
  (match f.vlan with | some v => bytesBE 2 0x8100 ++ bytesBE 2 (v.1 * 8192 + v.2) | none => []) ++ bytesBE 2 f.et ++
  (match f.body with | .raw p => p.map (fun b => b.toNat) | b => Config.bodyBytes b)

/-- The frame that bytes without FCS spell. -/
def frameOf (bs : List Nat) : Frame :=
  let tagged := ofBE ((bs.drop 12).take 2) = 0x8100
  let h := if tagged then 4 else 0
  let et := ofBE ((bs.drop (12 + h)).take 2)
  let pay := bs.drop (14 + h)
  let typed := [0x88F7, 0x88B8, 0x88BA, 0x88FB].contains et
  {
    da := ofBE (bs.take 6), sa := ofBE ((bs.drop 6).take 6),
    vlan := if tagged then some (ofBE ((bs.drop 14).take 2) / 8192, ofBE ((bs.drop 14).take 2) % 4096) else none,
    et := et, appid := ofBE (pay.take 2), size := bs.length + 4,
    body := if typed then Config.bodyOf et pay else .raw (pay.map (BitVec.ofNat 8)) }

/-! ### Stopping a ring (R228) -/

/-- Requests of an operation in flight. -/
def State.opBusy (s : State) (ring addr : Nat) : Bool :=
  s.skds.any (fun e => e.2.reqs.any (fun r => r.ring == ring && r.desc == addr && !r.squashed && !r.orphan))

/-- A ring stops with a status, one that is stopped already keeps its own. After RING_FAULT nothing more of the ring is issued or
completed. -/
def State.ringStop (s : State) (q d st : Nat) : State :=
  let x := s.qp q
  if (x.stop d).isSome then s
  else
    let y := if x.stopped then x else { x with stopDir := d }
    let s := s.setQp q (if d = 0 then { y with txStop := some st } else { y with rxStop := some st })
    let s : State := if st = 0x0A then
        { s with ops := (s.ops.filter (fun o => o.ring != 2 * q + d || (o.status.isNone && s.opBusy o.ring o.addr))).map (fun o =>
          if o.ring == 2 * q + d then { o with cut := true } else o) }
      else s
    s.irq (pVFM (s.qFn q)) 10

/-- A function is being reset (R239). -/
def State.fnReset (s : State) (f : Nat) : Bool := 1 ≤ (s.vf f).reset && (s.vf f).reset ≤ 3

/-- A function's rings take nothing: it is frozen or being reset. -/
def State.fnHeld (s : State) (f : Nat) : Bool := (s.vf f).frozen || s.fnReset f

/-! ### Descriptor fetch (R226 to R228, R237) -/

/-- An operation is known by its ring and the address of its descriptor. -/
def Op.is (o : Op) (ring addr : Nat) : Bool := o.ring == ring && o.addr == addr

def State.updOp (s : State) (ring addr : Nat) (f : Op → Op) : State :=
  { s with ops := s.ops.map (fun o => if o.is ring addr then f o else o) }

/-- Operations of a ring in progress. -/
def State.ringOps (s : State) (ring : Nat) : List Op := s.ops.filter (fun o => o.ring == ring)

/-- The descriptor at an index of a ring: its words, or none when the fetch fails its window or meets poison. -/
def State.fetchDesc (s : State) (q d idx : Nat) : Option (List Word) × State :=
  let f := s.qFn q
  let base := s.qBase q d
  let size := s.qSize q d
  if !s.permit f base (size * 32) true true then (none, s.winFault f)
  else
    let r := s.readMem (base + idx * 32) 32 3 (s.qSkd q)
    if r.2.1 then (none, r.2.2)
    else (some ((List.range 8).map (fun i => w32 (ofLE ((r.1.drop (4 * i)).take 4)))), r.2.2)

/-- Status a transmit descriptor gets before any data access, if it gets one (R228). -/
def State.txEarly (s : State) (f : Nat) (ws : List Word) : Option Nat :=
  let w (i : Nat) : Word := (ws[i]?).getD 0
  let op := fld (w 0) 28 4
  let len := (w 1).toNat
  let src := (w 2).toNat + (w 3).toNat * 2 ^ 32
  let dst := (w 4).toNat + (w 5).toNat * 2 ^ 32
  if (op ≠ 1 ∧ op ≠ 2) ∨ (bit (w 0) 23 ∧ f ≠ 0) then some 5
  else if len = 0 then some 1
  else if op = 1 ∧ 9014 < len then some 2
  else if !s.permit f src len true false then some 3
  else if op = 2 ∧ !s.permit f dst len false true then some 3
  else none

/-- Bytes of the next request of a range: up to 256, within a 256-byte boundary. -/
def reqLen (a n : Nat) : Nat := min n (256 - a % 256)

/-- What an operation could issue next: a read or a write with its address, offset and length. -/
def Op.next (o : Op) (tags slots : Nat) : Option (Bool × Nat × Nat × Nat) :=
  if o.status.isSome || o.cut then none
  else if o.kind ≠ 3 && o.rdNext < o.len && tags < 64 then
    some (false, o.src + o.rdNext, o.rdNext, reqLen (o.src + o.rdNext) (o.len - o.rdNext))
  else if o.kind ≠ 1 && o.wrNext < o.buf.length && slots < 32 then
    let n := reqLen (o.dst + o.wrNext) (o.len - o.wrNext)
    if o.wrNext + n ≤ o.buf.length then some (true, o.dst + o.wrNext, o.wrNext, n) else none
  else none

/-- An operation still has requests to issue. -/
def Op.unissued (o : Op) : Bool :=
  o.status.isNone && !o.cut && ((o.kind ≠ 3 && o.rdNext < o.len) || (o.kind ≠ 1 && o.wrNext < o.len))

/-- Operations of function f with requests to issue on skidder k. -/
def State.openOps (s : State) (k f : Nat) : List Op :=
  s.ops.filter (fun o => o.fn == f && s.qSkd (o.ring / 2) == k && o.unissued)

/-- The operation function f has in service on skidder k: the last one while it has requests to issue, then the oldest of the next pair
in turn (R232). -/
def State.serviceOp (s : State) (k f : Nat) : Option Op :=
  let os := s.openOps k f
  match (s.skd k).serving.find? (fun e => e.1 == f) with
  | none => os.head?
  | some (_, ring, a) =>
    (os.find? (fun o => o.is ring a)).orElse (fun _ =>
      let turn (o : Op) : Nat := (o.ring / 2 + 255 - ring / 2) % 256
      os.find? (fun o => os.all (fun p => turn o ≤ turn p)))

/-- The next request of function f on skidder k, with its operation: none without tag, slot or data for it, nor to DRAM while a kerf copy
runs on another skidder (R234). -/
def State.nextReq (s : State) (k f : Nat) : Option (Op × Req) :=
  let x := s.skd k
  match s.serviceOp k f with
  | none => none
  | some o =>
    match o.next (x.reqs.filter (fun r => !r.wr)).length (x.reqs.filter (fun r => r.wr)).length with
    | none => none
    | some (wr, a, off, n) =>
      if a < 0x800000000 && s.kerfElse k then none
      else
        some (o,
          {
            fn := f, ring := o.ring, desc := o.addr, wr := wr, addr := a, off := off, len := n, bitmap := (s.vf f).bitmap,
            data := if wr then (o.buf.drop off).take n else [],
            pois := if wr then (o.pois.filter (fun p => off ≤ p && p < off + n)).map (fun p => (o.dst + p) / 8 * 8) else [] })

/-- A function's credit on a skidder. -/
def Skd.creditOf (x : Skd) (f : Nat) : Int := ((x.credit.find? (fun e => e.1 == f)).map (fun e => e.2)).getD 0

/-- A request is issued. -/
def State.issue (s : State) (k : Nat) (o : Op) (r : Req) : State :=
  let s := s.updOp o.ring o.addr (fun o => if r.wr then { o with wrNext := r.off + r.len } else { o with rdNext := r.off + r.len })
  let x := s.skd k
  let reqs := x.reqs ++ [r]
  s.setSkd k { x with
    reqs := reqs, credit := sput r.fn (x.creditOf r.fn - r.len) x.credit, serving := sput r.fn (o.ring, o.addr) x.serving,
    peakRd := max x.peakRd (reqs.filter (fun r => !r.wr)).length, peakWr := max x.peakWr (reqs.filter (fun r => r.wr)).length }

/-- Functions with work pending on a skidder. -/
def State.pendingFns (s : State) (k : Nat) : List Nat := (List.range 64).filter (fun f => !(s.openOps k f).isEmpty)

/-- Deficit round robin (R232): requests are issued while tags, slots and work last; the fuel bounds visits and requests. -/
def State.skdRun (s : State) (k : Nat) : Nat → State
  | 0 => s
  | n + 1 =>
    let x := s.skd k
    let pend := s.pendingFns k
    if pend.isEmpty then s.setSkd k { x with credit := [] }
    else if pend.all (fun f => (s.nextReq k f).isNone) then s
    else match if pend.contains x.cur && decide (0 < x.creditOf x.cur) then s.nextReq k x.cur else none with
      | some (o, r) => (s.issue k o r).skdRun k n
      | none =>
        let nxt := (pend.find? (fun f => x.cur < f)).getD (pend.headD 0)
        let w := fld (s.ac (pVFM nxt) R.VFM_FN_CFG) 16 8
        let keep := x.credit.filter (fun e => pend.contains e.1)
        (s.setSkd k { x with cur := nxt, credit := sput nxt (x.creditOf nxt + (w * 256 : Nat)) keep }).skdRun k n

/-- A skidder issues what it can; a fenced one nothing. -/
def State.skdGo (s : State) (k : Nat) : State := if s.unusable (pSKD k) then s else s.skdRun k 6400

/-- Every skidder issues what it can: tags, slots or DRAM have become free. -/
def State.skdAll (s : State) : State := (List.range 16).foldl State.skdGo s

/-- DESCRIPTOR_FETCH of a transmit ring: the head descriptor, one operation at a time (R226, R231). -/
def State.descFetch (s : State) (q : Nat) : State :=
  let x := s.qp q
  let f := s.qFn q
  if !s.qValid q || x.txStop.isSome || s.fnHeld f || x.txHead = x.txTail || !(s.ringOps (2 * q)).isEmpty || 255 < q then s
  else if s.unusable (pSKD (s.qSkd q)) then s
  else
    let r := s.fetchDesc q 0 x.txHead
    let s := r.2
    match r.1 with
    | none => s.ringStop q 0 0x0A
    | some ws =>
      let w (i : Nat) : Word := (ws[i]?).getD 0
      let o : Op :=
        {
          ring := 2 * q, fn := f, kind := if fld (w 0) 28 4 = 2 then 2 else 1, desc := ws, addr := s.qBase q 0 + x.txHead * 32,
          src := (w 2).toNat + (w 3).toNat * 2 ^ 32, dst := (w 4).toNat + (w 5).toNat * 2 ^ 32, len := (w 1).toNat }
      match s.txEarly f ws with
      | some st =>
        let s := if st = 3 then s.winFault f else s
        { s with ops := s.ops ++ [{ o with status := some st }] }
      | none => ({ s with ops := s.ops ++ [o] }).skdGo (s.qSkd q)

/-! ### Returns (R231) -/

/-- An operation whose data is complete gets its status; a frame's data goes to H1 (R227, R369). -/
def State.opSettle (s : State) (ring addr : Nat) : State :=
  match s.ops.find? (fun o => o.is ring addr && o.status.isNone) with
  | none => s
  | some o =>
    let busy := s.opBusy ring addr
    let put (st : Nat) (s : State) : State := s.updOp ring addr (fun p => { p with status := some st })
    if o.cut then (if busy then s
      else if (s.vf o.fn).frozen || (s.qp (ring / 2)).stop (ring % 2) = some 0x0A then
        { s with ops := s.ops.filter (fun p => !p.is ring addr) }
      else (put 6 s).bump (pSKD (s.qSkd (ring / 2))) R.SKD_CNT_CUT)
    else if o.kind = 1 then
      if o.buf.length < o.len then s
      else if !o.pois.isEmpty then put 4 s
      else
        let w (i : Nat) : Word := (o.desc[i]?).getD 0
        let q := ring / 2
        let role := bit (s.tw (0x00FA1120 + q / 32 * 4)) (q % 32)
        if role && (s.failed || (s.dupEn && !s.dup.active)) then (put 0 s).bump pDUP R.DUP_CNT_RB_SUPPRESSED
        else
          let f0 := frameOf o.buf
          let sa := fld (s.ac pDUP R.DUP_PAIR_MAC_HI) 0 16 * 2 ^ 32 + (s.ac pDUP R.DUP_PAIR_MAC_LO).toNat
          let fr := if bit (w 0) 26 && role && s.dupEn then { f0 with sa := sa } else f0
          let it : H1Item :=
            {
              fn := some o.fn, frame := fr, seq := if bit (w 0) 26 then some (fld (w 4) 16 16) else none,
              tsReq := if bit (w 0) 27 then some (fld (w 4) 0 16) else none,
              oneStep := if bit (w 0) 25 then some (w 5).toNat else none, ring := some ring,
              direct := if bit (w 0) 23 then some (fld (w 6) 0 16) else none }
          (put 0 s).updSwc (fun c => { c with h1q := c.h1q ++ [it] })
    else if o.wrDone < o.len then s
    else put (if o.memErr then 9 else if !o.pois.isEmpty then 4 else if o.trunc then 8 else 0) s

/-- A read's data returns. -/
def State.readBack (s : State) (k : Nat) (r : Req) : State :=
  let m := s.readMem r.addr r.len 3 k
  let bad := if m.2.1 then
      (List.range (r.len / 8 + 2)).filterMap (fun i =>
        let a := r.addr / 8 * 8 + 8 * i
        if a < r.addr + r.len && sget false (a / 8) m.2.2.poison then some (r.off + a - r.addr) else none)
    else []
  let s := m.2.2.bumpBy (pSKD k) R.SKD_CNT_BYTES_RD r.len
  let s := if m.2.1 then (s.bump (pSKD k) R.SKD_CNT_POISON).irq (pSKD k) 5 else s
  if r.orphan then s else s.updOp r.ring r.desc (fun o => { o with buf := o.buf ++ m.1, pois := o.pois ++ bad })

/-- A write is accepted by memory. -/
def State.writeBack (s : State) (k : Nat) (r : Req) : State :=
  let m := s.writeMem r.addr r.data 3 k
  let s := m.2.bumpBy (pSKD k) R.SKD_CNT_BYTES_WR r.len
  let s := if m.1 then s.bump (pSKD k) R.SKD_CNT_MEM_ERR else s
  let s := r.pois.foldl (fun s a => s.setWordState a true) s
  let s := s.dirtyMark r.fn r.bitmap r.addr r.len
  if r.orphan then s else s.updOp r.ring r.desc (fun p => { p with wrDone := p.wrDone + r.len, memErr := p.memErr || m.1 })

/-- SKIDDER_RETURN of the i-th request in flight of skidder k: returns of one ring and kind come in order (log 61). -/
def State.skdReturn (s : State) (k i : Nat) : State :=
  let x := s.skd k
  match x.reqs[i]? with
  | none => s
  | some r =>
    if (x.reqs.take i).any (fun q => q.ring == r.ring && q.desc == r.desc && q.wr == r.wr && !q.squashed) && !r.squashed then s
    else
      let s := s.setSkd k { x with reqs := x.reqs.eraseIdx i }
      let s := if r.squashed then s else (if r.wr then s.writeBack k r else s.readBack k r)
      let s := if r.squashed || r.orphan then s else s.opSettle r.ring r.desc
      s.skdGo k

/-! ### Completion (R227 to R229, R238) -/

/-- DESCRIPTOR_COMPLETE of a ring's oldest operation once its status is known; a frame's once it has been enqueued or
refused at every target (R227). -/
def State.descComplete (s : State) (ring : Nat) : State :=
  match s.ops.find? (fun o => o.ring == ring) with
  | none => s
  | some o =>
    let q := ring / 2
    let d := ring % 2
    let f := o.fn
    if o.status.isNone || (s.qp q).stop d = some 0x0A || s.swc.h1q.any (fun i => i.ring == some ring) then s
    else
      let st := o.status.getD 0
      let s := { s with ops := s.ops.eraseP (fun p => p.ring == ring) }
      let r1 := if d = 1 && (st = 0 || st = 8 || st = 9) then
          s.writeMem (o.addr + 16) ((o.rxWords.take 3).flatMap (fun w => bytesLE 4 w.toNat)) 3 (s.qSkd q) else (false, s)
      let r2 := if r1.1 then r1 else r1.2.writeMem (o.addr + 28) (bytesLE 4 (2 ^ 31 + st)) 3 (s.qSkd q)
      let s : State := r2.2.dirtyMark f (s.vf f).bitmap o.addr 32
      if r2.1 then s.ringStop q d 0x0A
      else
        let x := s.qp q
        let size := s.qSize q d
        let adv (h : Nat) : Nat := if size = 0 then h else (h + 1) % size
        let s := s.setQp q (if d = 0 then { x with txHead := adv x.txHead } else { x with rxHead := adv x.rxHead })
        let s := (s.bump (pVFM f) R.VFM_CNT_DESC).bump (pSKD (s.qSkd q)) R.SKD_CNT_OPS
        let s := match st with
          | 1 => s.bump (pVFM f) R.VFM_CNT_ZERO_LEN
          | 4 => (s.bump (pVFM f) R.VFM_CNT_POISON).irq (pVFM f) 9
          | 8 => s.bump (pVFM f) R.VFM_CNT_RX_TRUNC
          | _ => s
        let s := if d = 1 && (st = 0 || st = 8 || st = 9) then s.bump (pVFM f) R.VFM_CNT_RX_FRAMES
          else if d = 0 && o.kind = 1 && st = 0 then s.bump (pVFM f) R.VFM_CNT_TX_FRAMES else s
        if bit ((o.desc[0]?).getD 0) 24 then s.ringEvent f (s.qLocal q) d else s

/-! ### Receive (R230) -/

/-- One copy of a frame for a pair: into its next posted buffer, or dropped and counted. -/
def State.rxCopy (s : State) (x : QEntry) (group : Bool) (q : Nat) : State :=
  let f := s.qFn q
  let y := s.qp q
  let busy := (s.ringOps (2 * q + 1)).length
  let size := s.qSize q 1
  let occ := if size = 0 then 0 else (y.rxTail + size - y.rxHead) % size
  if s.fnHeld f then s.bump (pVFM f) R.VFM_CNT_RX_FROZEN
  else if !s.qValid q || y.rxStop.isSome || occ ≤ busy || s.unusable (pSKD (s.qSkd q)) then
    (s.bump (pVFM f) R.VFM_CNT_RX_NOBUF).irq (pVFM f) 7
  else
    let idx := (y.rxHead + busy) % size
    let r := s.fetchDesc q 1 idx
    let s := r.2
    match r.1 with
    | none => s.ringStop q 1 0x0A
    | some ws =>
      let w (i : Nat) : Word := (ws[i]?).getD 0
      let all := frameBytes x.frame
      let bs := if x.oversize then all.take (x.frame.size - 4) else all
      let n := (w 1).toNat
      let dst := (w 2).toNat + (w 3).toNat * 2 ^ 32
      let marks := b2n group * 2 ^ 16 + x.ing % 16 * 2 ^ 12 + b2n (x.oversize || !x.frame.fcsOk) * 2 ^ 9 + b2n x.oversize * 2 ^ 8 +
        x.frac % 16 * 2 ^ 4 + b2n x.fracOk * 2 ^ 3
      let o : Op :=
        {
          ring := 2 * q + 1, fn := f, kind := 3, desc := ws, addr := s.qBase q 1 + idx * 32, dst := dst, len := min n bs.length,
          buf := bs.take n, trunc := decide (n < bs.length),
          rxWords := [w32 bs.length, w32 x.stamp, w32 marks],
          status := if fld (w 0) 28 4 ≠ 3 then some 5 else if n = 0 then some 1
            else if !s.permit f dst n false true then some 3 else none }
      let s := if o.status = some 3 then s.winFault f else s
      ({ s with ops := s.ops ++ [o] }).skdGo (s.qSkd q)

/-- Pairs of a receive group. -/
def State.groupQps (s : State) (g : Nat) : List Nat :=
  (List.range 256).filter (fun q => bit (s.tw (0x00DF2000 + g * 32 + q / 32 * 4)) (q % 32))

/-- The rings an RSEL names. -/
def State.rselDeliver (s : State) (x : QEntry) : State :=
  if x.oversize then s.rxCopy x false 0
  else if x.rsel = 0 then s.rxCopy x false 1
  else if x.rsel < 0x100 then s.rxCopy x false x.rsel
  else (s.groupQps (x.rsel - 0x100)).foldl (fun s q => s.rxCopy x true q) s

/-- A function whose migration a frame's session names: one under way, or one whose switch cycle has not ended. -/
def State.migFn (s : State) (m : MigMsg) : Option Nat :=
  (List.range 64).find? (fun f =>
    let x := (s.vf f).mig
    x.state != 0 && (x.state ≤ 7 || s.cycNow ≤ x.tick) && fld (s.ac (pVFM f) R.VFM_MIG_SESSION) 0 16 == m.session)

/-- Functions armed or staging as the destination of a move: a migration frame of another session is discarded and counted at the first
of them (R246; log 145). -/
def State.migDests (s : State) : List Nat :=
  (List.range 64).filter (fun f => 1 ≤ (s.vf f).mig.state && (s.vf f).mig.state ≤ 6 && fld (s.ac (pVFM f) R.VFM_MIG_CFG) 0 2 == 2)

/-- H1_RX_DELIVER (R230): the oldest frame delivered to H1. -/
def State.h1Deliver (s : State) : State :=
  match s.swc.h1rx with
  | [] => s
  | x :: rest =>
    let s := s.updSwc (fun c => { c with h1rx := rest })
    if x.oversize then s.rselDeliver x
    else match x.frame.body with
      | .goose p =>
        let r := if s.cycOn then s.gooseRx x.frame x.stamp x.frac p else (false, s)
        if r.1 then r.2 else r.2.rxCopy x false 1
      | .mig m =>
        (match s.migFn m with
         | some f => { s with migIn := s.migIn ++ [(f, m)] }
         | none =>
           match s.migDests.head? with
           | some f => s.bump (pVFM f) R.VFM_CNT_MIG_BAD
           | none => s.rselDeliver x)
      | _ => if x.frame.et = 0x88F7 then s.rxCopy x false 2 else s.rselDeliver x

/-- GOOSE_RX (R211, R212): the oldest frame at H1 is a GOOSE frame and is offered to the subscriber. -/
def State.h1Goose (s : State) : State :=
  match s.swc.h1rx with
  | x :: _ => (match x.frame.body with | .goose _ => s.h1Deliver | _ => s)
  | [] => s

/-! ### Ring tails (R226, R233) -/

/-- RING_TAIL_WRITE of local pair l, direction d, by its function or Vehus. -/
def State.tailWrite (s : State) (f l d v : Nat) : State :=
  let no : State := (s.bump (pVFM f) R.VFM_CNT_POST_REFUSED).irq (pVFM f) 6
  match s.qOf f l with
  | none => no
  | some q =>
    let size := s.qSize q d
    let lim := min (fld (s.ac (pVFM f) R.VFM_FN_CFG) 0 13) (size - 1)
    let x := s.qp q
    if s.unusable (pSKD (s.qSkd q)) then s.refuse (pVFM f) (R.VFM_QP_TX_TAIL + 16 * l + 4 * d) Err.capFull
    else if size = 0 || s.fnReset f || lim < (v % size + size - x.head d) % size then no
    else s.setQp q (if d = 0 then { x with txTail := v % size } else { x with rxTail := v % size })

/-! ### Resets (R239 to R241) -/

/-- A function's requests in flight. -/
def State.fnReqs (s : State) (f : Nat) : Nat := (s.skds.map (fun e => (e.2.reqs.filter (fun r => r.fn == f)).length)).sum

/-- Requests of a function are squashed on every skidder: writes at once, reads at their return. -/
def State.squashFn (s : State) (f : Nat) : State :=
  s.skds.foldl (fun s e =>
    let x := s.skd e.1
    let n := (x.reqs.filter (fun r => r.fn == f && !r.squashed)).length
    let s := s.setSkd e.1 { x with
      reqs := (x.reqs.filter (fun r => !(r.fn == f && r.wr))).map (fun r =>
      if r.fn == f then { r with squashed := true } else r) }
    s.bumpBy (pSKD e.1) R.SKD_CNT_SQUASHED n) s

/-- Operations with requests not issued are cut (R239). -/
def State.cutFn (s : State) (sel : Op → Bool) : State :=
  let s := { s with ops := s.ops.map (fun o => if sel o && o.unissued then { o with cut := true } else o) }
  ((s.ops.filter sel).foldl (fun s o => s.opSettle o.ring o.addr) s).skdAll

/-- A function's operations are squashed with their requests, and the tags and slots that frees serve others (R239, R240). -/
def State.dropFn (s : State) (f : Nat) : State :=
  let s := s.squashFn f
  { s with ops := s.ops.filter (fun o => o.fn != f) }.skdAll

/-- A reset starts (R239, R241): the move is aborted, the instance stops in the next kerf. -/
def State.vfResetNow (s : State) (f : Nat) (squash : Bool) (abort : State → State) : State :=
  let s := abort s
  let s := s.setVf f { s.vf f with reset := if squash then 3 else 2, resetClk := s.tsu.clk, resetReq := none }
  let s := s.updInst f (fun y => { y with startNs := none, stopReq := decide (y.state ≠ 0) })
  if squash then s.dropFn f else s.cutFn (fun o => o.fn == f)

/-- RESET_DRAIN and RESET_SQUASH (R239): at once, or at the end of the kerf while a kerf copy for the VF runs. -/
def State.vfReset (s : State) (f : Nat) (squash : Bool) (abort : State → State) : State :=
  if f = 0 ∨ 63 < f then s.refuse (pVFM f) R.VFM_VF_CMD Err.range
  else if s.absent (pVFM f) then s.refuse (pVFM f) R.VFM_VF_CMD Err.capFull
  else if s.fnReset f || (s.vf f).resetReq.isSome then s
  else if s.kerfBusy f then s.setVf f { s.vf f with resetReq := some squash }
  else s.vfResetNow f squash abort

/-- RESET_TAG_TIMEOUT: 48 µs into a reset every tag or slot still held is retired. -/
def State.resetTimeout (s : State) (f : Nat) : State :=
  let x := s.vf f
  if !(s.fnReset f && 12000 ≤ s.since x.resetClk) then s
  else
    let s := { s with ops := s.ops.filter (fun o => o.fn != f) }
    (s.skds.foldl (fun (s : State) e =>
      let y := s.skd e.1
      let n : Nat := (y.reqs.filter (fun r => r.fn == f)).length
      if n = 0 then s
      else ((s.setSkd e.1 { y with reqs := y.reqs.filter (fun r => r.fn != f) }).bumpBy (pSKD e.1) R.SKD_CNT_TAG_FORCED n).irq (pSKD e.1) 4)
      s).skdAll

/-- RESET_DONE: the last tag has retired and every completion is written. -/
def State.resetDone (s : State) (f : Nat) : State :=
  let x := s.vf f
  if !s.fnReset f || s.fnReqs f ≠ 0 || s.ops.any (fun o => o.fn == f) then s
  else
    let s := (List.range 256).foldl (fun s q => if s.qValid q && s.qFn q == f then s.setQp q {} else s) s
    let s := s.setRg (pVFM f) R.VFM_QP_EVT 0
    let s := s.vecs.foldl (fun s v => if v.2.owner == f then s.setVec v.1 { s.vec v.1 with pending := false } else s) s
    let s := s.setRg (pVFM f) R.VFM_RESET_TIME (w32 (min 0xFFFF (s.since x.resetClk * 4 / 100)))
    let s := s.setVf f { s.vf f with reset := 4, itr := [], frozen := false }
    ((s.irq (pVFM f) 5).irq (pVFM 0) 5).bump (pVFM f) R.VFM_CNT_RESET

/-! ### Dirty log (R242, R243) -/

/-- SWAP_LOG: the other bitmap serves writes issued from now on. -/
def State.swapLog (s : State) (f : Nat) : State :=
  let x := s.vf f
  if f = 0 then s.refuse (pVFM f) R.VFM_VF_CMD Err.range
  else if s.absent (pVFM f) then s.refuse (pVFM f) R.VFM_VF_CMD Err.capFull
  else if x.swapBusy then s.refuse (pVFM f) R.VFM_VF_CMD 0x44
  else
    let s := s.setVf f { x with bitmap := !x.bitmap, swapBusy := true }
    s.skds.foldl (fun s e =>
      let y := s.skd e.1
      s.setSkd e.1 { y with reqs := y.reqs.map (fun r => if r.fn == f && r.wr then { r with old := true } else r) }) s

/-- SWAP_LOG_DONE: every write issued before the swap has been performed and marked. -/
def State.swapDone (s : State) (f : Nat) : State :=
  if (s.vf f).swapBusy && !s.skds.any (fun e => e.2.reqs.any (fun r => r.fn == f && r.old)) then
    s.setVf f { s.vf f with swapBusy := false }
  else s

/-! ### Queue-pair commands (R228) -/

/-- VFM_QP_CMD RESTART. -/
def State.qpRestart (s : State) (q : Nat) : State :=
  if 255 < q then s
  else if s.qValid q && s.unusable (pSKD (s.qSkd q)) then s.refuse (pVFM 0) R.VFM_QP_CMD Err.capFull
  else
    let s : State := { s with
      ops := s.ops.filter (fun o => o.ring / 2 != q),
      skds := s.skds.map (fun e =>
        (e.1, { e.2 with reqs := e.2.reqs.map (fun r => if r.ring / 2 == q then { r with orphan := true } else r) })) }
    s.setQp q {}

/-- VFM_QP_CMD STOP: a drain of that pair alone. -/
def State.qpStop (s : State) (q : Nat) : State :=
  if 255 < q || !s.qValid q then s
  else ((s.cutFn (fun o => o.ring / 2 == q)).ringStop q 0 6).ringStop q 1 6

/-! ### Table and COMMIT checks (R223, R226, R236, R242, R249) -/

def pow2In (n : Nat) : Bool := [8, 16, 32, 64, 128, 256, 512, 1024, 2048, 4096].contains n

/-- A queue-pair entry's write. -/
def State.qpCheck (s : State) (q : Nat) (ws : List Word) : Option Nat :=
  let w (i : Nat) : Word := (ws[i]?).getD 0
  let f := fld (w 0) 24 6
  let tx := fld (w 1) 0 13
  let rx := fld (w 1) 16 13
  let b (i : Nat) : Nat := (w i).toNat + (w (i + 1)).toNat * 2 ^ 32
  let others := (List.range 256).filter (fun o => o != q && s.qValid o && s.qFn o == f)
  if s.qValid q && !(s.qp q).stopped then some Err.notStopped
  else if q < 4 ∧ f ≠ 0 then some Err.range
  else if !bit (w 0) 31 then none
  else if s.absent (pVFM f) ∨ s.unusable (pSKD (fld (w 0) 8 4)) then some Err.capFull
  else if tx = 0 ∨ rx = 0 then some Err.zeroField
  else if !pow2In tx ∨ !pow2In rx ∨ b 2 % 32 ≠ 0 ∨ b 4 % 32 ≠ 0 ∨
      others.any (fun o => s.qLocal o == fld (w 0) 16 3 && f != 0) then some Err.range
  else if f ≠ 0 ∧ 8 ≤ others.length then some Err.capFull
  else if !s.permit f (b 2) (tx * 32) true true ∨ !s.permit f (b 4) (rx * 32) true true then some 0x45
  else none

/-- A window entry's write: function f. -/
def State.winCheck (s : State) (f : Nat) (ws : List Word) : Option Nat :=
  let w (i : Nat) : Word := (ws[i]?).getD 0
  if s.absent (pVFM f) then some Err.capFull
  else if f ≠ 0 && bit (s.ac (pVFM f) R.VFM_DIRTY_CFG) 0 then some 0x41
  else if fld (w 2) 0 28 < fld (w 1) 0 28 then some Err.range
  else none

/-- COMMIT checks of a VFM page: offset and code. -/
def State.vfmCheck (s : State) (f : Nat) : Option (Nat × Nat) :=
  let p := pVFM f
  let role := fld (s.rg p R.VFM_MIG_CFG) 0 2
  let size := (s.rg p R.VFM_DIRTY_SIZE).toNat
  let rs := s.regions f
  let bits := (rs.map (fun q => (q.2.2.2.2 - q.2.2.2.1) / 4096)).sum
  let outside (b : Nat) : Bool := rs.all (fun q => b + size ≤ q.2.2.2.1 || q.2.2.2.2 ≤ b)
  if bit (s.rg p R.VFM_DIRTY_CFG) 0 && size = 0 then some (R.VFM_DIRTY_SIZE, Err.zeroField)
  else if bit (s.rg p R.VFM_DIRTY_CFG) 0 && (size * 8 < bits || !outside (s.rg64 p R.VFM_DIRTY_BASE0) || !outside (s.rg64 p R.VFM_DIRTY_BASE1)) then
    some (R.VFM_DIRTY_CFG, Err.range)
  else if role = 2 && (s.rg p R.VFM_MIG_STAGE_SIZE).toNat = 0 then some (R.VFM_MIG_STAGE_SIZE, Err.zeroField)
  else if f = 0 && role ≠ 0 then some (R.VFM_MIG_CFG, Err.range)
  else none

/-! ### A fenced skidder (R27, R241) -/

/-- Tags are squashed as in a VF reset; operations in progress end and rings mapped to it stop with FENCED. -/
def State.skdFenced (s : State) (k : Nat) : State :=
  let x := s.skd k
  let s := (s.setSkd k { x with reqs := [] }).bumpBy (pSKD k) R.SKD_CNT_SQUASHED x.reqs.length
  let s := { s with ops := s.ops.map (fun o => if s.qSkd (o.ring / 2) == k && o.status.isNone then { o with status := some 7 } else o) }
  (List.range 256).foldl (fun s q => if s.qValid q && s.qSkd q == k then (s.ringStop q 0 7).ringStop q 1 7 else s) s

/-! ### Reads -/

/-- Read-only registers of a VFM page. -/
def State.vfmRo (s : State) (f off : Nat) : Option Word :=
  let x := s.vf f
  if 0x400 ≤ off ∧ off < 0x480 then
    match s.qOf f ((off - 0x400) / 16) with
    | none => some 0
    | some q =>
      let y := s.qp q
      some (w32 (match off % 16 / 4 with | 0 => y.txTail | 1 => y.rxTail | 2 => y.txHead | _ => y.rxHead))
  else if off = R.VFM_VF_STATUS then
    some (w32 ((if s.fnReset f && s.since x.resetClk < 125 then 1 else x.reset) + b2n x.frozen * 16 + s.fnReqs f * 2 ^ 16))
  else if off = R.VFM_MIG_STATUS then some (w32 (x.mig.state + x.mig.frames % 2 ^ 16 * 2 ^ 16))
  else if off = R.VFM_MIG_DELTA then some (w32 x.mig.delta)
  else if off = R.VFM_DIRTY_STATUS then some (w32 (b2n x.bitmap + 2 * b2n x.swapBusy))
  else none

/-- Read-only registers of a skidder's page. -/
def State.skdRo (s : State) (k off : Nat) : Option Word :=
  let x := s.skd k
  let rd := (x.reqs.filter (fun r => !r.wr)).length
  let wr := (x.reqs.filter (fun r => r.wr)).length
  if off = R.SKD_STATUS then some (w32 (rd + wr * 2 ^ 16))
  else if off = R.SKD_QP_COUNT then some (w32 ((List.range 256).filter (fun q => s.qValid q && s.qSkd q == k)).length)
  else if off = R.SKD_PEAK then some (w32 (x.peakRd + x.peakWr * 2 ^ 16))
  else none

/-! ### Memory errors at the real-time cores (R384, R385) -/

/-- The instance whose task runs on core `c` of the 32 now. -/
def State.onCore (s : State) (c : Nat) : Option Nat :=
  (List.range 64).find? (fun i => s.instRuns i && iPair (s.iw i 0) == c / 2 && (iCore (s.iw i 0) == c % 2 || iCore (s.iw i 0) == 2))

/-- A poison response or a bus error at a core: the running activation is aborted and the instance is in FAULT; its error task does not
run (R384). -/
def State.coreError (s : State) (c : Nat) : State :=
  match s.onCore c with
  | some i => s.instFault i false
  | none => s

/-- A task that runs reads words of memory. -/
def State.taskReads (s : State) (i : Nat) (reads : List Nat) : State :=
  if !s.instRuns i then s
  else
    let c := iPair (s.iw i 0) * 2 + iCore (s.iw i 0) % 2
    let t := s.readAt reads 1 c
    if reads.any t.spoilt then t.coreError c else t

/-- A write request of a requester (0 to 6 as the error log numbers them) and its index: a task's store is marked in its function's dirty
log (R242), and a refused one is a bus error of its core (R385). -/
def State.storeBy (s : State) (a : Nat) (bs : List Nat) (req idx : Nat) : State :=
  let own := if req = 1 then s.onCore idx else none
  let r := s.writeMem a bs req idx
  match own with
  | some f => if r.1 then r.2.coreError idx else r.2.dirtyMark f (s.vf f).bitmap a bs.length
  | none => r.2

/-- Read-only words of queue-pair entries. -/
def State.vfmTblWord (s : State) (a : Nat) : Option Word :=
  if 0x00DF0000 ≤ a ∧ a < 0x00DF2000 then
    let y := s.qp ((a - 0x00DF0000) / 32)
    match a % 32 / 4 with
    | 0 => some (setBit (s.tw a) 30 y.stopped)
    | 6 => some (w32 (if y.stopped then (y.stop y.stopDir).getD 0 + y.stopDir * 256 else 0))
    | _ => none
  else none

/-! ### The commands -/

/-- RING_TAIL_WRITE (R226): function, local pair, direction (0 transmit, 1 receive), value. -/
def execRingTailWrite (f l d v : Nat) (s : State) : Host.Outcome State Fault Refusal :=
  actReg State.onMain (pVFM f) (fun s => if f < 64 && l < 8 && d < 2 then s.tailWrite f l d (v % 4096) else s) s

/-- DESCRIPTOR_FETCH (R231) of a pair's transmit ring. -/
def execDescriptorFetch (q : Nat) (s : State) : Host.Outcome State Fault Refusal := act State.onMain (fun s => s.descFetch q) s

/-- SKIDDER_RETURN (R231): request `i` in flight of skidder `k`. -/
def execSkidderReturn (k i : Nat) (s : State) : Host.Outcome State Fault Refusal := act State.onMain (fun s => s.skdReturn k i) s

/-- DESCRIPTOR_COMPLETE (R228) of a ring (2 × QP + direction). -/
def execDescriptorComplete (ring : Nat) (s : State) : Host.Outcome State Fault Refusal :=
  act State.onMain (fun s => s.descComplete ring) s

/-- H1_RX_DELIVER (R230). -/
def execH1RxDeliver (s : State) : Host.Outcome State Fault Refusal := act State.onMain State.h1Deliver s

/-- GOOSE_RX (R211). -/
def execGooseRx (s : State) : Host.Outcome State Fault Refusal := act State.onMain State.h1Goose s

/-- ITR_EXPIRY (R238). -/
def execItrExpiry (f l : Nat) (s : State) : Host.Outcome State Fault Refusal := act State.onMain (fun s => s.itrExpire f l) s

/-- RESET_TAG_TIMEOUT (R239). -/
def execResetTagTimeout (f : Nat) (s : State) : Host.Outcome State Fault Refusal := act State.onMain (fun s => s.resetTimeout f) s

/-- RESET_DONE (R239). -/
def execResetDone (f : Nat) (s : State) : Host.Outcome State Fault Refusal := act State.onMain (fun s => s.resetDone f) s

/-- SWAP_LOG (R243). -/
def execSwapLog (f : Nat) (s : State) : Host.Outcome State Fault Refusal :=
  actReg State.onMain (pVFM f) (fun s => s.swapLog f) s

/-- SWAP_LOG_DONE (R243). -/
def execSwapLogDone (f : Nat) (s : State) : Host.Outcome State Fault Refusal := act State.onMain (fun s => s.swapDone f) s

/-- QP_RESTART (R228). -/
def execQpRestart (q : Nat) (s : State) : Host.Outcome State Fault Refusal :=
  actReg State.onMain (pVFM 0) (fun s => s.qpRestart q) s

/-- QP_STOP (R228). -/
def execQpStop (q : Nat) (s : State) : Host.Outcome State Fault Refusal :=
  actReg State.onMain (pVFM 0) (fun s => s.qpStop q) s

/-- WINDOW_START (R188, R189) of instance `i`; its waiting vectors are delivered (R238), and the task it begins with reads the words
at the addresses `reads` (R384). -/
def execWindowStart (w : TaskWindow) (s : State) : Host.Outcome State Fault Refusal :=
  act State.onMain (fun s =>
    let t := s.winOpen w.inst
    if (s.inst w.inst).window = 0 && (t.inst w.inst).window = 1 then (t.windowVecs w.inst).taskReads w.inst w.reads else t) s

/-- PARTIAL_WRITE (R385): `bs` at `a` by a requester; words covered whole are written without a read (R386). -/
def execPartialWrite (a : Nat) (bs : List Byte) (req idx : Nat) (s : State) : Host.Outcome State Fault Refusal :=
  act State.onMain (fun s =>
    if bs.isEmpty || memOf a != memOf (a + bs.length - 1) || (memOf a).isNone then s
    else s.storeBy a (bs.map (fun b => b.toNat)) req idx) s

end Sys2Proof.Machine
end

