-- ==== Sys2Proof/Machine/Mig.lean ====
section
/-!
DEFINITION. Moving an instance to another module (R244 to R247), the VF commands that end a move, and kerf copies (R234).
-/
namespace Sys2Proof.Machine

/-! ### Configuration of a side -/

def State.migCfg (s : State) (f : Nat) : Word := s.ac (pVFM f) R.VFM_MIG_CFG
def State.migSource (s : State) (f : Nat) : Bool := fld (s.migCfg f) 0 2 == 1
def State.migDest (s : State) (f : Nat) : Bool := fld (s.migCfg f) 0 2 == 2
def State.migSlot (s : State) (f : Nat) : Nat := fld (s.migCfg f) 8 8
def State.mig (s : State) (f : Nat) : Mig := (s.vf f).mig
def State.updMig (s : State) (f : Nat) (g : Mig → Mig) : State := s.setVf f { s.vf f with mig := g (s.vf f).mig }

/-- STATE of VFM_MIG_STATUS changes: IRQ_STATUS.MIG_STATE. -/
def State.migGo (s : State) (f st : Nat) : State := (s.updMig f (fun m => { m with state := st })).irq (pVFM f) 8

/-- SWITCH_TAG of a side's move. -/
def State.migTag (s : State) (f : Nat) : Word := tagOf (s.mig f).tick

/-- Start of the kerf of cycle S - 1, and the destination's deadline D (R246). -/
def State.migKerfNs (s : State) (f : Nat) : Nat := s.bound (s.mig f).tick - s.kerfLen
def State.migDeadNs (s : State) (f : Nat) : Nat := s.migKerfNs f - fld (s.migCfg f) 16 8 * 1000

/-- The numbers of a publication's state. -/
def PubState.nums (p : PubState) : List Nat :=
  [p.idx, p.stNum, p.sqNum, p.lastTag.toNat, p.tick, p.utc, p.relTick, p.next] ++ p.syncs ++ p.last.flatMap (fun x => [x.1, x.2])

/-- A frame's payload in plain text (R245): a page; records of 24 bytes, each point, value, quality, stamp, reserved; or a STATE payload
of 8 bytes for each number (log 66). -/
def migPlain (m : MigMsg) : List Nat :=
  match m.kind with
  | 1 => fit 4096 m.data
  | 2 => m.points.flatMap (fun p =>
      bytesLE 4 p.1 ++ bytesLE 8 p.2.value ++ bytesLE 4 p.2.qual ++ bytesLE 4 p.2.stamp ++ bytesLE 4 0)
  | 3 =>
    let ns := m.pubs.map PubState.nums
    fit (8 * (1 + 5 * m.rings.length + (ns.map List.length).sum)) (Config.migState m.rings m.ovr ns)
  | _ => []

/-- The words of a frame's 32-byte header (R245). -/
def migHead (m : MigMsg) : List Word :=
  [w32 (m.session % 2 ^ 16 * 2 ^ 16 + m.kind % 256 * 256), m.switch, w32 m.seq, w32 m.addr, w32 (m.addr / 2 ^ 32),
    w32 (migPlain m).length, w32 m.count, 0]

/-- Encrypted payload and tag of a frame under a key: AES-256-GCM with the header as additional data. -/
def migSeal (key : List Byte) (m : MigMsg) : List Nat × List Nat :=
  let head := (migHead m).flatMap (fun w => bytesLE 4 w.toNat)
  Config.gcmSeal (key.map (fun b => b.toNat)) (Config.migIv head) head (migPlain m)

/-- A frame under the side's key goes to MIG_DA at port MIG_PORT in queue 4 (R245): 32 bytes of header, payload, 16 bytes of tag. -/
def State.migSend (s : State) (f : Nat) (m : MigMsg) : State :=
  let k := s.useKey (s.migSlot f) 5
  let s := k.2
  match k.1 with
  | none => s
  | some key =>
    let p := fld (s.migCfg f) 4 4
    let c := migSeal key m
    let fr : Frame :=
      {
        da := fld (s.ac (pVFM f) R.VFM_MIG_DA_HI) 0 16 * 2 ^ 32 + (s.ac (pVFM f) R.VFM_MIG_DA_LO).toNat, sa := s.ownAddr p,
        et := 0x88B5, size := max 64 (66 + (migPlain m).length), body := .mig { m with cipher := c.1, mac := c.2 } }
    s.updSwc (fun c => { c with h1q := c.h1q ++ [{ fn := none, frame := fr, direct := some (2 ^ p), queue := some 4 }] })

/-- Whether a received frame opens under the side's key: its payload and tag are what the key makes of its plain text. -/
def State.migOpens (s : State) (f : Nat) (m : MigMsg) : Bool × State :=
  let k := s.useKey (s.migSlot f) 5
  (match k.1 with | some key => migSeal key m == (m.cipher, m.mac) | none => false, k.2)

/-- A message of a side's session. -/
def State.migMsg (s : State) (f kind : Nat) : MigMsg :=
  { session := fld (s.ac (pVFM f) R.VFM_MIG_SESSION) 0 16, kind := kind, switch := s.migTag f }

/-! ### Aborting a move (R246) -/

/-- Publications an instance owns. -/
def State.pubsOf (s : State) (f : Nat) : List Nat :=
  (List.range 256).filter (fun n => bit (s.pw n 0) 31 && fld (s.pw n 0) 24 6 == f)

/-- The move is aborted on this side. A source thaws at B_S; a destination undoes what a commit did: the instance returns to
HELD without safe values, its staged outputs and receive copies are dropped and its rings frozen again. -/
def State.migStop (s : State) (f : Nat) : State :=
  let m := s.mig f
  let s := if s.migDest f then
      let back := decide ((s.inst f).state = 1)
      let s := s.updInst f (fun x => { x with state := 3, acts := [], heldCyc := false })
      let s := s.dropFn f
      let s := s.setVf f { s.vf f with frozen := true }
      if back || m.state = 7 then
        let s := (List.range 256).foldl (fun s q => if s.qValid q && s.qFn q == f then s.setQp q {} else s) s
        (s.pubsOf f).foldl (fun s n => s.setGpub n {}) s
      else s
    else s
  ((s.updMig f (fun m => { m with staged := [], total := none })).migGo f 9).bump (pVFM f) R.VFM_CNT_MIG_ABORT

/-- A side aborts and tells the other. -/
def State.migAbortSend (s : State) (f : Nat) : State := (s.migSend f (s.migMsg f 6)).migStop f

/-- A move is under way on this side. -/
def State.migLive (s : State) (f : Nat) : Bool :=
  let m := s.mig f
  1 ≤ m.state && (m.state ≤ 7 || (m.state = 8 && s.migDest f && s.cycNow ≤ m.tick && !(s.cycNow = m.tick && s.cyc.kerfDone)))

/-- VFM_VF_CMD MIG_ABORT. -/
def State.migAbortCmd (s : State) (f : Nat) : State :=
  if f = 0 ∨ 63 < f then s.refuse (pVFM f) R.VFM_VF_CMD Err.range
  else if s.absent (pVFM f) then s.refuse (pVFM f) R.VFM_VF_CMD Err.capFull
  else if s.migLive f then s.migAbortSend f
  else s.refuse (pVFM f) R.VFM_VF_CMD 0x44

/-! ### Arming (R244) -/

/-- VFM_VF_CMD MIG_ARM. -/
def State.migArm (s : State) (f : Nat) : State :=
  let no (c : Nat) : State := s.refuse (pVFM f) R.VFM_VF_CMD c
  let tick := s.untag (s.ac (pVFM f) R.VFM_MIG_TAG)
  let st := (s.inst f).state
  if f = 0 ∨ 63 < f then no Err.range
  else if s.absent (pVFM f) then no Err.capFull
  else if s.dupEn then no 0x42
  else if !s.keyDest (s.migSlot f) 5 then no 0x43
  else if (s.migSource f && !bit (s.ac (pVFM f) R.VFM_DIRTY_CFG) 0) ||
      (s.migDest f && (s.ac (pVFM f) R.VFM_MIG_STAGE_SIZE).toNat == 0) then no Err.zeroField
  else if !(s.migSource f || s.migDest f) || s.migLive f || (1 ≤ (s.vf f).reset && (s.vf f).reset ≤ 3) ||
      (s.migSource f && st != 1) || (s.migDest f && st != 0 && st != 3) || s.bound tick < s.ns + 1000000 + s.kerfLen then no 0x44
  else
    let s := s.updMig f (fun _ => { tick := tick })
    let s := if s.migDest f then
        (s.setVf f { s.vf f with frozen := true }).updInst f (fun x => { x with state := 3, startNs := none })
      else s
    s.migGo f 1

/-! ### Freezing and sending (R245) -/

/-- Pages marked in a dirty bitmap, in index order. -/
def State.dirtyPages (s : State) (f : Nat) (bm : Bool) : List Nat :=
  let b := s.ac64 (pVFM f) (if bm then R.VFM_DIRTY_BASE1 else R.VFM_DIRTY_BASE0)
  let pages := (s.regions f).flatMap (fun r =>
    (List.range ((r.2.2.2.2 - r.2.2.2.1) / 4096)).map (fun i => r.2.2.2.1 + 4096 * i))
  (pages.zipIdx.filter (fun p => (s.byte (b + p.2 / 8)).toNat.testBit (p.2 % 8))).map (fun p => p.1)

/-- Lists of at most `n` elements. -/
def chunks {α : Type} (n fuel : Nat) (l : List α) : List (List α) :=
  match fuel with
  | 0 => []
  | k + 1 => if l.isEmpty then [] else l.take n :: chunks n k (l.drop n)

/-- The state of a publication as a STATE frame carries it. -/
def State.pubOut (s : State) (n : Nat) : PubState :=
  let x := s.gpub n
  {
    idx := n, stNum := x.stNum, sqNum := x.sqNum, lastTag := x.lastTag, tick := x.tick, utc := x.utc, relTick := x.relTick, next := x.next,
    syncs := x.syncs, last := x.last }

/-- The frames of the final delta. -/
def State.migFrames (s : State) (f : Nat) (pages : List Nat) : List MigMsg :=
  let m := s.mig f
  let x := s.inst f
  let pts := x.commits (m.tick - 1)
  let rings := ((List.range 256).filter (fun q => s.qValid q && s.qFn q == f)).map (fun q =>
    let y := s.qp q
    (s.qLocal q, y.txHead, y.txTail, y.rxHead, y.rxTail))
  let body := pages.map (fun a => { s.migMsg f 1 with addr := a, data := (s.readMem a 4096 3 (fld (s.ac (pVFM 0) R.VFM_KERF_SKD) 0 4)).1 }) ++
    (chunks 170 pts.length pts).map (fun c => { s.migMsg f 2 with points := c }) ++
    [{ s.migMsg f 3 with
      rings := rings, ovr := x.ovrRun, pubs := ((s.pubsOf f).filter (fun n => (s.gpub n).started)).map s.pubOut }]
  (body ++ [{ s.migMsg f 4 with count := body.length }]).zipIdx.map (fun p => { p.1 with seq := p.2 })

/-- MIG_FREEZE: the last activation of cycle S - 1 has ended, so the source freezes; once its requests have completed the log
swaps and the delta is sent. -/
def State.migFreeze (s : State) (f : Nat) : State :=
  let m := s.mig f
  let x := s.inst f
  let atRest := s.cycNow + 1 = m.tick && s.inWindows && x.acts.all (fun a => a.done || a.cls == 7) && (x.state != 1 || x.window != 0)
  let s := if m.state = 1 && s.migSource f && atRest then
      let s := s.setVf f { s.vf f with frozen := true }
      (s.migGo f 2).cutFn (fun o => o.fn == f)
    else s
  if (s.mig f).state = 2 && s.cycNow + 1 = m.tick && !s.cyc.kerfDone && s.fnReqs f = 0 && !s.ops.any (fun o => o.fn == f) then
    let k := s.useKey (s.migSlot f) 5
    if k.1.isNone then k.2.migStop f
    else
      let s := (k.2.setVf f { k.2.vf f with swapBusy := false }).swapLog f
      let s := s.setVf f { s.vf f with swapBusy := false }
      let pages := s.dirtyPages f (!(s.vf f).bitmap)
      let fs := s.migFrames f pages
      let s := s.updMig f (fun m => { m with delta := 4096 * pages.length, frames := fs.length - 1 })
      (fs.foldl (fun s x => s.migSend f x) s).migGo f 3
  else s

/-! ### Staging at the destination (R246) -/

/-- Page bytes staged. -/
def Mig.pageBytes (m : Mig) : Nat := 4096 * (m.staged.filter (fun x => x.kind == 1)).length

/-- END has arrived and every frame below its count. -/
def Mig.complete (m : Mig) : Bool :=
  match m.total with
  | some n => (List.range n).all (fun i => m.staged.any (fun x => x.seq == i))
  | none => false

/-- The staging is whole: the destination commits and sends ACK, unless D has passed. -/
def State.migStaged (s : State) (f : Nat) : State :=
  let m := s.mig f
  if m.complete && m.pageBytes ≤ 2 ^ 22 && m.pageBytes ≤ (s.ac (pVFM f) R.VFM_MIG_STAGE_SIZE).toNat then
    if s.ns ≤ s.migDeadNs f then
      let s := s.updMig f (fun m => { m with delta := m.pageBytes })
      ((s.migGo f 5).migSend f (s.migMsg f 5)).migGo f 6
    else s.migAbortSend f
  else s

/-- MIG_FRAME_RX: the oldest migration frame taken from H1, of kind PAGE, POINTS, STATE or END. -/
def State.migFrameRx (s : State) : State :=
  match s.migIn with
  | (f, x) :: rest =>
    if 5 ≤ x.kind then s
    else
      let s := { s with migIn := rest }
      let m := s.mig f
      let k := s.migOpens f x
      let s := k.2
      if !k.1 || x.switch != s.migTag f || !s.migDest f || x.kind = 0 then s.bump (pVFM f) R.VFM_CNT_MIG_BAD
      else if m.state ≠ 1 ∧ m.state ≠ 4 then s
      else
        let s := if m.state = 1 then s.migGo f 4 else s
        if x.kind = 4 then (s.updMig f (fun m => { m with total := some x.count })).migStaged f
        else if m.staged.any (fun y => y.seq == x.seq) then s
        else
          let at_ := s.ac64 (pVFM f) R.VFM_MIG_STAGE + 4096 * x.seq
          let fits := 4096 * (x.seq + 1) ≤ (s.ac (pVFM f) R.VFM_MIG_STAGE_SIZE).toNat
          let s : State := if fits then (s.writeMem at_ ((migPlain x).take 4096) 3 s.kerfSkd).2 else s
          (s.updMig f (fun m => { m with staged := m.staged ++ [x], frames := m.frames + 1 })).migStaged f
  | [] => s

/-- MIG_DEADLINE: D has passed without STAGED. -/
def State.migDeadline (s : State) (f : Nat) : State :=
  let m := s.mig f
  if s.migDest f && (m.state = 1 || m.state = 4) && s.migDeadNs f < s.ns then s.migAbortSend f else s

/-- MIG_ACK_RX: before the kerf of cycle S - 1 the source commits; later it sends ABORT and keeps running. -/
def State.migAck (s : State) : State :=
  match s.migIn with
  | (f, x) :: rest =>
    if x.kind ≠ 5 then s
    else
      let s := { s with migIn := rest }
      let m := s.mig f
      let k := s.migOpens f x
      let s := k.2
      if !k.1 || x.switch ≠ s.migTag f then s.bump (pVFM f) R.VFM_CNT_MIG_BAD
      else if s.migSource f && m.state = 3 && (s.cycNow + 1 < m.tick || (s.cycNow + 1 = m.tick && !s.cyc.kerfDone)) then s.migGo f 6
      else if s.migSource f && m.state = 9 then s.migSend f (s.migMsg f 6)
      else s
  | [] => s

/-- MIG_ABORT_RX. -/
def State.migAbortRx (s : State) : State :=
  match s.migIn with
  | (f, x) :: rest =>
    if x.kind ≠ 6 then s
    else
      let s := { s with migIn := rest }
      let k := s.migOpens f x
      let s := k.2
      if !k.1 || x.switch ≠ s.migTag f then s.bump (pVFM f) R.VFM_CNT_MIG_BAD
      else if s.migLive f then s.migStop f
      else s
  | [] => s

/-! ### The kerf of cycle S - 1 (R246, R247) -/

/-- Functions whose kerf of cycle S - 1 this is. -/
def State.migNow (s : State) (sel : State → Nat → Bool) : List Nat :=
  (List.range 64).filter (fun f => 1 ≤ (s.mig f).state && (s.mig f).state ≤ 6 && (s.mig f).tick ≤ s.cycNow + 1 && sel s f)

/-- A committed destination in the present kerf. -/
def State.migIn_ (s : State) : List Nat := s.migNow (fun s f => s.migDest f && (s.mig f).state == 6)

/-- As the kerf starts: a side that has not committed aborts; a committed destination takes the source's point writes as its
instance's writes of this cycle (step 2). -/
def State.migKerfPre (s : State) : State :=
  let s := (s.migNow (fun s f => (s.mig f).state != 6)).foldl (fun s f =>
    if s.migDest f then s.migAbortSend f else s.migStop f) s
  s.migIn_.foldl (fun s f =>
    let ws := ((s.mig f).staged.filter (fun x => x.kind == 2)).flatMap (fun x => x.points)
    s.updInst f (fun x => { x with acts := [{ cls := 0, cyc := s.cycNow, done := true, writes := ws }] })) s

/-- Step 4: publications of a committed destination take the source's state, and are evaluated without release. -/
def State.migPubs (s : State) : State :=
  s.migIn_.foldl (fun s f =>
    ((s.mig f).staged.flatMap (fun x => x.pubs)).foldl (fun s p =>
      s.setGpub p.idx
        {
          started := true, stNum := p.stNum, sqNum := p.sqNum, lastTag := p.lastTag, tick := p.tick, utc := p.utc, syncs := p.syncs,
          relTick := p.relTick, next := p.next, last := p.last }) s) s

/-- Publications evaluated without releasing a frame in the present kerf. -/
def State.migQuiet (s : State) (n : Nat) : Bool := s.migIn_.contains (fld (s.pw n 0) 24 6)

/-- A done move is recorded by VFM. -/
def State.migRec (s : State) (f : Nat) : State :=
  s.deck (pVFM f) 13 2 (tagBody (tagOf s.cycNow) ++ bytesLE 4 f ++ bytesLE 4 (fld (s.ac (pVFM f) R.VFM_MIG_SESSION) 0 16))

/-- Steps 5 to 8 of a committed destination: pages in place, ring pointers, RUN, or HELD for one cycle after more than 256 KiB. -/
def State.migSwitchIn (s : State) (f : Nat) : State :=
  let m := s.mig f
  let base := s.ac64 (pVFM f) R.VFM_MIG_STAGE
  let s := (m.staged.filter (fun x => x.kind == 1)).foldl (fun s x => s.copyMem f (base + 4096 * x.seq) x.addr 4096) s
  let s := s.kerfCopied f m.pageBytes
  let st := (m.staged.filter (fun x => x.kind == 3)).head?
  let s := ((st.map (fun x => x.rings)).getD []).foldl (fun s r =>
    match s.qOf f r.1 with
    | some q => s.setQp q { txHead := r.2.1, txTail := r.2.2.1, rxHead := r.2.2.2.1, rxTail := r.2.2.2.2 }
    | none => s) s
  let held := decide (2 ^ 18 < m.pageBytes)
  let s := s.updInst f (fun x => { x with
    state := 1, acts := [], ovrRun := ((st.map (fun x => x.ovr)).getD 0), heldCyc := held })
  let s := s.updMig f (fun m => { m with staged := [], total := none })
  if held then s.migGo f 7 else (s.migGo f 8).migRec f

/-- A committed source: its instance stops without safe values, its publications release their last frames at B_S. -/
def State.migSwitchOut (s : State) (f : Nat) : State :=
  let s := s.updInst f (fun x => { x with state := 0, acts := [], startNs := none, stopReq := false, ovrRun := 0 })
  let s := (s.pubsOf f).foldl (fun s n => s.setGpub n { s.gpub n with stopped := true }) s
  (s.migGo f 8).migRec f

/-- The last steps of a kerf: instances held for a copy run from the next cycle; committed moves switch. -/
def State.migKerfPost (s : State) : State :=
  let s := ((List.range 64).filter (fun f => (s.mig f).state == 7 && (s.mig f).tick ≤ s.cycNow)).foldl (fun s f =>
    ((s.updInst f (fun x => { x with heldCyc := false })).migGo f 8).migRec f) s
  let s := s.migIn_.foldl (fun s f => s.migSwitchIn f) s
  (s.migNow (fun s f => s.migSource f && (s.mig f).state == 6)).foldl (fun s f => s.migSwitchOut f) s

/-- At a boundary the rings of an aborted source thaw, and those of a destination that has switched unfreeze. -/
def State.migBoundary (s : State) : State :=
  (s.vfs.filter (fun e => e.2.frozen && 7 ≤ e.2.mig.state &&
    (if s.migSource e.1 then e.2.mig.state == 9 else (s.inst e.1).state == 1))).foldl (fun s e =>
      s.setVf e.1 { s.vf e.1 with frozen := false }) s

/-! ### The commands -/

/-- The abort a reset of a migrating VF makes (R241). -/
def State.migAbortReset (s : State) (f : Nat) : State := if s.migLive f then s.migAbortSend f else s

/-- At the end of a kerf: what its copies held back goes on, and a reset that waited for one starts (R234, R239). -/
def State.kerfOver (s : State) : State :=
  ((List.range 64).foldl (fun s f => match (s.vf f).resetReq with
    | some q => if s.kerfBusy f then s else s.vfResetNow f q (fun s => s.migAbortReset f)
    | none => s) s).skdAll

/-- RESET_DRAIN (R239). -/
def execResetDrain (f : Nat) (s : State) : Host.Outcome State Fault Refusal :=
  actReg State.onMain (pVFM f) (fun s => s.vfReset f false (fun s => s.migAbortReset f)) s

/-- RESET_SQUASH (R239). -/
def execResetSquash (f : Nat) (s : State) : Host.Outcome State Fault Refusal :=
  actReg State.onMain (pVFM f) (fun s => s.vfReset f true (fun s => s.migAbortReset f)) s

/-- MIG_ARM (R244). -/
def execMigArm (f : Nat) (s : State) : Host.Outcome State Fault Refusal := actReg State.onMain (pVFM f) (fun s => s.migArm f) s

/-- MIG_ABORT (R246). -/
def execMigAbort (f : Nat) (s : State) : Host.Outcome State Fault Refusal :=
  actReg State.onMain (pVFM f) (fun s => s.migAbortCmd f) s

/-- MIG_FREEZE (R245). -/
def execMigFreeze (f : Nat) (s : State) : Host.Outcome State Fault Refusal := act State.onMain (fun s => s.migFreeze f) s

/-- MIG_FRAME_RX (R246). -/
def execMigFrameRx (s : State) : Host.Outcome State Fault Refusal := act State.onMain State.migFrameRx s

/-- MIG_DEADLINE (R246). -/
def execMigDeadline (f : Nat) (s : State) : Host.Outcome State Fault Refusal := act State.onMain (fun s => s.migDeadline f) s

/-- MIG_ACK_RX (R246). -/
def execMigAckRx (s : State) : Host.Outcome State Fault Refusal := act State.onMain State.migAck s

/-- MIG_ABORT_RX (R246). -/
def execMigAbortRx (s : State) : Host.Outcome State Fault Refusal := act State.onMain State.migAbortRx s

end Sys2Proof.Machine
end

