-- ==== Sys2Proof/Machine/Tal.lean ====
section
/-!
DEFINITION. Tally engines (chapter 10): points, the instruction set, accumulation, intervals, start and stop; their pulse
outputs (R279 to R283).
-/
namespace Sys2Proof.Machine

/-- TAL page of engine e, and the DFO page. -/
abbrev pTAL (e : Nat) : Nat := 0x190 + e
abbrev pDFO : Nat := 0x198

def State.te (s : State) (e : Nat) : TalEng := sget {} e s.tals
def State.setTe (s : State) (e : Nat) (x : TalEng) : State := { s with tals := sset {} e x s.tals }
def State.updTe (s : State) (e : Nat) (f : TalEng → TalEng) : State := s.setTe e (f (s.te e))
def TalEng.pt (x : TalEng) (l : Nat) : TPt := sget {} l x.pts
def TalEng.setPt (x : TalEng) (l : Nat) (p : TPt) : TalEng := { x with pts := sset {} l p x.pts }
def State.tp (s : State) (e l : Nat) : TPt := (s.te e).pt l
def State.setTp (s : State) (e l : Nat) (p : TPt) : State := s.updTe e (fun x => x.setPt l p)
def State.dfo (s : State) (n : Nat) : Dfo := sget {} n s.dfos
def State.setDfo (s : State) (n : Nat) (x : Dfo) : State := { s with dfos := sset {} n x s.dfos }

/-! ### Tables of an engine (R275) -/

def talBase (e : Nat) : Nat := 0x00E10000 + e * 0x20000
def State.progW (s : State) (e a : Nat) : Word := s.tw (talBase e + 4 * a)
def State.ptW (s : State) (e l i : Nat) : Word := s.tw (talBase e + 0x4000 + l * 256 + 4 * i)
/-- A constant of 64 bits. -/
def State.konst (s : State) (e i : Nat) : Nat :=
  (s.tw (talBase e + 0x7000 + 8 * i)).toNat + (s.tw (talBase e + 0x7004 + 8 * i)).toNat * 2 ^ 32
def State.konstI (s : State) (e i : Nat) : Int := toS 64 (s.konst e i)
def State.lutW (s : State) (e i : Nat) : Word := s.tw (talBase e + 0x9000 + 4 * i)
def State.senW (s : State) (e n i : Nat) : Word := s.tw (talBase e + 0xD000 + n * 128 + 4 * i)
def State.senH (s : State) (e n i : Nat) : Word := s.tw (talBase e + 0x1F800 + n * 8 + 4 * i)

def State.ptValid (s : State) (e l : Nat) : Bool := bit (s.ptW e l 0) 31
def State.ptPhases (s : State) (e l : Nat) : Nat := fld (s.ptW e l 0) 24 2
def State.ptProg (s : State) (e l : Nat) : Nat := fld (s.ptW e l 0) 0 12
def State.ptStride (s : State) (e l : Nat) : Nat := fld (s.ptW e l 1) 16 12
def State.ptK (s : State) (e l : Nat) : Nat := fld (s.ptW e l 1) 0 10
def State.ptKn (s : State) (e l : Nat) : Nat := fld (s.ptW e l 2) 0 8
def State.ptList (s : State) (e l i : Nat) : Word := s.ptW e l (4 + i)
def State.ptLine (s : State) (e l i : Nat) : Word := s.ptW e l (20 + i)
def State.ptIvl (s : State) (e l : Nat) : Bool := bit (s.ptW e l 28) 31
def lnMode (w : Word) : Nat := fld w 30 2
def lnLen (w : Word) : Nat := fld w 16 10
def lnBase (w : Word) : Nat := fld w 0 15

/-! ### Instructions (R257) -/

def iOp (w : Word) : Nat := fld w 26 6
def iD (w : Word) : Nat := fld w 22 4
def iA (w : Word) : Nat := fld w 18 4
def iB (w : Word) : Nat := fld w 14 4
def iImm (w : Word) : Nat := fld w 0 14

/-- A program from its first instruction to its END, which must lie within `n` instructions. -/
def State.talInstrs (s : State) (e : Nat) : Nat → Nat → Option (List Word)
  | 0, _ => none
  | n + 1, a =>
    if 4096 ≤ a then none
    else if iOp (s.progW e a) = 0 then some [s.progW e a]
    else (s.talInstrs e n (a + 1)).map (s.progW e a :: ·)

def State.ptInstrs (s : State) (e l : Nat) : List Word := (s.talInstrs e 256 (s.ptProg e l)).getD []

/-- Engine cycles of an instruction; `mode` gives a delay line's MODE. -/
def opCost (mode : Nat → Nat) (w : Word) : Nat :=
  match iOp w with
  | 0x01 => if (iImm w).testBit 4 then 6 else 2
  | 0x02 => 2
  | 0x0B => 34
  | 0x0C => match mode (iImm w % 8) with | 1 => 2 | 2 => 4 | _ => 3
  | 0x0D => 12
  | 0x0E => 24
  | 0x0F => 2
  | 0x10 => 2
  | 0x11 => 2
  | 0x12 => 4 * ((List.range 8).filter (fun i => (iImm w).testBit i)).length
  | _ => 1

/-- Cost of a point (R253). -/
def State.ptCost (s : State) (e l : Nat) : Nat :=
  8 + s.ptPhases e l * ((s.ptInstrs e l).map (opCost (fun i => lnMode (s.ptLine e l i)))).sum

/-- Points that run or will run. -/
def State.talRunning (s : State) (e : Nat) : List Nat :=
  (List.range 48).filter (fun l => (s.tp e l).state != 0 || (s.tp e l).startNs.isSome)

/-- TAL_LOAD: the points that run. -/
def State.talLoad (s : State) (e : Nat) : Nat := (((List.range 48).filter (fun l => (s.tp e l).state != 0)).map (s.ptCost e)).sum

/-! ### Image inputs (R254) -/

/-- Image points that a point names in its list entries. -/
def State.listInputs (s : State) (e l : Nat) : List Nat :=
  (List.range 16).filterMap (fun i => let w := s.ptList e l i; if bit w 31 && bit w 30 then some (fld w 0 20) else none)

/-- Temperature inputs named by the engine's sensor headers. -/
def State.tempInputs (s : State) (e : Nat) : List Nat :=
  (List.range 256).filterMap (fun n => let w := s.senH e n 0; if bit w 31 then some (fld w 0 20) else none)

/-- Image inputs of an engine for points `ls`. -/
def State.talInputs (s : State) (e : Nat) (ls : List Nat) : List Nat := (ls.flatMap (s.listInputs e) ++ s.tempInputs e).eraseDups

/-- L of R254. -/
def State.piLag (s : State) : Nat :=
  1 + cdiv ((s.phase - fld (s.ac pSVA R.SVA_TICK_CFG) 0 12 * 1000) * 4800) 1000000000

/-- What is active for the engines now, which is so for the runs of the current tick. -/
def State.talNow (s : State) : TalAt :=
  {
    tick := s.tick, lag := s.piLag, off := s.utcOff, lens := (List.range 8).map (fun e => fld (s.ac (pTAL e) R.TAL_CFG) 16 16),
    consts := (List.range 8).map (fun n => (s.ac pDFO (R.DFO_CONST + 8 * n)).toNat) }

/-- It is kept for the runs of the tick, which come after it. -/
def State.talNote (s : State) : State := { s with talAts := (s.talNow :: s.talAts.filter (fun a => a.tick != s.tick)).take 64 }

/-- What was active at tick k. -/
def State.talAt (s : State) (k : Nat) : TalAt := (s.talAts.find? (fun a => a.tick == k)).getD s.talNow

/-- In the kerf of cycle j the committed inputs are copied into version j of every engine's table; 32 are kept. The table holds 128
points: those of points that run or will run, then those of sensors and of the other entries (log 72). -/
def State.talKerf (s : State) : State :=
  iter 8 (fun e s =>
    let ins := ((s.talInputs e (s.talRunning e)) ++ s.talInputs e ((List.range 48).filter (s.ptValid e))).eraseDups.take 128
    if ins.isEmpty && (s.te e).vers.isEmpty then s
    else
      let s := s.readAt (ins.map Config.pointAt) 5 e
      let v := ins.map (fun p => (p, (s.readPt p).value, (s.readPt p).qual))
      s.updTe e (fun x => { x with vers := ((s.cycNow, v) :: x.vers).take 32 })) s

/-- Words of the plane history that the points `ls` of an engine read in the run of tick k (R384). -/
def State.talReads (s : State) (e k : Nat) (ls : List Nat) : List Nat :=
  ls.flatMap (fun l => (List.range 16).flatMap (fun i =>
    let w := s.ptList e l i
    if bit w 31 && !bit w 30 then (List.range (s.ptPhases e l)).map (fun p => Config.planeAt (k % 32) (fld w 0 20 + p * s.ptStride e l))
    else []))

/-! ### Classes and arithmetic (R255, R258) -/

/-- Class of a loaded value: 0 GOOD, 1 QUESTIONABLE, 2 UNUSABLE. -/
def clsOf (q : Nat) : Nat :=
  if q % 4 = 1 || q % 4 = 2 || q.testBit 10 || q.testBit 11 || q.testBit 12 || q.testBit 16 then 2
  else if q % 4 = 3 || q.testBit 19 || q.testBit 9 then 1
  else 0

/-- Integer square root by its bits, from bit n - 1 down. -/
def isqrt (a : Nat) : Nat → Nat → Nat
  | 0, r => r
  | n + 1, r => if (r + 2 ^ n) * (r + 2 ^ n) ≤ a then isqrt a n (r + 2 ^ n) else isqrt a n r

/-- Division of an integer by a power of two, rounded to nearest, ties away from zero. -/
def roundShift (v : Int) (n : Nat) : Int := roundDiv v (2 ^ n)

/-! ### Lookup tables (R259) -/

def lutDim (h : Word) : Nat := fld h 30 2
def lutNx (h : Word) : Nat := fld h 16 7
def lutNy (h : Word) : Nat := fld h 8 5
/-- Words of a table with its header. -/
def lutWords (h : Word) : Nat := if lutDim h = 2 then 1 + lutNx h + lutNy h + lutNx h * lutNy h else 1 + 2 * lutNx h

/-- Axis values of a table. -/
def State.lutAxis (s : State) (e a n : Nat) : List Int := (List.range n).map (fun i => (s.lutW e (a + i)).toInt)

/-- Place of an argument on an axis: lower index, distance above it, span, and whether it was clamped. -/
def bracketAxis (xs : List Int) (v : Int) : Nat × Int × Int × Bool :=
  let at_ (i : Nat) : Int := (xs[i]?).getD 0
  let n := xs.length
  if v < at_ 0 then (0, 0, at_ 1 - at_ 0, true)
  else if at_ (n - 1) < v then (n - 2, at_ (n - 1) - at_ (n - 2), at_ (n - 1) - at_ (n - 2), true)
  else
    let i := ((List.range (n - 1)).filter (fun i => at_ i ≤ v)).getLast?.getD 0
    (i, v - at_ i, at_ (i + 1) - at_ i, false)

/-- LUT1: value and clamp. -/
def State.lut1 (s : State) (e a : Nat) (v : Int) : Int × Bool :=
  let nx := lutNx (s.lutW e a)
  let b := bracketAxis (s.lutAxis e (a + 1) nx) v
  let y (i : Nat) : Int := (s.lutW e (a + 1 + nx + i)).toInt
  (roundDiv (y b.1 * b.2.2.1 + (y (b.1 + 1) - y b.1) * b.2.1) b.2.2.1.toNat, b.2.2.2)

/-- LUT2: bilinear, rounded once. -/
def State.lut2 (s : State) (e a : Nat) (v w : Int) : Int × Bool :=
  let h := s.lutW e a
  let bx := bracketAxis (s.lutAxis e (a + 1) (lutNx h)) v
  let bY := bracketAxis (s.lutAxis e (a + 1 + lutNx h) (lutNy h)) w
  let z (i j : Nat) : Int := (s.lutW e (a + 1 + lutNx h + lutNy h + i * lutNy h + j)).toInt
  let dx := bx.2.2.1
  let dy := bY.2.2.1
  let n := z bx.1 bY.1 * (dx - bx.2.1) * (dy - bY.2.1) + z (bx.1 + 1) bY.1 * bx.2.1 * (dy - bY.2.1) +
    z bx.1 (bY.1 + 1) * (dx - bx.2.1) * bY.2.1 + z (bx.1 + 1) (bY.1 + 1) * bx.2.1 * bY.2.1
  (roundDiv n (dx * dy).toNat, bx.2.2.2 || bY.2.2.2)

/-! ### One run of a point -/

/-- A point while its program runs: its context, what the run has noted, and the units its conversions added by total. -/
structure TRun where
  p : TPt
  miss : Bool := false
  quest : Bool := false
  solo : Bool := false
  closed : Bool := false
  sats : Nat := 0
  negs : Nat := 0
  clamps : Nat := 0
  defs : Nat := 0
  qs : List (Nat × Nat) := []

def TRun.reg (r : TRun) (i : Nat) : Int × Nat := (r.p.w[i]?).getD (0, 0)
def TRun.put (r : TRun) (d : Nat) (v : Int) (c : Nat) : TRun := { r with p := { r.p with w := r.p.w.set d (v, c) } }

/-- Saturation to a width, noted. -/
def TRun.sat (r : TRun) (n : Nat) (v : Int) : Int × TRun :=
  let x := satS n v
  (x.1, if x.2 then { r with sats := r.sats + 1 } else r)

/-- Add a magnitude to an accumulator unless its class forbids it (R256, R262, R263). -/
def TRun.add (r : TRun) (n v cls : Nat) : TRun :=
  if cls = 2 then { r with miss := true }
  else
    let r := if cls = 1 then { r with quest := true } else r
    let a := (r.p.acc[n]?).getD 0 + v
    if 2 ^ 96 ≤ a then { r with sats := r.sats + 1, p := { r.p with acc := r.p.acc.set n (2 ^ 96 - 1) } }
    else { r with p := { r.p with acc := r.p.acc.set n a } }

/-- An image input in version k - L: value and class; a point the version does not hold is UNUSABLE. -/
def State.talIn (s : State) (e k p : Nat) : Int × Nat × Bool :=
  match (s.te e).vers.find? (fun v => v.1 == k - (s.talAt k).lag) with
  | some v => (match v.2.find? (fun x => x.1 == p) with
    | some x => (toS 64 x.2.1, clsOf x.2.2, x.2.2.testBit 21)
    | none => (0, 2, false))
  | none => (0, 2, false)

/-- Strictly rising. -/
def rising : List Int → Bool
  | a :: b :: t => a < b && rising (b :: t)
  | _ => true

/-- Gain and delay of a sensor at a temperature; free where a live write left it fewer than two points or temperatures that do not
rise (log 71). -/
def State.senAt (s : State) (e n : Nat) (t : Int) : Int × Int :=
  let np := fld (s.senH e n 0) 24 5
  let ts := (List.range np).map (fun i => sfld (s.senW e n (2 * i)) 16 16)
  if np < 2 || !rising ts then Config.sensorOpen n t else
  let b := bracketAxis ts t
  let g (i : Nat) : Int := (s.senW e n (2 * i + 1)).toInt
  let d (i : Nat) : Int := fld (s.senW e n (2 * i)) 0 16
  let at_ (f : Nat → Int) : Int := roundDiv (f b.1 * b.2.2.1 + (f (b.1 + 1) - f b.1) * b.2.1) b.2.2.1.toNat
  (at_ g, at_ d)

/-- The temperature a sensor is compensated at: the image point, the last usable one, or DEFAULT_TEMP (R266); with whether
the point was usable. -/
def State.senTemp (s : State) (e k n i : Nat) (r : TRun) : Int × Bool × TRun :=
  let x := s.talIn e k (fld (s.senH e n 0) 0 20)
  if x.2.1 ≠ 2 then
    (x.1, true, { r with solo := r.solo || x.2.2, p := { r.p with temps := sput i x.1 r.p.temps } })
  else match r.p.temps.find? (fun t => t.1 == i) with
    | some t => (t.2, false, r)
    | none => (sfld (s.senH e n 1) 0 16, false, { r with defs := r.defs + 1, p := { r.p with tempDef := true } })

/-- A channel sample, compensated where C is set (R266); the cleared history of a started point holds 0 of class GOOD (log 70). -/
def State.talCh (s : State) (e l k ph i : Nat) (comp : Bool) (r : TRun) : Int × Nat × TRun :=
  let w := s.ptList e l i
  let g := s.grid k (fld w 0 20 + ph * s.ptStride e l)
  let c := clsOf g.2
  let r := { r with solo := r.solo || g.2.testBit 21 }
  if !comp then (g.1, c, r)
  else
    let n := fld w 20 8
    let t := s.senTemp e k n i r
    let r := t.2.2
    let gd := s.senAt e n t.1
    let key := i * 4 + ph
    let old : Int × Nat := match (s.tp e l).prev.find? (fun x => x.1 == key) with | some x => x.2 | none => (0, 0)
    let y := roundDiv (g.1 * 65536 - (g.1 - old.1) * gd.2) 65536
    let v := r.sat 32 (roundDiv (y * gd.1) (2 ^ 30))
    let r := { v.2 with p := { v.2.p with prev := sput key (g.1, c) v.2.p.prev } }
    (v.1, max (max c old.2) (if t.2.1 then 0 else 1), r)

/-- Frequency of the reference of a QUARTER line in its run of tick k, in Q16.16, and whether it is lost (R261). -/
def State.talFreq (s : State) (e l k : Nat) : Nat × Bool :=
  let w := s.ptW e l 3
  let fe := fld w 0 6
  let n := fld w 8 2
  let fn := s.fNom * 65536
  if s.unusable (pFLT fe) then (fn, true)
  else
    let r := s.refAt fe n k
    (max (fn * 7 / 10) (min (fn * 13 / 10) r.used), r.lostRun)

/-- DLY (R260, R261). -/
def State.talDly (s : State) (e l k i : Nat) (a : Int × Nat) (r : TRun) : Int × Nat × TRun :=
  let w := s.ptLine e l i
  let len := lnLen w
  let h := (a :: (r.p.lines[i]?).getD []).take (len + 1)
  let r := { r with p := { r.p with lines := r.p.lines.set i h, pushed := r.p.pushed.set i (min len ((r.p.pushed[i]?).getD 0 + 1)) } }
  let at_ (n : Nat) : Int × Nat := (h[n]?).getD (0, 2)
  match lnMode w with
  | 1 => ((at_ len).1, (at_ len).2, r)
  | 2 =>
    let f := s.talFreq e l k
    let d := (roundDiv ((4800 * s.ptPhases e l * 2 ^ 30 : Nat) : Int) f.1).toNat
    let p := at_ (d / 65536)
    let q := at_ (d / 65536 + 1)
    let fr := d % 65536
    let v := roundDiv (p.1 * 65536 + (q.1 - p.1) * fr) 65536
    (v, max (if fr = 0 then p.2 else max p.2 q.2) (if f.2 then 1 else 0), r)
  | _ =>
    let win := (List.range len).map at_
    let v := r.sat 64 ((win.map (fun x => x.1)).sum)
    (v.1, (win.map (fun x => x.2)).foldl max 0, v.2)

/-- QNT of accumulator n (R264). -/
def State.talQnt (s : State) (e l n : Nat) (r : TRun) : TRun :=
  let q := s.konst e (s.ptK e l + n)
  let a := (r.p.acc[n]?).getD 0
  let u := a / q
  let t := (r.p.tot[n]?).getD 0 + u
  let r := { r with
    p := { r.p with acc := r.p.acc.set n (a - u * q), tot := r.p.tot.set n (min t (2 ^ 64 - 1)) },
    qs := r.qs ++ [(n, u)] }
  if 2 ^ 64 ≤ t then { r with sats := r.sats + 1 } else r

/-- Quadrant of reactive A and active B (R262); none for A = 0. -/
def quadrant (a b : Int) : Option Nat :=
  if 0 < a then some (if 0 ≤ b then 0 else 1) else if a < 0 then some (if b < 0 then 2 else 3) else none

/-- One instruction of the program of point l in phase ph of tick k. -/
def State.talStep (s : State) (e l k ph : Nat) (r : TRun) (w : Word) : TRun :=
  let a := r.reg (iA w)
  let b := r.reg (iB w)
  let im := iImm w
  let d := iD w
  let c2 := max a.2 b.2
  let put (x : Int × TRun) (c : Nat) : TRun := x.2.put d x.1 c
  match iOp w with
  | 0x01 =>
    let x := s.talCh e l k ph (im % 16) (im.testBit 4) r
    x.2.2.put d x.1 x.2.1
  | 0x02 =>
    let x := s.talIn e k (fld (s.ptList e l (im % 16)) 0 20)
    ({ r with solo := r.solo || x.2.2 }).put d x.1 x.2.1
  | 0x03 => r.put d (toS 64 (s.konst e (s.ptK e l + im % 256))) 0
  | 0x04 => r.put d a.1 a.2
  | 0x05 => put (r.sat 64 (a.1 + b.1)) c2
  | 0x06 => put (r.sat 64 (a.1 - b.1)) c2
  | 0x07 => r.put d (roundShift a.1 (im % 64)) a.2
  | 0x08 => put (r.sat 64 (a.1 * 2 ^ (im % 64))) a.2
  | 0x09 =>
    let x := r.sat 32 a.1
    let y := x.2.sat 32 b.1
    y.2.put d (x.1 * y.1) c2
  | 0x0A =>
    let x := r.sat 32 a.1
    let y := x.2.sat 32 b.1
    let o := r.reg d
    put (y.2.sat 64 (o.1 + x.1 * y.1)) (max c2 o.2)
  | 0x0B =>
    if a.1 < 0 then ({ r with negs := r.negs + 1 }).put d 0 (max 1 a.2)
    else r.put d (isqrt a.1.toNat 32 0) a.2
  | 0x0C =>
    let x := s.talDly e l k (im % 8) a r
    x.2.2.put d x.1 x.2.1
  | 0x0D =>
    let x := s.lut1 e (im % 4096) a.1
    (if x.2 then { r with clamps := r.clamps + 1 } else r).put d x.1 (if x.2 then max 1 a.2 else a.2)
  | 0x0E =>
    let x := s.lut2 e (im % 4096) a.1 b.1
    (if x.2 then { r with clamps := r.clamps + 1 } else r).put d x.1 (if x.2 then max 1 c2 else c2)
  | 0x0F => if a.1 = 0 && a.2 ≠ 2 then r else r.add (im % 8 + (if a.1 < 0 then 1 else 0)) a.1.natAbs a.2
  | 0x10 =>
    match quadrant a.1 b.1 with
    | some n => r.add (im % 8 + n) a.1.natAbs c2
    | none => if c2 = 2 then { r with miss := true } else r
  | 0x11 =>
    if a.2 ≠ 2 ∧ a.1 < 0 then { r with negs := r.negs + 1, quest := true }
    else r.add (im % 8) a.1.natAbs a.2
  | 0x12 => ((List.range 8).filter (fun i => im.testBit i)).foldl (fun r n => s.talQnt e l n r) r
  | 0x13 =>
    let g := im % 4
    let on := s.konst e (s.ptK e l + 8 + 2 * g)
    let off := s.konst e (s.ptK e l + 9 + 2 * g)
    let was := (r.p.gates[g]?).getD false
    let now := if a.2 = 2 then was else if was then decide (off ≤ a.1.natAbs) else decide (on ≤ a.1.natAbs)
    let r := { r with p := { r.p with gates := r.p.gates.set g now }, closed := r.closed || !now }
    r.put d (if now then a.1 else 0) a.2
  | _ => r

/-! ### Intervals (R268 to R270) -/

/-- Flag bits [30:24] of an interval. -/
def fIncomplete : Nat := 64
def fQuest : Nat := 32
def fSolo : Nat := 16
def fTimeStep : Nat := 8
def fSat : Nat := 4
def fCreep : Nat := 2
def fGap : Nat := 1

def TPt.mark (p : TPt) (f : Nat) : TPt := { p with cur := { p.cur with flags := p.cur.flags ||| f } }

/-- Ticks that were not run count as missing in the current interval of a running point (R256, R288). -/
def TPt.lost (p : TPt) (n : Nat) : TPt :=
  if n = 0 || p.state = 0 then p else
    { p.mark fIncomplete with cur := { (p.mark fIncomplete).cur with missing := p.cur.missing + n } }

/-- The current interval is closed into the ring with the deltas. -/
def TPt.close (p : TPt) (f : Nat) : TPt :=
  let c := p.cur
  let ds := (List.range 8).map (fun i => (p.tot[i]?).getD 0 - (c.start[i]?).getD 0)
  { p with ring := ({ c with flags := c.flags ||| f, start := ds } :: p.ring).take 4, cur := { seq := (c.seq + 1) % 2 ^ 32 } }

/-- A new current interval opens. -/
def TPt.open (p : TPt) (sec f : Nat) : TPt :=
  { p with cur := { valid := true, flags := f, seq := p.cur.seq, startSec := sec, start := p.tot } }

/-- Boundary after a second, as station seconds: (SEC - offset) mod LEN = 0. -/
def ivlNext (sec : Nat) (off : Int) (len : Nat) : Nat := sec + (len - (((sec : Int) - off) % (len : Int)).toNat)

/-- Station second at which an interval ends whose START_SEC (32 bits of UTC seconds) is known. -/
def ivlEndOf (sec : Nat) (off : Int) (start len : Nat) : Nat :=
  ((((sec : Int) - off) / 2 ^ 32) * 2 ^ 32 + (start % 2 ^ 32 : Nat) + off + len).toNat

/-- Points with intervals. -/
def State.ivlPts (s : State) (e : Nat) : List Nat := (List.range 48).filter (fun l => s.ptValid e l && s.ptIvl e l)

/-- Interval handling at the start of the run of tick k, before any instruction runs; the `gap` ticks before it were not run. -/
def State.talIvl (s : State) (e k gap : Nat) : State :=
  let x := s.te e
  let now := s.talAt k
  let len := (now.lens[e]?).getD 0
  let off := now.off
  let sec := k / 4800
  let pts := s.ivlPts e
  let map (f : TPt → TPt) (x : TalEng) : TalEng := pts.foldl (fun x l => if (x.pt l).cur.valid then x.setPt l (f (x.pt l)) else x) x
  let nCur (x : TalEng) : Nat := (pts.filter (fun l => (x.pt l).cur.valid)).length
  -- a changed length closes every current interval
  let cut := x.len != len && x.len != 0
  let n0 := if cut then nCur x else 0
  let x := if cut then { map (fun p => (p.lost gap).close fIncomplete) x with ivlEnd := none } else x
  -- a restored interval's end
  let known := x.ivlEnd.orElse (fun _ => if len = 0 then none else
    (pts.find? (fun l => (x.pt l).cur.valid)).map (fun l => ivlEndOf sec off (x.pt l).cur.startSec len))
  -- a changed offset moves the end
  let moved := match x.off with | some o => o != off | none => false
  let end_ := known.map (fun n => if moved then ((n : Int) + off - x.off.getD off).toNat else n)
  let x := if moved then map (fun p => p.mark fTimeStep) x else x
  -- steps of station time
  let x := if x.backSteps < s.tsu.backSteps then map (fun p => p.mark (fTimeStep + fIncomplete)) x else x
  let x := { x with off := some off, len := len, backSteps := s.tsu.backSteps }
  if len = 0 then
    let s := (s.setTe e { x with ivlEnd := none }).bumpBy (pTAL e) R.TAL_CNT_IVL_CLOSED n0
    if n0 = 0 then s else s.irq (pTAL e) 5
  else
    let next := ivlNext sec off len
    let start := next - len
    let fresh := if k = start * 4800 then 0 else fIncomplete
    let stopped (p : TPt) : Nat := if p.state = 0 then fIncomplete else 0
    let over_ := match end_ with | some n => decide (n ≤ sec) | none => false
    let stepOver := match x.lastRun, end_ with
      | some l, some n => l + 1 < n * 4800 && l ≤ s.tsu.stepTick && s.tsu.stepTick < k && n * 4800 < k
      | _, _ => false
    let n1 := if over_ then nCur x else 0
    -- ticks not run belong to the interval they lie in
    let before := if over_ then min k (end_.getD 0 * 4800) - (k - gap) else gap
    let after := if cut then 0 else k - max (k - gap) (start * 4800)
    let x := map (fun p => p.lost before) x
    let x := if over_ then map (fun p => p.close (if stepOver then fTimeStep + fIncomplete else 0)) x else x
    let x := pts.foldl (fun x l =>
      let p := x.pt l
      if p.cur.valid then x
      else x.setPt l ((p.open (((start : Int) - off) % 2 ^ 32).toNat
        ((if over_ && !stepOver then 0 else fresh) ||| stopped p)).lost after)) x
    let s := s.setTe e { x with ivlEnd := if over_ || end_.isNone then some next else end_ }
    let s := s.bumpBy (pTAL e) R.TAL_CNT_IVL_CLOSED (n0 + n1)
    if n0 + n1 = 0 then s else s.irq (pTAL e) 5

/-! ### Pulse outputs at a run (R279, R281) -/

def State.dfoCfg (s : State) (n : Nat) : Word := s.ac pDFO (R.DFO_CFG + 8 * n)
/-- Engine, point and total an output is bound to. -/
def dfoBind (w : Word) : Nat × Nat × Nat := (fld w 0 3, fld w 8 6, fld w 16 3)

/-- q units added to a total in the run of tick k drive the outputs bound to it. -/
def State.dfoAdd (s : State) (e l k t q endNs : Nat) : State :=
  iter 8 (fun n s =>
    let w := s.dfoCfg n
    if !bit w 31 || !s.running pDFO || dfoBind w != (e, l, t) then s
    else
      let x := s.dfo n
      let a := x.frac + q * ((s.talAt k).consts[n]?).getD 0
      let b := x.backlog + a / 65536
      let lost := b - 65535
      let old := if x.freshNs = endNs then x.fresh else 0
      let s := s.setDfo n { x with
        backlog := min b 65535, frac := a % 65536, fresh := old + (min b 65535 - x.backlog), freshNs := endNs, lossSeen := x.lossSeen || lost != 0 }
      if lost = 0 then s
      else
        let s := (s.bumpBy pDFO (R.DFO_CNT_PULSE_LOST + 4 * n) lost).irq pDFO 4
        if x.lossSeen then s else s.deck pDFO 9 8 (tagBody (tagOf s.tick) ++ bytesLE 4 n ++ bytesLE 4 lost)) s

/-! ### The run of a tick (R253, R256, R271) -/

/-- Metrology record of an engine (R267): tick tag, engine, address or command. -/
def State.talRec (s : State) (typ e v : Nat) : State := s.deck (pTAL e) 9 typ (tagBody (tagOf s.tick) ++ bytesLE 4 e ++ bytesLE 4 v)

/-- A START takes effect in this run: registers, lines, histories and gates cleared, FILLING. -/
def TPt.begin (p : TPt) (lines : Nat → Word) : TPt :=
  let fills := (List.range 8).any (fun i => lnMode (lines i) != 0)
  { p with
    state := if fills then 1 else 2, startNs := none, w := List.replicate 16 (0, 0),
    lines := List.replicate 8 [], pushed := List.replicate 8 0, gates := List.replicate 4 false, prev := [], temps := [],
    tempDef := false, missing := 0, gated := 0, cur := { p.cur with flags := p.cur.flags ||| fIncomplete } }

/-- STARTs effective with the run of tick k. -/
def State.talStarts (s : State) (e k : Nat) : State :=
  (List.range 48).foldl (fun s l =>
    match (s.tp e l).startNs with
    | some t => if t + 1000 ≤ tickStartNs k then (s.setTp e l ((s.tp e l).begin (s.ptLine e l))).irq (pTAL e) 9 else s
    | none => s) s

/-- A running point in the run of tick k. -/
def State.talPoint (s : State) (e k endNs l : Nat) : State :=
  let p0 := { s.tp e l with tempDef := false }
  let prog := s.ptInstrs e l
  let r : TRun := (List.range (s.ptPhases e l)).foldl (fun r ph => prog.foldl (fun r w => s.talStep e l k ph r w) r) { p := p0 }
  let flags := (if r.miss then fIncomplete else 0) ||| (if r.quest || r.clamps != 0 then fQuest else 0) |||
    (if r.solo then fSolo else 0) ||| (if r.sats != 0 then fSat else 0) ||| (if r.closed then fCreep else 0)
  let c := r.p.cur
  let inc (v : Nat) (b : Bool) : Nat := if b then min 0xFFFFFFFF (v + 1) else v
  let full := (List.range 8).all (fun i => lnMode (s.ptLine e l i) == 0 || lnLen (s.ptLine e l i) ≤ (r.p.pushed[i]?).getD 0)
  let st := if r.p.state = 1 && full then 2 else r.p.state
  let p : TPt :=
    { r.p with
      state := st, sat := r.p.sat || r.sats != 0, lastTag := tagOf k, missing := inc r.p.missing r.miss,
      gated := inc r.p.gated r.closed,
      cur := if c.valid then { c with
          flags := c.flags ||| flags, ticks := c.ticks + 1, missing := c.missing + b2n r.miss, gated := c.gated + b2n r.closed }
        else c }
  let s := s.setTp e l p
  let s := if r.miss then ((s.bump (pTAL e) R.TAL_CNT_MISSING).irq (pTAL e) 6).updTe e (fun x => { x with miss := x.miss ++ [l] }) else s
  let s := if r.closed then s.bump (pTAL e) R.TAL_CNT_GATED else s
  let s := s.bumpBy (pTAL e) R.TAL_CNT_SAT r.sats
  let s := if r.sats != 0 && !p0.sat then s.irq (pTAL e) 4 else s
  let s := s.bumpBy (pTAL e) R.TAL_CNT_CLAMP r.clamps
  let s := if r.clamps != 0 then s.irq (pTAL e) 7 else s
  let s := s.bumpBy (pTAL e) R.TAL_CNT_NEG r.negs
  let s := s.bumpBy (pTAL e) R.TAL_CNT_TEMP_DEFAULT r.defs
  let s := if r.defs != 0 then s.irq (pTAL e) 8 else s
  let s := if st != p0.state then s.irq (pTAL e) 9 else s
  r.qs.foldl (fun s q => s.dfoAdd e l k q.1 q.2 endNs) s

/-- CRC-64 over TOT and ACC of the running points (R361); 0 without any. -/
def State.talCrc (s : State) (e : Nat) : Nat :=
  let ps := (List.range 48).filter (fun l => (s.tp e l).state != 0)
  if ps.isEmpty then 0
  else crc64 (ps.flatMap (fun l => (s.tp e l).tot.flatMap (bytesLE 8) ++ (s.tp e l).acc.flatMap (bytesLE 12)))

/-- An engine makes runs. -/
def State.talLive (s : State) (e : Nat) : Bool := (s.hd (pTAL e)).enable && !s.unusable (pTAL e) && e < 8 && !s.pwr.pfw && !s.pwr.pfMode && s.rst.prep.isNone

/-- The next tick of an engine, with the clock of the plane's completion. -/
def State.talNext (s : State) (e : Nat) : Option (Nat × Nat) :=
  let x := s.te e
  ((s.sva.finals.filter (fun f => x.fromTick ≤ f.1 && (match x.lastRun with | some l => l < f.1 | none => true))).getLast?).map
    (fun f => (f.1, f.2.2))

/-- Ticks not run since the last run, other than ticks that a station-time step passed over (R288). -/
def State.talGap (s : State) (e k : Nat) : Nat :=
  match (s.te e).lastRun with
  | some l => if l ≤ s.tsu.stepTick && s.tsu.stepTick < k && s.tsu.stepTick = l then 0 else k - l - 1
  | none => 0

/-- What the run of tick k waits for: the end of the engine's own run before, the tally state a joining module adopts (R373), and the run
of the tick before of a filter engine whose reference a running point's quarter-period line follows (R261). -/
def State.talWaits (s : State) (e k : Nat) : Bool :=
  decide (s.tsu.clk < (s.te e).endClk) || (s.dup.state == 3 && s.dup.resyncTick.map (· + 512) == some k && !s.dup.ptsFrom.contains e) ||
    (s.talRunning e).any (fun l => (List.range 8).any (fun i => lnMode (s.ptLine e l i) == 2) && s.fltBehind (fld (s.ptW e l 3) 0 6) k)

/-- The whole run of tick k but its saves. -/
def State.talRunTick (s : State) (e k done : Nat) : State :=
  let x := s.te e
  let late := done < x.endClk
  let gap := s.talGap e k
  let s := s.updTe e (fun x => { x with shownPts := x.pts, shownMiss := x.miss, miss := [] })
  let s := if gap = 0 then s else (List.range 48).foldl (fun s l =>
    let p := s.tp e l
    if p.state = 0 then s
    else (s.setTp e l { p with missing := min 0xFFFFFFFF (p.missing + gap) }).bumpBy (pTAL e) R.TAL_CNT_MISSING gap) s
  let s := (s.talIvl e k gap).talStarts e k
  let run := (List.range 48).filter (fun l => (s.tp e l).state != 0)
  let load := (run.map (s.ptCost e)).sum
  let endNs := s.ns + cdiv (load * 10) 6
  let s := s.readAt (s.talReads e k run) 5 e
  let s := run.foldl (fun s l => s.talPoint e k endNs l) s
  let s := s.updTe e (fun x => { x with lastRun := some k, endClk := s.tsu.clk + cdiv (load * 10) 24, shown := (s.rg (pTAL e) R.TAL_LAST_TICK, s.rg (pTAL e) R.TAL_RUN_TIME), hashes := ((k, s.talCrc e) :: x.hashes).take 32 })
  let s := (s.setRg (pTAL e) R.TAL_LAST_TICK (tagOf k)).setRg (pTAL e) R.TAL_RUN_TIME (w32 (min 0xFFF (cdiv load 60)))
  let s := s.bump (pTAL e) R.TAL_CNT_RUNS
  if late then s.bump (pTAL e) R.TAL_CNT_RUN_LATE else s

/-! ### START, STOP, CLEAR_SAT (R271, R291) -/

/-- Delay-line checks of a point against the lines of others that run. -/
def State.linesOverlap (s : State) (e l : Nat) (others : List Nat) : Bool :=
  let span (m : Nat) : List (Nat × Nat) := (List.range 8).filterMap (fun i =>
    let w := s.ptLine e m i
    if lnMode w = 0 then none else some (lnBase w, lnLen w))
  let own := span l
  let all := own.zipIdx.map (fun x => (x.1, 1000 + x.2)) ++ (others.flatMap span).zipIdx
  own.zipIdx.any (fun a => all.any (fun b => b.2 != 1000 + a.2 && overlap a.1.1 a.1.2 b.1.1 b.1.2))

/-- Check of a point at START in the order of R271: the ERR_CODE of the first that fails; `others` run or start with it. -/
def State.talStartCheck (s : State) (e l : Nat) (others : List Nat) : Option Nat :=
  let phases := s.ptPhases e l
  let kn := s.ptKn e l
  let kb := s.ptK e l
  let prog := s.talInstrs e 256 (s.ptProg e l)
  let is := prog.getD []
  let lines := (List.range 8).map (s.ptLine e l)
  let luts := is.filterMap (fun w => if iOp w = 0x0D || iOp w = 0x0E then some (iImm w % 4096) else none)
  let ents := (List.range 16).map (s.ptList e l)
  let ent (w : Word) : Word := s.ptList e l (iImm w % 16)
  let sens := is.filterMap (fun w => if iOp w = 0x01 && (iImm w).testBit 4 then some (fld (ent w) 20 8) else none)
  let qnts := (is.filter (fun w => iOp w = 0x12)).flatMap (fun w => (List.range 8).filter (fun i => (iImm w).testBit i))
  let fs := 4800 * phases
  let minQ := cdiv (fs * 10) (28 * s.fNom) + 2
  let np (n : Nat) : Nat := fld (s.senH e n 0) 24 5
  let hd2 (a : Nat) : Bool := lutDim (s.lutW e a) = 2
  if (s.te e).noValid then some 0x43
  else if !s.ptValid e l then some Err.range
  else if phases = 0 ∨ kn = 0 ∨ lines.any (fun w => lnMode w != 0 && lnLen w == 0) ∨
      luts.any (fun a => lutNx (s.lutW e a) == 0 || (hd2 a && lutNy (s.lutW e a) == 0)) ∨
      sens.any (fun n => np n == 0) ∨ qnts.any (fun n => s.konst e (kb + n) == 0) then some Err.zeroField
  else if phases = 2 ∨ kn < 16 ∨ 1024 < kb + kn ∨
      is.any (fun w => iOp w = 0x03 && kn ≤ iImm w % 256) ∨
      ents.any (fun w => bit w 31 && !bit w 30 && (if s.half then 2048 else 4096) ≤ fld w 0 20 + (phases - 1) * s.ptStride e l) ∨
      sens.any (fun n => !bit (s.senH e n 0) 31 || np n < 2 || 16 < np n ||
        (List.range (np n)).any (fun i => 32767 < fld (s.senW e n (2 * i)) 0 16 || (s.senW e n (2 * i + 1)).toInt ≤ 0)) ∨
      luts.any (fun a => 4096 < a + lutWords (s.lutW e a) || lutNx (s.lutW e a) < 2 || (if hd2 a then 16 else 64) < lutNx (s.lutW e a) ||
        (hd2 a && (lutNy (s.lutW e a) < 2 || 16 < lutNy (s.lutW e a)))) ∨
      is.any (fun w => (iOp w = 0x0F && 6 < iImm w % 8) || (iOp w = 0x10 && 4 < iImm w % 8)) ∨
      lines.any (fun w => lnMode w != 0 && (512 < lnLen w || 32768 < lnBase w + lnLen w || (lnMode w = 2 && lnLen w < minQ))) ∨
      s.linesOverlap e l others ∨
      (List.range 4).any (fun g => is.any (fun w => iOp w = 0x13 && iImm w % 4 = g &&
        (s.konstI e (kb + 9 + 2 * g) < 0 || s.konstI e (kb + 8 + 2 * g) < s.konstI e (kb + 9 + 2 * g)))) then some Err.range
  else if prog.isNone ∨ is.any (fun w => 0x13 < iOp w) ∨
      is.any (fun w => (iOp w = 0x01 && (bit (ent w) 30 || !bit (ent w) 31)) || (iOp w = 0x02 && !(bit (ent w) 30 && bit (ent w) 31))) ∨
      is.any (fun w => iOp w = 0x0C && lnMode (s.ptLine e l (iImm w % 8)) = 0) ∨
      is.any (fun w => (iOp w = 0x0D && lutDim (s.lutW e (iImm w % 4096)) != 1) ||
        (iOp w = 0x0E && lutDim (s.lutW e (iImm w % 4096)) != 2)) then some 0x41
  else if luts.any (fun a => !rising (s.lutAxis e (a + 1) (lutNx (s.lutW e a))) ||
      (hd2 a && !rising (s.lutAxis e (a + 1 + lutNx (s.lutW e a)) (lutNy (s.lutW e a))))) ∨
      sens.any (fun n => !rising ((List.range (np n)).map (fun i => sfld (s.senW e n (2 * i)) 16 16))) then some 0x42
  else if 128 < (s.talInputs e (l :: others)).length then some Err.capFull
  else if 100000 < ((l :: others).map (s.ptCost e)).sum then some 0x40
  else none

/-- TAL_PT_CMD START of a point. -/
def State.talStart (s : State) (e l : Nat) : State :=
  let off := R.TAL_PT_CMD
  let run := s.talRunning e
  if 47 < l then s.refuse (pTAL e) off Err.range
  else if s.unusable (pTAL e) then s.refuse (pTAL e) off Err.capFull
  else if run.contains l then s
  else match s.talStartCheck e l run with
    | some c => s.refuse (pTAL e) off c
    | none => (s.setTp e l { s.tp e l with startNs := some s.ns }).talRec 2 e (2 ^ 16 + l)

/-- CTRL.START: every valid point that does not run, all or none: the refusal, or the state. -/
def State.talStartAll (s : State) (e : Nat) : Nat ⊕ State :=
  let run := s.talRunning e
  let new := (List.range 48).filter (fun l => s.ptValid e l && !run.contains l)
  let bad := new.findSome? (fun l => s.talStartCheck e l (run ++ new.filter (fun m => m != l)))
  if (s.te e).noValid then .inl 0x43
  else match bad with
    | some c => .inl c
    | none => .inr (new.foldl (fun s l => (s.setTp e l { s.tp e l with startNs := some s.ns }).talRec 2 e (2 ^ 16 + l)) s)

/-- STOP of a point: at the end of the current run, whose whole effect is one command; at once between runs (R271). -/
def State.talStop (s : State) (e l : Nat) : State :=
  if 47 < l then s.refuse (pTAL e) R.TAL_PT_CMD Err.range
  else if s.unusable (pTAL e) then s.refuse (pTAL e) R.TAL_PT_CMD Err.capFull
  else
    let p := s.tp e l
    let s := if p.state = 0 then s.setTp e l { p with startNs := none }
      else (s.setTp e l { p.mark fIncomplete with state := 0, startNs := none }).irq (pTAL e) 9
    s.talRec 2 e (2 ^ 17 + l)

/-- The instance stops: every point. -/
def State.talStopAll (s : State) (e : Nat) : State :=
  (s.talRunning e).foldl (fun s l => s.talStop e l) s

/-- Points stop at once (ENABLE cleared, SOFT_RESET, a fence). -/
def State.talHalt (s : State) (e : Nat) : State :=
  (s.talRunning e).foldl (fun s l =>
    let p := s.tp e l
    if p.state = 0 then s.setTp e l { p with startNs := none }
    else (s.setTp e l { p.mark fIncomplete with state := 0, startNs := none }).irq (pTAL e) 9) s

def State.talClearSat (s : State) (e l : Nat) : State :=
  if 47 < l then s.refuse (pTAL e) R.TAL_PT_CMD Err.range
  else if s.unusable (pTAL e) then s.refuse (pTAL e) R.TAL_PT_CMD Err.capFull
  else (s.setTp e l { s.tp e l with sat := false }).talRec 2 e (3 * 2 ^ 16 + l)

/-! ### Table writes and COMMIT (R251, R267, R271, R272) -/

/-- A table write of engine e at an offset of its block: the code of a refusal. -/
def State.talWrCheck (s : State) (e o : Nat) (ws : List Word) : Option Nat :=
  let busy (l : Nat) : Bool := (s.talRunning e).contains l
  let w0 := (ws[0]?).getD 0
  let hit (f : Nat → Bool) : Bool := (List.range 48).any (fun l => busy l && f l)
  if o < 0x4000 then
    let a := o / 4
    if hit (fun l => s.ptProg e l ≤ a && a < s.ptProg e l + (s.ptInstrs e l).length) then some Err.notStopped else none
  else if o < 0x7000 then
    let l := (o - 0x4000) / 256
    if busy l then some Err.notStopped
    else if (fld w0 28 1 == 1) != decide (32 ≤ l) then some Err.range
    else none
  else if o < 0x9000 then
    let i := (o - 0x7000) / 8
    if hit (fun l => s.ptK e l ≤ i && i < s.ptK e l + s.ptKn e l) then some Err.notStopped else none
  else if o < 0xD000 then
    let i := (o - 0x9000) / 4
    if hit (fun l => (s.ptInstrs e l).any (fun w => (iOp w = 0x0D || iOp w = 0x0E) &&
        iImm w % 4096 ≤ i && i < iImm w % 4096 + lutWords (s.lutW e (iImm w % 4096)))) then some Err.notStopped else none
  else if o < 0x15000 then
    if (List.range 16).any (fun i => 32767 < fld ((ws[2 * i]?).getD 0) 0 16 || ((ws[2 * i + 1]?).getD 0).toInt < 0) then some Err.range else none
  else if o < 0x1F800 then some Err.range
  else
    let np := fld w0 24 5
    if bit w0 31 && (np = 1 || 16 < np) then some Err.range
    else none

/-- COMMIT checks of a TAL page: offset and code. -/
def State.talCheck (s : State) (e : Nat) : Option (Nat × Nat) :=
  let len := fld (s.rg (pTAL e) R.TAL_CFG) 16 16
  if len ≠ 0 ∧ (len < 60 ∨ 3600 < len ∨ 3600 % len ≠ 0) then some (R.TAL_CFG, Err.range) else none

/-- A COMMIT of TAL_CFG is recorded. -/
def State.talApplied (s : State) (e : Nat) : State :=
  s.talRec 3 e (s.ac (pTAL e) R.TAL_CFG).toNat

/-! ### Reads -/

/-- A run of an engine is in progress. -/
def State.talBusy (s : State) (e : Nat) : Bool := s.tsu.clk < (s.te e).endClk

/-- A point as the tables show it: as the last completed run left it (R253). -/
def State.tpShown (s : State) (e l : Nat) : TPt := if s.talBusy e then sget {} l (s.te e).shownPts else s.tp e l

/-- Read-only registers of a TAL page. -/
def State.talRo (s : State) (e off : Nat) : Option Word :=
  let map (f : Nat → Bool) (k : Nat) : Word := w32 ((List.range 32).foldl (fun a i => a + b2n (32 * k + i < 48 && f (32 * k + i)) * 2 ^ i) 0)
  let x := s.te e
  let busy := s.talBusy e
  let miss := if busy then x.shownMiss else x.miss
  if off = R.TAL_LOAD then some (w32 (s.talLoad e))
  else if busy ∧ off = R.TAL_LAST_TICK then some x.shown.1
  else if busy ∧ off = R.TAL_RUN_TIME then some x.shown.2
  else if off = R.TAL_PI_LAG then some (w32 s.piLag)
  else if off = R.TAL_INPUTS then some (w32 (s.talInputs e (s.talRunning e)).length)
  else if off = R.TAL_RUN_MAP then some (map (fun l => (x.pt l).state != 0) 0)
  else if off = R.TAL_RUN_MAP + 4 then some (map (fun l => (x.pt l).state != 0) 1)
  else if off = R.TAL_SAT_MAP then some (map (fun l => (x.pt l).sat) 0)
  else if off = R.TAL_SAT_MAP + 4 then some (map (fun l => (x.pt l).sat) 1)
  else if off = R.TAL_MISS_MAP then some (map (fun l => miss.contains l) 0)
  else if off = R.TAL_MISS_MAP + 4 then some (map (fun l => miss.contains l) 1)
  else if off = R.TAL_SAVE_STATUS then
    some (w32 (x.area + 2 * b2n (!x.saves.isEmpty) + 4 * b2n x.noValid + 8 * b2n x.final + 16 * b2n x.gap + 32 * b2n x.torn))
  else if off = R.TAL_SAVE_SEQ then some (w32 x.seq)
  else if off = R.TAL_SAVE_TAG then some x.saveTag
  else if off = R.TAL_SAVE_GAP then some (w32 x.gapMs)
  else none

/-- Word i of an interval entry. -/
def ivlWord (v : TIvl) (ds : List Nat) (i : Nat) : Word :=
  match i with
  | 0 => w32 (b2n v.valid * 2 ^ 31 + v.flags % 128 * 2 ^ 24)
  | 1 => w32 v.seq
  | 2 => w32 v.startSec
  | 3 => w32 v.ticks
  | 4 => w32 v.missing
  | 5 => w32 v.gated
  | _ => if 8 ≤ i ∧ i < 24 then w32 ((ds[(i - 8) / 2]?).getD 0 / 2 ^ (32 * (i % 2))) else 0

/-- Read-only words of the TAL tables at an offset of an engine's block. -/
def State.talTblWord (s : State) (e o : Nat) : Option Word :=
  if 0x15000 ≤ o ∧ o < 0x1C800 then
    let n := (o - 0x15000) / 128
    let p := s.tpShown e (n / 5)
    let i := o % 128 / 4
    if n % 5 = 0 then
      some (ivlWord p.cur ((List.range 8).map (fun j => if p.cur.valid then (p.tot[j]?).getD 0 - (p.cur.start[j]?).getD 0 else 0)) i)
    else
      let v := (p.ring[n % 5 - 1]?).getD {}
      some (ivlWord v v.start i)
  else if 0x1C800 ≤ o ∧ o < 0x1F800 then
    let p := s.tpShown e ((o - 0x1C800) / 256)
    let i := o % 256 / 4
    if i < 16 then some (w32 ((p.tot[i / 2]?).getD 0 / 2 ^ (32 * (i % 2))))
    else if i < 48 then some (if i % 4 = 3 then 0 else w32 ((p.acc[(i - 16) / 4]?).getD 0 / 2 ^ (32 * (i % 4))))
    else match i with
      | 48 => some (w32 (b2n p.sat + (List.range 4).foldl (fun a c => a + b2n (!(p.gates[c]?).getD false) * 2 ^ (4 + c)) 0 + b2n p.tempDef * 256))
      | 49 => some p.lastTag
      | 50 => some (w32 p.missing)
      | 51 => some (w32 p.gated)
      | _ => some 0
  else if 0x4000 ≤ o ∧ o < 0x7000 ∧ o % 256 = 0 then
    let l := (o - 0x4000) / 256
    some (setFld (s.ptW e l 0) 29 2 (s.tp e l).state)
  else none

end Sys2Proof.Machine
end

