-- ==== Sys2Proof/Machine/TalCmd.lean ====
section
/-!
DEFINITION. Saved totals (R284 to R291), pulse outputs in time (R280 to R283), and the commands of the tally engines.
-/
namespace Sys2Proof.Machine

/-! ### Saves (R284 to R287) -/

/-- MRAM offset of a save area. -/
def saveAt (e area : Nat) : Nat := 0x10000 + (2 * e + area) * 11776

/-- Header of a save (R284; log 73). -/
def State.saveHead (s : State) (e seq : Nat) (tag : Word) (final : Bool) : List Nat :=
  let map := (List.range 48).foldl (fun a l => a + b2n ((s.tp e l).state != 0) * 2 ^ l) 0
  bytesLE 4 seq ++ bytesLE 4 tag.toNat ++ bytesLE 8 s.rtcNow ++ [b2n final, e] ++ List.replicate 6 0 ++ bytesLE 8 map ++
  (List.range 48).map (fun l => b2n (s.tp e l).cur.valid * 128 + (s.tp e l).cur.flags % 128) ++ List.replicate 16 0

/-- A point's 240 bytes. -/
def savePoint (p : TPt) : List Nat :=
  p.tot.flatMap (bytesLE 8) ++ p.acc.flatMap (bytesLE 12) ++ p.cur.start.flatMap (bytesLE 8) ++
  bytesLE 4 p.cur.seq ++ bytesLE 4 p.cur.startSec ++ bytesLE 4 p.cur.ticks ++ bytesLE 4 p.cur.missing

/-- Binding of an output as a save holds it: bit 31, TOT, POINT, ENGINE as in DFO_CFGn. -/
def bindWord (w : Word) : Nat := 2 ^ 31 + fld w 16 3 * 2 ^ 16 + fld w 8 6 * 2 ^ 8 + fld w 0 3

/-- Pulse outputs bound to the engine. -/
def State.savePulses (s : State) (e : Nat) : List Nat :=
  (List.range 8).flatMap (fun n =>
    let w := s.dfoCfg n
    if fld w 0 3 = e && bit w 31 then
      bytesLE 4 (bindWord w) ++ bytesLE 4 (s.dfo n).backlog ++ bytesLE 4 (s.dfo n).frac ++ bytesLE 4 0
    else match ((s.te e).held.find? (fun h => h.1 == n)) with
      | some h => bytesLE 4 h.2.1 ++ bytesLE 4 h.2.2.1 ++ bytesLE 4 h.2.2.2 ++ bytesLE 4 0
      | none => List.replicate 16 0)

/-- The buffer of a save as the engine's state stands. -/
def State.saveBytes (s : State) (e seq : Nat) (tag : Word) (final : Bool) : List Nat :=
  s.saveHead e seq tag final ++ (List.range 48).flatMap (fun l => savePoint (s.tp e l)) ++ s.savePulses e

/-- The first word of an area's Blaze is zeroed as its writing begins (R286). -/
def State.saveOpen (s : State) (e : Nat) : State :=
  match (s.te e).saves with
  | v :: _ => s.writeMram (saveAt e v.area + 11744) (List.replicate 8 0)
  | [] => s

/-- A save is made: the buffer is taken in one step, and written after the saves before it. -/
def State.saveStart (s : State) (e k : Nat) (final : Bool) : State :=
  let x := s.te e
  let last := x.saves.getLast?
  let area := match last with | some v => 1 - v.area | none => if x.seq = 0 then 0 else 1 - x.area
  let seq := ((match last with | some v => v.seq | none => x.seq) + 1) % 2 ^ 32
  let v : TSave := { area := area, seq := seq, tick := k, final := final, bytes := s.saveBytes e seq (tagOf k) final }
  let s := s.setTe e { x with saves := x.saves ++ [v], lastSave := some k, saveNow := false }
  if last.isNone then s.saveOpen e else s

/-- A periodic save is due at the end of the run of tick k (R285). -/
def State.saveDue (s : State) (e k : Nat) : Bool :=
  let n := cdiv (fld (s.ac (pTAL e) R.TAL_SAVE_CFG) 0 10 * 48) 10
  k % n = 0 || (match (s.te e).lastSave with | some l => l + n < k | none => false)

/-- The save at the end of the run of tick k, a periodic one or the one SAVE_NOW asks for, which leaves the periodic schedule unchanged
(R285, R291). -/
def State.saveAfter (s : State) (e k : Nat) : State :=
  let x := s.te e
  if s.saveDue e k then s.saveStart e k false
  else if x.saveNow then (s.saveStart e k false).updTe e (fun y => { y with lastSave := x.lastSave })
  else s

/-- TAL_TICK_RUN: the run of the engine's next tick, with its save (R253, R285); a joining module waits for the tally state
in tick R + 512 (R373). -/
def State.talRun (s : State) (e : Nat) : State :=
  match s.talNext e with
  | none => s
  | some (k, done) =>
    if !s.talLive e || s.talWaits e k then s
    else (s.talRunTick e k done).saveAfter e k

/-- The privileged TOTAL_SAVE records once every FINAL save is complete (R287), and in a flush the SYSTEM record of type 0x03
(R349, R429). -/
def State.finalRecords (s : State) : State :=
  let es := (List.range 8).filter (fun e => !s.unusable (pTAL e))
  let s := es.foldl (fun s e =>
    let x := s.te e
    s.deck (pTAL e) 12 1 (tagBody x.saveTag ++ bytesLE 4 e ++ bytesLE 4 x.seq ++ bytesLE 4 x.saveTag.toNat ++
      s.mramBytes (saveAt e x.area + 11744 + 12) 4)) s
  let s := if s.pwr.pfMode then s.deck pEVR 13 0x03 (tagBody (tagOf s.tick)) else s
  { s with pwr := { s.pwr with finalDone := true } }

/-- SAVE_WRITE_DONE: header, points and pulse outputs, then the Blaze (R286); saves that fall due together end in ascending
engine number. -/
def State.saveDone (s : State) (e : Nat) : State :=
  match (s.te e).saves with
  | [] => s
  | v :: rest =>
    if (List.range e).any (fun o => match (s.te o).saves with | w :: _ => w.tick ≤ v.tick | [] => false) then s
    else
      let a := saveAt e v.area
      let s := s.writeMram a v.bytes
      let s := s.writeMram (a + 11744)
        (bytesLE 4 0x424C415A ++ bytesLE 4 v.seq ++ bytesLE 4 (tagOf v.tick).toNat ++ bytesLE 4 (crc32c v.bytes) ++ List.replicate 16 0)
      let s := s.updTe e (fun x => { x with saves := rest, area := v.area, seq := v.seq, saveTag := tagOf v.tick, final := v.final })
      let s := (s.bump (pTAL e) R.TAL_CNT_SAVES).saveOpen e
      if v.final && (List.range 8).all (fun o => (s.te o).saves.isEmpty) then s.finalRecords else s

/-- FINAL saves of every engine (R287); with no engine left they are complete at once. -/
def State.talFinals (s : State) : State :=
  let es := (List.range 8).filter (fun e => !s.unusable (pTAL e))
  if es.isEmpty then s.finalRecords else es.foldl (fun s e => s.saveStart e ((s.te e).lastRun.getD 0) true) s

/-- Engines resume with the first tick that starts after a cleared warning (R288). -/
def State.talResume (s : State) : State := iter 8 (fun e s => s.updTe e (fun x => { x with fromTick := s.tick + 1 })) s

/-! ### Restore (R289, R290) -/

/-- An area holds a valid save: its SEQ. -/
def State.areaValid (s : State) (e area : Nat) : Option Nat :=
  let a := saveAt e area
  let m (o n : Nat) : Nat := ofLE (s.mramBytes (a + o) n)
  if m 11744 4 = 0x424C415A ∧ m 11748 4 = m 0 4 ∧ m 11752 4 = m 4 4 ∧ m 11756 4 = crc32c (s.mramBytes a 11744) then some (m 0 4)
  else none

/-- A point as a save holds it, stopped. -/
def State.loadPoint (s : State) (e area l extra : Nat) : TPt :=
  let a := saveAt e area
  let b := a + 96 + 240 * l
  let m (o n : Nat) : Nat := ofLE (s.mramBytes (b + o) n)
  let fl := ofLE (s.mramBytes (a + 32 + l) 1)
  {
    tot := (List.range 8).map (fun i => m (8 * i) 8), acc := (List.range 8).map (fun i => m (64 + 12 * i) 12),
    cur := {
      valid := decide (128 ≤ fl), flags := (fl % 128) ||| (if 128 ≤ fl then fIncomplete ||| extra else 0),
      start := (List.range 8).map (fun i => m (160 + 8 * i) 8), seq := m 224 4, startSec := m 228 4, ticks := m 232 4, missing := m 236 4 } }

/-- The restore of an engine after power-on; `lossRtc` is the RTC at which VMAIN was lost, none where it is not known. -/
def State.talRestore (s : State) (lossRtc : Option Nat) (e : Nat) : State :=
  if s.unusable (pTAL e) then s
  else
    let va := s.areaValid e 0
    let vb := s.areaValid e 1
    let pick : Option (Nat × Nat) := match va, vb with
      | some a, some b => if 0 < diff32 a b then some (0, a) else some (1, b)
      | some a, none => some (0, a)
      | none, some b => some (1, b)
      | none, none => none
    match pick with
    | none => s.setTe e { noValid := true }
    | some (area, seq) =>
      let a := saveAt e area
      let other := saveAt e (1 - area)
      let torn := (va.isNone || vb.isNone) && (s.mramBytes other 8).any (· != 0)
      let final := (s.mramBytes (a + 16) 1).headD 0 = 1
      let gapMs : Nat := match lossRtc with
        | some t => (t - ofLE (s.mramBytes (a + 8) 8)) * 1000 / 32768
        | none => 0xFFFFFFFF
      let held := (List.range 8).filterMap (fun n =>
        let o := a + 11616 + 16 * n
        let w := ofLE (s.mramBytes o 4)
        if w = 0 then none else some (n, w, ofLE (s.mramBytes (o + 4) 4), ofLE (s.mramBytes (o + 8) 4)))
      let pts := (List.range 48).foldl (fun m l => sset {} l (s.loadPoint e area l (if final then 0 else fGap)) m) []
      let tag := w32 (ofLE (s.mramBytes (a + 4) 4))
      let s := s.setTe e
        {
          pts := pts, area := area, seq := seq, saveTag := tag, torn := torn, final := final, gap := !final, noValid := false,
          gapMs := if final then 0 else gapMs, held := held }
      let s := if torn then s.bump (pTAL e) R.TAL_CNT_SAVE_TORN else s
      let s := (s.deck (pTAL e) 9 4 (tagBody tag ++ bytesLE 4 area ++ bytesLE 4 seq ++ bytesLE 4 (b2n final))).irq (pTAL e) 10
      if final then s
      else
        let s := s.deck (pTAL e) 9 5 (tagBody tag ++ bytesLE 4 e ++ bytesLE 4 seq ++ bytesLE 4 tag.toNat ++ bytesLE 4 gapMs)
        (s.irq (pTAL e) 11).bump (pTAL e) R.TAL_CNT_UNSAVED_GAP

/-! ### TAL_SAVE_CMD (R291) -/

/-- A protected command: refused with LOCKED while the page is locked (R48). -/
def State.ifUnlocked (s : State) (p off : Nat) (f : State → State) : State :=
  if (s.hd (headPage p)).unlocked then f s else s.refuse p off Err.locked

/-- A command of TAL_SAVE_CMD: refused with CAP_FULL on a fenced or absent engine (R5, R26), with LOCKED while the page is locked, with
RANGE for a POINT past slot 47. -/
def State.saveCmd (s : State) (e l : Nat) (f : State → State) : State :=
  if s.unusable (pTAL e) then s.refuse (pTAL e) R.TAL_SAVE_CMD Err.capFull
  else s.ifUnlocked (pTAL e) R.TAL_SAVE_CMD (fun s => if 47 < l then s.refuse (pTAL e) R.TAL_SAVE_CMD Err.range else f s)

def State.saveNow (s : State) (e : Nat) : State := s.updTe e (fun x => { x with saveNow := true })

/-- ACCEPT_EMPTY: only while NO_VALID is 1, else refused. -/
def State.acceptEmpty (s : State) (e : Nat) : State :=
  let x := s.te e
  if x.noValid then
    (s.setTe e { x with
      noValid := false,
      pts := x.pts.map (fun p => (p.1, { p.2 with tot := List.replicate 8 0, acc := List.replicate 8 0, cur := {}, ring := [] })) }).talRec 6 e
      (3 * 2 ^ 16)
  else s.refuse (pTAL e) R.TAL_SAVE_CMD Err.range

def State.zeroPoint (s : State) (e l : Nat) : State :=
  let p := s.tp e l
  if p.state ≠ 0 ∨ p.startNs.isSome then s.refuse (pTAL e) R.TAL_SAVE_CMD Err.notStopped
  else (s.setTp e l { p with tot := List.replicate 8 0, acc := List.replicate 8 0, cur := {}, ring := [] }).talRec 6 e (2 * 2 ^ 16 + l)

/-! ### A fenced engine (R27) -/

def State.talFenced (s : State) (e : Nat) : State := (s.talHalt e).updTe e (fun x => { x with saves := [] })

/-! ### Pulse outputs in time (R280, R282, R283) -/

/-- The module performs role-bound actions (R369, R29). -/
def State.roleOk (s : State) : Bool := !s.failed && (!s.dupEn || s.dup.active)

/-- Pulses an output can give at a tick start: those of runs that have ended. -/
def State.dfoAvail (s : State) (n : Nat) : Nat :=
  let x := s.dfo n
  if s.ns < x.freshNs then x.backlog - x.fresh else x.backlog

/-- Pulse starts at a tick start; none starts from the warning to the end of its flush (R430). -/
def State.dfoTick (s : State) : State :=
  if !s.running pDFO || s.pwr.pfw || s.pwr.pfMode then s
  else iter 8 (fun n s =>
    let x := s.dfo n
    let w := s.dfoCfg n
    let width := msClk (fld w 24 7)
    let rested := match x.trailClk with | some t => width ≤ s.since t | none => true
    if !bit w 31 || x.pulse || s.dfoAvail n = 0 || !rested then s
    else
      let s := s.setDfo n { x with backlog := x.backlog - 1, pulse := true, endClk := s.tsu.clk + width, closed := s.roleOk }
      if s.roleOk then s.bump pDFO (R.DFO_CNT_PULSES + 8 * n) else s) s

/-- DFO_PULSE_END: WIDTH has passed. -/
def State.dfoPulseEnd (s : State) (n : Nat) : State :=
  let x := s.dfo n
  if n < 8 && x.pulse && x.endClk ≤ s.tsu.clk then s.setDfo n { x with pulse := false, closed := false, trailClk := some s.tsu.clk } else s

/-- The DFO block stops: switches open, backlogs kept. -/
def State.dfoStopped (s : State) : State :=
  { s with dfos := s.dfos.map (fun e => (e.1, if e.2.pulse then { e.2 with pulse := false, closed := false, trailClk := some s.tsu.clk } else e.2)) }

/-- COMMIT checks of the DFO page: offset and code. -/
def State.dfoCheck (s : State) : Option (Nat × Nat) :=
  (List.range 8).findSome? (fun n =>
    let w := s.rg pDFO (R.DFO_CFG + 8 * n)
    let o := R.DFO_CFG + 8 * n
    let width := fld w 24 7
    if 47 < fld w 8 6 then some (o, Err.range)
    else if !bit w 31 then none
    else if width = 0 then some (o, Err.zeroField)
    else if width < 2 ∨ 100 < width then some (o, Err.range)
    else if s.rg pDFO (R.DFO_CONST + 8 * n) = 0 then some (R.DFO_CONST + 8 * n, Err.zeroField)
    else if s.unusable (pTAL (fld w 0 3)) then some (o, Err.capFull)
    else none)

/-- A COMMIT of the DFO page took effect (R282, R289). -/
def State.dfoApplied (old s : State) : State :=
  let s := iter 8 (fun n s =>
    let a := old.dfoCfg n
    let b := s.dfoCfg n
    let s := if dfoBind a != dfoBind b then s.setDfo n { s.dfo n with backlog := 0, frac := 0, fresh := 0 } else s
    if !bit b 31 then s
    else match (List.range 8).findSome? (fun e => ((s.te e).held.find? (fun h => h.1 == n)).map (fun h => (e, h))) with
      | none => s
      | some (e, h) =>
        let s := s.updTe e (fun x => { x with held := x.held.filter (fun g => g.1 != n) })
        if h.2.1 = bindWord b then s.setDfo n { s.dfo n with backlog := h.2.2.1, frac := h.2.2.2 } else s) s
  s.deck pDFO 9 7 (tagBody (tagOf s.tick))

/-- Read-only registers of the DFO page. -/
def State.dfoRo (s : State) (off : Nat) : Option Word :=
  if R.DFO_STATE ≤ off ∧ off < R.DFO_STATE + 32 then
    let x := s.dfo ((off - R.DFO_STATE) / 4)
    some (w32 (x.backlog + x.frac * 2 ^ 16))
  else if off = R.DFO_OUT then
    some (w32 ((List.range 8).foldl (fun a n => a + b2n (s.dfo n).closed * 2 ^ n + b2n (s.dupEn && !s.dup.active) * 2 ^ (8 + n)) 0))
  else none

/-! ### The commands -/

/-- SAVE_WRITE_DONE (R286) of engine `e`. -/
def execSaveWriteDone (e : Nat) (s : State) : Host.Outcome State Fault Refusal :=
  act State.onMain (fun s => if e < 8 then s.saveDone e else s) s

/-- TAL_POINT_START (R271). -/
def execTalPointStart (e l : Nat) (s : State) : Host.Outcome State Fault Refusal :=
  actReg State.onMain (pTAL e) (fun s => if e < 8 then s.talStart e l else s) s

/-- TAL_POINT_STOP (R271). -/
def execTalPointStop (e l : Nat) (s : State) : Host.Outcome State Fault Refusal :=
  actReg State.onMain (pTAL e) (fun s => if e < 8 then s.talStop e l else s) s

/-- TAL_CLEAR_SAT (R271). -/
def execTalClearSat (e l : Nat) (s : State) : Host.Outcome State Fault Refusal :=
  actReg State.onMain (pTAL e) (fun s => if e < 8 then s.talClearSat e l else s) s

/-- SAVE_NOW (R291). -/
def execSaveNow (e : Nat) (s : State) : Host.Outcome State Fault Refusal :=
  actReg State.onMain (pTAL e) (fun s =>
    if e < 8 then s.saveCmd e 0 (fun s => s.saveNow e) else s) s

/-- ZERO_POINT (R291). -/
def execZeroPoint (e l : Nat) (s : State) : Host.Outcome State Fault Refusal :=
  actReg State.onMain (pTAL e) (fun s =>
    if e < 8 then s.saveCmd e l (fun s => s.zeroPoint e l) else s) s

/-- ACCEPT_EMPTY (R291). -/
def execAcceptEmpty (e : Nat) (s : State) : Host.Outcome State Fault Refusal :=
  actReg State.onMain (pTAL e) (fun s =>
    if e < 8 then s.saveCmd e 0 (fun s => s.acceptEmpty e) else s) s

/-- DFO_PULSE_END (R280) of output `n`. -/
def execDfoPulseEnd (n : Nat) (s : State) : Host.Outcome State Fault Refusal := act State.onMain (fun s => s.dfoPulseEnd n) s

end Sys2Proof.Machine
end

