-- ==== Sys2Proof/Machine/Duplex.lean ====
section
/-!
DEFINITION. The duplex pair (chapter 15): states and roles, heartbeat, hash and divergence, mirror, agreed close.
-/
namespace Sys2Proof.Machine

/-- PAIR_SIDE strap: false A, true B (R353). -/
def State.sideB (s : State) : Bool := s.ident.pairPins == 2

/-- DUP_CFG.MODE: 0 NORMAL, 1 START_UP, 2 TEST, 3 RECOVERY. -/
def State.dupMode (s : State) : Nat := fld (s.ac pDUP R.DUP_CFG) 4 2
def State.preferred (s : State) : Bool := bit (s.ac pDUP R.DUP_CFG) 1
def State.soloGrace (s : State) : Nat := fld (s.ac pDUP R.DUP_TIMING) 0 13
def State.redPair (s : State) : Nat := fld (s.ac pDUP R.DUP_CFG) 8 2
def State.cfgId (s : State) : Nat := s.ac64 pDUP R.DUP_CONFIG_ID

/-- The partner's heartbeat is current: none is missing. -/
def State.hbCurrent (s : State) : Bool := s.dup.partner.isSome && s.dup.hbMiss == 0

/-- The partner is seen (R371): its beacon address stands in the node table with a frame of the last 416,667 ns on either LAN. -/
def State.partnerSeen (s : State) : Bool :=
  match s.dup.partner with
  | none => false
  | some m => s.swc.nodes.any (fun e => e.2.mac == m.beacon &&
      ([e.2.lanA, e.2.lanB].any (fun t => match t with
        | some v => decide (0 ≤ diff32 s.short v ∧ diff32 s.short v ≤ 416667)
        | none => false)))

/-! ### Frames of the DUP block (R64, R356) -/

/-- A frame leaves on P8 ahead of every queue, under MACsec; without a link or a key it is dropped and counted. -/
def State.dupSend (s : State) (payload : Nat) (b : Body) : State :=
  let f : Frame := { da := 0xFFFFFFFFFFFF, sa := s.ownAddr 8, et := 0x88B6, size := max 64 (payload + 18), body := b }
  s.yardSend f

/-! ### Changes of state and role (R354, R364, R365) -/

/-- A change decided now, effective at the next boundary; a later decision before the boundary replaces it. -/
def State.dupGo (s : State) (st : Nat) (act : Bool) (cause : Nat) : State := s.updDup (fun d => { d with pend := some (st, act, cause) })

/-- A new request for resynchronisation: what was adopted is adopted again (R373). -/
def Dup.restart (d : Dup) : Dup :=
  { d with
    reqResync := true, resyncTick := none, refsFrom := [], ptsFrom := [], adoptedPubs := false, adoptedMir := false, matches_ := 0 }

/-- The state in which the pending change leaves the module is entered. -/
def State.dupEnter (s : State) (st : Nat) (act : Bool) (cause : Nat) : State :=
  let d := s.dup
  if d.state = st ∧ d.active = act then s.updDup (fun d => { d with pend := none })
  else
    let s := s.updDup (fun d => { d with
      pend := none, state := st, active := act, pairClk := if st = 1 then s.tsu.clk else d.pairClk, healthyClk := s.tsu.clk,
      reqSwap := false, swapTick := none, ack := false, confirm := false, answer := if act then d.answer else none })
    let s := if st = 3 then s.updDup Dup.restart else s.updDup (fun d => { d with reqResync := false, resyncTick := none })
    let s := s.irq pDUP 4
    let s := if st = 7 then s.irq pDUP 11 else s
    let s := if d.active = act then s
      else
        let pt := match d.partner with | some m => (tagOf m.cyc).toNat | none => 0
        ((s.irq pDUP 5).bump pDUP R.DUP_CNT_ROLE_CHANGE).deck pDUP 13 6
          (tagBody (tagOf s.cycNow) ++ [d.state, st, b2n d.active, b2n act, cause, b2n s.sideB, 0, 0] ++ bytesLE 4 pt ++ bytesLE 4 0)
    if st = 4 && bit (s.ac pDUP R.DUP_CFG) 2 then s.dupGo 3 false 0 else s

/-- At a cycle boundary the decided change takes effect. -/
def State.dupBoundary (s : State) : State :=
  match s.dup.pend with
  | some (st, a, c) => s.dupEnter st a c
  | none => s

/-- DIVERGE (R364): cause 1 HASH, 2 INJECT_LATE, 3 CONFIG; never raised in MODE = TEST (R375). -/
def State.diverge (s : State) (cause j own partner : Nat) : State :=
  if s.dupMode = 2 then s
  else
    let d := s.dup
    let s := s.updDup (fun d => { d with cause := cause, healthyClk := s.tsu.clk })
    let s := (s.setRg pDUP R.DUP_DIVERGE_TAG (tagOf j)).irq pDUP 6
    let pid := match d.partner with | some m => m.configId | none => 0
    let s := s.deck pDUP 13 7
      (tagBody (tagOf j) ++ [cause, d.state] ++ List.replicate 6 0 ++ bytesLE 8 own ++ bytesLE 8 partner ++ bytesLE 8 s.cfgId ++ bytesLE 8 pid)
    if d.active then s.dupGo 5 true 6 else s.dupGo 4 false 6

/-! ### SVA_CFG.PAIRED (R355) -/

/-- PAIRED follows at a tick boundary; a close that waited for the partner ends on the own map. -/
def State.dupTick (s : State) : State :=
  let p := s.dupEn && s.hbCurrent && (s.dup.state = 2 || s.dup.state = 3 || s.dup.state = 4)
  let s := s.updDup (fun d => { d with paired := p })
  if s.cycOn then s else s.dupBoundary

/-! ### Mirror (R363, R378) -/

def mirAddr (i : Nat) : Nat := 0x00FA0000 + i * 16

/-- Bytes of a mirror entry. -/
def State.mirBytes (s : State) (i : Nat) : List Nat :=
  let w := s.tw (mirAddr i)
  let n := (s.tw (mirAddr i + 12)).toNat
  if !bit w 31 then []
  else if bit w 30 then
    (List.range n).flatMap (fun k =>
      let x := s.pt (fld (s.tw (mirAddr i + 4)) 0 20 + k)
      bytesLE 8 x.value ++ bytesLE 4 x.qual ++ bytesLE 4 x.stamp)
  else s.bytes ((s.tw (mirAddr i + 4)).toNat + fld (s.tw (mirAddr i + 8)) 0 8 * 2 ^ 32) n

/-- The snapshot of the present kerf. -/
def State.mirSnap (s : State) : List Nat := (List.range 256).flatMap s.mirBytes

/-- Bytes a mirror entry given as words takes. -/
def mirSize (w0 w3 : Word) : Nat := if !bit w0 31 then 0 else if bit w0 30 then 16 * w3.toNat else w3.toNat

/-- Total of the mirror table, an entry left out. -/
def State.mirTotal (s : State) (skip : Option Nat) : Nat :=
  ((List.range 256).map (fun i => if skip = some i then 0 else mirSize (s.tw (mirAddr i)) (s.tw (mirAddr i + 12)))).sum

/-- A snapshot is put in place: memory ranges and points of the mirror table in order. -/
def State.mirAdopt (s : State) (bs : List Nat) : State :=
  ((List.range 256).foldl (fun (acc : State × List Nat) i =>
    let s := acc.1
    let w := s.tw (mirAddr i)
    let n := (s.tw (mirAddr i + 12)).toNat
    if !bit w 31 then acc
    else if bit w 30 then
      ((List.range n).foldl (fun s k =>
        let r := acc.2.drop (16 * k)
        s.writePt (fld (s.tw (mirAddr i + 4)) 0 20 + k) { value := ofLE (r.take 8), qual := ofLE ((r.drop 8).take 4), stamp := ofLE ((r.drop 12).take 4) }) s,
        acc.2.drop (16 * n))
    else
      ((s.writeMem ((s.tw (mirAddr i + 4)).toNat + fld (s.tw (mirAddr i + 8)) 0 8 * 2 ^ 32) (acc.2.take n) 1 0).2, acc.2.drop n)) (s, bs)).1

/-! ### Output hash (R361) -/

/-- H_j over the tick tag, the released publications, the request vector, the mirror's CRC and the tally engines. -/
def State.outHash (s : State) (mirCrc : Nat) : Nat :=
  let j := s.cycNow
  let pubs := s.cyc.release.flatMap (fun r =>
    match r.2.body with
    | .goosePub p => bytesLE 2 r.1 ++ bytesLE 4 p.stNum ++ bytesLE 4 p.sqNum ++ Config.allData p.members
    | _ => bytesLE 2 r.1)
  let tal := (List.range 8).flatMap (fun e =>
    bytesLE 8 (((s.te e).hashes.find? (fun h => h.1 + 1 == j)).map (fun h => h.2) |>.getD 0))
  crc64 (bytesLE 4 (tagOf j).toNat ++ pubs ++ bytesLE 1 s.reqVector ++ bytesLE 8 mirCrc ++ tal)

/-- NOCMP (R362): a tick of the last SOLO_GRACE closed solo here, or the power-fail warning stands or is flushed (R430). -/
def State.noCmp (s : State) (j : Nat) : Bool :=
  s.pwr.pfw || s.pwr.pfMode || s.dup.solos.any (fun k => k ≤ j && j < k + s.soloGrace)

/-- States whose hashes are compared (R362, R373): SYNCED and RESYNC, and an ACTIVE module in SOLO against one in RESYNC. -/
def cmpStates (a b : Nat) : Bool := (a = 2 || a = 3 || (a = 5 && b = 3)) && (b = 2 || b = 3 || (b = 5 && a = 3))

/-- The partner's SYNC frame of cycle j, where it has arrived. -/
def Dup.syncOf (d : Dup) (j : Nat) : Option SyncMsg := d.syncs.find? (fun m => m.cyc == j)

/-- Comparison at the start of the kerf of cycle j + 1. -/
def State.hashCompare (s : State) (j : Nat) : State :=
  match s.dup.syncOf j, s.dup.hashes.find? (fun h => h.1 == j) with
  | some m, some (_, own, noc) =>
    if noc || m.nocmp || !cmpStates s.dup.state m.state then
      let s := s.bump pDUP R.DUP_CNT_HASH_SKIP
      let after := match s.dup.resyncTick with | some r => decide (r + 512 < j) | none => false
      if s.dup.state = 3 && after && (noc || m.nocmp) then s.updDup Dup.restart else s
    else
      let s := (s.setRg64 pDUP R.DUP_OWN_HASH own).setRg64 pDUP R.DUP_PARTNER_HASH m.hash
      if own = m.hash then
        let s := s.setRg pDUP R.DUP_LAST_HASH_TAG (tagOf j)
        let joining := s.dup.state = 3 || m.state = 3
        let r := if s.dup.state = 3 then s.dup.resyncTick else s.dup.answer
        let counts := match r with | some r => decide (r + 512 ≤ j) | none => false
        if joining && counts then
          let n := s.dup.matches_ + 1
          let s := s.updDup (fun d => { d with matches_ := n })
          if 96 ≤ n then
            let s := (s.updDup (fun d => { d with matches_ := 0, answer := none })).dupGo 2 s.dup.active 0
            if s.dup.state = 3 then (s.irq pDUP 9).bump pDUP R.DUP_CNT_RESYNC else s
          else s
        else s
      else
        let s := (s.bump pDUP R.DUP_CNT_HASH_MISMATCH).updDup (fun d => { d with matches_ := 0 })
        if s.dup.state = 2 && m.state = 2 then s.diverge 1 j own m.hash else s
  | _, _ => s

/-! ### Heartbeat and takeover (R370, R371) -/

/-- The decision at the third consecutive missing heartbeat. -/
def State.hbLost (s : State) : State :=
  let d := s.dup
  let seen := s.partnerSeen
  let s := if seen && (d.active || d.state = 2 || d.state = 4) then (s.bump pDUP R.DUP_CNT_SPLIT_BRAIN).irq pDUP 8 else s
  if d.state = 3 then s.dupGo 1 false 1
  else if d.active || d.state = 2 || d.state = 4 then
    if seen && s.sideB then s.dupGo 6 false 2
    else s.dupGo 5 true (if seen then 2 else 1)
  else s

/-- Heartbeat of cycle j at the start of the kerf of cycle j + 1. -/
def State.hbCheck (s : State) (j : Nat) : State :=
  let got := match s.dup.partner with | some m => decide (j ≤ m.cyc) | none => false
  if got then s.updDup (fun d => { d with hbMiss := 0 })
  else
    let n := s.dup.hbMiss
    let s := (s.updDup (fun d => { d with hbMiss := min 3 (n + 1), healthyClk := s.tsu.clk })).bump pDUP R.DUP_CNT_HB_MISS
    let s := if n = 0 then s.irq pDUP 7 else s
    let s := if s.dup.state = 3 then s.updDup Dup.restart else s
    if n = 2 then s.hbLost else s

/-! ### Swap (R374) -/

/-- In the kerf of cycle T - 1 the bound ACTIVE yields and a confirmed requester takes over; a swap not confirmed by cycle
T - 2 is dropped. -/
def State.swapStep (s : State) : State :=
  match s.dup.swapTick with
  | none => s
  | some t =>
    let j := s.cycNow
    let s := if j + 1 = t && s.dup.confirm && s.dup.state = 2 then s.dupGo 2 (!s.dup.active) 4 else s
    if t ≤ j + 1 then s.updDup (fun d => { d with reqSwap := false, swapTick := none, ack := false, confirm := false }) else s

/-- As a kerf starts: heartbeat and hash of the cycle before, swap, injections of a passed cycle. -/
def State.dupKerfPre (s : State) : State :=
  if !s.dupEn || s.dup.state = 0 then s
  else
    let j := s.cycNow
    let s := (s.hbCheck (j - 1)).hashCompare (j - 1)
    let s := s.swapStep
    let s := if s.dup.state = 2 && s.hbCurrent && s.tsu.sync != .unlocked then s else s.updDup (fun d => { d with healthyClk := s.tsu.clk })
    s.updDup (fun d => { d with injSeen := d.injSeen.filter (fun e => j ≤ e.1 + 8) })

/-! ### Step 3 of the kerf (R356, R360, R361, R363) -/

/-- The SYNC frame of the present cycle. -/
def State.syncMsg (s : State) (hash : Nat) (noc : Bool) (mir : List Nat) : SyncMsg :=
  let d := s.dup
  let j := s.cycNow
  {
    cyc := j, side := s.sideB, state := d.state, active := d.active, configId := s.cfgId, preferred := s.preferred, hash := hash,
    nocmp := noc, resyncReq := d.reqResync, resyncTag := if d.active then d.answer else none, swapReq := d.reqSwap,
    swapTag := if d.active && !d.confirm then d.swapTick else none,
    ackTag := if !d.active && d.ack then d.swapTick else none,
    confirmTag := if d.active && d.confirm then d.swapTick else none,
    inj := (d.inj.filter (fun e => j ≤ e.1)).map (fun e => (e.1, e.2.1, e.2.2.value, e.2.2.qual)),
    ordSeq := s.evr.ordSeq, privSeq := s.evr.privSeq, beacon := s.ownAddr (2 * s.redPair), mirLen := mir.length, mirCrc := crc64 mir }

/-- Parts of a byte list of at most 8,192 bytes. -/
def mirParts (bs : List Nat) : List (List Nat) := chunks 8192 8 bs

/-- Hash, mirror snapshot and SYNC frame, and the ACTIVE module's MIRROR frames. -/
def State.dupKerf (s : State) : State :=
  if !s.dupEn || s.dup.state = 0 then s
  else
    let j := s.cycNow
    let mir := s.mirSnap
    let h := s.outHash (crc64 mir)
    let noc := s.noCmp j
    let s := s.updDup (fun d => { d with
      hashes := ((j, h, noc) :: d.hashes).take 8, inj := d.inj.filter (fun e => j ≤ e.1),
      solos := d.solos.filter (fun k => j < k + 8192) })
    let s := (s.dupSend 1024 (.sync (s.syncMsg h noc mir))).bump pDUP R.DUP_CNT_SYNC_FRAMES
    if s.dup.active then
      (mirParts mir).foldl (fun s p => (s.dupSend p.length (.mirror j p)).bumpBy pDUP R.DUP_CNT_MIRROR_BYTES p.length) s
    else s

/-! ### What the state lets out (R354, R366, R369) -/

/-- Publication n may be released at a boundary. -/
def State.mayPublish (s : State) (n : Nat) : Bool :=
  let role := bit (s.tw (0x00FA1100 + n / 32 * 4)) (n % 32)
  let d := s.dup
  !s.failed && (!s.dupEn || ((d.state = 5 || (d.state = 2 && (d.active || s.dupMode != 2))) && (!role || d.active)))

/-- The request vector the safety channels get (R354). -/
def State.outVector (s : State) : Nat :=
  if s.dupEn && (s.dup.state = 3 || s.dup.state = 4) then 0 else s.reqVector

/-! ### The agreed close (R128, R217, R358, R359) -/

/-- Bytes of a GOOSE report entry. -/
def repBytes (g : GState) : Nat := 16 + 12 * g.members.length

/-- Reports that fit the room a MAP frame leaves. -/
def repFit : Nat → List GState → List GState × List GState
  | _, [] => ([], [])
  | room, g :: t =>
    if repBytes g ≤ room then
      let r := repFit (room - repBytes g) t
      (g :: r.1, r.2)
    else ([], g :: t)

/-- Subscriptions whose deadline has passed (R358). -/
def State.deadSubs (s : State) : List Nat :=
  (s.cyc.gsubs.filter (fun e => e.2.state == 2 && diff32 e.2.deadline s.short < 0)).map (fun e => e.1)

/-- This module's values of shared points of tick k - 1. -/
def State.sharedVals (s : State) (k : Nat) : List (Nat × Point) :=
  (s.dup.shared.filter (fun e => e.1 + 1 == k)).map (fun e => e.2)

/-- At the freeze of a tick a module with DUP enabled fixes its report; a paired one sends its MAP frame. -/
def State.dupFreeze (s : State) : State :=
  match s.dupEn, s.sva.frozen.getLast? with
  | true, some fz =>
    let shared := s.sharedVals fz.tick
    let r := repFit (6400 - 224 - 20 * shared.length) s.dup.gooseNew
    let dead := s.deadSubs
    let s := s.updSva (fun v => { v with frozen := v.frozen.dropLast ++ [{ fz with report := r.1, expired := dead }] })
    let s := s.updDup (fun d => { d with gooseNew := r.2 })
    if !s.dup.paired then s
    else
      let m : PMap :=
        {
          tick := fz.tick, present := fz.spread fz.present, sync := fz.sync,
          holdEst := (s.rg pTSU R.TSU_HOLD_EST).toNat, goose := r.1, expired := dead, shared := shared }
      s.dupSend (224 + (r.1.map repBytes).sum + 20 * m.shared.length) (.map m)
  | _, _ => s

/-- A new state taken from the partner's report updates the subscription. -/
def State.adoptState (s : State) (g : GState) : State :=
  let x := s.gsub g.sub
  let s := s.setGsub g.sub { x with
    state := 2, stNum := g.stNum, sqNum := g.sqNum, members := g.members, stamp := g.stamp, deadline := x.deadline }
  s.bump pDUP R.DUP_CNT_GOOSE_FROM_PARTNER

/-- The close of a frozen tick is final: agreed with the partner's map, or on the own data alone. -/
def State.dupClosed (s : State) (fz : Frozen) (partner : Option PMap) (solo : Bool) : State :=
  let k := fz.tick
  let s := s.updCyc (fun c => { c with
    closeSync := ((k, fz.sync :: (match partner with | some m => [m.sync] | none => [])) :: c.closeSync).take 8 })
  if !s.dupEn then s
  else
    let s := if solo then s.updDup (fun d => { d with solos := k :: d.solos, healthyClk := s.tsu.clk }) else s
    let s := if solo && s.dup.state = 3 then s.updDup Dup.restart else s
    let mine := fz.report
    let theirs := match partner with | some m => m.goose | none => []
    let new := theirs.filter (fun g => !mine.any (fun h => h.sub == g.sub && h.stNum == g.stNum))
    -- a state agreed now is reported no more
    let s := s.updDup (fun d => { d with
      gooseNew := d.gooseNew.filter (fun h => !new.any (fun g => h.sub == g.sub && h.stNum == g.stNum)) })
    let s := new.foldl (fun s g =>
      if (s.gsub g.sub).state = 0 then s
      else if (s.gsub g.sub).stNum = g.stNum && (s.gsub g.sub).state = 2 then s.bump pDUP R.DUP_CNT_GOOSE_FROM_PARTNER
      else s.adoptState g) s
    let s := (List.range 1024).foldl (fun s n =>
      ((mine ++ new).filter (fun g => g.sub == n)).foldl (fun s g => s.stageMembers n k g.stamp g.members) s) s
    let exp := match partner with
      | some m => fz.expired.filter (fun n => m.expired.contains n)
      | none => fz.expired
    let s := exp.foldl (fun s n => if (s.gsub n).state = 2 then s.gooseExpire n k else s) s
    let vals := s.sharedVals k
    let all := (vals.map (fun v => v.1) ++ (match partner with | some m => m.shared.map (fun v => v.1) | none => [])).eraseDups
    let pick (p : Nat) : Option Point :=
      let a := (vals.find? (fun v => v.1 == p)).map (fun v => v.2)
      let b := (partner.bind (fun m => m.shared.find? (fun v => v.1 == p))).map (fun v => v.2)
      let sa := if s.sideB then b else a
      let sb := if s.sideB then a else b
      match partner, sa with
      | none, _ => a
      | some _, some x => if x.qual % 4 = 1 then sb.orElse (fun _ => some x) else some x
      | some _, none => sb
    let s := all.foldl (fun s p => match pick p with
      | some x => s.updCyc (fun c => { c with adcStage := c.adcStage ++ [(k, p, x)] })
      | none => s) s
    s.updDup (fun d => { d with shared := d.shared.filter (fun e => k ≤ e.1) })

/-! ### COMMIT, tables, stop (R357, R363, R378) -/

/-- COMMIT checks of the DUP page that set EN: offset and code. -/
def State.dupCfgCheck (s : State) : Option (Nat × Nat) :=
  let c := s.rg pDUP R.DUP_CFG
  let wait := fld (s.ac pSVA R.SVA_AGREE_CFG) 0 7
  let close := fld (s.ac pSVA R.SVA_TICK_CFG) 0 12
  let key := fld (s.tw (saAddr 8 (fld (s.ac (pMAC 8) R.MAC_MACSEC_CFG) 0 2) + 4)) 0 8
  let empty := (List.range 256).any (fun i => bit (s.tw (mirAddr i)) 31 && s.tw (mirAddr i + 12) == 0)
  if empty then some (R.CTRL, Err.zeroField)
  else if s.mirTotal none > 65536 then some (R.CTRL, Err.capFull)
  else if !bit c 0 || bit (s.ac pDUP R.DUP_CFG) 0 then none
  else if s.validSubs.any (fun i => Sub.unsync (s.sub i)) then some (R.DUP_CFG, 0x40)
  else if !s.macsecOn 8 || !s.keyDest key 2 then some (R.DUP_CFG, 0x41)
  else if s.unusable (pMAC 8) then some (R.DUP_CFG, Err.capFull)
  else if s.maxLen 8 < 8274 || s.redMode (fld c 8 2) = 0 || fld (s.ac (pCYC 0) R.CYC_CFG) 0 13 < close + wait + 10 then some (R.DUP_CFG, Err.range)
  else if s.vfs.any (fun e => 1 ≤ e.2.mig.state && e.2.mig.state ≤ 7) then some (R.DUP_CFG, 0x43)
  else none

/-- A COMMIT of the DUP page took effect. -/
def State.dupApplied (old s : State) : State :=
  let was := bit (old.ac pDUP R.DUP_CFG) 0
  let is := bit (s.ac pDUP R.DUP_CFG) 0
  if is && !was then
    (s.updDup (fun d => { d with partner := none, syncs := [], hbMiss := 0, mismatch := false, cfgDiff := 0, cause := 0 })).dupGo 1 false 3
  else if was && !is then s.dupGo 0 false 7
  else s

/-- The block stops or is soft-reset: it is OFF at once. -/
def State.dupStopped (s : State) : State :=
  let s := s.dupEnter 0 false 7
  s.updDup (fun d => { state := 0, healthyClk := d.healthyClk })

/-- Table writes of the DUP block: code of a refusal. -/
def State.dupWrCheck (s : State) (a : Nat) (ws : List Word) : Option Nat :=
  let w (i : Nat) : Word := (ws[i]?).getD 0
  if bit (s.ac pDUP R.DUP_CFG) 0 then some Err.notStopped
  else if a < 0x00FA1000 then
    let n := (w 3).toNat
    let addr := (w 1).toNat + fld (w 2) 0 8 * 2 ^ 32
    if !bit (w 0) 31 then none
    else if bit (w 0) 30 && 2 ^ 20 < fld (w 1) 0 20 + n then some Err.range
    else if !bit (w 0) 30 && s.absent (pVFM (fld (w 0) 24 6)) then some Err.capFull
    else if !bit (w 0) 30 && !s.permit (fld (w 0) 24 6) addr n true false then some Err.range
    else none
  else none

/-! ### Reads -/

/-- Read-only registers of the DUP page. -/
def State.dupRo (s : State) (off : Nat) : Option Word :=
  let d := s.dup
  if off = R.DUP_STATUS then
    let pm : SyncMsg := d.partner.getD { cyc := 0, side := false, state := 0, active := false, configId := 0, hash := 0, nocmp := false }
    some (w32 (d.state + b2n d.active * 2 ^ 4 + b2n s.sideB * 2 ^ 5 + b2n (s.mac 8).linkUp * 2 ^ 6 + b2n (s.dupEn && s.partnerSeen) * 2 ^ 7 +
      b2n (s.dupEn && s.hbCurrent) * 2 ^ 8 + b2n pm.active * 2 ^ 15 + pm.state * 2 ^ 16 + b2n d.mismatch * 2 ^ 19 + d.cause * 2 ^ 20))
  else if off = R.DUP_HB_MISS then some (w32 d.hbMiss)
  else if off = R.DUP_HEALTHY_TIME then some (w32 (if d.state = 2 then s.since d.healthyClk / 250000000 else 0))
  else if off = R.DUP_MIRROR_BYTES then some (w32 (s.mirTotal none))
  else none

end Sys2Proof.Machine
end

