-- ==== Sys2Proof/Machine/Resync.lean ====
section
/-!
DEFINITION. Resynchronisation (R373): the state the ACTIVE module sends to a joining one, its adoption, and the engine runs
it is sent after.
-/
namespace Sys2Proof.Machine

/-! ### What the ACTIVE module sends -/

/-- R as this ACTIVE module answered it. -/
def State.answered (s : State) : Option Nat := if s.dupEn && s.dup.active then s.dup.answer else none

/-- The reference n of an engine as an RSTATE frame carries it. -/
def State.refOut (s : State) (e n : Nat) : RefState :=
  let r := ((s.fe e).refs[n]?).getD {}
  {
    engine := e, ref := n, active := r.active, phi := r.phi, used := r.used, freq := r.freq, periods := r.periods, prev := r.prev,
    lastCross := r.lastCross, seen := r.seen, outIdx := r.outIdx, good := r.good, lost := r.lost }

/-- A running tally point as an RSTATE frame carries it. -/
def State.talOut (s : State) (e l : Nat) : TalState :=
  let p := s.tp e l
  let c := p.cur
  {
    engine := e, point := l, tot := p.tot, acc := p.acc, ivl := [b2n c.valid, c.flags, c.seq, c.startSec, c.ticks, c.missing, c.gated],
    start := c.start, gates := p.gates }

/-- RSTATE frames of one group, the last one marked. -/
def State.rsend (s : State) (tick : Nat) : List (Nat × RStateMsg) → State
  | [] => s
  | [(n, m)] => s.dupSend n (.rstate tick { m with last := true })
  | (n, m) :: t => (s.dupSend n (.rstate tick { m with last := false })).rsend tick t

/-- After the filter run of tick R - 1: the engine's references. -/
def State.sendRefs (s : State) (e : Nat) (before : Option Nat) : State :=
  match s.answered with
  | some r =>
    if (s.fe e).lastRun ≠ before ∧ (s.fe e).lastRun = some (r - 1) then
      s.rsend (r - 1) [(256, { engine := some e, refs := (List.range 4).map (s.refOut e) })]
    else s
  | none => s

/-- After the tally run of tick R + 511: the engine's running points and its bound pulse outputs. -/
def State.sendPoints (s : State) (e : Nat) (before : Option Nat) : State :=
  match s.answered with
  | some r =>
    if (s.te e).lastRun ≠ before ∧ (s.te e).lastRun = some (r + 511) then
      let ls := (List.range 48).filter (fun l => (s.tp e l).state != 0)
      let parts := (chunks 24 3 ls).map (fun c => (240 * c.length, ({ engine := some e, points := c.map (s.talOut e) } : RStateMsg)))
      let ps := ((List.range 8).filter (fun n => bit (s.dfoCfg n) 31 && fld (s.dfoCfg n) 0 3 == e)).map
        (fun n => (n, (s.dfo n).backlog, (s.dfo n).frac))
      s.rsend (r + 511) (parts ++ [(16 * ps.length, { engine := some e, pulses := ps })])
    else s
  | none => s

/-- In the kerf of cycle R - 1: publications and subscriptions. -/
def State.sendPubs (s : State) : State :=
  match s.answered with
  | some r =>
    if s.cycNow + 1 = r then
      let subs := (s.cyc.gsubs.filter (fun e => e.2.state != 0)).map (fun e =>
        ({ idx := e.1, stNum := e.2.stNum, sqNum := e.2.sqNum, deadline := e.2.deadline, state := e.2.state } : SubState))
      let pubs := ((List.range 256).filter (fun n => (s.gpub n).started)).map s.pubOut
      s.rsend (r - 1) ((chunks 512 2 subs).map (fun c => (16 * c.length, ({ subs := c } : RStateMsg))) ++ [(16 * pubs.length, { pubs := pubs })])
    else s
  | none => s

/-! ### Adoption -/

/-- References taken over by a joining module. -/
def State.adoptRefs (s : State) (e tick : Nat) (rs : List RefState) : State :=
  let s := rs.foldl (fun s r =>
    let x : RefSt :=
      {
        active := r.active, phi := r.phi, run := tick, used := r.used, freq := r.freq, periods := r.periods, prev := r.prev,
        lastCross := r.lastCross, seen := r.seen, outIdx := r.outIdx, good := r.good, lost := r.lost }
    s.setFe e { s.fe e with refs := (s.fe e).refs.set r.ref x }) s
  s.updDup (fun d => { d with refsFrom := e :: d.refsFrom })

/-- Publications and subscriptions taken over. -/
def State.adoptPubs (s : State) (m : RStateMsg) : State :=
  let s := m.pubs.foldl (fun s p => s.setGpub p.idx
    {
      started := true, stNum := p.stNum, sqNum := p.sqNum, lastTag := p.lastTag, tick := p.tick, utc := p.utc, syncs := p.syncs,
      relTick := p.relTick, next := p.next, last := p.last }) s
  let s := m.subs.foldl (fun s x => s.setGsub x.idx { s.gsub x.idx with
    stNum := x.stNum, sqNum := x.sqNum, deadline := x.deadline, state := x.state }) s
  if m.last then s.updDup (fun d => { d with adoptedPubs := true }) else s

/-- Tally points and pulse outputs of an engine taken over: recorded, and NO_VALID clears. -/
def State.adoptPoints (s : State) (e : Nat) (m : RStateMsg) : State :=
  let s := m.points.foldl (fun s t =>
    let i (n : Nat) : Nat := (t.ivl[n]?).getD 0
    s.setTp e t.point { s.tp e t.point with
      tot := t.tot, acc := t.acc, gates := t.gates,
      cur := { valid := i 0 != 0, flags := i 1, seq := i 2, startSec := i 3, ticks := i 4, missing := i 5, gated := i 6, start := t.start } }) s
  let s := m.pulses.foldl (fun s p => s.setDfo p.1 { s.dfo p.1 with backlog := p.2.1, frac := p.2.2, fresh := 0 }) s
  if m.last then
    let s := s.updTe e (fun x => { x with noValid := false })
    let s := s.updDup (fun d => { d with ptsFrom := e :: d.ptsFrom })
    s.deck pDUP 9 9 (tagBody (tagOf s.tick) ++ bytesLE 4 e ++ bytesLE 4 0)
  else s

/-- RSTATE of a tick at a joining module. -/
def State.rstateIn (s : State) (tick : Nat) (m : RStateMsg) : State :=
  match s.dup.state, s.dup.resyncTick with
  | 3, some r =>
    match m.engine with
    | none => if tick + 1 = r then s.adoptPubs m else s
    | some e => if tick + 1 = r then s.adoptRefs e tick m.refs else if tick = r + 511 then s.adoptPoints e m else s
  | _, _ => s

/-- The partner's mirror of cycle R - 1 is whole: a joining module adopts it (R363, R373). -/
def State.mirTry (s : State) : State :=
  match s.dup.state, s.dup.resyncTick, s.dup.resyncTick.bind (fun r => s.dup.syncOf (r - 1)) with
  | 3, some r, some m =>
    let got := match s.dup.mirRx with | some x => if x.1 + 1 = r then x.2 else [] | none => []
    if m.cyc + 1 = r ∧ m.mirLen ≤ got.length ∧ !s.dup.adoptedMir then
      (s.mirAdopt got).updDup (fun d => { d with adoptedMir := true })
    else s
  | _, _, _ => s

/-! ### Engine runs -/

/-- A filter engine's next run, and what an ACTIVE module sends after it. -/
def State.fltTickRun (s : State) (e : Nat) : State := (s.fltRun e).sendRefs e (s.fe e).lastRun

/-- A tally engine's next run. -/
def State.talTickRun (s : State) (e : Nat) : State := (s.talRun e).sendPoints e (s.te e).lastRun

/-- FLT_TICK_RUN (R139) of engine `e`. -/
def execFltTickRun (e : Nat) (s : State) : Host.Outcome State Fault Refusal :=
  act State.onMain (fun s => if e < 64 then s.fltTickRun e else s) s

/-- TAL_TICK_RUN (R253) of engine `e`. -/
def execTalTickRun (e : Nat) (s : State) : Host.Outcome State Fault Refusal :=
  act State.onMain (fun s => if e < 8 then s.talTickRun e else s) s

end Sys2Proof.Machine
end

