-- ==== Sys2Proof/Machine/DupCmd.lean ====
section
/-!
DEFINITION. Commands of the duplex pair: frames from the partner, pairing, resynchronisation, swap, takeover, injections
(R356 to R375).
-/
namespace Sys2Proof.Machine

/-- The oldest DUP frame received; what is no DUP frame is passed over. -/
def dupHead : List Body → Option (Body × List Body)
  | [] => none
  | .map m :: t => some (.map m, t)
  | .sync m :: t => some (.sync m, t)
  | .mirror c d :: t => some (.mirror c d, t)
  | .rstate k m :: t => some (.rstate k m, t)
  | _ :: t => dupHead t

/-! ### SYNC frames (R356, R360, R371 to R374) -/

/-- An injection of the partner's SYNC frame, the n-th of its tag: staged once, or late. -/
def State.injIn (s : State) (n : Nat) (x : Nat × Nat × Nat × Nat) : State :=
  let tag := x.1
  if s.dup.injSeen.contains (tag, n) then s
  else
    let s := s.updDup (fun d => { d with injSeen := (tag, n) :: d.injSeen })
    let late := tag < s.cycNow || (tag == s.cycNow && s.cyc.kerfDone)
    if late then
      let s := (s.bump pDUP R.DUP_CNT_INJ_LATE).irq pDUP 10
      if s.dup.state = 2 || s.dup.state = 3 then s.diverge 2 tag 0 0 else s
    else if s.inRange (some 0) x.2.1 then
      s.updCyc (fun c => { c with pfStage := c.pfStage ++
        [(tag, x.2.1, { value := x.2.2.1, qual := x.2.2.2, stamp := shortOf (tickStartNs tag) })] })
    else s.bump (pCYC 0) R.CYC_CNT_WR_DENIED

/-- The injections of a SYNC frame, each numbered within its tag. -/
def State.injAll (s : State) (seen : List Nat) : List (Nat × Nat × Nat × Nat) → State
  | [] => s
  | x :: t => (s.injIn (seen.count x.1) x).injAll (x.1 :: seen) t

/-- Pairing decisions a partner's heartbeat allows (R371, R372). -/
def State.pairing (s : State) (m : SyncMsg) : State :=
  let d := s.dup
  if d.state = 1 then
    if m.side = s.sideB then (if (d.pend.map (fun p => p.1)) = some 7 then s else s.dupGo 7 false 3)
    else if d.mismatch then s
    else if m.active && (m.state = 2 || m.state = 5) then s.dupGo 3 false 3
    else if m.state = 1 && !s.sideB then s.dupGo 5 true 3
    else s
  else if s.sideB && m.active && (d.state = 6 || (d.state = 5 && d.active)) && m.side ≠ s.sideB then s.dupGo 3 false 2
  else s

/-- Control fields of resynchronisation. -/
def State.resyncCtl (s : State) (prev : Option SyncMsg) (m : SyncMsg) : State :=
  let d := s.dup
  if d.active && (d.state = 2 || d.state = 5) then
    if m.resyncReq && !(prev.any (fun p => p.resyncReq)) then
      (s.setRg pDUP R.DUP_RESYNC_TAG (tagOf (s.cycNow + 480))).updDup (fun d => { d with answer := some (s.cycNow + 480), matches_ := 0 })
    else s
  else if d.state = 3 then
    let soloNew := m.nocmp && prev.any (fun p => !p.nocmp)
    let s := if d.mismatch || soloNew then s.updDup Dup.restart else s
    match m.resyncTag with
    | some r =>
      if m.active && s.cycNow < r && s.dup.resyncTick ≠ some r then
        (s.setRg pDUP R.DUP_RESYNC_TAG (tagOf r)).updDup (fun d => { d with
          resyncTick := some r, reqResync := false, refsFrom := [], ptsFrom := [], adoptedPubs := false, adoptedMir := false })
      else s
    | none => s
  else s

/-- Control fields of a swap (R374). -/
def State.swapCtl (s : State) (m : SyncMsg) : State :=
  let d := s.dup
  if d.state ≠ 2 then s
  else if d.active then
    match d.swapTick with
    | none =>
      if m.swapReq then
        (s.setRg pDUP R.DUP_SWAP_TAG (tagOf (s.cycNow + 4))).updDup (fun d =>
          { d with swapTick := some (s.cycNow + 4), ack := false, confirm := false })
      else s
    | some t =>
      if m.ackTag = some t ∧ (s.cycNow + 2 < t ∨ (s.cycNow + 2 = t ∧ !s.cyc.kerfDone)) then s.updDup (fun d => { d with confirm := true }) else s
  else
    let s := match m.swapTag with
      | some t =>
        if d.reqSwap then (s.setRg pDUP R.DUP_SWAP_TAG (tagOf t)).updDup (fun d => { d with swapTick := some t, ack := true }) else s
      | none => s
    if m.confirmTag.isSome && m.confirmTag = s.dup.swapTick then s.updDup (fun d => { d with confirm := true }) else s

/-- A SYNC frame of the partner. -/
def State.syncIn (s : State) (m : SyncMsg) : State :=
  if !s.dupEn then s
  else
    let prev := s.dup.partner
    let diff := m.configId != s.cfgId
    let s := s.updDup (fun d => { d with
      partner := some m, syncs := (m :: d.syncs).take 4, mismatch := diff, cfgDiff := if diff then d.cfgDiff + 1 else 0 })
    let s := s.injAll [] m.inj
    (((s.pairing m).resyncCtl prev m).swapCtl m).mirTry

/-- DUP_SYNC_RX: the oldest frame received, where it is a SYNC frame. -/
def State.dupSyncRx (s : State) : State :=
  match dupHead s.dup.rx with
  | some (.sync m, t) => (s.updDup (fun d => { d with rx := t })).syncIn m
  | _ => s

/-- MIRROR_RX: a part of the snapshot of a cycle is joined to those before it; a newer snapshot takes the place of an older. -/
def State.mirrorRx (s : State) : State :=
  match dupHead s.dup.rx with
  | some (.mirror c bs, t) =>
    let s := s.updDup (fun d => { d with rx := t })
    if !s.dupEn || s.dup.active then s
    else
      let s := s.updDup (fun d => { d with mirRx := match d.mirRx with
        | some (c', old) => if c' = c then some (c, (old ++ bs).take 65536) else if c < c' then some (c', old) else some (c, bs)
        | none => some (c, bs) })
      s.mirTry
  | _ => s

/-- RSTATE_RX. -/
def State.rstateRx (s : State) : State :=
  match dupHead s.dup.rx with
  | some (.rstate k m, t) => (s.updDup (fun d => { d with rx := t })).rstateIn k m
  | _ => s

/-! ### Events -/

/-- CONFIG_DIVERGE: 4,800 consecutive heartbeats with another DUP_CONFIG_ID, in SYNCED (R364). -/
def State.configDiverge (s : State) : State :=
  if s.dupEn && s.dup.state = 2 && 4800 ≤ s.dup.cfgDiff then (s.updDup (fun d => { d with cfgDiff := 0 })).diverge 3 s.cycNow 0 0
  else s

/-- PAIRING_TIMEOUT: 2 s in PAIRING have passed (R372). -/
def State.pairingTimeout (s : State) : State :=
  if !s.dupEn || s.dup.state ≠ 1 || s.since s.dup.pairClk < 500000000 then s
  else match s.dup.partner with
    | some m => if s.hbCurrent then s.pairing m else s.dupGo 5 true 3
    | none => s.dupGo 5 true 3

/-- PREFERRED_RETURN: a healthy PREFERRED STANDBY asks for the swap (R374). -/
def State.preferredReturn (s : State) : State :=
  let d := s.dup
  let other := match d.partner with | some m => m.preferred | none => false
  if s.dupEn && s.dupMode = 0 && s.preferred && d.state = 2 && !d.active && !d.reqSwap && !(s.sideB && other) &&
      s.tsu.sync != .unlocked && fld (s.ac pDUP R.DUP_TIMING) 16 16 * 250000000 ≤ s.since d.healthyClk then
    s.updDup (fun d => { d with reqSwap := true })
  else s

/-! ### DUP_CMD and DUP_INJ_CMD -/

/-- DUP_CMD.RESYNC on a STANDBY in DIVERGED or YIELDED. -/
def State.dupResync (s : State) : State :=
  if s.dupEn && (s.dup.state = 4 || s.dup.state = 6) then s.dupGo 3 false 0 else s.refuse pDUP R.DUP_CMD 0x42

/-- DUP_CMD.SWAP on a SYNCED STANDBY. -/
def State.dupSwap (s : State) : State :=
  if s.dupEn && s.dup.state = 2 && !s.dup.active then s.updDup (fun d => { d with reqSwap := true }) else s.refuse pDUP R.DUP_CMD 0x42

/-- DUP_CMD.TAKE in MODE = RECOVERY. -/
def State.dupTake (s : State) : State :=
  if s.dupEn && s.dupMode = 3 && (s.dup.state = 1 || s.dup.state = 6 || s.dup.state = 7) && !s.hbCurrent then s.dupGo 5 true 5
  else s.refuse pDUP R.DUP_CMD 0x42

/-- DUP_INJ_CMD.GO (R360). -/
def State.dupInject (s : State) : State :=
  if !s.dup.active || s.failed then s.refuse pDUP R.DUP_INJ_CMD 0x42
  else if 16 ≤ s.dup.injNow then s.refuse pDUP R.DUP_INJ_CMD Err.capFull
  else
    let tag := s.cycNow + fld (s.ac pDUP R.DUP_TIMING) 13 3
    let p := fld (s.rg pDUP R.DUP_INJ_POINT) 0 20
    let x : Point :=
      { value := s.rg64 pDUP R.DUP_INJ_VALUE, qual := (s.rg pDUP R.DUP_INJ_QUAL).toNat, stamp := shortOf (tickStartNs tag) }
    let s := (s.setRg pDUP R.DUP_INJ_TAG (tagOf tag)).updDup (fun d => { d with injNow := d.injNow + 1 })
    let r := s.mayWrite 0 p
    if !r.1 then r.2
    else
      let s := r.2.updCyc (fun c => { c with pfStage := c.pfStage ++ [(tag, p, x)] })
      if s.dup.state = 5 then s else s.updDup (fun d => { d with inj := d.inj ++ [(tag, p, x)] })

/-! ### The commands -/

/-- DUP_SYNC_RX (R356). -/
def execDupSyncRx (s : State) : Host.Outcome State Fault Refusal := act State.onMain State.dupSyncRx s

/-- MIRROR_RX (R363). -/
def execMirrorRx (s : State) : Host.Outcome State Fault Refusal := act State.onMain State.mirrorRx s

/-- RSTATE_RX (R373). -/
def execRstateRx (s : State) : Host.Outcome State Fault Refusal := act State.onMain State.rstateRx s

/-- CONFIG_DIVERGE (R364). -/
def execConfigDiverge (s : State) : Host.Outcome State Fault Refusal := act State.onMain State.configDiverge s

/-- PAIRING_TIMEOUT (R372). -/
def execPairingTimeout (s : State) : Host.Outcome State Fault Refusal := act State.onMain State.pairingTimeout s

/-- RESYNC (R373). -/
def execResync (s : State) : Host.Outcome State Fault Refusal := actReg State.onMain pDUP State.dupResync s

/-- SWAP (R374). -/
def execSwap (s : State) : Host.Outcome State Fault Refusal := actReg State.onMain pDUP State.dupSwap s

/-- TAKE (R372), protected under R48. -/
def execTake (s : State) : Host.Outcome State Fault Refusal :=
  actReg State.onMain pDUP (fun s => s.ifUnlocked pDUP R.DUP_CMD State.dupTake) s

/-- PREFERRED_RETURN (R374). -/
def execPreferredReturn (s : State) : Host.Outcome State Fault Refusal := act State.onMain State.preferredReturn s

/-- GO (R360). -/
def execGo (s : State) : Host.Outcome State Fault Refusal := actReg State.onMain pDUP State.dupInject s

end Sys2Proof.Machine
end

