-- ==== Sys2Proof/Machine/SwcCmd.lean ====
section
/-!
DEFINITION. The commands of the MACs and the Crosscut (chapter 3), with the gate lists, supervision, cage supplies
(R469) and the configuration checks of the MAC, SWC, redundancy and hashing pages.
-/
namespace Sys2Proof.Machine

/-- The stamp of a frame that has left a port goes to the transmit stamp FIFO, or is lost where that is full (R106, R107). A stamp no TDC
measured has FRAC 0 (R91): P6 and P7 have none. -/
def State.txStamp (s : State) (e tag : Nat) (x : QEntry) : State :=
  let m := s.mac e
  if 64 ≤ m.tsf.length then ((s.setMac e { m with lastTag := tag }).bump (pMAC e) R.MAC_CNT_TS_DROP).irq (pMAC e) 10
  else
    let adj := sfld (s.ac pTSU (R.TSU_PORT_ADJ + 4 * e)) 16 16
    let t := (((x.egNs : Int) * 16 + x.egFrac + adj)).toNat
    let tdc := e != 6 && e != 7
    s.setMac e { m with lastTag := tag, tsf := m.tsf ++ [(shortOf (t / 16), tag, if tdc then t % 16 else 0, tdc)] }

/-- A frame's last cell has been read and sent (R77): on a port the frame leaves and its stamp is captured where
requested (R106, R107); on H0 it enters its ingest lane, on H1 it waits for delivery. -/
def State.txDone (s : State) (e : Nat) : State :=
  let g := s.eg e
  if !s.running pSWC then s
  else match g.fly with
  | [] => s
  | x :: rest =>
    let s := (s.setEg e { g with fly := rest }).lndDrop x.id
    if e = 10 then
      s.updSwc (fun c => { c with lanes := c.lanes.set x.lane (((c.lanes[x.lane]?).getD []) ++ [x]) })
    else if e = 11 then s.updSwc (fun c => { c with h1rx := c.h1rx ++ [x] })
    else
      let s := ((s.bump (pMAC e) R.MAC_CNT_TX_FRAMES).bumpBy (pMAC e) R.MAC_CNT_TX_BYTES x.frame.size).emit (.tx e x.frame)
      let s := (match x.tsReq with | none => s | some tag => s.txStamp e tag x).pauseBegin e
      if e = 8 then s.yardDrain else s

/-- Frames queued at a port, the fuel of a selection. -/
def State.egLoad (s : State) (e : Nat) : Nat := ((s.eg e).q.map List.length).sum + 1

/-- The operating entry of a gate list advances when its interval has expired (R73). -/
def State.gateAdvance (s : State) (e : Nat) : State :=
  let x := s.eg e
  if s.running pSWC && x.gateOn && decide (x.gateBase ≤ s.ns) && s.gateEntryAt e s.ns != x.gateEntry then
    s.setEg e { x with gateEntry := s.gateEntryAt e s.ns }
  else s

/-- BASE, cycle time and length of a port's committed gate control. -/
def State.gateBaseNs (s : State) (e : Nat) : Nat :=
  (s.ac64 (pEG e) R.SWC_GATE_BASE_SEC % 2 ^ 48) * 1000000000 + fld (s.ac (pEG e) R.SWC_GATE_BASE_NS) 0 30

/-- The bank named by the commit becomes operating at the first cycle start at or after BASE that follows it (R73). -/
def State.gateSwitch (s : State) (e : Nat) : State :=
  let x := s.eg e
  let c := s.ac (pEG e) R.SWC_GATE_CTRL
  let base := s.gateBaseNs e
  let cyc := (s.ac (pEG e) R.SWC_GATE_CYCLE).toNat
  let k := if cyc = 0 then 0 else x.gateReqNs - base
  let start := if cyc = 0 then base else base + cdiv k cyc * cyc
  if s.running pSWC && x.gatePending && bit c 0 && start ≤ s.ns then
    (s.setEg e { x with
      gateBank := bit c 1, gatePending := false, gateOn := true, gateEntry := 0, gateBase := base,
      gateCycle := cyc, gateLen := fld c 8 9 }).irq (pEG e) 4
  else s

/-- When the Crosscut's shadow becomes active: a gate list enabled or moved to another bank waits for its cycle start,
a list turned off opens all gates; a port whose TX_EN fell discards its queues (R73, R76). -/
def State.swcApplied (old s : State) : State :=
  iter 12 (fun e s =>
    let c := s.ac (pEG e) R.SWC_GATE_CTRL
    let x := s.eg e
    if !bit c 0 then s.setEg e { x with gateOn := false, gatePending := false }
    else if [R.SWC_GATE_CTRL, R.SWC_GATE_BASE_NS, R.SWC_GATE_BASE_SEC, R.SWC_GATE_BASE_SEC + 4, R.SWC_GATE_CYCLE].any
        (fun o => old.ac (pEG e) o != s.ac (pEG e) o) then s.setEg e { x with gatePending := true, gateReqNs := s.ns }
    else s) s

/-- When a MAC's shadow becomes active: a fall of TX_EN discards the port's queued frames (R76), and a transmit SA already at a lowered
threshold has reached it (R86). -/
def State.macApplied (old s : State) (p : Nat) : State :=
  let s := if bit (old.macCfg p) 13 && !bit (s.macCfg p) 13 then s.flushQueues p else s
  let lim (x : State) : Nat := (x.ac (pMAC p) R.MAC_PN_THRESH).toNat
  if (s.txSas p).any (fun i => let pn := (s.tw (saAddr p i + 16)).toNat; pn < lim old && lim s ≤ pn) then s.irq (pMAC p) 8 else s

/-- MAC_CFG values the field descriptions mark as RANGE, refused at the write (R64). -/
def macCfgBad (p : Nat) (v : Word) : Bool :=
  let sp := fld v 0 3
  let fec := fld v 4 2
  (p == 8 && bit v 8) || ((p == 6 || p == 7 || p == 9) && bit v 10) || fec == 3 || (fec == 2 && sp != 0) ||
  (if p ≤ 5 then 2 < sp else if p ≤ 7 then sp != 3 else if p = 8 then sp != 0 else sp != 4)

/-- Ports beyond the ordering code as a port mask (R5). -/
def State.absentPorts (s : State) : Nat := if s.half then 0x38 else 0

/-- A configuration that would use a port beyond the ordering code: a redundancy mode, a group member, a gate list (R5). -/
def State.swcCapBad (s : State) : Option (Nat × Nat × Nat) :=
  let gone (p : Nat) : Bool := s.absentPorts.testBit p
  if (List.range 8).any (fun p => gone p && fld (s.rg pRED R.SWC_RED_MODE) (4 * (p / 2)) 4 != 0) then some (pRED, R.SWC_RED_MODE, Err.capFull)
  else if (List.range 8).any (fun p => gone p && (List.range 4).any (fun g => bit (s.rg pHASH R.SWC_LAG_CFG) (8 * g + p))) then
    some (pHASH, R.SWC_LAG_CFG, Err.capFull)
  else ((List.range 12).find? (fun e => gone e && bit (s.rg (pEG e) R.SWC_GATE_CTRL) 0)).map (fun e => (pEG e, R.SWC_GATE_CTRL, Err.capFull))

/-- The Crosscut's own checks at COMMIT (R5, R41, R73, R80): page, offset, code. The range of a gate list's intervals is checked here, over the
entries LIST_LEN takes in, and reported at SWC_GATE_CYCLE; the table takes any interval (the model's choice, log 137). -/
def State.swcCheck (s : State) : Option (Nat × Nat × Nat) :=
  let pairBad := (List.range 8).any (fun p =>
    fld (s.rg pRED R.SWC_RED_MODE) (4 * (p / 2)) 4 != 0 && (List.range 4).any (fun g => bit (s.rg pHASH R.SWC_LAG_CFG) (8 * g + p)))
  let gates := (List.range 12).findSome? (fun e =>
    let c := s.rg (pEG e) R.SWC_GATE_CTRL
    let cyc := (s.rg (pEG e) R.SWC_GATE_CYCLE).toNat
    let len := fld c 8 9
    let base := 0x00910000 + (2 * e + b2n (bit c 1)) * 0x800
    let ivs := (List.range (min len 256)).map (fun i => (s.tw (base + i * 8 + 4)).toNat)
    if !bit c 0 then none
    else if len = 0 then some (pEG e, R.SWC_GATE_CTRL, Err.zeroField)
    else if 256 < len then some (pEG e, R.SWC_GATE_CTRL, Err.range)
    else if cyc = 0 then some (pEG e, R.SWC_GATE_CYCLE, Err.zeroField)
    else if cyc < 1000 || 1000000000 < cyc then some (pEG e, R.SWC_GATE_CYCLE, Err.range)
    else if ivs.any (· == 0) then some (pEG e, R.SWC_GATE_CTRL, Err.zeroField)
    else if ivs.any (fun i => i < 100 || 1000000000 < i) || cyc < ivs.sum then some (pEG e, R.SWC_GATE_CYCLE, Err.range)
    else none)
  s.swcCapBad.orElse (fun _ => gates.orElse (fun _ => if pairBad then some (pHASH, R.SWC_LAG_CFG, 0x41) else none))

/-- The checks of the Crosscut's tables at an entry write (R5, R73, R81, R88, R89): offset code, none when accepted. A bank operates while the
gate list is on; while GATE_EN is 0 both banks can be written (the model's choice, log 136). -/
def State.swcTblCheck (s : State) (a : Nat) (ws : List Word) : Option Nat :=
  let w (i : Nat) : Word := (ws[i]?).getD 0
  let pairUpper (mask : Nat) : Bool :=
    (List.range 4).any (fun pr => fld (s.ac pRED R.SWC_RED_MODE) (4 * pr) 4 != 0 && mask.testBit (2 * pr + 1))
  let ports (mask : Nat) (upper : Bool) : Option Nat :=
    if mask &&& s.absentPorts ≠ 0 then some Err.capFull else if upper && pairUpper mask then some Err.range else none
  if 0x00800000 ≤ a ∧ a < 0x00900000 then ports (fld (w 2) 0 16) true
  else if 0x00900000 ≤ a ∧ a < 0x00910000 then ports (fld (w 0) 0 16) true
  else if 0x00910000 ≤ a ∧ a < 0x0091C000 then
    let k := (a - 0x00910000) / 0x800
    if s.absentPorts.testBit (k / 2) then some Err.capFull
    else if (s.eg (k / 2)).gateOn && (s.eg (k / 2)).gateBank == (k % 2 == 1) then some 0x40 else none
  else if 0x0091D000 ≤ a ∧ a < 0x0091D400 then (if 3 < fld (w 0) 0 3 then some Err.range else none)
  else if 0x00920000 ≤ a ∧ a < 0x00928000 then ports (fld (w 0) 0 16) false
  else none

/-- A Crosscut entry has been written: the age of a dynamic FDB entry starts anew with it, and the entry it replaced ages no more (R75). -/
def State.swcWritten (s : State) (a : Nat) : State :=
  if 0x00800000 ≤ a ∧ a < 0x00900000 then
    let i := (a - 0x00800000) / 32
    let live := bit (s.tw (fdbAddr i + 4)) 31 && !bit (s.tw (fdbAddr i + 8)) 31
    s.updSwc (fun c => { c with fdbRef := if live then sput i s.tsu.clk c.fdbRef else sdel i c.fdbRef })
  else s

/-- The MACsec SA table's check: the slot named must carry the MACsec destination, or on P8 the yarder link cipher
(R85); `ok` says whether the KSU slot does. An entry written with VALID = 0 is accepted whatever slot it names (the model's choice, log
138). -/
def saCheck (ok : Bool) (ws : List Word) : Option Nat := if bit ((ws[0]?).getD 0) 31 && !ok then some 0x40 else none

/-- The supervision frame of a pair, from the module's own address (R84, R371). -/
def State.beaconFrame (s : State) (pair : Nat) : Frame :=
  {
    da := 0x01154E000100 + fld (s.ac pRED R.SWC_RED_SUP_ADDR) 0 8, sa := s.ownAddr (2 * pair), et := 0x88FB, size := 64,
    body := .supervision (s.ownAddr (2 * pair)) }

/-- A supervision frame into both ports of a pair (R84). -/
def State.beacon (s : State) (pair : Nat) : State :=
  let p := 2 * pair
  let f := s.beaconFrame pair
  s.enqueue f { ports := [p, p + 1], queue := s.queueOf f 0, lane := 0, rsel := 0, vid := 1, pcp := 0 }
    { id := 0, frame := f, cells := 0, stamp := s.short, ing := 12, rsel := 0 } none

/-- Supervision frames of a pair that is not OFF, every SWC_RED_LIFECHECK ms (R84). -/
def State.supervise (s : State) (pair : Nat) : State :=
  let life := (s.ac pRED R.SWC_RED_LIFECHECK).toNat
  let last := (s.swc.supClk[pair]?).getD 0
  if 3 < pair || s.redMode pair = 0 || life = 0 || !s.running pSWC || s.since last < msClk life then s
  else (s.updSwc (fun c => { c with supClk := c.supClk.set pair s.tsu.clk })).beacon pair

/-- An SFP cage draws over 400 mA for 10 ms: its supply switches off and its link is held down (R469). -/
def State.cageTrip (s : State) (p : Nat) : State :=
  if 5 < p then s else
    let s := s.linkLost p
    s.setMac p { s.mac p with supplyOff := true, txFault := true }

/-- An SFP removed and refitted in a tripped cage gets its supply back (R469). -/
def State.sfpRefit (s : State) (p : Nat) : State :=
  if 5 < p then s else s.setMac p { s.mac p with supplyOff := false, txFault := false, present := true }

/-- MAC SOFT_RESET beyond the registers: the stamp FIFO empties (R107); a stopped MAC holds its link down (R487). -/
def State.macStopped (s : State) (p : Nat) : State := s.linkLost p
def State.macSoft (s : State) (p : Nat) : State := (s.linkLost p).setMac p { (s.linkLost p).mac p with tsf := [] }

/-- Read-only registers of a MAC page that show its state. -/
def State.macRo (s : State) (p off : Nat) : Option Word :=
  let m := s.mac p
  if off = R.MAC_LINK then
    some (w32 (b2n m.linkUp + (if m.linkUp then fld (s.macCfg p) 0 3 else 0) * 2 + b2n (m.paused && !m.pauseWait) * 16 + b2n m.holdoff * 32 +
      b2n m.present * 64 + b2n m.los * 128 + b2n m.txFault * 256 + b2n m.fecLock * 512))
  else if off = R.MAC_TSF_LEVEL then some (w32 m.tsf.length)
  else if off = R.MAC_TSF_STAMP then some (match m.tsf with | (st, _) :: _ => w32 st | [] => 0)
  else if off = R.MAC_TSF_INFO then
    some (match m.tsf with | (_, tag, fr, fv) :: _ => w32 (tag % 2 ^ 16 * 2 ^ 16 + fr * 16 + b2n fv * 2 + 1) | [] => 0)
  else if off = R.MAC_TSF_LAST_TAG then some (w32 (m.lastTag % 2 ^ 16))
  else none

/-- Read-only registers of the SWC pages that show its state. -/
def State.swcRo (s : State) (idx off : Nat) : Option Word :=
  if idx = 0 then
    if off = R.SWC_LND_FREE then some (w32 s.lndFree)
    else if off = R.SWC_LND_MIN_FREE then some (w32 s.swc.minFree)
    else if off = R.SWC_FDB_USED then
      some (w32 (s.tbl.filter (fun e => 0x00800000 ≤ e.1 && e.1 < 0x00900000 && e.1 % 32 == 4 && bit e.2 31)).length)
    else none
  else if idx ≤ 12 then
    let e := idx - 1
    if R.SWC_QDEPTH ≤ off ∧ off < R.SWC_QDEPTH + 32 then some (w32 (s.qDepth e ((off - R.SWC_QDEPTH) / 4)))
    else if off = R.SWC_GATE_OPER then
      some (w32 ((s.eg e).gateEntry * 2 ^ 16 + b2n (s.eg e).gatePending * 2 + b2n (s.eg e).gateBank))
    else none
  else none

/-- Words of the SWC tables that show state: AGE of a dynamic FDB entry, the duplicate table, and the node table (whose
layout the spec leaves open: log 10). -/
def State.swcTblWord (s : State) (a : Nat) : Option Word :=
  if 0x00800000 ≤ a ∧ a < 0x00900000 ∧ a % 32 = 16 then
    let i := (a - 0x00800000) / 32
    if bit (s.tw (fdbAddr i + 4)) 31 && !bit (s.tw (fdbAddr i + 8)) 31 then some (w32 (min 0xFFFF (s.fdbAge i))) else some 0
  else if 0x00930000 ≤ a ∧ a < 0x00950000 then
    match s.swc.dups.find? (fun e => e.1 == (a - 0x00930000) / 32) with
    | none => some 0
    | some (_, e) => some (match a % 32 with
        | 0 => w32 e.sa
        | 4 => w32 (2 ^ 31 + e.pair * 2 ^ 16 + e.sa / 2 ^ 32 % 2 ^ 16)
        | 8 => w32 (e.high % 2 ^ 16)
        | 12 => w32 e.window
        | 16 => w32 (e.window / 2 ^ 32)
        | _ => 0)
  else if 0x00928000 ≤ a ∧ a < 0x00930000 then
    match s.swc.nodes.find? (fun e => e.1 == (a - 0x00928000) / 32) with
    | none => some 0
    | some (_, e) => some (match a % 32 with
        | 0 => w32 e.mac
        | 4 => w32 (2 ^ 31 + e.mac / 2 ^ 32 % 2 ^ 16)
        | 8 => w32 (e.lanA.getD 0)
        | 12 => w32 (e.lanB.getD 0)
        | 16 => w32 (b2n e.lanA.isSome + 2 * b2n e.lanB.isSome + 4 * b2n e.proxied)
        | _ => 0)
  else none

/-! ### The commands -/

/-- FRAME_RX (R67): frame `f` is received at port `p`. -/
def execFrameRx (p : Nat) (f : Frame) (s : State) : Host.Outcome State Fault Refusal :=
  act State.onMain (fun s => s.frameRx p f) s

/-- PAUSE_EXPIRY (R70). -/
def execPauseExpiry (p : Nat) (s : State) : Host.Outcome State Fault Refusal :=
  act State.onMain (fun s => s.pauseExpire p) s

/-- PAUSE_WDOG (R70). -/
def execPauseWdog (p : Nat) (s : State) : Host.Outcome State Fault Refusal := act State.onMain (fun s => s.pauseWdog p) s

/-- PAUSE_HOLDOFF_END (R70). -/
def execPauseHoldoffEnd (p : Nat) (s : State) : Host.Outcome State Fault Refusal :=
  act State.onMain (fun s => s.pauseHoldoffEnd p) s

/-- H1_POST (R68): the oldest frame posted through H1. -/
def execH1Post (s : State) : Host.Outcome State Fault Refusal := act State.onMain State.h1Take s

/-- PORT_FRAME_SELECT (R72) at egress port `e`. -/
def execPortFrameSelect (e : Nat) (s : State) : Host.Outcome State Fault Refusal :=
  act State.onMain (fun s => if s.egIdle e then s.select e (s.egLoad e) else s) s

/-- FRAME_TX_DONE (R77) at egress port `e`. -/
def execFrameTxDone (e : Nat) (s : State) : Host.Outcome State Fault Refusal := act State.onMain (fun s => s.txDone e) s

/-- LINK_UP (R76). -/
def execLinkUp (p : Nat) (s : State) : Host.Outcome State Fault Refusal := act State.onMain (fun s => s.linkGained p) s

/-- LINK_DOWN (R76). -/
def execLinkDown (p : Nat) (s : State) : Host.Outcome State Fault Refusal := act State.onMain (fun s => s.linkLost p) s

/-- GATE_ENTRY_ADVANCE (R73). -/
def execGateEntryAdvance (e : Nat) (s : State) : Host.Outcome State Fault Refusal :=
  act State.onMain (fun s => s.gateAdvance e) s

/-- GATE_BANK_SWITCH (R73). -/
def execGateBankSwitch (e : Nat) (s : State) : Host.Outcome State Fault Refusal :=
  act State.onMain (fun s => s.gateSwitch e) s

/-- FDB_AGE_OUT (R75) of entry number `i`. -/
def execFdbAgeOut (i : Nat) (s : State) : Host.Outcome State Fault Refusal :=
  act State.onMain (fun s => if s.running pSWC then s.fdbAgeOut i else s) s

/-- DUP_ENTRY_FORGET (R83) of entry number `i`. -/
def execDupEntryForget (i : Nat) (s : State) : Host.Outcome State Fault Refusal :=
  act State.onMain (fun s => if s.running pSWC then s.dupForget i else s) s

/-- SUPERVISION_SEND (R84) of a pair. -/
def execSupervisionSend (pair : Nat) (s : State) : Host.Outcome State Fault Refusal :=
  act State.onMain (fun s => s.supervise pair) s

/-- CAGE_SUPPLY_TRIP (R469). -/
def execCageSupplyTrip (p : Nat) (s : State) : Host.Outcome State Fault Refusal := act State.onMain (fun s => s.cageTrip p) s

/-- SFP_REFIT (R469). -/
def execSfpRefit (p : Nat) (s : State) : Host.Outcome State Fault Refusal := act State.onMain (fun s => s.sfpRefit p) s

/-- MAC_TSF_POP (R107): no effect when the FIFO is empty. -/
def execMacTsfPop (p : Nat) (s : State) : Host.Outcome State Fault Refusal :=
  actReg State.onMain (pMAC p) (fun s => s.setMac p { s.mac p with tsf := (s.mac p).tsf.drop 1 }) s

/-- TC_SYNC_ENTRY_RELEASE (R105): the oldest entry whose Sync is 100 ms old is released. -/
def execTcSyncEntryRelease (s : State) : Host.Outcome State Fault Refusal :=
  act State.onMain (fun s => match s.swc.tc with
    | t :: rest => if s.running pSWC && decide (msClk 100 ≤ s.since t.syncClk) then s.updSwc (fun c => { c with tc := rest }) else s
    | [] => s) s

end Sys2Proof.Machine
end

