-- ==== Sys2Proof/Machine/CycCmd.lean ====
section
/-!
DEFINITION. The commands in which the sample plane, the executor, migration and the pair act together: the close of a tick,
the boundary and the kerf (R125, R128, R182, R206).
-/
namespace Sys2Proof.Machine

/-! ### The kerf (R186, R206) -/

/-- The kerf of the current cycle, its steps in order. `used` is how long its work takes, in 0.1 µs. -/
def State.kerf (s : State) (used : Nat) : State :=
  let j := s.cycNow
  let lenient := decide (s.dup.state = 3 ∧ s.dup.resyncTick = some j)
  let s := (s.dupKerfPre.migKerfPre.kerf12 used (fun _ => lenient)).talKerf.migPubs
  let quiet := (List.range 256).filter s.migQuiet
  let s := (List.range 256).foldl (fun s n => s.pubStep (fun m => quiet.contains m) n) s
  let s := s.dupKerf.sendPubs
  let armed := s.cyc.olc.state == 3
  let s := s.kerfOlc
  let s := if armed && (s.cyc.olc.state == 4 || s.cyc.olc.state == 5) then
      s.kerfCopied s.cyc.olc.inst (carryBytes s.cyc.olc.oldB s.cyc.olc.newB) else s
  s.migKerfPost

/-- KERF_START. -/
def State.kerfStart (s : State) (used : Nat) : State := if s.kerfDue then s.kerf used else s

/-! ### The boundary (R182, R217, R218, R354, R367) -/

/-- Frames released at the boundary that ends cycle j. -/
def State.releaseAll (s : State) (j : Nat) : State :=
  let rs := s.cyc.release
  let s := s.updCyc (fun c => { c with release := [] })
  rs.foldl (fun s r =>
    if !s.mayPublish r.1 then s
    else
      let item : H1Item :=
        {
          fn := none, frame := r.2, seq := if s.dupEn then some ((j * 512 + r.1) % 65536) else none,
          queue := some 6 }
      (s.updSwc (fun c => { c with h1q := c.h1q ++ [item] })).bump (pCYC 0) R.CYC_CNT_PUB_SENT) s

/-- CYCLE_START: the boundary of the next started tick has come. -/
def State.cycleStart (s : State) : State :=
  match s.cycDue with
  | none => s
  | some j =>
    let last := s.cycNow
    let first := s.cyc.cyc.isNone
    let s := s.dupBoundary.migBoundary.kerfOver
    let s := if first then s else (s.releaseAll last)
    let s := if first then s else { s with hwsIn := s.hwsIn ++ [(1, s.outVector, 0)] }
    let s := (s.cycBegin j).updDup (fun d => { d with injNow := 0 })
    if s.dupEn then s.beacon s.redPair else s

/-! ### The close (R125, R128, R129) -/

/-- The oldest frozen tick becomes final. -/
def State.closeFinal (s : State) (m : Option PMap) (solo : Bool) : State :=
  match s.sva.frozen with
  | [] => s
  | fz :: _ => (s.svaFinal m solo).dupClosed fz m solo

/-- Frozen ticks become final in tick order, as far as the partner's maps are here; the fuel is their number. -/
def State.closeSettle (s : State) : Nat → State
  | 0 => s
  | n + 1 => match s.sva.frozen.head?.bind (fun fz => fz.map) with
    | some m => (s.closeFinal (some m) false).closeSettle n
    | none => s

/-- Every frozen tick becomes final on the own data. -/
def State.closeAlone (s : State) (solo : Bool) : State := iter s.sva.frozen.length (fun _ s => s.closeFinal none solo) s

/-- TICK_CLOSE: the oldest tick freezes; alone it is final at once, in a pair once the partner's map is here. -/
def State.tickClose (s : State) : State :=
  if !s.closeDue then s
  else
    let s := s.svaFreeze.dupFreeze
    if !s.paired then s.closeAlone false else s.closeSettle s.sva.frozen.length

/-- A partner's map. -/
def State.mapIn (s : State) (m : PMap) : State :=
  let s := s.svaMap m
  if s.paired then s.closeSettle s.sva.frozen.length else s

/-- PARTNER_MAP_RX: the oldest frame received from the partner, where it is a MAP frame. -/
def State.mapRx (s : State) : State :=
  match dupHead s.dup.rx with
  | some (.map m, t) => (s.updDup (fun d => { d with rx := t })).mapIn m
  | _ => s

/-- AGREE_WAIT_EXPIRY: no map came in time, so the tick closes solo. -/
def State.agreeExpire (s : State) : State :=
  if s.agreeExpired then let t := s.closeFinal none true; t.closeSettle t.sva.frozen.length else s

/-- The pair at a tick start: PAIRED follows the state; a close that waited for a partner no longer paired ends on the own
data. -/
def State.dupTickStart (s : State) : State :=
  let s := s.dupTick
  if s.paired then s else s.closeAlone true

/-! ### The commands -/

/-- KERF_START (R186). -/
def execKerfStart (used : Nat) (s : State) : Host.Outcome State Fault Refusal := act State.onMain (fun s => s.kerfStart used) s

/-- TICK_CLOSE (R125). -/
def execTickClose (s : State) : Host.Outcome State Fault Refusal := act State.onMain State.tickClose s

/-- PARTNER_MAP_RX (R128). -/
def execPartnerMapRx (s : State) : Host.Outcome State Fault Refusal := act State.onMain State.mapRx s

/-- AGREE_WAIT_EXPIRY (R129). -/
def execAgreeWaitExpiry (s : State) : Host.Outcome State Fault Refusal := act State.onMain State.agreeExpire s

end Sys2Proof.Machine
end

