-- ==== Sys2Proof/Machine/Ksu.lean ====
section
/-!
DEFINITION. The key store (chapter 17): derivation, the update paths, wrapping, blobs, invalidation, measurement registers
and the operations of KSU_CMD. The primitives are those of Config.
-/
namespace Sys2Proof.Machine

def State.updKsu (s : State) (f : Ksu → Ksu) : State := { s with ksu := f s.ksu }

/-! Block codes of the KSU page. -/
namespace KErr
abbrev mode : Nat := 0x40
abbrev usage : Nat := 0x41
abbrev orphaned : Nat := 0x42
abbrev verifyFail : Nat := 0x43
abbrev badMsg : Nat := 0x44
abbrev replay : Nat := 0x45
abbrev policy : Nat := 0x46
abbrev gen : Nat := 0x47
abbrev lockedOut : Nat := 0x48
abbrev opBusy : Nat := 0x49
abbrev slotInUse : Nat := 0x4A
abbrev tamperHold : Nat := 0x4B
abbrev noOwner : Nat := 0x4C
abbrev depth : Nat := 0x4D
end KErr

/-! ### Bytes -/

/-- Bytes as material, and back. -/
def toBytes (l : List Nat) : List Byte := l.map (fun b => BitVec.ofNat 8 b)
def ofBytes (l : List Byte) : List Nat := l.map (fun b => b.toNat)

/-- Length of material of a TYPE (R403). -/
def KSlot.keyLen (k : KSlot) : Nat := if k.type = 2 then 48 else 32

/-- Check value of material (R407): 0 for a slot that holds none. -/
def KSlot.kcv (k : KSlot) : Nat :=
  if k.state = 1 then ofLE ((fit 48 (Config.hmac384 (ofBytes k.material) [0x4B, 0x43, 0x56])).take 8) else 0

/-! ### Keep-alive values (R420) -/

/-- GEN of a slot, 0 beyond slot 63. -/
def State.gen (s : State) (i : Nat) : Nat := if i < 64 then ofLE (s.mramBytes (0x3FA00 + 4 * i) 4) else 0

/-- GEN of a persistent slot advances, and its material is UNSAVED (R411). -/
def State.genUp (s : State) (i : Nat) : State :=
  if i < 64 then
    let s := s.writeMram (0x3FA00 + 4 * i) (bytesLE 4 (s.gen i + 1))
    (s.setKslot i { s.kslot i with unsaved := true }).irq pKSU 8
  else s

/-- The stored update counter (R409). -/
def State.updCounter (s : State) : Nat := ofLE (s.mramBytes 0x3FB00 8)

/-- KAS as bytes; zeroised it reads as zeros. -/
def State.kasBytes (s : State) : List Nat :=
  match s.ksu.kas with
  | some n => fit 32 (Config.kasValue n)
  | none => List.replicate 32 0

/-! ### Derivation (R399, R404) -/

/-- Order of the P-384 group. -/
def p384n : Nat := 0xFFFFFFFFFFFFFFFFFFFFFFFFFFFFFFFFFFFFFFFFFFFFFFFFC7634D81F4372DDF581A0DB248B0A77AECEC196ACCC52973

/-- The key derivation function in counter mode, first `bits` bits. -/
def kdf (kin label ctx : List Nat) (bits : Nat) : List Nat :=
  let k (i : Nat) : List Nat := fit 48 (Config.hmac384 kin (bytesBE 4 i ++ label ++ [0] ++ ctx ++ bytesBE 4 bits))
  (k 1 ++ k 2).take (bits / 8)

/-- Material of a TYPE from a derivation. -/
def kdfMat (kin label ctx : List Nat) (typ : Nat) : List Nat :=
  if typ = 2 then bytesBE 48 (ofBE (kdf kin label ctx 448) % (p384n - 1) + 1) else kdf kin label ctx 256

/-- Measurement register values a POLICY names, in ascending order. -/
def State.mrPolicy (s : State) (pol : Nat) : List Nat :=
  (List.range 8).foldl (fun a p => if pol.testBit p then a ++ (s.ksu.mrs[p]?).getD [] else a) []

/-- CONTEXT of a slot. -/
def State.kctx (s : State) (k : KSlot) : List Nat :=
  [k.type, k.dest, k.usage, k.policy] ++ s.mrPolicy k.policy

/-- Private scalars of the identity key (0, "SDN-IDENTITY") and the transport key (1, "SDN-TRANSPORT"). -/
def pairKey (i : Nat) : List Nat :=
  let label : List Nat :=
    if i = 0 then [0x53, 0x44, 0x4E, 0x2D, 0x49, 0x44, 0x45, 0x4E, 0x54, 0x49, 0x54, 0x59]
    else [0x53, 0x44, 0x4E, 0x2D, 0x54, 0x52, 0x41, 0x4E, 0x53, 0x50, 0x4F, 0x52, 0x54]
  kdfMat Config.rootSecret label (Config.pairContext i) 2

/-- DEVICE_ID (R399): 48 bytes. -/
def deviceId : List Nat := fit 48 (Config.sha384 (fit 96 (Config.ecPub (pairKey 0))))

/-- The storage key of a slot's blob (R411): label "SDN-STORE". -/
def State.storeKey (s : State) (i : Nat) (k : KSlot) (gen : Nat) : List Nat :=
  kdf Config.rootSecret [0x53, 0x44, 0x4E, 0x2D, 0x53, 0x54, 0x4F, 0x52, 0x45]
    (s.kctx k ++ s.kasBytes ++ bytesLE 4 i ++ bytesLE 4 gen) 256

/-! ### Records (R419) -/

/-- A KEY record: slot, GEN and one further word. -/
def State.keyRec (s : State) (typ slot v : Nat) : State :=
  s.deck pKSU 10 typ (tagBody (tagOf s.tick) ++ bytesLE 2 slot ++ bytesLE 2 0 ++ bytesLE 4 (s.gen slot) ++ bytesLE 4 v)

/-! ### Slots -/

/-- Why a slot cannot serve an operation with a USAGE bit (R403). -/
def State.keyFor (s : State) (i u : Nat) : Option Nat :=
  let k := s.kslot i
  if k.state = 2 then some KErr.orphaned
  else if k.state = 1 ∧ k.usage.testBit u then none
  else some KErr.usage

/-- Engine copies of slots are purged. -/
def State.purge (s : State) (slots : List Nat) : State :=
  { s with ekeys := s.ekeys.filter (fun e => !slots.contains (e.1 % 256)) }

/-- ACTIVE slots whose material came from a slot: derived from it or unwrapped with it, or loaded from the blob of such a slot (R413; log
92). -/
def State.children (s : State) (i : Nat) : List Nat :=
  (s.kslots.filter (fun e => e.1 != i && e.2.state == 1 && e.2.parent == i && e.2.kid)).map (fun e => e.1)

/-- One generation of orphans: the children of the given slots become ORPHANED. -/
def State.orphanGen (s : State) (ps : List Nat) : List Nat × State :=
  let cs := (ps.flatMap s.children).dedup
  let t := cs.foldl (fun t c =>
    (t.setKslot c { t.kslot c with state := 2, material := [], lastTag := tagOf t.tick }).bump pKSU R.KSU_CNT_ORPHANED) s
  (cs, t.purge cs)

/-- A slot is invalidated (R413): its children and theirs in turn; how many were orphaned. -/
def State.invalidated (s : State) (i : Nat) : Nat × State :=
  let r := (List.range 256).foldl (fun (acc : List Nat × Nat × State) _ =>
    if acc.1.isEmpty then acc
    else
      let g := acc.2.2.orphanGen acc.1
      (g.1, acc.2.1 + g.1.length, g.2)) ([i], 0, s)
  (r.2.1, if r.2.1 = 0 then r.2.2 else r.2.2.irq pKSU 5)

/-- New material for a slot (R412, R413): children of the old material are orphaned; with `send` every engine that holds a
copy gets the new one. -/
def State.install (s : State) (i : Nat) (m : List Nat) (origin : Nat) (send : Bool) (f : KSlot → KSlot) : State :=
  let s := (s.invalidated i).2
  let mat := toBytes m
  let s := s.setKslot i (f { s.kslot i with
    state := 1, origin := origin, kid := false, material := mat, staged := none, unsaved := false, lastTag := tagOf s.tick })
  if send then { s with ekeys := s.ekeys.map (fun e => if e.1 % 256 = i then (e.1, mat) else e) } else s

/-! ### The operations (R414) -/

/-- Memory read and written by the KSU, as a management-core access. -/
def State.kRead (s : State) (a n : Nat) : List Nat × State :=
  let r := s.readMem a n 2 0
  (r.1, r.2.2)
def State.kWrite (s : State) (a : Nat) (bs : List Nat) : State := (s.writeMem a bs 2 0).2

/-- DERIVE (R404, R405). -/
def State.kDerive (s : State) (o : KOp) : Nat × State :=
  let k := s.kslot o.slot
  let p := s.kslot k.parent
  let d := if k.fromRoot then 1 else p.depth + 1
  let bad : Option Nat := if k.fromRoot then (if s.ksu.root then none else some KErr.usage) else s.keyFor k.parent 4
  if o.len = 0 then (Err.zeroField, s)
  else if 32 < o.len ∨ !postRange o.addr o.len then (Err.range, s)
  else match bad with
    | some e => (e, s)
    | none =>
      if !k.fromRoot && p.policy &&& k.policy != p.policy then (KErr.policy, s)
      else if 4 < d then (KErr.depth, s)
      else
        let r := s.kRead o.addr o.len
        let s := r.2
        let m := kdfMat (if k.fromRoot then Config.rootSecret else ofBytes p.material) r.1 (s.kctx k) k.type
        let s := s.install o.slot m (if k.fromRoot then 1 else 2) false (fun x => { x with depth := d, kid := !k.fromRoot })
        (0, (s.keyRec 1 o.slot 0).bump pKSU R.KSU_CNT_DERIVE)

/-- STAGE (R407). -/
def State.kStage (s : State) (o : KOp) : Nat × State :=
  let n := (s.kslot o.slot).keyLen
  if !postRange o.addr n then (Err.range, s)
  else
    let r := s.kRead o.addr n
    (0, r.2.setKslot o.slot { r.2.kslot o.slot with staged := some (toBytes r.1, false) })

/-- VERIFY (R407). -/
def State.kVerify (s : State) (o : KOp) : Nat × State :=
  let k := s.kslot o.slot
  match k.staged with
  | none => (KErr.verifyFail, s)
  | some (m, _) =>
    if fit 8 (Config.hmac384 (ofBytes m) [0x4B, 0x43, 0x56]) = fit 8 o.data then
      (0, s.setKslot o.slot { k with staged := some (m, true) })
    else (KErr.verifyFail, s)

/-- COMMIT (R407, R411). -/
def State.kCommit (s : State) (o : KOp) : Nat × State :=
  match (s.kslot o.slot).staged with
  | some (m, true) =>
    let s := (s.install o.slot (ofBytes m) 4 true (fun x => { x with depth := 0 })).genUp o.slot
    (0, (s.keyRec 2 o.slot 0).bump pKSU R.KSU_CNT_COMMIT)
  | _ => (KErr.verifyFail, s)

/-- ABORT_STAGE (R407). -/
def State.kAbortStage (s : State) (o : KOp) : Nat × State :=
  (0, s.setKslot o.slot { s.kslot o.slot with staged := none })

/-- UNWRAP (R410). -/
def State.kUnwrap (s : State) (o : KOp) : Nat × State :=
  let n := (s.kslot o.slot).keyLen
  match s.keyFor o.arg 5 with
  | some e => (e, s)
  | none =>
    if !postRange o.addr (n + 8) then (Err.range, s)
    else
      let r := s.kRead o.addr (n + 8)
      match Config.kwUnwrap (ofBytes (s.kslot o.arg).material) r.1 with
      | none => (KErr.badMsg, r.2)
      | some m =>
        let d := min 15 ((s.kslot o.arg).depth + 1)
        let t := r.2.install o.slot (fit n m) 3 true (fun x => { x with parent := o.arg, fromRoot := false, depth := d, kid := true })
        (0, (t.genUp o.slot).keyRec 2 o.slot 0)

/-- The attribute bytes of a slot as messages and blobs state them (log 90). -/
def KSlot.attrs (k : KSlot) : List Nat := [k.type, k.dest, k.usage, k.policy]

/-- The checks of an update message (R409): the code of the first that fails, or the plain text. -/
def State.msgCheck (s : State) (len : Nat) (b : List Nat) : Nat ⊕ List Nat :=
  let u (o n : Nat) : Nat := ofLE ((b.drop o).take n)
  let x (o n : Nat) : List Nat := (b.drop o).take n
  let kind := u 6 2
  let slot := u 64 4
  let k := s.kslot slot
  let z := Config.ecdh (pairKey 1) (x 72 96)
  let key := kdf z [0x53, 0x44, 0x4E, 0x2D, 0x4B, 0x45, 0x59, 0x4D, 0x53, 0x47] (x 8 8 ++ x 64 4) 256
  if len ≠ 424 ∨ u 0 4 ≠ 0x47534D4B ∨ u 4 2 ≠ 1 ∨ (kind ≠ 1 ∧ kind ≠ 2) then .inl KErr.badMsg
  else if x 16 48 ≠ deviceId then .inl KErr.badMsg
  else if u 8 8 ≤ s.updCounter then .inl KErr.replay
  else if s.ksu.owners.getLast? ≠ some (fit 48 (Config.sha384 (x 232 96))) ∨ (kind = 2 ∧ 4 ≤ s.ksu.owners.length) then
    .inl KErr.noOwner
  else if !Config.ecdsaVerify (x 232 96) (Config.sha384 (x 0 328)) (x 328 96) then .inl KErr.badMsg
  else match Config.gcmOpen key (x 8 8 ++ [0, 0, 0, 0]) (x 0 168) (x 168 48) (x 216 16) with
    | none => .inl KErr.badMsg
    | some pt =>
      if 255 < slot ∨ x 68 4 ≠ k.attrs then .inl KErr.badMsg
      else if k.staged.isSome then .inl KErr.slotInUse
      else .inr (fit 48 pt)

/-- MSG (R408, R409). -/
def State.kMsg (s : State) (o : KOp) : Nat × State :=
  let bad (s : State) (c : Nat) : Nat × State :=
    (c, (s.keyRec 4 o.slot c).bump pKSU (if c = KErr.replay then R.KSU_CNT_REPLAY else R.KSU_CNT_MSG_BAD))
  if o.len = 0 then bad s Err.zeroField
  else if !postRange o.addr o.len then bad s Err.range
  else
    let r := s.kRead o.addr 424
    let s := r.2
    match s.msgCheck o.len r.1 with
    | .inl c => bad s c
    | .inr pt =>
      let slot := ofLE ((r.1.drop 64).take 4)
      let s := s.writeMram 0x3FB00 ((r.1.drop 8).take 8)
      let s := s.bump pKSU R.KSU_CNT_MSG_OK
      if ofLE ((r.1.drop 6).take 2) = 1 then
        let n := (s.kslot slot).keyLen
        let t := s.install slot (pt.take n) 5 true (fun x => { x with depth := 0 })
        (0, (t.genUp slot).keyRec 3 slot 0)
      else
        let t := s.updKsu (fun k => { k with owners := k.owners ++ [pt] })
        (0, (t.keyRec 3 slot 0).keyRec 7 slot t.ksu.owners.length)

/-- INVALIDATE (R413): the named slot is left ZEROISED and its own copies are purged too (log 92). -/
def State.kInvalidate (s : State) (o : KOp) : Nat × State :=
  let r := s.invalidated o.slot
  let s := r.2
  let s := s.setKslot o.slot { s.kslot o.slot with
    state := 3, material := [], staged := none, unsaved := false, lastTag := tagOf s.tick }
  (0, (s.purge [o.slot]).keyRec 5 o.slot r.1)

/-- SIGN (R414): the random part of an ECDSA signature is drawn anew. -/
def State.kSign (s : State) (o : KOp) : Nat × State :=
  match s.keyFor o.slot 3 with
  | some e => (e, s)
  | none =>
    if !postRange o.addr 96 then (Err.range, s)
    else
      let sig := fit 96 (Config.ecdsaSign (ofBytes (s.kslot o.slot).material) o.data s.free)
      (0, { s with free := s.free + 1 }.kWrite o.addr sig)

/-- PUBKEY (R414). -/
def State.kPubkey (s : State) (o : KOp) : Nat × State :=
  let k := s.kslot o.slot
  if 2 < o.arg ∨ !postRange o.addr 96 then (Err.range, s)
  else if o.arg = 0 ∧ k.state = 2 then (KErr.orphaned, s)
  else if (o.arg = 0 ∧ (k.state ≠ 1 ∨ k.type ≠ 2)) ∨ (o.arg ≠ 0 ∧ !s.ksu.root) then (KErr.usage, s)
  else
    let d := if o.arg = 0 then ofBytes k.material else pairKey (o.arg - 1)
    (0, s.kWrite o.addr (fit 96 (Config.ecPub d)))

/-- SAVE_BLOB (R411), laid out as log 90 says. -/
def State.kSaveBlob (s : State) (o : KOp) : Nat × State :=
  let k := s.kslot o.slot
  if 64 ≤ o.slot ∨ !postRange o.addr 112 then (Err.range, s)
  else if k.state = 2 then (KErr.orphaned, s)
  else if k.state ≠ 1 then (KErr.usage, s)
  else
    let hd := bytesLE 4 o.slot ++ bytesLE 4 (s.gen o.slot) ++ k.attrs ++ [k.parent, b2n k.fromRoot, k.depth, b2n k.kid]
    let c := Config.gcmSeal (s.storeKey o.slot k (s.gen o.slot)) (List.replicate 12 0) hd (fit 48 (ofBytes k.material))
    let s := s.kWrite o.addr (fit 112 (hd ++ fit 48 c.1 ++ fit 16 c.2))
    (0, s.setKslot o.slot { s.kslot o.slot with unsaved := false })

/-- LOAD_BLOB (R411). -/
def State.kLoadBlob (s : State) (o : KOp) : Nat × State :=
  let k := s.kslot o.slot
  if 64 ≤ o.slot ∨ !postRange o.addr 112 then (Err.range, s)
  else
    let r := s.kRead o.addr 112
    let b := r.1
    let s := r.2
    let gen := ofLE ((b.drop 4).take 4)
    if ofLE (b.take 4) ≠ o.slot ∨ (b.drop 8).take 4 ≠ k.attrs then (KErr.badMsg, s)
    else match Config.gcmOpen (s.storeKey o.slot k gen) (List.replicate 12 0) (b.take 16) ((b.drop 16).take 48) ((b.drop 64).take 16) with
      | none => (KErr.badMsg, s)
      | some m =>
        if gen ≠ s.gen o.slot then (KErr.gen, s)
        else
          let at_ (n : Nat) : Nat := (b[n]?).getD 0
          let t := s.install o.slot (fit k.keyLen m) 6 true
            (fun x => { x with parent := at_ 12, fromRoot := at_ 13 == 1, depth := at_ 14, kid := at_ 15 == 1 })
          (0, t.keyRec 8 o.slot 0)

/-- EXTEND (R400). -/
def State.kExtend (s : State) (o : KOp) : Nat × State :=
  if 7 < o.arg then (Err.range, s)
  else if s.ksu.mrLock.testBit o.arg then (KErr.policy, s)
  else (0, s.updKsu (fun k => { k with
    mrs := k.mrs.set o.arg (fit 48 (Config.sha384 ((k.mrs[o.arg]?).getD [] ++ fit 48 o.data))) }))

/-- LOCK_MR (R400). -/
def State.kLockMr (s : State) (o : KOp) : Nat × State :=
  if 7 < o.arg then (Err.range, s) else (0, s.updKsu (fun k => { k with mrLock := k.mrLock ||| 1 <<< o.arg }))

/-- SET_OWNER (R409). -/
def State.kSetOwner (s : State) (o : KOp) : Nat × State :=
  if !s.ksu.owners.isEmpty then (KErr.noOwner, s)
  else if !postRange o.addr 96 then (Err.range, s)
  else
    let r := s.kRead o.addr 96
    let t := r.2.updKsu (fun k => { k with owners := [fit 48 (Config.sha384 r.1)] })
    (0, t.keyRec 7 o.slot 1)

/-- The work of an operation: its CODE and the state after it. -/
def State.kWork (s : State) (o : KOp) : Nat × State :=
  match o.op with
  | 1 => s.kDerive o
  | 2 => s.kStage o
  | 3 => s.kVerify o
  | 4 => s.kCommit o
  | 5 => s.kAbortStage o
  | 6 => s.kUnwrap o
  | 7 => s.kMsg o
  | 8 => s.kInvalidate o
  | 9 => s.kSign o
  | 10 => s.kPubkey o
  | 11 => s.kSaveBlob o
  | 12 => s.kLoadBlob o
  | 13 => s.kExtend o
  | 14 => s.kLockMr o
  | 15 => (0, s.updKsu (fun k => { k with running := true }))
  | _ => s.kSetOwner o

/-! ### Commands -/

/-- The KSU_DATA words as bytes. -/
def State.ksuData (s : State) : List Nat :=
  (List.range 12).flatMap (fun i => bytesLE 4 (s.rg pKSU (R.KSU_DATA + 4 * i)).toNat)

/-- The end of every operation: BUSY clears and KSU_DATA is cleared. -/
def State.ksuIdle (s : State) : State :=
  let s := (s.updKsu (fun k => { k with op := none })).updHd pKSU (fun h => { h with busy := false })
  (List.range 12).foldl (fun s i => s.setRg pKSU (R.KSU_DATA + 4 * i) 0) s

/-- KSU_CMD (R406, R414, R417): refused at once, or the operation starts. -/
def State.ksuCmd (s : State) (op slot arg : Nat) : State :=
  let no (c : Nat) : State := s.refuse pKSU R.KSU_CMD c
  let auth := s.ident.keyUpdateMode == 1
  if op = 0 then s
  else if 16 < op then no Err.range
  else if (op = 8 ∨ op = 16) ∧ !(s.hd pKSU).unlocked then no Err.locked
  else if (s.hd pKSU).busy || (sget {} pKSU s.wins).busy then no KErr.opBusy
  else if (auth ∧ 2 ≤ op ∧ op ≤ 5) ∨ (!auth ∧ (op = 7 ∨ op = 16)) then no KErr.mode
  else if s.ksu.lockedOut then no KErr.lockedOut
  else if s.ksu.hold then no KErr.tamperHold
  else
    let o : KOp :=
      { op := op, slot := slot % 256, arg := arg % 256, addr := s.rg64 pKSU R.KSU_ADDR, len := (s.rg pKSU R.KSU_LEN).toNat,
        data := s.ksuData, before := s.kslot (slot % 256) }
    (s.updKsu (fun k => { k with op := some o })).updHd pKSU (fun h => { h with busy := true })

/-- The operation completes: KSU_RESULT, CNT_OPS, IRQ_STATUS.OP_DONE. -/
def State.ksuEnd (s : State) (o : KOp) (c : Nat) : State :=
  let s := s.setRg pKSU R.KSU_RESULT (w32 (o.op * 2 ^ 16 + c))
  ((s.ksuIdle).bump pKSU R.KSU_CNT_OPS).irq pKSU 4

/-- OP_DONE: the operation's work is done; it completes once its record, if it has one, has entered the queue (R342). -/
def State.ksuDone (s : State) : State :=
  match s.ksu.op with
  | none => s
  | some o =>
    match o.code with
    | some c => if s.deckWaits pKSU then s else s.ksuEnd o c
    | none =>
      let r := s.kWork o
      if r.2.deckWaits pKSU then r.2.updKsu (fun k => { k with op := some { o with code := some r.1 } })
      else r.2.ksuEnd o r.1

/-- A tamper response aborts the operation (R417): its result is discarded; the target slot as it was, or zeroised with its
staging. -/
def State.ksuAbort (s : State) (hard : Bool) : State :=
  match s.ksu.op with
  | none => s
  | some o =>
    let s := s.setKslot o.slot (if hard then { o.before with
      state := 3, material := [], staged := none, unsaved := false, lastTag := tagOf s.tick } else o.before)
    (s.ksuIdle).bump pKSU R.KSU_CNT_ABORTED

/-! ### Reads and the slot table (R402, R403, R422) -/

/-- Read-only registers of the KSU page. -/
def State.ksuRo (s : State) (off : Nat) : Option Word :=
  let k := s.ksu
  if off = R.KSU_STATUS then
    some (w32 (b2n k.rootOk + 2 * b2n k.rootFail + 4 * b2n k.running + 16 * b2n k.kasNew + 32 * b2n k.lockedOut + 64 * b2n k.hold +
      128 * b2n (s.ident.keyUpdateMode == 1) + 256 * k.owners.length))
  else if off = R.KSU_PUF_ERR then some (w32 k.pufErr)
  else if off = R.KSU_COUNTER then some (w32 s.updCounter)
  else if off = R.KSU_COUNTER + 4 then some (w32 (s.updCounter / 2 ^ 32))
  else if R.KSU_ID ≤ off ∧ off < R.KSU_ID + 48 then
    some (if k.rootOk then w32 (ofLE ((deviceId.drop (off - R.KSU_ID)).take 4)) else 0)
  else none

/-- A word of the KSU tables: slots, measurement registers. -/
def State.ksuTblWord (s : State) (a : Nat) : Option Word :=
  if 0x00FD0000 ≤ a ∧ a < 0x00FD2000 then
    let i := (a - 0x00FD0000) / 32
    let k := s.kslot i
    some (match (a - 0x00FD0000) % 32 / 4 with
      | 0 => w32 (k.state * 2 ^ 29 + b2n k.staged.isSome * 2 ^ 28 + k.origin * 2 ^ 25 + b2n k.unsaved * 2 ^ 24 + k.parent * 2 ^ 16 +
          b2n k.fromRoot * 2 ^ 15 + k.type * 2 ^ 12 + k.dest)
      | 1 => w32 (k.depth * 2 ^ 16 + k.usage * 2 ^ 8 + k.policy)
      | 2 => w32 (s.gen i)
      | 3 => w32 k.kcv
      | 4 => w32 (k.kcv / 2 ^ 32)
      | 5 => k.lastTag
      | _ => 0)
  else if 0x00FD2000 ≤ a ∧ a < 0x00FD2180 then
    let o := a - 0x00FD2000
    some (w32 (ofLE ((((s.ksu.mrs[o / 48]?).getD []).drop (o % 48)).take 4)))
  else none

/-- A write of a slot entry (R402, R403): its refusal. -/
def State.slotCheck (s : State) (i : Nat) (ws : List Word) : Option Nat :=
  let w (j : Nat) : Word := (ws[j]?).getD 0
  let typ := fld (w 0) 12 2
  let dest := fld (w 0) 0 6
  let usage := fld (w 1) 8 6
  if i = 255 then some Err.range
  else if (s.kslot i).state = 1 then some KErr.slotInUse
  else if typ = 3 then some Err.range
  else if typ = 2 ∧ (usage.testBit 4 ∨ usage.testBit 5) then some Err.range
  else if typ ≠ 2 ∧ (usage.testBit 3 ∨ dest.testBit 4) then some Err.range
  else none

/-- The slot entry takes its attributes. -/
def State.slotWritten (s : State) (i : Nat) (ws : List Word) : State :=
  let w (j : Nat) : Word := (ws[j]?).getD 0
  s.setKslot i { s.kslot i with
    parent := fld (w 0) 16 8, fromRoot := bit (w 0) 15, type := fld (w 0) 12 2, dest := fld (w 0) 0 6,
    usage := fld (w 1) 8 6, policy := fld (w 1) 0 8, lastTag := tagOf s.tick }

/-! ### The command rows -/

/-- A KSU_CMD write of an OP. -/
def ksuOp (op slot arg : Nat) (s : State) : Host.Outcome State Fault Refusal :=
  actReg State.onMain pKSU (fun s => s.ksuCmd op slot arg) s

/-- DERIVE (R404). -/
def execDerive (slot : Nat) (s : State) : Host.Outcome State Fault Refusal := ksuOp 1 slot 0 s
/-- STAGE (R407). -/
def execStage (slot : Nat) (s : State) : Host.Outcome State Fault Refusal := ksuOp 2 slot 0 s
/-- VERIFY (R407). -/
def execVerify (slot : Nat) (s : State) : Host.Outcome State Fault Refusal := ksuOp 3 slot 0 s
/-- KSU_COMMIT (R407). -/
def execKsuCommit (slot : Nat) (s : State) : Host.Outcome State Fault Refusal := ksuOp 4 slot 0 s
/-- ABORT_STAGE (R407). -/
def execAbortStage (slot : Nat) (s : State) : Host.Outcome State Fault Refusal := ksuOp 5 slot 0 s
/-- UNWRAP (R410) with the key of slot `parent`. -/
def execUnwrap (slot parent : Nat) (s : State) : Host.Outcome State Fault Refusal := ksuOp 6 slot parent s
/-- MSG (R409). -/
def execMsg (slot : Nat) (s : State) : Host.Outcome State Fault Refusal := ksuOp 7 slot 0 s
/-- INVALIDATE (R413): protected. -/
def execInvalidate (slot : Nat) (s : State) : Host.Outcome State Fault Refusal := ksuOp 8 slot 0 s
/-- SIGN (R414). -/
def execSign (slot : Nat) (s : State) : Host.Outcome State Fault Refusal := ksuOp 9 slot 0 s
/-- PUBKEY (R414): `arg` 0 the slot, 1 identity, 2 transport. -/
def execPubkey (slot arg : Nat) (s : State) : Host.Outcome State Fault Refusal := ksuOp 10 slot arg s
/-- SAVE_BLOB (R411). -/
def execSaveBlob (slot : Nat) (s : State) : Host.Outcome State Fault Refusal := ksuOp 11 slot 0 s
/-- LOAD_BLOB (R411). -/
def execLoadBlob (slot : Nat) (s : State) : Host.Outcome State Fault Refusal := ksuOp 12 slot 0 s
/-- EXTEND (R400) of a measurement register. -/
def execExtend (mr : Nat) (s : State) : Host.Outcome State Fault Refusal := ksuOp 13 0 mr s
/-- LOCK_MR (R400). -/
def execLockMr (mr : Nat) (s : State) : Host.Outcome State Fault Refusal := ksuOp 14 0 mr s
/-- RUN (R416). -/
def execRun (s : State) : Host.Outcome State Fault Refusal := ksuOp 15 0 0 s
/-- SET_OWNER (R409): protected. -/
def execSetOwner (s : State) : Host.Outcome State Fault Refusal := ksuOp 16 0 0 s
/-- OP_DONE (R414). -/
def execOpDone (s : State) : Host.Outcome State Fault Refusal := act State.onMain State.ksuDone s

end Sys2Proof.Machine
end

