-- ==== Sys2Proof/Machine/Fail.lean ====
section
/-!
DEFINITION. The failed state of the module (R29, R491).
-/
namespace Sys2Proof.Machine

/-- A unit that is not fenceable fails: SYS_STATUS.FAILED, a flush (R345) and the SYSTEM record of type 0x08 with the failed
unit's page and the cause. Publication and role-bound actions stop with FAILED. -/
def State.fail (s : State) (page cause : Nat) : State :=
  if s.failed then s
  else
    let s := (s.putBit 0 R.SYS_STATUS 1 true).flushStart
    s.deck 0 13 8 (tagBody (tagOf s.tick) ++ bytesLE 2 page ++ bytesLE 1 cause)

end Sys2Proof.Machine
end

