-- ==== Sys2Proof/Machine/Hws.lean ====
section
/-!
DEFINITION. The hardwired trip and interlock path (chapter 12): the two safety channels, inputs, outputs, requests, diagnosis,
configuration.
-/
namespace Sys2Proof.Machine

/-- HWS page of a channel: 0 SCA, 1 SCB. -/
abbrev pHWS (ch : Nat) : Nat := 0x1A0 + ch

def State.updHws (s : State) (f : Hws → Hws) : State := { s with hws := f s.hws }

/-- Words of the active tables (R315). -/
def Hws.iw (h : Hws) (n w : Nat) : Word := (h.cfg[4 * n + w]?).getD 0
def Hws.ow (h : Hws) (n w : Nat) : Word := (h.cfg[64 + 8 * n + w]?).getD 0

/-- Active REQ_WDOG (R307). -/
def State.reqWdog (s : State) : Nat := fld (s.ac (pHWS 0) R.HWS_GEN_CFG) 0 8

/-! ### What a channel finds in a cycle -/

/-- An event of a channel: its counter, IRQ bit, the TRIP record's type and what it names (kind, number). -/
structure HEv where
  cnt : Nat
  irq : Nat
  typ : Nat
  kind : Nat
  idx : Nat
  deriving DecidableEq, Repr

def evDemand (n : Nat) : HEv := { cnt := R.HWS_CNT_DEMAND, irq := 4, typ := 1, kind := 0, idx := n }
def evTrip (n : Nat) : HEv := { cnt := 0, irq := 0, typ := 2, kind := 0, idx := n }
def evDisc (n : Nat) : HEv := { cnt := R.HWS_CNT_DISC_FAULT, irq := 5, typ := 3, kind := 1, idx := n }
def evTp (n side : Nat) : HEv := { cnt := R.HWS_CNT_TP_FAULT, irq := 6, typ := 3, kind := 2 + side, idx := n }
def evEdm (n b : Nat) : HEv := { cnt := R.HWS_CNT_EDM_FAULT, irq := 7, typ := 3, kind := 8 + b, idx := n }
def evOut (n b : Nat) : HEv := { cnt := R.HWS_CNT_OUT_FAULT, irq := 8, typ := 3, kind := 8 + b, idx := n }
def evVfield : HEv := { cnt := R.HWS_CNT_VFIELD_FAULT, irq := 12, typ := 3, kind := 4, idx := 0 }

/-- Bits of HWS_OUTn_DIAG. -/
def fPre : Nat := 1
def fPost : Nat := 2
def fDrop : Nat := 3
def fHs : Nat := 4
def fLs : Nat := 5
def fOvl : Nat := 6

def HOut.has (o : HOut) (b : Nat) : Bool := o.faults.testBit b
def HOut.edmFault (o : HOut) : Bool := o.has fPre || o.has fPost || o.has fDrop
def HOut.swFault (o : HOut) : Bool := o.has fHs || o.has fLs || o.has fOvl
def HOut.set (o : HOut) (b : Nat) : HOut := { o with faults := o.faults ||| 2 ^ b }

/-! ### Inputs (R297 to R299) -/

/-- Test-pulse source of a side: SRC_A names TPA 0 or TPB 1, SRC_B names TPC 2 or TPD 3; none otherwise. -/
def srcOf (w0 : Word) (sideB : Bool) : Option Nat :=
  let c := if sideB then fld w0 22 2 else fld w0 24 2
  if 2 ≤ c then none else some (c + if sideB then 2 else 0)

/-- The check at the sample of source x's pulse: none where it does not apply, else whether it passed (R298). -/
def tpPass (src : Option Nat) (x : Nat) (prev read : Bool) : Option Bool :=
  match src with
  | none => none
  | some y => if y = x then some (!read) else if prev then some read else none

/-- A failure count after a check. -/
def tpCount (n : Nat) (r : Option Bool) : Nat :=
  match r with
  | none => n
  | some true => 0
  | some false => min 3 (n + 1)

/-- A filtered state after a sample (R297): the new level once FILTER samples in a row read it. -/
def filt (flt : Nat) (f : Bool) (n : Nat) (read : Bool) : Bool × Nat :=
  if read = f then (f, 0) else if flt ≤ n + 1 then (read, 0) else (f, n + 1)

/-- One input in one cycle: new state, whether a reset is given on it, events (R297 to R299, R302). -/
def HIn.step (x : HIn) (n c : Nat) (w0 w1 : Word) (vf a b : Bool) : HIn × Bool × Option HEv × List HEv :=
  if !bit w0 31 then ({}, false, none, [])
  else
    let src := c % 40 / 10
    let pulse := c % 10 = 0
    let ra := if pulse then tpPass (srcOf w0 false) src x.pA a else none
    let rb := if pulse then tpPass (srcOf w0 true) src x.pB b else none
    let ka := tpCount ((x.tp[src]?).getD 0) ra
    let kb := tpCount ((x.tp[4 + src]?).getD 0) rb
    let tA := x.tA || (ra = some false && ka = 3)
    let tB := x.tB || (rb = some false && kb = 3)
    let tp := if pulse then (x.tp.set src ka).set (4 + src) kb else x.tp
    let fa := filt (fld w0 0 7) x.fA x.nA a
    let fb := filt (fld w0 0 7) x.fB x.nB b
    let disc := if fa.1 = fb.1 then 0 else min 0xFFF (x.disc + 1)
    let df := x.df || (fa.1 ≠ fb.1 && fld w1 0 12 ≤ disc)
    let open_ := !fa.1 && !fb.1
    let evs := (if tA && !x.tA then [evTp n 0] else []) ++ (if tB && !x.tB then [evTp n 1] else []) ++
      (if df && !x.df then [evDisc n] else [])
    let tA := tA && !open_
    let tB := tB && !open_
    let df := df && !open_
    let closed := fa.1 && fb.1
    let on := closed && !df && !tA && !tB && !vf
    let run := if closed then min 20001 (x.run + 1) else 0
    let stuckNow := bit w0 30 && run = 20001 && !x.stuck
    let armed := if closed then false else (x.armed || (400 ≤ x.run && x.run ≤ 20000 && !x.stuck))
    ({
        fA := fa.1, nA := fa.2, fB := fb.1, nB := fb.2, pA := a, pB := b, tA := tA, tB := tB, tp := tp, disc := disc, df := df,
        both := (x.both || open_) && !on, on := on, run := run, armed := armed && !open_, stuck := (x.stuck || stuckNow) && !open_ },
      bit w0 30 && armed && open_, if x.on && !on then some (evDemand n) else none,
      evs ++ (if stuckNow then [{ cnt := R.HWS_CNT_RESET_STUCK, irq := 0, typ := 0, kind := 0, idx := n }] else []))

/-! ### Outputs (R300 to R304) -/

/-- TRIP_n (R300): demand inputs, GOOSE TRIP and EXPIRED bits, the instance vector, a lost source, VFIELD. -/
def tripOf (w0 : Word) (n onMask : Nat) (g : Nat × Nat) (v : Nat) (lostG lostI vf : Bool) : Bool :=
  (List.range 16).any (fun i => bit w0 i && !onMask.testBit i) ||
    (bit w0 27 && (g.1.testBit n || (bit w0 25 && g.2.testBit n) || (lostG && bit w0 24))) ||
    (bit w0 26 && (v.testBit n || (lostI && bit w0 24))) || vf

/-- A command of an output in cycle c: counted when energised, with its feedback check (R303, R308). -/
def HOut.turn (o : HOut) (c : Nat) (w0 w1 : Word) (want : Bool) : HOut :=
  if want = o.on then o
  else { o with
    on := want, since := c, chk := if bit w0 28 then some (want, c + 4 * fld w1 0 11 + 11) else none,
    wait := o.wait || !want }

/-- The mirror contact's filter over 8 samples (R303). -/
def HOut.sampleMirror (o : HOut) (read : Bool) : HOut :=
  if read = o.mirror then { o with mirN := 0 }
  else if 8 ≤ o.mirN + 1 then { o with mirror := read, mirN := 0 }
  else { o with mirN := o.mirN + 1 }

/-- The pending feedback check in cycle c: passed, failed with its fault, or still open. -/
def HOut.check (o : HOut) (n c : Nat) : HOut × List HEv :=
  match o.chk with
  | none => (o, [])
  | some (post, t) =>
    if post != o.mirror then ({ o with chk := none }, [])
    else if t ≤ c then
      let b := if post then fPost else fDrop
      ({ o.set b with chk := none }, if o.has b then [] else [evEdm n b])
    else (o, [])

/-- One output in one cycle: `trip` is TRIP_n, `reset` a reset on its RESET_IN, `bad` the switches (HS, LS) whose test reads back
wrong, `off` an output no configuration or SAFE_STATE lets energise. -/
def HOut.step (o : HOut) (n c : Nat) (w0 w1 : Word) (read trip reset off : Bool) (bad : Bool × Bool) : HOut × List HEv :=
  let o := o.sampleMirror read
  let evH := (if bad.1 && !o.has fHs then [evOut n fHs] else []) ++ (if bad.2 && !o.has fLs then [evOut n fLs] else [])
  let o := if bad.1 then o.set fHs else o
  let o := if bad.2 then o.set fLs else o
  if off || !bit w0 31 then ({ (o.turn c 0 0 false) with trip := trip && bit w0 31 }, evH)
  else
    let edm := bit w0 28
    let evT := if trip && !o.trip then [evTrip n] else []
    let o := { o with trip := trip }
    let o := if reset && o.mirror then { o with faults := o.faults &&& 0x70 } else o
    let r := if edm then o.check n c else (o, [])
    let o := r.1
    let preBad := edm && !o.mirror
    let newPre (o : HOut) : List HEv := if o.has fPre then [] else [evEdm n fPre]
    let r2 : HOut × Bool × List HEv :=
      if !bit w0 30 then
        -- DE_ENERGISE_TO_TRIP
        if trip then (o, false, [])
        else
          let manual := bit w0 29
          let asked := !manual || (reset && o.wait) || !o.wait
          if o.swFault || o.edmFault || !asked then (o, false, [])
          else if o.on then (o, true, [])
          else if preBad then (o.set fPre, false, newPre o)
          else ({ o with wait := false }, true, [])
      else if o.swFault then (o, false, [])
      else
        let want := trip || (o.on && c < o.since + 4 * fld w1 16 11)
        if want && !o.on && preBad then (o.set fPre, true, newPre o) else (o, want, [])
    (r2.1.turn c w0 w1 r2.2.1, evT ++ evH ++ r.2 ++ r2.2.2)

/-! ### A channel's cycle (R295) -/

/-- VFIELD in one cycle (R305). -/
def HCh.field (x : HCh) (mv : Nat) : HCh × List HEv :=
  let bad := if mv < 18000 || 32000 < mv then min 2 (x.vfBad + 1) else 0
  let good := if 19200 ≤ mv && mv ≤ 30000 then min 400 (x.vfGood + 1) else 0
  let new := !x.vfFault && bad = 2
  ({ x with vfield := mv, vfBad := bad, vfGood := good, vfFault := if x.vfFault then good != 400 else new },
    if new then [evVfield] else [])

/-- Inputs named by a bit list. -/
def maskOf (l : List Bool) : Nat := (l.zipIdx.map (fun e => b2n e.1 * 2 ^ e.2)).sum

/-- The evaluation of one channel: VFIELD, inputs, TRIP_n, outputs. `bad` tells of an output's switches whether their tests
read back wrong. -/
def HCh.step (x : HCh) (h : Hws) (r : HwsRead) (bad : Nat → Bool × Bool) : HCh × List HEv :=
  let f := x.field r.vfield
  let x := f.1
  let ins := (List.range 16).map (fun n =>
    ((x.ins[n]?).getD {}).step n (h.cyc % 2 ^ 32) (h.iw n 0) (h.iw n 1) x.vfFault (r.sia.testBit n) (r.sib.testBit n))
  let onMask := maskOf (ins.map (fun i => i.1.on))
  let resets := maskOf (ins.map (fun i => i.2.1))
  let g := if h.lostG then (0, 0) else h.vecG
  let v := if h.lostI then 0 else h.vecI
  let outs := (List.range 8).map (fun n =>
    let w0 := h.ow n 0
    ((x.outs[n]?).getD {}).step n h.cyc w0 (h.ow n 1) (r.edm.testBit n) (tripOf w0 n onMask g v h.lostG h.lostI x.vfFault)
      (resets.testBit (fld w0 16 4)) (h.safe || !h.configured) (if h.safe then (false, false) else bad n))
  ({ x with ins := ins.map (fun i => i.1), outs := outs.map (fun o => o.1), unheard := if r.heard then 0 else min 2 (x.unheard + 1) },
    f.2 ++ ins.flatMap (fun i => i.2.2.1.toList ++ i.2.2.2) ++ outs.flatMap (fun o => o.2))

/-- Energisations a step made (CNT_SO_OPSn). -/
def HCh.opsMade (x y : HCh) : List Nat :=
  (List.range 8).filter (fun n => ((y.outs[n]?).getD {}).on && !((x.outs[n]?).getD {}).on)

/-- What the channels exchange and compare (R295, R309): samples, input states, output commands. -/
def HCh.same (x y : HCh) (a b : HwsRead) : Bool :=
  a.sia == b.sia && a.sib == b.sib && a.edm == b.edm && x.ins.map (fun i => (i.fA, i.fB, i.on)) == y.ins.map (fun i => (i.fA, i.fB, i.on)) &&
    x.outs.map (fun o => o.on) == y.outs.map (fun o => o.on)

/-! ### Records (R296, R342) -/

/-- A TRIP record of a channel, stamped from its own clock while TICK_LOST (R296). -/
def State.hwsRec (s : State) (ch typ kind idx : Nat) : State :=
  let h := s.hws
  let r := s.mkRec (pHWS ch) 8 typ (tagBody h.tickTag ++ bytesLE 4 kind ++ bytesLE 4 idx)
  let r := if h.tickLost then { r with own := true, ns := h.tickNs + (h.cyc - h.tickCyc) * 250000 } else r
  s.updEvr (fun e => { e with cross := e.cross ++ [r] })

/-- An event of a channel: counter, interrupt, record. An event both channels find in one cycle is recorded once, by SCA. -/
def State.hwsEv (s : State) (ch : Nat) (rec_ : Bool) (e : HEv) : State :=
  let s := if e.cnt = 0 then s else s.bump (pHWS ch) e.cnt
  let s := if e.irq = 0 then s else s.irq (pHWS ch) e.irq
  if e.typ = 0 || !rec_ then s else s.hwsRec ch e.typ e.kind e.idx

/-- Count and interrupt on both pages. -/
def State.hwsBoth (s : State) (cnt irq : Nat) : State :=
  ((s.bump (pHWS 0) cnt).irq (pHWS 0) irq |>.bump (pHWS 1) cnt).irq (pHWS 1) irq

/-! ### Requests and ticks (R296, R306, R307) -/

/-- Entries of the FIFO of a source hold 64 vectors (R14). -/
def Hws.full (h : Hws) (src : Nat) : Bool := 64 ≤ (h.fifo.filter (fun e => e.1 == src)).length

/-- SAFETY_REQ_VECTOR: the oldest vector on its way enters its crossing; while that is full it is merged into the next one of
its source by OR (R15). -/
def State.reqVectorIn (s : State) : State :=
  match s.hwsIn with
  | [] => s
  | v :: rest =>
    if !s.hws.full v.1 then { s with hwsIn := rest, hws := { s.hws with fifo := s.hws.fifo ++ [v] } }
    else match findI (fun w => w.1 == v.1) rest with
      | some (i, w) => { s with hwsIn := rest.set i (v.1, v.2.1 ||| w.2.1, v.2.2 ||| w.2.2) }
      | none => s

/-- The newest vector of a source among those in the crossing. -/
def Hws.newest (h : Hws) (src : Nat) : Option (Nat × Nat × Nat) := (h.fifo.filter (fun e => e.1 == src)).getLast?

/-- Latching at the cycle start, with loss of a source after REQ_WDOG cycles without a vector (R306, R307). -/
def State.hwsLatch (s : State) : State :=
  let h := s.hws
  let wd := s.reqWdog
  let g := h.newest 0
  let i := h.newest 1
  let mG := if g.isSome then 0 else min 256 (h.missG + 1)
  let mI := if i.isSome then 0 else min 256 (h.missI + 1)
  let lG := wd != 0 && wd ≤ mG
  let lI := wd != 0 && wd ≤ mI
  let h' := { h with
    fifo := [], vecG := (match g with | some v => v.2 | none => h.vecG), vecI := (match i with | some v => v.2.1 | none => h.vecI),
    missG := mG, missI := mI, lostG := lG, lostI := lI }
  let s := { s with hws := h' }
  let s := if lG && !h.lostG then s.hwsBoth R.HWS_CNT_REQ_LOSS 9 else s
  if lI && !h.lostI then s.hwsBoth R.HWS_CNT_REQ_LOSS 9 else s

/-- Loss of tick starts after 4 cycles without one (R296). -/
def State.hwsTicks (s : State) : State :=
  let h := s.hws
  if h.tickSeen then s.updHws (fun h => { h with tickSeen := false, tickMiss := 0 })
  else
    let n := min 4 (h.tickMiss + 1)
    let s := s.updHws (fun h => { h with tickMiss := n, tickLost := h.tickLost || n = 4 })
    if n = 4 && !h.tickLost then s.hwsBoth R.HWS_CNT_TICK_LOST 10 else s

/-- A tick start at the safety channels (R17, R296). -/
def State.hwsTick (s : State) : State :=
  s.updHws (fun h => { h with
    tickSeen := true, tickLost := false, tickTag := tagOf s.tick, tickNs := tickStartNs s.tick, tickCyc := h.cyc })

/-! ### Configuration (R311, R312) -/

/-- Staged tables: inputs, then outputs. -/
def State.hwsStaged (s : State) : List Word := s.tws 0x00F10000 64 ++ s.tws 0x00F10100 64

/-- CRC-32C over the staged tables and the shadow of HWS_GEN_CFG (R311). -/
def State.hwsCrc (s : State) : Nat :=
  crc32c ((s.hwsStaged ++ [s.rg (pHWS 0) R.HWS_GEN_CFG]).flatMap (fun w => bytesLE 4 w.toNat))

/-- COMMIT checks (R311): offset and code. -/
def State.hwsCheck (s : State) : Option (Nat × Nat) :=
  let t := s.hwsStaged
  let w (i : Nat) : Word := (t[i]?).getD 0
  let ins := (List.range 16).filter (fun n => bit (w (4 * n)) 31)
  let outs := (List.range 8).filter (fun n => bit (w (64 + 8 * n)) 31)
  let flt (n : Nat) : Nat := fld (w (4 * n)) 0 7
  let disc (n : Nat) : Nat := fld (w (4 * n + 1)) 0 12
  let o0 (n : Nat) : Word := w (64 + 8 * n)
  let edm (n : Nat) : Nat := fld (w (65 + 8 * n)) 0 11
  let hold (n : Nat) : Nat := fld (w (65 + 8 * n)) 16 11
  let isReset (i : Nat) : Bool := bit (w (4 * i)) 31 && bit (w (4 * i)) 30
  let crc := (s.rg (pHWS 0) R.HWS_CFG_CRC).toNat
  if (s.wins.any (fun e => e.1 == pHWS 0 && e.2.busy)) then some (R.CTRL, Err.tblBusy)
  else if ins.any (fun n => flt n == 0 || disc n == 0) ||
      outs.any (fun n => (bit (o0 n) 28 && edm n == 0) || (bit (o0 n) 30 && hold n == 0)) then some (R.TBL_DATA, Err.zeroField)
  else if ins.any (fun n => flt n == 1 || 80 < flt n || 4000 < disc n || fld (w (4 * n)) 24 2 == 3 || fld (w (4 * n)) 22 2 == 3) ||
      outs.any (fun n => (bit (o0 n) 28 && (edm n < 20 || 2000 < edm n)) || (bit (o0 n) 30 && (hold n < 20 || 1000 < hold n)) ||
        (List.range 16).any (fun i => bit (o0 n) i && isReset i) || (bit (o0 n) 29 && !isReset (fld (o0 n) 16 4))) then
    some (R.TBL_DATA, Err.range)
  else if fld (s.rg (pHWS 0) R.HWS_GEN_CFG) 0 8 = 1 then some (R.HWS_GEN_CFG, Err.range)
  else if s.rg (pHWS 0) R.HWS_CFG_CONFIRM ≠ ~~~ s.rg (pHWS 0) R.HWS_CFG_CRC ∨ s.hwsCrc ≠ crc then some (R.HWS_CFG_CRC, 0x40)
  else none

/-- An accepted COMMIT takes the staged tables for the next safety-cycle start. -/
def State.hwsCommitted (s : State) : State :=
  let t := s.hwsStaged
  s.updHws (fun h => { h with cand := t, crc := w32 s.hwsCrc })

/-- An output restarts from the de-energised state (R302, R312), with the feedback check of one that was energised (R303). -/
def HOut.restart (o : HOut) (c : Nat) (w0 w1 : Word) : HOut :=
  let o := o.turn c w0 w1 false
  { o with trip := false, wait := true, chk := if bit w0 28 then o.chk else none }

/-- An input or output restarts at activation (R312); `cfg` the words now active. -/
def HCh.activate (x : HCh) (cyc : Nat) (cfg : List Word) (inChg outChg : Nat → Bool) : HCh :=
  let w (i : Nat) : Word := (cfg[i]?).getD 0
  { x with
    ins := x.ins.zipIdx.map (fun e => if inChg e.2 then {} else e.1),
    outs := x.outs.zipIdx.map (fun e => if outChg e.2 then e.1.restart cyc (w (64 + 8 * e.2)) (w (65 + 8 * e.2)) else e.1) }

/-- The pending configuration becomes active in both channels at a cycle start (R311, R312). -/
def State.hwsActivate (s : State) : State :=
  let p := pHWS 0
  if !(s.hd p).commitPending then s
  else
    let h := s.hws
    let ch (i n : Nat) : Bool := !h.configured || (h.cfg.drop i).take n != (h.cand.drop i).take n
    let inChg (n : Nat) : Bool := ch (4 * n) 4
    let outChg (n : Nat) : Bool := ch (64 + 8 * n) 8 ||
      (List.range 16).any (fun i => inChg i && bit ((h.cand[64 + 8 * n]?).getD 0) i)
    let s := [R.HWS_GEN_CFG, R.HWS_CFG_CRC, R.HWS_CFG_CONFIRM].foldl (fun s o => s.setAc p o (s.rg p o)) s
    let s := s.updHd p (fun x => { x with commitPending := false, commitTag := tagOf s.tick })
    let s := s.updHws (fun h => { h with
      cfg := h.cand, cand := [], configured := true, a := h.a.activate h.cyc h.cand inChg outChg,
      b := h.b.activate h.cyc h.cand inChg outChg })
    (s.irq p 1).hwsRec 0 4 0 h.crc.toNat

/-! ### The safety cycle (R295, R309) -/

/-- Every switch of both channels opens and stays open. -/
def State.hwsOff (s : State) : State :=
  s.updHws (fun h =>
    let off (x : HCh) : HCh := { x with outs := x.outs.map (fun o => { o with on := false, chk := none, wait := true }) }
    { h with safe := true, a := off h.a, b := off h.b })

/-- The safety island fails: every switch opens, and the module treats it under R29. -/
def State.hwsSafe (s : State) : State :=
  if s.hws.safe then s else ((s.hwsOff.hwsBoth R.HWS_CNT_SYNC_FAULT 11).hwsRec 0 5 0 0).fail (pHWS 0) 3

/-- One safety cycle with what both channels read; `misaligned`: their starts lie more than 10 µs apart. -/
def State.safetyCycle (s : State) (a b : HwsRead) (misaligned : Bool) : State :=
  let s := s.hwsActivate.hwsLatch.hwsTicks
  let h := s.hws
  let bad (n : Nat) : Bool × Bool := (a.sw.testBit n, b.sw.testBit n)
  let ra := h.a.step h a bad
  let rb := h.b.step h b bad
  let same := ra.1.same rb.1 a b
  let diff := if same then 0 else min 4 (h.diff + 1)
  let s := s.updHws (fun h => { h with cyc := h.cyc + 1, a := ra.1, b := rb.1, diff := diff })
  let s := ra.2.foldl (fun s e => s.hwsEv 0 true e) s
  let s := rb.2.foldl (fun s e => s.hwsEv 1 (!ra.2.contains e) e) s
  let s := (h.a.opsMade ra.1).foldl (fun s n => s.bump (pHWS 0) (R.HWS_CNT_SO_OPS + 8 * n)) s
  let s := (h.b.opsMade rb.1).foldl (fun s n => s.bump (pHWS 1) (R.HWS_CNT_SO_OPS + 8 * n)) s
  if diff = 4 || misaligned || ra.1.unheard = 2 || rb.1.unheard = 2 then s.hwsSafe else s

/-- Load current flows through an output: both switches are closed (R294). -/
def State.soOn (s : State) (n : Nat) : Bool := ((s.hws.a.outs[n]?).getD {}).on && ((s.hws.b.outs[n]?).getD {}).on

/-- A change of one output in both channels. -/
def State.updSo (s : State) (n : Nat) (f : HOut → HOut) : State :=
  let g (x : HCh) : HCh := { x with outs := x.outs.zipIdx.map (fun e => if e.2 = n then f e.1 else e.1) }
  s.updHws (fun h => { h with a := g h.a, b := g h.b })

/-- OUTPUT_OVERLOAD: both switches open and OVERLOAD latches (R304). -/
def State.overload (s : State) (n : Nat) : State :=
  if !s.soOn n then s
  else
    let h := s.hws
    let s := s.updSo n (fun o => (o.set fOvl).turn h.cyc (h.ow n 0) (h.ow n 1) false)
    (s.hwsEv 0 true (evOut n fOvl)).hwsEv 1 false (evOut n fOvl)

/-- HWS_CMD.FAULT_ACK of the outputs in `out`: feedback faults while the mirror contact reads closed, and OVERLOAD (R303, R304). -/
def State.faultAck (s : State) (out : Nat) : State :=
  iter 8 (fun n s =>
    if out.testBit n then
      s.updSo n (fun o => { o with faults := o.faults &&& (if o.mirror then 0x30 else 0x3E) })
    else s) s

/-- HWS_CMD write (protected, R48). -/
def State.hwsCmd (s : State) (v : Word) : State :=
  if !bit v 0 then s
  else if (s.hd (pHWS 0)).unlocked then s.faultAck (fld v 8 8) else s.refuse (pHWS 0) R.HWS_CMD Err.locked

/-! ### Reads (R315) -/

/-- Read-only registers of the HWS pages. -/
def State.hwsRo (s : State) (ch off : Nat) : Option Word :=
  let h := s.hws
  let x := if ch = 0 then h.a else h.b
  let i (n : Nat) : HIn := (x.ins[n]?).getD {}
  let o (n : Nat) : HOut := (x.outs[n]?).getD {}
  let bits (n : Nat) (f : Nat → Bool) : Nat := maskOf ((List.range n).map f)
  if off = R.HWS_STATUS then
    some (w32 (b2n h.configured + b2n h.safe * 2 + b2n x.vfFault * 4 + b2n h.tickLost * 8 + b2n h.lostG * 16 + b2n h.lostI * 32 +
      b2n h.selftest * 64))
  else if off = R.HWS_IN_STATE then some (w32 (bits 16 (fun n => (i n).on) + bits 16 (fun n => (i n).df || (i n).tA || (i n).tB) * 2 ^ 16))
  else if off = R.HWS_IN_FILT then some (w32 (bits 16 (fun n => (i n).fA) + bits 16 (fun n => (i n).fB) * 2 ^ 16))
  else if off = R.HWS_OUT_STATE then
    some (w32 (bits 8 (fun n => (o n).on) + bits 8 (fun n => (o n).trip) * 2 ^ 8 + bits 8 (fun n => (o n).faults != 0) * 2 ^ 16 +
      bits 8 (fun n => bit (h.ow n 0) 31 && bit (h.ow n 0) 29 && !bit (h.ow n 0) 30 && (o n).wait) * 2 ^ 24))
  else if off = R.HWS_REQ then
    let g := if h.lostG then (0, 0) else h.vecG
    let v := if h.lostI then 0 else h.vecI
    some (w32 (g.1 % 256 + g.2 % 256 * 2 ^ 8 + v % 256 * 2 ^ 16))
  else if off = R.HWS_CFG_ACTIVE then some (if h.configured then s.ac (pHWS 0) R.HWS_CFG_CRC else 0)
  else if off = R.HWS_VFIELD then some (w32 (min 0xFFFF x.vfield))
  else if off = R.HWS_CYCLE then some (w32 (h.cyc - 1))
  else if off = R.HWS_LAST_TICK then some h.tickTag
  else if R.HWS_IN_DIAG ≤ off ∧ off < R.HWS_IN_DIAG + 64 then
    let y := i ((off - R.HWS_IN_DIAG) / 4)
    some (w32 (b2n y.on + b2n y.df * 2 + b2n y.tA * 4 + b2n y.tB * 8 + b2n y.both * 16 + y.disc * 2 ^ 16))
  else if R.HWS_OUT_DIAG ≤ off ∧ off < R.HWS_OUT_DIAG + 32 then
    let y := o ((off - R.HWS_OUT_DIAG) / 4)
    some (w32 (b2n y.on + y.faults + b2n y.mirror * 2 ^ 8))
  else none

/-- Words of the active copies. -/
def State.hwsTblWord (s : State) (a : Nat) : Option Word :=
  let k := a - 0x00F10000
  if (0x400 ≤ k ∧ k < 0x600) ∨ (0x800 ≤ k ∧ k < 0xA00) then
    let r := k % 0x400
    some ((s.hws.cfg[r / 4]?).getD 0)
  else none

/-! ### The commands -/

/-- SAFETY_CYCLE (R295). -/
def execSafetyCycle (a b : HwsRead) (misaligned : Bool) (s : State) : Host.Outcome State Fault Refusal :=
  act State.onTime (fun s => s.safetyCycle a b misaligned) s

/-- SAFETY_REQ_VECTOR (R306). -/
def execSafetyReqVector (s : State) : Host.Outcome State Fault Refusal := act State.onTime State.reqVectorIn s

/-- OUTPUT_OVERLOAD (R304) of output `n`. -/
def execOutputOverload (n : Nat) (s : State) : Host.Outcome State Fault Refusal :=
  act State.onTime (fun s => if n < 8 then s.overload n else s) s

/-- FAULT_ACK (R303) for the outputs in `out`. -/
def execFaultAck (out : Nat) (s : State) : Host.Outcome State Fault Refusal :=
  actReg State.onTime (pHWS 0) (fun s => s.hwsCmd (w32 (1 + out % 256 * 2 ^ 8))) s

/-- SAFETY_SELFTEST_DONE (R310). -/
def execSafetySelftestDone (s : State) : Host.Outcome State Fault Refusal :=
  act State.onTime (fun s => s.updHws (fun h => { h with selftest := true })) s

end Sys2Proof.Machine
end

