-- ==== Sys2Proof/Machine/Sys.lean ====
section
/-!
DEFINITION. Module identity, capacities, fencing and the failed state as SYS holds them (R24 to R29, R59).
-/
namespace Sys2Proof.Machine

/-! ### Identity and capacity (R59) -/

/-- Units of a block, from page `base`, that are neither fenced nor beyond the ordering code. -/
def State.usable (s : State) (base n : Nat) : Nat := ((List.range n).filter (fun i => !s.unusable (base + i))).length

/-- Usable DRAM groups of 1 GiB (R24). -/
def State.dramGroups (s : State) : Nat := 32 - ones 32 s.memFenced

/-- The twelve SYS_CAP_* registers in the order of R59. -/
def State.caps (s : State) : List Nat :=
  let flt := s.usable (pFLT 0) 64
  let tal := s.usable (pTAL 0) 8
  [s.usable (pCYC 0) 16, if s.half then 31 else 63,
   (List.range 10).foldl (fun a p => a + b2n (!s.unusable (pMAC p)) * 2 ^ p) 0,
   s.capStreams, s.capChannels, flt, 128 * flt, tal, 32 * tal, 16 * tal, s.usable (pSKD 0) 16, s.dramGroups]

/-- SYS_STATUS: FAILED, and FORCED while a force is active (R202). -/
def State.sysStatus (s : State) : Nat := b2n s.failed * 2 + b2n (!s.cyc.forces.isEmpty)

/-- SYS_ID. -/
def State.sysId (s : State) : Nat :=
  0x42420000 + (match s.ident.code with | .e => 1 | .eo => 2 | .yv32 => 3) * 256 + b2n s.ident.coated * 128

/-- Read-only registers of the SYS page. -/
def State.sysRo (s : State) (off : Nat) : Option Word :=
  if off = R.SYS_ID then some (w32 s.sysId)
  else if off = R.SYS_STATUS then some (w32 s.sysStatus)
  else if R.SYS_CAP_RT_PAIRS ≤ off ∧ off ≤ R.SYS_CAP_DRAM_GIB then (s.caps[(off - R.SYS_CAP_RT_PAIRS) / 4]?).map w32
  else none

/-! ### Fencing (R24 to R27) -/

/-- Pages of units of which the module has several, fenced one by one (R24); DRAM groups have no page of their own. -/
def fenceable (p : Nat) : Bool :=
  match pageBlock p with
  | some (.mac, _) | some (.flt, _) | some (.cyc, _) | some (.skd, _) | some (.tal, _) => true
  | _ => false

/-- What happens to the work a unit held (R27). -/
def State.fenceWork (s : State) (p : Nat) : State :=
  match pageBlock p with
  | some (.mac, i) => s.linkLost i
  | some (.flt, i) => s.fltStopAll i
  | some (.tal, i) => s.talFenced i
  | some (.skd, i) => s.skdFenced i
  | some (.cyc, i) =>
    (s.usedInsts.filter (fun n => iPair (s.iw n 0) == i && ((s.inst n).state != 0 || (s.inst n).startNs.isSome))).foldl
      (fun s n => s.instFault n false) s
  | _ => s

/-- The SYSTEM record of a fence: page of the unit, cause (1 self-test at start, 2 fault criterion at run time), DRAM group. -/
def State.fenceRec (s : State) (page cause group : Nat) : State :=
  s.deck 0 13 1 (tagBody (tagOf s.tick) ++ bytesLE 2 page ++ bytesLE 1 cause ++ bytesLE 1 group)

/-- A unit is fenced: STATUS.FENCED with its interrupt, DEGRADED on SYS, the capacity it had (which the registers compute from the
fences), its work, and only then the record (R25, R27). -/
def State.fence (s : State) (p cause : Nat) : State :=
  if !fenceable p || s.unusable p then s
  else
    let s := (s.updHd p (fun h => { h with fenced := true })).irq p 3
    let s := s.updHd 0 (fun h => { h with degraded := true })
    let s := s.fenceWork p
    let s := { s with dup := { s.dup with healthyClk := s.tsu.clk } }
    s.flushStart.fenceRec p cause 0

/-- A DRAM group fails its self-test at power-on: the only time one is fenced (R24, R382). -/
def State.fenceDram (s : State) (g : Nat) : State :=
  if 31 < g || s.memFenced.testBit g then s
  else
    let s := { s with memFenced := s.memFenced ||| 2 ^ g }
    let s := (s.updHd pMEM (fun h => { h with degraded := true })).irq pMEM 3
    (s.updHd 0 (fun h => { h with degraded := true })).fenceRec pMEM 1 g

/-- A unit that exists once fails (R29): the module fails; a failing safety island opens its switches too. -/
def State.unitFail (s : State) (p cause : Nat) : State :=
  if fenceable p then s else if headPage p = pHWS 0 then s.hwsSafe else s.fail p cause

/-! ### The commands -/

/-- UNIT_FENCE (R25): the unit of page `p` meets its fault criterion at run time. -/
def execUnitFence (p : Nat) (s : State) : Host.Outcome State Fault Refusal := act State.onMain (fun s => s.fence p 2) s

/-- MODULE_FAIL (R29): the unit of page `p` that is not fenceable fails, with the cause of R491. -/
def execModuleFail (p cause : Nat) (s : State) : Host.Outcome State Fault Refusal :=
  act State.onMain (fun s => s.unitFail p cause) s

end Sys2Proof.Machine
end

