-- ==== Sys2Proof/Machine/Shelf.lean ====
section
/-!
DEFINITION. The shelf (chapter 19): roles, announcements, the slot table, managers and their takeover.
-/
namespace Sys2Proof.Machine

/-- SHF and HLT pages. -/
abbrev pSHF : Nat := 0x1E0
abbrev pHLT : Nat := 0x1F0

def State.updShf (s : State) (f : Shf → Shf) : State := { s with shf := f s.shf }

/-- A slot-table entry. -/
def State.slot (s : State) (n : Nat) : Slot := sget {} n s.shf.slots
def State.setSlot (s : State) (n : Nat) (x : Slot) : State := s.updShf (fun h => { h with slots := sset {} n x h.slots })

/-- SLOT_ID and SHELF_ID. -/
def State.ownSlot (s : State) : Nat := s.ident.slotPins % 64
def State.ownShelf (s : State) : Nat := s.ident.shelfPins % 64

/-- Clocks of LOSS_COUNT announcement periods of 100 ms. -/
def State.lossClk (s : State) : Nat := msClk (100 * fld (s.ac pSHF R.SHF_CFG) 0 4)

/-- Managers whose last ANNOUNCE is not older than LOSS_COUNT periods. -/
def State.mgrsAlive (s : State) : List Nat := (s.shf.mgrs.filter (fun m => s.since m.2 < s.lossClk)).map Prod.fst

/-- This module serves the window: a manager that is not standing by (R449). -/
def State.serves (s : State) : Bool := s.shf.mgr && !s.shf.standby

/-- The serving manager: the lowest slot of those heard and this module, if it serves. -/
def State.mgrSlot (s : State) : Option Nat :=
  ((if s.serves then [s.ownSlot] else []) ++ s.mgrsAlive).foldl (fun a n => match a with | none => some n | some m => some (min m n)) none

/-- Another module has announced this slot within the last second (R448; log 113). -/
def State.slotClash (s : State) : Bool := match s.shf.conflict with | some c => s.since c < msClk 1000 | none => false

/-! ### Frames (R447) -/

/-- Bytes of a window frame: 18 of addressing and FCS, 8 of shelf, slots, kind and sequence number, the content. -/
def winBytes (k : WinKind) : Nat :=
  26 + (match k with
    | .announce _ => 120
    | .req _ ops => 8 * ops.length
    | .resp _ ds => 4 * ds.length
    | .intr _ => 2)

/-- A window frame leaves on P9 in queue 3, while the Crosscut runs and holds it. -/
def State.winSend (s : State) (dst : Nat) (k : WinKind) : State :=
  let f : Frame :=
    {
      da := 0x01154E000200 + s.ownShelf, sa := s.ownAddr 9, et := 0x88B7, size := max 64 (winBytes k),
      body := .window { shelf := s.ownShelf, src := s.ownSlot, dst := dst, kind := k } }
  if !s.running pSWC || s.lndFree < cellsOf f.size then s
  else s.enqueue f { ports := [9], queue := 3, lane := 0, rsel := 0, vid := 1, pcp := 0 }
    { id := 0, frame := f, cells := 0, stamp := s.short, ing := 12, rsel := 0 } none

/-- HLT_EOL_DAYS and HLT_EOL_INFO as the last sample left them. -/
def State.eol (s : State) : Nat × Nat := ((s.rg pHLT R.HLT_EOL_DAYS).toNat, (s.rg pHLT R.HLT_EOL_INFO).toNat)

/-- The module's own ANNOUNCE. -/
def State.announce (s : State) : Announce :=
  {
    mgr := s.shf.mgr, deviceId := deviceId, sysId := s.sysId, sysStatus := s.sysStatus, caps := s.caps,
    cycles := s.evr.pwrCycles, cause := s.rst.cause, eolDays := s.eol.1, eolInfo := s.eol.2 }

/-! ### The slot table (R448) -/

/-- A change of a slot's state. -/
def State.slotGo (s : State) (n : Nat) (x : Slot) (st : Nat) : State :=
  if x.state = st then s.setSlot n x
  else
    let s := s.setSlot n { x with state := st, lost := if st = 3 then min 0xFFFFFFFF (x.lost + 1) else x.lost }
    let s := if st = 3 then s.bump pSHF R.SHF_CNT_SLOT_LOST else s
    s.irq pSHF 4

/-- The state an ANNOUNCE puts its slot in: PRESENT for revision B in SYS_ID, else REFUSED. -/
def annState (a : Announce) : Nat := if a.sysId / 2 ^ 24 % 256 = 0x42 ∧ a.sysId / 2 ^ 16 % 256 = 0x42 then 1 else 2

/-- A slot is no longer PRESENT: its queued writes are discarded and counted, its host reads complete with all ones (R452 to R454). -/
def State.slotFlush (s : State) (n : Nat) : State :=
  let q : WinQ := sget {} n s.shf.wins
  let ops := q.fly.flatMap (fun f => f.ops) ++ q.queue
  let writes := (ops.filter (fun o => match o.1 with | .write _ _ | .bad _ true => true | _ => false)).length
  let gone := s.shf.reads.filter (fun r => r.slot == n)
  let s := s.updShf (fun h => { h with
    wins := sset {} n { seq := q.seq } h.wins, reads := h.reads.filter (fun r => r.slot != n) })
  let s := s.bumpBy pSHF R.SHF_CNT_WIN_DISCARD writes
  gone.foldl (fun s r =>
    ((s.bump pSHF R.SHF_CNT_RD_TIMEOUT).irq pSHF 5).emit (.hostRead r.tag (r.data.map (fun w => w.getD 0xFFFFFFFF)))) s

/-- The manager takes an ANNOUNCE of a slot: CONFLICT for two DEVICE_IDs within 300 ms, which holds while both are named within
1 s; RESET_SEEN where a LOST slot returns with another power cycle or reset cause. -/
def State.slotAnn (s : State) (n : Nat) (a : Announce) : State :=
  let x := s.slot n
  let ids := (a.deviceId, s.tsu.clk) :: x.ids.filter (fun e => e.1 != a.deviceId && s.since e.2 < msClk 1000)
  let clash := x.ids.any (fun e => e.1 != a.deviceId && s.since e.2 ≤ msClk 300)
  let seen := x.state == 3 && (match x.ann with | some b => b.cycles != a.cycles || b.cause != a.cause | none => false)
  let y : Slot :=
    { x with ann := some a, stamp := s.short, clk := s.tsu.clk, ids := ids, resetSeen := x.resetSeen || seen }
  let st := if x.state = 4 ∨ clash then 4 else annState a
  (if x.state = 1 ∧ st ≠ 1 then s.slotFlush n else s).slotGo n y st

/-- SLOT_CONFLICT_END: no ANNOUNCE has named a second DEVICE_ID for 1 s. -/
def State.conflictEnd (s : State) (n : Nat) : State :=
  let x := s.slot n
  let live := x.ids.filter (fun e => s.since e.2 < msClk 1000)
  if x.state ≠ 4 ∨ 1 < live.length then s
  else match x.ann with
    | some a => s.slotGo n { x with ids := live } (annState a)
    | none => s

/-- A slot becomes LOST (R453, R454). -/
def State.slotLose (s : State) (n : Nat) : State :=
  let s := s.slotFlush n
  s.slotGo n (s.slot n) 3

/-- SLOT_LOST: no ANNOUNCE from a PRESENT slot for LOSS_COUNT periods. -/
def State.slotLost (s : State) (n : Nat) : State :=
  if s.shf.mgr && (s.slot n).state == 1 && s.lossClk ≤ s.since (s.slot n).clk then s.slotLose n else s

/-! ### Announcements (R447, R449) -/

/-- What of SYS an ANNOUNCE carries, whose change sends one at once. -/
def State.annNow (s : State) : List Nat := s.sysStatus :: s.caps

/-- ANNOUNCE_SEND: 100 ms after the last one, or at a change of SYS_STATUS or a SYS_CAP_* register. The manager enters its own
slot in its table. -/
def State.annSend (s : State) : State :=
  let due := match s.shf.annClk with
    | none => true
    | some c => msClk 100 ≤ s.since c || s.annNow != s.shf.annSig
  if !due then s
  else
    let s := s.winSend 64 (.announce s.announce)
    let s := s.updShf (fun h => { h with annClk := some s.tsu.clk, annSig := s.annNow })
    if s.shf.mgr then s.slotAnn s.ownSlot s.announce else s

/-- ANNOUNCE_RX: another module announces itself. -/
def State.annRx (s : State) : State :=
  match s.shf.rx with
  | [] => s
  | m :: rest =>
    match m.kind with
    | .announce a =>
      let n := m.src % 64
      let s := s.updShf (fun h => { h with rx := rest })
      let s := if n = s.ownSlot && a.deviceId != deviceId then
          let t := s.updShf (fun h => { h with conflict := some s.tsu.clk })
          if s.slotClash then t else (t.bump pSHF R.SHF_CNT_SLOT_CONFLICT).irq pSHF 7
        else s
      let s := if a.mgr then
          s.updShf (fun h => { h with
            mgrs := sput n s.tsu.clk h.mgrs, mgrClk := s.tsu.clk, mgrLost := false, standby := h.standby || (h.mgr && decide (n < s.ownSlot)) }) else s
      if s.shf.mgr then s.slotAnn n a else s
    | _ => s

/-- MGR_TAKEOVER: the serving manager has been silent for LOSS_COUNT periods. -/
def State.takeover (s : State) : State :=
  if s.shf.mgr && s.shf.standby && !s.mgrsAlive.any (· < s.ownSlot) then
    (s.updShf (fun h => { h with standby := false })).irq pSHF 6
  else s

/-- MGR_LOST: a worker has heard no manager for LOSS_COUNT periods. -/
def State.mgrLoss (s : State) : State :=
  if !s.shf.mgr && !s.shf.mgrLost && s.lossClk ≤ s.since s.shf.mgrClk then
    (s.updShf (fun h => { h with mgrLost := true })).irq pSHF 8
  else s

/-- SHF_CMD (FORGET protected): a LOST slot to ABSENT, RESET_SEEN cleared. -/
def State.forget (s : State) (n : Nat) : State :=
  if (s.slot n).state = 3 then s.slotGo n { s.slot n with ids := [], ann := none } 0 else s

def State.ackReset (s : State) (n : Nat) : State := s.setSlot n { s.slot n with resetSeen := false }

/-! ### Reads (R459, R460) -/

/-- Read-only registers of the SHF page, and SHF_ROLE_OVR from its keep-alive register. -/
def State.shfRo (s : State) (off : Nat) : Option Word :=
  let present (base : Nat) : Nat := (List.range 32).foldl (fun a i => a + b2n ((s.slot (base + i)).state == 1) * 2 ^ i) 0
  if off = R.SHF_STATUS then
    some (w32 (b2n s.slotClash * 2 ^ 28 + b2n (s.mac 9).linkUp * 2 ^ 27 + b2n s.shf.mgrLost * 2 ^ 26 + b2n s.shf.standby * 2 ^ 25 +
      b2n s.shf.mgr * 2 ^ 24 + s.modNum * 2 ^ 12 + s.ownShelf * 64 + s.ownSlot))
  else if off = R.SHF_ROLE_OVR then some (w32 s.shf.ovr)
  else if off = R.SHF_PRESENT then some (w32 (present 0))
  else if off = R.SHF_PRESENT + 4 then some (w32 (present 32))
  else if off = R.SHF_MGR_SLOT then some (w32 (match s.mgrSlot with | some n => 2 ^ 31 + n | none => 0))
  else if off = R.SHF_PCI_ID then some (w32 (0x06400000 + Config.pciVendor % 65536))
  else none

/-- Words 1 to 12 of an entry: the first 48 bytes of DEVICE_ID. -/
def idWord (id : List Nat) (i : Nat) : Word := w32 (ofLE ((id.drop (4 * i)).take 4))

/-- A word of the slot table at address `a`; on a worker every entry reads 0. -/
def State.shfTblWord (s : State) (a : Nat) : Option Word :=
  if a < 0x00FE0000 ∨ 0x00FE2000 ≤ a then none
  else
    let x := s.slot ((a - 0x00FE0000) / 128)
    let i := (a - 0x00FE0000) % 128 / 4
    let v (f : Announce → Nat) : Word := match x.ann with | some b => w32 (f b) | none => 0
    some (if !s.shf.mgr then 0
      else if i = 0 then w32 (x.state * 2 ^ 29 + b2n x.resetSeen * 2 ^ 28) ||| v (fun b => b2n b.mgr * 2 ^ 27)
      else if i ≤ 12 then (match x.ann with | some b => idWord b.deviceId (i - 1) | none => 0)
      else if i = 13 then v (fun b => b.sysId) else if i = 14 then v (fun b => b.sysStatus)
      else if i ≤ 26 then v (fun b => (b.caps[i - 15]?).getD 0)
      else if i = 27 then v (fun b => b.cycles) else if i = 28 then v (fun b => b.cause % 16) else if i = 29 then v (fun b => b.eolDays)
      else if i = 30 then w32 x.stamp else w32 x.lost)

/-! ### The commands -/

/-- ANNOUNCE_SEND (R447). -/
def execAnnounceSend (s : State) : Host.Outcome State Fault Refusal := act State.onMain State.annSend s

/-- ANNOUNCE_RX (R448) of the oldest window frame received. -/
def execAnnounceRx (s : State) : Host.Outcome State Fault Refusal := act State.onMain State.annRx s

/-- SLOT_LOST (R448) of slot `n`. -/
def execSlotLost (n : Nat) (s : State) : Host.Outcome State Fault Refusal :=
  act State.onMain (fun s => if n < 64 then s.slotLost n else s) s

/-- SLOT_CONFLICT_END (R448) of slot `n`. -/
def execSlotConflictEnd (n : Nat) (s : State) : Host.Outcome State Fault Refusal :=
  act State.onMain (fun s => if n < 64 then s.conflictEnd n else s) s

/-- MGR_TAKEOVER (R449). -/
def execMgrTakeover (s : State) : Host.Outcome State Fault Refusal := act State.onMain State.takeover s

/-- MGR_LOST (R449). -/
def execMgrLost (s : State) : Host.Outcome State Fault Refusal := act State.onMain State.mgrLoss s

/-- FORGET (R448): SHF_CMD.OP 1, protected. -/
def execForget (n : Nat) (s : State) : Host.Outcome State Fault Refusal :=
  actReg State.onMain pSHF (fun s => s.ifUnlocked pSHF R.SHF_CMD (fun s => if n < 64 then s.forget n else s)) s

/-- ACK_RESET (R448): SHF_CMD.OP 2. -/
def execAckReset (n : Nat) (s : State) : Host.Outcome State Fault Refusal :=
  actReg State.onMain pSHF (fun s => if n < 64 then s.ackReset n else s) s

end Sys2Proof.Machine
end

