-- ==== Sys2Proof/Machine/Hlt.lean ====
section
/-!
DEFINITION. Module health (R456 to R462): the monitors, their least-squares lines, the days left and the confidence classes.
-/
namespace Sys2Proof.Machine

def State.updHlt (s : State) (f : Hlt → Hlt) : State := { s with hlt := f s.hlt }

/-- The fit of a monitor. -/
def State.fit (s : State) (i : Nat) : HFit := sget {} i s.hlt.fits
def State.setFit (s : State) (i : Nat) (x : HFit) : State := s.updHlt (fun h => { h with fits := sset {} i x h.fits })

/-- OPTIME units of 100 ms in a day. -/
def dayUnits : Nat := 864000

/-- The line's slope is Cxy / Cxx per unit of OPTIME, from the centred sums n²-scaled. -/
def HFit.cxx (x : HFit) : Int := x.n * x.sxx - x.sx * x.sx
def HFit.cxy (x : HFit) : Int := x.n * x.sxy - x.sx * x.sy
def HFit.cyy (x : HFit) : Int := x.n * x.syy - x.sy * x.sy

/-- A sample joins the line. -/
def HFit.add (x : HFit) (t : Nat) (v limit : Int) (tag : Word) : HFit :=
  let t0 := if x.n = 0 then t else x.t0
  let u : Int := (t : Int) - t0
  { x with
    n := x.n + 1, t0 := t0, tl := t, sx := x.sx + u, sy := x.sy + v, sxx := x.sxx + u * u, sxy := x.sxy + u * v,
    syy := x.syy + v * v, value := v, limit := limit, tag := tag, valid := true }

/-- The confidence class (R458): the standard error of the slope against the slope, squared:
(Cxx·Cyy - Cxy²) / ((n - 2)·Cxy²) against 0.09 and 0.01. -/
def HFit.conf (x : HFit) : Nat :=
  if !x.valid || x.n < 8 || x.tl - x.t0 < 30 * dayUnits then 0
  else
    let e := 100 * (x.cxx * x.cyy - x.cxy * x.cxy)
    let d := ((x.n : Int) - 2) * x.cxy * x.cxy
    if 9 * d < e then 1 else if d ≤ e then 2 else 3

/-- Monitors whose value falls toward its limit: hold-up capacitance and transmit power. -/
def falling (i : Nat) : Bool := 9 ≤ i && i ≤ 15

/-- Days left (R458); `i` is the monitor. -/
def HFit.days (x : HFit) (i : Nat) : Nat :=
  if !x.valid then 0xFFFFFFFF
  else
    let room := if falling i then x.value - x.limit else x.limit - x.value
    let rise := if falling i then -x.cxy else x.cxy
    if room ≤ 0 then 0
    else if rise ≤ 0 ∨ x.cxx ≤ 0 then 0xFFFFFFFF
    else min 0xFFFFFFFF (room * x.cxx / (rise * dayUnits)).toNat

/-- The slope per day in Q16.16 (R462). -/
def HFit.slope (x : HFit) : Int :=
  if x.cxx ≤ 0 then 0 else (satS 32 (roundDiv (x.cxy * dayUnits * 65536) x.cxx.toNat)).1

/-- Least days over monitors 0 to 15 with a class above NONE. -/
def State.worst (s : State) : Option (Nat × Nat × Nat) :=
  (List.range 16).foldl (fun a i =>
    let x := s.fit i
    if x.conf = 0 then a
    else match a with
      | some (d, _, _) => if x.days i < d then some (x.days i, i, x.conf) else a
      | none => some (x.days i, i, x.conf)) none

/-- What follows from changed fits: HLT_EOL_DAYS, HLT_EOL_INFO, HLT_SO_DAYSn and the warnings. -/
def State.hltShow (s : State) : State :=
  let warn := fld (s.ac pHLT R.HLT_CFG) 16 16
  let (days, info) := match s.worst with
    | some (d, i, c) => (d, c * 256 + i)
    | none => (0xFFFFFFFF, 0)
  let s := (s.setRg pHLT R.HLT_EOL_DAYS (w32 days)).setRg pHLT R.HLT_EOL_INFO (w32 info)
  let s := if days < warn && !s.hlt.warned then (s.bump pHLT R.HLT_CNT_EOL_WARN).irq pHLT 4 else s
  let s := s.updHlt (fun h => { h with warned := decide (days < warn) })
  iter 8 (fun n s =>
    let x := s.fit (16 + n)
    let d := x.days (16 + n)
    let s := s.setRg pHLT (R.HLT_SO_DAYS + 4 * n) (w32 d)
    let s := if d < warn && !x.warned then s.irq pHLT 5 else s
    s.setFit (16 + n) { x with warned := decide (d < warn) }) s

/-- One sample of a monitor. -/
def State.hltTake (s : State) (i : Nat) (v limit : Int) : State :=
  (s.setFit i ((s.fit i).add s.optime v limit (tagOf s.tick))).bump pHLT R.HLT_CNT_SAMPLES

/-- An SFP's readings (R456): its powers, its alarm, its sample; a new serial number restarts the fit. -/
def State.hltSfp (s : State) (n : Nat) (r : SfpRead) : State :=
  let i := 10 + n
  match r with
  | .absent | .noDiag => s.setFit i { s.fit i with valid := false }
  | .failed => s.bump pHLT R.HLT_CNT_SFP_READ_ERR
  | .ok serial tx rx low alarm =>
    let s := (s.setRg pHLT (R.HLT_SFP_TX + 8 * n) (w32 (min 0xFFFF tx))).setRg pHLT (R.HLT_SFP_RX + 8 * n) (w32 (min 0xFFFF rx))
    let s := if alarm then s.irq pHLT 6 else s
    let s := if (s.fit i).serial = some serial then s else s.setFit i { serial := some serial }
    s.hltTake i tx low

/-- HLT_SAMPLE: once in each hour of OPTIME; `ro` the slowdown of the eight sensors in ppm, `sfp` the readings of P0 to P5. -/
def State.hltSample (s : State) (ro : List Nat) (sfp : List SfpRead) : State :=
  let hour := s.optime / 36000
  if hour ≤ s.hlt.hour then s
  else
    let s := s.updHlt (fun h => { h with hour := hour })
    let s := iter 8 (fun i s =>
      let v := (ro[i]?).getD 0
      (s.setRg pHLT (R.HLT_RO + 4 * i) (w32 v)).hltTake i v 30000) s
    let s := s.hltTake 8 (s.rg pMEM R.MEM_FL_WEAR).toNat 10000
    let s := iter 6 (fun n s => s.hltSfp n ((sfp[n]?).getD .absent)) s
    let s := iter 8 (fun n s =>
      let rated := (s.ac pHLT (R.HLT_SO_RATED + 4 * n)).toNat
      if rated = 0 then s.setFit (16 + n) { s.fit (16 + n) with valid := false }
      else s.hltTake (16 + n) ((s.cn (pHWS 0) (R.HWS_CNT_SO_OPS + 8 * n) : Int) - (s.rg pHLT (R.HLT_SO_BASE + 4 * n)).toNat) rated) s
    s.hltShow

/-- The hold-up capacitance of a start (R456, monitor 9). -/
def State.hltHoldup (s : State) : State := (s.hltTake 9 s.pwr.cap 900).hltShow

/-- HLT_CMD RESTART: the fit begins anew with the next sample (R457). -/
def State.hltRestart (s : State) (i : Nat) : State :=
  if 23 < i then s.refuse pHLT R.HLT_CMD Err.range
  else (s.setFit i { serial := (s.fit i).serial }).hltShow

/-- HLT_CMD SO_REPLACED: monitors 16 to 23 only. -/
def State.soReplaced (s : State) (i : Nat) : State :=
  if i < 16 ∨ 23 < i then s.refuse pHLT R.HLT_CMD Err.range
  else
    let s := s.setRg pHLT (R.HLT_SO_BASE + 4 * (i - 16)) (w32 (s.cn (pHWS 0) (R.HWS_CNT_SO_OPS + 8 * (i - 16))))
    (s.setFit i {}).hltShow

/-- A word of the monitor table (R462) at address `a`. -/
def State.hltTblWord (s : State) (a : Nat) : Option Word :=
  if a < 0x00FF0000 ∨ 0x00FF0600 ≤ a then none
  else
    let i := (a - 0x00FF0000) / 64
    let x := s.fit i
    let j := (a - 0x00FF0000) % 64 / 4
    some (if j = 0 then w32 (b2n x.valid * 2 ^ 31 + x.conf * 256)
      else if j = 1 then wS x.value else if j = 2 then wS x.limit else if j = 3 then w32 (min 0xFFFFFFFF x.n)
      else if j = 4 then w32 ((x.tl - x.t0) / dayUnits) else if j = 5 then wS x.slope
      else if j = 6 then w32 (x.days i) else if j = 7 then x.tag else 0)

/-! ### The commands -/

/-- HLT_SAMPLE (R456). -/
def execHltSample (ro : List Nat) (sfp : List SfpRead) (s : State) : Host.Outcome State Fault Refusal :=
  act State.onMain (fun s => s.hltSample ro sfp) s

/-- HLT_RESTART (R457): HLT_CMD.OP 1, protected. -/
def execHltRestart (i : Nat) (s : State) : Host.Outcome State Fault Refusal :=
  actReg State.onMain pHLT (fun s => s.ifUnlocked pHLT R.HLT_CMD (fun s => s.hltRestart i)) s

/-- SO_REPLACED (R457): HLT_CMD.OP 2, protected. -/
def execSoReplaced (i : Nat) (s : State) : Host.Outcome State Fault Refusal :=
  actReg State.onMain pHLT (fun s => s.ifUnlocked pHLT R.HLT_CMD (fun s => s.soReplaced i)) s

end Sys2Proof.Machine
end

