-- ==== Sys2Proof/Machine/Tamper.lean ====
section
/-!
DEFINITION. The tamper unit (R415 to R418, R423): detection, responses, the record in MRAM, its deck records.
-/
namespace Sys2Proof.Machine

/-- The TMP page. -/
abbrev pTMP : Nat := 0x011

def State.updTmp (s : State) (f : Tmp → Tmp) : State := { s with tmp := f s.tmp }

/-- Code of the state of R416: 0 START_UP, 1 RUNNING, 2 SLEEP, 3 KEY_OP. A module that runs on its store after a shed is
taken as SLEEP, one held in a warm reset as START_UP (log 93). -/
def State.tmpState (s : State) : Nat :=
  match s.pwr.phase with
  | .run => if !s.ksu.running then 0 else if s.ksu.op.isSome then 3 else 1
  | .reset => 0
  | _ => 2

/-- Whether a source is of class HARD (R415). -/
def State.tmpHard (s : State) (src : Nat) : Bool := bit (s.ac pTMP R.TMP_CFG) src

/-- Whether a source is monitored now (R415): CLOCK not in sleep, none without supply. -/
def State.tmpWatched (s : State) (src : Nat) : Bool :=
  src < 6 && s.onKeep && !(s.pwr.phase == .sleep && src == 5)

/-- An entry of the tamper record (R418, R423), overwriting the oldest. -/
def State.tmpEntry (s : State) (src : Nat) (clear : Bool) (st cls resp value : Nat) : State :=
  let q := s.tmp.seq
  let asleep := st == 2
  let b := bytesLE 4 q ++ bytesLE 4 (2 ^ (24 + src) + b2n clear * 2 ^ 16 + st * 2 ^ 14 + cls * 2 ^ 8 + resp) ++
    bytesLE 8 s.rtcNow ++ bytesLE 4 (if asleep then 0 else secOf s.ns) ++ bytesLE 4 (if asleep then 0 else nsOf s.ns) ++
    bytesLE 4 value ++ bytesLE 4 s.evr.pwrCycles
  (s.writeMram (0x3FC00 + q % 32 * 32) b).updTmp (fun t => { t with seq := (q + 1) % 2 ^ 32 })

/-- A TAMPER record of an entry (R419), and the entry noted as reported. -/
def State.tmpDeck (s : State) (typ src seq resp : Nat) : State :=
  let s := s.writeMram 0x3FB08 (bytesLE 4 seq)
  s.deck pTMP 11 typ (tagBody (tagOf s.tick) ++ bytesLE 2 src ++ bytesLE 2 resp ++ bytesLE 4 seq)

/-- Every slot and the keys of R399 are zeroised, engine copies purged, the KSU locked out (R417). -/
def State.zeroise (s : State) : State :=
  let z (i : Nat) : Nat × KSlot :=
    (i, { s.kslot i with state := 3, material := [], staged := none, unsaved := false, lastTag := tagOf s.tick })
  let s := { s with kslots := (List.range 256).map z, ekeys := [] }
  let s := s.updKsu (fun k => { k with root := false, kas := none, lockedOut := true })
  (s.keyRec 6 0xFFFF 0).irq pKSU 6

/-- The boot halts (R417): no key is left, and the module shows FAILED. -/
def State.bootHalt (s : State) : State :=
  let s := { s with kslots := [], ekeys := [] }
  (s.updKsu (fun k => { k with root := false, op := none })).putBit 0 R.SYS_STATUS 1 true

/-- The response to a detection (R417), with the RESPONSE bits of its entry. -/
def State.tmpRespond (s : State) (src : Nat) : Nat × State :=
  let hard := s.tmpHard src
  let busy := b2n s.ksu.op.isSome
  match s.tmpState with
  | 0 => (busy + 8, (s.ksuAbort hard).bootHalt)
  | 2 => if hard then (4, s.updKsu (fun k => { k with kas := none })) else (0, s)
  | _ =>
    let s := s.ksuAbort hard
    if hard then (busy + 6, s.zeroise)
    else (busy, s.updKsu (fun k => { k with hold := true, holdSrc := k.holdSrc ||| 1 <<< src }))

/-- TAMPER_DETECT of a source, with its measured value (R415 to R418). -/
def State.tamperDetect (s : State) (src value : Nat) : State :=
  if !s.tmpWatched src || s.tmp.active.testBit src then s
  else
    let st := s.tmpState
    let hard := s.tmpHard src
    let q := s.tmp.seq
    let s := s.updTmp (fun t => { t with active := t.active ||| 1 <<< src, seen := t.seen ||| 1 <<< src })
    let s := s.bump pTMP (R.TMP_CNT_SRC + 4 * src)
    let r := s.tmpRespond src
    let s := r.2.tmpEntry src false st (b2n hard) r.1 value
    let s := if st = 1 ∨ st = 3 then s.tmpDeck 1 src q r.1 else s
    if s.onMain then s.irq pTMP (if hard then 4 else 5) else s

/-- TAMPER_CLEAR: a source returns to clear (R418). -/
def State.tamperClear (s : State) (src value : Nat) : State :=
  if !s.tmpWatched src || !s.tmp.active.testBit src then s
  else
    let st := s.tmpState
    let q := s.tmp.seq
    let s := s.updTmp (fun t => { t with active := t.active ^^^ 1 <<< src })
    let s := s.tmpEntry src true st (b2n (s.tmpHard src)) 0 value
    let s := if st = 1 ∨ st = 3 then s.tmpDeck 4 src q 0 else s
    let left := if s.ksu.holdSrc.testBit src then s.ksu.holdSrc ^^^ 1 <<< src else s.ksu.holdSrc
    let s := if s.ksu.holdSrc.testBit src then s.updKsu (fun k => { k with holdSrc := left, holdClk := s.tsu.clk }) else s
    if s.onMain then s.irq pTMP 6 else s

/-- TAMPER_HOLD_END: one second after the last soft source cleared (R417). -/
def State.tamperHoldEnd (s : State) : State :=
  if s.ksu.hold && s.ksu.holdSrc == 0 && decide (msClk 1000 ≤ s.since s.ksu.holdClk) then
    s.updKsu (fun k => { k with hold := false })
  else s

/-- Entries not yet reported go to the deck in SEQ order at a start (R418): detected in SLEEP (0x02) or START_UP (0x03), or
cleared (0x04). -/
def State.tmpReport (s : State) : State :=
  let next := s.tmp.seq
  let last := ofLE (s.mramBytes 0x3FB08 4)
  let n := min 32 (next - 1 - last)
  (List.range n).foldl (fun s i =>
    let q := next - n + i
    let b := s.mramBytes (0x3FC00 + q % 32 * 32) 8
    let w := ofLE (b.drop 4)
    let src := ((List.range 6).find? (fun j => w.testBit (24 + j))).getD 0
    s.tmpDeck (if w.testBit 16 then 4 else if w / 2 ^ 14 % 4 = 2 then 2 else if w / 2 ^ 14 % 4 = 0 then 3 else 1) src q (w % 16)) s

/-- A write of TMP_CFG sets class bits and clears none (R415). -/
def State.tmpCfgWrite (s : State) (v : Word) : Word := v ||| s.rg pTMP R.TMP_CFG

/-- Read-only registers of the TMP page. -/
def State.tmpRo (s : State) (off : Nat) : Option Word :=
  if off = R.TMP_STATUS then some (w32 (s.tmp.seen * 256 + s.tmp.active))
  else if off = R.TMP_REC_SEQ then some (w32 s.tmp.seq)
  else none

/-- A word of the tamper record (R423). -/
def State.tmpTblWord (s : State) (a : Nat) : Option Word :=
  if 0x00FD4000 ≤ a ∧ a < 0x00FD4400 then some (w32 (ofLE (s.mramBytes (0x3FC00 + (a - 0x00FD4000)) 4))) else none

/-- TAMPER_DETECT (R417): source number and measured value. -/
def execTamperDetect (src value : Nat) (s : State) : Host.Outcome State Fault Refusal :=
  act State.onKeep (fun s => s.tamperDetect src value) s

/-- TAMPER_CLEAR (R418). -/
def execTamperClear (src value : Nat) (s : State) : Host.Outcome State Fault Refusal :=
  act State.onKeep (fun s => s.tamperClear src value) s

/-- TAMPER_HOLD_END (R417). -/
def execTamperHoldEnd (s : State) : Host.Outcome State Fault Refusal := act State.onMain State.tamperHoldEnd s

/-- ACK (R418): SEEN clears, the record is kept. -/
def execAck (s : State) : Host.Outcome State Fault Refusal :=
  actReg State.onMain pTMP (fun s => s.updTmp (fun t => { t with seen := 0 })) s

end Sys2Proof.Machine
end

