-- ==== Sys2Proof/Machine/Power.lean ====
section
/-!
DEFINITION. Supplies, the power-fail warning and its flush, sleep, start-up and resets (chapter 18).
-/
namespace Sys2Proof.Machine

/-- PWR and RST pages. -/
abbrev pPWR : Nat := 0x001
abbrev pRST : Nat := 0x002

def State.updPwr (s : State) (f : Pwr → Pwr) : State := { s with pwr := f s.pwr }
def State.updRst (s : State) (f : Rst → Rst) : State := { s with rst := f s.rst }

/-! ### The RTC (R435) -/

/-- At the tick that begins a second: the RTC is loaded from a LOCKED station time, and copied to the monotonic counters. -/
def State.rtcSecond (s : State) : State :=
  if s.tick % 4800 ≠ 0 then s
  else
    let s := if s.tsu.sync == .locked then s.updPwr (fun p => { p with rtc := s.tick / 4800 * 32768, rtcClk := s.tsu.clk }) else s
    s.updPwr (fun p => { p with rtcCopy := s.rtcNow })

/-- Station time of an RTC value, in 10^-12 ns (R99). -/
def rtcTime (rtc : Nat) : Nat := rtc * 10 ^ 21 / 32768

/-! ### Warning and flush (R428 to R433) -/

/-- Step 1 of R429, or what the preparation of a reset has left of it (R433). -/
def State.flushSaves (s : State) : State :=
  if s.rst.prep.isNone then (s.updPwr (fun p => { p with finalDone := false })).talFinals
  else if s.pwr.finalDone then s.deck pEVR 13 0x03 (tagBody (tagOf s.tick))
  else s

/-- POWER_FAIL_WARNING: VMAIN low, or EXT_PFW_N low (`ext`) where it is enabled. One raised before the flush of an earlier one has ended is
the same warning. -/
def State.pfWarning (s : State) (ext : Bool) : State :=
  if s.pwr.phase ≠ .run ∨ s.pwr.pfw ∨ (ext && !bit (s.ac pPWR R.PWR_CFG) 0) then s
  else if s.pwr.pfMode then s.updPwr (fun p => { p with pfw := true, vmainOk := p.vmainOk && ext })
  else
    let s := s.updPwr (fun p => { p with
      pfw := true, pfMode := true, vmainOk := p.vmainOk && ext, extPfw := ext, flushClk := s.tsu.clk, rtcCopy := s.rtcNow })
    let s := s.updEvr (fun e => { e with pf3 := false, pf4 := false })
    let s := s.bump pPWR R.PWR_CNT_PFW
    let s := if ext then s.bump pPWR R.PWR_CNT_EXT_PFW else s
    (s.irq pPWR 4).acqPowerFail.flushSaves

/-- PFW_CLEARED. -/
def State.pfCleared (s : State) : State :=
  if s.pwr.phase ≠ .run ∨ !s.pwr.pfw then s
  else
    let s := s.updPwr (fun p => { p with pfw := false, vmainOk := true })
    ((s.bump pPWR R.PWR_CNT_PF_CLEARED).irq pPWR 5).talResume

/-- The flush has reached its end: capture has nothing left to write, or 4.00 ms have passed (R429). -/
def State.flushOver (s : State) : Bool :=
  (s.evr.pf4 && s.acq.stage.isEmpty && !s.acq.recs.any (fun r => r.ended)) || 1000000 ≤ s.since s.pwr.flushClk

/-- Pulse outputs without supply: every switch open. -/
def State.dfosOpen (s : State) : State :=
  { s with dfos := s.dfos.map (fun e => (e.1, { e.2 with pulse := false, closed := false })) }

/-- The islands other than time, safety and keep-alive are switched off (R431). -/
def State.shed (s : State) : State :=
  let s := (s.bump pPWR R.PWR_CNT_SHED).updPwr (fun p => { p with phase := .held, pfMode := false, heldReset := none })
  (s.updRst (fun r => { r with prep := none, holdBy := none })).dfosOpen

/-! ### Reset requests (R433, R438 to R441, R481) -/

/-- RST_IN_N and the button recognised within the same 1 ms make one reset with cause BUTTON. -/
def State.mergeCause (s : State) (old : Nat × Nat) (cause : Nat) : Nat × Nat :=
  if cause = 3 ∧ old.1 = 4 ∧ s.since old.2 ≤ msClk 1 then (3, old.2) else old

/-- A request for a reset of a cause: it is held during a flush; else its preparation begins; one in preparation stands. -/
def State.resetReq (s : State) (cause : Nat) : State :=
  if s.pwr.phase ≠ .run then s
  else if s.pwr.pfMode then
    s.updPwr (fun p => { p with heldReset := some (match p.heldReset with | some h => s.mergeCause h cause | none => (cause, s.tsu.clk)) })
  else match s.rst.prep with
    | some h => s.updRst (fun r => { r with prep := some (s.mergeCause h cause) })
    | none =>
      let s := s.updRst (fun r => { r with prep := some (cause, s.tsu.clk) })
      (s.updPwr (fun p => { p with finalDone := false })).talFinals

/-- The preparation is complete: FINAL saves made and the privileged queue written to MRAM (R438). -/
def State.prepDone (s : State) : Bool :=
  s.pwr.finalDone && s.evr.privQ.isEmpty && s.evr.cross.all (fun r => r.cls < 8)

/-! ### Warm reset (R439) -/

/-- Register words a warm reset keeps: the safety island, TMP_CFG, the failed state, station time, memory and Cruiser results, ADC
calibration and health results. -/
def warmKeeps (a : Nat) : Bool :=
  let p := a / 4096
  let off := a % 4096
  p == 0x1A0 || p == 0x1A1 || (p == pTMP && off == R.TMP_CFG) || (p == 0 && off == R.SYS_STATUS) ||
    ((p == pTSU || p == pMEM || p == pCRU || p == pHLT) && 0x400 ≤ off) ||
    ((p == 0x100 || p == 0x101) && R.ADC_CAL_OFF ≤ off && off ≤ R.ADC_CAL_TEMP)

/-- Table words a warm reset keeps: remaps and the safety tables. -/
def warmKeepsTbl (a : Nat) : Bool := (0x00FC0000 ≤ a && a < 0x00FD0000) || (0x00F10000 ≤ a && a < 0x00F20000)

/-- A page header after a warm reset: fences, the first saturation of its counters (R51), CFG_ERR and ERR_CODE (R39) are kept. -/
def warmHdr (p : Nat) (h : Hdr) : Hdr :=
  if p = 0x1A0 ∨ p = 0x1A1 then h
  else { fenced := h.fenced, degraded := h.degraded, satSeen := h.satSeen, cfgErr := h.cfgErr, errCode := h.errCode }

/-- The key store after a reset of R401: rebuilt unless the boot has halted or a hard tamper has locked it out. -/
def State.ksuRestart (s : State) : Ksu × List (Nat × KSlot) :=
  let k := s.ksu
  let ok := !k.rootFail && !k.lockedOut && k.root
  ({ k with
    rootOk := ok, root := ok, running := false, mrs := startMrs, mrLock := 0, op := none, kasNew := false },
   if ok then [(255, bootSlot)] else [])

/-- The role of a module at a reset: SHF_ROLE_OVR, else the strap (R445). -/
def State.roleAtReset (s : State) : Bool := if s.shf.ovr = 0 then s.ident.rolePins == 1 else s.shf.ovr == 1

/-- The state a warm reset leaves, before restores. -/
def State.warmState (s : State) (cause : Nat) : State :=
  let k := s.ksuRestart
  {
    ident := s.ident
    hdrs := s.hdrs.foldl (fun m e => sset {} e.1 (warmHdr e.1 e.2) m) []
    regs := s.regs.filter (fun e => warmKeeps e.1)
    acts := s.acts.filter (fun e => warmKeeps e.1)
    cnts := s.cnts
    snaps := s.snaps
    tbl := s.tbl.filter (fun e => warmKeepsTbl e.1)
    tsu := { s.tsu with outs := [{}, {}, {}, {}], ins := [{}, {}, {}, {}], wdogClk := s.tsu.clk }
    macs := s.macs.foldl (fun m e => sset {} e.1 { supplyOff := e.2.supplyOff, present := e.2.present } m) []
    mem := s.mem, mram := s.mram, flips := s.flips, poison := s.poison, memSt := s.memSt, memFenced := s.memFenced
    evr := { s.evr with post := none }
    adcs := s.adcs.foldl (fun m e => sset {} e.1 { calValid := e.2.calValid, drift := e.2.drift } m) []
    shunts := s.shunts
    img := s.img, dir := s.dir, hwsIn := s.hwsIn, hws := s.hws
    acq := { store := s.acq.store, seq := s.acq.seq }
    kslots := k.2, ksu := k.1, tmp := s.tmp
    pwr := { s.pwr with finalDone := false, heldReset := none, pfMode := false }
    rst := { s.rst with cause := cause, prep := none }
    shf := { ovr := s.shf.ovr, mgr := s.roleAtReset, mgrClk := s.tsu.clk }
    hlt := s.hlt
    out := s.out, free := s.free, pending := s.pending }

/-- The warm reset: counted, tally totals restored (R289), tamper entries of the start reported; while the contact that asked for it is
closed it stays asserted (R441). -/
def State.warmReset (s : State) (cause : Nat) : State :=
  let hold := match s.rst.holdBy with
    | some (rstIn, c) => (if rstIn then s.rst.rstIn.closed else s.rst.button.closed) && s.since c < msClk 2000
    | none => false
  let s := (s.bump pRST R.RST_CNT_WARM).warmState cause
  let s := if hold then s.updPwr (fun p => { p with phase := .reset }) else s.updRst (fun r => { r with holdBy := none })
  (iter 8 (fun e s => s.talRestore none e) s).tmpReport.hltShow

/-! ### Power-on reset (R382, R398, R436, R439) -/

/-- Records of the privileged area as the start scan finds them (R350): one whose end mark in MRAM is not its own is torn. -/
def State.evrScan (s : State) : State :=
  let torn (g : Nat × Nat × Option Nat) : Bool := match g.2.2 with
    | none => false
    | some _ =>
      let b := s.mramBytes g.1 g.2.1
      b.drop (g.2.1 - 8) != bytesLE 4 (crc32c (b.take (g.2.1 - 8))) ++ bytesLE 4 0x424C415A
  let bad := (s.evr.ring.filter torn).filterMap (fun g => g.2.2)
  let s := s.updEvr (fun e => { e with
    ring := e.ring.filter (fun g => !torn g), unmirrored := e.unmirrored.filter (fun r => !bad.contains r.seq) })
  bad.foldl (fun s q =>
    ((s.bump pEVR R.EVR_CNT_TORN).irq pEVR 8).deck pEVR 13 0x04 (tagBody 0 ++ bytesLE 4 q)) s

/-- The saved remap list is applied (R389). -/
def State.remapSaved (s : State) : State :=
  s.memSt.saved.foldl (fun s a =>
    match memOf a with
    | none => s
    | some (_, g) => match (remapEntries g).find? (fun e => !bit (s.tw e) 31) with
      | some e => s.setTws e [w32 (2 ^ 31 + 2 ^ 30), w32 a, w32 (a / 2 ^ 32 % 2 ^ 8), 0]
      | none => s) s

/-- A DRAM word that reads back uncorrectable after the fill: remapped, or its group fenced for want of an entry (R382). -/
def State.fillBad (s : State) (a : Nat) : State :=
  let w := a / 8 * 8
  if !isDram a then s
  else if (s.freeEntry 0).isSome then (s.irq pMEM 5).uncorrectable w 2 6 0
  else (((s.irq pMEM 5).bump pMEM R.MEM_CNT_UE_DRAM).memEvent w 2 6 0).fenceDram (a / 2 ^ 30)

/-- Entries the saved list gave for words of a fenced DRAM group are ignored (R389). -/
def State.remapDrop (s : State) : State :=
  (remapEntries 0).foldl (fun s e =>
    if bit (s.tw e) 30 && s.memFenced.testBit (((s.tw (e + 4)).toNat + fld (s.tw (e + 8)) 0 8 * 2 ^ 32) / 2 ^ 30) then
      s.setTws e [0, 0, 0, 0]
    else s) s

/-- The state a power-on reset leaves, before fill, fences and restores. -/
def State.coldState (s : State) (cause : Nat) (b : StartUp) : State :=
  let rtc := if s.pwr.kaOff then s.pwr.rtcCopy else s.rtcNow
  let now := rtcTime rtc
  let k := tickOfNs (now / 10 ^ 12)
  let off := s.pwr.phase == .sleep || s.pwr.phase == .off
  let cycles := (s.evr.pwrCycles + 1) % 2 ^ 32
  let kas := match s.ksu.kas with | some v => some v | none => if b.vaux then some cycles else none
  let ok := decide (b.pufErr ≤ 150) && b.pufOk
  let ident := { s.ident with
    slotPins := b.slot % 64, shelfPins := b.shelf % 64, rolePins := b2n b.mgr, pairPins := if b.sideB then 2 else 1 }
  {
    ident := ident
    regs := s.regs.filter (fun e => e.1 == ka pMEM R.MEM_FL_WEAR || e.1 == ka pMEM R.MEM_FL_SPARE)
    cnts := s.cnts.filter (fun e => e.1 / 4096 == pPWR || (e.1 / 4096 == pTMP && R.TMP_CNT_SRC ≤ e.1 % 4096))
    tsu := { now := now, lastTick := k, nextTick := k + 1 }
    macs := s.macs.foldl (fun m e => sset {} e.1 { supplyOff := e.2.supplyOff, present := e.2.present } m) []
    mram := s.mram
    memSt :=
      { saved := if s.memSt.clearSaved then [] else s.memSt.saved, wearWarn := s.memSt.wearWarn, readOnly := s.memSt.readOnly }
    evr :=
      { ring := s.evr.ring, unmirrored := s.evr.unmirrored, wptr := s.evr.wptr, ordSeq := s.evr.ordSeq, privSeq := s.evr.privSeq,
        mirrorSeq := s.evr.mirrorSeq, optBase := if off then s.evr.optBase else s.optime, pwrCycles := cycles, ordSegs := s.evr.ordSegs,
        mirSegs := s.evr.mirSegs, segSeq := s.evr.segSeq, mirSeq := s.evr.mirSeq, releaseSeq := s.evr.releaseSeq,
        nearFull := s.evr.nearFull }
    acq := { store := s.acq.store, seq := s.acq.seq }
    kslots := if ok then [(255, bootSlot)] else []
    ksu :=
      { rootOk := ok, rootFail := !ok, root := ok, kas := kas, kasNew := s.ksu.kas.isNone && kas.isSome, owners := s.ksu.owners,
        pufErr := min 0x3FF b.pufErr }
    tmp := s.tmp
    pwr :=
      { vauxOk := b.vaux, rtc := rtc, rtcCopy := rtc, rtcValid := !s.pwr.kaOff, kaLost := s.pwr.kaOff, lossRtc := s.pwr.lossRtc,
        pfTime := s.pwr.pfTime, extPfw := s.pwr.extPfw }
    rst := { cause := cause, button := { s.rst.button with openClk := 0 }, rstIn := { s.rst.rstIn with openClk := 0 } }
    shf := { ovr := s.shf.ovr, mgr := if s.shf.ovr = 0 then b.mgr else s.shf.ovr == 1 }
    hlt := s.hlt
    out := s.out, free := s.free, pending := s.pending }

/-- A unit fails its self-test at start: fenced, or the module fails; a safety island that fails its own keeps its outputs open (R25, R29). -/
def State.selfTest (s : State) (p : Nat) : State :=
  if fenceable p then s.fence p 1
  else if headPage p = pHWS 0 then s.hwsOff.fail p 1
  else if (pageBlock p).isSome then s.fail p 1 else s

/-- Units that fail their self-test at start. -/
def State.selfTests (s : State) (failed : List Nat) : State := failed.foldl State.selfTest s

/-- An abrupt loss shows as a save without FINAL (R432). -/
def State.abruptSeen (s : State) : State :=
  if (List.range 8).any (fun e => (s.te e).gap) then
    ((s.updPwr (fun p => { p with abrupt := true })).bump pPWR R.PWR_CNT_ABRUPT).irq pPWR 8
  else s

/-- The power-on reset: everything the module itself does until Vehus is released (R436). -/
def State.powerOn (s : State) (cause : Nat) (b : StartUp) : State :=
  let cut := if s.pwr.phase == .run || s.pwr.phase == .reset then 0 else s.acq.stage.length
  let t := (s.coldState cause b).remapSaved
  let t := if t.ksu.rootFail then (t.bootHalt.irq pKSU 7).keyRec 9 0xFFFF t.ksu.pufErr else t
  let t := if t.tmp.active ≠ 0 then t.bootHalt else t
  let t := if b.vaux then t else t.irq pPWR 7
  let t := (b.badWords.foldl State.fillBad t).remapDrop
  let t := t.selfTests b.failed
  let loss := if t.pwr.kaLost then none else some t.pwr.lossRtc
  let t := (iter 8 (fun e t => t.talRestore loss e) t).evrScan
  let t := t.abruptSeen.bumpBy 0x1B0 R.ACQ_CNT_PF_CUT cut
  let t := if cause = 2 then t.bump pRST R.RST_CNT_COLD else t
  t.tmpReport.hltShow

/-! ### Loss of supply (R431, R432, R434) -/

/-- The keep-alive island goes OFF: the RTC, KAS, the keep-alive registers and the PWR counters are lost. -/
def State.keepOff (s : State) : State :=
  let s := { s with cnts := s.cnts.filter (fun e => e.1 / 4096 != pPWR) }
  let s := s.updPwr (fun p => { p with phase := .off, vauxOk := false, kaOff := true, lossRtc := 0 })
  let s := (s.updKsu (fun k => { k with kas := none })).updShf (fun h => { h with ovr := 0 })
  s.updHlt (fun h => { hour := h.hour })

/-- The supply is cut while the KSU works on a message it would accept: a free value says whether step 7 is already past (R409). -/
def State.msgCut (s : State) : State :=
  match s.ksu.op with
  | some o =>
    if o.op ≠ 7 || o.code.isSome || o.len ≠ 424 || !postRange o.addr 424 then s
    else
      let b := s.bytes o.addr 424
      match s.msgCheck o.len b with
      | .inl _ => s
      | .inr _ =>
        let f := s.freeWord
        if f.1.toNat % 2 = 0 then f.2 else f.2.writeMram 0x3FB00 ((b.drop 8).take 8)
  | none => s

/-- Every island but the keep-alive island loses its supply: PWR_LOSS_RTC is recorded, the keep-alive island passes to VAUX, every
switch of the safety and pulse outputs opens. -/
def State.powerLoss (s : State) : State :=
  let s := s.msgCut
  let open_ (c : HCh) : HCh := { c with outs := c.outs.map (fun o => { o with on := false }) }
  let s := { s with hws := { s.hws with a := open_ s.hws.a, b := open_ s.hws.b } }
  let s := s.dfosOpen.updEvr (fun e => { e with optBase := s.optime })
  let s := s.updPwr (fun p => { p with
    phase := .sleep, lossRtc := s.rtcNow, vmainOk := false, pfMode := false, holdupReady := false })
  let s := s.updRst (fun r => { r with prep := none, holdBy := none })
  if s.pwr.vauxOk then s else s.keepOff

/-- A record whose write the loss cut: its header and body are in MRAM, its end mark is not (R347, R350). -/
def State.tornWrite (s : State) : State :=
  match s.evr.privQ with
  | [] => s
  | r :: rest =>
    if !s.evr.room r.size || s.evr.padFor r.size ≠ 0 then s
    else
      let o := s.evr.wptr
      (s.writeMram o (r.bytes ++ List.replicate 8 0)).updEvr (fun e => { e with
        privQ := rest, ring := e.ring ++ [(o, r.size, some r.seq)], unmirrored := e.unmirrored ++ [r], wptr := (o + r.size) % 65536 })

/-- ABRUPT_LOSS: supply lost before step 1 of the flush has completed; `torn`: within the write of a privileged record. -/
def State.abruptLoss (s : State) (torn : Bool) : State :=
  if (s.pwr.phase ≠ .run ∧ s.pwr.phase ≠ .reset) ∨ s.pwr.finalDone then s
  else (if torn then s.tornWrite else s).powerLoss

/-- STORE_EMPTY: the store falls to 15 V, while HELD or in a flush that runs on it. -/
def State.storeEmpty (s : State) : State :=
  if s.pwr.phase = .held ∨ (s.pwr.phase = .run ∧ s.pwr.pfMode) then s.powerLoss else s

/-! ### Ends and releases -/

/-- FLUSH_END (R431, R433). -/
def State.flushEnd (s : State) : State :=
  if s.pwr.phase ≠ .run ∨ !s.pwr.pfMode ∨ !s.flushOver then s
  else
    let s := s.updPwr (fun p => { p with pfTime := min 0xFFFF (s.since p.flushClk / 250) })
    if s.pwr.pfw then s.shed
    else
      let s := s.updPwr (fun p => { p with pfMode := false })
      let s := s.updEvr (fun e => { e with pf3 := false, pf4 := false })
      match s.rst.prep, s.pwr.heldReset with
      | some _, _ => s
      | none, some h => (s.updPwr (fun p => { p with heldReset := none })).updRst (fun r => { r with prep := some h })
      | none, none =>
        if s.dup.state = 2 then s.updRst (fun r => { r with prep := some (7, s.tsu.clk) })
        else s.updPwr (fun p => { p with finalDone := false })

/-- The reset that a complete preparation allows, other than COLD (R438). -/
def State.warmDue (s : State) : Option Nat :=
  match s.rst.prep with
  | some (c, _) => if s.pwr.phase = .run ∧ !s.pwr.pfMode ∧ c ≠ 2 ∧ s.prepDone then some c else none
  | none => none

/-- POWER_ON_RESET: VMAIN qualified after a loss of supply, or the reset RST_CMD.COLD prepared. -/
def State.powerOnReset (s : State) (b : StartUp) : State :=
  if s.pwr.phase = .sleep ∨ s.pwr.phase = .off then s.powerOn 0 b
  else match s.rst.prep with
    | some (2, _) => if s.pwr.phase = .run ∧ !s.pwr.pfMode ∧ s.prepDone then s.powerOn 2 b else s
    | _ => s

/-- HOLDUP_READY: the store reaches 44 V; `chargeUs` is the time of its charge from 15 V to 45 V (R427). -/
def State.holdupReady (s : State) (chargeUs : Nat) : State :=
  if !s.onMain || s.pwr.holdupReady then s
  else
    let low := decide (chargeUs < 135000)
    let s := s.updPwr (fun p => { p with holdupReady := true, cap := min 0xFFFF (chargeUs / 150), holdupLow := low })
    (if low then s.irq pPWR 6 else s).hltHoldup

/-- VAUX_LOW, while VMAIN is present. -/
def State.vauxLow (s : State) : State :=
  if !s.pwr.vauxOk || s.pwr.phase == .sleep || s.pwr.phase == .off then s
  else (s.updPwr (fun p => { p with vauxOk := false })).irq pPWR 7

/-- VAUX_RETURN: the keep-alive island leaves OFF for SLEEP, its RTC resuming from the copy. -/
def State.vauxReturn (s : State) : State :=
  let s := s.updPwr (fun p => { p with vauxOk := true })
  if s.pwr.phase = .off then s.updPwr (fun p => { p with phase := .sleep, rtc := p.rtcCopy, rtcClk := s.tsu.clk }) else s

/-! ### Contacts and watchdog (R440, R441) -/

def State.contact (s : State) (rstIn : Bool) : Contact := if rstIn then s.rst.rstIn else s.rst.button
def State.setContact (s : State) (rstIn : Bool) (c : Contact) : State :=
  s.updRst (fun r => if rstIn then { r with rstIn := c } else { r with button := c })

/-- BUTTON_PRESS: a contact closed for 10 ms; a STUCK one is ignored. -/
def State.press (s : State) (rstIn : Bool) : State :=
  let c := s.contact rstIn
  let s := s.setContact rstIn { c with closed := true }
  if c.closed || c.stuck || s.pwr.phase ≠ .run then s
  else
    let s := if s.rst.holdBy.isNone then s.updRst (fun r => { r with holdBy := some (rstIn, s.tsu.clk) }) else s
    s.resetReq (if rstIn then 4 else 3)

/-- The asserted reset is released. -/
def State.releaseReset (s : State) : State :=
  let s := s.updRst (fun r => { r with holdBy := none })
  if s.pwr.phase = .reset then s.updPwr (fun p => { p with phase := .run }) else s

/-- BUTTON_RELEASE: the contact opens. -/
def State.unpress (s : State) (rstIn : Bool) : State :=
  let s := s.setContact rstIn { s.contact rstIn with closed := false, openClk := s.tsu.clk }
  if s.rst.holdBy.map Prod.fst = some rstIn then s.releaseReset else s

/-- RESET_HOLD_RELEASE: 2 s after recognition, STUCK where the contact is still closed. -/
def State.holdRelease (s : State) : State :=
  match s.rst.holdBy with
  | none => s
  | some (rstIn, c) =>
    if s.since c < msClk 2000 || (s.pwr.phase ≠ .run && s.pwr.phase ≠ .reset) then s
    else
      let s := s.releaseReset
      if (s.contact rstIn).closed then
        ((s.setContact rstIn { s.contact rstIn with stuck := true }).bump pRST R.RST_CNT_STUCK).irq pRST 4
      else s

/-- STUCK_CLEAR: seen open for 100 ms. -/
def State.stuckClear (s : State) (rstIn : Bool) : State :=
  let c := s.contact rstIn
  if c.stuck && !c.closed && msClk 100 ≤ s.since c.openClk then s.setContact rstIn { c with stuck := false } else s

def State.wdogMs (s : State) : Nat := fld (s.ac pRST R.RST_WDOG_CFG) 0 16

/-- WDOG_EXPIRY. -/
def State.wdogExpiry (s : State) : State :=
  if s.wdogMs = 0 ∨ s.since s.rst.kickClk < msClk s.wdogMs ∨ s.rst.prep.isSome ∨ s.pwr.heldReset.isSome then s
  else (s.bump pRST R.RST_CNT_WDOG).resetReq 6

/-- RST_WDOG_KICK. -/
def State.wdogKick (s : State) (v : Word) : State :=
  if v = 0xC35A then s.updRst (fun r => { r with kickClk := s.tsu.clk }) else s.bump pRST R.RST_CNT_BAD_KICK

/-- RST_CMD with both bits: COLD (log 99). -/
def State.rstCmd (s : State) (v : Word) : State :=
  if bit v 1 then s.resetReq 2 else if bit v 0 then s.resetReq 5 else s

/-- A COMMIT of the RST page took effect: the watchdog starts with the new TIMEOUT. -/
def State.rstApplied (s : State) : State := s.updRst (fun r => { r with kickClk := s.tsu.clk })

/-- PERST_N: the manager's PCIe endpoint is reset; writes already taken are still delivered, reads in flight are lost with it. -/
def State.perst (s : State) : State := if s.shf.mgr then s.updShf (fun h => { h with reads := [], msix := [] }) else s

/-! ### Reads -/

/-- Read-only registers of the PWR page. -/
def State.pwrRo (s : State) (off : Nat) : Option Word :=
  let p := s.pwr
  let m (i bits : Nat) : Word := w32 (Config.measured i s.tsu.clk % 2 ^ bits)
  let vf := s.hws.a.vfield
  if off = R.PWR_STATUS then
    some (w32 (b2n p.vmainOk + 2 * b2n p.pfw + 4 * b2n p.pfMode + 8 * b2n p.holdupReady + 16 * b2n p.holdupLow + 32 * b2n p.vauxOk +
      64 * b2n (decide (19200 ≤ vf ∧ vf ≤ 30000)) + 128 * b2n p.kaLost + 256 * b2n p.rtcValid + 512 * b2n p.extPfw + 1024 * b2n p.abrupt))
  else if off = R.PWR_VMAIN then some (m 0 17)
  else if off = R.PWR_VAUX then some (m 1 13)
  else if off = R.PWR_HOLDUP_V then some (m 2 16)
  else if off = R.PWR_HOLDUP_CAP then some (w32 p.cap)
  else if off = R.PWR_POWER then some (m 3 12)
  else if off = R.PWR_PF_TIME then some (w32 p.pfTime)
  else if off = R.PWR_LOSS_RTC then some (w32 p.lossRtc)
  else if off = R.PWR_LOSS_RTC + 4 then some (w32 (p.lossRtc / 2 ^ 32))
  else if off = R.PWR_RTC then some (w32 s.rtcNow)
  else if off = R.PWR_RTC + 4 then some (w32 (s.rtcNow / 2 ^ 32))
  else none

/-- Read-only registers of the RST page. -/
def State.rstRo (s : State) (off : Nat) : Option Word :=
  if off = R.RST_CAUSE then some (w32 s.rst.cause)
  else if off = R.RST_BUTTON then
    some (w32 (b2n s.rst.button.closed + 2 * b2n s.rst.button.stuck + 4 * b2n s.rst.rstIn.closed + 8 * b2n s.rst.rstIn.stuck))
  else if off = R.RST_WDOG_LEFT then some (w32 (s.wdogMs - s.since s.rst.kickClk / 250000))
  else none

/-! ### The commands -/

/-- POWER_FAIL_WARNING (R428): raised by VMAIN, or by EXT_PFW_N alone (`ext`). -/
def execPowerFailWarning (ext : Bool) (s : State) : Host.Outcome State Fault Refusal := act State.onMain (fun s => s.pfWarning ext) s

/-- PFW_CLEARED (R428). -/
def execPfwCleared (s : State) : Host.Outcome State Fault Refusal := act State.onMain State.pfCleared s

/-- FLUSH_END (R431). -/
def execFlushEnd (s : State) : Host.Outcome State Fault Refusal := act State.onMain State.flushEnd s

/-- SHED_RECOVER (R431): VMAIN returns for 100 ms while HELD. -/
def execShedRecover (b : StartUp) (s : State) : Host.Outcome State Fault Refusal :=
  act (fun s => s.pwr.phase == .held) (fun s => s.powerOn 1 b) s

/-- STORE_EMPTY (R431). -/
def execStoreEmpty (s : State) : Host.Outcome State Fault Refusal := act State.always State.storeEmpty s

/-- ABRUPT_LOSS (R432). -/
def execAbruptLoss (torn : Bool) (s : State) : Host.Outcome State Fault Refusal :=
  act State.always (fun s => s.abruptLoss torn) s

/-- HOLDUP_READY (R427). -/
def execHoldupReady (chargeUs : Nat) (s : State) : Host.Outcome State Fault Refusal :=
  act State.onMain (fun s => s.holdupReady chargeUs) s

/-- VAUX_LOW (R425). -/
def execVauxLow (s : State) : Host.Outcome State Fault Refusal := act State.onKeep State.vauxLow s

/-- OVERTEMP_SHUTDOWN (R479): the module switches itself off; the loss is abrupt. -/
def execOvertempShutdown (s : State) : Host.Outcome State Fault Refusal :=
  act State.onTime State.powerLoss s

/-- POWER_ON_RESET (R436), with what the start finds. -/
def execPowerOnReset (b : StartUp) (s : State) : Host.Outcome State Fault Refusal :=
  act State.always (fun s => s.powerOnReset b) s

/-- WARM (R438): RST_CMD.WARM, protected. -/
def execWarm (s : State) : Host.Outcome State Fault Refusal :=
  actReg State.onMain pRST (fun s => s.ifUnlocked pRST R.RST_CMD (fun s => s.rstCmd 1)) s

/-- COLD (R438): RST_CMD.COLD, protected. -/
def execCold (s : State) : Host.Outcome State Fault Refusal :=
  actReg State.onMain pRST (fun s => s.ifUnlocked pRST R.RST_CMD (fun s => s.rstCmd 2)) s

/-- WARM_RESET (R439): performed once its preparation is complete. -/
def execWarmReset (s : State) : Host.Outcome State Fault Refusal :=
  act State.always (fun s => match s.warmDue with | some c => s.warmReset c | none => s) s

/-- RST_WDOG_KICK (R440). -/
def execRstWdogKick (v : Word) (s : State) : Host.Outcome State Fault Refusal := actReg State.onMain pRST (fun s => s.wdogKick v) s

/-- WDOG_EXPIRY (R440). -/
def execWdogExpiry (s : State) : Host.Outcome State Fault Refusal := act State.onMain State.wdogExpiry s

/-- BUTTON_PRESS (R441) of the reset button, or of RST_IN_N. -/
def execButtonPress (rstIn : Bool) (s : State) : Host.Outcome State Fault Refusal :=
  act State.always (fun s => s.press rstIn) s

/-- BUTTON_RELEASE (R441). -/
def execButtonRelease (rstIn : Bool) (s : State) : Host.Outcome State Fault Refusal :=
  act State.always (fun s => s.unpress rstIn) s

/-- RESET_HOLD_RELEASE (R441). -/
def execResetHoldRelease (s : State) : Host.Outcome State Fault Refusal := act State.always State.holdRelease s

/-- STUCK_CLEAR (R441). -/
def execStuckClear (rstIn : Bool) (s : State) : Host.Outcome State Fault Refusal := act State.onMain (fun s => s.stuckClear rstIn) s

/-- PERST_N (R438). -/
def execPerstN (s : State) : Host.Outcome State Fault Refusal := act State.onMain State.perst s

/-- KEEP_ALIVE_OFF (R434): VAUX is lost in SLEEP. -/
def execKeepAliveOff (s : State) : Host.Outcome State Fault Refusal :=
  act (fun s => s.pwr.phase == .sleep) State.keepOff s

/-- VAUX_RETURN (R434). -/
def execVauxReturn (s : State) : Host.Outcome State Fault Refusal := act State.always State.vauxReturn s

end Sys2Proof.Machine
end

