-- ==== Sys2Proof/Machine/Ctrl.lean ====
section
/-!
DEFINITION. The page header's controls (R37 to R55, R487): ENABLE, COMMIT and its safe boundaries, START, STOP, SOFT_RESET,
counters, interrupts, LOCK.
-/
namespace Sys2Proof.Machine

/-! ### COMMIT (R40 to R47) -/

/-- What a register word breaks of a documented range: ZERO_FIELD or RANGE (R40, R41). -/
def Rng.bad (r : Rng) (w : Word) : Option Nat :=
  let n := r.hi - r.lo + 1
  let v : Int := if r.sgn then sfld w r.lo n else (fld w r.lo n : Nat)
  if v = 0 ∧ r.zeroBad then some Err.zeroField
  else if v = 0 ∧ r.zeroOff then none
  else if v < r.min ∨ r.max < v then some Err.range else none

/-- The first register of a page whose shadow lies outside its range: page, offset, code. -/
def State.rngCheck (s : State) (p : Nat) : Option (Nat × Nat × Nat) :=
  ((pageRows p).filter (fun r => r.acc == .rws)).findSome? (fun r =>
    (List.range r.n).findSome? (fun i =>
      let off := r.off + i * r.stride
      (r.rngs.findSome? (fun g => g.bad (s.rg p off))).map (fun c => (p, off, c))))

/-- The block's own rules at a COMMIT (R44). -/
def State.blockCheck (s : State) (g : Nat) : Option (Nat × Nat × Nat) :=
  let on (r : Option (Nat × Nat)) : Option (Nat × Nat × Nat) := r.map (fun e => (g, e.1, e.2))
  match pageBlock g with
  | some (.tsu, _) => on s.tsuCheck
  | some (.swc, _) => s.swcCheck
  | some (.sva, _) => s.svaCheck
  | some (.adc, c) => on (s.adcCheck c)
  | some (.cyc, p) => s.cycCheck p
  | some (.vfm, f) => on (s.vfmCheck f)
  | some (.tal, e) => on (s.talCheck e)
  | some (.dfo, _) => on s.dfoCheck
  | some (.hws, _) => on s.hwsCheck
  | some (.acq, _) => s.acqCheck
  | some (.dup, _) => on s.dupCfgCheck
  | _ => none

/-- The whole shadow checked at the COMMIT write. -/
def State.commitCheck (s : State) (g : Nat) : Option (Nat × Nat × Nat) :=
  ((govPages g).findSome? s.rngCheck).orElse (fun _ => s.blockCheck g)

/-- What follows in a block when its shadow has become active. -/
def State.blockApplied (old s : State) (g : Nat) : State :=
  match pageBlock g with
  | some (.rst, _) => s.rstApplied
  | some (.evr, _) => if fld (s.ac pEVR R.EVR_CFG) 0 16 = 0 then s.updEvr (fun e => { e with fold := [] }) else s
  | some (.tsu, _) => State.tsuApplied old s
  | some (.mac, p) => State.macApplied old s p
  | some (.swc, _) => State.swcApplied old s
  | some (.sva, _) => s.svaApplied
  | some (.flt, e) => s.fltActivate e old
  | some (.adc, c) => s.adcApplied c
  | some (.cyc, p) => s.cycApplied p
  | some (.tal, e) => s.talApplied e
  | some (.dfo, _) => State.dfoApplied old s
  | some (.dup, _) => State.dupApplied old s
  | _ => s

/-- The shadow becomes active now. -/
def State.commitNow (s : State) (g : Nat) : State := State.blockApplied s (s.commitTake g) g

/-- The instance runs, so a COMMIT waits for its safe boundary: also in TSU, EVR and HWS, which run from reset (R44, R487), and
on page 0x110 while any instance runs, for what it holds for the module (R221). -/
def State.commitWaits (s : State) (g : Nat) : Bool :=
  match pageBlock g with
  | some (.tsu, _) | some (.evr, _) | some (.hws, _) => true
  | some (.cyc, 0) => s.running g || s.cycOn && s.cyc.insts.any (fun x => x.2.state != 0)
  | _ => s.running g

/-- CTRL.COMMIT (R44, R45). -/
def State.commit (s : State) (g : Nat) : State :=
  if (s.hd g).commitPending then s
  else match s.commitCheck g with
    | some (p, off, code) => s.refuse p off code
    | none =>
      let s := s.accept g
      let s := if g = pHWS 0 then s.hwsCommitted else s
      if s.commitWaits g then s.updHd g (fun h => { h with commitPending := true, commitNs := s.ns }) else s.commitNow g

/-- The safe boundary of a page's instance has come for a request made at `t` ns (R47). HWS takes its configuration in the safety
cycle (R312) and FLT its references at a chain START (R162). -/
def State.boundary (s : State) (g t : Nat) : Bool :=
  match pageBlock g with
  | some (.sva, _) | some (.tal, _) | some (.dfo, _) | some (.acq, _) | some (.dup, _) | some (.tsu, _) =>
    decide (t + 1000 ≤ tickStartNs s.tick)
  | some (.cyc, _) => s.cyc.cyc.isSome && decide (t + 1000 ≤ s.cyc.boundNs)
  | some (.flt, e) => (s.fe e).startSeen
  | some (.adc, c) => (match (s.adc c).cur with | none => true | some (_, b, _, _) => b == s.ns)
  | some (.hws, _) => false
  | _ => true

/-- COMMIT_APPLY (R44): a pending shadow becomes active at the safe boundary. -/
def State.commitApply (s : State) (p : Nat) : State :=
  let g := headPage p
  if (s.hd g).commitPending && s.boundary g (s.hd g).commitNs then s.commitNow g else s

/-! ### Stopping and starting (R37, R487) -/

/-- Instances the entries place on a core pair. -/
def State.pairInsts (s : State) (p : Nat) : List Nat := s.usedInsts.filter (fun i => iPair (s.iw i 0) == p)

/-- Everything an instance does ends at once. -/
def State.halt (s : State) (g : Nat) : State :=
  let s := match pageBlock g with
    | some (.mac, i) => s.macStopped i
    | some (.sva, _) => s.svaStopped
    | some (.flt, e) => s.fltStopAll e
    | some (.adc, c) => if (s.adc c).live then s.adcHalt c else s
    | some (.cyc, p) =>
      let s := (s.pairInsts p).foldl (fun (s : State) i =>
        if (s.inst i).state = 0 then s.updInst i (fun x => { x with startNs := none })
        else (s.updInst i (fun x => { x with stopReq := true })).instStopNow i) s
      if p = 0 then s.updCyc (fun c => { c with ticks := [], release := [], kerfDone := true, waiting := false }) else s
    | some (.tal, e) => s.talHalt e
    | some (.dfo, _) => s.dfoStopped
    | some (.acq, _) => s.acqHalt
    | some (.dup, _) => s.dupStopped
    | _ => s
  s.stopEnd g

/-- CTRL.STOP on a STARTABLE page: the instance stops at its safe boundary. -/
def State.ctrlStop (s : State) (g : Nat) : State :=
  let wait (s : State) : State := if s.running g then s.updHd g (fun h => { h with stopNs := some s.ns }) else s
  match pageBlock g with
  | some (.flt, e) => (s.fltStop e).stopEnd g
  | some (.adc, c) =>
    let s := s.adcStop c
    if (s.adc c).stopping then wait s else s.stopEnd g
  | some (.cyc, p) =>
    wait ((s.pairInsts p).foldl (fun (s : State) i =>
      if (s.inst i).state = 0 then s.updInst i (fun x => { x with startNs := none }) else s.updInst i (fun x => { x with stopReq := true })) s)
  | some (.tal, e) => wait (s.talStopAll e)
  | some (.acq, _) => wait (iter 4 (fun n s => s.acqStop n) s)
  | _ => wait s

/-- A STOP that waits takes effect at the safe boundary, after a COMMIT that waits for the same one (R45). -/
def State.stopApply (s : State) (g : Nat) : State :=
  match (s.hd g).stopNs with
  | none => s
  | some t =>
    if s.boundary g t then
      let s := s.commitApply g
      let s := if g = pSVA then s.svaStopped else s
      s.stopEnd g
    else s

/-- CTRL.START on a STARTABLE page (R42, R487): all of it starts or none. -/
def State.ctrlStart (s : State) (g : Nat) : State :=
  let ok (s : State) : State := (s.updHd g (fun h => { h with started := true, stopNs := none })).accept g
  let take (r : Nat ⊕ State) : State := match r with | .inl c => s.refuse g R.CTRL c | .inr t => ok t
  if !(s.hd g).enable then s.refuse g R.CTRL Err.range
  else if s.unusable g then s.refuse g R.CTRL Err.capFull
  else match pageBlock g with
    | some (.flt, e) => (match s.fltStartAll e with | .inl (c, t) => t.refuse g R.CTRL c | .inr t => ok t)
    | some (.adc, c) => if s.running g && !(s.adc c).stopping then ok s else take (s.adcStart c)
    | some (.tal, e) => take (s.talStartAll e)
    | some (.acq, _) => (match s.acqStartAll with | .inl (p, o, c) => s.refuse p o c | .inr t => ok t)
    | some (.cyc, p) =>
      (match (s.pairInsts p).findSome? (fun i => if (s.inst i).state = 0 then s.instCheck i else none) with
      | some c => s.refuse g R.CTRL c
      | none => ok ((s.pairInsts p).foldl (fun (s : State) i =>
        if (s.inst i).state = 0 then s.updInst i (fun x => { x with startNs := some s.ns, stopReq := false }) else s) s))
    | _ => ok s

/-- CTRL.ENABLE (R487): an engine that is clocked again runs from the next tick that becomes final; clearing it stops a running
instance at once and lets a pending COMMIT take effect; on the pages whose
blocks always run it only reads back. A pair whose EN is active begins at OFF when its page is clocked again. -/
def State.setEnable (s : State) (g : Nat) (b : Bool) : State :=
  let always := match pageBlock g with | some (k, _) => k.alwaysOn | none => true
  if b == (s.hd g).enable then s
  else if always then s.updHd g (fun h => { h with enable := b })
  else if b then
    let s := s.updHd g (fun h => { h with enable := true })
    let next := match s.lastFinal with | some k => k + 1 | none => 0
    let s := match pageBlock g with
      | some (.flt, e) => s.setFe e { s.fe e with fromTick := next }
      | some (.tal, e) => s.updTe e (fun x => { x with fromTick := next })
      | _ => s
    if g = pDUP then State.dupApplied (s.setAc pDUP R.DUP_CFG 0) s
    else if g = pACQ then { s with thrAcq := [], acqGoose := [] } else s
  else
    let s := (s.halt g).updHd g (fun h => { h with enable := false })
    if (s.hd g).commitPending then s.commitNow g else s

/-! ### SOFT_RESET (R38) -/

/-- Configuration registers a soft reset of their page keeps: TMP_CFG's class bits (R415), a locked watchdog (R440). -/
def State.softKeeps (s : State) (p : Nat) : Bool := p == pTMP || (p == pRST && bit (s.rg pRST R.RST_WDOG_CFG) 16)

/-- Configuration region of a page at its reset values, shadow and active. -/
def State.softRegs (s : State) (p : Nat) : State :=
  if s.softKeeps p then s
  else
    let lo := ka p 0x040
    let hi := ka p 0x400
    { s with regs := sclear lo hi s.regs, acts := sclear lo hi s.acts, held := sclear lo hi s.held }

/-- What a soft reset does beyond registers and header, by block. -/
def State.softBlock (old s : State) (g : Nat) : State :=
  match pageBlock g with
  | some (.swc, _) => State.swcApplied old s
  | some (.flt, e) => s.fltActivate e old
  | some (.tsu, _) =>
    let s := [R.TSU_UTC_OFFSET, R.TSU_ADJ_RATE, R.TSU_ADJ_PHASE].foldl (fun s o => s.setRg pTSU o (old.rg pTSU o)) s.tsuSoft
    s.setAc pTSU R.TSU_UTC_OFFSET (old.ac pTSU R.TSU_UTC_OFFSET)
  | some (.mac, p) => s.macSoft p
  | some (.adc, c) => s.adcSoft c
  | _ => s

/-- CTRL.SOFT_RESET: no effect on a fenced instance and on HWS (R310). -/
def State.softReset (s : State) (g : Nat) : State :=
  if s.unusable g ∨ g = pHWS 0 then s
  else
    let old := s
    let s := if (s.hd g).enable || (pageCaps g).testBit 5 then s.halt g else s
    let s := (govPages g).foldl (fun s p =>
      (s.softRegs p).updHd p (fun h => { fenced := h.fenced, degraded := h.degraded, satSeen := h.satSeen })) s
    State.softBlock old s g

/-! ### Counters (R49, R50) -/

/-- An address of a counter of one of the pages. -/
def isCnt (ps : List Nat) (a : Nat) : Bool := ps.contains (a / 4096) && decide (0x800 ≤ a % 4096 ∧ a % 4096 < 0xA00)

/-- CTRL.CNT_SNAPSHOT: every live counter is copied in one step. -/
def State.snapshot (s : State) (g : Nat) : State :=
  let ps := govPages g
  let kept := s.snaps.filter (fun e => !isCnt ps e.1)
  let s := { s with snaps := (s.cnts.filter (fun e => isCnt ps e.1)).foldl (fun m e => sput e.1 e.2 m) kept }
  ps.foldl (fun s p => s.updHd p (fun h => { h with snapTag := tagOf s.tick })) s

/-- CTRL.CNT_CLEAR: every counter of the pages is 0, with what the chapters clear beside them. -/
def State.cntClear (s : State) (g : Nat) : State :=
  let ps := govPages g
  let s := { s with cnts := s.cnts.filter (fun e => !isCnt ps e.1) }
  let s := ps.foldl (fun s p => s.updHd p (fun h => { h with satSeen := false })) s
  match pageBlock g with
  | some (.swc, _) => s.updSwc (fun c => { c with minFree := s.lndFree })
  | some (.sva, _) => s.svaCntClear
  | some (.cyc, p) => s.cycCntClear p
  | some (.skd, k) => s.setSkd k { s.skd k with peakRd := 0, peakWr := 0 }
  | some (.dfo, _) => { s with dfos := s.dfos.map (fun e => (e.1, { e.2 with lossSeen := false })) }
  | some (.cru, _) => iter 4 (fun m s => s.setRg pCRU (R.CRU_LAP_MAX + 16 * m) 0) s
  | _ => s

/-! ### CTRL (R37, R46) -/

/-- A write of CTRL by Vehus or the host. -/
def State.ctrlWrite (s : State) (p : Nat) (v : Word) : State :=
  let g := headPage p
  let view (s : State) : State := s.updHd p (fun h => { h with activeView := bit v 7 })
  if p ≠ g then view s
  else if bit v 4 then s.softReset g
  else
    let s := (view s).setEnable g (bit v 0)
    let startable := (pageCaps g).testBit 5
    let s := if bit v 3 then s.commit g else s
    let s :=
      if !startable then s
      else if bit v 1 && bit v 2 then s.refuse g R.CTRL Err.ctrlConflict
      else if bit v 2 then s.ctrlStop g
      else if bit v 1 then s.ctrlStart g
      else s
    let s := if bit v 6 then s.snapshot g else s
    if bit v 5 then s.cntClear g else s

/-! ### Interrupts and LOCK (R48, R52 to R55) -/

/-- IRQ_STATUS is W1C. -/
def State.irqClear (s : State) (p : Nat) (v : Word) : State := s.updHd p (fun h => { h with irqStatus := h.irqStatus &&& ~~~v })

/-- IRQ_FORCE sets bits as their events do; a reserved bit stays 0. -/
def State.irqForce (s : State) (p : Nat) (v : Word) : State :=
  s.updHd p (fun h => { h with irqStatus := h.irqStatus ||| v &&& irqMask p })

/-- On a VF's page only a vector that VF owns is accepted (R55). -/
def State.routeOk (s : State) (p : Nat) (v : Word) : Bool :=
  match pageBlock p with
  | some (.vfm, f) => f == 0 || (s.vec (fld v 0 8)).owner == f
  | _ => true

/-- IRQ_ROUTE. -/
def State.routeWrite (s : State) (p : Nat) (v : Word) : State :=
  if s.routeOk p v then s.updHd p (fun h => { h with routeEn := bit v 8, vector := fld v 0 8 })
  else s.refuse p R.IRQ_ROUTE Err.notOwner

/-- LOCK: the unlock sequence, or the relock (R48). The key is the field KEY [15:0]; what a write holds in the reserved bits [31:16] is not
compared (the model's choice, log 118). -/
def State.lockKey (s : State) (p : Nat) (v : Word) : State :=
  let g := headPage p
  if p ≠ g then s
  else
    let k := fld v 0 16
    s.updHd g (fun h =>
      if k = 0 then { h with lockSeen := false, unlocked := false }
      else if k = 0xA5A5 ∧ h.lockSeen then { h with lockSeen := false, unlocked := true, unlockClk := s.tsu.clk }
      else { h with lockSeen := decide (k = 0x5A5A) })

/-- LOCK_TIMEOUT: one second after the unlock. -/
def State.lockTimeout (s : State) (p : Nat) : State :=
  let g := headPage p
  if (s.hd g).unlocked && msClk 1000 ≤ s.since (s.hd g).unlockClk then s.updHd g (fun h => { h with unlocked := false }) else s

end Sys2Proof.Machine
end

