-- ==== Sys2Proof/Machine/Regs.lean ====
section
/-!
DEFINITION. Register accesses (R30 to R35, R40 to R48, R224): which offsets exist, what each read returns, what each write does
or is refused for, the command registers.
-/
namespace Sys2Proof.Machine

/-! ### Which registers exist (R30, R34, R35) -/

/-- An offset of the live counters or their snapshots as the live counter's offset. -/
def cntOff (off : Nat) : Nat := if 0xA00 ≤ off ∧ off < 0xC00 then off - 0x200 else off

/-- The row of a page a register offset belongs to; a snapshot belongs to its counter's row. -/
def rowOf (p off : Nat) : Option (RegDef × Nat × Bool) :=
  if 0xA00 ≤ off ∧ off < 0xC00 then
    (match regAt p (off - 0x200) with | some (r, i, hi) => if r.acc = .cnt then some (r, i, hi) else none | none => none)
  else regAt p off

/-- Offsets of a table window (R56). -/
def isWin (off : Nat) : Bool := off == R.TBL_ADDR || off == R.TBL_UPDATE || decide (R.TBL_DATA ≤ off ∧ off < R.TBL_DATA + 128)

/-- An offset of a page holds a register: the header, the rows of the block, the window. -/
def isReg (p off : Nat) : Bool :=
  off % 4 == 0 && (pageBlock p).isSome &&
    (decide (off < 0x030) || (rowOf p off).isSome || ((pageCaps p).testBit 2 && isWin off))

/-- Masters of accesses: 0 Vehus, 1 to 63 the software of a VF's instance, 64 the host window. -/
def isVf (m : Nat) : Bool := decide (1 ≤ m ∧ m ≤ 63)

/-- An address a master reaches a register at: instance software reaches its own VFM page only (R224). -/
def reaches (m a : Nat) : Bool := decide (a < 2 ^ 24) && isReg (a / 4096) (a % 4096) && (!isVf m || a / 4096 == pVFM m)

/-- An access that is not performed (R30, R60). -/
def State.badAccess (s : State) (a : Nat) : State := (s.touch (a / 4096)).bump 0 R.SYS_CNT_BAD_ACCESS

/-! ### Reads -/

/-- Registers that show a block's state. -/
def State.blockRo (s : State) (p off : Nat) : Option Word :=
  match pageBlock p with
  | none => none
  | some (b, i) =>
    match b with
    | .sys => s.sysRo off | .pwr => s.pwrRo off | .rst => s.rstRo off | .ksu => s.ksuRo off | .tmp => s.tmpRo off
    | .mem => s.memRo off | .cru => s.cruRo off | .tsu => s.tsuRo off | .mac => s.macRo i off | .swc => s.swcRo i off
    | .sva => s.svaRo i off | .flt => s.fltRo i off | .adc => s.adcRo i off | .cyc => s.cycRo i off | .vfm => s.vfmRo i off
    | .skd => s.skdRo i off | .tal => s.talRo i off | .dfo => s.dfoRo off | .hws => s.hwsRo i off | .acq => s.acqRo i off
    | .evr => s.evrRo off | .dup => s.dupRo off | .shf => s.shfRo off | .hlt => none

/-- FENCED of the unit a page serves: on a page of the Crosscut, its port's. -/
def State.shownFenced (s : State) (p : Nat) : Bool :=
  match pageBlock p with
  | some (.swc, i) => if 1 ≤ i ∧ i ≤ 10 then s.unusable (pMAC (i - 1)) else s.unusable pSWC
  | _ => s.unusable p

/-- STATUS of a page (R36, R46). -/
def State.status (s : State) (p : Nat) : Nat :=
  let g := headPage p
  let h := s.hd g
  let busy := h.busy || h.stopNs.isSome || (sget {} g s.wins).busy
  b2n (s.running g && h.stopNs.isNone) + b2n busy * 2 + b2n h.cfgErr * 4 + b2n h.commitPending * 8 + b2n h.degraded * 16 + b2n (s.shownFenced p) * 32

/-- PAGE_ID (R34, R36). -/
def pageId (p : Nat) : Nat :=
  match pageBlock p with | some (b, i) => b.code * 2 ^ 16 + i * 2 ^ 8 + 1 | none => 0

/-- A header register. -/
def State.hdrWord (s : State) (p off : Nat) : Word :=
  let g := s.hd (headPage p)
  let h := s.hd p
  if off = R.PAGE_ID then w32 (pageId p)
  else if off = R.PAGE_CAPS then w32 (pageCaps p)
  else if off = R.CTRL then w32 (b2n h.enable + b2n h.activeView * 128)
  else if off = R.STATUS then w32 (s.status p)
  else if off = R.IRQ_STATUS then h.irqStatus
  else if off = R.IRQ_ENABLE then h.irqEnable
  else if off = R.ERR_CODE then g.errCode
  else if off = R.LOCK then w32 (b2n g.lockSeen * 2 + b2n g.unlocked)
  else if off = R.IRQ_ROUTE then w32 (b2n h.routeEn * 256 + h.vector)
  else if off = R.CNT_SNAP_TAG then h.snapTag
  else if off = R.COMMIT_TAG then h.commitTag
  else 0

/-- A window register. -/
def State.winWord (s : State) (p off : Nat) : Word :=
  let w := sget {} p s.wins
  if off = R.TBL_ADDR then w32 w.addr
  else if off = R.TBL_UPDATE then w32 (b2n w.busy * 2 ^ 31)
  else sget 0 ((off - R.TBL_DATA) / 4) w.data

/-- The word a read of an existing register returns (R43, R49, R50). -/
def State.regWord (s : State) (p off : Nat) : Word :=
  if off < 0x030 then s.hdrWord p off
  else match rowOf p off with
    | none => s.winWord p off
    | some (r, _, hi) =>
      let half (n : Nat) : Word := w32 (if hi then n / 2 ^ 32 else n)
      let base := ka p (cntOff off - (if hi then 4 else 0))
      match r.acc with
      | .cnt => half (sget 0 base (if 0xA00 ≤ off then s.snaps else s.cnts))
      | .wo => 0
      | .rws => if (s.hd p).activeView then s.ac p off else s.rg p off
      | _ => (s.blockRo p off).getD (s.rg p off)

/-- A register is the low (false) or high word of a 64-bit register. -/
def wideAt (p off : Nat) : Option Bool := (rowOf p off).bind (fun x => if x.1.wide then some x.2.2 else none)

/-- Key of a master's latch. -/
def latKey (m a : Nat) : Nat := m * 2 ^ 24 + a

/-- A read of an existing register by a master (R31); ADC_DATA's read acts (R174). -/
def State.regRead (s : State) (m a : Nat) : State :=
  if !reaches m a then { s.badAccess a with rdata := 0 }
  else
    let p := a / 4096
    let off := a % 4096
    let lockWord := s.regWord p R.LOCK
    let s := s.touch p
    let isData := off = R.ADC_DATA && (p = pADC 0 || p = pADC 1)
    if isData then s.adcRead (p - pADC 0)
    else match wideAt p off with
      | none => { s with rdata := if off = R.LOCK then lockWord else s.regWord p off }
      | some false =>
        { s with rdata := s.regWord p off, lat := sput (latKey m (a + 4)) (s.regWord p (off + 4)) s.lat }
      | some true =>
        match s.lat.find? (fun e => e.1 == latKey m a) with
        | some e => { s with rdata := e.2, lat := sdel (latKey m a) s.lat }
        | none => { s with rdata := s.regWord p off }

/-! ### Command registers -/

/-- A write of a command register of the system, memory and time pages. -/
def State.cmdSystem (s : State) (p off : Nat) (v : Word) : Option State :=
  match pageBlock p with
  | some (.rst, _) =>
    if off = R.RST_CMD then some (if fld v 0 2 = 0 then s else s.ifUnlocked p off (fun s => s.rstCmd v))
    else if off = R.RST_WDOG_KICK then some (s.wdogKick v)
    else none
  | some (.ksu, _) => if off = R.KSU_CMD then some (s.ksuCmd (fld v 16 5) (fld v 8 8) (fld v 0 8)) else none
  | some (.tmp, _) =>
    if off = R.TMP_CMD then some (if bit v 0 then s.updTmp (fun t => { t with seen := 0 }) else s) else none
  | some (.mem, _) =>
    if off = R.MEM_INJ_CMD then some (if v &&& 0xFFFF03 = 0 then s.memInj v else s.ifUnlocked p off (fun s => s.memInj v))
    else if off = R.MEM_CMD then
      some (if bit v 0 then s.ifUnlocked p off (fun s => s.updMem (fun m => { m with clearSaved := true })) else s)
    else if off = R.MEM_LOG_POP then some (if bit v 0 then s.updMem (fun m => { m with log := m.log.drop 1 }) else s)
    else none
  | some (.tsu, _) =>
    if off = R.TSU_ADJ_RATE then some (s.adjRate v)
    else if off = R.TSU_ADJ_PHASE then some (s.adjPhase v)
    else if off = R.TSU_CMD then some (if bit v 1 then s.ifUnlocked p off (fun s => s.tsuCmd v) else s.tsuCmd v)
    else if off = R.TSU_TI_POP then some (s.tiPop v)
    else none
  | some (.evr, _) =>
    if off = R.EVR_POST_CMD then some (s.evrPost v)
    else if off = R.EVR_CMD then some (if bit v 0 then s.flushStart else s)
    else if off = R.EVR_PRIV_RELEASE then some (s.privRelease v)
    else none
  | some (.shf, _) =>
    if off = R.SHF_CMD then
      let n := fld v 0 6
      some (match fld v 16 2 with
        | 1 => s.ifUnlocked p off (fun s => s.forget n)
        | 2 => s.ackReset n
        | _ => s)
    else none
  | some (.hlt, _) =>
    if off = R.HLT_CMD then
      some (if v &&& 0x3001F = 0 then s else s.ifUnlocked p off (fun s => match fld v 16 2 with
        | 1 => s.hltRestart (fld v 0 5)
        | 2 => s.soReplaced (fld v 0 5)
        | 3 => s.refuse p off Err.range
        | _ => s))
    else none
  | _ => none

/-- A write of a command register of the signal pages. Of the bits of one write the lower acts first (log 115). -/
def State.cmdSignal (s : State) (p off : Nat) (v : Word) : Option State :=
  let on (i : Nat) (f : State → State) (s : State) : State := if bit v i then f s else s
  match pageBlock p with
  | some (.mac, i) =>
    if off = R.MAC_TSF_POP then some (on 0 (fun s => s.setMac i { s.mac i with tsf := (s.mac i).tsf.drop 1 }) s) else none
  | some (.sva, i) => if i = 2 ∧ off = R.SVA_STR_POP then some (on 0 State.strPop s) else none
  | some (.flt, e) =>
    if off = R.FLT_CHAIN_CMD then
      let c := fld v 0 7
      some (match fld v 16 2 with
        | 1 => s.chainStart e c off
        | 2 => s.chainStop e c
        | 3 => s.chainClearSat e c
        | _ => s)
    else if off = R.FLT_REF_CMD then some (s.fltRefCmd e v)
    else if off = R.FLT_EVT_POP then some (on 0 (fun s => s.setFe e { s.fe e with evts := (s.fe e).evts.drop 1 }) s)
    else none
  | some (.adc, c) =>
    if off = R.ADC_CMD then some (on 2 (fun s => s.shuntClose c) (on 1 (fun s => s.adcUrgent c off) (on 0 (fun s => s.adcCalStart c) s)))
    else none
  | some (.tal, e) =>
    if off = R.TAL_SAVE_CMD then
      some (if v &&& 0x3003F = 0 then s else s.saveCmd e (fld v 0 6) (fun s => match fld v 16 2 with
        | 1 => s.saveNow e
        | 2 => s.zeroPoint e (fld v 0 6)
        | 3 => s.acceptEmpty e
        | _ => s))
    else if off = R.TAL_PT_CMD then
      some (match fld v 16 2 with
        | 1 => s.talStart e (fld v 0 6)
        | 2 => s.talStop e (fld v 0 6)
        | 3 => s.talClearSat e (fld v 0 6)
        | _ => if 47 < fld v 0 6 then s.refuse p off Err.range else s)
    else none
  | some (.hws, i) =>
    if i = 0 ∧ off = R.HWS_CMD then some (if v &&& 0xFF01 = 0 then s else s.ifUnlocked p off (fun s => s.hwsCmd v)) else none
  | some (.acq, i) =>
    if i = 0 then
      (if off = R.ACQ_XTRIG_CMD then some (s.acqXtrig v)
      else if off = R.ACQ_CMD then some (on 0 State.acqRescan s)
      else if off = R.ACQ_REC_RELEASE then some (s.acqRelease v)
      else if off = R.ACQ_REC_POP then some (on 0 State.acqRecPop s)
      else none)
    else if off = R.ACQ_SET_CMD then
      let n := i - 1
      some (on 3 (fun s => s.acqResume n) (on 2 (fun s => s.acqManual n) (on 1 (fun s => s.acqStop n) (on 0 (fun s => s.acqStart n) s))))
    else none
  | some (.dup, _) =>
    if off = R.DUP_CMD then
      let f (s : State) : State := on 2 State.dupTake (on 1 State.dupSwap (on 0 State.dupResync s))
      some (if bit v 2 then s.ifUnlocked p off f else f s)
    else if off = R.DUP_INJ_CMD then some (on 0 State.dupInject s)
    else none
  | _ => none

/-- A write of a command register of the executor and the VFM. -/
def State.cmdExec (s : State) (p off : Nat) (v : Word) : Option State :=
  match pageBlock p with
  | some (.cyc, i) =>
    if i ≠ 0 then none
    else if off = R.CYC_INST_CMD then
      let n := fld v 0 6
      some (match fld v 16 2 with
        | 1 => s.instStart n off p
        | 2 => s.instStop n off p
        | 3 => s.instRestart n
        | _ => s)
    else if off = R.CYC_OLC_CMD then some (s.olcCmd v)
    else if off = R.CYC_PI_CMD then
      some (match fld v 0 2 with
        | 1 => s.piRead
        | 2 => s.piWrite (bit v 8)
        | 3 => s.piDir
        | _ => s)
    else none
  | some (.vfm, f) =>
    if off = R.VFM_VF_CMD then
      some (match fld v 0 3 with
        | 0 => s
        | 1 => s.vfReset f false (fun s => s.migAbortReset f)
        | 2 => s.vfReset f true (fun s => s.migAbortReset f)
        | 3 => s.swapLog f
        | 4 => s.migArm f
        | 5 => s.migAbortCmd f
        | _ => s.refuse p off Err.range)
    else if f = 0 ∧ off = R.VFM_QP_CMD then
      some (match fld v 0 2 with
        | 1 => s.qpRestart (fld v 16 8)
        | 2 => s.qpStop (fld v 16 8)
        | _ => s)
    else if R.VFM_QP_TX_TAIL ≤ off ∧ off < R.VFM_QP_TX_TAIL + 0x80 ∧ off % 16 < 8 then
      some (s.tailWrite f ((off - R.VFM_QP_TX_TAIL) / 16) (off % 16 / 4) (v.toNat % 4096))
    else none
  | _ => none

/-- A write of a register whose write is a command. -/
def State.cmdWrite (s : State) (p off : Nat) (v : Word) : Option State :=
  (s.cmdSystem p off v).orElse (fun _ => (s.cmdSignal p off v).orElse (fun _ => s.cmdExec p off v))

/-! ### Writes of registers that hold their value (R40, R43, R45, R48) -/

/-- What a register holds, for the comparison of R48. -/
def State.held32 (s : State) (p off : Nat) : Word := if p = pSHF ∧ off = R.SHF_ROLE_OVR then w32 s.shf.ovr else s.rg p off

/-- A write that a protected field refuses while its page is locked (R48); RST_WDOG_CFG once its LOCKED bit is 1 (R440). -/
def State.wrLocked (s : State) (p : Nat) (r : RegDef) (ws : List (Nat × Word)) : Bool :=
  (!(s.hd (headPage p)).unlocked && ws.any (fun w => (w.2 ^^^ s.held32 p w.1) &&& w32 r.prot != 0)) ||
    (p == pRST && ws.any (fun w => w.1 == R.RST_WDOG_CFG) && bit (s.rg pRST R.RST_WDOG_CFG) 16)

/-- A value refused with RANGE at the write itself: the ranges of RW registers, MAC_CFG (R64), the PLAUS registers of ADCB (R176),
KSU_ADDR outside DRAM and system SRAM. -/
def wrRange (p off : Nat) (r : RegDef) (v : Word) (full : Nat) : Bool :=
  match pageBlock p with
  | some (.mac, i) => off == R.MAC_CFG && macCfgBad i v
  | some (.adc, 1) => off == R.ADC_PLAUS_CFG || off == R.ADC_PLAUS_TOL
  | some (.ksu, _) => off == R.KSU_ADDR + 4 && (match memOf full with | some (0, _) | some (3, _) => false | _ => true)
  | _ => r.acc == .rw && r.rngs.any (fun g => (g.bad v).isSome)

/-- The value a write stores: TMP_CFG's class bits are set and never cleared (R415), W1C bits are cleared. -/
def State.wrValue (s : State) (p off : Nat) (r : RegDef) (v : Word) : Word :=
  if r.acc = .w1c then s.rg p off &&& ~~~v
  else if p = pTMP ∧ off = R.TMP_CFG then s.tmpCfgWrite v
  else v

/-- A ring route names only a vector its function owns (R238, R55). -/
def State.ringRouteBad (s : State) (p off : Nat) (v : Word) : Bool :=
  decide (R.VFM_QP_ROUTE ≤ off ∧ off < R.VFM_QP_ROUTE + 32) && (match pageBlock p with | some (.vfm, _) => !s.routeOk p v | _ => false)

/-- The words a write makes the register take: a low word is held for the high word (R31). -/
def State.wrWords (s : State) (p off : Nat) (r : RegDef) (hi : Bool) (v : Word) : List (Nat × Word) :=
  let v := v &&& w32 (if hi then r.maskHi else r.mask)
  if hi then
    let low := match s.held.find? (fun e => e.1 == ka p (off - 4)) with | some e => e.2 &&& w32 r.mask | none => s.rg p (off - 4)
    [(off - 4, low), (off, v)]
  else [(off, s.wrValue p off r v)]

/-- A write of a register that holds its value. Refusals in the order LOCKED, COMMIT_BUSY, RANGE. -/
def State.holdWrite (s : State) (p off : Nat) (r : RegDef) (hi : Bool) (v : Word) : State :=
  let ws := s.wrWords p off r hi v
  let full := (ws.zipIdx.map (fun w => w.1.2.toNat * 2 ^ (32 * w.2))).sum
  if r.acc = .ro ∨ r.acc = .cnt then s
  else if r.acc = .rws ∧ (s.hd (headPage p)).commitPending then
    s.refuse p off (if s.wrLocked p r ws then Err.locked else Err.commitBusy)
  else if r.wide ∧ !hi then { s with held := sput (ka p off) v s.held }
  else if s.wrLocked p r ws then s.refuse p off Err.locked
  else if wrRange p off r v full then s.refuse p off Err.range
  else if s.ringRouteBad p off v then s.refuse p off Err.notOwner
  else
    let s := if hi then { s with held := sdel (ka p (off - 4)) s.held } else s
    if p = pSHF ∧ off = R.SHF_ROLE_OVR then s.updShf (fun h => { h with ovr := fld v 0 2 })
    else ws.foldl (fun s w => s.setRg p w.1 w.2) s

end Sys2Proof.Machine
end

