-- ==== Sys2Proof/Machine/TblMap.lean ====
section
/-!
DEFINITION. The writable bits of the words of table entries (R11, R89): a reserved or read-only bit of an entry keeps what it holds,
whatever a write gives.
-/
namespace Sys2Proof.Machine

/-- The mask of a word of an entry from the masks of its leading words; the words past them are reserved. -/
def maskAt (ms : List Nat) (d : Nat) : Word := BitVec.ofNat 32 ((ms[d / 4]?).getD 0)

/-- Writable bits of the word at an address of the table region; a table not named here has no reserved bits. -/
def tblMask (a : Nat) : Word :=
  if 0x00800000 ≤ a ∧ a < 0x00900000 then maskAt [0xFFFFFFFF, 0x8FFFFFFF, 0xEFFFFFFF, 0x1FF] (a % 32)
  else if 0x00900000 ≤ a ∧ a < 0x00910000 then maskAt [0x8000FFFF, 0x1FF] (a % 16)
  else if 0x00910000 ≤ a ∧ a < 0x0091C000 then maskAt [0xFF, 0xFFFFFFFF] (a % 8)
  else if 0x0091C000 ≤ a ∧ a < 0x0091D400 then 7
  else if 0x00920000 ≤ a ∧ a < 0x00928000 then maskAt [0xFFFF, 0x8000FFFF] (a % 8)
  else if 0x00960000 ≤ a ∧ a < 0x00970000 then maskAt [0xE0000003, 0xFF, 0xFFFFFFFF, 0xFFFFFFFF, 0xFFFFFFFF] (a % 64)
  else if 0x00A00000 ≤ a ∧ a < 0x00A10000 then
    maskAt ([0xBFFFFFFF, 0xFFFF0FFF, 0xFFFFFFFF, 0x07FF3FFF, 0x1FFFF, 0xFFFFFFFF, 0xFFFFFFFF, 0xFFFF, 0x7F] ++ List.replicate 16 0xFFFFFFFF)
      (a % 128)
  else if 0x00A10000 ≤ a ∧ a < 0x00A20000 then maskAt [0, 0xFFFFFFFF, 3] (a % 16)
  else if 0x00D40000 ≤ a ∧ a < 0x00D50000 then maskAt [0x800FFFFF, 0, 0, 0xFFFFFFFF, 0xFFFFFFFF, 0xFFFFFFFF] (a % 64)
  else if 0x00D50000 ≤ a ∧ a < 0x00D54000 then
    maskAt ([0x800F30FF, 0xFFFFFFFF, 0xFFFFFFFF, 0xFF, 0xFFFFFFFF, 0xFFFFFFFF, 0, 0] ++ List.replicate 8 0x1FFF) (a % 256)
  else if 0x00D54000 ≤ a ∧ a < 0x00D58000 then maskAt [0xBF000000, 0xFFFFFFFF, 0xFFFFFFFF] (a % 16)
  else if 0x00D58000 ≤ a ∧ a < 0x00D60000 then maskAt [0xBF030000, 0xFFFFFFFF, 0xFFFFFFFF] (a % 16)
  else if 0x00D60000 ≤ a ∧ a < 0x00D70000 then maskAt [0xFFFFF, 0xFFFFFFFF, 0xFFFFFFFF, 0xFFFFFFFF] (a % 16)
  else if 0x00D70000 ≤ a ∧ a < 0x00D70200 then maskAt [0xC00FFFFF, 0xFF] (a % 16)
  else if 0x00D80000 ≤ a ∧ a < 0x00DC0000 then
    maskAt ([0xC07FFFFF, 0xFFFFFFFF, 0xFFFFFFFF, 0xFFFF, 0x07E1FFFF, 0xFFFFF] ++ List.replicate 8 0xFFFFFFFF ++ [0xBFFFBFFF, 0xBFFFBFFF, 0x7F] ++
      List.replicate 16 0xFFFFFFFF) (a % 256)
  else if 0x00DC0000 ≤ a ∧ a < 0x00DC8000 then
    maskAt ([0xBF7F0100, 0xFFFFF, 0x1FFF, 0x7FFFF, 0xFFFF, 0x3FF] ++ List.replicate 8 0xFFFFFFFF) (a % 128)
  else if 0x00DF0000 ≤ a ∧ a < 0x00DF2000 then
    maskAt [0xBF070F00, 0x1FFF1FFF, 0xFFFFFFFF, 0xFFFFFFFF, 0xFFFFFFFF, 0xFFFFFFFF] (a % 32)
  else if 0x00E00000 ≤ a ∧ a < 0x00E10000 then maskAt [0xE0000000, 0x0FFFFFFF, 0x0FFFFFFF] (a % 16)
  else if 0x00E10000 ≤ a ∧ a < 0x00F10000 then
    let o := (a - 0x00E10000) % 0x20000
    if 0x4000 ≤ o ∧ o < 0x7000 then
      maskAt ([0x93000FFF, 0x0FFF03FF, 0xFF, 0x33F] ++ List.replicate 16 0xCFFFFFFF ++ List.replicate 8 0xC3FF7FFF ++ [0x80000000]) (o % 256)
    else if 0x1F800 ≤ o then maskAt [0x9F0FFFFF, 0xFFFF] (o % 8)
    else 0xFFFFFFFF
  else if 0x00F10000 ≤ a ∧ a < 0x00F10100 then maskAt [0xC3C0007F, 0xFFF] (a % 16)
  else if 0x00F10100 ≤ a ∧ a < 0x00F10200 then maskAt [0xFF0FFFFF, 0x07FF07FF] (a % 32)
  else if 0x00F20000 ≤ a ∧ a < 0x00F30000 then maskAt [0xE00FFFFF, 0xFFF, 0xFFFFFFFF] (a % 16)
  else if 0x00F30000 ≤ a ∧ a < 0x00F40000 then maskAt [0x800FFFFF, 0xFFFFFFFF] (a % 8)
  else if 0x00F40000 ≤ a ∧ a < 0x00F41000 then maskAt [0xFC3F1FFF, 0xFFFFFFFF, 0xFFFFFFFF] (a % 16)
  else if 0x00F41000 ≤ a ∧ a < 0x00F41400 then maskAt [0xE33F03FF, 0x00FF01FF] (a % 16)
  else if 0x00F50000 ≤ a ∧ a < 0x00F90000 then maskAt [0xFFFF, 0xFFFFFFFF, 0xFFFFFFFF] (a % 16)
  else if 0x00FA0000 ≤ a ∧ a < 0x00FA1000 then maskAt [0xFF000000, 0xFFFFFFFF, 0xFF, 0xFFFFFFFF] (a % 16)
  else if 0x00FA1000 ≤ a ∧ a < 0x00FA1100 then maskAt [0x800FFFFF] (a % 8)
  else if 0x00FC0000 ≤ a ∧ a < 0x00FC3200 then maskAt [0x80000000, 0xFFFFFFFF, 0xFF] (a % 16)
  else 0xFFFFFFFF

end Sys2Proof.Machine
end

