-- ==== Sys2Proof/Machine/Tables.lean ====
section
/-!
DEFINITION. Table windows (R33, R53, R56 to R58): the tables behind each page's window, reads, checked writes in segments, and
the moment an entry takes effect; the interrupt vector table.
-/
namespace Sys2Proof.Machine

/-! ### The tables behind a window -/

/-- A table: first address, end, bytes of an entry, read-only, entries protected under R48. -/
structure Tab where
  base : Nat
  stop : Nat
  size : Nat
  ro : Bool := false
  prot : Bool := false
  deriving DecidableEq, Repr

/-- Base of the vector table in the SYS window (log 117). -/
abbrev vecBase : Nat := 0x00FB0000

/-- The tables a page's window reaches. -/
def winTabs (p : Nat) : List Tab :=
  match pageBlock p with
  | some (.sys, _) => [{ base := vecBase, stop := vecBase + 0x1000, size := 16 }]
  | some (.ksu, _) =>
    [{ base := 0x00FD0000, stop := 0x00FD2000, size := 32, prot := true },
      { base := 0x00FD2000, stop := 0x00FD2180, size := 48, ro := true }]
  | some (.tmp, _) => [{ base := 0x00FD4000, stop := 0x00FD4400, size := 32, ro := true }]
  | some (.mem, _) => [{ base := 0x00FC0000, stop := 0x00FC3200, size := 16 }]
  | some (.mac, i) =>
    [{ base := 0x00960000 + (if i = 8 then 6 else i) * 0x2000, stop := 0x00960000 + (if i = 8 then 6 else i) * 0x2000 + 0x2000, size := 64 }]
  | some (.swc, _) =>
    [{ base := 0x00800000, stop := 0x00900000, size := 32 }, { base := 0x00900000, stop := 0x00910000, size := 16 },
      { base := 0x00910000, stop := 0x0091C000, size := 8 }, { base := 0x0091C000, stop := 0x0091D400, size := 4 },
      { base := 0x00920000, stop := 0x00928000, size := 8 }, { base := 0x00928000, stop := 0x00930000, size := 32, ro := true },
      { base := 0x00930000, stop := 0x00950000, size := 32, ro := true }]
  | some (.sva, _) =>
    [{ base := 0x00A00000, stop := 0x00A10000, size := 128 }, { base := 0x00A10000, stop := 0x00A20000, size := 16 },
      { base := 0x00A20000, stop := 0x00A28000, size := 64, ro := true }, { base := 0x00A30000, stop := 0x00A31000, size := 64, ro := true },
      { base := 0x00A40000, stop := 0x00B40000, size := 8, ro := true }]
  | some (.flt, e) =>
    [{ base := 0x00B40000 + e * 0x4000, stop := 0x00B40000 + (e + 1) * 0x4000, size := 128 },
      { base := 0x00C40000 + e * 0x2000, stop := 0x00C40000 + (e + 1) * 0x2000, size := 4 },
      { base := 0x00CC0000, stop := 0x00D40000, size := 16, ro := true }]
  | some (.cyc, _) =>
    [{ base := 0x00D40000, stop := 0x00D50000, size := 64, prot := true }, { base := 0x00D50000, stop := 0x00D54000, size := 256 },
      { base := 0x00D54000, stop := 0x00D58000, size := 16 }, { base := 0x00D58000, stop := 0x00D60000, size := 16 },
      { base := 0x00D60000, stop := 0x00D70000, size := 16 }, { base := 0x00D70000, stop := 0x00D70200, size := 16 },
      { base := 0x00D80000, stop := 0x00DC0000, size := 256 }, { base := 0x00DC0000, stop := 0x00DC8000, size := 128 },
      { base := 0x00DD0000, stop := 0x00DF0000, size := 512 }]
  | some (.vfm, _) =>
    [{ base := 0x00DF0000, stop := 0x00DF2000, size := 32 }, { base := 0x00DF2000, stop := 0x00DF4000, size := 32 },
      { base := 0x00E00000, stop := 0x00E10000, size := 16 }]
  | some (.tal, e) =>
    let b := 0x00E10000 + e * 0x20000
    [{ base := b, stop := b + 0x4000, size := 4, prot := true }, { base := b + 0x4000, stop := b + 0x7000, size := 256, prot := true },
      { base := b + 0x7000, stop := b + 0x9000, size := 8, prot := true }, { base := b + 0x9000, stop := b + 0xD000, size := 4, prot := true },
      { base := b + 0xD000, stop := b + 0x15000, size := 128, prot := true },
      { base := b + 0x15000, stop := b + 0x1C800, size := 128, ro := true },
      { base := b + 0x1C800, stop := b + 0x1F800, size := 256, ro := true },
      { base := b + 0x1F800, stop := b + 0x20000, size := 8, prot := true }]
  | some (.hws, _) =>
    [{ base := 0x00F10000, stop := 0x00F10100, size := 16, prot := true }, { base := 0x00F10100, stop := 0x00F10200, size := 32, prot := true },
      { base := 0x00F10400, stop := 0x00F10500, size := 16, ro := true }, { base := 0x00F10500, stop := 0x00F10600, size := 32, ro := true },
      { base := 0x00F10800, stop := 0x00F10900, size := 16, ro := true }, { base := 0x00F10900, stop := 0x00F10A00, size := 32, ro := true }]
  | some (.acq, _) =>
    [{ base := 0x00F20000, stop := 0x00F30000, size := 16 }, { base := 0x00F30000, stop := 0x00F40000, size := 8 },
      { base := 0x00F40000, stop := 0x00F41000, size := 16 }, { base := 0x00F41000, stop := 0x00F41400, size := 16 },
      { base := 0x00F50000, stop := 0x00F90000, size := 16 }]
  | some (.evr, _) => [{ base := 0x00F90000, stop := 0x00FA0000, size := 128, ro := true }]
  | some (.dup, _) =>
    [{ base := 0x00FA0000, stop := 0x00FA1000, size := 16 }, { base := 0x00FA1000, stop := 0x00FA1100, size := 8 },
      { base := 0x00FA1100, stop := 0x00FA1140, size := 64 }]
  | some (.shf, _) => [{ base := 0x00FE0000, stop := 0x00FE2000, size := 128, ro := true }]
  | some (.hlt, _) => [{ base := 0x00FF0000, stop := 0x00FF0600, size := 64, ro := true }]
  | _ => []

/-- The table, entry address and segment a TBL_ADDR names: the entry's own address, or that of a segment of 128 bytes (R56, R57). -/
def tabAt (p a : Nat) : Option (Tab × Nat × Nat) :=
  match (winTabs p).find? (fun t => t.base ≤ a && a < t.stop) with
  | none => none
  | some t =>
    let d := (a - t.base) % t.size
    if d = 0 then some (t, a, 0)
    else if 128 < t.size ∧ d % 128 = 0 then some (t, a - d, d / 128) else none

/-- Words one operation moves of an entry. -/
def Tab.words (t : Tab) : Nat := min 32 (t.size / 4)

/-! ### The vector table (R53 to R55) -/

/-- A vector entry's word: MASK [31], PENDING [30], HOST_IDX [20:16], TARGET [9:8], OWNER [5:0] (log 117). -/
def State.vecTblWord (s : State) (a : Nat) : Option Word :=
  if (a - vecBase) % 16 = 0 then
    let x := s.vec ((a - vecBase) / 16)
    some (w32 (b2n x.mask * 2 ^ 31 + b2n x.pending * 2 ^ 30 + x.hostIdx * 2 ^ 16 + x.target * 2 ^ 8 + x.owner))
  else some 0

/-- A vector entry's write: TARGET 0 to 2, at most 8 vectors for a VF, a VF the ordering code has. -/
def State.vecCheck (s : State) (v : Nat) (w : Word) : Option Nat :=
  let o := fld w 0 6
  let others := ((List.range 256).filter (fun n => n != v && (s.vec n).owner == o)).length
  if fld w 8 2 = 3 then some Err.range
  else if o ≠ 0 ∧ (8 ≤ others ∨ s.absent (pVFM o)) then some Err.capFull
  else none

/-- Routes of a page or a ring to a vector are cleared (R55). -/
def State.unroute (s : State) (v : Nat) : State :=
  let s := (s.hdrs.filter (fun e => e.2.routeEn && e.2.vector == v)).foldl
    (fun s e => s.updHd e.1 (fun h => { h with routeEn := false })) s
  (List.range 64).foldl (fun s f => (List.range 8).foldl (fun s l =>
    let w := s.rg (pVFM f) (R.VFM_QP_ROUTE + 4 * l)
    if bit w 8 && fld w 0 8 == v then s.setRg (pVFM f) (R.VFM_QP_ROUTE + 4 * l) (setBit w 8 false) else s) s) s

/-- A vector entry takes effect: a vector taken back from a VF loses its routes, a cleared MASK sends what is pending (R54, R55). -/
def State.vecWritten (s : State) (v : Nat) (w : Word) : State :=
  let x := s.vec v
  let y : Vec := { owner := fld w 0 6, target := fld w 8 2, mask := bit w 31, pending := x.pending, hostIdx := fld w 16 5 }
  let s := if x.owner ≠ 0 ∧ y.owner ≠ x.owner then s.unroute v else s
  let s := s.setVec v y
  if y.pending && s.vecOpen y then (s.setVec v { y with pending := false }).vecSend v y else s

/-! ### What an entry reads as -/

/-- A table word as a window of page `p` shows it. -/
def State.tblWord (s : State) (p a : Nat) : Word :=
  let r := match pageBlock p with
    | some (.sys, _) => s.vecTblWord a
    | some (.ksu, _) => s.ksuTblWord a
    | some (.tmp, _) => s.tmpTblWord a
    | some (.swc, _) => s.swcTblWord a
    | some (.sva, _) => s.svaTblWord a
    | some (.flt, _) => s.fltTblWord a
    | some (.cyc, _) => (s.cycTblWord a (s.hd p).activeView).orElse (fun _ => s.gooseTblWord a)
    | some (.vfm, _) => s.vfmTblWord a
    | some (.tal, e) => s.talTblWord e (a - (0x00E10000 + e * 0x20000))
    | some (.hws, _) => s.hwsTblWord a
    | some (.evr, _) => s.evrTblWord a
    | some (.shf, _) => s.shfTblWord a
    | some (.hlt, _) => s.hltTblWord a
    | _ => none
  r.getD (s.tw a)

/-- Successive words as a window shows them. -/
def State.tblWords (s : State) (p a n : Nat) : List Word := (List.range n).map (fun i => s.tblWord p (a + 4 * i))

/-! ### Checks of a whole entry and its effect -/

/-- The owning block's check of an entry write: the code of a refusal. -/
def State.entryCheck (s : State) (p a : Nat) (ws : List Word) : Option Nat :=
  let w0 := (ws[0]?).getD 0
  match pageBlock p with
  | some (.sys, _) => s.vecCheck ((a - vecBase) / 16) w0
  | some (.ksu, _) => s.slotCheck ((a - 0x00FD0000) / 32) ws
  | some (.mem, _) => s.remapWrCheck a ws
  | some (.mac, i) => saCheck (s.keyDest (fld ((ws[1]?).getD 0) 0 8) (macsecDest i)) ws
  | some (.swc, _) => s.swcTblCheck a ws
  | some (.sva, _) => if a < 0x00A10000 then s.subCheck ((a - 0x00A00000) / 128) ws else if a < 0x00A20000 then s.chanCheck a else none
  | some (.flt, e) =>
    if a < 0x00C40000 then s.chainWrCheck e ((a - 0x00B40000) / 128 % 128) ws
    else s.coefWrCheck e ((a - 0x00C40000) % 0x2000 / 4) w0
  | some (.cyc, _) =>
    if a < 0x00D50000 then s.forceCheck ((a - 0x00D40000) / 64) ws
    else if a < 0x00D54000 then s.instWrCheck ((a - 0x00D50000) / 256) ws
    else if a < 0x00D80000 then s.cycWrCheck a w0
    else if a < 0x00DC0000 then s.gsubCheck ((a - 0x00D80000) / 256) ws
    else if a < 0x00DD0000 then s.gpubCheck ((a - 0x00DC0000) / 128) ws
    else none
  | some (.vfm, _) =>
    if a < 0x00DF2000 then s.qpCheck ((a - 0x00DF0000) / 32) ws
    else if a < 0x00E00000 then none
    else s.winCheck ((a - 0x00E00000) / 0x400) ws
  | some (.tal, e) => s.talWrCheck e (a - (0x00E10000 + e * 0x20000)) ws
  | some (.acq, _) => s.acqWrCheck a ws
  | some (.dup, _) => s.dupWrCheck a ws
  | _ => none

/-- The entry changes as one, and what follows from it (R56, R58). -/
def State.entryWritten (s : State) (p a : Nat) (ws : List Word) : State :=
  let put (s : State) : State := s.setTws a ws
  match pageBlock p with
  | some (.sys, _) => s.vecWritten ((a - vecBase) / 16) ((ws[0]?).getD 0)
  | some (.ksu, _) => s.slotWritten ((a - 0x00FD0000) / 32) ws
  | some (.mem, _) => (put s).remapWritten a
  | some (.mac, i) => (put s).saWritten i a
  | some (.swc, _) => (put s).swcWritten a
  | some (.sva, _) => if a < 0x00A10000 then (put s).subWritten ((a - 0x00A00000) / 128) else put s
  | some (.flt, e) =>
    if a < 0x00C40000 then
      let c := (a - 0x00B40000) / 128 % 128
      let old := s.chainW e c
      (put s).chainWritten e c old
    else put s
  | some (.cyc, _) =>
    if a < 0x00D50000 then (put s).forceWritten ((a - 0x00D40000) / 64)
    else if a < 0x00D80000 then put s
    else if a < 0x00DC0000 then (put s).gsubWritten ((a - 0x00D80000) / 256)
    else if a < 0x00DD0000 then (put s).gpubWritten ((a - 0x00DC0000) / 128)
    else put s
  | some (.acq, _) => (put s).acqWritten a
  | _ => put s

/-- A page of a tally engine. -/
def isTal (p : Nat) : Bool := match pageBlock p with | some (.tal, _) => true | _ => false

/-- Every accepted write of a TAL table is recorded (R267). -/
def State.entryNoted (s : State) (p a : Nat) : State :=
  match pageBlock p with
  | some (.tal, e) => s.talRec 1 e a
  | _ => s

/-! ### Operations of a window (R56, R57) -/

def State.win (s : State) (p : Nat) : TblWin := sget {} p s.wins
def State.setWin (s : State) (p : Nat) (w : TblWin) : State := { s with wins := sset {} p w s.wins }

/-- TBL_DATA from word 0. -/
def TblWin.load (w : TblWin) (ws : List Word) : TblWin :=
  { w with data := ws.zipIdx.foldl (fun d x => sset 0 x.2 x.1 d) w.data }

/-- `n` words of TBL_DATA. -/
def TblWin.take (w : TblWin) (n : Nat) : List Word := (List.range n).map (fun i => sget 0 i w.data)

/-- OP = 1. What a read buffers and what a write assembles are kept apart, so a read of segment 0 between two segment writes leaves the
assembly open (R57 speaks of one entry buffer; the model's choice, log 118). -/
def State.tblRead (s : State) (p : Nat) : State :=
  let w := s.win p
  if w.busy then s.refuse p R.TBL_UPDATE Err.tblBusy
  else match tabAt p w.addr with
    | none => s.refuse p R.TBL_ADDR Err.range
    | some (t, e, n) =>
      let live := s.tblWords p e (t.size / 4)
      let buf := if n = 0 then (if 128 < t.size then some (e, live) else w.buf) else w.buf
      let whole := match buf with | some (a, ws) => if a = e ∧ 128 < t.size then ws else live | none => live
      s.setWin p { w.load ((whole.drop (32 * n)).take t.words) with busy := true, buf := buf }

/-- A write refused: an assembly in progress is lost. -/
def State.tblRefuse (s : State) (p off code : Nat) : State := (s.setWin p { s.win p with asm := none }).refuse p off code

/-- A unit of a page that refuses writes of its tables while it is fenced (R26). -/
def State.tblFenced (s : State) (p : Nat) : Bool :=
  match pageBlock p with
  | some (.mac, _) | some (.flt, _) | some (.tal, _) => s.unusable p
  | _ => false

/-- An entry as a write leaves it: reserved and read-only bits keep what they hold (R11). -/
def State.maskEntry (s : State) (a : Nat) (ws : List Word) : List Word :=
  if 0x00B40000 ≤ a ∧ a < 0x00C40000 then ws.zipIdx.map (fun x => x.1 &&& chainMask ws x.2)
  else ws.zipIdx.map (fun x => let m := tblMask (a + 4 * x.2); s.tw (a + 4 * x.2) &&& ~~~m ||| x.1 &&& m)

/-- A table with shadowed fields, of a page whose COMMIT waits, takes no write (R45, R56): the entries of the function instances. -/
def State.tblCommitting (s : State) (p a : Nat) : Bool :=
  (s.hd (headPage p)).commitPending && decide (0x00D50000 ≤ a ∧ a < 0x00D54000)

/-- OP = 2. -/
def State.tblWrite (s : State) (p : Nat) : State :=
  let w := s.win p
  if w.busy then s.refuse p R.TBL_UPDATE Err.tblBusy
  else if s.tblFenced p then s.tblRefuse p R.TBL_UPDATE Err.capFull
  else match tabAt p w.addr with
    | none => s.tblRefuse p R.TBL_ADDR Err.range
    | some (t, e, n) =>
      let open_ := match w.asm with | some (a, ws) => a == e && ws.length == 32 * n | none => n == 0
      let all := (if n = 0 then [] else (w.asm.map (fun x => x.2)).getD []) ++ w.take t.words
      if t.ro then s.tblRefuse p R.TBL_ADDR Err.range
      else if t.prot && !(s.hd (headPage p)).unlocked then s.tblRefuse p R.TBL_UPDATE Err.locked
      else if s.tblCommitting p e then s.tblRefuse p R.TBL_UPDATE Err.commitBusy
      else if !open_ then s.tblRefuse p R.TBL_UPDATE Err.tblSeq
      else if 4 * all.length < t.size then s.setWin p { w with busy := true, asm := some (e, all) }
      else
        let all := s.maskEntry e all
        match s.entryCheck p e all with
        | some c => s.tblRefuse p R.TBL_UPDATE c
        | none => (s.setWin p { w with busy := true, asm := none, pend := some (e, all) }).entryNoted p e

/-- TBL_OP_DONE: BUSY clears and the entry takes effect; an accepted write that is recorded waits for its record to enter the queue
(R58, R267, R342). -/
def State.tblDone (s : State) (p : Nat) : State :=
  let w := s.win p
  if !w.busy then s
  else match w.pend with
    | none => s.setWin p { w with busy := false }
    | some (e, ws) =>
      if isTal p && s.deckWaits p then s
      else (s.setWin p { w with busy := false, pend := none }).entryWritten p e ws

/-- A write of a window register. -/
def State.winWrite (s : State) (p off : Nat) (v : Word) : State :=
  if off = R.TBL_ADDR then s.setWin p { s.win p with addr := v.toNat }
  else if off = R.TBL_UPDATE then
    match fld v 0 2 with
    | 0 => s
    | 1 => s.tblRead p
    | 2 => s.tblWrite p
    | _ => s.refuse p off Err.range
  else s.setWin p { s.win p with data := sset 0 ((off - R.TBL_DATA) / 4) v (s.win p).data }

/-! ### Every register write (R30, R32, R42, R224) -/

/-- What a VF may write on its own page (R224). -/
def State.vfMay (s : State) (p off : Nat) (v : Word) : Bool :=
  off == R.IRQ_STATUS || off == R.IRQ_ENABLE || off == R.IRQ_FORCE || off == R.IRQ_ROUTE || off == R.VFM_QP_EVT ||
    decide (R.VFM_QP_ROUTE ≤ off ∧ off < R.VFM_QP_ROUTE + 32) ||
    decide (R.VFM_QP_TX_TAIL ≤ off ∧ off < R.VFM_QP_TX_TAIL + 0x80 ∧ off % 16 < 8) ||
    (off == R.CTRL && fld v 1 5 == 0 && (!bit v 0 || (s.hd p).enable))

/-- A VF's write of CTRL: ACTIVE_VIEW and CNT_SNAPSHOT; ENABLE keeps (log 116). -/
def State.vfCtrl (s : State) (p : Nat) (v : Word) : State :=
  let s := s.updHd p (fun h => { h with activeView := bit v 7 })
  if bit v 6 then s.snapshot p else s

/-- A write of an existing header register but LOCK. -/
def State.hdrWrite (s : State) (m p off : Nat) (v : Word) : State :=
  if off = R.CTRL then (if isVf m then s.vfCtrl p v else s.ctrlWrite p v)
  else if off = R.IRQ_STATUS then s.irqClear p v
  else if off = R.IRQ_ENABLE then s.updHd p (fun h => { h with irqEnable := v &&& irqMask p })
  else if off = R.IRQ_FORCE then s.irqForce p v
  else if off = R.IRQ_ROUTE then s.routeWrite p v
  else s

/-- A 32-bit write by a master (0 Vehus, 1 to 63 a VF, 64 the host window). -/
def State.regWrite (s : State) (m a : Nat) (v : Word) : State :=
  let p := a / 4096
  let off := a % 4096
  if !reaches m a then s.badAccess a
  else if isVf m && !s.vfMay p off v then (s.touch p).refuse p off 0x40
  else if off = R.LOCK then s.lockKey p v
  else
    let s := s.touch p
    if off < 0x030 then s.hdrWrite m p off v
    else match rowOf p off with
      | none => s.winWrite p off v
      | some (r, _, hi) => (s.cmdWrite p off v).getD (s.holdWrite p off r hi v)

/-- An access of wrong width or alignment, or to a reserved address (R30): no write, 0 for a read. -/
def State.oddAccess (s : State) (m a width : Nat) (wr : Bool) : State :=
  if width = 4 && reaches m a then s
  else
    let s := s.badAccess a
    if wr then s else { s with rdata := 0 }

end Sys2Proof.Machine
end

