-- ==== Sys2Proof/Machine/Access.lean ====
section
/-!
DEFINITION. The commands that are register accesses of every page (chapter 2): a master, an address or a page, and the value.
-/
namespace Sys2Proof.Machine

/-- A write of CTRL with a command bit set. -/
def State.ctrlCmd (s : State) (m p : Nat) (v : Word) (i : Nat) : State := s.regWrite m (ka p R.CTRL) (setBit v i true)

/-- BAD_ACCESS (R30): an access of wrong width or alignment, or to a reserved page or offset. -/
def execBadAccess (m a width : Nat) (wr : Bool) (s : State) : Host.Outcome State Fault Refusal :=
  act State.onMain (fun s => s.oddAccess m a width wr) s

/-- REG_WRITE (R42). -/
def execRegWrite (m a : Nat) (v : Word) (s : State) : Host.Outcome State Fault Refusal :=
  act State.onMain (fun s => s.regWrite m a v) s

/-- REG64_LOW_READ (R31). -/
def execReg64LowRead (m a : Nat) (s : State) : Host.Outcome State Fault Refusal := act State.onMain (fun s => s.regRead m a) s

/-- REG64_HIGH_WRITE (R31). -/
def execReg64HighWrite (m a : Nat) (v : Word) (s : State) : Host.Outcome State Fault Refusal :=
  act State.onMain (fun s => s.regWrite m a v) s

/-- RWS_WRITE (R43). -/
def execRwsWrite (m a : Nat) (v : Word) (s : State) : Host.Outcome State Fault Refusal :=
  act State.onMain (fun s => s.regWrite m a v) s

/-- ENABLE (R487): a write of CTRL. -/
def execEnable (m p : Nat) (v : Word) (s : State) : Host.Outcome State Fault Refusal :=
  act State.onMain (fun s => s.regWrite m (ka p R.CTRL) v) s

/-- START (R487): CTRL[1]. -/
def execStart (m p : Nat) (v : Word) (s : State) : Host.Outcome State Fault Refusal :=
  act State.onMain (fun s => s.ctrlCmd m p v 1) s

/-- STOP (R37): CTRL[2]. -/
def execStop (m p : Nat) (v : Word) (s : State) : Host.Outcome State Fault Refusal :=
  act State.onMain (fun s => s.ctrlCmd m p v 2) s

/-- COMMIT (R44): CTRL[3]. -/
def execCommit (m p : Nat) (v : Word) (s : State) : Host.Outcome State Fault Refusal :=
  act State.onMain (fun s => s.ctrlCmd m p v 3) s

/-- SOFT_RESET (R38): CTRL[4]. -/
def execSoftReset (m p : Nat) (v : Word) (s : State) : Host.Outcome State Fault Refusal :=
  act State.onMain (fun s => s.ctrlCmd m p v 4) s

/-- CNT_CLEAR (R49): CTRL[5]. -/
def execCntClear (m p : Nat) (v : Word) (s : State) : Host.Outcome State Fault Refusal :=
  act State.onMain (fun s => s.ctrlCmd m p v 5) s

/-- CNT_SNAPSHOT (R50): CTRL[6]. -/
def execCntSnapshot (m p : Nat) (v : Word) (s : State) : Host.Outcome State Fault Refusal :=
  act State.onMain (fun s => s.ctrlCmd m p v 6) s

/-- COMMIT_APPLY (R44). -/
def execCommitApply (p : Nat) (s : State) : Host.Outcome State Fault Refusal := act State.onMain (fun s => s.commitApply p) s

/-- IRQ_STATUS_CLEAR (R54). -/
def execIrqStatusClear (m p : Nat) (v : Word) (s : State) : Host.Outcome State Fault Refusal :=
  act State.onMain (fun s => s.regWrite m (ka p R.IRQ_STATUS) v) s

/-- IRQ_FORCE (R52). -/
def execIrqForce (m p : Nat) (v : Word) (s : State) : Host.Outcome State Fault Refusal :=
  act State.onMain (fun s => s.regWrite m (ka p R.IRQ_FORCE) v) s

/-- IRQ_ROUTE_WRITE (R55). -/
def execIrqRouteWrite (m p : Nat) (v : Word) (s : State) : Host.Outcome State Fault Refusal :=
  act State.onMain (fun s => s.regWrite m (ka p R.IRQ_ROUTE) v) s

/-- LOCK (R48). -/
def execLockWrite (m p : Nat) (v : Word) (s : State) : Host.Outcome State Fault Refusal :=
  act State.onMain (fun s => s.regWrite m (ka p R.LOCK) v) s

/-- LOCK_TIMEOUT (R48). -/
def execLockTimeout (p : Nat) (s : State) : Host.Outcome State Fault Refusal := act State.onMain (fun s => s.lockTimeout p) s

/-- TBL_READ (R57): TBL_UPDATE.OP = 1. -/
def execTblRead (m p : Nat) (s : State) : Host.Outcome State Fault Refusal :=
  act State.onMain (fun s => s.regWrite m (ka p R.TBL_UPDATE) 1) s

/-- TBL_WRITE (R56): TBL_UPDATE.OP = 2. -/
def execTblWrite (m p : Nat) (s : State) : Host.Outcome State Fault Refusal :=
  act State.onMain (fun s => s.regWrite m (ka p R.TBL_UPDATE) 2) s

/-- PREPARE (R205): a write of CYC_OLC_CMD with bit 0 set; the bits of `v` above it act as that register's own. -/
def execPrepare (m : Nat) (v : Word) (s : State) : Host.Outcome State Fault Refusal :=
  act State.onMain (fun s => s.regWrite m (ka (pCYC 0) R.CYC_OLC_CMD) (setBit v 0 true)) s

/-- TBL_OP_DONE (R58). -/
def execTblOpDone (p : Nat) (s : State) : Host.Outcome State Fault Refusal := act State.onMain (fun s => s.tblDone p) s

end Sys2Proof.Machine
end

