-- ==== Sys2Proof/Machine/TickCmd.lean ====
section
/-!
DEFINITION. What a tick start, a cycle boundary and an edge at a capture input set off in every block (R17, R47, R95, R110,
R173, R182, R324).
-/
namespace Sys2Proof.Machine

/-- Pages whose waiting STOP ends at a tick boundary (R47). -/
def tickPages : List Nat := [pSVA] ++ (List.range 8).map pTAL ++ [pACQ]

/-- Pages whose waiting COMMIT takes effect at a tick boundary, before any work of the tick that starts there (R47). -/
def commitPages : List Nat := tickPages ++ [pDFO, pDUP]

/-- A tick start in the islands fed from VMAIN: commits and stops that waited, then the close, the converters, the executor, the pulse
outputs, the pair, the repeat of the GOOSE vector (R306). -/
def State.mainTick (s : State) : State :=
  let s := commitPages.foldl (fun (s : State) p => s.commitApply p) s
  let s := tickPages.foldl (fun (s : State) p => s.stopApply p) s
  s.acqBegin.talNote.svaTick.adcTick.cycTick.dfoTick.dupTickStart.sendGooseVec

/-- TICK_START: when the start of the next tick is due, the TSU issues it to every island. -/
def State.tickStart (s : State) : State :=
  if !s.tickDue then s
  else
    let s := s.tsuTick.commitApply pTSU
    let s := if s.onMain then s.mainTick else s
    s.hwsTick.rtcSecond

/-- CYCLE_START: the boundary, and the commits and stops of the core pairs that waited for it (R45, R47). -/
def State.cycleBound (s : State) : State :=
  if s.cycDue.isNone then s
  else ((List.range 16).foldl (fun (s : State) p => (s.commitApply (pCYC p)).stopApply (pCYC p)) s.cycleStart).talNote

/-- An edge at a capture input: one the FIFO takes requests the urgent conversions (R173), and every one, also where the FIFO is full, the
triggers that name the input (R324). -/
def State.tiEdge (s : State) (n : Nat) (falling : Bool) (width : Nat) : State :=
  let fifo (s : State) : Nat := ((s.tsu.ins[n]?).getD {}).fifo.length
  let t := s.tiCapture n falling width
  if !t.onMain || !s.tiSelected n falling width || s.tiNear n then t
  else (if fifo s < fifo t then t.adcEdge n else t).acqTiEdge n

/-- The entries of a capture FIFO. -/
def State.tiLen (s : State) (n : Nat) : Nat := ((s.tsu.ins[n]?).getD {}).fifo.length

/-- TO0 and TI0 share the SMA jack: an edge that TO0 drives, from `s` to `t`, is captured at TI0; `width` is that of the pulse it begins
(R470). -/
def State.ownEdge (s t : State) (n width : Nat) : State :=
  if n = 0 && s.toPin 0 != t.toPin 0 then t.tiEdge 0 (!t.toPin 0) width else t

/-- An edge from outside at the jack that TO0 drives: the time it is captured with is undefined (R470). -/
def State.tiContend (s : State) (falling : Bool) (width : Nat) : State :=
  let t := s.tiEdge 0 falling width
  if t.tiLen 0 ≤ s.tiLen 0 then t
  else
    let a := t.freeWord
    let b := a.2.freeWord
    b.2.updTsu (fun u =>
      let i : TimeIn := (u.ins[0]?).getD {}
      { u with ins := u.ins.set 0 { i with fifo := i.fifo.dropLast ++
          [{ sec := a.1.toNat, ns := b.1.toNat % 1000000000, frac := b.1.toNat / 2 ^ 28, falling := falling }] } })

/-! ### The commands -/

/-- TO_EDGE (R108). -/
def execToEdge (n : Nat) (s : State) : Host.Outcome State Fault Refusal :=
  act State.onTime (fun s => s.ownEdge (s.toEdge n) n (s.toWidth n)) s

/-- TO_PULSE_END (R108): the level it returns to lasts to the next edge. -/
def execToPulseEnd (n : Nat) (s : State) : Host.Outcome State Fault Refusal :=
  act State.onTime (fun s =>
    s.ownEdge (s.toPulseEnd n) n (if s.toMode n = 2 then s.toPeriod n - s.toWidth n else 2 ^ 32)) s

/-- TICK_START (R95). -/
def execTickStart (s : State) : Host.Outcome State Fault Refusal := act State.onTime State.tickStart s

/-- CYCLE_START (R182). -/
def execCycleStart (s : State) : Host.Outcome State Fault Refusal := act State.onMain State.cycleBound s

/-- TI_EDGE (R110) at input `n`: a pulse of `width` ns that begins with a rising or falling edge. -/
def execTiEdge (n : Nat) (falling : Bool) (width : Nat) (s : State) : Host.Outcome State Fault Refusal :=
  act State.onTime (fun s =>
    if n = 0 ∧ s.toMode 0 ≠ 0 then s.tiContend falling width else if n < 4 then s.tiEdge n falling width else s) s

end Sys2Proof.Machine
end

