-- ==== Sys2Proof/Machine/Window.lean ====
section
/-!
DEFINITION. The host window (R450 to R455): host requests at the manager's endpoint, WRITE and READ frames in both directions,
MSI-X.
-/
namespace Sys2Proof.Machine

def State.wq (s : State) (n : Nat) : WinQ := sget {} n s.shf.wins
def State.setWq (s : State) (n : Nat) (q : WinQ) : State := s.updShf (fun h => { h with wins := sset {} n q h.wins })

/-- Master of an access through the window. -/
abbrev hostMaster : Nat := 64

/-! ### Accesses performed on this module (R451, R30) -/

/-- An entry performed; a read's data. -/
def State.winDo (s : State) (o : WinOp) : State × List Nat :=
  match o with
  | .write a d => (s.regWrite hostMaster a (w32 d), [])
  | .read a => let s := s.regRead hostMaster a; (s, [s.rdata.toNat])
  | .bad a wr => (s.badAccess a, if wr then [] else [0])

/-- Entries performed in order. -/
def State.winPerform (s : State) : List WinOp → State × List Nat
  | [] => (s, [])
  | o :: os =>
    let (s, d) := s.winDo o
    let (s, ds) := s.winPerform os
    (s, d ++ ds)

/-- The entries a request splits into, in ascending address order. -/
def winOps (a : Nat) (wr : Bool) (dws : List HostDw) : List WinOp :=
  dws.zipIdx.map (fun x =>
    if !x.1.full then .bad (a + 4 * x.2) wr
    else if wr then .write (a + 4 * x.2) x.1.data
    else .read (a + 4 * x.2))

/-- An entry that returns data. -/
def opReads : WinOp → Bool
  | .read _ => true
  | .bad _ wr => !wr
  | .write _ _ => false

/-! ### Host reads (R452, R453) -/

/-- Data of a doubleword of a read arrives. -/
def State.readData (s : State) (tag i : Nat) (w : Word) : State :=
  match s.shf.reads.find? (fun r => r.tag == tag) with
  | none => s
  | some r =>
    let r := { r with data := r.data.set i (some w) }
    let rest := s.shf.reads.filter (fun x => x.tag != tag)
    if r.data.all Option.isSome then
      (s.updShf (fun h => { h with reads := rest })).emit (.hostRead tag (r.data.map (fun w => w.getD 0)))
    else s.updShf (fun h => { h with reads := rest ++ [r] })

/-- A read gives up: what has not come reads as ones (R453). -/
def State.readLost (s : State) (tag : Nat) : State :=
  match s.shf.reads.find? (fun r => r.tag == tag) with
  | none => s
  | some r =>
    let s := s.updShf (fun h => { h with reads := h.reads.filter (fun x => x.tag != tag) })
    ((s.bump pSHF R.SHF_CNT_RD_TIMEOUT).irq pSHF 5).emit (.hostRead tag (r.data.map (fun w => w.getD 0xFFFFFFFF)))

/-! ### MSI-X table (R450, R455) -/

/-- A doubleword of BAR2. -/
def State.msixWord (s : State) (a : Nat) : Word :=
  if a < 0x8000 then
    let x := sget {} (a / 16) s.shf.msix
    match a % 16 / 4 with
    | 0 => w32 x.addr
    | 1 => w32 (x.addr / 2 ^ 32)
    | 2 => w32 x.data
    | _ => w32 (b2n x.mask)
  else if a < 0x8100 then
    w32 ((List.range 32).foldl (fun v i => v + b2n (sget {} ((a - 0x8000) / 4 * 32 + i) s.shf.msix).pend * 2 ^ i) 0)
  else 0

/-- A write of a doubleword of BAR2: clearing the mask of a pending entry sends its message. -/
def State.msixWrite (s : State) (a v : Nat) : State :=
  if 0x8000 ≤ a then s
  else
    let n := a / 16
    let x := sget {} n s.shf.msix
    let v := v % 2 ^ 32
    let y := match a % 16 / 4 with
      | 0 => { x with addr := x.addr / 2 ^ 32 * 2 ^ 32 + v }
      | 1 => { x with addr := x.addr % 2 ^ 32 + v * 2 ^ 32 }
      | 2 => { x with data := v }
      | _ => { x with mask := v % 2 == 1 }
    let go := y.pend && !y.mask
    let s := s.updShf (fun h => { h with msix := sset {} n { y with pend := y.pend && !go } h.msix })
    if go then s.emit (.msix n y.addr y.data) else s

/-- Entries performed on BAR2. -/
def State.msixPerform (s : State) : List WinOp → State × List Nat
  | [] => (s, [])
  | o :: os =>
    let (s, d) := match o with
      | .write a v => (s.msixWrite a v, [])
      | .read a => (s, [(s.msixWord a).toNat])
      | .bad _ wr => (s.bump 0 R.SYS_CNT_BAD_ACCESS, if wr then [] else [0])
    let (s, ds) := s.msixPerform os
    (s, d ++ ds)

/-! ### The endpoint (R451 to R453) -/

/-- Entries that wait for a worker, each read with its place in the host read. -/
def winTagged (tag : Nat) (ops : List WinOp) : List (WinOp × Option (Nat × Nat)) :=
  ops.zipIdx.map (fun o => (o.1, if opReads o.1 then some (tag, o.2) else none))

/-- A request for another slot. -/
def State.winRemote (s : State) (tag n : Nat) (wr : Bool) (ops : List WinOp) : State :=
  let q := s.wq n
  if !(s.serves && (s.slot n).state == 1) then
    if wr then s.bumpBy pSHF R.SHF_CNT_WIN_DISCARD ops.length
    else ((s.bump pSHF R.SHF_CNT_RD_TIMEOUT).irq pSHF 5).emit (.hostRead tag (ops.map (fun _ => 0xFFFFFFFF)))
  else
    let s := s.setWq n { q with
      queue := q.queue ++ winTagged tag ops, firstClk := if q.queue.isEmpty then s.tsu.clk else q.firstClk }
    if wr then s
    else s.updShf (fun h => { h with reads := h.reads ++ [{ tag := tag, slot := n, data := ops.map (fun _ => none) }] })

/-- A request for another slot can be taken now: a read whose tag is in use and a write that finds the queue full wait outside. -/
def State.winTakes (s : State) (tag n : Nat) (wr : Bool) (ops : List WinOp) : Bool :=
  let held := ((s.wq n).queue.filter (fun o => !opReads o.1)).length
  !(s.serves && (s.slot n).state == 1) || (if wr then decide (held + ops.length ≤ 512) else !s.shf.reads.any (fun r => r.tag == tag))

/-- HOST_WINDOW_ACCESS: a memory request of 4-byte doublewords from address `addr` of a BAR. -/
def State.hostAccess (s : State) (bar tag addr : Nat) (wr : Bool) (dws : List HostDw) : State :=
  if !s.shf.mgr ∨ dws.isEmpty then s
  else if bar = 2 then
    if 0x10000 ≤ addr then s
    else
      let (s, ds) := s.msixPerform (winOps (addr / 4 * 4) wr dws)
      if wr then s else s.emit (.hostRead tag (ds.map w32))
  else if bar ≠ 0 ∨ 2 ^ 30 ≤ addr then s
  else
    let n := addr / 2 ^ 24
    let ops := winOps (addr % 2 ^ 24 / 4 * 4) wr dws
    let count (s : State) : State := s.bumpBy pSHF (if wr then R.SHF_CNT_WIN_WR else R.SHF_CNT_WIN_RD) ops.length
    if n = s.ownSlot then
      let (s, ds) := (count s).winPerform ops
      if wr then s else s.emit (.hostRead tag (ds.map w32))
    else if s.winTakes tag n wr ops then (count s).winRemote tag n wr ops
    else s

/-! ### Frames to and from a worker (R452, R454) -/

/-- Frame of a manager's flight. -/
def State.winFrame (s : State) (n : Nat) (f : WinFly) : State := s.winSend n (.req f.seq (f.ops.map Prod.fst))

/-- Entries of the next frame: up to 128, and none after those of the first read, which send it (R452). -/
def WinQ.pack (q : WinQ) : Nat :=
  let before := (q.queue.takeWhile (fun o => !opReads o.1)).length
  let tag := ((q.queue.drop before).head?.bind (fun o => o.2)).map (fun r => r.1)
  min 128 (before + ((q.queue.drop before).takeWhile (fun o => opReads o.1 && o.2.map (fun r => r.1) == tag)).length)

/-- Entries are packed into a frame: 128 wait, a read waits, or 0.5 µs have passed since the first. -/
def State.winPack (s : State) (n : Nat) : State :=
  let q := s.wq n
  if q.queue.isEmpty || !(128 ≤ q.queue.length || q.queue.any (fun o => opReads o.1) || 125 ≤ s.since q.firstClk) then s
  else
    let f : WinFly := { seq := q.seq, ops := q.queue.take q.pack, tries := 1, firstClk := s.tsu.clk, lastClk := s.tsu.clk }
    (s.setWq n { queue := q.queue.drop q.pack, firstClk := s.tsu.clk, fly := q.fly ++ [f], seq := (q.seq + 1) % 65536 }).winFrame n f

/-- A worker's oldest host vector goes to the manager (R455). -/
def State.intrSend (s : State) : State :=
  match s.shf.intr, s.mgrSlot with
  | i :: rest, some m => ((s.updShf (fun h => { h with intr := rest })).bump pSHF R.SHF_CNT_INTR).winSend m (.intr i)
  | _, _ => s

/-- A frame leaves: on a manager to worker `n`, on a worker to the manager. -/
def State.windowSend (s : State) (n : Nat) : State := if s.shf.mgr then s.winPack n else s.intrSend

/-- A frame's entries are performed once, in sequence; a repeat is counted and acknowledged again, one out of sequence is dropped. -/
def State.winTake (s : State) (src seq : Nat) (ops : List WinOp) : State :=
  let done := sget [] src s.shf.done
  match done.find? (fun e => e.1 == seq) with
  | some e => (s.bump pSHF R.SHF_CNT_DUP_FRAME).winSend src (.resp seq e.2)
  | none =>
    let next := match done with | [] => true | e :: _ => seq == 0 || seq == (e.1 + 1) % 65536
    if !next then s
    else
      let (s, ds) := s.winPerform ops
      let s := s.updShf (fun h => { h with done := sset [] src (((seq, ds) :: done).take 512) h.done })
      s.winSend src (.resp seq ds)

/-- WINDOW_FRAME_RX: the oldest window frame received, where it is a WRITE or READ frame. -/
def State.windowRx (s : State) : State :=
  match s.shf.rx with
  | [] => s
  | m :: rest =>
    match m.kind with
    | .req seq ops =>
      let s := s.updShf (fun h => { h with rx := rest })
      if m.dst = s.ownSlot then s.winTake (m.src % 64) seq ops else s
    | _ => s

/-- A response: the frame is no longer in flight, and its reads have their data. -/
def State.winResp (s : State) (n seq : Nat) (ds : List Nat) : State :=
  let q := s.wq n
  match q.fly.find? (fun f => f.seq == seq) with
  | none => s
  | some f =>
    let s := s.setWq n { q with fly := q.fly.filter (fun f => f.seq != seq) }
    ((f.ops.filterMap (fun o => o.2)).zip ds).foldl (fun (s : State) e => s.readData e.1.1 e.1.2 (w32 e.2)) s

/-- WINDOW_RESPONSE_RX. -/
def State.responseRx (s : State) : State :=
  match s.shf.rx with
  | [] => s
  | m :: rest =>
    match m.kind with
    | .resp seq ds =>
      let s := s.updShf (fun h => { h with rx := rest })
      if m.dst = s.ownSlot && s.shf.mgr then s.winResp (m.src % 64) seq ds else s
    | _ => s

/-- WINDOW_RETRY_TIMEOUT: frames unacknowledged for 20 µs are sent again, up to RETRY times; then the slot is LOST. -/
def State.winRetry (s : State) (n : Nat) : State :=
  let q := s.wq n
  let due (f : WinFly) : Bool := 5000 ≤ s.since f.lastClk
  let again := q.fly.filter due
  if again.isEmpty then s
  else if again.any (fun f => fld (s.ac pSHF R.SHF_CFG) 8 3 < f.tries) then s.slotLose n
  else
    let s := s.setWq n { q with
      fly := q.fly.map (fun f => if due f then { f with tries := f.tries + 1, lastClk := s.tsu.clk } else f) }
    again.foldl (fun (s : State) f => (s.bump pSHF R.SHF_CNT_RETRY).winFrame n f) s

/-- WINDOW_READ_TIMEOUT: reads first sent RD_TIMEOUT ago complete with all ones. -/
def State.winReadOut (s : State) (n : Nat) : State :=
  let late := (s.wq n).fly.filter (fun f => fld (s.ac pSHF R.SHF_CFG) 16 16 * 250 ≤ s.since f.firstClk)
  (late.flatMap (fun f => f.ops.filterMap (fun o => o.2))).foldl (fun (s : State) e => s.readLost e.1) s

/-- INTR_FRAME_RX: MSI-X entry slot × 32 + HOST_IDX. -/
def State.intrRx (s : State) : State :=
  match s.shf.rx with
  | [] => s
  | m :: rest =>
    match m.kind with
    | .intr i =>
      let s := s.updShf (fun h => { h with rx := rest })
      if m.dst = s.ownSlot && s.shf.mgr then (s.bump pSHF R.SHF_CNT_INTR).msixRaise (m.src % 64 * 32 + i % 32) else s
    | _ => s

/-! ### The commands -/

/-- HOST_WINDOW_ACCESS (R451). -/
def execHostWindowAccess (bar tag addr : Nat) (wr : Bool) (dws : List HostDw) (s : State) : Host.Outcome State Fault Refusal :=
  act State.onMain (fun s => s.hostAccess bar tag addr wr dws) s

/-- WINDOW_FRAME_SEND (R452) to worker `n`. -/
def execWindowFrameSend (n : Nat) (s : State) : Host.Outcome State Fault Refusal :=
  act State.onMain (fun s => if n < 64 then s.windowSend n else s) s

/-- WINDOW_FRAME_RX (R454). -/
def execWindowFrameRx (s : State) : Host.Outcome State Fault Refusal := act State.onMain State.windowRx s

/-- WINDOW_RESPONSE_RX (R452). -/
def execWindowResponseRx (s : State) : Host.Outcome State Fault Refusal := act State.onMain State.responseRx s

/-- WINDOW_RETRY_TIMEOUT (R454) of worker `n`. -/
def execWindowRetryTimeout (n : Nat) (s : State) : Host.Outcome State Fault Refusal :=
  act State.onMain (fun s => if n < 64 then s.winRetry n else s) s

/-- WINDOW_READ_TIMEOUT (R453) of worker `n`. -/
def execWindowReadTimeout (n : Nat) (s : State) : Host.Outcome State Fault Refusal :=
  act State.onMain (fun s => if n < 64 then s.winReadOut n else s) s

/-- INTR_FRAME_RX (R455). -/
def execIntrFrameRx (s : State) : Host.Outcome State Fault Refusal := act State.onMain State.intrRx s

end Sys2Proof.Machine
end

