-- ==== Sys2Proof/Machine/Dispatch.lean ====
section
/-!
DEFINITION. The dispatch: one arm per command, each one call of the command's meaning.
-/
namespace Sys2Proof.Machine
open Sys2Proof

def exec (i : Instr) (s : State) : Host.Outcome State Fault Refusal :=
  match i with
  | .badAccess m a width wr => Sys2Proof.Machine.execBadAccess m a width wr s
  | .regWrite m a v => Sys2Proof.Machine.execRegWrite m a v s
  | .reg64LowRead m a => Sys2Proof.Machine.execReg64LowRead m a s
  | .reg64HighWrite m a v => Sys2Proof.Machine.execReg64HighWrite m a v s
  | .rwsWrite m a v => Sys2Proof.Machine.execRwsWrite m a v s
  | .enable m p v => Sys2Proof.Machine.execEnable m p v s
  | .softReset m p v => Sys2Proof.Machine.execSoftReset m p v s
  | .commit m p v => Sys2Proof.Machine.execCommit m p v s
  | .commitApply p => Sys2Proof.Machine.execCommitApply p s
  | .stop m p v => Sys2Proof.Machine.execStop m p v s
  | .start m p v => Sys2Proof.Machine.execStart m p v s
  | .cntSnapshot m p v => Sys2Proof.Machine.execCntSnapshot m p v s
  | .cntClear m p v => Sys2Proof.Machine.execCntClear m p v s
  | .irqStatusClear m p v => Sys2Proof.Machine.execIrqStatusClear m p v s
  | .irqForce m p v => Sys2Proof.Machine.execIrqForce m p v s
  | .irqRouteWrite m p v => Sys2Proof.Machine.execIrqRouteWrite m p v s
  | .lockWrite m p v => Sys2Proof.Machine.execLockWrite m p v s
  | .lockTimeout p => Sys2Proof.Machine.execLockTimeout p s
  | .tblRead m p => Sys2Proof.Machine.execTblRead m p s
  | .tblWrite m p => Sys2Proof.Machine.execTblWrite m p s
  | .tblOpDone p => Sys2Proof.Machine.execTblOpDone p s
  | .unitFence p => Sys2Proof.Machine.execUnitFence p s
  | .moduleFail p cause => Sys2Proof.Machine.execModuleFail p cause s
  | .frameRx p f => Sys2Proof.Machine.execFrameRx p f s
  | .pauseExpiry p => Sys2Proof.Machine.execPauseExpiry p s
  | .pauseWdog p => Sys2Proof.Machine.execPauseWdog p s
  | .pauseHoldoffEnd p => Sys2Proof.Machine.execPauseHoldoffEnd p s
  | .h1Post => Sys2Proof.Machine.execH1Post s
  | .portFrameSelect e => Sys2Proof.Machine.execPortFrameSelect e s
  | .frameTxDone e => Sys2Proof.Machine.execFrameTxDone e s
  | .linkUp p => Sys2Proof.Machine.execLinkUp p s
  | .linkDown p => Sys2Proof.Machine.execLinkDown p s
  | .gateEntryAdvance e => Sys2Proof.Machine.execGateEntryAdvance e s
  | .gateBankSwitch e => Sys2Proof.Machine.execGateBankSwitch e s
  | .fdbAgeOut ix => Sys2Proof.Machine.execFdbAgeOut ix s
  | .dupEntryForget ix => Sys2Proof.Machine.execDupEntryForget ix s
  | .supervisionSend pair => Sys2Proof.Machine.execSupervisionSend pair s
  | .cageSupplyTrip p => Sys2Proof.Machine.execCageSupplyTrip p s
  | .macTsfPop p => Sys2Proof.Machine.execMacTsfPop p s
  | .tickStart => Sys2Proof.Machine.execTickStart s
  | .tsuAdjRate v => Sys2Proof.Machine.execTsuAdjRate v s
  | .tsuAdjPhase v => Sys2Proof.Machine.execTsuAdjPhase v s
  | .slewDone => Sys2Proof.Machine.execSlewDone s
  | .latch => Sys2Proof.Machine.execLatch s
  | .step => Sys2Proof.Machine.execStep s
  | .locked => Sys2Proof.Machine.execLocked s
  | .hold => Sys2Proof.Machine.execHold s
  | .release => Sys2Proof.Machine.execRelease s
  | .discWdog => Sys2Proof.Machine.execDiscWdog s
  | .holdUpdate dT => Sys2Proof.Machine.execHoldUpdate dT s
  | .toEdge n => Sys2Proof.Machine.execToEdge n s
  | .toPulseEnd n => Sys2Proof.Machine.execToPulseEnd n s
  | .tiEdge n falling width => Sys2Proof.Machine.execTiEdge n falling width s
  | .tsuTiPop v => Sys2Proof.Machine.execTsuTiPop v s
  | .tcSyncEntryRelease => Sys2Proof.Machine.execTcSyncEntryRelease s
  | .svFrameDecode lane => Sys2Proof.Machine.execSvFrameDecode lane s
  | .svaStrPop => Sys2Proof.Machine.execSvaStrPop s
  | .tickClose => Sys2Proof.Machine.execTickClose s
  | .partnerMapRx => Sys2Proof.Machine.execPartnerMapRx s
  | .agreeWaitExpiry => Sys2Proof.Machine.execAgreeWaitExpiry s
  | .fltTickRun e => Sys2Proof.Machine.execFltTickRun e s
  | .fltChainStart e c => Sys2Proof.Machine.execFltChainStart e c s
  | .fltChainStop e c => Sys2Proof.Machine.execFltChainStop e c s
  | .clearSat e c => Sys2Proof.Machine.execClearSat e c s
  | .fltRefCmd e v => Sys2Proof.Machine.execFltRefCmd e v s
  | .fltEvtPop e => Sys2Proof.Machine.execFltEvtPop e s
  | .adcScanStart c temp => Sys2Proof.Machine.execAdcScanStart c temp s
  | .adcConversionDone c raw => Sys2Proof.Machine.execAdcConversionDone c raw s
  | .shuntTrip a => Sys2Proof.Machine.execShuntTrip a s
  | .shuntClose c => Sys2Proof.Machine.execShuntClose c s
  | .urgent c => Sys2Proof.Machine.execUrgent c s
  | .cal c => Sys2Proof.Machine.execCal c s
  | .calDone c offs gains temp => Sys2Proof.Machine.execCalDone c offs gains temp s
  | .adcDataRead c => Sys2Proof.Machine.execAdcDataRead c s
  | .cycleStart => Sys2Proof.Machine.execCycleStart s
  | .snapWaitEnd => Sys2Proof.Machine.execSnapWaitEnd s
  | .windowStart ix => Sys2Proof.Machine.execWindowStart ix s
  | .windowEnd ix => Sys2Proof.Machine.execWindowEnd ix s
  | .activationEnd ix cls => Sys2Proof.Machine.execActivationEnd ix cls s
  | .pointWrite ix cls p value qual keep => Sys2Proof.Machine.execPointWrite ix cls p value qual keep s
  | .kerfStart used => Sys2Proof.Machine.execKerfStart used s
  | .piRead => Sys2Proof.Machine.execPiRead s
  | .piWrite keep => Sys2Proof.Machine.execPiWrite keep s
  | .piDirectoryWrite => Sys2Proof.Machine.execPiDirectoryWrite s
  | .instStart ix => Sys2Proof.Machine.execInstStart ix s
  | .instStop ix => Sys2Proof.Machine.execInstStop ix s
  | .restart ix => Sys2Proof.Machine.execRestart ix s
  | .prepare o n => Sys2Proof.Machine.execPrepare o n s
  | .prepareDone => Sys2Proof.Machine.execPrepareDone s
  | .arm => Sys2Proof.Machine.execArm s
  | .abort => Sys2Proof.Machine.execAbort s
  | .olcRelease => Sys2Proof.Machine.execOlcRelease s
  | .olcHeldCycleEnd => Sys2Proof.Machine.execOlcHeldCycleEnd s
  | .gooseRx => Sys2Proof.Machine.execGooseRx s
  | .gooseExpired n => Sys2Proof.Machine.execGooseExpired n s
  | .ringTailWrite f l d v => Sys2Proof.Machine.execRingTailWrite f l d v s
  | .descriptorFetch q => Sys2Proof.Machine.execDescriptorFetch q s
  | .skidderReturn k ix => Sys2Proof.Machine.execSkidderReturn k ix s
  | .descriptorComplete ring => Sys2Proof.Machine.execDescriptorComplete ring s
  | .h1RxDeliver => Sys2Proof.Machine.execH1RxDeliver s
  | .itrExpiry f l => Sys2Proof.Machine.execItrExpiry f l s
  | .resetDrain f => Sys2Proof.Machine.execResetDrain f s
  | .resetSquash f => Sys2Proof.Machine.execResetSquash f s
  | .resetTagTimeout f => Sys2Proof.Machine.execResetTagTimeout f s
  | .resetDone f => Sys2Proof.Machine.execResetDone f s
  | .swapLog f => Sys2Proof.Machine.execSwapLog f s
  | .swapLogDone f => Sys2Proof.Machine.execSwapLogDone f s
  | .migArm f => Sys2Proof.Machine.execMigArm f s
  | .migAbort f => Sys2Proof.Machine.execMigAbort f s
  | .qpRestart q => Sys2Proof.Machine.execQpRestart q s
  | .qpStop q => Sys2Proof.Machine.execQpStop q s
  | .migFreeze f => Sys2Proof.Machine.execMigFreeze f s
  | .migFrameRx => Sys2Proof.Machine.execMigFrameRx s
  | .migDeadline f => Sys2Proof.Machine.execMigDeadline f s
  | .migAckRx => Sys2Proof.Machine.execMigAckRx s
  | .migAbortRx => Sys2Proof.Machine.execMigAbortRx s
  | .talTickRun e => Sys2Proof.Machine.execTalTickRun e s
  | .saveWriteDone e => Sys2Proof.Machine.execSaveWriteDone e s
  | .talPointStart e l => Sys2Proof.Machine.execTalPointStart e l s
  | .talPointStop e l => Sys2Proof.Machine.execTalPointStop e l s
  | .talClearSat e l => Sys2Proof.Machine.execTalClearSat e l s
  | .saveNow e => Sys2Proof.Machine.execSaveNow e s
  | .zeroPoint e l => Sys2Proof.Machine.execZeroPoint e l s
  | .acceptEmpty e => Sys2Proof.Machine.execAcceptEmpty e s
  | .dfoPulseEnd n => Sys2Proof.Machine.execDfoPulseEnd n s
  | .safetyCycle a b misaligned => Sys2Proof.Machine.execSafetyCycle a b misaligned s
  | .safetyReqVector => Sys2Proof.Machine.execSafetyReqVector s
  | .outputOverload n => Sys2Proof.Machine.execOutputOverload n s
  | .faultAck out => Sys2Proof.Machine.execFaultAck out s
  | .safetySelftestDone => Sys2Proof.Machine.execSafetySelftestDone s
  | .acqTickBlock => Sys2Proof.Machine.execAcqTickBlock s
  | .chokeStep => Sys2Proof.Machine.execChokeStep s
  | .flashUnitWrite u => Sys2Proof.Machine.execFlashUnitWrite u s
  | .acqSetStart n => Sys2Proof.Machine.execAcqSetStart n s
  | .acqSetStop n => Sys2Proof.Machine.execAcqSetStop n s
  | .trigger n => Sys2Proof.Machine.execTrigger n s
  | .resume n => Sys2Proof.Machine.execResume n s
  | .acqXtrigCmd v => Sys2Proof.Machine.execAcqXtrigCmd v s
  | .rescan => Sys2Proof.Machine.execRescan s
  | .acqRecRelease v => Sys2Proof.Machine.execAcqRecRelease v s
  | .acqRecPop => Sys2Proof.Machine.execAcqRecPop s
  | .evrPost v => Sys2Proof.Machine.execEvrPost v s
  | .postDone => Sys2Proof.Machine.execPostDone s
  | .hwRecordSubmit => Sys2Proof.Machine.execHwRecordSubmit s
  | .privRecordWrite => Sys2Proof.Machine.execPrivRecordWrite s
  | .privLossRecord => Sys2Proof.Machine.execPrivLossRecord s
  | .privMirror => Sys2Proof.Machine.execPrivMirror s
  | .flush => Sys2Proof.Machine.execFlush s
  | .flushDone => Sys2Proof.Machine.execFlushDone s
  | .evrPrivRelease v => Sys2Proof.Machine.execEvrPrivRelease v s
  | .dupSyncRx => Sys2Proof.Machine.execDupSyncRx s
  | .mirrorRx => Sys2Proof.Machine.execMirrorRx s
  | .rstateRx => Sys2Proof.Machine.execRstateRx s
  | .configDiverge => Sys2Proof.Machine.execConfigDiverge s
  | .pairingTimeout => Sys2Proof.Machine.execPairingTimeout s
  | .resync => Sys2Proof.Machine.execResync s
  | .swap => Sys2Proof.Machine.execSwap s
  | .take => Sys2Proof.Machine.execTake s
  | .preferredReturn => Sys2Proof.Machine.execPreferredReturn s
  | .go => Sys2Proof.Machine.execGo s
  | .cruiserRead m => Sys2Proof.Machine.execCruiserRead m s
  | .partialWrite a bs req idx => Sys2Proof.Machine.execPartialWrite a bs req idx s
  | .lapWarn m => Sys2Proof.Machine.execLapWarn m s
  | .memInjCmd v => Sys2Proof.Machine.execMemInjCmd v s
  | .clearSaved => Sys2Proof.Machine.execClearSaved s
  | .memLogPop => Sys2Proof.Machine.execMemLogPop s
  | .flashWear used spare => Sys2Proof.Machine.execFlashWear used spare s
  | .derive slot => Sys2Proof.Machine.execDerive slot s
  | .stage slot => Sys2Proof.Machine.execStage slot s
  | .verify slot => Sys2Proof.Machine.execVerify slot s
  | .ksuCommit slot => Sys2Proof.Machine.execKsuCommit slot s
  | .abortStage slot => Sys2Proof.Machine.execAbortStage slot s
  | .unwrap slot parent => Sys2Proof.Machine.execUnwrap slot parent s
  | .msg slot => Sys2Proof.Machine.execMsg slot s
  | .invalidate slot => Sys2Proof.Machine.execInvalidate slot s
  | .sign slot => Sys2Proof.Machine.execSign slot s
  | .pubkey slot arg => Sys2Proof.Machine.execPubkey slot arg s
  | .saveBlob slot => Sys2Proof.Machine.execSaveBlob slot s
  | .loadBlob slot => Sys2Proof.Machine.execLoadBlob slot s
  | .extend mr => Sys2Proof.Machine.execExtend mr s
  | .lockMr mr => Sys2Proof.Machine.execLockMr mr s
  | .run => Sys2Proof.Machine.execRun s
  | .setOwner => Sys2Proof.Machine.execSetOwner s
  | .opDone => Sys2Proof.Machine.execOpDone s
  | .tamperDetect src value => Sys2Proof.Machine.execTamperDetect src value s
  | .tamperClear src value => Sys2Proof.Machine.execTamperClear src value s
  | .tamperHoldEnd => Sys2Proof.Machine.execTamperHoldEnd s
  | .ack => Sys2Proof.Machine.execAck s
  | .powerFailWarning ext => Sys2Proof.Machine.execPowerFailWarning ext s
  | .pfwCleared => Sys2Proof.Machine.execPfwCleared s
  | .flushEnd => Sys2Proof.Machine.execFlushEnd s
  | .shedRecover b => Sys2Proof.Machine.execShedRecover b s
  | .storeEmpty => Sys2Proof.Machine.execStoreEmpty s
  | .abruptLoss torn => Sys2Proof.Machine.execAbruptLoss torn s
  | .holdupReady chargeUs => Sys2Proof.Machine.execHoldupReady chargeUs s
  | .vauxLow => Sys2Proof.Machine.execVauxLow s
  | .overtempShutdown => Sys2Proof.Machine.execOvertempShutdown s
  | .powerOnReset b => Sys2Proof.Machine.execPowerOnReset b s
  | .warm => Sys2Proof.Machine.execWarm s
  | .cold => Sys2Proof.Machine.execCold s
  | .warmReset => Sys2Proof.Machine.execWarmReset s
  | .rstWdogKick v => Sys2Proof.Machine.execRstWdogKick v s
  | .wdogExpiry => Sys2Proof.Machine.execWdogExpiry s
  | .buttonPress rstIn => Sys2Proof.Machine.execButtonPress rstIn s
  | .resetHoldRelease => Sys2Proof.Machine.execResetHoldRelease s
  | .stuckClear rstIn => Sys2Proof.Machine.execStuckClear rstIn s
  | .perstN => Sys2Proof.Machine.execPerstN s
  | .announceSend => Sys2Proof.Machine.execAnnounceSend s
  | .announceRx => Sys2Proof.Machine.execAnnounceRx s
  | .slotLost n => Sys2Proof.Machine.execSlotLost n s
  | .slotConflictEnd n => Sys2Proof.Machine.execSlotConflictEnd n s
  | .mgrTakeover => Sys2Proof.Machine.execMgrTakeover s
  | .hostWindowAccess bar tag addr wr dws => Sys2Proof.Machine.execHostWindowAccess bar tag addr wr dws s
  | .windowFrameSend n => Sys2Proof.Machine.execWindowFrameSend n s
  | .windowFrameRx => Sys2Proof.Machine.execWindowFrameRx s
  | .windowResponseRx => Sys2Proof.Machine.execWindowResponseRx s
  | .windowRetryTimeout n => Sys2Proof.Machine.execWindowRetryTimeout n s
  | .windowReadTimeout n => Sys2Proof.Machine.execWindowReadTimeout n s
  | .intrFrameRx => Sys2Proof.Machine.execIntrFrameRx s
  | .forget n => Sys2Proof.Machine.execForget n s
  | .ackReset n => Sys2Proof.Machine.execAckReset n s
  | .hltSample ro sfp => Sys2Proof.Machine.execHltSample ro sfp s
  | .hltRestart ix => Sys2Proof.Machine.execHltRestart ix s
  | .soReplaced ix => Sys2Proof.Machine.execSoReplaced ix s
  | .mgrLost => Sys2Proof.Machine.execMgrLost s
  | .sfpRefit p => Sys2Proof.Machine.execSfpRefit p s
  | .keepAliveOff => Sys2Proof.Machine.execKeepAliveOff s
  | .vauxReturn => Sys2Proof.Machine.execVauxReturn s
  | .buttonRelease rstIn => Sys2Proof.Machine.execButtonRelease rstIn s

end Sys2Proof.Machine
end

