-- ==== Sys2Proof/Machine/Step.lean ====
section
/-!
DEFINITION. One step: the command at the front of the queue, or one clock of 4 ns where none waits (log 119).
-/
namespace Sys2Proof.Machine

/-- The queue's front command acts on the state with the rest of the queue; on an empty queue the 250 MHz clock of the time island
makes one cycle while any supply is present. -/
def step (s : State) : Host.Outcome State Fault Refusal :=
  match s.pending with
  | [] => .next (if s.pwr.phase == .off then s else s.clock)
  | c :: rest => exec c { s with pending := rest }

/-- The state with the command a table word spells put at the front of its queue: no word spells one. -/
def State.withFetchWord (s : State) (nbits w : Nat) : State :=
  match decodeTableWord nbits w with
  | some c => { s with pending := c :: s.pending }
  | none => s

end Sys2Proof.Machine
end

