-- ==== Sys2Proof/Machine/Frame.lean ====
section
/-!
DEFINITION. What counting an event and raising an interrupt may change beside the command's own effect, and a window frame that
leaves, as the statements say them.
-/
namespace Sys2Proof.Machine

/-- From `s` to `t` nothing has happened but events counted and raised on the pages `ps` (R51 to R54): their counters, their
IRQ_STATUS, CFG_ERR, ERR_CODE, CNT_SAT mark and half-given unlock sequence (R48), and what a vector whose input rose did. -/
structure State.Quiet (ps : List Nat) (s t : State) : Prop where
  rest : t = { s with
    hdrs := t.hdrs, cnts := t.cnts, vecs := t.vecs, out := t.out,
    shf := { s.shf with intr := t.shf.intr, msix := t.shf.msix } }
  hd : ∀ q, q ∉ ps → t.hd q = s.hd q
  hdIn : ∀ q, t.hd q = { s.hd q with
    irqStatus := (t.hd q).irqStatus, cfgErr := (t.hd q).cfgErr, errCode := (t.hd q).errCode,
    satSeen := (t.hd q).satSeen, lockSeen := (t.hd q).lockSeen }
  cn : ∀ q off, q ∉ ps → off < 4096 → t.cn q off = s.cn q off

/-- P9 takes a window frame of this kind now (R447, R67, R77): the Crosscut runs and has its cells, P9 is in no active pair, and queue 3 does
not refuse it. -/
structure State.WinRoom (s : State) (dst : Nat) (k : WinKind) : Prop where
  runs : s.running pSWC = true
  room : cellsOf (max 64 (winBytes k)) ≤ s.lndFree
  single : s.pairOf 9 = none
  taken : s.egRefuse 9 3 (s.egFrame 9
    {
      da := 0x01154E000200 + s.ownShelf, sa := s.ownAddr 9, et := 0x88B7, size := max 64 (winBytes k),
      body := .window { shelf := s.ownShelf, src := s.ownSlot, dst := dst, kind := k } } 1 0 0) s.short = none

/-- From `s` to `t` a window frame has come to stand at the end of queue 3 of P9. -/
def State.WinSent (s t : State) (dst : Nat) (k : WinKind) : Prop :=
  ∃ x, x.frame.body = .window { shelf := s.ownShelf, src := s.ownSlot, dst := dst, kind := k } ∧ x.frame.et = 0x88B7 ∧
    x.frame.da = 0x01154E000200 + s.ownShelf ∧ x.ing = 12 ∧ x.id = s.swc.nextId ∧
    (t.eg 9).q = (s.eg 9).q.set 3 ((((s.eg 9).q[3]?).getD []) ++ [x])

end Sys2Proof.Machine
end

