-- ==== Sys2Proof/Machine/Led.lean ====
section
/-!
DEFINITION. The LEDs of the front (R471): what each shows in a state. An LED has no state of its own; it follows the state it
names within 10 ms. Where several columns of its row hold at once the fault shows before the normal state (log 120).
-/
namespace Sys2Proof.Machine

/-- The LEDs of R471; a cage or jack LED by its port. -/
inductive Led
  | pwr | run | flt | sync | dup | hws | frc | port (p : Nat)
  deriving DecidableEq, Repr

inductive LedColour
  | green | amber | red
  deriving DecidableEq, Repr

/-- Off, steady, slow blink (1 Hz) or fast blink (4 Hz), both at 50 % duty. -/
inductive LedShow
  | off | steady (c : LedColour) | slow (c : LedColour) | fast (c : LedColour)
  deriving DecidableEq, Repr

/-- PWR. -/
def State.ledPwr (s : State) : LedShow :=
  if s.pwr.pfMode then .slow .green
  else if s.pwr.vmainOk && !s.pwr.pfw then .steady .green
  else .off

/-- RUN: start-up lasts until the first cycle in which instance tasks run (R437). -/
def State.ledRun (s : State) : LedShow :=
  if s.cycOn && s.cyc.insts.any (fun x => x.2.state == 1) then .steady .green
  else if !s.cyc.ranTasks then .slow .green
  else .off

/-- FLT. -/
def State.ledFlt (s : State) : LedShow :=
  if s.failed || s.hws.safe then .steady .red
  else if (s.hd 0).degraded then .slow .red
  else if s.ksu.lockedOut then .fast .red
  else .off

/-- SYNC: station time is loaded in every start (R435), before the LEDs are lit. -/
def State.ledSync (s : State) : LedShow :=
  match s.tsu.sync with
  | .locked => .steady .green
  | .unlocked => .steady .amber
  | .holdover => .slow .green
  | .holdExceeded => .fast .amber

/-- DUP, by the pair state of R354. -/
def State.ledDup (s : State) : LedShow :=
  match s.dup.state with
  | 0 => .off
  | 1 => .slow .amber
  | 2 => .steady (if s.dup.active then .green else .amber)
  | 3 => .slow .amber
  | 5 => .slow .green
  | _ => .fast .amber

/-- A fault is latched on an input or an output of a channel. -/
def HCh.latched (x : HCh) : Bool :=
  x.ins.any (fun i => i.df || i.tA || i.tB) || x.outs.any (fun o => o.faults != 0)

/-- HWS: a used input is one whose entry is USED. -/
def State.ledHws (s : State) : LedShow :=
  let h := s.hws
  let used := (List.range 16).filter (fun n => bit (h.iw n 0) 31)
  if h.safe then .steady .red
  else if h.a.latched || h.b.latched then .fast .red
  else if !h.configured then .off
  else if used.all (fun n => ((h.a.ins[n]?).getD {}).on && ((h.b.ins[n]?).getD {}).on) then .steady .green
  else .slow .green

/-- A cage or jack LED: frame activity is a frame on its way out of the port (log 120). -/
def State.ledPort (s : State) (p : Nat) : LedShow :=
  if !(s.mac p).linkUp then .off
  else if (s.eg p).fly.isEmpty then .steady .green
  else .fast .green

/-- Level of PFW_N (R466): low until VMAIN_OK and while a warning stands, else released; high-impedance (none) without the rails. -/
def State.pfwN (s : State) : Option Bool :=
  match s.pwr.phase with
  | .off | .sleep | .held => none
  | _ => some (s.pwr.vmainOk && !s.pwr.pfw)

/-- What an LED shows (R471): nothing without the rails, that is in OFF, SLEEP and HELD after a shed (R431). -/
def State.led (s : State) (l : Led) : LedShow :=
  match s.pwr.phase with
  | .off | .sleep | .held => .off
  | _ =>
    match l with
    | .pwr => s.ledPwr
    | .run => s.ledRun
    | .flt => s.ledFlt
    | .sync => s.ledSync
    | .dup => s.ledDup
    | .hws => s.ledHws
    | .frc => if s.cyc.forces.isEmpty then .off else .steady .amber
    | .port p => s.ledPort p

end Sys2Proof.Machine
end

