-- ==== Sys2Proof/Safety.lean ====
section
/-!
DEFINITION. What counts as a safe step and a safe run: the machine answers a next state, with no fault and no refusal.
-/
namespace Sys2Proof.Machine

/-- A step goes on. -/
def State.goesOn (s : State) : Prop := ∃ t, step s = .next t

/-- `n` steps from a state, as long as each goes on. -/
def runSteps : Nat → State → Host.Outcome State Fault Refusal
  | 0, s => .next s
  | n + 1, s => match step s with
    | .next t => runSteps n t
    | o => o

/-- A run is safe: every one of its steps goes on. -/
def State.safeFor (s : State) (n : Nat) : Prop := ∃ t, runSteps n s = .next t

end Sys2Proof.Machine
end

