-- ==== Sys2Proof/Certificates/Slice0/Obligations.lean ====
section
/-!
DEFINITION. The statements for the provers. Each says of the machine what a rule of spec/ says, or, where its docstring says so, what
the model chose. `t = { s with f := t.f, … }` says that nothing but the named fields of the state has changed.
-/
open Sys2Proof Sys2Proof.Machine

/-! ### The queue, the gate and the supplies -/

/-- A step takes the command at the front of the queue and runs it with the queue's rest; on an empty queue the clock of the time island
makes one cycle while anything is fed (the idle step is the model's choice, log 119). -/
def Obligations.StepTakesFrontCommand : Prop :=
  (∀ (c : Instr) (s : State), step { s with pending := c :: s.pending } = exec c s) ∧
    (∀ s : State, s.pending = [] → step s = .next (if s.pwr.phase = .off then s else s.clock))

/-- Every command, whatever its operands and in every state, ends in a next state and leaves the queue as it is. Model: where the spec does
not say it, this follows log 119. -/
def Obligations.EveryCommandEndsAndKeepsQueue : Prop :=
  ∀ (c : Instr) (s : State), ∃ t, exec c s = .next t ∧ t.pending = s.pending

/-- Reset leaves every page unlocked by nobody, no interrupt raised, no command waiting, and the memories, stores and queues in their
canonical form; the module is in phase RUN (R436; what no rule of chapter 18 gives, log 104). -/
def Obligations.ResetState : Prop :=
  State.reset.pending = [] ∧ State.reset.pwr.phase = .run ∧ State.reset.tsu.sync = .unlocked ∧
    Memory.wf State.reset.mem = true ∧ Memory.wf State.reset.mram = true ∧
    (∀ p, State.reset.hd p = {}) ∧ (∀ p off, State.reset.rg p off = regReset p off) ∧ (∀ p off, State.reset.ac p off = regReset p off) ∧
    (∀ p off, State.reset.cn p off = 0) ∧ (∀ a, State.reset.byte a = 0)

/-- With VMAIN, the store and VAUX gone (the keep-alive island OFF, R434) no command but a power-on reset and the return of VAUX changes
anything except what the two reset contacts are seen to do. Model: where the spec does not say it, this follows log 119. -/
def Obligations.OffModuleDoesNothing : Prop :=
  ∀ (c : Instr) (s : State), s.pwr.phase = .off → (∀ b, c ≠ .powerOnReset b) → c ≠ .vauxReturn →
    ∃ t, exec c s = .next t ∧ t = { s with rst := t.rst }

/-- Invariant of every step: a module that is OFF, with neither a power-on reset nor a return of VAUX waiting in the queue, stays so, and
keeps its supplies, memories, registers and time. Model: where the spec does not say it, this follows log 119. -/
def Obligations.OffStaysOff : Prop :=
  ∀ s t : State, s.pwr.phase = .off → (∀ c ∈ s.pending, (∀ b, c ≠ .powerOnReset b) ∧ c ≠ .vauxReturn) → step s = .next t →
    t.pwr.phase = .off ∧ (∀ c ∈ t.pending, (∀ b, c ≠ .powerOnReset b) ∧ c ≠ .vauxReturn) ∧
      t = { s with rst := t.rst, pending := s.pending.tail }

/-! ### Registers and pages (chapter 2) -/

/-- An access of wrong width, or to no register the master reaches, writes nothing, reads 0 and is counted (R30); one that is none of these
is not this row's, and changes nothing. -/
def Obligations.BadAccessOnlyCounts : Prop :=
  ∀ (m a width : Nat) (wr : Bool) (s : State), s.onMain = true →
    (¬ (width = 4 ∧ reaches m a = true) → ∃ t, exec (.badAccess m a width wr) s = .next t ∧
      t.cn 0 R.SYS_CNT_BAD_ACCESS = min (2 ^ 32 - 1) (s.cn 0 R.SYS_CNT_BAD_ACCESS + 1) ∧ (wr = false → t.rdata = 0) ∧
      t = { s with hdrs := t.hdrs, cnts := t.cnts, rdata := t.rdata, vecs := t.vecs, out := t.out, shf := t.shf }) ∧
    (width = 4 ∧ reaches m a = true → exec (.badAccess m a width wr) s = .next s)

/-- A write of an RWS register that is performed changes its shadow word and no active word; a read returns the shadow, or with ACTIVE_VIEW
the active word (R43). A write that CTRL cannot refuse: no COMMIT pending, the page unlocked, no ring route. -/
def Obligations.RwsWriteChangesShadowOnly : Prop :=
  ∀ (m a : Nat) (v : Word) (r : RegDef) (n : Nat) (s : State), s.onMain = true → isVf m = false → reaches m a = true →
    0x030 ≤ a % 4096 → rowOf (a / 4096) (a % 4096) = some (r, n, false) → r.acc = .rws → r.wide = false →
    (s.touch (a / 4096)).cmdWrite (a / 4096) (a % 4096) v = none → (s.hd (headPage (a / 4096))).commitPending = false →
    (s.hd (headPage (a / 4096))).unlocked = true → a / 4096 ≠ pRST → a / 4096 ≠ pTMP → a / 4096 ≠ pSHF →
    wrRange (a / 4096) (a % 4096) r v (v &&& w32 r.mask).toNat = false →
    (s.touch (a / 4096)).ringRouteBad (a / 4096) (a % 4096) v = false →
    ∃ t, exec (.rwsWrite m a v) s = .next t ∧ exec (.regWrite m a v) s = .next t ∧
      t.rg (a / 4096) (a % 4096) = v &&& w32 r.mask ∧ (∀ p off, t.ac p off = s.ac p off) ∧
      (∀ p off, ka p off ≠ ka (a / 4096) (a % 4096) → t.rg p off = s.rg p off) ∧
      t.regWord (a / 4096) (a % 4096) = (if (s.hd (a / 4096)).activeView then s.ac (a / 4096) (a % 4096) else v &&& w32 r.mask) ∧
      t = { s with regs := t.regs, hdrs := t.hdrs }

/-- While a COMMIT is pending a write of an RWS register of the unlocked page is refused with COMMIT_BUSY: the shadow and every other
register stay (R45). CTRL.COMMIT on the first page of a block (R44, R45), written with ENABLE as it stands: a shadow that breaks a range or
a rule is refused, one that passes waits for the safe boundary where the instance runs, and a COMMIT while one is pending has no effect; the
active copies stay in each of these. On a page whose block adds nothing of its own (memory, supplies, keys, tamper, event deck, health and
shelf pages) a pending COMMIT makes every RWS word of the page active at the boundary, in one step: COMMIT_PENDING clears, COMMIT_TAG takes
the tick and COMMIT_DONE is set (R44); nothing else of the block changes. Model: where the spec does not say it, this follows log 118. -/
def Obligations.Commits : Prop :=
  (∀ (m a : Nat) (v : Word) (r : RegDef) (n : Nat) (s : State), s.onMain = true → isVf m = false → reaches m a = true →
    0x030 ≤ a % 4096 → rowOf (a / 4096) (a % 4096) = some (r, n, false) → r.acc = .rws → a / 4096 ≠ pRST →
    (s.touch (a / 4096)).cmdWrite (a / 4096) (a % 4096) v = none → (s.hd (headPage (a / 4096))).commitPending = true →
    (s.hd (headPage (a / 4096))).unlocked = true →
    ∃ t, exec (.rwsWrite m a v) s = .next t ∧ (t.hd (headPage (a / 4096))).cfgErr = true ∧
      (t.hd (headPage (a / 4096))).errCode = w32 (pageIndex (a / 4096) * 2 ^ 20 + a % 4096 * 256 + Err.commitBusy) ∧
      t = { s with hdrs := t.hdrs, cnts := t.cnts, vecs := t.vecs, out := t.out, shf := t.shf }) ∧
  (∀ (m p : Nat) (v : Word) (s : State), s.onMain = true → isVf m = false → p < 4096 → (pageBlock p).isSome = true → headPage p = p →
    v = w32 (b2n (s.hd p).enable + 128 * b2n (s.hd p).activeView) → p ≠ pHWS 0 →
    ((s.hd p).commitPending = true →
      ∃ t, exec (.commit m p v) s = .next t ∧ t.hd p = { s.hd p with lockSeen := false } ∧ t.acts = s.acts ∧ t.regs = s.regs) ∧
    ((s.hd p).commitPending = false → ∀ q off c, (s.touch p).commitCheck p = some (q, off, c) →
      ∃ t, exec (.commit m p v) s = .next t ∧ (t.hd (headPage q)).cfgErr = true ∧
        (t.hd (headPage q)).errCode = w32 (pageIndex q * 2 ^ 20 + off * 256 + c) ∧ t.acts = s.acts ∧ t.regs = s.regs) ∧
    ((s.hd p).commitPending = false → (s.touch p).commitCheck p = none → (s.touch p).commitWaits p = true →
      ∃ t, exec (.commit m p v) s = .next t ∧ (t.hd p).commitPending = true ∧ (t.hd p).commitNs = s.ns ∧ (t.hd p).cfgErr = false ∧
        t.acts = s.acts ∧ t.regs = s.regs)) ∧
  (∀ (p : Nat) (s : State), s.onMain = true → p ∈ [pMEM, pCRU, pPWR, pKSU, pTMP, pEVR, pHLT, pSHF] →
    (s.hd p).commitPending = true → s.boundary p (s.hd p).commitNs = true →
    ∃ t, exec (.commitApply p) s = .next t ∧ (∀ off ∈ accOffs p .rws, t.ac p off = s.rg p off) ∧
      (t.hd p).commitPending = false ∧ (t.hd p).commitTag = tagOf s.tsu.lastTick ∧ bit (t.hd p).irqStatus 1 = true ∧
      (p ≠ pEVR → t = { s with acts := t.acts, hdrs := t.hdrs, vecs := t.vecs, out := t.out, shf := t.shf }))

/-- A 64-bit register (R31): the write of its low word is held, and the write of its high word makes the register take the held low word and
the high word together, with no other register changed. A read of the low word of a 64-bit register returns it and latches the high word for
the next read of the high word by the same master, which returns the latched word and drops the latch (R31). Model: where the spec does not
say it, this follows log 114. -/
def Obligations.WideRegisters : Prop :=
  (∀ (m p off : Nat) (lo hi : Word) (r : RegDef) (n k : Nat) (s : State), s.onMain = true → isVf m = false →
    off + 4 < 4096 → 0x030 ≤ off → reaches m (ka p off) = true → reaches m (ka p (off + 4)) = true →
    rowOf p off = some (r, n, false) → rowOf p (off + 4) = some (r, k, true) → r.wide = true → r.acc = .rw ∨ r.acc = .rws →
    pageBlock p = some (.tsu, 0) ∨ pageBlock p = some (.mem, 0) ∨ pageBlock p = some (.evr, 0) →
    (s.touch p).cmdWrite p off lo = none → (∀ u : State, u.cmdWrite p (off + 4) hi = none) →
    (s.hd (headPage p)).commitPending = false → (s.hd (headPage p)).unlocked = true → r.rngs = [] →
    ∃ t u, exec (.regWrite m (ka p off) lo) s = .next t ∧ t = { s with hdrs := t.hdrs, held := t.held } ∧
      exec (.reg64HighWrite m (ka p (off + 4)) hi) t = .next u ∧
      u.rg p off = lo &&& w32 r.mask ∧ u.rg p (off + 4) = hi &&& w32 r.maskHi ∧
      (∀ q x, ka q x ≠ ka p off → ka q x ≠ ka p (off + 4) → u.rg q x = s.rg q x) ∧
      u = { s with hdrs := u.hdrs, held := u.held, regs := u.regs }) ∧
  (∀ (m a : Nat) (s : State), s.onMain = true → reaches m a = true → wideAt (a / 4096) (a % 4096) = some false →
    reaches m (a + 4) = true → wideAt ((a + 4) / 4096) ((a + 4) % 4096) = some true → (a + 4) / 4096 = a / 4096 →
    a % 4096 ≠ R.ADC_DATA → (a + 4) % 4096 ≠ R.ADC_DATA → swf (fun _ => (0 : Word)) (s.lat.map (fun e => (e.1, 1#32))) = true →
    ∃ t u, exec (.reg64LowRead m a) s = .next t ∧ t.rdata = (s.touch (a / 4096)).regWord (a / 4096) (a % 4096) ∧
      t = { s with rdata := t.rdata, lat := t.lat, hdrs := t.hdrs } ∧
      exec (.reg64LowRead m (a + 4)) t = .next u ∧ u.rdata = (s.touch (a / 4096)).regWord (a / 4096) (a % 4096 + 4) ∧
      u = { s with rdata := u.rdata, lat := u.lat, hdrs := u.hdrs })

/-- W1C and FORCE (R52, R54) and routing (R55): IRQ_STATUS loses the bits written 1, gains the bits forced but for reserved ones, and the
route takes ROUTE_EN and VECTOR; the headers of other pages, registers and tables stay. Model: where the spec does not say it, this follows
log 118. -/
def Obligations.InterruptRegisters : Prop :=
  ∀ (m p : Nat) (v : Word) (s : State), s.onMain = true → isVf m = false → p < 4096 → (pageBlock p).isSome = true →
    (∃ t, exec (.irqStatusClear m p v) s = .next t ∧ (t.hd p).irqStatus = (s.hd p).irqStatus &&& ~~~v ∧
      t = { s with hdrs := t.hdrs, vecs := t.vecs, out := t.out, shf := t.shf } ∧ ∀ q, q ≠ p → t.hd q = s.hd q) ∧
    (∃ t, exec (.irqForce m p v) s = .next t ∧ (t.hd p).irqStatus = (s.hd p).irqStatus ||| (v &&& irqMask p) ∧
      t = { s with hdrs := t.hdrs, vecs := t.vecs, out := t.out, shf := t.shf } ∧ ∀ q, q ≠ p → t.hd q = s.hd q) ∧
    ((∀ f, pageBlock p = some (.vfm, f) → f = 0 ∨ (s.vec (fld v 0 8)).owner = f) →
      ∃ t, exec (.irqRouteWrite m p v) s = .next t ∧ (t.hd p).routeEn = bit v 8 ∧ (t.hd p).vector = fld v 0 8 ∧
        t = { s with hdrs := t.hdrs, vecs := t.vecs, out := t.out, shf := t.shf }) ∧
    (∀ f, pageBlock p = some (.vfm, f) → f ≠ 0 → (s.vec (fld v 0 8)).owner ≠ f →
      ∃ t, exec (.irqRouteWrite m p v) s = .next t ∧ (t.hd p).errCode = w32 (R.IRQ_ROUTE * 256 + Err.notOwner) ∧
        (t.hd p).routeEn = (s.hd p).routeEn ∧ (t.hd p).vector = (s.hd p).vector)

/-- The unlock sequence (R48): 0x5A5A arms it, 0xA5A5 as the next access unlocks the page, 0 relocks it, another value restarts it; one
second after the unlock the page relocks by itself, and not before. -/
def Obligations.LockSequence : Prop :=
  ∀ (m p : Nat) (v : Word) (s : State), s.onMain = true → isVf m = false → p < 4096 → (pageBlock p).isSome = true → headPage p = p →
    (∃ t, exec (.lockWrite m p v) s = .next t ∧
      (v.toNat % 2 ^ 16 = 0 → t.hd p = { s.hd p with lockSeen := false, unlocked := false }) ∧
      (v.toNat % 2 ^ 16 = 0x5A5A → t.hd p = { s.hd p with lockSeen := true }) ∧
      (v.toNat % 2 ^ 16 = 0xA5A5 → (s.hd p).lockSeen = true →
        t.hd p = { s.hd p with lockSeen := false, unlocked := true, unlockClk := s.tsu.clk }) ∧
      (v.toNat % 2 ^ 16 ≠ 0 → v.toNat % 2 ^ 16 ≠ 0x5A5A → ¬ (v.toNat % 2 ^ 16 = 0xA5A5 ∧ (s.hd p).lockSeen = true) →
        t.hd p = { s.hd p with lockSeen := false }) ∧
      (∀ q, q ≠ p → t.hd q = s.hd q) ∧ t = { s with hdrs := t.hdrs, vecs := t.vecs, out := t.out, shf := t.shf }) ∧
    (∃ t, exec (.lockTimeout p) s = .next t ∧
      ((s.hd p).unlocked = true → msClk 1000 ≤ s.tsu.clk - (s.hd p).unlockClk → t.hd p = { s.hd p with unlocked := false }) ∧
      (s.tsu.clk - (s.hd p).unlockClk < msClk 1000 → t = s) ∧
      t = { s with hdrs := t.hdrs, vecs := t.vecs, out := t.out, shf := t.shf })

/-- ENABLE (R487): a CTRL write with no command bit makes CTRL.ENABLE read what was written; clearing it with no COMMIT pending leaves the
instance not running. START and STOP of the sample plane (R37, R487, R47): START with ENABLE 0 is refused with RANGE; START of the enabled
plane starts it and clears CFG_ERR; STOP of the running plane waits for its boundary, BUSY reading 1. Model: where the spec does not say it,
this follows logs 121, 122. -/
def Obligations.EnableStartAndStop : Prop :=
  (∀ (m p : Nat) (v : Word) (s : State), s.onMain = true → isVf m = false → p < 4096 → (pageBlock p).isSome = true → headPage p = p →
    v.toNat = v.toNat % 2 ∨ v.toNat = 128 + v.toNat % 2 → (s.hd p).commitPending = false → p ≠ pDUP →
    ∃ t, exec (.enable m p v) s = .next t ∧ (t.hd p).enable = bit v 0 ∧ (bit v 0 = false → t.running p = false)) ∧
  (∀ (m : Nat) (v : Word) (s : State), s.onMain = true → isVf m = false → v = w32 (b2n (s.hd pSVA).enable) →
    (s.hd pSVA).activeView = false →
    ((s.hd pSVA).enable = false → ∃ t, exec (.start m pSVA v) s = .next t ∧
      (t.hd pSVA).errCode = w32 (R.CTRL * 256 + Err.range) ∧ (t.hd pSVA).started = (s.hd pSVA).started) ∧
    ((s.hd pSVA).enable = true → s.unusable pSVA = false →
      ∃ t, exec (.start m pSVA v) s = .next t ∧ (t.hd pSVA).started = true ∧ (t.hd pSVA).cfgErr = false ∧ t.running pSVA = true ∧
        t.regs = s.regs ∧ t.acts = s.acts ∧ t.sva = s.sva) ∧
    (s.running pSVA = true → ∃ t, exec (.stop m pSVA v) s = .next t ∧ (t.hd pSVA).stopNs = some s.ns ∧
      t.status pSVA / 2 % 2 = 1 ∧ t.sva = s.sva ∧ t.regs = s.regs))

/-- CTRL.SOFT_RESET of a page whose instance is not enabled and whose block adds nothing of its own (R38): the configuration region reads
its reset values, shadow and active, the header returns to reset but for FENCED and DEGRADED, a pending COMMIT is discarded, and the
counters, memories and tables stay. Model: where the spec does not say it, this follows log 124. -/
def Obligations.SoftResetRestoresConfiguration : Prop :=
  ∀ (m p : Nat) (v : Word) (s : State), s.onMain = true → isVf m = false → p ∈ [pMEM, pCRU, pPWR, pKSU, pEVR, pHLT, pSHF] →
    (s.hd p).enable = false → s.unusable p = false →
    ∃ t, exec (.softReset m p v) s = .next t ∧ (∀ off, 0x040 ≤ off → off < 0x400 → t.rg p off = regReset p off ∧ t.ac p off = regReset p off) ∧
      t.hd p = { fenced := (s.hd p).fenced, degraded := (s.hd p).degraded, satSeen := (s.hd p).satSeen } ∧
      t.cnts = s.cnts ∧ t.snaps = s.snaps ∧ t.tbl = s.tbl ∧ t.mem = s.mem ∧ (∀ q off, q ≠ p → off < 4096 → t.rg q off = s.rg q off)

/-- CNT_SNAPSHOT copies every live counter of the pages CTRL acts for and writes CNT_SNAP_TAG (R50); CNT_CLEAR makes every one of them 0
(R49); the counters of other pages stay in both. For pages whose counters are cleared with nothing beside them. -/
def Obligations.CounterCommands : Prop :=
  ∀ (m p : Nat) (v : Word) (s : State), s.onMain = true → isVf m = false → p ∈ [pMEM, pPWR, pKSU, pEVR, pHLT, pTSU, pRST] →
    v = w32 (b2n (s.hd p).enable + 128 * b2n (s.hd p).activeView) → swf (fun _ => 0) s.cnts = true →
    (∃ t, exec (.cntSnapshot m p v) s = .next t ∧
      (∀ off, 0x800 ≤ off → off < 0xA00 → sget 0 (ka p off) t.snaps = s.cn p off) ∧ (t.hd p).snapTag = tagOf s.tsu.lastTick ∧
      t.cnts = s.cnts ∧ t.regs = s.regs) ∧
    (∃ t, exec (.cntClear m p v) s = .next t ∧ (∀ off, 0x800 ≤ off → off < 0xA00 → t.cn p off = 0) ∧
      (∀ q off, q ≠ p → off < 4096 → t.cn q off = s.cn q off) ∧ t.snaps = s.snaps ∧ t.regs = s.regs)

/-- The table window (R56 to R58): OP = 1 on an idle window loads TBL_DATA with the entry and sets BUSY; OP = 2 of a whole entry that its
block accepts sets BUSY and leaves every table word as it is until TBL_OP_DONE, reserved bits of the entry keeping what they hold (R11); an
operation while BUSY is refused with TBL_BUSY; and the completion clears BUSY and puts the entry's words in place as one. Model: where the
spec does not say it, this follows log 118. -/
def Obligations.TableWindow : Prop :=
  ∀ (m p : Nat) (s : State), s.onMain = true → isVf m = false → p < 4096 → (pageCaps p).testBit 2 = true → (pageBlock p).isSome = true →
    headPage p = p →
    (∀ t0 e n, (s.win p).busy = false → tabAt p (s.win p).addr = some (t0, e, n) → t0.size ≤ 128 → n = 0 →
      ∃ t, exec (.tblRead m p) s = .next t ∧ (t.win p).busy = true ∧
        (∀ i, i < t0.words → sget 0 i (t.win p).data = (((s.touch p).tblWords p e (t0.size / 4)).take t0.words)[i]?.getD 0) ∧
        t = { s with wins := t.wins, hdrs := t.hdrs }) ∧
    ((s.win p).busy = true → ∃ t, exec (.tblWrite m p) s = .next t ∧
      (t.hd p).errCode = w32 (R.TBL_UPDATE * 256 + Err.tblBusy) ∧ t.tbl = s.tbl ∧ t.wins = s.wins) ∧
    (∀ t0 e, (s.win p).busy = false → (s.win p).asm = none → tabAt p (s.win p).addr = some (t0, e, 0) → t0.size ≤ 128 → t0.ro = false →
      t0.words * 4 = t0.size → (t0.prot = true → (s.hd p).unlocked = true) → s.tblFenced p = false →
      s.tblCommitting p e = false → (s.touch p).entryCheck p e (s.maskEntry e ((s.win p).take t0.words)) = none →
      ∃ t, exec (.tblWrite m p) s = .next t ∧ (t.win p).busy = true ∧
        (t.win p).pend = some (e, s.maskEntry e ((s.win p).take t0.words)) ∧ t.tbl = s.tbl ∧
        (isTal p = false → t = { s with wins := t.wins, hdrs := t.hdrs })) ∧
    ((s.win p).busy = true → (s.win p).pend = none →
      ∃ t, exec (.tblOpDone p) s = .next t ∧ (t.win p).busy = false ∧ t = { s with wins := t.wins }) ∧
    (∀ e ws, p = pDUP ∨ p = pSWC → (s.win p).busy = true → (s.win p).pend = some (e, ws) →
      ∃ t, exec (.tblOpDone p) s = .next t ∧ (t.win p).busy = false ∧ (∀ i, i < ws.length → t.tw (e + 4 * i) = ws[i]?.getD 0) ∧
        (∀ a, (∀ i, i < ws.length → a ≠ e + 4 * i) → t.tw a = s.tw a) ∧
        t = { s with wins := t.wins, tbl := t.tbl, swc := { s.swc with fdbRef := t.swc.fdbRef } })

/-! ### MACs and the Crosscut (chapter 3) -/

/-- A port's pause (R70): the quanta that run out let the port transmit; pausing for longer than PAUSE_WDOG, measured once the frame in
flight has left, ends it too, is counted, raises IRQ_STATUS bit 5 and starts the holdoff; and the holdoff ends at its time. Before their
time none of the three changes anything. Gate lists (R73): the operating entry advances to the one its place in the cycle names, and at the
first cycle start after the commit the named bank becomes operating with GATE_SWITCH set; not before. -/
def Obligations.PausesAndGates : Prop :=
  (∀ (p : Nat) (s : State), s.onMain = true →
    ((s.mac p).paused = true → (s.mac p).pauseEndClk ≤ s.tsu.clk →
      ∃ t, exec (.pauseExpiry p) s = .next t ∧ t.mac p = { s.mac p with paused := false, pauseWait := false } ∧
        (∀ q, q ≠ p → t.mac q = s.mac q) ∧
        t = { s with macs := t.macs }) ∧
    (s.tsu.clk < (s.mac p).pauseEndClk → exec (.pauseExpiry p) s = .next s) ∧
    ((s.mac p).paused = true → (s.mac p).pauseWait = false → fld (s.ac (pMAC p) R.MAC_PAUSE) 0 16 ≠ 0 →
      msClk (fld (s.ac (pMAC p) R.MAC_PAUSE) 0 16) < s.since (s.mac p).pauseStartClk →
      ∃ t, exec (.pauseWdog p) s = .next t ∧
        t.mac p = { s.mac p with
          paused := false, holdoff := true, holdoffEndClk := s.tsu.clk + msClk (fld (s.ac (pMAC p) R.MAC_PAUSE) 16 16) } ∧
        (∀ q, q ≠ p → t.mac q = s.mac q) ∧ bit (t.hd (pMAC p)).irqStatus 5 = true ∧
        t.cn (pMAC p) R.MAC_CNT_PAUSE_WDOG = min (cntMax (pMAC p) R.MAC_CNT_PAUSE_WDOG) (s.cn (pMAC p) R.MAC_CNT_PAUSE_WDOG + 1) ∧
        ({ s with macs := t.macs } : State).Quiet [pMAC p] t) ∧
    (fld (s.ac (pMAC p) R.MAC_PAUSE) 0 16 = 0 ∨ (s.mac p).pauseWait = true ∨
        s.since (s.mac p).pauseStartClk ≤ msClk (fld (s.ac (pMAC p) R.MAC_PAUSE) 0 16) → exec (.pauseWdog p) s = .next s) ∧
    ((s.mac p).holdoff = true → (s.mac p).holdoffEndClk ≤ s.tsu.clk →
      ∃ t, exec (.pauseHoldoffEnd p) s = .next t ∧ t.mac p = { s.mac p with holdoff := false } ∧ (∀ q, q ≠ p → t.mac q = s.mac q) ∧
        t = { s with macs := t.macs })) ∧
  (∀ (e : Nat) (s : State), s.onMain = true → s.running pSWC = true →
    ((s.eg e).gateOn = true → (s.eg e).gateBase ≤ s.ns →
      ∃ t, exec (.gateEntryAdvance e) s = .next t ∧ t.eg e = { s.eg e with gateEntry := s.gateEntryAt e s.ns } ∧
        (∀ r, r ≠ e → t.eg r = s.eg r) ∧ t = { s with egs := t.egs }) ∧
    (∀ c cyc start, c = s.ac (pEG e) R.SWC_GATE_CTRL → cyc = (s.ac (pEG e) R.SWC_GATE_CYCLE).toNat → 0 < cyc →
      start = s.gateBaseNs e + cdiv ((s.eg e).gateReqNs - s.gateBaseNs e) cyc * cyc → (s.eg e).gatePending = true → bit c 0 = true →
      (start ≤ s.ns → ∃ t, exec (.gateBankSwitch e) s = .next t ∧
        t.eg e = { s.eg e with
          gateBank := bit c 1, gatePending := false, gateOn := true, gateEntry := 0, gateBase := s.gateBaseNs e, gateCycle := cyc,
          gateLen := fld c 8 9 } ∧
        (∀ r, r ≠ e → t.eg r = s.eg r) ∧ bit (t.hd (pEG e)).irqStatus 4 = true ∧ ({ s with egs := t.egs } : State).Quiet [pEG e] t) ∧
      (s.ns < start → exec (.gateBankSwitch e) s = .next s)))

/-- Links and cages: a link comes up where the MAC runs and its cage is fed (R76, R469, R487), goes down with its queues discarded (R76), on
P8 with the DUP frames that waited there, a tripped cage holds its link down and a refitted SFP has its supply back (R469); and MAC_TSF_POP
takes the oldest transmit stamp (R107). Model: where the spec does not say it, this follows log 18. -/
def Obligations.LinksAndCages : Prop :=
  ∀ (p : Nat) (s : State), s.onMain = true → p ≤ 9 →
    ((s.mac p).linkUp = false → s.macRuns p = true → (s.mac p).supplyOff = false →
      ∃ t, exec (.linkUp p) s = .next t ∧ t.mac p = { s.mac p with linkUp := true } ∧ (∀ q, q ≠ p → t.mac q = s.mac q) ∧
        bit (t.hd (pMAC p)).irqStatus 4 = true ∧ ({ s with macs := t.macs } : State).Quiet [pMAC p] t) ∧
    ((s.mac p).linkUp = true →
      ∃ t, exec (.linkDown p) s = .next t ∧
        t.mac p = { s.mac p with linkUp := false, paused := false, pauseWait := false, holdoff := false } ∧
        (∀ q, q ≠ p → t.mac q = s.mac q ∧ t.eg q = s.eg q) ∧ (t.eg p).q = [[], [], [], [], [], [], [], []] ∧ (t.eg p).fly = [] ∧
        t.canTx p = false ∧ t.swc.yard = (if p = 8 then [] else s.swc.yard) ∧
        ({ s with macs := t.macs, egs := t.egs, swc := { s.swc with landing := t.swc.landing, yard := t.swc.yard } } : State).Quiet
          [pMAC p, pEG p, if p = 8 then pDUP else pMAC p] t) ∧
    (p ≤ 5 → ∃ t, exec (.cageSupplyTrip p) s = .next t ∧ (t.mac p).supplyOff = true ∧ (t.mac p).txFault = true ∧
      (t.mac p).linkUp = false ∧ exec (.linkUp p) t = .next t) ∧
    (p ≤ 5 → ∃ t, exec (.sfpRefit p) s = .next t ∧
      t.mac p = { s.mac p with supplyOff := false, txFault := false, present := true } ∧ (∀ q, q ≠ p → t.mac q = s.mac q) ∧
      t = { s with macs := t.macs }) ∧
    (∃ t, exec (.macTsfPop p) s = .next t ∧ t.mac p = { s.mac p with tsf := (s.mac p).tsf.drop 1 } ∧
      (∀ q, q ≠ p → t.mac q = s.mac q) ∧ t = { s with macs := t.macs, hdrs := t.hdrs } ∧ ∀ q, q ≠ pMAC p → t.hd q = s.hd q)

/-- Reception (R67): a frame that finds no room in the Landing, a runt and a frame with a bad FCS are counted and go no further. Reception
of a good tagged frame on a port without MACsec, redundancy or learning, whose decision is one egress port that does not refuse it (R67,
R74, R77): it is counted, takes its cells of the Landing with a reference count of 1, and stands at the end of its queue with its ingress
stamp. Model: where the spec does not say it, this follows logs 13, 14. -/
def Obligations.Reception : Prop :=
  (∀ (p : Nat) (f : Frame) (s : State), s.onMain = true → p ≤ 9 → s.macRuns p = true → (s.mac p).linkUp = true → bit (s.macCfg p) 12 = true →
    f.et ≠ 0x8808 →
    (s.lndFree < cellsOf (s.maxLen p) → ∃ t, exec (.frameRx p f) s = .next t ∧
      t.cn (pMAC p) R.MAC_CNT_RX_OVF = min (cntMax (pMAC p) R.MAC_CNT_RX_OVF) (s.cn (pMAC p) R.MAC_CNT_RX_OVF + 1) ∧
      bit (t.hd (pMAC p)).irqStatus 6 = true ∧ s.Quiet [pMAC p] t) ∧
    (s.running pSWC = true → cellsOf (s.maxLen p) ≤ s.lndFree →
      (f.size < 64 → ∃ t, exec (.frameRx p f) s = .next t ∧
        t.cn (pMAC p) R.MAC_CNT_RUNT = min (cntMax (pMAC p) R.MAC_CNT_RUNT) (s.cn (pMAC p) R.MAC_CNT_RUNT + 1) ∧ s.Quiet [pMAC p] t) ∧
      (64 ≤ f.size → f.size ≤ s.maxLen p → f.fcsOk = false → ∃ t, exec (.frameRx p f) s = .next t ∧
        t.cn (pMAC p) R.MAC_CNT_FCS_ERR = min (cntMax (pMAC p) R.MAC_CNT_FCS_ERR) (s.cn (pMAC p) R.MAC_CNT_FCS_ERR + 1) ∧
        s.Quiet [pMAC p] t))) ∧
  (∀ (p : Nat) (f : Frame) (pcp vid e m r : Nat) (s : State), s.onMain = true → p ≤ 7 → s.macRuns p = true →
    (s.mac p).linkUp = true → bit (s.macCfg p) 12 = true → bit (s.macCfg p) 9 = false → s.macsecOn p = false →
    f.et ≠ 0x8808 → f.et ≠ 0x88F7 → f.vlan = some (pcp, vid) → bit (s.ac (pMAC p) R.MAC_VLAN) 17 = false →
    s.running pSWC = true → cellsOf (s.maxLen p) ≤ s.lndFree → 64 ≤ f.size → f.size ≤ s.maxLen p → f.fcsOk = true →
    (∀ pr, pr < 4 → s.redMode pr = 0) → s.lookup f vid = .ports m r → s.resolve m p vid f = [e] → e ≠ 10 →
    s.egRefuse e (s.queueOf f pcp) (s.egFrame e f vid pcp 0) (s.rxStamp p) = none →
    ∃ t x, exec (.frameRx p f) s = .next t ∧ x.id = s.swc.nextId ∧ x.frame = s.egFrame e f vid pcp 0 ∧ x.ing = p ∧ x.rsel = r ∧
      x.stamp = s.rxStamp p ∧ x.cells = cellsOf f.size ∧
      (t.eg e).q = (s.eg e).q.set (s.queueOf f pcp) ((((s.eg e).q[s.queueOf f pcp]?).getD []) ++ [x]) ∧
      (∀ q, q ≠ e → t.eg q = s.eg q) ∧ t.swc.landing = s.swc.landing ++ [(s.swc.nextId, cellsOf f.size, 1)] ∧
      t.cn (pMAC p) R.MAC_CNT_RX_FRAMES = min (cntMax (pMAC p) R.MAC_CNT_RX_FRAMES) (s.cn (pMAC p) R.MAC_CNT_RX_FRAMES + 1) ∧
      ({ s with
        egs := t.egs, flips := t.flips, poison := t.poison
        swc := { s.swc with landing := t.swc.landing, nextId := s.swc.nextId + 1, minFree := t.swc.minFree } } : State).Quiet
        [pMAC p, pEG e] t ∧ (s.flips = [] → t.flips = []) ∧ (s.poison = [] → t.poison = []))

/-- H1 (R68): the oldest posted frame waits while the Landing has too few free cells; with enough, a frame posted for one egress port that
does not refuse it stands at the end of its queue and has left the list of posted frames; a MAC control frame reaches no queue of a port
(R63). Selection (R72) and the end of a transmission (R77, R107): an idle port starts the head of the highest queue that is open and holds a
frame, where it fits before the gate closes, with an inverted FCS where a word of its cells cannot be read (R384); when the frame is sent
its reference count falls, it leaves the module counted, a requested stamp enters the FIFO, and a pause that waited for it begins (R70); a
frame for H1 waits to be delivered. Model: where the spec does not say it, this follows logs 14, 17. -/
def Obligations.PostingAndSending : Prop :=
  (∀ (i : H1Item) (rest : List H1Item) (s : State), s.onMain = true → s.swc.h1q = i :: rest → 64 ≤ i.frame.size →
    (s.lndFree < cellsOf i.frame.size → exec .h1Post s = .next s) ∧
    (∀ mask, s.running pSWC = true → cellsOf i.frame.size ≤ s.lndFree → i.direct = some mask → i.frame.et = 0x8808 →
      ∃ t, exec .h1Post s = .next t ∧ t.swc.h1q = rest ∧ ∀ e, e ≤ 9 → t.eg e = s.eg e) ∧
    (∀ mask e, s.running pSWC = true → cellsOf i.frame.size ≤ s.lndFree → i.direct = some mask → i.seq = none → i.frame.et ≠ 0x8808 →
      (List.range 12).filter mask.testBit = [e] → e ≠ 10 → s.pairOf e = none →
      ∀ vid pcp q, vid = (match i.frame.vlan with | some v => v.2 | none => 1) → pcp = (match i.frame.vlan with | some v => v.1 | none => 0) →
        q = i.queue.getD (s.queueOf i.frame pcp) → s.egRefuse e q (s.egFrame e i.frame vid pcp 0) s.short = none →
        ∃ t x, exec .h1Post s = .next t ∧ x.id = s.swc.nextId ∧ x.frame = s.egFrame e i.frame vid pcp 0 ∧ x.ing = 11 ∧
          x.stamp = s.short ∧ x.tsReq = i.tsReq ∧ (t.eg e).q = (s.eg e).q.set q ((((s.eg e).q[q]?).getD []) ++ [x]) ∧
          (∀ q, q ≠ e → t.eg q = s.eg q) ∧ t.swc.h1q = rest ∧
          t.swc.landing = s.swc.landing ++ [(s.swc.nextId, cellsOf i.frame.size, 1)])) ∧
  (∀ (e : Nat) (x : QEntry) (rest : List QEntry) (s : State), s.onMain = true → e ≤ 9 →
    (∀ q, s.egIdle e = true → q < 8 → (s.eg e).q[q]? = some (x :: rest) → (∀ r, q < r → r < 8 → (s.eg e).q[r]? = some []) →
      s.gateOpen e q = true → s.aged e q x = false → s.fits e q x = true → s.egMacsec e x.frame = false →
      (∀ m, x.frame.body ≠ .ptp m) →
      ∃ t, exec (.portFrameSelect e) s = .next t ∧
        t.eg e = { s.eg e with
          q := (s.eg e).q.set q rest
          fly := [{ x with
            frame := { x.frame with fcsOk := x.frame.fcsOk && !((s.deq e q).lndRead x.id x.cells e).1 }
            egNs := s.ns, egFrac := if e = 6 ∨ e = 7 then 0 else s.frac }] } ∧
        (∀ r, r ≠ e → t.eg r = s.eg r) ∧
        t.cn (pEG e) (qCnt q 1) = min (cntMax (pEG e) (qCnt q 1)) (s.cn (pEG e) (qCnt q 1) + 1) ∧
        (s.flips = [] → s.poison = [] → ({ s with egs := t.egs } : State).Quiet [pEG e] t)) ∧
    (s.running pSWC = true → (s.eg e).fly = x :: rest → (e = 8 → s.swc.yard = []) →
      ∃ t, exec (.frameTxDone e) s = .next t ∧ t.eg e = { s.eg e with fly := rest } ∧ (∀ r, r ≠ e → t.eg r = s.eg r) ∧
        t.cn (pMAC e) R.MAC_CNT_TX_FRAMES = min (cntMax (pMAC e) R.MAC_CNT_TX_FRAMES) (s.cn (pMAC e) R.MAC_CNT_TX_FRAMES + 1) ∧
        (∀ id k c, (id, c, k) ∈ t.swc.landing → id = x.id → (id, c, k + 1) ∈ s.swc.landing) ∧
        (x.tsReq = none → (s.mac e).pauseWait = false → t.macs = s.macs) ∧
        ((s.mac e).pauseWait = true → (t.mac e).pauseWait = false ∧ (t.mac e).pauseStartClk = s.tsu.clk) ∧
        (∀ tag, x.tsReq = some tag → (s.mac e).tsf.length < 64 →
          ∃ st fr, (t.mac e).tsf = (s.mac e).tsf ++ [(st, tag, fr, e != 6 && e != 7)] ∧ (t.mac e).lastTag = tag) ∧
        ({ s with egs := t.egs, macs := t.macs, swc := { s.swc with landing := t.swc.landing } } : State).Quiet [pMAC e] t) ∧
    (s.running pSWC = true → (s.eg 11).fly = x :: rest →
      ∃ t, exec (.frameTxDone 11) s = .next t ∧ t.swc.h1rx = s.swc.h1rx ++ [x] ∧ t.eg 11 = { s.eg 11 with fly := rest } ∧
        t = { s with egs := t.egs, swc := { s.swc with landing := t.swc.landing, h1rx := t.swc.h1rx } }))

/-- What ages out of the Crosscut: a dynamic FDB entry (R75), a duplicate entry (R83) and the transparent clock's oldest Sync (R105) leave
their tables at their time and not before. Supervision (R84): SWC_RED_LIFECHECK ms after the last one a running pair sends a supervision
frame into both its ports, with one sequence number and the port's LAN. Model: where the spec does not say it, this follows log 127. -/
def Obligations.AgeingAndSupervision : Prop :=
  (∀ (i : Nat) (s : State), s.onMain = true → s.running pSWC = true →
    (∀ lim, lim = fld (s.ac pSWC R.SWC_FDB_AGE) 0 16 → lim ≠ 0 → i < 32768 → bit (s.tw (fdbAddr i + 4)) 31 = true →
      bit (s.tw (fdbAddr i + 8)) 31 = false →
      (lim ≤ s.fdbAge i → ∃ t, exec (.fdbAgeOut i) s = .next t ∧ bit (t.tw (fdbAddr i + 4)) 31 = false ∧
        (∀ a, (∀ k, k < 5 → a ≠ fdbAddr i + 4 * k) → t.tw a = s.tw a) ∧ t = { s with tbl := t.tbl, swc := { s.swc with fdbRef := t.swc.fdbRef } }) ∧
      (s.fdbAge i < lim → exec (.fdbAgeOut i) s = .next s)) ∧
    (∀ e, s.swc.dups.find? (fun d => d.1 == i) = some (i, e) →
      (msClk (s.ac pRED R.SWC_RED_FORGET).toNat ≤ s.since e.lastClk → ∃ t, exec (.dupEntryForget i) s = .next t ∧
        (∀ d ∈ t.swc.dups, d.1 ≠ i) ∧ (∀ d, d.1 ≠ i → (d ∈ t.swc.dups ↔ d ∈ s.swc.dups)) ∧
        t = { s with swc := { s.swc with dups := t.swc.dups } }) ∧
      (s.since e.lastClk < msClk (s.ac pRED R.SWC_RED_FORGET).toNat → exec (.dupEntryForget i) s = .next s)) ∧
    (∀ c rest, s.swc.tc = c :: rest →
      (msClk 100 ≤ s.since c.syncClk → ∃ t, exec .tcSyncEntryRelease s = .next t ∧ t = { s with swc := { s.swc with tc := rest } }) ∧
      (s.since c.syncClk < msClk 100 → exec .tcSyncEntryRelease s = .next s))) ∧
  (∀ (pair n : Nat) (s : State), s.onMain = true → pair < 4 → s.redMode pair ≠ 0 → s.running pSWC = true →
    (s.ac pRED R.SWC_RED_LIFECHECK).toNat ≠ 0 → s.swc.supClk[pair]? = some n → s.swc.pairSeq.length = 4 →
    msClk (s.ac pRED R.SWC_RED_LIFECHECK).toNat ≤ s.since n →
    ∀ f q sq, f = s.beaconFrame pair → q = s.queueOf f 0 → s.swc.pairSeq[pair]? = some sq →
      (∀ e, e ∈ [2 * pair, 2 * pair + 1] → s.egRefuse e q (s.egFrame e f 1 0 sq) s.short = none) →
      ∃ t, exec (.supervisionSend pair) s = .next t ∧ t.swc.supClk = s.swc.supClk.set pair s.tsu.clk ∧
        t.swc.pairSeq[pair]? = some ((sq + 1) % 65536) ∧
        (∀ e, e ∈ [2 * pair, 2 * pair + 1] → ∃ x, x.frame = s.egFrame e f 1 0 sq ∧
          (t.eg e).q = (s.eg e).q.set q ((((s.eg e).q[q]?).getD []) ++ [x])) ∧
        (∀ e, e ∉ [2 * pair, 2 * pair + 1] → t.eg e = s.eg e) ∧ t.macs = s.macs ∧ t.tbl = s.tbl ∧ t.regs = s.regs)

/-! ### Station time (chapter 4) -/

/-- A tick start (R95) is not issued before its time. With no COMMIT of the TSU waiting it advances, in a module fed only in its time and
safety islands, the tick by one and changes no time; in a running module where no COMMIT and no STOP waits for it the plane takes the tick
with its close instant (R125) and the executor takes it too (R182). Model: where the spec does not say it, this follows logs 100, 119. -/
def Obligations.TickStarts : Prop :=
  ∀ s : State, s.onTime = true →
    (s.ns < tickStartNs s.tsu.nextTick → exec .tickStart s = .next s) ∧
    (tickStartNs s.tsu.nextTick ≤ s.ns → s.onMain = false → (s.hd pTSU).commitPending = false →
      ∃ t, exec .tickStart s = .next t ∧ t.tsu = { s.tsu with lastTick := s.tsu.nextTick, nextTick := s.tsu.nextTick + 1 } ∧
        t.hws.tickTag = tagOf s.tsu.nextTick ∧ t = { s with tsu := t.tsu, hws := t.hws, pwr := t.pwr }) ∧
    (tickStartNs s.tsu.nextTick ≤ s.ns → s.onMain = true → (∀ p ∈ tickPages, (s.hd p).stopNs = none) →
      (∀ p ∈ pTSU :: commitPages, (s.hd p).commitPending = false) → s.running pSVA = true →
      s.cycOn = true → s.running pDFO = false → s.sva.frozen = [] →
      ∃ t, exec .tickStart s = .next t ∧ t.tsu = { s.tsu with lastTick := s.tsu.nextTick, nextTick := s.tsu.nextTick + 1 } ∧
        t.sva = { s.sva with
          toClose := s.sva.toClose ++
            [(s.tsu.nextTick, tickStartNs s.tsu.nextTick + fld (s.ac pSVA R.SVA_TICK_CFG) 0 12 * 1000)] } ∧
        t.cyc = { s.cyc with ticks := s.cyc.ticks ++ [s.tsu.nextTick] } ∧ t.hws.tickTag = tagOf s.tsu.nextTick ∧
        t = { s with
          tsu := t.tsu, sva := t.sva, cyc := t.cyc, adcs := t.adcs, plaus := t.plaus, dup := { s.dup with paired := t.dup.paired },
          talAts := t.talAts, acq := { s.acq with sets := t.acq.sets }, hwsIn := t.hwsIn, hws := t.hws, pwr := t.pwr })

/-- TSU_ADJ_RATE (R96): outside holdover a value within ±1,000 ppm is the rate from the next clock of the time island on, whose 4 ns are
lengthened by 4 ns × the rate; a value beyond is refused with RANGE and the rate stays. -/
def Obligations.AdjustRate : Prop :=
  ∀ (v : Word) (s : State), s.onTime = true → s.inHold = false →
    (-1000000000 ≤ v.toInt → v.toInt ≤ 1000000000 →
      ∃ t, exec (.tsuAdjRate v) s = .next t ∧ t.rg pTSU R.TSU_ADJ_RATE = v ∧ t.tsu.rate = v.toInt ∧
        (s.tsu.slewLeft = 0 → t.clock.tsu.now = (s.tsu.now + (4000000000000 + 4 * v.toInt)).toNat) ∧
        (∀ p off, ka p off ≠ ka pTSU R.TSU_ADJ_RATE → t.rg p off = s.rg p off) ∧
        t = { s with
          regs := t.regs, hdrs := t.hdrs
          tsu := { s.tsu with rate := v.toInt, rateHist := t.tsu.rateHist, wdogClk := t.tsu.wdogClk } }) ∧
    (v.toInt < -1000000000 ∨ 1000000000 < v.toInt →
      ∃ t, exec (.tsuAdjRate v) s = .next t ∧ (t.hd pTSU).cfgErr = true ∧ (t.hd pTSU).errCode = w32 (R.TSU_ADJ_RATE * 256 + Err.range) ∧
        s.Quiet [pTSU] t)

/-- TSU_ADJ_PHASE (R97): a slew of the offset written starts; SLEW_DONE ends it once the whole offset has been applied, and not before; an
offset beyond ±1,000,000 ns is refused with RANGE. In holdover both adjustments are refused with HOLD_ACTIVE (R100). TSU_CMD.LATCH and STEP
(R98): LATCH copies station time into the latch registers; STEP on the unlocked page, outside holdover, sets station time to TSU_SET,
discards a slew, sets IRQ_STATUS.STEP, counts, and never lets the next tick number fall; on the locked page it is refused with LOCKED, in
holdover with HOLD_ACTIVE (R100). Model: where the spec does not say it, this follows log 5. -/
def Obligations.PhaseLatchAndStep : Prop :=
  (∀ (v : Word) (s : State), s.onTime = true →
    (s.inHold = false → -1000000 ≤ v.toInt → v.toInt ≤ 1000000 →
      ∃ t, exec (.tsuAdjPhase v) s = .next t ∧ t.rg pTSU R.TSU_ADJ_PHASE = v ∧
        t.tsu = { s.tsu with slewing := v != 0, slewLeft := v.toInt * 10 ^ 12 } ∧ t = { s with regs := t.regs, hdrs := t.hdrs, tsu := t.tsu }) ∧
    (s.inHold = false → v.toInt < -1000000 ∨ 1000000 < v.toInt →
      ∃ t, exec (.tsuAdjPhase v) s = .next t ∧ (t.hd pTSU).errCode = w32 (R.TSU_ADJ_PHASE * 256 + Err.range) ∧ s.Quiet [pTSU] t) ∧
    (s.inHold = true →
      (∃ t, exec (.tsuAdjPhase v) s = .next t ∧ (t.hd pTSU).errCode = w32 (R.TSU_ADJ_PHASE * 256 + 0x40) ∧ s.Quiet [pTSU] t) ∧
      (∃ t, exec (.tsuAdjRate v) s = .next t ∧ (t.hd pTSU).errCode = w32 (R.TSU_ADJ_RATE * 256 + 0x40) ∧ s.Quiet [pTSU] t)) ∧
    (s.tsu.slewing = true → s.tsu.slewLeft = 0 → exec .slewDone s = .next { s with tsu := { s.tsu with slewing := false } }) ∧
    (s.tsu.slewLeft ≠ 0 → exec .slewDone s = .next s)) ∧
  (∀ s : State, s.onTime = true →
    (∃ t, exec .latch s = .next t ∧ t.rg64 pTSU R.TSU_LAT_SEC = secOf s.ns % 2 ^ 48 ∧ t.rg pTSU R.TSU_LAT_NS = w32 (nsOf s.ns) ∧
      t.rg pTSU R.TSU_LAT_SHORT = w32 (shortOf s.ns) ∧ t.rg pTSU R.TSU_LAT_TICK = tagOf s.tsu.lastTick ∧
      t = { s with regs := t.regs, hdrs := t.hdrs }) ∧
    ((s.hd pTSU).unlocked = true → s.inHold = false →
      ∃ t, exec .step s = .next t ∧
        t.ns = (s.rg64 pTSU R.TSU_SET_SEC % 2 ^ 48) * 1000000000 + fld (s.rg pTSU R.TSU_SET_NS) 0 30 ∧
        t.tsu.slewing = false ∧ t.tsu.slewLeft = 0 ∧ t.tsu.lastTick = s.tsu.lastTick ∧ s.tsu.lastTick < t.tsu.nextTick ∧
        t.tsu.clk = s.tsu.clk ∧ t.tsu.rate = s.tsu.rate ∧ t.tsu.sync = s.tsu.sync ∧ t.tsu.ins = s.tsu.ins ∧
        t.cn pTSU R.TSU_CNT_STEP = min (cntMax pTSU R.TSU_CNT_STEP) (s.cn pTSU R.TSU_CNT_STEP + 1) ∧ bit (t.hd pTSU).irqStatus 5 = true ∧
        (∀ p off, ka p off ≠ ka pTSU R.TSU_TICK_GAP → t.rg p off = s.rg p off) ∧
        ({ s with regs := t.regs, tsu := t.tsu } : State).Quiet [pTSU] t) ∧
    ((s.hd pTSU).unlocked = false → ∃ t, exec .step s = .next t ∧
      (t.hd pTSU).errCode = w32 (R.TSU_CMD * 256 + Err.locked) ∧ s.Quiet [pTSU] t) ∧
    ((s.hd pTSU).unlocked = true → s.inHold = true → ∃ t, exec .step s = .next t ∧
      (t.hd pTSU).errCode = w32 (R.TSU_CMD * 256 + 0x40) ∧ s.Quiet [pTSU] t))

/-- The sync state (R99, R100): LOCKED locks, HOLD and the discipline watchdog of the locked state enter HOLDOVER at the mean rate with the
slew discarded, RELEASE leaves holdover for UNLOCKED; in any other state each command leaves SYNC as it is. The estimate of holdover (R101),
each second: HOLD_BASE plus what RATE and TEMPCO of the module's time base (R102) give for the seconds and the kelvin since entry, in whole
nanoseconds rounded up (the rounding is the model's reading, log 6) and at most 2^32 - 1; above HOLD_LIMIT the state is HOLD_EXCEEDED;
before the second has passed nothing changes. Model: where the spec does not say it, this follows log 4. -/
def Obligations.SyncAndHoldover : Prop :=
  (∀ s : State, s.onTime = true →
    (s.tsu.sync ≠ .locked → ∃ t, exec .locked s = .next t ∧ t.tsu.sync = .locked ∧ t.tsu.now = s.tsu.now ∧
      t.rg pTSU R.TSU_HOLD_EST = 0 ∧ bit (t.hd pTSU).irqStatus 4 = true ∧ ({ s with regs := t.regs, tsu := t.tsu } : State).Quiet [pTSU] t) ∧
    (s.tsu.sync = .locked → ∃ t, exec .hold s = .next t ∧ t.tsu.sync = .holdover ∧ t.tsu.wdogEntry = false ∧ t.tsu.rate = s.tsu.meanRate ∧
      t.rg pTSU R.TSU_RATE_HELD = wS s.tsu.meanRate ∧ t.rg pTSU R.TSU_HOLD_ELAPSED = 0 ∧ t.tsu.slewLeft = 0 ∧ t.tsu.now = s.tsu.now ∧
      t.cn pTSU R.TSU_CNT_HOLDOVER = min (cntMax pTSU R.TSU_CNT_HOLDOVER) (s.cn pTSU R.TSU_CNT_HOLDOVER + 1) ∧
      bit (t.hd pTSU).irqStatus 4 = true ∧ ({ s with regs := t.regs, tsu := t.tsu } : State).Quiet [pTSU] t) ∧
    (s.discDue = true → ∃ t, exec .discWdog s = .next t ∧ t.tsu.sync = .holdover ∧ t.tsu.wdogEntry = true ∧ t.tsu.rate = s.tsu.meanRate ∧
      t.cn pTSU R.TSU_CNT_DISC_WDOG = min (cntMax pTSU R.TSU_CNT_DISC_WDOG) (s.cn pTSU R.TSU_CNT_DISC_WDOG + 1) ∧
      bit (t.hd pTSU).irqStatus 11 = true ∧ ({ s with regs := t.regs, tsu := t.tsu } : State).Quiet [pTSU] t) ∧
    (s.inHold = true → ∃ t, exec .release s = .next t ∧ t.tsu.sync = .unlocked ∧ t.tsu.rate = s.tsu.rate ∧
      t.rg pTSU R.TSU_HOLD_EST = 0xFFFFFFFF ∧ ({ s with regs := t.regs, tsu := t.tsu } : State).Quiet [pTSU] t) ∧
    (s.tsu.sync = .locked → ∃ t, exec .locked s = .next t ∧ t = { s with hdrs := t.hdrs }) ∧
    (s.tsu.sync ≠ .locked → ∃ t, exec .hold s = .next t ∧ t = { s with hdrs := t.hdrs }) ∧
    (s.discDue = false → exec .discWdog s = .next s) ∧
    (s.inHold = false → ∃ t, exec .release s = .next t ∧ t = { s with hdrs := t.hdrs })) ∧
  (∀ (dT : Int) (s : State), s.onTime = true → s.inHold = true →
    ∀ n est, n = (s.rg pTSU R.TSU_HOLD_ELAPSED).toNat + 1 →
      est = min 0xFFFFFFFF ((s.rg pTSU R.TSU_HOLD_BASE).toNat +
        cdiv (((s.regWord pTSU R.TSU_HOLD_RATE).toNat + (s.regWord pTSU R.TSU_HOLD_TEMPCO).toNat * dT.natAbs) * n) 100) →
      ((s.regWord pTSU R.TSU_HOLD_RATE).toNat = (if s.ident.code = .eo then 25 else 9500) ∧
        (s.regWord pTSU R.TSU_HOLD_TEMPCO).toNat = (if s.ident.code = .eo then 100 else 10000)) ∧
      (n * 250000000 ≤ s.since s.tsu.holdClk →
        ∃ t, exec (.holdUpdate dT) s = .next t ∧ t.rg pTSU R.TSU_HOLD_ELAPSED = w32 n ∧ t.rg pTSU R.TSU_HOLD_EST = w32 est ∧
          t.tsu = { s.tsu with
            sync := if s.tsu.sync = .holdover ∧ fld (s.ac pTSU R.TSU_HOLD_LIMIT) 0 20 < est then .holdExceeded else s.tsu.sync } ∧
          (∀ p off, ka p off ≠ ka pTSU R.TSU_HOLD_ELAPSED → ka p off ≠ ka pTSU R.TSU_HOLD_EST → t.rg p off = s.rg p off) ∧
          ({ s with regs := t.regs, tsu := t.tsu } : State).Quiet [pTSU] t) ∧
      (s.since s.tsu.holdClk < n * 250000000 → exec (.holdUpdate dT) s = .next s))

/-- Time outputs (R108, R109): an armed output gives its edge at its time and not before, one whose time had passed gives it at once with
LATE counted; after WIDTH the pulse ends, and ONCE disarms with TO_DONE set. An edge of TO0 is captured at TI0, which shares its jack, where
TI0 takes edges (R470). The jack that TO0 and TI0 share (R470): an edge that TO0 gives is captured at TI0 like one from outside; an edge
from outside while TO0 drives the jack is captured with a time that is undefined. In a module fed only in its time and safety islands.
Capture inputs (R110), in a module whose converters and triggers name no input: an edge of a selected polarity with a pulse of at least
MIN_WIDTH is stamped into the FIFO; one within 40 ns of the last or beyond 16 entries is lost and counted; TSU_TI_POP drops the heads of the
FIFOs named. Model: where the spec does not say it, this follows log 7. -/
def Obligations.TimeOutputsAndInputs : Prop :=
  (∀ (n : Nat) (o : TimeOut) (s : State), s.onTime = true → s.tsu.outs[n]? = some o →
    (n = 0 → fld (s.ac pTSU R.TSU_TI_CFG) 0 2 = 0) →
    (o.armed = true → o.pulse = false → o.lateFire = false → o.given = false → o.nextNs ≤ s.ns →
      ∃ t o', exec (.toEdge n) s = .next t ∧ t.tsu = { s.tsu with outs := s.tsu.outs.set n o' } ∧ o'.pulse = true ∧ o'.given = true ∧
        o'.pulseEndNs = o.nextNs + s.toWidth n ∧ o'.late = o.late ∧ o'.armed = true ∧
        (s.toMode n = 2 → o'.nextNs = nextEdge o.firstNs (s.toPeriod n) o.nextNs) ∧ t = { s with tsu := t.tsu }) ∧
    (o.armed = true → o.pulse = false → o.lateFire = true →
      ∃ t o', exec (.toEdge n) s = .next t ∧ t.tsu = { s.tsu with outs := s.tsu.outs.set n o' } ∧ o'.pulse = true ∧ o'.late = true ∧
        o'.pulseEndNs = s.ns + s.toWidth n ∧
        t.cn pTSU R.TSU_CNT_TO_LATE = min (cntMax pTSU R.TSU_CNT_TO_LATE) (s.cn pTSU R.TSU_CNT_TO_LATE + 1) ∧
        bit (t.hd pTSU).irqStatus 7 = true ∧ ({ s with tsu := t.tsu } : State).Quiet [pTSU] t) ∧
    (o.lateFire = false → s.ns < o.nextNs → exec (.toEdge n) s = .next s) ∧
    (o.pulse = true → o.pulseEndNs ≤ s.ns →
      ∃ t, exec (.toPulseEnd n) s = .next t ∧
        t.tsu = { s.tsu with outs := s.tsu.outs.set n { o with pulse := false, armed := o.armed && s.toMode n != 1 } } ∧
        (s.toMode n = 1 → bit (t.hd pTSU).irqStatus 8 = true) ∧ ({ s with tsu := t.tsu } : State).Quiet [pTSU] t) ∧
    (s.ns < o.pulseEndNs → exec (.toPulseEnd n) s = .next s)) ∧
  (∀ (o : TimeOut) (i : TimeIn) (s : State), s.onTime = true → s.onMain = false → s.tsu.outs[0]? = some o → s.tsu.ins[0]? = some i →
    i.fifo.length < 16 → s.tiNear 0 = false →
    (o.armed = true → o.pulse = false → o.lateFire = false → o.given = false → o.nextNs ≤ s.ns → s.toPin 0 ≠ (s.toEdge 0).toPin 0 →
      s.tiSelected 0 (!(s.toEdge 0).toPin 0) (s.toWidth 0) = true →
      ∃ t, exec (.toEdge 0) s = .next t ∧ t.tsu.outs = (s.toEdge 0).tsu.outs ∧
        t.tsu.ins = s.tsu.ins.set 0
          { fifo := i.fifo ++ [⟨secOf s.ns % 2 ^ 48, nsOf s.ns, s.frac, !(s.toEdge 0).toPin 0⟩], lastNs := some s.ns } ∧
        bit (t.hd pTSU).irqStatus 9 = true ∧ ({ s with tsu := t.tsu } : State).Quiet [pTSU] t) ∧
    (∀ falling width, s.toMode 0 ≠ 0 → s.tiSelected 0 falling width = true →
      ∃ t e, exec (.tiEdge 0 falling width) s = .next t ∧ e.falling = falling ∧
        t.tsu = { s.tsu with ins := s.tsu.ins.set 0 { fifo := i.fifo ++ [e], lastNs := some s.ns } } ∧
        bit (t.hd pTSU).irqStatus 9 = true ∧ ({ s with tsu := t.tsu, free := s.free + 2 } : State).Quiet [pTSU] t)) ∧
  (∀ (n : Nat) (falling : Bool) (width : Nat) (i : TimeIn) (s : State), s.onTime = true → n < 4 → s.tsu.ins[n]? = some i →
    (n = 0 → s.toMode 0 = 0) →
    (if falling then bit (s.ac pTSU (R.TSU_TI_CFG + 4 * n)) 1 else bit (s.ac pTSU (R.TSU_TI_CFG + 4 * n)) 0) = true →
    4 * fld (s.ac pTSU (R.TSU_TI_CFG + 4 * n)) 8 8 ≤ width →
    (i.fifo.length < 16 → (∀ l, i.lastNs = some l → s.ns < l ∨ l + 40 ≤ s.ns) →
      s.onMain = false ∨ ((∀ c, bit (s.ac (pADC c) R.ADC_CFG) 8 = false) ∧ (s.hd pACQ).enable = false) →
      ∃ t, exec (.tiEdge n falling width) s = .next t ∧
        t.tsu = { s.tsu with
          ins := s.tsu.ins.set n { fifo := i.fifo ++ [⟨secOf s.ns % 2 ^ 48, nsOf s.ns, s.frac, falling⟩], lastNs := some s.ns } } ∧
        bit (t.hd pTSU).irqStatus 9 = true ∧ ({ s with tsu := t.tsu } : State).Quiet [pTSU] t) ∧
    (16 ≤ i.fifo.length → s.onMain = false ∨ (s.hd pACQ).enable = false →
      ∃ t, exec (.tiEdge n falling width) s = .next t ∧
        t.cn pTSU (R.TSU_CNT_TI_OVF + 4 * n) = min (cntMax pTSU (R.TSU_CNT_TI_OVF + 4 * n)) (s.cn pTSU (R.TSU_CNT_TI_OVF + 4 * n) + 1) ∧
        bit (t.hd pTSU).irqStatus 10 = true ∧ s.Quiet [pTSU] t) ∧
    (∀ v : Word, ∃ t, exec (.tsuTiPop v) s = .next t ∧
      (∀ j k, s.tsu.ins[j]? = some k → j < 4 →
        t.tsu.ins[j]? = some (if bit v j then { k with fifo := k.fifo.drop 1 } else k)) ∧
      t = { s with hdrs := t.hdrs, tsu := { s.tsu with ins := t.tsu.ins } }))

/-! ### The sample plane (chapter 5) -/

/-- A frame of a lane at the running plane: one that matches no subscription is counted and, where the stranger list is on and not full,
listed (R112, R136); one of a synchronised stream of one ASDU that passes the checks of R116 and needs no authentication is placed by its
sample count in the second that R119 chooses, with the values of the channels selected (R114, R134). SVA_STR_POP (R136) removes the oldest
stranger and moves the head; on an empty list it has no effect. Stream states (R132) as a final close takes them from a stream's presence: a
running stream that is present stays in RUN, and one in WAIT, SILENT or REJECT enters it at the RECOVER-th present tick; a missing tick of
RUN or GAP gives GAP while the missing run is below DROPOUT, and at DROPOUT REJECT where every tick of the run had a discarded frame, else
SILENT; each missing tick clears the present run. Model: where the spec does not say it, this follows log 22. -/
def Obligations.SampleStreams : Prop :=
  (∀ (lane : Nat) (x : QEntry) (rest : List QEntry) (p : SvPdu) (s : State), s.onMain = true → s.running pSVA = true →
    (s.hd pSVA).enable = true → s.swc.lanes[lane]? = some (x :: rest) → x.frame.body = .sv p →
    (s.svMatch x.frame p (s.extend x.stamp) = none → bit (s.ac pSVA R.SVA_CFG) 16 = true → s.sva.strangers = [] →
      ∃ t n, exec (.svFrameDecode lane) s = .next t ∧ t.sva.strangers = [n] ∧ n.sa = x.frame.sa ∧ n.appid = x.frame.appid ∧
        n.svid = p.svid ∧ n.port = x.ing ∧ n.first = x.stamp ∧ n.frames = 1 ∧ bit (t.hd pSVA).irqStatus 5 = true ∧
        t.cn pSVA R.SVA_CNT_FRAMES_IN = min (cntMax pSVA R.SVA_CNT_FRAMES_IN) (s.cn pSVA R.SVA_CNT_FRAMES_IN + 1) ∧
        t.cn pSVA R.SVA_CNT_NO_MATCH = min (cntMax pSVA R.SVA_CNT_NO_MATCH) (s.cn pSVA R.SVA_CNT_NO_MATCH + 1) ∧
        ({ s with
          sva := { s.sva with strangers := [n] }, swc := { s.swc with lanes := s.swc.lanes.set lane rest } } : State).Quiet [pSVA] t) ∧
    (∀ slot e a d sec n, s.svMatch x.frame p (s.extend x.stamp) = some slot → e = s.sub slot → p.asdus = [a] → s.svCause e p = none → Sub.auth e = 0 →
      Sub.unsync e = false → Sub.reqSync e = 0 →
      d = (s.extend x.stamp : Int) * Sub.rate e - (a.smpCnt : Int) * 1000000000 →
      sec = (d + Sub.rate e * 500000000) / (Sub.rate e * 1000000000) →
      -(fld (s.ac pSVA R.SVA_CFG) 8 8 * 1000 * Sub.rate e : Int) ≤ d - sec * (Sub.rate e * 1000000000) →
      n = (sec * Sub.rate e + a.smpCnt).toNat → (∀ m ∈ (s.strm slot).samples, m.idx ≠ n) →
      s.closedUpTo (firstNeed (Sub.rate e) (Sub.phases e) n) = false →
      ∃ t, exec (.svFrameDecode lane) s = .next t ∧
        (t.strm slot).samples = (s.strm slot).samples ++ [{ idx := n, vals := Sub.pick e a false false }] ∧
        (t.strm slot).lastCnt = a.smpCnt ∧ (t.strm slot).state = (s.strm slot).state ∧ (∀ q, q ≠ slot → t.strm q = s.strm q) ∧
        ({ s with
          sva := { s.sva with streams := t.sva.streams }, swc := { s.swc with lanes := s.swc.lanes.set lane rest } } : State).Quiet [pSVA] t)) ∧
  (∀ s : State, s.onMain = true →
    (∀ n rest, s.sva.strangers = n :: rest → ∃ t, exec .svaStrPop s = .next t ∧
      t.sva = { s.sva with strangers := rest, strHead := (s.sva.strHead + 1) % 64 } ∧ t = { s with sva := t.sva, hdrs := t.hdrs }) ∧
    (s.sva.strangers = [] → ∃ t, exec .svaStrPop s = .next t ∧ t = { s with hdrs := t.hdrs })) ∧
  (∀ (x : Stream) (recover dropout k : Nat), x.state ∈ [1, 2, 3, 4, 5] →
    (x.state = 2 ∨ x.state = 3 → (x.next recover dropout k true).state = 2) ∧
    (x.state ∈ [1, 4, 5] → (x.next recover dropout k true).state = (if recover ≤ x.presRun + 1 then 2 else x.state)) ∧
    (x.next recover dropout k true).presRun = x.presRun + 1 ∧ (x.next recover dropout k true).missRun = 0 ∧
    (x.state = 2 ∨ x.state = 3 → x.missRun + 1 < dropout → (x.next recover dropout k false).state = 3) ∧
    (x.state = 2 ∨ x.state = 3 → dropout ≤ x.missRun + 1 → (x.missRun = 0 ∨ x.runRej = true) → k ∈ x.rej →
      (x.next recover dropout k false).state = 5) ∧
    (x.state = 2 ∨ x.state = 3 → dropout ≤ x.missRun + 1 → ¬ ((x.missRun = 0 ∨ x.runRej = true) ∧ k ∈ x.rej) →
      (x.next recover dropout k false).state = 4) ∧
    (x.state ∈ [1, 4, 5] → (x.next recover dropout k false).state = x.state) ∧
    (x.next recover dropout k false).presRun = 0 ∧ (x.next recover dropout k false).missRun = x.missRun + 1)

/-- The close of a tick (R125, R128): not before its instant; alone the oldest started tick is final at once, and SVA_TICK_STAT shows it; in
a pair it freezes and waits for the partner's map. The agreed close (R128, R129): a partner's map completes the tick that waits for it, with
the streams only this module has counted; a map for a later frozen tick waits with it until the ticks before are final (R126); a map for a
tick not yet closed is held; one of a closed tick is late; and without a map by AGREE_WAIT the tick closes solo, counted, with
IRQ_STATUS.SOLO. Model: where the spec does not say it, this follows log 26. -/
def Obligations.TickClosing : Prop :=
  (∀ (k at_ : Nat) (rest : List (Nat × Nat)) (s : State), s.onMain = true → s.sva.toClose = (k, at_) :: rest →
    (s.ns < at_ → exec .tickClose s = .next s) ∧
    (s.running pSVA = true → s.sva.frozen = [] → at_ ≤ s.ns → s.paired = false →
      ∃ t, exec .tickClose s = .next t ∧ t.sva.toClose = rest ∧ t.sva.lastClosed = some k ∧ t.sva.frozen = [] ∧
        t.sva.finals = ((k, false, s.tsu.clk) :: s.sva.finals).take 32 ∧ t.rg pSVA R.SVA_TICK_STAT = tagOf k ∧
        bit (t.rg pSVA R.SVA_CLOSE_INFO) 0 = false ∧ t.tsu = s.tsu ∧ t.acts = s.acts) ∧
    (s.running pSVA = true → s.sva.frozen = [] → at_ ≤ s.ns → s.paired = true → (∀ m ∈ s.sva.heldMaps, m.tick ≠ k) →
      ∃ t fz, exec .tickClose s = .next t ∧ t.sva.frozen = [fz] ∧ fz.tick = k ∧ fz.closeNs = s.ns ∧ t.sva.toClose = rest ∧
        t.sva.lastClosed = some k ∧ t.sva.finals = s.sva.finals ∧ ∀ n, (s.strm n).valid = true → t.strm n = s.strm n)) ∧
  (∀ s : State, s.onMain = true → s.running pSVA = true → s.paired = true →
    (∀ m rx fz, s.dup.rx = .map m :: rx → s.sva.frozen = [fz] → fz.map = none → fz.tick = m.tick →
      ∃ t, exec .partnerMapRx s = .next t ∧ t.sva.frozen = [] ∧
        t.sva.finals = ((m.tick, false, s.tsu.clk) :: s.sva.finals).take 32 ∧ t.rg pSVA R.SVA_TICK_STAT = tagOf m.tick ∧
        t.cn pSVA R.SVA_CNT_ONE_SIDED = min (cntMax pSVA R.SVA_CNT_ONE_SIDED)
          (s.cn pSVA R.SVA_CNT_ONE_SIDED + (fz.present.length - (fz.present.filter (fun i => m.present.contains i)).length)) ∧
        t.dup.rx = rx) ∧
    (∀ m rx fz rest, s.dup.rx = .map m :: rx → s.sva.frozen = fz :: rest → fz.map = none → fz.tick ≠ m.tick →
      (∃ g ∈ rest, g.tick = m.tick) →
      exec .partnerMapRx s = .next { s with
        dup := { s.dup with rx := rx }
        sva := { s.sva with
          frozen := fz :: rest.map (fun g => if g.tick = m.tick ∧ g.map = none then { g with map := some m } else g) } }) ∧
    (∀ m rx, s.dup.rx = .map m :: rx → s.sva.frozen = [] →
      (s.closedUpTo m.tick = false → s.sva.heldMaps.length < 16 →
        exec .partnerMapRx s = .next
          { s with dup := { s.dup with rx := rx }, sva := { s.sva with heldMaps := s.sva.heldMaps ++ [m] } }) ∧
      (s.closedUpTo m.tick = true → ∃ t, exec .partnerMapRx s = .next t ∧
        t.cn pSVA R.SVA_CNT_AGREE_LATE = min (cntMax pSVA R.SVA_CNT_AGREE_LATE) (s.cn pSVA R.SVA_CNT_AGREE_LATE + 1) ∧
        ({ s with dup := { s.dup with rx := rx } } : State).Quiet [pSVA] t)) ∧
    (∀ fz, s.sva.frozen = [fz] →
      (fz.map = none → fz.closeNs + fld (s.ac pSVA R.SVA_AGREE_CFG) 0 7 * 1000 ≤ s.ns →
        ∃ t, exec .agreeWaitExpiry s = .next t ∧ t.sva.frozen = [] ∧
          t.sva.finals = ((fz.tick, true, s.tsu.clk) :: s.sva.finals).take 32 ∧ bit (t.rg pSVA R.SVA_CLOSE_INFO) 0 = true ∧
          t.cn pSVA R.SVA_CNT_SOLO_TICKS = min (cntMax pSVA R.SVA_CNT_SOLO_TICKS) (s.cn pSVA R.SVA_CNT_SOLO_TICKS + 1) ∧
          bit (t.hd pSVA).irqStatus 6 = true) ∧
      (s.ns < fz.closeNs + fld (s.ac pSVA R.SVA_AGREE_CFG) 0 7 * 1000 → exec .agreeWaitExpiry s = .next s)))

/-! ### Filter engines (chapter 6) and local analog inputs (chapter 7) -/

/-- The commands of a filter engine: START of a stopped chain that passes the checks of R159 starts it with cleared histories, settling
anew, within the load limit, and one that fails is refused with its code; STOP and CLEAR_SAT (R141, R159) act on that chain alone;
FLT_REF_CMD notes the copy for the next run (R149); and FLT_EVT_POP takes the oldest event (R152). The run of a tick (R157): a live engine
that has ended its last run and has a final tick to take runs it, FLT_LAST_TICK holds it, the copies asked for are spent, and no other
engine changes; while the last run goes on, or the engine a reference is copied from has yet to run a tick before it (R149), nothing
happens. Model: where the spec does not say it, this follows logs 27, 28. -/
def Obligations.FilterEngines : Prop :=
  (∀ (e c : Nat) (x : Chain) (s : State), s.onMain = true → e < 64 → s.unusable (pFLT e) = false → x = sget {} c (s.fe e).chains →
    (x.running = false → (s.hd (pFLT e)).commitPending = false →
      (s.chainCheck e c (fun i => cUsed (s.chainW e i)) = none →
        s.chainCost e c + ((s.fe e).chains.map (fun d => if d.2.running then s.chainCost e d.1 else 0)).sum ≤ 120000 →
        ∃ t y, exec (.fltChainStart e c) s = .next t ∧ y = sget {} c (t.fe e).chains ∧ y.running = true ∧ y.valid = false ∧ y.sat = false ∧
          y.fill = 0 ∧ y.win = [] ∧ (∀ st ∈ y.stages, st = {}) ∧ y.startTag = tagOf s.tsu.lastTick ∧ (t.hd (pFLT e)).cfgErr = false ∧
          y.cost = s.chainCost e c ∧ (∀ d, d ≠ c → sget {} d (t.fe e).chains = { sget {} d (s.fe e).chains with
            cost := if (sget {} d (s.fe e).chains).running then s.chainCost e d else (sget {} d (s.fe e).chains).cost }) ∧
          (∀ q, q ≠ e → t.fe q = s.fe q) ∧ ({ s with flt := t.flt } : State).Quiet [pFLT e] t) ∧
      (∀ code, s.chainCheck e c (fun i => cUsed (s.chainW e i)) = some code →
        ∃ t, exec (.fltChainStart e c) s = .next t ∧ (t.hd (pFLT e)).cfgErr = true ∧
          (t.hd (pFLT e)).errCode = w32 (R.FLT_CHAIN_CMD * 256 + code) ∧ s.Quiet [pFLT e] t)) ∧
    (x.running = true → ∃ t, exec (.fltChainStop e c) s = .next t ∧
      sget {} c (t.fe e).chains = { x with running := false, valid := false } ∧
      (∀ d, d ≠ c → sget {} d (t.fe e).chains = sget {} d (s.fe e).chains) ∧ (∀ q, q ≠ e → t.fe q = s.fe q) ∧
      ({ s with flt := t.flt } : State).Quiet [pFLT e] t) ∧
    (x.sat = true → ∃ t, exec (.clearSat e c) s = .next t ∧ sget {} c (t.fe e).chains = { x with sat := false } ∧
      (∀ d, d ≠ c → sget {} d (t.fe e).chains = sget {} d (s.fe e).chains) ∧ (∀ q, q ≠ e → t.fe q = s.fe q) ∧
      ({ s with flt := t.flt } : State).Quiet [pFLT e] t) ∧
    (∀ v : Word, s.refTrack e (fld v 0 2) = true → s.unusable (pFLT (fld v 16 6)) = false → ∃ t, exec (.fltRefCmd e v) s = .next t ∧
      t.fe e = { s.fe e with copies := (s.fe e).copies ++ [(fld v 0 2, fld v 16 6, fld v 12 2)] } ∧ (∀ q, q ≠ e → t.fe q = s.fe q) ∧
      ({ s with flt := t.flt } : State).Quiet [pFLT e] t) ∧
    (∃ t, exec (.fltEvtPop e) s = .next t ∧ t.fe e = { s.fe e with evts := (s.fe e).evts.drop 1 } ∧ (∀ q, q ≠ e → t.fe q = s.fe q) ∧
      ({ s with flt := t.flt } : State).Quiet [pFLT e] t)) ∧
  (∀ (e k done : Nat) (s : State), s.onMain = true → e < 64 → s.fltNext e = some (k, done) → s.fltLive e = true → s.dup.state ≠ 3 →
    (s.hd (pFLT e)).commitPending = false →
    ((s.fe e).endClk ≤ s.tsu.clk → (∀ c ∈ (s.fe e).copies, s.fltBehind c.2.1 k = false) →
      ∃ t, exec (.fltTickRun e) s = .next t ∧ (t.fe e).lastRun = some k ∧ (t.fe e).copies = [] ∧
      (t.fe e).changed = [] ∧ t.rg (pFLT e) R.FLT_LAST_TICK = tagOf k ∧ (∀ q, q ≠ e → t.fe q = s.fe q) ∧ t.acts = s.acts ∧
      t.sva = s.sva ∧ t.tsu = s.tsu ∧ (s.flips = [] → s.poison = [] → t.mem = s.mem)) ∧
    ((s.tsu.clk < (s.fe e).endClk ∨ ∃ c ∈ (s.fe e).copies, s.fltBehind c.2.1 k = true) →
      exec (.fltTickRun e) s = .next s))

/-- A converter's scan (R169, R170, R173, R174, R178): it starts SCAN_OFFSET after the tick start, once in a tick; a conversion that is not
its slot's last joins the slot's sum and the next one starts; an urgent one goes to ADC_DATA with INFO.VALID and URGENT set; a request while
one waits merges with it; and a read of ADC_DATA gives the value, latches INFO and STAMP and empties it. Calibration (R177) and the shunts
(R168): CAL of a stopped converter sets BUSY, of a running one is refused with NOT_STOPPED; 3.2 ms later the measured offsets and gains are
in the registers and BUSY clears, not before; an overload in current mode opens the input's shunt and SHUNT_CLOSE closes those of the
converter. Model: where the spec does not say it, this follows logs 40, 42, 44. -/
def Obligations.Converters : Prop :=
  (∀ (c : Nat) (s : State), s.onMain = true → c < 2 →
    (∀ temp : Int, (s.adc c).live = true → (s.adc c).scan = none → (s.adc c).scanTick ≠ some s.tsu.lastTick →
      (s.adc c).cur = none → (s.adc c).urgWait = false → 0 < s.nSlots c →
      (tickStartNs s.tsu.lastTick + fld (s.ac (pADC c) R.ADC_CFG) 16 8 * 1000 ≤ s.ns →
        ∃ t k, exec (.adcScanStart c temp) s = .next t ∧ (t.adc c).scan = some k ∧ k.slot = 0 ∧ k.done = 0 ∧ k.sum = 0 ∧
          k.cfg = s.slotCfg c 0 ∧ (t.adc c).scanTick = some s.tsu.lastTick ∧ (t.adc c).cur = some (false, s.ns, s.short, k.gain) ∧
          (t.adc c).drift = ((s.adc c).drift ||
            ((s.adc c).calValid && decide (1500 < (temp - (s.rg (pADC c) R.ADC_CAL_TEMP).toInt).natAbs))) ∧
          t.adc (1 - c) = s.adc (1 - c) ∧ ({ s with adcs := t.adcs } : State).Quiet [pADC c] t) ∧
      (s.ns < tickStartNs s.tsu.lastTick + fld (s.ac (pADC c) R.ADC_CFG) 16 8 * 1000 → exec (.adcScanStart c temp) s = .next s)) ∧
    (∀ raw start stamp g k, -131072 ≤ raw → raw ≤ 131071 → start + 1000 ≤ s.ns → (s.adc c).stopping = false → (s.adc c).urgWait = false →
      (s.adc c).cur = some (false, start, stamp, g) → (s.adc c).scan = some k → k.done + 1 < 2 ^ sAvg ((k.cfg[0]?).getD 0) →
      ∃ t, exec (.adcConversionDone c raw) s = .next t ∧
        (t.adc c).scan = some { k with
          done := k.done + 1, sum := k.sum + raw * 16 / 2 ^ g, clip := k.clip || raw == 131071 || raw == -131072 } ∧
        (t.adc c).cur = some (false, s.ns, s.short, k.gain) ∧ t.adc (1 - c) = s.adc (1 - c) ∧
        t.cn (pADC c) R.ADC_CNT_CONV = min (cntMax (pADC c) R.ADC_CNT_CONV) (s.cn (pADC c) R.ADC_CNT_CONV + 1) ∧
        ((s.adc (1 - c)).ain0 = none → ({ s with adcs := t.adcs } : State).Quiet [pADC c] t)) ∧
    (∀ raw start stamp g, -131072 < raw → raw < 131071 → g ≤ 4 → start + 1000 ≤ s.ns → (s.adc c).stopping = false → (s.adc c).urgWait = false →
      (s.adc c).cur = some (true, start, stamp, g) → (s.adc c).scan = none →
      ∃ t, exec (.adcConversionDone c raw) s = .next t ∧ (t.adc c).data = s.adcCal c g (raw * 16 / 2 ^ g) ∧
        bit (t.adc c).info 31 = true ∧ bit (t.adc c).info 29 = true ∧ bit (t.adc c).info 30 = bit (s.adc c).info 31 ∧
        (t.adc c).stamp = stamp ∧ (t.adc c).cur = none ∧ bit (t.hd (pADC c)).irqStatus 5 = true ∧
        ((s.adc (1 - c)).ain0 = none → ({ s with adcs := t.adcs } : State).Quiet [pADC c] t)) ∧
    (s.running (pADC c) = true → (s.adc c).cur ≠ none →
      ((s.adc c).urgWait = false → ∃ t, exec (.urgent c) s = .next t ∧ t.adc c = { s.adc c with urgWait := true } ∧
        t = { s with adcs := t.adcs, hdrs := t.hdrs }) ∧
      ((s.adc c).urgWait = true → ∃ t, exec (.urgent c) s = .next t ∧
        t.cn (pADC c) R.ADC_CNT_URG_MERGED = min (cntMax (pADC c) R.ADC_CNT_URG_MERGED) (s.cn (pADC c) R.ADC_CNT_URG_MERGED + 1) ∧
        s.Quiet [pADC c] t)) ∧
    (∃ t, exec (.adcDataRead c) s = .next t ∧ t.rdata = wS (s.adc c).data ∧ (t.adc c).lat = some ((s.adc c).info, (s.adc c).stamp) ∧
      bit (t.adc c).info 31 = false ∧ t = { s with rdata := t.rdata, adcs := t.adcs, hdrs := t.hdrs })) ∧
  (∀ (c : Nat) (s : State), s.onMain = true → c < 2 →
    (s.running (pADC c) = false → ∃ t, exec (.cal c) s = .next t ∧ (t.adc c).calBusy = true ∧ (t.adc c).calNs = s.clkNs ∧
      (t.hd (pADC c)).busy = true ∧ t.adc (1 - c) = s.adc (1 - c) ∧ t.regs = s.regs ∧ t.cnts = s.cnts) ∧
    (s.running (pADC c) = true → ∃ t, exec (.cal c) s = .next t ∧
      (t.hd (pADC c)).errCode = w32 (R.ADC_CMD * 256 + Err.notStopped) ∧ s.Quiet [pADC c] t) ∧
    (∀ offs gains temp, (s.adc c).calBusy = true →
      (s.adc c).calNs + 3200000 ≤ s.clkNs → offs.length = 5 → gains.length = 5 →
      ∃ t, exec (.calDone c offs gains temp) s = .next t ∧
        (∀ g, g < 5 → t.rg (pADC c) (R.ADC_CAL_OFF + 4 * g) = wS ((offs[g]?).getD 0) ∧
          t.rg (pADC c) (R.ADC_CAL_GAIN + 4 * g) = wS ((gains[g]?).getD 0)) ∧
        t.rg (pADC c) R.ADC_CAL_TEMP = wS temp ∧ (t.adc c).calValid = true ∧ (t.adc c).calBusy = false ∧ (t.hd (pADC c)).busy = false ∧
        bit (t.hd (pADC c)).irqStatus 8 = true ∧ t.acts = s.acts ∧ t.adc (1 - c) = s.adc (1 - c)) ∧
    (∀ offs gains temp, s.clkNs < (s.adc c).calNs + 3200000 → exec (.calDone c offs gains temp) s = .next s) ∧
    (∀ a, c ∈ adcsOf a → s.inCurrent c a = true → a ∉ s.shunts →
      ∃ t, exec (.shuntTrip a) s = .next t ∧ (∀ b, b ∈ t.shunts ↔ b = a ∨ b ∈ s.shunts) ∧ bit (t.hd (pADC c)).irqStatus 10 = true ∧
        t.cn (pADC c) R.ADC_CNT_SHUNT_TRIP = min (cntMax (pADC c) R.ADC_CNT_SHUNT_TRIP) (s.cn (pADC c) R.ADC_CNT_SHUNT_TRIP + 1) ∧
        ({ s with shunts := t.shunts } : State).Quiet ((adcsOf a).map pADC) t) ∧
    (∃ t, exec (.shuntClose c) s = .next t ∧ (∀ b, b ∈ t.shunts ↔ b ∈ s.shunts ∧ c ∉ adcsOf b) ∧ t = { s with shunts := t.shunts, hdrs := t.hdrs }))

/-! ### The cycle executor (chapter 8) -/

/-- A cycle starts (R182, R184, R217, R218): at the boundary of the next started tick the cycle's tag is set; with both tokens here its view
is fixed and its windows start 2 µs after the boundary, else it waits, counted, with IRQ_STATUS.SNAP_WAIT, until the tokens are here; the
frames of the cycle before are released and its request vector is sent, except at the first cycle. Model: where the spec does not say it,
this follows log 47. -/
def Obligations.CycleStarts : Prop :=
  ∀ s : State, s.onMain = true →
    (∀ j, s.cycDue = some j → (∀ p, p < 16 → (s.hd (pCYC p)).stopNs = none ∧ (s.hd (pCYC p)).commitPending = false) →
      s.dup.pend = none → s.dupEn = false → s.vfs = [] → s.ops = [] →
      ∃ t, exec .cycleStart s = .next t ∧ t.cyc.cyc = some j ∧ t.cyc.boundNs = s.bound j ∧ t.cyc.kerfDone = false ∧
        t.cyc.ticks = s.cyc.ticks.filter (fun k => j < k) ∧ t.rg (pCYC 0) R.CYC_CYCLE_TAG = tagOf j ∧
        (s.tokens j = true → t.cyc.viewed = true ∧ t.cyc.waiting = false ∧ t.cyc.winNs = s.bound j + 2000) ∧
        (s.tokens j = false → t.cyc.viewed = false ∧ t.cyc.waiting = true ∧ bit (t.hd (pCYC 0)).irqStatus 6 = true ∧
          t.cn (pCYC 0) R.CYC_CNT_SNAP_WAIT = min (cntMax (pCYC 0) R.CYC_CNT_SNAP_WAIT) (s.cn (pCYC 0) R.CYC_CNT_SNAP_WAIT + 1)) ∧
        (s.cyc.cyc = none → t.swc = s.swc ∧ t.hwsIn = s.hwsIn) ∧
        (s.cyc.cyc ≠ none → t.cyc.release = [] ∧ t.hwsIn = s.hwsIn ++ [(1, s.reqVector, 0)] ∧
          ∃ items, t.swc = { s.swc with h1q := s.swc.h1q ++ items } ∧ (s.failed = false → items.length = s.cyc.release.length)) ∧
        (∀ p off, ka p off ≠ ka (pCYC 0) R.CYC_CYCLE_TAG → t.rg p off = s.rg p off) ∧
        ((∀ i, (s.inst i).startNs = none) → t.dir = s.dir) ∧
        (s.flips = [] → s.poison = [] → ({ s with
          cyc := t.cyc, swc := t.swc, hwsIn := t.hwsIn, dup := { s.dup with injNow := 0 }, regs := t.regs, dir := t.dir, skds := t.skds
          talAts := t.talAts } : State).Quiet [pCYC 0] t)) ∧
    (s.cycDue = none → exec .cycleStart s = .next s) ∧
    (s.cyc.waiting = true → s.cyc.kerfDone = false →
      (s.tokens s.cycNow = true → ∃ t, exec .snapWaitEnd s = .next t ∧ t.cyc.viewed = true ∧ t.cyc.waiting = false ∧
        t.cyc.winNs = s.ns + 2000 ∧ (s.flips = [] → s.poison = [] → t = { s with cyc := t.cyc })) ∧
      (s.tokens s.cycNow = false → exec .snapWaitEnd s = .next s))

/-- The kerf (R186, R195, R206) of a module without instances, forces, on-line change or publications, alone, its memory undamaged: it
starts when its length remains to the next boundary; the write the PF staged for the cycle becomes the point's content, no other point
changes, the content before is kept for the views that still read it, and KERF_USED shows the time used. A kerf not due changes nothing.
Model: where the spec does not say it, this follows logs 53, 54. -/
def Obligations.KerfCommitsTheImage : Prop :=
  ∀ (used : Nat) (s : State), s.onMain = true →
    (s.kerfDue = false → exec (.kerfStart used) s = .next s) ∧
    (∀ p x, s.kerfDue = true → s.dupEn = false → s.vfs = [] → s.usedInsts = [] → s.cyc.insts = [] → s.cyc.forces = [] →
      s.cyc.forceDirty = [] → s.cyc.olc.state = 0 → (∀ n, bit (s.pw n 0) 31 = false) → s.answered = none → s.cyc.adcStage = [] →
      s.cyc.gooseStage = [] → s.cyc.pfStage = [(s.cycNow, p, x)] → p < 2 ^ 20 → s.flips = [] → s.poison = [] →
      ∃ t, exec (.kerfStart used) s = .next t ∧ t.cyc.kerfDone = true ∧ t.cyc.waiting = false ∧ t.cyc.pfStage = [] ∧ t.pt p = x ∧
        (∀ q, q ≠ p → t.pt q = s.pt q) ∧ (s.cycNow, p, s.pt p) ∈ t.cyc.past ∧
        t.rg (pCYC 0) R.CYC_KERF_USED = w32 (min 0xFFFF used) ∧ t.cyc.cyc = s.cyc.cyc ∧ t.cyc.release = s.cyc.release ∧
        ({ s with cyc := t.cyc, img := t.img, tals := t.tals, regs := t.regs } : State).Quiet [pCYC 0] t)

/-- Windows and activations (R187 to R190, R196): the window of a running instance opens once the instances before it on its core have had
their budgets, with an activation of each class due and of TC7; it ends after BUDGET, IRQ_STATUS.BUDGET set where a task still runs; an
activation that ends is done; a write of a point in the instance's ranges and within its quota is staged, one outside is discarded, counted,
and a cause of its error task. Model: where the spec does not say it, this follows logs 47, 48. -/
def Obligations.WindowsAndWrites : Prop :=
  ∀ (i : Nat) (s : State), s.onMain = true →
    (∀ reads, s.inWindows = true → i < 64 → iUsed (s.iw i 0) = true → (s.inst i).state = 1 → (s.inst i).window = 0 →
      (s.inst i).heldCyc = false → (s.inst i).causes = 0 → (s.inst i).acts = [] → s.winStart i ≤ s.ns →
      s.unusable (pCYC (iPair (s.iw i 0))) = false → s.flips = [] → s.poison = [] → (∀ v ∈ s.vecs, v.2.owner = i → v.2.pending = false) →
      ∃ t, exec (.windowStart ⟨i, reads⟩) s = .next t ∧ (t.inst i).window = 1 ∧ (t.inst i).state = 1 ∧
        (t.inst i).acts = ((List.range 7).filter (fun c => s.due i c s.cycNow) ++ if s.clsEn i 7 then [7] else []).map
          (fun c => ({ cls := c, cyc := s.cycNow } : Act)) ∧
        (∀ k, k ≠ i → t.inst k = s.inst k) ∧
        ({ s with cyc := { s.cyc with insts := t.cyc.insts } } : State).Quiet [pCYC (iPair (s.iw i 0))] t) ∧
    (∀ reads, s.ns < s.winStart i → exec (.windowStart ⟨i, reads⟩) s = .next s) ∧
    (s.inWindows = true → (s.inst i).window = 1 → s.winStart i + s.iBudget i ≤ s.ns →
      ∃ t, exec (.windowEnd i) s = .next t ∧ t.inst i = { s.inst i with window := 2 } ∧ (∀ k, k ≠ i → t.inst k = s.inst k) ∧
        (∀ a ∈ (s.inst i).acts, a.done = false → a.cls ≠ 7 → bit (t.hd (pCYC (iPair (s.iw i 0)))).irqStatus 12 = true) ∧
        ({ s with cyc := { s.cyc with insts := t.cyc.insts } } : State).Quiet [pCYC (iPair (s.iw i 0))] t) ∧
    (s.ns < s.winStart i + s.iBudget i → exec (.windowEnd i) s = .next s) ∧
    (∀ cls, s.runsNow i cls = true → ∃ t, exec (.activationEnd i cls) s = .next t ∧
      t.inst i = { s.inst i with acts := (s.inst i).acts.map (fun a => if a.cls = cls then { a with done := true } else a) } ∧
      (∀ k, k ≠ i → t.inst k = s.inst k) ∧ t = { s with cyc := { s.cyc with insts := t.cyc.insts } }) ∧
    (∀ cls p v q keep a, s.runsNow i cls = true → (s.inst i).acts = [a] → a.cls = cls → a.done = false → p < 2 ^ 20 →
      (s.inRange (some i) p = true → (s.inst i).wrote < s.iQuota i →
        ∃ t, exec (.pointWrite i cls p v q keep) s = .next t ∧
          t.inst i = { s.inst i with
            wrote := (s.inst i).wrote + 1
            acts := [{ a with writes := a.writes ++
              [(p, ⟨v % 2 ^ 64, q % 2 ^ 32, keep.getD (shortOf (tickStartNs a.cyc)) % 2 ^ 32⟩)] }] } ∧
          (∀ k, k ≠ i → t.inst k = s.inst k) ∧ t = { s with cyc := { s.cyc with insts := t.cyc.insts } }) ∧
      (s.inRange (some i) p = false →
        ∃ t, exec (.pointWrite i cls p v q keep) s = .next t ∧
          t.inst i = { s.inst i with causes := (s.inst i).causes ||| 2 ^ 4 } ∧ (∀ k, k ≠ i → t.inst k = s.inst k) ∧
          t.cn (pCYC 0) R.CYC_CNT_WR_DENIED = min (cntMax (pCYC 0) R.CYC_CNT_WR_DENIED) (s.cn (pCYC 0) R.CYC_CNT_WR_DENIED + 1) ∧
          ({ s with cyc := { s.cyc with insts := t.cyc.insts } } : State).Quiet [pCYC 0] t))

/-- Point access by the PF and the commands of an instance (R191, R198, R219): READ shows the point's content and directory entry, WRITE
stages a write for the kerf of the current cycle with its time or the stamp kept, a directory write outside every write range sets the entry
and one inside is refused; START, STOP and RESTART are taken in the states that allow them and refused with INST_STATE in the others. Model:
where the spec does not say it, this follows log 54. -/
def Obligations.PointAccessAndInstances : Prop :=
  ∀ s : State, s.onMain = true →
    (∃ t, exec .piRead s = .next t ∧ t.rg64 (pCYC 0) R.CYC_PI_VALUE = (s.pt s.piIndex).value % 2 ^ 64 ∧
      t.rg (pCYC 0) R.CYC_PI_QUAL = w32 (s.pt s.piIndex).qual ∧ t.rg (pCYC 0) R.CYC_PI_STAMP = w32 (s.pt s.piIndex).stamp ∧
      t.rg (pCYC 0) R.CYC_PI_ID = w32 (s.dirAt s.piIndex).1 ∧ t.rg (pCYC 0) R.CYC_PI_HASH = w32 (s.dirAt s.piIndex).2 ∧
      t = { s with regs := t.regs, hdrs := t.hdrs }) ∧
    (∀ keep, s.inRange (some 0) s.piIndex = true → (s.inst 0).wrote < s.iQuota 0 →
      ∃ t, exec (.piWrite keep) s = .next t ∧
        t.cyc.pfStage = s.cyc.pfStage ++ [(s.cycNow, s.piIndex,
          ⟨s.rg64 (pCYC 0) R.CYC_PI_VALUE, (s.rg (pCYC 0) R.CYC_PI_QUAL).toNat,
            if keep then (s.rg (pCYC 0) R.CYC_PI_STAMP).toNat else shortOf (tickStartNs s.cycNow)⟩)] ∧
        (t.inst 0).wrote = (s.inst 0).wrote + 1 ∧
        t = { s with cyc := { s.cyc with insts := t.cyc.insts, pfStage := t.cyc.pfStage }, hdrs := t.hdrs }) ∧
    (s.inRange none s.piIndex = false → ∃ t, exec .piDirectoryWrite s = .next t ∧
      t.dirAt s.piIndex = ((s.rg (pCYC 0) R.CYC_PI_ID).toNat, (s.rg (pCYC 0) R.CYC_PI_HASH).toNat) ∧
      (∀ q, q ≠ s.piIndex → t.dirAt q = s.dirAt q) ∧ t = { s with dir := t.dir, hdrs := t.hdrs }) ∧
    (s.inRange none s.piIndex = true → ∃ t, exec .piDirectoryWrite s = .next t ∧
      (t.hd (pCYC 0)).errCode = w32 (R.CYC_PI_CMD * 256 + 0x46) ∧ s.Quiet [pCYC 0] t) ∧
    (∀ i, s.absent (0x140 + i) = false → (s.inst i).state = 0 → iUsed (s.iw i 0) = true →
      s.unusable (pCYC (iPair (s.iw i 0))) = false → s.instCheck i = none →
      ∃ t, exec (.instStart i) s = .next t ∧ t.inst i = { s.inst i with startNs := some s.ns, stopReq := false } ∧
        (∀ k, k ≠ i → t.inst k = s.inst k) ∧ t = { s with cyc := { s.cyc with insts := t.cyc.insts }, hdrs := t.hdrs }) ∧
    (∀ i, s.absent (0x140 + i) = false → (s.inst i).state ≠ 0 →
      (∃ t, exec (.instStart i) s = .next t ∧ (t.hd (pCYC 0)).errCode = w32 (R.CYC_INST_CMD * 256 + 0x46) ∧ s.Quiet [pCYC 0] t) ∧
      (∃ t, exec (.instStop i) s = .next t ∧ t.inst i = { s.inst i with stopReq := true } ∧
        (∀ k, k ≠ i → t.inst k = s.inst k) ∧ t = { s with cyc := { s.cyc with insts := t.cyc.insts }, hdrs := t.hdrs })) ∧
    (∀ i, s.absent (0x140 + i) = false → (s.inst i).state = 0 → (s.inst i).startNs = none → ∃ t, exec (.instStop i) s = .next t ∧
      (t.hd (pCYC 0)).errCode = w32 (R.CYC_INST_CMD * 256 + 0x46) ∧ s.Quiet [pCYC 0] t) ∧
    (∀ i, s.absent (0x140 + i) = false → (s.inst i).state = 2 → s.unusable (pCYC (iPair (s.iw i 0))) = false →
      ∃ t, exec (.restart i) s = .next t ∧ t.inst i = { s.inst i with restart := true } ∧
        (∀ k, k ≠ i → t.inst k = s.inst k) ∧ t = { s with cyc := { s.cyc with insts := t.cyc.insts }, hdrs := t.hdrs }) ∧
    (∀ i, s.absent (0x140 + i) = true → ∃ t, exec (.instStart i) s = .next t ∧
      (t.hd (pCYC 0)).errCode = w32 (R.CYC_INST_CMD * 256 + Err.capFull) ∧ s.Quiet [pCYC 0] t) ∧
    (∀ i, s.absent (0x140 + i) = false → (s.inst i).state ≠ 2 → ∃ t, exec (.restart i) s = .next t ∧
      (t.hd (pCYC 0)).errCode = w32 (R.CYC_INST_CMD * 256 + 0x46) ∧ s.Quiet [pCYC 0] t)

/-- The on-line change (R204, R205, R206, R210): PREPARE of the banks in instance memory, the end of the matching with its counts, ARM,
ABORT and RELEASE move through its states; ARM for a cycle whose kerf before it has started is refused with OLC_LATE; after a cycle held for
a large carry the switch makes the other bank active, counts, and sets IRQ_STATUS.OLC_DONE. Model: where the spec does not say it, this
follows logs 51, 52. -/
def Obligations.OnLineChange : Prop :=
  ∀ s : State, s.onMain = true →
    (∀ i o n, i = fld (s.rg (pCYC 0) R.CYC_OLC_INST) 0 6 → o = s.bankOf i (s.inst i).bank → n = s.bankOf i (!(s.inst i).bank) →
      s.absent (0x140 + i) = false → o.syms.length ≤ 65536 → n.syms.length ≤ 65536 → symOrdered o.syms = true → symOrdered n.syms = true →
      s.cyc.olc.state = 0 ∨ s.cyc.olc.state = 5 → (s.inst i).state = 1 → carryBytes o n ≤ 2 ^ 22 →
      ∀ m v, m = 0 ∨ m = 64 → fld v 1 3 = 0 → ∃ t, exec (.prepare m v) s = .next t ∧ t.cyc.olc = { state := 1, inst := i, oldB := o, newB := n } ∧
        t = { s with cyc := { s.cyc with olc := t.cyc.olc }, hdrs := t.hdrs }) ∧
    (∀ x, s.cyc.olc = x → x.state = 1 →
      ∃ t, exec .prepareDone s = .next t ∧ t.cyc.olc = { x with state := 2, extended := decide (2 ^ 18 < carryBytes x.oldB x.newB) } ∧
        t.rg (pCYC 0) R.CYC_OLC_CARRY = w32 (carryBytes x.oldB x.newB) ∧
        t.rg (pCYC 0) R.CYC_OLC_N_CARRIED = w32 (olcCounts x.oldB x.newB).1 ∧
        t.rg (pCYC 0) (R.CYC_OLC_N_CARRIED + 4) = w32 (olcCounts x.oldB x.newB).2.1 ∧
        t.rg (pCYC 0) (R.CYC_OLC_N_CARRIED + 8) = w32 (olcCounts x.oldB x.newB).2.2.1 ∧
        t.rg (pCYC 0) (R.CYC_OLC_N_CARRIED + 12) = w32 (olcCounts x.oldB x.newB).2.2.2 ∧
        t = { s with cyc := { s.cyc with olc := t.cyc.olc }, regs := t.regs }) ∧
    (∀ k, s.untag (s.rg (pCYC 0) R.CYC_OLC_TAG) = k → s.cyc.olc.state = 2 →
      (s.cycNow + 1 < k ∨ k = s.cycNow + 1 ∧ s.cyc.kerfDone = false →
        ∃ t, exec .arm s = .next t ∧ t.cyc.olc = { s.cyc.olc with state := 3, tag := k, failOvr := false } ∧
          t = { s with cyc := { s.cyc with olc := t.cyc.olc }, hdrs := t.hdrs }) ∧
      (k ≤ s.cycNow ∨ k = s.cycNow + 1 ∧ s.cyc.kerfDone = true →
        ∃ t, exec .arm s = .next t ∧ (t.hd (pCYC 0)).errCode = w32 (R.CYC_OLC_CMD * 256 + 0x44) ∧ s.Quiet [pCYC 0] t)) ∧
    (s.cyc.olc.state = 2 ∨ s.cyc.olc.state = 3 →
      ∃ t, exec .abort s = .next t ∧ t = { s with cyc := { s.cyc with olc := {} }, hdrs := t.hdrs }) ∧
    (s.cyc.olc.state = 5 →
      ∃ t, exec .olcRelease s = .next t ∧ t = { s with cyc := { s.cyc with olc := {} }, hdrs := t.hdrs }) ∧
    (s.cyc.olc.state ≠ 5 →
      ∃ t, exec .olcRelease s = .next t ∧ (t.hd (pCYC 0)).errCode = w32 (R.CYC_OLC_CMD * 256 + 0x46) ∧ s.Quiet [pCYC 0] t) ∧
    (∀ i, s.cyc.olc.inst = i → s.cyc.olc.state = 4 → s.cyc.kerfDone = true → s.cyc.olc.tag ≤ s.cycNow → s.cyc.olc.newB.syms = [] →
      s.cyc.olc.oldB.points = [] → s.cyc.olc.newB.points = [] → s.cyc.forces = [] →
      ∃ t r, exec .olcHeldCycleEnd s = .next t ∧ t.inst i = { s.inst i with bank := !(s.inst i).bank, heldCyc := false } ∧
        (∀ k, k ≠ i → t.inst k = s.inst k) ∧ t.cyc.olc = { s.cyc.olc with state := 5 } ∧
        t.cn (pCYC 0) R.CYC_CNT_OLC = min (cntMax (pCYC 0) R.CYC_CNT_OLC) (s.cn (pCYC 0) R.CYC_CNT_OLC + 1) ∧
        bit (t.hd (pCYC 0)).irqStatus 8 = true ∧ t.evr.cross = s.evr.cross ++ [r] ∧ r.src = pCYC 0 ∧ r.cls = 5 ∧
        ({ s with cyc := { s.cyc with insts := t.cyc.insts, olc := t.cyc.olc }, evr := t.evr } : State).Quiet [pCYC 0] t) ∧
    (s.cycNow < s.cyc.olc.tag → exec .olcHeldCycleEnd s = .next s)

/-- The GOOSE subscriber (R211 to R214) of a module alone, with one subscription, unauthenticated: the first frame that passes the tests
enters RUN with the frame's numbers and its members, which are staged by the tick of its stamp; a repeat of the state only renews the
numbers and the deadline; a frame with an older number is counted as a duplicate; after the deadline the entry is EXPIRED and its points are
staged invalid and oldData, counted, with IRQ_STATUS.GOOSE_EXPIRED. Model: where the spec does not say it, this follows log 49. -/
def Obligations.GooseSubscriber : Prop :=
  ∀ (n : Nat) (g : GSub) (s : State), s.onMain = true → s.cyc.gsubs = [(n, g)] →
    (∀ x rest p, s.cycOn = true → s.dupEn = false → s.swc.h1rx = x :: rest → x.oversize = false → x.frame.body = .goose p →
      fld (s.gw n 0) 0 16 = x.frame.appid → gocbRef (s.gsubWords n) = p.gocbRef → bit (s.gw n 0) 30 = false → s.gooseOk n p = true →
      fld (s.gw n 4) 21 2 = 0 →
      (g.state = 1 → ∃ t, exec .gooseRx s = .next t ∧
        t.gsub n = { g with
          state := 2, stNum := p.stNum, sqNum := p.sqNum, stamp := x.stamp, deadline := (x.stamp + p.tal * 1000000) % 2 ^ 32
          members := p.members, frames := min 0xFFFFFFFF (g.frames + 1) } ∧
        t.cyc.gooseStage = (s.stageMembers n (tickOfNs (s.extend x.stamp)) x.stamp p.members).cyc.gooseStage ∧
        t.hwsIn = s.hwsIn ++ [(0, t.gooseVector.1, t.gooseVector.2)] ∧
        t = { s with
          swc := { s.swc with h1rx := rest }, cyc := { s.cyc with gsubs := t.cyc.gsubs, gooseStage := t.cyc.gooseStage }
          hwsIn := t.hwsIn, acqGoose := t.acqGoose }) ∧
      (g.state = 2 → g.stNum = p.stNum → g.sqNum < p.sqNum → ∃ t, exec .gooseRx s = .next t ∧
        t.gsub n = { g with
          sqNum := p.sqNum, stamp := x.stamp, deadline := (x.stamp + p.tal * 1000000) % 2 ^ 32, frames := min 0xFFFFFFFF (g.frames + 1) } ∧
        t = { s with swc := { s.swc with h1rx := rest }, cyc := { s.cyc with gsubs := t.cyc.gsubs } }) ∧
      (g.state = 2 → g.stNum = p.stNum → p.sqNum ≤ g.sqNum → ∃ t, exec .gooseRx s = .next t ∧
        t.gsub n = { g with frames := min 0xFFFFFFFF (g.frames + 1), dup := min 0xFFFFFFFF (g.dup + 1) } ∧
        t.cn (pCYC 0) R.CYC_CNT_GOOSE_DUP = min (cntMax (pCYC 0) R.CYC_CNT_GOOSE_DUP) (s.cn (pCYC 0) R.CYC_CNT_GOOSE_DUP + 1) ∧
        ({ s with swc := { s.swc with h1rx := rest }, cyc := { s.cyc with gsubs := t.cyc.gsubs } } : State).Quiet [pCYC 0] t)) ∧
    (g.state = 2 → s.dup.paired = false → s.cyc.cyc ≠ none →
      (diff32 g.deadline (shortOf s.cyc.boundNs) < 0 → ∃ t, exec (.gooseExpired n) s = .next t ∧
        t.gsub n = { g with state := 3, expired := min 0xFFFFFFFF (g.expired + 1) } ∧
        t.cyc.gooseStage = s.cyc.gooseStage ++ (List.range (gMembers (s.gw n 0))).map
          (fun m => (s.cycNow, fld (s.gw n 5) 0 20 + m, none, 2 ^ 20, 0)) ∧
        t.cn (pCYC 0) R.CYC_CNT_GOOSE_EXPIRED =
          min (cntMax (pCYC 0) R.CYC_CNT_GOOSE_EXPIRED) (s.cn (pCYC 0) R.CYC_CNT_GOOSE_EXPIRED + 1) ∧
        bit (t.hd (pCYC 0)).irqStatus 10 = true ∧ t.hwsIn = s.hwsIn ++ [(0, t.gooseVector.1, t.gooseVector.2)] ∧
        ({ s with cyc := { s.cyc with gsubs := t.cyc.gsubs, gooseStage := t.cyc.gooseStage }, hwsIn := t.hwsIn } : State).Quiet
          [pCYC 0] t) ∧
      (0 ≤ diff32 g.deadline (shortOf s.cyc.boundNs) → exec (.gooseExpired n) s = .next s))

/-! ### Function instances and skidders (chapter 9) -/

/-- Rings (R226, R228, R231, R233): a tail write within the ring's bound moves the tail, one beyond it is refused, counted, with
IRQ_STATUS.POST_REFUSED; the head descriptor of a running transmit ring becomes its one operation, and a ring whose window forbids the fetch
stops with FETCH; a copy whose data has been written completes: its status word is written, the head advances, and it is counted (clean
memory, no dirty log, no interrupt asked for). A return of a skidder (R231), over clean memory, of the only operation there is: a read's
bytes join the operation's data and are counted; a write puts the data it was posted with in memory, and nothing else there changes. Model:
where the spec does not say it, this follows log 61. -/
def Obligations.RingsAndSkidder : Prop :=
  (∀ s : State, s.onMain = true →
    (∀ f l d v q size, f < 64 → l < 8 → d < 2 → s.qOf f l = some q → size = s.qSize q d → size ≠ 0 → s.fnReset f = false →
      s.unusable (pSKD (s.qSkd q)) = false →
      (v % 4096 % size + size - (s.qp q).head d) % size ≤ min (fld (s.ac (pVFM f) R.VFM_FN_CFG) 0 13) (size - 1) →
      ∃ t, exec (.ringTailWrite f l d v) s = .next t ∧ (t.qp q).tail d = v % 4096 % size ∧ (t.qp q).head d = (s.qp q).head d ∧
        (∀ k, k ≠ q → t.qp k = s.qp k) ∧ t = { s with qps := t.qps, hdrs := t.hdrs }) ∧
    (∀ f l d v, f < 64 → l < 8 → d < 2 →
      (∀ q, s.qOf f l = some q → s.unusable (pSKD (s.qSkd q)) = false ∧ (s.fnReset f = true ∨ s.qSize q d = 0 ∨
        min (fld (s.ac (pVFM f) R.VFM_FN_CFG) 0 13) (s.qSize q d - 1) <
          (v % 4096 % s.qSize q d + s.qSize q d - (s.qp q).head d) % s.qSize q d)) →
      ∃ t, exec (.ringTailWrite f l d v) s = .next t ∧ bit (t.hd (pVFM f)).irqStatus 6 = true ∧
        t.cn (pVFM f) R.VFM_CNT_POST_REFUSED = min (cntMax (pVFM f) R.VFM_CNT_POST_REFUSED) (s.cn (pVFM f) R.VFM_CNT_POST_REFUSED + 1) ∧
        s.Quiet [pVFM f] t) ∧
    (∀ q f, q < 256 → f = s.qFn q → s.qValid q = true → (s.qp q).txStop = none → s.fnHeld f = false →
      (s.qp q).txHead ≠ (s.qp q).txTail → s.ringOps (2 * q) = [] → s.unusable (pSKD (s.qSkd q)) = false →
      (∀ ws, s.flips = [] → s.poison = [] → (s.fetchDesc q 0 (s.qp q).txHead).1 = some ws → s.txEarly f ws = none →
        ∃ t, exec (.descriptorFetch q) s = .next t ∧ t.qps = s.qps ∧ t.mem = s.mem ∧ ∃ o ∈ t.ops, o.ring = 2 * q ∧ o.fn = f ∧
          o.desc = ws ∧ o.addr = s.qBase q 0 + (s.qp q).txHead * 32 ∧ o.len = ((ws[1]?).getD 0).toNat ∧
          o.src = ((ws[2]?).getD 0).toNat + ((ws[3]?).getD 0).toNat * 2 ^ 32 ∧
          o.dst = ((ws[4]?).getD 0).toNat + ((ws[5]?).getD 0).toNat * 2 ^ 32 ∧ o.status = none ∧ o.wrDone = 0) ∧
      (s.permit f (s.qBase q 0) (s.qSize q 0 * 32) true true = false →
        ∃ t, exec (.descriptorFetch q) s = .next t ∧
          t.qp q = { s.qp q with txStop := some 0x0A, stopDir := if (s.qp q).stopped then (s.qp q).stopDir else 0 } ∧
          (∀ k, k ≠ q → t.qp k = s.qp k) ∧ bit (t.hd (pVFM f)).irqStatus 4 = true ∧ bit (t.hd (pVFM f)).irqStatus 10 = true ∧
          t.cn (pVFM f) R.VFM_CNT_WINDOW = min (cntMax (pVFM f) R.VFM_CNT_WINDOW) (s.cn (pVFM f) R.VFM_CNT_WINDOW + 1) ∧
          ({ s with qps := t.qps, cyc := { s.cyc with insts := t.cyc.insts } } : State).Quiet [pVFM f] t)) ∧
    (∀ q o rest size, q < 256 → s.ops = o :: rest → o.ring = 2 * q → o.fn < 64 → o.kind = 2 → o.status = some 0 →
      (s.qp q).txStop ≠ some 0x0A → (∀ e ∈ s.swc.h1q, e.ring ≠ some (2 * q)) → s.flips = [] → s.poison = [] → size = s.qSize q 0 →
      size ≠ 0 → bit (s.ac (pVFM o.fn) R.VFM_DIRTY_CFG) 0 = false →
      bit ((o.desc[0]?).getD 0) 24 = false →
      ∃ t, exec (.descriptorComplete (2 * q)) s = .next t ∧ t.ops = rest ∧
        t.qp q = { s.qp q with txHead := ((s.qp q).txHead + 1) % size } ∧ (∀ k, k ≠ q → t.qp k = s.qp k) ∧
        t.bytes (o.addr + 28) 4 = [0, 0, 0, 128] ∧ (∀ a, a < o.addr + 28 ∨ o.addr + 32 ≤ a → t.byte a = s.byte a) ∧
        t.cn (pVFM o.fn) R.VFM_CNT_DESC = min (cntMax (pVFM o.fn) R.VFM_CNT_DESC) (s.cn (pVFM o.fn) R.VFM_CNT_DESC + 1) ∧
        t.cn (pSKD (s.qSkd q)) R.SKD_CNT_OPS =
          min (cntMax (pSKD (s.qSkd q)) R.SKD_CNT_OPS) (s.cn (pSKD (s.qSkd q)) R.SKD_CNT_OPS + 1) ∧
        ({ s with qps := t.qps, ops := t.ops, mem := t.mem } : State).Quiet [pVFM o.fn, pSKD (s.qSkd q)] t)) ∧
  (∀ (k i : Nat) (r : Req) (o : Op) (s : State), s.onMain = true → k < 16 → s.flips = [] → s.poison = [] → s.ops = [o] →
    (s.skd k).reqs[i]? = some r → r.squashed = false → r.orphan = false → o.ring = r.ring → o.addr = r.desc → o.cut = false →
    (∀ e ∈ (s.skd k).reqs.take i, e.ring = r.ring → e.desc = r.desc → e.wr = r.wr → e.squashed = true) →
    (r.wr = false → ∃ t o', exec (.skidderReturn k i) s = .next t ∧ t.ops = [o'] ∧ o'.ring = o.ring ∧ o'.len = o.len ∧
      o'.buf = o.buf ++ s.bytes r.addr r.len ∧ o'.pois = o.pois ∧ o'.wrDone = o.wrDone ∧ t.mem = s.mem ∧ t.qps = s.qps ∧
      t.cn (pSKD k) R.SKD_CNT_BYTES_RD = min (cntMax (pSKD k) R.SKD_CNT_BYTES_RD) (s.cn (pSKD k) R.SKD_CNT_BYTES_RD + r.len)) ∧
    (r.wr = true → r.pois = [] → r.data.length = r.len → bit (s.ac (pVFM r.fn) R.VFM_DIRTY_CFG) 0 = false →
      ∃ t o', exec (.skidderReturn k i) s = .next t ∧ t.ops = [o'] ∧ o'.ring = o.ring ∧ o'.buf = o.buf ∧
        o'.wrDone = o.wrDone + r.len ∧ t.bytes r.addr r.len = r.data.map (fun b => b % 256) ∧
        (∀ a, a < r.addr ∨ r.addr + r.len ≤ a → t.byte a = s.byte a) ∧ t.qps = s.qps ∧
        t.cn (pSKD k) R.SKD_CNT_BYTES_WR = min (cntMax (pSKD k) R.SKD_CNT_BYTES_WR) (s.cn (pSKD k) R.SKD_CNT_BYTES_WR + r.len)))

/-- What reaches a function (R230, R238): a migration frame of a side's session goes to that side; another frame of a receive selector goes
to the pair's next posted buffer, and without one it is counted with IRQ_STATUS.RX_NOBUF. Moderated events send one message when their
interval ends, none before, and none where the route has been disabled; one for an instance that does not run stays pending. -/
def Obligations.ReceiveAndModeration : Prop :=
  ∀ s : State, s.onMain = true →
    (∀ x rest m f, s.swc.h1rx = x :: rest → x.oversize = false → x.frame.body = .mig m → s.migFn m = some f →
      exec .h1RxDeliver s = .next { s with swc := { s.swc with h1rx := rest }, migIn := s.migIn ++ [(f, m)] }) ∧
    (∀ x rest b q, s.swc.h1rx = x :: rest → x.oversize = false → x.frame.body = .raw b → x.frame.et ≠ 0x88F7 → x.rsel = q →
      0 < q → q < 256 → s.fnHeld (s.qFn q) = false →
      (∀ ws, s.qValid q = true → (s.qp q).rxStop = none → s.unusable (pSKD (s.qSkd q)) = false → s.ringOps (2 * q + 1) = [] →
        (s.qp q).rxHead < s.qSize q 1 → (s.qp q).rxTail < s.qSize q 1 → (s.qp q).rxHead ≠ (s.qp q).rxTail → s.flips = [] →
        s.poison = [] → (s.fetchDesc q 1 (s.qp q).rxHead).1 = some ws → fld ((ws[0]?).getD 0) 28 4 = 3 →
        (frameBytes x.frame).length ≤ ((ws[1]?).getD 0).toNat → ((ws[1]?).getD 0).toNat ≠ 0 →
        s.permit (s.qFn q) (((ws[2]?).getD 0).toNat + ((ws[3]?).getD 0).toNat * 2 ^ 32) ((ws[1]?).getD 0).toNat false true = true →
        ∃ t, exec .h1RxDeliver s = .next t ∧ t.swc = { s.swc with h1rx := rest } ∧ t.mem = s.mem ∧ t.qps = s.qps ∧
          ∃ o ∈ t.ops, o.ring = 2 * q + 1 ∧ o.fn = s.qFn q ∧ o.kind = 3 ∧ o.desc = ws ∧ o.buf = frameBytes x.frame ∧
            o.dst = ((ws[2]?).getD 0).toNat + ((ws[3]?).getD 0).toNat * 2 ^ 32 ∧ o.trunc = false ∧ o.status = none) ∧
      ((s.qp q).rxStop ≠ none → ∃ t, exec .h1RxDeliver s = .next t ∧ bit (t.hd (pVFM (s.qFn q))).irqStatus 7 = true ∧
        t.cn (pVFM (s.qFn q)) R.VFM_CNT_RX_NOBUF =
          min (cntMax (pVFM (s.qFn q)) R.VFM_CNT_RX_NOBUF) (s.cn (pVFM (s.qFn q)) R.VFM_CNT_RX_NOBUF + 1) ∧
        ({ s with swc := { s.swc with h1rx := rest } } : State).Quiet [pVFM (s.qFn q)] t)) ∧
    (∀ f l at_ v, (s.vf f).itr = [(l, at_, true)] → v = fld (s.rg (pVFM f) (R.VFM_QP_ROUTE + 4 * l)) 0 8 →
      (at_ ≤ s.clkNs → bit (s.rg (pVFM f) (R.VFM_QP_ROUTE + 4 * l)) 8 = true → (s.vec v).target = 0 → (s.vec v).mask = false → ∃ t, exec (.itrExpiry f l) s = .next t ∧
        (t.vf f).itr = [(l, s.clkNs + fld (s.ac (pVFM f) (R.VFM_QP_ITR + 4 * l)) 0 16 * 1000, false)] ∧
        (∀ g, g ≠ f → t.vf g = s.vf g) ∧ t.out = .vector v 0 (s.vec v).hostIdx :: s.out ∧ t = { s with vfs := t.vfs, out := t.out }) ∧
      (at_ ≤ s.clkNs → bit (s.rg (pVFM f) (R.VFM_QP_ROUTE + 4 * l)) 8 = true → (s.vec v).target = 2 → (s.vec v).owner ≠ 0 →
        s.instRuns (s.vec v).owner = false → ∃ t, exec (.itrExpiry f l) s = .next t ∧
        (t.vec v).pending = true ∧ t.out = s.out ∧ t = { s with vfs := t.vfs, vecs := t.vecs }) ∧
      (at_ ≤ s.clkNs → bit (s.rg (pVFM f) (R.VFM_QP_ROUTE + 4 * l)) 8 = false → ∃ t, exec (.itrExpiry f l) s = .next t ∧
        (t.vf f).itr = [] ∧ (∀ g, g ≠ f → t.vf g = s.vf g) ∧ t = { s with vfs := t.vfs }) ∧
      (s.clkNs < at_ → exec (.itrExpiry f l) s = .next s))

/-- Resets of a function and of a pair (R228, R239): a drain lets what is issued end and a squash ends the function's operations at once,
both stopping its instance in the next kerf, and while a kerf copy for the function runs the reset waits; 48 µs later the requests it still
holds are retired; with none left its pairs are as after reset, counted, with IRQ_STATUS.RESET_DONE. STOP stops both rings of a pair with
status 6; RESTART makes a pair as after reset and takes its operations away. The functions named migrate nothing. The dirty log (R243):
SWAP_LOG turns writes issued from now on to the other bitmap, and a second one before the swap is done is refused with MIG_STATE; the swap
is done once no write issued before it is in flight. Model: where the spec does not say it, this follows logs 55, 56. -/
def Obligations.ResetsAndDirtyLogs : Prop :=
  (∀ (f : Nat) (s : State), s.onMain = true → 0 < f → f < 64 →
    (s.absent (pVFM f) = false → s.kerfBusy f = false → s.vf f = {} →
      (s.ops = [] → ∃ t, exec (.resetDrain f) s = .next t ∧ t.vf f = { s.vf f with reset := 2, resetClk := s.tsu.clk } ∧
        (∀ g, g ≠ f → t.vf g = s.vf g) ∧
        t.inst f = { s.inst f with startNs := none, stopReq := decide ((s.inst f).state ≠ 0) } ∧ (∀ g, g ≠ f → t.inst g = s.inst g) ∧
        (∀ k, (t.skd k).reqs = (s.skd k).reqs) ∧
        t = { s with vfs := t.vfs, cyc := { s.cyc with insts := t.cyc.insts }, skds := t.skds, hdrs := t.hdrs }) ∧
      (∃ t, exec (.resetSquash f) s = .next t ∧
        t.ops.map (fun o => (o.ring, o.addr)) = (s.ops.filter (fun o => o.fn != f)).map (fun o => (o.ring, o.addr)) ∧
        (∀ k, ∀ r ∈ (t.skd k).reqs, r.fn = f → r.wr = false ∧ r.squashed = true) ∧
        t.vf f = { s.vf f with reset := 3, resetClk := s.tsu.clk } ∧ (∀ g, g ≠ f → t.vf g = s.vf g) ∧ t.mem = s.mem ∧ t.qps = s.qps)) ∧
    (s.absent (pVFM f) = false → s.kerfBusy f = true → s.vf f = {} → ∃ t, exec (.resetSquash f) s = .next t ∧
      t.vf f = { s.vf f with resetReq := some true } ∧ (∀ g, g ≠ f → t.vf g = s.vf g) ∧ t = { s with vfs := t.vfs, hdrs := t.hdrs }) ∧
    (1 ≤ (s.vf f).reset → (s.vf f).reset ≤ 3 →
      (12000 ≤ s.since (s.vf f).resetClk → ∃ t, exec (.resetTagTimeout f) s = .next t ∧ (∀ o ∈ t.ops, o.fn ≠ f) ∧
        (∀ e ∈ s.skds, ∀ r ∈ (t.skd e.1).reqs, r.fn ≠ f) ∧ t.vfs = s.vfs ∧ t.qps = s.qps ∧ t.mem = s.mem) ∧
      (s.since (s.vf f).resetClk < 12000 → exec (.resetTagTimeout f) s = .next s) ∧
      (s.fnReqs f = 0 → (∀ o ∈ s.ops, o.fn ≠ f) → ∃ t, exec (.resetDone f) s = .next t ∧
        t.vf f = { s.vf f with reset := 4, itr := [], frozen := false } ∧ (∀ g, g ≠ f → t.vf g = s.vf g) ∧
        (∀ q, q < 256 → s.qValid q = true → s.qFn q = f → t.qp q = {}) ∧ (∀ q, s.qFn q ≠ f → t.qp q = s.qp q) ∧
        t.rg (pVFM f) R.VFM_QP_EVT = 0 ∧ bit (t.hd (pVFM f)).irqStatus 5 = true ∧ bit (t.hd (pVFM 0)).irqStatus 5 = true ∧
        t.cn (pVFM f) R.VFM_CNT_RESET = min (cntMax (pVFM f) R.VFM_CNT_RESET) (s.cn (pVFM f) R.VFM_CNT_RESET + 1) ∧
        ({ s with vfs := t.vfs, qps := t.qps, regs := t.regs } : State).Quiet [pVFM f, pVFM 0] t) ∧
      (s.fnReqs f ≠ 0 → exec (.resetDone f) s = .next s)) ∧
    (∀ q, q < 256 →
      ((s.qValid q = true → s.unusable (pSKD (s.qSkd q)) = false) → ∃ t, exec (.qpRestart q) s = .next t ∧ t.qp q = {} ∧
        (∀ k, k ≠ q → t.qp k = s.qp k) ∧ t.ops = s.ops.filter (fun o => o.ring / 2 != q) ∧
        (∀ k, ∀ r ∈ (t.skd k).reqs, r.ring / 2 = q → r.orphan = true) ∧
        t = { s with qps := t.qps, ops := t.ops, skds := t.skds, hdrs := t.hdrs }) ∧
      (s.qValid q = true → s.ops = [] → (s.qp q).stopped = false → ∃ t, exec (.qpStop q) s = .next t ∧
        t.qp q = { s.qp q with txStop := some 6, rxStop := some 6, stopDir := 0 } ∧ (∀ k, k ≠ q → t.qp k = s.qp k) ∧
        bit (t.hd (pVFM (s.qFn q))).irqStatus 10 = true ∧ (∀ k, (t.skd k).reqs = (s.skd k).reqs) ∧
        ({ s with qps := t.qps, skds := t.skds } : State).Quiet [pVFM (s.qFn q), pVFM 0] t))) ∧
  (∀ (f : Nat) (s : State), s.onMain = true → 0 < f → f < 64 →
    (s.absent (pVFM f) = false → (s.vf f).swapBusy = false → ∃ t, exec (.swapLog f) s = .next t ∧
      t.vf f = { s.vf f with bitmap := !(s.vf f).bitmap, swapBusy := true } ∧ (∀ g, g ≠ f → t.vf g = s.vf g) ∧
      (∀ e ∈ s.skds, ∀ r ∈ (t.skd e.1).reqs, r.fn = f → r.wr = true → r.old = true) ∧
      t = { s with vfs := t.vfs, skds := t.skds, hdrs := t.hdrs }) ∧
    (s.absent (pVFM f) = false → (s.vf f).swapBusy = true → ∃ t, exec (.swapLog f) s = .next t ∧
      (t.hd (pVFM f)).errCode = w32 (R.VFM_VF_CMD * 256 + 0x44) ∧ s.Quiet [pVFM f] t) ∧
    ((s.vf f).swapBusy = true → (∀ e ∈ s.skds, ∀ r ∈ e.2.reqs, r.fn = f → r.old = false) →
      ∃ t, exec (.swapLogDone f) s = .next t ∧ t.vf f = { s.vf f with swapBusy := false } ∧ (∀ g, g ≠ f → t.vf g = s.vf g) ∧
        t = { s with vfs := t.vfs }) ∧
    (∀ e r, e ∈ s.skds → r ∈ e.2.reqs → r.fn = f → r.old = true → exec (.swapLogDone f) s = .next s))

/-- Moving an instance (R244 to R246): MIG_ARM on a source with a tick far enough away arms it; at the end of its last activation in cycle S
- 1 it freezes; a frame of the session is staged at the destination, which aborts and says so when the deadline passes first; an ACK in time
commits a source that has sent its delta; MIG_ABORT and an ABORT received end the move, counted, with IRQ_STATUS.MIG_STATE. Model: where the
spec does not say it, this follows logs 59, 60, 62, 63. -/
def Obligations.InstanceMoves : Prop :=
  ∀ (f : Nat) (s : State), s.onMain = true → 0 < f → f < 64 →
    (s.absent (pVFM f) = false → s.dupEn = false → s.keyDest (s.migSlot f) 5 = true → s.migSource f = true → s.migDest f = false →
      bit (s.ac (pVFM f) R.VFM_DIRTY_CFG) 0 = true → s.migLive f = false → (s.vf f).reset = 0 → (s.inst f).state = 1 →
      s.ns + 1000000 + s.kerfLen ≤ s.bound (s.untag (s.ac (pVFM f) R.VFM_MIG_TAG)) →
      ∃ t, exec (.migArm f) s = .next t ∧
        t.vf f = { s.vf f with mig := { state := 1, tick := s.untag (s.ac (pVFM f) R.VFM_MIG_TAG) } } ∧
        (∀ g, g ≠ f → t.vf g = s.vf g) ∧ bit (t.hd (pVFM f)).irqStatus 8 = true ∧ ({ s with vfs := t.vfs } : State).Quiet [pVFM f] t) ∧
    (s.absent (pVFM f) = false → s.dupEn = true → ∃ t, exec (.migArm f) s = .next t ∧
      (t.hd (pVFM f)).errCode = w32 (R.VFM_VF_CMD * 256 + 0x42) ∧ s.Quiet [pVFM f] t) ∧
    ((s.mig f).state = 1 → s.migSource f = true → s.cycNow + 1 = (s.mig f).tick → s.inWindows = true → (s.inst f).acts = [] →
      (s.inst f).state ≠ 1 ∨ (s.inst f).window ≠ 0 → s.fnReqs f ≠ 0 → s.ops = [] → ∃ t, exec (.migFreeze f) s = .next t ∧ (t.mig f).state = 2 ∧
        (t.vf f).frozen = true ∧ (∀ g, g ≠ f → t.vf g = s.vf g) ∧ bit (t.hd (pVFM f)).irqStatus 8 = true ∧
        (∀ k, (t.skd k).reqs = (s.skd k).reqs) ∧ ({ s with vfs := t.vfs, skds := t.skds } : State).Quiet [pVFM f] t) ∧
    (∀ x rest, s.migIn = (f, x) :: rest → x.switch = s.migTag f → (s.migOpens f x).1 = true →
      (∀ at_ bs, x.kind = 2 → s.migDest f = true → (s.mig f).state = 4 → (s.mig f).total = none →
        (∀ y ∈ (s.mig f).staged, y.seq ≠ x.seq) → s.flips = [] → s.poison = [] →
        at_ = s.ac64 (pVFM f) R.VFM_MIG_STAGE + 4096 * x.seq → bs = (migPlain x).take 4096 →
        ∃ t, exec .migFrameRx s = .next t ∧ t.migIn = rest ∧
          t.mig f = { s.mig f with staged := (s.mig f).staged ++ [x], frames := (s.mig f).frames + 1 } ∧
          (∀ g, g ≠ f → t.vf g = s.vf g) ∧ (∀ a, a < at_ ∨ at_ + 4096 ≤ a → t.byte a = s.byte a) ∧ t.cyc = s.cyc ∧
          (4096 * (x.seq + 1) ≤ (s.ac (pVFM f) R.VFM_MIG_STAGE_SIZE).toNat → t.bytes at_ bs.length = bs.map (fun b => b % 256))) ∧
      (x.kind = 5 → s.migSource f = true → (s.mig f).state = 3 →
        s.cycNow + 1 < (s.mig f).tick → ∃ t, exec .migAckRx s = .next t ∧ (t.mig f).state = 6 ∧
          (∀ g, g ≠ f → t.vf g = s.vf g) ∧ bit (t.hd (pVFM f)).irqStatus 8 = true ∧
          ({ s with vfs := t.vfs, migIn := rest, ekeys := t.ekeys } : State).Quiet [pVFM f] t) ∧
      (x.kind = 6 → s.migSource f = true → s.migLive f = true →
        ∃ t, exec .migAbortRx s = .next t ∧ (t.mig f).state = 9 ∧ (∀ g, g ≠ f → t.vf g = s.vf g) ∧
          t.cn (pVFM f) R.VFM_CNT_MIG_ABORT = min (cntMax (pVFM f) R.VFM_CNT_MIG_ABORT) (s.cn (pVFM f) R.VFM_CNT_MIG_ABORT + 1) ∧
          bit (t.hd (pVFM f)).irqStatus 8 = true ∧
          ({ s with vfs := t.vfs, migIn := rest, ekeys := t.ekeys } : State).Quiet [pVFM f] t) ∧
      (x.kind = 6 → exec .migFrameRx s = .next s ∧ exec .migAckRx s = .next s)) ∧
    (∀ key m, (s.useKey (s.migSlot f) 5).1 = some key → m = s.migMsg f 6 →
      (s.absent (pVFM f) = false → s.migSource f = true → s.migLive f = true → ∃ t, exec (.migAbort f) s = .next t ∧
        (t.mig f).state = 9 ∧
        t.cn (pVFM f) R.VFM_CNT_MIG_ABORT = min (cntMax (pVFM f) R.VFM_CNT_MIG_ABORT) (s.cn (pVFM f) R.VFM_CNT_MIG_ABORT + 1) ∧
        (∃ e, t.swc.h1q = s.swc.h1q ++ [e] ∧ e.frame.body = .mig { m with cipher := (migSeal key m).1, mac := (migSeal key m).2 }) ∧
        ({ s with vfs := t.vfs, swc := { s.swc with h1q := t.swc.h1q }, ekeys := t.ekeys } : State).Quiet [pVFM f] t) ∧
      (s.migDest f = true → (s.mig f).state = 1 ∨ (s.mig f).state = 4 → s.migDeadNs f < s.ns →
        ∃ t, exec (.migDeadline f) s = .next t ∧ (t.mig f).state = 9 ∧ (t.inst f).state = 3 ∧ (t.vf f).frozen = true ∧
          (t.mig f).staged = [] ∧ ∃ e, t.swc.h1q = s.swc.h1q ++ [e] ∧
            e.frame.body = .mig { m with cipher := (migSeal key m).1, mac := (migSeal key m).2 })) ∧
    (s.migDest f = true → (s.mig f).state = 1 ∨ (s.mig f).state = 4 →
      (s.ns ≤ s.migDeadNs f → exec (.migDeadline f) s = .next s))

/-! ### Tally engines and pulse outputs (chapters 10 and 11) -/

/-- The run of a tally engine's next tick (R253, R257, R271), with no interval and one point at most, the pair not resynchronising: the tick
is the engine's last run, TAL_LAST_TICK shows it, the run is counted; a running point whose program is END alone keeps its totals and its
state and shows the tick. A pulse of a pulse output ends after WIDTH and not before (R280). Commands of a tally engine (R271, R285, R286,
R291): a point starts when its check passes and stops at the end of the run, CLEAR_SAT clears its flag; the protected save commands act on
an unlocked page and are refused with LOCKED on a locked one, with CAP_FULL on a fenced or absent engine; a save that has been written lies
in its area with a valid Blaze and is counted; each of the commands but SAVE_NOW is recorded. Model: where the spec does not say it, this
follows logs 69, 73, 75. -/
def Obligations.Tally : Prop :=
  (∀ s : State, s.onMain = true →
    (∀ e k done, e < 8 → s.talNext e = some (k, done) → s.talLive e = true → (s.te e).endClk ≤ s.tsu.clk → s.dup.state ≠ 3 →
      s.answered = none → s.ivlPts e = [] → (s.te e).lastRun = some (k - 1) → 0 < k →
      ((s.te e).pts = [] → ∃ t, exec (.talTickRun e) s = .next t ∧ (t.te e).lastRun = some k ∧ t.rg (pTAL e) R.TAL_LAST_TICK = tagOf k ∧
        t.rg (pTAL e) R.TAL_RUN_TIME = 0 ∧
        t.cn (pTAL e) R.TAL_CNT_RUNS = min (cntMax (pTAL e) R.TAL_CNT_RUNS) (s.cn (pTAL e) R.TAL_CNT_RUNS + 1) ∧
        (∀ f, f ≠ e → t.te f = s.te f) ∧
        ({ s with tals := t.tals, regs := t.regs, mram := t.mram } : State).Quiet [pTAL e] t) ∧
      (∀ l p, (s.te e).pts = [(l, p)] → l < 48 → p.state = 2 → p.startNs = none → s.ptProg e l < 4096 →
        iOp (s.progW e (s.ptProg e l)) = 0 → (∀ i, i < 8 → lnMode (s.ptLine e l i) ≠ 2) →
        ∃ t, exec (.talTickRun e) s = .next t ∧ (t.te e).lastRun = some k ∧ (t.tp e l).state = 2 ∧ (t.tp e l).tot = p.tot ∧
          (t.tp e l).acc = p.acc ∧ (t.tp e l).lastTag = tagOf k ∧ t.dfos = s.dfos)) ∧
    (∀ e, s.talNext e = none → exec (.talTickRun e) s = .next s) ∧
    (∀ n, n < 8 → (s.dfo n).pulse = true → (s.dfo n).endClk ≤ s.tsu.clk → ∃ t, exec (.dfoPulseEnd n) s = .next t ∧
      t.dfo n = { s.dfo n with pulse := false, closed := false, trailClk := some s.tsu.clk } ∧ (∀ m, m ≠ n → t.dfo m = s.dfo m) ∧
      t = { s with dfos := t.dfos }) ∧
    (∀ n, s.tsu.clk < (s.dfo n).endClk → exec (.dfoPulseEnd n) s = .next s)) ∧
  (∀ (e : Nat) (s : State), s.onMain = true → e < 8 →
    (∀ l, l < 48 → s.unusable (pTAL e) = false → (s.tp e l).state = 0 → (s.tp e l).startNs = none →
      s.talStartCheck e l (s.talRunning e) = none →
      ∃ t r, exec (.talPointStart e l) s = .next t ∧ t.tp e l = { s.tp e l with startNs := some s.ns } ∧
        (∀ m, m ≠ l → t.tp e m = s.tp e m) ∧ t.evr = { s.evr with cross := s.evr.cross ++ [r] } ∧ r.cls = 9 ∧ r.typ = 2 ∧
        t = { s with tals := t.tals, evr := t.evr, hdrs := t.hdrs }) ∧
    (∀ l, l < 48 → s.unusable (pTAL e) = false → (s.tp e l).state ≠ 0 → ∃ t, exec (.talPointStop e l) s = .next t ∧
      t.tp e l = { (s.tp e l).mark fIncomplete with state := 0, startNs := none } ∧ (∀ m, m ≠ l → t.tp e m = s.tp e m) ∧
      bit (t.hd (pTAL e)).irqStatus 9 = true ∧ ({ s with tals := t.tals, evr := t.evr } : State).Quiet [pTAL e] t) ∧
    (∀ l, l < 48 → s.unusable (pTAL e) = false → ∃ t, exec (.talClearSat e l) s = .next t ∧ t.tp e l = { s.tp e l with sat := false } ∧
      (∀ m, m ≠ l → t.tp e m = s.tp e m) ∧ t = { s with tals := t.tals, evr := t.evr, hdrs := t.hdrs }) ∧
    (s.unusable (pTAL e) = false → (s.hd (pTAL e)).unlocked = true →
      (∃ t, exec (.saveNow e) s = .next t ∧ t.te e = { s.te e with saveNow := true } ∧ (∀ f, f ≠ e → t.te f = s.te f) ∧
        t = { s with tals := t.tals, hdrs := t.hdrs }) ∧
      (∀ l, l < 48 → (s.tp e l).state = 0 → (s.tp e l).startNs = none → ∃ t, exec (.zeroPoint e l) s = .next t ∧
        t.tp e l = { s.tp e l with tot := List.replicate 8 0, acc := List.replicate 8 0, cur := {}, ring := [] } ∧
        (∀ m, m ≠ l → t.tp e m = s.tp e m) ∧ t = { s with tals := t.tals, evr := t.evr, hdrs := t.hdrs }) ∧
      ((s.te e).noValid = true → ∃ t, exec (.acceptEmpty e) s = .next t ∧ (t.te e).noValid = false ∧
        (∀ q ∈ (t.te e).pts, q.2.tot = List.replicate 8 0 ∧ q.2.acc = List.replicate 8 0) ∧
        t = { s with tals := t.tals, evr := t.evr, hdrs := t.hdrs }) ∧
      ((s.te e).noValid = false → ∃ t, exec (.acceptEmpty e) s = .next t ∧
        (t.hd (pTAL e)).errCode = w32 (R.TAL_SAVE_CMD * 256 + Err.range) ∧ s.Quiet [pTAL e] t)) ∧
    (s.unusable (pTAL e) = true → ∃ t, exec (.saveNow e) s = .next t ∧
      (t.hd (pTAL e)).errCode = w32 (R.TAL_SAVE_CMD * 256 + Err.capFull) ∧ s.Quiet [pTAL e] t) ∧
    (s.unusable (pTAL e) = false → (s.hd (pTAL e)).unlocked = false → ∀ l,
      (∃ t, exec (.saveNow e) s = .next t ∧ (t.hd (pTAL e)).errCode = w32 (R.TAL_SAVE_CMD * 256 + Err.locked) ∧ s.Quiet [pTAL e] t) ∧
      (∃ t, exec (.zeroPoint e l) s = .next t ∧ (t.hd (pTAL e)).errCode = w32 (R.TAL_SAVE_CMD * 256 + Err.locked) ∧ s.Quiet [pTAL e] t)) ∧
    (∀ v, (s.te e).saves = [v] → (∀ o, o < e → (s.te o).saves = []) → v.final = false → v.bytes.length = 11744 →
      ∃ t, exec (.saveWriteDone e) s = .next t ∧
        t.te e = { s.te e with saves := [], area := v.area, seq := v.seq, saveTag := tagOf v.tick, final := false } ∧
        (∀ f, f ≠ e → t.te f = s.te f) ∧ t.mramBytes (saveAt e v.area) 11744 = v.bytes.map (fun b => b % 256) ∧
        t.mramBytes (saveAt e v.area + 11744) 4 = [0x5A, 0x41, 0x4C, 0x42] ∧
        (∀ a, a < saveAt e v.area ∨ saveAt e v.area + 11776 ≤ a → sget 0 a t.mram = sget 0 a s.mram) ∧
        t.cn (pTAL e) R.TAL_CNT_SAVES = min (cntMax (pTAL e) R.TAL_CNT_SAVES) (s.cn (pTAL e) R.TAL_CNT_SAVES + 1) ∧
        ({ s with tals := t.tals, mram := t.mram } : State).Quiet [pTAL e] t) ∧
    ((s.te e).saves = [] → exec (.saveWriteDone e) s = .next s))

/-! ### The hardwired path (chapter 12) -/

/-- A safety cycle (R295, R300, R306, R311): the cycle counter advances and the newest vector of each source is latched; without an active
configuration, or in the safe state, every output of both channels is off; a configured output that de-energises to trip and takes the
instance request trips and is off when the latched vector names it; starts of the channels too far apart put the island into its safe state.
What else acts on the safety channels (R303, R304, R306, R310): the oldest vector on its way enters its crossing, or is merged into the next
of its source while that is full; an overload opens both switches of an output that is on and latches; FAULT_ACK, on an unlocked page,
clears the latched faults it may; and the end of the self-test is shown. Model: where the spec does not say it, this follows logs 96, 98. -/
def Obligations.SafetyIsland : Prop :=
  (∀ (a b : HwsRead) (mis : Bool) (s : State), s.onTime = true → (s.hd (pHWS 0)).commitPending = false →
    ∃ t, exec (.safetyCycle a b mis) s = .next t ∧ t.hws.cyc = s.hws.cyc + 1 ∧ t.hws.fifo = [] ∧
      (∀ v, s.hws.newest 0 = some v → t.hws.vecG = v.2) ∧ (∀ v, s.hws.newest 1 = some v → t.hws.vecI = v.2.1) ∧
      t.mem = s.mem ∧ t.img = s.img ∧ t.tbl = s.tbl ∧ t.tsu = s.tsu ∧ t.cyc = s.cyc ∧ t.hwsIn = s.hwsIn ∧ t.pwr = s.pwr ∧
      (s.hws.configured = false ∨ s.hws.safe = true → ∀ o ∈ t.hws.a.outs ++ t.hws.b.outs, o.on = false) ∧
      (∀ n v, n < 8 → s.hws.configured = true → s.hws.safe = false → s.hws.newest 1 = some v → v.2.1.testBit n = true →
        bit (s.hws.ow n 0) 31 = true → bit (s.hws.ow n 0) 30 = false → bit (s.hws.ow n 0) 26 = true →
        ∃ p q, t.hws.a.outs[n]? = some p ∧ t.hws.b.outs[n]? = some q ∧ p.trip = true ∧ p.on = false ∧ q.trip = true ∧ q.on = false) ∧
      (mis = true → t.hws.safe = true ∧ ∀ o ∈ t.hws.a.outs ++ t.hws.b.outs, o.on = false)) ∧
  (∀ s : State, s.onTime = true →
    (∀ v rest, s.hwsIn = v :: rest →
      (s.hws.full v.1 = false → exec .safetyReqVector s = .next { s with hwsIn := rest, hws := { s.hws with fifo := s.hws.fifo ++ [v] } }) ∧
      (∀ w tail, s.hws.full v.1 = true → rest = w :: tail → w.1 = v.1 → exec .safetyReqVector s = .next { s with
        hwsIn := (v.1, v.2.1 ||| w.2.1, v.2.2 ||| w.2.2) :: tail })) ∧
    (s.hwsIn = [] → exec .safetyReqVector s = .next s) ∧
    (∀ n, n < 8 → s.soOn n = true → ∃ t p q, exec (.outputOverload n) s = .next t ∧ t.hws.a.outs[n]? = some p ∧
      t.hws.b.outs[n]? = some q ∧ p.on = false ∧ p.has fOvl = true ∧ q.on = false ∧ q.has fOvl = true ∧
      (∀ m, m ≠ n → t.hws.a.outs[m]? = s.hws.a.outs[m]? ∧ t.hws.b.outs[m]? = s.hws.b.outs[m]?) ∧
      t.cn (pHWS 0) R.HWS_CNT_OUT_FAULT = min (cntMax (pHWS 0) R.HWS_CNT_OUT_FAULT) (s.cn (pHWS 0) R.HWS_CNT_OUT_FAULT + 1) ∧
      t.cn (pHWS 1) R.HWS_CNT_OUT_FAULT = min (cntMax (pHWS 1) R.HWS_CNT_OUT_FAULT) (s.cn (pHWS 1) R.HWS_CNT_OUT_FAULT + 1) ∧
      bit (t.hd (pHWS 0)).irqStatus 8 = true ∧ bit (t.hd (pHWS 1)).irqStatus 8 = true ∧
      ({ s with hws := t.hws, evr := t.evr } : State).Quiet [pHWS 0, pHWS 1] t) ∧
    (∀ n, s.soOn n = false → exec (.outputOverload n) s = .next s) ∧
    (∀ out, out < 256 → (s.hd (pHWS 0)).unlocked = true → ∃ t, exec (.faultAck out) s = .next t ∧
      (∀ n o, s.hws.a.outs[n]? = some o → n < 8 → t.hws.a.outs[n]? = some
        (if out.testBit n then { o with faults := o.faults &&& (if o.mirror then 0x30 else 0x3E) } else o)) ∧
      (∀ n o, s.hws.b.outs[n]? = some o → n < 8 → t.hws.b.outs[n]? = some
        (if out.testBit n then { o with faults := o.faults &&& (if o.mirror then 0x30 else 0x3E) } else o)) ∧
      t = { s with hws := t.hws, hdrs := t.hdrs }) ∧
    (∀ out, out < 256 → (s.hd (pHWS 0)).unlocked = false → ∃ t, exec (.faultAck out) s = .next t ∧
      (t.hd (pHWS 0)).errCode = w32 (R.HWS_CMD * 256 + Err.locked) ∧ s.Quiet [pHWS 0] t) ∧
    exec .safetySelftestDone s = .next { s with hws := { s.hws with selftest := true } })

/-! ### Disturbance capture (chapter 13) -/

/-- Capture of a tick (R318, R320): the oldest final tick not yet taken, once its filters have finished, is taken, with the events of the
filters up to it and the GOOSE events met; without such a tick nothing happens. Of a set that fills or is armed, while the other sets are
STOPPED and no trigger, mask or open record is at work: its block enters the ring as far as there is room and is counted, and PRE_TICKS
blocks arm it; without room the writer stalls, which is counted and raised once. Sets (R321): START asks for a STOPPED set to fill unless a
check refuses it, STOP for one at the end of the current tick, RESUME for a FROZEN one to fill again; in the other states they change
nothing, but a STOP withdraws what START or RESUME asked. Triggers by command and from outside (R324): they wait for their tick in the sets
that take them, are ignored and counted in a set that is STOPPED or FROZEN (R321), and one from outside that lies in the future or has no
valid nanoseconds is refused with RANGE. The Choker (R328) decides every 480 ticks: it coarsens one level above 384 MiB of staged data up to
its greatest level, refines one level below 128 MiB, and else stays; a change is counted, raised and noted in the open records. The flusher
(R327) writes one unit to the free unit: the header of a record not yet begun, else staged blocks of the oldest record that has some, as
many as fit, else the trailer of a record whose data is written, which queues it (R330); bytes are counted. A full or read-only store takes
none and raises STORE_FULL; with nothing to write it does nothing. The record store (R329, R330): RESCAN queues the records of the store
that are neither open nor queued, by trailer or, without one, by header with NO_TRAILER, while the FIFO has entries; RELEASE by its trailer,
or by the header of a record without one, frees a record's units and by any other unit none; POP drops the FIFO's head. Model: where the
spec does not say it, this follows logs 87, 88, 89. -/
def Obligations.Capture : Prop :=
  (∀ s : State, s.onMain = true →
    (∀ k, (s.hd pACQ).enable = true → s.acqNext = some k → s.flips = [] → s.poison = [] →
      ∃ t, exec .acqTickBlock s = .next t ∧ t.acq.last = some k ∧ t.acqGoose = [] ∧ t.thrAcq = s.thrAcq.filter (fun v => k < v.tick) ∧
        t.acq.lam = s.acq.lam ∧ t.acq.chokes = s.acq.chokes ∧ t.acq.store = s.acq.store ∧ t.acq.fifo = s.acq.fifo ∧
        t.regs = s.regs ∧ t.mem = s.mem ∧ t.tsu = s.tsu) ∧
    (∀ (n k : Nat) (x y : AcqSet), (s.hd pACQ).enable = true → s.acqNext = some k → n < 4 → s.acq.trigIn = [] → s.flips = [] → s.poison = [] →
      (∀ m, m < 4 → m ≠ n → (s.aset m).state = 0) → (∀ m, m < 4 → (s.aset m).ctl = []) →
      (s.aset n).state = 1 ∨ (s.aset n).state = 2 → (s.aset n).cur = none →
      (∀ m i, bit (s.tw (tEntry m i)) 31 = false) → (∀ m, bit (s.tw (mHead m)) 31 = false) →
      x = (s.aset n).arm (lenPre (s.ac (pACQS n) R.ACQ_SET_LEN)) →
      y = { x with
        hist := ((((s.acqBuild n k).2.zipIdx.map (fun e => (k * cfgSubs (s.acqCfg n) + e.2, e.1))).reverse) ++ x.hist).take 64
        binPrev := (s.acqBuild n k).1.bin.map (fun v => v.1) } →
      ∃ t, exec .acqTickBlock s = .next t ∧ (∀ m, m ≠ n → t.aset m = s.aset m) ∧
        ({ s with acq := { s.acq with sets := t.acq.sets, last := some k }, acqGoose := [], thrAcq := t.thrAcq } : State).Quiet
          [pACQ, pACQS n] t ∧
        (∀ r, ringRoom s.acqPart (s.acqBuild n k).1.size (s.aset n).ring = some r →
          t.aset n = { y with
            stall := false, gap := false
            ring := r ++ [({ (s.acqBuild n k).1 with flags := (s.acqBuild n k).1.flags ||| b2n x.gap * 8 }, none)] }.arm
              (lenPre (s.ac (pACQS n) R.ACQ_SET_LEN)) ∧
          t.cn (pACQS n) R.ACQS_CNT_BLOCKS =
            min (cntMax (pACQS n) R.ACQS_CNT_BLOCKS) (s.cn (pACQS n) R.ACQS_CNT_BLOCKS + 1)) ∧
        (ringRoom s.acqPart (s.acqBuild n k).1.size (s.aset n).ring = none →
          t.aset n = { y with stall := true, gap := true } ∧
          ((s.aset n).stall = false → bit (t.hd pACQ).irqStatus 8 = true ∧ t.cn (pACQS n) R.ACQS_CNT_RING_STALL =
            min (cntMax (pACQS n) R.ACQS_CNT_RING_STALL) (s.cn (pACQS n) R.ACQS_CNT_RING_STALL + 1)))) ∧
    (s.acqNext = none → exec .acqTickBlock s = .next s)) ∧
  (∀ (n : Nat) (s : State), s.onMain = true → n < 4 →
    (s.asetState n = 0 → s.acqStartCheck n = none → ∃ t, exec (.acqSetStart n) s = .next t ∧
      t.aset n = { s.aset n with startNs := some s.ns } ∧ (∀ m, m ≠ n → t.aset m = s.aset m) ∧ (t.hd pACQ).cfgErr = false ∧
      ({ s with acq := { s.acq with sets := t.acq.sets } } : State).Quiet [pACQ, pACQS n] t) ∧
    (∀ o c, s.asetState n = 0 → s.acqStartCheck n = some (o, c) → ∃ t, exec (.acqSetStart n) s = .next t ∧
      (t.hd pACQ).errCode = w32 (pageIndex (pACQS n) * 2 ^ 20 + o * 256 + c) ∧ (t.hd pACQ).cfgErr = true ∧
      s.Quiet [pACQ, pACQS n] t) ∧
    (s.asetState n ≠ 0 → ∃ t, exec (.acqSetStart n) s = .next t ∧ t = { s with hdrs := t.hdrs }) ∧
    (∃ t, exec (.acqSetStop n) s = .next t ∧ (∀ m, m ≠ n → t.aset m = s.aset m) ∧
      t.aset n = { s.aset n with
        startNs := none, ctl := if s.asetState n = 0 then (s.aset n).ctl else (s.aset n).ctl ++ [(s.tick, 1)] } ∧
      t = { s with acq := { s.acq with sets := t.acq.sets }, hdrs := t.hdrs }) ∧
    (s.asetState n = 4 → ∃ t, exec (.resume n) s = .next t ∧ t.aset n = { s.aset n with startNs := some s.ns } ∧
      (∀ m, m ≠ n → t.aset m = s.aset m) ∧ t = { s with acq := { s.acq with sets := t.acq.sets }, hdrs := t.hdrs }) ∧
    (s.asetState n ≠ 4 → ∃ t, exec (.resume n) s = .next t ∧ t = { s with hdrs := t.hdrs })) ∧
  (∀ (s : State), s.onMain = true →
    (∀ n, n < 4 → s.asetState n ≠ 0 → s.asetState n ≠ 4 → ∃ t, exec (.trigger n) s = .next t ∧ t = { s with
      acq := { s.acq with trigIn := s.acq.trigIn ++ [(n, { typ := 0, idx := 0, dir := 0, time := s.ns * 16, flags := 4 })] }
      hdrs := t.hdrs }) ∧
    (∀ n, n < 4 → s.asetState n = 0 ∨ s.asetState n = 4 → ∃ t, exec (.trigger n) s = .next t ∧
      t.cn (pACQS n) R.ACQS_CNT_TRIG_IGNORED =
        min (cntMax (pACQS n) R.ACQS_CNT_TRIG_IGNORED) (s.cn (pACQS n) R.ACQS_CNT_TRIG_IGNORED + 1) ∧ s.Quiet [pACQ, pACQS n] t) ∧
    (∀ v at_ : Word, ∀ total, at_ = s.rg pACQ R.ACQ_XTRIG_NS → total = (s.rg pACQ R.ACQ_XTRIG_SEC).toNat * 1000000000 +
        fld (s.rg pACQ (R.ACQ_XTRIG_SEC + 4)) 0 16 * 2 ^ 32 * 1000000000 + fld at_ 0 30 →
      (fld at_ 0 30 ≤ 999999999 → total ≤ s.ns → ∃ t, exec (.acqXtrigCmd v) s = .next t ∧
        t.acq = { s.acq with
          trigIn := s.acq.trigIn ++
            ((List.range 4).filter (fun m => bit v m && decide (s.asetState m ≠ 0) && decide (s.asetState m ≠ 4))).map
              (fun m => (m, { typ := 0, idx := 0, dir := 0, time := total * 16, flags := 2 })) } ∧
        t.cn pACQ R.ACQ_CNT_XTRIG = min (cntMax pACQ R.ACQ_CNT_XTRIG) (s.cn pACQ R.ACQ_CNT_XTRIG + 1) ∧
        (∀ m, m < 4 → bit v m = true → s.asetState m = 0 ∨ s.asetState m = 4 → t.cn (pACQS m) R.ACQS_CNT_TRIG_IGNORED =
          min (cntMax (pACQS m) R.ACQS_CNT_TRIG_IGNORED) (s.cn (pACQS m) R.ACQS_CNT_TRIG_IGNORED + 1)) ∧
        ({ s with acq := t.acq } : State).Quiet [pACQ, pACQS 0, pACQS 1, pACQS 2, pACQS 3] t) ∧
      (999999999 < fld at_ 0 30 ∨ s.ns < total → ∃ t, exec (.acqXtrigCmd v) s = .next t ∧
        (t.hd pACQ).errCode = w32 (R.ACQ_XTRIG_CMD * 256 + Err.range) ∧ s.Quiet [pACQ] t))) ∧
  (∀ (s : State) (up down : Bool), s.onMain = true → up = (decide (402653184 < s.acq.backlog) && decide (s.acq.lam < fld (s.ac pACQ R.ACQ_CFG) 8 3)) →
    down = (decide (s.acq.backlog < 134217728) && decide (0 < s.acq.lam)) →
    ((s.hd pACQ).enable = true → bit (s.ac pACQ R.ACQ_CFG) 0 = true → s.tick % 480 = 0 → s.acq.chokeTick ≠ some s.tick →
      (∀ l, up = true ∧ l = s.acq.lam + 1 ∨ down = true ∧ l = s.acq.lam - 1 → ∃ t, exec .chokeStep s = .next t ∧
        t.acq = { s.acq with
          chokeTick := some s.tick, lam := l, chokes := ((s.tick, s.acq.lam, l) :: s.acq.chokes).take 128
          recs := s.acq.recs.map (fun r => if r.ended then r else { r with chokes := r.chokes + 1 }) } ∧
        t.cn pACQ R.ACQ_CNT_CHOKE_STEP = min (cntMax pACQ R.ACQ_CNT_CHOKE_STEP) (s.cn pACQ R.ACQ_CNT_CHOKE_STEP + 1) ∧
        bit (t.hd pACQ).irqStatus 6 = true ∧ ({ s with acq := t.acq } : State).Quiet [pACQ] t) ∧
      (up = false → down = false → exec .chokeStep s = .next { s with acq := { s.acq with chokeTick := some s.tick } })) ∧
    ((s.hd pACQ).enable = false ∨ bit (s.ac pACQ R.ACQ_CFG) 0 = false ∨ s.tick % 480 ≠ 0 ∨ s.acq.chokeTick = some s.tick →
      exec .chokeStep s = .next s)) ∧
  (∀ (s : State) (u : Nat), s.onMain = true →
    ((s.hd pACQ).enable = true → s.pwr.pfMode = false ∨ s.evr.pf4 = true → s.memSt.readOnly = false → s.acq.store.length < 65536 →
      u < 65536 → (∀ e ∈ s.acq.store, e.1 ≠ u) →
      (∀ r x, s.acq.recs.find? (fun r => !r.headed) = some r → x = ({ id := r.id, idx := r.next, part := 0, len := r.headLen, rec_ := some r } : AcqUnit) →
        ∃ t, exec (.flashUnitWrite u) s = .next t ∧ t.acq = { s.acq with
            store := sput u x s.acq.store
            recs := s.acq.recs.map (fun q => if q.id == r.id then { q with units := u :: q.units, headed := true } else q) } ∧
          t.cn pACQ R.ACQ_CNT_FLASH_BYTES = min (cntMax pACQ R.ACQ_CNT_FLASH_BYTES) (s.cn pACQ R.ACQ_CNT_FLASH_BYTES + (64 + x.len)) ∧
          t.cn pMEM R.MEM_CNT_FL_BYTES_WR = min (cntMax pMEM R.MEM_CNT_FL_BYTES_WR) (s.cn pMEM R.MEM_CNT_FL_BYTES_WR + (64 + x.len)) ∧
          ({ s with acq := t.acq } : State).Quiet [pACQ, pMEM] t) ∧
      (∀ r b rest mine bs x, (∀ q ∈ s.acq.recs, q.headed = true) → s.acq.stage = (r.id, b) :: rest → s.arec r.id = some r →
        mine = (s.acq.stage.filter (fun e => e.1 == r.id)).map (fun e => e.2) → bs = mine.take (unitFill 1048512 mine) →
        x = ({ id := r.id, idx := r.next, part := 2, len := (bs.map AcqBlk.size).sum, blocks := bs } : AcqUnit) →
        ∃ t, exec (.flashUnitWrite u) s = .next t ∧ t.acq = { s.acq with
            store := sput u x s.acq.store
            stage := (mine.drop (unitFill 1048512 mine)).map (fun b => (r.id, b)) ++ s.acq.stage.filter (fun e => e.1 != r.id)
            recs := s.acq.recs.map (fun q => if q.id == r.id then { q with units := u :: q.units } else q) } ∧
          t.cn pACQ R.ACQ_CNT_FLASH_BYTES = min (cntMax pACQ R.ACQ_CNT_FLASH_BYTES) (s.cn pACQ R.ACQ_CNT_FLASH_BYTES + (64 + x.len)) ∧
          ({ s with acq := t.acq } : State).Quiet [pACQ, pMEM] t) ∧
      (∀ r x, (∀ q ∈ s.acq.recs, q.headed = true) → s.acq.stage = [] → s.acq.recs.find? s.trailerDue = some r → s.acq.fifo.length < 256 →
        x = ({ id := r.id, idx := r.next, part := 3, len := 128 + 4 * (r.units.length + 1), rec_ := some { r with units := u :: r.units } } : AcqUnit) →
        ∃ t, exec (.flashUnitWrite u) s = .next t ∧ t.acq = { s.acq with
            sets := t.acq.sets, store := sput u x s.acq.store, recs := s.acq.recs.filter (fun q => q.id != r.id)
            fifo := s.acq.fifo ++ [(r.id, recInfo r.set u false)] } ∧
          (∀ n, n ≠ r.set → t.aset n = s.aset n) ∧ bit (t.hd pACQ).irqStatus 5 = true ∧
          ({ s with acq := t.acq } : State).Quiet [pACQ, pMEM] t)) ∧
    ((s.hd pACQ).enable = true → s.pwr.pfMode = false ∨ s.evr.pf4 = true → s.acq.stage ≠ [] ∨ (∃ r ∈ s.acq.recs, r.headed = false) →
      s.memSt.readOnly = true ∨ 65536 ≤ s.acq.store.length →
      ∃ t, exec (.flashUnitWrite u) s = .next t ∧ bit (t.hd pACQ).irqStatus 11 = true ∧ s.Quiet [pACQ] t) ∧
    (s.acq.recs = [] → s.acq.stage = [] → exec (.flashUnitWrite u) s = .next s)) ∧
  (∀ s : State, s.onMain = true →
    (∃ t, exec .rescan s = .next t ∧ t = { s with acq := { s.acq with fifo := t.acq.fifo }, hdrs := t.hdrs } ∧
      s.acq.fifo <+: t.acq.fifo ∧ t.acq.fifo.length ≤ max 256 s.acq.fifo.length ∧
      (t.acq.fifo.length < 256 → ∀ i, s.arec i = none → (∀ f ∈ s.acq.fifo, f.1 ≠ i) →
        (∀ u x, s.acq.store.find? (fun e => e.2.id == i && e.2.part == 3) = some (u, x) →
          (i, recInfo ((x.rec_.map (fun r => r.set)).getD 0) u false) ∈ t.acq.fifo) ∧
        (∀ u x, s.acq.store.find? (fun e => e.2.id == i && e.2.part == 3) = none →
          s.acq.store.find? (fun e => e.2.id == i && e.2.part == 0) = some (u, x) →
          (i, recInfo ((x.rec_.map (fun r => r.set)).getD 0) u true) ∈ t.acq.fifo))) ∧
    (∀ v u x names, s.acq.store.find? (fun e => e.1 == fld v 0 16) = some (u, x) →
      names = (decide (x.part = 3) ||
        (decide (x.part = 0) && !s.acq.store.any (fun e => e.2.id == x.id && e.2.part == 3) && (s.arec x.id).isNone)) →
      ∃ t, exec (.acqRecRelease v) s = .next t ∧ t = { s with
        acq := { s.acq with store := if names then s.acq.store.filter (fun e => e.2.id != x.id) else s.acq.store }, hdrs := t.hdrs }) ∧
    (∀ v, (∀ e ∈ s.acq.store, e.1 ≠ fld v 0 16) → ∃ t, exec (.acqRecRelease v) s = .next t ∧ t = { s with hdrs := t.hdrs }) ∧
    (∃ t, exec .acqRecPop s = .next t ∧ t = { s with acq := { s.acq with fifo := s.acq.fifo.drop 1 }, hdrs := t.hdrs }))

/-! ### The event recorder (chapter 14) -/

/-- Posting and the buffer (R341 to R345): a post with its fields in range waits for its body, one of length 0 or while another waits is
refused; its body read, over clean memory, the record that folds into none joins the ordinary buffer with the next SEQ, counted, with
IRQ_STATUS.POST_DONE. A flush takes the records now in the buffer, a further start follows it, and its end removes them, counted, unless
flash is read-only. Privileged records (R342, R347, R348): the first record of the crossing joins the privileged queue with the next SEQ
while it has room, one of the safety channels is lost and counted when it has none, any other waits; the queue's head is written to the
privileged area with its end mark last, or lost to a full area; what was lost is recorded once there is room; the oldest unmirrored record
is mirrored; and EVR_PRIV_RELEASE sets the released SEQ. Model: where the spec does not say it, this follows log 36. -/
def Obligations.EventDeck : Prop :=
  (∀ s : State, s.onMain = true →
    (∀ (v info : Word) a len, info = s.rg pEVR R.EVR_POST_INFO → a = s.rg64 pEVR R.EVR_POST_ADDR → len = fld info 24 8 →
      (2 ≤ len → len ≤ 128 → a % 8 = 0 → postRange a (len * 8) = true → fld v 0 4 ≤ 7 → s.evr.post = none → s.pwr.pfMode = false →
        ∃ t r, exec (.evrPost v) s = .next t ∧ t.evr = { s.evr with post := some (r, a, len * 8) } ∧ r.cls = fld v 0 4 ∧
          r.typ = fld info 16 8 ∧ r.src = 0x8000 + fld info 0 15 ∧ r.ns = s.ns ∧ t = { s with evr := t.evr, hdrs := t.hdrs }) ∧
      (len = 0 → ∃ t, exec (.evrPost v) s = .next t ∧
        (t.hd pEVR).errCode = w32 (R.EVR_POST_CMD * 256 + Err.zeroField) ∧ s.Quiet [pEVR] t) ∧
      (2 ≤ len → len ≤ 128 → a % 8 = 0 → postRange a (len * 8) = true → fld v 0 4 ≤ 7 → s.evr.post ≠ none →
        ∃ t, exec (.evrPost v) s = .next t ∧ (t.hd pEVR).errCode = w32 (R.EVR_POST_CMD * 256 + 0x40) ∧ s.Quiet [pEVR] t)) ∧
    (∀ r a n, s.evr.post = some (r, a, n) → s.flips = [] → s.poison = [] → s.foldInto { r with body := s.bytes a n } = none →
      s.evr.ordFill + 48 + n ≤ 2 ^ 21 →
      ∃ t, exec .postDone s = .next t ∧ t.evr.post = none ∧
        t.evr.ordBuf = s.evr.ordBuf ++ [{ r with body := s.bytes a n, seq := s.evr.ordSeq }] ∧
        t.evr.ordSeq = (s.evr.ordSeq + 1) % 2 ^ 32 ∧ t.evr.cross = s.evr.cross ∧ t.evr.privQ = s.evr.privQ ∧
        t.cn pEVR R.EVR_CNT_ORD_RECORDS = min (cntMax pEVR R.EVR_CNT_ORD_RECORDS) (s.cn pEVR R.EVR_CNT_ORD_RECORDS + 1) ∧
        bit (t.hd pEVR).irqStatus 10 = true ∧ ({ s with evr := t.evr } : State).Quiet [pEVR] t) ∧
    (s.evr.post = none → exec .postDone s = .next s) ∧
    (s.evr.flushing = none → ∃ t, exec .flush s = .next t ∧
      t = { s with evr := { s.evr with flushing := some s.evr.ordBuf.length, fold := [] }, hdrs := t.hdrs }) ∧
    (s.evr.flushing ≠ none → ∃ t, exec .flush s = .next t ∧ t = { s with evr := { s.evr with again := true }, hdrs := t.hdrs }) ∧
    (∀ n, s.evr.flushing = some n →
      (s.memSt.readOnly = false → s.pwr.pfMode = false ∨ s.evr.pf3 = true → ∃ t, exec .flushDone s = .next t ∧
        t.evr.ordBuf = s.evr.ordBuf.drop n ∧ t.evr.again = false ∧
        t.evr.flushing = (if s.evr.again then some (s.evr.ordBuf.drop n).length else none) ∧ t.evr.ordSeq = s.evr.ordSeq ∧ t.evr.privQ = s.evr.privQ ∧
        t.cn pEVR R.EVR_CNT_FLUSH = min (cntMax pEVR R.EVR_CNT_FLUSH) (s.cn pEVR R.EVR_CNT_FLUSH + 1) ∧
        bit (t.hd pEVR).irqStatus 5 = true ∧ ({ s with evr := t.evr } : State).Quiet [pEVR, pMEM] t) ∧
      (s.memSt.readOnly = true → exec .flushDone s = .next s))) ∧
  (∀ s : State, s.onMain = true →
    (∀ r rest, s.evr.cross = r :: rest → 8 ≤ r.cls →
      (s.evr.privQ.length < 64 → ∃ t, exec .hwRecordSubmit s = .next t ∧ t.evr.cross = rest ∧
        t.evr.privQ = s.evr.privQ ++ [{ r with seq := s.evr.privSeq }] ∧ t.evr.privSeq = (s.evr.privSeq + 1) % 2 ^ 32 ∧
        ([8, 10, 11, 13].contains r.cls = true → t.evr.flushing ≠ none) ∧
        ([8, 10, 11, 13].contains r.cls = false → t.evr.flushing = s.evr.flushing) ∧ t = { s with evr := t.evr }) ∧
      (64 ≤ s.evr.privQ.length → r.src = 0x1A0 → ∃ t, exec .hwRecordSubmit s = .next t ∧ t.evr =
          { s.evr with cross := rest, lost := s.evr.lost + 1 } ∧
        t.cn pEVR R.EVR_CNT_PRIV_LOST = min (cntMax pEVR R.EVR_CNT_PRIV_LOST) (s.cn pEVR R.EVR_CNT_PRIV_LOST + 1) ∧
        bit (t.hd pEVR).irqStatus 7 = true ∧ ({ s with evr := t.evr } : State).Quiet [pEVR] t) ∧
      (64 ≤ s.evr.privQ.length → r.src ≠ 0x1A0 → r.src ≠ 0x1A1 → rest = [] → exec .hwRecordSubmit s = .next s)) ∧
    (∀ r rest, s.evr.privQ = r :: rest → s.pwr.pfMode = false →
      (s.evr.room r.size = true → s.evr.wptr + r.size ≤ 65536 → ∃ t, exec .privRecordWrite s = .next t ∧
        t.evr = { s.evr with
          privQ := rest, ring := s.evr.ring ++ [(s.evr.wptr, r.size, some r.seq)], unmirrored := s.evr.unmirrored ++ [r]
          wptr := (s.evr.wptr + r.size) % 65536 } ∧
        t.mramBytes s.evr.wptr r.size = (r.bytes ++ r.mark).map (fun b => b % 256) ∧
        (∀ a, a < s.evr.wptr ∨ s.evr.wptr + r.size ≤ a → sget 0 a t.mram = sget 0 a s.mram) ∧
        t.cn pEVR R.EVR_CNT_PRIV_RECORDS = min (cntMax pEVR R.EVR_CNT_PRIV_RECORDS) (s.cn pEVR R.EVR_CNT_PRIV_RECORDS + 1) ∧
        ({ s with evr := t.evr, mram := t.mram } : State).Quiet [pEVR] t) ∧
      (s.evr.room r.size = false → ∃ t, exec .privRecordWrite s = .next t ∧
        t.evr = { s.evr with privQ := rest, lost := s.evr.lost + 1 } ∧ t.mram = s.mram ∧ bit (t.hd pEVR).irqStatus 7 = true)) ∧
    (s.evr.lost ≠ 0 → s.evr.privQ.length < 64 → s.evr.room 64 = true → ∃ t r, exec .privLossRecord s = .next t ∧ t.evr.lost = 0 ∧
      t.evr.privQ = s.evr.privQ ++ [r] ∧ r.cls = 13 ∧ r.typ = 5 ∧ r.src = pEVR ∧ r.seq = s.evr.privSeq ∧
      r.body = tagBody (tagOf s.tick) ++ bytesLE 8 s.evr.lost ∧ t = { s with evr := t.evr }) ∧
    (s.evr.lost = 0 → exec .privLossRecord s = .next s) ∧
    (∀ r rest, s.evr.unmirrored = r :: rest → s.pwr.pfMode = false → s.memSt.readOnly = false →
      (s.evr.mirFull r.size = false → ∃ t, exec .privMirror s = .next t ∧ t.evr.unmirrored = rest ∧ t.evr.mirrorSeq = r.seq ∧
        (∃ g ∈ t.evr.mirSegs, r ∈ g.recs) ∧ t.evr.privQ = s.evr.privQ ∧ t.mram = s.mram ∧
        ({ s with evr := t.evr } : State).Quiet [pEVR, pMEM] t) ∧
      (s.evr.mirFull r.size = true → exec .privMirror s = .next s)) ∧
    (∀ v : Word, ∃ t, exec (.evrPrivRelease v) s = .next t ∧ t.evr.releaseSeq = some v.toNat ∧
      t = { s with evr := { s.evr with releaseSeq := t.evr.releaseSeq, nearFull := t.evr.nearFull }, hdrs := t.hdrs }))

/-! ### The duplex pair (chapter 15) -/

/-- Frames of the partner (R356, R363, R372, R373): a SYNC frame is kept as the partner's state with the comparison of the configurations,
and in PAIRING two modules of one side conflict while an ACTIVE partner of the other side is joined; parts of a mirror are put together; the
last RSTATE frame of publications is adopted by a module that joins. Model: where the spec does not say it, this follows logs 80, 85. -/
def Obligations.PartnerFrames : Prop :=
  ∀ s : State, s.onMain = true → s.dupEn = true →
    (∀ m rx, s.dup.rx = .sync m :: rx → ∃ t, exec .dupSyncRx s = .next t ∧ t.dup.partner = some m ∧ t.dup.rx = rx ∧
      t.dup.mismatch = (m.configId != s.cfgId) ∧ t.dup.state = s.dup.state ∧ t.dup.active = s.dup.active ∧ t.tsu = s.tsu ∧
      (s.dup.state = 1 → m.inj = [] → m.side = s.sideB → s.dup.pend = none → s.dup.active = false → t.dup.pend = some (7, false, 3)) ∧
      (s.dup.state = 1 → m.inj = [] → m.side ≠ s.sideB → m.configId = s.cfgId → m.active = true → m.state = 5 → s.dup.active = false →
        t.dup.pend = some (3, false, 3))) ∧
    (∀ c bs rx, s.dup.rx = .mirror c bs :: rx → s.dup.active = false → s.dup.state ≠ 3 →
      (s.dup.mirRx = none → exec .mirrorRx s = .next { s with dup := { s.dup with rx := rx, mirRx := some (c, bs) } }) ∧
      (∀ old, s.dup.mirRx = some (c, old) →
        exec .mirrorRx s = .next { s with dup := { s.dup with rx := rx, mirRx := some (c, (old ++ bs).take 65536) } }) ∧
      (∀ c' old, s.dup.mirRx = some (c', old) → c' < c →
        exec .mirrorRx s = .next { s with dup := { s.dup with rx := rx, mirRx := some (c, bs) } }) ∧
      (∀ c' old, s.dup.mirRx = some (c', old) → c < c' → exec .mirrorRx s = .next { s with dup := { s.dup with rx := rx } })) ∧
    (∀ k m rx, s.dup.rx = .rstate k m :: rx →
      (s.dup.state ≠ 3 → exec .rstateRx s = .next { s with dup := { s.dup with rx := rx } }) ∧
      (∀ p, s.dup.state = 3 → s.dup.resyncTick = some (k + 1) → m.engine = none → m.subs = [] → m.pubs = [p] → m.last = true →
        ∃ t, exec .rstateRx s = .next t ∧ t.dup = { s.dup with rx := rx, adoptedPubs := true } ∧ (t.gpub p.idx).started = true ∧
          (t.gpub p.idx).stNum = p.stNum ∧ (t.gpub p.idx).sqNum = p.sqNum ∧ (t.gpub p.idx).next = p.next ∧
          (∀ n, n ≠ p.idx → t.gpub n = s.gpub n) ∧ t = { s with dup := t.dup, cyc := { s.cyc with pubs := t.cyc.pubs } }))

/-- States and roles (R354, R364, R371, R372, R374): the change decided takes effect at the next boundary; a pair whose configurations have
differed for 4,800 heartbeats diverges; PAIRING without a partner ends in SOLO after 2 s; RESYNC, SWAP and TAKE act in the states that allow
them and are refused with DUP_STATE in the others; a healthy preferred standby asks for the swap. DUP_INJ_CMD.GO (R360): on an ACTIVE module
that has not failed the write is staged here for the tag shown, INJ_LEAD cycles ahead, and told to the partner, in SOLO to none; after 16 in
one cycle it is refused with CAP_FULL, elsewhere with DUP_STATE. Model: where the spec does not say it, this follows log 84. -/
def Obligations.PairAndInjection : Prop :=
  (∀ s : State, s.onMain = true →
    (∀ j st a c, s.cycDue = some j → s.dup.pend = some (st, a, c) → (∀ p, p < 16 → (s.hd (pCYC p)).stopNs = none) →
      ∃ t, exec .cycleStart s = .next t ∧ t.dup.state = st ∧ t.dup.active = a ∧ t.cyc.cyc = some j) ∧
    (s.dupEn = true → s.dup.state = 2 → 4800 ≤ s.dup.cfgDiff → s.dupMode ≠ 2 → ∃ t r, exec .configDiverge s = .next t ∧
      t.dup = { s.dup with
        cfgDiff := 0, cause := 3, healthyClk := s.tsu.clk, pend := some (if s.dup.active then (5, true, 6) else (4, false, 6)) } ∧
      t.rg pDUP R.DUP_DIVERGE_TAG = tagOf s.cycNow ∧ bit (t.hd pDUP).irqStatus 6 = true ∧ t.evr.cross = s.evr.cross ++ [r] ∧ r.cls = 13 ∧
      r.typ = 7 ∧ (∀ p off, ka p off ≠ ka pDUP R.DUP_DIVERGE_TAG → t.rg p off = s.rg p off) ∧
      ({ s with dup := t.dup, evr := t.evr, regs := t.regs } : State).Quiet [pDUP] t) ∧
    (s.dup.cfgDiff < 4800 → exec .configDiverge s = .next s) ∧
    (s.dupEn = true → s.dup.state = 1 → s.dup.partner = none → 500000000 ≤ s.since s.dup.pairClk →
      exec .pairingTimeout s = .next { s with dup := { s.dup with pend := some (5, true, 3) } }) ∧
    (s.since s.dup.pairClk < 500000000 → exec .pairingTimeout s = .next s) ∧
    (s.dupEn = true → s.dup.state = 4 ∨ s.dup.state = 6 → ∃ t, exec .resync s = .next t ∧
      t = { s with dup := { s.dup with pend := some (3, false, 0) }, hdrs := t.hdrs }) ∧
    (s.dupEn = false ∨ (s.dup.state ≠ 4 ∧ s.dup.state ≠ 6) → ∃ t, exec .resync s = .next t ∧ (t.hd pDUP).errCode = w32 (R.DUP_CMD * 256 + 0x42) ∧ s.Quiet [pDUP] t) ∧
    (s.dupEn = true → s.dup.state = 2 → s.dup.active = false → ∃ t, exec .swap s = .next t ∧
      t = { s with dup := { s.dup with reqSwap := true }, hdrs := t.hdrs }) ∧
    (s.dupEn = false ∨ s.dup.state ≠ 2 ∨ s.dup.active = true → ∃ t, exec .swap s = .next t ∧
      (t.hd pDUP).errCode = w32 (R.DUP_CMD * 256 + 0x42) ∧ s.Quiet [pDUP] t) ∧
    (s.dupEn = true → (s.hd pDUP).unlocked = true → s.hbCurrent = false → s.dupMode = 3 →
      s.dup.state = 1 ∨ s.dup.state = 6 ∨ s.dup.state = 7 → ∃ t, exec .take s = .next t ∧
        t = { s with dup := { s.dup with pend := some (5, true, 5) }, hdrs := t.hdrs }) ∧
    ((s.hd pDUP).unlocked = true → s.hbCurrent = true ∨ s.dupMode ≠ 3 → ∃ t, exec .take s = .next t ∧
      (t.hd pDUP).errCode = w32 (R.DUP_CMD * 256 + 0x42) ∧ s.Quiet [pDUP] t) ∧
    ((s.hd pDUP).unlocked = false → ∃ t, exec .take s = .next t ∧
      (t.hd pDUP).errCode = w32 (R.DUP_CMD * 256 + Err.locked) ∧ s.Quiet [pDUP] t) ∧
    (s.dupEn = true → s.dupMode = 0 → s.preferred = true → s.dup.state = 2 → s.dup.active = false → s.dup.reqSwap = false →
      s.sideB = false ∨ (∀ m, s.dup.partner = some m → m.preferred = false) → s.tsu.sync ≠ .unlocked → fld (s.ac pDUP R.DUP_TIMING) 16 16 * 250000000 ≤ s.since s.dup.healthyClk →
      exec .preferredReturn s = .next { s with dup := { s.dup with reqSwap := true } }) ∧
    (s.preferred = false → exec .preferredReturn s = .next s)) ∧
  (∀ (p k : Nat) (x : Point) (s : State), s.onMain = true → p = fld (s.rg pDUP R.DUP_INJ_POINT) 0 20 →
    k = s.cycNow + fld (s.ac pDUP R.DUP_TIMING) 13 3 →
    x = { value := s.rg64 pDUP R.DUP_INJ_VALUE, qual := (s.rg pDUP R.DUP_INJ_QUAL).toNat, stamp := shortOf (tickStartNs k) } →
    (s.dup.active = true → s.failed = false →
      (s.dup.injNow < 16 → s.inRange (some 0) p = true → (s.inst 0).wrote < s.iQuota 0 →
        ∃ t, exec .go s = .next t ∧ t.rg pDUP R.DUP_INJ_TAG = tagOf k ∧ t.cyc.pfStage = s.cyc.pfStage ++ [(k, p, x)] ∧
          t.dup = { s.dup with
            injNow := s.dup.injNow + 1, inj := if s.dup.state = 5 then s.dup.inj else s.dup.inj ++ [(k, p, x)] } ∧
          (∀ q off, ka q off ≠ ka pDUP R.DUP_INJ_TAG → t.rg q off = s.rg q off) ∧
          t = { s with
            dup := t.dup, cyc := { s.cyc with insts := t.cyc.insts, pfStage := t.cyc.pfStage }, regs := t.regs, hdrs := t.hdrs }) ∧
      (16 ≤ s.dup.injNow → ∃ t, exec .go s = .next t ∧
        (t.hd pDUP).errCode = w32 (R.DUP_INJ_CMD * 256 + Err.capFull) ∧ s.Quiet [pDUP] t)) ∧
    (s.dup.active = false ∨ s.failed = true → ∃ t, exec .go s = .next t ∧
      (t.hd pDUP).errCode = w32 (R.DUP_INJ_CMD * 256 + 0x42) ∧ s.Quiet [pDUP] t))

/-! ### Memory and the Cruiser (chapter 16) -/

/-- Accesses to memory (R383, R385, R390): the Cruiser reads the next word of a lap, and mends, logs and counts a word with one wrong bit; a
partial write of an undamaged word puts its bytes and nothing else, one of a poisoned word is refused, counted, with IRQ_STATUS.PW_REFUSED.
The running lap's warning comes once, when its limit has passed (R391). Commands of the MEM page (R48, R387, R389, R394): an injection
inverts the stored bit named; injection and CLEAR_SAVED are refused with LOCKED on a locked page; POP drops the log's oldest event; wear of
the flash is shown, warned of at 90 %, and without spare blocks flash is read-only. Model: where the spec does not say it, this follows logs
31, 33. -/
def Obligations.Memories : Prop :=
  (∀ s : State, s.onMain = true →
    (∀ m pos, m < 4 → bit (s.ac pCRU R.CRU_CFG) 0 = true → s.memFenced = 0 → (s.lap m).pos = pos →
      s.poison = [] →
      (pos + 1 = (memSpan m).2 → s.flips = [] → ∃ t, exec (.cruiserRead m) s = .next t ∧
        t.lap m = {
          pos := 0, no := (s.lap m).no + 1, startClk := s.tsu.clk, raised := false
          warn := (s.lap m).warn && decide (s.lapLimit m ≠ 0) && decide (s.lapLimit m < s.lapMs m) } ∧
        (∀ k, k ≠ m → t.lap k = s.lap k) ∧ t.rg pCRU (R.CRU_LAP_LAST + 16 * m) = w32 (s.lapMs m) ∧
        t.cn pCRU (R.CRU_CNT_LAPS + 4 * m) =
          min (cntMax pCRU (R.CRU_CNT_LAPS + 4 * m)) (s.cn pCRU (R.CRU_CNT_LAPS + 4 * m) + 1) ∧ t.mem = s.mem) ∧
      (pos + 1 < (memSpan m).2 → s.flips = [] → ∃ t, exec (.cruiserRead m) s = .next t ∧ t.lap m = { s.lap m with pos := pos + 1 } ∧
        (∀ k, k ≠ m → t.lap k = s.lap k) ∧ t = { s with memSt := { s.memSt with laps := t.memSt.laps } }) ∧
      (∀ b, pos + 1 < (memSpan m).2 → b < 80 → s.flips = [((memSpan m).1 / 8 + pos, 2 ^ b)] → ∃ t, exec (.cruiserRead m) s = .next t ∧ t.flips = [] ∧
        t.poison = [] ∧ t.mem = s.mem ∧ (t.lap m).pos = pos + 1 ∧ bit (t.hd pMEM).irqStatus 4 = true ∧
        t.cn pCRU R.CRU_CNT_SCRUB_CE = min (cntMax pCRU R.CRU_CNT_SCRUB_CE) (s.cn pCRU R.CRU_CNT_SCRUB_CE + 1))) ∧
    (∀ m, bit (s.ac pCRU R.CRU_CFG) 0 = false → exec (.cruiserRead m) s = .next s) ∧
    (∀ a bs req idx, (memOf a).isSome = true → memOf a = memOf (a + bs.length - 1) → bs ≠ [] → req ≠ 1 ∨ s.onCore idx = none → s.flips = [] →
      (s.poison = [] → ∃ t, exec (.partialWrite a bs req idx) s = .next t ∧ t.bytes a bs.length = bs.map (fun b => b.toNat) ∧
        (∀ k, k < a ∨ a + bs.length ≤ k → t.byte k = s.byte k) ∧ t = { s with mem := t.mem }) ∧
      (bs.length ≤ 8 - a % 8 → bs.length < 8 → s.poison = [(a / 8, true)] → ∃ t, exec (.partialWrite a bs req idx) s = .next t ∧ t.mem = s.mem ∧ t.poison = s.poison ∧
        t.cn pMEM R.MEM_CNT_PW_REFUSED = min (cntMax pMEM R.MEM_CNT_PW_REFUSED) (s.cn pMEM R.MEM_CNT_PW_REFUSED + 1) ∧
        bit (t.hd pMEM).irqStatus 6 = true)) ∧
    (∀ m, m < 4 → (s.lap m).raised = false → s.lapLimit m ≠ 0 →
      (s.lapLimit m < s.lapMs m → ∃ t, exec (.lapWarn m) s = .next t ∧ t.lap m = { s.lap m with warn := true, raised := true } ∧
        (∀ k, k ≠ m → t.lap k = s.lap k) ∧ bit (t.hd pCRU).irqStatus 4 = true ∧
        t.cn pCRU R.CRU_CNT_LAP_WARN = min (cntMax pCRU R.CRU_CNT_LAP_WARN) (s.cn pCRU R.CRU_CNT_LAP_WARN + 1) ∧
        ({ s with memSt := { s.memSt with laps := t.memSt.laps } } : State).Quiet [pCRU] t) ∧
      (s.lapMs m ≤ s.lapLimit m → exec (.lapWarn m) s = .next s))) ∧
  (∀ s : State, s.onMain = true →
    (∀ v : Word, ∀ a n, n = fld v 0 2 → a = s.rg64 pMEM R.MEM_INJ_ADDR → (s.hd pMEM).unlocked = true →
      (n = 1 ∨ n = 2 → fld v 8 8 < 80 → (n = 2 → fld v 16 8 < 80) → (memOf a).isSome = true → ∃ t, exec (.memInjCmd v) s = .next t ∧
        sget 0 (a / 8) t.flips = sget 0 (a / 8) s.flips ^^^ 2 ^ fld v 8 8 ^^^ (if n = 2 then 2 ^ fld v 16 8 else 0) ∧
        (∀ w, w ≠ a / 8 → sget 0 w t.flips = sget 0 w s.flips) ∧ t = { s with flips := t.flips, hdrs := t.hdrs }) ∧
      (n = 0 ∨ n = 3 ∨ 79 < fld v 8 8 ∨ (n = 2 ∧ 79 < fld v 16 8) ∨ memOf a = none → ∃ t, exec (.memInjCmd v) s = .next t ∧
        (t.hd pMEM).errCode = w32 (R.MEM_INJ_CMD * 256 + Err.range) ∧ s.Quiet [pMEM] t)) ∧
    ((s.hd pMEM).unlocked = true → ∃ t, exec .clearSaved s = .next t ∧
      t = { s with memSt := { s.memSt with clearSaved := true }, hdrs := t.hdrs }) ∧
    ((s.hd pMEM).unlocked = false →
      (∀ v : Word, v &&& 0xFFFF03 ≠ 0 → ∃ t, exec (.memInjCmd v) s = .next t ∧ (t.hd pMEM).errCode = w32 (R.MEM_INJ_CMD * 256 + Err.locked) ∧ s.Quiet [pMEM] t) ∧
      (∃ t, exec .clearSaved s = .next t ∧ (t.hd pMEM).errCode = w32 (R.MEM_CMD * 256 + Err.locked) ∧ s.Quiet [pMEM] t)) ∧
    (∃ t, exec .memLogPop s = .next t ∧ t = { s with memSt := { s.memSt with log := s.memSt.log.drop 1 }, hdrs := t.hdrs }) ∧
    (∀ used spare, ∃ t, exec (.flashWear used spare) s = .next t ∧ t.rg pMEM R.MEM_FL_WEAR = w32 (min 0xFFFF used) ∧
      t.rg pMEM R.MEM_FL_SPARE = w32 (min 0xFFFF spare) ∧
      t.memSt = { s.memSt with
        wearWarn := s.memSt.wearWarn || decide (9000 ≤ used), readOnly := s.memSt.readOnly || decide (spare = 0) } ∧
      (9000 ≤ used → s.memSt.wearWarn = false → bit (t.hd pMEM).irqStatus 9 = true) ∧
      (spare = 0 → s.memSt.readOnly = false → bit (t.hd pMEM).irqStatus 10 = true) ∧
      (∀ p off, ka p off ≠ ka pMEM R.MEM_FL_WEAR → ka p off ≠ ka pMEM R.MEM_FL_SPARE → t.rg p off = s.rg p off) ∧
      ({ s with memSt := t.memSt, regs := t.regs } : State).Quiet [pMEM] t))

/-- Invariant of every step: memory and MRAM keep their canonical form, addresses rising and no byte listed that an unlisted address reads
as (what a byte never written reads as is the model's choice, log 31). -/
def Obligations.MemoryKeepsItsForm : Prop :=
  ∀ s t : State, Memory.wf s.mem = true → Memory.wf s.mram = true → step s = .next t →
    Memory.wf t.mem = true ∧ Memory.wf t.mram = true

/-! ### Keys and tamper (chapter 17) -/

/-- KSU_CMD (R406, R414, R417): KSU_STATUS.MODE shows the fuse; an operation that nothing forbids starts; INVALIDATE and SET_OWNER on a
locked page, an operation while another runs, one of the other mode's path, one after a hard tamper and one in a tamper hold are refused
with their codes. -/
def Obligations.KeyCommands : Prop :=
  ∀ (n a : Nat) (c : Instr) (op sl ar : Nat) (s : State), s.onMain = true →
    (c, op, sl, ar) ∈ ([(.derive n, 1, n, 0), (.stage n, 2, n, 0), (.verify n, 3, n, 0), (.ksuCommit n, 4, n, 0), (.abortStage n, 5, n, 0),
      (.unwrap n a, 6, n, a), (.msg n, 7, n, 0), (.invalidate n, 8, n, 0), (.sign n, 9, n, 0), (.pubkey n a, 10, n, a),
      (.saveBlob n, 11, n, 0), (.loadBlob n, 12, n, 0), (.extend a, 13, 0, a), (.lockMr a, 14, 0, a), (.run, 15, 0, 0),
      (.setOwner, 16, 0, 0)] : List (Instr × Nat × Nat × Nat)) →
    bit ((s.ksuRo R.KSU_STATUS).getD 0) 7 = (s.ident.keyUpdateMode == 1) ∧
    ((op = 8 ∨ op = 16) → (s.hd pKSU).unlocked = false → ∃ t, exec c s = .next t ∧
      (t.hd pKSU).errCode = w32 (R.KSU_CMD * 256 + Err.locked) ∧ s.Quiet [pKSU] t) ∧
    ((op = 8 ∨ op = 16 → (s.hd pKSU).unlocked = true) →
      ((s.hd pKSU).busy = true ∨ (sget {} pKSU s.wins).busy = true → ∃ t, exec c s = .next t ∧
        (t.hd pKSU).errCode = w32 (R.KSU_CMD * 256 + 0x49) ∧ s.Quiet [pKSU] t) ∧
      ((s.hd pKSU).busy = false → (sget {} pKSU s.wins).busy = false →
        ((s.ident.keyUpdateMode = 1 ∧ 2 ≤ op ∧ op ≤ 5) ∨ (s.ident.keyUpdateMode ≠ 1 ∧ (op = 7 ∨ op = 16)) → ∃ t, exec c s = .next t ∧
          (t.hd pKSU).errCode = w32 (R.KSU_CMD * 256 + 0x40) ∧ s.Quiet [pKSU] t) ∧
        ((s.ident.keyUpdateMode = 1 → op < 2 ∨ 5 < op) → (s.ident.keyUpdateMode ≠ 1 → op ≠ 7 ∧ op ≠ 16) →
          (s.ksu.lockedOut = true → ∃ t, exec c s = .next t ∧
            (t.hd pKSU).errCode = w32 (R.KSU_CMD * 256 + 0x48) ∧ s.Quiet [pKSU] t) ∧
          (s.ksu.lockedOut = false → s.ksu.hold = true → ∃ t, exec c s = .next t ∧
            (t.hd pKSU).errCode = w32 (R.KSU_CMD * 256 + 0x4B) ∧ s.Quiet [pKSU] t) ∧
          (s.ksu.lockedOut = false → s.ksu.hold = false → ∃ t o, exec c s = .next t ∧ t.ksu = { s.ksu with op := some o } ∧
            o.op = op ∧ o.slot = sl % 256 ∧ o.arg = ar % 256 ∧ o.code = none ∧
            t.hd pKSU = { s.hd pKSU with busy := true, lockSeen := false } ∧ (∀ q, q ≠ pKSU → t.hd q = s.hd q) ∧
            t = { s with ksu := t.ksu, hdrs := t.hdrs }))))

/-- OP_DONE without a record to wait for (R400, R407, R414, R416): VERIFY, ABORT_STAGE, EXTEND, LOCK_MR and RUN do their work, KSU_RESULT
names the operation and its code, KSU_DATA is cleared, BUSY ends, the operation is counted and IRQ_STATUS.OP_DONE is set; EXTEND and LOCK_MR
beyond MR7 end with RANGE and EXTEND of a locked register with POLICY. With no operation nothing happens; one that starts takes KSU_ADDR,
KSU_LEN, KSU_DATA and its slot as they stand. What a slot holds after OP_DONE (R404, R405, R407, R411 to R413, R342): DERIVE from the root
leaves the derived material at depth 1; STAGE of an undamaged range stages its bytes, not verified; COMMIT of verified material makes it the
slot's and every engine copy's; INVALIDATE leaves the slot zeroised with no engine copy of it. An operation with a record completes only
when its record has left for the queue. Model: where the spec does not say it, this follows logs 90, 92, 94. -/
def Obligations.KeyOperations : Prop :=
  (∀ s : State, s.onMain = true →
    (s.ksu.op = none → exec .opDone s = .next s) ∧
    (∀ op sl ar x, s.ksu.op = none → (s.ksuCmd op sl ar).ksu.op = some x → x.addr = s.rg64 pKSU R.KSU_ADDR ∧
      x.len = (s.rg pKSU R.KSU_LEN).toNat ∧ x.data = s.ksuData ∧ x.before = s.kslot (sl % 256)) ∧
    (∀ o, s.ksu.op = some o → o.code = none → s.deckWaits pKSU = false → o.op ∈ ([3, 5, 13, 14, 15] : List Nat) →
      ∃ t c, exec .opDone s = .next t ∧ t.rg pKSU R.KSU_RESULT = w32 (o.op * 2 ^ 16 + c) ∧
        (∀ i, i < 12 → t.rg pKSU (R.KSU_DATA + 4 * i) = 0) ∧
        (∀ p off, ka p off ≠ ka pKSU R.KSU_RESULT → (∀ i, i < 12 → ka p off ≠ ka pKSU (R.KSU_DATA + 4 * i)) → t.rg p off = s.rg p off) ∧
        (t.hd pKSU).busy = false ∧ bit (t.hd pKSU).irqStatus 4 = true ∧ (∀ q, q ≠ pKSU → t.hd q = s.hd q) ∧
        t.cn pKSU R.KSU_CNT_OPS = min (cntMax pKSU R.KSU_CNT_OPS) (s.cn pKSU R.KSU_CNT_OPS + 1) ∧
        (∀ q off, q ≠ pKSU → off < 4096 → t.cn q off = s.cn q off) ∧ (∀ k, k ≠ o.slot → t.kslot k = s.kslot k) ∧
        (o.op = 3 → t.ksu = { s.ksu with op := none } ∧
          ((s.kslot o.slot).staged = none → c = 0x43 ∧ t.kslot o.slot = s.kslot o.slot) ∧
          (∀ m v, (s.kslot o.slot).staged = some (m, v) →
            (fit 8 (Config.hmac384 (ofBytes m) [0x4B, 0x43, 0x56]) = fit 8 o.data →
              c = 0 ∧ t.kslot o.slot = { s.kslot o.slot with staged := some (m, true) }) ∧
            (fit 8 (Config.hmac384 (ofBytes m) [0x4B, 0x43, 0x56]) ≠ fit 8 o.data → c = 0x43 ∧ t.kslot o.slot = s.kslot o.slot))) ∧
        (o.op = 5 → c = 0 ∧ t.kslot o.slot = { s.kslot o.slot with staged := none } ∧ t.ksu = { s.ksu with op := none }) ∧
        (o.op = 13 → t.kslot o.slot = s.kslot o.slot ∧
          (7 < o.arg → c = Err.range ∧ t.ksu = { s.ksu with op := none }) ∧
          (o.arg ≤ 7 → s.ksu.mrLock.testBit o.arg = true → c = 0x46 ∧ t.ksu = { s.ksu with op := none }) ∧
          (∀ old, s.ksu.mrLock.testBit o.arg = false → o.arg ≤ 7 → s.ksu.mrs[o.arg]? = some old → c = 0 ∧
            t.ksu = { s.ksu with op := none, mrs := s.ksu.mrs.set o.arg (fit 48 (Config.sha384 (old ++ fit 48 o.data))) })) ∧
        (o.op = 14 → t.kslot o.slot = s.kslot o.slot ∧
          (7 < o.arg → c = Err.range ∧ t.ksu = { s.ksu with op := none }) ∧
          (o.arg ≤ 7 → c = 0 ∧ t.ksu = { s.ksu with op := none, mrLock := s.ksu.mrLock ||| 1 <<< o.arg })) ∧
        (o.op = 15 → t.kslot o.slot = s.kslot o.slot ∧ c = 0 ∧ t.ksu = { s.ksu with op := none, running := true }) ∧
        t = { s with
          ksu := t.ksu, kslots := t.kslots, regs := t.regs, hdrs := t.hdrs, cnts := t.cnts, vecs := t.vecs, out := t.out,
          shf := { s.shf with intr := t.shf.intr, msix := t.shf.msix } })) ∧
  (∀ (s : State) (o : KOp), s.onMain = true → s.ksu.op = some o →
    (∀ c, o.code = some c → s.deckWaits pKSU = true → exec .opDone s = .next s) ∧
    (∀ c, o.code = some c → s.deckWaits pKSU = false → ∃ t, exec .opDone s = .next t ∧
      t.rg pKSU R.KSU_RESULT = w32 (o.op * 2 ^ 16 + c) ∧ t.ksu = { s.ksu with op := none } ∧ (t.hd pKSU).busy = false ∧
      bit (t.hd pKSU).irqStatus 4 = true ∧ t.kslots = s.kslots) ∧
    (o.code = none →
      (o.op = 1 → s.flips = [] → s.poison = [] → (s.kslot o.slot).fromRoot = true → s.ksu.root = true → 0 < o.len → o.len ≤ 32 →
        postRange o.addr o.len = true → ∃ t, exec .opDone s = .next t ∧
          (t.kslot o.slot).material = toBytes (kdfMat Config.rootSecret (s.bytes o.addr o.len) (s.kctx (s.kslot o.slot)) (s.kslot o.slot).type) ∧
          (t.kslot o.slot).state = 1 ∧ (t.kslot o.slot).origin = 1 ∧ (t.kslot o.slot).depth = 1 ∧ t.mem = s.mem ∧
          t.cn pKSU R.KSU_CNT_DERIVE = min (cntMax pKSU R.KSU_CNT_DERIVE) (s.cn pKSU R.KSU_CNT_DERIVE + 1) ∧
          (∀ x, t.ksu.op = some x → x = { o with code := some 0 })) ∧
      (o.op = 2 → s.flips = [] → s.poison = [] → s.deckWaits pKSU = false → postRange o.addr (s.kslot o.slot).keyLen = true →
        ∃ t, exec .opDone s = .next t ∧ t.ksu = { s.ksu with op := none } ∧
          t.kslot o.slot = { s.kslot o.slot with staged := some (toBytes (s.bytes o.addr (s.kslot o.slot).keyLen), false) } ∧
          (∀ k, k ≠ o.slot → t.kslot k = s.kslot k) ∧ t.mem = s.mem) ∧
      (∀ m, o.op = 4 → (s.kslot o.slot).staged = some (m, true) → ∃ t, exec .opDone s = .next t ∧
        (t.kslot o.slot).state = 1 ∧ (t.kslot o.slot).material = m ∧ (t.kslot o.slot).origin = 4 ∧ (t.kslot o.slot).staged = none ∧
        (∀ e, e ∈ t.ekeys → e.1 % 256 = o.slot → e.2 = m) ∧ t.mem = s.mem) ∧
      (o.op = 8 → ∃ t, exec .opDone s = .next t ∧ (t.kslot o.slot).state = 3 ∧ (t.kslot o.slot).material = [] ∧
        (t.kslot o.slot).staged = none ∧ (∀ e, e ∈ t.ekeys → e.1 % 256 ≠ o.slot) ∧ t.mem = s.mem)))

/-- Tamper (R415 to R418) on a module that has been given RUN and has no key operation: a soft source holds the key store, a hard one
zeroises every slot and the keys of R399 and locks the store out; each writes an entry of the tamper record and a deck record; a source that
clears writes its entry; the hold ends 1 s after the last soft source has cleared; ACK clears SEEN and nothing else. Model: where the spec
does not say it, this follows logs 93, 94. -/
def Obligations.TamperResponses : Prop :=
  ∀ s : State, s.onMain = true →
    (∀ src v q e, src < 6 → s.ksu.running = true → s.ksu.op = none → s.tmp.seq = q → e = 0x3FC00 + q % 32 * 32 →
      (s.tmp.active.testBit src = true → exec (.tamperDetect src v) s = .next s) ∧
      (s.tmp.active.testBit src = false → ∃ t r, exec (.tamperDetect src v) s = .next t ∧
        t.tmp = { active := s.tmp.active ||| 1 <<< src, seen := s.tmp.seen ||| 1 <<< src, seq := (q + 1) % 2 ^ 32 } ∧
        t.cn pTMP (R.TMP_CNT_SRC + 4 * src) =
          min (cntMax pTMP (R.TMP_CNT_SRC + 4 * src)) (s.cn pTMP (R.TMP_CNT_SRC + 4 * src) + 1) ∧
        r ∈ t.evr.cross ∧ r.cls = 11 ∧ r.typ = 1 ∧ t.mramBytes e 4 = bytesLE 4 q ∧
        (∀ a, a < e ∨ e + 32 ≤ a → a < 0x3FB08 ∨ 0x3FB0C ≤ a → sget (0 : Byte) a t.mram = sget (0 : Byte) a s.mram) ∧
        (bit (s.ac pTMP R.TMP_CFG) src = false → t.mramBytes (e + 4) 4 = bytesLE 4 (2 ^ (24 + src) + 2 ^ 14) ∧
          bit (t.hd pTMP).irqStatus 5 = true ∧ t.evr = { s.evr with cross := s.evr.cross ++ [r] } ∧
          t.ksu = { s.ksu with hold := true, holdSrc := s.ksu.holdSrc ||| 1 <<< src } ∧
          ({ s with tmp := t.tmp, ksu := t.ksu, evr := t.evr, mram := t.mram } : State).Quiet [pTMP] t) ∧
        (bit (s.ac pTMP R.TMP_CFG) src = true → t.mramBytes (e + 4) 4 = bytesLE 4 (2 ^ (24 + src) + 2 ^ 14 + 2 ^ 8 + 6) ∧
          bit (t.hd pTMP).irqStatus 4 = true ∧ t.evr = { s.evr with cross := t.evr.cross } ∧
          t.ksu = { s.ksu with root := false, kas := none, lockedOut := true } ∧ t.ekeys = [] ∧
          (∀ i, i < 256 → (t.kslot i).state = 3 ∧ (t.kslot i).material = [] ∧ (t.kslot i).staged = none) ∧
          ({ s with tmp := t.tmp, ksu := t.ksu, kslots := t.kslots, ekeys := [], evr := t.evr, mram := t.mram } : State).Quiet
            [pTMP, pKSU] t)) ∧
      (s.tmp.active.testBit src = true → ∃ t r, exec (.tamperClear src v) s = .next t ∧
        t.tmp = { s.tmp with active := s.tmp.active ^^^ 1 <<< src, seq := (q + 1) % 2 ^ 32 } ∧ bit (t.hd pTMP).irqStatus 6 = true ∧
        t.evr = { s.evr with cross := s.evr.cross ++ [r] } ∧ r.cls = 11 ∧ r.typ = 4 ∧ t.mramBytes e 4 = bytesLE 4 q ∧
        (s.ksu.holdSrc.testBit src = true → t.ksu = { s.ksu with holdSrc := s.ksu.holdSrc ^^^ 1 <<< src, holdClk := s.tsu.clk }) ∧
        (s.ksu.holdSrc.testBit src = false → t.ksu = s.ksu) ∧
        (∀ a, a < e ∨ e + 32 ≤ a → a < 0x3FB08 ∨ 0x3FB0C ≤ a → sget (0 : Byte) a t.mram = sget (0 : Byte) a s.mram) ∧
        ({ s with tmp := t.tmp, ksu := t.ksu, evr := t.evr, mram := t.mram } : State).Quiet [pTMP] t) ∧
      (s.tmp.active.testBit src = false → exec (.tamperClear src v) s = .next s)) ∧
    (s.ksu.hold = true → s.ksu.holdSrc = 0 → 250000000 ≤ s.since s.ksu.holdClk →
      exec .tamperHoldEnd s = .next { s with ksu := { s.ksu with hold := false } }) ∧
    (s.ksu.holdSrc ≠ 0 ∨ s.since s.ksu.holdClk < 250000000 → exec .tamperHoldEnd s = .next s) ∧
    (∃ t, exec .ack s = .next t ∧ t = { s with tmp := { s.tmp with seen := 0 }, hdrs := t.hdrs } ∧ (∀ q, q ≠ pTMP → t.hd q = s.hd q) ∧
      t.hd pTMP = { s.hd pTMP with lockSeen := false })

/-! ### Supplies, start-up and resets (chapter 18) -/

/-- Warning and flush (R425, R427 to R431, R433): a warning is counted, starts the flush and the FINAL saves of every usable tally engine;
one in a running flush is the same warning; a cleared one lets the tally engines go on with the next tick; the end of the flush sheds a
module still in warning, lets a held reset be prepared, or lets the module go on; the store's readiness gives its capacitance and the
warning of a low one; VAUX low is shown. Model: where the spec does not say it, this follows logs 100, 101. -/
def Obligations.WarningAndFlush : Prop :=
  ∀ s : State, s.onMain = true →
    (∀ ext, s.pwr.pfw = true ∨ (ext = true ∧ bit (s.ac pPWR R.PWR_CFG) 0 = false) → exec (.powerFailWarning ext) s = .next s) ∧
    (∀ ext, s.pwr.pfw = false → (ext = true → bit (s.ac pPWR R.PWR_CFG) 0 = true) →
      (s.pwr.pfMode = true →
        exec (.powerFailWarning ext) s = .next { s with pwr := { s.pwr with pfw := true, vmainOk := s.pwr.vmainOk && ext } }) ∧
      (s.pwr.pfMode = false → s.rst.prep = none → ∃ t, exec (.powerFailWarning ext) s = .next t ∧
        t.pwr = { s.pwr with
          pfw := true, pfMode := true, vmainOk := s.pwr.vmainOk && ext, extPfw := ext, flushClk := s.tsu.clk, rtcCopy := s.rtcNow,
          finalDone := t.pwr.finalDone } ∧
        t.cn pPWR R.PWR_CNT_PFW = min (cntMax pPWR R.PWR_CNT_PFW) (s.cn pPWR R.PWR_CNT_PFW + 1) ∧ bit (t.hd pPWR).irqStatus 4 = true ∧
        (∀ e, e < 8 → s.unusable (pTAL e) = false → ∃ v, (t.te e).saves.getLast? = some v ∧ v.final = true) ∧
        (∀ q, q ≠ pPWR → t.hd q = s.hd q) ∧
        t = { s with
          pwr := t.pwr, evr := t.evr, acq := t.acq, tals := t.tals, mram := t.mram, hdrs := t.hdrs, cnts := t.cnts, vecs := t.vecs,
          out := t.out, shf := t.shf })) ∧
    (s.pwr.pfw = false → exec .pfwCleared s = .next s) ∧
    (s.pwr.pfw = true → ∃ t, exec .pfwCleared s = .next t ∧ t.pwr = { s.pwr with pfw := false, vmainOk := true } ∧
      t.cn pPWR R.PWR_CNT_PF_CLEARED = min (cntMax pPWR R.PWR_CNT_PF_CLEARED) (s.cn pPWR R.PWR_CNT_PF_CLEARED + 1) ∧
      bit (t.hd pPWR).irqStatus 5 = true ∧ (∀ e, e < 8 → t.te e = { s.te e with fromTick := s.tick + 1 }) ∧
      ({ s with pwr := t.pwr, tals := t.tals } : State).Quiet [pPWR] t) ∧
    (s.pwr.pfMode = false ∨ s.flushOver = false → exec .flushEnd s = .next s) ∧
    (∀ us, us = min 0xFFFF (s.since s.pwr.flushClk / 250) → s.pwr.pfMode = true → s.flushOver = true →
      (s.pwr.pfw = true → ∃ t, exec .flushEnd s = .next t ∧
        t.pwr = { s.pwr with pfTime := us, phase := .held, pfMode := false, heldReset := none } ∧
        t.rst = { s.rst with prep := none, holdBy := none } ∧ (∀ e, e ∈ t.dfos → e.2.closed = false ∧ e.2.pulse = false) ∧
        t.cn pPWR R.PWR_CNT_SHED = min (cntMax pPWR R.PWR_CNT_SHED) (s.cn pPWR R.PWR_CNT_SHED + 1) ∧
        ({ s with pwr := t.pwr, rst := t.rst, dfos := t.dfos } : State).Quiet [pPWR] t) ∧
      (∀ h, s.pwr.pfw = false → s.rst.prep = none → s.pwr.heldReset = some h → exec .flushEnd s = .next { s with
        pwr := { s.pwr with pfTime := us, pfMode := false, heldReset := none }
        evr := { s.evr with pf3 := false, pf4 := false }
        rst := { s.rst with prep := some h } }) ∧
      (s.pwr.pfw = false → s.rst.prep = none → s.pwr.heldReset = none → s.dup.state ≠ 2 → exec .flushEnd s = .next { s with
        pwr := { s.pwr with pfTime := us, pfMode := false, finalDone := false }
        evr := { s.evr with pf3 := false, pf4 := false } }) ∧
      (s.pwr.pfw = false → s.rst.prep = none → s.pwr.heldReset = none → s.dup.state = 2 → exec .flushEnd s = .next { s with
        pwr := { s.pwr with pfTime := us, pfMode := false }
        evr := { s.evr with pf3 := false, pf4 := false }
        rst := { s.rst with prep := some (7, s.tsu.clk) } })) ∧
    (∀ us, s.pwr.holdupReady = true → exec (.holdupReady us) s = .next s) ∧
    (∀ us, s.pwr.holdupReady = false → ∃ t, exec (.holdupReady us) s = .next t ∧
      t.pwr = { s.pwr with holdupReady := true, cap := min 0xFFFF (us / 150), holdupLow := decide (us < 135000) } ∧
      (us < 135000 → bit (t.hd pPWR).irqStatus 6 = true) ∧ (135000 ≤ us → t.hd pPWR = s.hd pPWR) ∧
      t.fit 9 = (s.fit 9).add s.optime (min 0xFFFF (us / 150) : Nat) 900 (tagOf s.tick) ∧
      t = { s with
        pwr := t.pwr, hlt := t.hlt, regs := t.regs, hdrs := t.hdrs, cnts := t.cnts, vecs := t.vecs, out := t.out, shf := t.shf }) ∧
    (s.pwr.vauxOk = false → exec .vauxLow s = .next s) ∧
    (s.pwr.vauxOk = true → ∃ t, exec .vauxLow s = .next t ∧ t.pwr = { s.pwr with vauxOk := false } ∧
      bit (t.hd pPWR).irqStatus 7 = true ∧ ({ s with pwr := t.pwr } : State).Quiet [pPWR] t)

/-- Loss of supply (R431, R432, R434, R479): where the supply goes, with the store empty, abruptly or by a shutdown for temperature, every
switch of the safety and pulse outputs opens, and the module sleeps on VAUX or is off without it; MRAM keeps what it holds, but for the
update counter of a message the KSU was about to accept; the keep-alive island that loses VAUX loses KAS and the role override; with VAUX
back it sleeps, its clock going on from the copy. Model: where the spec does not say it, this follows log 101. -/
def Obligations.SupplyLoss : Prop :=
  ∀ s : State,
    (∀ c, (c = .storeEmpty ∧ (s.pwr.phase = .held ∨ (s.pwr.phase = .run ∧ s.pwr.pfMode = true))) ∨
        ((∃ torn, c = .abruptLoss torn) ∧ (s.pwr.phase = .run ∨ s.pwr.phase = .reset) ∧ s.pwr.finalDone = false) ∨
        (c = .overtempShutdown ∧ s.onTime = true) →
      ∃ t, exec c s = .next t ∧ t.pwr.phase = (if s.pwr.vauxOk then .sleep else .off) ∧ t.pwr.vmainOk = false ∧ t.pwr.pfMode = false ∧
        t.pwr.lossRtc = (if s.pwr.vauxOk then s.rtcNow else 0) ∧ t.rst = { s.rst with prep := none, holdBy := none } ∧
        (∀ o, o ∈ t.hws.a.outs → o.on = false) ∧ (∀ o, o ∈ t.hws.b.outs → o.on = false) ∧ (∀ e, e ∈ t.dfos → e.2.closed = false) ∧
        t.evr.optBase = s.optime ∧ (c ≠ .abruptLoss true → t.evr = { s.evr with optBase := s.optime } ∧
          (∀ a, a < 0x3FB00 ∨ 0x3FB08 ≤ a → sget (0 : Byte) a t.mram = sget (0 : Byte) a s.mram) ∧
          ((∀ o, s.ksu.op = some o → o.op ≠ 7) → t.mram = s.mram)) ∧
        t = { s with
          pwr := t.pwr, rst := t.rst, hws := t.hws, dfos := t.dfos, evr := t.evr, mram := t.mram, cnts := t.cnts, ksu := t.ksu,
          shf := t.shf, hlt := t.hlt, free := t.free }) ∧
    (s.pwr.phase = .sleep ∨ s.pwr.phase = .off ∨ s.pwr.phase = .reset ∨ (s.pwr.phase = .run ∧ s.pwr.pfMode = false) →
      exec .storeEmpty s = .next s) ∧
    (∀ torn, s.pwr.phase = .sleep ∨ s.pwr.phase = .off ∨ s.pwr.phase = .held ∨ s.pwr.finalDone = true →
      exec (.abruptLoss torn) s = .next s) ∧
    (s.pwr.phase = .sleep → ∃ t, exec .keepAliveOff s = .next t ∧
      t.pwr = { s.pwr with phase := .off, vauxOk := false, kaOff := true, lossRtc := 0 } ∧ t.ksu = { s.ksu with kas := none } ∧
      t.shf = { s.shf with ovr := 0 } ∧ (∀ off, off < 4096 → t.cn pPWR off = 0) ∧
      t = { s with pwr := t.pwr, ksu := t.ksu, shf := t.shf, hlt := t.hlt, cnts := t.cnts }) ∧
    (s.pwr.phase ≠ .sleep → exec .keepAliveOff s = .next s) ∧
    (s.pwr.phase = .off → exec .vauxReturn s = .next { s with
      pwr := { s.pwr with vauxOk := true, phase := .sleep, rtc := s.pwr.rtcCopy, rtcClk := s.tsu.clk } }) ∧
    (s.pwr.phase ≠ .off → exec .vauxReturn s = .next { s with pwr := { s.pwr with vauxOk := true } })

/-- Starts (R382, R401, R431, R436, R438, R439): a power-on reset, from lost supply, from the hold after a shed or for RST_CMD.COLD once
prepared, leaves empty memory, unlocked time, every page locked and stopped, the power cycle counted and the cause shown; a warm reset, once
prepared, keeps memory with its damage and the safety island, and shows its cause. Unprepared or in another phase neither happens. Model:
where the spec does not say it, this follows logs 31, 101, 103. -/
def Obligations.Starts : Prop :=
  ∀ s : State,
    (∀ c cause b, (c = .powerOnReset b ∧ cause = 0 ∧ (s.pwr.phase = .sleep ∨ s.pwr.phase = .off)) ∨
        (c = .shedRecover b ∧ cause = 1 ∧ s.pwr.phase = .held) ∨
        (c = .powerOnReset b ∧ cause = 2 ∧ s.pwr.phase = .run ∧ s.pwr.pfMode = false ∧ (∃ k, s.rst.prep = some (2, k)) ∧ s.prepDone = true) →
      ∃ t, exec c s = .next t ∧ t.pwr.phase = .run ∧ t.rst.cause = cause ∧ t.mem = [] ∧ t.tsu.sync = .unlocked ∧
        t.evr.pwrCycles = (s.evr.pwrCycles + 1) % 2 ^ 32 ∧ t.pwr.vauxOk = b.vaux ∧
        (∀ p, (t.hd p).unlocked = false ∧ (t.hd p).enable = false ∧ (t.hd p).started = false) ∧
        t.shf.mgr = (if s.shf.ovr = 0 then b.mgr else s.shf.ovr == 1) ∧
        (cause = 2 → t.cn pRST R.RST_CNT_COLD = 1) ∧
        (b.pufErr ≤ 150 → b.pufOk = true → s.tmp.active = 0 → t.ksu.rootOk = true ∧ t.ksu.root = true ∧ t.ksu.running = false)) ∧
    (∀ b, s.pwr.phase = .run ∨ s.pwr.phase = .reset → (∀ k, s.rst.prep ≠ some (2, k)) → exec (.powerOnReset b) s = .next s) ∧
    (∀ b, s.pwr.phase ≠ .held → exec (.shedRecover b) s = .next s) ∧
    (∀ c k, s.pwr.phase = .run → s.pwr.pfMode = false → s.rst.prep = some (c, k) → c ≠ 2 → s.prepDone = true → s.rst.holdBy = none →
      ∃ t, exec .warmReset s = .next t ∧ t.pwr.phase = .run ∧ t.rst = { s.rst with cause := c, prep := none } ∧ t.mem = s.mem ∧
        t.flips = s.flips ∧ t.poison = s.poison ∧ t.hws = s.hws ∧ t.img = s.img ∧ t.ksu.running = false ∧ t.ksu.mrLock = 0 ∧
        t.cn pRST R.RST_CNT_WARM = min (cntMax pRST R.RST_CNT_WARM) (s.cn pRST R.RST_CNT_WARM + 1) ∧
        (∀ p, p ≠ 0x1A0 → p ≠ 0x1A1 → (t.hd p).unlocked = false ∧ (t.hd p).enable = false) ∧
        ((s.hdrs.map Prod.fst).Nodup → ∀ p, (t.hd p).fenced = (s.hd p).fenced)) ∧
    (s.warmDue = none → exec .warmReset s = .next s)

/-- Requests for a reset (R433, R438, R440): WARM and COLD on a locked page are refused with LOCKED; a request with nothing in preparation
begins one, with the FINAL saves of every usable tally engine, a request in a flush is held to its end, and a reset in preparation stands;
the watchdog that was not kicked in time asks for one; only 0xC35A kicks it; PERST_N loses the manager's reads in flight. Model: where the
spec does not say it, this follows logs 99, 102, 105, 126. -/
def Obligations.ResetRequests : Prop :=
  ∀ s : State, s.onMain = true →
    (∀ c, c = .warm ∨ c = .cold → (s.hd pRST).unlocked = false → ∃ t, exec c s = .next t ∧
      (t.hd pRST).errCode = w32 (R.RST_CMD * 256 + Err.locked) ∧ s.Quiet [pRST] t) ∧
    (∀ c cause, (c = .warm ∧ cause = 5 ∧ (s.hd pRST).unlocked = true) ∨ (c = .cold ∧ cause = 2 ∧ (s.hd pRST).unlocked = true) ∨
        (c = .wdogExpiry ∧ cause = 6 ∧ s.wdogMs ≠ 0 ∧ s.wdogMs * 250000 ≤ s.since s.rst.kickClk ∧ s.pwr.heldReset = none ∧
          s.rst.prep = none) →
      (cause = 6 → ∃ t, exec c s = .next t ∧
        t.cn pRST R.RST_CNT_WDOG = min (cntMax pRST R.RST_CNT_WDOG) (s.cn pRST R.RST_CNT_WDOG + 1)) ∧
      (s.pwr.pfMode = false → s.rst.prep = none → ∃ t, exec c s = .next t ∧ t.rst = { s.rst with prep := some (cause, s.tsu.clk) } ∧
        t.pwr = { s.pwr with finalDone := t.pwr.finalDone } ∧
        (∀ e, e < 8 → s.unusable (pTAL e) = false → ∃ v, (t.te e).saves.getLast? = some v ∧ v.final = true) ∧
        ({ s with rst := t.rst, pwr := t.pwr, tals := t.tals, mram := t.mram, evr := t.evr } : State).Quiet [pRST] t) ∧
      (s.pwr.pfMode = true → s.pwr.heldReset = none → ∃ t, exec c s = .next t ∧
        t.pwr = { s.pwr with heldReset := some (cause, s.tsu.clk) } ∧ ({ s with pwr := t.pwr } : State).Quiet [pRST] t) ∧
      (s.pwr.pfMode = false → s.rst.prep ≠ none → ∃ t, exec c s = .next t ∧ s.Quiet [pRST] t)) ∧
    (s.wdogMs = 0 ∨ s.since s.rst.kickClk < s.wdogMs * 250000 ∨ s.rst.prep ≠ none ∨ s.pwr.heldReset ≠ none →
      exec .wdogExpiry s = .next s) ∧
    (∃ t, exec (.rstWdogKick 0xC35A) s = .next t ∧ t = { s with rst := { s.rst with kickClk := s.tsu.clk }, hdrs := t.hdrs }) ∧
    (∀ v : Word, v ≠ 0xC35A → ∃ t, exec (.rstWdogKick v) s = .next t ∧
      t.cn pRST R.RST_CNT_BAD_KICK = min (cntMax pRST R.RST_CNT_BAD_KICK) (s.cn pRST R.RST_CNT_BAD_KICK + 1) ∧ s.Quiet [pRST] t) ∧
    (s.shf.mgr = true → exec .perstN s = .next { s with shf := { s.shf with reads := [], msix := [] } }) ∧
    (s.shf.mgr = false → exec .perstN s = .next s)

/-- The reset button (`false`) and RST_IN_N (`true`) (R441): a press asks for a reset with its cause, BUTTON 3 or RST_IN 4; one of a closed
or STUCK contact does not; opening releases the reset it holds; 2 s after the press the reset is released, and a contact still closed is
STUCK until it has been open for 100 ms. Model: where the spec does not say it, this follows log 100. -/
def Obligations.ResetContacts : Prop :=
  ∀ (s : State) (x : Bool),
    (s.pwr.phase = .run → (s.contact x).closed = false → (s.contact x).stuck = false → s.rst.holdBy = none → s.rst.prep = none →
      s.pwr.pfMode = false → ∃ t, exec (.buttonPress x) s = .next t ∧ t.contact x = { s.contact x with closed := true } ∧
        t.contact (!x) = s.contact (!x) ∧ t.rst.holdBy = some (x, s.tsu.clk) ∧ t.rst.prep = some (if x then 4 else 3, s.tsu.clk) ∧
        t.rst.cause = s.rst.cause ∧ t.rst.kickClk = s.rst.kickClk ∧ t.pwr = { s.pwr with finalDone := t.pwr.finalDone } ∧
        t = { s with rst := t.rst, pwr := t.pwr, tals := t.tals, mram := t.mram, evr := t.evr }) ∧
    ((s.contact x).closed = true ∨ (s.contact x).stuck = true ∨ s.pwr.phase ≠ .run → ∃ t, exec (.buttonPress x) s = .next t ∧
      t.contact x = { s.contact x with closed := true } ∧ t.contact (!x) = s.contact (!x) ∧ t.rst.prep = s.rst.prep ∧
      t.rst.holdBy = s.rst.holdBy ∧ t = { s with rst := t.rst }) ∧
    (∀ c, s.rst.holdBy = some (x, c) → ∃ t, exec (.buttonRelease x) s = .next t ∧
      t.contact x = { s.contact x with closed := false, openClk := s.tsu.clk } ∧ t.contact (!x) = s.contact (!x) ∧ t.rst.holdBy = none ∧
      t.pwr = { s.pwr with phase := if s.pwr.phase = .reset then .run else s.pwr.phase } ∧ t = { s with rst := t.rst, pwr := t.pwr }) ∧
    ((∀ c, s.rst.holdBy ≠ some (x, c)) → ∃ t, exec (.buttonRelease x) s = .next t ∧
      t.contact x = { s.contact x with closed := false, openClk := s.tsu.clk } ∧ t.contact (!x) = s.contact (!x) ∧
      t.rst.holdBy = s.rst.holdBy ∧ t = { s with rst := t.rst }) ∧
    (∀ c, s.rst.holdBy = some (x, c) →
      (s.since c < 500000000 ∨ (s.pwr.phase ≠ .run ∧ s.pwr.phase ≠ .reset) → exec .resetHoldRelease s = .next s) ∧
      (500000000 ≤ s.since c → s.pwr.phase = .run ∨ s.pwr.phase = .reset → ∃ t, exec .resetHoldRelease s = .next t ∧
        t.pwr = { s.pwr with phase := .run } ∧ t.rst.holdBy = none ∧ t.rst.prep = s.rst.prep ∧ t.contact (!x) = s.contact (!x) ∧
        ((s.contact x).closed = false → t.contact x = s.contact x ∧ t = { s with rst := t.rst, pwr := t.pwr }) ∧
        ((s.contact x).closed = true → t.contact x = { s.contact x with stuck := true } ∧ bit (t.hd pRST).irqStatus 4 = true ∧
          t.cn pRST R.RST_CNT_STUCK = min (cntMax pRST R.RST_CNT_STUCK) (s.cn pRST R.RST_CNT_STUCK + 1) ∧
          ({ s with rst := t.rst, pwr := t.pwr } : State).Quiet [pRST] t))) ∧
    (s.rst.holdBy = none → exec .resetHoldRelease s = .next s) ∧
    (s.onMain = true →
      ((s.contact x).stuck = true → (s.contact x).closed = false → 25000000 ≤ s.since (s.contact x).openClk →
        ∃ t, exec (.stuckClear x) s = .next t ∧ t.contact x = { s.contact x with stuck := false } ∧
          t.contact (!x) = s.contact (!x) ∧ t.rst.prep = s.rst.prep ∧ t = { s with rst := t.rst }) ∧
      ((s.contact x).stuck = false ∨ (s.contact x).closed = true ∨ s.since (s.contact x).openClk < 25000000 →
        exec (.stuckClear x) s = .next s))

/-! ### Shelves and module health (chapter 19), fencing and failure (chapter 1) -/

/-- Announcements (R447 to R449): one is sent 100 ms after the last or when what it carries changes; a manager enters every ANNOUNCE in its
slot table, a slot named by two devices within 300 ms conflicts until one has been silent for 1 s, a PRESENT slot that falls silent is LOST
with its queued writes discarded and its reads answered with ones; a standby takes over from a silent manager, and a worker notes that none
is left. SHF_CMD (R448): FORGET, on an unlocked page, makes a LOST slot ABSENT and no other; ACK_RESET clears RESET_SEEN. Model: where the
spec does not say it, this follows logs 108, 113. -/
def Obligations.ShelfMembers : Prop :=
  (∀ s : State, s.onMain = true →
    (∀ c, s.shf.annClk = some c → s.since c < 25000000 → s.annNow = s.shf.annSig → exec .announceSend s = .next s) ∧
    (s.shf.annClk = none ∨ (∃ c, s.shf.annClk = some c ∧ (25000000 ≤ s.since c ∨ s.annNow ≠ s.shf.annSig)) →
      ∃ t, exec .announceSend s = .next t ∧ t.shf.annClk = some s.tsu.clk ∧ t.shf.annSig = s.annNow ∧
        (s.WinRoom 64 (.announce s.announce) → s.WinSent t 64 (.announce s.announce)) ∧
        (s.shf.mgr = false → t.shf.slots = s.shf.slots) ∧
        (s.shf.mgr = true → (t.slot s.ownSlot).ann = some s.announce ∧ (t.slot s.ownSlot).clk = s.tsu.clk ∧
          (∀ n, n ≠ s.ownSlot → t.slot n = s.slot n)) ∧
        t = { s with
          shf := t.shf, egs := t.egs, swc := t.swc, flips := t.flips, poison := t.poison, hdrs := t.hdrs, cnts := t.cnts, vecs := t.vecs
          out := t.out }) ∧
    (s.shf.rx = [] → exec .announceRx s = .next s) ∧
    (∀ m rest a n, s.shf.rx = m :: rest → m.kind = .announce a → n = m.src % 64 → ∃ t, exec .announceRx s = .next t ∧ t.shf.rx = rest ∧
      (n = s.ownSlot → a.deviceId ≠ deviceId → t.shf.conflict = some s.tsu.clk ∧
        (s.slotClash = false → bit (t.hd pSHF).irqStatus 7 = true)) ∧
      (n ≠ s.ownSlot → t.shf.conflict = s.shf.conflict) ∧
      (a.mgr = true → (n, s.tsu.clk) ∈ t.shf.mgrs ∧ t.shf.mgrClk = s.tsu.clk ∧ t.shf.mgrLost = false ∧
        t.shf.standby = (s.shf.standby || (s.shf.mgr && decide (n < s.ownSlot)))) ∧
      (a.mgr = false → t.shf.mgrs = s.shf.mgrs ∧ t.shf.standby = s.shf.standby ∧ t.shf.mgrLost = s.shf.mgrLost) ∧
      (s.shf.mgr = false → t.shf.slots = s.shf.slots) ∧
      (s.shf.mgr = true → (t.slot n).ann = some a ∧ (t.slot n).stamp = s.short ∧ (t.slot n).clk = s.tsu.clk ∧
        (∀ k, k ≠ n → t.slot k = s.slot k) ∧
        ((s.slot n).state ≠ 4 → (s.slot n).ids = [] → (t.slot n).state = annState a) ∧
        (∀ e, e ∈ (s.slot n).ids → e.1 ≠ a.deviceId → s.since e.2 ≤ 75000000 → (t.slot n).state = 4) ∧
        ((t.slot n).state ≠ (s.slot n).state → bit (t.hd pSHF).irqStatus 4 = true) ∧
        (∀ b, (s.slot n).state = 3 → (s.slot n).ann = some b → b.cycles ≠ a.cycles ∨ b.cause ≠ a.cause → (t.slot n).resetSeen = true)) ∧
      ({ s with shf := t.shf } : State).Quiet [pSHF] t) ∧
    (∀ n x, n < 64 → x = s.slot n →
      (s.shf.mgr = false ∨ x.state ≠ 1 ∨ s.since x.clk < s.lossClk → exec (.slotLost n) s = .next s) ∧
      (s.shf.mgr = true → x.state = 1 → s.lossClk ≤ s.since x.clk → ∃ t, exec (.slotLost n) s = .next t ∧
        t.slot n = { x with state := 3, lost := min 0xFFFFFFFF (x.lost + 1) } ∧ (∀ k, k ≠ n → t.slot k = s.slot k) ∧
        t.wq n = { seq := (s.wq n).seq } ∧ (∀ k, k ≠ n → t.wq k = s.wq k) ∧ (∀ r, r ∈ t.shf.reads → r.slot ≠ n) ∧
        (∀ r, r ∈ s.shf.reads → r.slot = n → .hostRead r.tag (r.data.map (fun w => w.getD 0xFFFFFFFF)) ∈ t.out) ∧
        t.cn pSHF R.SHF_CNT_SLOT_LOST = min (cntMax pSHF R.SHF_CNT_SLOT_LOST) (s.cn pSHF R.SHF_CNT_SLOT_LOST + 1) ∧
        bit (t.hd pSHF).irqStatus 4 = true ∧ ({ s with shf := t.shf } : State).Quiet [pSHF] t) ∧
      (x.state ≠ 4 ∨ 1 < (x.ids.filter (fun e => s.since e.2 < msClk 1000)).length → exec (.slotConflictEnd n) s = .next s) ∧
      (∀ a, x.state = 4 → (x.ids.filter (fun e => s.since e.2 < msClk 1000)).length ≤ 1 → x.ann = some a →
        ∃ t, exec (.slotConflictEnd n) s = .next t ∧ (t.slot n).state = annState a ∧ (∀ k, k ≠ n → t.slot k = s.slot k) ∧
          bit (t.hd pSHF).irqStatus 4 = true ∧ ({ s with shf := t.shf } : State).Quiet [pSHF] t)) ∧
    (s.shf.mgr = false ∨ s.shf.standby = false ∨ (∃ n, n ∈ s.mgrsAlive ∧ n < s.ownSlot) → exec .mgrTakeover s = .next s) ∧
    (s.shf.mgr = true → s.shf.standby = true → (∀ n, n ∈ s.mgrsAlive → s.ownSlot ≤ n) → ∃ t, exec .mgrTakeover s = .next t ∧
      t.shf.standby = false ∧ bit (t.hd pSHF).irqStatus 6 = true ∧
      ({ s with shf := { s.shf with standby := false } } : State).Quiet [pSHF] t) ∧
    (s.shf.mgr = true ∨ s.shf.mgrLost = true ∨ s.since s.shf.mgrClk < s.lossClk → exec .mgrLost s = .next s) ∧
    (s.shf.mgr = false → s.shf.mgrLost = false → s.lossClk ≤ s.since s.shf.mgrClk → ∃ t, exec .mgrLost s = .next t ∧
      t.shf.mgrLost = true ∧ bit (t.hd pSHF).irqStatus 8 = true ∧
      ({ s with shf := { s.shf with mgrLost := true } } : State).Quiet [pSHF] t)) ∧
  (∀ (n : Nat) (s : State), s.onMain = true → n < 64 →
    ((s.hd pSHF).unlocked = false → ∃ t, exec (.forget n) s = .next t ∧
      (t.hd pSHF).errCode = w32 (R.SHF_CMD * 256 + Err.locked) ∧ s.Quiet [pSHF] t) ∧
    ((s.hd pSHF).unlocked = true →
      ((s.slot n).state = 3 → ∃ t, exec (.forget n) s = .next t ∧ t.slot n = { s.slot n with state := 0, ids := [], ann := none } ∧
        (∀ k, k ≠ n → t.slot k = s.slot k) ∧ bit (t.hd pSHF).irqStatus 4 = true ∧
        ({ s with shf := t.shf } : State).Quiet [pSHF] t) ∧
      ((s.slot n).state ≠ 3 → ∃ t, exec (.forget n) s = .next t ∧ t = { s with hdrs := t.hdrs } ∧ s.Quiet [pSHF] t)) ∧
    (∃ t, exec (.ackReset n) s = .next t ∧ t.slot n = { s.slot n with resetSeen := false } ∧ (∀ k, k ≠ n → t.slot k = s.slot k) ∧
      t = { s with shf := { s.shf with slots := t.shf.slots }, hdrs := t.hdrs }))

/-- HOST_WINDOW_ACCESS (R450, R451, R453, R455): on a manager a write or read of a doubleword of its own slot is the register access of
master 64; one of a slot not PRESENT is discarded and counted, a read answered with ones; one of a PRESENT slot waits for a frame; a masked
MSI-X entry that pends sends its message when its mask is cleared. On a worker the window does nothing. Model: where the spec does not say
it, this follows logs 107, 108, 109. -/
def Obligations.HostWindow : Prop :=
  ∀ (tag n a : Nat) (s : State), s.onMain = true → n < 64 → a < 2 ^ 24 → a % 4 = 0 →
    (∀ bar addr wr dws, s.shf.mgr = false → exec (.hostWindowAccess bar tag addr wr dws) s = .next s) ∧
    (s.shf.mgr = true → n = s.ownSlot →
      (∀ d, exec (.hostWindowAccess 0 tag (n * 2 ^ 24 + a) true [{ full := true, data := d }]) s =
        .next { (s.bumpBy pSHF R.SHF_CNT_WIN_WR 1).regWrite 64 a (w32 d) with pending := s.pending }) ∧
      (∀ u d, u = (s.bumpBy pSHF R.SHF_CNT_WIN_RD 1).regRead 64 a →
        exec (.hostWindowAccess 0 tag (n * 2 ^ 24 + a) false [{ full := true, data := d }]) s =
          .next { u with out := .hostRead tag [u.rdata] :: u.out, pending := s.pending })) ∧
    (∀ dws : List HostDw, s.shf.mgr = true → n ≠ s.ownSlot → dws ≠ [] →
      (s.serves = false ∨ (s.slot n).state ≠ 1 →
        (∃ t, exec (.hostWindowAccess 0 tag (n * 2 ^ 24 + a) true dws) s = .next t ∧
          t.cn pSHF R.SHF_CNT_WIN_WR = min (cntMax pSHF R.SHF_CNT_WIN_WR) (s.cn pSHF R.SHF_CNT_WIN_WR + dws.length) ∧
          t.cn pSHF R.SHF_CNT_WIN_DISCARD = min (cntMax pSHF R.SHF_CNT_WIN_DISCARD) (s.cn pSHF R.SHF_CNT_WIN_DISCARD + dws.length) ∧
          s.Quiet [pSHF] t) ∧
        (∃ t, exec (.hostWindowAccess 0 tag (n * 2 ^ 24 + a) false dws) s = .next t ∧
          t.cn pSHF R.SHF_CNT_RD_TIMEOUT = min (cntMax pSHF R.SHF_CNT_RD_TIMEOUT) (s.cn pSHF R.SHF_CNT_RD_TIMEOUT + 1) ∧
          .hostRead tag (dws.map (fun _ => 0xFFFFFFFF)) ∈ t.out ∧ bit (t.hd pSHF).irqStatus 5 = true ∧ s.Quiet [pSHF] t)) ∧
      (s.serves = true → (s.slot n).state = 1 →
        (((s.wq n).queue.filter (fun o => !opReads o.1)).length + dws.length ≤ 512 →
          ∃ t, exec (.hostWindowAccess 0 tag (n * 2 ^ 24 + a) true dws) s = .next t ∧
            (t.wq n).queue = (s.wq n).queue ++ winTagged tag (winOps a true dws) ∧ (t.wq n).fly = (s.wq n).fly ∧
            (∀ k, k ≠ n → t.wq k = s.wq k) ∧ t.shf.reads = s.shf.reads ∧ ({ s with shf := t.shf } : State).Quiet [pSHF] t) ∧
        (512 < ((s.wq n).queue.filter (fun o => !opReads o.1)).length + dws.length →
          exec (.hostWindowAccess 0 tag (n * 2 ^ 24 + a) true dws) s = .next s) ∧
        ((∀ r, r ∈ s.shf.reads → r.tag ≠ tag) → ∃ t, exec (.hostWindowAccess 0 tag (n * 2 ^ 24 + a) false dws) s = .next t ∧
          (t.wq n).queue = (s.wq n).queue ++ winTagged tag (winOps a false dws) ∧ (∀ k, k ≠ n → t.wq k = s.wq k) ∧
          t.shf.reads = s.shf.reads ++ [{ tag := tag, slot := n, data := dws.map (fun _ => none) }] ∧
          ({ s with shf := t.shf } : State).Quiet [pSHF] t))) ∧
    (∀ k x, s.shf.mgr = true → k < 2048 → x = sget {} k s.shf.msix → x.pend = true →
      ∃ t, exec (.hostWindowAccess 2 tag (16 * k + 12) true [{ full := true, data := 0 }]) s = .next t ∧
        sget {} k t.shf.msix = { x with mask := false, pend := false } ∧ (∀ j, j ≠ k → sget {} j t.shf.msix = sget {} j s.shf.msix) ∧
        t = { s with shf := { s.shf with msix := t.shf.msix }, out := .msix k x.addr x.data :: s.out })

/-- Window frames (R452 to R455): up to 128 waiting entries, none past the first read, leave in one numbered frame once 128 wait, a read
waits or 0.5 µs have passed; a frame received in sequence is performed once and answered, a repeat is counted and answered again, one out of
sequence is dropped; a response ends its frame and brings its reads their data; a frame unanswered for 20 µs is sent again up to RETRY
times, then the slot is LOST; reads that come too late read as ones; a worker's interrupt becomes MSI-X entry slot × 32 + index. Model:
where the spec does not say it, this follows logs 107, 108. -/
def Obligations.WindowFrames : Prop :=
  ∀ (n : Nat) (q : WinQ) (s : State), s.onMain = true → n < 64 → q = s.wq n →
    (s.shf.mgr = true →
      (q.queue = [] ∨ (q.queue.length < 128 ∧ (∀ o, o ∈ q.queue → opReads o.1 = false) ∧ s.since q.firstClk < 125) →
        exec (.windowFrameSend n) s = .next s) ∧
      (q.queue ≠ [] → 128 ≤ q.queue.length ∨ (∃ o, o ∈ q.queue ∧ opReads o.1 = true) ∨ 125 ≤ s.since q.firstClk →
        ∃ t f, exec (.windowFrameSend n) s = .next t ∧ f.seq = q.seq ∧ f.ops = q.queue.take q.pack ∧ f.tries = 1 ∧ f.firstClk = s.tsu.clk ∧
          f.lastClk = s.tsu.clk ∧ (t.wq n).queue = q.queue.drop q.pack ∧ (t.wq n).firstClk = s.tsu.clk ∧ (t.wq n).fly = q.fly ++ [f] ∧
          (t.wq n).seq = (q.seq + 1) % 65536 ∧ (∀ k, k ≠ n → t.wq k = s.wq k) ∧
          (s.WinRoom n (.req q.seq ((q.queue.take q.pack).map Prod.fst)) →
            s.WinSent t n (.req q.seq ((q.queue.take q.pack).map Prod.fst))))) ∧
    (s.shf.mgr = false → s.shf.intr = [] → exec (.windowFrameSend n) s = .next s) ∧
    (∀ i rest m, s.shf.mgr = false → s.shf.intr = i :: rest → s.mgrSlot = some m → ∃ t more, exec (.windowFrameSend n) s = .next t ∧
      t.shf.intr = rest ++ more ∧ t.cn pSHF R.SHF_CNT_INTR = min (cntMax pSHF R.SHF_CNT_INTR) (s.cn pSHF R.SHF_CNT_INTR + 1) ∧
      (s.WinRoom m (.intr i) → s.WinSent t m (.intr i))) ∧
    (∀ (m : WinMsg) rest done, s.shf.rx = m :: rest → m.dst = s.ownSlot → m.src = n → done = sget [] n s.shf.done →
      (∀ seq ops, m.kind = .req seq ops →
        (∀ e, done.find? (fun e => e.1 == seq) = some e → ∃ t, exec .windowFrameRx s = .next t ∧ t.shf.rx = rest ∧ t.shf.done = s.shf.done ∧
          t.cn pSHF R.SHF_CNT_DUP_FRAME = min (cntMax pSHF R.SHF_CNT_DUP_FRAME) (s.cn pSHF R.SHF_CNT_DUP_FRAME + 1) ∧
          t.regs = s.regs ∧ t.tbl = s.tbl ∧ (s.WinRoom n (.resp seq e.2) → s.WinSent t n (.resp seq e.2))) ∧
        (done.find? (fun e => e.1 == seq) = none → seq ≠ 0 → (∀ e, done.head? = some e → seq ≠ (e.1 + 1) % 65536) → done ≠ [] →
          exec .windowFrameRx s = .next { s with shf := { s.shf with rx := rest } }) ∧
        (∀ u ds, done.find? (fun e => e.1 == seq) = none → done = [] ∨ seq = 0 ∨ (∃ e, done.head? = some e ∧ seq = (e.1 + 1) % 65536) →
          (u, ds) = ({ s with shf := { s.shf with rx := rest } } : State).winPerform ops → ∃ t, exec .windowFrameRx s = .next t ∧
            sget [] n t.shf.done = ((seq, ds) :: done).take 512 ∧ t.regs = u.regs ∧ t.tbl = u.tbl ∧
            (u.WinRoom n (.resp seq ds) → u.WinSent t n (.resp seq ds)))) ∧
      (∀ seq ds, m.kind = .resp seq ds → s.shf.mgr = true →
        (q.fly.find? (fun f => f.seq == seq) = none →
          exec .windowResponseRx s = .next { s with shf := { s.shf with rx := rest } }) ∧
        (∀ f, q.fly.find? (fun f => f.seq == seq) = some f → (∀ o, o ∈ f.ops → o.2 = none) → ∃ t, exec .windowResponseRx s = .next t ∧
          t.wq n = { q with fly := q.fly.filter (fun f => f.seq != seq) } ∧ (∀ k, k ≠ n → t.wq k = s.wq k) ∧
          t = { s with shf := { s.shf with rx := rest, wins := t.shf.wins } }) ∧
        (∀ f o tag r w, q.fly.find? (fun f => f.seq == seq) = some f → f.ops = [(o, some (tag, 0))] → ds = [w] →
          s.shf.reads.find? (fun r => r.tag == tag) = some r → r.data = [none] → ∃ t, exec .windowResponseRx s = .next t ∧
            t.wq n = { q with fly := q.fly.filter (fun f => f.seq != seq) } ∧
            t.shf.reads = s.shf.reads.filter (fun x => x.tag != tag) ∧ t.out = .hostRead tag [w32 w] :: s.out)) ∧
      (∀ i, m.kind = .intr i → s.shf.mgr = true → s.cn pSHF R.SHF_CNT_INTR + 1 < cntMax pSHF R.SHF_CNT_INTR →
        ∃ t, exec .intrFrameRx s = .next t ∧ t.shf.rx = rest ∧ t.cn pSHF R.SHF_CNT_INTR = s.cn pSHF R.SHF_CNT_INTR + 1 ∧
          ∀ x, x = sget {} (n * 32 + i % 32) s.shf.msix →
            (x.mask = true → sget {} (n * 32 + i % 32) t.shf.msix = { x with pend := true } ∧ t.out = s.out) ∧
            (x.mask = false → t.shf.msix = s.shf.msix ∧ t.out = .msix (n * 32 + i % 32) x.addr x.data :: s.out))) ∧
    (s.shf.rx = [] → exec .windowFrameRx s = .next s ∧ exec .windowResponseRx s = .next s ∧ exec .intrFrameRx s = .next s) ∧
    ((∀ f, f ∈ q.fly → s.since f.lastClk < 5000) → exec (.windowRetryTimeout n) s = .next s) ∧
    (∀ f, q.fly = [f] → 5000 ≤ s.since f.lastClk →
      (f.tries ≤ fld (s.ac pSHF R.SHF_CFG) 8 3 → ∃ t, exec (.windowRetryTimeout n) s = .next t ∧
        t.wq n = { q with fly := [{ f with tries := f.tries + 1, lastClk := s.tsu.clk }] } ∧
        t.cn pSHF R.SHF_CNT_RETRY = min (cntMax pSHF R.SHF_CNT_RETRY) (s.cn pSHF R.SHF_CNT_RETRY + 1) ∧
        (s.WinRoom n (.req f.seq (f.ops.map Prod.fst)) → s.WinSent t n (.req f.seq (f.ops.map Prod.fst)))) ∧
      (fld (s.ac pSHF R.SHF_CFG) 8 3 < f.tries → ∃ t, exec (.windowRetryTimeout n) s = .next t ∧ (t.slot n).state = 3 ∧
        t.wq n = { seq := q.seq } ∧ ({ s with shf := t.shf } : State).Quiet [pSHF] t)) ∧
    ((∀ f, f ∈ q.fly → s.since f.firstClk < fld (s.ac pSHF R.SHF_CFG) 16 16 * 250) → exec (.windowReadTimeout n) s = .next s) ∧
    (∀ f o tag r, q.fly = [f] → f.ops = [(o, some (tag, 0))] → fld (s.ac pSHF R.SHF_CFG) 16 16 * 250 ≤ s.since f.firstClk →
      s.shf.reads.find? (fun r => r.tag == tag) = some r → ∃ t, exec (.windowReadTimeout n) s = .next t ∧
        t.shf.reads = s.shf.reads.filter (fun x => x.tag != tag) ∧
        .hostRead tag (r.data.map (fun w => w.getD 0xFFFFFFFF)) ∈ t.out ∧ bit (t.hd pSHF).irqStatus 5 = true ∧
        t.cn pSHF R.SHF_CNT_RD_TIMEOUT = min (cntMax pSHF R.SHF_CNT_RD_TIMEOUT) (s.cn pSHF R.SHF_CNT_RD_TIMEOUT + 1) ∧
        ({ s with shf := t.shf } : State).Quiet [pSHF] t)

/-- Health (R456, R457, R462): in each hour of OPTIME, once, the sensors and the wear of the flash give their monitors a sample and an
absent SFP makes its monitor invalid; RESTART and SO_REPLACED, on an unlocked page, begin a monitor's fit anew and leave the other fits,
SO_REPLACED counting operations from now; an index beyond the monitors is refused with RANGE. Model: where the spec does not say it, this
follows log 111. -/
def Obligations.HealthMonitors : Prop :=
  ∀ s : State, s.onMain = true →
    (∀ ro sfp, s.optime / 36000 ≤ s.hlt.hour → exec (.hltSample ro sfp) s = .next s) ∧
    (∀ ro sfp, s.hlt.hour < s.optime / 36000 → ∃ t, exec (.hltSample ro sfp) s = .next t ∧ t.hlt.hour = s.optime / 36000 ∧
      (∀ i, i < 8 → t.fit i = (s.fit i).add s.optime ((ro[i]?).getD 0 : Nat) 30000 (tagOf s.tick) ∧
        t.rg pHLT (R.HLT_RO + 4 * i) = w32 ((ro[i]?).getD 0)) ∧
      t.fit 8 = (s.fit 8).add s.optime ((s.rg pMEM R.MEM_FL_WEAR).toNat : Nat) 10000 (tagOf s.tick) ∧ t.fit 9 = s.fit 9 ∧
      (∀ n, n < 6 → sfp[n]? = none ∨ sfp[n]? = some .absent → (t.fit (10 + n)).valid = false ∧ (t.fit (10 + n)).n = (s.fit (10 + n)).n) ∧
      t = { s with hlt := t.hlt, regs := t.regs, hdrs := t.hdrs, cnts := t.cnts, vecs := t.vecs, out := t.out, shf := t.shf }) ∧
    (∀ c i, c = .hltRestart i ∨ c = .soReplaced i → (s.hd pHLT).unlocked = false → ∃ t, exec c s = .next t ∧
      (t.hd pHLT).errCode = w32 (R.HLT_CMD * 256 + Err.locked) ∧ s.Quiet [pHLT] t) ∧
    (∀ c i, (c = .hltRestart i ∧ 23 < i) ∨ (c = .soReplaced i ∧ (i < 16 ∨ 23 < i)) → (s.hd pHLT).unlocked = true →
      ∃ t, exec c s = .next t ∧ (t.hd pHLT).errCode = w32 (R.HLT_CMD * 256 + Err.range) ∧ s.Quiet [pHLT] t) ∧
    (∀ c i, (c = .hltRestart i ∧ i ≤ 23) ∨ (c = .soReplaced i ∧ 16 ≤ i ∧ i ≤ 23) → (s.hd pHLT).unlocked = true →
      ∃ t, exec c s = .next t ∧ (t.fit i).n = 0 ∧ (t.fit i).valid = false ∧ (c = .hltRestart i → (t.fit i).serial = (s.fit i).serial) ∧
        (∀ k, k ≠ i → { t.fit k with warned := (s.fit k).warned } = s.fit k) ∧
        (c = .soReplaced i → t.rg pHLT (R.HLT_SO_BASE + 4 * (i - 16)) = w32 (s.cn (pHWS 0) (R.HWS_CNT_SO_OPS + 8 * (i - 16)))) ∧
        ({ s with hlt := t.hlt, regs := t.regs } : State).Quiet [pHLT] t)

/-- Units that fail (R24, R25, R27, R29, R491): a usable unit that can be fenced is, with FENCED, its interrupt, DEGRADED on SYS and a
SYSTEM record after its work has stopped; one fenced or absent stays as it is; a unit that exists once makes the module FAILED, once, with
its record and a flush; the safety island's failure opens every safety output too. Model: where the spec does not say it, this follows log
112. -/
def Obligations.UnitsThatFail : Prop :=
  ∀ (p : Nat) (s : State), s.onMain = true →
    (fenceable p = false ∨ s.unusable p = true → exec (.unitFence p) s = .next s) ∧
    (fenceable p = true → s.unusable p = false → ∃ t r l, exec (.unitFence p) s = .next t ∧ (t.hd p).fenced = true ∧
      bit (t.hd p).irqStatus 3 = true ∧ (t.hd 0).degraded = true ∧ t.unusable p = true ∧
      t.evr.cross = l ++ [r] ∧ r.cls = 13 ∧ r.typ = 1 ∧ t.evr.flushing.isSome = true) ∧
    (∀ cause,
      (fenceable p = true → exec (.moduleFail p cause) s = .next s) ∧
      (fenceable p = false → headPage p ≠ pHWS 0 →
        (s.failed = true → exec (.moduleFail p cause) s = .next s) ∧
        (s.failed = false → ∃ t r, exec (.moduleFail p cause) s = .next t ∧ t.failed = true ∧
          t.evr.cross = s.evr.cross ++ [r] ∧ r.cls = 13 ∧ r.typ = 8 ∧ t.evr.flushing.isSome = true ∧
          (∀ q off, ka q off ≠ ka 0 R.SYS_STATUS → t.rg q off = s.rg q off) ∧ t = { s with regs := t.regs, evr := t.evr })) ∧
      (headPage p = pHWS 0 → fenceable p = false →
        (s.hws.safe = true → exec (.moduleFail p cause) s = .next s) ∧
        (s.hws.safe = false → ∃ t, exec (.moduleFail p cause) s = .next t ∧ t.failed = true ∧ t.hws.safe = true ∧
          (∀ o, o ∈ t.hws.a.outs → o.on = false) ∧ (∀ o, o ∈ t.hws.b.outs → o.on = false) ∧ t.mem = s.mem ∧ t.tsu = s.tsu)))
end

