-- ==== Sys2Proof/Laws/State.lean ====
section
/-!
SUPPORT. Every update of one field of State, field by field: what it leaves as it was. Each lemma is true by rfl.
-/
namespace Sys2Proof.Machine


/-! ### setRg -/

@[simp] theorem State.setRg_ident (s : State) (p o : Nat) (v : Word) : (s.setRg p o v).ident = s.ident := rfl
@[simp] theorem State.setRg_hdrs (s : State) (p o : Nat) (v : Word) : (s.setRg p o v).hdrs = s.hdrs := rfl
@[simp] theorem State.setRg_acts (s : State) (p o : Nat) (v : Word) : (s.setRg p o v).acts = s.acts := rfl
@[simp] theorem State.setRg_cnts (s : State) (p o : Nat) (v : Word) : (s.setRg p o v).cnts = s.cnts := rfl
@[simp] theorem State.setRg_snaps (s : State) (p o : Nat) (v : Word) : (s.setRg p o v).snaps = s.snaps := rfl
@[simp] theorem State.setRg_lat (s : State) (p o : Nat) (v : Word) : (s.setRg p o v).lat = s.lat := rfl
@[simp] theorem State.setRg_held (s : State) (p o : Nat) (v : Word) : (s.setRg p o v).held = s.held := rfl
@[simp] theorem State.setRg_rdata (s : State) (p o : Nat) (v : Word) : (s.setRg p o v).rdata = s.rdata := rfl
@[simp] theorem State.setRg_wins (s : State) (p o : Nat) (v : Word) : (s.setRg p o v).wins = s.wins := rfl
@[simp] theorem State.setRg_tbl (s : State) (p o : Nat) (v : Word) : (s.setRg p o v).tbl = s.tbl := rfl
@[simp] theorem State.setRg_vecs (s : State) (p o : Nat) (v : Word) : (s.setRg p o v).vecs = s.vecs := rfl
@[simp] theorem State.setRg_tsu (s : State) (p o : Nat) (v : Word) : (s.setRg p o v).tsu = s.tsu := rfl
@[simp] theorem State.setRg_macs (s : State) (p o : Nat) (v : Word) : (s.setRg p o v).macs = s.macs := rfl
@[simp] theorem State.setRg_egs (s : State) (p o : Nat) (v : Word) : (s.setRg p o v).egs = s.egs := rfl
@[simp] theorem State.setRg_swc (s : State) (p o : Nat) (v : Word) : (s.setRg p o v).swc = s.swc := rfl
@[simp] theorem State.setRg_mem (s : State) (p o : Nat) (v : Word) : (s.setRg p o v).mem = s.mem := rfl
@[simp] theorem State.setRg_mram (s : State) (p o : Nat) (v : Word) : (s.setRg p o v).mram = s.mram := rfl
@[simp] theorem State.setRg_flips (s : State) (p o : Nat) (v : Word) : (s.setRg p o v).flips = s.flips := rfl
@[simp] theorem State.setRg_poison (s : State) (p o : Nat) (v : Word) : (s.setRg p o v).poison = s.poison := rfl
@[simp] theorem State.setRg_memSt (s : State) (p o : Nat) (v : Word) : (s.setRg p o v).memSt = s.memSt := rfl
@[simp] theorem State.setRg_evr (s : State) (p o : Nat) (v : Word) : (s.setRg p o v).evr = s.evr := rfl
@[simp] theorem State.setRg_memFenced (s : State) (p o : Nat) (v : Word) : (s.setRg p o v).memFenced = s.memFenced := rfl
@[simp] theorem State.setRg_sva (s : State) (p o : Nat) (v : Word) : (s.setRg p o v).sva = s.sva := rfl
@[simp] theorem State.setRg_flt (s : State) (p o : Nat) (v : Word) : (s.setRg p o v).flt = s.flt := rfl
@[simp] theorem State.setRg_thrCyc (s : State) (p o : Nat) (v : Word) : (s.setRg p o v).thrCyc = s.thrCyc := rfl
@[simp] theorem State.setRg_thrAcq (s : State) (p o : Nat) (v : Word) : (s.setRg p o v).thrAcq = s.thrAcq := rfl
@[simp] theorem State.setRg_adcs (s : State) (p o : Nat) (v : Word) : (s.setRg p o v).adcs = s.adcs := rfl
@[simp] theorem State.setRg_shunts (s : State) (p o : Nat) (v : Word) : (s.setRg p o v).shunts = s.shunts := rfl
@[simp] theorem State.setRg_plaus (s : State) (p o : Nat) (v : Word) : (s.setRg p o v).plaus = s.plaus := rfl
@[simp] theorem State.setRg_img (s : State) (p o : Nat) (v : Word) : (s.setRg p o v).img = s.img := rfl
@[simp] theorem State.setRg_dir (s : State) (p o : Nat) (v : Word) : (s.setRg p o v).dir = s.dir := rfl
@[simp] theorem State.setRg_cyc (s : State) (p o : Nat) (v : Word) : (s.setRg p o v).cyc = s.cyc := rfl
@[simp] theorem State.setRg_hwsIn (s : State) (p o : Nat) (v : Word) : (s.setRg p o v).hwsIn = s.hwsIn := rfl
@[simp] theorem State.setRg_dup (s : State) (p o : Nat) (v : Word) : (s.setRg p o v).dup = s.dup := rfl
@[simp] theorem State.setRg_qps (s : State) (p o : Nat) (v : Word) : (s.setRg p o v).qps = s.qps := rfl
@[simp] theorem State.setRg_ops (s : State) (p o : Nat) (v : Word) : (s.setRg p o v).ops = s.ops := rfl
@[simp] theorem State.setRg_skds (s : State) (p o : Nat) (v : Word) : (s.setRg p o v).skds = s.skds := rfl
@[simp] theorem State.setRg_vfs (s : State) (p o : Nat) (v : Word) : (s.setRg p o v).vfs = s.vfs := rfl
@[simp] theorem State.setRg_migIn (s : State) (p o : Nat) (v : Word) : (s.setRg p o v).migIn = s.migIn := rfl
@[simp] theorem State.setRg_tals (s : State) (p o : Nat) (v : Word) : (s.setRg p o v).tals = s.tals := rfl
@[simp] theorem State.setRg_talAts (s : State) (p o : Nat) (v : Word) : (s.setRg p o v).talAts = s.talAts := rfl
@[simp] theorem State.setRg_dfos (s : State) (p o : Nat) (v : Word) : (s.setRg p o v).dfos = s.dfos := rfl
@[simp] theorem State.setRg_hws (s : State) (p o : Nat) (v : Word) : (s.setRg p o v).hws = s.hws := rfl
@[simp] theorem State.setRg_acq (s : State) (p o : Nat) (v : Word) : (s.setRg p o v).acq = s.acq := rfl
@[simp] theorem State.setRg_acqGoose (s : State) (p o : Nat) (v : Word) : (s.setRg p o v).acqGoose = s.acqGoose := rfl
@[simp] theorem State.setRg_kslots (s : State) (p o : Nat) (v : Word) : (s.setRg p o v).kslots = s.kslots := rfl
@[simp] theorem State.setRg_ekeys (s : State) (p o : Nat) (v : Word) : (s.setRg p o v).ekeys = s.ekeys := rfl
@[simp] theorem State.setRg_ksu (s : State) (p o : Nat) (v : Word) : (s.setRg p o v).ksu = s.ksu := rfl
@[simp] theorem State.setRg_tmp (s : State) (p o : Nat) (v : Word) : (s.setRg p o v).tmp = s.tmp := rfl
@[simp] theorem State.setRg_pwr (s : State) (p o : Nat) (v : Word) : (s.setRg p o v).pwr = s.pwr := rfl
@[simp] theorem State.setRg_rst (s : State) (p o : Nat) (v : Word) : (s.setRg p o v).rst = s.rst := rfl
@[simp] theorem State.setRg_shf (s : State) (p o : Nat) (v : Word) : (s.setRg p o v).shf = s.shf := rfl
@[simp] theorem State.setRg_hlt (s : State) (p o : Nat) (v : Word) : (s.setRg p o v).hlt = s.hlt := rfl
@[simp] theorem State.setRg_out (s : State) (p o : Nat) (v : Word) : (s.setRg p o v).out = s.out := rfl
@[simp] theorem State.setRg_free (s : State) (p o : Nat) (v : Word) : (s.setRg p o v).free = s.free := rfl
@[simp] theorem State.setRg_pending (s : State) (p o : Nat) (v : Word) : (s.setRg p o v).pending = s.pending := rfl

/-! ### setAc -/

@[simp] theorem State.setAc_ident (s : State) (p o : Nat) (v : Word) : (s.setAc p o v).ident = s.ident := rfl
@[simp] theorem State.setAc_hdrs (s : State) (p o : Nat) (v : Word) : (s.setAc p o v).hdrs = s.hdrs := rfl
@[simp] theorem State.setAc_regs (s : State) (p o : Nat) (v : Word) : (s.setAc p o v).regs = s.regs := rfl
@[simp] theorem State.setAc_cnts (s : State) (p o : Nat) (v : Word) : (s.setAc p o v).cnts = s.cnts := rfl
@[simp] theorem State.setAc_snaps (s : State) (p o : Nat) (v : Word) : (s.setAc p o v).snaps = s.snaps := rfl
@[simp] theorem State.setAc_lat (s : State) (p o : Nat) (v : Word) : (s.setAc p o v).lat = s.lat := rfl
@[simp] theorem State.setAc_held (s : State) (p o : Nat) (v : Word) : (s.setAc p o v).held = s.held := rfl
@[simp] theorem State.setAc_rdata (s : State) (p o : Nat) (v : Word) : (s.setAc p o v).rdata = s.rdata := rfl
@[simp] theorem State.setAc_wins (s : State) (p o : Nat) (v : Word) : (s.setAc p o v).wins = s.wins := rfl
@[simp] theorem State.setAc_tbl (s : State) (p o : Nat) (v : Word) : (s.setAc p o v).tbl = s.tbl := rfl
@[simp] theorem State.setAc_vecs (s : State) (p o : Nat) (v : Word) : (s.setAc p o v).vecs = s.vecs := rfl
@[simp] theorem State.setAc_tsu (s : State) (p o : Nat) (v : Word) : (s.setAc p o v).tsu = s.tsu := rfl
@[simp] theorem State.setAc_macs (s : State) (p o : Nat) (v : Word) : (s.setAc p o v).macs = s.macs := rfl
@[simp] theorem State.setAc_egs (s : State) (p o : Nat) (v : Word) : (s.setAc p o v).egs = s.egs := rfl
@[simp] theorem State.setAc_swc (s : State) (p o : Nat) (v : Word) : (s.setAc p o v).swc = s.swc := rfl
@[simp] theorem State.setAc_mem (s : State) (p o : Nat) (v : Word) : (s.setAc p o v).mem = s.mem := rfl
@[simp] theorem State.setAc_mram (s : State) (p o : Nat) (v : Word) : (s.setAc p o v).mram = s.mram := rfl
@[simp] theorem State.setAc_flips (s : State) (p o : Nat) (v : Word) : (s.setAc p o v).flips = s.flips := rfl
@[simp] theorem State.setAc_poison (s : State) (p o : Nat) (v : Word) : (s.setAc p o v).poison = s.poison := rfl
@[simp] theorem State.setAc_memSt (s : State) (p o : Nat) (v : Word) : (s.setAc p o v).memSt = s.memSt := rfl
@[simp] theorem State.setAc_evr (s : State) (p o : Nat) (v : Word) : (s.setAc p o v).evr = s.evr := rfl
@[simp] theorem State.setAc_memFenced (s : State) (p o : Nat) (v : Word) : (s.setAc p o v).memFenced = s.memFenced := rfl
@[simp] theorem State.setAc_sva (s : State) (p o : Nat) (v : Word) : (s.setAc p o v).sva = s.sva := rfl
@[simp] theorem State.setAc_flt (s : State) (p o : Nat) (v : Word) : (s.setAc p o v).flt = s.flt := rfl
@[simp] theorem State.setAc_thrCyc (s : State) (p o : Nat) (v : Word) : (s.setAc p o v).thrCyc = s.thrCyc := rfl
@[simp] theorem State.setAc_thrAcq (s : State) (p o : Nat) (v : Word) : (s.setAc p o v).thrAcq = s.thrAcq := rfl
@[simp] theorem State.setAc_adcs (s : State) (p o : Nat) (v : Word) : (s.setAc p o v).adcs = s.adcs := rfl
@[simp] theorem State.setAc_shunts (s : State) (p o : Nat) (v : Word) : (s.setAc p o v).shunts = s.shunts := rfl
@[simp] theorem State.setAc_plaus (s : State) (p o : Nat) (v : Word) : (s.setAc p o v).plaus = s.plaus := rfl
@[simp] theorem State.setAc_img (s : State) (p o : Nat) (v : Word) : (s.setAc p o v).img = s.img := rfl
@[simp] theorem State.setAc_dir (s : State) (p o : Nat) (v : Word) : (s.setAc p o v).dir = s.dir := rfl
@[simp] theorem State.setAc_cyc (s : State) (p o : Nat) (v : Word) : (s.setAc p o v).cyc = s.cyc := rfl
@[simp] theorem State.setAc_hwsIn (s : State) (p o : Nat) (v : Word) : (s.setAc p o v).hwsIn = s.hwsIn := rfl
@[simp] theorem State.setAc_dup (s : State) (p o : Nat) (v : Word) : (s.setAc p o v).dup = s.dup := rfl
@[simp] theorem State.setAc_qps (s : State) (p o : Nat) (v : Word) : (s.setAc p o v).qps = s.qps := rfl
@[simp] theorem State.setAc_ops (s : State) (p o : Nat) (v : Word) : (s.setAc p o v).ops = s.ops := rfl
@[simp] theorem State.setAc_skds (s : State) (p o : Nat) (v : Word) : (s.setAc p o v).skds = s.skds := rfl
@[simp] theorem State.setAc_vfs (s : State) (p o : Nat) (v : Word) : (s.setAc p o v).vfs = s.vfs := rfl
@[simp] theorem State.setAc_migIn (s : State) (p o : Nat) (v : Word) : (s.setAc p o v).migIn = s.migIn := rfl
@[simp] theorem State.setAc_tals (s : State) (p o : Nat) (v : Word) : (s.setAc p o v).tals = s.tals := rfl
@[simp] theorem State.setAc_talAts (s : State) (p o : Nat) (v : Word) : (s.setAc p o v).talAts = s.talAts := rfl
@[simp] theorem State.setAc_dfos (s : State) (p o : Nat) (v : Word) : (s.setAc p o v).dfos = s.dfos := rfl
@[simp] theorem State.setAc_hws (s : State) (p o : Nat) (v : Word) : (s.setAc p o v).hws = s.hws := rfl
@[simp] theorem State.setAc_acq (s : State) (p o : Nat) (v : Word) : (s.setAc p o v).acq = s.acq := rfl
@[simp] theorem State.setAc_acqGoose (s : State) (p o : Nat) (v : Word) : (s.setAc p o v).acqGoose = s.acqGoose := rfl
@[simp] theorem State.setAc_kslots (s : State) (p o : Nat) (v : Word) : (s.setAc p o v).kslots = s.kslots := rfl
@[simp] theorem State.setAc_ekeys (s : State) (p o : Nat) (v : Word) : (s.setAc p o v).ekeys = s.ekeys := rfl
@[simp] theorem State.setAc_ksu (s : State) (p o : Nat) (v : Word) : (s.setAc p o v).ksu = s.ksu := rfl
@[simp] theorem State.setAc_tmp (s : State) (p o : Nat) (v : Word) : (s.setAc p o v).tmp = s.tmp := rfl
@[simp] theorem State.setAc_pwr (s : State) (p o : Nat) (v : Word) : (s.setAc p o v).pwr = s.pwr := rfl
@[simp] theorem State.setAc_rst (s : State) (p o : Nat) (v : Word) : (s.setAc p o v).rst = s.rst := rfl
@[simp] theorem State.setAc_shf (s : State) (p o : Nat) (v : Word) : (s.setAc p o v).shf = s.shf := rfl
@[simp] theorem State.setAc_hlt (s : State) (p o : Nat) (v : Word) : (s.setAc p o v).hlt = s.hlt := rfl
@[simp] theorem State.setAc_out (s : State) (p o : Nat) (v : Word) : (s.setAc p o v).out = s.out := rfl
@[simp] theorem State.setAc_free (s : State) (p o : Nat) (v : Word) : (s.setAc p o v).free = s.free := rfl
@[simp] theorem State.setAc_pending (s : State) (p o : Nat) (v : Word) : (s.setAc p o v).pending = s.pending := rfl

/-! ### setHd -/

@[simp] theorem State.setHd_ident (s : State) (p : Nat) (h : Hdr) : (s.setHd p h).ident = s.ident := rfl
@[simp] theorem State.setHd_regs (s : State) (p : Nat) (h : Hdr) : (s.setHd p h).regs = s.regs := rfl
@[simp] theorem State.setHd_acts (s : State) (p : Nat) (h : Hdr) : (s.setHd p h).acts = s.acts := rfl
@[simp] theorem State.setHd_cnts (s : State) (p : Nat) (h : Hdr) : (s.setHd p h).cnts = s.cnts := rfl
@[simp] theorem State.setHd_snaps (s : State) (p : Nat) (h : Hdr) : (s.setHd p h).snaps = s.snaps := rfl
@[simp] theorem State.setHd_lat (s : State) (p : Nat) (h : Hdr) : (s.setHd p h).lat = s.lat := rfl
@[simp] theorem State.setHd_held (s : State) (p : Nat) (h : Hdr) : (s.setHd p h).held = s.held := rfl
@[simp] theorem State.setHd_rdata (s : State) (p : Nat) (h : Hdr) : (s.setHd p h).rdata = s.rdata := rfl
@[simp] theorem State.setHd_wins (s : State) (p : Nat) (h : Hdr) : (s.setHd p h).wins = s.wins := rfl
@[simp] theorem State.setHd_tbl (s : State) (p : Nat) (h : Hdr) : (s.setHd p h).tbl = s.tbl := rfl
@[simp] theorem State.setHd_vecs (s : State) (p : Nat) (h : Hdr) : (s.setHd p h).vecs = s.vecs := rfl
@[simp] theorem State.setHd_tsu (s : State) (p : Nat) (h : Hdr) : (s.setHd p h).tsu = s.tsu := rfl
@[simp] theorem State.setHd_macs (s : State) (p : Nat) (h : Hdr) : (s.setHd p h).macs = s.macs := rfl
@[simp] theorem State.setHd_egs (s : State) (p : Nat) (h : Hdr) : (s.setHd p h).egs = s.egs := rfl
@[simp] theorem State.setHd_swc (s : State) (p : Nat) (h : Hdr) : (s.setHd p h).swc = s.swc := rfl
@[simp] theorem State.setHd_mem (s : State) (p : Nat) (h : Hdr) : (s.setHd p h).mem = s.mem := rfl
@[simp] theorem State.setHd_mram (s : State) (p : Nat) (h : Hdr) : (s.setHd p h).mram = s.mram := rfl
@[simp] theorem State.setHd_flips (s : State) (p : Nat) (h : Hdr) : (s.setHd p h).flips = s.flips := rfl
@[simp] theorem State.setHd_poison (s : State) (p : Nat) (h : Hdr) : (s.setHd p h).poison = s.poison := rfl
@[simp] theorem State.setHd_memSt (s : State) (p : Nat) (h : Hdr) : (s.setHd p h).memSt = s.memSt := rfl
@[simp] theorem State.setHd_evr (s : State) (p : Nat) (h : Hdr) : (s.setHd p h).evr = s.evr := rfl
@[simp] theorem State.setHd_memFenced (s : State) (p : Nat) (h : Hdr) : (s.setHd p h).memFenced = s.memFenced := rfl
@[simp] theorem State.setHd_sva (s : State) (p : Nat) (h : Hdr) : (s.setHd p h).sva = s.sva := rfl
@[simp] theorem State.setHd_flt (s : State) (p : Nat) (h : Hdr) : (s.setHd p h).flt = s.flt := rfl
@[simp] theorem State.setHd_thrCyc (s : State) (p : Nat) (h : Hdr) : (s.setHd p h).thrCyc = s.thrCyc := rfl
@[simp] theorem State.setHd_thrAcq (s : State) (p : Nat) (h : Hdr) : (s.setHd p h).thrAcq = s.thrAcq := rfl
@[simp] theorem State.setHd_adcs (s : State) (p : Nat) (h : Hdr) : (s.setHd p h).adcs = s.adcs := rfl
@[simp] theorem State.setHd_shunts (s : State) (p : Nat) (h : Hdr) : (s.setHd p h).shunts = s.shunts := rfl
@[simp] theorem State.setHd_plaus (s : State) (p : Nat) (h : Hdr) : (s.setHd p h).plaus = s.plaus := rfl
@[simp] theorem State.setHd_img (s : State) (p : Nat) (h : Hdr) : (s.setHd p h).img = s.img := rfl
@[simp] theorem State.setHd_dir (s : State) (p : Nat) (h : Hdr) : (s.setHd p h).dir = s.dir := rfl
@[simp] theorem State.setHd_cyc (s : State) (p : Nat) (h : Hdr) : (s.setHd p h).cyc = s.cyc := rfl
@[simp] theorem State.setHd_hwsIn (s : State) (p : Nat) (h : Hdr) : (s.setHd p h).hwsIn = s.hwsIn := rfl
@[simp] theorem State.setHd_dup (s : State) (p : Nat) (h : Hdr) : (s.setHd p h).dup = s.dup := rfl
@[simp] theorem State.setHd_qps (s : State) (p : Nat) (h : Hdr) : (s.setHd p h).qps = s.qps := rfl
@[simp] theorem State.setHd_ops (s : State) (p : Nat) (h : Hdr) : (s.setHd p h).ops = s.ops := rfl
@[simp] theorem State.setHd_skds (s : State) (p : Nat) (h : Hdr) : (s.setHd p h).skds = s.skds := rfl
@[simp] theorem State.setHd_vfs (s : State) (p : Nat) (h : Hdr) : (s.setHd p h).vfs = s.vfs := rfl
@[simp] theorem State.setHd_migIn (s : State) (p : Nat) (h : Hdr) : (s.setHd p h).migIn = s.migIn := rfl
@[simp] theorem State.setHd_tals (s : State) (p : Nat) (h : Hdr) : (s.setHd p h).tals = s.tals := rfl
@[simp] theorem State.setHd_talAts (s : State) (p : Nat) (h : Hdr) : (s.setHd p h).talAts = s.talAts := rfl
@[simp] theorem State.setHd_dfos (s : State) (p : Nat) (h : Hdr) : (s.setHd p h).dfos = s.dfos := rfl
@[simp] theorem State.setHd_hws (s : State) (p : Nat) (h : Hdr) : (s.setHd p h).hws = s.hws := rfl
@[simp] theorem State.setHd_acq (s : State) (p : Nat) (h : Hdr) : (s.setHd p h).acq = s.acq := rfl
@[simp] theorem State.setHd_acqGoose (s : State) (p : Nat) (h : Hdr) : (s.setHd p h).acqGoose = s.acqGoose := rfl
@[simp] theorem State.setHd_kslots (s : State) (p : Nat) (h : Hdr) : (s.setHd p h).kslots = s.kslots := rfl
@[simp] theorem State.setHd_ekeys (s : State) (p : Nat) (h : Hdr) : (s.setHd p h).ekeys = s.ekeys := rfl
@[simp] theorem State.setHd_ksu (s : State) (p : Nat) (h : Hdr) : (s.setHd p h).ksu = s.ksu := rfl
@[simp] theorem State.setHd_tmp (s : State) (p : Nat) (h : Hdr) : (s.setHd p h).tmp = s.tmp := rfl
@[simp] theorem State.setHd_pwr (s : State) (p : Nat) (h : Hdr) : (s.setHd p h).pwr = s.pwr := rfl
@[simp] theorem State.setHd_rst (s : State) (p : Nat) (h : Hdr) : (s.setHd p h).rst = s.rst := rfl
@[simp] theorem State.setHd_shf (s : State) (p : Nat) (h : Hdr) : (s.setHd p h).shf = s.shf := rfl
@[simp] theorem State.setHd_hlt (s : State) (p : Nat) (h : Hdr) : (s.setHd p h).hlt = s.hlt := rfl
@[simp] theorem State.setHd_out (s : State) (p : Nat) (h : Hdr) : (s.setHd p h).out = s.out := rfl
@[simp] theorem State.setHd_free (s : State) (p : Nat) (h : Hdr) : (s.setHd p h).free = s.free := rfl
@[simp] theorem State.setHd_pending (s : State) (p : Nat) (h : Hdr) : (s.setHd p h).pending = s.pending := rfl

/-! ### setVec -/

@[simp] theorem State.setVec_ident (s : State) (v : Nat) (x : Vec) : (s.setVec v x).ident = s.ident := rfl
@[simp] theorem State.setVec_hdrs (s : State) (v : Nat) (x : Vec) : (s.setVec v x).hdrs = s.hdrs := rfl
@[simp] theorem State.setVec_regs (s : State) (v : Nat) (x : Vec) : (s.setVec v x).regs = s.regs := rfl
@[simp] theorem State.setVec_acts (s : State) (v : Nat) (x : Vec) : (s.setVec v x).acts = s.acts := rfl
@[simp] theorem State.setVec_cnts (s : State) (v : Nat) (x : Vec) : (s.setVec v x).cnts = s.cnts := rfl
@[simp] theorem State.setVec_snaps (s : State) (v : Nat) (x : Vec) : (s.setVec v x).snaps = s.snaps := rfl
@[simp] theorem State.setVec_lat (s : State) (v : Nat) (x : Vec) : (s.setVec v x).lat = s.lat := rfl
@[simp] theorem State.setVec_held (s : State) (v : Nat) (x : Vec) : (s.setVec v x).held = s.held := rfl
@[simp] theorem State.setVec_rdata (s : State) (v : Nat) (x : Vec) : (s.setVec v x).rdata = s.rdata := rfl
@[simp] theorem State.setVec_wins (s : State) (v : Nat) (x : Vec) : (s.setVec v x).wins = s.wins := rfl
@[simp] theorem State.setVec_tbl (s : State) (v : Nat) (x : Vec) : (s.setVec v x).tbl = s.tbl := rfl
@[simp] theorem State.setVec_tsu (s : State) (v : Nat) (x : Vec) : (s.setVec v x).tsu = s.tsu := rfl
@[simp] theorem State.setVec_macs (s : State) (v : Nat) (x : Vec) : (s.setVec v x).macs = s.macs := rfl
@[simp] theorem State.setVec_egs (s : State) (v : Nat) (x : Vec) : (s.setVec v x).egs = s.egs := rfl
@[simp] theorem State.setVec_swc (s : State) (v : Nat) (x : Vec) : (s.setVec v x).swc = s.swc := rfl
@[simp] theorem State.setVec_mem (s : State) (v : Nat) (x : Vec) : (s.setVec v x).mem = s.mem := rfl
@[simp] theorem State.setVec_mram (s : State) (v : Nat) (x : Vec) : (s.setVec v x).mram = s.mram := rfl
@[simp] theorem State.setVec_flips (s : State) (v : Nat) (x : Vec) : (s.setVec v x).flips = s.flips := rfl
@[simp] theorem State.setVec_poison (s : State) (v : Nat) (x : Vec) : (s.setVec v x).poison = s.poison := rfl
@[simp] theorem State.setVec_memSt (s : State) (v : Nat) (x : Vec) : (s.setVec v x).memSt = s.memSt := rfl
@[simp] theorem State.setVec_evr (s : State) (v : Nat) (x : Vec) : (s.setVec v x).evr = s.evr := rfl
@[simp] theorem State.setVec_memFenced (s : State) (v : Nat) (x : Vec) : (s.setVec v x).memFenced = s.memFenced := rfl
@[simp] theorem State.setVec_sva (s : State) (v : Nat) (x : Vec) : (s.setVec v x).sva = s.sva := rfl
@[simp] theorem State.setVec_flt (s : State) (v : Nat) (x : Vec) : (s.setVec v x).flt = s.flt := rfl
@[simp] theorem State.setVec_thrCyc (s : State) (v : Nat) (x : Vec) : (s.setVec v x).thrCyc = s.thrCyc := rfl
@[simp] theorem State.setVec_thrAcq (s : State) (v : Nat) (x : Vec) : (s.setVec v x).thrAcq = s.thrAcq := rfl
@[simp] theorem State.setVec_adcs (s : State) (v : Nat) (x : Vec) : (s.setVec v x).adcs = s.adcs := rfl
@[simp] theorem State.setVec_shunts (s : State) (v : Nat) (x : Vec) : (s.setVec v x).shunts = s.shunts := rfl
@[simp] theorem State.setVec_plaus (s : State) (v : Nat) (x : Vec) : (s.setVec v x).plaus = s.plaus := rfl
@[simp] theorem State.setVec_img (s : State) (v : Nat) (x : Vec) : (s.setVec v x).img = s.img := rfl
@[simp] theorem State.setVec_dir (s : State) (v : Nat) (x : Vec) : (s.setVec v x).dir = s.dir := rfl
@[simp] theorem State.setVec_cyc (s : State) (v : Nat) (x : Vec) : (s.setVec v x).cyc = s.cyc := rfl
@[simp] theorem State.setVec_hwsIn (s : State) (v : Nat) (x : Vec) : (s.setVec v x).hwsIn = s.hwsIn := rfl
@[simp] theorem State.setVec_dup (s : State) (v : Nat) (x : Vec) : (s.setVec v x).dup = s.dup := rfl
@[simp] theorem State.setVec_qps (s : State) (v : Nat) (x : Vec) : (s.setVec v x).qps = s.qps := rfl
@[simp] theorem State.setVec_ops (s : State) (v : Nat) (x : Vec) : (s.setVec v x).ops = s.ops := rfl
@[simp] theorem State.setVec_skds (s : State) (v : Nat) (x : Vec) : (s.setVec v x).skds = s.skds := rfl
@[simp] theorem State.setVec_vfs (s : State) (v : Nat) (x : Vec) : (s.setVec v x).vfs = s.vfs := rfl
@[simp] theorem State.setVec_migIn (s : State) (v : Nat) (x : Vec) : (s.setVec v x).migIn = s.migIn := rfl
@[simp] theorem State.setVec_tals (s : State) (v : Nat) (x : Vec) : (s.setVec v x).tals = s.tals := rfl
@[simp] theorem State.setVec_talAts (s : State) (v : Nat) (x : Vec) : (s.setVec v x).talAts = s.talAts := rfl
@[simp] theorem State.setVec_dfos (s : State) (v : Nat) (x : Vec) : (s.setVec v x).dfos = s.dfos := rfl
@[simp] theorem State.setVec_hws (s : State) (v : Nat) (x : Vec) : (s.setVec v x).hws = s.hws := rfl
@[simp] theorem State.setVec_acq (s : State) (v : Nat) (x : Vec) : (s.setVec v x).acq = s.acq := rfl
@[simp] theorem State.setVec_acqGoose (s : State) (v : Nat) (x : Vec) : (s.setVec v x).acqGoose = s.acqGoose := rfl
@[simp] theorem State.setVec_kslots (s : State) (v : Nat) (x : Vec) : (s.setVec v x).kslots = s.kslots := rfl
@[simp] theorem State.setVec_ekeys (s : State) (v : Nat) (x : Vec) : (s.setVec v x).ekeys = s.ekeys := rfl
@[simp] theorem State.setVec_ksu (s : State) (v : Nat) (x : Vec) : (s.setVec v x).ksu = s.ksu := rfl
@[simp] theorem State.setVec_tmp (s : State) (v : Nat) (x : Vec) : (s.setVec v x).tmp = s.tmp := rfl
@[simp] theorem State.setVec_pwr (s : State) (v : Nat) (x : Vec) : (s.setVec v x).pwr = s.pwr := rfl
@[simp] theorem State.setVec_rst (s : State) (v : Nat) (x : Vec) : (s.setVec v x).rst = s.rst := rfl
@[simp] theorem State.setVec_shf (s : State) (v : Nat) (x : Vec) : (s.setVec v x).shf = s.shf := rfl
@[simp] theorem State.setVec_hlt (s : State) (v : Nat) (x : Vec) : (s.setVec v x).hlt = s.hlt := rfl
@[simp] theorem State.setVec_out (s : State) (v : Nat) (x : Vec) : (s.setVec v x).out = s.out := rfl
@[simp] theorem State.setVec_free (s : State) (v : Nat) (x : Vec) : (s.setVec v x).free = s.free := rfl
@[simp] theorem State.setVec_pending (s : State) (v : Nat) (x : Vec) : (s.setVec v x).pending = s.pending := rfl

/-! ### emit -/

@[simp] theorem State.emit_ident (s : State) (o : Output) : (s.emit o).ident = s.ident := rfl
@[simp] theorem State.emit_hdrs (s : State) (o : Output) : (s.emit o).hdrs = s.hdrs := rfl
@[simp] theorem State.emit_regs (s : State) (o : Output) : (s.emit o).regs = s.regs := rfl
@[simp] theorem State.emit_acts (s : State) (o : Output) : (s.emit o).acts = s.acts := rfl
@[simp] theorem State.emit_cnts (s : State) (o : Output) : (s.emit o).cnts = s.cnts := rfl
@[simp] theorem State.emit_snaps (s : State) (o : Output) : (s.emit o).snaps = s.snaps := rfl
@[simp] theorem State.emit_lat (s : State) (o : Output) : (s.emit o).lat = s.lat := rfl
@[simp] theorem State.emit_held (s : State) (o : Output) : (s.emit o).held = s.held := rfl
@[simp] theorem State.emit_rdata (s : State) (o : Output) : (s.emit o).rdata = s.rdata := rfl
@[simp] theorem State.emit_wins (s : State) (o : Output) : (s.emit o).wins = s.wins := rfl
@[simp] theorem State.emit_tbl (s : State) (o : Output) : (s.emit o).tbl = s.tbl := rfl
@[simp] theorem State.emit_vecs (s : State) (o : Output) : (s.emit o).vecs = s.vecs := rfl
@[simp] theorem State.emit_tsu (s : State) (o : Output) : (s.emit o).tsu = s.tsu := rfl
@[simp] theorem State.emit_macs (s : State) (o : Output) : (s.emit o).macs = s.macs := rfl
@[simp] theorem State.emit_egs (s : State) (o : Output) : (s.emit o).egs = s.egs := rfl
@[simp] theorem State.emit_swc (s : State) (o : Output) : (s.emit o).swc = s.swc := rfl
@[simp] theorem State.emit_mem (s : State) (o : Output) : (s.emit o).mem = s.mem := rfl
@[simp] theorem State.emit_mram (s : State) (o : Output) : (s.emit o).mram = s.mram := rfl
@[simp] theorem State.emit_flips (s : State) (o : Output) : (s.emit o).flips = s.flips := rfl
@[simp] theorem State.emit_poison (s : State) (o : Output) : (s.emit o).poison = s.poison := rfl
@[simp] theorem State.emit_memSt (s : State) (o : Output) : (s.emit o).memSt = s.memSt := rfl
@[simp] theorem State.emit_evr (s : State) (o : Output) : (s.emit o).evr = s.evr := rfl
@[simp] theorem State.emit_memFenced (s : State) (o : Output) : (s.emit o).memFenced = s.memFenced := rfl
@[simp] theorem State.emit_sva (s : State) (o : Output) : (s.emit o).sva = s.sva := rfl
@[simp] theorem State.emit_flt (s : State) (o : Output) : (s.emit o).flt = s.flt := rfl
@[simp] theorem State.emit_thrCyc (s : State) (o : Output) : (s.emit o).thrCyc = s.thrCyc := rfl
@[simp] theorem State.emit_thrAcq (s : State) (o : Output) : (s.emit o).thrAcq = s.thrAcq := rfl
@[simp] theorem State.emit_adcs (s : State) (o : Output) : (s.emit o).adcs = s.adcs := rfl
@[simp] theorem State.emit_shunts (s : State) (o : Output) : (s.emit o).shunts = s.shunts := rfl
@[simp] theorem State.emit_plaus (s : State) (o : Output) : (s.emit o).plaus = s.plaus := rfl
@[simp] theorem State.emit_img (s : State) (o : Output) : (s.emit o).img = s.img := rfl
@[simp] theorem State.emit_dir (s : State) (o : Output) : (s.emit o).dir = s.dir := rfl
@[simp] theorem State.emit_cyc (s : State) (o : Output) : (s.emit o).cyc = s.cyc := rfl
@[simp] theorem State.emit_hwsIn (s : State) (o : Output) : (s.emit o).hwsIn = s.hwsIn := rfl
@[simp] theorem State.emit_dup (s : State) (o : Output) : (s.emit o).dup = s.dup := rfl
@[simp] theorem State.emit_qps (s : State) (o : Output) : (s.emit o).qps = s.qps := rfl
@[simp] theorem State.emit_ops (s : State) (o : Output) : (s.emit o).ops = s.ops := rfl
@[simp] theorem State.emit_skds (s : State) (o : Output) : (s.emit o).skds = s.skds := rfl
@[simp] theorem State.emit_vfs (s : State) (o : Output) : (s.emit o).vfs = s.vfs := rfl
@[simp] theorem State.emit_migIn (s : State) (o : Output) : (s.emit o).migIn = s.migIn := rfl
@[simp] theorem State.emit_tals (s : State) (o : Output) : (s.emit o).tals = s.tals := rfl
@[simp] theorem State.emit_talAts (s : State) (o : Output) : (s.emit o).talAts = s.talAts := rfl
@[simp] theorem State.emit_dfos (s : State) (o : Output) : (s.emit o).dfos = s.dfos := rfl
@[simp] theorem State.emit_hws (s : State) (o : Output) : (s.emit o).hws = s.hws := rfl
@[simp] theorem State.emit_acq (s : State) (o : Output) : (s.emit o).acq = s.acq := rfl
@[simp] theorem State.emit_acqGoose (s : State) (o : Output) : (s.emit o).acqGoose = s.acqGoose := rfl
@[simp] theorem State.emit_kslots (s : State) (o : Output) : (s.emit o).kslots = s.kslots := rfl
@[simp] theorem State.emit_ekeys (s : State) (o : Output) : (s.emit o).ekeys = s.ekeys := rfl
@[simp] theorem State.emit_ksu (s : State) (o : Output) : (s.emit o).ksu = s.ksu := rfl
@[simp] theorem State.emit_tmp (s : State) (o : Output) : (s.emit o).tmp = s.tmp := rfl
@[simp] theorem State.emit_pwr (s : State) (o : Output) : (s.emit o).pwr = s.pwr := rfl
@[simp] theorem State.emit_rst (s : State) (o : Output) : (s.emit o).rst = s.rst := rfl
@[simp] theorem State.emit_shf (s : State) (o : Output) : (s.emit o).shf = s.shf := rfl
@[simp] theorem State.emit_hlt (s : State) (o : Output) : (s.emit o).hlt = s.hlt := rfl
@[simp] theorem State.emit_free (s : State) (o : Output) : (s.emit o).free = s.free := rfl
@[simp] theorem State.emit_pending (s : State) (o : Output) : (s.emit o).pending = s.pending := rfl

/-! ### setTw -/

@[simp] theorem State.setTw_ident (s : State) (a : Nat) (v : Word) : (s.setTw a v).ident = s.ident := rfl
@[simp] theorem State.setTw_hdrs (s : State) (a : Nat) (v : Word) : (s.setTw a v).hdrs = s.hdrs := rfl
@[simp] theorem State.setTw_regs (s : State) (a : Nat) (v : Word) : (s.setTw a v).regs = s.regs := rfl
@[simp] theorem State.setTw_acts (s : State) (a : Nat) (v : Word) : (s.setTw a v).acts = s.acts := rfl
@[simp] theorem State.setTw_cnts (s : State) (a : Nat) (v : Word) : (s.setTw a v).cnts = s.cnts := rfl
@[simp] theorem State.setTw_snaps (s : State) (a : Nat) (v : Word) : (s.setTw a v).snaps = s.snaps := rfl
@[simp] theorem State.setTw_lat (s : State) (a : Nat) (v : Word) : (s.setTw a v).lat = s.lat := rfl
@[simp] theorem State.setTw_held (s : State) (a : Nat) (v : Word) : (s.setTw a v).held = s.held := rfl
@[simp] theorem State.setTw_rdata (s : State) (a : Nat) (v : Word) : (s.setTw a v).rdata = s.rdata := rfl
@[simp] theorem State.setTw_wins (s : State) (a : Nat) (v : Word) : (s.setTw a v).wins = s.wins := rfl
@[simp] theorem State.setTw_vecs (s : State) (a : Nat) (v : Word) : (s.setTw a v).vecs = s.vecs := rfl
@[simp] theorem State.setTw_tsu (s : State) (a : Nat) (v : Word) : (s.setTw a v).tsu = s.tsu := rfl
@[simp] theorem State.setTw_macs (s : State) (a : Nat) (v : Word) : (s.setTw a v).macs = s.macs := rfl
@[simp] theorem State.setTw_egs (s : State) (a : Nat) (v : Word) : (s.setTw a v).egs = s.egs := rfl
@[simp] theorem State.setTw_swc (s : State) (a : Nat) (v : Word) : (s.setTw a v).swc = s.swc := rfl
@[simp] theorem State.setTw_mem (s : State) (a : Nat) (v : Word) : (s.setTw a v).mem = s.mem := rfl
@[simp] theorem State.setTw_mram (s : State) (a : Nat) (v : Word) : (s.setTw a v).mram = s.mram := rfl
@[simp] theorem State.setTw_flips (s : State) (a : Nat) (v : Word) : (s.setTw a v).flips = s.flips := rfl
@[simp] theorem State.setTw_poison (s : State) (a : Nat) (v : Word) : (s.setTw a v).poison = s.poison := rfl
@[simp] theorem State.setTw_memSt (s : State) (a : Nat) (v : Word) : (s.setTw a v).memSt = s.memSt := rfl
@[simp] theorem State.setTw_evr (s : State) (a : Nat) (v : Word) : (s.setTw a v).evr = s.evr := rfl
@[simp] theorem State.setTw_memFenced (s : State) (a : Nat) (v : Word) : (s.setTw a v).memFenced = s.memFenced := rfl
@[simp] theorem State.setTw_sva (s : State) (a : Nat) (v : Word) : (s.setTw a v).sva = s.sva := rfl
@[simp] theorem State.setTw_flt (s : State) (a : Nat) (v : Word) : (s.setTw a v).flt = s.flt := rfl
@[simp] theorem State.setTw_thrCyc (s : State) (a : Nat) (v : Word) : (s.setTw a v).thrCyc = s.thrCyc := rfl
@[simp] theorem State.setTw_thrAcq (s : State) (a : Nat) (v : Word) : (s.setTw a v).thrAcq = s.thrAcq := rfl
@[simp] theorem State.setTw_adcs (s : State) (a : Nat) (v : Word) : (s.setTw a v).adcs = s.adcs := rfl
@[simp] theorem State.setTw_shunts (s : State) (a : Nat) (v : Word) : (s.setTw a v).shunts = s.shunts := rfl
@[simp] theorem State.setTw_plaus (s : State) (a : Nat) (v : Word) : (s.setTw a v).plaus = s.plaus := rfl
@[simp] theorem State.setTw_img (s : State) (a : Nat) (v : Word) : (s.setTw a v).img = s.img := rfl
@[simp] theorem State.setTw_dir (s : State) (a : Nat) (v : Word) : (s.setTw a v).dir = s.dir := rfl
@[simp] theorem State.setTw_cyc (s : State) (a : Nat) (v : Word) : (s.setTw a v).cyc = s.cyc := rfl
@[simp] theorem State.setTw_hwsIn (s : State) (a : Nat) (v : Word) : (s.setTw a v).hwsIn = s.hwsIn := rfl
@[simp] theorem State.setTw_dup (s : State) (a : Nat) (v : Word) : (s.setTw a v).dup = s.dup := rfl
@[simp] theorem State.setTw_qps (s : State) (a : Nat) (v : Word) : (s.setTw a v).qps = s.qps := rfl
@[simp] theorem State.setTw_ops (s : State) (a : Nat) (v : Word) : (s.setTw a v).ops = s.ops := rfl
@[simp] theorem State.setTw_skds (s : State) (a : Nat) (v : Word) : (s.setTw a v).skds = s.skds := rfl
@[simp] theorem State.setTw_vfs (s : State) (a : Nat) (v : Word) : (s.setTw a v).vfs = s.vfs := rfl
@[simp] theorem State.setTw_migIn (s : State) (a : Nat) (v : Word) : (s.setTw a v).migIn = s.migIn := rfl
@[simp] theorem State.setTw_tals (s : State) (a : Nat) (v : Word) : (s.setTw a v).tals = s.tals := rfl
@[simp] theorem State.setTw_talAts (s : State) (a : Nat) (v : Word) : (s.setTw a v).talAts = s.talAts := rfl
@[simp] theorem State.setTw_dfos (s : State) (a : Nat) (v : Word) : (s.setTw a v).dfos = s.dfos := rfl
@[simp] theorem State.setTw_hws (s : State) (a : Nat) (v : Word) : (s.setTw a v).hws = s.hws := rfl
@[simp] theorem State.setTw_acq (s : State) (a : Nat) (v : Word) : (s.setTw a v).acq = s.acq := rfl
@[simp] theorem State.setTw_acqGoose (s : State) (a : Nat) (v : Word) : (s.setTw a v).acqGoose = s.acqGoose := rfl
@[simp] theorem State.setTw_kslots (s : State) (a : Nat) (v : Word) : (s.setTw a v).kslots = s.kslots := rfl
@[simp] theorem State.setTw_ekeys (s : State) (a : Nat) (v : Word) : (s.setTw a v).ekeys = s.ekeys := rfl
@[simp] theorem State.setTw_ksu (s : State) (a : Nat) (v : Word) : (s.setTw a v).ksu = s.ksu := rfl
@[simp] theorem State.setTw_tmp (s : State) (a : Nat) (v : Word) : (s.setTw a v).tmp = s.tmp := rfl
@[simp] theorem State.setTw_pwr (s : State) (a : Nat) (v : Word) : (s.setTw a v).pwr = s.pwr := rfl
@[simp] theorem State.setTw_rst (s : State) (a : Nat) (v : Word) : (s.setTw a v).rst = s.rst := rfl
@[simp] theorem State.setTw_shf (s : State) (a : Nat) (v : Word) : (s.setTw a v).shf = s.shf := rfl
@[simp] theorem State.setTw_hlt (s : State) (a : Nat) (v : Word) : (s.setTw a v).hlt = s.hlt := rfl
@[simp] theorem State.setTw_out (s : State) (a : Nat) (v : Word) : (s.setTw a v).out = s.out := rfl
@[simp] theorem State.setTw_free (s : State) (a : Nat) (v : Word) : (s.setTw a v).free = s.free := rfl
@[simp] theorem State.setTw_pending (s : State) (a : Nat) (v : Word) : (s.setTw a v).pending = s.pending := rfl

/-! ### setWin -/

@[simp] theorem State.setWin_ident (s : State) (p : Nat) (w : TblWin) : (s.setWin p w).ident = s.ident := rfl
@[simp] theorem State.setWin_hdrs (s : State) (p : Nat) (w : TblWin) : (s.setWin p w).hdrs = s.hdrs := rfl
@[simp] theorem State.setWin_regs (s : State) (p : Nat) (w : TblWin) : (s.setWin p w).regs = s.regs := rfl
@[simp] theorem State.setWin_acts (s : State) (p : Nat) (w : TblWin) : (s.setWin p w).acts = s.acts := rfl
@[simp] theorem State.setWin_cnts (s : State) (p : Nat) (w : TblWin) : (s.setWin p w).cnts = s.cnts := rfl
@[simp] theorem State.setWin_snaps (s : State) (p : Nat) (w : TblWin) : (s.setWin p w).snaps = s.snaps := rfl
@[simp] theorem State.setWin_lat (s : State) (p : Nat) (w : TblWin) : (s.setWin p w).lat = s.lat := rfl
@[simp] theorem State.setWin_held (s : State) (p : Nat) (w : TblWin) : (s.setWin p w).held = s.held := rfl
@[simp] theorem State.setWin_rdata (s : State) (p : Nat) (w : TblWin) : (s.setWin p w).rdata = s.rdata := rfl
@[simp] theorem State.setWin_tbl (s : State) (p : Nat) (w : TblWin) : (s.setWin p w).tbl = s.tbl := rfl
@[simp] theorem State.setWin_vecs (s : State) (p : Nat) (w : TblWin) : (s.setWin p w).vecs = s.vecs := rfl
@[simp] theorem State.setWin_tsu (s : State) (p : Nat) (w : TblWin) : (s.setWin p w).tsu = s.tsu := rfl
@[simp] theorem State.setWin_macs (s : State) (p : Nat) (w : TblWin) : (s.setWin p w).macs = s.macs := rfl
@[simp] theorem State.setWin_egs (s : State) (p : Nat) (w : TblWin) : (s.setWin p w).egs = s.egs := rfl
@[simp] theorem State.setWin_swc (s : State) (p : Nat) (w : TblWin) : (s.setWin p w).swc = s.swc := rfl
@[simp] theorem State.setWin_mem (s : State) (p : Nat) (w : TblWin) : (s.setWin p w).mem = s.mem := rfl
@[simp] theorem State.setWin_mram (s : State) (p : Nat) (w : TblWin) : (s.setWin p w).mram = s.mram := rfl
@[simp] theorem State.setWin_flips (s : State) (p : Nat) (w : TblWin) : (s.setWin p w).flips = s.flips := rfl
@[simp] theorem State.setWin_poison (s : State) (p : Nat) (w : TblWin) : (s.setWin p w).poison = s.poison := rfl
@[simp] theorem State.setWin_memSt (s : State) (p : Nat) (w : TblWin) : (s.setWin p w).memSt = s.memSt := rfl
@[simp] theorem State.setWin_evr (s : State) (p : Nat) (w : TblWin) : (s.setWin p w).evr = s.evr := rfl
@[simp] theorem State.setWin_memFenced (s : State) (p : Nat) (w : TblWin) : (s.setWin p w).memFenced = s.memFenced := rfl
@[simp] theorem State.setWin_sva (s : State) (p : Nat) (w : TblWin) : (s.setWin p w).sva = s.sva := rfl
@[simp] theorem State.setWin_flt (s : State) (p : Nat) (w : TblWin) : (s.setWin p w).flt = s.flt := rfl
@[simp] theorem State.setWin_thrCyc (s : State) (p : Nat) (w : TblWin) : (s.setWin p w).thrCyc = s.thrCyc := rfl
@[simp] theorem State.setWin_thrAcq (s : State) (p : Nat) (w : TblWin) : (s.setWin p w).thrAcq = s.thrAcq := rfl
@[simp] theorem State.setWin_adcs (s : State) (p : Nat) (w : TblWin) : (s.setWin p w).adcs = s.adcs := rfl
@[simp] theorem State.setWin_shunts (s : State) (p : Nat) (w : TblWin) : (s.setWin p w).shunts = s.shunts := rfl
@[simp] theorem State.setWin_plaus (s : State) (p : Nat) (w : TblWin) : (s.setWin p w).plaus = s.plaus := rfl
@[simp] theorem State.setWin_img (s : State) (p : Nat) (w : TblWin) : (s.setWin p w).img = s.img := rfl
@[simp] theorem State.setWin_dir (s : State) (p : Nat) (w : TblWin) : (s.setWin p w).dir = s.dir := rfl
@[simp] theorem State.setWin_cyc (s : State) (p : Nat) (w : TblWin) : (s.setWin p w).cyc = s.cyc := rfl
@[simp] theorem State.setWin_hwsIn (s : State) (p : Nat) (w : TblWin) : (s.setWin p w).hwsIn = s.hwsIn := rfl
@[simp] theorem State.setWin_dup (s : State) (p : Nat) (w : TblWin) : (s.setWin p w).dup = s.dup := rfl
@[simp] theorem State.setWin_qps (s : State) (p : Nat) (w : TblWin) : (s.setWin p w).qps = s.qps := rfl
@[simp] theorem State.setWin_ops (s : State) (p : Nat) (w : TblWin) : (s.setWin p w).ops = s.ops := rfl
@[simp] theorem State.setWin_skds (s : State) (p : Nat) (w : TblWin) : (s.setWin p w).skds = s.skds := rfl
@[simp] theorem State.setWin_vfs (s : State) (p : Nat) (w : TblWin) : (s.setWin p w).vfs = s.vfs := rfl
@[simp] theorem State.setWin_migIn (s : State) (p : Nat) (w : TblWin) : (s.setWin p w).migIn = s.migIn := rfl
@[simp] theorem State.setWin_tals (s : State) (p : Nat) (w : TblWin) : (s.setWin p w).tals = s.tals := rfl
@[simp] theorem State.setWin_talAts (s : State) (p : Nat) (w : TblWin) : (s.setWin p w).talAts = s.talAts := rfl
@[simp] theorem State.setWin_dfos (s : State) (p : Nat) (w : TblWin) : (s.setWin p w).dfos = s.dfos := rfl
@[simp] theorem State.setWin_hws (s : State) (p : Nat) (w : TblWin) : (s.setWin p w).hws = s.hws := rfl
@[simp] theorem State.setWin_acq (s : State) (p : Nat) (w : TblWin) : (s.setWin p w).acq = s.acq := rfl
@[simp] theorem State.setWin_acqGoose (s : State) (p : Nat) (w : TblWin) : (s.setWin p w).acqGoose = s.acqGoose := rfl
@[simp] theorem State.setWin_kslots (s : State) (p : Nat) (w : TblWin) : (s.setWin p w).kslots = s.kslots := rfl
@[simp] theorem State.setWin_ekeys (s : State) (p : Nat) (w : TblWin) : (s.setWin p w).ekeys = s.ekeys := rfl
@[simp] theorem State.setWin_ksu (s : State) (p : Nat) (w : TblWin) : (s.setWin p w).ksu = s.ksu := rfl
@[simp] theorem State.setWin_tmp (s : State) (p : Nat) (w : TblWin) : (s.setWin p w).tmp = s.tmp := rfl
@[simp] theorem State.setWin_pwr (s : State) (p : Nat) (w : TblWin) : (s.setWin p w).pwr = s.pwr := rfl
@[simp] theorem State.setWin_rst (s : State) (p : Nat) (w : TblWin) : (s.setWin p w).rst = s.rst := rfl
@[simp] theorem State.setWin_shf (s : State) (p : Nat) (w : TblWin) : (s.setWin p w).shf = s.shf := rfl
@[simp] theorem State.setWin_hlt (s : State) (p : Nat) (w : TblWin) : (s.setWin p w).hlt = s.hlt := rfl
@[simp] theorem State.setWin_out (s : State) (p : Nat) (w : TblWin) : (s.setWin p w).out = s.out := rfl
@[simp] theorem State.setWin_free (s : State) (p : Nat) (w : TblWin) : (s.setWin p w).free = s.free := rfl
@[simp] theorem State.setWin_pending (s : State) (p : Nat) (w : TblWin) : (s.setWin p w).pending = s.pending := rfl

/-! ### writeMram -/

@[simp] theorem State.writeMram_ident (s : State) (a : Nat) (bs : List Nat) : (s.writeMram a bs).ident = s.ident := rfl
@[simp] theorem State.writeMram_hdrs (s : State) (a : Nat) (bs : List Nat) : (s.writeMram a bs).hdrs = s.hdrs := rfl
@[simp] theorem State.writeMram_regs (s : State) (a : Nat) (bs : List Nat) : (s.writeMram a bs).regs = s.regs := rfl
@[simp] theorem State.writeMram_acts (s : State) (a : Nat) (bs : List Nat) : (s.writeMram a bs).acts = s.acts := rfl
@[simp] theorem State.writeMram_cnts (s : State) (a : Nat) (bs : List Nat) : (s.writeMram a bs).cnts = s.cnts := rfl
@[simp] theorem State.writeMram_snaps (s : State) (a : Nat) (bs : List Nat) : (s.writeMram a bs).snaps = s.snaps := rfl
@[simp] theorem State.writeMram_lat (s : State) (a : Nat) (bs : List Nat) : (s.writeMram a bs).lat = s.lat := rfl
@[simp] theorem State.writeMram_held (s : State) (a : Nat) (bs : List Nat) : (s.writeMram a bs).held = s.held := rfl
@[simp] theorem State.writeMram_rdata (s : State) (a : Nat) (bs : List Nat) : (s.writeMram a bs).rdata = s.rdata := rfl
@[simp] theorem State.writeMram_wins (s : State) (a : Nat) (bs : List Nat) : (s.writeMram a bs).wins = s.wins := rfl
@[simp] theorem State.writeMram_tbl (s : State) (a : Nat) (bs : List Nat) : (s.writeMram a bs).tbl = s.tbl := rfl
@[simp] theorem State.writeMram_vecs (s : State) (a : Nat) (bs : List Nat) : (s.writeMram a bs).vecs = s.vecs := rfl
@[simp] theorem State.writeMram_tsu (s : State) (a : Nat) (bs : List Nat) : (s.writeMram a bs).tsu = s.tsu := rfl
@[simp] theorem State.writeMram_macs (s : State) (a : Nat) (bs : List Nat) : (s.writeMram a bs).macs = s.macs := rfl
@[simp] theorem State.writeMram_egs (s : State) (a : Nat) (bs : List Nat) : (s.writeMram a bs).egs = s.egs := rfl
@[simp] theorem State.writeMram_swc (s : State) (a : Nat) (bs : List Nat) : (s.writeMram a bs).swc = s.swc := rfl
@[simp] theorem State.writeMram_mem (s : State) (a : Nat) (bs : List Nat) : (s.writeMram a bs).mem = s.mem := rfl
@[simp] theorem State.writeMram_flips (s : State) (a : Nat) (bs : List Nat) : (s.writeMram a bs).flips = s.flips := rfl
@[simp] theorem State.writeMram_poison (s : State) (a : Nat) (bs : List Nat) : (s.writeMram a bs).poison = s.poison := rfl
@[simp] theorem State.writeMram_memSt (s : State) (a : Nat) (bs : List Nat) : (s.writeMram a bs).memSt = s.memSt := rfl
@[simp] theorem State.writeMram_evr (s : State) (a : Nat) (bs : List Nat) : (s.writeMram a bs).evr = s.evr := rfl
@[simp] theorem State.writeMram_memFenced (s : State) (a : Nat) (bs : List Nat) : (s.writeMram a bs).memFenced = s.memFenced := rfl
@[simp] theorem State.writeMram_sva (s : State) (a : Nat) (bs : List Nat) : (s.writeMram a bs).sva = s.sva := rfl
@[simp] theorem State.writeMram_flt (s : State) (a : Nat) (bs : List Nat) : (s.writeMram a bs).flt = s.flt := rfl
@[simp] theorem State.writeMram_thrCyc (s : State) (a : Nat) (bs : List Nat) : (s.writeMram a bs).thrCyc = s.thrCyc := rfl
@[simp] theorem State.writeMram_thrAcq (s : State) (a : Nat) (bs : List Nat) : (s.writeMram a bs).thrAcq = s.thrAcq := rfl
@[simp] theorem State.writeMram_adcs (s : State) (a : Nat) (bs : List Nat) : (s.writeMram a bs).adcs = s.adcs := rfl
@[simp] theorem State.writeMram_shunts (s : State) (a : Nat) (bs : List Nat) : (s.writeMram a bs).shunts = s.shunts := rfl
@[simp] theorem State.writeMram_plaus (s : State) (a : Nat) (bs : List Nat) : (s.writeMram a bs).plaus = s.plaus := rfl
@[simp] theorem State.writeMram_img (s : State) (a : Nat) (bs : List Nat) : (s.writeMram a bs).img = s.img := rfl
@[simp] theorem State.writeMram_dir (s : State) (a : Nat) (bs : List Nat) : (s.writeMram a bs).dir = s.dir := rfl
@[simp] theorem State.writeMram_cyc (s : State) (a : Nat) (bs : List Nat) : (s.writeMram a bs).cyc = s.cyc := rfl
@[simp] theorem State.writeMram_hwsIn (s : State) (a : Nat) (bs : List Nat) : (s.writeMram a bs).hwsIn = s.hwsIn := rfl
@[simp] theorem State.writeMram_dup (s : State) (a : Nat) (bs : List Nat) : (s.writeMram a bs).dup = s.dup := rfl
@[simp] theorem State.writeMram_qps (s : State) (a : Nat) (bs : List Nat) : (s.writeMram a bs).qps = s.qps := rfl
@[simp] theorem State.writeMram_ops (s : State) (a : Nat) (bs : List Nat) : (s.writeMram a bs).ops = s.ops := rfl
@[simp] theorem State.writeMram_skds (s : State) (a : Nat) (bs : List Nat) : (s.writeMram a bs).skds = s.skds := rfl
@[simp] theorem State.writeMram_vfs (s : State) (a : Nat) (bs : List Nat) : (s.writeMram a bs).vfs = s.vfs := rfl
@[simp] theorem State.writeMram_migIn (s : State) (a : Nat) (bs : List Nat) : (s.writeMram a bs).migIn = s.migIn := rfl
@[simp] theorem State.writeMram_tals (s : State) (a : Nat) (bs : List Nat) : (s.writeMram a bs).tals = s.tals := rfl
@[simp] theorem State.writeMram_talAts (s : State) (a : Nat) (bs : List Nat) : (s.writeMram a bs).talAts = s.talAts := rfl
@[simp] theorem State.writeMram_dfos (s : State) (a : Nat) (bs : List Nat) : (s.writeMram a bs).dfos = s.dfos := rfl
@[simp] theorem State.writeMram_hws (s : State) (a : Nat) (bs : List Nat) : (s.writeMram a bs).hws = s.hws := rfl
@[simp] theorem State.writeMram_acq (s : State) (a : Nat) (bs : List Nat) : (s.writeMram a bs).acq = s.acq := rfl
@[simp] theorem State.writeMram_acqGoose (s : State) (a : Nat) (bs : List Nat) : (s.writeMram a bs).acqGoose = s.acqGoose := rfl
@[simp] theorem State.writeMram_kslots (s : State) (a : Nat) (bs : List Nat) : (s.writeMram a bs).kslots = s.kslots := rfl
@[simp] theorem State.writeMram_ekeys (s : State) (a : Nat) (bs : List Nat) : (s.writeMram a bs).ekeys = s.ekeys := rfl
@[simp] theorem State.writeMram_ksu (s : State) (a : Nat) (bs : List Nat) : (s.writeMram a bs).ksu = s.ksu := rfl
@[simp] theorem State.writeMram_tmp (s : State) (a : Nat) (bs : List Nat) : (s.writeMram a bs).tmp = s.tmp := rfl
@[simp] theorem State.writeMram_pwr (s : State) (a : Nat) (bs : List Nat) : (s.writeMram a bs).pwr = s.pwr := rfl
@[simp] theorem State.writeMram_rst (s : State) (a : Nat) (bs : List Nat) : (s.writeMram a bs).rst = s.rst := rfl
@[simp] theorem State.writeMram_shf (s : State) (a : Nat) (bs : List Nat) : (s.writeMram a bs).shf = s.shf := rfl
@[simp] theorem State.writeMram_hlt (s : State) (a : Nat) (bs : List Nat) : (s.writeMram a bs).hlt = s.hlt := rfl
@[simp] theorem State.writeMram_out (s : State) (a : Nat) (bs : List Nat) : (s.writeMram a bs).out = s.out := rfl
@[simp] theorem State.writeMram_free (s : State) (a : Nat) (bs : List Nat) : (s.writeMram a bs).free = s.free := rfl
@[simp] theorem State.writeMram_pending (s : State) (a : Nat) (bs : List Nat) : (s.writeMram a bs).pending = s.pending := rfl

/-! ### setPt -/

@[simp] theorem State.setPt_ident (s : State) (n : Nat) (x : Point) : (s.setPt n x).ident = s.ident := rfl
@[simp] theorem State.setPt_hdrs (s : State) (n : Nat) (x : Point) : (s.setPt n x).hdrs = s.hdrs := rfl
@[simp] theorem State.setPt_regs (s : State) (n : Nat) (x : Point) : (s.setPt n x).regs = s.regs := rfl
@[simp] theorem State.setPt_acts (s : State) (n : Nat) (x : Point) : (s.setPt n x).acts = s.acts := rfl
@[simp] theorem State.setPt_cnts (s : State) (n : Nat) (x : Point) : (s.setPt n x).cnts = s.cnts := rfl
@[simp] theorem State.setPt_snaps (s : State) (n : Nat) (x : Point) : (s.setPt n x).snaps = s.snaps := rfl
@[simp] theorem State.setPt_lat (s : State) (n : Nat) (x : Point) : (s.setPt n x).lat = s.lat := rfl
@[simp] theorem State.setPt_held (s : State) (n : Nat) (x : Point) : (s.setPt n x).held = s.held := rfl
@[simp] theorem State.setPt_rdata (s : State) (n : Nat) (x : Point) : (s.setPt n x).rdata = s.rdata := rfl
@[simp] theorem State.setPt_wins (s : State) (n : Nat) (x : Point) : (s.setPt n x).wins = s.wins := rfl
@[simp] theorem State.setPt_tbl (s : State) (n : Nat) (x : Point) : (s.setPt n x).tbl = s.tbl := rfl
@[simp] theorem State.setPt_vecs (s : State) (n : Nat) (x : Point) : (s.setPt n x).vecs = s.vecs := rfl
@[simp] theorem State.setPt_tsu (s : State) (n : Nat) (x : Point) : (s.setPt n x).tsu = s.tsu := rfl
@[simp] theorem State.setPt_macs (s : State) (n : Nat) (x : Point) : (s.setPt n x).macs = s.macs := rfl
@[simp] theorem State.setPt_egs (s : State) (n : Nat) (x : Point) : (s.setPt n x).egs = s.egs := rfl
@[simp] theorem State.setPt_swc (s : State) (n : Nat) (x : Point) : (s.setPt n x).swc = s.swc := rfl
@[simp] theorem State.setPt_mem (s : State) (n : Nat) (x : Point) : (s.setPt n x).mem = s.mem := rfl
@[simp] theorem State.setPt_mram (s : State) (n : Nat) (x : Point) : (s.setPt n x).mram = s.mram := rfl
@[simp] theorem State.setPt_flips (s : State) (n : Nat) (x : Point) : (s.setPt n x).flips = s.flips := rfl
@[simp] theorem State.setPt_poison (s : State) (n : Nat) (x : Point) : (s.setPt n x).poison = s.poison := rfl
@[simp] theorem State.setPt_memSt (s : State) (n : Nat) (x : Point) : (s.setPt n x).memSt = s.memSt := rfl
@[simp] theorem State.setPt_evr (s : State) (n : Nat) (x : Point) : (s.setPt n x).evr = s.evr := rfl
@[simp] theorem State.setPt_memFenced (s : State) (n : Nat) (x : Point) : (s.setPt n x).memFenced = s.memFenced := rfl
@[simp] theorem State.setPt_sva (s : State) (n : Nat) (x : Point) : (s.setPt n x).sva = s.sva := rfl
@[simp] theorem State.setPt_flt (s : State) (n : Nat) (x : Point) : (s.setPt n x).flt = s.flt := rfl
@[simp] theorem State.setPt_thrCyc (s : State) (n : Nat) (x : Point) : (s.setPt n x).thrCyc = s.thrCyc := rfl
@[simp] theorem State.setPt_thrAcq (s : State) (n : Nat) (x : Point) : (s.setPt n x).thrAcq = s.thrAcq := rfl
@[simp] theorem State.setPt_adcs (s : State) (n : Nat) (x : Point) : (s.setPt n x).adcs = s.adcs := rfl
@[simp] theorem State.setPt_shunts (s : State) (n : Nat) (x : Point) : (s.setPt n x).shunts = s.shunts := rfl
@[simp] theorem State.setPt_plaus (s : State) (n : Nat) (x : Point) : (s.setPt n x).plaus = s.plaus := rfl
@[simp] theorem State.setPt_dir (s : State) (n : Nat) (x : Point) : (s.setPt n x).dir = s.dir := rfl
@[simp] theorem State.setPt_cyc (s : State) (n : Nat) (x : Point) : (s.setPt n x).cyc = s.cyc := rfl
@[simp] theorem State.setPt_hwsIn (s : State) (n : Nat) (x : Point) : (s.setPt n x).hwsIn = s.hwsIn := rfl
@[simp] theorem State.setPt_dup (s : State) (n : Nat) (x : Point) : (s.setPt n x).dup = s.dup := rfl
@[simp] theorem State.setPt_qps (s : State) (n : Nat) (x : Point) : (s.setPt n x).qps = s.qps := rfl
@[simp] theorem State.setPt_ops (s : State) (n : Nat) (x : Point) : (s.setPt n x).ops = s.ops := rfl
@[simp] theorem State.setPt_skds (s : State) (n : Nat) (x : Point) : (s.setPt n x).skds = s.skds := rfl
@[simp] theorem State.setPt_vfs (s : State) (n : Nat) (x : Point) : (s.setPt n x).vfs = s.vfs := rfl
@[simp] theorem State.setPt_migIn (s : State) (n : Nat) (x : Point) : (s.setPt n x).migIn = s.migIn := rfl
@[simp] theorem State.setPt_tals (s : State) (n : Nat) (x : Point) : (s.setPt n x).tals = s.tals := rfl
@[simp] theorem State.setPt_talAts (s : State) (n : Nat) (x : Point) : (s.setPt n x).talAts = s.talAts := rfl
@[simp] theorem State.setPt_dfos (s : State) (n : Nat) (x : Point) : (s.setPt n x).dfos = s.dfos := rfl
@[simp] theorem State.setPt_hws (s : State) (n : Nat) (x : Point) : (s.setPt n x).hws = s.hws := rfl
@[simp] theorem State.setPt_acq (s : State) (n : Nat) (x : Point) : (s.setPt n x).acq = s.acq := rfl
@[simp] theorem State.setPt_acqGoose (s : State) (n : Nat) (x : Point) : (s.setPt n x).acqGoose = s.acqGoose := rfl
@[simp] theorem State.setPt_kslots (s : State) (n : Nat) (x : Point) : (s.setPt n x).kslots = s.kslots := rfl
@[simp] theorem State.setPt_ekeys (s : State) (n : Nat) (x : Point) : (s.setPt n x).ekeys = s.ekeys := rfl
@[simp] theorem State.setPt_ksu (s : State) (n : Nat) (x : Point) : (s.setPt n x).ksu = s.ksu := rfl
@[simp] theorem State.setPt_tmp (s : State) (n : Nat) (x : Point) : (s.setPt n x).tmp = s.tmp := rfl
@[simp] theorem State.setPt_pwr (s : State) (n : Nat) (x : Point) : (s.setPt n x).pwr = s.pwr := rfl
@[simp] theorem State.setPt_rst (s : State) (n : Nat) (x : Point) : (s.setPt n x).rst = s.rst := rfl
@[simp] theorem State.setPt_shf (s : State) (n : Nat) (x : Point) : (s.setPt n x).shf = s.shf := rfl
@[simp] theorem State.setPt_hlt (s : State) (n : Nat) (x : Point) : (s.setPt n x).hlt = s.hlt := rfl
@[simp] theorem State.setPt_out (s : State) (n : Nat) (x : Point) : (s.setPt n x).out = s.out := rfl
@[simp] theorem State.setPt_free (s : State) (n : Nat) (x : Point) : (s.setPt n x).free = s.free := rfl
@[simp] theorem State.setPt_pending (s : State) (n : Nat) (x : Point) : (s.setPt n x).pending = s.pending := rfl

/-! ### setDir -/

@[simp] theorem State.setDir_ident (s : State) (n : Nat) (x : Nat × Nat) : (s.setDir n x).ident = s.ident := rfl
@[simp] theorem State.setDir_hdrs (s : State) (n : Nat) (x : Nat × Nat) : (s.setDir n x).hdrs = s.hdrs := rfl
@[simp] theorem State.setDir_regs (s : State) (n : Nat) (x : Nat × Nat) : (s.setDir n x).regs = s.regs := rfl
@[simp] theorem State.setDir_acts (s : State) (n : Nat) (x : Nat × Nat) : (s.setDir n x).acts = s.acts := rfl
@[simp] theorem State.setDir_cnts (s : State) (n : Nat) (x : Nat × Nat) : (s.setDir n x).cnts = s.cnts := rfl
@[simp] theorem State.setDir_snaps (s : State) (n : Nat) (x : Nat × Nat) : (s.setDir n x).snaps = s.snaps := rfl
@[simp] theorem State.setDir_lat (s : State) (n : Nat) (x : Nat × Nat) : (s.setDir n x).lat = s.lat := rfl
@[simp] theorem State.setDir_held (s : State) (n : Nat) (x : Nat × Nat) : (s.setDir n x).held = s.held := rfl
@[simp] theorem State.setDir_rdata (s : State) (n : Nat) (x : Nat × Nat) : (s.setDir n x).rdata = s.rdata := rfl
@[simp] theorem State.setDir_wins (s : State) (n : Nat) (x : Nat × Nat) : (s.setDir n x).wins = s.wins := rfl
@[simp] theorem State.setDir_tbl (s : State) (n : Nat) (x : Nat × Nat) : (s.setDir n x).tbl = s.tbl := rfl
@[simp] theorem State.setDir_vecs (s : State) (n : Nat) (x : Nat × Nat) : (s.setDir n x).vecs = s.vecs := rfl
@[simp] theorem State.setDir_tsu (s : State) (n : Nat) (x : Nat × Nat) : (s.setDir n x).tsu = s.tsu := rfl
@[simp] theorem State.setDir_macs (s : State) (n : Nat) (x : Nat × Nat) : (s.setDir n x).macs = s.macs := rfl
@[simp] theorem State.setDir_egs (s : State) (n : Nat) (x : Nat × Nat) : (s.setDir n x).egs = s.egs := rfl
@[simp] theorem State.setDir_swc (s : State) (n : Nat) (x : Nat × Nat) : (s.setDir n x).swc = s.swc := rfl
@[simp] theorem State.setDir_mem (s : State) (n : Nat) (x : Nat × Nat) : (s.setDir n x).mem = s.mem := rfl
@[simp] theorem State.setDir_mram (s : State) (n : Nat) (x : Nat × Nat) : (s.setDir n x).mram = s.mram := rfl
@[simp] theorem State.setDir_flips (s : State) (n : Nat) (x : Nat × Nat) : (s.setDir n x).flips = s.flips := rfl
@[simp] theorem State.setDir_poison (s : State) (n : Nat) (x : Nat × Nat) : (s.setDir n x).poison = s.poison := rfl
@[simp] theorem State.setDir_memSt (s : State) (n : Nat) (x : Nat × Nat) : (s.setDir n x).memSt = s.memSt := rfl
@[simp] theorem State.setDir_evr (s : State) (n : Nat) (x : Nat × Nat) : (s.setDir n x).evr = s.evr := rfl
@[simp] theorem State.setDir_memFenced (s : State) (n : Nat) (x : Nat × Nat) : (s.setDir n x).memFenced = s.memFenced := rfl
@[simp] theorem State.setDir_sva (s : State) (n : Nat) (x : Nat × Nat) : (s.setDir n x).sva = s.sva := rfl
@[simp] theorem State.setDir_flt (s : State) (n : Nat) (x : Nat × Nat) : (s.setDir n x).flt = s.flt := rfl
@[simp] theorem State.setDir_thrCyc (s : State) (n : Nat) (x : Nat × Nat) : (s.setDir n x).thrCyc = s.thrCyc := rfl
@[simp] theorem State.setDir_thrAcq (s : State) (n : Nat) (x : Nat × Nat) : (s.setDir n x).thrAcq = s.thrAcq := rfl
@[simp] theorem State.setDir_adcs (s : State) (n : Nat) (x : Nat × Nat) : (s.setDir n x).adcs = s.adcs := rfl
@[simp] theorem State.setDir_shunts (s : State) (n : Nat) (x : Nat × Nat) : (s.setDir n x).shunts = s.shunts := rfl
@[simp] theorem State.setDir_plaus (s : State) (n : Nat) (x : Nat × Nat) : (s.setDir n x).plaus = s.plaus := rfl
@[simp] theorem State.setDir_img (s : State) (n : Nat) (x : Nat × Nat) : (s.setDir n x).img = s.img := rfl
@[simp] theorem State.setDir_cyc (s : State) (n : Nat) (x : Nat × Nat) : (s.setDir n x).cyc = s.cyc := rfl
@[simp] theorem State.setDir_hwsIn (s : State) (n : Nat) (x : Nat × Nat) : (s.setDir n x).hwsIn = s.hwsIn := rfl
@[simp] theorem State.setDir_dup (s : State) (n : Nat) (x : Nat × Nat) : (s.setDir n x).dup = s.dup := rfl
@[simp] theorem State.setDir_qps (s : State) (n : Nat) (x : Nat × Nat) : (s.setDir n x).qps = s.qps := rfl
@[simp] theorem State.setDir_ops (s : State) (n : Nat) (x : Nat × Nat) : (s.setDir n x).ops = s.ops := rfl
@[simp] theorem State.setDir_skds (s : State) (n : Nat) (x : Nat × Nat) : (s.setDir n x).skds = s.skds := rfl
@[simp] theorem State.setDir_vfs (s : State) (n : Nat) (x : Nat × Nat) : (s.setDir n x).vfs = s.vfs := rfl
@[simp] theorem State.setDir_migIn (s : State) (n : Nat) (x : Nat × Nat) : (s.setDir n x).migIn = s.migIn := rfl
@[simp] theorem State.setDir_tals (s : State) (n : Nat) (x : Nat × Nat) : (s.setDir n x).tals = s.tals := rfl
@[simp] theorem State.setDir_talAts (s : State) (n : Nat) (x : Nat × Nat) : (s.setDir n x).talAts = s.talAts := rfl
@[simp] theorem State.setDir_dfos (s : State) (n : Nat) (x : Nat × Nat) : (s.setDir n x).dfos = s.dfos := rfl
@[simp] theorem State.setDir_hws (s : State) (n : Nat) (x : Nat × Nat) : (s.setDir n x).hws = s.hws := rfl
@[simp] theorem State.setDir_acq (s : State) (n : Nat) (x : Nat × Nat) : (s.setDir n x).acq = s.acq := rfl
@[simp] theorem State.setDir_acqGoose (s : State) (n : Nat) (x : Nat × Nat) : (s.setDir n x).acqGoose = s.acqGoose := rfl
@[simp] theorem State.setDir_kslots (s : State) (n : Nat) (x : Nat × Nat) : (s.setDir n x).kslots = s.kslots := rfl
@[simp] theorem State.setDir_ekeys (s : State) (n : Nat) (x : Nat × Nat) : (s.setDir n x).ekeys = s.ekeys := rfl
@[simp] theorem State.setDir_ksu (s : State) (n : Nat) (x : Nat × Nat) : (s.setDir n x).ksu = s.ksu := rfl
@[simp] theorem State.setDir_tmp (s : State) (n : Nat) (x : Nat × Nat) : (s.setDir n x).tmp = s.tmp := rfl
@[simp] theorem State.setDir_pwr (s : State) (n : Nat) (x : Nat × Nat) : (s.setDir n x).pwr = s.pwr := rfl
@[simp] theorem State.setDir_rst (s : State) (n : Nat) (x : Nat × Nat) : (s.setDir n x).rst = s.rst := rfl
@[simp] theorem State.setDir_shf (s : State) (n : Nat) (x : Nat × Nat) : (s.setDir n x).shf = s.shf := rfl
@[simp] theorem State.setDir_hlt (s : State) (n : Nat) (x : Nat × Nat) : (s.setDir n x).hlt = s.hlt := rfl
@[simp] theorem State.setDir_out (s : State) (n : Nat) (x : Nat × Nat) : (s.setDir n x).out = s.out := rfl
@[simp] theorem State.setDir_free (s : State) (n : Nat) (x : Nat × Nat) : (s.setDir n x).free = s.free := rfl
@[simp] theorem State.setDir_pending (s : State) (n : Nat) (x : Nat × Nat) : (s.setDir n x).pending = s.pending := rfl

/-! ### setAdc -/

@[simp] theorem State.setAdc_ident (s : State) (c : Nat) (x : Adc) : (s.setAdc c x).ident = s.ident := rfl
@[simp] theorem State.setAdc_hdrs (s : State) (c : Nat) (x : Adc) : (s.setAdc c x).hdrs = s.hdrs := rfl
@[simp] theorem State.setAdc_regs (s : State) (c : Nat) (x : Adc) : (s.setAdc c x).regs = s.regs := rfl
@[simp] theorem State.setAdc_acts (s : State) (c : Nat) (x : Adc) : (s.setAdc c x).acts = s.acts := rfl
@[simp] theorem State.setAdc_cnts (s : State) (c : Nat) (x : Adc) : (s.setAdc c x).cnts = s.cnts := rfl
@[simp] theorem State.setAdc_snaps (s : State) (c : Nat) (x : Adc) : (s.setAdc c x).snaps = s.snaps := rfl
@[simp] theorem State.setAdc_lat (s : State) (c : Nat) (x : Adc) : (s.setAdc c x).lat = s.lat := rfl
@[simp] theorem State.setAdc_held (s : State) (c : Nat) (x : Adc) : (s.setAdc c x).held = s.held := rfl
@[simp] theorem State.setAdc_rdata (s : State) (c : Nat) (x : Adc) : (s.setAdc c x).rdata = s.rdata := rfl
@[simp] theorem State.setAdc_wins (s : State) (c : Nat) (x : Adc) : (s.setAdc c x).wins = s.wins := rfl
@[simp] theorem State.setAdc_tbl (s : State) (c : Nat) (x : Adc) : (s.setAdc c x).tbl = s.tbl := rfl
@[simp] theorem State.setAdc_vecs (s : State) (c : Nat) (x : Adc) : (s.setAdc c x).vecs = s.vecs := rfl
@[simp] theorem State.setAdc_tsu (s : State) (c : Nat) (x : Adc) : (s.setAdc c x).tsu = s.tsu := rfl
@[simp] theorem State.setAdc_macs (s : State) (c : Nat) (x : Adc) : (s.setAdc c x).macs = s.macs := rfl
@[simp] theorem State.setAdc_egs (s : State) (c : Nat) (x : Adc) : (s.setAdc c x).egs = s.egs := rfl
@[simp] theorem State.setAdc_swc (s : State) (c : Nat) (x : Adc) : (s.setAdc c x).swc = s.swc := rfl
@[simp] theorem State.setAdc_mem (s : State) (c : Nat) (x : Adc) : (s.setAdc c x).mem = s.mem := rfl
@[simp] theorem State.setAdc_mram (s : State) (c : Nat) (x : Adc) : (s.setAdc c x).mram = s.mram := rfl
@[simp] theorem State.setAdc_flips (s : State) (c : Nat) (x : Adc) : (s.setAdc c x).flips = s.flips := rfl
@[simp] theorem State.setAdc_poison (s : State) (c : Nat) (x : Adc) : (s.setAdc c x).poison = s.poison := rfl
@[simp] theorem State.setAdc_memSt (s : State) (c : Nat) (x : Adc) : (s.setAdc c x).memSt = s.memSt := rfl
@[simp] theorem State.setAdc_evr (s : State) (c : Nat) (x : Adc) : (s.setAdc c x).evr = s.evr := rfl
@[simp] theorem State.setAdc_memFenced (s : State) (c : Nat) (x : Adc) : (s.setAdc c x).memFenced = s.memFenced := rfl
@[simp] theorem State.setAdc_sva (s : State) (c : Nat) (x : Adc) : (s.setAdc c x).sva = s.sva := rfl
@[simp] theorem State.setAdc_flt (s : State) (c : Nat) (x : Adc) : (s.setAdc c x).flt = s.flt := rfl
@[simp] theorem State.setAdc_thrCyc (s : State) (c : Nat) (x : Adc) : (s.setAdc c x).thrCyc = s.thrCyc := rfl
@[simp] theorem State.setAdc_thrAcq (s : State) (c : Nat) (x : Adc) : (s.setAdc c x).thrAcq = s.thrAcq := rfl
@[simp] theorem State.setAdc_shunts (s : State) (c : Nat) (x : Adc) : (s.setAdc c x).shunts = s.shunts := rfl
@[simp] theorem State.setAdc_plaus (s : State) (c : Nat) (x : Adc) : (s.setAdc c x).plaus = s.plaus := rfl
@[simp] theorem State.setAdc_img (s : State) (c : Nat) (x : Adc) : (s.setAdc c x).img = s.img := rfl
@[simp] theorem State.setAdc_dir (s : State) (c : Nat) (x : Adc) : (s.setAdc c x).dir = s.dir := rfl
@[simp] theorem State.setAdc_cyc (s : State) (c : Nat) (x : Adc) : (s.setAdc c x).cyc = s.cyc := rfl
@[simp] theorem State.setAdc_hwsIn (s : State) (c : Nat) (x : Adc) : (s.setAdc c x).hwsIn = s.hwsIn := rfl
@[simp] theorem State.setAdc_dup (s : State) (c : Nat) (x : Adc) : (s.setAdc c x).dup = s.dup := rfl
@[simp] theorem State.setAdc_qps (s : State) (c : Nat) (x : Adc) : (s.setAdc c x).qps = s.qps := rfl
@[simp] theorem State.setAdc_ops (s : State) (c : Nat) (x : Adc) : (s.setAdc c x).ops = s.ops := rfl
@[simp] theorem State.setAdc_skds (s : State) (c : Nat) (x : Adc) : (s.setAdc c x).skds = s.skds := rfl
@[simp] theorem State.setAdc_vfs (s : State) (c : Nat) (x : Adc) : (s.setAdc c x).vfs = s.vfs := rfl
@[simp] theorem State.setAdc_migIn (s : State) (c : Nat) (x : Adc) : (s.setAdc c x).migIn = s.migIn := rfl
@[simp] theorem State.setAdc_tals (s : State) (c : Nat) (x : Adc) : (s.setAdc c x).tals = s.tals := rfl
@[simp] theorem State.setAdc_talAts (s : State) (c : Nat) (x : Adc) : (s.setAdc c x).talAts = s.talAts := rfl
@[simp] theorem State.setAdc_dfos (s : State) (c : Nat) (x : Adc) : (s.setAdc c x).dfos = s.dfos := rfl
@[simp] theorem State.setAdc_hws (s : State) (c : Nat) (x : Adc) : (s.setAdc c x).hws = s.hws := rfl
@[simp] theorem State.setAdc_acq (s : State) (c : Nat) (x : Adc) : (s.setAdc c x).acq = s.acq := rfl
@[simp] theorem State.setAdc_acqGoose (s : State) (c : Nat) (x : Adc) : (s.setAdc c x).acqGoose = s.acqGoose := rfl
@[simp] theorem State.setAdc_kslots (s : State) (c : Nat) (x : Adc) : (s.setAdc c x).kslots = s.kslots := rfl
@[simp] theorem State.setAdc_ekeys (s : State) (c : Nat) (x : Adc) : (s.setAdc c x).ekeys = s.ekeys := rfl
@[simp] theorem State.setAdc_ksu (s : State) (c : Nat) (x : Adc) : (s.setAdc c x).ksu = s.ksu := rfl
@[simp] theorem State.setAdc_tmp (s : State) (c : Nat) (x : Adc) : (s.setAdc c x).tmp = s.tmp := rfl
@[simp] theorem State.setAdc_pwr (s : State) (c : Nat) (x : Adc) : (s.setAdc c x).pwr = s.pwr := rfl
@[simp] theorem State.setAdc_rst (s : State) (c : Nat) (x : Adc) : (s.setAdc c x).rst = s.rst := rfl
@[simp] theorem State.setAdc_shf (s : State) (c : Nat) (x : Adc) : (s.setAdc c x).shf = s.shf := rfl
@[simp] theorem State.setAdc_hlt (s : State) (c : Nat) (x : Adc) : (s.setAdc c x).hlt = s.hlt := rfl
@[simp] theorem State.setAdc_out (s : State) (c : Nat) (x : Adc) : (s.setAdc c x).out = s.out := rfl
@[simp] theorem State.setAdc_free (s : State) (c : Nat) (x : Adc) : (s.setAdc c x).free = s.free := rfl
@[simp] theorem State.setAdc_pending (s : State) (c : Nat) (x : Adc) : (s.setAdc c x).pending = s.pending := rfl

/-! ### setKslot -/

@[simp] theorem State.setKslot_ident (s : State) (n : Nat) (k : KSlot) : (s.setKslot n k).ident = s.ident := rfl
@[simp] theorem State.setKslot_hdrs (s : State) (n : Nat) (k : KSlot) : (s.setKslot n k).hdrs = s.hdrs := rfl
@[simp] theorem State.setKslot_regs (s : State) (n : Nat) (k : KSlot) : (s.setKslot n k).regs = s.regs := rfl
@[simp] theorem State.setKslot_acts (s : State) (n : Nat) (k : KSlot) : (s.setKslot n k).acts = s.acts := rfl
@[simp] theorem State.setKslot_cnts (s : State) (n : Nat) (k : KSlot) : (s.setKslot n k).cnts = s.cnts := rfl
@[simp] theorem State.setKslot_snaps (s : State) (n : Nat) (k : KSlot) : (s.setKslot n k).snaps = s.snaps := rfl
@[simp] theorem State.setKslot_lat (s : State) (n : Nat) (k : KSlot) : (s.setKslot n k).lat = s.lat := rfl
@[simp] theorem State.setKslot_held (s : State) (n : Nat) (k : KSlot) : (s.setKslot n k).held = s.held := rfl
@[simp] theorem State.setKslot_rdata (s : State) (n : Nat) (k : KSlot) : (s.setKslot n k).rdata = s.rdata := rfl
@[simp] theorem State.setKslot_wins (s : State) (n : Nat) (k : KSlot) : (s.setKslot n k).wins = s.wins := rfl
@[simp] theorem State.setKslot_tbl (s : State) (n : Nat) (k : KSlot) : (s.setKslot n k).tbl = s.tbl := rfl
@[simp] theorem State.setKslot_vecs (s : State) (n : Nat) (k : KSlot) : (s.setKslot n k).vecs = s.vecs := rfl
@[simp] theorem State.setKslot_tsu (s : State) (n : Nat) (k : KSlot) : (s.setKslot n k).tsu = s.tsu := rfl
@[simp] theorem State.setKslot_macs (s : State) (n : Nat) (k : KSlot) : (s.setKslot n k).macs = s.macs := rfl
@[simp] theorem State.setKslot_egs (s : State) (n : Nat) (k : KSlot) : (s.setKslot n k).egs = s.egs := rfl
@[simp] theorem State.setKslot_swc (s : State) (n : Nat) (k : KSlot) : (s.setKslot n k).swc = s.swc := rfl
@[simp] theorem State.setKslot_mem (s : State) (n : Nat) (k : KSlot) : (s.setKslot n k).mem = s.mem := rfl
@[simp] theorem State.setKslot_mram (s : State) (n : Nat) (k : KSlot) : (s.setKslot n k).mram = s.mram := rfl
@[simp] theorem State.setKslot_flips (s : State) (n : Nat) (k : KSlot) : (s.setKslot n k).flips = s.flips := rfl
@[simp] theorem State.setKslot_poison (s : State) (n : Nat) (k : KSlot) : (s.setKslot n k).poison = s.poison := rfl
@[simp] theorem State.setKslot_memSt (s : State) (n : Nat) (k : KSlot) : (s.setKslot n k).memSt = s.memSt := rfl
@[simp] theorem State.setKslot_evr (s : State) (n : Nat) (k : KSlot) : (s.setKslot n k).evr = s.evr := rfl
@[simp] theorem State.setKslot_memFenced (s : State) (n : Nat) (k : KSlot) : (s.setKslot n k).memFenced = s.memFenced := rfl
@[simp] theorem State.setKslot_sva (s : State) (n : Nat) (k : KSlot) : (s.setKslot n k).sva = s.sva := rfl
@[simp] theorem State.setKslot_flt (s : State) (n : Nat) (k : KSlot) : (s.setKslot n k).flt = s.flt := rfl
@[simp] theorem State.setKslot_thrCyc (s : State) (n : Nat) (k : KSlot) : (s.setKslot n k).thrCyc = s.thrCyc := rfl
@[simp] theorem State.setKslot_thrAcq (s : State) (n : Nat) (k : KSlot) : (s.setKslot n k).thrAcq = s.thrAcq := rfl
@[simp] theorem State.setKslot_adcs (s : State) (n : Nat) (k : KSlot) : (s.setKslot n k).adcs = s.adcs := rfl
@[simp] theorem State.setKslot_shunts (s : State) (n : Nat) (k : KSlot) : (s.setKslot n k).shunts = s.shunts := rfl
@[simp] theorem State.setKslot_plaus (s : State) (n : Nat) (k : KSlot) : (s.setKslot n k).plaus = s.plaus := rfl
@[simp] theorem State.setKslot_img (s : State) (n : Nat) (k : KSlot) : (s.setKslot n k).img = s.img := rfl
@[simp] theorem State.setKslot_dir (s : State) (n : Nat) (k : KSlot) : (s.setKslot n k).dir = s.dir := rfl
@[simp] theorem State.setKslot_cyc (s : State) (n : Nat) (k : KSlot) : (s.setKslot n k).cyc = s.cyc := rfl
@[simp] theorem State.setKslot_hwsIn (s : State) (n : Nat) (k : KSlot) : (s.setKslot n k).hwsIn = s.hwsIn := rfl
@[simp] theorem State.setKslot_dup (s : State) (n : Nat) (k : KSlot) : (s.setKslot n k).dup = s.dup := rfl
@[simp] theorem State.setKslot_qps (s : State) (n : Nat) (k : KSlot) : (s.setKslot n k).qps = s.qps := rfl
@[simp] theorem State.setKslot_ops (s : State) (n : Nat) (k : KSlot) : (s.setKslot n k).ops = s.ops := rfl
@[simp] theorem State.setKslot_skds (s : State) (n : Nat) (k : KSlot) : (s.setKslot n k).skds = s.skds := rfl
@[simp] theorem State.setKslot_vfs (s : State) (n : Nat) (k : KSlot) : (s.setKslot n k).vfs = s.vfs := rfl
@[simp] theorem State.setKslot_migIn (s : State) (n : Nat) (k : KSlot) : (s.setKslot n k).migIn = s.migIn := rfl
@[simp] theorem State.setKslot_tals (s : State) (n : Nat) (k : KSlot) : (s.setKslot n k).tals = s.tals := rfl
@[simp] theorem State.setKslot_talAts (s : State) (n : Nat) (k : KSlot) : (s.setKslot n k).talAts = s.talAts := rfl
@[simp] theorem State.setKslot_dfos (s : State) (n : Nat) (k : KSlot) : (s.setKslot n k).dfos = s.dfos := rfl
@[simp] theorem State.setKslot_hws (s : State) (n : Nat) (k : KSlot) : (s.setKslot n k).hws = s.hws := rfl
@[simp] theorem State.setKslot_acq (s : State) (n : Nat) (k : KSlot) : (s.setKslot n k).acq = s.acq := rfl
@[simp] theorem State.setKslot_acqGoose (s : State) (n : Nat) (k : KSlot) : (s.setKslot n k).acqGoose = s.acqGoose := rfl
@[simp] theorem State.setKslot_ekeys (s : State) (n : Nat) (k : KSlot) : (s.setKslot n k).ekeys = s.ekeys := rfl
@[simp] theorem State.setKslot_ksu (s : State) (n : Nat) (k : KSlot) : (s.setKslot n k).ksu = s.ksu := rfl
@[simp] theorem State.setKslot_tmp (s : State) (n : Nat) (k : KSlot) : (s.setKslot n k).tmp = s.tmp := rfl
@[simp] theorem State.setKslot_pwr (s : State) (n : Nat) (k : KSlot) : (s.setKslot n k).pwr = s.pwr := rfl
@[simp] theorem State.setKslot_rst (s : State) (n : Nat) (k : KSlot) : (s.setKslot n k).rst = s.rst := rfl
@[simp] theorem State.setKslot_shf (s : State) (n : Nat) (k : KSlot) : (s.setKslot n k).shf = s.shf := rfl
@[simp] theorem State.setKslot_hlt (s : State) (n : Nat) (k : KSlot) : (s.setKslot n k).hlt = s.hlt := rfl
@[simp] theorem State.setKslot_out (s : State) (n : Nat) (k : KSlot) : (s.setKslot n k).out = s.out := rfl
@[simp] theorem State.setKslot_free (s : State) (n : Nat) (k : KSlot) : (s.setKslot n k).free = s.free := rfl
@[simp] theorem State.setKslot_pending (s : State) (n : Nat) (k : KSlot) : (s.setKslot n k).pending = s.pending := rfl

/-! ### setMac -/

@[simp] theorem State.setMac_ident (s : State) (p : Nat) (m : Mac) : (s.setMac p m).ident = s.ident := rfl
@[simp] theorem State.setMac_hdrs (s : State) (p : Nat) (m : Mac) : (s.setMac p m).hdrs = s.hdrs := rfl
@[simp] theorem State.setMac_regs (s : State) (p : Nat) (m : Mac) : (s.setMac p m).regs = s.regs := rfl
@[simp] theorem State.setMac_acts (s : State) (p : Nat) (m : Mac) : (s.setMac p m).acts = s.acts := rfl
@[simp] theorem State.setMac_cnts (s : State) (p : Nat) (m : Mac) : (s.setMac p m).cnts = s.cnts := rfl
@[simp] theorem State.setMac_snaps (s : State) (p : Nat) (m : Mac) : (s.setMac p m).snaps = s.snaps := rfl
@[simp] theorem State.setMac_lat (s : State) (p : Nat) (m : Mac) : (s.setMac p m).lat = s.lat := rfl
@[simp] theorem State.setMac_held (s : State) (p : Nat) (m : Mac) : (s.setMac p m).held = s.held := rfl
@[simp] theorem State.setMac_rdata (s : State) (p : Nat) (m : Mac) : (s.setMac p m).rdata = s.rdata := rfl
@[simp] theorem State.setMac_wins (s : State) (p : Nat) (m : Mac) : (s.setMac p m).wins = s.wins := rfl
@[simp] theorem State.setMac_tbl (s : State) (p : Nat) (m : Mac) : (s.setMac p m).tbl = s.tbl := rfl
@[simp] theorem State.setMac_vecs (s : State) (p : Nat) (m : Mac) : (s.setMac p m).vecs = s.vecs := rfl
@[simp] theorem State.setMac_tsu (s : State) (p : Nat) (m : Mac) : (s.setMac p m).tsu = s.tsu := rfl
@[simp] theorem State.setMac_egs (s : State) (p : Nat) (m : Mac) : (s.setMac p m).egs = s.egs := rfl
@[simp] theorem State.setMac_swc (s : State) (p : Nat) (m : Mac) : (s.setMac p m).swc = s.swc := rfl
@[simp] theorem State.setMac_mem (s : State) (p : Nat) (m : Mac) : (s.setMac p m).mem = s.mem := rfl
@[simp] theorem State.setMac_mram (s : State) (p : Nat) (m : Mac) : (s.setMac p m).mram = s.mram := rfl
@[simp] theorem State.setMac_flips (s : State) (p : Nat) (m : Mac) : (s.setMac p m).flips = s.flips := rfl
@[simp] theorem State.setMac_poison (s : State) (p : Nat) (m : Mac) : (s.setMac p m).poison = s.poison := rfl
@[simp] theorem State.setMac_memSt (s : State) (p : Nat) (m : Mac) : (s.setMac p m).memSt = s.memSt := rfl
@[simp] theorem State.setMac_evr (s : State) (p : Nat) (m : Mac) : (s.setMac p m).evr = s.evr := rfl
@[simp] theorem State.setMac_memFenced (s : State) (p : Nat) (m : Mac) : (s.setMac p m).memFenced = s.memFenced := rfl
@[simp] theorem State.setMac_sva (s : State) (p : Nat) (m : Mac) : (s.setMac p m).sva = s.sva := rfl
@[simp] theorem State.setMac_flt (s : State) (p : Nat) (m : Mac) : (s.setMac p m).flt = s.flt := rfl
@[simp] theorem State.setMac_thrCyc (s : State) (p : Nat) (m : Mac) : (s.setMac p m).thrCyc = s.thrCyc := rfl
@[simp] theorem State.setMac_thrAcq (s : State) (p : Nat) (m : Mac) : (s.setMac p m).thrAcq = s.thrAcq := rfl
@[simp] theorem State.setMac_adcs (s : State) (p : Nat) (m : Mac) : (s.setMac p m).adcs = s.adcs := rfl
@[simp] theorem State.setMac_shunts (s : State) (p : Nat) (m : Mac) : (s.setMac p m).shunts = s.shunts := rfl
@[simp] theorem State.setMac_plaus (s : State) (p : Nat) (m : Mac) : (s.setMac p m).plaus = s.plaus := rfl
@[simp] theorem State.setMac_img (s : State) (p : Nat) (m : Mac) : (s.setMac p m).img = s.img := rfl
@[simp] theorem State.setMac_dir (s : State) (p : Nat) (m : Mac) : (s.setMac p m).dir = s.dir := rfl
@[simp] theorem State.setMac_cyc (s : State) (p : Nat) (m : Mac) : (s.setMac p m).cyc = s.cyc := rfl
@[simp] theorem State.setMac_hwsIn (s : State) (p : Nat) (m : Mac) : (s.setMac p m).hwsIn = s.hwsIn := rfl
@[simp] theorem State.setMac_dup (s : State) (p : Nat) (m : Mac) : (s.setMac p m).dup = s.dup := rfl
@[simp] theorem State.setMac_qps (s : State) (p : Nat) (m : Mac) : (s.setMac p m).qps = s.qps := rfl
@[simp] theorem State.setMac_ops (s : State) (p : Nat) (m : Mac) : (s.setMac p m).ops = s.ops := rfl
@[simp] theorem State.setMac_skds (s : State) (p : Nat) (m : Mac) : (s.setMac p m).skds = s.skds := rfl
@[simp] theorem State.setMac_vfs (s : State) (p : Nat) (m : Mac) : (s.setMac p m).vfs = s.vfs := rfl
@[simp] theorem State.setMac_migIn (s : State) (p : Nat) (m : Mac) : (s.setMac p m).migIn = s.migIn := rfl
@[simp] theorem State.setMac_tals (s : State) (p : Nat) (m : Mac) : (s.setMac p m).tals = s.tals := rfl
@[simp] theorem State.setMac_talAts (s : State) (p : Nat) (m : Mac) : (s.setMac p m).talAts = s.talAts := rfl
@[simp] theorem State.setMac_dfos (s : State) (p : Nat) (m : Mac) : (s.setMac p m).dfos = s.dfos := rfl
@[simp] theorem State.setMac_hws (s : State) (p : Nat) (m : Mac) : (s.setMac p m).hws = s.hws := rfl
@[simp] theorem State.setMac_acq (s : State) (p : Nat) (m : Mac) : (s.setMac p m).acq = s.acq := rfl
@[simp] theorem State.setMac_acqGoose (s : State) (p : Nat) (m : Mac) : (s.setMac p m).acqGoose = s.acqGoose := rfl
@[simp] theorem State.setMac_kslots (s : State) (p : Nat) (m : Mac) : (s.setMac p m).kslots = s.kslots := rfl
@[simp] theorem State.setMac_ekeys (s : State) (p : Nat) (m : Mac) : (s.setMac p m).ekeys = s.ekeys := rfl
@[simp] theorem State.setMac_ksu (s : State) (p : Nat) (m : Mac) : (s.setMac p m).ksu = s.ksu := rfl
@[simp] theorem State.setMac_tmp (s : State) (p : Nat) (m : Mac) : (s.setMac p m).tmp = s.tmp := rfl
@[simp] theorem State.setMac_pwr (s : State) (p : Nat) (m : Mac) : (s.setMac p m).pwr = s.pwr := rfl
@[simp] theorem State.setMac_rst (s : State) (p : Nat) (m : Mac) : (s.setMac p m).rst = s.rst := rfl
@[simp] theorem State.setMac_shf (s : State) (p : Nat) (m : Mac) : (s.setMac p m).shf = s.shf := rfl
@[simp] theorem State.setMac_hlt (s : State) (p : Nat) (m : Mac) : (s.setMac p m).hlt = s.hlt := rfl
@[simp] theorem State.setMac_out (s : State) (p : Nat) (m : Mac) : (s.setMac p m).out = s.out := rfl
@[simp] theorem State.setMac_free (s : State) (p : Nat) (m : Mac) : (s.setMac p m).free = s.free := rfl
@[simp] theorem State.setMac_pending (s : State) (p : Nat) (m : Mac) : (s.setMac p m).pending = s.pending := rfl

/-! ### setEg -/

@[simp] theorem State.setEg_ident (s : State) (e : Nat) (x : EgPort) : (s.setEg e x).ident = s.ident := rfl
@[simp] theorem State.setEg_hdrs (s : State) (e : Nat) (x : EgPort) : (s.setEg e x).hdrs = s.hdrs := rfl
@[simp] theorem State.setEg_regs (s : State) (e : Nat) (x : EgPort) : (s.setEg e x).regs = s.regs := rfl
@[simp] theorem State.setEg_acts (s : State) (e : Nat) (x : EgPort) : (s.setEg e x).acts = s.acts := rfl
@[simp] theorem State.setEg_cnts (s : State) (e : Nat) (x : EgPort) : (s.setEg e x).cnts = s.cnts := rfl
@[simp] theorem State.setEg_snaps (s : State) (e : Nat) (x : EgPort) : (s.setEg e x).snaps = s.snaps := rfl
@[simp] theorem State.setEg_lat (s : State) (e : Nat) (x : EgPort) : (s.setEg e x).lat = s.lat := rfl
@[simp] theorem State.setEg_held (s : State) (e : Nat) (x : EgPort) : (s.setEg e x).held = s.held := rfl
@[simp] theorem State.setEg_rdata (s : State) (e : Nat) (x : EgPort) : (s.setEg e x).rdata = s.rdata := rfl
@[simp] theorem State.setEg_wins (s : State) (e : Nat) (x : EgPort) : (s.setEg e x).wins = s.wins := rfl
@[simp] theorem State.setEg_tbl (s : State) (e : Nat) (x : EgPort) : (s.setEg e x).tbl = s.tbl := rfl
@[simp] theorem State.setEg_vecs (s : State) (e : Nat) (x : EgPort) : (s.setEg e x).vecs = s.vecs := rfl
@[simp] theorem State.setEg_tsu (s : State) (e : Nat) (x : EgPort) : (s.setEg e x).tsu = s.tsu := rfl
@[simp] theorem State.setEg_macs (s : State) (e : Nat) (x : EgPort) : (s.setEg e x).macs = s.macs := rfl
@[simp] theorem State.setEg_swc (s : State) (e : Nat) (x : EgPort) : (s.setEg e x).swc = s.swc := rfl
@[simp] theorem State.setEg_mem (s : State) (e : Nat) (x : EgPort) : (s.setEg e x).mem = s.mem := rfl
@[simp] theorem State.setEg_mram (s : State) (e : Nat) (x : EgPort) : (s.setEg e x).mram = s.mram := rfl
@[simp] theorem State.setEg_flips (s : State) (e : Nat) (x : EgPort) : (s.setEg e x).flips = s.flips := rfl
@[simp] theorem State.setEg_poison (s : State) (e : Nat) (x : EgPort) : (s.setEg e x).poison = s.poison := rfl
@[simp] theorem State.setEg_memSt (s : State) (e : Nat) (x : EgPort) : (s.setEg e x).memSt = s.memSt := rfl
@[simp] theorem State.setEg_evr (s : State) (e : Nat) (x : EgPort) : (s.setEg e x).evr = s.evr := rfl
@[simp] theorem State.setEg_memFenced (s : State) (e : Nat) (x : EgPort) : (s.setEg e x).memFenced = s.memFenced := rfl
@[simp] theorem State.setEg_sva (s : State) (e : Nat) (x : EgPort) : (s.setEg e x).sva = s.sva := rfl
@[simp] theorem State.setEg_flt (s : State) (e : Nat) (x : EgPort) : (s.setEg e x).flt = s.flt := rfl
@[simp] theorem State.setEg_thrCyc (s : State) (e : Nat) (x : EgPort) : (s.setEg e x).thrCyc = s.thrCyc := rfl
@[simp] theorem State.setEg_thrAcq (s : State) (e : Nat) (x : EgPort) : (s.setEg e x).thrAcq = s.thrAcq := rfl
@[simp] theorem State.setEg_adcs (s : State) (e : Nat) (x : EgPort) : (s.setEg e x).adcs = s.adcs := rfl
@[simp] theorem State.setEg_shunts (s : State) (e : Nat) (x : EgPort) : (s.setEg e x).shunts = s.shunts := rfl
@[simp] theorem State.setEg_plaus (s : State) (e : Nat) (x : EgPort) : (s.setEg e x).plaus = s.plaus := rfl
@[simp] theorem State.setEg_img (s : State) (e : Nat) (x : EgPort) : (s.setEg e x).img = s.img := rfl
@[simp] theorem State.setEg_dir (s : State) (e : Nat) (x : EgPort) : (s.setEg e x).dir = s.dir := rfl
@[simp] theorem State.setEg_cyc (s : State) (e : Nat) (x : EgPort) : (s.setEg e x).cyc = s.cyc := rfl
@[simp] theorem State.setEg_hwsIn (s : State) (e : Nat) (x : EgPort) : (s.setEg e x).hwsIn = s.hwsIn := rfl
@[simp] theorem State.setEg_dup (s : State) (e : Nat) (x : EgPort) : (s.setEg e x).dup = s.dup := rfl
@[simp] theorem State.setEg_qps (s : State) (e : Nat) (x : EgPort) : (s.setEg e x).qps = s.qps := rfl
@[simp] theorem State.setEg_ops (s : State) (e : Nat) (x : EgPort) : (s.setEg e x).ops = s.ops := rfl
@[simp] theorem State.setEg_skds (s : State) (e : Nat) (x : EgPort) : (s.setEg e x).skds = s.skds := rfl
@[simp] theorem State.setEg_vfs (s : State) (e : Nat) (x : EgPort) : (s.setEg e x).vfs = s.vfs := rfl
@[simp] theorem State.setEg_migIn (s : State) (e : Nat) (x : EgPort) : (s.setEg e x).migIn = s.migIn := rfl
@[simp] theorem State.setEg_tals (s : State) (e : Nat) (x : EgPort) : (s.setEg e x).tals = s.tals := rfl
@[simp] theorem State.setEg_talAts (s : State) (e : Nat) (x : EgPort) : (s.setEg e x).talAts = s.talAts := rfl
@[simp] theorem State.setEg_dfos (s : State) (e : Nat) (x : EgPort) : (s.setEg e x).dfos = s.dfos := rfl
@[simp] theorem State.setEg_hws (s : State) (e : Nat) (x : EgPort) : (s.setEg e x).hws = s.hws := rfl
@[simp] theorem State.setEg_acq (s : State) (e : Nat) (x : EgPort) : (s.setEg e x).acq = s.acq := rfl
@[simp] theorem State.setEg_acqGoose (s : State) (e : Nat) (x : EgPort) : (s.setEg e x).acqGoose = s.acqGoose := rfl
@[simp] theorem State.setEg_kslots (s : State) (e : Nat) (x : EgPort) : (s.setEg e x).kslots = s.kslots := rfl
@[simp] theorem State.setEg_ekeys (s : State) (e : Nat) (x : EgPort) : (s.setEg e x).ekeys = s.ekeys := rfl
@[simp] theorem State.setEg_ksu (s : State) (e : Nat) (x : EgPort) : (s.setEg e x).ksu = s.ksu := rfl
@[simp] theorem State.setEg_tmp (s : State) (e : Nat) (x : EgPort) : (s.setEg e x).tmp = s.tmp := rfl
@[simp] theorem State.setEg_pwr (s : State) (e : Nat) (x : EgPort) : (s.setEg e x).pwr = s.pwr := rfl
@[simp] theorem State.setEg_rst (s : State) (e : Nat) (x : EgPort) : (s.setEg e x).rst = s.rst := rfl
@[simp] theorem State.setEg_shf (s : State) (e : Nat) (x : EgPort) : (s.setEg e x).shf = s.shf := rfl
@[simp] theorem State.setEg_hlt (s : State) (e : Nat) (x : EgPort) : (s.setEg e x).hlt = s.hlt := rfl
@[simp] theorem State.setEg_out (s : State) (e : Nat) (x : EgPort) : (s.setEg e x).out = s.out := rfl
@[simp] theorem State.setEg_free (s : State) (e : Nat) (x : EgPort) : (s.setEg e x).free = s.free := rfl
@[simp] theorem State.setEg_pending (s : State) (e : Nat) (x : EgPort) : (s.setEg e x).pending = s.pending := rfl

/-! ### setFe -/

@[simp] theorem State.setFe_ident (s : State) (e : Nat) (x : FltEng) : (s.setFe e x).ident = s.ident := rfl
@[simp] theorem State.setFe_hdrs (s : State) (e : Nat) (x : FltEng) : (s.setFe e x).hdrs = s.hdrs := rfl
@[simp] theorem State.setFe_regs (s : State) (e : Nat) (x : FltEng) : (s.setFe e x).regs = s.regs := rfl
@[simp] theorem State.setFe_acts (s : State) (e : Nat) (x : FltEng) : (s.setFe e x).acts = s.acts := rfl
@[simp] theorem State.setFe_cnts (s : State) (e : Nat) (x : FltEng) : (s.setFe e x).cnts = s.cnts := rfl
@[simp] theorem State.setFe_snaps (s : State) (e : Nat) (x : FltEng) : (s.setFe e x).snaps = s.snaps := rfl
@[simp] theorem State.setFe_lat (s : State) (e : Nat) (x : FltEng) : (s.setFe e x).lat = s.lat := rfl
@[simp] theorem State.setFe_held (s : State) (e : Nat) (x : FltEng) : (s.setFe e x).held = s.held := rfl
@[simp] theorem State.setFe_rdata (s : State) (e : Nat) (x : FltEng) : (s.setFe e x).rdata = s.rdata := rfl
@[simp] theorem State.setFe_wins (s : State) (e : Nat) (x : FltEng) : (s.setFe e x).wins = s.wins := rfl
@[simp] theorem State.setFe_tbl (s : State) (e : Nat) (x : FltEng) : (s.setFe e x).tbl = s.tbl := rfl
@[simp] theorem State.setFe_vecs (s : State) (e : Nat) (x : FltEng) : (s.setFe e x).vecs = s.vecs := rfl
@[simp] theorem State.setFe_tsu (s : State) (e : Nat) (x : FltEng) : (s.setFe e x).tsu = s.tsu := rfl
@[simp] theorem State.setFe_macs (s : State) (e : Nat) (x : FltEng) : (s.setFe e x).macs = s.macs := rfl
@[simp] theorem State.setFe_egs (s : State) (e : Nat) (x : FltEng) : (s.setFe e x).egs = s.egs := rfl
@[simp] theorem State.setFe_swc (s : State) (e : Nat) (x : FltEng) : (s.setFe e x).swc = s.swc := rfl
@[simp] theorem State.setFe_mem (s : State) (e : Nat) (x : FltEng) : (s.setFe e x).mem = s.mem := rfl
@[simp] theorem State.setFe_mram (s : State) (e : Nat) (x : FltEng) : (s.setFe e x).mram = s.mram := rfl
@[simp] theorem State.setFe_flips (s : State) (e : Nat) (x : FltEng) : (s.setFe e x).flips = s.flips := rfl
@[simp] theorem State.setFe_poison (s : State) (e : Nat) (x : FltEng) : (s.setFe e x).poison = s.poison := rfl
@[simp] theorem State.setFe_memSt (s : State) (e : Nat) (x : FltEng) : (s.setFe e x).memSt = s.memSt := rfl
@[simp] theorem State.setFe_evr (s : State) (e : Nat) (x : FltEng) : (s.setFe e x).evr = s.evr := rfl
@[simp] theorem State.setFe_memFenced (s : State) (e : Nat) (x : FltEng) : (s.setFe e x).memFenced = s.memFenced := rfl
@[simp] theorem State.setFe_sva (s : State) (e : Nat) (x : FltEng) : (s.setFe e x).sva = s.sva := rfl
@[simp] theorem State.setFe_thrCyc (s : State) (e : Nat) (x : FltEng) : (s.setFe e x).thrCyc = s.thrCyc := rfl
@[simp] theorem State.setFe_thrAcq (s : State) (e : Nat) (x : FltEng) : (s.setFe e x).thrAcq = s.thrAcq := rfl
@[simp] theorem State.setFe_adcs (s : State) (e : Nat) (x : FltEng) : (s.setFe e x).adcs = s.adcs := rfl
@[simp] theorem State.setFe_shunts (s : State) (e : Nat) (x : FltEng) : (s.setFe e x).shunts = s.shunts := rfl
@[simp] theorem State.setFe_plaus (s : State) (e : Nat) (x : FltEng) : (s.setFe e x).plaus = s.plaus := rfl
@[simp] theorem State.setFe_img (s : State) (e : Nat) (x : FltEng) : (s.setFe e x).img = s.img := rfl
@[simp] theorem State.setFe_dir (s : State) (e : Nat) (x : FltEng) : (s.setFe e x).dir = s.dir := rfl
@[simp] theorem State.setFe_cyc (s : State) (e : Nat) (x : FltEng) : (s.setFe e x).cyc = s.cyc := rfl
@[simp] theorem State.setFe_hwsIn (s : State) (e : Nat) (x : FltEng) : (s.setFe e x).hwsIn = s.hwsIn := rfl
@[simp] theorem State.setFe_dup (s : State) (e : Nat) (x : FltEng) : (s.setFe e x).dup = s.dup := rfl
@[simp] theorem State.setFe_qps (s : State) (e : Nat) (x : FltEng) : (s.setFe e x).qps = s.qps := rfl
@[simp] theorem State.setFe_ops (s : State) (e : Nat) (x : FltEng) : (s.setFe e x).ops = s.ops := rfl
@[simp] theorem State.setFe_skds (s : State) (e : Nat) (x : FltEng) : (s.setFe e x).skds = s.skds := rfl
@[simp] theorem State.setFe_vfs (s : State) (e : Nat) (x : FltEng) : (s.setFe e x).vfs = s.vfs := rfl
@[simp] theorem State.setFe_migIn (s : State) (e : Nat) (x : FltEng) : (s.setFe e x).migIn = s.migIn := rfl
@[simp] theorem State.setFe_tals (s : State) (e : Nat) (x : FltEng) : (s.setFe e x).tals = s.tals := rfl
@[simp] theorem State.setFe_talAts (s : State) (e : Nat) (x : FltEng) : (s.setFe e x).talAts = s.talAts := rfl
@[simp] theorem State.setFe_dfos (s : State) (e : Nat) (x : FltEng) : (s.setFe e x).dfos = s.dfos := rfl
@[simp] theorem State.setFe_hws (s : State) (e : Nat) (x : FltEng) : (s.setFe e x).hws = s.hws := rfl
@[simp] theorem State.setFe_acq (s : State) (e : Nat) (x : FltEng) : (s.setFe e x).acq = s.acq := rfl
@[simp] theorem State.setFe_acqGoose (s : State) (e : Nat) (x : FltEng) : (s.setFe e x).acqGoose = s.acqGoose := rfl
@[simp] theorem State.setFe_kslots (s : State) (e : Nat) (x : FltEng) : (s.setFe e x).kslots = s.kslots := rfl
@[simp] theorem State.setFe_ekeys (s : State) (e : Nat) (x : FltEng) : (s.setFe e x).ekeys = s.ekeys := rfl
@[simp] theorem State.setFe_ksu (s : State) (e : Nat) (x : FltEng) : (s.setFe e x).ksu = s.ksu := rfl
@[simp] theorem State.setFe_tmp (s : State) (e : Nat) (x : FltEng) : (s.setFe e x).tmp = s.tmp := rfl
@[simp] theorem State.setFe_pwr (s : State) (e : Nat) (x : FltEng) : (s.setFe e x).pwr = s.pwr := rfl
@[simp] theorem State.setFe_rst (s : State) (e : Nat) (x : FltEng) : (s.setFe e x).rst = s.rst := rfl
@[simp] theorem State.setFe_shf (s : State) (e : Nat) (x : FltEng) : (s.setFe e x).shf = s.shf := rfl
@[simp] theorem State.setFe_hlt (s : State) (e : Nat) (x : FltEng) : (s.setFe e x).hlt = s.hlt := rfl
@[simp] theorem State.setFe_out (s : State) (e : Nat) (x : FltEng) : (s.setFe e x).out = s.out := rfl
@[simp] theorem State.setFe_free (s : State) (e : Nat) (x : FltEng) : (s.setFe e x).free = s.free := rfl
@[simp] theorem State.setFe_pending (s : State) (e : Nat) (x : FltEng) : (s.setFe e x).pending = s.pending := rfl

/-! ### setTe -/

@[simp] theorem State.setTe_ident (s : State) (e : Nat) (x : TalEng) : (s.setTe e x).ident = s.ident := rfl
@[simp] theorem State.setTe_hdrs (s : State) (e : Nat) (x : TalEng) : (s.setTe e x).hdrs = s.hdrs := rfl
@[simp] theorem State.setTe_regs (s : State) (e : Nat) (x : TalEng) : (s.setTe e x).regs = s.regs := rfl
@[simp] theorem State.setTe_acts (s : State) (e : Nat) (x : TalEng) : (s.setTe e x).acts = s.acts := rfl
@[simp] theorem State.setTe_cnts (s : State) (e : Nat) (x : TalEng) : (s.setTe e x).cnts = s.cnts := rfl
@[simp] theorem State.setTe_snaps (s : State) (e : Nat) (x : TalEng) : (s.setTe e x).snaps = s.snaps := rfl
@[simp] theorem State.setTe_lat (s : State) (e : Nat) (x : TalEng) : (s.setTe e x).lat = s.lat := rfl
@[simp] theorem State.setTe_held (s : State) (e : Nat) (x : TalEng) : (s.setTe e x).held = s.held := rfl
@[simp] theorem State.setTe_rdata (s : State) (e : Nat) (x : TalEng) : (s.setTe e x).rdata = s.rdata := rfl
@[simp] theorem State.setTe_wins (s : State) (e : Nat) (x : TalEng) : (s.setTe e x).wins = s.wins := rfl
@[simp] theorem State.setTe_tbl (s : State) (e : Nat) (x : TalEng) : (s.setTe e x).tbl = s.tbl := rfl
@[simp] theorem State.setTe_vecs (s : State) (e : Nat) (x : TalEng) : (s.setTe e x).vecs = s.vecs := rfl
@[simp] theorem State.setTe_tsu (s : State) (e : Nat) (x : TalEng) : (s.setTe e x).tsu = s.tsu := rfl
@[simp] theorem State.setTe_macs (s : State) (e : Nat) (x : TalEng) : (s.setTe e x).macs = s.macs := rfl
@[simp] theorem State.setTe_egs (s : State) (e : Nat) (x : TalEng) : (s.setTe e x).egs = s.egs := rfl
@[simp] theorem State.setTe_swc (s : State) (e : Nat) (x : TalEng) : (s.setTe e x).swc = s.swc := rfl
@[simp] theorem State.setTe_mem (s : State) (e : Nat) (x : TalEng) : (s.setTe e x).mem = s.mem := rfl
@[simp] theorem State.setTe_mram (s : State) (e : Nat) (x : TalEng) : (s.setTe e x).mram = s.mram := rfl
@[simp] theorem State.setTe_flips (s : State) (e : Nat) (x : TalEng) : (s.setTe e x).flips = s.flips := rfl
@[simp] theorem State.setTe_poison (s : State) (e : Nat) (x : TalEng) : (s.setTe e x).poison = s.poison := rfl
@[simp] theorem State.setTe_memSt (s : State) (e : Nat) (x : TalEng) : (s.setTe e x).memSt = s.memSt := rfl
@[simp] theorem State.setTe_evr (s : State) (e : Nat) (x : TalEng) : (s.setTe e x).evr = s.evr := rfl
@[simp] theorem State.setTe_memFenced (s : State) (e : Nat) (x : TalEng) : (s.setTe e x).memFenced = s.memFenced := rfl
@[simp] theorem State.setTe_sva (s : State) (e : Nat) (x : TalEng) : (s.setTe e x).sva = s.sva := rfl
@[simp] theorem State.setTe_flt (s : State) (e : Nat) (x : TalEng) : (s.setTe e x).flt = s.flt := rfl
@[simp] theorem State.setTe_thrCyc (s : State) (e : Nat) (x : TalEng) : (s.setTe e x).thrCyc = s.thrCyc := rfl
@[simp] theorem State.setTe_thrAcq (s : State) (e : Nat) (x : TalEng) : (s.setTe e x).thrAcq = s.thrAcq := rfl
@[simp] theorem State.setTe_adcs (s : State) (e : Nat) (x : TalEng) : (s.setTe e x).adcs = s.adcs := rfl
@[simp] theorem State.setTe_shunts (s : State) (e : Nat) (x : TalEng) : (s.setTe e x).shunts = s.shunts := rfl
@[simp] theorem State.setTe_plaus (s : State) (e : Nat) (x : TalEng) : (s.setTe e x).plaus = s.plaus := rfl
@[simp] theorem State.setTe_img (s : State) (e : Nat) (x : TalEng) : (s.setTe e x).img = s.img := rfl
@[simp] theorem State.setTe_dir (s : State) (e : Nat) (x : TalEng) : (s.setTe e x).dir = s.dir := rfl
@[simp] theorem State.setTe_cyc (s : State) (e : Nat) (x : TalEng) : (s.setTe e x).cyc = s.cyc := rfl
@[simp] theorem State.setTe_hwsIn (s : State) (e : Nat) (x : TalEng) : (s.setTe e x).hwsIn = s.hwsIn := rfl
@[simp] theorem State.setTe_dup (s : State) (e : Nat) (x : TalEng) : (s.setTe e x).dup = s.dup := rfl
@[simp] theorem State.setTe_qps (s : State) (e : Nat) (x : TalEng) : (s.setTe e x).qps = s.qps := rfl
@[simp] theorem State.setTe_ops (s : State) (e : Nat) (x : TalEng) : (s.setTe e x).ops = s.ops := rfl
@[simp] theorem State.setTe_skds (s : State) (e : Nat) (x : TalEng) : (s.setTe e x).skds = s.skds := rfl
@[simp] theorem State.setTe_vfs (s : State) (e : Nat) (x : TalEng) : (s.setTe e x).vfs = s.vfs := rfl
@[simp] theorem State.setTe_migIn (s : State) (e : Nat) (x : TalEng) : (s.setTe e x).migIn = s.migIn := rfl
@[simp] theorem State.setTe_talAts (s : State) (e : Nat) (x : TalEng) : (s.setTe e x).talAts = s.talAts := rfl
@[simp] theorem State.setTe_dfos (s : State) (e : Nat) (x : TalEng) : (s.setTe e x).dfos = s.dfos := rfl
@[simp] theorem State.setTe_hws (s : State) (e : Nat) (x : TalEng) : (s.setTe e x).hws = s.hws := rfl
@[simp] theorem State.setTe_acq (s : State) (e : Nat) (x : TalEng) : (s.setTe e x).acq = s.acq := rfl
@[simp] theorem State.setTe_acqGoose (s : State) (e : Nat) (x : TalEng) : (s.setTe e x).acqGoose = s.acqGoose := rfl
@[simp] theorem State.setTe_kslots (s : State) (e : Nat) (x : TalEng) : (s.setTe e x).kslots = s.kslots := rfl
@[simp] theorem State.setTe_ekeys (s : State) (e : Nat) (x : TalEng) : (s.setTe e x).ekeys = s.ekeys := rfl
@[simp] theorem State.setTe_ksu (s : State) (e : Nat) (x : TalEng) : (s.setTe e x).ksu = s.ksu := rfl
@[simp] theorem State.setTe_tmp (s : State) (e : Nat) (x : TalEng) : (s.setTe e x).tmp = s.tmp := rfl
@[simp] theorem State.setTe_pwr (s : State) (e : Nat) (x : TalEng) : (s.setTe e x).pwr = s.pwr := rfl
@[simp] theorem State.setTe_rst (s : State) (e : Nat) (x : TalEng) : (s.setTe e x).rst = s.rst := rfl
@[simp] theorem State.setTe_shf (s : State) (e : Nat) (x : TalEng) : (s.setTe e x).shf = s.shf := rfl
@[simp] theorem State.setTe_hlt (s : State) (e : Nat) (x : TalEng) : (s.setTe e x).hlt = s.hlt := rfl
@[simp] theorem State.setTe_out (s : State) (e : Nat) (x : TalEng) : (s.setTe e x).out = s.out := rfl
@[simp] theorem State.setTe_free (s : State) (e : Nat) (x : TalEng) : (s.setTe e x).free = s.free := rfl
@[simp] theorem State.setTe_pending (s : State) (e : Nat) (x : TalEng) : (s.setTe e x).pending = s.pending := rfl

/-! ### setDfo -/

@[simp] theorem State.setDfo_ident (s : State) (n : Nat) (x : Dfo) : (s.setDfo n x).ident = s.ident := rfl
@[simp] theorem State.setDfo_hdrs (s : State) (n : Nat) (x : Dfo) : (s.setDfo n x).hdrs = s.hdrs := rfl
@[simp] theorem State.setDfo_regs (s : State) (n : Nat) (x : Dfo) : (s.setDfo n x).regs = s.regs := rfl
@[simp] theorem State.setDfo_acts (s : State) (n : Nat) (x : Dfo) : (s.setDfo n x).acts = s.acts := rfl
@[simp] theorem State.setDfo_cnts (s : State) (n : Nat) (x : Dfo) : (s.setDfo n x).cnts = s.cnts := rfl
@[simp] theorem State.setDfo_snaps (s : State) (n : Nat) (x : Dfo) : (s.setDfo n x).snaps = s.snaps := rfl
@[simp] theorem State.setDfo_lat (s : State) (n : Nat) (x : Dfo) : (s.setDfo n x).lat = s.lat := rfl
@[simp] theorem State.setDfo_held (s : State) (n : Nat) (x : Dfo) : (s.setDfo n x).held = s.held := rfl
@[simp] theorem State.setDfo_rdata (s : State) (n : Nat) (x : Dfo) : (s.setDfo n x).rdata = s.rdata := rfl
@[simp] theorem State.setDfo_wins (s : State) (n : Nat) (x : Dfo) : (s.setDfo n x).wins = s.wins := rfl
@[simp] theorem State.setDfo_tbl (s : State) (n : Nat) (x : Dfo) : (s.setDfo n x).tbl = s.tbl := rfl
@[simp] theorem State.setDfo_vecs (s : State) (n : Nat) (x : Dfo) : (s.setDfo n x).vecs = s.vecs := rfl
@[simp] theorem State.setDfo_tsu (s : State) (n : Nat) (x : Dfo) : (s.setDfo n x).tsu = s.tsu := rfl
@[simp] theorem State.setDfo_macs (s : State) (n : Nat) (x : Dfo) : (s.setDfo n x).macs = s.macs := rfl
@[simp] theorem State.setDfo_egs (s : State) (n : Nat) (x : Dfo) : (s.setDfo n x).egs = s.egs := rfl
@[simp] theorem State.setDfo_swc (s : State) (n : Nat) (x : Dfo) : (s.setDfo n x).swc = s.swc := rfl
@[simp] theorem State.setDfo_mem (s : State) (n : Nat) (x : Dfo) : (s.setDfo n x).mem = s.mem := rfl
@[simp] theorem State.setDfo_mram (s : State) (n : Nat) (x : Dfo) : (s.setDfo n x).mram = s.mram := rfl
@[simp] theorem State.setDfo_flips (s : State) (n : Nat) (x : Dfo) : (s.setDfo n x).flips = s.flips := rfl
@[simp] theorem State.setDfo_poison (s : State) (n : Nat) (x : Dfo) : (s.setDfo n x).poison = s.poison := rfl
@[simp] theorem State.setDfo_memSt (s : State) (n : Nat) (x : Dfo) : (s.setDfo n x).memSt = s.memSt := rfl
@[simp] theorem State.setDfo_evr (s : State) (n : Nat) (x : Dfo) : (s.setDfo n x).evr = s.evr := rfl
@[simp] theorem State.setDfo_memFenced (s : State) (n : Nat) (x : Dfo) : (s.setDfo n x).memFenced = s.memFenced := rfl
@[simp] theorem State.setDfo_sva (s : State) (n : Nat) (x : Dfo) : (s.setDfo n x).sva = s.sva := rfl
@[simp] theorem State.setDfo_flt (s : State) (n : Nat) (x : Dfo) : (s.setDfo n x).flt = s.flt := rfl
@[simp] theorem State.setDfo_thrCyc (s : State) (n : Nat) (x : Dfo) : (s.setDfo n x).thrCyc = s.thrCyc := rfl
@[simp] theorem State.setDfo_thrAcq (s : State) (n : Nat) (x : Dfo) : (s.setDfo n x).thrAcq = s.thrAcq := rfl
@[simp] theorem State.setDfo_adcs (s : State) (n : Nat) (x : Dfo) : (s.setDfo n x).adcs = s.adcs := rfl
@[simp] theorem State.setDfo_shunts (s : State) (n : Nat) (x : Dfo) : (s.setDfo n x).shunts = s.shunts := rfl
@[simp] theorem State.setDfo_plaus (s : State) (n : Nat) (x : Dfo) : (s.setDfo n x).plaus = s.plaus := rfl
@[simp] theorem State.setDfo_img (s : State) (n : Nat) (x : Dfo) : (s.setDfo n x).img = s.img := rfl
@[simp] theorem State.setDfo_dir (s : State) (n : Nat) (x : Dfo) : (s.setDfo n x).dir = s.dir := rfl
@[simp] theorem State.setDfo_cyc (s : State) (n : Nat) (x : Dfo) : (s.setDfo n x).cyc = s.cyc := rfl
@[simp] theorem State.setDfo_hwsIn (s : State) (n : Nat) (x : Dfo) : (s.setDfo n x).hwsIn = s.hwsIn := rfl
@[simp] theorem State.setDfo_dup (s : State) (n : Nat) (x : Dfo) : (s.setDfo n x).dup = s.dup := rfl
@[simp] theorem State.setDfo_qps (s : State) (n : Nat) (x : Dfo) : (s.setDfo n x).qps = s.qps := rfl
@[simp] theorem State.setDfo_ops (s : State) (n : Nat) (x : Dfo) : (s.setDfo n x).ops = s.ops := rfl
@[simp] theorem State.setDfo_skds (s : State) (n : Nat) (x : Dfo) : (s.setDfo n x).skds = s.skds := rfl
@[simp] theorem State.setDfo_vfs (s : State) (n : Nat) (x : Dfo) : (s.setDfo n x).vfs = s.vfs := rfl
@[simp] theorem State.setDfo_migIn (s : State) (n : Nat) (x : Dfo) : (s.setDfo n x).migIn = s.migIn := rfl
@[simp] theorem State.setDfo_tals (s : State) (n : Nat) (x : Dfo) : (s.setDfo n x).tals = s.tals := rfl
@[simp] theorem State.setDfo_talAts (s : State) (n : Nat) (x : Dfo) : (s.setDfo n x).talAts = s.talAts := rfl
@[simp] theorem State.setDfo_hws (s : State) (n : Nat) (x : Dfo) : (s.setDfo n x).hws = s.hws := rfl
@[simp] theorem State.setDfo_acq (s : State) (n : Nat) (x : Dfo) : (s.setDfo n x).acq = s.acq := rfl
@[simp] theorem State.setDfo_acqGoose (s : State) (n : Nat) (x : Dfo) : (s.setDfo n x).acqGoose = s.acqGoose := rfl
@[simp] theorem State.setDfo_kslots (s : State) (n : Nat) (x : Dfo) : (s.setDfo n x).kslots = s.kslots := rfl
@[simp] theorem State.setDfo_ekeys (s : State) (n : Nat) (x : Dfo) : (s.setDfo n x).ekeys = s.ekeys := rfl
@[simp] theorem State.setDfo_ksu (s : State) (n : Nat) (x : Dfo) : (s.setDfo n x).ksu = s.ksu := rfl
@[simp] theorem State.setDfo_tmp (s : State) (n : Nat) (x : Dfo) : (s.setDfo n x).tmp = s.tmp := rfl
@[simp] theorem State.setDfo_pwr (s : State) (n : Nat) (x : Dfo) : (s.setDfo n x).pwr = s.pwr := rfl
@[simp] theorem State.setDfo_rst (s : State) (n : Nat) (x : Dfo) : (s.setDfo n x).rst = s.rst := rfl
@[simp] theorem State.setDfo_shf (s : State) (n : Nat) (x : Dfo) : (s.setDfo n x).shf = s.shf := rfl
@[simp] theorem State.setDfo_hlt (s : State) (n : Nat) (x : Dfo) : (s.setDfo n x).hlt = s.hlt := rfl
@[simp] theorem State.setDfo_out (s : State) (n : Nat) (x : Dfo) : (s.setDfo n x).out = s.out := rfl
@[simp] theorem State.setDfo_free (s : State) (n : Nat) (x : Dfo) : (s.setDfo n x).free = s.free := rfl
@[simp] theorem State.setDfo_pending (s : State) (n : Nat) (x : Dfo) : (s.setDfo n x).pending = s.pending := rfl

/-! ### setQp -/

@[simp] theorem State.setQp_ident (s : State) (q : Nat) (x : Qp) : (s.setQp q x).ident = s.ident := rfl
@[simp] theorem State.setQp_hdrs (s : State) (q : Nat) (x : Qp) : (s.setQp q x).hdrs = s.hdrs := rfl
@[simp] theorem State.setQp_regs (s : State) (q : Nat) (x : Qp) : (s.setQp q x).regs = s.regs := rfl
@[simp] theorem State.setQp_acts (s : State) (q : Nat) (x : Qp) : (s.setQp q x).acts = s.acts := rfl
@[simp] theorem State.setQp_cnts (s : State) (q : Nat) (x : Qp) : (s.setQp q x).cnts = s.cnts := rfl
@[simp] theorem State.setQp_snaps (s : State) (q : Nat) (x : Qp) : (s.setQp q x).snaps = s.snaps := rfl
@[simp] theorem State.setQp_lat (s : State) (q : Nat) (x : Qp) : (s.setQp q x).lat = s.lat := rfl
@[simp] theorem State.setQp_held (s : State) (q : Nat) (x : Qp) : (s.setQp q x).held = s.held := rfl
@[simp] theorem State.setQp_rdata (s : State) (q : Nat) (x : Qp) : (s.setQp q x).rdata = s.rdata := rfl
@[simp] theorem State.setQp_wins (s : State) (q : Nat) (x : Qp) : (s.setQp q x).wins = s.wins := rfl
@[simp] theorem State.setQp_tbl (s : State) (q : Nat) (x : Qp) : (s.setQp q x).tbl = s.tbl := rfl
@[simp] theorem State.setQp_vecs (s : State) (q : Nat) (x : Qp) : (s.setQp q x).vecs = s.vecs := rfl
@[simp] theorem State.setQp_tsu (s : State) (q : Nat) (x : Qp) : (s.setQp q x).tsu = s.tsu := rfl
@[simp] theorem State.setQp_macs (s : State) (q : Nat) (x : Qp) : (s.setQp q x).macs = s.macs := rfl
@[simp] theorem State.setQp_egs (s : State) (q : Nat) (x : Qp) : (s.setQp q x).egs = s.egs := rfl
@[simp] theorem State.setQp_swc (s : State) (q : Nat) (x : Qp) : (s.setQp q x).swc = s.swc := rfl
@[simp] theorem State.setQp_mem (s : State) (q : Nat) (x : Qp) : (s.setQp q x).mem = s.mem := rfl
@[simp] theorem State.setQp_mram (s : State) (q : Nat) (x : Qp) : (s.setQp q x).mram = s.mram := rfl
@[simp] theorem State.setQp_flips (s : State) (q : Nat) (x : Qp) : (s.setQp q x).flips = s.flips := rfl
@[simp] theorem State.setQp_poison (s : State) (q : Nat) (x : Qp) : (s.setQp q x).poison = s.poison := rfl
@[simp] theorem State.setQp_memSt (s : State) (q : Nat) (x : Qp) : (s.setQp q x).memSt = s.memSt := rfl
@[simp] theorem State.setQp_evr (s : State) (q : Nat) (x : Qp) : (s.setQp q x).evr = s.evr := rfl
@[simp] theorem State.setQp_memFenced (s : State) (q : Nat) (x : Qp) : (s.setQp q x).memFenced = s.memFenced := rfl
@[simp] theorem State.setQp_sva (s : State) (q : Nat) (x : Qp) : (s.setQp q x).sva = s.sva := rfl
@[simp] theorem State.setQp_flt (s : State) (q : Nat) (x : Qp) : (s.setQp q x).flt = s.flt := rfl
@[simp] theorem State.setQp_thrCyc (s : State) (q : Nat) (x : Qp) : (s.setQp q x).thrCyc = s.thrCyc := rfl
@[simp] theorem State.setQp_thrAcq (s : State) (q : Nat) (x : Qp) : (s.setQp q x).thrAcq = s.thrAcq := rfl
@[simp] theorem State.setQp_adcs (s : State) (q : Nat) (x : Qp) : (s.setQp q x).adcs = s.adcs := rfl
@[simp] theorem State.setQp_shunts (s : State) (q : Nat) (x : Qp) : (s.setQp q x).shunts = s.shunts := rfl
@[simp] theorem State.setQp_plaus (s : State) (q : Nat) (x : Qp) : (s.setQp q x).plaus = s.plaus := rfl
@[simp] theorem State.setQp_img (s : State) (q : Nat) (x : Qp) : (s.setQp q x).img = s.img := rfl
@[simp] theorem State.setQp_dir (s : State) (q : Nat) (x : Qp) : (s.setQp q x).dir = s.dir := rfl
@[simp] theorem State.setQp_cyc (s : State) (q : Nat) (x : Qp) : (s.setQp q x).cyc = s.cyc := rfl
@[simp] theorem State.setQp_hwsIn (s : State) (q : Nat) (x : Qp) : (s.setQp q x).hwsIn = s.hwsIn := rfl
@[simp] theorem State.setQp_dup (s : State) (q : Nat) (x : Qp) : (s.setQp q x).dup = s.dup := rfl
@[simp] theorem State.setQp_ops (s : State) (q : Nat) (x : Qp) : (s.setQp q x).ops = s.ops := rfl
@[simp] theorem State.setQp_skds (s : State) (q : Nat) (x : Qp) : (s.setQp q x).skds = s.skds := rfl
@[simp] theorem State.setQp_vfs (s : State) (q : Nat) (x : Qp) : (s.setQp q x).vfs = s.vfs := rfl
@[simp] theorem State.setQp_migIn (s : State) (q : Nat) (x : Qp) : (s.setQp q x).migIn = s.migIn := rfl
@[simp] theorem State.setQp_tals (s : State) (q : Nat) (x : Qp) : (s.setQp q x).tals = s.tals := rfl
@[simp] theorem State.setQp_talAts (s : State) (q : Nat) (x : Qp) : (s.setQp q x).talAts = s.talAts := rfl
@[simp] theorem State.setQp_dfos (s : State) (q : Nat) (x : Qp) : (s.setQp q x).dfos = s.dfos := rfl
@[simp] theorem State.setQp_hws (s : State) (q : Nat) (x : Qp) : (s.setQp q x).hws = s.hws := rfl
@[simp] theorem State.setQp_acq (s : State) (q : Nat) (x : Qp) : (s.setQp q x).acq = s.acq := rfl
@[simp] theorem State.setQp_acqGoose (s : State) (q : Nat) (x : Qp) : (s.setQp q x).acqGoose = s.acqGoose := rfl
@[simp] theorem State.setQp_kslots (s : State) (q : Nat) (x : Qp) : (s.setQp q x).kslots = s.kslots := rfl
@[simp] theorem State.setQp_ekeys (s : State) (q : Nat) (x : Qp) : (s.setQp q x).ekeys = s.ekeys := rfl
@[simp] theorem State.setQp_ksu (s : State) (q : Nat) (x : Qp) : (s.setQp q x).ksu = s.ksu := rfl
@[simp] theorem State.setQp_tmp (s : State) (q : Nat) (x : Qp) : (s.setQp q x).tmp = s.tmp := rfl
@[simp] theorem State.setQp_pwr (s : State) (q : Nat) (x : Qp) : (s.setQp q x).pwr = s.pwr := rfl
@[simp] theorem State.setQp_rst (s : State) (q : Nat) (x : Qp) : (s.setQp q x).rst = s.rst := rfl
@[simp] theorem State.setQp_shf (s : State) (q : Nat) (x : Qp) : (s.setQp q x).shf = s.shf := rfl
@[simp] theorem State.setQp_hlt (s : State) (q : Nat) (x : Qp) : (s.setQp q x).hlt = s.hlt := rfl
@[simp] theorem State.setQp_out (s : State) (q : Nat) (x : Qp) : (s.setQp q x).out = s.out := rfl
@[simp] theorem State.setQp_free (s : State) (q : Nat) (x : Qp) : (s.setQp q x).free = s.free := rfl
@[simp] theorem State.setQp_pending (s : State) (q : Nat) (x : Qp) : (s.setQp q x).pending = s.pending := rfl

/-! ### setVf -/

@[simp] theorem State.setVf_ident (s : State) (f : Nat) (x : Vf) : (s.setVf f x).ident = s.ident := rfl
@[simp] theorem State.setVf_hdrs (s : State) (f : Nat) (x : Vf) : (s.setVf f x).hdrs = s.hdrs := rfl
@[simp] theorem State.setVf_regs (s : State) (f : Nat) (x : Vf) : (s.setVf f x).regs = s.regs := rfl
@[simp] theorem State.setVf_acts (s : State) (f : Nat) (x : Vf) : (s.setVf f x).acts = s.acts := rfl
@[simp] theorem State.setVf_cnts (s : State) (f : Nat) (x : Vf) : (s.setVf f x).cnts = s.cnts := rfl
@[simp] theorem State.setVf_snaps (s : State) (f : Nat) (x : Vf) : (s.setVf f x).snaps = s.snaps := rfl
@[simp] theorem State.setVf_lat (s : State) (f : Nat) (x : Vf) : (s.setVf f x).lat = s.lat := rfl
@[simp] theorem State.setVf_held (s : State) (f : Nat) (x : Vf) : (s.setVf f x).held = s.held := rfl
@[simp] theorem State.setVf_rdata (s : State) (f : Nat) (x : Vf) : (s.setVf f x).rdata = s.rdata := rfl
@[simp] theorem State.setVf_wins (s : State) (f : Nat) (x : Vf) : (s.setVf f x).wins = s.wins := rfl
@[simp] theorem State.setVf_tbl (s : State) (f : Nat) (x : Vf) : (s.setVf f x).tbl = s.tbl := rfl
@[simp] theorem State.setVf_vecs (s : State) (f : Nat) (x : Vf) : (s.setVf f x).vecs = s.vecs := rfl
@[simp] theorem State.setVf_tsu (s : State) (f : Nat) (x : Vf) : (s.setVf f x).tsu = s.tsu := rfl
@[simp] theorem State.setVf_macs (s : State) (f : Nat) (x : Vf) : (s.setVf f x).macs = s.macs := rfl
@[simp] theorem State.setVf_egs (s : State) (f : Nat) (x : Vf) : (s.setVf f x).egs = s.egs := rfl
@[simp] theorem State.setVf_swc (s : State) (f : Nat) (x : Vf) : (s.setVf f x).swc = s.swc := rfl
@[simp] theorem State.setVf_mem (s : State) (f : Nat) (x : Vf) : (s.setVf f x).mem = s.mem := rfl
@[simp] theorem State.setVf_mram (s : State) (f : Nat) (x : Vf) : (s.setVf f x).mram = s.mram := rfl
@[simp] theorem State.setVf_flips (s : State) (f : Nat) (x : Vf) : (s.setVf f x).flips = s.flips := rfl
@[simp] theorem State.setVf_poison (s : State) (f : Nat) (x : Vf) : (s.setVf f x).poison = s.poison := rfl
@[simp] theorem State.setVf_memSt (s : State) (f : Nat) (x : Vf) : (s.setVf f x).memSt = s.memSt := rfl
@[simp] theorem State.setVf_evr (s : State) (f : Nat) (x : Vf) : (s.setVf f x).evr = s.evr := rfl
@[simp] theorem State.setVf_memFenced (s : State) (f : Nat) (x : Vf) : (s.setVf f x).memFenced = s.memFenced := rfl
@[simp] theorem State.setVf_sva (s : State) (f : Nat) (x : Vf) : (s.setVf f x).sva = s.sva := rfl
@[simp] theorem State.setVf_flt (s : State) (f : Nat) (x : Vf) : (s.setVf f x).flt = s.flt := rfl
@[simp] theorem State.setVf_thrCyc (s : State) (f : Nat) (x : Vf) : (s.setVf f x).thrCyc = s.thrCyc := rfl
@[simp] theorem State.setVf_thrAcq (s : State) (f : Nat) (x : Vf) : (s.setVf f x).thrAcq = s.thrAcq := rfl
@[simp] theorem State.setVf_adcs (s : State) (f : Nat) (x : Vf) : (s.setVf f x).adcs = s.adcs := rfl
@[simp] theorem State.setVf_shunts (s : State) (f : Nat) (x : Vf) : (s.setVf f x).shunts = s.shunts := rfl
@[simp] theorem State.setVf_plaus (s : State) (f : Nat) (x : Vf) : (s.setVf f x).plaus = s.plaus := rfl
@[simp] theorem State.setVf_img (s : State) (f : Nat) (x : Vf) : (s.setVf f x).img = s.img := rfl
@[simp] theorem State.setVf_dir (s : State) (f : Nat) (x : Vf) : (s.setVf f x).dir = s.dir := rfl
@[simp] theorem State.setVf_cyc (s : State) (f : Nat) (x : Vf) : (s.setVf f x).cyc = s.cyc := rfl
@[simp] theorem State.setVf_hwsIn (s : State) (f : Nat) (x : Vf) : (s.setVf f x).hwsIn = s.hwsIn := rfl
@[simp] theorem State.setVf_dup (s : State) (f : Nat) (x : Vf) : (s.setVf f x).dup = s.dup := rfl
@[simp] theorem State.setVf_qps (s : State) (f : Nat) (x : Vf) : (s.setVf f x).qps = s.qps := rfl
@[simp] theorem State.setVf_ops (s : State) (f : Nat) (x : Vf) : (s.setVf f x).ops = s.ops := rfl
@[simp] theorem State.setVf_skds (s : State) (f : Nat) (x : Vf) : (s.setVf f x).skds = s.skds := rfl
@[simp] theorem State.setVf_migIn (s : State) (f : Nat) (x : Vf) : (s.setVf f x).migIn = s.migIn := rfl
@[simp] theorem State.setVf_tals (s : State) (f : Nat) (x : Vf) : (s.setVf f x).tals = s.tals := rfl
@[simp] theorem State.setVf_talAts (s : State) (f : Nat) (x : Vf) : (s.setVf f x).talAts = s.talAts := rfl
@[simp] theorem State.setVf_dfos (s : State) (f : Nat) (x : Vf) : (s.setVf f x).dfos = s.dfos := rfl
@[simp] theorem State.setVf_hws (s : State) (f : Nat) (x : Vf) : (s.setVf f x).hws = s.hws := rfl
@[simp] theorem State.setVf_acq (s : State) (f : Nat) (x : Vf) : (s.setVf f x).acq = s.acq := rfl
@[simp] theorem State.setVf_acqGoose (s : State) (f : Nat) (x : Vf) : (s.setVf f x).acqGoose = s.acqGoose := rfl
@[simp] theorem State.setVf_kslots (s : State) (f : Nat) (x : Vf) : (s.setVf f x).kslots = s.kslots := rfl
@[simp] theorem State.setVf_ekeys (s : State) (f : Nat) (x : Vf) : (s.setVf f x).ekeys = s.ekeys := rfl
@[simp] theorem State.setVf_ksu (s : State) (f : Nat) (x : Vf) : (s.setVf f x).ksu = s.ksu := rfl
@[simp] theorem State.setVf_tmp (s : State) (f : Nat) (x : Vf) : (s.setVf f x).tmp = s.tmp := rfl
@[simp] theorem State.setVf_pwr (s : State) (f : Nat) (x : Vf) : (s.setVf f x).pwr = s.pwr := rfl
@[simp] theorem State.setVf_rst (s : State) (f : Nat) (x : Vf) : (s.setVf f x).rst = s.rst := rfl
@[simp] theorem State.setVf_shf (s : State) (f : Nat) (x : Vf) : (s.setVf f x).shf = s.shf := rfl
@[simp] theorem State.setVf_hlt (s : State) (f : Nat) (x : Vf) : (s.setVf f x).hlt = s.hlt := rfl
@[simp] theorem State.setVf_out (s : State) (f : Nat) (x : Vf) : (s.setVf f x).out = s.out := rfl
@[simp] theorem State.setVf_free (s : State) (f : Nat) (x : Vf) : (s.setVf f x).free = s.free := rfl
@[simp] theorem State.setVf_pending (s : State) (f : Nat) (x : Vf) : (s.setVf f x).pending = s.pending := rfl

/-! ### setSkd -/

@[simp] theorem State.setSkd_ident (s : State) (k : Nat) (x : Skd) : (s.setSkd k x).ident = s.ident := rfl
@[simp] theorem State.setSkd_hdrs (s : State) (k : Nat) (x : Skd) : (s.setSkd k x).hdrs = s.hdrs := rfl
@[simp] theorem State.setSkd_regs (s : State) (k : Nat) (x : Skd) : (s.setSkd k x).regs = s.regs := rfl
@[simp] theorem State.setSkd_acts (s : State) (k : Nat) (x : Skd) : (s.setSkd k x).acts = s.acts := rfl
@[simp] theorem State.setSkd_cnts (s : State) (k : Nat) (x : Skd) : (s.setSkd k x).cnts = s.cnts := rfl
@[simp] theorem State.setSkd_snaps (s : State) (k : Nat) (x : Skd) : (s.setSkd k x).snaps = s.snaps := rfl
@[simp] theorem State.setSkd_lat (s : State) (k : Nat) (x : Skd) : (s.setSkd k x).lat = s.lat := rfl
@[simp] theorem State.setSkd_held (s : State) (k : Nat) (x : Skd) : (s.setSkd k x).held = s.held := rfl
@[simp] theorem State.setSkd_rdata (s : State) (k : Nat) (x : Skd) : (s.setSkd k x).rdata = s.rdata := rfl
@[simp] theorem State.setSkd_wins (s : State) (k : Nat) (x : Skd) : (s.setSkd k x).wins = s.wins := rfl
@[simp] theorem State.setSkd_tbl (s : State) (k : Nat) (x : Skd) : (s.setSkd k x).tbl = s.tbl := rfl
@[simp] theorem State.setSkd_vecs (s : State) (k : Nat) (x : Skd) : (s.setSkd k x).vecs = s.vecs := rfl
@[simp] theorem State.setSkd_tsu (s : State) (k : Nat) (x : Skd) : (s.setSkd k x).tsu = s.tsu := rfl
@[simp] theorem State.setSkd_macs (s : State) (k : Nat) (x : Skd) : (s.setSkd k x).macs = s.macs := rfl
@[simp] theorem State.setSkd_egs (s : State) (k : Nat) (x : Skd) : (s.setSkd k x).egs = s.egs := rfl
@[simp] theorem State.setSkd_swc (s : State) (k : Nat) (x : Skd) : (s.setSkd k x).swc = s.swc := rfl
@[simp] theorem State.setSkd_mem (s : State) (k : Nat) (x : Skd) : (s.setSkd k x).mem = s.mem := rfl
@[simp] theorem State.setSkd_mram (s : State) (k : Nat) (x : Skd) : (s.setSkd k x).mram = s.mram := rfl
@[simp] theorem State.setSkd_flips (s : State) (k : Nat) (x : Skd) : (s.setSkd k x).flips = s.flips := rfl
@[simp] theorem State.setSkd_poison (s : State) (k : Nat) (x : Skd) : (s.setSkd k x).poison = s.poison := rfl
@[simp] theorem State.setSkd_memSt (s : State) (k : Nat) (x : Skd) : (s.setSkd k x).memSt = s.memSt := rfl
@[simp] theorem State.setSkd_evr (s : State) (k : Nat) (x : Skd) : (s.setSkd k x).evr = s.evr := rfl
@[simp] theorem State.setSkd_memFenced (s : State) (k : Nat) (x : Skd) : (s.setSkd k x).memFenced = s.memFenced := rfl
@[simp] theorem State.setSkd_sva (s : State) (k : Nat) (x : Skd) : (s.setSkd k x).sva = s.sva := rfl
@[simp] theorem State.setSkd_flt (s : State) (k : Nat) (x : Skd) : (s.setSkd k x).flt = s.flt := rfl
@[simp] theorem State.setSkd_thrCyc (s : State) (k : Nat) (x : Skd) : (s.setSkd k x).thrCyc = s.thrCyc := rfl
@[simp] theorem State.setSkd_thrAcq (s : State) (k : Nat) (x : Skd) : (s.setSkd k x).thrAcq = s.thrAcq := rfl
@[simp] theorem State.setSkd_adcs (s : State) (k : Nat) (x : Skd) : (s.setSkd k x).adcs = s.adcs := rfl
@[simp] theorem State.setSkd_shunts (s : State) (k : Nat) (x : Skd) : (s.setSkd k x).shunts = s.shunts := rfl
@[simp] theorem State.setSkd_plaus (s : State) (k : Nat) (x : Skd) : (s.setSkd k x).plaus = s.plaus := rfl
@[simp] theorem State.setSkd_img (s : State) (k : Nat) (x : Skd) : (s.setSkd k x).img = s.img := rfl
@[simp] theorem State.setSkd_dir (s : State) (k : Nat) (x : Skd) : (s.setSkd k x).dir = s.dir := rfl
@[simp] theorem State.setSkd_cyc (s : State) (k : Nat) (x : Skd) : (s.setSkd k x).cyc = s.cyc := rfl
@[simp] theorem State.setSkd_hwsIn (s : State) (k : Nat) (x : Skd) : (s.setSkd k x).hwsIn = s.hwsIn := rfl
@[simp] theorem State.setSkd_dup (s : State) (k : Nat) (x : Skd) : (s.setSkd k x).dup = s.dup := rfl
@[simp] theorem State.setSkd_qps (s : State) (k : Nat) (x : Skd) : (s.setSkd k x).qps = s.qps := rfl
@[simp] theorem State.setSkd_ops (s : State) (k : Nat) (x : Skd) : (s.setSkd k x).ops = s.ops := rfl
@[simp] theorem State.setSkd_vfs (s : State) (k : Nat) (x : Skd) : (s.setSkd k x).vfs = s.vfs := rfl
@[simp] theorem State.setSkd_migIn (s : State) (k : Nat) (x : Skd) : (s.setSkd k x).migIn = s.migIn := rfl
@[simp] theorem State.setSkd_tals (s : State) (k : Nat) (x : Skd) : (s.setSkd k x).tals = s.tals := rfl
@[simp] theorem State.setSkd_talAts (s : State) (k : Nat) (x : Skd) : (s.setSkd k x).talAts = s.talAts := rfl
@[simp] theorem State.setSkd_dfos (s : State) (k : Nat) (x : Skd) : (s.setSkd k x).dfos = s.dfos := rfl
@[simp] theorem State.setSkd_hws (s : State) (k : Nat) (x : Skd) : (s.setSkd k x).hws = s.hws := rfl
@[simp] theorem State.setSkd_acq (s : State) (k : Nat) (x : Skd) : (s.setSkd k x).acq = s.acq := rfl
@[simp] theorem State.setSkd_acqGoose (s : State) (k : Nat) (x : Skd) : (s.setSkd k x).acqGoose = s.acqGoose := rfl
@[simp] theorem State.setSkd_kslots (s : State) (k : Nat) (x : Skd) : (s.setSkd k x).kslots = s.kslots := rfl
@[simp] theorem State.setSkd_ekeys (s : State) (k : Nat) (x : Skd) : (s.setSkd k x).ekeys = s.ekeys := rfl
@[simp] theorem State.setSkd_ksu (s : State) (k : Nat) (x : Skd) : (s.setSkd k x).ksu = s.ksu := rfl
@[simp] theorem State.setSkd_tmp (s : State) (k : Nat) (x : Skd) : (s.setSkd k x).tmp = s.tmp := rfl
@[simp] theorem State.setSkd_pwr (s : State) (k : Nat) (x : Skd) : (s.setSkd k x).pwr = s.pwr := rfl
@[simp] theorem State.setSkd_rst (s : State) (k : Nat) (x : Skd) : (s.setSkd k x).rst = s.rst := rfl
@[simp] theorem State.setSkd_shf (s : State) (k : Nat) (x : Skd) : (s.setSkd k x).shf = s.shf := rfl
@[simp] theorem State.setSkd_hlt (s : State) (k : Nat) (x : Skd) : (s.setSkd k x).hlt = s.hlt := rfl
@[simp] theorem State.setSkd_out (s : State) (k : Nat) (x : Skd) : (s.setSkd k x).out = s.out := rfl
@[simp] theorem State.setSkd_free (s : State) (k : Nat) (x : Skd) : (s.setSkd k x).free = s.free := rfl
@[simp] theorem State.setSkd_pending (s : State) (k : Nat) (x : Skd) : (s.setSkd k x).pending = s.pending := rfl

/-! ### updTsu -/

@[simp] theorem State.updTsu_ident (s : State) (f : Tsu → Tsu) : (s.updTsu f).ident = s.ident := rfl
@[simp] theorem State.updTsu_hdrs (s : State) (f : Tsu → Tsu) : (s.updTsu f).hdrs = s.hdrs := rfl
@[simp] theorem State.updTsu_regs (s : State) (f : Tsu → Tsu) : (s.updTsu f).regs = s.regs := rfl
@[simp] theorem State.updTsu_acts (s : State) (f : Tsu → Tsu) : (s.updTsu f).acts = s.acts := rfl
@[simp] theorem State.updTsu_cnts (s : State) (f : Tsu → Tsu) : (s.updTsu f).cnts = s.cnts := rfl
@[simp] theorem State.updTsu_snaps (s : State) (f : Tsu → Tsu) : (s.updTsu f).snaps = s.snaps := rfl
@[simp] theorem State.updTsu_lat (s : State) (f : Tsu → Tsu) : (s.updTsu f).lat = s.lat := rfl
@[simp] theorem State.updTsu_held (s : State) (f : Tsu → Tsu) : (s.updTsu f).held = s.held := rfl
@[simp] theorem State.updTsu_rdata (s : State) (f : Tsu → Tsu) : (s.updTsu f).rdata = s.rdata := rfl
@[simp] theorem State.updTsu_wins (s : State) (f : Tsu → Tsu) : (s.updTsu f).wins = s.wins := rfl
@[simp] theorem State.updTsu_tbl (s : State) (f : Tsu → Tsu) : (s.updTsu f).tbl = s.tbl := rfl
@[simp] theorem State.updTsu_vecs (s : State) (f : Tsu → Tsu) : (s.updTsu f).vecs = s.vecs := rfl
@[simp] theorem State.updTsu_tsu (s : State) (f : Tsu → Tsu) : (s.updTsu f).tsu = f s.tsu := rfl
@[simp] theorem State.updTsu_macs (s : State) (f : Tsu → Tsu) : (s.updTsu f).macs = s.macs := rfl
@[simp] theorem State.updTsu_egs (s : State) (f : Tsu → Tsu) : (s.updTsu f).egs = s.egs := rfl
@[simp] theorem State.updTsu_swc (s : State) (f : Tsu → Tsu) : (s.updTsu f).swc = s.swc := rfl
@[simp] theorem State.updTsu_mem (s : State) (f : Tsu → Tsu) : (s.updTsu f).mem = s.mem := rfl
@[simp] theorem State.updTsu_mram (s : State) (f : Tsu → Tsu) : (s.updTsu f).mram = s.mram := rfl
@[simp] theorem State.updTsu_flips (s : State) (f : Tsu → Tsu) : (s.updTsu f).flips = s.flips := rfl
@[simp] theorem State.updTsu_poison (s : State) (f : Tsu → Tsu) : (s.updTsu f).poison = s.poison := rfl
@[simp] theorem State.updTsu_memSt (s : State) (f : Tsu → Tsu) : (s.updTsu f).memSt = s.memSt := rfl
@[simp] theorem State.updTsu_evr (s : State) (f : Tsu → Tsu) : (s.updTsu f).evr = s.evr := rfl
@[simp] theorem State.updTsu_memFenced (s : State) (f : Tsu → Tsu) : (s.updTsu f).memFenced = s.memFenced := rfl
@[simp] theorem State.updTsu_sva (s : State) (f : Tsu → Tsu) : (s.updTsu f).sva = s.sva := rfl
@[simp] theorem State.updTsu_flt (s : State) (f : Tsu → Tsu) : (s.updTsu f).flt = s.flt := rfl
@[simp] theorem State.updTsu_thrCyc (s : State) (f : Tsu → Tsu) : (s.updTsu f).thrCyc = s.thrCyc := rfl
@[simp] theorem State.updTsu_thrAcq (s : State) (f : Tsu → Tsu) : (s.updTsu f).thrAcq = s.thrAcq := rfl
@[simp] theorem State.updTsu_adcs (s : State) (f : Tsu → Tsu) : (s.updTsu f).adcs = s.adcs := rfl
@[simp] theorem State.updTsu_shunts (s : State) (f : Tsu → Tsu) : (s.updTsu f).shunts = s.shunts := rfl
@[simp] theorem State.updTsu_plaus (s : State) (f : Tsu → Tsu) : (s.updTsu f).plaus = s.plaus := rfl
@[simp] theorem State.updTsu_img (s : State) (f : Tsu → Tsu) : (s.updTsu f).img = s.img := rfl
@[simp] theorem State.updTsu_dir (s : State) (f : Tsu → Tsu) : (s.updTsu f).dir = s.dir := rfl
@[simp] theorem State.updTsu_cyc (s : State) (f : Tsu → Tsu) : (s.updTsu f).cyc = s.cyc := rfl
@[simp] theorem State.updTsu_hwsIn (s : State) (f : Tsu → Tsu) : (s.updTsu f).hwsIn = s.hwsIn := rfl
@[simp] theorem State.updTsu_dup (s : State) (f : Tsu → Tsu) : (s.updTsu f).dup = s.dup := rfl
@[simp] theorem State.updTsu_qps (s : State) (f : Tsu → Tsu) : (s.updTsu f).qps = s.qps := rfl
@[simp] theorem State.updTsu_ops (s : State) (f : Tsu → Tsu) : (s.updTsu f).ops = s.ops := rfl
@[simp] theorem State.updTsu_skds (s : State) (f : Tsu → Tsu) : (s.updTsu f).skds = s.skds := rfl
@[simp] theorem State.updTsu_vfs (s : State) (f : Tsu → Tsu) : (s.updTsu f).vfs = s.vfs := rfl
@[simp] theorem State.updTsu_migIn (s : State) (f : Tsu → Tsu) : (s.updTsu f).migIn = s.migIn := rfl
@[simp] theorem State.updTsu_tals (s : State) (f : Tsu → Tsu) : (s.updTsu f).tals = s.tals := rfl
@[simp] theorem State.updTsu_talAts (s : State) (f : Tsu → Tsu) : (s.updTsu f).talAts = s.talAts := rfl
@[simp] theorem State.updTsu_dfos (s : State) (f : Tsu → Tsu) : (s.updTsu f).dfos = s.dfos := rfl
@[simp] theorem State.updTsu_hws (s : State) (f : Tsu → Tsu) : (s.updTsu f).hws = s.hws := rfl
@[simp] theorem State.updTsu_acq (s : State) (f : Tsu → Tsu) : (s.updTsu f).acq = s.acq := rfl
@[simp] theorem State.updTsu_acqGoose (s : State) (f : Tsu → Tsu) : (s.updTsu f).acqGoose = s.acqGoose := rfl
@[simp] theorem State.updTsu_kslots (s : State) (f : Tsu → Tsu) : (s.updTsu f).kslots = s.kslots := rfl
@[simp] theorem State.updTsu_ekeys (s : State) (f : Tsu → Tsu) : (s.updTsu f).ekeys = s.ekeys := rfl
@[simp] theorem State.updTsu_ksu (s : State) (f : Tsu → Tsu) : (s.updTsu f).ksu = s.ksu := rfl
@[simp] theorem State.updTsu_tmp (s : State) (f : Tsu → Tsu) : (s.updTsu f).tmp = s.tmp := rfl
@[simp] theorem State.updTsu_pwr (s : State) (f : Tsu → Tsu) : (s.updTsu f).pwr = s.pwr := rfl
@[simp] theorem State.updTsu_rst (s : State) (f : Tsu → Tsu) : (s.updTsu f).rst = s.rst := rfl
@[simp] theorem State.updTsu_shf (s : State) (f : Tsu → Tsu) : (s.updTsu f).shf = s.shf := rfl
@[simp] theorem State.updTsu_hlt (s : State) (f : Tsu → Tsu) : (s.updTsu f).hlt = s.hlt := rfl
@[simp] theorem State.updTsu_out (s : State) (f : Tsu → Tsu) : (s.updTsu f).out = s.out := rfl
@[simp] theorem State.updTsu_free (s : State) (f : Tsu → Tsu) : (s.updTsu f).free = s.free := rfl
@[simp] theorem State.updTsu_pending (s : State) (f : Tsu → Tsu) : (s.updTsu f).pending = s.pending := rfl

/-! ### updEvr -/

@[simp] theorem State.updEvr_ident (s : State) (f : Evr → Evr) : (s.updEvr f).ident = s.ident := rfl
@[simp] theorem State.updEvr_hdrs (s : State) (f : Evr → Evr) : (s.updEvr f).hdrs = s.hdrs := rfl
@[simp] theorem State.updEvr_regs (s : State) (f : Evr → Evr) : (s.updEvr f).regs = s.regs := rfl
@[simp] theorem State.updEvr_acts (s : State) (f : Evr → Evr) : (s.updEvr f).acts = s.acts := rfl
@[simp] theorem State.updEvr_cnts (s : State) (f : Evr → Evr) : (s.updEvr f).cnts = s.cnts := rfl
@[simp] theorem State.updEvr_snaps (s : State) (f : Evr → Evr) : (s.updEvr f).snaps = s.snaps := rfl
@[simp] theorem State.updEvr_lat (s : State) (f : Evr → Evr) : (s.updEvr f).lat = s.lat := rfl
@[simp] theorem State.updEvr_held (s : State) (f : Evr → Evr) : (s.updEvr f).held = s.held := rfl
@[simp] theorem State.updEvr_rdata (s : State) (f : Evr → Evr) : (s.updEvr f).rdata = s.rdata := rfl
@[simp] theorem State.updEvr_wins (s : State) (f : Evr → Evr) : (s.updEvr f).wins = s.wins := rfl
@[simp] theorem State.updEvr_tbl (s : State) (f : Evr → Evr) : (s.updEvr f).tbl = s.tbl := rfl
@[simp] theorem State.updEvr_vecs (s : State) (f : Evr → Evr) : (s.updEvr f).vecs = s.vecs := rfl
@[simp] theorem State.updEvr_tsu (s : State) (f : Evr → Evr) : (s.updEvr f).tsu = s.tsu := rfl
@[simp] theorem State.updEvr_macs (s : State) (f : Evr → Evr) : (s.updEvr f).macs = s.macs := rfl
@[simp] theorem State.updEvr_egs (s : State) (f : Evr → Evr) : (s.updEvr f).egs = s.egs := rfl
@[simp] theorem State.updEvr_swc (s : State) (f : Evr → Evr) : (s.updEvr f).swc = s.swc := rfl
@[simp] theorem State.updEvr_mem (s : State) (f : Evr → Evr) : (s.updEvr f).mem = s.mem := rfl
@[simp] theorem State.updEvr_mram (s : State) (f : Evr → Evr) : (s.updEvr f).mram = s.mram := rfl
@[simp] theorem State.updEvr_flips (s : State) (f : Evr → Evr) : (s.updEvr f).flips = s.flips := rfl
@[simp] theorem State.updEvr_poison (s : State) (f : Evr → Evr) : (s.updEvr f).poison = s.poison := rfl
@[simp] theorem State.updEvr_memSt (s : State) (f : Evr → Evr) : (s.updEvr f).memSt = s.memSt := rfl
@[simp] theorem State.updEvr_evr (s : State) (f : Evr → Evr) : (s.updEvr f).evr = f s.evr := rfl
@[simp] theorem State.updEvr_memFenced (s : State) (f : Evr → Evr) : (s.updEvr f).memFenced = s.memFenced := rfl
@[simp] theorem State.updEvr_sva (s : State) (f : Evr → Evr) : (s.updEvr f).sva = s.sva := rfl
@[simp] theorem State.updEvr_flt (s : State) (f : Evr → Evr) : (s.updEvr f).flt = s.flt := rfl
@[simp] theorem State.updEvr_thrCyc (s : State) (f : Evr → Evr) : (s.updEvr f).thrCyc = s.thrCyc := rfl
@[simp] theorem State.updEvr_thrAcq (s : State) (f : Evr → Evr) : (s.updEvr f).thrAcq = s.thrAcq := rfl
@[simp] theorem State.updEvr_adcs (s : State) (f : Evr → Evr) : (s.updEvr f).adcs = s.adcs := rfl
@[simp] theorem State.updEvr_shunts (s : State) (f : Evr → Evr) : (s.updEvr f).shunts = s.shunts := rfl
@[simp] theorem State.updEvr_plaus (s : State) (f : Evr → Evr) : (s.updEvr f).plaus = s.plaus := rfl
@[simp] theorem State.updEvr_img (s : State) (f : Evr → Evr) : (s.updEvr f).img = s.img := rfl
@[simp] theorem State.updEvr_dir (s : State) (f : Evr → Evr) : (s.updEvr f).dir = s.dir := rfl
@[simp] theorem State.updEvr_cyc (s : State) (f : Evr → Evr) : (s.updEvr f).cyc = s.cyc := rfl
@[simp] theorem State.updEvr_hwsIn (s : State) (f : Evr → Evr) : (s.updEvr f).hwsIn = s.hwsIn := rfl
@[simp] theorem State.updEvr_dup (s : State) (f : Evr → Evr) : (s.updEvr f).dup = s.dup := rfl
@[simp] theorem State.updEvr_qps (s : State) (f : Evr → Evr) : (s.updEvr f).qps = s.qps := rfl
@[simp] theorem State.updEvr_ops (s : State) (f : Evr → Evr) : (s.updEvr f).ops = s.ops := rfl
@[simp] theorem State.updEvr_skds (s : State) (f : Evr → Evr) : (s.updEvr f).skds = s.skds := rfl
@[simp] theorem State.updEvr_vfs (s : State) (f : Evr → Evr) : (s.updEvr f).vfs = s.vfs := rfl
@[simp] theorem State.updEvr_migIn (s : State) (f : Evr → Evr) : (s.updEvr f).migIn = s.migIn := rfl
@[simp] theorem State.updEvr_tals (s : State) (f : Evr → Evr) : (s.updEvr f).tals = s.tals := rfl
@[simp] theorem State.updEvr_talAts (s : State) (f : Evr → Evr) : (s.updEvr f).talAts = s.talAts := rfl
@[simp] theorem State.updEvr_dfos (s : State) (f : Evr → Evr) : (s.updEvr f).dfos = s.dfos := rfl
@[simp] theorem State.updEvr_hws (s : State) (f : Evr → Evr) : (s.updEvr f).hws = s.hws := rfl
@[simp] theorem State.updEvr_acq (s : State) (f : Evr → Evr) : (s.updEvr f).acq = s.acq := rfl
@[simp] theorem State.updEvr_acqGoose (s : State) (f : Evr → Evr) : (s.updEvr f).acqGoose = s.acqGoose := rfl
@[simp] theorem State.updEvr_kslots (s : State) (f : Evr → Evr) : (s.updEvr f).kslots = s.kslots := rfl
@[simp] theorem State.updEvr_ekeys (s : State) (f : Evr → Evr) : (s.updEvr f).ekeys = s.ekeys := rfl
@[simp] theorem State.updEvr_ksu (s : State) (f : Evr → Evr) : (s.updEvr f).ksu = s.ksu := rfl
@[simp] theorem State.updEvr_tmp (s : State) (f : Evr → Evr) : (s.updEvr f).tmp = s.tmp := rfl
@[simp] theorem State.updEvr_pwr (s : State) (f : Evr → Evr) : (s.updEvr f).pwr = s.pwr := rfl
@[simp] theorem State.updEvr_rst (s : State) (f : Evr → Evr) : (s.updEvr f).rst = s.rst := rfl
@[simp] theorem State.updEvr_shf (s : State) (f : Evr → Evr) : (s.updEvr f).shf = s.shf := rfl
@[simp] theorem State.updEvr_hlt (s : State) (f : Evr → Evr) : (s.updEvr f).hlt = s.hlt := rfl
@[simp] theorem State.updEvr_out (s : State) (f : Evr → Evr) : (s.updEvr f).out = s.out := rfl
@[simp] theorem State.updEvr_free (s : State) (f : Evr → Evr) : (s.updEvr f).free = s.free := rfl
@[simp] theorem State.updEvr_pending (s : State) (f : Evr → Evr) : (s.updEvr f).pending = s.pending := rfl

/-! ### updPwr -/

@[simp] theorem State.updPwr_ident (s : State) (f : Pwr → Pwr) : (s.updPwr f).ident = s.ident := rfl
@[simp] theorem State.updPwr_hdrs (s : State) (f : Pwr → Pwr) : (s.updPwr f).hdrs = s.hdrs := rfl
@[simp] theorem State.updPwr_regs (s : State) (f : Pwr → Pwr) : (s.updPwr f).regs = s.regs := rfl
@[simp] theorem State.updPwr_acts (s : State) (f : Pwr → Pwr) : (s.updPwr f).acts = s.acts := rfl
@[simp] theorem State.updPwr_cnts (s : State) (f : Pwr → Pwr) : (s.updPwr f).cnts = s.cnts := rfl
@[simp] theorem State.updPwr_snaps (s : State) (f : Pwr → Pwr) : (s.updPwr f).snaps = s.snaps := rfl
@[simp] theorem State.updPwr_lat (s : State) (f : Pwr → Pwr) : (s.updPwr f).lat = s.lat := rfl
@[simp] theorem State.updPwr_held (s : State) (f : Pwr → Pwr) : (s.updPwr f).held = s.held := rfl
@[simp] theorem State.updPwr_rdata (s : State) (f : Pwr → Pwr) : (s.updPwr f).rdata = s.rdata := rfl
@[simp] theorem State.updPwr_wins (s : State) (f : Pwr → Pwr) : (s.updPwr f).wins = s.wins := rfl
@[simp] theorem State.updPwr_tbl (s : State) (f : Pwr → Pwr) : (s.updPwr f).tbl = s.tbl := rfl
@[simp] theorem State.updPwr_vecs (s : State) (f : Pwr → Pwr) : (s.updPwr f).vecs = s.vecs := rfl
@[simp] theorem State.updPwr_tsu (s : State) (f : Pwr → Pwr) : (s.updPwr f).tsu = s.tsu := rfl
@[simp] theorem State.updPwr_macs (s : State) (f : Pwr → Pwr) : (s.updPwr f).macs = s.macs := rfl
@[simp] theorem State.updPwr_egs (s : State) (f : Pwr → Pwr) : (s.updPwr f).egs = s.egs := rfl
@[simp] theorem State.updPwr_swc (s : State) (f : Pwr → Pwr) : (s.updPwr f).swc = s.swc := rfl
@[simp] theorem State.updPwr_mem (s : State) (f : Pwr → Pwr) : (s.updPwr f).mem = s.mem := rfl
@[simp] theorem State.updPwr_mram (s : State) (f : Pwr → Pwr) : (s.updPwr f).mram = s.mram := rfl
@[simp] theorem State.updPwr_flips (s : State) (f : Pwr → Pwr) : (s.updPwr f).flips = s.flips := rfl
@[simp] theorem State.updPwr_poison (s : State) (f : Pwr → Pwr) : (s.updPwr f).poison = s.poison := rfl
@[simp] theorem State.updPwr_memSt (s : State) (f : Pwr → Pwr) : (s.updPwr f).memSt = s.memSt := rfl
@[simp] theorem State.updPwr_evr (s : State) (f : Pwr → Pwr) : (s.updPwr f).evr = s.evr := rfl
@[simp] theorem State.updPwr_memFenced (s : State) (f : Pwr → Pwr) : (s.updPwr f).memFenced = s.memFenced := rfl
@[simp] theorem State.updPwr_sva (s : State) (f : Pwr → Pwr) : (s.updPwr f).sva = s.sva := rfl
@[simp] theorem State.updPwr_flt (s : State) (f : Pwr → Pwr) : (s.updPwr f).flt = s.flt := rfl
@[simp] theorem State.updPwr_thrCyc (s : State) (f : Pwr → Pwr) : (s.updPwr f).thrCyc = s.thrCyc := rfl
@[simp] theorem State.updPwr_thrAcq (s : State) (f : Pwr → Pwr) : (s.updPwr f).thrAcq = s.thrAcq := rfl
@[simp] theorem State.updPwr_adcs (s : State) (f : Pwr → Pwr) : (s.updPwr f).adcs = s.adcs := rfl
@[simp] theorem State.updPwr_shunts (s : State) (f : Pwr → Pwr) : (s.updPwr f).shunts = s.shunts := rfl
@[simp] theorem State.updPwr_plaus (s : State) (f : Pwr → Pwr) : (s.updPwr f).plaus = s.plaus := rfl
@[simp] theorem State.updPwr_img (s : State) (f : Pwr → Pwr) : (s.updPwr f).img = s.img := rfl
@[simp] theorem State.updPwr_dir (s : State) (f : Pwr → Pwr) : (s.updPwr f).dir = s.dir := rfl
@[simp] theorem State.updPwr_cyc (s : State) (f : Pwr → Pwr) : (s.updPwr f).cyc = s.cyc := rfl
@[simp] theorem State.updPwr_hwsIn (s : State) (f : Pwr → Pwr) : (s.updPwr f).hwsIn = s.hwsIn := rfl
@[simp] theorem State.updPwr_dup (s : State) (f : Pwr → Pwr) : (s.updPwr f).dup = s.dup := rfl
@[simp] theorem State.updPwr_qps (s : State) (f : Pwr → Pwr) : (s.updPwr f).qps = s.qps := rfl
@[simp] theorem State.updPwr_ops (s : State) (f : Pwr → Pwr) : (s.updPwr f).ops = s.ops := rfl
@[simp] theorem State.updPwr_skds (s : State) (f : Pwr → Pwr) : (s.updPwr f).skds = s.skds := rfl
@[simp] theorem State.updPwr_vfs (s : State) (f : Pwr → Pwr) : (s.updPwr f).vfs = s.vfs := rfl
@[simp] theorem State.updPwr_migIn (s : State) (f : Pwr → Pwr) : (s.updPwr f).migIn = s.migIn := rfl
@[simp] theorem State.updPwr_tals (s : State) (f : Pwr → Pwr) : (s.updPwr f).tals = s.tals := rfl
@[simp] theorem State.updPwr_talAts (s : State) (f : Pwr → Pwr) : (s.updPwr f).talAts = s.talAts := rfl
@[simp] theorem State.updPwr_dfos (s : State) (f : Pwr → Pwr) : (s.updPwr f).dfos = s.dfos := rfl
@[simp] theorem State.updPwr_hws (s : State) (f : Pwr → Pwr) : (s.updPwr f).hws = s.hws := rfl
@[simp] theorem State.updPwr_acq (s : State) (f : Pwr → Pwr) : (s.updPwr f).acq = s.acq := rfl
@[simp] theorem State.updPwr_acqGoose (s : State) (f : Pwr → Pwr) : (s.updPwr f).acqGoose = s.acqGoose := rfl
@[simp] theorem State.updPwr_kslots (s : State) (f : Pwr → Pwr) : (s.updPwr f).kslots = s.kslots := rfl
@[simp] theorem State.updPwr_ekeys (s : State) (f : Pwr → Pwr) : (s.updPwr f).ekeys = s.ekeys := rfl
@[simp] theorem State.updPwr_ksu (s : State) (f : Pwr → Pwr) : (s.updPwr f).ksu = s.ksu := rfl
@[simp] theorem State.updPwr_tmp (s : State) (f : Pwr → Pwr) : (s.updPwr f).tmp = s.tmp := rfl
@[simp] theorem State.updPwr_pwr (s : State) (f : Pwr → Pwr) : (s.updPwr f).pwr = f s.pwr := rfl
@[simp] theorem State.updPwr_rst (s : State) (f : Pwr → Pwr) : (s.updPwr f).rst = s.rst := rfl
@[simp] theorem State.updPwr_shf (s : State) (f : Pwr → Pwr) : (s.updPwr f).shf = s.shf := rfl
@[simp] theorem State.updPwr_hlt (s : State) (f : Pwr → Pwr) : (s.updPwr f).hlt = s.hlt := rfl
@[simp] theorem State.updPwr_out (s : State) (f : Pwr → Pwr) : (s.updPwr f).out = s.out := rfl
@[simp] theorem State.updPwr_free (s : State) (f : Pwr → Pwr) : (s.updPwr f).free = s.free := rfl
@[simp] theorem State.updPwr_pending (s : State) (f : Pwr → Pwr) : (s.updPwr f).pending = s.pending := rfl

/-! ### updRst -/

@[simp] theorem State.updRst_ident (s : State) (f : Rst → Rst) : (s.updRst f).ident = s.ident := rfl
@[simp] theorem State.updRst_hdrs (s : State) (f : Rst → Rst) : (s.updRst f).hdrs = s.hdrs := rfl
@[simp] theorem State.updRst_regs (s : State) (f : Rst → Rst) : (s.updRst f).regs = s.regs := rfl
@[simp] theorem State.updRst_acts (s : State) (f : Rst → Rst) : (s.updRst f).acts = s.acts := rfl
@[simp] theorem State.updRst_cnts (s : State) (f : Rst → Rst) : (s.updRst f).cnts = s.cnts := rfl
@[simp] theorem State.updRst_snaps (s : State) (f : Rst → Rst) : (s.updRst f).snaps = s.snaps := rfl
@[simp] theorem State.updRst_lat (s : State) (f : Rst → Rst) : (s.updRst f).lat = s.lat := rfl
@[simp] theorem State.updRst_held (s : State) (f : Rst → Rst) : (s.updRst f).held = s.held := rfl
@[simp] theorem State.updRst_rdata (s : State) (f : Rst → Rst) : (s.updRst f).rdata = s.rdata := rfl
@[simp] theorem State.updRst_wins (s : State) (f : Rst → Rst) : (s.updRst f).wins = s.wins := rfl
@[simp] theorem State.updRst_tbl (s : State) (f : Rst → Rst) : (s.updRst f).tbl = s.tbl := rfl
@[simp] theorem State.updRst_vecs (s : State) (f : Rst → Rst) : (s.updRst f).vecs = s.vecs := rfl
@[simp] theorem State.updRst_tsu (s : State) (f : Rst → Rst) : (s.updRst f).tsu = s.tsu := rfl
@[simp] theorem State.updRst_macs (s : State) (f : Rst → Rst) : (s.updRst f).macs = s.macs := rfl
@[simp] theorem State.updRst_egs (s : State) (f : Rst → Rst) : (s.updRst f).egs = s.egs := rfl
@[simp] theorem State.updRst_swc (s : State) (f : Rst → Rst) : (s.updRst f).swc = s.swc := rfl
@[simp] theorem State.updRst_mem (s : State) (f : Rst → Rst) : (s.updRst f).mem = s.mem := rfl
@[simp] theorem State.updRst_mram (s : State) (f : Rst → Rst) : (s.updRst f).mram = s.mram := rfl
@[simp] theorem State.updRst_flips (s : State) (f : Rst → Rst) : (s.updRst f).flips = s.flips := rfl
@[simp] theorem State.updRst_poison (s : State) (f : Rst → Rst) : (s.updRst f).poison = s.poison := rfl
@[simp] theorem State.updRst_memSt (s : State) (f : Rst → Rst) : (s.updRst f).memSt = s.memSt := rfl
@[simp] theorem State.updRst_evr (s : State) (f : Rst → Rst) : (s.updRst f).evr = s.evr := rfl
@[simp] theorem State.updRst_memFenced (s : State) (f : Rst → Rst) : (s.updRst f).memFenced = s.memFenced := rfl
@[simp] theorem State.updRst_sva (s : State) (f : Rst → Rst) : (s.updRst f).sva = s.sva := rfl
@[simp] theorem State.updRst_flt (s : State) (f : Rst → Rst) : (s.updRst f).flt = s.flt := rfl
@[simp] theorem State.updRst_thrCyc (s : State) (f : Rst → Rst) : (s.updRst f).thrCyc = s.thrCyc := rfl
@[simp] theorem State.updRst_thrAcq (s : State) (f : Rst → Rst) : (s.updRst f).thrAcq = s.thrAcq := rfl
@[simp] theorem State.updRst_adcs (s : State) (f : Rst → Rst) : (s.updRst f).adcs = s.adcs := rfl
@[simp] theorem State.updRst_shunts (s : State) (f : Rst → Rst) : (s.updRst f).shunts = s.shunts := rfl
@[simp] theorem State.updRst_plaus (s : State) (f : Rst → Rst) : (s.updRst f).plaus = s.plaus := rfl
@[simp] theorem State.updRst_img (s : State) (f : Rst → Rst) : (s.updRst f).img = s.img := rfl
@[simp] theorem State.updRst_dir (s : State) (f : Rst → Rst) : (s.updRst f).dir = s.dir := rfl
@[simp] theorem State.updRst_cyc (s : State) (f : Rst → Rst) : (s.updRst f).cyc = s.cyc := rfl
@[simp] theorem State.updRst_hwsIn (s : State) (f : Rst → Rst) : (s.updRst f).hwsIn = s.hwsIn := rfl
@[simp] theorem State.updRst_dup (s : State) (f : Rst → Rst) : (s.updRst f).dup = s.dup := rfl
@[simp] theorem State.updRst_qps (s : State) (f : Rst → Rst) : (s.updRst f).qps = s.qps := rfl
@[simp] theorem State.updRst_ops (s : State) (f : Rst → Rst) : (s.updRst f).ops = s.ops := rfl
@[simp] theorem State.updRst_skds (s : State) (f : Rst → Rst) : (s.updRst f).skds = s.skds := rfl
@[simp] theorem State.updRst_vfs (s : State) (f : Rst → Rst) : (s.updRst f).vfs = s.vfs := rfl
@[simp] theorem State.updRst_migIn (s : State) (f : Rst → Rst) : (s.updRst f).migIn = s.migIn := rfl
@[simp] theorem State.updRst_tals (s : State) (f : Rst → Rst) : (s.updRst f).tals = s.tals := rfl
@[simp] theorem State.updRst_talAts (s : State) (f : Rst → Rst) : (s.updRst f).talAts = s.talAts := rfl
@[simp] theorem State.updRst_dfos (s : State) (f : Rst → Rst) : (s.updRst f).dfos = s.dfos := rfl
@[simp] theorem State.updRst_hws (s : State) (f : Rst → Rst) : (s.updRst f).hws = s.hws := rfl
@[simp] theorem State.updRst_acq (s : State) (f : Rst → Rst) : (s.updRst f).acq = s.acq := rfl
@[simp] theorem State.updRst_acqGoose (s : State) (f : Rst → Rst) : (s.updRst f).acqGoose = s.acqGoose := rfl
@[simp] theorem State.updRst_kslots (s : State) (f : Rst → Rst) : (s.updRst f).kslots = s.kslots := rfl
@[simp] theorem State.updRst_ekeys (s : State) (f : Rst → Rst) : (s.updRst f).ekeys = s.ekeys := rfl
@[simp] theorem State.updRst_ksu (s : State) (f : Rst → Rst) : (s.updRst f).ksu = s.ksu := rfl
@[simp] theorem State.updRst_tmp (s : State) (f : Rst → Rst) : (s.updRst f).tmp = s.tmp := rfl
@[simp] theorem State.updRst_pwr (s : State) (f : Rst → Rst) : (s.updRst f).pwr = s.pwr := rfl
@[simp] theorem State.updRst_rst (s : State) (f : Rst → Rst) : (s.updRst f).rst = f s.rst := rfl
@[simp] theorem State.updRst_shf (s : State) (f : Rst → Rst) : (s.updRst f).shf = s.shf := rfl
@[simp] theorem State.updRst_hlt (s : State) (f : Rst → Rst) : (s.updRst f).hlt = s.hlt := rfl
@[simp] theorem State.updRst_out (s : State) (f : Rst → Rst) : (s.updRst f).out = s.out := rfl
@[simp] theorem State.updRst_free (s : State) (f : Rst → Rst) : (s.updRst f).free = s.free := rfl
@[simp] theorem State.updRst_pending (s : State) (f : Rst → Rst) : (s.updRst f).pending = s.pending := rfl

/-! ### updKsu -/

@[simp] theorem State.updKsu_ident (s : State) (f : Ksu → Ksu) : (s.updKsu f).ident = s.ident := rfl
@[simp] theorem State.updKsu_hdrs (s : State) (f : Ksu → Ksu) : (s.updKsu f).hdrs = s.hdrs := rfl
@[simp] theorem State.updKsu_regs (s : State) (f : Ksu → Ksu) : (s.updKsu f).regs = s.regs := rfl
@[simp] theorem State.updKsu_acts (s : State) (f : Ksu → Ksu) : (s.updKsu f).acts = s.acts := rfl
@[simp] theorem State.updKsu_cnts (s : State) (f : Ksu → Ksu) : (s.updKsu f).cnts = s.cnts := rfl
@[simp] theorem State.updKsu_snaps (s : State) (f : Ksu → Ksu) : (s.updKsu f).snaps = s.snaps := rfl
@[simp] theorem State.updKsu_lat (s : State) (f : Ksu → Ksu) : (s.updKsu f).lat = s.lat := rfl
@[simp] theorem State.updKsu_held (s : State) (f : Ksu → Ksu) : (s.updKsu f).held = s.held := rfl
@[simp] theorem State.updKsu_rdata (s : State) (f : Ksu → Ksu) : (s.updKsu f).rdata = s.rdata := rfl
@[simp] theorem State.updKsu_wins (s : State) (f : Ksu → Ksu) : (s.updKsu f).wins = s.wins := rfl
@[simp] theorem State.updKsu_tbl (s : State) (f : Ksu → Ksu) : (s.updKsu f).tbl = s.tbl := rfl
@[simp] theorem State.updKsu_vecs (s : State) (f : Ksu → Ksu) : (s.updKsu f).vecs = s.vecs := rfl
@[simp] theorem State.updKsu_tsu (s : State) (f : Ksu → Ksu) : (s.updKsu f).tsu = s.tsu := rfl
@[simp] theorem State.updKsu_macs (s : State) (f : Ksu → Ksu) : (s.updKsu f).macs = s.macs := rfl
@[simp] theorem State.updKsu_egs (s : State) (f : Ksu → Ksu) : (s.updKsu f).egs = s.egs := rfl
@[simp] theorem State.updKsu_swc (s : State) (f : Ksu → Ksu) : (s.updKsu f).swc = s.swc := rfl
@[simp] theorem State.updKsu_mem (s : State) (f : Ksu → Ksu) : (s.updKsu f).mem = s.mem := rfl
@[simp] theorem State.updKsu_mram (s : State) (f : Ksu → Ksu) : (s.updKsu f).mram = s.mram := rfl
@[simp] theorem State.updKsu_flips (s : State) (f : Ksu → Ksu) : (s.updKsu f).flips = s.flips := rfl
@[simp] theorem State.updKsu_poison (s : State) (f : Ksu → Ksu) : (s.updKsu f).poison = s.poison := rfl
@[simp] theorem State.updKsu_memSt (s : State) (f : Ksu → Ksu) : (s.updKsu f).memSt = s.memSt := rfl
@[simp] theorem State.updKsu_evr (s : State) (f : Ksu → Ksu) : (s.updKsu f).evr = s.evr := rfl
@[simp] theorem State.updKsu_memFenced (s : State) (f : Ksu → Ksu) : (s.updKsu f).memFenced = s.memFenced := rfl
@[simp] theorem State.updKsu_sva (s : State) (f : Ksu → Ksu) : (s.updKsu f).sva = s.sva := rfl
@[simp] theorem State.updKsu_flt (s : State) (f : Ksu → Ksu) : (s.updKsu f).flt = s.flt := rfl
@[simp] theorem State.updKsu_thrCyc (s : State) (f : Ksu → Ksu) : (s.updKsu f).thrCyc = s.thrCyc := rfl
@[simp] theorem State.updKsu_thrAcq (s : State) (f : Ksu → Ksu) : (s.updKsu f).thrAcq = s.thrAcq := rfl
@[simp] theorem State.updKsu_adcs (s : State) (f : Ksu → Ksu) : (s.updKsu f).adcs = s.adcs := rfl
@[simp] theorem State.updKsu_shunts (s : State) (f : Ksu → Ksu) : (s.updKsu f).shunts = s.shunts := rfl
@[simp] theorem State.updKsu_plaus (s : State) (f : Ksu → Ksu) : (s.updKsu f).plaus = s.plaus := rfl
@[simp] theorem State.updKsu_img (s : State) (f : Ksu → Ksu) : (s.updKsu f).img = s.img := rfl
@[simp] theorem State.updKsu_dir (s : State) (f : Ksu → Ksu) : (s.updKsu f).dir = s.dir := rfl
@[simp] theorem State.updKsu_cyc (s : State) (f : Ksu → Ksu) : (s.updKsu f).cyc = s.cyc := rfl
@[simp] theorem State.updKsu_hwsIn (s : State) (f : Ksu → Ksu) : (s.updKsu f).hwsIn = s.hwsIn := rfl
@[simp] theorem State.updKsu_dup (s : State) (f : Ksu → Ksu) : (s.updKsu f).dup = s.dup := rfl
@[simp] theorem State.updKsu_qps (s : State) (f : Ksu → Ksu) : (s.updKsu f).qps = s.qps := rfl
@[simp] theorem State.updKsu_ops (s : State) (f : Ksu → Ksu) : (s.updKsu f).ops = s.ops := rfl
@[simp] theorem State.updKsu_skds (s : State) (f : Ksu → Ksu) : (s.updKsu f).skds = s.skds := rfl
@[simp] theorem State.updKsu_vfs (s : State) (f : Ksu → Ksu) : (s.updKsu f).vfs = s.vfs := rfl
@[simp] theorem State.updKsu_migIn (s : State) (f : Ksu → Ksu) : (s.updKsu f).migIn = s.migIn := rfl
@[simp] theorem State.updKsu_tals (s : State) (f : Ksu → Ksu) : (s.updKsu f).tals = s.tals := rfl
@[simp] theorem State.updKsu_talAts (s : State) (f : Ksu → Ksu) : (s.updKsu f).talAts = s.talAts := rfl
@[simp] theorem State.updKsu_dfos (s : State) (f : Ksu → Ksu) : (s.updKsu f).dfos = s.dfos := rfl
@[simp] theorem State.updKsu_hws (s : State) (f : Ksu → Ksu) : (s.updKsu f).hws = s.hws := rfl
@[simp] theorem State.updKsu_acq (s : State) (f : Ksu → Ksu) : (s.updKsu f).acq = s.acq := rfl
@[simp] theorem State.updKsu_acqGoose (s : State) (f : Ksu → Ksu) : (s.updKsu f).acqGoose = s.acqGoose := rfl
@[simp] theorem State.updKsu_kslots (s : State) (f : Ksu → Ksu) : (s.updKsu f).kslots = s.kslots := rfl
@[simp] theorem State.updKsu_ekeys (s : State) (f : Ksu → Ksu) : (s.updKsu f).ekeys = s.ekeys := rfl
@[simp] theorem State.updKsu_ksu (s : State) (f : Ksu → Ksu) : (s.updKsu f).ksu = f s.ksu := rfl
@[simp] theorem State.updKsu_tmp (s : State) (f : Ksu → Ksu) : (s.updKsu f).tmp = s.tmp := rfl
@[simp] theorem State.updKsu_pwr (s : State) (f : Ksu → Ksu) : (s.updKsu f).pwr = s.pwr := rfl
@[simp] theorem State.updKsu_rst (s : State) (f : Ksu → Ksu) : (s.updKsu f).rst = s.rst := rfl
@[simp] theorem State.updKsu_shf (s : State) (f : Ksu → Ksu) : (s.updKsu f).shf = s.shf := rfl
@[simp] theorem State.updKsu_hlt (s : State) (f : Ksu → Ksu) : (s.updKsu f).hlt = s.hlt := rfl
@[simp] theorem State.updKsu_out (s : State) (f : Ksu → Ksu) : (s.updKsu f).out = s.out := rfl
@[simp] theorem State.updKsu_free (s : State) (f : Ksu → Ksu) : (s.updKsu f).free = s.free := rfl
@[simp] theorem State.updKsu_pending (s : State) (f : Ksu → Ksu) : (s.updKsu f).pending = s.pending := rfl

/-! ### updTmp -/

@[simp] theorem State.updTmp_ident (s : State) (f : Tmp → Tmp) : (s.updTmp f).ident = s.ident := rfl
@[simp] theorem State.updTmp_hdrs (s : State) (f : Tmp → Tmp) : (s.updTmp f).hdrs = s.hdrs := rfl
@[simp] theorem State.updTmp_regs (s : State) (f : Tmp → Tmp) : (s.updTmp f).regs = s.regs := rfl
@[simp] theorem State.updTmp_acts (s : State) (f : Tmp → Tmp) : (s.updTmp f).acts = s.acts := rfl
@[simp] theorem State.updTmp_cnts (s : State) (f : Tmp → Tmp) : (s.updTmp f).cnts = s.cnts := rfl
@[simp] theorem State.updTmp_snaps (s : State) (f : Tmp → Tmp) : (s.updTmp f).snaps = s.snaps := rfl
@[simp] theorem State.updTmp_lat (s : State) (f : Tmp → Tmp) : (s.updTmp f).lat = s.lat := rfl
@[simp] theorem State.updTmp_held (s : State) (f : Tmp → Tmp) : (s.updTmp f).held = s.held := rfl
@[simp] theorem State.updTmp_rdata (s : State) (f : Tmp → Tmp) : (s.updTmp f).rdata = s.rdata := rfl
@[simp] theorem State.updTmp_wins (s : State) (f : Tmp → Tmp) : (s.updTmp f).wins = s.wins := rfl
@[simp] theorem State.updTmp_tbl (s : State) (f : Tmp → Tmp) : (s.updTmp f).tbl = s.tbl := rfl
@[simp] theorem State.updTmp_vecs (s : State) (f : Tmp → Tmp) : (s.updTmp f).vecs = s.vecs := rfl
@[simp] theorem State.updTmp_tsu (s : State) (f : Tmp → Tmp) : (s.updTmp f).tsu = s.tsu := rfl
@[simp] theorem State.updTmp_macs (s : State) (f : Tmp → Tmp) : (s.updTmp f).macs = s.macs := rfl
@[simp] theorem State.updTmp_egs (s : State) (f : Tmp → Tmp) : (s.updTmp f).egs = s.egs := rfl
@[simp] theorem State.updTmp_swc (s : State) (f : Tmp → Tmp) : (s.updTmp f).swc = s.swc := rfl
@[simp] theorem State.updTmp_mem (s : State) (f : Tmp → Tmp) : (s.updTmp f).mem = s.mem := rfl
@[simp] theorem State.updTmp_mram (s : State) (f : Tmp → Tmp) : (s.updTmp f).mram = s.mram := rfl
@[simp] theorem State.updTmp_flips (s : State) (f : Tmp → Tmp) : (s.updTmp f).flips = s.flips := rfl
@[simp] theorem State.updTmp_poison (s : State) (f : Tmp → Tmp) : (s.updTmp f).poison = s.poison := rfl
@[simp] theorem State.updTmp_memSt (s : State) (f : Tmp → Tmp) : (s.updTmp f).memSt = s.memSt := rfl
@[simp] theorem State.updTmp_evr (s : State) (f : Tmp → Tmp) : (s.updTmp f).evr = s.evr := rfl
@[simp] theorem State.updTmp_memFenced (s : State) (f : Tmp → Tmp) : (s.updTmp f).memFenced = s.memFenced := rfl
@[simp] theorem State.updTmp_sva (s : State) (f : Tmp → Tmp) : (s.updTmp f).sva = s.sva := rfl
@[simp] theorem State.updTmp_flt (s : State) (f : Tmp → Tmp) : (s.updTmp f).flt = s.flt := rfl
@[simp] theorem State.updTmp_thrCyc (s : State) (f : Tmp → Tmp) : (s.updTmp f).thrCyc = s.thrCyc := rfl
@[simp] theorem State.updTmp_thrAcq (s : State) (f : Tmp → Tmp) : (s.updTmp f).thrAcq = s.thrAcq := rfl
@[simp] theorem State.updTmp_adcs (s : State) (f : Tmp → Tmp) : (s.updTmp f).adcs = s.adcs := rfl
@[simp] theorem State.updTmp_shunts (s : State) (f : Tmp → Tmp) : (s.updTmp f).shunts = s.shunts := rfl
@[simp] theorem State.updTmp_plaus (s : State) (f : Tmp → Tmp) : (s.updTmp f).plaus = s.plaus := rfl
@[simp] theorem State.updTmp_img (s : State) (f : Tmp → Tmp) : (s.updTmp f).img = s.img := rfl
@[simp] theorem State.updTmp_dir (s : State) (f : Tmp → Tmp) : (s.updTmp f).dir = s.dir := rfl
@[simp] theorem State.updTmp_cyc (s : State) (f : Tmp → Tmp) : (s.updTmp f).cyc = s.cyc := rfl
@[simp] theorem State.updTmp_hwsIn (s : State) (f : Tmp → Tmp) : (s.updTmp f).hwsIn = s.hwsIn := rfl
@[simp] theorem State.updTmp_dup (s : State) (f : Tmp → Tmp) : (s.updTmp f).dup = s.dup := rfl
@[simp] theorem State.updTmp_qps (s : State) (f : Tmp → Tmp) : (s.updTmp f).qps = s.qps := rfl
@[simp] theorem State.updTmp_ops (s : State) (f : Tmp → Tmp) : (s.updTmp f).ops = s.ops := rfl
@[simp] theorem State.updTmp_skds (s : State) (f : Tmp → Tmp) : (s.updTmp f).skds = s.skds := rfl
@[simp] theorem State.updTmp_vfs (s : State) (f : Tmp → Tmp) : (s.updTmp f).vfs = s.vfs := rfl
@[simp] theorem State.updTmp_migIn (s : State) (f : Tmp → Tmp) : (s.updTmp f).migIn = s.migIn := rfl
@[simp] theorem State.updTmp_tals (s : State) (f : Tmp → Tmp) : (s.updTmp f).tals = s.tals := rfl
@[simp] theorem State.updTmp_talAts (s : State) (f : Tmp → Tmp) : (s.updTmp f).talAts = s.talAts := rfl
@[simp] theorem State.updTmp_dfos (s : State) (f : Tmp → Tmp) : (s.updTmp f).dfos = s.dfos := rfl
@[simp] theorem State.updTmp_hws (s : State) (f : Tmp → Tmp) : (s.updTmp f).hws = s.hws := rfl
@[simp] theorem State.updTmp_acq (s : State) (f : Tmp → Tmp) : (s.updTmp f).acq = s.acq := rfl
@[simp] theorem State.updTmp_acqGoose (s : State) (f : Tmp → Tmp) : (s.updTmp f).acqGoose = s.acqGoose := rfl
@[simp] theorem State.updTmp_kslots (s : State) (f : Tmp → Tmp) : (s.updTmp f).kslots = s.kslots := rfl
@[simp] theorem State.updTmp_ekeys (s : State) (f : Tmp → Tmp) : (s.updTmp f).ekeys = s.ekeys := rfl
@[simp] theorem State.updTmp_ksu (s : State) (f : Tmp → Tmp) : (s.updTmp f).ksu = s.ksu := rfl
@[simp] theorem State.updTmp_tmp (s : State) (f : Tmp → Tmp) : (s.updTmp f).tmp = f s.tmp := rfl
@[simp] theorem State.updTmp_pwr (s : State) (f : Tmp → Tmp) : (s.updTmp f).pwr = s.pwr := rfl
@[simp] theorem State.updTmp_rst (s : State) (f : Tmp → Tmp) : (s.updTmp f).rst = s.rst := rfl
@[simp] theorem State.updTmp_shf (s : State) (f : Tmp → Tmp) : (s.updTmp f).shf = s.shf := rfl
@[simp] theorem State.updTmp_hlt (s : State) (f : Tmp → Tmp) : (s.updTmp f).hlt = s.hlt := rfl
@[simp] theorem State.updTmp_out (s : State) (f : Tmp → Tmp) : (s.updTmp f).out = s.out := rfl
@[simp] theorem State.updTmp_free (s : State) (f : Tmp → Tmp) : (s.updTmp f).free = s.free := rfl
@[simp] theorem State.updTmp_pending (s : State) (f : Tmp → Tmp) : (s.updTmp f).pending = s.pending := rfl

/-! ### updShf -/

@[simp] theorem State.updShf_ident (s : State) (f : Shf → Shf) : (s.updShf f).ident = s.ident := rfl
@[simp] theorem State.updShf_hdrs (s : State) (f : Shf → Shf) : (s.updShf f).hdrs = s.hdrs := rfl
@[simp] theorem State.updShf_regs (s : State) (f : Shf → Shf) : (s.updShf f).regs = s.regs := rfl
@[simp] theorem State.updShf_acts (s : State) (f : Shf → Shf) : (s.updShf f).acts = s.acts := rfl
@[simp] theorem State.updShf_cnts (s : State) (f : Shf → Shf) : (s.updShf f).cnts = s.cnts := rfl
@[simp] theorem State.updShf_snaps (s : State) (f : Shf → Shf) : (s.updShf f).snaps = s.snaps := rfl
@[simp] theorem State.updShf_lat (s : State) (f : Shf → Shf) : (s.updShf f).lat = s.lat := rfl
@[simp] theorem State.updShf_held (s : State) (f : Shf → Shf) : (s.updShf f).held = s.held := rfl
@[simp] theorem State.updShf_rdata (s : State) (f : Shf → Shf) : (s.updShf f).rdata = s.rdata := rfl
@[simp] theorem State.updShf_wins (s : State) (f : Shf → Shf) : (s.updShf f).wins = s.wins := rfl
@[simp] theorem State.updShf_tbl (s : State) (f : Shf → Shf) : (s.updShf f).tbl = s.tbl := rfl
@[simp] theorem State.updShf_vecs (s : State) (f : Shf → Shf) : (s.updShf f).vecs = s.vecs := rfl
@[simp] theorem State.updShf_tsu (s : State) (f : Shf → Shf) : (s.updShf f).tsu = s.tsu := rfl
@[simp] theorem State.updShf_macs (s : State) (f : Shf → Shf) : (s.updShf f).macs = s.macs := rfl
@[simp] theorem State.updShf_egs (s : State) (f : Shf → Shf) : (s.updShf f).egs = s.egs := rfl
@[simp] theorem State.updShf_swc (s : State) (f : Shf → Shf) : (s.updShf f).swc = s.swc := rfl
@[simp] theorem State.updShf_mem (s : State) (f : Shf → Shf) : (s.updShf f).mem = s.mem := rfl
@[simp] theorem State.updShf_mram (s : State) (f : Shf → Shf) : (s.updShf f).mram = s.mram := rfl
@[simp] theorem State.updShf_flips (s : State) (f : Shf → Shf) : (s.updShf f).flips = s.flips := rfl
@[simp] theorem State.updShf_poison (s : State) (f : Shf → Shf) : (s.updShf f).poison = s.poison := rfl
@[simp] theorem State.updShf_memSt (s : State) (f : Shf → Shf) : (s.updShf f).memSt = s.memSt := rfl
@[simp] theorem State.updShf_evr (s : State) (f : Shf → Shf) : (s.updShf f).evr = s.evr := rfl
@[simp] theorem State.updShf_memFenced (s : State) (f : Shf → Shf) : (s.updShf f).memFenced = s.memFenced := rfl
@[simp] theorem State.updShf_sva (s : State) (f : Shf → Shf) : (s.updShf f).sva = s.sva := rfl
@[simp] theorem State.updShf_flt (s : State) (f : Shf → Shf) : (s.updShf f).flt = s.flt := rfl
@[simp] theorem State.updShf_thrCyc (s : State) (f : Shf → Shf) : (s.updShf f).thrCyc = s.thrCyc := rfl
@[simp] theorem State.updShf_thrAcq (s : State) (f : Shf → Shf) : (s.updShf f).thrAcq = s.thrAcq := rfl
@[simp] theorem State.updShf_adcs (s : State) (f : Shf → Shf) : (s.updShf f).adcs = s.adcs := rfl
@[simp] theorem State.updShf_shunts (s : State) (f : Shf → Shf) : (s.updShf f).shunts = s.shunts := rfl
@[simp] theorem State.updShf_plaus (s : State) (f : Shf → Shf) : (s.updShf f).plaus = s.plaus := rfl
@[simp] theorem State.updShf_img (s : State) (f : Shf → Shf) : (s.updShf f).img = s.img := rfl
@[simp] theorem State.updShf_dir (s : State) (f : Shf → Shf) : (s.updShf f).dir = s.dir := rfl
@[simp] theorem State.updShf_cyc (s : State) (f : Shf → Shf) : (s.updShf f).cyc = s.cyc := rfl
@[simp] theorem State.updShf_hwsIn (s : State) (f : Shf → Shf) : (s.updShf f).hwsIn = s.hwsIn := rfl
@[simp] theorem State.updShf_dup (s : State) (f : Shf → Shf) : (s.updShf f).dup = s.dup := rfl
@[simp] theorem State.updShf_qps (s : State) (f : Shf → Shf) : (s.updShf f).qps = s.qps := rfl
@[simp] theorem State.updShf_ops (s : State) (f : Shf → Shf) : (s.updShf f).ops = s.ops := rfl
@[simp] theorem State.updShf_skds (s : State) (f : Shf → Shf) : (s.updShf f).skds = s.skds := rfl
@[simp] theorem State.updShf_vfs (s : State) (f : Shf → Shf) : (s.updShf f).vfs = s.vfs := rfl
@[simp] theorem State.updShf_migIn (s : State) (f : Shf → Shf) : (s.updShf f).migIn = s.migIn := rfl
@[simp] theorem State.updShf_tals (s : State) (f : Shf → Shf) : (s.updShf f).tals = s.tals := rfl
@[simp] theorem State.updShf_talAts (s : State) (f : Shf → Shf) : (s.updShf f).talAts = s.talAts := rfl
@[simp] theorem State.updShf_dfos (s : State) (f : Shf → Shf) : (s.updShf f).dfos = s.dfos := rfl
@[simp] theorem State.updShf_hws (s : State) (f : Shf → Shf) : (s.updShf f).hws = s.hws := rfl
@[simp] theorem State.updShf_acq (s : State) (f : Shf → Shf) : (s.updShf f).acq = s.acq := rfl
@[simp] theorem State.updShf_acqGoose (s : State) (f : Shf → Shf) : (s.updShf f).acqGoose = s.acqGoose := rfl
@[simp] theorem State.updShf_kslots (s : State) (f : Shf → Shf) : (s.updShf f).kslots = s.kslots := rfl
@[simp] theorem State.updShf_ekeys (s : State) (f : Shf → Shf) : (s.updShf f).ekeys = s.ekeys := rfl
@[simp] theorem State.updShf_ksu (s : State) (f : Shf → Shf) : (s.updShf f).ksu = s.ksu := rfl
@[simp] theorem State.updShf_tmp (s : State) (f : Shf → Shf) : (s.updShf f).tmp = s.tmp := rfl
@[simp] theorem State.updShf_pwr (s : State) (f : Shf → Shf) : (s.updShf f).pwr = s.pwr := rfl
@[simp] theorem State.updShf_rst (s : State) (f : Shf → Shf) : (s.updShf f).rst = s.rst := rfl
@[simp] theorem State.updShf_shf (s : State) (f : Shf → Shf) : (s.updShf f).shf = f s.shf := rfl
@[simp] theorem State.updShf_hlt (s : State) (f : Shf → Shf) : (s.updShf f).hlt = s.hlt := rfl
@[simp] theorem State.updShf_out (s : State) (f : Shf → Shf) : (s.updShf f).out = s.out := rfl
@[simp] theorem State.updShf_free (s : State) (f : Shf → Shf) : (s.updShf f).free = s.free := rfl
@[simp] theorem State.updShf_pending (s : State) (f : Shf → Shf) : (s.updShf f).pending = s.pending := rfl

/-! ### updHlt -/

@[simp] theorem State.updHlt_ident (s : State) (f : Hlt → Hlt) : (s.updHlt f).ident = s.ident := rfl
@[simp] theorem State.updHlt_hdrs (s : State) (f : Hlt → Hlt) : (s.updHlt f).hdrs = s.hdrs := rfl
@[simp] theorem State.updHlt_regs (s : State) (f : Hlt → Hlt) : (s.updHlt f).regs = s.regs := rfl
@[simp] theorem State.updHlt_acts (s : State) (f : Hlt → Hlt) : (s.updHlt f).acts = s.acts := rfl
@[simp] theorem State.updHlt_cnts (s : State) (f : Hlt → Hlt) : (s.updHlt f).cnts = s.cnts := rfl
@[simp] theorem State.updHlt_snaps (s : State) (f : Hlt → Hlt) : (s.updHlt f).snaps = s.snaps := rfl
@[simp] theorem State.updHlt_lat (s : State) (f : Hlt → Hlt) : (s.updHlt f).lat = s.lat := rfl
@[simp] theorem State.updHlt_held (s : State) (f : Hlt → Hlt) : (s.updHlt f).held = s.held := rfl
@[simp] theorem State.updHlt_rdata (s : State) (f : Hlt → Hlt) : (s.updHlt f).rdata = s.rdata := rfl
@[simp] theorem State.updHlt_wins (s : State) (f : Hlt → Hlt) : (s.updHlt f).wins = s.wins := rfl
@[simp] theorem State.updHlt_tbl (s : State) (f : Hlt → Hlt) : (s.updHlt f).tbl = s.tbl := rfl
@[simp] theorem State.updHlt_vecs (s : State) (f : Hlt → Hlt) : (s.updHlt f).vecs = s.vecs := rfl
@[simp] theorem State.updHlt_tsu (s : State) (f : Hlt → Hlt) : (s.updHlt f).tsu = s.tsu := rfl
@[simp] theorem State.updHlt_macs (s : State) (f : Hlt → Hlt) : (s.updHlt f).macs = s.macs := rfl
@[simp] theorem State.updHlt_egs (s : State) (f : Hlt → Hlt) : (s.updHlt f).egs = s.egs := rfl
@[simp] theorem State.updHlt_swc (s : State) (f : Hlt → Hlt) : (s.updHlt f).swc = s.swc := rfl
@[simp] theorem State.updHlt_mem (s : State) (f : Hlt → Hlt) : (s.updHlt f).mem = s.mem := rfl
@[simp] theorem State.updHlt_mram (s : State) (f : Hlt → Hlt) : (s.updHlt f).mram = s.mram := rfl
@[simp] theorem State.updHlt_flips (s : State) (f : Hlt → Hlt) : (s.updHlt f).flips = s.flips := rfl
@[simp] theorem State.updHlt_poison (s : State) (f : Hlt → Hlt) : (s.updHlt f).poison = s.poison := rfl
@[simp] theorem State.updHlt_memSt (s : State) (f : Hlt → Hlt) : (s.updHlt f).memSt = s.memSt := rfl
@[simp] theorem State.updHlt_evr (s : State) (f : Hlt → Hlt) : (s.updHlt f).evr = s.evr := rfl
@[simp] theorem State.updHlt_memFenced (s : State) (f : Hlt → Hlt) : (s.updHlt f).memFenced = s.memFenced := rfl
@[simp] theorem State.updHlt_sva (s : State) (f : Hlt → Hlt) : (s.updHlt f).sva = s.sva := rfl
@[simp] theorem State.updHlt_flt (s : State) (f : Hlt → Hlt) : (s.updHlt f).flt = s.flt := rfl
@[simp] theorem State.updHlt_thrCyc (s : State) (f : Hlt → Hlt) : (s.updHlt f).thrCyc = s.thrCyc := rfl
@[simp] theorem State.updHlt_thrAcq (s : State) (f : Hlt → Hlt) : (s.updHlt f).thrAcq = s.thrAcq := rfl
@[simp] theorem State.updHlt_adcs (s : State) (f : Hlt → Hlt) : (s.updHlt f).adcs = s.adcs := rfl
@[simp] theorem State.updHlt_shunts (s : State) (f : Hlt → Hlt) : (s.updHlt f).shunts = s.shunts := rfl
@[simp] theorem State.updHlt_plaus (s : State) (f : Hlt → Hlt) : (s.updHlt f).plaus = s.plaus := rfl
@[simp] theorem State.updHlt_img (s : State) (f : Hlt → Hlt) : (s.updHlt f).img = s.img := rfl
@[simp] theorem State.updHlt_dir (s : State) (f : Hlt → Hlt) : (s.updHlt f).dir = s.dir := rfl
@[simp] theorem State.updHlt_cyc (s : State) (f : Hlt → Hlt) : (s.updHlt f).cyc = s.cyc := rfl
@[simp] theorem State.updHlt_hwsIn (s : State) (f : Hlt → Hlt) : (s.updHlt f).hwsIn = s.hwsIn := rfl
@[simp] theorem State.updHlt_dup (s : State) (f : Hlt → Hlt) : (s.updHlt f).dup = s.dup := rfl
@[simp] theorem State.updHlt_qps (s : State) (f : Hlt → Hlt) : (s.updHlt f).qps = s.qps := rfl
@[simp] theorem State.updHlt_ops (s : State) (f : Hlt → Hlt) : (s.updHlt f).ops = s.ops := rfl
@[simp] theorem State.updHlt_skds (s : State) (f : Hlt → Hlt) : (s.updHlt f).skds = s.skds := rfl
@[simp] theorem State.updHlt_vfs (s : State) (f : Hlt → Hlt) : (s.updHlt f).vfs = s.vfs := rfl
@[simp] theorem State.updHlt_migIn (s : State) (f : Hlt → Hlt) : (s.updHlt f).migIn = s.migIn := rfl
@[simp] theorem State.updHlt_tals (s : State) (f : Hlt → Hlt) : (s.updHlt f).tals = s.tals := rfl
@[simp] theorem State.updHlt_talAts (s : State) (f : Hlt → Hlt) : (s.updHlt f).talAts = s.talAts := rfl
@[simp] theorem State.updHlt_dfos (s : State) (f : Hlt → Hlt) : (s.updHlt f).dfos = s.dfos := rfl
@[simp] theorem State.updHlt_hws (s : State) (f : Hlt → Hlt) : (s.updHlt f).hws = s.hws := rfl
@[simp] theorem State.updHlt_acq (s : State) (f : Hlt → Hlt) : (s.updHlt f).acq = s.acq := rfl
@[simp] theorem State.updHlt_acqGoose (s : State) (f : Hlt → Hlt) : (s.updHlt f).acqGoose = s.acqGoose := rfl
@[simp] theorem State.updHlt_kslots (s : State) (f : Hlt → Hlt) : (s.updHlt f).kslots = s.kslots := rfl
@[simp] theorem State.updHlt_ekeys (s : State) (f : Hlt → Hlt) : (s.updHlt f).ekeys = s.ekeys := rfl
@[simp] theorem State.updHlt_ksu (s : State) (f : Hlt → Hlt) : (s.updHlt f).ksu = s.ksu := rfl
@[simp] theorem State.updHlt_tmp (s : State) (f : Hlt → Hlt) : (s.updHlt f).tmp = s.tmp := rfl
@[simp] theorem State.updHlt_pwr (s : State) (f : Hlt → Hlt) : (s.updHlt f).pwr = s.pwr := rfl
@[simp] theorem State.updHlt_rst (s : State) (f : Hlt → Hlt) : (s.updHlt f).rst = s.rst := rfl
@[simp] theorem State.updHlt_shf (s : State) (f : Hlt → Hlt) : (s.updHlt f).shf = s.shf := rfl
@[simp] theorem State.updHlt_hlt (s : State) (f : Hlt → Hlt) : (s.updHlt f).hlt = f s.hlt := rfl
@[simp] theorem State.updHlt_out (s : State) (f : Hlt → Hlt) : (s.updHlt f).out = s.out := rfl
@[simp] theorem State.updHlt_free (s : State) (f : Hlt → Hlt) : (s.updHlt f).free = s.free := rfl
@[simp] theorem State.updHlt_pending (s : State) (f : Hlt → Hlt) : (s.updHlt f).pending = s.pending := rfl

/-! ### updHws -/

@[simp] theorem State.updHws_ident (s : State) (f : Hws → Hws) : (s.updHws f).ident = s.ident := rfl
@[simp] theorem State.updHws_hdrs (s : State) (f : Hws → Hws) : (s.updHws f).hdrs = s.hdrs := rfl
@[simp] theorem State.updHws_regs (s : State) (f : Hws → Hws) : (s.updHws f).regs = s.regs := rfl
@[simp] theorem State.updHws_acts (s : State) (f : Hws → Hws) : (s.updHws f).acts = s.acts := rfl
@[simp] theorem State.updHws_cnts (s : State) (f : Hws → Hws) : (s.updHws f).cnts = s.cnts := rfl
@[simp] theorem State.updHws_snaps (s : State) (f : Hws → Hws) : (s.updHws f).snaps = s.snaps := rfl
@[simp] theorem State.updHws_lat (s : State) (f : Hws → Hws) : (s.updHws f).lat = s.lat := rfl
@[simp] theorem State.updHws_held (s : State) (f : Hws → Hws) : (s.updHws f).held = s.held := rfl
@[simp] theorem State.updHws_rdata (s : State) (f : Hws → Hws) : (s.updHws f).rdata = s.rdata := rfl
@[simp] theorem State.updHws_wins (s : State) (f : Hws → Hws) : (s.updHws f).wins = s.wins := rfl
@[simp] theorem State.updHws_tbl (s : State) (f : Hws → Hws) : (s.updHws f).tbl = s.tbl := rfl
@[simp] theorem State.updHws_vecs (s : State) (f : Hws → Hws) : (s.updHws f).vecs = s.vecs := rfl
@[simp] theorem State.updHws_tsu (s : State) (f : Hws → Hws) : (s.updHws f).tsu = s.tsu := rfl
@[simp] theorem State.updHws_macs (s : State) (f : Hws → Hws) : (s.updHws f).macs = s.macs := rfl
@[simp] theorem State.updHws_egs (s : State) (f : Hws → Hws) : (s.updHws f).egs = s.egs := rfl
@[simp] theorem State.updHws_swc (s : State) (f : Hws → Hws) : (s.updHws f).swc = s.swc := rfl
@[simp] theorem State.updHws_mem (s : State) (f : Hws → Hws) : (s.updHws f).mem = s.mem := rfl
@[simp] theorem State.updHws_mram (s : State) (f : Hws → Hws) : (s.updHws f).mram = s.mram := rfl
@[simp] theorem State.updHws_flips (s : State) (f : Hws → Hws) : (s.updHws f).flips = s.flips := rfl
@[simp] theorem State.updHws_poison (s : State) (f : Hws → Hws) : (s.updHws f).poison = s.poison := rfl
@[simp] theorem State.updHws_memSt (s : State) (f : Hws → Hws) : (s.updHws f).memSt = s.memSt := rfl
@[simp] theorem State.updHws_evr (s : State) (f : Hws → Hws) : (s.updHws f).evr = s.evr := rfl
@[simp] theorem State.updHws_memFenced (s : State) (f : Hws → Hws) : (s.updHws f).memFenced = s.memFenced := rfl
@[simp] theorem State.updHws_sva (s : State) (f : Hws → Hws) : (s.updHws f).sva = s.sva := rfl
@[simp] theorem State.updHws_flt (s : State) (f : Hws → Hws) : (s.updHws f).flt = s.flt := rfl
@[simp] theorem State.updHws_thrCyc (s : State) (f : Hws → Hws) : (s.updHws f).thrCyc = s.thrCyc := rfl
@[simp] theorem State.updHws_thrAcq (s : State) (f : Hws → Hws) : (s.updHws f).thrAcq = s.thrAcq := rfl
@[simp] theorem State.updHws_adcs (s : State) (f : Hws → Hws) : (s.updHws f).adcs = s.adcs := rfl
@[simp] theorem State.updHws_shunts (s : State) (f : Hws → Hws) : (s.updHws f).shunts = s.shunts := rfl
@[simp] theorem State.updHws_plaus (s : State) (f : Hws → Hws) : (s.updHws f).plaus = s.plaus := rfl
@[simp] theorem State.updHws_img (s : State) (f : Hws → Hws) : (s.updHws f).img = s.img := rfl
@[simp] theorem State.updHws_dir (s : State) (f : Hws → Hws) : (s.updHws f).dir = s.dir := rfl
@[simp] theorem State.updHws_cyc (s : State) (f : Hws → Hws) : (s.updHws f).cyc = s.cyc := rfl
@[simp] theorem State.updHws_hwsIn (s : State) (f : Hws → Hws) : (s.updHws f).hwsIn = s.hwsIn := rfl
@[simp] theorem State.updHws_dup (s : State) (f : Hws → Hws) : (s.updHws f).dup = s.dup := rfl
@[simp] theorem State.updHws_qps (s : State) (f : Hws → Hws) : (s.updHws f).qps = s.qps := rfl
@[simp] theorem State.updHws_ops (s : State) (f : Hws → Hws) : (s.updHws f).ops = s.ops := rfl
@[simp] theorem State.updHws_skds (s : State) (f : Hws → Hws) : (s.updHws f).skds = s.skds := rfl
@[simp] theorem State.updHws_vfs (s : State) (f : Hws → Hws) : (s.updHws f).vfs = s.vfs := rfl
@[simp] theorem State.updHws_migIn (s : State) (f : Hws → Hws) : (s.updHws f).migIn = s.migIn := rfl
@[simp] theorem State.updHws_tals (s : State) (f : Hws → Hws) : (s.updHws f).tals = s.tals := rfl
@[simp] theorem State.updHws_talAts (s : State) (f : Hws → Hws) : (s.updHws f).talAts = s.talAts := rfl
@[simp] theorem State.updHws_dfos (s : State) (f : Hws → Hws) : (s.updHws f).dfos = s.dfos := rfl
@[simp] theorem State.updHws_hws (s : State) (f : Hws → Hws) : (s.updHws f).hws = f s.hws := rfl
@[simp] theorem State.updHws_acq (s : State) (f : Hws → Hws) : (s.updHws f).acq = s.acq := rfl
@[simp] theorem State.updHws_acqGoose (s : State) (f : Hws → Hws) : (s.updHws f).acqGoose = s.acqGoose := rfl
@[simp] theorem State.updHws_kslots (s : State) (f : Hws → Hws) : (s.updHws f).kslots = s.kslots := rfl
@[simp] theorem State.updHws_ekeys (s : State) (f : Hws → Hws) : (s.updHws f).ekeys = s.ekeys := rfl
@[simp] theorem State.updHws_ksu (s : State) (f : Hws → Hws) : (s.updHws f).ksu = s.ksu := rfl
@[simp] theorem State.updHws_tmp (s : State) (f : Hws → Hws) : (s.updHws f).tmp = s.tmp := rfl
@[simp] theorem State.updHws_pwr (s : State) (f : Hws → Hws) : (s.updHws f).pwr = s.pwr := rfl
@[simp] theorem State.updHws_rst (s : State) (f : Hws → Hws) : (s.updHws f).rst = s.rst := rfl
@[simp] theorem State.updHws_shf (s : State) (f : Hws → Hws) : (s.updHws f).shf = s.shf := rfl
@[simp] theorem State.updHws_hlt (s : State) (f : Hws → Hws) : (s.updHws f).hlt = s.hlt := rfl
@[simp] theorem State.updHws_out (s : State) (f : Hws → Hws) : (s.updHws f).out = s.out := rfl
@[simp] theorem State.updHws_free (s : State) (f : Hws → Hws) : (s.updHws f).free = s.free := rfl
@[simp] theorem State.updHws_pending (s : State) (f : Hws → Hws) : (s.updHws f).pending = s.pending := rfl

/-! ### updAcq -/

@[simp] theorem State.updAcq_ident (s : State) (f : Acq → Acq) : (s.updAcq f).ident = s.ident := rfl
@[simp] theorem State.updAcq_hdrs (s : State) (f : Acq → Acq) : (s.updAcq f).hdrs = s.hdrs := rfl
@[simp] theorem State.updAcq_regs (s : State) (f : Acq → Acq) : (s.updAcq f).regs = s.regs := rfl
@[simp] theorem State.updAcq_acts (s : State) (f : Acq → Acq) : (s.updAcq f).acts = s.acts := rfl
@[simp] theorem State.updAcq_cnts (s : State) (f : Acq → Acq) : (s.updAcq f).cnts = s.cnts := rfl
@[simp] theorem State.updAcq_snaps (s : State) (f : Acq → Acq) : (s.updAcq f).snaps = s.snaps := rfl
@[simp] theorem State.updAcq_lat (s : State) (f : Acq → Acq) : (s.updAcq f).lat = s.lat := rfl
@[simp] theorem State.updAcq_held (s : State) (f : Acq → Acq) : (s.updAcq f).held = s.held := rfl
@[simp] theorem State.updAcq_rdata (s : State) (f : Acq → Acq) : (s.updAcq f).rdata = s.rdata := rfl
@[simp] theorem State.updAcq_wins (s : State) (f : Acq → Acq) : (s.updAcq f).wins = s.wins := rfl
@[simp] theorem State.updAcq_tbl (s : State) (f : Acq → Acq) : (s.updAcq f).tbl = s.tbl := rfl
@[simp] theorem State.updAcq_vecs (s : State) (f : Acq → Acq) : (s.updAcq f).vecs = s.vecs := rfl
@[simp] theorem State.updAcq_tsu (s : State) (f : Acq → Acq) : (s.updAcq f).tsu = s.tsu := rfl
@[simp] theorem State.updAcq_macs (s : State) (f : Acq → Acq) : (s.updAcq f).macs = s.macs := rfl
@[simp] theorem State.updAcq_egs (s : State) (f : Acq → Acq) : (s.updAcq f).egs = s.egs := rfl
@[simp] theorem State.updAcq_swc (s : State) (f : Acq → Acq) : (s.updAcq f).swc = s.swc := rfl
@[simp] theorem State.updAcq_mem (s : State) (f : Acq → Acq) : (s.updAcq f).mem = s.mem := rfl
@[simp] theorem State.updAcq_mram (s : State) (f : Acq → Acq) : (s.updAcq f).mram = s.mram := rfl
@[simp] theorem State.updAcq_flips (s : State) (f : Acq → Acq) : (s.updAcq f).flips = s.flips := rfl
@[simp] theorem State.updAcq_poison (s : State) (f : Acq → Acq) : (s.updAcq f).poison = s.poison := rfl
@[simp] theorem State.updAcq_memSt (s : State) (f : Acq → Acq) : (s.updAcq f).memSt = s.memSt := rfl
@[simp] theorem State.updAcq_evr (s : State) (f : Acq → Acq) : (s.updAcq f).evr = s.evr := rfl
@[simp] theorem State.updAcq_memFenced (s : State) (f : Acq → Acq) : (s.updAcq f).memFenced = s.memFenced := rfl
@[simp] theorem State.updAcq_sva (s : State) (f : Acq → Acq) : (s.updAcq f).sva = s.sva := rfl
@[simp] theorem State.updAcq_flt (s : State) (f : Acq → Acq) : (s.updAcq f).flt = s.flt := rfl
@[simp] theorem State.updAcq_thrCyc (s : State) (f : Acq → Acq) : (s.updAcq f).thrCyc = s.thrCyc := rfl
@[simp] theorem State.updAcq_thrAcq (s : State) (f : Acq → Acq) : (s.updAcq f).thrAcq = s.thrAcq := rfl
@[simp] theorem State.updAcq_adcs (s : State) (f : Acq → Acq) : (s.updAcq f).adcs = s.adcs := rfl
@[simp] theorem State.updAcq_shunts (s : State) (f : Acq → Acq) : (s.updAcq f).shunts = s.shunts := rfl
@[simp] theorem State.updAcq_plaus (s : State) (f : Acq → Acq) : (s.updAcq f).plaus = s.plaus := rfl
@[simp] theorem State.updAcq_img (s : State) (f : Acq → Acq) : (s.updAcq f).img = s.img := rfl
@[simp] theorem State.updAcq_dir (s : State) (f : Acq → Acq) : (s.updAcq f).dir = s.dir := rfl
@[simp] theorem State.updAcq_cyc (s : State) (f : Acq → Acq) : (s.updAcq f).cyc = s.cyc := rfl
@[simp] theorem State.updAcq_hwsIn (s : State) (f : Acq → Acq) : (s.updAcq f).hwsIn = s.hwsIn := rfl
@[simp] theorem State.updAcq_dup (s : State) (f : Acq → Acq) : (s.updAcq f).dup = s.dup := rfl
@[simp] theorem State.updAcq_qps (s : State) (f : Acq → Acq) : (s.updAcq f).qps = s.qps := rfl
@[simp] theorem State.updAcq_ops (s : State) (f : Acq → Acq) : (s.updAcq f).ops = s.ops := rfl
@[simp] theorem State.updAcq_skds (s : State) (f : Acq → Acq) : (s.updAcq f).skds = s.skds := rfl
@[simp] theorem State.updAcq_vfs (s : State) (f : Acq → Acq) : (s.updAcq f).vfs = s.vfs := rfl
@[simp] theorem State.updAcq_migIn (s : State) (f : Acq → Acq) : (s.updAcq f).migIn = s.migIn := rfl
@[simp] theorem State.updAcq_tals (s : State) (f : Acq → Acq) : (s.updAcq f).tals = s.tals := rfl
@[simp] theorem State.updAcq_talAts (s : State) (f : Acq → Acq) : (s.updAcq f).talAts = s.talAts := rfl
@[simp] theorem State.updAcq_dfos (s : State) (f : Acq → Acq) : (s.updAcq f).dfos = s.dfos := rfl
@[simp] theorem State.updAcq_hws (s : State) (f : Acq → Acq) : (s.updAcq f).hws = s.hws := rfl
@[simp] theorem State.updAcq_acq (s : State) (f : Acq → Acq) : (s.updAcq f).acq = f s.acq := rfl
@[simp] theorem State.updAcq_acqGoose (s : State) (f : Acq → Acq) : (s.updAcq f).acqGoose = s.acqGoose := rfl
@[simp] theorem State.updAcq_kslots (s : State) (f : Acq → Acq) : (s.updAcq f).kslots = s.kslots := rfl
@[simp] theorem State.updAcq_ekeys (s : State) (f : Acq → Acq) : (s.updAcq f).ekeys = s.ekeys := rfl
@[simp] theorem State.updAcq_ksu (s : State) (f : Acq → Acq) : (s.updAcq f).ksu = s.ksu := rfl
@[simp] theorem State.updAcq_tmp (s : State) (f : Acq → Acq) : (s.updAcq f).tmp = s.tmp := rfl
@[simp] theorem State.updAcq_pwr (s : State) (f : Acq → Acq) : (s.updAcq f).pwr = s.pwr := rfl
@[simp] theorem State.updAcq_rst (s : State) (f : Acq → Acq) : (s.updAcq f).rst = s.rst := rfl
@[simp] theorem State.updAcq_shf (s : State) (f : Acq → Acq) : (s.updAcq f).shf = s.shf := rfl
@[simp] theorem State.updAcq_hlt (s : State) (f : Acq → Acq) : (s.updAcq f).hlt = s.hlt := rfl
@[simp] theorem State.updAcq_out (s : State) (f : Acq → Acq) : (s.updAcq f).out = s.out := rfl
@[simp] theorem State.updAcq_free (s : State) (f : Acq → Acq) : (s.updAcq f).free = s.free := rfl
@[simp] theorem State.updAcq_pending (s : State) (f : Acq → Acq) : (s.updAcq f).pending = s.pending := rfl

/-! ### updCyc -/

@[simp] theorem State.updCyc_ident (s : State) (f : Cyc → Cyc) : (s.updCyc f).ident = s.ident := rfl
@[simp] theorem State.updCyc_hdrs (s : State) (f : Cyc → Cyc) : (s.updCyc f).hdrs = s.hdrs := rfl
@[simp] theorem State.updCyc_regs (s : State) (f : Cyc → Cyc) : (s.updCyc f).regs = s.regs := rfl
@[simp] theorem State.updCyc_acts (s : State) (f : Cyc → Cyc) : (s.updCyc f).acts = s.acts := rfl
@[simp] theorem State.updCyc_cnts (s : State) (f : Cyc → Cyc) : (s.updCyc f).cnts = s.cnts := rfl
@[simp] theorem State.updCyc_snaps (s : State) (f : Cyc → Cyc) : (s.updCyc f).snaps = s.snaps := rfl
@[simp] theorem State.updCyc_lat (s : State) (f : Cyc → Cyc) : (s.updCyc f).lat = s.lat := rfl
@[simp] theorem State.updCyc_held (s : State) (f : Cyc → Cyc) : (s.updCyc f).held = s.held := rfl
@[simp] theorem State.updCyc_rdata (s : State) (f : Cyc → Cyc) : (s.updCyc f).rdata = s.rdata := rfl
@[simp] theorem State.updCyc_wins (s : State) (f : Cyc → Cyc) : (s.updCyc f).wins = s.wins := rfl
@[simp] theorem State.updCyc_tbl (s : State) (f : Cyc → Cyc) : (s.updCyc f).tbl = s.tbl := rfl
@[simp] theorem State.updCyc_vecs (s : State) (f : Cyc → Cyc) : (s.updCyc f).vecs = s.vecs := rfl
@[simp] theorem State.updCyc_tsu (s : State) (f : Cyc → Cyc) : (s.updCyc f).tsu = s.tsu := rfl
@[simp] theorem State.updCyc_macs (s : State) (f : Cyc → Cyc) : (s.updCyc f).macs = s.macs := rfl
@[simp] theorem State.updCyc_egs (s : State) (f : Cyc → Cyc) : (s.updCyc f).egs = s.egs := rfl
@[simp] theorem State.updCyc_swc (s : State) (f : Cyc → Cyc) : (s.updCyc f).swc = s.swc := rfl
@[simp] theorem State.updCyc_mem (s : State) (f : Cyc → Cyc) : (s.updCyc f).mem = s.mem := rfl
@[simp] theorem State.updCyc_mram (s : State) (f : Cyc → Cyc) : (s.updCyc f).mram = s.mram := rfl
@[simp] theorem State.updCyc_flips (s : State) (f : Cyc → Cyc) : (s.updCyc f).flips = s.flips := rfl
@[simp] theorem State.updCyc_poison (s : State) (f : Cyc → Cyc) : (s.updCyc f).poison = s.poison := rfl
@[simp] theorem State.updCyc_memSt (s : State) (f : Cyc → Cyc) : (s.updCyc f).memSt = s.memSt := rfl
@[simp] theorem State.updCyc_evr (s : State) (f : Cyc → Cyc) : (s.updCyc f).evr = s.evr := rfl
@[simp] theorem State.updCyc_memFenced (s : State) (f : Cyc → Cyc) : (s.updCyc f).memFenced = s.memFenced := rfl
@[simp] theorem State.updCyc_sva (s : State) (f : Cyc → Cyc) : (s.updCyc f).sva = s.sva := rfl
@[simp] theorem State.updCyc_flt (s : State) (f : Cyc → Cyc) : (s.updCyc f).flt = s.flt := rfl
@[simp] theorem State.updCyc_thrCyc (s : State) (f : Cyc → Cyc) : (s.updCyc f).thrCyc = s.thrCyc := rfl
@[simp] theorem State.updCyc_thrAcq (s : State) (f : Cyc → Cyc) : (s.updCyc f).thrAcq = s.thrAcq := rfl
@[simp] theorem State.updCyc_adcs (s : State) (f : Cyc → Cyc) : (s.updCyc f).adcs = s.adcs := rfl
@[simp] theorem State.updCyc_shunts (s : State) (f : Cyc → Cyc) : (s.updCyc f).shunts = s.shunts := rfl
@[simp] theorem State.updCyc_plaus (s : State) (f : Cyc → Cyc) : (s.updCyc f).plaus = s.plaus := rfl
@[simp] theorem State.updCyc_img (s : State) (f : Cyc → Cyc) : (s.updCyc f).img = s.img := rfl
@[simp] theorem State.updCyc_dir (s : State) (f : Cyc → Cyc) : (s.updCyc f).dir = s.dir := rfl
@[simp] theorem State.updCyc_cyc (s : State) (f : Cyc → Cyc) : (s.updCyc f).cyc = f s.cyc := rfl
@[simp] theorem State.updCyc_hwsIn (s : State) (f : Cyc → Cyc) : (s.updCyc f).hwsIn = s.hwsIn := rfl
@[simp] theorem State.updCyc_dup (s : State) (f : Cyc → Cyc) : (s.updCyc f).dup = s.dup := rfl
@[simp] theorem State.updCyc_qps (s : State) (f : Cyc → Cyc) : (s.updCyc f).qps = s.qps := rfl
@[simp] theorem State.updCyc_ops (s : State) (f : Cyc → Cyc) : (s.updCyc f).ops = s.ops := rfl
@[simp] theorem State.updCyc_skds (s : State) (f : Cyc → Cyc) : (s.updCyc f).skds = s.skds := rfl
@[simp] theorem State.updCyc_vfs (s : State) (f : Cyc → Cyc) : (s.updCyc f).vfs = s.vfs := rfl
@[simp] theorem State.updCyc_migIn (s : State) (f : Cyc → Cyc) : (s.updCyc f).migIn = s.migIn := rfl
@[simp] theorem State.updCyc_tals (s : State) (f : Cyc → Cyc) : (s.updCyc f).tals = s.tals := rfl
@[simp] theorem State.updCyc_talAts (s : State) (f : Cyc → Cyc) : (s.updCyc f).talAts = s.talAts := rfl
@[simp] theorem State.updCyc_dfos (s : State) (f : Cyc → Cyc) : (s.updCyc f).dfos = s.dfos := rfl
@[simp] theorem State.updCyc_hws (s : State) (f : Cyc → Cyc) : (s.updCyc f).hws = s.hws := rfl
@[simp] theorem State.updCyc_acq (s : State) (f : Cyc → Cyc) : (s.updCyc f).acq = s.acq := rfl
@[simp] theorem State.updCyc_acqGoose (s : State) (f : Cyc → Cyc) : (s.updCyc f).acqGoose = s.acqGoose := rfl
@[simp] theorem State.updCyc_kslots (s : State) (f : Cyc → Cyc) : (s.updCyc f).kslots = s.kslots := rfl
@[simp] theorem State.updCyc_ekeys (s : State) (f : Cyc → Cyc) : (s.updCyc f).ekeys = s.ekeys := rfl
@[simp] theorem State.updCyc_ksu (s : State) (f : Cyc → Cyc) : (s.updCyc f).ksu = s.ksu := rfl
@[simp] theorem State.updCyc_tmp (s : State) (f : Cyc → Cyc) : (s.updCyc f).tmp = s.tmp := rfl
@[simp] theorem State.updCyc_pwr (s : State) (f : Cyc → Cyc) : (s.updCyc f).pwr = s.pwr := rfl
@[simp] theorem State.updCyc_rst (s : State) (f : Cyc → Cyc) : (s.updCyc f).rst = s.rst := rfl
@[simp] theorem State.updCyc_shf (s : State) (f : Cyc → Cyc) : (s.updCyc f).shf = s.shf := rfl
@[simp] theorem State.updCyc_hlt (s : State) (f : Cyc → Cyc) : (s.updCyc f).hlt = s.hlt := rfl
@[simp] theorem State.updCyc_out (s : State) (f : Cyc → Cyc) : (s.updCyc f).out = s.out := rfl
@[simp] theorem State.updCyc_free (s : State) (f : Cyc → Cyc) : (s.updCyc f).free = s.free := rfl
@[simp] theorem State.updCyc_pending (s : State) (f : Cyc → Cyc) : (s.updCyc f).pending = s.pending := rfl

/-! ### updDup -/

@[simp] theorem State.updDup_ident (s : State) (f : Dup → Dup) : (s.updDup f).ident = s.ident := rfl
@[simp] theorem State.updDup_hdrs (s : State) (f : Dup → Dup) : (s.updDup f).hdrs = s.hdrs := rfl
@[simp] theorem State.updDup_regs (s : State) (f : Dup → Dup) : (s.updDup f).regs = s.regs := rfl
@[simp] theorem State.updDup_acts (s : State) (f : Dup → Dup) : (s.updDup f).acts = s.acts := rfl
@[simp] theorem State.updDup_cnts (s : State) (f : Dup → Dup) : (s.updDup f).cnts = s.cnts := rfl
@[simp] theorem State.updDup_snaps (s : State) (f : Dup → Dup) : (s.updDup f).snaps = s.snaps := rfl
@[simp] theorem State.updDup_lat (s : State) (f : Dup → Dup) : (s.updDup f).lat = s.lat := rfl
@[simp] theorem State.updDup_held (s : State) (f : Dup → Dup) : (s.updDup f).held = s.held := rfl
@[simp] theorem State.updDup_rdata (s : State) (f : Dup → Dup) : (s.updDup f).rdata = s.rdata := rfl
@[simp] theorem State.updDup_wins (s : State) (f : Dup → Dup) : (s.updDup f).wins = s.wins := rfl
@[simp] theorem State.updDup_tbl (s : State) (f : Dup → Dup) : (s.updDup f).tbl = s.tbl := rfl
@[simp] theorem State.updDup_vecs (s : State) (f : Dup → Dup) : (s.updDup f).vecs = s.vecs := rfl
@[simp] theorem State.updDup_tsu (s : State) (f : Dup → Dup) : (s.updDup f).tsu = s.tsu := rfl
@[simp] theorem State.updDup_macs (s : State) (f : Dup → Dup) : (s.updDup f).macs = s.macs := rfl
@[simp] theorem State.updDup_egs (s : State) (f : Dup → Dup) : (s.updDup f).egs = s.egs := rfl
@[simp] theorem State.updDup_swc (s : State) (f : Dup → Dup) : (s.updDup f).swc = s.swc := rfl
@[simp] theorem State.updDup_mem (s : State) (f : Dup → Dup) : (s.updDup f).mem = s.mem := rfl
@[simp] theorem State.updDup_mram (s : State) (f : Dup → Dup) : (s.updDup f).mram = s.mram := rfl
@[simp] theorem State.updDup_flips (s : State) (f : Dup → Dup) : (s.updDup f).flips = s.flips := rfl
@[simp] theorem State.updDup_poison (s : State) (f : Dup → Dup) : (s.updDup f).poison = s.poison := rfl
@[simp] theorem State.updDup_memSt (s : State) (f : Dup → Dup) : (s.updDup f).memSt = s.memSt := rfl
@[simp] theorem State.updDup_evr (s : State) (f : Dup → Dup) : (s.updDup f).evr = s.evr := rfl
@[simp] theorem State.updDup_memFenced (s : State) (f : Dup → Dup) : (s.updDup f).memFenced = s.memFenced := rfl
@[simp] theorem State.updDup_sva (s : State) (f : Dup → Dup) : (s.updDup f).sva = s.sva := rfl
@[simp] theorem State.updDup_flt (s : State) (f : Dup → Dup) : (s.updDup f).flt = s.flt := rfl
@[simp] theorem State.updDup_thrCyc (s : State) (f : Dup → Dup) : (s.updDup f).thrCyc = s.thrCyc := rfl
@[simp] theorem State.updDup_thrAcq (s : State) (f : Dup → Dup) : (s.updDup f).thrAcq = s.thrAcq := rfl
@[simp] theorem State.updDup_adcs (s : State) (f : Dup → Dup) : (s.updDup f).adcs = s.adcs := rfl
@[simp] theorem State.updDup_shunts (s : State) (f : Dup → Dup) : (s.updDup f).shunts = s.shunts := rfl
@[simp] theorem State.updDup_plaus (s : State) (f : Dup → Dup) : (s.updDup f).plaus = s.plaus := rfl
@[simp] theorem State.updDup_img (s : State) (f : Dup → Dup) : (s.updDup f).img = s.img := rfl
@[simp] theorem State.updDup_dir (s : State) (f : Dup → Dup) : (s.updDup f).dir = s.dir := rfl
@[simp] theorem State.updDup_cyc (s : State) (f : Dup → Dup) : (s.updDup f).cyc = s.cyc := rfl
@[simp] theorem State.updDup_hwsIn (s : State) (f : Dup → Dup) : (s.updDup f).hwsIn = s.hwsIn := rfl
@[simp] theorem State.updDup_dup (s : State) (f : Dup → Dup) : (s.updDup f).dup = f s.dup := rfl
@[simp] theorem State.updDup_qps (s : State) (f : Dup → Dup) : (s.updDup f).qps = s.qps := rfl
@[simp] theorem State.updDup_ops (s : State) (f : Dup → Dup) : (s.updDup f).ops = s.ops := rfl
@[simp] theorem State.updDup_skds (s : State) (f : Dup → Dup) : (s.updDup f).skds = s.skds := rfl
@[simp] theorem State.updDup_vfs (s : State) (f : Dup → Dup) : (s.updDup f).vfs = s.vfs := rfl
@[simp] theorem State.updDup_migIn (s : State) (f : Dup → Dup) : (s.updDup f).migIn = s.migIn := rfl
@[simp] theorem State.updDup_tals (s : State) (f : Dup → Dup) : (s.updDup f).tals = s.tals := rfl
@[simp] theorem State.updDup_talAts (s : State) (f : Dup → Dup) : (s.updDup f).talAts = s.talAts := rfl
@[simp] theorem State.updDup_dfos (s : State) (f : Dup → Dup) : (s.updDup f).dfos = s.dfos := rfl
@[simp] theorem State.updDup_hws (s : State) (f : Dup → Dup) : (s.updDup f).hws = s.hws := rfl
@[simp] theorem State.updDup_acq (s : State) (f : Dup → Dup) : (s.updDup f).acq = s.acq := rfl
@[simp] theorem State.updDup_acqGoose (s : State) (f : Dup → Dup) : (s.updDup f).acqGoose = s.acqGoose := rfl
@[simp] theorem State.updDup_kslots (s : State) (f : Dup → Dup) : (s.updDup f).kslots = s.kslots := rfl
@[simp] theorem State.updDup_ekeys (s : State) (f : Dup → Dup) : (s.updDup f).ekeys = s.ekeys := rfl
@[simp] theorem State.updDup_ksu (s : State) (f : Dup → Dup) : (s.updDup f).ksu = s.ksu := rfl
@[simp] theorem State.updDup_tmp (s : State) (f : Dup → Dup) : (s.updDup f).tmp = s.tmp := rfl
@[simp] theorem State.updDup_pwr (s : State) (f : Dup → Dup) : (s.updDup f).pwr = s.pwr := rfl
@[simp] theorem State.updDup_rst (s : State) (f : Dup → Dup) : (s.updDup f).rst = s.rst := rfl
@[simp] theorem State.updDup_shf (s : State) (f : Dup → Dup) : (s.updDup f).shf = s.shf := rfl
@[simp] theorem State.updDup_hlt (s : State) (f : Dup → Dup) : (s.updDup f).hlt = s.hlt := rfl
@[simp] theorem State.updDup_out (s : State) (f : Dup → Dup) : (s.updDup f).out = s.out := rfl
@[simp] theorem State.updDup_free (s : State) (f : Dup → Dup) : (s.updDup f).free = s.free := rfl
@[simp] theorem State.updDup_pending (s : State) (f : Dup → Dup) : (s.updDup f).pending = s.pending := rfl

/-! ### updSwc -/

@[simp] theorem State.updSwc_ident (s : State) (f : Swc → Swc) : (s.updSwc f).ident = s.ident := rfl
@[simp] theorem State.updSwc_hdrs (s : State) (f : Swc → Swc) : (s.updSwc f).hdrs = s.hdrs := rfl
@[simp] theorem State.updSwc_regs (s : State) (f : Swc → Swc) : (s.updSwc f).regs = s.regs := rfl
@[simp] theorem State.updSwc_acts (s : State) (f : Swc → Swc) : (s.updSwc f).acts = s.acts := rfl
@[simp] theorem State.updSwc_cnts (s : State) (f : Swc → Swc) : (s.updSwc f).cnts = s.cnts := rfl
@[simp] theorem State.updSwc_snaps (s : State) (f : Swc → Swc) : (s.updSwc f).snaps = s.snaps := rfl
@[simp] theorem State.updSwc_lat (s : State) (f : Swc → Swc) : (s.updSwc f).lat = s.lat := rfl
@[simp] theorem State.updSwc_held (s : State) (f : Swc → Swc) : (s.updSwc f).held = s.held := rfl
@[simp] theorem State.updSwc_rdata (s : State) (f : Swc → Swc) : (s.updSwc f).rdata = s.rdata := rfl
@[simp] theorem State.updSwc_wins (s : State) (f : Swc → Swc) : (s.updSwc f).wins = s.wins := rfl
@[simp] theorem State.updSwc_tbl (s : State) (f : Swc → Swc) : (s.updSwc f).tbl = s.tbl := rfl
@[simp] theorem State.updSwc_vecs (s : State) (f : Swc → Swc) : (s.updSwc f).vecs = s.vecs := rfl
@[simp] theorem State.updSwc_tsu (s : State) (f : Swc → Swc) : (s.updSwc f).tsu = s.tsu := rfl
@[simp] theorem State.updSwc_macs (s : State) (f : Swc → Swc) : (s.updSwc f).macs = s.macs := rfl
@[simp] theorem State.updSwc_egs (s : State) (f : Swc → Swc) : (s.updSwc f).egs = s.egs := rfl
@[simp] theorem State.updSwc_swc (s : State) (f : Swc → Swc) : (s.updSwc f).swc = f s.swc := rfl
@[simp] theorem State.updSwc_mem (s : State) (f : Swc → Swc) : (s.updSwc f).mem = s.mem := rfl
@[simp] theorem State.updSwc_mram (s : State) (f : Swc → Swc) : (s.updSwc f).mram = s.mram := rfl
@[simp] theorem State.updSwc_flips (s : State) (f : Swc → Swc) : (s.updSwc f).flips = s.flips := rfl
@[simp] theorem State.updSwc_poison (s : State) (f : Swc → Swc) : (s.updSwc f).poison = s.poison := rfl
@[simp] theorem State.updSwc_memSt (s : State) (f : Swc → Swc) : (s.updSwc f).memSt = s.memSt := rfl
@[simp] theorem State.updSwc_evr (s : State) (f : Swc → Swc) : (s.updSwc f).evr = s.evr := rfl
@[simp] theorem State.updSwc_memFenced (s : State) (f : Swc → Swc) : (s.updSwc f).memFenced = s.memFenced := rfl
@[simp] theorem State.updSwc_sva (s : State) (f : Swc → Swc) : (s.updSwc f).sva = s.sva := rfl
@[simp] theorem State.updSwc_flt (s : State) (f : Swc → Swc) : (s.updSwc f).flt = s.flt := rfl
@[simp] theorem State.updSwc_thrCyc (s : State) (f : Swc → Swc) : (s.updSwc f).thrCyc = s.thrCyc := rfl
@[simp] theorem State.updSwc_thrAcq (s : State) (f : Swc → Swc) : (s.updSwc f).thrAcq = s.thrAcq := rfl
@[simp] theorem State.updSwc_adcs (s : State) (f : Swc → Swc) : (s.updSwc f).adcs = s.adcs := rfl
@[simp] theorem State.updSwc_shunts (s : State) (f : Swc → Swc) : (s.updSwc f).shunts = s.shunts := rfl
@[simp] theorem State.updSwc_plaus (s : State) (f : Swc → Swc) : (s.updSwc f).plaus = s.plaus := rfl
@[simp] theorem State.updSwc_img (s : State) (f : Swc → Swc) : (s.updSwc f).img = s.img := rfl
@[simp] theorem State.updSwc_dir (s : State) (f : Swc → Swc) : (s.updSwc f).dir = s.dir := rfl
@[simp] theorem State.updSwc_cyc (s : State) (f : Swc → Swc) : (s.updSwc f).cyc = s.cyc := rfl
@[simp] theorem State.updSwc_hwsIn (s : State) (f : Swc → Swc) : (s.updSwc f).hwsIn = s.hwsIn := rfl
@[simp] theorem State.updSwc_dup (s : State) (f : Swc → Swc) : (s.updSwc f).dup = s.dup := rfl
@[simp] theorem State.updSwc_qps (s : State) (f : Swc → Swc) : (s.updSwc f).qps = s.qps := rfl
@[simp] theorem State.updSwc_ops (s : State) (f : Swc → Swc) : (s.updSwc f).ops = s.ops := rfl
@[simp] theorem State.updSwc_skds (s : State) (f : Swc → Swc) : (s.updSwc f).skds = s.skds := rfl
@[simp] theorem State.updSwc_vfs (s : State) (f : Swc → Swc) : (s.updSwc f).vfs = s.vfs := rfl
@[simp] theorem State.updSwc_migIn (s : State) (f : Swc → Swc) : (s.updSwc f).migIn = s.migIn := rfl
@[simp] theorem State.updSwc_tals (s : State) (f : Swc → Swc) : (s.updSwc f).tals = s.tals := rfl
@[simp] theorem State.updSwc_talAts (s : State) (f : Swc → Swc) : (s.updSwc f).talAts = s.talAts := rfl
@[simp] theorem State.updSwc_dfos (s : State) (f : Swc → Swc) : (s.updSwc f).dfos = s.dfos := rfl
@[simp] theorem State.updSwc_hws (s : State) (f : Swc → Swc) : (s.updSwc f).hws = s.hws := rfl
@[simp] theorem State.updSwc_acq (s : State) (f : Swc → Swc) : (s.updSwc f).acq = s.acq := rfl
@[simp] theorem State.updSwc_acqGoose (s : State) (f : Swc → Swc) : (s.updSwc f).acqGoose = s.acqGoose := rfl
@[simp] theorem State.updSwc_kslots (s : State) (f : Swc → Swc) : (s.updSwc f).kslots = s.kslots := rfl
@[simp] theorem State.updSwc_ekeys (s : State) (f : Swc → Swc) : (s.updSwc f).ekeys = s.ekeys := rfl
@[simp] theorem State.updSwc_ksu (s : State) (f : Swc → Swc) : (s.updSwc f).ksu = s.ksu := rfl
@[simp] theorem State.updSwc_tmp (s : State) (f : Swc → Swc) : (s.updSwc f).tmp = s.tmp := rfl
@[simp] theorem State.updSwc_pwr (s : State) (f : Swc → Swc) : (s.updSwc f).pwr = s.pwr := rfl
@[simp] theorem State.updSwc_rst (s : State) (f : Swc → Swc) : (s.updSwc f).rst = s.rst := rfl
@[simp] theorem State.updSwc_shf (s : State) (f : Swc → Swc) : (s.updSwc f).shf = s.shf := rfl
@[simp] theorem State.updSwc_hlt (s : State) (f : Swc → Swc) : (s.updSwc f).hlt = s.hlt := rfl
@[simp] theorem State.updSwc_out (s : State) (f : Swc → Swc) : (s.updSwc f).out = s.out := rfl
@[simp] theorem State.updSwc_free (s : State) (f : Swc → Swc) : (s.updSwc f).free = s.free := rfl
@[simp] theorem State.updSwc_pending (s : State) (f : Swc → Swc) : (s.updSwc f).pending = s.pending := rfl

/-! ### updSva -/

@[simp] theorem State.updSva_ident (s : State) (f : Sva → Sva) : (s.updSva f).ident = s.ident := rfl
@[simp] theorem State.updSva_hdrs (s : State) (f : Sva → Sva) : (s.updSva f).hdrs = s.hdrs := rfl
@[simp] theorem State.updSva_regs (s : State) (f : Sva → Sva) : (s.updSva f).regs = s.regs := rfl
@[simp] theorem State.updSva_acts (s : State) (f : Sva → Sva) : (s.updSva f).acts = s.acts := rfl
@[simp] theorem State.updSva_cnts (s : State) (f : Sva → Sva) : (s.updSva f).cnts = s.cnts := rfl
@[simp] theorem State.updSva_snaps (s : State) (f : Sva → Sva) : (s.updSva f).snaps = s.snaps := rfl
@[simp] theorem State.updSva_lat (s : State) (f : Sva → Sva) : (s.updSva f).lat = s.lat := rfl
@[simp] theorem State.updSva_held (s : State) (f : Sva → Sva) : (s.updSva f).held = s.held := rfl
@[simp] theorem State.updSva_rdata (s : State) (f : Sva → Sva) : (s.updSva f).rdata = s.rdata := rfl
@[simp] theorem State.updSva_wins (s : State) (f : Sva → Sva) : (s.updSva f).wins = s.wins := rfl
@[simp] theorem State.updSva_tbl (s : State) (f : Sva → Sva) : (s.updSva f).tbl = s.tbl := rfl
@[simp] theorem State.updSva_vecs (s : State) (f : Sva → Sva) : (s.updSva f).vecs = s.vecs := rfl
@[simp] theorem State.updSva_tsu (s : State) (f : Sva → Sva) : (s.updSva f).tsu = s.tsu := rfl
@[simp] theorem State.updSva_macs (s : State) (f : Sva → Sva) : (s.updSva f).macs = s.macs := rfl
@[simp] theorem State.updSva_egs (s : State) (f : Sva → Sva) : (s.updSva f).egs = s.egs := rfl
@[simp] theorem State.updSva_swc (s : State) (f : Sva → Sva) : (s.updSva f).swc = s.swc := rfl
@[simp] theorem State.updSva_mem (s : State) (f : Sva → Sva) : (s.updSva f).mem = s.mem := rfl
@[simp] theorem State.updSva_mram (s : State) (f : Sva → Sva) : (s.updSva f).mram = s.mram := rfl
@[simp] theorem State.updSva_flips (s : State) (f : Sva → Sva) : (s.updSva f).flips = s.flips := rfl
@[simp] theorem State.updSva_poison (s : State) (f : Sva → Sva) : (s.updSva f).poison = s.poison := rfl
@[simp] theorem State.updSva_memSt (s : State) (f : Sva → Sva) : (s.updSva f).memSt = s.memSt := rfl
@[simp] theorem State.updSva_evr (s : State) (f : Sva → Sva) : (s.updSva f).evr = s.evr := rfl
@[simp] theorem State.updSva_memFenced (s : State) (f : Sva → Sva) : (s.updSva f).memFenced = s.memFenced := rfl
@[simp] theorem State.updSva_sva (s : State) (f : Sva → Sva) : (s.updSva f).sva = f s.sva := rfl
@[simp] theorem State.updSva_flt (s : State) (f : Sva → Sva) : (s.updSva f).flt = s.flt := rfl
@[simp] theorem State.updSva_thrCyc (s : State) (f : Sva → Sva) : (s.updSva f).thrCyc = s.thrCyc := rfl
@[simp] theorem State.updSva_thrAcq (s : State) (f : Sva → Sva) : (s.updSva f).thrAcq = s.thrAcq := rfl
@[simp] theorem State.updSva_adcs (s : State) (f : Sva → Sva) : (s.updSva f).adcs = s.adcs := rfl
@[simp] theorem State.updSva_shunts (s : State) (f : Sva → Sva) : (s.updSva f).shunts = s.shunts := rfl
@[simp] theorem State.updSva_plaus (s : State) (f : Sva → Sva) : (s.updSva f).plaus = s.plaus := rfl
@[simp] theorem State.updSva_img (s : State) (f : Sva → Sva) : (s.updSva f).img = s.img := rfl
@[simp] theorem State.updSva_dir (s : State) (f : Sva → Sva) : (s.updSva f).dir = s.dir := rfl
@[simp] theorem State.updSva_cyc (s : State) (f : Sva → Sva) : (s.updSva f).cyc = s.cyc := rfl
@[simp] theorem State.updSva_hwsIn (s : State) (f : Sva → Sva) : (s.updSva f).hwsIn = s.hwsIn := rfl
@[simp] theorem State.updSva_dup (s : State) (f : Sva → Sva) : (s.updSva f).dup = s.dup := rfl
@[simp] theorem State.updSva_qps (s : State) (f : Sva → Sva) : (s.updSva f).qps = s.qps := rfl
@[simp] theorem State.updSva_ops (s : State) (f : Sva → Sva) : (s.updSva f).ops = s.ops := rfl
@[simp] theorem State.updSva_skds (s : State) (f : Sva → Sva) : (s.updSva f).skds = s.skds := rfl
@[simp] theorem State.updSva_vfs (s : State) (f : Sva → Sva) : (s.updSva f).vfs = s.vfs := rfl
@[simp] theorem State.updSva_migIn (s : State) (f : Sva → Sva) : (s.updSva f).migIn = s.migIn := rfl
@[simp] theorem State.updSva_tals (s : State) (f : Sva → Sva) : (s.updSva f).tals = s.tals := rfl
@[simp] theorem State.updSva_talAts (s : State) (f : Sva → Sva) : (s.updSva f).talAts = s.talAts := rfl
@[simp] theorem State.updSva_dfos (s : State) (f : Sva → Sva) : (s.updSva f).dfos = s.dfos := rfl
@[simp] theorem State.updSva_hws (s : State) (f : Sva → Sva) : (s.updSva f).hws = s.hws := rfl
@[simp] theorem State.updSva_acq (s : State) (f : Sva → Sva) : (s.updSva f).acq = s.acq := rfl
@[simp] theorem State.updSva_acqGoose (s : State) (f : Sva → Sva) : (s.updSva f).acqGoose = s.acqGoose := rfl
@[simp] theorem State.updSva_kslots (s : State) (f : Sva → Sva) : (s.updSva f).kslots = s.kslots := rfl
@[simp] theorem State.updSva_ekeys (s : State) (f : Sva → Sva) : (s.updSva f).ekeys = s.ekeys := rfl
@[simp] theorem State.updSva_ksu (s : State) (f : Sva → Sva) : (s.updSva f).ksu = s.ksu := rfl
@[simp] theorem State.updSva_tmp (s : State) (f : Sva → Sva) : (s.updSva f).tmp = s.tmp := rfl
@[simp] theorem State.updSva_pwr (s : State) (f : Sva → Sva) : (s.updSva f).pwr = s.pwr := rfl
@[simp] theorem State.updSva_rst (s : State) (f : Sva → Sva) : (s.updSva f).rst = s.rst := rfl
@[simp] theorem State.updSva_shf (s : State) (f : Sva → Sva) : (s.updSva f).shf = s.shf := rfl
@[simp] theorem State.updSva_hlt (s : State) (f : Sva → Sva) : (s.updSva f).hlt = s.hlt := rfl
@[simp] theorem State.updSva_out (s : State) (f : Sva → Sva) : (s.updSva f).out = s.out := rfl
@[simp] theorem State.updSva_free (s : State) (f : Sva → Sva) : (s.updSva f).free = s.free := rfl
@[simp] theorem State.updSva_pending (s : State) (f : Sva → Sva) : (s.updSva f).pending = s.pending := rfl

/-! ### updMem -/

@[simp] theorem State.updMem_ident (s : State) (f : MemSt → MemSt) : (s.updMem f).ident = s.ident := rfl
@[simp] theorem State.updMem_hdrs (s : State) (f : MemSt → MemSt) : (s.updMem f).hdrs = s.hdrs := rfl
@[simp] theorem State.updMem_regs (s : State) (f : MemSt → MemSt) : (s.updMem f).regs = s.regs := rfl
@[simp] theorem State.updMem_acts (s : State) (f : MemSt → MemSt) : (s.updMem f).acts = s.acts := rfl
@[simp] theorem State.updMem_cnts (s : State) (f : MemSt → MemSt) : (s.updMem f).cnts = s.cnts := rfl
@[simp] theorem State.updMem_snaps (s : State) (f : MemSt → MemSt) : (s.updMem f).snaps = s.snaps := rfl
@[simp] theorem State.updMem_lat (s : State) (f : MemSt → MemSt) : (s.updMem f).lat = s.lat := rfl
@[simp] theorem State.updMem_held (s : State) (f : MemSt → MemSt) : (s.updMem f).held = s.held := rfl
@[simp] theorem State.updMem_rdata (s : State) (f : MemSt → MemSt) : (s.updMem f).rdata = s.rdata := rfl
@[simp] theorem State.updMem_wins (s : State) (f : MemSt → MemSt) : (s.updMem f).wins = s.wins := rfl
@[simp] theorem State.updMem_tbl (s : State) (f : MemSt → MemSt) : (s.updMem f).tbl = s.tbl := rfl
@[simp] theorem State.updMem_vecs (s : State) (f : MemSt → MemSt) : (s.updMem f).vecs = s.vecs := rfl
@[simp] theorem State.updMem_tsu (s : State) (f : MemSt → MemSt) : (s.updMem f).tsu = s.tsu := rfl
@[simp] theorem State.updMem_macs (s : State) (f : MemSt → MemSt) : (s.updMem f).macs = s.macs := rfl
@[simp] theorem State.updMem_egs (s : State) (f : MemSt → MemSt) : (s.updMem f).egs = s.egs := rfl
@[simp] theorem State.updMem_swc (s : State) (f : MemSt → MemSt) : (s.updMem f).swc = s.swc := rfl
@[simp] theorem State.updMem_mem (s : State) (f : MemSt → MemSt) : (s.updMem f).mem = s.mem := rfl
@[simp] theorem State.updMem_mram (s : State) (f : MemSt → MemSt) : (s.updMem f).mram = s.mram := rfl
@[simp] theorem State.updMem_flips (s : State) (f : MemSt → MemSt) : (s.updMem f).flips = s.flips := rfl
@[simp] theorem State.updMem_poison (s : State) (f : MemSt → MemSt) : (s.updMem f).poison = s.poison := rfl
@[simp] theorem State.updMem_memSt (s : State) (f : MemSt → MemSt) : (s.updMem f).memSt = f s.memSt := rfl
@[simp] theorem State.updMem_evr (s : State) (f : MemSt → MemSt) : (s.updMem f).evr = s.evr := rfl
@[simp] theorem State.updMem_memFenced (s : State) (f : MemSt → MemSt) : (s.updMem f).memFenced = s.memFenced := rfl
@[simp] theorem State.updMem_sva (s : State) (f : MemSt → MemSt) : (s.updMem f).sva = s.sva := rfl
@[simp] theorem State.updMem_flt (s : State) (f : MemSt → MemSt) : (s.updMem f).flt = s.flt := rfl
@[simp] theorem State.updMem_thrCyc (s : State) (f : MemSt → MemSt) : (s.updMem f).thrCyc = s.thrCyc := rfl
@[simp] theorem State.updMem_thrAcq (s : State) (f : MemSt → MemSt) : (s.updMem f).thrAcq = s.thrAcq := rfl
@[simp] theorem State.updMem_adcs (s : State) (f : MemSt → MemSt) : (s.updMem f).adcs = s.adcs := rfl
@[simp] theorem State.updMem_shunts (s : State) (f : MemSt → MemSt) : (s.updMem f).shunts = s.shunts := rfl
@[simp] theorem State.updMem_plaus (s : State) (f : MemSt → MemSt) : (s.updMem f).plaus = s.plaus := rfl
@[simp] theorem State.updMem_img (s : State) (f : MemSt → MemSt) : (s.updMem f).img = s.img := rfl
@[simp] theorem State.updMem_dir (s : State) (f : MemSt → MemSt) : (s.updMem f).dir = s.dir := rfl
@[simp] theorem State.updMem_cyc (s : State) (f : MemSt → MemSt) : (s.updMem f).cyc = s.cyc := rfl
@[simp] theorem State.updMem_hwsIn (s : State) (f : MemSt → MemSt) : (s.updMem f).hwsIn = s.hwsIn := rfl
@[simp] theorem State.updMem_dup (s : State) (f : MemSt → MemSt) : (s.updMem f).dup = s.dup := rfl
@[simp] theorem State.updMem_qps (s : State) (f : MemSt → MemSt) : (s.updMem f).qps = s.qps := rfl
@[simp] theorem State.updMem_ops (s : State) (f : MemSt → MemSt) : (s.updMem f).ops = s.ops := rfl
@[simp] theorem State.updMem_skds (s : State) (f : MemSt → MemSt) : (s.updMem f).skds = s.skds := rfl
@[simp] theorem State.updMem_vfs (s : State) (f : MemSt → MemSt) : (s.updMem f).vfs = s.vfs := rfl
@[simp] theorem State.updMem_migIn (s : State) (f : MemSt → MemSt) : (s.updMem f).migIn = s.migIn := rfl
@[simp] theorem State.updMem_tals (s : State) (f : MemSt → MemSt) : (s.updMem f).tals = s.tals := rfl
@[simp] theorem State.updMem_talAts (s : State) (f : MemSt → MemSt) : (s.updMem f).talAts = s.talAts := rfl
@[simp] theorem State.updMem_dfos (s : State) (f : MemSt → MemSt) : (s.updMem f).dfos = s.dfos := rfl
@[simp] theorem State.updMem_hws (s : State) (f : MemSt → MemSt) : (s.updMem f).hws = s.hws := rfl
@[simp] theorem State.updMem_acq (s : State) (f : MemSt → MemSt) : (s.updMem f).acq = s.acq := rfl
@[simp] theorem State.updMem_acqGoose (s : State) (f : MemSt → MemSt) : (s.updMem f).acqGoose = s.acqGoose := rfl
@[simp] theorem State.updMem_kslots (s : State) (f : MemSt → MemSt) : (s.updMem f).kslots = s.kslots := rfl
@[simp] theorem State.updMem_ekeys (s : State) (f : MemSt → MemSt) : (s.updMem f).ekeys = s.ekeys := rfl
@[simp] theorem State.updMem_ksu (s : State) (f : MemSt → MemSt) : (s.updMem f).ksu = s.ksu := rfl
@[simp] theorem State.updMem_tmp (s : State) (f : MemSt → MemSt) : (s.updMem f).tmp = s.tmp := rfl
@[simp] theorem State.updMem_pwr (s : State) (f : MemSt → MemSt) : (s.updMem f).pwr = s.pwr := rfl
@[simp] theorem State.updMem_rst (s : State) (f : MemSt → MemSt) : (s.updMem f).rst = s.rst := rfl
@[simp] theorem State.updMem_shf (s : State) (f : MemSt → MemSt) : (s.updMem f).shf = s.shf := rfl
@[simp] theorem State.updMem_hlt (s : State) (f : MemSt → MemSt) : (s.updMem f).hlt = s.hlt := rfl
@[simp] theorem State.updMem_out (s : State) (f : MemSt → MemSt) : (s.updMem f).out = s.out := rfl
@[simp] theorem State.updMem_free (s : State) (f : MemSt → MemSt) : (s.updMem f).free = s.free := rfl
@[simp] theorem State.updMem_pending (s : State) (f : MemSt → MemSt) : (s.updMem f).pending = s.pending := rfl

/-! ### Extensionality -/

/-- Two states with equal fields are equal. -/
theorem State.eq_of_fields {a b : State}
    (h0 : a.ident = b.ident) (h1 : a.hdrs = b.hdrs) (h2 : a.regs = b.regs) (h3 : a.acts = b.acts) (h4 : a.cnts = b.cnts)
    (h5 : a.snaps = b.snaps) (h6 : a.lat = b.lat) (h7 : a.held = b.held) (h8 : a.rdata = b.rdata) (h9 : a.wins = b.wins)
    (h10 : a.tbl = b.tbl) (h11 : a.vecs = b.vecs) (h12 : a.tsu = b.tsu) (h13 : a.macs = b.macs) (h14 : a.egs = b.egs)
    (h15 : a.swc = b.swc) (h16 : a.mem = b.mem) (h17 : a.mram = b.mram) (h18 : a.flips = b.flips) (h19 : a.poison = b.poison)
    (h20 : a.memSt = b.memSt) (h21 : a.evr = b.evr) (h22 : a.memFenced = b.memFenced) (h23 : a.sva = b.sva) (h24 : a.flt = b.flt)
    (h25 : a.thrCyc = b.thrCyc) (h26 : a.thrAcq = b.thrAcq) (h27 : a.adcs = b.adcs) (h28 : a.shunts = b.shunts) (h29 : a.plaus = b.plaus)
    (h30 : a.img = b.img) (h31 : a.dir = b.dir) (h32 : a.cyc = b.cyc) (h33 : a.hwsIn = b.hwsIn) (h34 : a.dup = b.dup)
    (h35 : a.qps = b.qps) (h36 : a.ops = b.ops) (h37 : a.skds = b.skds) (h38 : a.vfs = b.vfs) (h39 : a.migIn = b.migIn)
    (h40 : a.tals = b.tals) (h41 : a.talAts = b.talAts) (h42 : a.dfos = b.dfos) (h43 : a.hws = b.hws) (h44 : a.acq = b.acq)
    (h45 : a.acqGoose = b.acqGoose) (h46 : a.kslots = b.kslots) (h47 : a.ekeys = b.ekeys) (h48 : a.ksu = b.ksu) (h49 : a.tmp = b.tmp)
    (h50 : a.pwr = b.pwr) (h51 : a.rst = b.rst) (h52 : a.shf = b.shf) (h53 : a.hlt = b.hlt) (h54 : a.out = b.out)
    (h55 : a.free = b.free) (h56 : a.pending = b.pending) : a = b := by
  cases a; cases b; simp_all

end Sys2Proof.Machine
end

