-- ==== Sys2Proof/Laws/Store.lean ====
section
/-!
SUPPORT. Laws of the sparse stores: what a read gives after a write, and that every store operation keeps the canonical form `swf`
(keys strictly rising, no entry equal to its default).
-/
namespace Sys2Proof.Machine

/-- Every key of a store lies above `k`. -/
def sAbove {β : Type} (k : Nat) (m : List (Nat × β)) : Prop := ∀ e ∈ m, k < e.1

/-! ### The canonical form, unfolded -/

theorem swf_cons {β : Type} [DecidableEq β] (d : Nat → β) (a : Nat) (b : β) (t : List (Nat × β)) :
    swf d ((a, b) :: t) = true ↔ b ≠ d a ∧ sAbove a t ∧ swf d t = true := by
  induction t generalizing a b with
  | nil => simp [swf, sAbove]
  | cons e t ih =>
    obtain ⟨a', b'⟩ := e
    have h := ih a' b'
    constructor
    · intro w
      simp only [swf, Bool.and_eq_true, decide_eq_true_eq] at w
      refine ⟨w.1.1, ?_, w.2⟩
      intro e he
      rcases List.mem_cons.1 he with rfl | he
      · exact w.1.2
      · exact Nat.lt_trans w.1.2 ((h.1 w.2).2.1 e he)
    · rintro ⟨h1, h2, h3⟩
      simp only [swf, Bool.and_eq_true, decide_eq_true_eq]
      exact ⟨⟨h1, h2 (a', b') (by simp)⟩, h3⟩

theorem swf_nil {β : Type} [DecidableEq β] (d : Nat → β) : swf d ([] : List (Nat × β)) = true := rfl

/-! ### Reads -/

theorem sget_above {β : Type} (d : β) (k : Nat) (m : List (Nat × β)) (h : sAbove k m) : sget d k m = d := by
  induction m with
  | nil => rfl
  | cons e t ih =>
    obtain ⟨a, b⟩ := e
    have ha : k < a := h (a, b) (by simp)
    simp only [sget, if_neg (Nat.ne_of_gt ha)]
    exact ih (fun e he => h e (List.mem_cons_of_mem _ he))

@[simp] theorem sget_sput_same {β : Type} (d : β) (k : Nat) (v : β) (m : List (Nat × β)) : sget d k (sput k v m) = v := by
  induction m with
  | nil => simp [sput, sget]
  | cons e t ih =>
    obtain ⟨a, b⟩ := e
    simp only [sput]
    split
    · simp [sget]
    · split
      · simp [sget]
      · rename_i h; simp [sget, h, ih]

theorem sget_sput_other {β : Type} (d : β) (k j : Nat) (v : β) (m : List (Nat × β)) (h : j ≠ k) :
    sget d j (sput k v m) = sget d j m := by
  induction m with
  | nil => simp [sput, sget, Ne.symm h]
  | cons e t ih =>
    obtain ⟨a, b⟩ := e
    simp only [sput]
    split
    · simp [sget, Ne.symm h]
    · split
      · rename_i h2; subst h2; simp [sget, Ne.symm h]
      · simp only [sget, ih]

theorem sget_sdel_same {β : Type} (d : β) (k : Nat) (m : List (Nat × β)) : sget d k (sdel k m) = d := by
  induction m with
  | nil => rfl
  | cons e t ih =>
    obtain ⟨a, b⟩ := e
    by_cases h : a = k
    · subst h; simpa [sdel] using ih
    · simpa [sdel, sget, h] using ih

theorem sget_sdel_other {β : Type} (d : β) (k j : Nat) (m : List (Nat × β)) (h : j ≠ k) :
    sget d j (sdel k m) = sget d j m := by
  induction m with
  | nil => rfl
  | cons e t ih =>
    obtain ⟨a, b⟩ := e
    simp only [sdel] at ih
    by_cases h2 : a = k
    · have : a ≠ j := fun x => h (x ▸ h2)
      simp only [sdel, sget, if_neg this]
      rw [← ih, List.filter_cons_of_neg]
      simpa using h2
    · simp only [sdel]
      rw [List.filter_cons_of_pos (by simpa using h2)]
      simp only [sget, ih]

@[simp] theorem sget_sset_same {β : Type} [DecidableEq β] (d : β) (k : Nat) (v : β) (m : List (Nat × β)) :
    sget d k (sset d k v m) = v := by
  unfold sset
  split
  · rename_i h; rw [sget_sdel_same, h]
  · simp

theorem sget_sset_other {β : Type} [DecidableEq β] (d d' : β) (k j : Nat) (v : β) (m : List (Nat × β)) (h : j ≠ k) :
    sget d' j (sset d k v m) = sget d' j m := by
  unfold sset
  split
  · exact sget_sdel_other _ _ _ _ h
  · exact sget_sput_other _ _ _ _ _ h

/-! ### The canonical form is kept -/

theorem swf_filter {β : Type} [DecidableEq β] (d : Nat → β) (p : Nat × β → Bool) (m : List (Nat × β)) (h : swf d m = true) :
    swf d (m.filter p) = true := by
  induction m with
  | nil => rfl
  | cons e t ih =>
    obtain ⟨a, b⟩ := e
    have w := (swf_cons d a b t).1 h
    by_cases hp : p (a, b) = true
    · rw [List.filter_cons_of_pos hp, swf_cons]
      exact ⟨w.1, fun e he => w.2.1 e (List.mem_of_mem_filter he), ih w.2.2⟩
    · rw [List.filter_cons_of_neg (by simpa using hp)]
      exact ih w.2.2

theorem swf_sdel {β : Type} [DecidableEq β] (d : Nat → β) (k : Nat) (m : List (Nat × β)) (h : swf d m = true) :
    swf d (sdel k m) = true := swf_filter d _ m h

theorem swf_sclear {β : Type} [DecidableEq β] (d : Nat → β) (lo hi : Nat) (m : List (Nat × β)) (h : swf d m = true) :
    swf d (sclear lo hi m) = true := swf_filter d _ m h

theorem mem_sput {β : Type} (k : Nat) (v : β) (m : List (Nat × β)) (e : Nat × β) (h : e ∈ sput k v m) : e = (k, v) ∨ e ∈ m := by
  induction m with
  | nil => exact Or.inl (by simpa [sput] using h)
  | cons x t ih =>
    obtain ⟨a, b⟩ := x
    simp only [sput] at h
    split at h
    · rcases List.mem_cons.1 h with h | h
      · exact Or.inl h
      · exact Or.inr h
    · split at h
      · rcases List.mem_cons.1 h with h | h
        · exact Or.inl h
        · exact Or.inr (List.mem_cons_of_mem _ h)
      · rcases List.mem_cons.1 h with h | h
        · exact Or.inr (h ▸ List.mem_cons_self)
        · rcases ih h with h | h
          · exact Or.inl h
          · exact Or.inr (List.mem_cons_of_mem _ h)

theorem swf_sput {β : Type} [DecidableEq β] (d : Nat → β) (k : Nat) (v : β) (m : List (Nat × β)) (hv : v ≠ d k) (h : swf d m = true) :
    swf d (sput k v m) = true := by
  induction m with
  | nil => simpa [sput, swf] using hv
  | cons e t ih =>
    obtain ⟨a, b⟩ := e
    have w := (swf_cons d a b t).1 h
    simp only [sput]
    split
    · rename_i hk
      rw [swf_cons]
      refine ⟨hv, fun e he => ?_, h⟩
      rcases List.mem_cons.1 he with rfl | he
      · exact hk
      · exact Nat.lt_trans hk (w.2.1 e he)
    · split
      · rename_i ha
        subst ha
        exact (swf_cons d _ _ _).2 ⟨hv, w.2.1, w.2.2⟩
      · rename_i hk ha
        rw [swf_cons]
        refine ⟨w.1, fun e he => ?_, ih w.2.2⟩
        rcases mem_sput _ _ _ _ he with rfl | he
        · exact Nat.lt_of_le_of_ne (Nat.le_of_not_lt hk) ha
        · exact w.2.1 e he

/-- Writing any value at a key keeps the canonical form. -/
theorem swf_sset {β : Type} [DecidableEq β] (d : Nat → β) (k : Nat) (v : β) (m : List (Nat × β)) (h : swf d m = true) :
    swf d (sset (d k) k v m) = true := by
  unfold sset
  split
  · exact swf_sdel d k m h
  · exact swf_sput d k v m (by assumption) h

/-- A store in canonical form is determined by what it reads: equal reads, equal lists. -/
theorem swf_ext {β : Type} [DecidableEq β] (d : Nat → β) (m n : List (Nat × β)) (hm : swf d m = true) (hn : swf d n = true)
    (h : ∀ k, sget (d k) k m = sget (d k) k n) : m = n := by
  induction m generalizing n with
  | nil =>
    cases n with
    | nil => rfl
    | cons e t =>
      obtain ⟨a, b⟩ := e
      have w := (swf_cons d a b t).1 hn
      have := h a
      simp only [sget, if_true] at this
      exact absurd this.symm w.1
  | cons e t ih =>
    obtain ⟨a, b⟩ := e
    have w := (swf_cons d a b t).1 hm
    cases n with
    | nil =>
      have := h a
      simp only [sget, if_true] at this
      exact absurd this w.1
    | cons e' t' =>
      obtain ⟨a', b'⟩ := e'
      have w' := (swf_cons d a' b' t').1 hn
      have ha : a = a' := by
        rcases Nat.lt_trichotomy a a' with hl | he | hl
        · have h1 := h a
          simp only [sget, if_true, if_neg (Nat.ne_of_gt hl)] at h1
          rw [sget_above (d a) a t' (fun e he => Nat.lt_trans hl (w'.2.1 e he))] at h1
          exact absurd h1 w.1
        · exact he
        · have h1 := h a'
          simp only [sget, if_true, if_neg (Nat.ne_of_gt hl)] at h1
          rw [sget_above (d a') a' t (fun e he => Nat.lt_trans hl (w.2.1 e he))] at h1
          exact absurd h1.symm w'.1
      subst ha
      have hb : b = b' := by simpa [sget] using h a
      subst hb
      have ht : t = t' := by
        refine ih t' w.2.2 w'.2.2 (fun k => ?_)
        have h1 := h k
        by_cases hk : a = k
        · subst hk
          rw [sget_above _ _ t w.2.1, sget_above _ _ t' w'.2.1]
        · simpa [sget, hk] using h1
      rw [ht]

end Sys2Proof.Machine
end

