-- ==== Sys2Proof/Laws/Ops.lean ====
section
/-!
SUPPORT. What each shared operation of the blocks can do: registers, headers, interrupts, counters, refusals, accesses and the gate.
-/
namespace Sys2Proof.Machine

/-! ### Addresses -/

theorem ka_inj {p o p' o' : Nat} (h : o < 4096) (h' : o' < 4096) : ka p o = ka p' o' ↔ p = p' ∧ o = o' := by
  unfold ka; omega

/-! ### Register words: a read after a write -/

@[simp] theorem State.rg_setRg (s : State) (p o : Nat) (v : Word) : (s.setRg p o v).rg p o = v := by
  simp [State.rg, State.setRg]

theorem State.rg_setRg_other (s : State) (p o p' o' : Nat) (v : Word) (h : ka p' o' ≠ ka p o) :
    (s.setRg p o v).rg p' o' = s.rg p' o' := by
  simp [State.rg, State.setRg, sget_sset_other _ _ _ _ _ _ h]

@[simp] theorem State.ac_setAc (s : State) (p o : Nat) (v : Word) : (s.setAc p o v).ac p o = v := by
  simp [State.ac, State.setAc]

theorem State.ac_setAc_other (s : State) (p o p' o' : Nat) (v : Word) (h : ka p' o' ≠ ka p o) :
    (s.setAc p o v).ac p' o' = s.ac p' o' := by
  simp [State.ac, State.setAc, sget_sset_other _ _ _ _ _ _ h]

@[simp] theorem State.tw_setTw (s : State) (a : Nat) (v : Word) : (s.setTw a v).tw a = v := by
  simp [State.tw, State.setTw]

theorem State.tw_setTw_other (s : State) (a b : Nat) (v : Word) (h : b ≠ a) : (s.setTw a v).tw b = s.tw b := by
  simp [State.tw, State.setTw, sget_sset_other _ _ _ _ _ _ h]

@[simp] theorem State.hd_setHd (s : State) (p : Nat) (h : Hdr) : (s.setHd p h).hd p = h := by
  simp [State.hd, State.setHd]

theorem State.hd_setHd_other (s : State) (p q : Nat) (h : Hdr) (hq : q ≠ p) : (s.setHd p h).hd q = s.hd q := by
  simp [State.hd, State.setHd, sget_sset_other _ _ _ _ _ _ hq]

@[simp] theorem State.vec_setVec (s : State) (v : Nat) (x : Vec) : (s.setVec v x).vec v = x := by
  simp [State.vec, State.setVec]

/-! ### A vector fires: its pending bit, a message, or the manager's tables -/

theorem State.msixRaise_shape (s : State) (n : Nat) :
    s.msixRaise n = { s with out := (s.msixRaise n).out, shf := (s.msixRaise n).shf } := by
  unfold State.msixRaise State.emit; dsimp only; split <;> rfl

theorem State.vecSend_shape (s : State) (v : Nat) (x : Vec) :
    s.vecSend v x = { s with out := (s.vecSend v x).out, shf := (s.vecSend v x).shf } := by
  unfold State.vecSend
  split
  · split
    · exact s.msixRaise_shape _
    · rfl
  · rfl

/-- A vector that fires changes its own entry, or what leaves the module and the shelf block: nothing else. -/
theorem State.fire_shape (s : State) (v : Nat) :
    s.fire v = { s with vecs := (s.fire v).vecs, out := (s.fire v).out, shf := (s.fire v).shf } := by
  unfold State.fire
  dsimp only
  split
  · rw [State.vecSend_shape]
  · rfl

/-- A change of a page's header changes that header, and what the vectors whose input rises by it do. -/
theorem State.updHd_shape (s : State) (p : Nat) (f : Hdr → Hdr) :
    s.updHd p f = { s with
      hdrs := sset {} p (f (s.hd p)) s.hdrs, vecs := (s.updHd p f).vecs, out := (s.updHd p f).out, shf := (s.updHd p f).shf } := by
  unfold State.updHd
  dsimp only
  have one (v : Nat) (t : State) (b : Bool) : (if b then t.fire v else t) =
      { t with vecs := (if b then t.fire v else t).vecs, out := (if b then t.fire v else t).out, shf := (if b then t.fire v else t).shf } := by
    cases b
    · rfl
    · simpa using t.fire_shape v
  have two (c : Prop) [Decidable c] (v : Nat) (t : State) (b : Bool) : (if c then (if b then t.fire v else t) else t) =
      { t with
        vecs := (if c then (if b then t.fire v else t) else t).vecs
        out := (if c then (if b then t.fire v else t) else t).out
        shf := (if c then (if b then t.fire v else t) else t).shf } := by
    split
    · exact one v t b
    · rfl
  rw [two]
  rw [two]
  rfl


/-! ### fire, field by field -/

@[simp] theorem State.fire_ident (s : State) (v : Nat) : (s.fire v).ident = s.ident := by rw [s.fire_shape v]
@[simp] theorem State.fire_hdrs (s : State) (v : Nat) : (s.fire v).hdrs = s.hdrs := by rw [s.fire_shape v]
@[simp] theorem State.fire_regs (s : State) (v : Nat) : (s.fire v).regs = s.regs := by rw [s.fire_shape v]
@[simp] theorem State.fire_acts (s : State) (v : Nat) : (s.fire v).acts = s.acts := by rw [s.fire_shape v]
@[simp] theorem State.fire_cnts (s : State) (v : Nat) : (s.fire v).cnts = s.cnts := by rw [s.fire_shape v]
@[simp] theorem State.fire_snaps (s : State) (v : Nat) : (s.fire v).snaps = s.snaps := by rw [s.fire_shape v]
@[simp] theorem State.fire_lat (s : State) (v : Nat) : (s.fire v).lat = s.lat := by rw [s.fire_shape v]
@[simp] theorem State.fire_held (s : State) (v : Nat) : (s.fire v).held = s.held := by rw [s.fire_shape v]
@[simp] theorem State.fire_rdata (s : State) (v : Nat) : (s.fire v).rdata = s.rdata := by rw [s.fire_shape v]
@[simp] theorem State.fire_wins (s : State) (v : Nat) : (s.fire v).wins = s.wins := by rw [s.fire_shape v]
@[simp] theorem State.fire_tbl (s : State) (v : Nat) : (s.fire v).tbl = s.tbl := by rw [s.fire_shape v]
@[simp] theorem State.fire_tsu (s : State) (v : Nat) : (s.fire v).tsu = s.tsu := by rw [s.fire_shape v]
@[simp] theorem State.fire_macs (s : State) (v : Nat) : (s.fire v).macs = s.macs := by rw [s.fire_shape v]
@[simp] theorem State.fire_egs (s : State) (v : Nat) : (s.fire v).egs = s.egs := by rw [s.fire_shape v]
@[simp] theorem State.fire_swc (s : State) (v : Nat) : (s.fire v).swc = s.swc := by rw [s.fire_shape v]
@[simp] theorem State.fire_mem (s : State) (v : Nat) : (s.fire v).mem = s.mem := by rw [s.fire_shape v]
@[simp] theorem State.fire_mram (s : State) (v : Nat) : (s.fire v).mram = s.mram := by rw [s.fire_shape v]
@[simp] theorem State.fire_flips (s : State) (v : Nat) : (s.fire v).flips = s.flips := by rw [s.fire_shape v]
@[simp] theorem State.fire_poison (s : State) (v : Nat) : (s.fire v).poison = s.poison := by rw [s.fire_shape v]
@[simp] theorem State.fire_memSt (s : State) (v : Nat) : (s.fire v).memSt = s.memSt := by rw [s.fire_shape v]
@[simp] theorem State.fire_evr (s : State) (v : Nat) : (s.fire v).evr = s.evr := by rw [s.fire_shape v]
@[simp] theorem State.fire_memFenced (s : State) (v : Nat) : (s.fire v).memFenced = s.memFenced := by rw [s.fire_shape v]
@[simp] theorem State.fire_sva (s : State) (v : Nat) : (s.fire v).sva = s.sva := by rw [s.fire_shape v]
@[simp] theorem State.fire_flt (s : State) (v : Nat) : (s.fire v).flt = s.flt := by rw [s.fire_shape v]
@[simp] theorem State.fire_thrCyc (s : State) (v : Nat) : (s.fire v).thrCyc = s.thrCyc := by rw [s.fire_shape v]
@[simp] theorem State.fire_thrAcq (s : State) (v : Nat) : (s.fire v).thrAcq = s.thrAcq := by rw [s.fire_shape v]
@[simp] theorem State.fire_adcs (s : State) (v : Nat) : (s.fire v).adcs = s.adcs := by rw [s.fire_shape v]
@[simp] theorem State.fire_shunts (s : State) (v : Nat) : (s.fire v).shunts = s.shunts := by rw [s.fire_shape v]
@[simp] theorem State.fire_plaus (s : State) (v : Nat) : (s.fire v).plaus = s.plaus := by rw [s.fire_shape v]
@[simp] theorem State.fire_img (s : State) (v : Nat) : (s.fire v).img = s.img := by rw [s.fire_shape v]
@[simp] theorem State.fire_dir (s : State) (v : Nat) : (s.fire v).dir = s.dir := by rw [s.fire_shape v]
@[simp] theorem State.fire_cyc (s : State) (v : Nat) : (s.fire v).cyc = s.cyc := by rw [s.fire_shape v]
@[simp] theorem State.fire_hwsIn (s : State) (v : Nat) : (s.fire v).hwsIn = s.hwsIn := by rw [s.fire_shape v]
@[simp] theorem State.fire_dup (s : State) (v : Nat) : (s.fire v).dup = s.dup := by rw [s.fire_shape v]
@[simp] theorem State.fire_qps (s : State) (v : Nat) : (s.fire v).qps = s.qps := by rw [s.fire_shape v]
@[simp] theorem State.fire_ops (s : State) (v : Nat) : (s.fire v).ops = s.ops := by rw [s.fire_shape v]
@[simp] theorem State.fire_skds (s : State) (v : Nat) : (s.fire v).skds = s.skds := by rw [s.fire_shape v]
@[simp] theorem State.fire_vfs (s : State) (v : Nat) : (s.fire v).vfs = s.vfs := by rw [s.fire_shape v]
@[simp] theorem State.fire_migIn (s : State) (v : Nat) : (s.fire v).migIn = s.migIn := by rw [s.fire_shape v]
@[simp] theorem State.fire_tals (s : State) (v : Nat) : (s.fire v).tals = s.tals := by rw [s.fire_shape v]
@[simp] theorem State.fire_talAts (s : State) (v : Nat) : (s.fire v).talAts = s.talAts := by rw [s.fire_shape v]
@[simp] theorem State.fire_dfos (s : State) (v : Nat) : (s.fire v).dfos = s.dfos := by rw [s.fire_shape v]
@[simp] theorem State.fire_hws (s : State) (v : Nat) : (s.fire v).hws = s.hws := by rw [s.fire_shape v]
@[simp] theorem State.fire_acq (s : State) (v : Nat) : (s.fire v).acq = s.acq := by rw [s.fire_shape v]
@[simp] theorem State.fire_acqGoose (s : State) (v : Nat) : (s.fire v).acqGoose = s.acqGoose := by rw [s.fire_shape v]
@[simp] theorem State.fire_kslots (s : State) (v : Nat) : (s.fire v).kslots = s.kslots := by rw [s.fire_shape v]
@[simp] theorem State.fire_ekeys (s : State) (v : Nat) : (s.fire v).ekeys = s.ekeys := by rw [s.fire_shape v]
@[simp] theorem State.fire_ksu (s : State) (v : Nat) : (s.fire v).ksu = s.ksu := by rw [s.fire_shape v]
@[simp] theorem State.fire_tmp (s : State) (v : Nat) : (s.fire v).tmp = s.tmp := by rw [s.fire_shape v]
@[simp] theorem State.fire_pwr (s : State) (v : Nat) : (s.fire v).pwr = s.pwr := by rw [s.fire_shape v]
@[simp] theorem State.fire_rst (s : State) (v : Nat) : (s.fire v).rst = s.rst := by rw [s.fire_shape v]
@[simp] theorem State.fire_hlt (s : State) (v : Nat) : (s.fire v).hlt = s.hlt := by rw [s.fire_shape v]
@[simp] theorem State.fire_free (s : State) (v : Nat) : (s.fire v).free = s.free := by rw [s.fire_shape v]
@[simp] theorem State.fire_pending (s : State) (v : Nat) : (s.fire v).pending = s.pending := by rw [s.fire_shape v]

/-! ### updHd, field by field -/

@[simp] theorem State.updHd_ident (s : State) (p : Nat) (f : Hdr → Hdr) : (s.updHd p f).ident = s.ident := by rw [s.updHd_shape p f]
@[simp] theorem State.updHd_regs (s : State) (p : Nat) (f : Hdr → Hdr) : (s.updHd p f).regs = s.regs := by rw [s.updHd_shape p f]
@[simp] theorem State.updHd_acts (s : State) (p : Nat) (f : Hdr → Hdr) : (s.updHd p f).acts = s.acts := by rw [s.updHd_shape p f]
@[simp] theorem State.updHd_cnts (s : State) (p : Nat) (f : Hdr → Hdr) : (s.updHd p f).cnts = s.cnts := by rw [s.updHd_shape p f]
@[simp] theorem State.updHd_snaps (s : State) (p : Nat) (f : Hdr → Hdr) : (s.updHd p f).snaps = s.snaps := by rw [s.updHd_shape p f]
@[simp] theorem State.updHd_lat (s : State) (p : Nat) (f : Hdr → Hdr) : (s.updHd p f).lat = s.lat := by rw [s.updHd_shape p f]
@[simp] theorem State.updHd_held (s : State) (p : Nat) (f : Hdr → Hdr) : (s.updHd p f).held = s.held := by rw [s.updHd_shape p f]
@[simp] theorem State.updHd_rdata (s : State) (p : Nat) (f : Hdr → Hdr) : (s.updHd p f).rdata = s.rdata := by rw [s.updHd_shape p f]
@[simp] theorem State.updHd_wins (s : State) (p : Nat) (f : Hdr → Hdr) : (s.updHd p f).wins = s.wins := by rw [s.updHd_shape p f]
@[simp] theorem State.updHd_tbl (s : State) (p : Nat) (f : Hdr → Hdr) : (s.updHd p f).tbl = s.tbl := by rw [s.updHd_shape p f]
@[simp] theorem State.updHd_tsu (s : State) (p : Nat) (f : Hdr → Hdr) : (s.updHd p f).tsu = s.tsu := by rw [s.updHd_shape p f]
@[simp] theorem State.updHd_macs (s : State) (p : Nat) (f : Hdr → Hdr) : (s.updHd p f).macs = s.macs := by rw [s.updHd_shape p f]
@[simp] theorem State.updHd_egs (s : State) (p : Nat) (f : Hdr → Hdr) : (s.updHd p f).egs = s.egs := by rw [s.updHd_shape p f]
@[simp] theorem State.updHd_swc (s : State) (p : Nat) (f : Hdr → Hdr) : (s.updHd p f).swc = s.swc := by rw [s.updHd_shape p f]
@[simp] theorem State.updHd_mem (s : State) (p : Nat) (f : Hdr → Hdr) : (s.updHd p f).mem = s.mem := by rw [s.updHd_shape p f]
@[simp] theorem State.updHd_mram (s : State) (p : Nat) (f : Hdr → Hdr) : (s.updHd p f).mram = s.mram := by rw [s.updHd_shape p f]
@[simp] theorem State.updHd_flips (s : State) (p : Nat) (f : Hdr → Hdr) : (s.updHd p f).flips = s.flips := by rw [s.updHd_shape p f]
@[simp] theorem State.updHd_poison (s : State) (p : Nat) (f : Hdr → Hdr) : (s.updHd p f).poison = s.poison := by rw [s.updHd_shape p f]
@[simp] theorem State.updHd_memSt (s : State) (p : Nat) (f : Hdr → Hdr) : (s.updHd p f).memSt = s.memSt := by rw [s.updHd_shape p f]
@[simp] theorem State.updHd_evr (s : State) (p : Nat) (f : Hdr → Hdr) : (s.updHd p f).evr = s.evr := by rw [s.updHd_shape p f]
@[simp] theorem State.updHd_memFenced (s : State) (p : Nat) (f : Hdr → Hdr) : (s.updHd p f).memFenced = s.memFenced := by rw [s.updHd_shape p f]
@[simp] theorem State.updHd_sva (s : State) (p : Nat) (f : Hdr → Hdr) : (s.updHd p f).sva = s.sva := by rw [s.updHd_shape p f]
@[simp] theorem State.updHd_flt (s : State) (p : Nat) (f : Hdr → Hdr) : (s.updHd p f).flt = s.flt := by rw [s.updHd_shape p f]
@[simp] theorem State.updHd_thrCyc (s : State) (p : Nat) (f : Hdr → Hdr) : (s.updHd p f).thrCyc = s.thrCyc := by rw [s.updHd_shape p f]
@[simp] theorem State.updHd_thrAcq (s : State) (p : Nat) (f : Hdr → Hdr) : (s.updHd p f).thrAcq = s.thrAcq := by rw [s.updHd_shape p f]
@[simp] theorem State.updHd_adcs (s : State) (p : Nat) (f : Hdr → Hdr) : (s.updHd p f).adcs = s.adcs := by rw [s.updHd_shape p f]
@[simp] theorem State.updHd_shunts (s : State) (p : Nat) (f : Hdr → Hdr) : (s.updHd p f).shunts = s.shunts := by rw [s.updHd_shape p f]
@[simp] theorem State.updHd_plaus (s : State) (p : Nat) (f : Hdr → Hdr) : (s.updHd p f).plaus = s.plaus := by rw [s.updHd_shape p f]
@[simp] theorem State.updHd_img (s : State) (p : Nat) (f : Hdr → Hdr) : (s.updHd p f).img = s.img := by rw [s.updHd_shape p f]
@[simp] theorem State.updHd_dir (s : State) (p : Nat) (f : Hdr → Hdr) : (s.updHd p f).dir = s.dir := by rw [s.updHd_shape p f]
@[simp] theorem State.updHd_cyc (s : State) (p : Nat) (f : Hdr → Hdr) : (s.updHd p f).cyc = s.cyc := by rw [s.updHd_shape p f]
@[simp] theorem State.updHd_hwsIn (s : State) (p : Nat) (f : Hdr → Hdr) : (s.updHd p f).hwsIn = s.hwsIn := by rw [s.updHd_shape p f]
@[simp] theorem State.updHd_dup (s : State) (p : Nat) (f : Hdr → Hdr) : (s.updHd p f).dup = s.dup := by rw [s.updHd_shape p f]
@[simp] theorem State.updHd_qps (s : State) (p : Nat) (f : Hdr → Hdr) : (s.updHd p f).qps = s.qps := by rw [s.updHd_shape p f]
@[simp] theorem State.updHd_ops (s : State) (p : Nat) (f : Hdr → Hdr) : (s.updHd p f).ops = s.ops := by rw [s.updHd_shape p f]
@[simp] theorem State.updHd_skds (s : State) (p : Nat) (f : Hdr → Hdr) : (s.updHd p f).skds = s.skds := by rw [s.updHd_shape p f]
@[simp] theorem State.updHd_vfs (s : State) (p : Nat) (f : Hdr → Hdr) : (s.updHd p f).vfs = s.vfs := by rw [s.updHd_shape p f]
@[simp] theorem State.updHd_migIn (s : State) (p : Nat) (f : Hdr → Hdr) : (s.updHd p f).migIn = s.migIn := by rw [s.updHd_shape p f]
@[simp] theorem State.updHd_tals (s : State) (p : Nat) (f : Hdr → Hdr) : (s.updHd p f).tals = s.tals := by rw [s.updHd_shape p f]
@[simp] theorem State.updHd_talAts (s : State) (p : Nat) (f : Hdr → Hdr) : (s.updHd p f).talAts = s.talAts := by rw [s.updHd_shape p f]
@[simp] theorem State.updHd_dfos (s : State) (p : Nat) (f : Hdr → Hdr) : (s.updHd p f).dfos = s.dfos := by rw [s.updHd_shape p f]
@[simp] theorem State.updHd_hws (s : State) (p : Nat) (f : Hdr → Hdr) : (s.updHd p f).hws = s.hws := by rw [s.updHd_shape p f]
@[simp] theorem State.updHd_acq (s : State) (p : Nat) (f : Hdr → Hdr) : (s.updHd p f).acq = s.acq := by rw [s.updHd_shape p f]
@[simp] theorem State.updHd_acqGoose (s : State) (p : Nat) (f : Hdr → Hdr) : (s.updHd p f).acqGoose = s.acqGoose := by rw [s.updHd_shape p f]
@[simp] theorem State.updHd_kslots (s : State) (p : Nat) (f : Hdr → Hdr) : (s.updHd p f).kslots = s.kslots := by rw [s.updHd_shape p f]
@[simp] theorem State.updHd_ekeys (s : State) (p : Nat) (f : Hdr → Hdr) : (s.updHd p f).ekeys = s.ekeys := by rw [s.updHd_shape p f]
@[simp] theorem State.updHd_ksu (s : State) (p : Nat) (f : Hdr → Hdr) : (s.updHd p f).ksu = s.ksu := by rw [s.updHd_shape p f]
@[simp] theorem State.updHd_tmp (s : State) (p : Nat) (f : Hdr → Hdr) : (s.updHd p f).tmp = s.tmp := by rw [s.updHd_shape p f]
@[simp] theorem State.updHd_pwr (s : State) (p : Nat) (f : Hdr → Hdr) : (s.updHd p f).pwr = s.pwr := by rw [s.updHd_shape p f]
@[simp] theorem State.updHd_rst (s : State) (p : Nat) (f : Hdr → Hdr) : (s.updHd p f).rst = s.rst := by rw [s.updHd_shape p f]
@[simp] theorem State.updHd_hlt (s : State) (p : Nat) (f : Hdr → Hdr) : (s.updHd p f).hlt = s.hlt := by rw [s.updHd_shape p f]
@[simp] theorem State.updHd_free (s : State) (p : Nat) (f : Hdr → Hdr) : (s.updHd p f).free = s.free := by rw [s.updHd_shape p f]
@[simp] theorem State.updHd_pending (s : State) (p : Nat) (f : Hdr → Hdr) : (s.updHd p f).pending = s.pending := by rw [s.updHd_shape p f]

@[simp] theorem State.updHd_hdrs (s : State) (p : Nat) (f : Hdr → Hdr) : (s.updHd p f).hdrs = sset {} p (f (s.hd p)) s.hdrs := by
  rw [s.updHd_shape p f]

@[simp] theorem State.hd_updHd (s : State) (p : Nat) (f : Hdr → Hdr) : (s.updHd p f).hd p = f (s.hd p) := by
  simp [State.hd]

theorem State.hd_updHd_other (s : State) (p q : Nat) (f : Hdr → Hdr) (h : q ≠ p) : (s.updHd p f).hd q = s.hd q := by
  simp [State.hd, sget_sset_other _ _ _ _ _ _ h]


/-! ### irq, field by field -/

@[simp] theorem State.irq_ident (s : State) (p i : Nat) : (s.irq p i).ident = s.ident := by simp [State.irq]
@[simp] theorem State.irq_regs (s : State) (p i : Nat) : (s.irq p i).regs = s.regs := by simp [State.irq]
@[simp] theorem State.irq_acts (s : State) (p i : Nat) : (s.irq p i).acts = s.acts := by simp [State.irq]
@[simp] theorem State.irq_cnts (s : State) (p i : Nat) : (s.irq p i).cnts = s.cnts := by simp [State.irq]
@[simp] theorem State.irq_snaps (s : State) (p i : Nat) : (s.irq p i).snaps = s.snaps := by simp [State.irq]
@[simp] theorem State.irq_lat (s : State) (p i : Nat) : (s.irq p i).lat = s.lat := by simp [State.irq]
@[simp] theorem State.irq_held (s : State) (p i : Nat) : (s.irq p i).held = s.held := by simp [State.irq]
@[simp] theorem State.irq_rdata (s : State) (p i : Nat) : (s.irq p i).rdata = s.rdata := by simp [State.irq]
@[simp] theorem State.irq_wins (s : State) (p i : Nat) : (s.irq p i).wins = s.wins := by simp [State.irq]
@[simp] theorem State.irq_tbl (s : State) (p i : Nat) : (s.irq p i).tbl = s.tbl := by simp [State.irq]
@[simp] theorem State.irq_tsu (s : State) (p i : Nat) : (s.irq p i).tsu = s.tsu := by simp [State.irq]
@[simp] theorem State.irq_macs (s : State) (p i : Nat) : (s.irq p i).macs = s.macs := by simp [State.irq]
@[simp] theorem State.irq_egs (s : State) (p i : Nat) : (s.irq p i).egs = s.egs := by simp [State.irq]
@[simp] theorem State.irq_swc (s : State) (p i : Nat) : (s.irq p i).swc = s.swc := by simp [State.irq]
@[simp] theorem State.irq_mem (s : State) (p i : Nat) : (s.irq p i).mem = s.mem := by simp [State.irq]
@[simp] theorem State.irq_mram (s : State) (p i : Nat) : (s.irq p i).mram = s.mram := by simp [State.irq]
@[simp] theorem State.irq_flips (s : State) (p i : Nat) : (s.irq p i).flips = s.flips := by simp [State.irq]
@[simp] theorem State.irq_poison (s : State) (p i : Nat) : (s.irq p i).poison = s.poison := by simp [State.irq]
@[simp] theorem State.irq_memSt (s : State) (p i : Nat) : (s.irq p i).memSt = s.memSt := by simp [State.irq]
@[simp] theorem State.irq_evr (s : State) (p i : Nat) : (s.irq p i).evr = s.evr := by simp [State.irq]
@[simp] theorem State.irq_memFenced (s : State) (p i : Nat) : (s.irq p i).memFenced = s.memFenced := by simp [State.irq]
@[simp] theorem State.irq_sva (s : State) (p i : Nat) : (s.irq p i).sva = s.sva := by simp [State.irq]
@[simp] theorem State.irq_flt (s : State) (p i : Nat) : (s.irq p i).flt = s.flt := by simp [State.irq]
@[simp] theorem State.irq_thrCyc (s : State) (p i : Nat) : (s.irq p i).thrCyc = s.thrCyc := by simp [State.irq]
@[simp] theorem State.irq_thrAcq (s : State) (p i : Nat) : (s.irq p i).thrAcq = s.thrAcq := by simp [State.irq]
@[simp] theorem State.irq_adcs (s : State) (p i : Nat) : (s.irq p i).adcs = s.adcs := by simp [State.irq]
@[simp] theorem State.irq_shunts (s : State) (p i : Nat) : (s.irq p i).shunts = s.shunts := by simp [State.irq]
@[simp] theorem State.irq_plaus (s : State) (p i : Nat) : (s.irq p i).plaus = s.plaus := by simp [State.irq]
@[simp] theorem State.irq_img (s : State) (p i : Nat) : (s.irq p i).img = s.img := by simp [State.irq]
@[simp] theorem State.irq_dir (s : State) (p i : Nat) : (s.irq p i).dir = s.dir := by simp [State.irq]
@[simp] theorem State.irq_cyc (s : State) (p i : Nat) : (s.irq p i).cyc = s.cyc := by simp [State.irq]
@[simp] theorem State.irq_hwsIn (s : State) (p i : Nat) : (s.irq p i).hwsIn = s.hwsIn := by simp [State.irq]
@[simp] theorem State.irq_dup (s : State) (p i : Nat) : (s.irq p i).dup = s.dup := by simp [State.irq]
@[simp] theorem State.irq_qps (s : State) (p i : Nat) : (s.irq p i).qps = s.qps := by simp [State.irq]
@[simp] theorem State.irq_ops (s : State) (p i : Nat) : (s.irq p i).ops = s.ops := by simp [State.irq]
@[simp] theorem State.irq_skds (s : State) (p i : Nat) : (s.irq p i).skds = s.skds := by simp [State.irq]
@[simp] theorem State.irq_vfs (s : State) (p i : Nat) : (s.irq p i).vfs = s.vfs := by simp [State.irq]
@[simp] theorem State.irq_migIn (s : State) (p i : Nat) : (s.irq p i).migIn = s.migIn := by simp [State.irq]
@[simp] theorem State.irq_tals (s : State) (p i : Nat) : (s.irq p i).tals = s.tals := by simp [State.irq]
@[simp] theorem State.irq_talAts (s : State) (p i : Nat) : (s.irq p i).talAts = s.talAts := by simp [State.irq]
@[simp] theorem State.irq_dfos (s : State) (p i : Nat) : (s.irq p i).dfos = s.dfos := by simp [State.irq]
@[simp] theorem State.irq_hws (s : State) (p i : Nat) : (s.irq p i).hws = s.hws := by simp [State.irq]
@[simp] theorem State.irq_acq (s : State) (p i : Nat) : (s.irq p i).acq = s.acq := by simp [State.irq]
@[simp] theorem State.irq_acqGoose (s : State) (p i : Nat) : (s.irq p i).acqGoose = s.acqGoose := by simp [State.irq]
@[simp] theorem State.irq_kslots (s : State) (p i : Nat) : (s.irq p i).kslots = s.kslots := by simp [State.irq]
@[simp] theorem State.irq_ekeys (s : State) (p i : Nat) : (s.irq p i).ekeys = s.ekeys := by simp [State.irq]
@[simp] theorem State.irq_ksu (s : State) (p i : Nat) : (s.irq p i).ksu = s.ksu := by simp [State.irq]
@[simp] theorem State.irq_tmp (s : State) (p i : Nat) : (s.irq p i).tmp = s.tmp := by simp [State.irq]
@[simp] theorem State.irq_pwr (s : State) (p i : Nat) : (s.irq p i).pwr = s.pwr := by simp [State.irq]
@[simp] theorem State.irq_rst (s : State) (p i : Nat) : (s.irq p i).rst = s.rst := by simp [State.irq]
@[simp] theorem State.irq_hlt (s : State) (p i : Nat) : (s.irq p i).hlt = s.hlt := by simp [State.irq]
@[simp] theorem State.irq_free (s : State) (p i : Nat) : (s.irq p i).free = s.free := by simp [State.irq]
@[simp] theorem State.irq_pending (s : State) (p i : Nat) : (s.irq p i).pending = s.pending := by simp [State.irq]

/-! ### bumpBy, field by field -/

@[simp] theorem State.bumpBy_ident (s : State) (p o n : Nat) : (s.bumpBy p o n).ident = s.ident := by unfold State.bumpBy; dsimp only; split <;> simp
@[simp] theorem State.bumpBy_regs (s : State) (p o n : Nat) : (s.bumpBy p o n).regs = s.regs := by unfold State.bumpBy; dsimp only; split <;> simp
@[simp] theorem State.bumpBy_acts (s : State) (p o n : Nat) : (s.bumpBy p o n).acts = s.acts := by unfold State.bumpBy; dsimp only; split <;> simp
@[simp] theorem State.bumpBy_snaps (s : State) (p o n : Nat) : (s.bumpBy p o n).snaps = s.snaps := by unfold State.bumpBy; dsimp only; split <;> simp
@[simp] theorem State.bumpBy_lat (s : State) (p o n : Nat) : (s.bumpBy p o n).lat = s.lat := by unfold State.bumpBy; dsimp only; split <;> simp
@[simp] theorem State.bumpBy_held (s : State) (p o n : Nat) : (s.bumpBy p o n).held = s.held := by unfold State.bumpBy; dsimp only; split <;> simp
@[simp] theorem State.bumpBy_rdata (s : State) (p o n : Nat) : (s.bumpBy p o n).rdata = s.rdata := by unfold State.bumpBy; dsimp only; split <;> simp
@[simp] theorem State.bumpBy_wins (s : State) (p o n : Nat) : (s.bumpBy p o n).wins = s.wins := by unfold State.bumpBy; dsimp only; split <;> simp
@[simp] theorem State.bumpBy_tbl (s : State) (p o n : Nat) : (s.bumpBy p o n).tbl = s.tbl := by unfold State.bumpBy; dsimp only; split <;> simp
@[simp] theorem State.bumpBy_tsu (s : State) (p o n : Nat) : (s.bumpBy p o n).tsu = s.tsu := by unfold State.bumpBy; dsimp only; split <;> simp
@[simp] theorem State.bumpBy_macs (s : State) (p o n : Nat) : (s.bumpBy p o n).macs = s.macs := by unfold State.bumpBy; dsimp only; split <;> simp
@[simp] theorem State.bumpBy_egs (s : State) (p o n : Nat) : (s.bumpBy p o n).egs = s.egs := by unfold State.bumpBy; dsimp only; split <;> simp
@[simp] theorem State.bumpBy_swc (s : State) (p o n : Nat) : (s.bumpBy p o n).swc = s.swc := by unfold State.bumpBy; dsimp only; split <;> simp
@[simp] theorem State.bumpBy_mem (s : State) (p o n : Nat) : (s.bumpBy p o n).mem = s.mem := by unfold State.bumpBy; dsimp only; split <;> simp
@[simp] theorem State.bumpBy_mram (s : State) (p o n : Nat) : (s.bumpBy p o n).mram = s.mram := by unfold State.bumpBy; dsimp only; split <;> simp
@[simp] theorem State.bumpBy_flips (s : State) (p o n : Nat) : (s.bumpBy p o n).flips = s.flips := by unfold State.bumpBy; dsimp only; split <;> simp
@[simp] theorem State.bumpBy_poison (s : State) (p o n : Nat) : (s.bumpBy p o n).poison = s.poison := by unfold State.bumpBy; dsimp only; split <;> simp
@[simp] theorem State.bumpBy_memSt (s : State) (p o n : Nat) : (s.bumpBy p o n).memSt = s.memSt := by unfold State.bumpBy; dsimp only; split <;> simp
@[simp] theorem State.bumpBy_evr (s : State) (p o n : Nat) : (s.bumpBy p o n).evr = s.evr := by unfold State.bumpBy; dsimp only; split <;> simp
@[simp] theorem State.bumpBy_memFenced (s : State) (p o n : Nat) : (s.bumpBy p o n).memFenced = s.memFenced := by unfold State.bumpBy; dsimp only; split <;> simp
@[simp] theorem State.bumpBy_sva (s : State) (p o n : Nat) : (s.bumpBy p o n).sva = s.sva := by unfold State.bumpBy; dsimp only; split <;> simp
@[simp] theorem State.bumpBy_flt (s : State) (p o n : Nat) : (s.bumpBy p o n).flt = s.flt := by unfold State.bumpBy; dsimp only; split <;> simp
@[simp] theorem State.bumpBy_thrCyc (s : State) (p o n : Nat) : (s.bumpBy p o n).thrCyc = s.thrCyc := by unfold State.bumpBy; dsimp only; split <;> simp
@[simp] theorem State.bumpBy_thrAcq (s : State) (p o n : Nat) : (s.bumpBy p o n).thrAcq = s.thrAcq := by unfold State.bumpBy; dsimp only; split <;> simp
@[simp] theorem State.bumpBy_adcs (s : State) (p o n : Nat) : (s.bumpBy p o n).adcs = s.adcs := by unfold State.bumpBy; dsimp only; split <;> simp
@[simp] theorem State.bumpBy_shunts (s : State) (p o n : Nat) : (s.bumpBy p o n).shunts = s.shunts := by unfold State.bumpBy; dsimp only; split <;> simp
@[simp] theorem State.bumpBy_plaus (s : State) (p o n : Nat) : (s.bumpBy p o n).plaus = s.plaus := by unfold State.bumpBy; dsimp only; split <;> simp
@[simp] theorem State.bumpBy_img (s : State) (p o n : Nat) : (s.bumpBy p o n).img = s.img := by unfold State.bumpBy; dsimp only; split <;> simp
@[simp] theorem State.bumpBy_dir (s : State) (p o n : Nat) : (s.bumpBy p o n).dir = s.dir := by unfold State.bumpBy; dsimp only; split <;> simp
@[simp] theorem State.bumpBy_cyc (s : State) (p o n : Nat) : (s.bumpBy p o n).cyc = s.cyc := by unfold State.bumpBy; dsimp only; split <;> simp
@[simp] theorem State.bumpBy_hwsIn (s : State) (p o n : Nat) : (s.bumpBy p o n).hwsIn = s.hwsIn := by unfold State.bumpBy; dsimp only; split <;> simp
@[simp] theorem State.bumpBy_dup (s : State) (p o n : Nat) : (s.bumpBy p o n).dup = s.dup := by unfold State.bumpBy; dsimp only; split <;> simp
@[simp] theorem State.bumpBy_qps (s : State) (p o n : Nat) : (s.bumpBy p o n).qps = s.qps := by unfold State.bumpBy; dsimp only; split <;> simp
@[simp] theorem State.bumpBy_ops (s : State) (p o n : Nat) : (s.bumpBy p o n).ops = s.ops := by unfold State.bumpBy; dsimp only; split <;> simp
@[simp] theorem State.bumpBy_skds (s : State) (p o n : Nat) : (s.bumpBy p o n).skds = s.skds := by unfold State.bumpBy; dsimp only; split <;> simp
@[simp] theorem State.bumpBy_vfs (s : State) (p o n : Nat) : (s.bumpBy p o n).vfs = s.vfs := by unfold State.bumpBy; dsimp only; split <;> simp
@[simp] theorem State.bumpBy_migIn (s : State) (p o n : Nat) : (s.bumpBy p o n).migIn = s.migIn := by unfold State.bumpBy; dsimp only; split <;> simp
@[simp] theorem State.bumpBy_tals (s : State) (p o n : Nat) : (s.bumpBy p o n).tals = s.tals := by unfold State.bumpBy; dsimp only; split <;> simp
@[simp] theorem State.bumpBy_talAts (s : State) (p o n : Nat) : (s.bumpBy p o n).talAts = s.talAts := by unfold State.bumpBy; dsimp only; split <;> simp
@[simp] theorem State.bumpBy_dfos (s : State) (p o n : Nat) : (s.bumpBy p o n).dfos = s.dfos := by unfold State.bumpBy; dsimp only; split <;> simp
@[simp] theorem State.bumpBy_hws (s : State) (p o n : Nat) : (s.bumpBy p o n).hws = s.hws := by unfold State.bumpBy; dsimp only; split <;> simp
@[simp] theorem State.bumpBy_acq (s : State) (p o n : Nat) : (s.bumpBy p o n).acq = s.acq := by unfold State.bumpBy; dsimp only; split <;> simp
@[simp] theorem State.bumpBy_acqGoose (s : State) (p o n : Nat) : (s.bumpBy p o n).acqGoose = s.acqGoose := by unfold State.bumpBy; dsimp only; split <;> simp
@[simp] theorem State.bumpBy_kslots (s : State) (p o n : Nat) : (s.bumpBy p o n).kslots = s.kslots := by unfold State.bumpBy; dsimp only; split <;> simp
@[simp] theorem State.bumpBy_ekeys (s : State) (p o n : Nat) : (s.bumpBy p o n).ekeys = s.ekeys := by unfold State.bumpBy; dsimp only; split <;> simp
@[simp] theorem State.bumpBy_ksu (s : State) (p o n : Nat) : (s.bumpBy p o n).ksu = s.ksu := by unfold State.bumpBy; dsimp only; split <;> simp
@[simp] theorem State.bumpBy_tmp (s : State) (p o n : Nat) : (s.bumpBy p o n).tmp = s.tmp := by unfold State.bumpBy; dsimp only; split <;> simp
@[simp] theorem State.bumpBy_pwr (s : State) (p o n : Nat) : (s.bumpBy p o n).pwr = s.pwr := by unfold State.bumpBy; dsimp only; split <;> simp
@[simp] theorem State.bumpBy_rst (s : State) (p o n : Nat) : (s.bumpBy p o n).rst = s.rst := by unfold State.bumpBy; dsimp only; split <;> simp
@[simp] theorem State.bumpBy_hlt (s : State) (p o n : Nat) : (s.bumpBy p o n).hlt = s.hlt := by unfold State.bumpBy; dsimp only; split <;> simp
@[simp] theorem State.bumpBy_free (s : State) (p o n : Nat) : (s.bumpBy p o n).free = s.free := by unfold State.bumpBy; dsimp only; split <;> simp
@[simp] theorem State.bumpBy_pending (s : State) (p o n : Nat) : (s.bumpBy p o n).pending = s.pending := by unfold State.bumpBy; dsimp only; split <;> simp

/-! ### bump, field by field -/

@[simp] theorem State.bump_ident (s : State) (p o : Nat) : (s.bump p o).ident = s.ident := by simp [State.bump]
@[simp] theorem State.bump_regs (s : State) (p o : Nat) : (s.bump p o).regs = s.regs := by simp [State.bump]
@[simp] theorem State.bump_acts (s : State) (p o : Nat) : (s.bump p o).acts = s.acts := by simp [State.bump]
@[simp] theorem State.bump_snaps (s : State) (p o : Nat) : (s.bump p o).snaps = s.snaps := by simp [State.bump]
@[simp] theorem State.bump_lat (s : State) (p o : Nat) : (s.bump p o).lat = s.lat := by simp [State.bump]
@[simp] theorem State.bump_held (s : State) (p o : Nat) : (s.bump p o).held = s.held := by simp [State.bump]
@[simp] theorem State.bump_rdata (s : State) (p o : Nat) : (s.bump p o).rdata = s.rdata := by simp [State.bump]
@[simp] theorem State.bump_wins (s : State) (p o : Nat) : (s.bump p o).wins = s.wins := by simp [State.bump]
@[simp] theorem State.bump_tbl (s : State) (p o : Nat) : (s.bump p o).tbl = s.tbl := by simp [State.bump]
@[simp] theorem State.bump_tsu (s : State) (p o : Nat) : (s.bump p o).tsu = s.tsu := by simp [State.bump]
@[simp] theorem State.bump_macs (s : State) (p o : Nat) : (s.bump p o).macs = s.macs := by simp [State.bump]
@[simp] theorem State.bump_egs (s : State) (p o : Nat) : (s.bump p o).egs = s.egs := by simp [State.bump]
@[simp] theorem State.bump_swc (s : State) (p o : Nat) : (s.bump p o).swc = s.swc := by simp [State.bump]
@[simp] theorem State.bump_mem (s : State) (p o : Nat) : (s.bump p o).mem = s.mem := by simp [State.bump]
@[simp] theorem State.bump_mram (s : State) (p o : Nat) : (s.bump p o).mram = s.mram := by simp [State.bump]
@[simp] theorem State.bump_flips (s : State) (p o : Nat) : (s.bump p o).flips = s.flips := by simp [State.bump]
@[simp] theorem State.bump_poison (s : State) (p o : Nat) : (s.bump p o).poison = s.poison := by simp [State.bump]
@[simp] theorem State.bump_memSt (s : State) (p o : Nat) : (s.bump p o).memSt = s.memSt := by simp [State.bump]
@[simp] theorem State.bump_evr (s : State) (p o : Nat) : (s.bump p o).evr = s.evr := by simp [State.bump]
@[simp] theorem State.bump_memFenced (s : State) (p o : Nat) : (s.bump p o).memFenced = s.memFenced := by simp [State.bump]
@[simp] theorem State.bump_sva (s : State) (p o : Nat) : (s.bump p o).sva = s.sva := by simp [State.bump]
@[simp] theorem State.bump_flt (s : State) (p o : Nat) : (s.bump p o).flt = s.flt := by simp [State.bump]
@[simp] theorem State.bump_thrCyc (s : State) (p o : Nat) : (s.bump p o).thrCyc = s.thrCyc := by simp [State.bump]
@[simp] theorem State.bump_thrAcq (s : State) (p o : Nat) : (s.bump p o).thrAcq = s.thrAcq := by simp [State.bump]
@[simp] theorem State.bump_adcs (s : State) (p o : Nat) : (s.bump p o).adcs = s.adcs := by simp [State.bump]
@[simp] theorem State.bump_shunts (s : State) (p o : Nat) : (s.bump p o).shunts = s.shunts := by simp [State.bump]
@[simp] theorem State.bump_plaus (s : State) (p o : Nat) : (s.bump p o).plaus = s.plaus := by simp [State.bump]
@[simp] theorem State.bump_img (s : State) (p o : Nat) : (s.bump p o).img = s.img := by simp [State.bump]
@[simp] theorem State.bump_dir (s : State) (p o : Nat) : (s.bump p o).dir = s.dir := by simp [State.bump]
@[simp] theorem State.bump_cyc (s : State) (p o : Nat) : (s.bump p o).cyc = s.cyc := by simp [State.bump]
@[simp] theorem State.bump_hwsIn (s : State) (p o : Nat) : (s.bump p o).hwsIn = s.hwsIn := by simp [State.bump]
@[simp] theorem State.bump_dup (s : State) (p o : Nat) : (s.bump p o).dup = s.dup := by simp [State.bump]
@[simp] theorem State.bump_qps (s : State) (p o : Nat) : (s.bump p o).qps = s.qps := by simp [State.bump]
@[simp] theorem State.bump_ops (s : State) (p o : Nat) : (s.bump p o).ops = s.ops := by simp [State.bump]
@[simp] theorem State.bump_skds (s : State) (p o : Nat) : (s.bump p o).skds = s.skds := by simp [State.bump]
@[simp] theorem State.bump_vfs (s : State) (p o : Nat) : (s.bump p o).vfs = s.vfs := by simp [State.bump]
@[simp] theorem State.bump_migIn (s : State) (p o : Nat) : (s.bump p o).migIn = s.migIn := by simp [State.bump]
@[simp] theorem State.bump_tals (s : State) (p o : Nat) : (s.bump p o).tals = s.tals := by simp [State.bump]
@[simp] theorem State.bump_talAts (s : State) (p o : Nat) : (s.bump p o).talAts = s.talAts := by simp [State.bump]
@[simp] theorem State.bump_dfos (s : State) (p o : Nat) : (s.bump p o).dfos = s.dfos := by simp [State.bump]
@[simp] theorem State.bump_hws (s : State) (p o : Nat) : (s.bump p o).hws = s.hws := by simp [State.bump]
@[simp] theorem State.bump_acq (s : State) (p o : Nat) : (s.bump p o).acq = s.acq := by simp [State.bump]
@[simp] theorem State.bump_acqGoose (s : State) (p o : Nat) : (s.bump p o).acqGoose = s.acqGoose := by simp [State.bump]
@[simp] theorem State.bump_kslots (s : State) (p o : Nat) : (s.bump p o).kslots = s.kslots := by simp [State.bump]
@[simp] theorem State.bump_ekeys (s : State) (p o : Nat) : (s.bump p o).ekeys = s.ekeys := by simp [State.bump]
@[simp] theorem State.bump_ksu (s : State) (p o : Nat) : (s.bump p o).ksu = s.ksu := by simp [State.bump]
@[simp] theorem State.bump_tmp (s : State) (p o : Nat) : (s.bump p o).tmp = s.tmp := by simp [State.bump]
@[simp] theorem State.bump_pwr (s : State) (p o : Nat) : (s.bump p o).pwr = s.pwr := by simp [State.bump]
@[simp] theorem State.bump_rst (s : State) (p o : Nat) : (s.bump p o).rst = s.rst := by simp [State.bump]
@[simp] theorem State.bump_hlt (s : State) (p o : Nat) : (s.bump p o).hlt = s.hlt := by simp [State.bump]
@[simp] theorem State.bump_free (s : State) (p o : Nat) : (s.bump p o).free = s.free := by simp [State.bump]
@[simp] theorem State.bump_pending (s : State) (p o : Nat) : (s.bump p o).pending = s.pending := by simp [State.bump]

/-! ### refuse, field by field -/

@[simp] theorem State.refuse_ident (s : State) (p o c : Nat) : (s.refuse p o c).ident = s.ident := by unfold State.refuse; dsimp only; split <;> simp
@[simp] theorem State.refuse_regs (s : State) (p o c : Nat) : (s.refuse p o c).regs = s.regs := by unfold State.refuse; dsimp only; split <;> simp
@[simp] theorem State.refuse_acts (s : State) (p o c : Nat) : (s.refuse p o c).acts = s.acts := by unfold State.refuse; dsimp only; split <;> simp
@[simp] theorem State.refuse_snaps (s : State) (p o c : Nat) : (s.refuse p o c).snaps = s.snaps := by unfold State.refuse; dsimp only; split <;> simp
@[simp] theorem State.refuse_lat (s : State) (p o c : Nat) : (s.refuse p o c).lat = s.lat := by unfold State.refuse; dsimp only; split <;> simp
@[simp] theorem State.refuse_held (s : State) (p o c : Nat) : (s.refuse p o c).held = s.held := by unfold State.refuse; dsimp only; split <;> simp
@[simp] theorem State.refuse_rdata (s : State) (p o c : Nat) : (s.refuse p o c).rdata = s.rdata := by unfold State.refuse; dsimp only; split <;> simp
@[simp] theorem State.refuse_wins (s : State) (p o c : Nat) : (s.refuse p o c).wins = s.wins := by unfold State.refuse; dsimp only; split <;> simp
@[simp] theorem State.refuse_tbl (s : State) (p o c : Nat) : (s.refuse p o c).tbl = s.tbl := by unfold State.refuse; dsimp only; split <;> simp
@[simp] theorem State.refuse_tsu (s : State) (p o c : Nat) : (s.refuse p o c).tsu = s.tsu := by unfold State.refuse; dsimp only; split <;> simp
@[simp] theorem State.refuse_macs (s : State) (p o c : Nat) : (s.refuse p o c).macs = s.macs := by unfold State.refuse; dsimp only; split <;> simp
@[simp] theorem State.refuse_egs (s : State) (p o c : Nat) : (s.refuse p o c).egs = s.egs := by unfold State.refuse; dsimp only; split <;> simp
@[simp] theorem State.refuse_swc (s : State) (p o c : Nat) : (s.refuse p o c).swc = s.swc := by unfold State.refuse; dsimp only; split <;> simp
@[simp] theorem State.refuse_mem (s : State) (p o c : Nat) : (s.refuse p o c).mem = s.mem := by unfold State.refuse; dsimp only; split <;> simp
@[simp] theorem State.refuse_mram (s : State) (p o c : Nat) : (s.refuse p o c).mram = s.mram := by unfold State.refuse; dsimp only; split <;> simp
@[simp] theorem State.refuse_flips (s : State) (p o c : Nat) : (s.refuse p o c).flips = s.flips := by unfold State.refuse; dsimp only; split <;> simp
@[simp] theorem State.refuse_poison (s : State) (p o c : Nat) : (s.refuse p o c).poison = s.poison := by unfold State.refuse; dsimp only; split <;> simp
@[simp] theorem State.refuse_memSt (s : State) (p o c : Nat) : (s.refuse p o c).memSt = s.memSt := by unfold State.refuse; dsimp only; split <;> simp
@[simp] theorem State.refuse_evr (s : State) (p o c : Nat) : (s.refuse p o c).evr = s.evr := by unfold State.refuse; dsimp only; split <;> simp
@[simp] theorem State.refuse_memFenced (s : State) (p o c : Nat) : (s.refuse p o c).memFenced = s.memFenced := by unfold State.refuse; dsimp only; split <;> simp
@[simp] theorem State.refuse_sva (s : State) (p o c : Nat) : (s.refuse p o c).sva = s.sva := by unfold State.refuse; dsimp only; split <;> simp
@[simp] theorem State.refuse_flt (s : State) (p o c : Nat) : (s.refuse p o c).flt = s.flt := by unfold State.refuse; dsimp only; split <;> simp
@[simp] theorem State.refuse_thrCyc (s : State) (p o c : Nat) : (s.refuse p o c).thrCyc = s.thrCyc := by unfold State.refuse; dsimp only; split <;> simp
@[simp] theorem State.refuse_thrAcq (s : State) (p o c : Nat) : (s.refuse p o c).thrAcq = s.thrAcq := by unfold State.refuse; dsimp only; split <;> simp
@[simp] theorem State.refuse_adcs (s : State) (p o c : Nat) : (s.refuse p o c).adcs = s.adcs := by unfold State.refuse; dsimp only; split <;> simp
@[simp] theorem State.refuse_shunts (s : State) (p o c : Nat) : (s.refuse p o c).shunts = s.shunts := by unfold State.refuse; dsimp only; split <;> simp
@[simp] theorem State.refuse_plaus (s : State) (p o c : Nat) : (s.refuse p o c).plaus = s.plaus := by unfold State.refuse; dsimp only; split <;> simp
@[simp] theorem State.refuse_img (s : State) (p o c : Nat) : (s.refuse p o c).img = s.img := by unfold State.refuse; dsimp only; split <;> simp
@[simp] theorem State.refuse_dir (s : State) (p o c : Nat) : (s.refuse p o c).dir = s.dir := by unfold State.refuse; dsimp only; split <;> simp
@[simp] theorem State.refuse_cyc (s : State) (p o c : Nat) : (s.refuse p o c).cyc = s.cyc := by unfold State.refuse; dsimp only; split <;> simp
@[simp] theorem State.refuse_hwsIn (s : State) (p o c : Nat) : (s.refuse p o c).hwsIn = s.hwsIn := by unfold State.refuse; dsimp only; split <;> simp
@[simp] theorem State.refuse_dup (s : State) (p o c : Nat) : (s.refuse p o c).dup = s.dup := by unfold State.refuse; dsimp only; split <;> simp
@[simp] theorem State.refuse_qps (s : State) (p o c : Nat) : (s.refuse p o c).qps = s.qps := by unfold State.refuse; dsimp only; split <;> simp
@[simp] theorem State.refuse_ops (s : State) (p o c : Nat) : (s.refuse p o c).ops = s.ops := by unfold State.refuse; dsimp only; split <;> simp
@[simp] theorem State.refuse_skds (s : State) (p o c : Nat) : (s.refuse p o c).skds = s.skds := by unfold State.refuse; dsimp only; split <;> simp
@[simp] theorem State.refuse_vfs (s : State) (p o c : Nat) : (s.refuse p o c).vfs = s.vfs := by unfold State.refuse; dsimp only; split <;> simp
@[simp] theorem State.refuse_migIn (s : State) (p o c : Nat) : (s.refuse p o c).migIn = s.migIn := by unfold State.refuse; dsimp only; split <;> simp
@[simp] theorem State.refuse_tals (s : State) (p o c : Nat) : (s.refuse p o c).tals = s.tals := by unfold State.refuse; dsimp only; split <;> simp
@[simp] theorem State.refuse_talAts (s : State) (p o c : Nat) : (s.refuse p o c).talAts = s.talAts := by unfold State.refuse; dsimp only; split <;> simp
@[simp] theorem State.refuse_dfos (s : State) (p o c : Nat) : (s.refuse p o c).dfos = s.dfos := by unfold State.refuse; dsimp only; split <;> simp
@[simp] theorem State.refuse_hws (s : State) (p o c : Nat) : (s.refuse p o c).hws = s.hws := by unfold State.refuse; dsimp only; split <;> simp
@[simp] theorem State.refuse_acq (s : State) (p o c : Nat) : (s.refuse p o c).acq = s.acq := by unfold State.refuse; dsimp only; split <;> simp
@[simp] theorem State.refuse_acqGoose (s : State) (p o c : Nat) : (s.refuse p o c).acqGoose = s.acqGoose := by unfold State.refuse; dsimp only; split <;> simp
@[simp] theorem State.refuse_kslots (s : State) (p o c : Nat) : (s.refuse p o c).kslots = s.kslots := by unfold State.refuse; dsimp only; split <;> simp
@[simp] theorem State.refuse_ekeys (s : State) (p o c : Nat) : (s.refuse p o c).ekeys = s.ekeys := by unfold State.refuse; dsimp only; split <;> simp
@[simp] theorem State.refuse_ksu (s : State) (p o c : Nat) : (s.refuse p o c).ksu = s.ksu := by unfold State.refuse; dsimp only; split <;> simp
@[simp] theorem State.refuse_tmp (s : State) (p o c : Nat) : (s.refuse p o c).tmp = s.tmp := by unfold State.refuse; dsimp only; split <;> simp
@[simp] theorem State.refuse_pwr (s : State) (p o c : Nat) : (s.refuse p o c).pwr = s.pwr := by unfold State.refuse; dsimp only; split <;> simp
@[simp] theorem State.refuse_rst (s : State) (p o c : Nat) : (s.refuse p o c).rst = s.rst := by unfold State.refuse; dsimp only; split <;> simp
@[simp] theorem State.refuse_hlt (s : State) (p o c : Nat) : (s.refuse p o c).hlt = s.hlt := by unfold State.refuse; dsimp only; split <;> simp
@[simp] theorem State.refuse_free (s : State) (p o c : Nat) : (s.refuse p o c).free = s.free := by unfold State.refuse; dsimp only; split <;> simp
@[simp] theorem State.refuse_pending (s : State) (p o c : Nat) : (s.refuse p o c).pending = s.pending := by unfold State.refuse; dsimp only; split <;> simp

/-! ### accept, field by field -/

@[simp] theorem State.accept_ident (s : State) (p : Nat) : (s.accept p).ident = s.ident := by simp [State.accept]
@[simp] theorem State.accept_regs (s : State) (p : Nat) : (s.accept p).regs = s.regs := by simp [State.accept]
@[simp] theorem State.accept_acts (s : State) (p : Nat) : (s.accept p).acts = s.acts := by simp [State.accept]
@[simp] theorem State.accept_cnts (s : State) (p : Nat) : (s.accept p).cnts = s.cnts := by simp [State.accept]
@[simp] theorem State.accept_snaps (s : State) (p : Nat) : (s.accept p).snaps = s.snaps := by simp [State.accept]
@[simp] theorem State.accept_lat (s : State) (p : Nat) : (s.accept p).lat = s.lat := by simp [State.accept]
@[simp] theorem State.accept_held (s : State) (p : Nat) : (s.accept p).held = s.held := by simp [State.accept]
@[simp] theorem State.accept_rdata (s : State) (p : Nat) : (s.accept p).rdata = s.rdata := by simp [State.accept]
@[simp] theorem State.accept_wins (s : State) (p : Nat) : (s.accept p).wins = s.wins := by simp [State.accept]
@[simp] theorem State.accept_tbl (s : State) (p : Nat) : (s.accept p).tbl = s.tbl := by simp [State.accept]
@[simp] theorem State.accept_tsu (s : State) (p : Nat) : (s.accept p).tsu = s.tsu := by simp [State.accept]
@[simp] theorem State.accept_macs (s : State) (p : Nat) : (s.accept p).macs = s.macs := by simp [State.accept]
@[simp] theorem State.accept_egs (s : State) (p : Nat) : (s.accept p).egs = s.egs := by simp [State.accept]
@[simp] theorem State.accept_swc (s : State) (p : Nat) : (s.accept p).swc = s.swc := by simp [State.accept]
@[simp] theorem State.accept_mem (s : State) (p : Nat) : (s.accept p).mem = s.mem := by simp [State.accept]
@[simp] theorem State.accept_mram (s : State) (p : Nat) : (s.accept p).mram = s.mram := by simp [State.accept]
@[simp] theorem State.accept_flips (s : State) (p : Nat) : (s.accept p).flips = s.flips := by simp [State.accept]
@[simp] theorem State.accept_poison (s : State) (p : Nat) : (s.accept p).poison = s.poison := by simp [State.accept]
@[simp] theorem State.accept_memSt (s : State) (p : Nat) : (s.accept p).memSt = s.memSt := by simp [State.accept]
@[simp] theorem State.accept_evr (s : State) (p : Nat) : (s.accept p).evr = s.evr := by simp [State.accept]
@[simp] theorem State.accept_memFenced (s : State) (p : Nat) : (s.accept p).memFenced = s.memFenced := by simp [State.accept]
@[simp] theorem State.accept_sva (s : State) (p : Nat) : (s.accept p).sva = s.sva := by simp [State.accept]
@[simp] theorem State.accept_flt (s : State) (p : Nat) : (s.accept p).flt = s.flt := by simp [State.accept]
@[simp] theorem State.accept_thrCyc (s : State) (p : Nat) : (s.accept p).thrCyc = s.thrCyc := by simp [State.accept]
@[simp] theorem State.accept_thrAcq (s : State) (p : Nat) : (s.accept p).thrAcq = s.thrAcq := by simp [State.accept]
@[simp] theorem State.accept_adcs (s : State) (p : Nat) : (s.accept p).adcs = s.adcs := by simp [State.accept]
@[simp] theorem State.accept_shunts (s : State) (p : Nat) : (s.accept p).shunts = s.shunts := by simp [State.accept]
@[simp] theorem State.accept_plaus (s : State) (p : Nat) : (s.accept p).plaus = s.plaus := by simp [State.accept]
@[simp] theorem State.accept_img (s : State) (p : Nat) : (s.accept p).img = s.img := by simp [State.accept]
@[simp] theorem State.accept_dir (s : State) (p : Nat) : (s.accept p).dir = s.dir := by simp [State.accept]
@[simp] theorem State.accept_cyc (s : State) (p : Nat) : (s.accept p).cyc = s.cyc := by simp [State.accept]
@[simp] theorem State.accept_hwsIn (s : State) (p : Nat) : (s.accept p).hwsIn = s.hwsIn := by simp [State.accept]
@[simp] theorem State.accept_dup (s : State) (p : Nat) : (s.accept p).dup = s.dup := by simp [State.accept]
@[simp] theorem State.accept_qps (s : State) (p : Nat) : (s.accept p).qps = s.qps := by simp [State.accept]
@[simp] theorem State.accept_ops (s : State) (p : Nat) : (s.accept p).ops = s.ops := by simp [State.accept]
@[simp] theorem State.accept_skds (s : State) (p : Nat) : (s.accept p).skds = s.skds := by simp [State.accept]
@[simp] theorem State.accept_vfs (s : State) (p : Nat) : (s.accept p).vfs = s.vfs := by simp [State.accept]
@[simp] theorem State.accept_migIn (s : State) (p : Nat) : (s.accept p).migIn = s.migIn := by simp [State.accept]
@[simp] theorem State.accept_tals (s : State) (p : Nat) : (s.accept p).tals = s.tals := by simp [State.accept]
@[simp] theorem State.accept_talAts (s : State) (p : Nat) : (s.accept p).talAts = s.talAts := by simp [State.accept]
@[simp] theorem State.accept_dfos (s : State) (p : Nat) : (s.accept p).dfos = s.dfos := by simp [State.accept]
@[simp] theorem State.accept_hws (s : State) (p : Nat) : (s.accept p).hws = s.hws := by simp [State.accept]
@[simp] theorem State.accept_acq (s : State) (p : Nat) : (s.accept p).acq = s.acq := by simp [State.accept]
@[simp] theorem State.accept_acqGoose (s : State) (p : Nat) : (s.accept p).acqGoose = s.acqGoose := by simp [State.accept]
@[simp] theorem State.accept_kslots (s : State) (p : Nat) : (s.accept p).kslots = s.kslots := by simp [State.accept]
@[simp] theorem State.accept_ekeys (s : State) (p : Nat) : (s.accept p).ekeys = s.ekeys := by simp [State.accept]
@[simp] theorem State.accept_ksu (s : State) (p : Nat) : (s.accept p).ksu = s.ksu := by simp [State.accept]
@[simp] theorem State.accept_tmp (s : State) (p : Nat) : (s.accept p).tmp = s.tmp := by simp [State.accept]
@[simp] theorem State.accept_pwr (s : State) (p : Nat) : (s.accept p).pwr = s.pwr := by simp [State.accept]
@[simp] theorem State.accept_rst (s : State) (p : Nat) : (s.accept p).rst = s.rst := by simp [State.accept]
@[simp] theorem State.accept_hlt (s : State) (p : Nat) : (s.accept p).hlt = s.hlt := by simp [State.accept]
@[simp] theorem State.accept_free (s : State) (p : Nat) : (s.accept p).free = s.free := by simp [State.accept]
@[simp] theorem State.accept_pending (s : State) (p : Nat) : (s.accept p).pending = s.pending := by simp [State.accept]

/-! ### touch, field by field -/

@[simp] theorem State.touch_ident (s : State) (p : Nat) : (s.touch p).ident = s.ident := by unfold State.touch; dsimp only; split <;> rfl
@[simp] theorem State.touch_regs (s : State) (p : Nat) : (s.touch p).regs = s.regs := by unfold State.touch; dsimp only; split <;> rfl
@[simp] theorem State.touch_acts (s : State) (p : Nat) : (s.touch p).acts = s.acts := by unfold State.touch; dsimp only; split <;> rfl
@[simp] theorem State.touch_cnts (s : State) (p : Nat) : (s.touch p).cnts = s.cnts := by unfold State.touch; dsimp only; split <;> rfl
@[simp] theorem State.touch_snaps (s : State) (p : Nat) : (s.touch p).snaps = s.snaps := by unfold State.touch; dsimp only; split <;> rfl
@[simp] theorem State.touch_lat (s : State) (p : Nat) : (s.touch p).lat = s.lat := by unfold State.touch; dsimp only; split <;> rfl
@[simp] theorem State.touch_held (s : State) (p : Nat) : (s.touch p).held = s.held := by unfold State.touch; dsimp only; split <;> rfl
@[simp] theorem State.touch_rdata (s : State) (p : Nat) : (s.touch p).rdata = s.rdata := by unfold State.touch; dsimp only; split <;> rfl
@[simp] theorem State.touch_wins (s : State) (p : Nat) : (s.touch p).wins = s.wins := by unfold State.touch; dsimp only; split <;> rfl
@[simp] theorem State.touch_tbl (s : State) (p : Nat) : (s.touch p).tbl = s.tbl := by unfold State.touch; dsimp only; split <;> rfl
@[simp] theorem State.touch_vecs (s : State) (p : Nat) : (s.touch p).vecs = s.vecs := by unfold State.touch; dsimp only; split <;> rfl
@[simp] theorem State.touch_tsu (s : State) (p : Nat) : (s.touch p).tsu = s.tsu := by unfold State.touch; dsimp only; split <;> rfl
@[simp] theorem State.touch_macs (s : State) (p : Nat) : (s.touch p).macs = s.macs := by unfold State.touch; dsimp only; split <;> rfl
@[simp] theorem State.touch_egs (s : State) (p : Nat) : (s.touch p).egs = s.egs := by unfold State.touch; dsimp only; split <;> rfl
@[simp] theorem State.touch_swc (s : State) (p : Nat) : (s.touch p).swc = s.swc := by unfold State.touch; dsimp only; split <;> rfl
@[simp] theorem State.touch_mem (s : State) (p : Nat) : (s.touch p).mem = s.mem := by unfold State.touch; dsimp only; split <;> rfl
@[simp] theorem State.touch_mram (s : State) (p : Nat) : (s.touch p).mram = s.mram := by unfold State.touch; dsimp only; split <;> rfl
@[simp] theorem State.touch_flips (s : State) (p : Nat) : (s.touch p).flips = s.flips := by unfold State.touch; dsimp only; split <;> rfl
@[simp] theorem State.touch_poison (s : State) (p : Nat) : (s.touch p).poison = s.poison := by unfold State.touch; dsimp only; split <;> rfl
@[simp] theorem State.touch_memSt (s : State) (p : Nat) : (s.touch p).memSt = s.memSt := by unfold State.touch; dsimp only; split <;> rfl
@[simp] theorem State.touch_evr (s : State) (p : Nat) : (s.touch p).evr = s.evr := by unfold State.touch; dsimp only; split <;> rfl
@[simp] theorem State.touch_memFenced (s : State) (p : Nat) : (s.touch p).memFenced = s.memFenced := by unfold State.touch; dsimp only; split <;> rfl
@[simp] theorem State.touch_sva (s : State) (p : Nat) : (s.touch p).sva = s.sva := by unfold State.touch; dsimp only; split <;> rfl
@[simp] theorem State.touch_flt (s : State) (p : Nat) : (s.touch p).flt = s.flt := by unfold State.touch; dsimp only; split <;> rfl
@[simp] theorem State.touch_thrCyc (s : State) (p : Nat) : (s.touch p).thrCyc = s.thrCyc := by unfold State.touch; dsimp only; split <;> rfl
@[simp] theorem State.touch_thrAcq (s : State) (p : Nat) : (s.touch p).thrAcq = s.thrAcq := by unfold State.touch; dsimp only; split <;> rfl
@[simp] theorem State.touch_adcs (s : State) (p : Nat) : (s.touch p).adcs = s.adcs := by unfold State.touch; dsimp only; split <;> rfl
@[simp] theorem State.touch_shunts (s : State) (p : Nat) : (s.touch p).shunts = s.shunts := by unfold State.touch; dsimp only; split <;> rfl
@[simp] theorem State.touch_plaus (s : State) (p : Nat) : (s.touch p).plaus = s.plaus := by unfold State.touch; dsimp only; split <;> rfl
@[simp] theorem State.touch_img (s : State) (p : Nat) : (s.touch p).img = s.img := by unfold State.touch; dsimp only; split <;> rfl
@[simp] theorem State.touch_dir (s : State) (p : Nat) : (s.touch p).dir = s.dir := by unfold State.touch; dsimp only; split <;> rfl
@[simp] theorem State.touch_cyc (s : State) (p : Nat) : (s.touch p).cyc = s.cyc := by unfold State.touch; dsimp only; split <;> rfl
@[simp] theorem State.touch_hwsIn (s : State) (p : Nat) : (s.touch p).hwsIn = s.hwsIn := by unfold State.touch; dsimp only; split <;> rfl
@[simp] theorem State.touch_dup (s : State) (p : Nat) : (s.touch p).dup = s.dup := by unfold State.touch; dsimp only; split <;> rfl
@[simp] theorem State.touch_qps (s : State) (p : Nat) : (s.touch p).qps = s.qps := by unfold State.touch; dsimp only; split <;> rfl
@[simp] theorem State.touch_ops (s : State) (p : Nat) : (s.touch p).ops = s.ops := by unfold State.touch; dsimp only; split <;> rfl
@[simp] theorem State.touch_skds (s : State) (p : Nat) : (s.touch p).skds = s.skds := by unfold State.touch; dsimp only; split <;> rfl
@[simp] theorem State.touch_vfs (s : State) (p : Nat) : (s.touch p).vfs = s.vfs := by unfold State.touch; dsimp only; split <;> rfl
@[simp] theorem State.touch_migIn (s : State) (p : Nat) : (s.touch p).migIn = s.migIn := by unfold State.touch; dsimp only; split <;> rfl
@[simp] theorem State.touch_tals (s : State) (p : Nat) : (s.touch p).tals = s.tals := by unfold State.touch; dsimp only; split <;> rfl
@[simp] theorem State.touch_talAts (s : State) (p : Nat) : (s.touch p).talAts = s.talAts := by unfold State.touch; dsimp only; split <;> rfl
@[simp] theorem State.touch_dfos (s : State) (p : Nat) : (s.touch p).dfos = s.dfos := by unfold State.touch; dsimp only; split <;> rfl
@[simp] theorem State.touch_hws (s : State) (p : Nat) : (s.touch p).hws = s.hws := by unfold State.touch; dsimp only; split <;> rfl
@[simp] theorem State.touch_acq (s : State) (p : Nat) : (s.touch p).acq = s.acq := by unfold State.touch; dsimp only; split <;> rfl
@[simp] theorem State.touch_acqGoose (s : State) (p : Nat) : (s.touch p).acqGoose = s.acqGoose := by unfold State.touch; dsimp only; split <;> rfl
@[simp] theorem State.touch_kslots (s : State) (p : Nat) : (s.touch p).kslots = s.kslots := by unfold State.touch; dsimp only; split <;> rfl
@[simp] theorem State.touch_ekeys (s : State) (p : Nat) : (s.touch p).ekeys = s.ekeys := by unfold State.touch; dsimp only; split <;> rfl
@[simp] theorem State.touch_ksu (s : State) (p : Nat) : (s.touch p).ksu = s.ksu := by unfold State.touch; dsimp only; split <;> rfl
@[simp] theorem State.touch_tmp (s : State) (p : Nat) : (s.touch p).tmp = s.tmp := by unfold State.touch; dsimp only; split <;> rfl
@[simp] theorem State.touch_pwr (s : State) (p : Nat) : (s.touch p).pwr = s.pwr := by unfold State.touch; dsimp only; split <;> rfl
@[simp] theorem State.touch_rst (s : State) (p : Nat) : (s.touch p).rst = s.rst := by unfold State.touch; dsimp only; split <;> rfl
@[simp] theorem State.touch_shf (s : State) (p : Nat) : (s.touch p).shf = s.shf := by unfold State.touch; dsimp only; split <;> rfl
@[simp] theorem State.touch_hlt (s : State) (p : Nat) : (s.touch p).hlt = s.hlt := by unfold State.touch; dsimp only; split <;> rfl
@[simp] theorem State.touch_out (s : State) (p : Nat) : (s.touch p).out = s.out := by unfold State.touch; dsimp only; split <;> rfl
@[simp] theorem State.touch_free (s : State) (p : Nat) : (s.touch p).free = s.free := by unfold State.touch; dsimp only; split <;> rfl
@[simp] theorem State.touch_pending (s : State) (p : Nat) : (s.touch p).pending = s.pending := by unfold State.touch; dsimp only; split <;> rfl

/-! ### Registers and stores through these operations -/

@[simp] theorem State.rg_updHd (s : State) (q : Nat) (f : Hdr → Hdr) (p o : Nat) : (s.updHd q f).rg p o = s.rg p o := by simp [State.rg]
@[simp] theorem State.ac_updHd (s : State) (q : Nat) (f : Hdr → Hdr) (p o : Nat) : (s.updHd q f).ac p o = s.ac p o := by simp [State.ac]
@[simp] theorem State.tw_updHd (s : State) (q : Nat) (f : Hdr → Hdr) (w : Nat) : (s.updHd q f).tw w = s.tw w := by simp [State.tw]

@[simp] theorem State.rg_irq (s : State) (q i : Nat) (p o : Nat) : (s.irq q i).rg p o = s.rg p o := by simp [State.rg]
@[simp] theorem State.ac_irq (s : State) (q i : Nat) (p o : Nat) : (s.irq q i).ac p o = s.ac p o := by simp [State.ac]
@[simp] theorem State.tw_irq (s : State) (q i : Nat) (w : Nat) : (s.irq q i).tw w = s.tw w := by simp [State.tw]

@[simp] theorem State.rg_bumpBy (s : State) (q x n : Nat) (p o : Nat) : (s.bumpBy q x n).rg p o = s.rg p o := by simp [State.rg]
@[simp] theorem State.ac_bumpBy (s : State) (q x n : Nat) (p o : Nat) : (s.bumpBy q x n).ac p o = s.ac p o := by simp [State.ac]
@[simp] theorem State.tw_bumpBy (s : State) (q x n : Nat) (w : Nat) : (s.bumpBy q x n).tw w = s.tw w := by simp [State.tw]

@[simp] theorem State.rg_bump (s : State) (q x : Nat) (p o : Nat) : (s.bump q x).rg p o = s.rg p o := by simp [State.rg]
@[simp] theorem State.ac_bump (s : State) (q x : Nat) (p o : Nat) : (s.bump q x).ac p o = s.ac p o := by simp [State.ac]
@[simp] theorem State.tw_bump (s : State) (q x : Nat) (w : Nat) : (s.bump q x).tw w = s.tw w := by simp [State.tw]

@[simp] theorem State.rg_refuse (s : State) (q x c : Nat) (p o : Nat) : (s.refuse q x c).rg p o = s.rg p o := by simp [State.rg]
@[simp] theorem State.ac_refuse (s : State) (q x c : Nat) (p o : Nat) : (s.refuse q x c).ac p o = s.ac p o := by simp [State.ac]
@[simp] theorem State.tw_refuse (s : State) (q x c : Nat) (w : Nat) : (s.refuse q x c).tw w = s.tw w := by simp [State.tw]

@[simp] theorem State.rg_accept (s : State) (q : Nat) (p o : Nat) : (s.accept q).rg p o = s.rg p o := by simp [State.rg]
@[simp] theorem State.ac_accept (s : State) (q : Nat) (p o : Nat) : (s.accept q).ac p o = s.ac p o := by simp [State.ac]
@[simp] theorem State.tw_accept (s : State) (q : Nat) (w : Nat) : (s.accept q).tw w = s.tw w := by simp [State.tw]

@[simp] theorem State.rg_touch (s : State) (q : Nat) (p o : Nat) : (s.touch q).rg p o = s.rg p o := by simp [State.rg]
@[simp] theorem State.ac_touch (s : State) (q : Nat) (p o : Nat) : (s.touch q).ac p o = s.ac p o := by simp [State.ac]
@[simp] theorem State.tw_touch (s : State) (q : Nat) (w : Nat) : (s.touch q).tw w = s.tw w := by simp [State.tw]


/-! ### Interrupts (R52) -/

@[simp] theorem State.hd_irq (s : State) (p i : Nat) :
    (s.irq p i).hd p = { s.hd p with irqStatus := (s.hd p).irqStatus ||| w32 (1 <<< i) } := by
  simp [State.irq]

theorem State.hd_irq_other (s : State) (p q i : Nat) (h : q ≠ p) : (s.irq p i).hd q = s.hd q := by
  simp [State.irq, State.hd_updHd_other _ _ _ _ h]

/-! ### The gate -/

/-- A command whose islands run acts, and keeps the queue. -/
theorem act_on (on : State → Bool) (f : State → State) (s : State) (h : on s = true) :
    act on f s = .next { f s with pending := s.pending } := by simp [act, h]

/-- A command whose islands do not run has no effect. -/
theorem act_off (on : State → Bool) (f : State → State) (s : State) (h : on s = false) : act on f s = .next s := by
  simp [act, h]

/-- Every gated command answers a next state with the same queue. -/
theorem act_total (on : State → Bool) (f : State → State) (s : State) : ∃ t, act on f s = .next t ∧ t.pending = s.pending := by
  by_cases h : on s = true
  · exact ⟨_, act_on on f s h, rfl⟩
  · exact ⟨s, act_off on f s (by simpa using h), rfl⟩

theorem actReg_total (on : State → Bool) (p : Nat) (f : State → State) (s : State) :
    ∃ t, actReg on p f s = .next t ∧ t.pending = s.pending := act_total on _ s

theorem actReg_on (on : State → Bool) (p : Nat) (f : State → State) (s : State) (h : on s = true) :
    actReg on p f s = .next { f (s.touch p) with pending := s.pending } := by simp [actReg, act_on _ _ _ h]

theorem actReg_off (on : State → Bool) (p : Nat) (f : State → State) (s : State) (h : on s = false) : actReg on p f s = .next s := by
  simp [actReg, act_off _ _ _ h]

/-- What a gated command can answer: the effect with the queue kept, or the state as it was. -/
theorem act_cases {on : State → Bool} {f : State → State} {s t : State} (h : act on f s = .next t) :
    (on s = true ∧ t = { f s with pending := s.pending }) ∨ (on s = false ∧ t = s) := by
  by_cases ho : on s = true
  · rw [act_on on f s ho] at h; exact Or.inl ⟨ho, by injection h with h; exact h.symm⟩
  · have ho : on s = false := by simpa using ho
    rw [act_off on f s ho] at h; exact Or.inr ⟨ho, by injection h with h; exact h.symm⟩

/-- A touch of a page changes the half-given unlock sequence and nothing else. -/
theorem State.touch_shape (s : State) (p : Nat) : s.touch p = { s with hdrs := (s.touch p).hdrs } := by
  unfold State.touch; dsimp only; split <;> rfl

@[simp] theorem State.hd_touch_self (s : State) (p : Nat) : (s.touch p).hd p = { s.hd p with lockSeen := false } := by
  unfold State.touch
  split
  · simp
  · rename_i h
    have : (s.hd p).lockSeen = false := by simpa using h
    rw [← this]

theorem State.hd_touch_other (s : State) (p q : Nat) (h : q ≠ p) : (s.touch p).hd q = s.hd q := by
  unfold State.touch
  split
  · exact State.hd_setHd_other _ _ _ _ h
  · rfl

/-! ### Counters (R49) -/

theorem State.cn_bumpBy (s : State) (p o n : Nat) : (s.bumpBy p o n).cn p o = min (cntMax p o) (s.cn p o + n) := by
  unfold State.bumpBy
  dsimp only
  split <;> simp [State.cn]

theorem State.cn_bump (s : State) (p o : Nat) : (s.bump p o).cn p o = min (cntMax p o) (s.cn p o + 1) := s.cn_bumpBy p o 1

theorem State.cn_bumpBy_other (s : State) (p o n p' o' : Nat) (h : ka p' o' ≠ ka p o) : (s.bumpBy p o n).cn p' o' = s.cn p' o' := by
  unfold State.bumpBy
  dsimp only
  split <;> simp [State.cn, sget_sset_other _ _ _ _ _ _ h]

theorem State.cn_bump_other (s : State) (p o p' o' : Nat) (h : ka p' o' ≠ ka p o) : (s.bump p o).cn p' o' = s.cn p' o' :=
  s.cn_bumpBy_other p o 1 p' o' h

/-! ### Refusals (R40) -/

/-- A refusal sets CFG_ERR and ERR_CODE of the head page; registers, tables and the blocks stay as they were. -/
theorem State.hd_refuse (s : State) (p o c : Nat) :
    ((s.refuse p o c).hd (headPage p)).cfgErr = true ∧
      ((s.refuse p o c).hd (headPage p)).errCode = w32 (pageIndex p * 2 ^ 20 + o * 256 + c) := by
  have keep (t : State) (q x : Nat) : ((t.bump q x).hd (headPage p)).cfgErr = (t.hd (headPage p)).cfgErr ∧
      ((t.bump q x).hd (headPage p)).errCode = (t.hd (headPage p)).errCode := by
    unfold State.bump State.bumpBy
    dsimp only
    split
    · by_cases hq : headPage p = q
      · subst hq; simp; simp [State.hd]
      · rw [State.hd_irq_other _ _ _ _ hq, State.hd_updHd_other _ _ _ _ hq]; exact ⟨rfl, rfl⟩
    · exact ⟨rfl, rfl⟩
  unfold State.refuse
  dsimp only
  rw [(keep _ _ _).1, (keep _ _ _).2]
  split
  · rw [(keep _ _ _).1, (keep _ _ _).2]; simp
  · simp

/-- A touch of a page changes no header but its lock sequence. -/
theorem State.hd_touch (s : State) (p q : Nat) : (s.touch p).hd q = { s.hd q with lockSeen := ((s.touch p).hd q).lockSeen } := by
  by_cases h : q = p
  · subst h; rw [State.hd_touch_self]
  · rw [State.hd_touch_other _ _ _ h]

/-- An interrupt bit that is set changes IRQ_STATUS of its page and no other header. -/
theorem State.hd_irq_all (s : State) (p i q : Nat) : (s.irq p i).hd q = { s.hd q with irqStatus := ((s.irq p i).hd q).irqStatus } := by
  by_cases h : q = p
  · subst h; rw [State.hd_irq]
  · rw [State.hd_irq_other _ _ _ _ h]

/-- Counting changes no header but IRQ_STATUS.CNT_SAT and its memory. -/
theorem State.hd_bumpBy (s : State) (p o n q : Nat) : (s.bumpBy p o n).hd q =
    { s.hd q with irqStatus := ((s.bumpBy p o n).hd q).irqStatus, satSeen := ((s.bumpBy p o n).hd q).satSeen } := by
  unfold State.bumpBy
  dsimp only
  split
  · by_cases h : q = p
    · subst h; simp; simp [State.hd]
    · rw [State.hd_irq_other _ _ _ _ h, State.hd_updHd_other _ _ _ _ h]; rfl
  · rfl

theorem State.hd_bump (s : State) (p o q : Nat) : (s.bump p o).hd q =
    { s.hd q with irqStatus := ((s.bump p o).hd q).irqStatus, satSeen := ((s.bump p o).hd q).satSeen } := s.hd_bumpBy p o 1 q

/-- A refusal changes of every header only CFG_ERR, ERR_CODE, IRQ_STATUS and the memory of CNT_SAT. -/
theorem State.hd_refuse_all (s : State) (p o c q : Nat) : (s.refuse p o c).hd q =
    { s.hd q with
      cfgErr := ((s.refuse p o c).hd q).cfgErr, errCode := ((s.refuse p o c).hd q).errCode
      irqStatus := ((s.refuse p o c).hd q).irqStatus, satSeen := ((s.refuse p o c).hd q).satSeen } := by
  unfold State.refuse
  dsimp only
  rw [State.hd_bump]
  have up (f : Hdr → Hdr) (hf : ∀ h, f h = { h with cfgErr := (f h).cfgErr, errCode := (f h).errCode }) (t : State) (g : Nat) :
      (t.updHd g f).hd q = { t.hd q with cfgErr := ((t.updHd g f).hd q).cfgErr, errCode := ((t.updHd g f).hd q).errCode } := by
    by_cases h : q = g
    · subst h; rw [State.hd_updHd]; exact hf _
    · rw [State.hd_updHd_other _ _ _ _ h]
  split
  · rw [State.hd_bump, State.hd_irq_all, up _ (fun _ => rfl)]
  · rw [State.hd_irq_all, up _ (fun _ => rfl)]

end Sys2Proof.Machine
end

