-- ==== Sys2Proof/Laws/Exec.lean ====
section
/-!
SUPPORT. What exec of each command is: the gate its meaning goes through and the effect. Each lemma is true by rfl.
-/
namespace Sys2Proof.Machine

theorem exec_badAccess (m a width : Nat) (wr : Bool) (s : State) : exec (.badAccess m a width wr) s =
    act State.onMain (fun s => s.oddAccess m a width wr) s := rfl

theorem exec_regWrite (m a : Nat) (v : Word) (s : State) : exec (.regWrite m a v) s =
    act State.onMain (fun s => s.regWrite m a v) s := rfl

theorem exec_reg64LowRead (m a : Nat) (s : State) : exec (.reg64LowRead m a) s =
    act State.onMain (fun s => s.regRead m a) s := rfl

theorem exec_reg64HighWrite (m a : Nat) (v : Word) (s : State) : exec (.reg64HighWrite m a v) s =
    act State.onMain (fun s => s.regWrite m a v) s := rfl

theorem exec_rwsWrite (m a : Nat) (v : Word) (s : State) : exec (.rwsWrite m a v) s =
    act State.onMain (fun s => s.regWrite m a v) s := rfl

theorem exec_enable (m p : Nat) (v : Word) (s : State) : exec (.enable m p v) s =
    act State.onMain (fun s => s.regWrite m (ka p R.CTRL) v) s := rfl

theorem exec_softReset (m p : Nat) (v : Word) (s : State) : exec (.softReset m p v) s =
    act State.onMain (fun s => s.ctrlCmd m p v 4) s := rfl

theorem exec_commit (m p : Nat) (v : Word) (s : State) : exec (.commit m p v) s =
    act State.onMain (fun s => s.ctrlCmd m p v 3) s := rfl

theorem exec_commitApply (p : Nat) (s : State) : exec (.commitApply p) s =
    act State.onMain (fun s => s.commitApply p) s := rfl

theorem exec_stop (m p : Nat) (v : Word) (s : State) : exec (.stop m p v) s =
    act State.onMain (fun s => s.ctrlCmd m p v 2) s := rfl

theorem exec_start (m p : Nat) (v : Word) (s : State) : exec (.start m p v) s =
    act State.onMain (fun s => s.ctrlCmd m p v 1) s := rfl

theorem exec_cntSnapshot (m p : Nat) (v : Word) (s : State) : exec (.cntSnapshot m p v) s =
    act State.onMain (fun s => s.ctrlCmd m p v 6) s := rfl

theorem exec_cntClear (m p : Nat) (v : Word) (s : State) : exec (.cntClear m p v) s =
    act State.onMain (fun s => s.ctrlCmd m p v 5) s := rfl

theorem exec_irqStatusClear (m p : Nat) (v : Word) (s : State) : exec (.irqStatusClear m p v) s =
    act State.onMain (fun s => s.regWrite m (ka p R.IRQ_STATUS) v) s := rfl

theorem exec_irqForce (m p : Nat) (v : Word) (s : State) : exec (.irqForce m p v) s =
    act State.onMain (fun s => s.regWrite m (ka p R.IRQ_FORCE) v) s := rfl

theorem exec_irqRouteWrite (m p : Nat) (v : Word) (s : State) : exec (.irqRouteWrite m p v) s =
    act State.onMain (fun s => s.regWrite m (ka p R.IRQ_ROUTE) v) s := rfl

theorem exec_lockWrite (m p : Nat) (v : Word) (s : State) : exec (.lockWrite m p v) s =
    act State.onMain (fun s => s.regWrite m (ka p R.LOCK) v) s := rfl

theorem exec_lockTimeout (p : Nat) (s : State) : exec (.lockTimeout p) s =
    act State.onMain (fun s => s.lockTimeout p) s := rfl

theorem exec_tblRead (m p : Nat) (s : State) : exec (.tblRead m p) s =
    act State.onMain (fun s => s.regWrite m (ka p R.TBL_UPDATE) 1) s := rfl

theorem exec_tblWrite (m p : Nat) (s : State) : exec (.tblWrite m p) s =
    act State.onMain (fun s => s.regWrite m (ka p R.TBL_UPDATE) 2) s := rfl

theorem exec_tblOpDone (p : Nat) (s : State) : exec (.tblOpDone p) s =
    act State.onMain (fun s => s.tblDone p) s := rfl

theorem exec_unitFence (p : Nat) (s : State) : exec (.unitFence p) s =
    act State.onMain (fun s => s.fence p 2) s := rfl

theorem exec_moduleFail (p cause : Nat) (s : State) : exec (.moduleFail p cause) s =
    act State.onMain (fun s => s.unitFail p cause) s := rfl

theorem exec_frameRx (p : Nat) (f : Frame) (s : State) : exec (.frameRx p f) s =
    act State.onMain (fun s => s.frameRx p f) s := rfl

theorem exec_pauseExpiry (p : Nat) (s : State) : exec (.pauseExpiry p) s =
    act State.onMain (fun s => s.pauseExpire p) s := rfl

theorem exec_pauseWdog (p : Nat) (s : State) : exec (.pauseWdog p) s =
    act State.onMain (fun s => s.pauseWdog p) s := rfl

theorem exec_pauseHoldoffEnd (p : Nat) (s : State) : exec (.pauseHoldoffEnd p) s =
    act State.onMain (fun s => s.pauseHoldoffEnd p) s := rfl

theorem exec_h1Post (s : State) : exec (.h1Post) s =
    act State.onMain State.h1Take s := rfl

theorem exec_portFrameSelect (e : Nat) (s : State) : exec (.portFrameSelect e) s =
    act State.onMain (fun s => if s.egIdle e then s.select e (s.egLoad e) else s) s := rfl

theorem exec_frameTxDone (e : Nat) (s : State) : exec (.frameTxDone e) s =
    act State.onMain (fun s => s.txDone e) s := rfl

theorem exec_linkUp (p : Nat) (s : State) : exec (.linkUp p) s =
    act State.onMain (fun s => s.linkGained p) s := rfl

theorem exec_linkDown (p : Nat) (s : State) : exec (.linkDown p) s =
    act State.onMain (fun s => s.linkLost p) s := rfl

theorem exec_gateEntryAdvance (e : Nat) (s : State) : exec (.gateEntryAdvance e) s =
    act State.onMain (fun s => s.gateAdvance e) s := rfl

theorem exec_gateBankSwitch (e : Nat) (s : State) : exec (.gateBankSwitch e) s =
    act State.onMain (fun s => s.gateSwitch e) s := rfl

theorem exec_fdbAgeOut (i : Nat) (s : State) : exec (.fdbAgeOut i) s =
    act State.onMain (fun s => if s.running pSWC then s.fdbAgeOut i else s) s := rfl

theorem exec_dupEntryForget (i : Nat) (s : State) : exec (.dupEntryForget i) s =
    act State.onMain (fun s => if s.running pSWC then s.dupForget i else s) s := rfl

theorem exec_supervisionSend (pair : Nat) (s : State) : exec (.supervisionSend pair) s =
    act State.onMain (fun s => s.supervise pair) s := rfl

theorem exec_cageSupplyTrip (p : Nat) (s : State) : exec (.cageSupplyTrip p) s =
    act State.onMain (fun s => s.cageTrip p) s := rfl

theorem exec_macTsfPop (p : Nat) (s : State) : exec (.macTsfPop p) s =
    actReg State.onMain (pMAC p) (fun s => s.setMac p { s.mac p with tsf := (s.mac p).tsf.drop 1 }) s := rfl

theorem exec_tickStart (s : State) : exec (.tickStart) s =
    act State.onTime State.tickStart s := rfl

theorem exec_tsuAdjRate (v : Word) (s : State) : exec (.tsuAdjRate v) s =
    actReg State.onTime pTSU (fun s => s.adjRate v) s := rfl

theorem exec_tsuAdjPhase (v : Word) (s : State) : exec (.tsuAdjPhase v) s =
    actReg State.onTime pTSU (fun s => s.adjPhase v) s := rfl

theorem exec_slewDone (s : State) : exec (.slewDone) s =
    act State.onTime (fun s =>
        if s.tsu.slewing && s.tsu.slewLeft == 0 then s.updTsu (fun t => { t with slewing := false }) else s) s := rfl

theorem exec_latch (s : State) : exec (.latch) s =
    actReg State.onTime pTSU State.tsuLatch s := rfl

theorem exec_step (s : State) : exec (.step) s =
    actReg State.onTime pTSU (fun s =>
        if (s.hd pTSU).unlocked then s.tsuStep else s.refuse pTSU R.TSU_CMD Err.locked) s := rfl

theorem exec_locked (s : State) : exec (.locked) s =
    actReg State.onTime pTSU State.tsuLocked s := rfl

theorem exec_hold (s : State) : exec (.hold) s =
    actReg State.onTime pTSU State.tsuHold s := rfl

theorem exec_release (s : State) : exec (.release) s =
    actReg State.onTime pTSU State.tsuRelease s := rfl

theorem exec_discWdog (s : State) : exec (.discWdog) s =
    act State.onTime (fun s => if s.discDue then s.enterHold true else s) s := rfl

theorem exec_holdUpdate (dT : Int) (s : State) : exec (.holdUpdate dT) s =
    act State.onTime (fun s => s.holdUpdate dT) s := rfl

theorem exec_toEdge (n : Nat) (s : State) : exec (.toEdge n) s =
    act State.onTime (fun s => s.ownEdge (s.toEdge n) n (s.toWidth n)) s := rfl

theorem exec_toPulseEnd (n : Nat) (s : State) : exec (.toPulseEnd n) s =
    act State.onTime (fun s =>
        s.ownEdge (s.toPulseEnd n) n (if s.toMode n = 2 then s.toPeriod n - s.toWidth n else 2 ^ 32)) s := rfl

theorem exec_tiEdge (n : Nat) (falling : Bool) (width : Nat) (s : State) : exec (.tiEdge n falling width) s =
    act State.onTime (fun s =>
        if n = 0 ∧ s.toMode 0 ≠ 0 then s.tiContend falling width else if n < 4 then s.tiEdge n falling width else s) s := rfl

theorem exec_tsuTiPop (v : Word) (s : State) : exec (.tsuTiPop v) s =
    actReg State.onTime pTSU (fun s => s.tiPop v) s := rfl

theorem exec_tcSyncEntryRelease (s : State) : exec (.tcSyncEntryRelease) s =
    act State.onMain (fun s => match s.swc.tc with
        | t :: rest => if s.running pSWC && decide (msClk 100 ≤ s.since t.syncClk) then s.updSwc (fun c => { c with tc := rest }) else s
        | [] => s) s := rfl

theorem exec_svFrameDecode (lane : Nat) (s : State) : exec (.svFrameDecode lane) s =
    act State.onMain (fun s => s.svDecode lane) s := rfl

theorem exec_svaStrPop (s : State) : exec (.svaStrPop) s =
    actReg State.onMain pSVA State.strPop s := rfl

theorem exec_tickClose (s : State) : exec (.tickClose) s =
    act State.onMain State.tickClose s := rfl

theorem exec_partnerMapRx (s : State) : exec (.partnerMapRx) s =
    act State.onMain State.mapRx s := rfl

theorem exec_agreeWaitExpiry (s : State) : exec (.agreeWaitExpiry) s =
    act State.onMain State.agreeExpire s := rfl

theorem exec_fltTickRun (e : Nat) (s : State) : exec (.fltTickRun e) s =
    act State.onMain (fun s => if e < 64 then s.fltTickRun e else s) s := rfl

theorem exec_fltChainStart (e c : Nat) (s : State) : exec (.fltChainStart e c) s =
    actReg State.onMain (pFLT e) (fun s => s.chainStart e c R.FLT_CHAIN_CMD) s := rfl

theorem exec_fltChainStop (e c : Nat) (s : State) : exec (.fltChainStop e c) s =
    actReg State.onMain (pFLT e) (fun s => s.chainStop e c) s := rfl

theorem exec_clearSat (e c : Nat) (s : State) : exec (.clearSat e c) s =
    actReg State.onMain (pFLT e) (fun s => s.chainClearSat e c) s := rfl

theorem exec_fltRefCmd (e : Nat) (v : Word) (s : State) : exec (.fltRefCmd e v) s =
    actReg State.onMain (pFLT e) (fun s => s.fltRefCmd e v) s := rfl

theorem exec_fltEvtPop (e : Nat) (s : State) : exec (.fltEvtPop e) s =
    actReg State.onMain (pFLT e) (fun s => s.setFe e { s.fe e with evts := (s.fe e).evts.drop 1 }) s := rfl

theorem exec_adcScanStart (c : Nat) (temp : Int) (s : State) : exec (.adcScanStart c temp) s =
    act State.onMain (fun s => s.adcScan c temp) s := rfl

theorem exec_adcConversionDone (c : Nat) (raw : Int) (s : State) : exec (.adcConversionDone c raw) s =
    act State.onMain (fun s => if c < 2 then s.adcDone c raw else s) s := rfl

theorem exec_shuntTrip (a : Nat) (s : State) : exec (.shuntTrip a) s =
    act State.onMain (fun s => s.shuntTrip a) s := rfl

theorem exec_shuntClose (c : Nat) (s : State) : exec (.shuntClose c) s =
    actReg State.onMain (pADC c) (fun s => if c < 2 then s.shuntClose c else s) s := rfl

theorem exec_urgent (c : Nat) (s : State) : exec (.urgent c) s =
    actReg State.onMain (pADC c) (fun s => if c < 2 then s.adcUrgent c R.ADC_CMD else s) s := rfl

theorem exec_cal (c : Nat) (s : State) : exec (.cal c) s =
    actReg State.onMain (pADC c) (fun s => if c < 2 then s.adcCalStart c else s) s := rfl

theorem exec_calDone (c : Nat) (offs gains : List Int) (temp : Int) (s : State) : exec (.calDone c offs gains temp) s =
    act State.onMain (fun s => if c < 2 then s.adcCalDone c offs gains temp else s) s := rfl

theorem exec_adcDataRead (c : Nat) (s : State) : exec (.adcDataRead c) s =
    actReg State.onMain (pADC c) (fun s => if c < 2 then s.adcRead c else s) s := rfl

theorem exec_cycleStart (s : State) : exec (.cycleStart) s =
    act State.onMain State.cycleBound s := rfl

theorem exec_snapWaitEnd (s : State) : exec (.snapWaitEnd) s =
    act State.onMain State.snapEnd s := rfl

theorem exec_windowStart (w : TaskWindow) (s : State) : exec (.windowStart w) s =
    act State.onMain (fun s =>
        let t := s.winOpen w.inst
        if (s.inst w.inst).window = 0 && (t.inst w.inst).window = 1 then (t.windowVecs w.inst).taskReads w.inst w.reads else t) s := rfl

theorem exec_windowEnd (i : Nat) (s : State) : exec (.windowEnd i) s =
    act State.onMain (fun s => s.winClose i) s := rfl

theorem exec_activationEnd (i cls : Nat) (s : State) : exec (.activationEnd i cls) s =
    act State.onMain (fun s => s.actEnd i cls) s := rfl

theorem exec_pointWrite (i cls p value qual : Nat) (keep : Option Nat) (s : State) : exec (.pointWrite i cls p value qual keep) s =
    act State.onMain (fun s => s.pointWrite i cls p value qual keep) s := rfl

theorem exec_kerfStart (used : Nat) (s : State) : exec (.kerfStart used) s =
    act State.onMain (fun s => s.kerfStart used) s := rfl

theorem exec_piRead (s : State) : exec (.piRead) s =
    actReg State.onMain (pCYC 0) State.piRead s := rfl

theorem exec_piWrite (keep : Bool) (s : State) : exec (.piWrite keep) s =
    actReg State.onMain (pCYC 0) (fun s => s.piWrite keep) s := rfl

theorem exec_piDirectoryWrite (s : State) : exec (.piDirectoryWrite) s =
    actReg State.onMain (pCYC 0) State.piDir s := rfl

theorem exec_instStart (i : Nat) (s : State) : exec (.instStart i) s =
    actReg State.onMain (pCYC 0) (fun s => s.instStart i R.CYC_INST_CMD (pCYC 0)) s := rfl

theorem exec_instStop (i : Nat) (s : State) : exec (.instStop i) s =
    actReg State.onMain (pCYC 0) (fun s => s.instStop i R.CYC_INST_CMD (pCYC 0)) s := rfl

theorem exec_restart (i : Nat) (s : State) : exec (.restart i) s =
    actReg State.onMain (pCYC 0) (fun s => s.instRestart i) s := rfl

theorem exec_prepare (m : Nat) (v : Word) (s : State) : exec (.prepare m v) s =
    act State.onMain (fun s => s.regWrite m (ka (pCYC 0) R.CYC_OLC_CMD) (setBit v 0 true)) s := rfl

/-- A PREPARE by Vehus or through the host window acts as the write of CYC_OLC_CMD it is. -/
theorem exec_prepare_olcCmd (m : Nat) (v : Word) (s : State) (hm : m = 0 ∨ m = 64) : exec (.prepare m v) s =
    actReg State.onMain (pCYC 0) (fun s => s.olcCmd (setBit v 0 true)) s := by
  obtain rfl | rfl := hm <;> rfl

theorem exec_prepareDone (s : State) : exec (.prepareDone) s =
    act State.onMain State.olcPrepared s := rfl

theorem exec_arm (s : State) : exec (.arm) s =
    actReg State.onMain (pCYC 0) State.olcArm s := rfl

theorem exec_abort (s : State) : exec (.abort) s =
    actReg State.onMain (pCYC 0) State.olcAbort s := rfl

theorem exec_olcRelease (s : State) : exec (.olcRelease) s =
    actReg State.onMain (pCYC 0) State.olcRelease s := rfl

theorem exec_olcHeldCycleEnd (s : State) : exec (.olcHeldCycleEnd) s =
    act State.onMain State.olcHeldEnd s := rfl

theorem exec_gooseRx (s : State) : exec (.gooseRx) s =
    act State.onMain State.h1Goose s := rfl

theorem exec_gooseExpired (n : Nat) (s : State) : exec (.gooseExpired n) s =
    act State.onMain (fun s => s.gooseDeadline n) s := rfl

theorem exec_ringTailWrite (f l d v : Nat) (s : State) : exec (.ringTailWrite f l d v) s =
    actReg State.onMain (pVFM f) (fun s => if f < 64 && l < 8 && d < 2 then s.tailWrite f l d (v % 4096) else s) s := rfl

theorem exec_descriptorFetch (q : Nat) (s : State) : exec (.descriptorFetch q) s =
    act State.onMain (fun s => s.descFetch q) s := rfl

theorem exec_skidderReturn (k i : Nat) (s : State) : exec (.skidderReturn k i) s =
    act State.onMain (fun s => s.skdReturn k i) s := rfl

theorem exec_descriptorComplete (ring : Nat) (s : State) : exec (.descriptorComplete ring) s =
    act State.onMain (fun s => s.descComplete ring) s := rfl

theorem exec_h1RxDeliver (s : State) : exec (.h1RxDeliver) s =
    act State.onMain State.h1Deliver s := rfl

theorem exec_itrExpiry (f l : Nat) (s : State) : exec (.itrExpiry f l) s =
    act State.onMain (fun s => s.itrExpire f l) s := rfl

theorem exec_resetDrain (f : Nat) (s : State) : exec (.resetDrain f) s =
    actReg State.onMain (pVFM f) (fun s => s.vfReset f false (fun s => s.migAbortReset f)) s := rfl

theorem exec_resetSquash (f : Nat) (s : State) : exec (.resetSquash f) s =
    actReg State.onMain (pVFM f) (fun s => s.vfReset f true (fun s => s.migAbortReset f)) s := rfl

theorem exec_resetTagTimeout (f : Nat) (s : State) : exec (.resetTagTimeout f) s =
    act State.onMain (fun s => s.resetTimeout f) s := rfl

theorem exec_resetDone (f : Nat) (s : State) : exec (.resetDone f) s =
    act State.onMain (fun s => s.resetDone f) s := rfl

theorem exec_swapLog (f : Nat) (s : State) : exec (.swapLog f) s =
    actReg State.onMain (pVFM f) (fun s => s.swapLog f) s := rfl

theorem exec_swapLogDone (f : Nat) (s : State) : exec (.swapLogDone f) s =
    act State.onMain (fun s => s.swapDone f) s := rfl

theorem exec_migArm (f : Nat) (s : State) : exec (.migArm f) s =
    actReg State.onMain (pVFM f) (fun s => s.migArm f) s := rfl

theorem exec_migAbort (f : Nat) (s : State) : exec (.migAbort f) s =
    actReg State.onMain (pVFM f) (fun s => s.migAbortCmd f) s := rfl

theorem exec_qpRestart (q : Nat) (s : State) : exec (.qpRestart q) s =
    actReg State.onMain (pVFM 0) (fun s => s.qpRestart q) s := rfl

theorem exec_qpStop (q : Nat) (s : State) : exec (.qpStop q) s =
    actReg State.onMain (pVFM 0) (fun s => s.qpStop q) s := rfl

theorem exec_migFreeze (f : Nat) (s : State) : exec (.migFreeze f) s =
    act State.onMain (fun s => s.migFreeze f) s := rfl

theorem exec_migFrameRx (s : State) : exec (.migFrameRx) s =
    act State.onMain State.migFrameRx s := rfl

theorem exec_migDeadline (f : Nat) (s : State) : exec (.migDeadline f) s =
    act State.onMain (fun s => s.migDeadline f) s := rfl

theorem exec_migAckRx (s : State) : exec (.migAckRx) s =
    act State.onMain State.migAck s := rfl

theorem exec_migAbortRx (s : State) : exec (.migAbortRx) s =
    act State.onMain State.migAbortRx s := rfl

theorem exec_talTickRun (e : Nat) (s : State) : exec (.talTickRun e) s =
    act State.onMain (fun s => if e < 8 then s.talTickRun e else s) s := rfl

theorem exec_saveWriteDone (e : Nat) (s : State) : exec (.saveWriteDone e) s =
    act State.onMain (fun s => if e < 8 then s.saveDone e else s) s := rfl

theorem exec_talPointStart (e l : Nat) (s : State) : exec (.talPointStart e l) s =
    actReg State.onMain (pTAL e) (fun s => if e < 8 then s.talStart e l else s) s := rfl

theorem exec_talPointStop (e l : Nat) (s : State) : exec (.talPointStop e l) s =
    actReg State.onMain (pTAL e) (fun s => if e < 8 then s.talStop e l else s) s := rfl

theorem exec_talClearSat (e l : Nat) (s : State) : exec (.talClearSat e l) s =
    actReg State.onMain (pTAL e) (fun s => if e < 8 then s.talClearSat e l else s) s := rfl

theorem exec_saveNow (e : Nat) (s : State) : exec (.saveNow e) s =
    actReg State.onMain (pTAL e) (fun s =>
        if e < 8 then s.saveCmd e 0 (fun s => s.saveNow e) else s) s := rfl

theorem exec_zeroPoint (e l : Nat) (s : State) : exec (.zeroPoint e l) s =
    actReg State.onMain (pTAL e) (fun s =>
        if e < 8 then s.saveCmd e l (fun s => s.zeroPoint e l) else s) s := rfl

theorem exec_acceptEmpty (e : Nat) (s : State) : exec (.acceptEmpty e) s =
    actReg State.onMain (pTAL e) (fun s =>
        if e < 8 then s.saveCmd e 0 (fun s => s.acceptEmpty e) else s) s := rfl

theorem exec_dfoPulseEnd (n : Nat) (s : State) : exec (.dfoPulseEnd n) s =
    act State.onMain (fun s => s.dfoPulseEnd n) s := rfl

theorem exec_safetyCycle (a b : HwsRead) (misaligned : Bool) (s : State) : exec (.safetyCycle a b misaligned) s =
    act State.onTime (fun s => s.safetyCycle a b misaligned) s := rfl

theorem exec_safetyReqVector (s : State) : exec (.safetyReqVector) s =
    act State.onTime State.reqVectorIn s := rfl

theorem exec_outputOverload (n : Nat) (s : State) : exec (.outputOverload n) s =
    act State.onTime (fun s => if n < 8 then s.overload n else s) s := rfl

theorem exec_faultAck (out : Nat) (s : State) : exec (.faultAck out) s =
    actReg State.onTime (pHWS 0) (fun s => s.hwsCmd (w32 (1 + out % 256 * 2 ^ 8))) s := rfl

theorem exec_safetySelftestDone (s : State) : exec (.safetySelftestDone) s =
    act State.onTime (fun s => s.updHws (fun h => { h with selftest := true })) s := rfl

theorem exec_acqTickBlock (s : State) : exec (.acqTickBlock) s =
    act State.onMain State.acqTick s := rfl

theorem exec_chokeStep (s : State) : exec (.chokeStep) s =
    act State.onMain State.chokeStep s := rfl

theorem exec_flashUnitWrite (u : Nat) (s : State) : exec (.flashUnitWrite u) s =
    act State.onMain (fun s => s.flashUnit u) s := rfl

theorem exec_acqSetStart (n : Nat) (s : State) : exec (.acqSetStart n) s =
    actReg State.onMain (pACQS n) (fun s => if n < 4 then s.acqStart n else s) s := rfl

theorem exec_acqSetStop (n : Nat) (s : State) : exec (.acqSetStop n) s =
    actReg State.onMain (pACQS n) (fun s => if n < 4 then s.acqStop n else s) s := rfl

theorem exec_trigger (n : Nat) (s : State) : exec (.trigger n) s =
    actReg State.onMain (pACQS n) (fun s => if n < 4 then s.acqManual n else s) s := rfl

theorem exec_resume (n : Nat) (s : State) : exec (.resume n) s =
    actReg State.onMain (pACQS n) (fun s => if n < 4 then s.acqResume n else s) s := rfl

theorem exec_acqXtrigCmd (v : Word) (s : State) : exec (.acqXtrigCmd v) s =
    actReg State.onMain pACQ (fun s => s.acqXtrig v) s := rfl

theorem exec_rescan (s : State) : exec (.rescan) s =
    actReg State.onMain pACQ State.acqRescan s := rfl

theorem exec_acqRecRelease (v : Word) (s : State) : exec (.acqRecRelease v) s =
    actReg State.onMain pACQ (fun s => s.acqRelease v) s := rfl

theorem exec_acqRecPop (s : State) : exec (.acqRecPop) s =
    actReg State.onMain pACQ State.acqRecPop s := rfl

theorem exec_evrPost (v : Word) (s : State) : exec (.evrPost v) s =
    actReg State.onMain pEVR (fun s => s.evrPost v) s := rfl

theorem exec_postDone (s : State) : exec (.postDone) s =
    act State.onMain State.postDone s := rfl

theorem exec_hwRecordSubmit (s : State) : exec (.hwRecordSubmit) s =
    act State.onMain State.hwSubmit s := rfl

theorem exec_privRecordWrite (s : State) : exec (.privRecordWrite) s =
    act State.onMain (fun s => s.privWrite.pfStep3) s := rfl

theorem exec_privLossRecord (s : State) : exec (.privLossRecord) s =
    act State.onMain State.privLossRec s := rfl

theorem exec_privMirror (s : State) : exec (.privMirror) s =
    act State.onMain State.privMirror s := rfl

theorem exec_flush (s : State) : exec (.flush) s =
    actReg State.onMain pEVR State.flushStart s := rfl

theorem exec_flushDone (s : State) : exec (.flushDone) s =
    act State.onMain State.flushDone s := rfl

theorem exec_evrPrivRelease (v : Word) (s : State) : exec (.evrPrivRelease v) s =
    actReg State.onMain pEVR (fun s => s.privRelease v) s := rfl

theorem exec_dupSyncRx (s : State) : exec (.dupSyncRx) s =
    act State.onMain State.dupSyncRx s := rfl

theorem exec_mirrorRx (s : State) : exec (.mirrorRx) s =
    act State.onMain State.mirrorRx s := rfl

theorem exec_rstateRx (s : State) : exec (.rstateRx) s =
    act State.onMain State.rstateRx s := rfl

theorem exec_configDiverge (s : State) : exec (.configDiverge) s =
    act State.onMain State.configDiverge s := rfl

theorem exec_pairingTimeout (s : State) : exec (.pairingTimeout) s =
    act State.onMain State.pairingTimeout s := rfl

theorem exec_resync (s : State) : exec (.resync) s =
    actReg State.onMain pDUP State.dupResync s := rfl

theorem exec_swap (s : State) : exec (.swap) s =
    actReg State.onMain pDUP State.dupSwap s := rfl

theorem exec_take (s : State) : exec (.take) s =
    actReg State.onMain pDUP (fun s => s.ifUnlocked pDUP R.DUP_CMD State.dupTake) s := rfl

theorem exec_preferredReturn (s : State) : exec (.preferredReturn) s =
    act State.onMain State.preferredReturn s := rfl

theorem exec_go (s : State) : exec (.go) s =
    actReg State.onMain pDUP State.dupInject s := rfl

theorem exec_cruiserRead (m : Nat) (s : State) : exec (.cruiserRead m) s =
    act State.onMain (fun s => s.cruise m) s := rfl

theorem exec_partialWrite (a : Nat) (bs : List Byte) (req idx : Nat) (s : State) : exec (.partialWrite a bs req idx) s =
    act State.onMain (fun s =>
        if bs.isEmpty || memOf a != memOf (a + bs.length - 1) || (memOf a).isNone then s
        else s.storeBy a (bs.map (fun b => b.toNat)) req idx) s := rfl

theorem exec_lapWarn (m : Nat) (s : State) : exec (.lapWarn m) s =
    act State.onMain (fun s => s.lapWarn m) s := rfl

theorem exec_memInjCmd (v : Word) (s : State) : exec (.memInjCmd v) s =
    actReg State.onMain pMEM (fun s =>
        if v &&& 0xFFFF03 = 0 ∨ (s.hd pMEM).unlocked then s.memInj v else s.refuse pMEM R.MEM_INJ_CMD Err.locked) s := rfl

theorem exec_clearSaved (s : State) : exec (.clearSaved) s =
    actReg State.onMain pMEM (fun s =>
        if (s.hd pMEM).unlocked then s.updMem (fun m => { m with clearSaved := true })
        else s.refuse pMEM R.MEM_CMD Err.locked) s := rfl

theorem exec_memLogPop (s : State) : exec (.memLogPop) s =
    actReg State.onMain pMEM (fun s => s.updMem (fun m => { m with log := m.log.drop 1 })) s := rfl

theorem exec_flashWear (used spare : Nat) (s : State) : exec (.flashWear used spare) s =
    act State.onMain (fun s => s.flashWear used spare) s := rfl

theorem exec_derive (slot : Nat) (s : State) : exec (.derive slot) s =
    ksuOp 1 slot 0 s := rfl

theorem exec_stage (slot : Nat) (s : State) : exec (.stage slot) s =
    ksuOp 2 slot 0 s := rfl

theorem exec_verify (slot : Nat) (s : State) : exec (.verify slot) s =
    ksuOp 3 slot 0 s := rfl

theorem exec_ksuCommit (slot : Nat) (s : State) : exec (.ksuCommit slot) s =
    ksuOp 4 slot 0 s := rfl

theorem exec_abortStage (slot : Nat) (s : State) : exec (.abortStage slot) s =
    ksuOp 5 slot 0 s := rfl

theorem exec_unwrap (slot parent : Nat) (s : State) : exec (.unwrap slot parent) s =
    ksuOp 6 slot parent s := rfl

theorem exec_msg (slot : Nat) (s : State) : exec (.msg slot) s =
    ksuOp 7 slot 0 s := rfl

theorem exec_invalidate (slot : Nat) (s : State) : exec (.invalidate slot) s =
    ksuOp 8 slot 0 s := rfl

theorem exec_sign (slot : Nat) (s : State) : exec (.sign slot) s =
    ksuOp 9 slot 0 s := rfl

theorem exec_pubkey (slot arg : Nat) (s : State) : exec (.pubkey slot arg) s =
    ksuOp 10 slot arg s := rfl

theorem exec_saveBlob (slot : Nat) (s : State) : exec (.saveBlob slot) s =
    ksuOp 11 slot 0 s := rfl

theorem exec_loadBlob (slot : Nat) (s : State) : exec (.loadBlob slot) s =
    ksuOp 12 slot 0 s := rfl

theorem exec_extend (mr : Nat) (s : State) : exec (.extend mr) s =
    ksuOp 13 0 mr s := rfl

theorem exec_lockMr (mr : Nat) (s : State) : exec (.lockMr mr) s =
    ksuOp 14 0 mr s := rfl

theorem exec_run (s : State) : exec (.run) s =
    ksuOp 15 0 0 s := rfl

theorem exec_setOwner (s : State) : exec (.setOwner) s =
    ksuOp 16 0 0 s := rfl

theorem exec_opDone (s : State) : exec (.opDone) s =
    act State.onMain State.ksuDone s := rfl

theorem exec_tamperDetect (src value : Nat) (s : State) : exec (.tamperDetect src value) s =
    act State.onKeep (fun s => s.tamperDetect src value) s := rfl

theorem exec_tamperClear (src value : Nat) (s : State) : exec (.tamperClear src value) s =
    act State.onKeep (fun s => s.tamperClear src value) s := rfl

theorem exec_tamperHoldEnd (s : State) : exec (.tamperHoldEnd) s =
    act State.onMain State.tamperHoldEnd s := rfl

theorem exec_ack (s : State) : exec (.ack) s =
    actReg State.onMain pTMP (fun s => s.updTmp (fun t => { t with seen := 0 })) s := rfl

theorem exec_powerFailWarning (ext : Bool) (s : State) : exec (.powerFailWarning ext) s =
    act State.onMain (fun s => s.pfWarning ext) s := rfl

theorem exec_pfwCleared (s : State) : exec (.pfwCleared) s =
    act State.onMain State.pfCleared s := rfl

theorem exec_flushEnd (s : State) : exec (.flushEnd) s =
    act State.onMain State.flushEnd s := rfl

theorem exec_shedRecover (b : StartUp) (s : State) : exec (.shedRecover b) s =
    act (fun s => s.pwr.phase == .held) (fun s => s.powerOn 1 b) s := rfl

theorem exec_storeEmpty (s : State) : exec (.storeEmpty) s =
    act State.always State.storeEmpty s := rfl

theorem exec_abruptLoss (torn : Bool) (s : State) : exec (.abruptLoss torn) s =
    act State.always (fun s => s.abruptLoss torn) s := rfl

theorem exec_holdupReady (chargeUs : Nat) (s : State) : exec (.holdupReady chargeUs) s =
    act State.onMain (fun s => s.holdupReady chargeUs) s := rfl

theorem exec_vauxLow (s : State) : exec (.vauxLow) s =
    act State.onKeep State.vauxLow s := rfl

theorem exec_overtempShutdown (s : State) : exec (.overtempShutdown) s =
    act State.onTime State.powerLoss s := rfl

theorem exec_powerOnReset (b : StartUp) (s : State) : exec (.powerOnReset b) s =
    act State.always (fun s => s.powerOnReset b) s := rfl

theorem exec_warm (s : State) : exec (.warm) s =
    actReg State.onMain pRST (fun s => s.ifUnlocked pRST R.RST_CMD (fun s => s.rstCmd 1)) s := rfl

theorem exec_cold (s : State) : exec (.cold) s =
    actReg State.onMain pRST (fun s => s.ifUnlocked pRST R.RST_CMD (fun s => s.rstCmd 2)) s := rfl

theorem exec_warmReset (s : State) : exec (.warmReset) s =
    act State.always (fun s => match s.warmDue with | some c => s.warmReset c | none => s) s := rfl

theorem exec_rstWdogKick (v : Word) (s : State) : exec (.rstWdogKick v) s =
    actReg State.onMain pRST (fun s => s.wdogKick v) s := rfl

theorem exec_wdogExpiry (s : State) : exec (.wdogExpiry) s =
    act State.onMain State.wdogExpiry s := rfl

theorem exec_buttonPress (rstIn : Bool) (s : State) : exec (.buttonPress rstIn) s =
    act State.always (fun s => s.press rstIn) s := rfl

theorem exec_resetHoldRelease (s : State) : exec (.resetHoldRelease) s =
    act State.always State.holdRelease s := rfl

theorem exec_stuckClear (rstIn : Bool) (s : State) : exec (.stuckClear rstIn) s =
    act State.onMain (fun s => s.stuckClear rstIn) s := rfl

theorem exec_perstN (s : State) : exec (.perstN) s =
    act State.onMain State.perst s := rfl

theorem exec_announceSend (s : State) : exec (.announceSend) s =
    act State.onMain State.annSend s := rfl

theorem exec_announceRx (s : State) : exec (.announceRx) s =
    act State.onMain State.annRx s := rfl

theorem exec_slotLost (n : Nat) (s : State) : exec (.slotLost n) s =
    act State.onMain (fun s => if n < 64 then s.slotLost n else s) s := rfl

theorem exec_slotConflictEnd (n : Nat) (s : State) : exec (.slotConflictEnd n) s =
    act State.onMain (fun s => if n < 64 then s.conflictEnd n else s) s := rfl

theorem exec_mgrTakeover (s : State) : exec (.mgrTakeover) s =
    act State.onMain State.takeover s := rfl

theorem exec_hostWindowAccess (bar tag addr : Nat) (wr : Bool) (dws : List HostDw) (s : State) : exec (.hostWindowAccess bar tag addr wr dws) s =
    act State.onMain (fun s => s.hostAccess bar tag addr wr dws) s := rfl

theorem exec_windowFrameSend (n : Nat) (s : State) : exec (.windowFrameSend n) s =
    act State.onMain (fun s => if n < 64 then s.windowSend n else s) s := rfl

theorem exec_windowFrameRx (s : State) : exec (.windowFrameRx) s =
    act State.onMain State.windowRx s := rfl

theorem exec_windowResponseRx (s : State) : exec (.windowResponseRx) s =
    act State.onMain State.responseRx s := rfl

theorem exec_windowRetryTimeout (n : Nat) (s : State) : exec (.windowRetryTimeout n) s =
    act State.onMain (fun s => if n < 64 then s.winRetry n else s) s := rfl

theorem exec_windowReadTimeout (n : Nat) (s : State) : exec (.windowReadTimeout n) s =
    act State.onMain (fun s => if n < 64 then s.winReadOut n else s) s := rfl

theorem exec_intrFrameRx (s : State) : exec (.intrFrameRx) s =
    act State.onMain State.intrRx s := rfl

theorem exec_forget (n : Nat) (s : State) : exec (.forget n) s =
    actReg State.onMain pSHF (fun s => s.ifUnlocked pSHF R.SHF_CMD (fun s => if n < 64 then s.forget n else s)) s := rfl

theorem exec_ackReset (n : Nat) (s : State) : exec (.ackReset n) s =
    actReg State.onMain pSHF (fun s => if n < 64 then s.ackReset n else s) s := rfl

theorem exec_hltSample (ro : List Nat) (sfp : List SfpRead) (s : State) : exec (.hltSample ro sfp) s =
    act State.onMain (fun s => s.hltSample ro sfp) s := rfl

theorem exec_hltRestart (i : Nat) (s : State) : exec (.hltRestart i) s =
    actReg State.onMain pHLT (fun s => s.ifUnlocked pHLT R.HLT_CMD (fun s => s.hltRestart i)) s := rfl

theorem exec_soReplaced (i : Nat) (s : State) : exec (.soReplaced i) s =
    actReg State.onMain pHLT (fun s => s.ifUnlocked pHLT R.HLT_CMD (fun s => s.soReplaced i)) s := rfl

theorem exec_mgrLost (s : State) : exec (.mgrLost) s =
    act State.onMain State.mgrLoss s := rfl

theorem exec_sfpRefit (p : Nat) (s : State) : exec (.sfpRefit p) s =
    act State.onMain (fun s => s.sfpRefit p) s := rfl

theorem exec_keepAliveOff (s : State) : exec (.keepAliveOff) s =
    act (fun s => s.pwr.phase == .sleep) State.keepOff s := rfl

theorem exec_vauxReturn (s : State) : exec (.vauxReturn) s =
    act State.always State.vauxReturn s := rfl

theorem exec_buttonRelease (rstIn : Bool) (s : State) : exec (.buttonRelease rstIn) s =
    act State.always (fun s => s.unpress rstIn) s := rfl

end Sys2Proof.Machine
end

