-- ==== Sys2Proof/Laws/Frame.lean ====
section
/-!
SUPPORT. What counting, raising an interrupt, a refusal and a touch of a page leave as it was: each is Quiet on its page, and Quiet
steps compose.
-/
namespace Sys2Proof.Machine

/-- A shelf block that differs at most in the INTR frames that wait and in the MSI-X table. -/
def SameShf (a b : Shf) : Prop := b = { a with intr := b.intr, msix := b.msix }

theorem SameShf.trans {a b c : Shf} (h : SameShf a b) (h' : SameShf b c) : SameShf a c := by
  unfold SameShf at *
  rw [h] at h'
  exact h'

theorem State.fire_sameShf (s : State) (v : Nat) : SameShf s.shf (s.fire v).shf := by
  unfold SameShf State.fire State.vecSend State.msixRaise State.emit State.setVec
  dsimp only
  repeat' split
  all_goals rfl

theorem State.updHd_sameShf (s : State) (p : Nat) (f : Hdr → Hdr) : SameShf s.shf (s.updHd p f).shf := by
  have base (x : State) (h : x.shf = s.shf) : SameShf s.shf x.shf := by rw [h]; rfl
  have one (x : State) (v : Nat) (h : SameShf s.shf x.shf) : SameShf s.shf (x.fire v).shf := h.trans (x.fire_sameShf v)
  unfold State.updHd
  dsimp only
  repeat' split
  all_goals first
    | exact base _ rfl
    | exact one _ _ (base _ rfl)
    | exact one _ _ (one _ _ (base _ rfl))

theorem State.Quiet.refl (ps : List Nat) (s : State) : s.Quiet ps s := ⟨rfl, fun _ _ => rfl, fun _ => rfl, fun _ _ _ _ => rfl⟩

theorem State.Quiet.trans {ps : List Nat} {s t u : State} (h : s.Quiet ps t) (h' : t.Quiet ps u) : s.Quiet ps u := by
  refine ⟨?_, fun q hq => (h'.hd q hq).trans (h.hd q hq), fun q => ?_, fun q o hq ho => (h'.cn q o hq ho).trans (h.cn q o hq ho)⟩
  · have a := h'.rest
    rw [h.rest] at a
    exact a
  · have a := h'.hdIn q
    rw [h.hdIn q] at a
    exact a

theorem State.Quiet.mono {ps qs : List Nat} {s t : State} (h : s.Quiet ps t) (hs : ∀ p ∈ ps, p ∈ qs) : s.Quiet qs t :=
  ⟨h.rest, fun q hq => h.hd q (fun e => hq (hs q e)), h.hdIn, fun q o hq ho => h.cn q o (fun e => hq (hs q e)) ho⟩

/-- A change of a header that touches only what Quiet lets change. -/
theorem State.Quiet.updHd {ps : List Nat} {s t : State} {p : Nat} {f : Hdr → Hdr} (h : s.Quiet ps t) (hp : p ∈ ps)
    (hf : ∀ x, f x = { x with
      irqStatus := (f x).irqStatus, cfgErr := (f x).cfgErr, errCode := (f x).errCode,
      satSeen := (f x).satSeen, lockSeen := (f x).lockSeen }) : s.Quiet ps (t.updHd p f) := by
  refine h.trans ⟨?_, fun q hq => ?_, fun q => ?_, fun q o _ _ => ?_⟩
  · have a := State.updHd_sameShf t p f
    unfold SameShf at a
    apply State.eq_of_fields <;> first | rfl | exact a | simp
  · exact State.hd_updHd_other _ _ _ _ (fun e => hq (e ▸ hp))
  · by_cases e : q = p
    · subst e; rw [State.hd_updHd]; exact hf _
    · rw [State.hd_updHd_other _ _ _ _ e]
  · simp [State.cn]

theorem State.Quiet.irq {ps : List Nat} {s t : State} {p : Nat} (h : s.Quiet ps t) (hp : p ∈ ps) (i : Nat) : s.Quiet ps (t.irq p i) :=
  h.updHd hp (fun _ => rfl)

theorem State.Quiet.bumpBy {ps : List Nat} {s t : State} {p : Nat} (h : s.Quiet ps t) (hp : p ∈ ps) (o n : Nat) (ho : o < 4096) :
    s.Quiet ps (t.bumpBy p o n) := by
  have c : t.Quiet ps { t with cnts := sset 0 (ka p o) (min (cntMax p o) (t.cn p o + n)) t.cnts } := by
    refine ⟨rfl, fun _ _ => rfl, fun _ => rfl, fun q x hq hx => ?_⟩
    have : ka q x ≠ ka p o := fun e => hq (((ka_inj hx ho).mp e).1 ▸ hp)
    simp [State.cn, sget_sset_other _ _ _ _ _ _ this]
  unfold State.bumpBy
  dsimp only
  split
  · exact ((h.trans c).updHd hp (fun _ => rfl)).irq hp _
  · exact h.trans c

theorem State.Quiet.bump {ps : List Nat} {s t : State} {p : Nat} (h : s.Quiet ps t) (hp : p ∈ ps) (o : Nat) (ho : o < 4096) :
    s.Quiet ps (t.bump p o) := h.bumpBy hp o 1 ho

theorem State.Quiet.refuse {ps : List Nat} {s t : State} {p : Nat} (h : s.Quiet ps t) (hg : headPage p ∈ ps) (hp : p ∈ ps) (o c : Nat) :
    s.Quiet ps (t.refuse p o c) := by
  have hc : countPage p ∈ ps := by unfold countPage; split <;> assumption
  unfold State.refuse
  dsimp only
  have a := (h.updHd hg (f := fun h => { h with cfgErr := true, errCode := w32 (pageIndex p * 2 ^ 20 + o * 256 + c) }) (fun _ => rfl)).irq hg 0
  split
  · exact (a.bump hc _ (by decide)).bump hc _ (by decide)
  · exact a.bump hc _ (by decide)

theorem State.Quiet.accept {ps : List Nat} {s t : State} {p : Nat} (h : s.Quiet ps t) (hg : headPage p ∈ ps) : s.Quiet ps (t.accept p) :=
  h.updHd hg (fun _ => rfl)

theorem State.Quiet.touch {ps : List Nat} {s t : State} {p : Nat} (h : s.Quiet ps t) (hp : p ∈ ps) : s.Quiet ps (t.touch p) := by
  refine h.trans ⟨?_, fun q hq => t.hd_touch_other p q (fun e => hq (e ▸ hp)), fun q => ?_, fun q o _ _ => ?_⟩
  · rw [t.touch_shape p]
  · rw [t.hd_touch p q]
  · simp [State.cn]

/-- The queue that a command is given back does not disturb what is Quiet. -/
theorem State.Quiet.pend {ps : List Nat} {s t : State} (h : s.Quiet ps t) : s.Quiet ps { t with pending := s.pending } := by
  refine ⟨?_, h.hd, h.hdIn, h.cn⟩
  have a := congrArg (fun t : State => { t with pending := s.pending }) h.rest
  exact a

end Sys2Proof.Machine
end

