-- ==== Sys2Proof/Laws/Memory.lean ====
section
/-!
SUPPORT. Memory (chapter 16): a read after a write, and every operation that writes memory keeps its canonical form.
-/
namespace Sys2Proof.Machine

/-! ### Bytes put into a store -/

theorem putBytes_nil (a : Nat) (m : List (Nat × Byte)) : putBytes a [] m = m := rfl

/-- A fold that sets keys of a store keeps its canonical form. -/
theorem foldl_swf {γ : Type} (f : List (Nat × Byte) → γ → List (Nat × Byte)) (hf : ∀ m x, Memory.wf m = true → Memory.wf (f m x) = true)
    (l : List γ) (m : List (Nat × Byte)) (h : Memory.wf m = true) : Memory.wf (l.foldl f m) = true := by
  induction l generalizing m with
  | nil => exact h
  | cons x t ih => exact ih _ (hf m x h)

theorem putBytes_wf (a : Nat) (bs : List Nat) (m : List (Nat × Byte)) (h : Memory.wf m = true) : Memory.wf (putBytes a bs m) = true :=
  foldl_swf (fun (m : List (Nat × Byte)) (b : Nat × Nat) => sset 0 (a + b.2) (BitVec.ofNat 8 b.1) m)
    (fun m (x : Nat × Nat) h => swf_sset (fun _ => (0 : Byte)) (a + x.2) (BitVec.ofNat 8 x.1) m h) _ m h

theorem sclear_wf (lo hi : Nat) (m : List (Nat × Byte)) (h : Memory.wf m = true) : Memory.wf (sclear lo hi m) = true :=
  swf_sclear (fun _ => (0 : Byte)) lo hi m h

/-- A fold over bytes with their places, from place `n`, puts byte `i` at `a + n + i` and nothing elsewhere. -/
theorem foldl_zip_get (a k : Nat) (bs : List Nat) (n : Nat) (m : List (Nat × Byte)) :
    sget (0 : Byte) k ((bs.zipIdx n).foldl (fun m b => sset 0 (a + b.2) (BitVec.ofNat 8 b.1) m) m) =
      if a + n ≤ k ∧ k < a + n + bs.length then BitVec.ofNat 8 ((bs[k - (a + n)]?).getD 0) else sget 0 k m := by
  induction bs generalizing n m with
  | nil => simp
  | cons b t ih =>
    rw [List.zipIdx_cons, List.foldl_cons, ih]
    by_cases hk : k = a + n
    · subst hk
      simp
    · rw [sget_sset_other (0 : Byte) 0 _ _ _ _ hk]
      by_cases h1 : a + (n + 1) ≤ k ∧ k < a + (n + 1) + t.length
      · have h2 : a + n ≤ k ∧ k < a + n + (b :: t).length := by simp only [List.length_cons]; omega
        rw [if_pos h1, if_pos h2]
        have h3 : k - (a + n) = (k - (a + (n + 1))) + 1 := by omega
        rw [h3, List.getElem?_cons_succ]
      · have h2 : ¬(a + n ≤ k ∧ k < a + n + (b :: t).length) := by simp only [List.length_cons]; omega
        rw [if_neg h1, if_neg h2]

/-- A read after a write: the bytes put where they were put, what was there before everywhere else. -/
theorem sget_putBytes (a k : Nat) (bs : List Nat) (m : List (Nat × Byte)) :
    sget (0 : Byte) k (putBytes a bs m) = if a ≤ k ∧ k < a + bs.length then BitVec.ofNat 8 ((bs[k - a]?).getD 0) else sget 0 k m :=
  foldl_zip_get a k bs 0 m

/-! ### What does not touch memory -/

@[simp] theorem State.freeWord_mem (s : State) : s.freeWord.2.mem = s.mem := rfl

@[simp] theorem State.setTws_mem (s : State) (a : Nat) (ws : List Word) : (s.setTws a ws).mem = s.mem := by
  induction ws generalizing s a with
  | nil => rfl
  | cons w t ih => rw [State.setTws, ih]; rfl

@[simp] theorem State.memEvent_mem (s : State) (a k r i : Nat) : (s.memEvent a k r i).mem = s.mem := by
  unfold State.memEvent
  split
  · rw [State.irq_mem, State.bump_mem]
  · rfl

@[simp] theorem State.remapInto_mem (s : State) (e a : Nat) (ue : Bool) (r i : Nat) : (s.remapInto e a ue r i).mem = s.mem := by
  unfold State.remapInto
  rw [State.memEvent_mem, State.irq_mem, State.bump_mem, State.updMem_mem, State.setTws_mem]

@[simp] theorem State.remap_mem (s : State) (a : Nat) (ue : Bool) (r i : Nat) : (s.remap a ue r i).mem = s.mem := by
  unfold State.remap
  cases memOf a with
  | none => rfl
  | some x =>
    dsimp only
    cases s.freeEntry x.2 with
    | none => rw [State.memEvent_mem, State.irq_mem, State.bump_mem]
    | some e => rw [State.remapInto_mem]

@[simp] theorem State.trackCorr_mem (s : State) (a r i : Nat) : (s.trackCorr a r i).mem = s.mem := by
  unfold State.trackCorr
  cases memOf a with
  | none => rfl
  | some x =>
    dsimp only
    have key : ∀ (u : State) (c : Bool) (b : State), u.mem = s.mem → b = u → (if c = true then b.remap a false r i else b).mem = s.mem := by
      intro u c b h e
      subst e
      cases c
      · exact h
      · exact (State.remap_mem _ _ _ _ _).trans h
    refine key _ _ _ ?_ rfl
    cases s.memSt.track.find? (fun t => t.1 == a) with
    | some t => rfl
    | none =>
      dsimp only
      have pick : ∀ (c : Prop) [Decidable c] (u v : State), u.mem = s.mem → v.mem = s.mem → (if c then u else v).mem = s.mem := by
        intro c _ u v hu hv
        split <;> assumption
      exact pick _ _ _ (State.bump_mem _ _ _) rfl

/-! ### Operations that write memory -/

theorem State.setWordState_wf (s : State) (a : Nat) (p : Bool) (h : Memory.wf s.mem = true) :
    Memory.wf (s.setWordState a p).mem = true := by
  cases p
  · exact h
  · exact sclear_wf (a / 8 * 8) (a / 8 * 8 + 8) s.mem h

theorem State.corrected_mem (s : State) (a k r i : Nat) : (s.corrected a k r i).mem = (s.setWordState a false).mem := by
  unfold State.corrected
  dsimp only; rw [State.trackCorr_mem, State.memEvent_mem, State.irq_mem, State.bump_mem]

theorem State.uncorrectable_mem (s : State) (a k r i : Nat) : (s.uncorrectable a k r i).mem = (s.setWordState a true).mem := by
  unfold State.uncorrectable
  dsimp only; rw [State.remap_mem, State.memEvent_mem, State.bump_mem]

theorem State.corrected_wf (s : State) (a k r i : Nat) (h : Memory.wf s.mem = true) : Memory.wf (s.corrected a k r i).mem = true :=
  s.corrected_mem a k r i ▸ s.setWordState_wf a false h

theorem State.uncorrectable_wf (s : State) (a k r i : Nat) (h : Memory.wf s.mem = true) :
    Memory.wf (s.uncorrectable a k r i).mem = true :=
  s.uncorrectable_mem a k r i ▸ s.setWordState_wf a true h

theorem State.wordIs_wf (s : State) (a : Nat) (h : Memory.wf s.mem = true) : Memory.wf (s.wordIs a).2.mem = true := by
  have pick : ∀ (c : Prop) [Decidable c] (u v : WordIs × State), Memory.wf u.2.mem = true → Memory.wf v.2.mem = true →
      Memory.wf (if c then u else v).2.mem = true := by
    intro c _ u v hu hv
    split <;> assumption
  exact pick _ _ _ (pick _ _ _ h h) (pick _ _ _ h (pick _ _ _ h (pick _ _ _ h (pick _ _ _ h (putBytes_wf _ _ _ h)))))

theorem State.readWord_wf (s : State) (a r i : Nat) (h : Memory.wf s.mem = true) : Memory.wf (s.readWord a r i).2.mem = true := by
  have w := s.wordIs_wf a h
  unfold State.readWord
  generalize s.wordIs a = x at w ⊢
  obtain ⟨f, t⟩ := x
  cases f
  · exact w
  · exact t.corrected_wf a 0 r i w
  · exact State.uncorrectable_wf _ a 2 r i (by rw [State.irq_mem]; exact w)
  · show Memory.wf ((t.bump pMEM R.MEM_CNT_POISON_READ).memEvent a 3 r i).mem = true
    rw [State.memEvent_mem, State.bump_mem]; exact w

theorem State.partialWrite_wf (s : State) (a : Nat) (bs : List Nat) (r i : Nat) (h : Memory.wf s.mem = true) :
    Memory.wf (s.partialWrite a bs r i).2.mem = true := by
  have w := s.wordIs_wf a h
  unfold State.partialWrite
  generalize s.wordIs a = x at w ⊢
  obtain ⟨f, t⟩ := x
  cases f
  · exact putBytes_wf a bs t.mem w
  · refine putBytes_wf a bs _ (State.corrected_wf _ _ 1 r i ?_)
    rw [State.bump_mem]; exact w
  · refine State.uncorrectable_wf _ _ 4 r i ?_
    rw [State.irq_mem, State.bump_mem]; exact w
  · show Memory.wf (((t.bump pMEM R.MEM_CNT_PW_REFUSED).irq pMEM 6).memEvent (a / 8 * 8) 4 r i).mem = true
    rw [State.memEvent_mem, State.irq_mem, State.bump_mem]; exact w

theorem State.writeWords_wf (s : State) (a : Nat) (bs : List Nat) (h : Memory.wf s.mem = true) :
    Memory.wf (s.writeWords a bs).mem = true := putBytes_wf a bs s.mem h

theorem State.writeMem_wf (s : State) (a : Nat) (bs : List Nat) (r i : Nat) (h : Memory.wf s.mem = true) :
    Memory.wf (s.writeMem a bs r i).2.mem = true := by
  have pick : ∀ (c : Prop) [Decidable c] (u v : Bool × State), Memory.wf u.2.mem = true → Memory.wf v.2.mem = true →
      Memory.wf (if c then u else v).2.mem = true := by
    intro c _ u v hu hv
    split <;> assumption
  unfold State.writeMem
  have h1 := pick (min bs.length ((8 - a % 8) % 8) = 0) (false, s)
    (s.partialWrite a (bs.take (min bs.length ((8 - a % 8) % 8))) r i) h (s.partialWrite_wf a _ r i h)
  refine pick _ _ _ (State.writeWords_wf _ _ _ h1) (State.partialWrite_wf _ _ _ _ _ (State.writeWords_wf _ _ _ h1))

theorem foldl_read_wf (r i : Nat) (l : List Nat) (b : Bool) (s : State) (h : Memory.wf s.mem = true) :
    Memory.wf (l.foldl (fun acc w => (acc.1 || (acc.2.readWord (w * 8) r i).1, (acc.2.readWord (w * 8) r i).2)) (b, s)).2.mem = true := by
  induction l generalizing s b with
  | nil => exact h
  | cons w t ih => exact ih _ _ (State.readWord_wf s (w * 8) r i h)

theorem State.readMem_wf (s : State) (a n r i : Nat) (h : Memory.wf s.mem = true) : Memory.wf (s.readMem a n r i).2.2.mem = true :=
  foldl_read_wf r i _ false s h

/-- Reads of words keep the memory's form. -/
theorem State.readAt_wf (s : State) (as : List Nat) (r i : Nat) (h : Memory.wf s.mem = true) : Memory.wf (s.readAt as r i).mem = true := by
  have go : ∀ (l : List Nat) (u : State), Memory.wf u.mem = true → Memory.wf (l.foldl (fun s w => (s.readWord (w * 8) r i).2) u).mem = true := by
    intro l
    induction l with
    | nil => exact fun _ h => h
    | cons w t ih => exact fun u h => ih _ (u.readWord_wf _ _ _ h)
  unfold State.readAt
  split
  · exact h
  · exact go _ _ h

@[simp] theorem State.freshAt_mem (s : State) (as : List Nat) (n : Nat) : (s.freshAt as n).mem = s.mem := by
  unfold State.freshAt; split <;> rfl

theorem State.writeMram_wf (s : State) (a : Nat) (bs : List Nat) (h : Memory.wf s.mram = true) : Memory.wf (s.writeMram a bs).mram = true :=
  putBytes_wf a bs s.mram h

theorem State.dirtyMark_wf (s : State) (f : Nat) (bm : Bool) (a n : Nat) (h : Memory.wf s.mem = true) :
    Memory.wf (s.dirtyMark f bm a n).mem = true := by
  unfold State.dirtyMark
  split
  · exact h
  · exact foldl_swf _ (fun m x h => swf_sset (fun _ => (0 : Byte)) _ _ m h) _ _ h

/-! ### Undamaged memory -/

/-- Memory without damaged words reads its bytes, and the read changes nothing. -/
theorem State.readMem_clean (s : State) (a n r i : Nat) (hf : s.flips = []) (hp : s.poison = []) :
    s.readMem a n r i = (s.bytes a n, false, s) := by
  have h : s.damaged a n = [] := by
    unfold State.damaged
    rw [hf, hp]
    split <;> rfl
  unfold State.readMem
  rw [h]
  rfl

theorem State.wordIs_clean (s : State) (a : Nat) (hf : s.flips = []) (hp : s.poison = []) : s.wordIs a = (.clean, s) := by
  have h0 : ones 80 0 = 0 := by decide
  unfold State.wordIs
  dsimp only
  rw [hf, hp]
  simp only [sget, h0, Bool.false_eq_true, if_false, if_true]

end Sys2Proof.Machine
end

