-- ==== Sys2Proof/Tests/States.lean ====
section
/-!
SUPPORT. Small states that the tests build on.
-/
open Sys2Proof Sys2Proof.Machine

/-- A module whose page `p` has the header `h`. -/
def sHd (p : Nat) (h : Hdr) : State := { hdrs := [(p, h)] }

/-- A module whose page `p` is enabled and started. -/
def sOn (p : Nat) : State := sHd p { enable := true, started := true }

/-- The module with a further page enabled and started. -/
def Sys2Proof.Machine.State.andOn (s : State) (p : Nat) : State := s.setHd p { enable := true, started := true }

/-- The module at a station time in ns and a clock of its time island. -/
def Sys2Proof.Machine.State.atTime (s : State) (ns clk : Nat) : State := { s with tsu := { s.tsu with now := ns * 10 ^ 12, clk := clk } }

/-- A module with the Crosscut and the MACs 0 and 1 enabled, receiving and sending, their links up. -/
def sNet : State :=
  (((((sOn pSWC).andOn (pMAC 0)).andOn (pMAC 1)).setAc (pMAC 0) R.MAC_CFG 0x3100).setAc (pMAC 1) R.MAC_CFG 0x3100).setMac 0
    { linkUp := true } |>.setMac 1 { linkUp := true }

/-- A frame of 64 bytes tagged with VID 1. -/
def fTag : Frame := { da := 0xFFFFFFFFFFFF, sa := 2, vlan := some (0, 1), et := 0x0800, size := 64 }

/-- That frame as a queue holds it. -/
def xTag : QEntry := { id := 7, frame := fTag, cells := 1, stamp := 0, ing := 0, rsel := 0 }
end

