-- ==== Sys2Proof/Tests/Cycle.lean ====
section
/-!
SUPPORT. Tests of the cycle executor, the function instances and their neighbours: witnesses of the statements' hypotheses.
-/
open Sys2Proof Sys2Proof.Machine

/-- No word of the table region has bit 31 set after reset, so no publication is in use in a module whose tables are as after reset. -/
theorem tblReset_top (a : Nat) : bit (tblReset a) 31 = false := by
  have h (n : Nat) (h : n < 2 ^ 31) : bit (w32 n) 31 = false := by
    simp only [bit, w32, BitVec.toNat_ofNat]
    rw [Nat.mod_eq_of_lt (by omega)]
    exact Nat.testBit_lt_two_pow h
  unfold tblReset
  repeat' split
  · exact h _ (by omega)
  · exact h _ (by omega)
  all_goals decide

/-- The executor on, cycle 1 started, its view fixed, at a time well after its boundary. -/
def sCyc : State := { (sOn (pCYC 0)).atTime 10000000 0 with cyc := { cyc := some 1, viewed := true } }

/-- Instance 0 in use on core 0 of pair 0, running, with a quota of 1 write. -/
def sInst : State :=
  { sCyc.setTw 0x00D50000 0x80000000 with cyc := { sCyc.cyc with insts := [(0, { state := 1 })], active := [(0, 0, 0x10001)] } }

/-- Its window running, with an activation of TC0 and a write range of point 7 alone. -/
def sTask : State :=
  { (sInst.setTws 0x00D54000 [0x80000000, 7, 7]) with
    cyc := { sInst.cyc with
      winNs := 10000000, ticks := [100000], insts := [(0, { state := 1, window := 1, acts := [{ cls := 0, cyc := 1 }] })] } }

theorem test_witness_CycleStarts :
    (∃ (j : Nat) (s : State), s.onMain = true ∧ s.cycDue = some j ∧
      (∀ p, p < 16 → (s.hd (pCYC p)).stopNs = none ∧ (s.hd (pCYC p)).commitPending = false) ∧ s.dup.pend = none ∧
      s.dupEn = false ∧ s.vfs = [] ∧ s.ops = [] ∧ s.tokens j = true ∧ s.cyc.cyc ≠ none ∧ s.flips = [] ∧ s.poison = []) ∧
    (∃ (j : Nat) (s : State), s.onMain = true ∧ s.cycDue = some j ∧
      (∀ p, p < 16 → (s.hd (pCYC p)).stopNs = none ∧ (s.hd (pCYC p)).commitPending = false) ∧ s.dup.pend = none ∧
      s.dupEn = false ∧ s.vfs = [] ∧ s.ops = [] ∧ s.tokens j = false ∧ s.cyc.cyc = none) ∧
    (∃ s : State, s.onMain = true ∧ s.cycDue = none) ∧
    (∃ s : State, s.onMain = true ∧ s.cyc.waiting = true ∧ s.cyc.kerfDone = false ∧ s.tokens s.cycNow = true ∧ s.flips = [] ∧
      s.poison = []) ∧
    (∃ s : State, s.onMain = true ∧ s.cyc.waiting = true ∧ s.cyc.kerfDone = false ∧ s.tokens s.cycNow = false) :=
  ⟨⟨2, { sCyc with cyc := { cyc := some 1, kerfDone := true, ticks := [2] }, sva := { finals := [(2, false, 0)] } }, by decide +kernel⟩,
    ⟨1, { sCyc with cyc := { ticks := [1] } }, by decide +kernel⟩, ⟨{}, by decide⟩,
    ⟨{ cyc := { waiting := true }, sva := { finals := [(0, false, 0)] } }, by decide +kernel⟩, ⟨{ cyc := { waiting := true } }, by decide⟩⟩

theorem test_witness_KerfCommitsTheImage :
    (∃ s : State, s.onMain = true ∧ s.kerfDue = false) ∧
    (∃ (p : Nat) (x : Point) (s : State), (∀ n, bit (s.pw n 0) 31 = false) ∧ s.onMain = true ∧ s.kerfDue = true ∧ s.dupEn = false ∧
      s.vfs = [] ∧ s.usedInsts = [] ∧ s.cyc.insts = [] ∧ s.cyc.forces = [] ∧ s.cyc.forceDirty = [] ∧ s.cyc.olc.state = 0 ∧
      s.answered = none ∧ s.cyc.adcStage = [] ∧ s.cyc.gooseStage = [] ∧ s.cyc.pfStage = [(s.cycNow, p, x)] ∧ p < 2 ^ 20 ∧
      s.flips = [] ∧ s.poison = []) :=
  ⟨⟨{}, by decide⟩, ⟨5, {}, { sCyc with cyc := { cyc := some 1, pfStage := [(1, 5, {})] } }, fun _ => tblReset_top _, by decide +kernel⟩⟩

theorem test_witness_WindowsAndWrites :
    (∃ (i : Nat) (s : State), s.onMain = true ∧ s.inWindows = true ∧ i < 64 ∧ iUsed (s.iw i 0) = true ∧ (s.inst i).state = 1 ∧
      (s.inst i).window = 0 ∧ (s.inst i).heldCyc = false ∧ (s.inst i).causes = 0 ∧ (s.inst i).acts = [] ∧ s.winStart i ≤ s.ns ∧
      s.unusable (pCYC (iPair (s.iw i 0))) = false ∧ s.flips = [] ∧ s.poison = [] ∧ ∀ v ∈ s.vecs, v.2.owner = i → v.2.pending = false) ∧
    (∃ (i : Nat) (s : State), s.onMain = true ∧ s.ns < s.winStart i) ∧
    (∃ (i : Nat) (s : State), s.onMain = true ∧ s.inWindows = true ∧ (s.inst i).window = 1 ∧ s.winStart i + s.iBudget i ≤ s.ns) ∧
    (∃ (i : Nat) (s : State), s.onMain = true ∧ s.ns < s.winStart i + s.iBudget i) ∧
    (∃ (i cls p : Nat) (a : Act) (s : State), s.onMain = true ∧ s.runsNow i cls = true ∧ (s.inst i).acts = [a] ∧ a.cls = cls ∧ a.done = false ∧
      p < 2 ^ 20 ∧ s.inRange (some i) p = true ∧ (s.inst i).wrote < s.iQuota i) ∧
    (∃ (i cls p : Nat) (a : Act) (s : State), s.onMain = true ∧ s.runsNow i cls = true ∧ (s.inst i).acts = [a] ∧ a.cls = cls ∧ a.done = false ∧
      p < 2 ^ 20 ∧ s.inRange (some i) p = false) :=
  ⟨⟨0, sInst, by decide +kernel⟩, ⟨0, { cyc := { winNs := 1 } }, by decide +kernel⟩,
    ⟨0, { sInst with cyc := { sInst.cyc with insts := [(0, { state := 1, window := 1 })] } }, by decide +kernel⟩,
    ⟨0, { sInst with cyc := { sInst.cyc with winNs := 10000000 } }, by decide +kernel⟩,
    ⟨0, 0, 7, { cls := 0, cyc := 1 }, sTask, by decide +kernel⟩, ⟨0, 0, 8, { cls := 0, cyc := 1 }, sTask, by decide +kernel⟩⟩

theorem test_witness_PointAccessAndInstances :
    (∃ s : State, s.onMain = true ∧ s.inRange (some 0) s.piIndex = true ∧ (s.inst 0).wrote < s.iQuota 0 ∧ s.inRange none s.piIndex = true) ∧
    (∃ s : State, s.onMain = true ∧ s.inRange none s.piIndex = false) ∧
    (∃ (i : Nat) (s : State), s.onMain = true ∧ s.absent (0x140 + i) = false ∧ (s.inst i).state = 0 ∧ iUsed (s.iw i 0) = true ∧
      s.unusable (pCYC (iPair (s.iw i 0))) = false ∧ s.instCheck i = none ∧ (s.inst i).startNs = none) ∧
    (∃ (i : Nat) (s : State), s.onMain = true ∧ s.absent (0x140 + i) = false ∧ (s.inst i).state = 2 ∧
      s.unusable (pCYC (iPair (s.iw i 0))) = false) ∧
    (∃ (i : Nat) (s : State), s.onMain = true ∧ s.absent (0x140 + i) = true) :=
  ⟨⟨sInst.setTws 0x00D54000 [0x80000000, 0, 0], by decide +kernel⟩, ⟨{}, by decide +kernel⟩,
    ⟨1, State.setTws {} 0x00D50100 [0x80002000, 0x10001], by decide +kernel⟩,
    ⟨0, { cyc := { insts := [(0, { state := 2 })] } }, by decide +kernel⟩, ⟨32, { ident := { code := .yv32 } }, by decide +kernel⟩⟩

theorem test_witness_OnLineChange :
    (∃ (i : Nat) (o n : Bank) (s : State), s.onMain = true ∧ i = fld (s.rg (pCYC 0) R.CYC_OLC_INST) 0 6 ∧
      o = s.bankOf i (s.inst i).bank ∧ n = s.bankOf i (!(s.inst i).bank) ∧ s.absent (0x140 + i) = false ∧ o.syms.length ≤ 65536 ∧
      n.syms.length ≤ 65536 ∧ symOrdered o.syms = true ∧ symOrdered n.syms = true ∧ s.cyc.olc.state = 0 ∧ (s.inst i).state = 1 ∧
      carryBytes o n ≤ 2 ^ 22) ∧
    (∃ s : State, s.onMain = true ∧ s.cyc.olc.state = 1) ∧
    (∃ s : State, s.onMain = true ∧ s.cyc.olc.state = 2 ∧ s.cycNow + 1 < s.untag (s.rg (pCYC 0) R.CYC_OLC_TAG)) ∧
    (∃ s : State, s.onMain = true ∧ s.cyc.olc.state = 2 ∧ s.untag (s.rg (pCYC 0) R.CYC_OLC_TAG) ≤ s.cycNow) ∧
    (∃ s : State, s.onMain = true ∧ s.cyc.olc.state = 5) ∧
    (∃ (i : Nat) (s : State), s.onMain = true ∧ s.cyc.olc.inst = i ∧ s.cyc.olc.state = 4 ∧ s.cyc.kerfDone = true ∧
      s.cyc.olc.tag ≤ s.cycNow ∧ s.cyc.olc.newB.syms = [] ∧ s.cyc.olc.oldB.points = [] ∧ s.cyc.olc.newB.points = [] ∧ s.cyc.forces = []) ∧
    (∃ s : State, s.onMain = true ∧ s.cycNow < s.cyc.olc.tag) :=
  ⟨⟨0, sInst.bankOf 0 false, sInst.bankOf 0 true, sInst, by decide +kernel⟩, ⟨{ cyc := { olc := { state := 1 } } }, by decide⟩,
    ⟨State.setRg { cyc := { olc := { state := 2 } } } (pCYC 0) R.CYC_OLC_TAG 2, by decide⟩,
    ⟨State.setRg { cyc := { olc := { state := 2 } } } (pCYC 0) R.CYC_OLC_TAG 0, by decide⟩, ⟨{ cyc := { olc := { state := 5 } } }, by decide⟩,
    ⟨0, { cyc := { olc := { state := 4 }, kerfDone := true } }, by decide⟩, ⟨{ cyc := { olc := { tag := 1 } } }, by decide⟩⟩

/-- A GOOSE message without members, and the frame that carries it. -/
def pGo : GoosePdu := { gocbRef := [], stNum := 1, sqNum := 1, tal := 0, confRev := 0, numEntries := 0, members := [] }
def xGo : QEntry := { id := 0, frame := { da := 0, sa := 2, et := 0x88B8, size := 64, body := .goose pGo }, cells := 1, stamp := 0, ing := 0, rsel := 0 }

/-- The executor on, that frame delivered, subscription 0 in a state. -/
def sGo (g : GSub) : State := { sCyc with swc := { h1rx := [xGo] }, cyc := { sCyc.cyc with gsubs := [(0, g)] } }

theorem test_witness_GooseSubscriber :
    (∃ g ∈ [({ state := 1 } : GSub), { state := 2, stNum := 1 }, { state := 2, stNum := 1, sqNum := 1 }], ∀ s, s = sGo g → s.onMain = true ∧
      s.cyc.gsubs = [(0, g)] ∧ s.cycOn = true ∧ s.dupEn = false ∧ s.swc.h1rx = [xGo] ∧ xGo.oversize = false ∧ xGo.frame.body = .goose pGo ∧
      fld (s.gw 0 0) 0 16 = xGo.frame.appid ∧ gocbRef (s.gsubWords 0) = pGo.gocbRef ∧ bit (s.gw 0 0) 30 = false ∧
      s.gooseOk 0 pGo = true ∧ fld (s.gw 0 4) 21 2 = 0) ∧
    (∃ (g : GSub) (s : State), s.onMain = true ∧ s.cyc.gsubs = [(0, g)] ∧ g.state = 2 ∧ s.dup.paired = false ∧ s.cyc.cyc ≠ none ∧
      diff32 g.deadline (shortOf s.cyc.boundNs) < 0) ∧
    (∃ (g : GSub) (s : State), s.onMain = true ∧ s.cyc.gsubs = [(0, g)] ∧ g.state = 2 ∧ s.dup.paired = false ∧ s.cyc.cyc ≠ none ∧
      diff32 g.deadline (shortOf s.cyc.boundNs) = 0) :=
  ⟨⟨{ state := 1 }, by decide, fun s h => by subst h; decide⟩,
    ⟨{ state := 2 }, { sGo { state := 2 } with cyc := { cyc := some 1, boundNs := 1, gsubs := [(0, { state := 2 })] } }, by decide⟩,
    ⟨{ state := 2 }, sGo { state := 2 }, by decide⟩⟩

/-- Pair 1 of the PF on skidder 0 with rings of four descriptors at 0x1000 and 0x2000. -/
def sRing : State := (State.setTws {} (qpAddr 1) [0x80000000, 0x00040004, 0x1000, 0, 0x2000, 0]).setAc (pVFM 0) R.VFM_FN_CFG 0x10004

/-- Its first transmit descriptor copies 64 bytes, its first receive buffer has 64. -/
def sDesc : State := { sRing with mem := [(0x1003, 0x20), (0x1004, 0x40), (0x2003, 0x30), (0x2004, 0x40)] }

def oCopy : Op := { ring := 2, fn := 0, kind := 2, desc := [], addr := 0x1000, status := some 0 }

def rRead : Req := { fn := 0, ring := 2, desc := 0x1000, wr := false, addr := 0, off := 0, len := 64 }
def rWrite : Req := { fn := 0, ring := 2, desc := 0x1000, wr := true, addr := 0, off := 0, len := 1, data := [7] }

theorem test_witness_RingsAndSkidder :
    (∃ (f l d q size : Nat) (v : Nat) (s : State), s.onMain = true ∧ f < 64 ∧ l < 8 ∧ d < 2 ∧ s.qOf f l = some q ∧
      size = s.qSize q d ∧ size ≠ 0 ∧ s.fnReset f = false ∧ s.unusable (pSKD (s.qSkd q)) = false ∧
      (v % 4096 % size + size - (s.qp q).head d) % size ≤ min (fld (s.ac (pVFM f) R.VFM_FN_CFG) 0 13) (size - 1)) ∧
    (∃ (f l d : Nat) (s : State), s.onMain = true ∧ f < 64 ∧ l < 8 ∧ d < 2 ∧ s.qOf f l = none) ∧
    (∃ (f l d q v : Nat) (s : State), s.onMain = true ∧ f < 64 ∧ l < 8 ∧ d < 2 ∧ s.qOf f l = some q ∧ s.unusable (pSKD (s.qSkd q)) = false ∧
      min (fld (s.ac (pVFM f) R.VFM_FN_CFG) 0 13) (s.qSize q d - 1) < (v % 4096 % s.qSize q d + s.qSize q d - (s.qp q).head d) % s.qSize q d) ∧
    (∃ (q f : Nat) (ws : List Word) (s : State), s.onMain = true ∧ q < 256 ∧ f = s.qFn q ∧ s.qValid q = true ∧ (s.qp q).txStop = none ∧
      s.fnHeld f = false ∧ (s.qp q).txHead ≠ (s.qp q).txTail ∧ s.ringOps (2 * q) = [] ∧ s.unusable (pSKD (s.qSkd q)) = false ∧
      s.flips = [] ∧ s.poison = [] ∧ (s.fetchDesc q 0 (s.qp q).txHead).1 = some ws ∧ s.txEarly f ws = none) ∧
    (∃ (q f : Nat) (s : State), s.onMain = true ∧ q < 256 ∧ f = s.qFn q ∧ s.qValid q = true ∧ (s.qp q).txStop = none ∧
      s.fnHeld f = false ∧ (s.qp q).txHead ≠ (s.qp q).txTail ∧ s.ringOps (2 * q) = [] ∧ s.unusable (pSKD (s.qSkd q)) = false ∧
      s.permit f (s.qBase q 0) (s.qSize q 0 * 32) true true = false) ∧
    (∃ (q size : Nat) (o : Op) (rest : List Op) (s : State), s.onMain = true ∧ q < 256 ∧ s.ops = o :: rest ∧ o.ring = 2 * q ∧ o.fn < 64 ∧
      o.kind = 2 ∧ o.status = some 0 ∧ (s.qp q).txStop ≠ some 0x0A ∧ (∀ e ∈ s.swc.h1q, e.ring ≠ some (2 * q)) ∧ s.flips = [] ∧ s.poison = [] ∧ size = s.qSize q 0 ∧
      size ≠ 0 ∧ bit (s.ac (pVFM o.fn) R.VFM_DIRTY_CFG) 0 = false ∧
      bit ((o.desc[0]?).getD 0) 24 = false) ∧
    (∃ (k i : Nat) (r : Req) (o : Op) (s : State), s.onMain = true ∧ k < 16 ∧ s.flips = [] ∧ s.poison = [] ∧ s.ops = [o] ∧
      (s.skd k).reqs[i]? = some r ∧ r.squashed = false ∧ r.orphan = false ∧ o.ring = r.ring ∧ o.addr = r.desc ∧ o.cut = false ∧
      (∀ e ∈ (s.skd k).reqs.take i, e.ring = r.ring → e.desc = r.desc → e.wr = r.wr → e.squashed = true) ∧ r.wr = false) ∧
    (∃ (k i : Nat) (r : Req) (o : Op) (s : State), s.onMain = true ∧ k < 16 ∧ s.flips = [] ∧ s.poison = [] ∧ s.ops = [o] ∧
      (s.skd k).reqs[i]? = some r ∧ r.squashed = false ∧ r.orphan = false ∧ o.ring = r.ring ∧ o.addr = r.desc ∧ o.cut = false ∧
      (∀ e ∈ (s.skd k).reqs.take i, e.ring = r.ring → e.desc = r.desc → e.wr = r.wr → e.squashed = true) ∧ r.wr = true ∧ r.pois = [] ∧
      r.data.length = r.len ∧ bit (s.ac (pVFM r.fn) R.VFM_DIRTY_CFG) 0 = false) :=
  ⟨⟨0, 0, 0, 1, 4, 3, sRing, by decide +kernel⟩, ⟨63, 7, 1, {}, by decide +kernel⟩,
    ⟨0, 0, 0, 1, 3, sRing.setAc (pVFM 0) R.VFM_FN_CFG 0x10002, by decide +kernel⟩,
    ⟨1, 0, [0x20000000, 0x40, 0, 0, 0, 0, 0, 0], { sDesc with qps := [(1, { txTail := 1 })] }, by decide +kernel⟩,
    ⟨4, 1, { (State.setTws {} (qpAddr 4) [0x81000000, 0x00040004, 0x1000, 0, 0x2000, 0]) with qps := [(4, { txTail := 1 })] },
      by decide +kernel⟩,
    ⟨1, 4, oCopy, [], { sRing with ops := [oCopy] }, by decide +kernel⟩,
    ⟨0, 0, rRead, { oCopy with status := none, len := 64 },
      { sRing with ops := [{ oCopy with status := none, len := 64 }],
                   skds := [(0, { reqs := [rRead] })] }, by decide +kernel⟩,
    ⟨0, 0, rWrite, { oCopy with status := none, len := 1, buf := [7] },
      { sRing with ops := [{ oCopy with status := none, len := 1, buf := [7] }],
                   skds := [(0, { reqs := [rWrite] })] }, by decide +kernel⟩⟩

def mMig (k : Nat) : MigMsg := { session := 9, kind := k, switch := 8 }
def xRx (b : Body) : QEntry := { id := 0, frame := { da := 0, sa := 2, et := 0x88B5, size := 64, body := b }, cells := 1, stamp := 0, ing := 0, rsel := 1 }

theorem test_witness_ReceiveAndModeration :
    (∃ (x : QEntry) (rest : List QEntry) (m : MigMsg) (f : Nat) (s : State), s.onMain = true ∧ s.swc.h1rx = x :: rest ∧
      x.oversize = false ∧ x.frame.body = .mig m ∧ s.migFn m = some f) ∧
    (∃ (x : QEntry) (rest : List QEntry) (b : List Byte) (q : Nat) (ws : List Word) (s : State), s.onMain = true ∧
      s.swc.h1rx = x :: rest ∧ x.oversize = false ∧ x.frame.body = .raw b ∧ x.frame.et ≠ 0x88F7 ∧ x.rsel = q ∧ 0 < q ∧ q < 256 ∧
      s.fnHeld (s.qFn q) = false ∧ s.qValid q = true ∧ (s.qp q).rxStop = none ∧ s.unusable (pSKD (s.qSkd q)) = false ∧
      s.ringOps (2 * q + 1) = [] ∧ (s.qp q).rxHead < s.qSize q 1 ∧ (s.qp q).rxTail < s.qSize q 1 ∧ (s.qp q).rxHead ≠ (s.qp q).rxTail ∧
      s.flips = [] ∧ s.poison = [] ∧ (s.fetchDesc q 1 (s.qp q).rxHead).1 = some ws ∧ fld ((ws[0]?).getD 0) 28 4 = 3 ∧
      (frameBytes x.frame).length ≤ ((ws[1]?).getD 0).toNat ∧ ((ws[1]?).getD 0).toNat ≠ 0 ∧
      s.permit (s.qFn q) (((ws[2]?).getD 0).toNat + ((ws[3]?).getD 0).toNat * 2 ^ 32) ((ws[1]?).getD 0).toNat false true = true) ∧
    (∃ (x : QEntry) (rest : List QEntry) (b : List Byte) (q : Nat) (s : State), s.onMain = true ∧
      s.swc.h1rx = x :: rest ∧ x.oversize = false ∧ x.frame.body = .raw b ∧ x.frame.et ≠ 0x88F7 ∧ x.rsel = q ∧ 0 < q ∧ q < 256 ∧
      s.fnHeld (s.qFn q) = false ∧ (s.qp q).rxStop ≠ none) ∧
    (∃ (f l at_ v : Nat) (s : State), s.onMain = true ∧ (s.vf f).itr = [(l, at_, true)] ∧
      v = fld (s.rg (pVFM f) (R.VFM_QP_ROUTE + 4 * l)) 0 8 ∧ at_ ≤ s.clkNs ∧ bit (s.rg (pVFM f) (R.VFM_QP_ROUTE + 4 * l)) 8 = true ∧
      (s.vec v).target = 0 ∧ (s.vec v).mask = false) ∧
    (∃ (f l at_ v : Nat) (s : State), s.onMain = true ∧ (s.vf f).itr = [(l, at_, true)] ∧
      v = fld (s.rg (pVFM f) (R.VFM_QP_ROUTE + 4 * l)) 0 8 ∧ at_ ≤ s.clkNs ∧ bit (s.rg (pVFM f) (R.VFM_QP_ROUTE + 4 * l)) 8 = true ∧
      (s.vec v).target = 2 ∧ (s.vec v).owner ≠ 0 ∧ s.instRuns (s.vec v).owner = false) ∧
    (∃ (f l at_ : Nat) (s : State), s.onMain = true ∧ (s.vf f).itr = [(l, at_, true)] ∧ at_ ≤ s.clkNs ∧
      bit (s.rg (pVFM f) (R.VFM_QP_ROUTE + 4 * l)) 8 = false) ∧
    (∃ (f l at_ : Nat) (s : State), s.onMain = true ∧ (s.vf f).itr = [(l, at_, true)] ∧ s.clkNs < at_) :=
  ⟨⟨xRx (.mig (mMig 2)), [], mMig 2, 1,
      { (State.setAc {} (pVFM 1) R.VFM_MIG_SESSION 9) with
        swc := { h1rx := [xRx (.mig (mMig 2))] }, vfs := [(1, { mig := { state := 4 } })] }, by decide +kernel⟩,
    ⟨xRx (.raw []), [], [], 1, [0x30000000, 0x40, 0, 0, 0, 0, 0, 0],
      { sDesc with swc := { h1rx := [xRx (.raw [])] }, qps := [(1, { rxTail := 1 })] }, by decide +kernel⟩,
    ⟨xRx (.raw []), [], [], 1, { swc := { h1rx := [xRx (.raw [])] }, qps := [(1, { rxStop := some 6 })] }, by decide +kernel⟩,
    ⟨0, 0, 0, 0, { (State.setRg {} (pVFM 0) R.VFM_QP_ROUTE 0x100) with vfs := [(0, { itr := [(0, 0, true)] })] }, by decide⟩,
    ⟨1, 0, 0, 0, { (State.setRg {} (pVFM 1) R.VFM_QP_ROUTE 0x100) with
      vfs := [(1, { itr := [(0, 0, true)] })], vecs := [(0, { target := 2, owner := 1 })] }, by decide⟩,
    ⟨0, 0, 0, { vfs := [(0, { itr := [(0, 0, true)] })] }, by decide⟩,
    ⟨0, 0, 1, { vfs := [(0, { itr := [(0, 1, true)] })] }, by decide⟩⟩

theorem test_witness_ResetsAndDirtyLogs :
    (∃ (f q : Nat) (s : State), s.onMain = true ∧ 0 < f ∧ f < 64 ∧ s.vf f = {} ∧ s.absent (pVFM f) = false ∧ s.kerfBusy f = false ∧
      q < 256 ∧ s.ops = [] ∧ s.qValid q = true ∧ s.unusable (pSKD (s.qSkd q)) = false ∧ (s.qp q).stopped = false ∧
      (s.vf f).swapBusy = false) ∧
    (∃ (f : Nat) (s : State), s.onMain = true ∧ 0 < f ∧ f < 64 ∧ s.vf f = {} ∧ s.absent (pVFM f) = false ∧ s.kerfBusy f = true) ∧
    (∃ (f : Nat) (s : State), s.onMain = true ∧ 0 < f ∧ f < 64 ∧ 1 ≤ (s.vf f).reset ∧ (s.vf f).reset ≤ 3 ∧
      12000 ≤ s.since (s.vf f).resetClk ∧ s.fnReqs f = 0 ∧ (∀ o ∈ s.ops, o.fn ≠ f)) ∧
    (∃ (f : Nat) (s : State), s.onMain = true ∧ 0 < f ∧ f < 64 ∧ 1 ≤ (s.vf f).reset ∧ (s.vf f).reset ≤ 3 ∧
      s.since (s.vf f).resetClk < 12000 ∧ s.fnReqs f ≠ 0) ∧
    (∃ (f : Nat) (s : State), s.onMain = true ∧ 0 < f ∧ f < 64 ∧ s.absent (pVFM f) = false ∧ (s.vf f).swapBusy = true ∧
      ∀ e ∈ s.skds, ∀ r ∈ e.2.reqs, r.fn = f → r.old = false) ∧
    (∃ (f : Nat) (e : Nat × Skd) (r : Req) (s : State), s.onMain = true ∧ 0 < f ∧ f < 64 ∧ e ∈ s.skds ∧ r ∈ e.2.reqs ∧ r.fn = f ∧
      r.old = true) :=
  ⟨⟨1, 1, sRing, by decide⟩, ⟨1, { skds := [(0, { kerf := [(1, 1)] })] }, by decide⟩, ⟨1, { State.atTime {} 0 12000 with vfs := [(1, { reset := 3 })] }, by decide⟩,
    ⟨63, { State.atTime {} 0 11999 with
      vfs := [(63, { reset := 1 })], skds := [(0, { reqs := [{ fn := 63, ring := 2, desc := 0, wr := false, addr := 0, off := 0, len := 1 }] })] },
      by decide⟩,
    ⟨1, { vfs := [(1, { swapBusy := true })] }, by decide⟩,
    ⟨1, (0, { reqs := [{ fn := 1, ring := 2, desc := 0, wr := true, addr := 0, off := 0, len := 1, old := true }] }),
      { fn := 1, ring := 2, desc := 0, wr := true, addr := 0, off := 0, len := 1, old := true },
      { skds := [(0, { reqs := [{ fn := 1, ring := 2, desc := 0, wr := true, addr := 0, off := 0, len := 1, old := true }] })] }, by decide⟩⟩

/-- Function 1 is the source (1) or the destination (2) of a move of cycle 8, key in slot 3. -/
def sMig (role st : Nat) (m : List MigMsg) : State :=
  { (State.setAc {} (pVFM 1) R.VFM_MIG_CFG (w32 (0x300 + role))) with
    vfs := [(1, { mig := { state := st, tick := 8 } })], migIn := m.map (fun x => (1, x)), kslots := [(3, { state := 1, dest := 32 })] }

/-- A message as the key of that slot seals it. -/
def sealedMig (k : Nat) : MigMsg := { mMig k with cipher := (migSeal [] (mMig k)).1, mac := (migSeal [] (mMig k)).2 }

theorem sealedMig_opens (k : Nat) (s : State) (h : (s.useKey (s.migSlot 1) 5).1 = some []) : (s.migOpens 1 (sealedMig k)).1 = true := by
  simp only [State.migOpens, h]
  exact beq_self_eq_true (migSeal [] (mMig k))

theorem test_witness_InstanceMoves :
    (∃ (f : Nat) (s : State), s.onMain = true ∧ 0 < f ∧ f < 64 ∧ s.absent (pVFM f) = false ∧ s.dupEn = false ∧ s.keyDest (s.migSlot f) 5 = true ∧
      s.migSource f = true ∧ s.migDest f = false ∧ bit (s.ac (pVFM f) R.VFM_DIRTY_CFG) 0 = true ∧ s.migLive f = false ∧
      (s.vf f).reset = 0 ∧ (s.inst f).state = 1 ∧ s.ns + 1000000 + s.kerfLen ≤ s.bound (s.untag (s.ac (pVFM f) R.VFM_MIG_TAG))) ∧
    (∃ (f : Nat) (s : State), s.onMain = true ∧ 0 < f ∧ f < 64 ∧ s.absent (pVFM f) = false ∧ s.dupEn = true) ∧
    (∃ (f : Nat) (s : State), s.onMain = true ∧ 0 < f ∧ f < 64 ∧ (s.mig f).state = 1 ∧ s.migSource f = true ∧
      s.cycNow + 1 = (s.mig f).tick ∧ s.inWindows = true ∧ (s.inst f).acts = [] ∧ ((s.inst f).state ≠ 1 ∨ (s.inst f).window ≠ 0) ∧ s.fnReqs f ≠ 0 ∧ s.ops = []) ∧
    (∃ (f : Nat) (x : MigMsg) (rest : List (Nat × MigMsg)) (s : State), s.onMain = true ∧ 0 < f ∧ f < 64 ∧ s.migIn = (f, x) :: rest ∧
      x.switch = s.migTag f ∧ (s.migOpens f x).1 = true ∧ x.kind = 2 ∧ s.migDest f = true ∧ (s.mig f).state = 4 ∧
      (s.mig f).total = none ∧ (∀ y ∈ (s.mig f).staged, y.seq ≠ x.seq) ∧ s.flips = [] ∧ s.poison = [] ∧
      4096 * (x.seq + 1) ≤ (s.ac (pVFM f) R.VFM_MIG_STAGE_SIZE).toNat) ∧
    (∃ (f : Nat) (x : MigMsg) (rest : List (Nat × MigMsg)) (s : State), s.onMain = true ∧ 0 < f ∧ f < 64 ∧ s.migIn = (f, x) :: rest ∧
      x.switch = s.migTag f ∧ (s.migOpens f x).1 = true ∧ x.kind = 5 ∧ s.migSource f = true ∧ (s.mig f).state = 3 ∧
      s.cycNow + 1 < (s.mig f).tick) ∧
    (∃ (f : Nat) (x : MigMsg) (rest : List (Nat × MigMsg)) (s : State), s.onMain = true ∧ 0 < f ∧ f < 64 ∧ s.migIn = (f, x) :: rest ∧
      x.switch = s.migTag f ∧ (s.migOpens f x).1 = true ∧ x.kind = 6 ∧ s.migSource f = true ∧ s.migLive f = true ∧
      s.absent (pVFM f) = false ∧ ∃ key, (s.useKey (s.migSlot f) 5).1 = some key) ∧
    (∃ (f : Nat) (key : List Byte) (s : State), s.onMain = true ∧ 0 < f ∧ f < 64 ∧ (s.useKey (s.migSlot f) 5).1 = some key ∧
      s.migDest f = true ∧ (s.mig f).state = 4 ∧ s.migDeadNs f < s.ns) ∧
    (∃ (f : Nat) (s : State), s.onMain = true ∧ 0 < f ∧ f < 64 ∧ s.migDest f = true ∧ (s.mig f).state = 1 ∧ s.ns ≤ s.migDeadNs f) :=
  ⟨⟨1, { ((sMig 1 0 []).setAc (pVFM 1) R.VFM_DIRTY_CFG 1 |>.setAc (pVFM 1) R.VFM_MIG_TAG 100) with
      cyc := { insts := [(1, { state := 1 })] } }, by decide +kernel⟩,
    ⟨1, (sOn pDUP).setAc pDUP R.DUP_CFG 1, by decide +kernel⟩,
    ⟨1, { (sMig 1 1 []).andOn (pCYC 0) with
      cyc := { cyc := some 7, viewed := true },
      skds := [(0, { reqs := [{ fn := 1, ring := 2, desc := 0, wr := false, addr := 0, off := 0, len := 1 }] })] }, by decide +kernel⟩,
    ⟨1, sealedMig 2, [], (sMig 2 4 [sealedMig 2]).setAc (pVFM 1) R.VFM_MIG_STAGE_SIZE 4096, by decide, by decide, by decide, rfl, rfl,
      sealedMig_opens _ _ rfl, rfl, by decide, by decide, rfl, by simp [State.mig, sMig, State.vf, State.setAc, sget], rfl, rfl, by decide⟩,
    ⟨1, sealedMig 5, [], sMig 1 3 [sealedMig 5], by decide, by decide, by decide, rfl, rfl, sealedMig_opens _ _ rfl, rfl, by decide, by decide,
      by decide⟩,
    ⟨1, sealedMig 6, [], sMig 1 1 [sealedMig 6], by decide, by decide, by decide, rfl, rfl, sealedMig_opens _ _ rfl, rfl, by decide, by decide,
      by decide, [], by decide⟩,
    ⟨1, [], (sMig 2 4 []).atTime 10000000 0, by decide +kernel⟩, ⟨1, sMig 2 1 [], by decide +kernel⟩⟩

/-- Engine 0 enabled, the run of tick 4 next, no interval. -/
def sTal (pts : List (Nat × TPt)) : State :=
  { sOn (pTAL 0) with sva := { finals := [(4, false, 0)] }, tals := [(0, { pts := pts, lastRun := some 3 })] }

theorem test_witness_Tally :
    (∃ (e k done : Nat) (s : State), s.onMain = true ∧ e < 8 ∧ s.talNext e = some (k, done) ∧ s.talLive e = true ∧
      (s.te e).endClk ≤ s.tsu.clk ∧ s.dup.state ≠ 3 ∧ s.answered = none ∧ s.ivlPts e = [] ∧ (s.te e).lastRun = some (k - 1) ∧ 0 < k ∧
      (s.te e).pts = []) ∧
    (∃ (e k done l : Nat) (p : TPt) (s : State), s.onMain = true ∧ e < 8 ∧ s.talNext e = some (k, done) ∧ s.talLive e = true ∧
      (s.te e).endClk ≤ s.tsu.clk ∧ s.dup.state ≠ 3 ∧ s.answered = none ∧ s.ivlPts e = [] ∧ (s.te e).lastRun = some (k - 1) ∧ 0 < k ∧
      (s.te e).pts = [(l, p)] ∧ l < 48 ∧ p.state = 2 ∧ p.startNs = none ∧ s.ptProg e l < 4096 ∧ iOp (s.progW e (s.ptProg e l)) = 0 ∧
      ∀ i, i < 8 → lnMode (s.ptLine e l i) ≠ 2) ∧
    (∃ (e : Nat) (s : State), s.onMain = true ∧ s.talNext e = none) ∧
    (∃ (n : Nat) (s : State), s.onMain = true ∧ n < 8 ∧ (s.dfo n).pulse = true ∧ (s.dfo n).endClk ≤ s.tsu.clk) ∧
    (∃ (n : Nat) (s : State), s.onMain = true ∧ s.tsu.clk < (s.dfo n).endClk) ∧
    (∃ (e l : Nat) (s : State), s.onMain = true ∧ e < 8 ∧ l < 48 ∧ s.unusable (pTAL e) = false ∧ (s.tp e l).state = 0 ∧
      (s.tp e l).startNs = none ∧ s.talStartCheck e l (s.talRunning e) = none) ∧
    (∃ (e l : Nat) (s : State), s.onMain = true ∧ e < 8 ∧ l < 48 ∧ s.unusable (pTAL e) = false ∧ (s.tp e l).state ≠ 0) ∧
    (∃ (e : Nat) (s : State), s.onMain = true ∧ e < 8 ∧ s.unusable (pTAL e) = false ∧ (s.hd (pTAL e)).unlocked = true ∧
      (s.te e).noValid = true) ∧
    (∃ (e l : Nat) (s : State), s.onMain = true ∧ e < 8 ∧ l < 48 ∧ s.unusable (pTAL e) = false ∧ (s.hd (pTAL e)).unlocked = true ∧
      (s.te e).noValid = false ∧ (s.tp e l).state = 0 ∧ (s.tp e l).startNs = none) ∧
    (∃ (e : Nat) (s : State), s.onMain = true ∧ e < 8 ∧ s.unusable (pTAL e) = true) ∧
    (∃ (e : Nat) (s : State), s.onMain = true ∧ e < 8 ∧ s.unusable (pTAL e) = false ∧ (s.hd (pTAL e)).unlocked = false) ∧
    (∃ (e : Nat) (v : TSave) (s : State), s.onMain = true ∧ e < 8 ∧ (s.te e).saves = [v] ∧ (∀ o, o < e → (s.te o).saves = []) ∧
      v.final = false ∧ v.bytes.length = 11744) ∧
    (∃ (e : Nat) (s : State), s.onMain = true ∧ e < 8 ∧ (s.te e).saves = []) :=
  ⟨⟨0, 4, 0, sTal [], by decide +kernel⟩, ⟨0, 4, 0, 47, { state := 2 }, sTal [(47, { state := 2 })], by decide +kernel⟩, ⟨0, {}, by decide⟩,
    ⟨7, { dfos := [(7, { pulse := true })] }, by decide⟩, ⟨0, { dfos := [(0, { endClk := 1 })] }, by decide⟩,
    ⟨0, 0, { State.setTws {} 0x00E14000 [0x81000000, 0, 16] with tals := [(0, { noValid := false })] }, by decide +kernel⟩, ⟨0, 47, sTal [(47, { state := 1 })], by decide⟩,
    ⟨0, { sHd (pTAL 0) { unlocked := true } with tals := [(0, { noValid := true })] }, by decide⟩,
    ⟨7, 0, { sHd (pTAL 7) { unlocked := true } with tals := [(7, { noValid := false })] }, by decide⟩,
    ⟨4, { ident := { code := .yv32 } }, by decide⟩, ⟨0, {}, by decide⟩,
    ⟨1, { area := 0, seq := 1, tick := 1, final := false, bytes := List.replicate 11744 0 },
      { tals := [(1, { saves := [{ area := 0, seq := 1, tick := 1, final := false, bytes := List.replicate 11744 0 }] })] },
      rfl, by decide, rfl, by decide, rfl, List.length_replicate⟩,
    ⟨0, {}, by decide⟩⟩
end

