-- ==== Sys2Proof/Tests/Slice0.lean ====
section
/-!
SUPPORT. Tests: ill-formed commands are refused, single steps on small states, and for each statement a state and operands
that meet the hypotheses of its clauses. A test with expected values takes them from the rule its comment names.
-/
open Sys2Proof Sys2Proof.Machine
/-! ### The queue, the gate and the supplies -/

/-- A module without any supply. -/
def sOff : State := { pwr := { phase := .off, vmainOk := false, vauxOk := false } }

theorem test_witness_OffModuleDoesNothing :
    ∃ (c : Instr) (s : State), s.pwr.phase = .off ∧ (∀ b, c ≠ .powerOnReset b) ∧ c ≠ .vauxReturn :=
  ⟨.latch, sOff, rfl, (fun _ h => by cases h), by decide⟩

theorem test_witness_OffStaysOff :
    ∃ s t : State, s.pwr.phase = .off ∧ (∀ c ∈ s.pending, (∀ b, c ≠ .powerOnReset b) ∧ c ≠ .vauxReturn) ∧ step s = .next t := by
  refine ⟨{ sOff with pending := [.latch] }, sOff, rfl, ?_, rfl⟩
  intro c h
  cases List.mem_singleton.1 h
  exact ⟨(fun _ h => by cases h), by decide⟩

theorem test_witness_StepTakesFrontCommand : ∃ s : State, s.pending = [] := ⟨{}, rfl⟩

/-! ### Registers and pages (chapter 2) -/

theorem test_witness_BadAccessOnlyCounts :
    (∃ (m a width : Nat) (s : State), s.onMain = true ∧ ¬(width = 4 ∧ reaches m a = true)) ∧
      (∃ (m a width : Nat) (s : State), s.onMain = true ∧ width = 4 ∧ reaches m a = true) :=
  ⟨⟨0, 0x100, 2, {}, by decide⟩, ⟨0, 0x20040, 4, {}, by decide⟩⟩

theorem test_witness_RwsWriteChangesShadowOnly :
    ∃ (m a : Nat) (v : Word) (r : RegDef) (n : Nat) (s : State), rowOf (a / 4096) (a % 4096) = some (r, n, false) ∧
      s.onMain = true ∧ isVf m = false ∧ reaches m a = true ∧ 0x030 ≤ a % 4096 ∧ r.acc = .rws ∧ r.wide = false ∧
      (s.touch (a / 4096)).cmdWrite (a / 4096) (a % 4096) v = none ∧ (s.hd (headPage (a / 4096))).commitPending = false ∧
      (s.hd (headPage (a / 4096))).unlocked = true ∧ a / 4096 ≠ pRST ∧ a / 4096 ≠ pTMP ∧ a / 4096 ≠ pSHF ∧
      wrRange (a / 4096) (a % 4096) r v (v &&& w32 r.mask).toNat = false ∧
      (s.touch (a / 4096)).ringRouteBad (a / 4096) (a % 4096) v = false :=
  ⟨0, 0x20040, 1, _, _, sHd pMEM { unlocked := true }, rfl, rfl, by decide⟩

/-! ### Well-formed and ill-formed commands -/

/-- Commands whose operands lie in their ranges. -/
theorem test_wf_1 :
    ([
    .badAccess 0 0 4 false, .regWrite 0 0 0, .reg64LowRead 0 0, .reg64HighWrite 0 0 0, .rwsWrite 0 0 0, .enable 0 0 0,
    .softReset 0 0 0, .commit 0 0 0, .commitApply 0, .stop 0 0 0, .start 0 0 0, .cntSnapshot 0 0 0, .cntClear 0 0 0,
    .irqStatusClear 0 0 0, .irqForce 0 0 0, .irqRouteWrite 0 0 0, .lockWrite 0 0 0, .lockTimeout 0, .tblRead 0 0, .tblWrite 0 0,
    .tblOpDone 0, .unitFence 0, .moduleFail 0 0, .frameRx 0 { da := 1, sa := 2, et := 3, size := 64 }, .pauseExpiry 0,
    .pauseWdog 0, .pauseHoldoffEnd 0, .h1Post, .portFrameSelect 0, .frameTxDone 0, .linkUp 0, .linkDown 0, .gateEntryAdvance 0,
    .gateBankSwitch 0, .fdbAgeOut 0, .dupEntryForget 0, .supervisionSend 0, .cageSupplyTrip 0, .macTsfPop 0, .tickStart
    ] : List Instr).all (fun i => i.wf) = true := by decide

/-- Commands whose operands lie in their ranges. -/
theorem test_wf_2 :
    ([
    .tsuAdjRate 0, .tsuAdjPhase 0, .slewDone, .latch, .step, .locked, .hold, .release, .discWdog, .holdUpdate 0, .toEdge 0,
    .toPulseEnd 0, .tiEdge 0 false 4, .tsuTiPop 0, .tcSyncEntryRelease, .svFrameDecode 0, .svaStrPop, .tickClose, .partnerMapRx,
    .agreeWaitExpiry, .fltTickRun 0, .fltChainStart 0 0, .fltChainStop 0 0, .clearSat 0 0, .fltRefCmd 0 0, .fltEvtPop 0,
    .adcScanStart 0 0, .adcConversionDone 0 0, .shuntTrip 0, .shuntClose 0, .urgent 0, .cal 0,
    .calDone 0 [0, 0, 0, 0, 0] [0, 0, 0, 0, 0] 0, .adcDataRead 0, .cycleStart, .snapWaitEnd, .windowStart ⟨0, []⟩, .windowEnd 0,
    .activationEnd 0 0, .pointWrite 0 0 0 0 0 none
    ] : List Instr).all (fun i => i.wf) = true := by decide

/-- Commands whose operands lie in their ranges. -/
theorem test_wf_3 :
    ([
    .kerfStart 0, .piRead, .piWrite false, .piDirectoryWrite, .instStart 0, .instStop 0, .restart 0,
    .prepare 0 1, .prepareDone, .arm, .abort, .olcRelease, .olcHeldCycleEnd, .gooseRx, .gooseExpired 0,
    .ringTailWrite 0 0 0 0, .descriptorFetch 0, .skidderReturn 0 0, .descriptorComplete 0, .h1RxDeliver, .itrExpiry 0 0,
    .resetDrain 0, .resetSquash 0, .resetTagTimeout 0, .resetDone 0, .swapLog 0, .swapLogDone 0, .migArm 0, .migAbort 0,
    .qpRestart 0, .qpStop 0, .migFreeze 0, .migFrameRx, .migDeadline 0, .migAckRx, .migAbortRx, .talTickRun 0, .saveWriteDone 0,
    .talPointStart 0 0, .talPointStop 0 0
    ] : List Instr).all (fun i => i.wf) = true := by decide

/-- Commands whose operands lie in their ranges. -/
theorem test_wf_4 :
    ([
    .talClearSat 0 0, .saveNow 0, .zeroPoint 0 0, .acceptEmpty 0, .dfoPulseEnd 0, .safetyCycle {} {} false, .safetyReqVector,
    .outputOverload 0, .faultAck 0, .safetySelftestDone, .acqTickBlock, .chokeStep, .flashUnitWrite 0, .acqSetStart 0,
    .acqSetStop 0, .trigger 0, .resume 0, .acqXtrigCmd 0, .rescan, .acqRecRelease 0, .acqRecPop, .evrPost 0, .postDone,
    .hwRecordSubmit, .privRecordWrite, .privLossRecord, .privMirror, .flush, .flushDone, .evrPrivRelease 0, .dupSyncRx, .mirrorRx,
    .rstateRx, .configDiverge, .pairingTimeout, .resync, .swap, .take, .preferredReturn, .go
    ] : List Instr).all (fun i => i.wf) = true := by decide

/-- Commands whose operands lie in their ranges. -/
theorem test_wf_5 :
    ([
    .cruiserRead 0, .partialWrite 0 [1] 0 0, .lapWarn 0, .memInjCmd 0, .clearSaved, .memLogPop, .flashWear 0 0, .derive 0,
    .stage 0, .verify 0, .ksuCommit 0, .abortStage 0, .unwrap 0 0, .msg 0, .invalidate 0, .sign 0, .pubkey 0 0, .saveBlob 0,
    .loadBlob 0, .extend 0, .lockMr 0, .run, .setOwner, .opDone, .tamperDetect 0 0, .tamperClear 0 0, .tamperHoldEnd, .ack,
    .powerFailWarning false, .pfwCleared, .flushEnd, .shedRecover {}, .storeEmpty, .abruptLoss false, .holdupReady 0, .vauxLow,
    .overtempShutdown, .powerOnReset {}, .warm, .cold
    ] : List Instr).all (fun i => i.wf) = true := by decide

/-- Commands whose operands lie in their ranges. -/
theorem test_wf_6 :
    ([
    .warmReset, .rstWdogKick 0, .wdogExpiry, .buttonPress false, .resetHoldRelease, .stuckClear false, .perstN, .announceSend,
    .announceRx, .slotLost 0, .slotConflictEnd 0, .mgrTakeover, .hostWindowAccess 0 0 0 false [{}], .windowFrameSend 0,
    .windowFrameRx, .windowResponseRx, .windowRetryTimeout 0, .windowReadTimeout 0, .intrFrameRx, .forget 0, .ackReset 0,
    .hltSample (List.replicate 8 0) (List.replicate 6 .absent), .hltRestart 0, .soReplaced 0, .mgrLost, .sfpRefit 0,
    .keepAliveOff, .vauxReturn, .buttonRelease false
    ] : List Instr).all (fun i => i.wf) = true := by decide

/-- Commands that differ from a well-formed one in one operand, beyond its range: each check refuses them. -/
theorem test_illformed_1 :
    ([
    .badAccess 65 0 4 false, .badAccess 0 0 0 false, .regWrite 65 0 0, .regWrite 0 0x00800000 0, .regWrite 0 2 0,
    .reg64LowRead 65 0, .reg64LowRead 0 0x00800000, .reg64LowRead 0 2, .reg64HighWrite 65 0 0, .reg64HighWrite 0 0x00800000 0,
    .reg64HighWrite 0 2 0, .rwsWrite 65 0 0, .rwsWrite 0 0x00800000 0, .rwsWrite 0 2 0, .enable 65 0 0, .enable 0 2048 0,
    .softReset 65 0 0, .softReset 0 2048 0, .commit 65 0 0, .commit 0 2048 0, .commitApply 2048, .stop 65 0 0, .stop 0 2048 0,
    .start 65 0 0, .start 0 2048 0, .cntSnapshot 65 0 0, .cntSnapshot 0 2048 0, .cntClear 65 0 0, .cntClear 0 2048 0,
    .irqStatusClear 65 0 0, .irqStatusClear 0 2048 0, .irqForce 65 0 0, .irqForce 0 2048 0, .irqRouteWrite 65 0 0,
    .irqRouteWrite 0 2048 0, .lockWrite 65 0 0, .lockWrite 0 2048 0, .lockTimeout 2048, .tblRead 65 0, .tblRead 0 2048
    ] : List Instr).all (fun i => !i.wf) = true := by decide

/-- Commands that differ from a well-formed one in one operand, beyond its range: each check refuses them. -/
theorem test_illformed_2 :
    ([
    .tblWrite 65 0, .tblWrite 0 2048, .tblOpDone 2048, .unitFence 2048, .moduleFail 2048 0, .moduleFail 0 256,
    .frameRx 11 { da := 1, sa := 2, et := 3, size := 64 }, .frameRx 0 { da := 2 ^ 48, sa := 2, et := 3, size := 64 },
    .frameRx 0 { da := 1, sa := 2 ^ 48, et := 3, size := 64 }, .frameRx 0 { da := 1, sa := 2, et := 2 ^ 16, size := 64 },
    .frameRx 0 { da := 1, sa := 2, et := 3, size := 2 ^ 16 },
    .frameRx 0 { da := 1, sa := 2, et := 3, size := 64, vlan := some (8, 1) },
    .frameRx 0 { da := 1, sa := 2, et := 3, size := 64, vlan := some (0, 4096) }, .pauseExpiry 10, .pauseWdog 10,
    .pauseHoldoffEnd 10, .portFrameSelect 12, .frameTxDone 12, .linkUp 10, .linkDown 10, .gateEntryAdvance 12, .gateBankSwitch 12,
    .fdbAgeOut 32768, .dupEntryForget 4096, .supervisionSend 4, .cageSupplyTrip 6, .macTsfPop 10, .toEdge 4, .toPulseEnd 4,
    .tiEdge 4 false 4, .svFrameDecode 4, .fltTickRun 64, .fltChainStart 64 0, .fltChainStart 0 128, .fltChainStop 64 0,
    .fltChainStop 0 128, .clearSat 64 0, .clearSat 0 128, .fltRefCmd 64 0, .fltEvtPop 64
    ] : List Instr).all (fun i => !i.wf) = true := by decide

/-- Commands that differ from a well-formed one in one operand, beyond its range: each check refuses them. -/
theorem test_illformed_3 :
    ([
    .adcScanStart 2 0, .adcConversionDone 2 0, .shuntTrip 12, .shuntClose 2, .urgent 2, .cal 2,
    .calDone 2 [0, 0, 0, 0, 0] [0, 0, 0, 0, 0] 0, .calDone 0 [] [0, 0, 0, 0, 0] 0, .calDone 0 [0, 0, 0, 0, 0] [] 0,
    .adcDataRead 2, .windowStart ⟨64, []⟩, .windowStart ⟨0, [2 ^ 40]⟩, .windowEnd 64, .prepare 65 1, .activationEnd 64 0, .activationEnd 0 9, .pointWrite 64 0 0 0 0 none,
    .pointWrite 0 9 0 0 0 none, .pointWrite 0 0 (2 ^ 20) 0 0 none, .pointWrite 0 0 0 (2 ^ 64) 0 none,
    .pointWrite 0 0 0 0 (2 ^ 32) none, .instStart 64, .instStop 64, .restart 64, .gooseExpired 1024, .ringTailWrite 64 0 0 0,
    .ringTailWrite 0 8 0 0, .ringTailWrite 0 0 2 0, .ringTailWrite 0 0 0 4096, .descriptorFetch 256, .skidderReturn 16 0,
    .descriptorComplete 512, .itrExpiry 64 0, .itrExpiry 0 8, .resetDrain 64, .resetSquash 64, .resetTagTimeout 64, .resetDone 64,
    .swapLog 64, .swapLogDone 64, .migArm 64, .migAbort 64
    ] : List Instr).all (fun i => !i.wf) = true := by decide

/-- Commands that differ from a well-formed one in one operand, beyond its range: each check refuses them. -/
theorem test_illformed_4 :
    ([
    .qpRestart 256, .qpStop 256, .migFreeze 64, .migDeadline 64, .talTickRun 8, .saveWriteDone 8, .talPointStart 8 0,
    .talPointStart 0 64, .talPointStop 8 0, .talPointStop 0 64, .talClearSat 8 0, .talClearSat 0 64, .saveNow 8, .zeroPoint 8 0,
    .zeroPoint 0 64, .acceptEmpty 8, .dfoPulseEnd 8, .safetyCycle { sia := 2 ^ 16 } {} false,
    .safetyCycle { sib := 2 ^ 16 } {} false, .safetyCycle { edm := 2 ^ 8 } {} false, .safetyCycle { sw := 2 ^ 8 } {} false,
    .safetyCycle {} { sia := 2 ^ 16 } false, .safetyCycle {} { sib := 2 ^ 16 } false, .safetyCycle {} { edm := 2 ^ 8 } false,
    .safetyCycle {} { sw := 2 ^ 8 } false, .outputOverload 8, .faultAck 256, .flashUnitWrite 65536, .acqSetStart 4, .acqSetStop 4,
    .trigger 4, .resume 4, .cruiserRead 4, .partialWrite (2 ^ 40) [1] 0 0, .partialWrite 0 [] 0 0,
    .partialWrite 0 (List.replicate 9 0) 0 0, .lapWarn 4, .flashWear 10001 0, .derive 256, .stage 256
    ] : List Instr).all (fun i => !i.wf) = true := by decide

/-- Commands that differ from a well-formed one in one operand, beyond its range: each check refuses them. -/
theorem test_illformed_5 :
    ([
    .verify 256, .ksuCommit 256, .abortStage 256, .unwrap 256 0, .unwrap 0 256, .msg 256, .invalidate 256, .sign 256,
    .pubkey 256 0, .pubkey 0 256, .saveBlob 256, .loadBlob 256, .extend 256, .lockMr 256, .tamperDetect 6 0, .tamperClear 6 0,
    .shedRecover { slot := 64 }, .shedRecover { shelf := 64 }, .shedRecover { pufErr := 1001 }, .shedRecover { failed := [2048] },
    .powerOnReset { slot := 64 }, .powerOnReset { shelf := 64 }, .powerOnReset { pufErr := 1001 },
    .powerOnReset { failed := [2048] }, .slotLost 64, .slotConflictEnd 64, .hostWindowAccess 1 0 0 false [{}],
    .hostWindowAccess 0 0 2 false [{}], .hostWindowAccess 0 0 0 false [], .hostWindowAccess 0 0 0 false [{ data := 2 ^ 32 }],
    .windowFrameSend 64, .windowRetryTimeout 64, .windowReadTimeout 64, .forget 64, .ackReset 64,
    .hltSample [] (List.replicate 6 .absent), .hltSample (List.replicate 8 0) [], .hltRestart 32, .soReplaced 32, .sfpRefit 6
    ] : List Instr).all (fun i => !i.wf) = true := by decide

/-- The table of operations and events gives no row any bits. -/
theorem test_no_word_spells_a_command (n w : Nat) : decodeTableWord n w = none := rfl

theorem test_witness_Commits :
    (∃ (m a : Nat) (v : Word) (r : RegDef) (n : Nat) (s : State), rowOf (a / 4096) (a % 4096) = some (r, n, false) ∧ s.onMain = true ∧
      isVf m = false ∧ reaches m a = true ∧ 0x030 ≤ a % 4096 ∧ r.acc = .rws ∧ a / 4096 ≠ pRST ∧
      (s.touch (a / 4096)).cmdWrite (a / 4096) (a % 4096) v = none ∧ (s.hd (headPage (a / 4096))).commitPending = true ∧
      (s.hd (headPage (a / 4096))).unlocked = true) ∧
    (∃ (m p : Nat) (v : Word) (s : State), s.onMain = true ∧ isVf m = false ∧ p < 4096 ∧ (pageBlock p).isSome = true ∧ headPage p = p ∧
      v = w32 (b2n (s.hd p).enable + 128 * b2n (s.hd p).activeView) ∧ p ≠ pHWS 0 ∧ (s.hd p).commitPending = true) ∧
    (∃ (m p : Nat) (v : Word) (q off c : Nat) (s : State), (s.touch p).commitCheck p = some (q, off, c) ∧ s.onMain = true ∧ isVf m = false ∧
      p < 4096 ∧ (pageBlock p).isSome = true ∧ headPage p = p ∧ v = w32 (b2n (s.hd p).enable + 128 * b2n (s.hd p).activeView) ∧
      p ≠ pHWS 0 ∧ (s.hd p).commitPending = false) ∧
    (∃ (m p : Nat) (v : Word) (s : State), (s.touch p).commitCheck p = none ∧ s.onMain = true ∧ isVf m = false ∧ p < 4096 ∧
      (pageBlock p).isSome = true ∧ headPage p = p ∧ v = w32 (b2n (s.hd p).enable + 128 * b2n (s.hd p).activeView) ∧ p ≠ pHWS 0 ∧
      (s.hd p).commitPending = false ∧ (s.touch p).commitWaits p = true) ∧
    (∃ (p : Nat) (s : State), s.onMain = true ∧ p ∈ [pMEM, pCRU, pPWR, pKSU, pTMP, pEVR, pHLT, pSHF] ∧ (s.hd p).commitPending = true ∧
      s.boundary p (s.hd p).commitNs = true) :=
  ⟨⟨0, 0x20040, 1, _, _, sHd pMEM { unlocked := true, commitPending := true }, rfl, rfl, by decide⟩,
    ⟨0, pMEM, 0, sHd pMEM { commitPending := true }, by decide⟩,
    ⟨0, pTSU, 0, _, _, _, State.setRg {} pTSU R.TSU_DISC_WDOG 0xFFFF, rfl, by decide⟩,
    ⟨0, pEVR, 0, {}, by decide⟩,
    ⟨pMEM, sHd pMEM { commitPending := true }, by decide⟩⟩

theorem test_witness_WideRegisters :
    (∃ (m p off : Nat) (lo hi : Word) (r : RegDef) (n k : Nat) (s : State), rowOf p off = some (r, n, false) ∧
      rowOf p (off + 4) = some (r, k, true) ∧ (∀ u : State, u.cmdWrite p (off + 4) hi = none) ∧
      s.onMain = true ∧ isVf m = false ∧ off + 4 < 4096 ∧ 0x030 ≤ off ∧
      reaches m (ka p off) = true ∧ reaches m (ka p (off + 4)) = true ∧ r.wide = true ∧ (r.acc = .rw ∨ r.acc = .rws) ∧
      (pageBlock p = some (.tsu, 0) ∨ pageBlock p = some (.mem, 0) ∨ pageBlock p = some (.evr, 0)) ∧
      (s.touch p).cmdWrite p off lo = none ∧ (s.hd (headPage p)).commitPending = false ∧ (s.hd (headPage p)).unlocked = true ∧ r.rngs = []) ∧
    (∃ (m a : Nat) (s : State), s.onMain = true ∧ reaches m a = true ∧ wideAt (a / 4096) (a % 4096) = some false ∧
      reaches m (a + 4) = true ∧ wideAt ((a + 4) / 4096) ((a + 4) % 4096) = some true ∧ (a + 4) / 4096 = a / 4096 ∧
      a % 4096 ≠ R.ADC_DATA ∧ (a + 4) % 4096 ≠ R.ADC_DATA ∧ swf (fun _ => (0 : Word)) (s.lat.map (fun e => (e.1, 1#32))) = true) :=
  ⟨⟨0, pMEM, R.MEM_INJ_ADDR, 1, 2, _, _, _, sHd pMEM { unlocked := true }, rfl, rfl, fun _ => rfl, by decide⟩,
    ⟨0, ka pMEM R.MEM_INJ_ADDR, {}, by decide⟩⟩

theorem test_witness_InterruptRegisters :
    (∃ (m p : Nat) (v : Word) (s : State), s.onMain = true ∧ isVf m = false ∧ p < 4096 ∧ (pageBlock p).isSome = true ∧
      (∀ f, pageBlock p = some (.vfm, f) → f = 0 ∨ (s.vec (fld v 0 8)).owner = f)) ∧
    (∃ (m p f : Nat) (v : Word) (s : State), s.onMain = true ∧ isVf m = false ∧ p < 4096 ∧ (pageBlock p).isSome = true ∧
      pageBlock p = some (.vfm, f) ∧ f ≠ 0 ∧ (s.vec (fld v 0 8)).owner ≠ f) :=
  ⟨⟨0, pMEM, 0x105, {}, by decide, by decide, by decide, by decide, fun f h => by
      have : pageBlock pMEM = some (.mem, 0) := rfl
      rw [this] at h
      cases h⟩,
    ⟨0, pVFM 1, 1, 0x105, {}, by decide⟩⟩

theorem test_witness_LockSequence :
    ∃ (m p : Nat) (s : State), s.onMain = true ∧ isVf m = false ∧ p < 4096 ∧ (pageBlock p).isSome = true ∧ headPage p = p ∧
      (s.hd p).lockSeen = true ∧ (s.hd p).unlocked = true ∧ msClk 1000 ≤ s.tsu.clk - (s.hd p).unlockClk :=
  ⟨0, pMEM, { sHd pMEM { lockSeen := true, unlocked := true } with tsu := { clk := 250000000 } }, by decide⟩

theorem test_witness_EnableStartAndStop :
    (∃ (m p : Nat) (v : Word) (s : State), s.onMain = true ∧ isVf m = false ∧ p < 4096 ∧ (pageBlock p).isSome = true ∧ headPage p = p ∧
      (v.toNat = v.toNat % 2 ∨ v.toNat = 128 + v.toNat % 2) ∧ (s.hd p).commitPending = false ∧ p ≠ pDUP) ∧
    (∃ (m : Nat) (v : Word) (s : State), s.onMain = true ∧ isVf m = false ∧ v = w32 (b2n (s.hd pSVA).enable) ∧
      (s.hd pSVA).activeView = false ∧ (s.hd pSVA).enable = false) ∧
    (∃ (m : Nat) (v : Word) (s : State), s.onMain = true ∧ isVf m = false ∧ v = w32 (b2n (s.hd pSVA).enable) ∧
      (s.hd pSVA).activeView = false ∧ (s.hd pSVA).enable = true ∧ s.unusable pSVA = false ∧ s.running pSVA = true) :=
  ⟨⟨0, pSVA, 1, {}, by decide⟩, ⟨0, 0, {}, by decide⟩, ⟨0, 1, sHd pSVA { enable := true, started := true }, by decide⟩⟩

theorem test_witness_SoftResetRestoresConfiguration :
    ∃ (m p : Nat) (s : State), s.onMain = true ∧ isVf m = false ∧ p ∈ [pMEM, pCRU, pPWR, pKSU, pEVR, pHLT, pSHF] ∧
      (s.hd p).enable = false ∧ s.unusable p = false := ⟨0, pSHF, {}, by decide⟩

theorem test_witness_CounterCommands :
    ∃ (m p : Nat) (v : Word) (s : State), s.onMain = true ∧ isVf m = false ∧ p ∈ [pMEM, pPWR, pKSU, pEVR, pHLT, pTSU, pRST] ∧
      v = w32 (b2n (s.hd p).enable + 128 * b2n (s.hd p).activeView) ∧ swf (fun _ => 0) s.cnts = true := ⟨0, pRST, 0, {}, by decide⟩

theorem test_witness_TableWindow :
    (∃ (m p : Nat) (t0 : Tab) (e n : Nat) (s : State), tabAt p (s.win p).addr = some (t0, e, n) ∧ s.onMain = true ∧ isVf m = false ∧
      p < 4096 ∧ (pageCaps p).testBit 2 = true ∧ (pageBlock p).isSome = true ∧ headPage p = p ∧ (s.win p).busy = false ∧ t0.size ≤ 128 ∧
      n = 0) ∧
    (∃ (m p : Nat) (t0 : Tab) (e : Nat) (s : State), tabAt p (s.win p).addr = some (t0, e, 0) ∧ s.onMain = true ∧ isVf m = false ∧
      p < 4096 ∧ (pageCaps p).testBit 2 = true ∧ (pageBlock p).isSome = true ∧ headPage p = p ∧ (s.win p).busy = false ∧
      (s.win p).asm = none ∧ t0.size ≤ 128 ∧ t0.ro = false ∧ t0.words * 4 = t0.size ∧ (t0.prot = true → (s.hd p).unlocked = true) ∧
      s.tblFenced p = false ∧ s.tblCommitting p e = false ∧ (s.touch p).entryCheck p e (s.maskEntry e ((s.win p).take t0.words)) = none) ∧
    (∃ (m p : Nat) (s : State), s.onMain = true ∧ isVf m = false ∧ p < 4096 ∧ (pageCaps p).testBit 2 = true ∧
      (pageBlock p).isSome = true ∧ headPage p = p ∧ (s.win p).busy = true ∧ (s.win p).pend = none) ∧
    (∃ (m p e : Nat) (ws : List Word) (s : State), (s.win p).pend = some (e, ws) ∧ s.onMain = true ∧ isVf m = false ∧ p < 4096 ∧
      (pageCaps p).testBit 2 = true ∧ (pageBlock p).isSome = true ∧ headPage p = p ∧ (p = pDUP ∨ p = pSWC) ∧ (s.win p).busy = true) :=
  ⟨⟨0, pMEM, { base := 0x00FC0000, stop := 0x00FC3200, size := 16 }, 0x00FC0000, 0, { wins := [(pMEM, { addr := 0x00FC0000 })] },
      by decide⟩,
    ⟨0, pSVA, { base := 0x00A10000, stop := 0x00A20000, size := 16 }, 0x00A10000, { wins := [(pSVA, { addr := 0x00A10000 })] },
      by decide⟩,
    ⟨0, pMEM, { wins := [(pMEM, { busy := true })] }, by decide⟩,
    ⟨0, pSWC, 0x0091C000, [0], { wins := [(pSWC, { busy := true, pend := some (0x0091C000, [0]) })] }, rfl, by decide⟩⟩

theorem test_witness_PausesAndGates :
    (∃ (p : Nat) (s : State), s.onMain = true ∧ (s.mac p).paused = true ∧ (s.mac p).pauseEndClk ≤ s.tsu.clk ∧ (s.mac p).pauseWait = false ∧
      fld (s.ac (pMAC p) R.MAC_PAUSE) 0 16 ≠ 0 ∧ msClk (fld (s.ac (pMAC p) R.MAC_PAUSE) 0 16) < s.since (s.mac p).pauseStartClk ∧
      (s.mac p).holdoff = true ∧ (s.mac p).holdoffEndClk ≤ s.tsu.clk) ∧
    (∃ (p : Nat) (s : State), s.onMain = true ∧ s.tsu.clk < (s.mac p).pauseEndClk ∧ fld (s.ac (pMAC p) R.MAC_PAUSE) 0 16 = 0) ∧
    (∃ (e : Nat) (s : State), s.onMain = true ∧ s.running pSWC = true ∧ (s.eg e).gateOn = true ∧ (s.eg e).gateBase ≤ s.ns) ∧
    (∃ (e start : Nat) (s : State), s.onMain = true ∧ s.running pSWC = true ∧ (s.ac (pEG e) R.SWC_GATE_CYCLE).toNat = 1000 ∧
      start = s.gateBaseNs e + cdiv ((s.eg e).gateReqNs - s.gateBaseNs e) 1000 * 1000 ∧ (s.eg e).gatePending = true ∧
      bit (s.ac (pEG e) R.SWC_GATE_CTRL) 0 = true ∧ start ≤ s.ns) ∧
    (∃ (e start : Nat) (s : State), s.onMain = true ∧ s.running pSWC = true ∧ (s.ac (pEG e) R.SWC_GATE_CYCLE).toNat = 1000 ∧
      start = s.gateBaseNs e + cdiv ((s.eg e).gateReqNs - s.gateBaseNs e) 1000 * 1000 ∧ (s.eg e).gatePending = true ∧
      bit (s.ac (pEG e) R.SWC_GATE_CTRL) 0 = true ∧ s.ns < start) :=
  ⟨⟨0, (sNet.setAc (pMAC 0) R.MAC_PAUSE 1 |>.setMac 0 { paused := true, holdoff := true }).atTime 0 250001, by decide⟩,
    ⟨0, (sNet.setAc (pMAC 0) R.MAC_PAUSE 0).setMac 0 { pauseEndClk := 1 }, by decide⟩,
    ⟨0, sNet.setEg 0 { gateOn := true }, by decide⟩,
    ⟨0, 1000, ((sNet.setAc (pEG 0) R.SWC_GATE_CYCLE 1000).setAc (pEG 0) R.SWC_GATE_CTRL 1 |>.setEg 0
      { gatePending := true, gateReqNs := 1 }).atTime 1000 0, by decide⟩,
    ⟨0, 1000, ((sNet.setAc (pEG 0) R.SWC_GATE_CYCLE 1000).setAc (pEG 0) R.SWC_GATE_CTRL 1 |>.setEg 0
      { gatePending := true, gateReqNs := 1 }).atTime 999 0, by decide⟩⟩

theorem test_witness_LinksAndCages :
    (∃ (p : Nat) (s : State), s.onMain = true ∧ p ≤ 9 ∧ (s.mac p).linkUp = false ∧ s.macRuns p = true ∧ (s.mac p).supplyOff = false) ∧
    (∃ (p : Nat) (s : State), s.onMain = true ∧ p ≤ 5 ∧ (s.mac p).linkUp = true) :=
  ⟨⟨0, sNet.setMac 0 {}, by decide⟩, ⟨0, sNet, by decide⟩⟩

/-- VID 1 has the ports 0 and 1 as members. -/
def sVlan : State := ((sNet.setTw 0x00920008 3).setTw 0x0092000C 0x80000000).setAc pSWC R.SWC_CFG 3

set_option maxRecDepth 2000 in
theorem test_witness_Reception :
    (∃ (p : Nat) (f : Frame) (s : State), s.onMain = true ∧ p ≤ 9 ∧ s.macRuns p = true ∧ (s.mac p).linkUp = true ∧
      bit (s.macCfg p) 12 = true ∧ f.et ≠ 0x8808 ∧ s.lndFree < cellsOf (s.maxLen p)) ∧
    (∃ (p : Nat) (f : Frame) (s : State), s.onMain = true ∧ p ≤ 9 ∧ s.macRuns p = true ∧ (s.mac p).linkUp = true ∧
      bit (s.macCfg p) 12 = true ∧ f.et ≠ 0x8808 ∧ s.running pSWC = true ∧ cellsOf (s.maxLen p) ≤ s.lndFree ∧ f.size < 64) ∧
    (∃ (p : Nat) (f : Frame) (s : State), s.onMain = true ∧ p ≤ 9 ∧ s.macRuns p = true ∧ (s.mac p).linkUp = true ∧
      bit (s.macCfg p) 12 = true ∧ f.et ≠ 0x8808 ∧ s.running pSWC = true ∧ cellsOf (s.maxLen p) ≤ s.lndFree ∧ 64 ≤ f.size ∧
      f.size ≤ s.maxLen p ∧ f.fcsOk = false) ∧
    (∃ (p : Nat) (f : Frame) (pcp vid e m r : Nat) (s : State), s.lookup f vid = .ports m r ∧ s.resolve m p vid f = [e] ∧
      s.onMain = true ∧ p ≤ 7 ∧ s.macRuns p = true ∧
      (s.mac p).linkUp = true ∧ bit (s.macCfg p) 12 = true ∧ bit (s.macCfg p) 9 = false ∧ s.macsecOn p = false ∧
      f.et ≠ 0x8808 ∧ f.et ≠ 0x88F7 ∧ f.vlan = some (pcp, vid) ∧ bit (s.ac (pMAC p) R.MAC_VLAN) 17 = false ∧
      s.running pSWC = true ∧ cellsOf (s.maxLen p) ≤ s.lndFree ∧ 64 ≤ f.size ∧ f.size ≤ s.maxLen p ∧ f.fcsOk = true ∧
      (∀ pr, pr < 4 → s.redMode pr = 0) ∧ e ≠ 10 ∧
      s.egRefuse e (s.queueOf f pcp) (s.egFrame e f vid pcp 0) (s.rxStamp p) = none) :=
  ⟨⟨0, fTag, { sNet with swc := { landing := [(0, 65536, 1)] } }, by decide⟩, ⟨0, { fTag with size := 63 }, sNet, by decide⟩,
    ⟨0, { fTag with fcsOk := false }, sNet, by decide⟩, ⟨0, fTag, 0, 1, 1, 3, 0, sVlan, rfl, rfl, by and_intros <;> decide⟩⟩

theorem test_witness_PostingAndSending :
    (∃ (i : H1Item) (rest : List H1Item) (s : State), s.onMain = true ∧ s.swc.h1q = i :: rest ∧ 64 ≤ i.frame.size ∧
      s.lndFree < cellsOf i.frame.size) ∧
    (∃ (i : H1Item) (rest : List H1Item) (mask : Nat) (s : State), s.onMain = true ∧ s.swc.h1q = i :: rest ∧ 64 ≤ i.frame.size ∧
      s.running pSWC = true ∧ cellsOf i.frame.size ≤ s.lndFree ∧ i.direct = some mask ∧ i.frame.et = 0x8808) ∧
    (∃ (i : H1Item) (rest : List H1Item) (mask e : Nat) (s : State), s.onMain = true ∧ s.swc.h1q = i :: rest ∧ 64 ≤ i.frame.size ∧
      s.running pSWC = true ∧ cellsOf i.frame.size ≤ s.lndFree ∧ i.direct = some mask ∧ i.seq = none ∧ i.frame.et ≠ 0x8808 ∧
      (List.range 12).filter mask.testBit = [e] ∧ e ≠ 10 ∧ s.pairOf e = none ∧
      s.egRefuse e (i.queue.getD (s.queueOf i.frame 0)) (s.egFrame e i.frame 1 0 0) s.short = none) ∧
    (∃ (e q : Nat) (x : QEntry) (rest : List QEntry) (s : State), s.onMain = true ∧ e ≤ 9 ∧ s.egIdle e = true ∧ q < 8 ∧
      (s.eg e).q[q]? = some (x :: rest) ∧ (∀ r, r < 8 → q < r → (s.eg e).q[r]? = some []) ∧
      s.gateOpen e q = true ∧ s.aged e q x = false ∧ s.fits e q x = true ∧ s.egMacsec e x.frame = false ∧ x.frame.body = .raw []) ∧
    (∃ (e : Nat) (x y : QEntry) (rest : List QEntry) (s : State), s.onMain = true ∧ e ≤ 9 ∧ s.running pSWC = true ∧
      (s.eg e).fly = x :: rest ∧ (e = 8 → s.swc.yard = []) ∧ x.tsReq = none ∧ (s.mac e).pauseWait = false ∧ (s.eg 11).fly = y :: rest) ∧
    (∃ (e tag : Nat) (x : QEntry) (rest : List QEntry) (s : State), s.onMain = true ∧ e ≤ 9 ∧ s.running pSWC = true ∧
      (s.eg e).fly = x :: rest ∧ (e = 8 → s.swc.yard = []) ∧ (s.mac e).pauseWait = true ∧ x.tsReq = some tag ∧
      (s.mac e).tsf.length < 64) :=
  ⟨⟨{ fn := none, frame := fTag }, [], { swc := { h1q := [{ fn := none, frame := fTag }], landing := [(0, 65536, 1)] } }, by decide⟩,
    ⟨{ fn := none, frame := { fTag with et := 0x8808 }, direct := some 2 }, [], 2,
      { sVlan with swc := { h1q := [{ fn := none, frame := { fTag with et := 0x8808 }, direct := some 2 }] } }, by decide⟩,
    ⟨{ fn := none, frame := fTag, direct := some 2 }, [], 2, 1,
      { sVlan with swc := { h1q := [{ fn := none, frame := fTag, direct := some 2 }] } }, by decide⟩,
    ⟨1, 0, xTag, [], sNet.setEg 1 { q := [[xTag], [], [], [], [], [], [], []] }, by decide⟩,
    ⟨1, xTag, xTag, [], (sNet.setEg 1 { fly := [xTag] }).setEg 11 { fly := [xTag] }, by decide⟩,
    ⟨1, 5, { xTag with tsReq := some 5 }, [], (sNet.setEg 1 { fly := [{ xTag with tsReq := some 5 }] }).setMac 1 { pauseWait := true },
      by decide⟩⟩

theorem test_witness_AgeingAndSupervision :
    (∃ (i lim : Nat) (s : State), s.onMain = true ∧ s.running pSWC = true ∧ lim = fld (s.ac pSWC R.SWC_FDB_AGE) 0 16 ∧ lim ≠ 0 ∧ i < 32768 ∧
      bit (s.tw (fdbAddr i + 4)) 31 = true ∧ bit (s.tw (fdbAddr i + 8)) 31 = false ∧ lim ≤ s.fdbAge i) ∧
    (∃ (i lim : Nat) (s : State), s.onMain = true ∧ s.running pSWC = true ∧ lim = fld (s.ac pSWC R.SWC_FDB_AGE) 0 16 ∧ lim ≠ 0 ∧ i < 32768 ∧
      bit (s.tw (fdbAddr i + 4)) 31 = true ∧ bit (s.tw (fdbAddr i + 8)) 31 = false ∧ s.fdbAge i < lim) ∧
    (∃ (i : Nat) (e : DupEntry) (s : State), s.onMain = true ∧ s.running pSWC = true ∧
      s.swc.dups.find? (fun d => d.1 == i) = some (i, e) ∧ msClk (s.ac pRED R.SWC_RED_FORGET).toNat ≤ s.since e.lastClk) ∧
    (∃ (i : Nat) (e : DupEntry) (s : State), s.onMain = true ∧ s.running pSWC = true ∧
      s.swc.dups.find? (fun d => d.1 == i) = some (i, e) ∧ s.since e.lastClk < msClk (s.ac pRED R.SWC_RED_FORGET).toNat) ∧
    (∃ (c : TcEntry) (rest : List TcEntry) (s : State), s.onMain = true ∧ s.running pSWC = true ∧ s.swc.tc = c :: rest ∧
      msClk 100 ≤ s.since c.syncClk) ∧
    (∃ (c : TcEntry) (rest : List TcEntry) (s : State), s.onMain = true ∧ s.running pSWC = true ∧ s.swc.tc = c :: rest ∧
      s.since c.syncClk < msClk 100) ∧
    (∃ (pair n sq : Nat) (f : Frame) (s : State), s.swc.pairSeq[pair]? = some sq ∧ s.onMain = true ∧ pair < 4 ∧ s.redMode pair ≠ 0 ∧
      s.running pSWC = true ∧ (s.ac pRED R.SWC_RED_LIFECHECK).toNat ≠ 0 ∧ s.swc.supClk[pair]? = some n ∧ s.swc.pairSeq.length = 4 ∧
      msClk (s.ac pRED R.SWC_RED_LIFECHECK).toNat ≤ s.since n ∧ f = s.beaconFrame pair ∧
      (∀ e, e ∈ [2 * pair, 2 * pair + 1] → s.egRefuse e (s.queueOf f 0) (s.egFrame e f 1 0 sq) s.short = none)) :=
  ⟨⟨0, 1, ((sNet.setAc pSWC R.SWC_FDB_AGE 1).setTw 0x00800004 0x80000000 |>.atTime 0 250000000 |>.updSwc
      (fun c => { c with fdbRef := [(0, 0)] })), by decide⟩,
    ⟨0, 1, ((sNet.setAc pSWC R.SWC_FDB_AGE 1).setTw 0x00800004 0x80000000 |>.atTime 0 249999999 |>.updSwc
      (fun c => { c with fdbRef := [(0, 0)] })), by decide⟩,
    ⟨3, _, { (sNet.setAc pRED R.SWC_RED_FORGET 1).atTime 0 250000 with swc := { dups := [(3, ⟨2, 0, 0, 1, 0⟩)] } }, rfl, rfl, rfl,
      by decide⟩,
    ⟨3, _, { (sNet.setAc pRED R.SWC_RED_FORGET 1).atTime 0 249999 with swc := { dups := [(3, ⟨2, 0, 0, 1, 0⟩)] } }, rfl, rfl, rfl,
      by decide⟩,
    ⟨⟨0, 0, 0, 0, 0, []⟩, [], { sNet.atTime 0 25000000 with swc := { tc := [⟨0, 0, 0, 0, 0, []⟩] } }, by decide⟩,
    ⟨⟨0, 0, 0, 0, 0, []⟩, [], { sNet.atTime 0 24999999 with swc := { tc := [⟨0, 0, 0, 0, 0, []⟩] } }, by decide⟩,
    ⟨0, 0, 0, _, ((sVlan.setAc pRED R.SWC_RED_MODE 1).setAc pRED R.SWC_RED_LIFECHECK 1).atTime 0 250000, rfl, rfl, by decide, by decide,
      rfl, by decide, rfl, rfl, by decide, rfl, by decide⟩⟩

theorem test_witness_TickStarts :
    (∃ s : State, s.onTime = true ∧ s.ns < tickStartNs s.tsu.nextTick) ∧
    (∃ s : State, s.onTime = true ∧ tickStartNs s.tsu.nextTick ≤ s.ns ∧ s.onMain = false ∧ (s.hd pTSU).commitPending = false) ∧
    (∃ s : State, s.onTime = true ∧ tickStartNs s.tsu.nextTick ≤ s.ns ∧ s.onMain = true ∧ (∀ p ∈ tickPages, (s.hd p).stopNs = none) ∧
      (∀ p ∈ pTSU :: commitPages, (s.hd p).commitPending = false) ∧ s.running pSVA = true ∧ s.cycOn = true ∧ s.running pDFO = false ∧
      s.sva.frozen = []) :=
  ⟨⟨State.atTime {} 208332 0, by decide⟩, ⟨{ State.atTime {} 208333 0 with pwr := { phase := .held } }, by decide⟩,
    ⟨((sOn pSVA).andOn (pCYC 0)).atTime 208333 0, by decide⟩⟩

theorem test_witness_AdjustRate :
    (∃ (v : Word) (s : State), s.onTime = true ∧ s.inHold = false ∧ -1000000000 ≤ v.toInt ∧ v.toInt ≤ 1000000000 ∧ s.tsu.slewLeft = 0) ∧
    (∃ (v : Word) (s : State), s.onTime = true ∧ s.inHold = false ∧ v.toInt < -1000000000) ∧
    (∃ (v : Word) (s : State), s.onTime = true ∧ s.inHold = false ∧ 1000000000 < v.toInt) :=
  ⟨⟨1000000000, {}, by decide⟩, ⟨-1000000001, {}, by decide⟩, ⟨1000000001, {}, by decide⟩⟩

theorem test_witness_PhaseLatchAndStep :
    (∃ (v : Word) (s : State), s.onTime = true ∧ s.inHold = false ∧ -1000000 ≤ v.toInt ∧ v.toInt ≤ 1000000) ∧
    (∃ (v : Word) (s : State), s.onTime = true ∧ s.inHold = false ∧ (v.toInt < -1000000 ∨ 1000000 < v.toInt)) ∧
    (∃ s : State, s.onTime = true ∧ s.inHold = true ∧ (s.hd pTSU).unlocked = true) ∧
    (∃ s : State, s.onTime = true ∧ s.tsu.slewing = true ∧ s.tsu.slewLeft = 0) ∧ (∃ s : State, s.onTime = true ∧ s.tsu.slewLeft ≠ 0) ∧
    (∃ s : State, s.onTime = true ∧ (s.hd pTSU).unlocked = true ∧ s.inHold = false) ∧
    (∃ s : State, s.onTime = true ∧ (s.hd pTSU).unlocked = false) :=
  ⟨⟨-1000000, {}, by decide⟩, ⟨1000001, {}, by decide⟩, ⟨{ sHd pTSU { unlocked := true } with tsu := { sync := .holdover } }, by decide⟩,
    ⟨{ tsu := { slewing := true } }, by decide⟩, ⟨{ tsu := { slewLeft := 1 } }, by decide⟩,
    ⟨sHd pTSU { unlocked := true }, by decide⟩, ⟨{}, by decide⟩⟩

theorem test_witness_SyncAndHoldover :
    (∃ s : State, s.onTime = true ∧ s.tsu.sync ≠ .locked ∧ s.inHold = false ∧ s.discDue = false) ∧
    (∃ s : State, s.onTime = true ∧ s.tsu.sync = .locked ∧ s.discDue = true) ∧
    (∃ (n : Nat) (s : State), s.onTime = true ∧ s.inHold = true ∧ n = (s.rg pTSU R.TSU_HOLD_ELAPSED).toNat + 1 ∧
      n * 250000000 ≤ s.since s.tsu.holdClk) ∧
    (∃ (n : Nat) (s : State), s.onTime = true ∧ s.inHold = true ∧ n = (s.rg pTSU R.TSU_HOLD_ELAPSED).toNat + 1 ∧
      s.since s.tsu.holdClk < n * 250000000) :=
  ⟨⟨{}, by decide⟩, ⟨State.setAc { tsu := { sync := .locked, clk := 250000 } } pTSU R.TSU_DISC_WDOG 1, by decide⟩,
    ⟨1, { tsu := { sync := .holdover, clk := 250000000 } }, by decide⟩, ⟨1, { tsu := { sync := .holdover, clk := 249999999 } }, by decide⟩⟩

theorem test_witness_TimeOutputsAndInputs :
    (∃ (n : Nat) (o : TimeOut) (s : State), s.onTime = true ∧ s.tsu.outs[n]? = some o ∧
      (n = 0 → fld (s.ac pTSU R.TSU_TI_CFG) 0 2 = 0) ∧ o.armed = true ∧ o.pulse = false ∧
      o.lateFire = false ∧ o.given = false ∧ o.nextNs ≤ s.ns ∧ s.toMode n = 2) ∧
    (∃ (n : Nat) (o : TimeOut) (s : State), s.onTime = true ∧ s.tsu.outs[n]? = some o ∧ (n = 0 → fld (s.ac pTSU R.TSU_TI_CFG) 0 2 = 0) ∧
      o.armed = true ∧ o.pulse = false ∧ o.lateFire = true) ∧
    (∃ (n : Nat) (o : TimeOut) (s : State), s.onTime = true ∧ s.tsu.outs[n]? = some o ∧ o.lateFire = false ∧ s.ns < o.nextNs) ∧
    (∃ (n : Nat) (o : TimeOut) (s : State), s.onTime = true ∧ s.tsu.outs[n]? = some o ∧ o.pulse = true ∧ o.pulseEndNs ≤ s.ns ∧
      s.toMode n = 1) ∧
    (∃ (n : Nat) (o : TimeOut) (s : State), s.onTime = true ∧ s.tsu.outs[n]? = some o ∧ s.ns < o.pulseEndNs) ∧
    (∃ (o : TimeOut) (i : TimeIn) (s : State), s.onTime = true ∧ s.onMain = false ∧ s.tsu.outs[0]? = some o ∧ s.tsu.ins[0]? = some i ∧
      i.fifo.length < 16 ∧ s.tiNear 0 = false ∧ o.armed = true ∧ o.pulse = false ∧ o.lateFire = false ∧ o.given = false ∧ o.nextNs ≤ s.ns ∧
      s.toPin 0 ≠ (s.toEdge 0).toPin 0 ∧ s.tiSelected 0 (!(s.toEdge 0).toPin 0) (s.toWidth 0) = true ∧ s.toMode 0 ≠ 0 ∧
      s.tiSelected 0 false 4 = true) ∧
    (∃ (n width : Nat) (i : TimeIn) (s : State), s.onTime = true ∧ n < 4 ∧ s.tsu.ins[n]? = some i ∧ (n = 0 → s.toMode 0 = 0) ∧
      bit (s.ac pTSU (R.TSU_TI_CFG + 4 * n)) 0 = true ∧ 4 * fld (s.ac pTSU (R.TSU_TI_CFG + 4 * n)) 8 8 ≤ width ∧ i.fifo.length < 16 ∧
      i.lastNs = none ∧ s.onMain = false) ∧
    (∃ (n width : Nat) (i : TimeIn) (s : State), s.onTime = true ∧ n < 4 ∧ s.tsu.ins[n]? = some i ∧ (n = 0 → s.toMode 0 = 0) ∧
      bit (s.ac pTSU (R.TSU_TI_CFG + 4 * n)) 1 = true ∧ 4 * fld (s.ac pTSU (R.TSU_TI_CFG + 4 * n)) 8 8 ≤ width ∧ 16 ≤ i.fifo.length ∧
      (s.hd pACQ).enable = false) :=
  ⟨⟨3, { armed := true }, State.setAc { tsu := { outs := [{}, {}, {}, { armed := true }] } } pTSU (R.TSU_TO_CTRL + 48) 2, by decide⟩,
    ⟨0, { armed := true, lateFire := true }, { tsu := { outs := [{ armed := true, lateFire := true }] } }, by decide⟩,
    ⟨0, { nextNs := 1 }, { tsu := { outs := [{ nextNs := 1 }] } }, by decide⟩,
    ⟨3, { pulse := true }, State.setAc { tsu := { outs := [{}, {}, {}, { pulse := true }] } } pTSU (R.TSU_TO_CTRL + 48) 1, by decide⟩,
    ⟨0, { pulseEndNs := 1 }, { tsu := { outs := [{ pulseEndNs := 1 }] } }, by decide⟩,
    ⟨{ armed := true }, {}, ((State.setAc { pwr := { phase := .held }, tsu := { outs := [{ armed := true }] } } pTSU R.TSU_TI_CFG 0x101).setAc
      pTSU R.TSU_TO_CTRL 1).setAc pTSU R.TSU_TO_WIDTH 10, by decide⟩,
    ⟨3, 4, {}, State.setAc { pwr := { phase := .held } } pTSU (R.TSU_TI_CFG + 12) 0x101, by decide⟩,
    ⟨0, 0, { fifo := List.replicate 16 ⟨0, 0, 0, false⟩ },
      State.setAc { tsu := { ins := [{ fifo := List.replicate 16 ⟨0, 0, 0, false⟩ }] } } pTSU R.TSU_TI_CFG 2, by decide⟩⟩

/-- An SV APDU of one ASDU with smpCnt 0 and one channel. -/
def pSv : SvPdu := { svid := [0x41], noAsdu := 1, asdus := [{ smpCnt := 0, confRev := 0, smpSynch := 2, seqLen := 8, chans := [(5, 0)] }] }

def xSv : QEntry := { id := 0, frame := { da := 0, sa := 2, et := 0x88BA, appid := 0x4000, size := 64, body := .sv pSv }, cells := 1, stamp := 0,
                      ing := 0, rsel := 0 }

/-- The plane runs and lane 0 holds that frame. -/
def sPlane : State := { sOn pSVA with swc := { lanes := [[xSv], [], [], []] } }

/-- Slot 0 subscribes to it: 4,000 samples a second, one channel. -/
def sSub : State :=
  { ((sPlane.setTws 0x00A00000 [0x80844000, 0x10000, 0x10001]).setTws 0x00A00020 [1, 0x41]) with
    sva := { streams := [(0, { valid := true, nch := 1 })] } }

/-- The words of that entry. -/
def eSub : Sub := [0x80844000, 0x10000, 0x10001, 0, 0, 0, 0, 0, 1, 0x41] ++ List.replicate 22 0

theorem test_witness_SampleStreams :
    (∃ (x : QEntry) (p : SvPdu) (s : State), s.onMain = true ∧ s.running pSVA = true ∧ (s.hd pSVA).enable = true ∧
      s.swc.lanes[0]? = some [x] ∧ x.frame.body = .sv p ∧ s.svMatch x.frame p (s.extend x.stamp) = none ∧ bit (s.ac pSVA R.SVA_CFG) 16 = true ∧
      s.sva.strangers = []) ∧
    (∃ (x : QEntry) (p : SvPdu) (e : Sub) (a : SvAsdu) (s : State), s.onMain = true ∧ s.running pSVA = true ∧
      (s.hd pSVA).enable = true ∧ s.swc.lanes[0]? = some [x] ∧ x.frame.body = .sv p ∧
      s.svMatch x.frame p (s.extend x.stamp) = some 0 ∧ e = s.sub 0 ∧ p.asdus = [a] ∧ s.svCause e p = none ∧ Sub.auth e = 0 ∧ Sub.unsync e = false ∧ Sub.reqSync e = 0 ∧
      (s.extend x.stamp : Int) * Sub.rate e - (a.smpCnt : Int) * 1000000000 = 0 ∧
      -(fld (s.ac pSVA R.SVA_CFG) 8 8 * 1000 * Sub.rate e : Int) ≤ 0 ∧ (0 : Int) = (0 + Sub.rate e * 500000000) / (Sub.rate e * 1000000000) ∧
      (∀ m ∈ (s.strm 0).samples, m.idx ≠ 0) ∧ s.closedUpTo (firstNeed (Sub.rate e) (Sub.phases e) 0) = false) ∧
    (∃ (n : Stranger) (s : State), s.onMain = true ∧ s.sva.strangers = [n]) ∧ (∃ s : State, s.onMain = true ∧ s.sva.strangers = []) ∧
    (∃ (x : Stream) (dropout : Nat), x.state = 2 ∧ x.missRun + 1 < dropout) ∧
    (∃ (x : Stream) (dropout k : Nat), x.state = 3 ∧ dropout ≤ x.missRun + 1 ∧ x.missRun = 0 ∧ k ∈ x.rej) ∧
    (∃ (x : Stream) (dropout k : Nat), x.state = 3 ∧ dropout ≤ x.missRun + 1 ∧ ¬ ((x.missRun = 0 ∨ x.runRej = true) ∧ k ∈ x.rej)) :=
  ⟨⟨xSv, pSv, sPlane.setAc pSVA R.SVA_CFG 0x10000, by decide⟩,
    ⟨xSv, pSv, eSub, _, sSub, by decide, by decide, by decide, by decide, by decide, by decide, by decide, rfl, by and_intros <;> decide⟩,
    ⟨_, { sva := { strangers := [⟨2, 0, 0, 0, 0, 0, 0, 0, 0, 0, []⟩] } }, by decide, rfl⟩, ⟨{}, by decide⟩, ⟨{ state := 2 }, 2, by decide⟩,
    ⟨{ state := 3, rej := [7] }, 1, 7, by decide⟩, ⟨{ state := 3, missRun := 1, rej := [7] }, 2, 7, by decide⟩⟩

theorem test_witness_TickClosing :
    (∃ (k at_ : Nat) (rest : List (Nat × Nat)) (s : State), s.onMain = true ∧ s.sva.toClose = (k, at_) :: rest ∧ s.ns < at_) ∧
    (∃ (k at_ : Nat) (rest : List (Nat × Nat)) (s : State), s.onMain = true ∧ s.sva.toClose = (k, at_) :: rest ∧
      s.running pSVA = true ∧ s.sva.frozen = [] ∧ at_ ≤ s.ns ∧ s.paired = false) ∧
    (∃ (k at_ : Nat) (rest : List (Nat × Nat)) (s : State), s.onMain = true ∧ s.sva.toClose = (k, at_) :: rest ∧
      s.running pSVA = true ∧ s.sva.frozen = [] ∧ at_ ≤ s.ns ∧ s.paired = true ∧ ∀ m ∈ s.sva.heldMaps, m.tick ≠ k) ∧
    (∃ (m : PMap) (rx : List Body) (fz : Frozen) (s : State), s.onMain = true ∧ s.running pSVA = true ∧ s.paired = true ∧
      s.dup.rx = .map m :: rx ∧ s.sva.frozen = [fz] ∧ fz.map = none ∧ fz.tick = m.tick ∧
      fz.closeNs + fld (s.ac pSVA R.SVA_AGREE_CFG) 0 7 * 1000 ≤ s.ns) ∧
    (∃ (m : PMap) (rx : List Body) (fz g : Frozen) (s : State), s.onMain = true ∧ s.running pSVA = true ∧ s.paired = true ∧
      s.dup.rx = .map m :: rx ∧ s.sva.frozen = [fz, g] ∧ fz.map = none ∧ fz.tick ≠ m.tick ∧ g.tick = m.tick) ∧
    (∃ (fz : Frozen) (s : State), s.onMain = true ∧ s.running pSVA = true ∧ s.paired = true ∧ s.sva.frozen = [fz] ∧
      s.ns < fz.closeNs + fld (s.ac pSVA R.SVA_AGREE_CFG) 0 7 * 1000) ∧
    (∃ (m : PMap) (rx : List Body) (s : State), s.onMain = true ∧ s.running pSVA = true ∧ s.paired = true ∧
      s.dup.rx = .map m :: rx ∧ s.sva.frozen = [] ∧ s.closedUpTo m.tick = false ∧ s.sva.heldMaps.length < 16) ∧
    (∃ (m : PMap) (rx : List Body) (s : State), s.onMain = true ∧ s.running pSVA = true ∧ s.paired = true ∧
      s.dup.rx = .map m :: rx ∧ s.sva.frozen = [] ∧ s.closedUpTo m.tick = true) :=
  ⟨⟨1, 5, [], { sva := { toClose := [(1, 5)] } }, by decide⟩, ⟨1, 0, [], { sOn pSVA with sva := { toClose := [(1, 0)] } }, by decide⟩,
    ⟨1, 0, [], { sOn pSVA with sva := { toClose := [(1, 0)] }, dup := { paired := true } }, by decide⟩,
    ⟨⟨3, [], 0, 0, [], [], []⟩, [], { tick := 3, closeNs := 0 }, { (sOn pSVA).atTime 1000000 0 with
      sva := { frozen := [{ tick := 3, closeNs := 0 }] }, dup := { paired := true, rx := [.map ⟨3, [], 0, 0, [], [], []⟩] } }, by decide⟩,
    ⟨⟨3, [], 0, 0, [], [], []⟩, [], { tick := 2, closeNs := 0 }, { tick := 3, closeNs := 0 }, { (sOn pSVA).atTime 1000000 0 with
      sva := { frozen := [{ tick := 2, closeNs := 0 }, { tick := 3, closeNs := 0 }] }
      dup := { paired := true, rx := [.map ⟨3, [], 0, 0, [], [], []⟩] } }, by decide⟩,
    ⟨{ tick := 3, closeNs := 0 }, { sOn pSVA with sva := { frozen := [{ tick := 3, closeNs := 0 }] }, dup := { paired := true } }, by decide⟩,
    ⟨⟨3, [], 0, 0, [], [], []⟩, [], { sOn pSVA with dup := { paired := true, rx := [.map ⟨3, [], 0, 0, [], [], []⟩] } }, by decide⟩,
    ⟨⟨3, [], 0, 0, [], [], []⟩, [], { sOn pSVA with
      sva := { lastClosed := some 3 }, dup := { paired := true, rx := [.map ⟨3, [], 0, 0, [], [], []⟩] } }, by decide⟩⟩

/-- Chain 0 of engine 0: one stage, the moving average of one sample, on plane channel 0. -/
def sChain : State := State.setTws {} (chainAddr 0 0) [0x81010000, 0, 0x10000001]

theorem test_witness_FilterEngines :
    (∃ (e c : Nat) (x : Chain) (s : State), s.onMain = true ∧ e < 64 ∧ s.unusable (pFLT e) = false ∧ x = sget {} c (s.fe e).chains ∧
      x.running = false ∧ (s.hd (pFLT e)).commitPending = false ∧ s.chainCheck e c (fun i => cUsed (s.chainW e i)) = none ∧
      s.chainCost e c + ((s.fe e).chains.map (fun d => if d.2.running then s.chainCost e d.1 else 0)).sum ≤ 120000) ∧
    (∃ (e c code : Nat) (s : State), s.onMain = true ∧ e < 64 ∧ s.unusable (pFLT e) = false ∧
      (sget {} c (s.fe e).chains).running = false ∧ (s.hd (pFLT e)).commitPending = false ∧
      s.chainCheck e c (fun i => cUsed (s.chainW e i)) = some code) ∧
    (∃ (e c : Nat) (v : Word) (s : State), s.onMain = true ∧ e < 64 ∧ s.unusable (pFLT e) = false ∧
      (sget {} c (s.fe e).chains).running = true ∧ (sget {} c (s.fe e).chains).sat = true ∧ s.refTrack e (fld v 0 2) = true ∧
      s.unusable (pFLT (fld v 16 6)) = false) ∧
    (∃ (e k done : Nat) (s : State), s.onMain = true ∧ e < 64 ∧ s.fltNext e = some (k, done) ∧ s.fltLive e = true ∧ s.dup.state ≠ 3 ∧
      (s.hd (pFLT e)).commitPending = false ∧ (s.fe e).endClk ≤ s.tsu.clk ∧ ∀ c ∈ (s.fe e).copies, s.fltBehind c.2.1 k = false) ∧
    (∃ (e k done : Nat) (s : State), s.onMain = true ∧ e < 64 ∧ s.fltNext e = some (k, done) ∧ s.fltLive e = true ∧ s.dup.state ≠ 3 ∧
      (s.hd (pFLT e)).commitPending = false ∧ s.tsu.clk < (s.fe e).endClk) :=
  ⟨⟨0, 0, {}, sChain, by decide⟩, ⟨0, 0, Err.range, {}, by decide⟩,
    ⟨3, 0, 0, { (State.setAc {} (pFLT 3) R.FLT_REF_CFG 0x1000) with flt := [(3, { chains := [(0, { running := true, sat := true })] })] },
      by decide⟩,
    ⟨0, 4, 0, { sOn (pFLT 0) with sva := { finals := [(4, false, 0)] } }, by decide⟩,
    ⟨0, 4, 0, { sOn (pFLT 0) with sva := { finals := [(4, false, 0)] }, flt := [(0, { endClk := 1 })] }, by decide⟩⟩

theorem test_witness_Converters :
    (∃ (c : Nat) (s : State), s.onMain = true ∧ c < 2 ∧ (s.adc c).live = true ∧ (s.adc c).scan = none ∧
      (s.adc c).scanTick ≠ some s.tsu.lastTick ∧ (s.adc c).cur = none ∧ (s.adc c).urgWait = false ∧ 0 < s.nSlots c ∧ tickStartNs s.tsu.lastTick + fld (s.ac (pADC c) R.ADC_CFG) 16 8 * 1000 ≤ s.ns) ∧
    (∃ (c : Nat) (s : State), s.onMain = true ∧ c < 2 ∧ (s.adc c).live = true ∧ (s.adc c).scan = none ∧
      (s.adc c).scanTick ≠ some s.tsu.lastTick ∧ (s.adc c).cur = none ∧ (s.adc c).urgWait = false ∧ 0 < s.nSlots c ∧ s.ns < tickStartNs s.tsu.lastTick + fld (s.ac (pADC c) R.ADC_CFG) 16 8 * 1000) ∧
    (∃ (c start stamp g : Nat) (k : AdcScan) (s : State), s.onMain = true ∧ c < 2 ∧ start + 1000 ≤ s.ns ∧ (s.adc c).stopping = false ∧
      (s.adc c).urgWait = false ∧ (s.adc c).cur = some (false, start, stamp, g) ∧ (s.adc c).scan = some k ∧
      k.done + 1 < 2 ^ sAvg ((k.cfg[0]?).getD 0) ∧ (s.adc (1 - c)).ain0 = none) ∧
    (∃ (c start stamp g : Nat) (s : State), s.onMain = true ∧ c < 2 ∧ g ≤ 4 ∧ start + 1000 ≤ s.ns ∧ (s.adc c).stopping = false ∧
      (s.adc c).urgWait = false ∧ (s.adc c).cur = some (true, start, stamp, g) ∧ (s.adc c).scan = none ∧ s.running (pADC c) = true ∧ (s.adc (1 - c)).ain0 = none) ∧
    (∃ (c : Nat) (s : State), s.onMain = true ∧ c < 2 ∧ s.running (pADC c) = true ∧ (s.adc c).cur ≠ none ∧ (s.adc c).urgWait = true) ∧
    (∃ (c : Nat) (s : State), s.onMain = true ∧ c < 2 ∧ s.running (pADC c) = false ∧ (s.adc c).calBusy = true ∧
      (s.adc c).calNs + 3200000 ≤ s.clkNs) ∧
    (∃ (c : Nat) (s : State), s.onMain = true ∧ c < 2 ∧ s.clkNs < (s.adc c).calNs + 3200000) ∧
    (∃ (c a : Nat) (s : State), s.onMain = true ∧ c < 2 ∧ c ∈ adcsOf a ∧ s.inCurrent c a = true ∧ a ∉ s.shunts) ∧
    (∃ (c : Nat) (s : State), s.onMain = true ∧ c < 2 ∧ c ∈ adcsOf 0 ∧ s.inCurrent c 0 = true ∧ 0 ∉ s.shunts) :=
  ⟨⟨0, { ((State.setAc {} (pADC 0) R.ADC_CFG 0x10001).atTime 1000 0) with adcs := [(0, { live := true })] }, by decide⟩,
    ⟨0, { ((State.setAc {} (pADC 0) R.ADC_CFG 0x10001).atTime 999 0) with adcs := [(0, { live := true })] }, by decide⟩,
    ⟨1, 0, 0, 0, { slot := 0, cfg := [0x1000] },
      { State.atTime {} 1000 0 with adcs := [(1, { cur := some (false, 0, 0, 0), scan := some { slot := 0, cfg := [0x1000] } })] },
      by decide⟩,
    ⟨1, 0, 0, 4, { ((sOn (pADC 1)).atTime 1000 0) with adcs := [(1, { cur := some (true, 0, 0, 4) })] }, by decide⟩,
    ⟨1, { sOn (pADC 1) with adcs := [(1, { cur := some (true, 0, 0, 0), urgWait := true })] }, by decide⟩,
    ⟨0, { State.atTime {} 0 800000 with adcs := [(0, { calBusy := true })] }, by decide⟩, ⟨0, State.atTime {} 0 799999, by decide⟩,
    ⟨1, 11, State.setAc {} (pADC 1) R.ADC_SLOT_CFG 0x15, by decide⟩, ⟨1, State.setAc {} (pADC 1) R.ADC_SLOT_CFG 0x10, by decide⟩⟩

/-! ### Values the rules give -/

/-- The checksum polynomials of the spec over the bytes of the text 123456789 give the published check values of these codes. -/
theorem test_crc_check_values :
    crc16 [49, 50, 51, 52, 53, 54, 55, 56, 57] = 0x29B1 ∧ crc32c [49, 50, 51, 52, 53, 54, 55, 56, 57] = 0xE3069283 ∧
      crc64 [49, 50, 51, 52, 53, 54, 55, 56, 57] = 0x6C40DF5F0B497347 := by decide +kernel

/-- R95: ticks start at floor(k × 10^9 / 4,800); the lengths are 208,333, 208,333 and 208,334 ns in turn. -/
theorem test_tick_starts :
    tickStartNs 1 = 208333 ∧ tickStartNs 2 = 416666 ∧ tickStartNs 3 = 625000 ∧ tickStartNs 4799 = 999791666 ∧
      tickStartNs 4800 = 1000000000 := by decide

/-- R30: an access of 2 bytes writes nothing and reads 0. -/
theorem test_narrow_read_gives_zero :
    ∃ t, exec (.badAccess 64 0x20040 2 false) { rdata := 7 } = .next t ∧ t.rdata = 0 := ⟨_, rfl, by decide⟩

/-- R48: 0x5A5A and then 0xA5A5 unlock the page; 0xA5A5 alone does not. -/
theorem test_unlock_needs_both_values :
    (∃ t, exec (.lockWrite 0 pMEM 0xA5A5) {} = .next t ∧ (t.hd pMEM).unlocked = false) ∧
      ∃ t u, exec (.lockWrite 0 pMEM 0x5A5A) {} = .next t ∧ exec (.lockWrite 0 pMEM 0xA5A5) t = .next u ∧
        (u.hd pMEM).unlocked = true := ⟨⟨_, rfl, by decide⟩, _, _, rfl, rfl, by decide⟩

/-- R96: a rate of 1,000,000,000 units is taken, one more is refused with RANGE. -/
theorem test_rate_range :
    (∃ t, exec (.tsuAdjRate 1000000000) {} = .next t ∧ t.tsu.rate = 1000000000) ∧
      ∃ t, exec (.tsuAdjRate 1000000001) {} = .next t ∧ t.tsu.rate = 0 := ⟨⟨_, rfl, by decide⟩, _, rfl, by decide⟩
end

