-- ==== Sys2Proof/Tests/Units.lean ====
section
/-!
SUPPORT. Tests of the remaining units: witnesses of the statements' hypotheses.
-/
open Sys2Proof Sys2Proof.Machine

theorem test_witness_SafetyIsland :
    (∃ s : State, s.onTime = true ∧ (s.hd (pHWS 0)).commitPending = false ∧ s.hws.configured = false ∧ s.hwsIn = []) ∧
    (∃ (n : Nat) (v : Nat × Nat × Nat) (s : State), s.onTime = true ∧ (s.hd (pHWS 0)).commitPending = false ∧ n < 8 ∧
      s.hws.configured = true ∧ s.hws.safe = false ∧ s.hws.newest 1 = some v ∧ v.2.1.testBit n = true ∧
      bit (s.hws.ow n 0) 31 = true ∧ bit (s.hws.ow n 0) 30 = false ∧ bit (s.hws.ow n 0) 26 = true) ∧
    (∃ (v : Nat × Nat × Nat) (rest : List (Nat × Nat × Nat)) (s : State), s.onTime = true ∧ s.hwsIn = v :: rest ∧ s.hws.full v.1 = false) ∧
    (∃ (v w : Nat × Nat × Nat) (rest tail : List (Nat × Nat × Nat)) (s : State), s.onTime = true ∧ s.hwsIn = v :: rest ∧
      s.hws.full v.1 = true ∧ rest = w :: tail ∧ w.1 = v.1) ∧
    (∃ (n : Nat) (s : State), s.onTime = true ∧ n < 8 ∧ s.soOn n = true) ∧ (∃ (n : Nat) (s : State), s.onTime = true ∧ s.soOn n = false) ∧
    (∃ s : State, s.onTime = true ∧ (s.hd (pHWS 0)).unlocked = true) ∧ (∃ s : State, s.onTime = true ∧ (s.hd (pHWS 0)).unlocked = false) :=
  ⟨⟨{}, by decide⟩,
    ⟨7, (1, 0x80, 0), { hws := { configured := true, fifo := [(1, 0x80, 0)], cfg := List.replicate 120 0 ++ [0x84000000] } }, by decide⟩,
    ⟨(1, 1, 0), [], { hwsIn := [(1, 1, 0)] }, by decide⟩,
    ⟨(1, 1, 0), (1, 2, 0), [(1, 2, 0)], [], { hwsIn := [(1, 1, 0), (1, 2, 0)], hws := { fifo := List.replicate 64 (1, 0, 0) } }, by decide⟩,
    ⟨0, { hws := { a := { outs := [{ on := true }] }, b := { outs := [{ on := true }] } } }, by decide⟩, ⟨7, {}, by decide⟩,
    ⟨sHd (pHWS 0) { unlocked := true }, by decide⟩, ⟨{}, by decide⟩⟩
/-- Set 0 runs with one binary channel; tick 4 is final. -/
def sAcq : State := { sOn pACQ with acq := { sets := [(0, { state := 2 })] }, sva := { finals := [(4, false, 0)] } }

/-- A staged block of more than 384 MiB. -/
def bBig : AcqBlk :=
  { tick := 0, sync := 0, imgTag := 0, holdEst := 0, bin := [], qual := List.replicate 10100 0, smps := List.replicate 10100 [] }

theorem bBig_size : 402653184 < bBig.size := by
  show 402653184 < blockBytes (List.replicate 10100 0).length 0 (List.replicate 10100 ([] : List Int)).length
  rw [List.length_replicate, List.length_replicate]
  decide

/-- Set 0 with three DRAM groups fenced and a ring that a held block fills. -/
def sStall : State := { sAcq with acq := { sets := [(0, { state := 2, ring := [(bBig, some 1)] })] }, memFenced := 7 }

theorem sStall_full : ringRoom sStall.acqPart (sStall.acqBuild 0 4).1.size (sStall.aset 0).ring = none := by
  have h : sStall.acqPart = 2 ^ 28 := by decide
  have hr : (sStall.aset 0).ring = [(bBig, some 1)] := rfl
  have hb := bBig_size
  rw [h, hr]
  simp only [ringRoom, List.map_cons, List.map_nil, List.sum_cons, List.sum_nil, Option.isSome_some, if_true]
  rw [if_neg (by omega)]

/-- A record of set 0. -/
def rAcq : AcqRec := { id := 1, set := 0, t0 := 0, start := 0, stop := 0 }

/-- The trailer of that record in unit 7. -/
def uAcq : AcqUnit := { id := 1, idx := 1, part := 3, len := 0, rec_ := some rAcq }

theorem test_witness_Capture_ticks :
    (∃ (k : Nat) (s : State), s.onMain = true ∧ (s.hd pACQ).enable = true ∧ s.acqNext = some k ∧ s.flips = [] ∧ s.poison = []) ∧
    (∀ r, r = some [] ∨ r = none → ∃ (n k : Nat) (s : State), (∀ m i, bit (s.tw (tEntry m i)) 31 = false) ∧
      (∀ m, bit (s.tw (mHead m)) 31 = false) ∧ ringRoom s.acqPart (s.acqBuild n k).1.size (s.aset n).ring = r ∧ s.onMain = true ∧
      (s.hd pACQ).enable = true ∧ s.acqNext = some k ∧ n < 4 ∧ s.acq.trigIn = [] ∧ s.flips = [] ∧ s.poison = [] ∧
      (∀ m, m < 4 → m ≠ n → (s.aset m).state = 0) ∧ (∀ m, m < 4 → (s.aset m).ctl = []) ∧
      ((s.aset n).state = 1 ∨ (s.aset n).state = 2) ∧ (s.aset n).cur = none ∧ (r = none → (s.aset n).stall = false)) ∧
    (∃ s : State, s.onMain = true ∧ s.acqNext = none) := by
  refine ⟨⟨4, sAcq, by decide +kernel⟩, ?_, ⟨{}, by decide⟩⟩
  rintro r (rfl | rfl)
  · exact ⟨0, 4, sAcq, fun _ _ => tblReset_top _, fun _ => tblReset_top _, by decide +kernel⟩
  · exact ⟨0, 4, sStall, fun _ _ => tblReset_top _, fun _ => tblReset_top _, sStall_full, by decide +kernel⟩

/-- Sets of every STATE. -/
def sSets : State := { sOn pACQ with acq := { sets := [(1, { state := 4 }), (2, { state := 2 })] } }

theorem test_witness_Capture_sets :
    (∃ (n : Nat) (s : State), s.onMain = true ∧ n < 4 ∧ s.asetState n = 0 ∧ s.acqStartCheck n = none) ∧
    (∃ (n o c : Nat) (s : State), s.onMain = true ∧ n < 4 ∧ s.asetState n = 0 ∧ s.acqStartCheck n = some (o, c)) ∧
    (∃ (n : Nat) (s : State), s.onMain = true ∧ n < 4 ∧ s.asetState n ≠ 0 ∧ s.asetState n ≠ 4) ∧
    (∃ (n : Nat) (s : State), s.onMain = true ∧ n < 4 ∧ s.asetState n = 4) :=
  ⟨⟨3, State.setAc {} (pACQS 3) R.ACQ_SET_CFG 1, by decide +kernel⟩, ⟨0, R.ACQ_SET_CFG, Err.zeroField, sSets, by decide +kernel⟩,
    ⟨2, sSets, by decide⟩, ⟨1, sSets, by decide⟩⟩

theorem test_witness_Capture_triggers :
    (∃ (v : Word) (total n m : Nat) (s : State), s.onMain = true ∧ n < 4 ∧ m < 4 ∧ bit v m = true ∧ s.asetState m = 4 ∧
      bit v n = true ∧ s.asetState n ≠ 0 ∧ s.asetState n ≠ 4 ∧ total = (s.rg pACQ R.ACQ_XTRIG_SEC).toNat * 1000000000 +
        fld (s.rg pACQ (R.ACQ_XTRIG_SEC + 4)) 0 16 * 2 ^ 32 * 1000000000 + fld (s.rg pACQ R.ACQ_XTRIG_NS) 0 30 ∧
      fld (s.rg pACQ R.ACQ_XTRIG_NS) 0 30 ≤ 999999999 ∧ total ≤ s.ns) ∧
    (∃ (total : Nat) (s : State), s.onMain = true ∧ total = (s.rg pACQ R.ACQ_XTRIG_SEC).toNat * 1000000000 +
        fld (s.rg pACQ (R.ACQ_XTRIG_SEC + 4)) 0 16 * 2 ^ 32 * 1000000000 + fld (s.rg pACQ R.ACQ_XTRIG_NS) 0 30 ∧ s.ns < total) ∧
    (∃ s : State, s.onMain = true ∧ 999999999 < fld (s.rg pACQ R.ACQ_XTRIG_NS) 0 30) :=
  ⟨⟨6, 0, 2, 1, sSets, by decide⟩, ⟨1, sSets.setRg pACQ R.ACQ_XTRIG_NS 1, by decide⟩,
    ⟨sSets.setRg pACQ R.ACQ_XTRIG_NS 1000000000, by decide⟩⟩

/-- The Choker is due, between the levels. -/
def sChoke : State := (sOn pACQ).setAc pACQ R.ACQ_CFG 0x101

theorem test_witness_Capture_choker :
    (∃ s : State, 402653184 < s.acq.backlog ∧ s.acq.lam < fld (s.ac pACQ R.ACQ_CFG) 8 3 ∧ s.onMain = true ∧ (s.hd pACQ).enable = true ∧
      bit (s.ac pACQ R.ACQ_CFG) 0 = true ∧ s.tick % 480 = 0 ∧ s.acq.chokeTick ≠ some s.tick) ∧
    (∃ s : State, s.acq.backlog < 134217728 ∧ 0 < s.acq.lam ∧ s.onMain = true ∧ (s.hd pACQ).enable = true ∧
      bit (s.ac pACQ R.ACQ_CFG) 0 = true ∧ s.tick % 480 = 0 ∧ s.acq.chokeTick ≠ some s.tick) ∧
    (∃ s : State, s.acq.backlog ≤ 402653184 ∧ s.acq.lam = 0 ∧ s.onMain = true ∧ (s.hd pACQ).enable = true ∧
      bit (s.ac pACQ R.ACQ_CFG) 0 = true ∧ s.tick % 480 = 0 ∧ s.acq.chokeTick ≠ some s.tick) ∧
    (∃ s : State, s.onMain = true ∧ s.tick % 480 ≠ 0) := by
  refine ⟨⟨{ sChoke with acq := { stage := [(0, bBig)] } }, ?_, by decide⟩, ⟨{ sChoke with acq := { lam := 1 } }, by decide⟩,
    ⟨sChoke, by decide⟩, ⟨{ tsu := { lastTick := 479 } }, by decide⟩⟩
  simpa [Acq.backlog] using bBig_size

theorem test_witness_Capture_flusher :
    (∃ (u : Nat) (r : AcqRec) (s : State), s.onMain = true ∧ (s.hd pACQ).enable = true ∧ s.pwr.pfMode = false ∧
      s.memSt.readOnly = false ∧ s.acq.store.length < 65536 ∧ u < 65536 ∧ (∀ e ∈ s.acq.store, e.1 ≠ u) ∧
      s.acq.recs.find? (fun r => !r.headed) = some r) ∧
    (∃ (u : Nat) (r : AcqRec) (b : AcqBlk) (s : State), s.onMain = true ∧ (s.hd pACQ).enable = true ∧ s.evr.pf4 = true ∧
      s.memSt.readOnly = false ∧ s.acq.store.length < 65536 ∧ u < 65536 ∧ (∀ e ∈ s.acq.store, e.1 ≠ u) ∧
      (∀ q ∈ s.acq.recs, q.headed = true) ∧ s.acq.stage = [(r.id, b)] ∧ s.arec r.id = some r) ∧
    (∃ (u : Nat) (r : AcqRec) (s : State), s.onMain = true ∧ (s.hd pACQ).enable = true ∧ s.pwr.pfMode = false ∧
      s.memSt.readOnly = false ∧ s.acq.store.length < 65536 ∧ u < 65536 ∧ (∀ e ∈ s.acq.store, e.1 ≠ u) ∧
      (∀ q ∈ s.acq.recs, q.headed = true) ∧ s.acq.stage = [] ∧ s.acq.recs.find? s.trailerDue = some r ∧ s.acq.fifo.length < 256) ∧
    (∃ s : State, s.onMain = true ∧ (s.hd pACQ).enable = true ∧ s.pwr.pfMode = false ∧ (∃ r ∈ s.acq.recs, r.headed = false) ∧
      s.memSt.readOnly = true) ∧
    (∃ s : State, s.onMain = true ∧ s.acq.recs = [] ∧ s.acq.stage = []) :=
  ⟨⟨65535, rAcq, { sOn pACQ with acq := { recs := [rAcq] } }, by decide⟩,
    ⟨0, { rAcq with headed := true }, { tick := 3, sync := 0, imgTag := 0, holdEst := 0, bin := [], qual := [], smps := [] },
      { sOn pACQ with
        acq := { recs := [{ rAcq with headed := true }], stage := [(1,
          { tick := 3, sync := 0, imgTag := 0, holdEst := 0, bin := [], qual := [], smps := [] })] }, evr := { pf4 := true } }, by decide⟩,
    ⟨0, { rAcq with headed := true, ended := true }, { sOn pACQ with acq := { recs := [{ rAcq with headed := true, ended := true }] } },
      by decide⟩,
    ⟨{ sOn pACQ with acq := { recs := [rAcq] }, memSt := { readOnly := true } }, by decide⟩, ⟨{}, by decide⟩⟩

theorem test_witness_Capture_store :
    (∃ (i : Nat) (e : Nat × AcqUnit) (s : State), s.onMain = true ∧ s.arec i = none ∧ (∀ f ∈ s.acq.fifo, f.1 ≠ i) ∧
      s.acq.store.find? (fun e => e.2.id == i && e.2.part == 3) = some e) ∧
    (∃ (i : Nat) (e : Nat × AcqUnit) (s : State), s.onMain = true ∧ s.arec i = none ∧ (∀ f ∈ s.acq.fifo, f.1 ≠ i) ∧
      s.acq.store.find? (fun e => e.2.id == i && e.2.part == 3) = none ∧
      s.acq.store.find? (fun e => e.2.id == i && e.2.part == 0) = some e) ∧
    (∃ (v : Word) (e : Nat × AcqUnit) (s : State), s.onMain = true ∧ s.acq.store.find? (fun e => e.1 == fld v 0 16) = some e) ∧
    (∃ (v : Word) (s : State), s.onMain = true ∧ ∀ e ∈ s.acq.store, e.1 ≠ fld v 0 16) :=
  ⟨⟨1, (7, uAcq), { acq := { store := [(7, uAcq)] } }, by decide⟩,
    ⟨1, (65535, { uAcq with part := 0 }), { acq := { store := [(65535, { uAcq with part := 0 })] } }, by decide⟩,
    ⟨7, (7, uAcq), { acq := { store := [(7, uAcq)] } }, by decide⟩, ⟨0, {}, by decide⟩⟩

def rEv (src cls : Nat) : Rec := { src := src, cls := cls, typ := 1, body := [0, 0, 0, 0, 0, 0, 0, 0, 0, 0, 0, 0, 0, 0, 0, 0] }

/-- A record of 1,024 bytes, and a segment that 1,024 of them fill. -/
def rFull : Rec := { src := 1, cls := 9, typ := 1, seq := 1, body := List.replicate 976 0 }
def gFull : Seg := { seq := 0, first := 0, pwr := 0, recs := List.replicate 1024 rFull }

theorem gFull_used : gFull.used = 1048640 := by
  have h : rFull.size = 1024 := by simp only [rFull, Rec.size, List.length_replicate, Nat.reduceAdd]
  unfold gFull Seg.used
  rw [List.map_replicate, List.sum_replicate_nat, h]

theorem mirFull_of (g : Seg) (h : g.recs.any (fun _ => true) = true) (u : 2 ^ 20 < g.used) (n : Nat) :
    Evr.mirFull { mirSegs := List.replicate 512 g } n = true := by
  have k : Evr.mirUsed { mirSegs := List.replicate 512 g } = List.replicate 512 g := List.filter_replicate_of_pos h
  have e : List.replicate 512 g = g :: List.replicate 511 g := List.replicate_succ
  unfold Evr.mirFull
  rw [k, List.length_replicate]
  simp only [e, Bool.and_eq_true, decide_eq_true_eq]
  exact ⟨Nat.le_refl _, by omega⟩

theorem test_witness_EventDeck :
    (∃ (v : Word) (len : Nat) (s : State), s.onMain = true ∧ len = fld (s.rg pEVR R.EVR_POST_INFO) 24 8 ∧ 2 ≤ len ∧ len ≤ 128 ∧
      s.rg64 pEVR R.EVR_POST_ADDR % 8 = 0 ∧ postRange (s.rg64 pEVR R.EVR_POST_ADDR) (len * 8) = true ∧ fld v 0 4 ≤ 7 ∧
      s.evr.post = none ∧ s.pwr.pfMode = false ∧ s.evr.flushing = none) ∧
    (∃ s : State, s.onMain = true ∧ fld (s.rg pEVR R.EVR_POST_INFO) 24 8 = 0) ∧
    (∃ (v : Word) (len : Nat) (s : State), s.onMain = true ∧ len = fld (s.rg pEVR R.EVR_POST_INFO) 24 8 ∧ 2 ≤ len ∧ len ≤ 128 ∧
      s.rg64 pEVR R.EVR_POST_ADDR % 8 = 0 ∧ postRange (s.rg64 pEVR R.EVR_POST_ADDR) (len * 8) = true ∧ fld v 0 4 ≤ 7 ∧
      s.evr.post ≠ none) ∧
    (∃ (r : Rec) (a n : Nat) (s : State), s.onMain = true ∧ s.evr.post = some (r, a, n) ∧ s.flips = [] ∧ s.poison = [] ∧
      s.foldInto { r with body := s.bytes a n } = none ∧ s.evr.ordFill + 48 + n ≤ 2 ^ 21) ∧
    (∃ (n : Nat) (s : State), s.onMain = true ∧ s.evr.flushing = some n ∧ s.memSt.readOnly = false ∧ s.pwr.pfMode = false) ∧
    (∃ (n : Nat) (s : State), s.onMain = true ∧ s.evr.flushing = some n ∧ s.memSt.readOnly = true) ∧
    (∃ (r : Rec) (rest : List Rec) (s : State), s.onMain = true ∧ s.evr.cross = r :: rest ∧ 8 ≤ r.cls ∧ s.evr.privQ.length < 64) ∧
    (∃ (r : Rec) (rest : List Rec) (s : State), s.onMain = true ∧ s.evr.cross = r :: rest ∧ 8 ≤ r.cls ∧ 64 ≤ s.evr.privQ.length ∧
      r.src = 0x1A0) ∧
    (∃ (r : Rec) (rest : List Rec) (s : State), s.onMain = true ∧ s.evr.cross = r :: rest ∧ 8 ≤ r.cls ∧ 64 ≤ s.evr.privQ.length ∧
      r.src ≠ 0x1A0 ∧ r.src ≠ 0x1A1 ∧ rest = []) ∧
    (∃ (r : Rec) (rest : List Rec) (s : State), s.onMain = true ∧ s.evr.privQ = r :: rest ∧ s.pwr.pfMode = false ∧
      s.evr.room r.size = true ∧ s.evr.wptr + r.size ≤ 65536) ∧
    (∃ (r : Rec) (rest : List Rec) (s : State), s.onMain = true ∧ s.evr.privQ = r :: rest ∧ s.pwr.pfMode = false ∧
      s.evr.room r.size = false) ∧
    (∃ s : State, s.onMain = true ∧ s.evr.lost ≠ 0 ∧ s.evr.privQ.length < 64 ∧ s.evr.room 64 = true) ∧
    (∃ (r : Rec) (rest : List Rec) (s : State), s.onMain = true ∧ s.evr.unmirrored = r :: rest ∧ s.pwr.pfMode = false ∧
      s.memSt.readOnly = false ∧ s.evr.mirFull r.size = false) ∧
    (∃ (r : Rec) (rest : List Rec) (s : State), s.onMain = true ∧ s.evr.unmirrored = r :: rest ∧ s.pwr.pfMode = false ∧
      s.memSt.readOnly = false ∧ s.evr.mirFull r.size = true) :=
  ⟨⟨7, 2, State.setRg {} pEVR R.EVR_POST_INFO 0x02000000, by decide⟩, ⟨{}, by decide⟩,
    ⟨7, 128, State.setRg { evr := { post := some (rEv 0x8000 1, 0, 16) } } pEVR R.EVR_POST_INFO 0x80000000, by decide⟩,
    ⟨rEv 0x8000 1, 0, 16, { evr := { post := some (rEv 0x8000 1, 0, 16) } }, by decide +kernel⟩,
    ⟨0, { evr := { flushing := some 0 } }, by decide⟩, ⟨0, { evr := { flushing := some 0 }, memSt := { readOnly := true } }, by decide⟩,
    ⟨rEv 0x1A0 8, [], { evr := { cross := [rEv 0x1A0 8] } }, by decide⟩,
    ⟨rEv 0x1A0 8, [], { evr := { cross := [rEv 0x1A0 8], privQ := List.replicate 64 (rEv 1 9) } }, by decide⟩,
    ⟨rEv 1 9, [], { evr := { cross := [rEv 1 9], privQ := List.replicate 64 (rEv 1 9) } }, by decide⟩,
    ⟨rEv 1 9, [], { evr := { privQ := [rEv 1 9], wptr := 65472 } }, by decide⟩,
    ⟨rEv 1 9, [], { evr := { privQ := [rEv 1 9], ring := [(0, 65473, some 1)] } }, by decide⟩,
    ⟨{ evr := { lost := 1, ring := [(0, 65472, some 1)] } }, by decide⟩, ⟨rEv 1 9, [], { evr := { unmirrored := [rEv 1 9] } }, by decide⟩,
    ⟨rEv 1 9, [], { evr := { unmirrored := [rEv 1 9], mirSegs := List.replicate 512 gFull } }, by decide, by decide, by decide, by decide,
      mirFull_of gFull (by decide) (by rw [gFull_used]; decide) _⟩⟩

/-- The pair on, with the frames received. -/
def sDup (rx : List Body) (st : Nat) (act : Bool) : State :=
  { (sOn pDUP).setAc pDUP R.DUP_CFG 3 with dup := { state := st, active := act, rx := rx } }

def mSync (side : Bool) (st : Nat) (act : Bool) : SyncMsg :=
  { cyc := 1, side := side, state := st, active := act, configId := 0, hash := 0, nocmp := false }

def pPub : PubState := { idx := 2, stNum := 3, sqNum := 4, lastTag := 0, tick := 0, utc := 0, relTick := 0, next := 9, syncs := [], last := [] }

theorem test_witness_PartnerFrames :
    (∃ (m : SyncMsg) (rx : List Body) (s : State), s.onMain = true ∧ s.dupEn = true ∧ s.dup.rx = .sync m :: rx ∧ s.dup.state = 1 ∧
      m.inj = [] ∧ m.side = s.sideB ∧ s.dup.pend = none ∧ s.dup.active = false) ∧
    (∃ (m : SyncMsg) (rx : List Body) (s : State), s.onMain = true ∧ s.dupEn = true ∧ s.dup.rx = .sync m :: rx ∧ s.dup.state = 1 ∧
      m.inj = [] ∧ m.side ≠ s.sideB ∧ m.configId = s.cfgId ∧ m.active = true ∧ m.state = 5 ∧ s.dup.active = false) ∧
    (∃ (c : Nat) (bs : List Nat) (rx : List Body) (s : State), s.onMain = true ∧ s.dupEn = true ∧ s.dup.rx = .mirror c bs :: rx ∧
      s.dup.active = false ∧ s.dup.state ≠ 3 ∧ s.dup.mirRx = none) ∧
    (∃ (c : Nat) (bs old : List Nat) (rx : List Body) (s : State), s.onMain = true ∧ s.dupEn = true ∧ s.dup.rx = .mirror c bs :: rx ∧
      s.dup.active = false ∧ s.dup.state ≠ 3 ∧ s.dup.mirRx = some (c, old)) ∧
    (∃ (c c' : Nat) (bs old : List Nat) (rx : List Body) (s : State), s.onMain = true ∧ s.dupEn = true ∧ s.dup.rx = .mirror c bs :: rx ∧
      s.dup.active = false ∧ s.dup.state ≠ 3 ∧ s.dup.mirRx = some (c', old) ∧ c' < c) ∧
    (∃ (c c' : Nat) (bs old : List Nat) (rx : List Body) (s : State), s.onMain = true ∧ s.dupEn = true ∧ s.dup.rx = .mirror c bs :: rx ∧
      s.dup.active = false ∧ s.dup.state ≠ 3 ∧ s.dup.mirRx = some (c', old) ∧ c < c') ∧
    (∃ (k : Nat) (m : RStateMsg) (rx : List Body) (s : State), s.onMain = true ∧ s.dupEn = true ∧ s.dup.rx = .rstate k m :: rx ∧
      s.dup.state ≠ 3) ∧
    (∃ (k : Nat) (m : RStateMsg) (rx : List Body) (p : PubState) (s : State), s.onMain = true ∧ s.dupEn = true ∧
      s.dup.rx = .rstate k m :: rx ∧ s.dup.state = 3 ∧ s.dup.resyncTick = some (k + 1) ∧ m.engine = none ∧ m.subs = [] ∧ m.pubs = [p] ∧
      m.last = true) :=
  ⟨⟨mSync false 1 false, [], sDup [.sync (mSync false 1 false)] 1 false, by decide⟩,
    ⟨mSync true 5 true, [], sDup [.sync (mSync true 5 true)] 1 false, by decide⟩, ⟨1, [], [], sDup [.mirror 1 []] 2 false, by decide⟩,
    ⟨1, [], [], [], { sDup [] 0 false with dup := { state := 2, rx := [.mirror 1 []], mirRx := some (1, []) } }, by decide⟩,
    ⟨1, 0, [], [], [], { sDup [] 0 false with dup := { state := 2, rx := [.mirror 1 []], mirRx := some (0, []) } }, by decide⟩,
    ⟨1, 2, [], [], [], { sDup [] 0 false with dup := { state := 2, rx := [.mirror 1 []], mirRx := some (2, []) } }, by decide⟩,
    ⟨1, {}, [], sDup [.rstate 1 {}] 2 false, by decide⟩,
    ⟨1, { pubs := [pPub] }, [], pPub,
      { sDup [] 0 false with dup := { state := 3, rx := [.rstate 1 { pubs := [pPub] }], resyncTick := some 2 } }, by decide⟩⟩

theorem test_witness_PairAndInjection :
    (∃ (j st c : Nat) (a : Bool) (s : State), s.onMain = true ∧ s.cycDue = some j ∧ s.dup.pend = some (st, a, c) ∧
      ∀ p, p < 16 → (s.hd (pCYC p)).stopNs = none) ∧
    (∃ s : State, s.onMain = true ∧ s.dupEn = true ∧ s.dup.state = 2 ∧ 4800 ≤ s.dup.cfgDiff ∧ s.dupMode ≠ 2 ∧ s.dup.active = false) ∧
    (∃ s : State, s.onMain = true ∧ s.dup.cfgDiff = 4799 ∧ s.preferred = false ∧ s.since s.dup.pairClk < 500000000) ∧
    (∃ s : State, s.onMain = true ∧ s.dupEn = true ∧ s.dup.state = 1 ∧ s.dup.partner = none ∧ 500000000 ≤ s.since s.dup.pairClk) ∧
    (∃ s : State, s.onMain = true ∧ s.dupEn = true ∧ s.dup.state = 6) ∧
    (∃ s : State, s.onMain = true ∧ s.dupEn = true ∧ s.dup.state = 2 ∧ s.dup.active = true) ∧
    (∃ s : State, s.onMain = true ∧ s.dupEn = true ∧ (s.hd pDUP).unlocked = true ∧ s.hbCurrent = false ∧ s.dupMode = 3 ∧ s.dup.state = 7) ∧
    (∃ s : State, s.onMain = true ∧ (s.hd pDUP).unlocked = false) ∧
    (∃ s : State, s.onMain = true ∧ (s.hd pDUP).unlocked = true ∧ s.dupMode ≠ 3 ∧ s.dup.active = true ∧ s.failed = false ∧ 16 ≤ s.dup.injNow) ∧
    (∃ s : State, s.onMain = true ∧ s.dupEn = true ∧ s.dupMode = 0 ∧ s.preferred = true ∧ s.dup.state = 2 ∧ s.dup.active = false ∧
      s.dup.reqSwap = false ∧ s.sideB = false ∧ s.tsu.sync ≠ .unlocked ∧
      fld (s.ac pDUP R.DUP_TIMING) 16 16 * 250000000 ≤ s.since s.dup.healthyClk) ∧
    (∃ (p : Nat) (s : State), s.onMain = true ∧ p = fld (s.rg pDUP R.DUP_INJ_POINT) 0 20 ∧ s.dup.active = true ∧ s.failed = false ∧
      s.dup.injNow < 16 ∧ s.inRange (some 0) p = true ∧ (s.inst 0).wrote < s.iQuota 0) :=
  ⟨⟨2, 2, 3, true, { sCyc with cyc := { cyc := some 1, kerfDone := true, ticks := [2] }, dup := { pend := some (2, true, 3) } }, by decide +kernel⟩,
    ⟨{ sDup [] 2 false with dup := { state := 2, cfgDiff := 4800 } }, by decide⟩, ⟨{ dup := { cfgDiff := 4799 } }, by decide⟩,
    ⟨(sDup [] 1 false).atTime 0 500000000, by decide⟩, ⟨sDup [] 6 false, by decide⟩, ⟨sDup [] 2 true, by decide⟩,
    ⟨{ (sHd pDUP { enable := true, unlocked := true }).setAc pDUP R.DUP_CFG 0x31 with dup := { state := 7 } }, by decide⟩, ⟨{}, by decide⟩,
    ⟨{ sHd pDUP { unlocked := true } with dup := { active := true, injNow := 16 } }, by decide⟩,
    ⟨{ (sDup [] 2 false).setAc pDUP R.DUP_TIMING 0x10000 with tsu := { clk := 250000000, sync := .locked } }, by decide⟩,
    ⟨0, { sInst.setTws 0x00D54000 [0x80000000, 0, 0] with dup := { state := 2, active := true, injNow := 15 } }, by decide +kernel⟩⟩

theorem test_witness_Memories :
    (∃ (m pos : Nat) (s : State), s.onMain = true ∧ m < 4 ∧ bit (s.ac pCRU R.CRU_CFG) 0 = true ∧
      s.memFenced = 0 ∧ (s.lap m).pos = pos ∧ pos + 1 < (memSpan m).2 ∧ s.poison = [] ∧ s.flips = []) ∧
    (∃ (m : Nat) (s : State), s.onMain = true ∧ m < 4 ∧ bit (s.ac pCRU R.CRU_CFG) 0 = true ∧ s.memFenced = 0 ∧
      (s.lap m).pos + 1 = (memSpan m).2 ∧ s.poison = [] ∧ s.flips = []) ∧
    (∃ (m pos b : Nat) (s : State), s.onMain = true ∧ m < 4 ∧ bit (s.ac pCRU R.CRU_CFG) 0 = true ∧
      s.memFenced = 0 ∧ (s.lap m).pos = pos ∧ pos + 1 < (memSpan m).2 ∧ s.poison = [] ∧ b < 80 ∧
      s.flips = [((memSpan m).1 / 8 + pos, 2 ^ b)]) ∧
    (∃ s : State, s.onMain = true ∧ bit (s.ac pCRU R.CRU_CFG) 0 = false) ∧
    (∃ (a req idx : Nat) (bs : List Byte) (s : State), s.onMain = true ∧ (memOf a).isSome = true ∧ memOf a = memOf (a + bs.length - 1) ∧
      bs ≠ [] ∧ (req ≠ 1 ∨ s.onCore idx = none) ∧ s.flips = [] ∧ s.poison = []) ∧
    (∃ (a req idx : Nat) (bs : List Byte) (s : State), s.onMain = true ∧ (memOf a).isSome = true ∧ memOf a = memOf (a + bs.length - 1) ∧
      bs ≠ [] ∧ (req ≠ 1 ∨ s.onCore idx = none) ∧ s.flips = [] ∧ bs.length ≤ 8 - a % 8 ∧ bs.length < 8 ∧ s.poison = [(a / 8, true)]) ∧
    (∃ (m : Nat) (s : State), s.onMain = true ∧ m < 4 ∧ (s.lap m).raised = false ∧ s.lapLimit m ≠ 0 ∧
      s.lapLimit m < s.lapMs m) ∧
    (∃ (m : Nat) (s : State), s.onMain = true ∧ m < 4 ∧ (s.lap m).raised = false ∧ s.lapLimit m ≠ 0 ∧
      s.lapMs m = s.lapLimit m) ∧
    (∃ (v : Word) (s : State), s.onMain = true ∧ (s.hd pMEM).unlocked = true ∧ fld v 0 2 = 2 ∧ fld v 8 8 < 80 ∧ fld v 16 8 < 80 ∧
      (memOf (s.rg64 pMEM R.MEM_INJ_ADDR)).isSome = true) ∧
    (∃ (v : Word) (s : State), s.onMain = true ∧ (s.hd pMEM).unlocked = true ∧ fld v 0 2 = 1 ∧ 79 < fld v 8 8) ∧
    (∃ (v : Word) (s : State), s.onMain = true ∧ (s.hd pMEM).unlocked = false ∧ v &&& 0xFFFF03 ≠ 0) ∧
    (∃ s : State, s.onMain = true ∧ (s.hd pMEM).unlocked = false ∧ s.memSt.wearWarn = false ∧ s.memSt.readOnly = false) :=
  ⟨⟨3, 0, State.setAc {} pCRU R.CRU_CFG 1, by decide⟩,
    ⟨0, { (State.setAc {} pCRU R.CRU_CFG 1) with memSt := { laps := [(0, { pos := 0xFFFFFFFF })] } }, by decide⟩,
    ⟨1, 0, 79, { (State.setAc {} pCRU R.CRU_CFG 1) with flips := [(0x1100000000 / 8, 2 ^ 79)] }, by decide⟩,
    ⟨State.setAc {} pCRU R.CRU_CFG 0, by decide⟩, ⟨0x7FFFFFFFF, 2, 0, [1], {}, by decide⟩,
    ⟨0x1000000001, 2, 0, [1, 2, 3, 4, 5, 6, 7], { poison := [(0x1000000000 / 8, true)] }, by decide⟩,
    ⟨3, (State.setAc {} pCRU R.CRU_LAP_LIMIT_SRAM 1).atTime 0 250250000, by decide⟩,
    ⟨0, (State.setAc {} pCRU R.CRU_LAP_LIMIT_DRAM 1).atTime 0 250000000, by decide⟩,
    ⟨0x4F4F02, sHd pMEM { unlocked := true }, by decide⟩, ⟨0x5001, sHd pMEM { unlocked := true }, by decide⟩,
    ⟨1, {}, by decide⟩, ⟨{}, by decide⟩⟩

theorem test_witness_MemoryKeepsItsForm :
    ∃ s : State, Memory.wf s.mem = true ∧ Memory.wf s.mram = true ∧ s.mem ≠ [] :=
  ⟨{ mem := [(5, 1), (0x1000000000, 255)], mram := [(0, 3)] }, by decide⟩

theorem test_witness_KeyCommands :
    (∃ (op : Nat) (s : State), s.onMain = true ∧ op ∈ [8, 16] ∧ (s.hd pKSU).unlocked = false) ∧
    (∃ s : State, s.onMain = true ∧ (s.hd pKSU).unlocked = true ∧ (s.hd pKSU).busy = true) ∧
    (∃ s : State, s.onMain = true ∧ (s.hd pKSU).unlocked = true ∧ (sget {} pKSU s.wins).busy = true) ∧
    (∃ s : State, s.onMain = true ∧ (s.hd pKSU).busy = false ∧ (sget {} pKSU s.wins).busy = false ∧ s.ident.keyUpdateMode = 1) ∧
    (∃ s : State, s.onMain = true ∧ (s.hd pKSU).busy = false ∧ (sget {} pKSU s.wins).busy = false ∧ s.ident.keyUpdateMode ≠ 1 ∧
      s.ksu.lockedOut = true) ∧
    (∃ s : State, s.onMain = true ∧ (s.hd pKSU).busy = false ∧ (sget {} pKSU s.wins).busy = false ∧ s.ident.keyUpdateMode ≠ 1 ∧
      s.ksu.lockedOut = false ∧ s.ksu.hold = true) ∧
    (∃ s : State, s.onMain = true ∧ (s.hd pKSU).busy = false ∧ (sget {} pKSU s.wins).busy = false ∧ s.ident.keyUpdateMode ≠ 1 ∧
      s.ksu.lockedOut = false ∧ s.ksu.hold = false ∧ (s.hd pKSU).unlocked = true) :=
  ⟨⟨8, {}, by decide⟩, ⟨sHd pKSU { unlocked := true, busy := true }, by decide⟩,
    ⟨{ sHd pKSU { unlocked := true } with wins := [(pKSU, { busy := true })] }, by decide⟩, ⟨{ ident := { keyUpdateMode := 1 } }, by decide⟩,
    ⟨{ ident := { keyUpdateMode := 2 }, ksu := { lockedOut := true } }, by decide⟩,
    ⟨{ ident := { keyUpdateMode := 2 }, ksu := { hold := true } }, by decide⟩,
    ⟨{ sHd pKSU { unlocked := true } with ident := { keyUpdateMode := 2 } }, by decide⟩⟩

/-- A key operation in progress on slot 5. -/
def oKey (op arg : Nat) (code : Option Nat) : KOp :=
  { op := op, slot := 5, arg := arg, addr := 0, len := 32, data := [], before := {}, code := code }
def sKey (o : KOp) (k : KSlot) : State := { ksu := { op := some o }, kslots := [(5, k)] }

theorem test_witness_KeyOperations :
    (∃ s : State, s.onMain = true ∧ s.ksu.op = none ∧ ((s.touch pKSU).ksuCmd 15 0 0).ksu.op.isSome = true) ∧
    (∃ (o : KOp) (s : State), s.onMain = true ∧ s.ksu.op = some o ∧ o.code = none ∧ s.deckWaits pKSU = false ∧ o.op = 3 ∧
      (s.kslot o.slot).staged = none) ∧
    (∃ (o : KOp) (m : List Byte) (v : Bool) (s : State), s.onMain = true ∧ s.ksu.op = some o ∧ o.code = none ∧ s.deckWaits pKSU = false ∧
      o.op = 3 ∧ (s.kslot o.slot).staged = some (m, v)) ∧
    (∃ (o : KOp) (s : State), s.onMain = true ∧ s.ksu.op = some o ∧ o.code = none ∧ s.deckWaits pKSU = false ∧ o.op = 13 ∧
      s.ksu.mrLock.testBit o.arg = false ∧ o.arg = 7 ∧ (s.ksu.mrs[o.arg]?).isSome = true) ∧
    (∃ (o : KOp) (s : State), s.onMain = true ∧ s.ksu.op = some o ∧ o.code = none ∧ s.deckWaits pKSU = false ∧ o.op = 14 ∧ o.arg = 8) ∧
    (∃ (o : KOp) (c : Nat) (s : State), s.onMain = true ∧ s.ksu.op = some o ∧ o.code = some c ∧ s.deckWaits pKSU = true) ∧
    (∃ (o : KOp) (c : Nat) (s : State), s.onMain = true ∧ s.ksu.op = some o ∧ o.code = some c ∧ s.deckWaits pKSU = false) ∧
    (∃ (o : KOp) (s : State), s.onMain = true ∧ s.ksu.op = some o ∧ o.code = none ∧ o.op = 1 ∧ s.flips = [] ∧ s.poison = [] ∧
      (s.kslot o.slot).fromRoot = true ∧ s.ksu.root = true ∧ 0 < o.len ∧ o.len = 32 ∧ postRange o.addr o.len = true) ∧
    (∃ (o : KOp) (s : State), s.onMain = true ∧ s.ksu.op = some o ∧ o.code = none ∧ o.op = 2 ∧ s.flips = [] ∧ s.poison = [] ∧
      s.deckWaits pKSU = false ∧ postRange o.addr (s.kslot o.slot).keyLen = true) ∧
    (∃ (o : KOp) (m : List Byte) (s : State), s.onMain = true ∧ s.ksu.op = some o ∧ o.code = none ∧ o.op = 4 ∧
      (s.kslot o.slot).staged = some (m, true)) ∧
    (∃ (o : KOp) (s : State), s.onMain = true ∧ s.ksu.op = some o ∧ o.code = none ∧ o.op = 8) :=
  ⟨⟨{ ident := { keyUpdateMode := 2 } }, by decide⟩, ⟨oKey 3 0 none, sKey (oKey 3 0 none) {}, by decide⟩,
    ⟨oKey 3 0 none, [1], false, sKey (oKey 3 0 none) { staged := some ([1], false) }, by decide⟩,
    ⟨oKey 13 7 none, sKey (oKey 13 7 none) {}, by decide⟩, ⟨oKey 14 8 none, sKey (oKey 14 8 none) {}, by decide⟩,
    ⟨oKey 1 0 (some 0), 0, { sKey (oKey 1 0 (some 0)) {} with evr := { cross := [{ src := pKSU, cls := 11, typ := 1, body := [] }] } }, by decide⟩,
    ⟨oKey 1 0 (some 0), 0, sKey (oKey 1 0 (some 0)) {}, by decide⟩, ⟨oKey 1 0 none, sKey (oKey 1 0 none) { fromRoot := true }, by decide⟩,
    ⟨oKey 2 0 none, sKey (oKey 2 0 none) {}, by decide⟩, ⟨oKey 4 0 none, [1], sKey (oKey 4 0 none) { staged := some ([1], true) }, by decide⟩,
    ⟨oKey 8 0 none, sKey (oKey 8 0 none) {}, by decide⟩⟩

theorem test_witness_TamperResponses :
    (∃ (src q e : Nat) (s : State), s.onMain = true ∧ src < 6 ∧ s.ksu.running = true ∧ s.ksu.op = none ∧ s.tmp.seq = q ∧
      e = 0x3FC00 + q % 32 * 32 ∧ s.tmp.active.testBit src = true ∧ s.ksu.holdSrc.testBit src = true) ∧
    (∃ (src q e : Nat) (s : State), s.onMain = true ∧ src < 6 ∧ s.ksu.running = true ∧ s.ksu.op = none ∧ s.tmp.seq = q ∧
      e = 0x3FC00 + q % 32 * 32 ∧ s.tmp.active.testBit src = false ∧ bit (s.ac pTMP R.TMP_CFG) src = false) ∧
    (∃ (src q e : Nat) (s : State), s.onMain = true ∧ src < 6 ∧ s.ksu.running = true ∧ s.ksu.op = none ∧ s.tmp.seq = q ∧
      e = 0x3FC00 + q % 32 * 32 ∧ s.tmp.active.testBit src = false ∧ bit (s.ac pTMP R.TMP_CFG) src = true) ∧
    (∃ s : State, s.onMain = true ∧ s.ksu.hold = true ∧ s.ksu.holdSrc = 0 ∧ 250000000 ≤ s.since s.ksu.holdClk) ∧
    (∃ s : State, s.onMain = true ∧ s.since s.ksu.holdClk < 250000000) :=
  ⟨⟨5, 33, 0x3FC20, { ksu := { running := true, holdSrc := 32 }, tmp := { active := 32, seq := 33 } }, by decide⟩,
    ⟨5, 1, 0x3FC20, State.setAc { ksu := { running := true } } pTMP R.TMP_CFG 0, by decide⟩,
    ⟨5, 1, 0x3FC20, State.setAc { ksu := { running := true } } pTMP R.TMP_CFG 0x20, by decide⟩,
    ⟨{ State.atTime {} 0 250000000 with ksu := { hold := true } }, by decide⟩, ⟨{}, by decide⟩⟩

theorem test_witness_WarningAndFlush :
    (∃ s : State, s.onMain = true ∧ s.pwr.pfw = true ∧ s.pwr.pfMode = true) ∧
    (∃ s : State, s.onMain = true ∧ bit (s.ac pPWR R.PWR_CFG) 0 = false ∧ s.pwr.pfw = false ∧ s.pwr.pfMode = false ∧ s.rst.prep = none ∧
      s.unusable (pTAL 7) = false) ∧
    (∃ s : State, s.onMain = true ∧ s.pwr.pfw = false ∧ bit (s.ac pPWR R.PWR_CFG) 0 = true ∧ s.pwr.pfMode = true) ∧
    (∃ s : State, s.onMain = true ∧ s.pwr.pfMode = true ∧ s.flushOver = true ∧ s.pwr.pfw = true) ∧
    (∃ (h : Nat × Nat) (s : State), s.onMain = true ∧ s.pwr.pfMode = true ∧ s.flushOver = true ∧ s.pwr.pfw = false ∧ s.rst.prep = none ∧
      s.pwr.heldReset = some h) ∧
    (∃ s : State, s.onMain = true ∧ s.pwr.pfMode = true ∧ s.flushOver = true ∧ s.pwr.pfw = false ∧ s.rst.prep = none ∧
      s.pwr.heldReset = none ∧ s.dup.state ≠ 2) ∧
    (∃ s : State, s.onMain = true ∧ s.pwr.pfMode = true ∧ s.flushOver = true ∧ s.pwr.pfw = false ∧ s.rst.prep = none ∧
      s.pwr.heldReset = none ∧ s.dup.state = 2) ∧
    (∃ s : State, s.onMain = true ∧ s.flushOver = false ∧ s.pwr.holdupReady = true ∧ s.pwr.vauxOk = false) ∧
    (∃ s : State, s.onMain = true ∧ s.pwr.holdupReady = false ∧ s.pwr.vauxOk = true) :=
  ⟨⟨{ pwr := { pfw := true, pfMode := true } }, by decide⟩, ⟨State.setAc {} pPWR R.PWR_CFG 0, by decide⟩,
    ⟨State.setAc { pwr := { pfMode := true } } pPWR R.PWR_CFG 1, by decide⟩,
    ⟨{ State.atTime {} 0 1000000 with pwr := { pfw := true, pfMode := true } }, by decide⟩,
    ⟨(5, 0), { State.atTime {} 0 1000000 with pwr := { pfMode := true, heldReset := some (5, 0) } }, by decide⟩,
    ⟨{ State.atTime {} 0 1000000 with pwr := { pfMode := true } }, by decide⟩,
    ⟨{ State.atTime {} 0 1000000 with pwr := { pfMode := true }, dup := { state := 2 } }, by decide⟩,
    ⟨{ State.atTime {} 0 999999 with pwr := { holdupReady := true, vauxOk := false } }, by decide⟩, ⟨{}, by decide⟩⟩

theorem test_witness_SupplyLoss :
    (∃ s : State, s.pwr.phase = .held ∧ s.onTime = true) ∧ (∃ s : State, s.pwr.phase = .run ∧ s.pwr.pfMode = true) ∧
    (∃ s : State, s.pwr.phase = .run ∧ s.pwr.finalDone = false ∧ s.onTime = true ∧ s.pwr.pfMode = false) ∧
    (∃ s : State, s.pwr.phase = .reset ∧ s.pwr.finalDone = true) ∧ (∃ s : State, s.pwr.phase = .sleep) ∧ (∃ s : State, s.pwr.phase = .off) :=
  ⟨⟨{ pwr := { phase := .held } }, by decide⟩, ⟨{ pwr := { pfMode := true } }, by decide⟩, ⟨{}, by decide⟩,
    ⟨{ pwr := { phase := .reset, finalDone := true } }, by decide⟩, ⟨{ pwr := { phase := .sleep } }, rfl⟩, ⟨{ pwr := { phase := .off } }, rfl⟩⟩

theorem test_witness_Starts :
    (∃ (s : State) (b : StartUp), s.pwr.phase = .sleep ∧ b.pufErr ≤ 150 ∧ b.pufOk = true ∧ s.tmp.active = 0) ∧
    (∃ s : State, s.pwr.phase = .held) ∧
    (∃ (k : Nat) (s : State), s.pwr.phase = .run ∧ s.pwr.pfMode = false ∧ s.rst.prep = some (2, k) ∧ s.prepDone = true) ∧
    (∃ (c k : Nat) (s : State), s.pwr.phase = .run ∧ s.pwr.pfMode = false ∧ s.rst.prep = some (c, k) ∧ c ≠ 2 ∧ s.prepDone = true ∧
      s.rst.holdBy = none ∧ (s.hdrs.map Prod.fst).Nodup) ∧
    (∃ s : State, s.warmDue = none ∧ s.rst.prep = none) :=
  ⟨⟨{ pwr := { phase := .sleep } }, { pufErr := 150 }, by decide⟩, ⟨{ pwr := { phase := .held } }, rfl⟩,
    ⟨0, { rst := { prep := some (2, 0) }, pwr := { finalDone := true } }, by decide⟩,
    ⟨5, 0, { rst := { prep := some (5, 0) }, pwr := { finalDone := true } }, by decide⟩, ⟨{}, by decide⟩⟩

theorem test_witness_ResetRequests :
    (∃ s : State, s.onMain = true ∧ (s.hd pRST).unlocked = false ∧ s.wdogMs = 0 ∧ s.shf.mgr = false) ∧
    (∃ s : State, s.onMain = true ∧ (s.hd pRST).unlocked = true ∧ s.pwr.pfMode = false ∧ s.rst.prep = none) ∧
    (∃ s : State, s.onMain = true ∧ s.wdogMs ≠ 0 ∧ s.wdogMs * 250000 ≤ s.since s.rst.kickClk ∧ s.pwr.heldReset = none ∧
      s.rst.prep = none ∧ s.pwr.pfMode = false) ∧
    (∃ s : State, s.onMain = true ∧ (s.hd pRST).unlocked = true ∧ s.pwr.pfMode = true ∧ s.pwr.heldReset = none) ∧
    (∃ s : State, s.onMain = true ∧ (s.hd pRST).unlocked = true ∧ s.pwr.pfMode = false ∧ s.rst.prep ≠ none) ∧
    (∃ s : State, s.onMain = true ∧ s.shf.mgr = true) :=
  ⟨⟨State.setAc {} pRST R.RST_WDOG_CFG 0, by decide⟩, ⟨sHd pRST { unlocked := true }, by decide⟩,
    ⟨(State.setAc {} pRST R.RST_WDOG_CFG 1).atTime 0 250000, by decide⟩,
    ⟨{ sHd pRST { unlocked := true } with pwr := { pfMode := true } }, by decide⟩,
    ⟨{ sHd pRST { unlocked := true } with rst := { prep := some (5, 0) } }, by decide⟩, ⟨{ shf := { mgr := true } }, by decide⟩⟩

theorem test_witness_ResetContacts :
    (∃ (s : State) (x : Bool), s.pwr.phase = .run ∧ (s.contact x).closed = false ∧ (s.contact x).stuck = false ∧ s.rst.holdBy = none ∧
      s.rst.prep = none ∧ s.pwr.pfMode = false) ∧
    (∃ (s : State) (x : Bool), (s.contact x).closed = true ∧ s.rst.holdBy = some (x, 0) ∧ 500000000 ≤ s.since 0 ∧ s.pwr.phase = .reset) ∧
    (∃ (s : State) (x : Bool), (s.contact x).closed = false ∧ s.rst.holdBy = some (x, 0) ∧ 500000000 ≤ s.since 0 ∧ s.pwr.phase = .run) ∧
    (∃ (s : State) (x : Bool), s.rst.holdBy = some (x, 0) ∧ s.since 0 < 500000000) ∧
    (∃ (s : State) (x : Bool), s.onMain = true ∧ (s.contact x).stuck = true ∧ (s.contact x).closed = false ∧
      25000000 ≤ s.since (s.contact x).openClk) ∧
    (∃ (s : State) (x : Bool), s.onMain = true ∧ (s.contact x).stuck = true ∧ (s.contact x).closed = false ∧
      s.since (s.contact x).openClk < 25000000) :=
  ⟨⟨{}, true, by decide⟩,
    ⟨{ State.atTime {} 0 500000000 with rst := { rstIn := { closed := true }, holdBy := some (true, 0) }, pwr := { phase := .reset } }, true,
      by decide⟩,
    ⟨{ State.atTime {} 0 500000000 with rst := { holdBy := some (false, 0) } }, false, by decide⟩,
    ⟨{ State.atTime {} 0 499999999 with rst := { holdBy := some (false, 0) } }, false, by decide⟩,
    ⟨{ State.atTime {} 0 25000000 with rst := { button := { stuck := true } } }, false, by decide⟩,
    ⟨{ State.atTime {} 0 24999999 with rst := { button := { stuck := true } } }, false, by decide⟩⟩

/-- A module of slot 63 whose P9 takes window frames: a manager or a worker, with the frames received. -/
def sShf (mgr : Bool) (rx : List WinMsg) : State :=
  { ((sOn pSWC).andOn (pMAC 9)).setAc (pMAC 9) R.MAC_CFG 0x2000 |>.setMac 9 { linkUp := true } with shf := { mgr := mgr, rx := rx } }

def aAnn (mgr : Bool) : Announce :=
  { mgr := mgr, deviceId := [], sysId := 0x42420000, sysStatus := 0, caps := [], cycles := 1, cause := 0, eolDays := 0, eolInfo := 0 }
def mWin (src : Nat) (k : WinKind) : WinMsg := { shelf := 63, src := src, dst := 63, kind := k }

theorem deviceId_ne : ([] : List Nat) ≠ deviceId := fun h => by
  have := congrArg List.length h
  simp [deviceId, fit] at this

theorem test_witness_ShelfMembers :
    (∃ (c : Nat) (s : State), s.onMain = true ∧ s.shf.annClk = some c ∧ s.since c < 25000000 ∧ s.annNow = s.shf.annSig) ∧
    (∃ (mgr : Bool) (s : State), s.WinRoom 64 (.announce s.announce) ∧ s.onMain = true ∧ s.shf.annClk = none ∧ s.shf.mgr = mgr) ∧
    (∃ (m : WinMsg) (rest : List WinMsg) (a : Announce) (n : Nat) (s : State), a.deviceId ≠ deviceId ∧ s.onMain = true ∧
      s.shf.rx = m :: rest ∧ m.kind = .announce a ∧ n = m.src % 64 ∧ n = s.ownSlot ∧ a.mgr = false ∧ s.shf.mgr = false) ∧
    (∃ (m : WinMsg) (rest : List WinMsg) (a : Announce) (n : Nat) (s : State), s.onMain = true ∧
      s.shf.rx = m :: rest ∧ m.kind = .announce a ∧ n = m.src % 64 ∧ n ≠ s.ownSlot ∧ a.mgr = true ∧ s.shf.mgr = true ∧
      (s.slot n).state ≠ 4 ∧ (s.slot n).ids = []) ∧
    (∃ (m : WinMsg) (rest : List WinMsg) (a : Announce) (n : Nat) (e : List Nat × Nat) (s : State), s.onMain = true ∧
      s.shf.rx = m :: rest ∧ m.kind = .announce a ∧ n = m.src % 64 ∧ s.shf.mgr = true ∧ e ∈ (s.slot n).ids ∧ e.1 ≠ a.deviceId ∧
      s.since e.2 ≤ 75000000) ∧
    (∃ (n : Nat) (s : State), s.onMain = true ∧ n < 64 ∧ s.shf.mgr = true ∧ (s.slot n).state = 1 ∧ s.lossClk ≤ s.since (s.slot n).clk) ∧
    (∃ (n : Nat) (a : Announce) (s : State), s.onMain = true ∧ n < 64 ∧ (s.slot n).state = 4 ∧
      ((s.slot n).ids.filter (fun e => s.since e.2 < msClk 1000)).length ≤ 1 ∧ (s.slot n).ann = some a) ∧
    (∃ s : State, s.onMain = true ∧ s.shf.mgr = true ∧ s.shf.standby = true ∧ ∀ n, n ∈ s.mgrsAlive → s.ownSlot ≤ n) ∧
    (∃ s : State, s.onMain = true ∧ s.shf.mgr = false ∧ s.shf.mgrLost = false ∧ s.lossClk ≤ s.since s.shf.mgrClk) ∧
    (∃ (n : Nat) (s : State), s.onMain = true ∧ n < 64 ∧ (s.hd pSHF).unlocked = false) ∧
    (∃ (n : Nat) (s : State), s.onMain = true ∧ n < 64 ∧ (s.hd pSHF).unlocked = true ∧ (s.slot n).state = 3) ∧
    (∃ (n : Nat) (s : State), s.onMain = true ∧ n < 64 ∧ (s.hd pSHF).unlocked = true ∧ (s.slot n).state ≠ 3) :=
  ⟨⟨0, { shf := { annClk := some 0, annSig := State.annNow {} } }, rfl, rfl, by decide, rfl⟩,
    ⟨true, sShf true [], ⟨by decide, by decide, by decide, by decide⟩, by decide⟩,
    ⟨mWin 63 (.announce (aAnn false)), [], aAnn false, 63, sShf false [mWin 63 (.announce (aAnn false))], deviceId_ne, by decide⟩,
    ⟨mWin 3 (.announce (aAnn true)), [], aAnn true, 3, sShf true [mWin 3 (.announce (aAnn true))], by decide⟩,
    ⟨mWin 3 (.announce (aAnn true)), [], aAnn true, 3, ([1], 0),
      { State.atTime {} 0 75000000 with
        shf := { mgr := true, rx := [mWin 3 (.announce (aAnn true))], slots := [(3, { state := 1, ids := [([1], 0)] })] } }, by decide⟩,
    ⟨3, { State.atTime {} 0 400000000 with shf := { mgr := true, slots := [(3, { state := 1 })] } }, by decide⟩,
    ⟨3, aAnn true, { State.atTime {} 0 250000000 with shf := { slots := [(3, { state := 4, ids := [([1], 0), ([2], 1)], ann := some (aAnn true) })] } },
      by decide⟩,
    ⟨{ shf := { mgr := true, standby := true, mgrs := [(63, 0)] } }, by decide⟩, ⟨State.atTime {} 0 400000000, by decide⟩,
    ⟨63, {}, by decide⟩, ⟨63, { sHd pSHF { unlocked := true } with shf := { slots := [(63, { state := 3 })] } }, by decide⟩,
    ⟨0, sHd pSHF { unlocked := true }, by decide⟩⟩

theorem test_witness_HostWindow :
    (∃ (n a : Nat) (s : State), s.onMain = true ∧ n < 64 ∧ a < 2 ^ 24 ∧ a % 4 = 0 ∧ s.shf.mgr = false) ∧
    (∃ (n a : Nat) (s : State), s.onMain = true ∧ n < 64 ∧ a < 2 ^ 24 ∧ a % 4 = 0 ∧ s.shf.mgr = true ∧ n = s.ownSlot) ∧
    (∃ (n : Nat) (dws : List HostDw) (s : State), s.onMain = true ∧ n < 64 ∧ s.shf.mgr = true ∧ n ≠ s.ownSlot ∧ dws ≠ [] ∧
      (s.slot n).state ≠ 1) ∧
    (∃ (n tag : Nat) (dws : List HostDw) (s : State), s.onMain = true ∧ n < 64 ∧ s.shf.mgr = true ∧ n ≠ s.ownSlot ∧ dws ≠ [] ∧
      s.serves = true ∧ (s.slot n).state = 1 ∧ ((s.wq n).queue.filter (fun o => !opReads o.1)).length + dws.length = 512 ∧
      ∀ r, r ∈ s.shf.reads → r.tag ≠ tag) ∧
    (∃ (n : Nat) (dws : List HostDw) (s : State), s.onMain = true ∧ n < 64 ∧ s.shf.mgr = true ∧ n ≠ s.ownSlot ∧ dws ≠ [] ∧
      s.serves = true ∧ (s.slot n).state = 1 ∧ 512 < ((s.wq n).queue.filter (fun o => !opReads o.1)).length + dws.length) ∧
    (∃ (k : Nat) (s : State), s.onMain = true ∧ s.shf.mgr = true ∧ k < 2048 ∧ (sget {} k s.shf.msix).pend = true) :=
  ⟨⟨0, 0xFFFFFC, {}, by decide⟩, ⟨63, 0xFFFFFC, { shf := { mgr := true } }, by decide⟩, ⟨0, [{}], { shf := { mgr := true } }, by decide⟩,
    ⟨5, 9, [{}], { shf := { mgr := true, slots := [(5, { state := 1 })], wins := [(5, { queue := List.replicate 511 (.write 0 0, none) })] } },
      by decide +kernel⟩,
    ⟨5, [{}], { shf := { mgr := true, slots := [(5, { state := 1 })], wins := [(5, { queue := List.replicate 512 (.write 0 0, none) })] } },
      by decide +kernel⟩,
    ⟨2047, { shf := { mgr := true, msix := [(2047, { pend := true })] } }, by decide⟩⟩

def fWin (tries : Nat) : WinFly := { seq := 4, ops := [(.read 0, some (9, 0))], tries := tries, firstClk := 0, lastClk := 0 }

/-- A manager with a window frame to slot 5 in flight and the read it is for, at a clock. -/
def sFly (f : WinFly) (rx : List WinMsg) (clk : Nat) : State :=
  { State.atTime {} 0 clk with
    shf := { mgr := true, rx := rx, wins := [(5, { fly := [f], seq := 5 })], reads := [{ tag := 9, slot := 5, data := [none] }] } }

theorem test_witness_WindowFrames :
    (∃ (n : Nat) (s : State), s.onMain = true ∧ n < 64 ∧ s.shf.mgr = true ∧ (s.wq n).queue = [] ∧ s.shf.rx = [] ∧ (s.wq n).fly = []) ∧
    (∃ (n : Nat) (q : WinQ) (s : State), s.WinRoom n (.req q.seq ((q.queue.take q.pack).map Prod.fst)) ∧ s.onMain = true ∧ n < 64 ∧
      q = s.wq n ∧ s.shf.mgr = true ∧ q.queue ≠ [] ∧ ∃ o, o ∈ q.queue ∧ opReads o.1 = true) ∧
    (∃ s : State, s.onMain = true ∧ s.shf.mgr = false ∧ s.shf.intr = []) ∧
    (∃ (i m : Nat) (rest : List Nat) (s : State), s.WinRoom m (.intr i) ∧ s.onMain = true ∧ s.shf.mgr = false ∧ s.shf.intr = i :: rest ∧
      s.mgrSlot = some m) ∧
    (∃ (m : WinMsg) (n seq : Nat) (ops : List WinOp) (e : Nat × List Nat) (s : State), s.onMain = true ∧ n < 64 ∧ s.shf.rx = [m] ∧
      m.dst = s.ownSlot ∧ m.src = n ∧ m.kind = .req seq ops ∧ (sget [] n s.shf.done).find? (fun e => e.1 == seq) = some e) ∧
    (∃ (m : WinMsg) (n seq : Nat) (ops : List WinOp) (s : State), s.onMain = true ∧ n < 64 ∧ s.shf.rx = [m] ∧ m.dst = s.ownSlot ∧
      m.src = n ∧ m.kind = .req seq ops ∧ sget [] n s.shf.done = [(6, [])] ∧ seq = 9) ∧
    (∃ (m : WinMsg) (n seq : Nat) (ops : List WinOp) (s : State), s.onMain = true ∧ n < 64 ∧ s.shf.rx = [m] ∧ m.dst = s.ownSlot ∧
      m.src = n ∧ m.kind = .req seq ops ∧ sget [] n s.shf.done = [(65535, [])] ∧ seq = (65535 + 1) % 65536) ∧
    (∃ (m : WinMsg) (n seq : Nat) (ds : List Nat) (s : State), s.onMain = true ∧ n < 64 ∧ s.shf.rx = [m] ∧ m.dst = s.ownSlot ∧
      m.src = n ∧ m.kind = .resp seq ds ∧ s.shf.mgr = true ∧ (s.wq n).fly.find? (fun f => f.seq == seq) = none) ∧
    (∃ (m : WinMsg) (n seq : Nat) (ds : List Nat) (f : WinFly) (s : State), s.onMain = true ∧ n < 64 ∧ s.shf.rx = [m] ∧
      m.dst = s.ownSlot ∧ m.src = n ∧ m.kind = .resp seq ds ∧ s.shf.mgr = true ∧
      (s.wq n).fly.find? (fun f => f.seq == seq) = some f ∧ ∀ o, o ∈ f.ops → o.2 = none) ∧
    (∃ (m : WinMsg) (n seq w : Nat) (ds : List Nat) (f : WinFly) (o : WinOp) (r : HostReq) (s : State), s.onMain = true ∧ n < 64 ∧
      s.shf.rx = [m] ∧ m.dst = s.ownSlot ∧ m.src = n ∧ m.kind = .resp seq ds ∧ s.shf.mgr = true ∧
      (s.wq n).fly.find? (fun f => f.seq == seq) = some f ∧ f.ops = [(o, some (9, 0))] ∧ ds = [w] ∧
      s.shf.reads.find? (fun r => r.tag == 9) = some r ∧ r.data = [none]) ∧
    (∃ (m : WinMsg) (n i : Nat) (s : State), s.onMain = true ∧ n < 64 ∧ s.shf.rx = [m] ∧ m.dst = s.ownSlot ∧ m.src = n ∧ m.kind = .intr i ∧
      s.shf.mgr = true ∧ s.cn pSHF R.SHF_CNT_INTR + 1 < cntMax pSHF R.SHF_CNT_INTR) ∧
    (∃ (n : Nat) (f : WinFly) (s : State), s.onMain = true ∧ n < 64 ∧ (s.wq n).fly = [f] ∧ s.since f.lastClk = 4999) ∧
    (∃ (n : Nat) (f : WinFly) (s : State), s.onMain = true ∧ n < 64 ∧ (s.wq n).fly = [f] ∧ 5000 ≤ s.since f.lastClk ∧
      f.tries ≤ fld (s.ac pSHF R.SHF_CFG) 8 3) ∧
    (∃ (n : Nat) (f : WinFly) (s : State), s.onMain = true ∧ n < 64 ∧ (s.wq n).fly = [f] ∧ 5000 ≤ s.since f.lastClk ∧
      fld (s.ac pSHF R.SHF_CFG) 8 3 < f.tries) ∧
    (∃ (n : Nat) (f : WinFly) (o : WinOp) (r : HostReq) (s : State), s.onMain = true ∧ n < 64 ∧ (s.wq n).fly = [f] ∧
      f.ops = [(o, some (9, 0))] ∧ fld (s.ac pSHF R.SHF_CFG) 16 16 * 250 ≤ s.since f.firstClk ∧
      s.shf.reads.find? (fun r => r.tag == 9) = some r) :=
  ⟨⟨5, sShf true [], by decide⟩,
    ⟨5, { queue := [(.read 4, some (9, 0))] }, { sShf true [] with shf := { mgr := true, wins := [(5, { queue := [(.read 4, some (9, 0))] })] } },
      ⟨by decide, by decide, by decide, by decide⟩, by decide, by decide, by decide, by decide, by decide, (.read 4, some (9, 0)), by decide⟩,
    ⟨{}, by decide⟩,
    ⟨7, 2, [], { sShf false [] with shf := { intr := [7], mgrs := [(2, 0)] } }, ⟨by decide, by decide, by decide, by decide⟩, by decide⟩,
    ⟨mWin 2 (.req 6 []), 2, 6, [], (6, []), { shf := { rx := [mWin 2 (.req 6 [])], done := [(2, [(6, [])])] } }, by decide⟩,
    ⟨mWin 2 (.req 9 []), 2, 9, [], { shf := { rx := [mWin 2 (.req 9 [])], done := [(2, [(6, [])])] } }, by decide⟩,
    ⟨mWin 2 (.req 0 []), 2, 0, [], { shf := { rx := [mWin 2 (.req 0 [])], done := [(2, [(65535, [])])] } }, by decide⟩,
    ⟨mWin 5 (.resp 3 []), 5, 3, [], sFly (fWin 1) [mWin 5 (.resp 3 [])] 0, by decide⟩,
    ⟨mWin 5 (.resp 4 []), 5, 4, [], { fWin 1 with ops := [(.write 0 0, none)] },
      sFly { fWin 1 with ops := [(.write 0 0, none)] } [mWin 5 (.resp 4 [])] 0, by decide⟩,
    ⟨mWin 5 (.resp 4 [1]), 5, 4, 1, [1], fWin 1, .read 0, { tag := 9, slot := 5, data := [none] }, sFly (fWin 1) [mWin 5 (.resp 4 [1])] 0, by decide⟩,
    ⟨mWin 5 (.intr 31), 5, 31, sShf true [mWin 5 (.intr 31)], by decide⟩, ⟨5, fWin 1, sFly (fWin 1) [] 4999, by decide⟩,
    ⟨5, fWin 1, (sFly (fWin 1) [] 5000).setAc pSHF R.SHF_CFG 0x103, by decide⟩,
    ⟨5, fWin 2, (sFly (fWin 2) [] 5000).setAc pSHF R.SHF_CFG 0x103, by decide⟩,
    ⟨5, fWin 1, .read 0, { tag := 9, slot := 5, data := [none] }, (sFly (fWin 1) [] 250).setAc pSHF R.SHF_CFG 0x10103, by decide⟩⟩

theorem test_witness_HealthMonitors :
    (∃ s : State, s.onMain = true ∧ s.optime / 36000 ≤ s.hlt.hour) ∧ (∃ s : State, s.onMain = true ∧ s.hlt.hour < s.optime / 36000) ∧
    (∃ s : State, s.onMain = true ∧ (s.hd pHLT).unlocked = false) ∧ (∃ s : State, s.onMain = true ∧ (s.hd pHLT).unlocked = true) :=
  ⟨⟨{}, by decide⟩, ⟨State.atTime {} 0 900000000000, by decide⟩, ⟨{}, by decide⟩, ⟨sHd pHLT { unlocked := true }, by decide⟩⟩

theorem test_witness_UnitsThatFail :
    (∃ (p : Nat) (s : State), s.onMain = true ∧ fenceable p = false ∧ headPage p ≠ pHWS 0 ∧ s.failed = false) ∧
    (∃ (p : Nat) (s : State), s.onMain = true ∧ fenceable p = true ∧ s.unusable p = false) ∧
    (∃ (p : Nat) (s : State), s.onMain = true ∧ s.unusable p = true) ∧
    (∃ (p : Nat) (s : State), s.onMain = true ∧ fenceable p = false ∧ headPage p ≠ pHWS 0 ∧ s.failed = true) ∧
    (∃ (p : Nat) (s : State), s.onMain = true ∧ headPage p = pHWS 0 ∧ fenceable p = false ∧ s.hws.safe = true) ∧
    (∃ (p : Nat) (s : State), s.onMain = true ∧ headPage p = pHWS 0 ∧ fenceable p = false ∧ s.hws.safe = false) :=
  ⟨⟨pMEM, {}, by decide⟩, ⟨pFLT 63, {}, by decide⟩, ⟨pFLT 63, sHd (pFLT 63) { fenced := true }, by decide⟩,
    ⟨pMEM, State.setRg {} 0 R.SYS_STATUS 2, by decide⟩, ⟨pHWS 0, { hws := { safe := true } }, by decide⟩, ⟨pHWS 0, {}, by decide⟩⟩
end

section
/-!
PROOFS. Station time (chapter 4): the rate correction TSU_ADJ_RATE (R96).
-/
namespace Sys2Proof.Machine

/-! ### One clock of the time island -/

/-- Nothing of a slew is left, so no part of one is applied (R97). -/
@[simp] theorem slewPart_zero (ppm : Nat) : slewPart 0 ppm = 0 := by
  have hge : ¬ (0 : Int) > 4000000 * (ppm : Int) := by omega
  have hle : ¬ (0 : Int) < -(4000000 * (ppm : Int)) := by omega
  simp only [slewPart, if_neg hge, if_neg hle]

/-- With no slew a clock adds 4 ns and the rate's part of them to station time. -/
theorem State.clock_now_of_slewLeft_zero (s : State) (h : s.tsu.slewLeft = 0) :
    s.clock.tsu.now = (s.tsu.now + (4000000000000 + 4 * s.tsu.rate)).toNat := by
  simp [State.clock, State.updTsu, h]

/-! ### The write of TSU_ADJ_RATE, case by case -/

/-- The unit once a rate is accepted: the rate in force, its history, and in the locked state the discipline watchdog anew (R96, R99). -/
def Tsu.adjusted (t : Tsu) (r : Int) : Tsu :=
  { t with rate := r, rateHist := (t.setRate r).rateHist, wdogClk := if t.sync == .locked then t.clk else t.wdogClk }

/-- `Tsu.adjusted` is what the model's write makes of the unit. -/
theorem Tsu.adjusted_eq (t : Tsu) (r : Int) :
    (if (t.setRate r).sync == .locked then { t.setRate r with wdogClk := (t.setRate r).clk } else t.setRate r) = t.adjusted r := by
  by_cases h : (t.sync == .locked) = true <;> simp [Tsu.adjusted, Tsu.setRate, h]

theorem State.adjRate_of_inRange (s : State) (v : Word) (hh : s.inHold = false) (lo : -1000000000 ≤ v.toInt)
    (hi : v.toInt ≤ 1000000000) :
    s.adjRate v = (s.setRg pTSU R.TSU_ADJ_RATE v).updTsu (fun t => t.adjusted v.toInt) := by
  have hr : (decide (v.toInt < -1000000000) || decide (1000000000 < v.toInt)) = false := by
    simp only [Bool.or_eq_false_iff, decide_eq_false_iff_not]; omega
  simp only [State.adjRate, hh, hr, Bool.false_eq_true, if_false, Tsu.adjusted_eq]

theorem State.adjRate_of_outOfRange (s : State) (v : Word) (hh : s.inHold = false)
    (h : v.toInt < -1000000000 ∨ 1000000000 < v.toInt) : s.adjRate v = s.refuse pTSU R.TSU_ADJ_RATE Err.range := by
  have hr : (decide (v.toInt < -1000000000) || decide (1000000000 < v.toInt)) = true := by simpa using h
  simp only [State.adjRate, hh, hr, Bool.false_eq_true, if_false, if_true]

/-! ### The command: a register access on the TSU page -/

@[simp] theorem State.inHold_touch (s : State) (p : Nat) : (s.touch p).inHold = s.inHold := by simp [State.inHold]

theorem exec_tsuAdjRate_of_inRange (v : Word) (s : State) (hon : s.onTime = true) (hh : s.inHold = false)
    (lo : -1000000000 ≤ v.toInt) (hi : v.toInt ≤ 1000000000) :
    exec (.tsuAdjRate v) s = .next
      { s with
        regs := (s.setRg pTSU R.TSU_ADJ_RATE v).regs
        hdrs := (s.touch pTSU).hdrs
        tsu := s.tsu.adjusted v.toInt } := by
  rw [exec_tsuAdjRate, actReg_on _ _ _ _ hon, State.adjRate_of_inRange _ v ((s.inHold_touch _).trans hh) lo hi, s.touch_shape pTSU]
  rfl

theorem exec_tsuAdjRate_of_outOfRange (v : Word) (s : State) (hon : s.onTime = true) (hh : s.inHold = false)
    (h : v.toInt < -1000000000 ∨ 1000000000 < v.toInt) :
    exec (.tsuAdjRate v) s = .next { (s.touch pTSU).refuse pTSU R.TSU_ADJ_RATE Err.range with pending := s.pending } := by
  rw [exec_tsuAdjRate, actReg_on _ _ _ _ hon, State.adjRate_of_outOfRange _ v ((s.inHold_touch _).trans hh) h]

/-- What a refused access of the TSU page leaves: the cause in the page's own header, and a quiet module beside. -/
theorem State.refuse_touch_pTSU (s t : State) (off code : Nat)
    (ht : t = { (s.touch pTSU).refuse pTSU off code with pending := s.pending }) :
    (t.hd pTSU).cfgErr = true ∧ (t.hd pTSU).errCode = w32 (off * 256 + code) ∧ s.Quiet [pTSU] t := by
  have hp : pTSU ∈ [pTSU] := List.mem_singleton_self _
  have hg : headPage pTSU = pTSU := by decide
  have hi : pageIndex pTSU = 0 := by decide
  obtain ⟨herr, hcode⟩ := (s.touch pTSU).hd_refuse pTSU off code
  rw [hg] at herr hcode
  rw [hi, Nat.zero_mul, Nat.zero_add] at hcode
  subst ht
  exact ⟨herr, hcode, (((State.Quiet.refl [pTSU] s).touch hp).refuse (hg ▸ hp) hp off code).pend⟩

/-! ### The statement -/

/-- Settles O22: within the range the write is the register store and `Tsu.adjusted`, beyond it a refusal of the page. -/
theorem adjustRate : Obligations.AdjustRate := by
  intro v s hon hh
  refine ⟨fun lo hi => ?_, fun hout => ?_⟩
  · exact ⟨_, exec_tsuAdjRate_of_inRange v s hon hh lo hi, s.rg_setRg pTSU _ v, rfl,
      fun hslew => State.clock_now_of_slewLeft_zero _ hslew, fun p off hne => s.rg_setRg_other _ _ p off v hne, rfl⟩
  · exact ⟨_, exec_tsuAdjRate_of_outOfRange v s hon hh hout, s.refuse_touch_pTSU _ _ _ rfl⟩

end Sys2Proof.Machine
end

section
/-!
PROOFS. Keys (chapter 17): what a KSU_CMD write does at once (R406, R414, R417).
-/
namespace Sys2Proof.Machine

/-! ### A header change that no interrupt line sees -/

theorem mem_sset {β : Type} [DecidableEq β] {d v : β} {k : Nat} {m : List (Nat × β)} {e : Nat × β} (h : e ∈ sset d k v m) :
    e = (k, v) ∨ e ∈ m := by
  unfold sset at h
  split at h
  · exact .inr (List.mem_of_mem_filter h)
  · exact mem_sput k v m e h

/-- What a store reads is its default or stands in it. -/
theorem sget_eq_or_mem {β : Type} (d : β) (k : Nat) (m : List (Nat × β)) : sget d k m = d ∨ (k, sget d k m) ∈ m := by
  induction m with
  | nil => exact .inl rfl
  | cons e t ih =>
    obtain ⟨a, b⟩ := e
    by_cases h : a = k
    · subst h; simp [sget]
    · simpa [sget, h, Ne.symm h] using ih

/-- Two headers with the same interrupt line and the same route to a vector (R52 to R54). -/
def Hdr.SameLine (h h' : Hdr) : Prop := h'.routeEn = h.routeEn ∧ h'.vector = h.vector ∧ h'.line = h.line

/-- A header stored over one with the same line raises no vector's input. -/
theorem State.vecLine_of_setHd {s : State} {p : Nat} {h : Hdr} (hl : (s.hd p).SameLine h) {v : Nat}
    (hv : (s.setHd p h).vecLine v = true) : s.vecLine v = true := by
  obtain ⟨hroute, hvec, hline⟩ := hl
  simp only [State.vecLine, List.any_eq_true] at hv ⊢
  obtain ⟨e, he, hon⟩ := hv
  rcases mem_sset he with rfl | he
  · simp only [hroute, hvec, hline] at hon
    rcases sget_eq_or_mem {} p s.hdrs with hd | hd
    · simp only [State.hd, hd, Bool.false_and, Bool.false_eq_true] at hon
    · exact ⟨_, hd, hon⟩
  · exact ⟨e, he, hon⟩

/-- A header change that keeps line and route is a plain store: no vector fires. -/
theorem State.updHd_eq_setHd (s : State) (p : Nat) (f : Hdr → Hdr) (hl : (s.hd p).SameLine (f (s.hd p))) :
    s.updHd p f = s.setHd p (f (s.hd p)) := by
  have noRise (v : Nat) : (!s.vecLine v && (s.setHd p (f (s.hd p))).vecLine v) = false := by
    by_cases hv : (s.setHd p (f (s.hd p))).vecLine v = true
    · simp [State.vecLine_of_setHd hl hv]
    · simp [hv]
  simp [State.updHd, noRise]

/-! ### KSU_CMD: the first cause that forbids an operation, or its start -/

/-- INVALIDATE and SET_OWNER are protected by the page's lock (R48, R414). -/
abbrev State.ksuLocks (s : State) (op : Nat) : Prop := (op = 8 ∨ op = 16) ∧ (s.hd pKSU).unlocked = false

/-- STATUS.BUSY of the KSU: an operation of its own or of its table window runs (R414). -/
abbrev State.ksuBusy (s : State) : Prop := (s.hd pKSU).busy = true ∨ (sget {} pKSU s.wins).busy = true

/-- The operation is of the path that the fuse KEY_UPDATE_MODE closes (R406). -/
abbrev State.otherPath (s : State) (op : Nat) : Prop :=
  (s.ident.keyUpdateMode = 1 ∧ 2 ≤ op ∧ op ≤ 5) ∨ (s.ident.keyUpdateMode ≠ 1 ∧ (op = 7 ∨ op = 16))

/-- The code of the first cause that forbids an operation at its command (R406, R414, R417). R414 lists the causes without an order: the
order is the model's. -/
def State.ksuRefusal (s : State) (op : Nat) : Option Nat :=
  if s.ksuLocks op then some Err.locked
  else if s.ksuBusy then some KErr.opBusy
  else if s.otherPath op then some KErr.mode
  else if s.ksu.lockedOut = true then some KErr.lockedOut
  else if s.ksu.hold = true then some KErr.tamperHold
  else none

/-- The operation as it starts: its registers and its slot as they stand (R414). -/
def State.kopStart (s : State) (op slot arg : Nat) : KOp :=
  { op := op, slot := slot % 256, arg := arg % 256, addr := s.rg64 pKSU R.KSU_ADDR, len := (s.rg pKSU R.KSU_LEN).toNat,
    data := s.ksuData, before := s.kslot (slot % 256) }

/-- The state in which an operation has started: the operation is noted and BUSY is set. -/
def State.ksuStart (s : State) (op slot arg : Nat) : State :=
  (s.updKsu (fun k => { k with op := some (s.kopStart op slot arg) })).setHd pKSU { s.hd pKSU with busy := true }

/-- BUSY is on no interrupt line, so the start of an operation fires no vector. -/
theorem State.ksuStart_eq_updHd (s : State) (op slot arg : Nat) :
    s.ksuStart op slot arg =
      (s.updKsu (fun k => { k with op := some (s.kopStart op slot arg) })).updHd pKSU (fun h => { h with busy := true }) :=
  (State.updHd_eq_setHd (s.updKsu _) pKSU (fun h => { h with busy := true }) ⟨rfl, rfl, rfl⟩).symm

/-- KSU_CMD with an OP of R414 refuses with the first cause, or starts the operation. -/
theorem State.ksuCmd_eq (s : State) {op : Nat} (slot arg : Nat) (hpos : 0 < op) (hle : op ≤ 16) :
    s.ksuCmd op slot arg = (s.ksuRefusal op).elim (s.ksuStart op slot arg) (s.refuse pKSU R.KSU_CMD) := by
  simp only [State.ksuRefusal, apply_ite (fun o : Option Nat => o.elim (s.ksuStart op slot arg) (s.refuse pKSU R.KSU_CMD)),
    Option.elim_some, Option.elim_none]
  rw [State.ksuStart_eq_updHd]
  simp only [State.ksuCmd, State.kopStart, if_neg (Nat.ne_of_gt hpos), if_neg (Nat.not_lt.2 hle), Bool.not_eq_true',
    Bool.or_eq_true, beq_iff_eq, beq_eq_false_iff_ne]

@[simp] theorem State.ksuRefusal_touch (s : State) (op : Nat) : (s.touch pKSU).ksuRefusal op = s.ksuRefusal op := by
  simp [State.ksuRefusal, State.ksuLocks, State.ksuBusy, State.otherPath]

section
variable {s : State} {op : Nat}

theorem State.ksuRefusal_locked (h : s.ksuLocks op) : s.ksuRefusal op = some Err.locked := if_pos h

variable (hopen : ¬s.ksuLocks op)
include hopen

theorem State.ksuRefusal_opBusy (h : s.ksuBusy) : s.ksuRefusal op = some KErr.opBusy := by
  rw [State.ksuRefusal, if_neg hopen, if_pos h]

variable (hidle : ¬s.ksuBusy)
include hidle

theorem State.ksuRefusal_mode (h : s.otherPath op) : s.ksuRefusal op = some KErr.mode := by
  rw [State.ksuRefusal, if_neg hopen, if_neg hidle, if_pos h]

variable (hpath : ¬s.otherPath op)
include hpath

/-- What is left once lock, BUSY and mode forbid nothing: the tamper responses (R417). -/
theorem State.ksuRefusal_tamper :
    s.ksuRefusal op = if s.ksu.lockedOut = true then some KErr.lockedOut else if s.ksu.hold = true then some KErr.tamperHold else none := by
  rw [State.ksuRefusal, if_neg hopen, if_neg hidle, if_neg hpath]

end

/-! ### The commands -/

/-- The commands that write KSU_CMD, each with its OP, SLOT and ARG (R414). -/
def ksuRows (n a : Nat) : List (Instr × Nat × Nat × Nat) :=
  [(.derive n, 1, n, 0), (.stage n, 2, n, 0), (.verify n, 3, n, 0), (.ksuCommit n, 4, n, 0), (.abortStage n, 5, n, 0),
    (.unwrap n a, 6, n, a), (.msg n, 7, n, 0), (.invalidate n, 8, n, 0), (.sign n, 9, n, 0), (.pubkey n a, 10, n, a),
    (.saveBlob n, 11, n, 0), (.loadBlob n, 12, n, 0), (.extend a, 13, 0, a), (.lockMr a, 14, 0, a), (.run, 15, 0, 0),
    (.setOwner, 16, 0, 0)]

theorem exec_of_mem_ksuRows {n a op sl ar : Nat} {c : Instr} (h : (c, op, sl, ar) ∈ ksuRows n a) :
    0 < op ∧ op ≤ 16 ∧ ∀ s, exec c s = ksuOp op sl ar s := by
  have rows : ∀ r ∈ ksuRows n a, 0 < r.2.1 ∧ r.2.1 ≤ 16 ∧ ∀ s, exec r.1 s = ksuOp r.2.1 r.2.2.1 r.2.2.2 s := by
    simp [ksuRows, exec_derive, exec_stage, exec_verify, exec_ksuCommit, exec_abortStage, exec_unwrap, exec_msg, exec_invalidate,
      exec_sign, exec_pubkey, exec_saveBlob, exec_loadBlob, exec_extend, exec_lockMr, exec_run, exec_setOwner]
  exact rows _ h

/-- What a refused access of a page that is its own head leaves: the cause in its header, and a quiet module beside. -/
theorem State.refuse_touch_headPage {s t : State} {p off code : Nat} (hg : headPage p = p)
    (ht : t = { (s.touch p).refuse p off code with pending := s.pending }) :
    (t.hd p).errCode = w32 (off * 256 + code) ∧ s.Quiet [p] t := by
  have hp : p ∈ [p] := List.mem_singleton_self p
  obtain ⟨-, hcode⟩ := (s.touch p).hd_refuse p off code
  rw [pageIndex, hg, Nat.sub_self, Nat.zero_mul, Nat.zero_add] at hcode
  subst ht
  exact ⟨hcode, (((State.Quiet.refl [p] s).touch hp).refuse (hg.symm ▸ hp) hp off code).pend⟩

section
variable {s : State} {op : Nat} (sl ar : Nat) (hon : s.onMain = true) (hpos : 0 < op) (hle : op ≤ 16)
include hon hpos hle

theorem ksuOp_eq : ksuOp op sl ar s = .next
    { (s.ksuRefusal op).elim ((s.touch pKSU).ksuStart op sl ar) ((s.touch pKSU).refuse pKSU R.KSU_CMD) with pending := s.pending } := by
  rw [ksuOp, actReg_on _ _ _ _ hon, State.ksuCmd_eq _ _ _ hpos hle, State.ksuRefusal_touch]

theorem ksuOp_of_refusal {code : Nat} (h : s.ksuRefusal op = some code) :
    ∃ t, ksuOp op sl ar s = .next t ∧ (t.hd pKSU).errCode = w32 (R.KSU_CMD * 256 + code) ∧ s.Quiet [pKSU] t :=
  ⟨_, ksuOp_eq sl ar hon hpos hle, State.refuse_touch_headPage (by decide) (by rw [h, Option.elim_some])⟩

/-- The operation starts: it is noted, BUSY is set, a half-given unlock sequence is dropped (R48), and nothing else changes. -/
theorem ksuOp_of_free (h : s.ksuRefusal op = none) :
    ∃ t o, ksuOp op sl ar s = .next t ∧ t.ksu = { s.ksu with op := some o } ∧
      o.op = op ∧ o.slot = sl % 256 ∧ o.arg = ar % 256 ∧ o.code = none ∧
      t.hd pKSU = { s.hd pKSU with busy := true, lockSeen := false } ∧ (∀ q, q ≠ pKSU → t.hd q = s.hd q) ∧
      t = { s with ksu := t.ksu, hdrs := t.hdrs } := by
  refine ⟨{ (s.touch pKSU).ksuStart op sl ar with pending := s.pending }, (s.touch pKSU).kopStart op sl ar, ?_, ?_, rfl, rfl, rfl, rfl,
    ?_, fun q hq => ?_, ?_⟩
  · rw [ksuOp_eq sl ar hon hpos hle, h, Option.elim_none]
  · exact congrArg (fun k : Ksu => { k with op := some ((s.touch pKSU).kopStart op sl ar) }) (s.touch_ksu pKSU)
  · exact (State.hd_setHd _ pKSU _).trans (congrArg (fun h : Hdr => { h with busy := true }) (s.hd_touch_self pKSU))
  · exact (State.hd_setHd_other _ pKSU q _ hq).trans (s.hd_touch_other pKSU q hq)
  · rw [State.ksuStart, s.touch_shape pKSU]
    rfl

end

theorem b2n_le_one (b : Bool) : b2n b ≤ 1 := by cases b <;> decide

/-- KSU_STATUS.MODE, bit 7, shows the fuse (R406). -/
theorem State.ksuStatus_mode (s : State) : bit ((s.ksuRo R.KSU_STATUS).getD 0) 7 = (s.ident.keyUpdateMode == 1) := by
  have hroot := b2n_le_one s.ksu.rootOk
  have hfail := b2n_le_one s.ksu.rootFail
  have hrun := b2n_le_one s.ksu.running
  have hkas := b2n_le_one s.ksu.kasNew
  have hlock := b2n_le_one s.ksu.lockedOut
  have hhold := b2n_le_one s.ksu.hold
  simp only [State.ksuRo, if_true, Option.getD_some, bit, w32, BitVec.toNat_ofNat, Nat.testBit_eq_decide_div_mod_eq]
  cases s.ident.keyUpdateMode == 1
  · rw [show b2n false = 0 from rfl, decide_eq_false_iff_not]
    omega
  · rw [show b2n true = 1 from rfl, decide_eq_true_eq]
    omega

/-! ### The statement -/

/-- Settles O48: every command of the list is a KSU_CMD write, and each clause fixes the first cause `ksuRefusal` finds. -/
theorem keyCommands : Obligations.KeyCommands := by
  intro n a c op sl ar s hon hrow
  obtain ⟨hpos, hle, hexec⟩ := exec_of_mem_ksuRows hrow
  have refused {code : Nat} (h : s.ksuRefusal op = some code) : ∃ t, exec c s = .next t ∧
      (t.hd pKSU).errCode = w32 (R.KSU_CMD * 256 + code) ∧ s.Quiet [pKSU] t :=
    hexec s ▸ ksuOp_of_refusal sl ar hon hpos hle h
  refine ⟨s.ksuStatus_mode, fun hop hl => refused (State.ksuRefusal_locked ⟨hop, hl⟩), fun hunlocked => ?_⟩
  have hopen : ¬s.ksuLocks op := fun ⟨hop, hl⟩ => Bool.false_ne_true (hl.symm.trans (hunlocked hop))
  refine ⟨fun hbusy => refused (State.ksuRefusal_opBusy hopen hbusy), fun hb hw => ?_⟩
  have hidle : ¬s.ksuBusy := by simp [hb, hw]
  refine ⟨fun hmode => refused (State.ksuRefusal_mode hopen hidle hmode), fun hatomic hauth => ?_⟩
  have hpath : ¬s.otherPath op := by
    rintro (⟨hm, hop⟩ | ⟨hm, hop⟩)
    · have := hatomic hm; omega
    · have := hauth hm; omega
  have htamper := State.ksuRefusal_tamper hopen hidle hpath
  refine ⟨fun hout => ?_, fun hout hhold => ?_, fun hout hhold => ?_⟩
  · exact refused (by rw [htamper, if_pos hout])
  · exact refused (by rw [htamper, if_neg (by simp [hout]), if_pos hhold])
  · rw [hexec s]
    exact ksuOp_of_free sl ar hon hpos hle (by rw [htamper, if_neg (by simp [hout]), if_neg (by simp [hhold])])

end Sys2Proof.Machine
end

section
/-!
PROOFS. The gate of every command, the empty queue, and a module without supply (R434; logs 104, 119).
-/
namespace Sys2Proof.Machine
open Sys2Proof

/-! ### The gate of a command -/

/-- What a command needs to be fed and clocked; `always` are the contacts, and the supplies that come and go. -/
inductive Feed
  | main | time | keep | held | sleep | always

/-- It is fed and clocked now. -/
def Feed.on : Feed → State → Bool
  | .main => State.onMain
  | .time => State.onTime
  | .keep => State.onKeep
  | .held => fun s => s.pwr.phase == .held
  | .sleep => fun s => s.pwr.phase == .sleep
  | .always => State.always

/-- What each command needs. -/
def Instr.feed : Instr → Feed
  | .tickStart | .tsuAdjRate _ | .tsuAdjPhase _ | .slewDone | .latch | .step | .locked | .hold | .release | .discWdog | .holdUpdate _
  | .toEdge _ | .toPulseEnd _ | .tiEdge _ _ _ | .tsuTiPop _ | .safetyCycle _ _ _ | .safetyReqVector | .outputOverload _ | .faultAck _
  | .safetySelftestDone | .overtempShutdown => .time
  | .tamperDetect _ _ | .tamperClear _ _ | .vauxLow => .keep
  | .shedRecover _ => .held
  | .keepAliveOff => .sleep
  | .storeEmpty | .abruptLoss _ | .powerOnReset _ | .warmReset | .buttonPress _ | .resetHoldRelease | .vauxReturn | .buttonRelease _ =>
    .always
  | _ => .main

/-- Every command is an effect behind its gate. -/
theorem exec_eq_act (c : Instr) : ∃ f : State → State, ∀ s, exec c s = act (Instr.feed c).on f s := by
  cases c <;> exact ⟨_, fun _ => rfl⟩

/-- Settles O2: every command is an effect behind a gate, and the gate gives the queue back. -/
theorem everyCommandEndsAndKeepsQueue : Obligations.EveryCommandEndsAndKeepsQueue := by
  intro c s
  obtain ⟨f, hf⟩ := exec_eq_act c
  exact hf s ▸ act_total _ f s

/-- Settles O1: both arms of `step`, by the form of the queue. -/
theorem stepTakesFrontCommand : Obligations.StepTakesFrontCommand := by
  refine ⟨fun c s => rfl, fun s h => ?_⟩
  rw [step, h]
  simp only [beq_iff_eq]

/-- Settles O3: the stores of the reset state are empty, so each reads its default. -/
theorem resetState : Obligations.ResetState :=
  ⟨rfl, rfl, rfl, rfl, rfl, fun _ => rfl, fun _ _ => rfl, fun _ _ => rfl, fun _ _ => rfl, fun _ => rfl⟩

/-! ### A module without supply -/

section
variable {s : State} (hoff : s.pwr.phase = .off)
include hoff

/-- Nothing is fed. -/
theorem Feed.on_of_off {x : Feed} (hx : x ≠ .always) : x.on s = false := by
  cases x with
  | always => exact absurd rfl hx
  | _ => simp [Feed.on, State.onMain, State.onTime, State.onKeep, hoff]

/-- A command that needs a supply does nothing. -/
theorem exec_of_off {c : Instr} (h : Instr.feed c ≠ .always) : exec c s = .next s := by
  obtain ⟨f, hf⟩ := exec_eq_act c
  exact hf s ▸ act_off _ f s (Feed.on_of_off hoff h)

theorem storeEmpty_of_off : s.storeEmpty = s := by simp [State.storeEmpty, hoff]

theorem abruptLoss_of_off (torn : Bool) : s.abruptLoss torn = s := by simp [State.abruptLoss, hoff]

theorem warmDue_of_off : s.warmDue = none := by
  unfold State.warmDue
  split <;> simp [hoff]

theorem holdRelease_of_off : s.holdRelease = s := by
  unfold State.holdRelease
  split <;> simp [hoff]

/-- A contact seen closed is noted; without VMAIN it asks for no reset. -/
theorem press_of_off (b : Bool) : s.press b = s.setContact b { s.contact b with closed := true } := by
  simp [State.press, State.setContact, hoff]

/-- A contact seen open is noted and ends the hold it began; without VMAIN no reset is released. -/
theorem unpress_of_off (b : Bool) : ∃ f, s.unpress b = s.updRst f := by
  have hp : (s.setContact b { s.contact b with closed := false, openClk := s.tsu.clk }).pwr.phase = .off := hoff
  unfold State.unpress State.releaseReset
  dsimp only
  split
  · rw [if_neg (by rw [State.updRst_pwr, hp]; decide)]
    exact ⟨fun r => { (if b then { r with rstIn := _ } else { r with button := _ } : Rst) with holdBy := none }, rfl⟩
  · exact ⟨_, rfl⟩

end

/-- Settles O4: a command behind the gate of an island does nothing; of the rest only the two contacts leave a trace. -/
theorem offModuleDoesNothing : Obligations.OffModuleDoesNothing := by
  intro c s hoff hpor hvaux
  have whole (f : State → State) (h : exec c s = act State.always f s) (hf : f s = { s with rst := (f s).rst }) :
      ∃ t, exec c s = .next t ∧ t = { s with rst := t.rst } :=
    ⟨_, h.trans (act_on _ f s rfl), congrArg (fun t : State => { t with pending := s.pending }) hf⟩
  have same (f : State → State) (h : exec c s = act State.always f s) (hf : f s = s) :
      ∃ t, exec c s = .next t ∧ t = { s with rst := t.rst } :=
    whole f h (by rw [hf])
  cases c with
  | powerOnReset b => exact absurd rfl (hpor b)
  | vauxReturn => exact absurd rfl hvaux
  | storeEmpty => exact same _ (exec_storeEmpty s) (storeEmpty_of_off hoff)
  | abruptLoss torn => exact same _ (exec_abruptLoss torn s) (abruptLoss_of_off hoff torn)
  | warmReset => exact same _ (exec_warmReset s) (by simp only [warmDue_of_off hoff])
  | resetHoldRelease => exact same _ (exec_resetHoldRelease s) (holdRelease_of_off hoff)
  | buttonPress b => exact whole _ (exec_buttonPress b s) (by rw [press_of_off hoff b]; rfl)
  | buttonRelease b => exact whole _ (exec_buttonRelease b s) (by obtain ⟨f, hf⟩ := unpress_of_off hoff b; rw [hf]; rfl)
  | _ => exact ⟨s, exec_of_off hoff nofun, rfl⟩

/-- Settles O5: the command at the front is one of `offModuleDoesNothing`, and the idle step of an unfed module changes nothing. -/
theorem offStaysOff : Obligations.OffStaysOff := by
  intro s t hoff hwait hstep
  cases hq : s.pending with
  | nil =>
    have ht : t = s := by
      rw [stepTakesFrontCommand.2 s hq, if_pos hoff] at hstep
      exact (Host.Outcome.next.inj hstep).symm
    subst ht
    exact ⟨hoff, hwait, by rw [List.tail_nil, ← hq]⟩
  | cons c rest =>
    obtain ⟨hpor, hvaux⟩ := hwait c (hq ▸ List.mem_cons_self)
    obtain ⟨u, hu, hsame⟩ := offModuleDoesNothing c { s with pending := rest } hoff hpor hvaux
    have ht : t = u := by
      have hs : step s = exec c { s with pending := rest } := by rw [step, hq]
      exact Host.Outcome.next.inj (hstep.symm.trans (hs.trans hu))
    subst ht
    rw [hsame]
    exact ⟨hoff, fun d hd => hwait d (hq ▸ List.mem_cons_of_mem c hd), rfl⟩

end Sys2Proof.Machine
end

section
/-!
PROOFS. What a quiet step leaves (R40, R51, R52), field by field, and what an access of a register is (R30 to R42).
-/
namespace Sys2Proof.Machine
open Sys2Proof

/-! ### A quiet step, field by field -/

section
variable {ps : List Nat} {s t : State} (h : s.Quiet ps t)
include h

theorem State.Quiet.ident : t.ident = s.ident := by rw [h.rest]
theorem State.Quiet.regs : t.regs = s.regs := by rw [h.rest]
theorem State.Quiet.acts : t.acts = s.acts := by rw [h.rest]
theorem State.Quiet.snaps : t.snaps = s.snaps := by rw [h.rest]
theorem State.Quiet.lat : t.lat = s.lat := by rw [h.rest]
theorem State.Quiet.held : t.held = s.held := by rw [h.rest]
theorem State.Quiet.rdata : t.rdata = s.rdata := by rw [h.rest]
theorem State.Quiet.wins : t.wins = s.wins := by rw [h.rest]
theorem State.Quiet.tbl : t.tbl = s.tbl := by rw [h.rest]
theorem State.Quiet.tsu : t.tsu = s.tsu := by rw [h.rest]
theorem State.Quiet.macs : t.macs = s.macs := by rw [h.rest]
theorem State.Quiet.egs : t.egs = s.egs := by rw [h.rest]
theorem State.Quiet.swc : t.swc = s.swc := by rw [h.rest]
theorem State.Quiet.mem : t.mem = s.mem := by rw [h.rest]
theorem State.Quiet.mram : t.mram = s.mram := by rw [h.rest]
theorem State.Quiet.flips : t.flips = s.flips := by rw [h.rest]
theorem State.Quiet.poison : t.poison = s.poison := by rw [h.rest]
theorem State.Quiet.memSt : t.memSt = s.memSt := by rw [h.rest]
theorem State.Quiet.evr : t.evr = s.evr := by rw [h.rest]
theorem State.Quiet.memFenced : t.memFenced = s.memFenced := by rw [h.rest]
theorem State.Quiet.sva : t.sva = s.sva := by rw [h.rest]
theorem State.Quiet.flt : t.flt = s.flt := by rw [h.rest]
theorem State.Quiet.thrCyc : t.thrCyc = s.thrCyc := by rw [h.rest]
theorem State.Quiet.thrAcq : t.thrAcq = s.thrAcq := by rw [h.rest]
theorem State.Quiet.adcs : t.adcs = s.adcs := by rw [h.rest]
theorem State.Quiet.shunts : t.shunts = s.shunts := by rw [h.rest]
theorem State.Quiet.plaus : t.plaus = s.plaus := by rw [h.rest]
theorem State.Quiet.img : t.img = s.img := by rw [h.rest]
theorem State.Quiet.dir : t.dir = s.dir := by rw [h.rest]
theorem State.Quiet.cyc : t.cyc = s.cyc := by rw [h.rest]
theorem State.Quiet.hwsIn : t.hwsIn = s.hwsIn := by rw [h.rest]
theorem State.Quiet.dup : t.dup = s.dup := by rw [h.rest]
theorem State.Quiet.qps : t.qps = s.qps := by rw [h.rest]
theorem State.Quiet.ops : t.ops = s.ops := by rw [h.rest]
theorem State.Quiet.skds : t.skds = s.skds := by rw [h.rest]
theorem State.Quiet.vfs : t.vfs = s.vfs := by rw [h.rest]
theorem State.Quiet.migIn : t.migIn = s.migIn := by rw [h.rest]
theorem State.Quiet.tals : t.tals = s.tals := by rw [h.rest]
theorem State.Quiet.talAts : t.talAts = s.talAts := by rw [h.rest]
theorem State.Quiet.dfos : t.dfos = s.dfos := by rw [h.rest]
theorem State.Quiet.hws : t.hws = s.hws := by rw [h.rest]
theorem State.Quiet.acq : t.acq = s.acq := by rw [h.rest]
theorem State.Quiet.acqGoose : t.acqGoose = s.acqGoose := by rw [h.rest]
theorem State.Quiet.kslots : t.kslots = s.kslots := by rw [h.rest]
theorem State.Quiet.ekeys : t.ekeys = s.ekeys := by rw [h.rest]
theorem State.Quiet.ksu : t.ksu = s.ksu := by rw [h.rest]
theorem State.Quiet.tmp : t.tmp = s.tmp := by rw [h.rest]
theorem State.Quiet.pwr : t.pwr = s.pwr := by rw [h.rest]
theorem State.Quiet.rst : t.rst = s.rst := by rw [h.rest]
theorem State.Quiet.hlt : t.hlt = s.hlt := by rw [h.rest]
theorem State.Quiet.free : t.free = s.free := by rw [h.rest]
theorem State.Quiet.pending : t.pending = s.pending := by rw [h.rest]

/-- The fields in which a quiet step can differ. -/
theorem State.Quiet.shape : t = { s with hdrs := t.hdrs, cnts := t.cnts, vecs := t.vecs, out := t.out, shf := t.shf } := by
  rw [h.rest]

theorem State.Quiet.rg (p o : Nat) : t.rg p o = s.rg p o := by rw [State.rg, h.regs]; rfl
theorem State.Quiet.ac (p o : Nat) : t.ac p o = s.ac p o := by rw [State.ac, h.acts]; rfl
theorem State.Quiet.tw (a : Nat) : t.tw a = s.tw a := by rw [State.tw, h.tbl]; rfl

end

/-- The empty queue given back does not disturb what is quiet. -/
theorem State.Quiet.pending_eq {ps : List Nat} {s t : State} {q : List Instr} (h : s.Quiet ps t) (hq : s.pending = q) :
    s.Quiet ps { t with pending := q } := hq ▸ h.pend

/-! ### What an acting command answers -/

/-- A command whose islands run answers its effect, with the queue given back. -/
theorem act_next {on : State → Bool} {f : State → State} {s : State} (h : on s = true) :
    ∃ u, u = f s ∧ act on f s = .next { u with pending := s.pending } := ⟨_, rfl, act_on on f s h⟩

theorem actReg_next {on : State → Bool} {p : Nat} {f : State → State} {s : State} (h : on s = true) :
    ∃ u, u = f (s.touch p) ∧ actReg on p f s = .next { u with pending := s.pending } := ⟨_, rfl, actReg_on on p f s h⟩

/-! ### Headers through a touch and a header change -/

section
variable (s : State) (p q : Nat)

@[simp] theorem State.enable_touch : ((s.touch p).hd q).enable = (s.hd q).enable := by rw [s.hd_touch p q]
@[simp] theorem State.activeView_touch : ((s.touch p).hd q).activeView = (s.hd q).activeView := by rw [s.hd_touch p q]
@[simp] theorem State.commitPending_touch : ((s.touch p).hd q).commitPending = (s.hd q).commitPending := by rw [s.hd_touch p q]
@[simp] theorem State.unlocked_touch : ((s.touch p).hd q).unlocked = (s.hd q).unlocked := by rw [s.hd_touch p q]
@[simp] theorem State.started_touch : ((s.touch p).hd q).started = (s.hd q).started := by rw [s.hd_touch p q]
@[simp] theorem State.fenced_touch : ((s.touch p).hd q).fenced = (s.hd q).fenced := by rw [s.hd_touch p q]
@[simp] theorem State.busy_touch : ((s.touch p).hd q).busy = (s.hd q).busy := by rw [s.hd_touch p q]
@[simp] theorem State.unusable_touch : (s.touch p).unusable q = s.unusable q := by
  simp [State.unusable, State.absent, State.half]

end

/-- A header stored again where it stands reads the same everywhere. -/
theorem State.hd_setHd_self (s : State) (p q : Nat) : (s.setHd p (s.hd p)).hd q = s.hd q := by
  by_cases h : q = p
  · subst h; rw [State.hd_setHd]
  · rw [State.hd_setHd_other _ _ _ _ h]

/-! ### Accesses -/

theorem ka_div (p : Nat) {off : Nat} (h : off < 4096) : ka p off / 4096 = p := by unfold ka; omega
theorem ka_mod (p : Nat) {off : Nat} (h : off < 4096) : ka p off % 4096 = off := by unfold ka; omega

/-- The software and the host reach every header register of a page that exists (R30, R36). -/
theorem reaches_header {m p off : Nat} (hm : isVf m = false) (hp : p < 4096) (hb : (pageBlock p).isSome = true) (ho : off < 0x030)
    (h4 : off % 4 = 0) : reaches m (ka p off) = true := by
  have ha : ka p off < 2 ^ 24 := by unfold ka; omega
  have hlt : off < 4096 := by omega
  simp [reaches, isReg, ka_div p hlt, ka_mod p hlt, hm, hb, h4, ho]
  omega

/-- The software and the host reach every register of a table window. -/
theorem reaches_window {m p off : Nat} (hm : isVf m = false) (hp : p < 4096) (hb : (pageBlock p).isSome = true)
    (hcap : (pageCaps p).testBit 2 = true) (ho : off < 4096) (hw : isWin off = true) (h4 : off % 4 = 0) :
    reaches m (ka p off) = true := by
  have ha : ka p off < 2 ^ 24 := by unfold ka; omega
  simp [reaches, isReg, ka_div p ho, ka_mod p ho, hm, hb, h4, hcap, hw]
  omega

/-- A header register but LOCK, written by the software or the host (R42). -/
theorem State.regWrite_header (s : State) {m p off : Nat} (v : Word) (hm : isVf m = false) (hp : p < 4096)
    (hb : (pageBlock p).isSome = true) (ho : off < 0x030) (h4 : off % 4 = 0) (hl : off ≠ R.LOCK) :
    s.regWrite m (ka p off) v = (s.touch p).hdrWrite m p off v := by
  have hlt : off < 4096 := by omega
  simp [State.regWrite, reaches_header hm hp hb ho h4, hm, ka_div p hlt, ka_mod p hlt, hl, ho]

/-- LOCK, written by the software or the host (R48). -/
theorem State.regWrite_lock (s : State) {m p : Nat} (v : Word) (hm : isVf m = false) (hp : p < 4096)
    (hb : (pageBlock p).isSome = true) : s.regWrite m (ka p R.LOCK) v = s.lockKey p v := by
  simp [State.regWrite, reaches_header hm hp hb (show R.LOCK < 0x030 by decide) (by decide), hm, ka_div p (show R.LOCK < 4096 by decide),
    ka_mod p (show R.LOCK < 4096 by decide)]

/-- A register of a block, written by the software or the host: its command, or the value it holds (R42). -/
theorem State.regWrite_row (s : State) {m a : Nat} (v : Word) (hm : isVf m = false) (hr : reaches m a = true) (ho : 0x030 ≤ a % 4096)
    {r : RegDef} {n : Nat} {hi : Bool} (hrow : rowOf (a / 4096) (a % 4096) = some (r, n, hi)) :
    s.regWrite m a v = (((s.touch (a / 4096)).cmdWrite (a / 4096) (a % 4096) v).getD
      ((s.touch (a / 4096)).holdWrite (a / 4096) (a % 4096) r hi v)) := by
  have hl : a % 4096 ≠ R.LOCK := by intro h; rw [h] at ho; exact absurd ho (by decide)
  simp [State.regWrite, hr, hm, hl, Nat.not_lt.2 ho, hrow]

/-- A write of CTRL with a command bit set, by the software or the host. -/
theorem State.ctrlCmd_eq (s : State) {m p : Nat} (v : Word) (i : Nat) (hm : isVf m = false) (hp : p < 4096)
    (hb : (pageBlock p).isSome = true) : s.ctrlCmd m p v i = (s.touch p).ctrlWrite p (setBit v i true) := by
  rw [State.ctrlCmd, State.regWrite_header s _ hm hp hb (by decide) (by decide) (by decide)]
  simp [State.hdrWrite, hm]

end Sys2Proof.Machine
end

section
/-!
PROOFS. Shadow and active copies (R43 to R47): the write of an RWS register, and COMMIT.
-/
namespace Sys2Proof.Machine
open Sys2Proof

/-! ### A write of a shadow (R43, R45) -/

section
variable {s : State} {p off n : Nat} {v : Word} {r : RegDef} (hul : (s.hd (headPage p)).unlocked = true) (hp : p ≠ pRST)
include hul hp

/-- On an unlocked page no field is protected (R48); RST_WDOG_CFG has a lock of its own. -/
theorem State.wrLocked_of_unlocked (ws : List (Nat × Word)) : (s.touch p).wrLocked p r ws = false := by
  simp [State.wrLocked, hul, hp]

variable (hacc : r.acc = .rws)
include hacc

/-- While a COMMIT is pending the write is refused (R45). -/
theorem State.holdWrite_committing (hcp : (s.hd (headPage p)).commitPending = true) (hi : Bool) :
    (s.touch p).holdWrite p off r hi v = (s.touch p).refuse p off Err.commitBusy := by
  simp [State.holdWrite, hacc, hcp, State.wrLocked_of_unlocked hul hp]

/-- With nothing against it the write stores the register's bits of the value. -/
theorem State.holdWrite_rws (hcp : (s.hd (headPage p)).commitPending = false) (hw : r.wide = false) (ht : p ≠ pTMP) (hs : p ≠ pSHF)
    (hrng : wrRange p off r v (v &&& w32 r.mask).toNat = false) (hring : (s.touch p).ringRouteBad p off v = false) :
    (s.touch p).holdWrite p off r false v = (s.touch p).setRg p off (v &&& w32 r.mask) := by
  have hws : (s.touch p).wrWords p off r false v = [(off, v &&& w32 r.mask)] := by
    simp [State.wrWords, State.wrValue, hacc, ht]
  rw [BitVec.toNat_and] at hrng
  simp [State.holdWrite, hws, hacc, hcp, hw, hs, State.wrLocked_of_unlocked hul hp, hrng, hring]

end

/-- A read of an RWS register (R43). -/
theorem State.regWord_rws (s : State) {p off n : Nat} {r : RegDef} (ho : 0x030 ≤ off) (hrow : rowOf p off = some (r, n, false))
    (hacc : r.acc = .rws) : s.regWord p off = if (s.hd p).activeView then s.ac p off else s.rg p off := by
  simp [State.regWord, Nat.not_lt.2 ho, hrow, hacc]

/-- Settles O7: with nothing to refuse it the write is the store of the masked value. -/
theorem rwsWriteChangesShadowOnly : Obligations.RwsWriteChangesShadowOnly := by
  intro m a v r n s hon hm hreach ho hrow hacc hwide hcmd hcp hul hrst htmp hshf hrng hring
  have he : s.regWrite m a v = (s.touch (a / 4096)).setRg (a / 4096) (a % 4096) (v &&& w32 r.mask) := by
    rw [State.regWrite_row s v hm hreach ho hrow, hcmd, Option.getD_none,
      State.holdWrite_rws hul hrst hacc hcp hwide htmp hshf hrng hring]
  have hrg := (s.touch (a / 4096)).rg_setRg (a / 4096) (a % 4096) (v &&& w32 r.mask)
  refine ⟨{ s.regWrite m a v with pending := s.pending }, by rw [exec_rwsWrite, act_on _ _ _ hon],
    by rw [exec_regWrite, act_on _ _ _ hon], ?_⟩
  rw [he]
  refine ⟨hrg, fun p off => s.ac_touch _ p off, fun p off hne => ?_, ?_, ?_⟩
  · exact ((s.touch _).rg_setRg_other _ _ p off _ hne).trans (s.rg_touch _ p off)
  · refine (State.regWord_rws _ ho hrow hacc).trans ?_
    have hv : ((s.touch (a / 4096)).hd (a / 4096)).activeView = (s.hd (a / 4096)).activeView := s.activeView_touch _ _
    exact if_congr (by rw [← hv]; rfl) (s.ac_touch _ _ _) hrg
  · rw [s.touch_shape (a / 4096)]
    rfl

end Sys2Proof.Machine
end

section
/-!
PROOFS. COMMIT (R44, R45): a write of CTRL with ENABLE and ACTIVE_VIEW as they stand, the checks of the shadow, and the boundary.
-/
namespace Sys2Proof.Machine
open Sys2Proof

/-! ### IRQ_STATUS bits -/

theorem bit_or (a b : Word) (i : Nat) : bit (a ||| b) i = (bit a i || bit b i) := by
  simp [bit, Nat.testBit_or]

theorem bit_one_shift {i : Nat} (hi : i < 32) : bit (w32 (1 <<< i)) i = true := by
  have h : 2 ^ i < 2 ^ 32 := Nat.pow_lt_pow_right (by decide) hi
  rw [bit, w32, BitVec.toNat_ofNat, Nat.one_shiftLeft, Nat.mod_eq_of_lt h, Nat.testBit_two_pow_self]

/-- The event's bit reads 1 after it is raised (R52). -/
theorem State.bit_irq (s : State) (p : Nat) {i : Nat} (hi : i < 32) : bit ((s.irq p i).hd p).irqStatus i = true := by
  rw [State.hd_irq, bit_or, bit_one_shift hi, Bool.or_true]

/-- Raising another event clears no bit. -/
theorem State.bit_irq_of_bit {s : State} {p i q j : Nat} (h : bit (s.hd q).irqStatus j = true) : bit ((s.irq p i).hd q).irqStatus j = true := by
  by_cases hq : q = p
  · subst hq; rw [State.hd_irq, bit_or, h, Bool.true_or]
  · rwa [State.hd_irq_other _ _ _ _ hq]

/-- Counting clears no bit. -/
theorem State.bit_bumpBy_of_bit {s : State} {p o n q j : Nat} (h : bit (s.hd q).irqStatus j = true) :
    bit ((s.bumpBy p o n).hd q).irqStatus j = true := by
  unfold State.bumpBy
  dsimp only
  split
  · apply State.bit_irq_of_bit
    by_cases hq : q = p
    · subst hq; rwa [State.hd_updHd]
    · rwa [State.hd_updHd_other _ _ _ _ hq]
  · exact h

theorem State.bit_bump_of_bit {s : State} {p o q j : Nat} (h : bit (s.hd q).irqStatus j = true) :
    bit ((s.bump p o).hd q).irqStatus j = true := State.bit_bumpBy_of_bit h

/-! ### What the checks of a COMMIT read -/

section
variable {ps : List Nat} {s t : State} (h : s.Quiet ps t)
include h

theorem State.Quiet.unusable (q : Nat) : t.unusable q = s.unusable q := by
  rw [State.unusable, h.hdIn q, State.absent, State.half, h.ident]
  rfl

theorem State.Quiet.enable (q : Nat) : (t.hd q).enable = (s.hd q).enable := by rw [h.hdIn]
theorem State.Quiet.started (q : Nat) : (t.hd q).started = (s.hd q).started := by rw [h.hdIn]

theorem State.Quiet.partRuns (q : Nat) : t.partRuns q = s.partRuns q := by rw [h.rest]; rfl

theorem State.Quiet.running (q : Nat) : t.running q = s.running q := by
  simp only [State.running, h.enable, h.started, h.partRuns]

theorem State.Quiet.commitWaits (g : Nat) : t.commitWaits g = s.commitWaits g := by
  simp only [State.commitWaits, State.cycOn, h.running, h.enable, h.cyc]

theorem State.Quiet.rngCheck (q : Nat) : t.rngCheck q = s.rngCheck q := by rw [h.rest]; rfl
theorem State.Quiet.tsuCheck : t.tsuCheck = s.tsuCheck := by rw [h.rest]; rfl
theorem State.Quiet.swcCheck : t.swcCheck = s.swcCheck := by rw [h.rest]; rfl
theorem State.Quiet.svaCheck : t.svaCheck = s.svaCheck := by rw [h.rest]; rfl
theorem State.Quiet.adcCheck (c : Nat) : t.adcCheck c = s.adcCheck c := by rw [h.rest]; rfl
theorem State.Quiet.cycCheck (q : Nat) : t.cycCheck q = s.cycCheck q := by rw [h.rest]; rfl
theorem State.Quiet.vfmCheck (f : Nat) : t.vfmCheck f = s.vfmCheck f := by rw [h.rest]; rfl
theorem State.Quiet.talCheck (e : Nat) : t.talCheck e = s.talCheck e := by rw [h.rest]; rfl
theorem State.Quiet.hwsCheck : t.hwsCheck = s.hwsCheck := by rw [h.rest]; rfl
theorem State.Quiet.acqCheck : t.acqCheck = s.acqCheck := by rw [h.rest]; rfl

theorem State.Quiet.dfoCheck : t.dfoCheck = s.dfoCheck := by
  simp only [State.dfoCheck, h.unusable, h.rg]

theorem State.Quiet.dupCfgCheck : t.dupCfgCheck = s.dupCfgCheck := by
  have hr : t = { s with hdrs := t.hdrs, cnts := t.cnts, vecs := t.vecs, out := t.out, shf := t.shf } := h.shape
  simp only [State.dupCfgCheck, h.unusable]
  rw [hr]
  rfl

theorem State.Quiet.commitCheck (g : Nat) : t.commitCheck g = s.commitCheck g := by
  rw [State.commitCheck, State.commitCheck, funext h.rngCheck]
  congr 1
  funext _
  simp only [State.blockCheck, h.tsuCheck, h.swcCheck, h.svaCheck, h.adcCheck, h.cycCheck, h.vfmCheck, h.talCheck, h.hwsCheck, h.acqCheck,
    h.dfoCheck, h.dupCfgCheck]

end

/-! ### A write of CTRL that keeps ENABLE and ACTIVE_VIEW -/

/-- CTRL as it reads, with no command bit. -/
def Hdr.ctrlWord (h : Hdr) : Word := w32 (b2n h.enable + 128 * b2n h.activeView)

/-- The bits of that word with one command bit set. -/
theorem Hdr.bit_ctrlWord (h : Hdr) {i k : Nat} (hi : i < 8) (hk : k < 8) :
    bit (setBit h.ctrlWord i true) k = (k == i || (k == 0 && h.enable) || (k == 7 && h.activeView)) := by
  have all : ∀ (e a : Bool) (i : Fin 8) (k : Fin 8),
      bit (setBit (w32 (b2n e + 128 * b2n a)) i true) k = (k.val == i.val || (k.val == 0 && e) || (k.val == 7 && a)) := by decide
  exact all h.enable h.activeView ⟨i, hi⟩ ⟨k, hk⟩

/-- The page with its header stored again where it stands. -/
def State.seen (s : State) (p : Nat) : State := s.setHd p (s.hd p)

theorem State.seen_quiet (s : State) (p : Nat) {ps : List Nat} : s.Quiet ps (s.seen p) :=
  ⟨rfl, fun q _ => s.hd_setHd_self p q, fun q => by rw [State.seen, s.hd_setHd_self p q], fun _ _ _ _ => rfl⟩

@[simp] theorem State.hd_seen (s : State) (p q : Nat) : (s.seen p).hd q = s.hd q := s.hd_setHd_self p q

/-- Such a write changes no header, and then does what its one command bit asks. -/
theorem State.ctrlWrite_seen (s : State) {p i : Nat} (hg : headPage p = p) (hi : 0 < i) (hi7 : i < 7) (hi4 : i ≠ 4) :
    s.ctrlWrite p (setBit (s.hd p).ctrlWord i true) =
      if i = 3 then (s.seen p).commit p
      else if i = 5 then (s.seen p).cntClear p
      else if i = 6 then (s.seen p).snapshot p
      else if (pageCaps p).testBit 5 then (if i = 2 then (s.seen p).ctrlStop p else (s.seen p).ctrlStart p)
      else s.seen p := by
  have hb {k : Nat} (hk : k < 8) := (s.hd p).bit_ctrlWord (show i < 8 by omega) hk
  have hview : s.updHd p (fun h => { h with activeView := (s.hd p).activeView }) = s.seen p :=
    State.updHd_eq_setHd s p _ ⟨rfl, rfl, rfl⟩
  have hen : (s.seen p).setEnable p (s.hd p).enable = s.seen p := by simp [State.setEnable]
  have h0 : bit (setBit (s.hd p).ctrlWord i true) 0 = (s.hd p).enable := by
    rw [hb (by decide)]; simp [Nat.ne_of_lt hi]
  have h7 : bit (setBit (s.hd p).ctrlWord i true) 7 = (s.hd p).activeView := by
    rw [hb (by decide)]; simp [Ne.symm (Nat.ne_of_lt hi7)]
  have hk {k : Nat} (hk0 : 0 < k) (hk7 : k < 7) : bit (setBit (s.hd p).ctrlWord i true) k = (k == i) := by
    have h0 : (k == 0) = false := beq_eq_false_iff_ne.2 (by omega)
    have h7 : (k == 7) = false := beq_eq_false_iff_ne.2 (by omega)
    rw [hb (show k < 8 by omega), h0, h7, Bool.false_and, Bool.false_and, Bool.or_false, Bool.or_false]
  unfold State.ctrlWrite
  simp only [hg, ne_eq, not_true_eq_false, if_false, h0, h7, hview, hen, hk (show 0 < 4 by decide) (by decide),
    hk (show 0 < 3 by decide) (by decide), hk (show 0 < 1 by decide) (by decide), hk (show 0 < 2 by decide) (by decide),
    hk (show 0 < 6 by decide) (by decide), hk (show 0 < 5 by decide) (by decide)]
  obtain rfl | rfl | rfl | rfl | rfl : i = 1 ∨ i = 2 ∨ i = 3 ∨ i = 5 ∨ i = 6 := by omega
  all_goals cases (pageCaps p).testBit 5 <;> simp

end Sys2Proof.Machine
end

section
/-!
PROOFS. COMMIT (R44, R45): pending, refused, waiting, and taken at the boundary.
-/
namespace Sys2Proof.Machine
open Sys2Proof

/-- COMMIT of a page written with ENABLE and ACTIVE_VIEW as they stand. -/
theorem exec_commit_eq {m p : Nat} {v : Word} {s : State} (hon : s.onMain = true) (hm : isVf m = false) (hp : p < 4096)
    (hb : (pageBlock p).isSome = true) (hg : headPage p = p) (hv : v = (s.hd p).ctrlWord) :
    ∃ u, u = ((s.touch p).seen p).commit p ∧ exec (.commit m p v) s = .next { u with pending := s.pending } := by
  have hv' : v = ((s.touch p).hd p).ctrlWord := by rw [hv, State.hd_touch_self]; rfl
  refine ⟨_, rfl, ?_⟩
  rw [exec_commit, act_on _ _ _ hon, State.ctrlCmd_eq s v 3 hm hp hb, hv', State.ctrlWrite_seen _ hg (by decide) (by decide) (by decide),
    if_pos rfl]

/-- The state a COMMIT is judged in: the accessed page's half-given unlock sequence is dropped, and nothing else has happened. -/
theorem State.touch_seen_quiet (s : State) (p : Nat) : s.Quiet [p] ((s.touch p).seen p) :=
  ((State.Quiet.refl [p] s).touch (List.mem_singleton_self p)).trans ((s.touch p).seen_quiet p)

section
variable {s : State} {p : Nat}

theorem State.commit_of_pending (h : (s.hd p).commitPending = true) : s.commit p = s := if_pos h

theorem State.commit_of_bad (h : (s.hd p).commitPending = false) {q off c : Nat} (hc : s.commitCheck p = some (q, off, c)) :
    s.commit p = s.refuse q off c := by
  simp [State.commit, h, hc]

theorem State.commit_of_waits (h : (s.hd p).commitPending = false) (hc : s.commitCheck p = none) (hw : s.commitWaits p = true)
    (hg : headPage p = p) (hh : p ≠ pHWS 0) :
    s.commit p = (s.accept p).updHd p (fun h => { h with commitPending := true, commitNs := s.ns }) := by
  have ha : s.Quiet [p] (s.accept p) := (State.Quiet.refl [p] s).accept (by rw [hg]; exact List.mem_singleton_self p)
  have hns : (s.accept p).ns = s.ns := by rw [State.ns, ha.tsu]; rfl
  simp [State.commit, h, hc, hh, ha.commitWaits, hw, hns]

end

/-! ### The boundary (R44) -/

/-- Copying words of a page's shadow makes those words active, and leaves every other active word. -/
theorem State.foldl_setAc (l : List Nat) (p : Nat) (s : State) :
    let t := l.foldl (fun (s : State) o => s.setAc p o (s.rg p o)) s
    t = { s with acts := t.acts } ∧ ∀ off, t.ac p off = if off ∈ l then s.rg p off else s.ac p off := by
  induction l generalizing s with
  | nil => exact ⟨rfl, fun off => by simp⟩
  | cons o l ih =>
    obtain ⟨hshape, hac⟩ := ih (s.setAc p o (s.rg p o))
    refine ⟨hshape, fun off => (hac off).trans ?_⟩
    have hrg : (s.setAc p o (s.rg p o)).rg p off = s.rg p off := rfl
    by_cases hl : off ∈ l
    · rw [if_pos hl, hrg, if_pos (List.mem_cons_of_mem o hl)]
    · rw [if_neg hl]
      by_cases ho : off = o
      · subst ho; rw [State.ac_setAc, if_pos List.mem_cons_self]
      · rw [State.ac_setAc_other _ _ _ _ _ _ (by unfold ka; omega), if_neg (by simp [ho, hl])]

/-- The shadow of a page that CTRL governs alone becomes active in one step. -/
theorem State.commitTake_one (s : State) {p : Nat} (hgov : govPages p = [p]) :
    (∀ off ∈ accOffs p .rws, (s.commitTake p).ac p off = s.rg p off) ∧ ((s.commitTake p).hd p).commitPending = false ∧
      ((s.commitTake p).hd p).commitTag = tagOf s.tick ∧ bit ((s.commitTake p).hd p).irqStatus 1 = true ∧
      s.commitTake p = { s with
        acts := (s.commitTake p).acts, hdrs := (s.commitTake p).hdrs, vecs := (s.commitTake p).vecs, out := (s.commitTake p).out
        shf := (s.commitTake p).shf } := by
  obtain ⟨hshape, hac⟩ := State.foldl_setAc (accOffs p .rws) p s
  simp only [State.commitTake, hgov, List.foldl_cons, List.foldl_nil]
  generalize (accOffs p .rws).foldl (fun (s : State) o => s.setAc p o (s.rg p o)) s = u at hshape hac ⊢
  have htick : u.tick = s.tick := by rw [hshape]; rfl
  refine ⟨fun off ho => ?_, ?_, ?_, State.bit_irq _ _ (by decide), ?_⟩
  · rw [State.ac_irq, State.ac_updHd, State.ac_updHd, hac, if_pos ho]
  · rw [State.hd_irq, State.hd_updHd]
  · rw [State.hd_irq, State.hd_updHd, State.hd_updHd, htick]
  · rw [State.irq, State.updHd_shape, State.updHd_shape, State.updHd_shape, hshape]

/-- The pages of the statement govern themselves, and their blocks add nothing to a COMMIT but what EVR does with its folds. -/
theorem plain_page {p : Nat} (h : p ∈ [pMEM, pCRU, pPWR, pKSU, pTMP, pEVR, pHLT, pSHF]) :
    headPage p = p ∧ govPages p = [p] ∧ p < 4096 ∧ (pageBlock p).isSome = true := by
  have all : ∀ p ∈ [pMEM, pCRU, pPWR, pKSU, pTMP, pEVR, pHLT, pSHF],
      headPage p = p ∧ govPages p = [p] ∧ p < 4096 ∧ (pageBlock p).isSome = true := by decide
  exact all p h

theorem State.blockApplied_plain (old s : State) {p : Nat} (h : p ∈ [pMEM, pCRU, pPWR, pKSU, pTMP, pEVR, pHLT, pSHF]) (hp : p ≠ pEVR) :
    State.blockApplied old s p = s := by
  simp only [List.mem_cons, List.not_mem_nil, or_false] at h
  rcases h with rfl | rfl | rfl | rfl | rfl | rfl | rfl | rfl
  · rfl
  · rfl
  · rfl
  · rfl
  · rfl
  · exact absurd rfl hp
  · rfl
  · rfl

theorem State.blockApplied_pEVR (old s : State) : State.blockApplied old s pEVR = { s with evr := (State.blockApplied old s pEVR).evr } := by
  have h : State.blockApplied old s pEVR =
    if fld (s.ac pEVR R.EVR_CFG) 0 16 = 0 then s.updEvr (fun e => { e with fold := [] }) else s := rfl
  rw [h]
  split <;> rfl

/-- While a COMMIT is pending a write of the page's RWS registers is refused with COMMIT_BUSY (R45). -/
theorem exec_rwsWrite_committing {m a n : Nat} {v : Word} {r : RegDef} {s : State} (hon : s.onMain = true) (hm : isVf m = false)
    (hreach : reaches m a = true) (ho : 0x030 ≤ a % 4096) (hrow : rowOf (a / 4096) (a % 4096) = some (r, n, false)) (hacc : r.acc = .rws)
    (hrst : a / 4096 ≠ pRST) (hcmd : (s.touch (a / 4096)).cmdWrite (a / 4096) (a % 4096) v = none)
    (hcp : (s.hd (headPage (a / 4096))).commitPending = true) (hul : (s.hd (headPage (a / 4096))).unlocked = true) :
    ∃ t, exec (.rwsWrite m a v) s = .next t ∧ (t.hd (headPage (a / 4096))).cfgErr = true ∧
      (t.hd (headPage (a / 4096))).errCode = w32 (pageIndex (a / 4096) * 2 ^ 20 + a % 4096 * 256 + Err.commitBusy) ∧
      t = { s with hdrs := t.hdrs, cnts := t.cnts, vecs := t.vecs, out := t.out, shf := t.shf } := by
  have he : s.regWrite m a v = (s.touch (a / 4096)).refuse (a / 4096) (a % 4096) Err.commitBusy := by
    rw [State.regWrite_row s v hm hreach ho hrow, hcmd, Option.getD_none, State.holdWrite_committing hul hrst hacc hcp]
  obtain ⟨herr, hcode⟩ := (s.touch (a / 4096)).hd_refuse (a / 4096) (a % 4096) Err.commitBusy
  have hq : s.Quiet [headPage (a / 4096), a / 4096] (s.regWrite m a v) := by
    rw [he]
    exact ((State.Quiet.refl _ s).touch (by simp)).refuse (by simp) (by simp) _ _
  refine ⟨{ s.regWrite m a v with pending := s.pending }, by rw [exec_rwsWrite, act_on _ _ _ hon], ?_, ?_, hq.pend.shape⟩
  · rw [he]; exact herr
  · rw [he]; exact hcode

/-- A pending COMMIT of a page whose block adds nothing of its own is taken at the boundary (R44). -/
theorem exec_commitApply_plain {p : Nat} {s : State} (hon : s.onMain = true) (hmem : p ∈ [pMEM, pCRU, pPWR, pKSU, pTMP, pEVR, pHLT, pSHF])
    (hpend : (s.hd p).commitPending = true) (hbound : s.boundary p (s.hd p).commitNs = true) :
    ∃ t, exec (.commitApply p) s = .next t ∧ (∀ off ∈ accOffs p .rws, t.ac p off = s.rg p off) ∧
      (t.hd p).commitPending = false ∧ (t.hd p).commitTag = tagOf s.tsu.lastTick ∧ bit (t.hd p).irqStatus 1 = true ∧
      (p ≠ pEVR → t = { s with acts := t.acts, hdrs := t.hdrs, vecs := t.vecs, out := t.out, shf := t.shf }) := by
  obtain ⟨hg, hgov, -, -⟩ := plain_page hmem
  obtain ⟨u, hu, hexec⟩ := act_next (f := fun s => s.commitApply p) hon
  simp only [State.commitApply, hg, hpend, hbound, Bool.and_self, if_true, State.commitNow] at hu
  obtain ⟨hac, hcp, htag, hirq, hshape⟩ := s.commitTake_one hgov
  by_cases hevr : p = pEVR
  · subst hevr
    rw [State.blockApplied_pEVR] at hu
    generalize s.commitTake pEVR = w at *
    subst hu
    exact ⟨_, hexec, hac, hcp, htag, hirq, fun h => absurd rfl h⟩
  · rw [State.blockApplied_plain _ _ hmem hevr] at hu
    rw [← hu] at hac hcp htag hirq hshape
    refine ⟨_, hexec, hac, hcp, htag, hirq, fun _ => ?_⟩
    rw [hshape]

/-- Settles O8: a write while a COMMIT is pending, the answers of CTRL.COMMIT, and the boundary. -/
theorem commits : Obligations.Commits := by
  refine ⟨fun m a v r n s hon hm hreach ho hrow hacc hrst hcmd hcp hul =>
    exec_rwsWrite_committing hon hm hreach ho hrow hacc hrst hcmd hcp hul, ?_, fun p s hon hmem hpend hbound =>
    exec_commitApply_plain hon hmem hpend hbound⟩
  intro m p v s hon hm hp hb hg hv hh
  obtain ⟨u, hu, hexec⟩ := exec_commit_eq hon hm hp hb hg hv
  have hq := s.touch_seen_quiet p
  have hseen := (s.touch p).seen_quiet (ps := []) p
  have hhd : ((s.touch p).seen p).hd p = { s.hd p with lockSeen := false } := ((s.touch p).hd_seen p p).trans (s.hd_touch_self p)
  have hns : ((s.touch p).seen p).ns = s.ns := by rw [State.ns, hq.tsu]; rfl
  have hcp : (((s.touch p).seen p).hd p).commitPending = (s.hd p).commitPending := by rw [hhd]
  have hcheck := hseen.commitCheck p
  have hwaits := hseen.commitWaits p
  generalize (s.touch p).seen p = w at *
  refine ⟨fun hpend => ?_, fun hfree q off c hbad => ?_, fun hfree hgood hw => ?_⟩
  · rw [State.commit_of_pending (hcp.trans hpend)] at hu
    subst hu
    exact ⟨_, hexec, hhd, hq.acts, hq.regs⟩
  · rw [State.commit_of_bad (hcp.trans hfree) (hcheck.trans hbad)] at hu
    obtain ⟨herr, hcode⟩ := w.hd_refuse q off c
    have hacts := (State.refuse_acts w q off c).trans hq.acts
    have hregs := (State.refuse_regs w q off c).trans hq.regs
    rw [← hu] at herr hcode hacts hregs
    exact ⟨_, hexec, herr, hcode, hacts, hregs⟩
  · rw [State.commit_of_waits (hcp.trans hfree) (hcheck.trans hgood) (hwaits.trans hw) hg hh] at hu
    have hd : u.hd p = { w.hd p with cfgErr := false, commitPending := true, commitNs := w.ns } := by
      rw [hu, State.hd_updHd, State.accept, hg, State.hd_updHd]
    have hacts : u.acts = s.acts := by rw [hu, State.updHd_acts, State.accept_acts, hq.acts]
    have hregs : u.regs = s.regs := by rw [hu, State.updHd_regs, State.accept_regs, hq.regs]
    exact ⟨_, hexec, congrArg Hdr.commitPending hd, (congrArg Hdr.commitNs hd).trans hns, congrArg Hdr.cfgErr hd, hacts, hregs⟩

end Sys2Proof.Machine
end

section
/-!
PROOFS. LOCK (R48), SOFT_RESET (R38), CNT_SNAPSHOT and CNT_CLEAR (R49, R50).
-/
namespace Sys2Proof.Machine
open Sys2Proof

/-! ### Stores cut down to some of their keys -/

/-- A store cut down to keys that pass a test reads its default at the others. -/
theorem sget_filter_key {β : Type} (f : Nat → Bool) (d : β) (k : Nat) (m : List (Nat × β)) :
    sget d k (m.filter (fun e => f e.1)) = if f k then sget d k m else d := by
  induction m with
  | nil => simp [sget]
  | cons e t ih =>
    obtain ⟨a, b⟩ := e
    by_cases ha : f a = true
    · rw [List.filter_cons_of_pos (by simpa using ha)]
      by_cases hk : a = k
      · subst hk; simp [sget, ha]
      · simp only [sget, if_neg hk, ih]
    · rw [List.filter_cons_of_neg (by simpa using ha), ih]
      by_cases hk : a = k
      · subst hk; simp [ha]
      · simp only [sget, if_neg hk]

/-- A store with a range cleared reads its default in the range, and elsewhere what it read. -/
theorem sget_sclear {β : Type} (d : β) (lo hi k : Nat) (m : List (Nat × β)) :
    sget d k (sclear lo hi m) = if lo ≤ k ∧ k < hi then d else sget d k m := by
  rw [sclear, sget_filter_key (fun a => a < lo || hi ≤ a)]
  by_cases h : lo ≤ k ∧ k < hi
  · rw [if_pos h, if_neg (by simp; omega)]
  · rw [if_neg h, if_pos (by simp; omega)]

/-- The entries of a canonical store put into another override what it reads at their keys. -/
theorem sget_foldl_sput {β : Type} [DecidableEq β] (d : Nat → β) (c : β) (k : Nat) (l m : List (Nat × β)) (hl : swf d l = true) :
    sget c k (l.foldl (fun m e => sput e.1 e.2 m) m) = sget (sget c k m) k l := by
  induction l generalizing m with
  | nil => rfl
  | cons e t ih =>
    obtain ⟨a, b⟩ := e
    obtain ⟨-, habove, ht⟩ := (swf_cons d a b t).1 hl
    rw [List.foldl_cons, ih _ ht]
    by_cases hk : k = a
    · subst hk; simp [sget, sget_above b k t habove]
    · rw [sget_sput_other _ _ _ _ _ hk]; simp [sget, Ne.symm hk]

/-! ### LOCK (R48) -/

/-- What a key does to the header of the page (R48). -/
def Hdr.keyed (h : Hdr) (k clk : Nat) : Hdr :=
  if k = 0 then { h with lockSeen := false, unlocked := false }
  else if k = 0xA5A5 ∧ h.lockSeen then { h with lockSeen := false, unlocked := true, unlockClk := clk }
  else { h with lockSeen := decide (k = 0x5A5A) }

theorem State.lockKey_eq (s : State) {p : Nat} (hg : headPage p = p) (v : Word) :
    s.lockKey p v = s.updHd p (fun h => h.keyed (v.toNat % 2 ^ 16) s.tsu.clk) := by
  simp only [State.lockKey, hg, ne_eq, not_true_eq_false, if_false]
  rfl

/-- Settles O11: the four outcomes of `Hdr.keyed`, and the relock behind its time. -/
theorem lockSequence : Obligations.LockSequence := by
  intro m p v s hon hm hp hb hg
  refine ⟨?_, ?_⟩
  · obtain ⟨u, hu, hexec⟩ := act_next (f := fun s => s.regWrite m (ka p R.LOCK) v) hon
    rw [State.regWrite_lock s v hm hp hb, State.lockKey_eq s hg] at hu
    have hd : u.hd p = (s.hd p).keyed (v.toNat % 2 ^ 16) s.tsu.clk := by rw [hu, State.hd_updHd]
    have hother : ∀ q, q ≠ p → u.hd q = s.hd q := fun q hq => by rw [hu, State.hd_updHd_other _ _ _ _ hq]
    have hshape : u = { s with hdrs := u.hdrs, vecs := u.vecs, out := u.out, shf := u.shf } := by rw [hu, State.updHd_shape]
    generalize v.toNat % 2 ^ 16 = k at hd ⊢
    refine ⟨_, hexec, fun hk => ?_, fun hk => ?_, fun hk hseen => ?_, fun h0 h5 hA => ?_, hother, by rw [hshape]⟩
    · exact hd.trans (by rw [Hdr.keyed, if_pos hk])
    · exact hd.trans (by subst hk; simp [Hdr.keyed])
    · exact hd.trans (by subst hk; simp [Hdr.keyed, hseen])
    · exact hd.trans (by simp [Hdr.keyed, h0, h5, hA])
  · obtain ⟨u, hu, hexec⟩ := act_next (f := fun s => s.lockTimeout p) hon
    simp only [State.lockTimeout, hg, State.since] at hu
    by_cases hdue : (s.hd p).unlocked = true ∧ msClk 1000 ≤ s.tsu.clk - (s.hd p).unlockClk
    · rw [if_pos (by simpa using hdue)] at hu
      have hd : u.hd p = { s.hd p with unlocked := false } := by rw [hu, State.hd_updHd]
      have hshape : u = { s with hdrs := u.hdrs, vecs := u.vecs, out := u.out, shf := u.shf } := by rw [hu, State.updHd_shape]
      exact ⟨_, hexec, fun _ _ => hd, fun hlt => absurd hdue.2 (Nat.not_le.2 hlt), by rw [hshape]⟩
    · rw [if_neg (by simpa using hdue)] at hu
      subst hu
      exact ⟨_, hexec, fun h1 h2 => absurd ⟨h1, h2⟩ hdue, fun _ => rfl, rfl⟩

/-! ### SOFT_RESET (R38) -/

theorem bit_setBit_same (w : Word) {i : Nat} (hi : i < 32) : bit (setBit w i true) i = true := by
  have hmod : ∀ n : Nat, (n % 2 ^ 32).testBit i = n.testBit i := fun n => by
    rw [Nat.testBit_mod_two_pow, decide_eq_true hi, Bool.true_and]
  rw [bit, setBit, setFld, w32, BitVec.toNat_ofNat, hmod, Nat.testBit_or, Nat.testBit_shiftLeft]
  simp [b2n]

/-- The pages of the statement: each governs itself, is not STARTABLE, and its block adds nothing to a soft reset. -/
theorem softReset_page {p : Nat} (h : p ∈ [pMEM, pCRU, pPWR, pKSU, pEVR, pHLT, pSHF]) :
    headPage p = p ∧ govPages p = [p] ∧ p < 4096 ∧ (pageBlock p).isSome = true ∧ (pageCaps p).testBit 5 = false ∧
      p ≠ pHWS 0 ∧ p ≠ pTMP ∧ p ≠ pRST := by
  have all : ∀ p ∈ [pMEM, pCRU, pPWR, pKSU, pEVR, pHLT, pSHF],
      headPage p = p ∧ govPages p = [p] ∧ p < 4096 ∧ (pageBlock p).isSome = true ∧ (pageCaps p).testBit 5 = false ∧
        p ≠ pHWS 0 ∧ p ≠ pTMP ∧ p ≠ pRST := by decide
  exact all p h

theorem State.softBlock_plain (old s : State) {p : Nat} (h : p ∈ [pMEM, pCRU, pPWR, pKSU, pEVR, pHLT, pSHF]) :
    State.softBlock old s p = s := by
  simp only [List.mem_cons, List.not_mem_nil, or_false] at h
  rcases h with rfl | rfl | rfl | rfl | rfl | rfl | rfl <;> rfl

/-- The configuration region of a page at its reset values. -/
theorem State.softRegs_eq (s : State) {p : Nat} (ht : p ≠ pTMP) (hr : p ≠ pRST) :
    s.softRegs p = { s with
      regs := sclear (ka p 0x040) (ka p 0x400) s.regs, acts := sclear (ka p 0x040) (ka p 0x400) s.acts
      held := sclear (ka p 0x040) (ka p 0x400) s.held } := by
  simp [State.softRegs, State.softKeeps, ht, hr]

/-- Settles O13: a cleared region reads its defaults, and the header keeps what a fence and CNT_SAT left. -/
theorem softResetRestoresConfiguration : Obligations.SoftResetRestoresConfiguration := by
  intro m p v s hon hm hmem hen huse
  obtain ⟨hg, hgov, hp, hb, hcap, hhws, htmp, hrst⟩ := softReset_page hmem
  obtain ⟨u, hu, hexec⟩ := act_next (f := fun s => s.ctrlCmd m p v 4) hon
  have heq : s.ctrlCmd m p v 4 = ((s.touch p).softRegs p).updHd p
      (fun h => { fenced := h.fenced, degraded := h.degraded, satSeen := h.satSeen }) := by
    rw [State.ctrlCmd_eq s v 4 hm hp hb]
    simp [State.ctrlWrite, hg, bit_setBit_same, State.softReset, huse, hhws, hen, hcap, hgov, State.softBlock_plain _ _ hmem]
  rw [heq, State.softRegs_eq _ htmp hrst] at hu
  have hd : u.hd p = { fenced := (s.hd p).fenced, degraded := (s.hd p).degraded, satSeen := (s.hd p).satSeen } := by
    have ht := s.hd_touch_self p
    rw [hu, State.hd_updHd]
    show ({
        fenced := ((s.touch p).hd p).fenced, degraded := ((s.touch p).hd p).degraded, satSeen := ((s.touch p).hd p).satSeen } : Hdr) = _
    rw [ht]
  have hregs : u.regs = sclear (ka p 0x040) (ka p 0x400) s.regs := by rw [hu]; simp
  have hacts : u.acts = sclear (ka p 0x040) (ka p 0x400) s.acts := by rw [hu]; simp
  have hcnts : u.cnts = s.cnts := by rw [hu]; simp
  have hsnaps : u.snaps = s.snaps := by rw [hu]; simp
  have htbl : u.tbl = s.tbl := by rw [hu]; simp
  have hmemory : u.mem = s.mem := by rw [hu]; simp
  clear hu
  refine ⟨_, hexec, fun off hlo hhi => ⟨?_, ?_⟩, hd, hcnts, hsnaps, htbl, hmemory, fun q off hq ho => ?_⟩
  · simp only [State.rg, hregs, sget_sclear]
    rw [if_pos (by unfold ka; omega)]
  · simp only [State.ac, hacts, sget_sclear]
    rw [if_pos (by unfold ka; omega)]
  · simp only [State.rg, hregs, sget_sclear]
    rw [if_neg (by unfold ka; omega)]

/-! ### CNT_SNAPSHOT and CNT_CLEAR (R49, R50) -/

theorem isCnt_ka {p q off : Nat} (ho : off < 4096) : isCnt [p] (ka q off) = (decide (q = p) && decide (0x800 ≤ off ∧ off < 0xA00)) := by
  simp [isCnt, ka_div q ho, ka_mod q ho]

/-- The pages of the statement: each governs itself, and its counters are cleared with nothing beside them. -/
theorem counter_page {p : Nat} (h : p ∈ [pMEM, pPWR, pKSU, pEVR, pHLT, pTSU, pRST]) :
    headPage p = p ∧ govPages p = [p] ∧ p < 4096 ∧ (pageBlock p).isSome = true := by
  have all : ∀ p ∈ [pMEM, pPWR, pKSU, pEVR, pHLT, pTSU, pRST],
      headPage p = p ∧ govPages p = [p] ∧ p < 4096 ∧ (pageBlock p).isSome = true := by decide
  exact all p h

theorem State.cntClear_eq (s : State) {p : Nat} (h : p ∈ [pMEM, pPWR, pKSU, pEVR, pHLT, pTSU, pRST]) :
    s.cntClear p = ({ s with cnts := s.cnts.filter (fun e => !isCnt [p] e.1) } : State).updHd p (fun h => { h with satSeen := false }) := by
  simp only [List.mem_cons, List.not_mem_nil, or_false] at h
  rcases h with rfl | rfl | rfl | rfl | rfl | rfl | rfl <;> rfl

theorem State.snapshot_eq (s : State) {p : Nat} (hgov : govPages p = [p]) :
    s.snapshot p = ({ s with
      snaps := (s.cnts.filter (fun e => isCnt [p] e.1)).foldl (fun m e => sput e.1 e.2 m) (s.snaps.filter (fun e => !isCnt [p] e.1)) } :
        State).updHd p (fun h => { h with snapTag := tagOf s.tick }) := by
  simp only [State.snapshot, hgov, List.foldl_cons, List.foldl_nil]
  rfl

/-- Settles O14: a snapshot overrides the page's entries with its counters, a clear drops them. -/
theorem counterCommands : Obligations.CounterCommands := by
  intro m p v s hon hm hmem hv hwf
  obtain ⟨hg, hgov, hp, hb⟩ := counter_page hmem
  have hv' : v = ((s.touch p).hd p).ctrlWord := by rw [hv, State.hd_touch_self]; rfl
  have hq := s.touch_seen_quiet p
  have hcn : ((s.touch p).seen p).cnts = s.cnts := State.touch_cnts s p
  have htick : ((s.touch p).seen p).tick = s.tsu.lastTick := by rw [State.tick, hq.tsu]
  constructor
  · obtain ⟨u, hu, hexec⟩ := act_next (f := fun s => s.ctrlCmd m p v 6) hon
    rw [State.ctrlCmd_eq s v 6 hm hp hb, hv', State.ctrlWrite_seen _ hg (by decide) (by decide) (by decide)] at hu
    simp only [show ¬(6 = 3) by decide, show ¬(6 = 5) by decide, if_true, if_false, State.snapshot_eq _ hgov, hcn, htick, hq.snaps] at hu
    have hsn : u.snaps = (s.cnts.filter (fun e => isCnt [p] e.1)).foldl (fun m e => sput e.1 e.2 m)
        (s.snaps.filter (fun e => !isCnt [p] e.1)) := by rw [hu, State.updHd_snaps]
    have htag : (u.hd p).snapTag = tagOf s.tsu.lastTick := by rw [hu, State.hd_updHd]
    have hcnts : u.cnts = s.cnts := by rw [hu, State.updHd_cnts, ← hcn]
    have hregs : u.regs = s.regs := by rw [hu, State.updHd_regs, ← hq.regs]
    clear hu
    refine ⟨_, hexec, fun off hlo hhi => ?_, htag, hcnts, hregs⟩
    have hin : isCnt [p] (ka p off) = true := by rw [isCnt_ka (by omega)]; simp [hlo, hhi]
    simp only [hsn]
    rw [sget_foldl_sput (fun _ => 0) 0 _ _ _ (swf_filter _ _ _ hwf), sget_filter_key (fun a => !isCnt [p] a), sget_filter_key (isCnt [p]),
      hin, if_pos rfl, if_neg (by decide)]
    rfl
  · obtain ⟨u, hu, hexec⟩ := act_next (f := fun s => s.ctrlCmd m p v 5) hon
    rw [State.ctrlCmd_eq s v 5 hm hp hb, hv', State.ctrlWrite_seen _ hg (by decide) (by decide) (by decide), if_neg (by decide), if_pos rfl,
      State.cntClear_eq _ hmem, hcn] at hu
    have hcnts : u.cnts = s.cnts.filter (fun e => !isCnt [p] e.1) := by rw [hu, State.updHd_cnts]
    have hsn : u.snaps = s.snaps := by rw [hu, State.updHd_snaps, ← hq.snaps]
    have hregs : u.regs = s.regs := by rw [hu, State.updHd_regs, ← hq.regs]
    clear hu
    refine ⟨_, hexec, fun off hlo hhi => ?_, fun q off hqp ho => ?_, hsn, hregs⟩
    · simp only [State.cn, hcnts]
      rw [sget_filter_key (fun a => !isCnt [p] a), isCnt_ka (by omega)]
      simp [hlo, hhi]
    · simp only [State.cn, hcnts]
      rw [sget_filter_key (fun a => !isCnt [p] a), isCnt_ka ho]
      simp [hqp]

end Sys2Proof.Machine
end

section
/-!
PROOFS. ENABLE (R487), and START and STOP of the sample plane (R37, R47).
-/
namespace Sys2Proof.Machine
open Sys2Proof

/-! ### What leaves every COMMIT as it is pending -/

/-- No page's COMMIT became pending or was taken. -/
def State.KeepsPending (s t : State) : Prop := ∀ q, (t.hd q).commitPending = (s.hd q).commitPending

section
variable {s t u : State}

theorem State.KeepsPending.refl (s : State) : s.KeepsPending s := fun _ => rfl

theorem State.KeepsPending.trans (h : s.KeepsPending t) (h' : t.KeepsPending u) : s.KeepsPending u := fun q => (h' q).trans (h q)

theorem State.KeepsPending.of_hdrs (h : t.hdrs = s.hdrs) : s.KeepsPending t := fun q => by rw [State.hd, h]; rfl

/-- A step that leaves the headers alone. -/
theorem State.KeepsPending.keep (h : s.KeepsPending t) (hu : u.hdrs = t.hdrs) : s.KeepsPending u := h.trans (.of_hdrs hu)

theorem State.KeepsPending.updHd (h : s.KeepsPending t) {p : Nat} {f : Hdr → Hdr} (hf : ∀ h, (f h).commitPending = h.commitPending) :
    s.KeepsPending (t.updHd p f) := fun q => by
  refine Eq.trans ?_ (h q)
  by_cases hq : q = p
  · subst hq; rw [State.hd_updHd, hf]
  · rw [State.hd_updHd_other _ _ _ _ hq]

theorem State.KeepsPending.irq (h : s.KeepsPending t) (p i : Nat) : s.KeepsPending (t.irq p i) := h.updHd (fun _ => rfl)

theorem State.KeepsPending.bumpBy (h : s.KeepsPending t) (p o n : Nat) : s.KeepsPending (t.bumpBy p o n) :=
  h.trans fun q => by rw [State.hd_bumpBy]

theorem State.KeepsPending.bump (h : s.KeepsPending t) (p o : Nat) : s.KeepsPending (t.bump p o) := h.bumpBy p o 1

theorem State.KeepsPending.stopEnd (h : s.KeepsPending t) (g : Nat) : s.KeepsPending (t.stopEnd g) := h.updHd (fun _ => rfl)

/-- A fold whose every step keeps it keeps it. -/
theorem State.KeepsPending.foldl {α : Type} {f : State → α → State} (h : s.KeepsPending t) (l : List α)
    (hf : ∀ (s : State) (x : α), s.KeepsPending (f s x)) : s.KeepsPending (l.foldl f t) := by
  induction l generalizing t with
  | nil => exact h
  | cons x l ih => exact ih (h.trans (hf t x))

end

theorem State.setTws_hdrs (s : State) (a : Nat) (ws : List Word) : (s.setTws a ws).hdrs = s.hdrs := by
  induction ws generalizing s a with
  | nil => rfl
  | cons w ws ih => exact (ih (s.setTw a w) (a + 4)).trans (s.setTw_hdrs a w)

theorem ite_ne_of {α : Type} {c : Prop} [Decidable c] {a b x : α} (ha : a ≠ x) (hb : b ≠ x) : (if c then a else b) ≠ x := by
  split <;> assumption

/-- The duplex pair has one page (R34). -/
theorem pageBlock_dup {p i : Nat} (h : pageBlock p = some (.dup, i)) : p = pDUP := by
  by_contra hne
  have hne : ¬p = 0x1D0 := hne
  refine absurd h ?_
  rw [pageBlock, if_neg hne]
  repeat refine ite_ne_of nofun ?_
  exact nofun

/-! ### An instance that is halted -/

theorem State.keepsPending_flushPort (s : State) (p : Nat) : s.KeepsPending (s.flushPort p) := by
  have hq : s.KeepsPending (s.flushQueues p) := by
    refine State.KeepsPending.keep (State.KeepsPending.foldl (.refl s) _ fun s q => ?_) (State.setEg_hdrs _ p _)
    refine State.KeepsPending.foldl (.refl s) _ fun s y => ?_
    exact State.KeepsPending.bump (.of_hdrs (State.updSwc_hdrs s _)) _ _
  have hf := hq.foldl ((s.flushQueues p).eg p).fly (f := fun s y => s.lndDrop y.id) fun s y => .of_hdrs (State.updSwc_hdrs s _)
  unfold State.flushPort
  dsimp only
  split
  · exact (hf.keep (by rw [State.updSwc_hdrs, State.setEg_hdrs])).bumpBy _ _ _
  · exact hf.keep (State.setEg_hdrs _ _ _)

theorem State.keepsPending_linkLost (s : State) (p : Nat) : s.KeepsPending (s.linkLost p) := by
  unfold State.linkLost
  dsimp only
  split
  · exact .refl s
  · refine State.KeepsPending.trans ?_ (State.keepsPending_flushPort _ p)
    exact ((State.KeepsPending.of_hdrs (s.setMac_hdrs p _)).bump _ _).irq _ _

theorem State.stageAdc_hdrs (s : State) (p : Nat) (x : Point) : (s.stageAdc p x).hdrs = s.hdrs := by
  unfold State.stageAdc; split <;> rfl

theorem State.plausAlone_hdrs (s : State) (c : Nat) : (s.plausAlone c).hdrs = s.hdrs := by
  unfold State.plausAlone
  split
  · rfl
  · split
    · exact State.stageAdc_hdrs _ _ _
    · rfl

theorem State.keepsPending_adcHalt (s : State) (c : Nat) : s.KeepsPending (s.adcHalt c) := by
  unfold State.adcHalt
  dsimp only
  refine State.KeepsPending.foldl ?_ _ fun s n => ?_
  · exact State.KeepsPending.keep (State.KeepsPending.stopEnd (.of_hdrs (s.setAdc_hdrs c _)) _) (State.plausAlone_hdrs _ c)
  · dsimp only
    split
    · exact .of_hdrs (s.stageAdc_hdrs _ _)
    · exact .refl s

theorem State.keepsPending_acqEnd (s : State) (n k flag : Nat) : s.KeepsPending (s.acqEnd n k flag) := by
  unfold State.acqEnd
  dsimp only
  split
  · exact .refl s
  · split
    · exact State.KeepsPending.irq (.of_hdrs (by rw [State.setAset, State.updAcq_hdrs, State.updRec, State.updAcq_hdrs])) _ _
    · exact .of_hdrs (by rw [State.setAset, State.updAcq_hdrs, State.updRec, State.updAcq_hdrs])

theorem State.keepsPending_fltStopAll (s : State) (e : Nat) : s.KeepsPending (s.fltStopAll e) := by
  refine State.KeepsPending.foldl (.refl s) _ fun s c => ?_
  split
  · exact .of_hdrs ((State.setTws_hdrs _ _ _).trans (s.setFe_hdrs e _))
  · exact .refl s

theorem State.updInst_hdrs (s : State) (i : Nat) (f : Inst → Inst) : (s.updInst i f).hdrs = s.hdrs := rfl

theorem State.instStopNow_hdrs (s : State) (i : Nat) : (s.instStopNow i).hdrs = s.hdrs := by
  unfold State.instStopNow
  split
  · exact s.updInst_hdrs i _
  · rfl

theorem State.setTp_hdrs (s : State) (e l : Nat) (x : TPt) : (s.setTp e l x).hdrs = s.hdrs := rfl

theorem State.keepsPending_talHalt (s : State) (e : Nat) : s.KeepsPending (s.talHalt e) := by
  refine State.KeepsPending.foldl (.refl s) _ fun s l => ?_
  dsimp only
  split
  · exact .of_hdrs (s.setTp_hdrs e l _)
  · exact State.KeepsPending.irq (.of_hdrs (s.setTp_hdrs e l _)) _ _

theorem State.keepsPending_acqHalt (s : State) : s.KeepsPending s.acqHalt := by
  refine State.KeepsPending.keep (State.KeepsPending.foldl (.refl s) (List.range 4) fun s n => ?_) (State.updAcq_hdrs _ _)
  dsimp only
  refine State.KeepsPending.keep ?_ (State.updAcq_hdrs _ _)
  split
  · exact s.keepsPending_acqEnd _ _ _
  · exact .refl s

/-- Everything an instance does ends, and no COMMIT is touched; the duplex pair is not of these pages. -/
theorem State.keepsPending_halt (s : State) {g : Nat} (hg : g ≠ pDUP) : s.KeepsPending (s.halt g) := by
  unfold State.halt
  refine State.KeepsPending.stopEnd ?_ g
  split
  case h_1 i _ => exact s.keepsPending_linkLost i
  case h_2 => exact .of_hdrs (s.updSva_hdrs _)
  case h_3 e _ => exact s.keepsPending_fltStopAll e
  case h_4 c _ =>
    split
    · exact s.keepsPending_adcHalt c
    · exact .refl s
  case h_5 p _ =>
    have hfold := State.KeepsPending.foldl (.refl s) (s.pairInsts p) (f := fun (s : State) i =>
        if (s.inst i).state = 0 then s.updInst i (fun x => { x with startNs := none })
        else (s.updInst i (fun x => { x with stopReq := true })).instStopNow i) fun s i => by
      split
      · exact .of_hdrs (s.updInst_hdrs i _)
      · exact .of_hdrs ((State.instStopNow_hdrs _ i).trans (s.updInst_hdrs i _))
    dsimp only
    split
    · exact hfold.keep (State.updCyc_hdrs _ _)
    · exact hfold
  case h_6 e _ => exact s.keepsPending_talHalt e
  case h_7 => exact .of_hdrs rfl
  case h_8 => exact s.keepsPending_acqHalt
  case h_9 h => exact absurd (pageBlock_dup h) hg
  case h_10 => exact .refl s

/-! ### CTRL.ENABLE (R487) -/

/-- An instance whose first page is not enabled does not run. -/
theorem State.running_of_disabled {s : State} {p : Nat} (h : (s.hd (headPage p)).enable = false) : s.running p = false := by
  unfold State.running
  split
  · rfl
  · simp [h]

theorem State.enable_setEnable (s : State) {p : Nat} (b : Bool) (hd : p ≠ pDUP) (hcp : (s.hd p).commitPending = false) :
    ((s.setEnable p b).hd p).enable = b := by
  unfold State.setEnable
  refine iteInduction (motive := fun t : State => (t.hd p).enable = b) (fun heq => (beq_iff_eq.1 heq).symm) fun _ => ?_
  refine iteInduction (motive := fun t : State => (t.hd p).enable = b) (fun _ => by rw [State.hd_updHd]) fun _ => ?_
  cases b
  case true =>
    have hup : ((s.updHd p fun h => { h with enable := true }).hd p).enable = true := by rw [State.hd_updHd]
    rw [if_pos rfl]
    dsimp only
    rw [if_neg hd]
    split
    · split <;> exact hup
    · split <;> exact hup
  case false =>
    have hkept : (((s.halt p).updHd p fun h => { h with enable := false }).hd p).commitPending = false := by
      rw [State.hd_updHd]; exact (s.keepsPending_halt hd p).trans hcp
    rw [if_neg Bool.false_ne_true]
    dsimp only
    rw [hkept, if_neg Bool.false_ne_true, State.hd_updHd]

/-- The bits of a CTRL write with no command bit. -/
theorem ctrl_bits_clear {v : Word} (hv : v.toNat = v.toNat % 2 ∨ v.toNat = 128 + v.toNat % 2) {k : Nat} (hk : k ∈ [1, 2, 3, 4, 5, 6]) :
    bit v k = false := by
  have all : ∀ n ∈ [0, 1, 128, 129], ∀ k ∈ [1, 2, 3, 4, 5, 6], n.testBit k = false := by decide
  refine all v.toNat ?_ k hk
  have : v.toNat % 2 = 0 ∨ v.toNat % 2 = 1 := by omega
  simp only [List.mem_cons, List.not_mem_nil, or_false]
  omega

theorem State.ctrlWrite_enable (s : State) {p : Nat} {v : Word} (hg : headPage p = p)
    (hv : v.toNat = v.toNat % 2 ∨ v.toNat = 128 + v.toNat % 2) :
    s.ctrlWrite p v = (s.updHd p (fun h => { h with activeView := bit v 7 })).setEnable p (bit v 0) := by
  have hb {k : Nat} (hk : k ∈ [1, 2, 3, 4, 5, 6]) := ctrl_bits_clear hv hk
  simp [State.ctrlWrite, hg, hb (k := 1) (by decide), hb (k := 2) (by decide), hb (k := 3) (by decide), hb (k := 4) (by decide),
    hb (k := 5) (by decide), hb (k := 6) (by decide)]

/-! ### START and STOP of the sample plane (R37, R47) -/

theorem pSVA_page : headPage pSVA = pSVA ∧ pSVA < 4096 ∧ (pageBlock pSVA).isSome = true ∧ (pageCaps pSVA).testBit 5 = true ∧
    pageIndex pSVA = 0 := by decide

theorem State.running_pSVA (s : State) : s.running pSVA = ((s.hd pSVA).enable && (s.hd pSVA).started) := by
  have hg : headPage pSVA = pSVA := pSVA_page.1
  have hb : pageBlock pSVA = some (.sva, 0) := by decide
  have hc : (pageCaps pSVA).testBit 5 = true := by decide
  have hp : s.partRuns pSVA = false := rfl
  simp [State.running, hb, hg, hc, hp, Block.alwaysOn]

theorem State.ctrlStart_pSVA (s : State) : s.ctrlStart pSVA =
    if (s.hd pSVA).enable = false then s.refuse pSVA R.CTRL Err.range
    else if s.unusable pSVA = true then s.refuse pSVA R.CTRL Err.capFull
    else (s.updHd pSVA (fun h => { h with started := true, stopNs := none })).accept pSVA := by
  have hb : pageBlock pSVA = some (.sva, 0) := by decide
  simp [State.ctrlStart, hb]

theorem State.ctrlStop_pSVA (s : State) (h : s.running pSVA = true) :
    s.ctrlStop pSVA = s.updHd pSVA (fun h => { h with stopNs := some s.ns }) := by
  have hb : pageBlock pSVA = some (.sva, 0) := by decide
  simp [State.ctrlStop, hb, h]

/-- BUSY reads 1 while a STOP waits (R36). -/
theorem State.status_busy {s : State} {p : Nat} (hg : headPage p = p) (h : (s.hd p).stopNs.isSome = true) : s.status p / 2 % 2 = 1 := by
  have hn : (s.hd p).stopNs.isNone = false := by rw [← Option.not_isSome, h]; rfl
  have h0 : b2n false = 0 := rfl
  have h1 : b2n true = 1 := rfl
  simp only [State.status, hg, h, hn, Bool.and_false, Bool.or_true, Bool.true_or, h0, h1]
  omega

/-- What a command bit in a write of the sample plane's CTRL is judged in, and what the two commands do to it. -/
theorem exec_pSVA_start {m : Nat} {v : Word} {s : State} (hon : s.onMain = true) (hm : isVf m = false) (hv : v = (s.hd pSVA).ctrlWord) :
    (∃ u, u = ((s.touch pSVA).seen pSVA).ctrlStart pSVA ∧ exec (.start m pSVA v) s = .next { u with pending := s.pending }) ∧
      ∃ u, u = ((s.touch pSVA).seen pSVA).ctrlStop pSVA ∧ exec (.stop m pSVA v) s = .next { u with pending := s.pending } := by
  obtain ⟨hg, hp, hb, hcap, -⟩ := pSVA_page
  have hv' : v = ((s.touch pSVA).hd pSVA).ctrlWord := by rw [hv, State.hd_touch_self]; rfl
  constructor
  · refine ⟨_, rfl, ?_⟩
    rw [exec_start, act_on _ _ _ hon, State.ctrlCmd_eq s v 1 hm hp hb, hv', State.ctrlWrite_seen _ hg (by decide) (by decide) (by decide)]
    simp [hcap]
  · refine ⟨_, rfl, ?_⟩
    rw [exec_stop, act_on _ _ _ hon, State.ctrlCmd_eq s v 2 hm hp hb, hv', State.ctrlWrite_seen _ hg (by decide) (by decide) (by decide)]
    simp [hcap]

/-- Settles O12: `setEnable` leaves ENABLE as written, and the sample plane's START and STOP change its header alone. -/
theorem enableStartAndStop : Obligations.EnableStartAndStop := by
  constructor
  · intro m p v s hon hm hp hb hg hv hcp hdup
    obtain ⟨u, hu, hexec⟩ := act_next (f := fun s => s.regWrite m (ka p R.CTRL) v) hon
    have hw : s.regWrite m (ka p R.CTRL) v = (s.touch p).ctrlWrite p v := by
      rw [State.regWrite_header s v hm hp hb (by decide) (by decide) (by decide)]
      simp [State.hdrWrite, hm]
    rw [hw, State.ctrlWrite_enable _ hg hv] at hu
    have hen : (u.hd p).enable = bit v 0 := by
      rw [hu]
      refine State.enable_setEnable _ _ hdup ?_
      rw [State.hd_updHd]
      exact (s.commitPending_touch p p).trans hcp
    clear hu hw
    refine ⟨_, hexec, hen, fun hoff => ?_⟩
    refine State.running_of_disabled ?_
    rw [hg]
    exact hen.trans hoff
  · intro m v s hon hm hv hview
    obtain ⟨hg, -, -, -, hi⟩ := pSVA_page
    have hword : v = (s.hd pSVA).ctrlWord := by rw [hv, Hdr.ctrlWord, hview]; rfl
    obtain ⟨⟨u, hu, hstart⟩, w, hw, hstop⟩ := exec_pSVA_start hon hm hword
    have hq := s.touch_seen_quiet pSVA
    have hns : ((s.touch pSVA).seen pSVA).ns = s.ns := by rw [State.ns, hq.tsu]; rfl
    have hen := hq.enable pSVA
    have hst := hq.started pSVA
    have huse := hq.unusable pSVA
    have hrun := hq.running pSVA
    generalize (s.touch pSVA).seen pSVA = x at *
    refine ⟨fun hoff => ?_, fun hone husable => ?_, fun hrunning => ?_⟩
    · rw [State.ctrlStart_pSVA, if_pos (hen.trans hoff)] at hu
      have hcode := (x.hd_refuse pSVA R.CTRL Err.range).2
      rw [hg, hi, Nat.zero_mul, Nat.zero_add, ← hu] at hcode
      have hkeep : (u.hd pSVA).started = (s.hd pSVA).started := by rw [hu, x.hd_refuse_all]; exact hst
      exact ⟨_, hstart, hcode, hkeep⟩
    · rw [State.ctrlStart_pSVA, if_neg (by rw [hen, hone]; decide), if_neg (by rw [huse, husable]; decide), State.accept, hg] at hu
      have hd : u.hd pSVA = { x.hd pSVA with started := true, stopNs := none, cfgErr := false } := by
        rw [hu, State.hd_updHd, State.hd_updHd]
      have hr : u.running pSVA = true := by rw [State.running_pSVA, hd]; exact (Bool.and_true _).trans (hen.trans hone)
      have hregs : u.regs = s.regs := by rw [hu, State.updHd_regs, State.updHd_regs, hq.regs]
      have hacts : u.acts = s.acts := by rw [hu, State.updHd_acts, State.updHd_acts, hq.acts]
      have hsva : u.sva = s.sva := by rw [hu, State.updHd_sva, State.updHd_sva, hq.sva]
      exact ⟨_, hstart, congrArg Hdr.started hd, congrArg Hdr.cfgErr hd, hr, hregs, hacts, hsva⟩
    · rw [State.ctrlStop_pSVA _ (hrun.trans hrunning), hns] at hw
      have hd : (w.hd pSVA).stopNs = some s.ns := by rw [hw, State.hd_updHd]
      have hbusy : w.status pSVA / 2 % 2 = 1 := State.status_busy hg (by rw [hd]; rfl)
      have hsva : w.sva = s.sva := by rw [hw, State.updHd_sva, hq.sva]
      have hregs : w.regs = s.regs := by rw [hw, State.updHd_regs, hq.regs]
      exact ⟨_, hstop, hd, hbusy, hsva, hregs⟩

end Sys2Proof.Machine
end

section
/-! Table windows (R56 to R58): O15. -/
namespace Sys2Proof.Machine
open Sys2Proof

/-! ### Words of the tables and of a window -/

theorem State.win_setWin (s : State) (p : Nat) (w : TblWin) : (s.setWin p w).win p = w := sget_sset_same _ _ _ _

/-- What TBL_DATA holds once a list of words is loaded into it. -/
theorem TblWin.data_load (w : TblWin) (ws : List Word) {i : Nat} (h : i < ws.length) :
    sget 0 i (w.load ws).data = ws[i]?.getD 0 := by
  have fold : ∀ (ws : List Word) (k : Nat) (d : List (Nat × Word)),
      (∀ j, j < ws.length → sget 0 (k + j) ((ws.zipIdx k).foldl (fun d x => sset 0 x.2 x.1 d) d) = ws[j]?.getD 0) ∧
        ∀ j, j < k → sget 0 j ((ws.zipIdx k).foldl (fun d x => sset 0 x.2 x.1 d) d) = sget 0 j d := by
    intro ws
    induction ws with
    | nil => exact fun k d => ⟨fun j hj => absurd hj (Nat.not_lt_zero j), fun _ _ => rfl⟩
    | cons w ws ih =>
      intro k d
      obtain ⟨hin, hout⟩ := ih (k + 1) (sset 0 k w d)
      rw [List.zipIdx_cons, List.foldl_cons]
      refine ⟨fun j hj => ?_, fun j hj => ?_⟩
      · cases j with
        | zero => exact (hout k (Nat.lt_succ_self k)).trans (sget_sset_same _ _ _ _)
        | succ j =>
          have := hin j (Nat.lt_of_succ_lt_succ hj)
          rw [Nat.add_right_comm] at this
          exact this
      · exact (hout j (Nat.lt_succ_of_lt hj)).trans (sget_sset_other _ _ _ _ _ _ (Nat.ne_of_lt hj))
  have := (fold ws 0 w.data).1 i h
  rw [Nat.zero_add] at this
  exact this

/-- Words past the ones written stay. -/
theorem State.tw_setTws_other (s : State) (a b : Nat) (ws : List Word) (h : ∀ i, i < ws.length → b ≠ a + 4 * i) :
    (s.setTws a ws).tw b = s.tw b := by
  induction ws generalizing s a with
  | nil => rfl
  | cons w ws ih =>
    have hb : b ≠ a := h 0 (Nat.succ_pos _)
    refine (ih _ _ fun i hi => ?_).trans (s.tw_setTw_other a b w hb)
    have := h (i + 1) (Nat.succ_lt_succ hi)
    omega

/-- Each word written is read back. -/
theorem State.tw_setTws (s : State) (a : Nat) (ws : List Word) {i : Nat} (h : i < ws.length) :
    (s.setTws a ws).tw (a + 4 * i) = ws[i]?.getD 0 := by
  induction ws generalizing s a i with
  | nil => exact absurd h (Nat.not_lt_zero i)
  | cons w ws ih =>
    cases i with
    | zero =>
      refine ((s.setTw a w).tw_setTws_other (a + 4) a ws fun i _ => ?_).trans (s.tw_setTw a w)
      omega
    | succ i =>
      have := ih (s.setTw a w) (a + 4) (Nat.lt_of_succ_lt_succ h)
      rw [show a + 4 * (i + 1) = a + 4 + 4 * i by omega]
      exact this

/-- Table words are all a write of them changes. -/
theorem State.setTws_shape (s : State) (a : Nat) (ws : List Word) : s.setTws a ws = { s with tbl := (s.setTws a ws).tbl } := by
  induction ws generalizing s a with
  | nil => rfl
  | cons w ws ih => exact ih (s.setTw a w) (a + 4)

/-! ### Writes of TBL_UPDATE -/

/-- No register of a block lies in its table window. -/
theorem rowOf_update (p : Nat) : rowOf p R.TBL_UPDATE = none := by
  have none_of {l : List RegDef} (h : l.all (fun r => (r.at R.TBL_UPDATE).isNone) = true) :
      l.findSome? (fun r => (r.at R.TBL_UPDATE).map fun x => (r, x.1, x.2)) = none := by
    refine List.findSome?_eq_none_iff.2 fun r hr => ?_
    rw [Option.isNone_iff_eq_none.1 (List.all_eq_true.1 h r hr)]
    rfl
  have hnot : ¬(0xA00 ≤ R.TBL_UPDATE ∧ R.TBL_UPDATE < 0xC00) := by decide
  rw [rowOf, if_neg hnot, regAt]
  refine none_of ?_
  unfold pageRows
  split
  · rfl
  · repeat' split
    all_goals decide

section
variable (s : State) {m p : Nat} (hm : isVf m = false) (hp : p < 4096) (hb : (pageBlock p).isSome = true)
  (hc : (pageCaps p).testBit 2 = true)
include hm hp hb hc

theorem State.regWrite_update (v : Word) : s.regWrite m (ka p R.TBL_UPDATE) v = (s.touch p).winWrite p R.TBL_UPDATE v := by
  have hr := reaches_window (m := m) (off := R.TBL_UPDATE) hm hp hb hc (by decide) (by decide) (by decide)
  have hlock : ¬R.TBL_UPDATE = R.LOCK := by decide
  have hhd : ¬R.TBL_UPDATE < 0x030 := by decide
  simp [State.regWrite, hr, hm, ka_div p (show R.TBL_UPDATE < 4096 by decide), ka_mod p (show R.TBL_UPDATE < 4096 by decide), rowOf_update,
    hlock, hhd]

theorem State.regWrite_tblRead : s.regWrite m (ka p R.TBL_UPDATE) 1 = (s.touch p).tblRead p := by
  rw [s.regWrite_update hm hp hb hc]; rfl

theorem State.regWrite_tblWrite : s.regWrite m (ka p R.TBL_UPDATE) 2 = (s.touch p).tblWrite p := by
  rw [s.regWrite_update hm hp hb hc]; rfl

end

/-- The code a refusal on the first page of a block shows (R40). -/
theorem State.errCode_refuse (s : State) {p : Nat} (hg : headPage p = p) (o c : Nat) :
    ((s.refuse p o c).hd p).errCode = w32 (o * 256 + c) := by
  have h := (s.hd_refuse p o c).2
  rw [hg, pageIndex, hg, Nat.sub_self, Nat.zero_mul, Nat.zero_add] at h
  exact h

/-! ### The operations -/

/-- OP = 1 of an entry that fits the window loads its words and sets BUSY. -/
theorem State.tblRead_whole (s : State) {p : Nat} {t : Tab} {e : Nat} (hbusy : (s.win p).busy = false)
    (ht : tabAt p (s.win p).addr = some (t, e, 0)) (hsize : t.size ≤ 128) :
    ∃ buf, s.tblRead p =
      s.setWin p { (s.win p).load ((s.tblWords p e (t.size / 4)).take t.words) with busy := true, buf := buf } := by
  have hbig : ¬128 < t.size := by omega
  refine ⟨(s.win p).buf, ?_⟩
  simp only [State.tblRead, hbusy, ht, hbig, and_false, if_false, if_true, Bool.false_eq_true, Nat.mul_zero, List.drop_zero]
  split <;> rfl

theorem TblWin.length_take (w : TblWin) (n : Nat) : (w.take n).length = n := by simp [TblWin.take]

theorem State.maskEntry_touch (s : State) (p a : Nat) (ws : List Word) : (s.touch p).maskEntry a ws = s.maskEntry a ws := by
  simp [State.maskEntry, State.tw]

theorem State.tblFenced_touch (s : State) (p q : Nat) : (s.touch p).tblFenced q = s.tblFenced q := by
  unfold State.tblFenced; split <;> simp

/-- OP = 2 of a whole entry that its block accepts. -/
theorem State.tblWrite_whole (s : State) {p : Nat} {t : Tab} {e : Nat} (hbusy : (s.win p).busy = false) (hasm : (s.win p).asm = none)
    (ht : tabAt p (s.win p).addr = some (t, e, 0)) (hro : t.ro = false) (hwords : t.words * 4 = t.size)
    (hprot : t.prot = true → (s.hd (headPage p)).unlocked = true) (hfen : s.tblFenced p = false) (hcom : s.tblCommitting p e = false)
    (hok : s.entryCheck p e (s.maskEntry e ((s.win p).take t.words)) = none) :
    s.tblWrite p = (s.setWin p { s.win p with
      busy := true, asm := none, pend := some (e, s.maskEntry e ((s.win p).take t.words)) }).entryNoted p e := by
  have hlen : ¬4 * ((s.win p).take t.words).length < t.size := by rw [TblWin.length_take]; omega
  have hlocked : (t.prot && !(s.hd (headPage p)).unlocked) = false := by
    cases h : t.prot
    · rfl
    · rw [hprot h]; rfl
  simp [State.tblWrite, hbusy, hfen, ht, hro, hlocked, hcom, hasm, hlen, hok]

/-- The record of a table write leaves the tables and windows. -/
theorem State.entryNoted_tbl (s : State) (p a : Nat) : (s.entryNoted p a).tbl = s.tbl ∧ (s.entryNoted p a).wins = s.wins := by
  unfold State.entryNoted
  split
  · exact ⟨s.updEvr_tbl _, s.updEvr_wins _⟩
  · exact ⟨rfl, rfl⟩

theorem State.entryNoted_of_not_tal (s : State) {p : Nat} (a : Nat) (h : isTal p = false) : s.entryNoted p a = s := by
  unfold State.entryNoted
  split
  next heq => rw [isTal, heq] at h; cases h
  · rfl

theorem State.tblDone_pend (s : State) {p : Nat} {e : Nat} {ws : List Word} (hbusy : (s.win p).busy = true) (hpend : (s.win p).pend = some (e, ws))
    (ht : isTal p = false) : s.tblDone p = (s.setWin p { s.win p with busy := false, pend := none }).entryWritten p e ws := by
  simp [State.tblDone, hbusy, hpend, ht]

theorem State.tblDone_read (s : State) {p : Nat} (hbusy : (s.win p).busy = true) (hpend : (s.win p).pend = none) :
    s.tblDone p = s.setWin p { s.win p with busy := false } := by
  simp [State.tblDone, hbusy, hpend]

/-- What an entry of the duplex pair's or the Crosscut's tables changes. -/
theorem State.entryWritten_dup_swc (s : State) {p : Nat} (e : Nat) (ws : List Word) (hp : p = pDUP ∨ p = pSWC) :
    (s.entryWritten p e ws).tbl = (s.setTws e ws).tbl ∧
      s.entryWritten p e ws = { s with
        tbl := (s.entryWritten p e ws).tbl, swc := { s.swc with fdbRef := (s.entryWritten p e ws).swc.fdbRef } } := by
  obtain rfl | rfl := hp
  · have : s.entryWritten pDUP e ws = s.setTws e ws := rfl
    rw [this]
    exact ⟨rfl, by rw [s.setTws_shape]⟩
  · have : s.entryWritten pSWC e ws = (s.setTws e ws).swcWritten e := rfl
    rw [this, State.swcWritten]
    split
    · exact ⟨State.updSwc_tbl _ _, by rw [s.setTws_shape]; rfl⟩
    · exact ⟨rfl, by rw [s.setTws_shape]⟩

/-- Settles O15: each clause is the operation of the window that it names. -/
theorem tableWindow : Obligations.TableWindow := by
  intro m p s hon hm hp hc hb hg
  refine ⟨fun t0 e n hbusy ht hsize hn => ?_, fun hbusy => ?_, fun t0 e hbusy hasm ht hsize hro hwords hprot hfen hcom hok => ?_,
    fun hbusy hpend => ?_, fun e ws hpage hbusy hpend => ?_⟩
  · subst hn
    obtain ⟨u, hu, hexec⟩ := act_next (f := fun s => s.regWrite m (ka p R.TBL_UPDATE) 1) hon
    have hwin : (s.touch p).win p = s.win p := by rw [State.win, State.touch_wins]; rfl
    obtain ⟨buf, hread⟩ := (s.touch p).tblRead_whole (hwin ▸ hbusy) (hwin ▸ ht) hsize
    rw [s.regWrite_tblRead hm hp hb hc, hread] at hu
    have hw := congrArg (fun x : State => x.win p) hu
    simp only [State.win_setWin] at hw
    have hshape : { u with pending := s.pending } = { s with wins := u.wins, hdrs := u.hdrs } := by
      rw [hu, State.touch_shape]; rfl
    clear hu
    refine ⟨_, hexec, ?_, fun i hi => ?_, hshape⟩
    · exact congrArg TblWin.busy hw
    · refine (congrArg (fun w => sget 0 i w.data) hw).trans (TblWin.data_load _ _ ?_)
      rw [List.length_take, State.tblWords, List.length_map, List.length_range]
      have : t0.words ≤ t0.size / 4 := Nat.min_le_right _ _
      omega
  · obtain ⟨u, hu, hexec⟩ := act_next (f := fun s => s.regWrite m (ka p R.TBL_UPDATE) 2) hon
    have hwin : (s.touch p).win p = s.win p := by rw [State.win, State.touch_wins]; rfl
    rw [s.regWrite_tblWrite hm hp hb hc, State.tblWrite, hwin, if_pos hbusy] at hu
    have hcode := (s.touch p).errCode_refuse hg R.TBL_UPDATE Err.tblBusy
    rw [← hu] at hcode
    have htbl : u.tbl = s.tbl := by rw [hu, State.refuse_tbl, State.touch_tbl]
    have hwins : u.wins = s.wins := by rw [hu, State.refuse_wins, State.touch_wins]
    exact ⟨_, hexec, hcode, htbl, hwins⟩
  · obtain ⟨u, hu, hexec⟩ := act_next (f := fun s => s.regWrite m (ka p R.TBL_UPDATE) 2) hon
    have hwin : (s.touch p).win p = s.win p := by rw [State.win, State.touch_wins]; rfl
    have hcom' : (s.touch p).tblCommitting p e = false := by rw [State.tblCommitting, State.commitPending_touch]; exact hcom
    have hmask := s.maskEntry_touch p e ((s.win p).take t0.words)
    have hwrite := (s.touch p).tblWrite_whole (hwin ▸ hbusy) (hwin ▸ hasm) (hwin ▸ ht) hro hwords
      (fun h => by rw [hg, State.unlocked_touch]; exact hprot h) (by rw [s.tblFenced_touch, hfen]) hcom'
      (by rw [hwin, hmask]; exact hok)
    rw [s.regWrite_tblWrite hm hp hb hc, hwrite, hwin, hmask] at hu
    have hplain := fun h => hu.trans (State.entryNoted_of_not_tal _ e h)
    obtain ⟨htbl, hwins⟩ := State.entryNoted_tbl ((s.touch p).setWin p { s.win p with
      busy := true, asm := none, pend := some (e, s.maskEntry e ((s.win p).take t0.words)) }) p e
    rw [← hu] at htbl hwins
    have hw := congrArg (fun ws => sget {} p ws) hwins
    have hup : u.win p = { s.win p with
        busy := true, asm := none, pend := some (e, s.maskEntry e ((s.win p).take t0.words)) } := hw.trans (State.win_setWin _ _ _)
    have hshape (h : isTal p = false) : { u with pending := s.pending } = { s with wins := u.wins, hdrs := u.hdrs } := by
      rw [hplain h, State.touch_shape]; rfl
    clear hu hplain
    have hpend : (u.win p).pend = some (e, s.maskEntry e ((s.win p).take t0.words)) := by rw [hup]
    exact ⟨_, hexec, congrArg TblWin.busy hup, hpend, htbl.trans (s.touch_tbl p), hshape⟩
  · obtain ⟨u, hu, hexec⟩ := act_next (f := fun s => s.tblDone p) hon
    rw [s.tblDone_read hbusy hpend] at hu
    have hw : (u.win p).busy = false := by rw [hu, State.win_setWin]
    have hshape : { u with pending := s.pending } = { s with wins := u.wins } := by rw [hu]; rfl
    exact ⟨_, hexec, hw, hshape⟩
  · obtain ⟨u, hu, hexec⟩ := act_next (f := fun s => s.tblDone p) hon
    have htal : isTal p = false := by obtain rfl | rfl := hpage <;> rfl
    rw [s.tblDone_pend hbusy hpend htal] at hu
    obtain ⟨htbl, hrest⟩ := State.entryWritten_dup_swc (s.setWin p { s.win p with busy := false, pend := none }) e ws hpage
    rw [← hu] at htbl hrest
    clear hu
    have hw : (u.win p).busy = false := by rw [hrest]; exact congrArg TblWin.busy (s.win_setWin p _)
    have htw (a : Nat) : u.tw a = ((s.setWin p { s.win p with busy := false, pend := none }).setTws e ws).tw a := by
      rw [State.tw, htbl]; rfl
    have hin (i : Nat) (hi : i < ws.length) : u.tw (e + 4 * i) = ws[i]?.getD 0 := (htw _).trans (State.tw_setTws _ _ _ hi)
    have hout (a : Nat) (ha : ∀ i, i < ws.length → a ≠ e + 4 * i) : u.tw a = s.tw a :=
      (htw a).trans (State.tw_setTws_other _ _ _ _ ha)
    have hshape : { u with pending := s.pending } =
        { s with wins := u.wins, tbl := u.tbl, swc := { s.swc with fdbRef := u.swc.fdbRef } } := by rw [hrest]; rfl
    exact ⟨_, hexec, hw, hin, hout, hshape⟩

end Sys2Proof.Machine
end

section
/-! What reading a row of the state gives after a row was written: the row itself, or another one. -/
namespace Sys2Proof.Machine
open Sys2Proof

section
variable (s : State) (i j : Nat)

@[simp] theorem State.mac_setMac (x : Mac) : (s.setMac i x).mac i = x := sget_sset_same _ _ _ _
theorem State.mac_setMac_other (x : Mac) (h : j ≠ i) : (s.setMac i x).mac j = s.mac j := sget_sset_other _ _ _ _ _ _ h
@[simp] theorem State.eg_setEg (x : EgPort) : (s.setEg i x).eg i = x := sget_sset_same _ _ _ _
theorem State.eg_setEg_other (x : EgPort) (h : j ≠ i) : (s.setEg i x).eg j = s.eg j := sget_sset_other _ _ _ _ _ _ h
@[simp] theorem State.inst_setInst (x : Inst) : (s.setInst i x).inst i = x := sget_sset_same _ _ _ _
theorem State.inst_setInst_other (x : Inst) (h : j ≠ i) : (s.setInst i x).inst j = s.inst j := sget_sset_other _ _ _ _ _ _ h
@[simp] theorem State.kslot_setKslot (x : KSlot) : (s.setKslot i x).kslot i = x := sget_sset_same _ _ _ _
theorem State.kslot_setKslot_other (x : KSlot) (h : j ≠ i) : (s.setKslot i x).kslot j = s.kslot j := sget_sset_other _ _ _ _ _ _ h
@[simp] theorem State.lap_setLap (x : Lap) : (s.setLap i x).lap i = x := sget_sset_same _ _ _ _
theorem State.lap_setLap_other (x : Lap) (h : j ≠ i) : (s.setLap i x).lap j = s.lap j := sget_sset_other _ _ _ _ _ _ h
@[simp] theorem State.strm_setStrm (x : Stream) : (s.setStrm i x).strm i = x := sget_sset_same _ _ _ _
theorem State.strm_setStrm_other (x : Stream) (h : j ≠ i) : (s.setStrm i x).strm j = s.strm j := sget_sset_other _ _ _ _ _ _ h
@[simp] theorem State.fe_setFe (x : FltEng) : (s.setFe i x).fe i = x := sget_sset_same _ _ _ _
theorem State.fe_setFe_other (x : FltEng) (h : j ≠ i) : (s.setFe i x).fe j = s.fe j := sget_sset_other _ _ _ _ _ _ h
@[simp] theorem State.pt_setPt (x : Point) : (s.setPt i x).pt i = x := sget_sset_same _ _ _ _
theorem State.pt_setPt_other (x : Point) (h : j ≠ i) : (s.setPt i x).pt j = s.pt j := sget_sset_other _ _ _ _ _ _ h
@[simp] theorem State.dirAt_setDir (x : Nat × Nat) : (s.setDir i x).dirAt i = x := sget_sset_same _ _ _ _
theorem State.dirAt_setDir_other (x : Nat × Nat) (h : j ≠ i) : (s.setDir i x).dirAt j = s.dirAt j := sget_sset_other _ _ _ _ _ _ h
@[simp] theorem State.adc_setAdc (x : Adc) : (s.setAdc i x).adc i = x := sget_sset_same _ _ _ _
theorem State.adc_setAdc_other (x : Adc) (h : j ≠ i) : (s.setAdc i x).adc j = s.adc j := sget_sset_other _ _ _ _ _ _ h
@[simp] theorem State.aset_setAset (x : AcqSet) : (s.setAset i x).aset i = x := sget_sset_same _ _ _ _
theorem State.aset_setAset_other (x : AcqSet) (h : j ≠ i) : (s.setAset i x).aset j = s.aset j := sget_sset_other _ _ _ _ _ _ h
@[simp] theorem State.vf_setVf (x : Vf) : (s.setVf i x).vf i = x := sget_sset_same _ _ _ _
theorem State.vf_setVf_other (x : Vf) (h : j ≠ i) : (s.setVf i x).vf j = s.vf j := sget_sset_other _ _ _ _ _ _ h
@[simp] theorem State.skd_setSkd (x : Skd) : (s.setSkd i x).skd i = x := sget_sset_same _ _ _ _
theorem State.skd_setSkd_other (x : Skd) (h : j ≠ i) : (s.setSkd i x).skd j = s.skd j := sget_sset_other _ _ _ _ _ _ h
@[simp] theorem State.gsub_setGsub (x : GSub) : (s.setGsub i x).gsub i = x := sget_sset_same _ _ _ _
theorem State.gsub_setGsub_other (x : GSub) (h : j ≠ i) : (s.setGsub i x).gsub j = s.gsub j := sget_sset_other _ _ _ _ _ _ h
@[simp] theorem State.gpub_setGpub (x : GPub) : (s.setGpub i x).gpub i = x := sget_sset_same _ _ _ _
theorem State.gpub_setGpub_other (x : GPub) (h : j ≠ i) : (s.setGpub i x).gpub j = s.gpub j := sget_sset_other _ _ _ _ _ _ h
@[simp] theorem State.qp_setQp (x : Qp) : (s.setQp i x).qp i = x := sget_sset_same _ _ _ _
theorem State.qp_setQp_other (x : Qp) (h : j ≠ i) : (s.setQp i x).qp j = s.qp j := sget_sset_other _ _ _ _ _ _ h
@[simp] theorem State.te_setTe (x : TalEng) : (s.setTe i x).te i = x := sget_sset_same _ _ _ _
theorem State.te_setTe_other (x : TalEng) (h : j ≠ i) : (s.setTe i x).te j = s.te j := sget_sset_other _ _ _ _ _ _ h
@[simp] theorem State.dfo_setDfo (x : Dfo) : (s.setDfo i x).dfo i = x := sget_sset_same _ _ _ _
theorem State.dfo_setDfo_other (x : Dfo) (h : j ≠ i) : (s.setDfo i x).dfo j = s.dfo j := sget_sset_other _ _ _ _ _ _ h
@[simp] theorem State.slot_setSlot (x : Slot) : (s.setSlot i x).slot i = x := sget_sset_same _ _ _ _
theorem State.slot_setSlot_other (x : Slot) (h : j ≠ i) : (s.setSlot i x).slot j = s.slot j := sget_sset_other _ _ _ _ _ _ h
@[simp] theorem State.fit_setFit (x : HFit) : (s.setFit i x).fit i = x := sget_sset_same _ _ _ _
theorem State.fit_setFit_other (x : HFit) (h : j ≠ i) : (s.setFit i x).fit j = s.fit j := sget_sset_other _ _ _ _ _ _ h
@[simp] theorem State.wq_setWq (x : WinQ) : (s.setWq i x).wq i = x := sget_sset_same _ _ _ _
theorem State.wq_setWq_other (x : WinQ) (h : j ≠ i) : (s.setWq i x).wq j = s.wq j := sget_sset_other _ _ _ _ _ _ h

end

/-- A command whose effect changes nothing answers the state it was given. -/
theorem act_same {on : State → Bool} {f : State → State} {s : State} (h : f s = s) : act on f s = .next s := by
  cases ho : on s
  · exact act_off on f s ho
  · rw [act_on on f s ho, h]

end Sys2Proof.Machine
end

section
/-! Pauses and gate lists (R70, R73): O16. -/
namespace Sys2Proof.Machine
open Sys2Proof

section
variable {s : State} {p e : Nat}

theorem State.pauseExpire_due (hp : (s.mac p).paused = true) (hd : (s.mac p).pauseEndClk ≤ s.tsu.clk) :
    s.pauseExpire p = s.setMac p (s.mac p).resume := by simp [State.pauseExpire, hp, hd]

theorem State.pauseExpire_early (hd : s.tsu.clk < (s.mac p).pauseEndClk) : s.pauseExpire p = s := by
  simp [State.pauseExpire, Nat.not_le.2 hd]

theorem State.pauseWdog_due (hp : (s.mac p).paused = true) (hw : (s.mac p).pauseWait = false)
    (hon : fld (s.ac (pMAC p) R.MAC_PAUSE) 0 16 ≠ 0) (hd : msClk (fld (s.ac (pMAC p) R.MAC_PAUSE) 0 16) < s.since (s.mac p).pauseStartClk) :
    s.pauseWdog p = ((s.setMac p { s.mac p with
      paused := false, holdoff := true
      holdoffEndClk := s.tsu.clk + msClk (fld (s.ac (pMAC p) R.MAC_PAUSE) 16 16) }).bump (pMAC p) R.MAC_CNT_PAUSE_WDOG).irq (pMAC p) 5 := by
  simp [State.pauseWdog, hp, hw, hon, hd, Mac.resume]

theorem State.pauseWdog_not (h : fld (s.ac (pMAC p) R.MAC_PAUSE) 0 16 = 0 ∨ (s.mac p).pauseWait = true ∨
    s.since (s.mac p).pauseStartClk ≤ msClk (fld (s.ac (pMAC p) R.MAC_PAUSE) 0 16)) : s.pauseWdog p = s := by
  obtain h | h | h := h
  · simp [State.pauseWdog, h]
  · simp [State.pauseWdog, h]
  · simp [State.pauseWdog, Nat.not_lt.2 h]

theorem State.pauseHoldoffEnd_due (hh : (s.mac p).holdoff = true) (hd : (s.mac p).holdoffEndClk ≤ s.tsu.clk) :
    s.pauseHoldoffEnd p = s.setMac p { s.mac p with holdoff := false } := by simp [State.pauseHoldoffEnd, hh, hd]

theorem State.gateAdvance_runs (hr : s.running pSWC = true) (ho : (s.eg e).gateOn = true) (hb : (s.eg e).gateBase ≤ s.ns) :
    s.gateAdvance e = if s.gateEntryAt e s.ns = (s.eg e).gateEntry then s
      else s.setEg e { s.eg e with gateEntry := s.gateEntryAt e s.ns } := by
  by_cases h : s.gateEntryAt e s.ns = (s.eg e).gateEntry <;> simp [State.gateAdvance, hr, ho, hb, h]

/-- The start of a gate cycle at which the committed bank becomes the operating one (R73). -/
theorem State.gateSwitch_eq {start : Nat} (hr : s.running pSWC = true) (hc : 0 < (s.ac (pEG e) R.SWC_GATE_CYCLE).toNat)
    (hs : start = s.gateBaseNs e + cdiv ((s.eg e).gateReqNs - s.gateBaseNs e) (s.ac (pEG e) R.SWC_GATE_CYCLE).toNat *
      (s.ac (pEG e) R.SWC_GATE_CYCLE).toNat)
    (hp : (s.eg e).gatePending = true) (hon : bit (s.ac (pEG e) R.SWC_GATE_CTRL) 0 = true) :
    s.gateSwitch e = if start ≤ s.ns then
      (s.setEg e { s.eg e with
        gateBank := bit (s.ac (pEG e) R.SWC_GATE_CTRL) 1, gatePending := false, gateOn := true, gateEntry := 0
        gateBase := s.gateBaseNs e, gateCycle := (s.ac (pEG e) R.SWC_GATE_CYCLE).toNat
        gateLen := fld (s.ac (pEG e) R.SWC_GATE_CTRL) 8 9 }).irq (pEG e) 4
      else s := by
  have hne : (s.ac (pEG e) R.SWC_GATE_CYCLE).toNat ≠ 0 := by omega
  simp only [State.gateSwitch, hr, hp, hon, hne, if_false, ← hs, Bool.true_and, decide_eq_true_eq]

end

/-- Settles O16: each command's effect is decided by its own time, and it touches one row. -/
theorem pausesAndGates : Obligations.PausesAndGates := by
  refine ⟨fun p s hon => ⟨fun hp hd => ?_, fun hd => ?_, fun hp hw hwd hd => ?_, fun h => ?_, fun hh hd => ?_⟩,
    fun e s hon hr => ⟨fun ho hb => ?_, fun c cyc start hc hcyc hpos hs hp hb => ?_⟩⟩
  · obtain ⟨u, hu, hexec⟩ := act_next (f := fun s => s.pauseExpire p) hon
    rw [State.pauseExpire_due hp hd] at hu
    exact ⟨_, hexec, hu ▸ s.mac_setMac p _, fun q hq => hu ▸ s.mac_setMac_other p q _ hq, by rw [hu]; rfl⟩
  · exact (exec_pauseExpiry p s).trans (act_same (State.pauseExpire_early hd))
  · obtain ⟨u, hu, hexec⟩ := act_next (f := fun s => s.pauseWdog p) hon
    rw [State.pauseWdog_due hp hw hwd hd] at hu
    generalize hm : ({ s.mac p with
      paused := false, holdoff := true, holdoffEndClk := s.tsu.clk + msClk (fld (s.ac (pMAC p) R.MAC_PAUSE) 16 16) } : Mac) = m at hu ⊢
    have hq : (s.setMac p m).Quiet [pMAC p] u := by
      rw [hu]; exact (State.Quiet.bump (.refl _ _) (by simp) _ (by decide)).irq (by simp) _
    have hbit : bit (u.hd (pMAC p)).irqStatus 5 = true := by rw [hu]; exact State.bit_irq _ _ (by decide)
    have hcn : u.cn (pMAC p) R.MAC_CNT_PAUSE_WDOG = min (cntMax (pMAC p) R.MAC_CNT_PAUSE_WDOG) (s.cn (pMAC p) R.MAC_CNT_PAUSE_WDOG + 1) := by
      rw [hu, State.cn, State.irq_cnts]; exact State.cn_bump _ _ _
    clear hu
    have hmac (q : Nat) : u.mac q = (s.setMac p m).mac q := by rw [State.mac, hq.macs]; rfl
    have hfrom : { s with macs := u.macs } = s.setMac p m := by rw [hq.macs]; rfl
    have hquiet : ({ s with macs := u.macs } : State).Quiet [pMAC p] { u with pending := s.pending } := hfrom ▸ hq.pend
    exact ⟨_, hexec, (hmac p).trans (s.mac_setMac p m), fun q h => (hmac q).trans (s.mac_setMac_other p q m h), hbit, hcn, hquiet⟩
  · exact (exec_pauseWdog p s).trans (act_same (State.pauseWdog_not h))
  · obtain ⟨u, hu, hexec⟩ := act_next (f := fun s => s.pauseHoldoffEnd p) hon
    rw [State.pauseHoldoffEnd_due hh hd] at hu
    exact ⟨_, hexec, hu ▸ s.mac_setMac p _, fun q hq => hu ▸ s.mac_setMac_other p q _ hq, by rw [hu]; rfl⟩
  · obtain ⟨u, hu, hexec⟩ := act_next (f := fun s => s.gateAdvance e) hon
    rw [State.gateAdvance_runs hr ho hb] at hu
    have heg : u.eg e = { s.eg e with gateEntry := s.gateEntryAt e s.ns } ∧ (∀ r, r ≠ e → u.eg r = s.eg r) ∧
        { u with pending := s.pending } = { s with egs := u.egs } := by
      split at hu
      next heq => exact ⟨by rw [hu, heq], fun r _ => by rw [hu], by rw [hu]⟩
      next => exact ⟨hu ▸ s.eg_setEg e _, fun r hr => hu ▸ s.eg_setEg_other e r _ hr, by rw [hu]; rfl⟩
    exact ⟨_, hexec, heg⟩
  · subst hc hcyc
    have heq := State.gateSwitch_eq hr hpos hs hp hb
    refine ⟨fun hd => ?_, fun hd => ?_⟩
    · obtain ⟨u, hu, hexec⟩ := act_next (f := fun s => s.gateSwitch e) hon
      rw [heq, if_pos hd] at hu
      clear heq
      generalize hx : ({ s.eg e with
        gateBank := bit (s.ac (pEG e) R.SWC_GATE_CTRL) 1, gatePending := false, gateOn := true, gateEntry := 0
        gateBase := s.gateBaseNs e, gateCycle := (s.ac (pEG e) R.SWC_GATE_CYCLE).toNat
        gateLen := fld (s.ac (pEG e) R.SWC_GATE_CTRL) 8 9 } : EgPort) = x at hu ⊢
      have hq : (s.setEg e x).Quiet [pEG e] u := by rw [hu]; exact State.Quiet.irq (.refl _ _) (by simp) _
      have hbit : bit (u.hd (pEG e)).irqStatus 4 = true := by rw [hu]; exact State.bit_irq _ _ (by decide)
      clear hu
      have heg (r : Nat) : u.eg r = (s.setEg e x).eg r := by rw [State.eg, hq.egs]; rfl
      have hfrom : { s with egs := u.egs } = s.setEg e x := by rw [hq.egs]; rfl
      have hquiet : ({ s with egs := u.egs } : State).Quiet [pEG e] { u with pending := s.pending } := hfrom ▸ hq.pend
      exact ⟨_, hexec, (heg e).trans (s.eg_setEg e x), fun r h => (heg r).trans (s.eg_setEg_other e r x h), hbit, hquiet⟩
    · exact (exec_gateBankSwitch e s).trans (act_same (heq.trans (if_neg (Nat.not_le.2 hd))))

end Sys2Proof.Machine
end

section
/-! Links, cages and the frames a port loses (R76, R107, R469): O17. -/
namespace Sys2Proof.Machine
open Sys2Proof

/-! ### What a step changes of the ports and the Landing -/

/-- `s` with the rows of MACs and ports, the Landing and the yard of `t`. -/
def State.portRows (s t : State) : State :=
  { s with macs := t.macs, egs := t.egs, swc := { s.swc with landing := t.swc.landing, yard := t.swc.yard } }

/-- A step that is quiet on `ps` but for rows of MACs and ports, the Landing and the yard. -/
def State.PortQuiet (ps : List Nat) (s t : State) : Prop := (s.portRows t).Quiet ps t

/-- What is quiet stays so when both sides are given the same MACs, ports and Crosscut. -/
theorem State.Quiet.withPorts {ps : List Nat} {s t : State} (h : s.Quiet ps t) (m : List (Nat × Mac)) (e : List (Nat × EgPort)) (w : Swc) :
    ({ s with macs := m, egs := e, swc := w } : State).Quiet ps { t with macs := m, egs := e, swc := w } :=
  ⟨congrArg (fun u : State => { u with macs := m, egs := e, swc := w }) h.rest, h.hd, h.hdIn, h.cn⟩

theorem State.PortQuiet.trans {ps : List Nat} {s t u : State} (h : s.PortQuiet ps t) (h' : t.PortQuiet ps u) : s.PortQuiet ps u := by
  have hswc : { t.swc with landing := u.swc.landing, yard := u.swc.yard } =
      { s.swc with landing := u.swc.landing, yard := u.swc.yard } := by rw [State.Quiet.swc h]; rfl
  have hw := State.Quiet.withPorts h u.macs u.egs { s.swc with landing := u.swc.landing, yard := u.swc.yard }
  refine State.Quiet.trans hw ?_
  have hrows : t.portRows u = { t with macs := u.macs, egs := u.egs, swc := { s.swc with landing := u.swc.landing, yard := u.swc.yard } } := by
    rw [State.portRows, hswc]
  exact hrows ▸ h'

theorem State.PortQuiet.mono {ps qs : List Nat} {s t : State} (h : s.PortQuiet ps t) (hs : ∀ p ∈ ps, p ∈ qs) : s.PortQuiet qs t :=
  State.Quiet.mono h hs

theorem State.Quiet.portQuiet {ps : List Nat} {s t : State} (h : s.Quiet ps t) : s.PortQuiet ps t := by
  have hrows : s.portRows t = s := by rw [State.portRows, h.macs, h.egs, h.swc]
  rw [State.PortQuiet, hrows]
  exact h

theorem State.portQuiet_setMac (ps : List Nat) (s : State) (p : Nat) (m : Mac) : s.PortQuiet ps (s.setMac p m) := .refl _ _

theorem State.portQuiet_setEg (ps : List Nat) (s : State) (p : Nat) (x : EgPort) : s.PortQuiet ps (s.setEg p x) := .refl _ _

theorem State.portQuiet_yard (ps : List Nat) (s : State) (l : List Frame) : s.PortQuiet ps (s.updSwc fun c => { c with yard := l }) := .refl _ _

/-! ### Frames that leave the Landing -/

/-- Frames have been dropped from the Landing and counted on `ps`. -/
structure State.Dropped (ps : List Nat) (s t : State) : Prop where
  macs : t.macs = s.macs
  egs : t.egs = s.egs
  yard : t.swc.yard = s.swc.yard
  quiet : s.PortQuiet ps t

theorem State.Dropped.refl (ps : List Nat) (s : State) : s.Dropped ps s := ⟨rfl, rfl, rfl, (State.Quiet.refl ps s).portQuiet⟩

theorem State.Dropped.trans {ps : List Nat} {s t u : State} (h : s.Dropped ps t) (h' : t.Dropped ps u) : s.Dropped ps u :=
  ⟨h'.macs.trans h.macs, h'.egs.trans h.egs, h'.yard.trans h.yard, h.quiet.trans h'.quiet⟩

theorem State.dropped_lndDrop (ps : List Nat) (s : State) (id : Nat) : s.Dropped ps (s.lndDrop id) := ⟨rfl, rfl, rfl, .refl _ _⟩

theorem State.Quiet.dropped {ps : List Nat} {s t : State} (h : s.Quiet ps t) : s.Dropped ps t :=
  ⟨h.macs, h.egs, congrArg Swc.yard h.swc, h.portQuiet⟩

theorem State.Dropped.foldl {α : Type} {ps : List Nat} {f : State → α → State} {s t : State} (h : s.Dropped ps t) (l : List α)
    (hf : ∀ (s : State) x, x ∈ l → s.Dropped ps (f s x)) : s.Dropped ps (l.foldl f t) := by
  induction l generalizing t with
  | nil => exact h
  | cons x l ih =>
    exact ih (h.trans (hf t x (List.mem_cons_self ..))) fun s y hy => hf s y (List.mem_cons_of_mem _ hy)

theorem State.dropped_lost (s : State) (p q id : Nat) (hq : q < 8) : s.Dropped [pEG p] ((s.lndDrop id).bump (pEG p) (qCnt q 3)) :=
  (s.dropped_lndDrop _ id).trans ((State.Quiet.refl _ _).bump (by simp) _ (by unfold qCnt; omega)).dropped

/-- The queues of a port are emptied over a state that has lost their frames. -/
theorem State.flushQueues_eq (s : State) (p : Nat) :
    ∃ t, s.Dropped [pEG p] t ∧ s.flushQueues p = t.setEg p { s.eg p with q := [[], [], [], [], [], [], [], []] } := by
  refine ⟨_, ?_, rfl⟩
  refine State.Dropped.foldl (.refl _ s) _ fun s q hq => ?_
  exact State.Dropped.foldl (.refl _ s) _ fun s y _ => s.dropped_lost p q y.id (List.mem_range.1 hq)

/-- What a port that is flushed holds afterwards. -/
structure State.Flushed (p : Nat) (s t : State) : Prop where
  macs : t.macs = s.macs
  other : ∀ q, q ≠ p → t.eg q = s.eg q
  queues : (t.eg p).q = [[], [], [], [], [], [], [], []]
  fly : (t.eg p).fly = []
  yard : t.swc.yard = if p = 8 then [] else s.swc.yard
  quiet : s.PortQuiet [pMAC p, pEG p, if p = 8 then pDUP else pMAC p] t

theorem State.flushed_flushPort (s : State) (p : Nat) : s.Flushed p (s.flushPort p) := by
  obtain ⟨t, ht, hflush⟩ := s.flushQueues_eq p
  unfold State.flushPort
  rw [hflush]
  generalize hx : ({ s.eg p with q := [[], [], [], [], [], [], [], []] } : EgPort) = x
  have hfold : (t.setEg p x).Dropped [pEG p] (((t.setEg p x).eg p).fly.foldl (fun s y => s.lndDrop y.id) (t.setEg p x)) :=
    .foldl (.refl _ _) _ fun s y _ => s.dropped_lndDrop _ y.id
  dsimp only
  generalize ((t.setEg p x).eg p).fly.foldl (fun s y => s.lndDrop y.id) (t.setEg p x) = u at hfold ⊢
  have hself : u.eg p = x := by rw [State.eg, hfold.egs]; exact t.eg_setEg p x
  have hother (q : Nat) (hq : q ≠ p) : u.eg q = s.eg q := by
    rw [State.eg, hfold.egs]
    refine (t.eg_setEg_other p q x hq).trans ?_
    rw [State.eg, ht.egs]; rfl
  have hquiet : s.PortQuiet [pMAC p, pEG p, if p = 8 then pDUP else pMAC p] (u.setEg p { u.eg p with fly := [] }) := by
    refine State.PortQuiet.mono (ps := [pEG p]) ?_ (by simp)
    exact ht.quiet.trans ((State.portQuiet_setEg _ _ p x).trans (hfold.quiet.trans (State.portQuiet_setEg _ _ p _)))
  have hmacs : (u.setEg p { u.eg p with fly := [] }).macs = s.macs := hfold.macs.trans ht.macs
  have hyard : (u.setEg p { u.eg p with fly := [] }).swc.yard = s.swc.yard := hfold.yard.trans ht.yard
  have hleft (q : Nat) (hq : q ≠ p) : (u.setEg p { u.eg p with fly := [] }).eg q = s.eg q :=
    (u.eg_setEg_other p q _ hq).trans (hother q hq)
  have hempty : (u.setEg p { u.eg p with fly := [] }).eg p = { x with fly := [] } := by rw [State.eg_setEg, hself]
  generalize u.setEg p { u.eg p with fly := [] } = v at *
  by_cases h8 : p = 8
  · simp only [if_pos h8] at hquiet ⊢
    have hb : (v.updSwc fun c => { c with yard := [] }).Quiet [pMAC p, pEG p, pDUP]
        ((v.updSwc fun c => { c with yard := [] }).bumpBy pDUP R.DUP_CNT_LINK_DROP v.swc.yard.length) :=
      (State.Quiet.refl _ _).bumpBy (by simp) _ _ (by decide)
    refine ⟨hb.macs.trans hmacs, fun q hq => ?_, ?_, ?_, congrArg Swc.yard hb.swc |>.trans (if_pos h8).symm, ?_⟩
    · rw [State.eg, hb.egs]; exact hleft q hq
    · rw [State.eg, hb.egs]; exact (congrArg EgPort.q hempty).trans (hx ▸ rfl)
    · rw [State.eg, hb.egs]; exact congrArg EgPort.fly hempty
    · rw [if_pos h8]; exact hquiet.trans ((State.portQuiet_yard _ v []).trans hb.portQuiet)
  · rw [if_neg h8] at hquiet ⊢
    exact ⟨hmacs, hleft, (congrArg EgPort.q hempty).trans (hx ▸ rfl), congrArg EgPort.fly hempty, hyard.trans (if_neg h8).symm,
      by rw [if_neg h8]; exact hquiet⟩

/-! ### A link that goes down -/

theorem State.linkLost_down {s : State} {p : Nat} (h : (s.mac p).linkUp = false) : s.linkLost p = s := by simp [State.linkLost, h]

theorem State.linkLost_up {s : State} {p : Nat} (h : (s.mac p).linkUp = true) : s.linkLost p =
    (((s.setMac p { (s.mac p).resume with linkUp := false, holdoff := false }).bump (pMAC p) R.MAC_CNT_LINK_DOWN).irq (pMAC p) 4).flushPort p := by
  simp [State.linkLost, h]

/-- What a link that was up leaves when it goes down (R76). -/
theorem State.linkLost_spec {s : State} {p : Nat} (h : (s.mac p).linkUp = true) :
    let t := s.linkLost p
    t.mac p = { s.mac p with linkUp := false, paused := false, pauseWait := false, holdoff := false } ∧
      (∀ q, q ≠ p → t.mac q = s.mac q ∧ t.eg q = s.eg q) ∧ (t.eg p).q = [[], [], [], [], [], [], [], []] ∧ (t.eg p).fly = [] ∧
      t.swc.yard = (if p = 8 then [] else s.swc.yard) ∧ s.PortQuiet [pMAC p, pEG p, if p = 8 then pDUP else pMAC p] t := by
  rw [State.linkLost_up h]
  generalize hm : ({ (s.mac p).resume with linkUp := false, holdoff := false } : Mac) = m
  have hq : (s.setMac p m).Quiet [pMAC p] (((s.setMac p m).bump (pMAC p) R.MAC_CNT_LINK_DOWN).irq (pMAC p) 4) :=
    (State.Quiet.bump (.refl _ _) (by simp) _ (by decide)).irq (by simp) _
  generalize ((s.setMac p m).bump (pMAC p) R.MAC_CNT_LINK_DOWN).irq (pMAC p) 4 = u at hq
  have hf := u.flushed_flushPort p
  generalize u.flushPort p = t at hf
  have hmac (q : Nat) : t.mac q = (s.setMac p m).mac q := by rw [State.mac, hf.macs, hq.macs]; rfl
  have heg (q : Nat) : u.eg q = s.eg q := by rw [State.eg, hq.egs]; rfl
  refine ⟨?_, fun q h => ⟨(hmac q).trans (s.mac_setMac_other p q m h), (hf.other q h).trans (heg q)⟩, hf.queues, hf.fly, ?_, ?_⟩
  · rw [hmac p, s.mac_setMac, ← hm]; rfl
  · rw [hf.yard, hq.swc]; rfl
  · exact (State.portQuiet_setMac _ s p m).trans ((hq.mono (by simp)).portQuiet.trans hf.quiet)

/-- A link is down after a link loss, whether it was up or not. -/
theorem State.linkUp_linkLost (s : State) (p : Nat) : ((s.linkLost p).mac p).linkUp = false := by
  cases h : (s.mac p).linkUp
  · rw [State.linkLost_down h]; exact h
  · rw [(State.linkLost_spec h).1]

theorem State.linkGained_eq {s : State} {p : Nat} (hp : p ≤ 9) (hl : (s.mac p).linkUp = false) (hr : s.macRuns p = true)
    (hs : (s.mac p).supplyOff = false) : s.linkGained p = (s.setMac p { s.mac p with linkUp := true }).irq (pMAC p) 4 := by
  simp [State.linkGained, Nat.not_lt.2 hp, hl, hr, hs]

/-- A cage without its supply holds its link down. -/
theorem State.linkGained_unfed {s : State} {p : Nat} (h : (s.mac p).supplyOff = true) : s.linkGained p = s := by
  simp [State.linkGained, h]

/-- Settles O17: a link's loss is `linkLost_spec`; the other commands write one MAC row. -/
theorem linksAndCages : Obligations.LinksAndCages := by
  refine fun p s hon hp => ⟨fun hl hr hs => ?_, fun hl => ?_, fun h5 => ?_, fun h5 => ?_, ?_⟩
  · obtain ⟨u, hu, hexec⟩ := act_next (f := fun s => s.linkGained p) hon
    rw [State.linkGained_eq hp hl hr hs] at hu
    generalize hm : ({ s.mac p with linkUp := true } : Mac) = m at hu ⊢
    have hq : (s.setMac p m).Quiet [pMAC p] u := by rw [hu]; exact State.Quiet.irq (.refl _ _) (by simp) _
    have hbit : bit (u.hd (pMAC p)).irqStatus 4 = true := by rw [hu]; exact State.bit_irq _ _ (by decide)
    clear hu
    have hmac (q : Nat) : u.mac q = (s.setMac p m).mac q := by rw [State.mac, hq.macs]; rfl
    have hfrom : { s with macs := u.macs } = s.setMac p m := by rw [hq.macs]; rfl
    have hquiet : ({ s with macs := u.macs } : State).Quiet [pMAC p] { u with pending := s.pending } := hfrom ▸ hq.pend
    exact ⟨_, (exec_linkUp p s).trans hexec, (hmac p).trans (s.mac_setMac p m), fun q h => (hmac q).trans (s.mac_setMac_other p q m h),
      hbit, hquiet⟩
  · obtain ⟨u, hu, hexec⟩ := act_next (f := fun s => s.linkLost p) hon
    obtain ⟨hmac, hother, hqueue, hfly, hyard, hquiet⟩ := State.linkLost_spec hl
    simp only [← hu] at hmac hother hqueue hfly hyard hquiet
    clear hu
    have htx : u.canTx p = false := by rw [State.canTx, hmac]; rfl
    exact ⟨_, (exec_linkDown p s).trans hexec, hmac, hother, hqueue, hfly, htx, hyard, State.Quiet.pend hquiet⟩
  · obtain ⟨u, hu, hexec⟩ := act_next (f := fun s => s.cageTrip p) hon
    have hdown := s.linkUp_linkLost p
    rw [State.cageTrip, if_neg (Nat.not_lt.2 h5)] at hu
    generalize s.linkLost p = t at hu hdown
    have hmac : u.mac p = { t.mac p with supplyOff := true, txFault := true } := hu ▸ t.mac_setMac p _
    clear hu
    have hoff : (({ u with pending := s.pending } : State).mac p).supplyOff = true := congrArg Mac.supplyOff hmac
    exact ⟨_, (exec_cageSupplyTrip p s).trans hexec, hoff, congrArg Mac.txFault hmac, (congrArg Mac.linkUp hmac).trans hdown,
      (exec_linkUp p _).trans (act_same (State.linkGained_unfed hoff))⟩
  · obtain ⟨u, hu, hexec⟩ := act_next (f := fun s => s.sfpRefit p) hon
    rw [State.sfpRefit, if_neg (Nat.not_lt.2 h5)] at hu
    exact ⟨_, (exec_sfpRefit p s).trans hexec, hu ▸ s.mac_setMac p _, fun q h => hu ▸ s.mac_setMac_other p q _ h, by rw [hu]; rfl⟩
  · obtain ⟨u, hu, hexec⟩ :=
      actReg_next (p := pMAC p) (f := fun s => s.setMac p { s.mac p with tsf := (s.mac p).tsf.drop 1 }) hon
    have hmac (q : Nat) : (s.touch (pMAC p)).mac q = s.mac q := by rw [State.mac, State.touch_macs]; rfl
    have hself : u.mac p = { s.mac p with tsf := (s.mac p).tsf.drop 1 } := by rw [hu, hmac, State.mac_setMac]
    have hother (q : Nat) (h : q ≠ p) : u.mac q = s.mac q := by rw [hu, State.mac_setMac_other _ _ _ _ h, hmac]
    have hshape : { u with pending := s.pending } = { s with macs := u.macs, hdrs := u.hdrs } := by rw [hu, State.touch_shape]; rfl
    have hhd (q : Nat) (h : q ≠ pMAC p) : u.hd q = s.hd q := by
      rw [hu]; exact s.hd_touch_other _ _ h
    exact ⟨_, (exec_macTsfPop p s).trans hexec, hself, hother, hshape, hhd⟩

end Sys2Proof.Machine
end

section
/-! Station time: phase, latch, step, the sync state and holdover (R97 to R102): O23, O24. -/
namespace Sys2Proof.Machine
open Sys2Proof

/-! ### What a step changes of the time unit -/

/-- A step that is quiet on the TSU page but for registers and the time unit. -/
def State.TsuQuiet (s t : State) : Prop := ({ s with regs := t.regs, tsu := t.tsu } : State).Quiet [pTSU] t

theorem State.Quiet.withTsu {ps : List Nat} {s t : State} (h : s.Quiet ps t) (r : List (Nat × Word)) (u : Tsu) :
    ({ s with regs := r, tsu := u } : State).Quiet ps { t with regs := r, tsu := u } :=
  ⟨congrArg (fun x : State => { x with regs := r, tsu := u }) h.rest, h.hd, h.hdIn, h.cn⟩

section
variable {s t : State}

theorem State.TsuQuiet.refl (s : State) : s.TsuQuiet s := State.Quiet.refl _ _

theorem State.TsuQuiet.then (h : s.TsuQuiet t) {u : State} (hu : t.Quiet [pTSU] u) : s.TsuQuiet u := by
  rw [State.TsuQuiet, hu.regs, hu.tsu]
  exact State.Quiet.trans h hu

theorem State.TsuQuiet.irq (h : s.TsuQuiet t) (i : Nat) : s.TsuQuiet (t.irq pTSU i) := h.then ((State.Quiet.refl _ _).irq (by simp) i)

theorem State.TsuQuiet.bump (h : s.TsuQuiet t) {o : Nat} (ho : o < 4096) : s.TsuQuiet (t.bump pTSU o) :=
  h.then ((State.Quiet.refl _ _).bump (by simp) o ho)

theorem State.TsuQuiet.bumpBy (h : s.TsuQuiet t) {o : Nat} (ho : o < 4096) (n : Nat) : s.TsuQuiet (t.bumpBy pTSU o n) :=
  h.then ((State.Quiet.refl _ _).bumpBy (by simp) o n ho)

theorem State.TsuQuiet.setRg (h : s.TsuQuiet t) (p o : Nat) (v : Word) : s.TsuQuiet (t.setRg p o v) := State.Quiet.withTsu h _ _

theorem State.TsuQuiet.updTsu (h : s.TsuQuiet t) (f : Tsu → Tsu) : s.TsuQuiet (t.updTsu f) := State.Quiet.withTsu h _ _

theorem State.TsuQuiet.pend (h : s.TsuQuiet t) : s.TsuQuiet { t with pending := s.pending } := State.Quiet.pend h

/-- What starts with a touch of the page. -/
theorem State.TsuQuiet.of_touch (h : (s.touch pTSU).TsuQuiet t) : s.TsuQuiet t :=
  ((State.Quiet.refl [pTSU] s).touch (by simp)).withTsu t.regs t.tsu |>.trans h

end

/-! ### Phase (R97, R100) -/

theorem State.adjPhase_eq (s : State) (v : Word) : s.adjPhase v =
    if s.inHold then s.refuse pTSU R.TSU_ADJ_PHASE 0x40
    else if v.toInt < -1000000 ∨ 1000000 < v.toInt then s.refuse pTSU R.TSU_ADJ_PHASE Err.range
    else (s.setRg pTSU R.TSU_ADJ_PHASE v).updTsu fun t => { t with slewing := v != 0, slewLeft := v.toInt * 10 ^ 12 } := by
  simp [State.adjPhase]

theorem adjustPhase (v : Word) (s : State) (hon : s.onTime = true) :
    (s.inHold = false → -1000000 ≤ v.toInt → v.toInt ≤ 1000000 →
      ∃ t, exec (.tsuAdjPhase v) s = .next t ∧ t.rg pTSU R.TSU_ADJ_PHASE = v ∧
        t.tsu = { s.tsu with slewing := v != 0, slewLeft := v.toInt * 10 ^ 12 } ∧ t = { s with regs := t.regs, hdrs := t.hdrs, tsu := t.tsu }) ∧
    (s.inHold = false → v.toInt < -1000000 ∨ 1000000 < v.toInt →
      ∃ t, exec (.tsuAdjPhase v) s = .next t ∧ (t.hd pTSU).errCode = w32 (R.TSU_ADJ_PHASE * 256 + Err.range) ∧ s.Quiet [pTSU] t) ∧
    (s.inHold = true →
      ∃ t, exec (.tsuAdjPhase v) s = .next t ∧ (t.hd pTSU).errCode = w32 (R.TSU_ADJ_PHASE * 256 + 0x40) ∧ s.Quiet [pTSU] t) := by
  obtain ⟨u, hu, hexec⟩ := actReg_next (p := pTSU) (f := fun s => s.adjPhase v) hon
  rw [State.adjPhase_eq, s.inHold_touch] at hu
  refine ⟨fun hh lo hi => ?_, fun hh hout => ?_, fun hh => ?_⟩
  · rw [hh, if_neg Bool.false_ne_true, if_neg (by omega)] at hu
    have hrg : u.rg pTSU R.TSU_ADJ_PHASE = v := hu ▸ State.rg_setRg _ _ _ _
    have htsu : u.tsu = { s.tsu with slewing := v != 0, slewLeft := v.toInt * 10 ^ 12 } := by
      rw [hu]; exact congrArg (fun t : Tsu => { t with slewing := v != 0, slewLeft := v.toInt * 10 ^ 12 }) (s.touch_tsu pTSU)
    have hshape : { u with pending := s.pending } = { s with regs := u.regs, hdrs := u.hdrs, tsu := u.tsu } := by
      rw [hu, State.touch_shape]; rfl
    exact ⟨_, (exec_tsuAdjPhase v s).trans hexec, hrg, htsu, hshape⟩
  · rw [hh, if_neg Bool.false_ne_true, if_pos hout] at hu
    exact ⟨_, (exec_tsuAdjPhase v s).trans hexec, (s.refuse_touch_pTSU _ _ _ (by rw [hu])).2⟩
  · rw [hh, if_pos rfl] at hu
    exact ⟨_, (exec_tsuAdjPhase v s).trans hexec, (s.refuse_touch_pTSU _ _ _ (by rw [hu])).2⟩

/-- TSU_ADJ_RATE in holdover (R100). -/
theorem adjustRate_held (v : Word) (s : State) (hon : s.onTime = true) (hh : s.inHold = true) :
    ∃ t, exec (.tsuAdjRate v) s = .next t ∧ (t.hd pTSU).errCode = w32 (R.TSU_ADJ_RATE * 256 + 0x40) ∧ s.Quiet [pTSU] t := by
  obtain ⟨u, hu, hexec⟩ := actReg_next (p := pTSU) (f := fun s => s.adjRate v) hon
  rw [State.adjRate, if_pos ((s.inHold_touch _).trans hh)] at hu
  exact ⟨_, (exec_tsuAdjRate v s).trans hexec, (s.refuse_touch_pTSU _ _ _ (by rw [hu])).2⟩

/-! ### LATCH (R98) -/

/-- The words LATCH writes, in the order of their registers. -/
theorem State.tsuLatch_eq (s : State) : s.tsuLatch =
    ((((s.setRg pTSU R.TSU_LAT_SEC (w32 (secOf s.ns % 2 ^ 48))).setRg pTSU (R.TSU_LAT_SEC + 4) (w32 (secOf s.ns % 2 ^ 48 / 2 ^ 32))).setRg
      pTSU R.TSU_LAT_NS (w32 (nsOf s.ns))).setRg pTSU R.TSU_LAT_SHORT (w32 (shortOf s.ns))).setRg
      pTSU R.TSU_LAT_TICK (tagOf s.tsu.lastTick) := rfl

/-- Only registers differ. -/
def State.RegsOnly (s t : State) : Prop := t = { s with regs := t.regs }

theorem State.RegsOnly.setRg {s t : State} (h : s.RegsOnly t) (p o : Nat) (v : Word) : s.RegsOnly (t.setRg p o v) := by
  have hset := congrArg (fun u : State => { u with regs := (t.setRg p o v).regs }) (show t = { s with regs := t.regs } from h)
  exact hset

theorem State.RegsOnly.refl (s : State) : s.RegsOnly s := rfl

theorem State.tsuLatch_spec {s t : State} (ht : t = s.tsuLatch) :
    t.rg64 pTSU R.TSU_LAT_SEC = secOf s.ns % 2 ^ 48 ∧ t.rg pTSU R.TSU_LAT_NS = w32 (nsOf s.ns) ∧
      t.rg pTSU R.TSU_LAT_SHORT = w32 (shortOf s.ns) ∧ t.rg pTSU R.TSU_LAT_TICK = tagOf s.tsu.lastTick ∧ s.RegsOnly t := by
  rw [State.tsuLatch_eq] at ht
  generalize hsec : secOf s.ns % 2 ^ 48 = sec at ht ⊢
  generalize w32 (nsOf s.ns) = ns at ht ⊢
  generalize w32 (shortOf s.ns) = short at ht ⊢
  generalize tagOf s.tsu.lastTick = tag at ht ⊢
  rw [ht]
  refine ⟨?_, ?_, ?_, State.rg_setRg _ _ _ _, (((((State.RegsOnly.refl s).setRg _ _ _).setRg _ _ _).setRg _ _ _).setRg _ _ _).setRg _ _ _⟩
  · rw [State.rg64, State.rg_setRg_other _ _ _ _ _ _ (by decide), State.rg_setRg_other _ _ _ _ _ _ (by decide),
      State.rg_setRg_other _ _ _ _ _ _ (by decide), State.rg_setRg_other _ _ _ _ _ _ (by decide), State.rg_setRg,
      State.rg_setRg_other _ _ _ _ _ _ (by decide), State.rg_setRg_other _ _ _ _ _ _ (by decide),
      State.rg_setRg_other _ _ _ _ _ _ (by decide), State.rg_setRg]
    simp only [w32, BitVec.toNat_ofNat]
    omega
  · rw [State.rg_setRg_other _ _ _ _ _ _ (by decide), State.rg_setRg_other _ _ _ _ _ _ (by decide), State.rg_setRg]
  · rw [State.rg_setRg_other _ _ _ _ _ _ (by decide), State.rg_setRg]

/-! ### STEP (R98, R100) -/

/-- The tick number a step to `new` ns leaves as the next. -/
def State.stepTick (s : State) (new : Nat) : Nat :=
  if s.ns ≤ new then max (s.tsu.lastTick + 1) (tickAtOrAfter new) else s.tsu.lastTick + 1

/-- The time unit after a step to `new` ns, before its outputs are looked at again. -/
def State.steppedTsu (s : State) (new : Nat) : Tsu :=
  { s.tsu with
    now := new * 10 ^ 12, slewing := false, slewLeft := 0, nextTick := s.stepTick new, stepNs := new, stepTick := s.tsu.lastTick
    backSteps := if s.ns ≤ new then s.tsu.backSteps else s.tsu.backSteps + 1 }

/-- Looking at the outputs again after a step changes the outputs alone. -/
theorem State.iter_toStepped (s : State) (d : Int) (n : Nat) :
    iter n (fun n s => s.toStepped n d) s =
      { s with tsu := { s.tsu with outs := (iter n (fun n s => s.toStepped n d) s).tsu.outs } } := by
  induction n with
  | zero => rfl
  | succ n ih =>
    rw [iter, List.range_succ, List.foldl_append, List.foldl_cons, List.foldl_nil, ← iter]
    generalize iter n (fun n s => s.toStepped n d) s = t at ih ⊢
    have hone : t.toStepped n d = { t with tsu := { t.tsu with outs := (t.toStepped n d).tsu.outs } } := rfl
    rw [hone]
    generalize (t.toStepped n d).tsu.outs = o
    rw [ih]

/-- The step itself, its interrupt and its count, before the tick gap is looked at. -/
def State.stepBase (s : State) (new : Nat) : State := ((s.updTsu fun _ => s.steppedTsu new).bump pTSU R.TSU_CNT_STEP).irq pTSU 5

/-- A step forward shows the ticks it passes over. -/
def State.stepGap (s : State) (gap : Nat) : State :=
  let u := s.setRg pTSU R.TSU_TICK_GAP (w32 gap)
  if gap = 0 then u else (u.bumpBy pTSU R.TSU_CNT_TICK_GAP gap).irq pTSU 12

theorem State.tsuStep_eq (s : State) {new : Nat} (hh : s.inHold = false)
    (hn : (s.rg64 pTSU R.TSU_SET_SEC % 2 ^ 48) * 1000000000 + fld (s.rg pTSU R.TSU_SET_NS) 0 30 = new) :
    s.tsuStep = iter 4 (fun n s' => s'.toStepped n ((new : Int) - s.ns))
      (if s.ns ≤ new then (s.stepBase new).stepGap (s.stepTick new - (s.tsu.lastTick + 1)) else s.stepBase new) := by
  unfold State.tsuStep
  rw [hh, hn, if_neg Bool.false_ne_true]
  by_cases hf : s.ns ≤ new
  · simp only [hf, decide_true, if_true, Bool.true_and, State.stepGap, State.stepBase, State.steppedTsu, State.stepTick]
    generalize max (s.tsu.lastTick + 1) (tickAtOrAfter new) = nxt
    by_cases hg : nxt - (s.tsu.lastTick + 1) = 0
    · simp only [hg, bne_self_eq_false, Bool.false_eq_true, if_false, if_true]
      rfl
    · simp only [bne_iff_ne.2 hg, hg, if_true, if_false]
      rfl
  · simp only [hf, decide_false, if_false, Bool.false_and, Bool.false_eq_true, State.stepBase, State.steppedTsu, State.stepTick]
    rfl

/-- What holds of the time unit and its page once a step has been counted. -/
structure State.Stepped (new : Nat) (s t : State) : Prop where
  tsu : t.tsu = s.steppedTsu new
  cnt : t.cn pTSU R.TSU_CNT_STEP = min (cntMax pTSU R.TSU_CNT_STEP) (s.cn pTSU R.TSU_CNT_STEP + 1)
  bit5 : bit (t.hd pTSU).irqStatus 5 = true
  rg : ∀ p off, ka p off ≠ ka pTSU R.TSU_TICK_GAP → t.rg p off = s.rg p off
  quiet : s.TsuQuiet t

theorem State.stepped_stepBase (s : State) (new : Nat) : s.Stepped new (s.stepBase new) := by
  have hq : s.TsuQuiet (s.updTsu fun _ => s.steppedTsu new) := (State.TsuQuiet.refl s).updTsu _
  unfold State.stepBase
  generalize hu : s.updTsu (fun _ => s.steppedTsu new) = u at hq
  refine ⟨?_, ?_, State.bit_irq _ _ (by decide), fun p off _ => ?_, (hq.bump (by decide)).irq _⟩
  · rw [State.irq_tsu, State.bump_tsu, ← hu]; rfl
  · rw [State.cn, State.irq_cnts]
    refine (u.cn_bump _ _).trans ?_
    rw [← hu]; rfl
  · rw [State.rg, State.irq_regs, State.bump_regs, ← hu]; rfl

theorem State.Stepped.stepGap {new : Nat} {s t : State} (h : s.Stepped new t) (gap : Nat) : s.Stepped new (t.stepGap gap) := by
  have hset : s.Stepped new (t.setRg pTSU R.TSU_TICK_GAP (w32 gap)) :=
    ⟨h.tsu, h.cnt, h.bit5, fun p off hne => (t.rg_setRg_other _ _ p off _ hne).trans (h.rg p off hne), h.quiet.setRg _ _ _⟩
  unfold State.stepGap
  dsimp only
  generalize t.setRg pTSU R.TSU_TICK_GAP (w32 gap) = u at hset
  split
  · exact hset
  · refine ⟨?_, ?_, State.bit_irq_of_bit (State.bit_bumpBy_of_bit hset.bit5), fun p off hne => ?_, (hset.quiet.bumpBy (by decide) _).irq _⟩
    · rw [State.irq_tsu, State.bumpBy_tsu]; exact hset.tsu
    · rw [State.cn, State.irq_cnts]
      exact (u.cn_bumpBy_other _ _ _ _ _ (by decide)).trans hset.cnt
    · rw [State.rg, State.irq_regs, State.bumpBy_regs]; exact hset.rg p off hne

theorem State.tsuStep_spec (s : State) {new : Nat} (hh : s.inHold = false)
    (hn : (s.rg64 pTSU R.TSU_SET_SEC % 2 ^ 48) * 1000000000 + fld (s.rg pTSU R.TSU_SET_NS) 0 30 = new) :
    ∃ u o, s.Stepped new u ∧ s.tsuStep = { u with tsu := { s.steppedTsu new with outs := o } } := by
  rw [s.tsuStep_eq hh hn]
  have hu : s.Stepped new
      (if s.ns ≤ new then (s.stepBase new).stepGap (s.stepTick new - (s.tsu.lastTick + 1)) else s.stepBase new) := by
    split
    · exact (s.stepped_stepBase new).stepGap _
    · exact s.stepped_stepBase new
  generalize (if s.ns ≤ new then (s.stepBase new).stepGap (s.stepTick new - (s.tsu.lastTick + 1)) else s.stepBase new) = u at hu
  exact ⟨u, _, hu, (u.iter_toStepped _ 4).trans (by rw [hu.tsu])⟩

theorem lt_stepTick (s : State) (new : Nat) : s.tsu.lastTick < s.stepTick new := by
  unfold State.stepTick
  split <;> omega

/-- Settles O23: `adjustPhase`, and the words and unit that LATCH and STEP leave. -/
theorem phaseLatchAndStep : Obligations.PhaseLatchAndStep := by
  refine ⟨fun v s hon => ?_, fun s hon => ⟨?_, fun hl hh => ?_, fun hl => ?_, fun hl hh => ?_⟩⟩
  · obtain ⟨hgood, hrange, hheld⟩ := adjustPhase v s hon
    refine ⟨hgood, hrange, fun hh => ⟨hheld hh, adjustRate_held v s hon hh⟩, fun hs h0 => ?_, fun h0 => ?_⟩
    · rw [exec_slewDone, act_on _ _ _ hon]; simp [hs, h0, State.updTsu]
    · rw [exec_slewDone]; exact act_same (by simp [h0])
  · obtain ⟨u, hu, hexec⟩ := actReg_next (p := pTSU) (f := State.tsuLatch) hon
    have htsu : (s.touch pTSU).tsu = s.tsu := s.touch_tsu pTSU
    have hns : (s.touch pTSU).ns = s.ns := by rw [State.ns, htsu]; rfl
    obtain ⟨hsec, hlow, hshort, htag, hregs⟩ := State.tsuLatch_spec hu
    rw [hns] at hsec hlow hshort
    rw [htsu] at htag
    clear hu
    have hshape : { u with pending := s.pending } = { s with regs := u.regs, hdrs := u.hdrs } := by
      rw [State.RegsOnly, s.touch_shape] at hregs
      rw [hregs]
    exact ⟨_, (exec_latch s).trans hexec, hsec, hlow, hshort, htag, hshape⟩
  · obtain ⟨u, hu, hexec⟩ := actReg_next (p := pTSU)
      (f := fun s => if (s.hd pTSU).unlocked then s.tsuStep else s.refuse pTSU R.TSU_CMD Err.locked) hon
    rw [State.unlocked_touch, if_pos hl] at hu
    have htsu : (s.touch pTSU).tsu = s.tsu := s.touch_tsu pTSU
    have hregs (p o : Nat) : (s.touch pTSU).rg p o = s.rg p o := by rw [State.rg, State.touch_regs]; rfl
    have hcn (p o : Nat) : (s.touch pTSU).cn p o = s.cn p o := by rw [State.cn, State.touch_cnts]; rfl
    obtain ⟨new, hnew⟩ : ∃ n, n = (s.rg64 pTSU R.TSU_SET_SEC % 2 ^ 48) * 1000000000 + fld (s.rg pTSU R.TSU_SET_NS) 0 30 := ⟨_, rfl⟩
    obtain ⟨w, o, hw, heq⟩ := (s.touch pTSU).tsuStep_spec (new := new) ((s.inHold_touch _).trans hh)
      (by rw [State.rg64, hregs, hregs, hregs, ← State.rg64, hnew])
    have hstepped : (s.touch pTSU).steppedTsu new = s.steppedTsu new := by
      have hns : (s.touch pTSU).ns = s.ns := by rw [State.ns, htsu]; rfl
      unfold State.steppedTsu State.stepTick
      rw [htsu, hns]
    rw [hstepped] at heq
    rw [← hnew]
    have hu' : u.tsu = { s.steppedTsu new with outs := o } := by rw [hu, heq]
    have hcnt : u.cn pTSU R.TSU_CNT_STEP = min (cntMax pTSU R.TSU_CNT_STEP) (s.cn pTSU R.TSU_CNT_STEP + 1) := by
      rw [hu, heq, ← hcn]; exact hw.cnt
    have hbit : bit (u.hd pTSU).irqStatus 5 = true := by rw [hu, heq]; exact hw.bit5
    have hrg (p off : Nat) (hne : ka p off ≠ ka pTSU R.TSU_TICK_GAP) : u.rg p off = s.rg p off := by
      rw [hu, heq]; exact (hw.rg p off hne).trans (hregs p off)
    have hquiet : s.TsuQuiet u := by rw [hu, heq]; exact (hw.quiet.updTsu fun _ => { s.steppedTsu new with outs := o }).of_touch
    clear hu heq hw
    have hns : u.ns = new := by
      rw [State.ns, hu']
      exact Nat.mul_div_cancel _ (by decide)
    have hlt : s.tsu.lastTick < u.tsu.nextTick := by rw [hu']; exact lt_stepTick s new
    have hsame {α : Type} (f : Tsu → α) (hf : f { s.steppedTsu new with outs := o } = f s.tsu) : f u.tsu = f s.tsu := by rw [hu', hf]
    have hslew : u.tsu.slewing = false ∧ u.tsu.slewLeft = 0 := by rw [hu']; exact ⟨rfl, rfl⟩
    exact ⟨_, (exec_step s).trans hexec, hns, hslew.1, hslew.2, hsame Tsu.lastTick rfl, hlt, hsame Tsu.clk rfl, hsame Tsu.rate rfl,
      hsame Tsu.sync rfl, hsame Tsu.ins rfl, hcnt, hbit, hrg, hquiet.pend⟩
  · obtain ⟨u, hu, hexec⟩ := actReg_next (p := pTSU)
      (f := fun s => if (s.hd pTSU).unlocked then s.tsuStep else s.refuse pTSU R.TSU_CMD Err.locked) hon
    rw [State.unlocked_touch, hl, if_neg Bool.false_ne_true] at hu
    exact ⟨_, (exec_step s).trans hexec, (s.refuse_touch_pTSU _ _ _ (by rw [hu])).2⟩
  · obtain ⟨u, hu, hexec⟩ := actReg_next (p := pTSU)
      (f := fun s => if (s.hd pTSU).unlocked then s.tsuStep else s.refuse pTSU R.TSU_CMD Err.locked) hon
    rw [State.unlocked_touch, if_pos hl, State.tsuStep, if_pos ((s.inHold_touch _).trans hh)] at hu
    exact ⟨_, (exec_step s).trans hexec, (s.refuse_touch_pTSU _ _ _ (by rw [hu])).2⟩

end Sys2Proof.Machine
end

section
/-! The sync state and the estimate of holdover (R99 to R102): O24. -/
namespace Sys2Proof.Machine
open Sys2Proof

/-! ### Entering and leaving the states -/

/-- LOCKED and RELEASE: the state, the word TSU_HOLD_EST shows and the interrupt; the time and the rate stay. -/
structure State.Resynced (y : Sync) (est : Word) (s t : State) : Prop where
  sync : t.tsu.sync = y
  now : t.tsu.now = s.tsu.now
  rate : t.tsu.rate = s.tsu.rate
  est : t.rg pTSU R.TSU_HOLD_EST = est
  bit4 : bit (t.hd pTSU).irqStatus 4 = true
  quiet : s.TsuQuiet t

theorem State.resynced_of_irq {s : State} (y : Sync) (f : Tsu → Tsu) (w : Word) (hs : ∀ t, (f t).sync = t.sync) (hn : ∀ t, (f t).now = t.now)
    (hr : ∀ t, (f t).rate = t.rate) :
    s.Resynced y w (((((s.updTsu fun t => { t with sync := y }).irq pTSU 4).updTsu f).setRg pTSU R.TSU_HOLD_EST w)) := by
  have hq := ((State.TsuQuiet.refl s).updTsu fun t => { t with sync := y }).irq 4
  have hbit : bit (((s.updTsu fun t => { t with sync := y }).irq pTSU 4).hd pTSU).irqStatus 4 = true := State.bit_irq _ _ (by decide)
  have htsu : ((s.updTsu fun t => { t with sync := y }).irq pTSU 4).tsu = { s.tsu with sync := y } := State.irq_tsu _ _ _
  generalize (s.updTsu fun t => { t with sync := y }).irq pTSU 4 = u at hq hbit htsu
  have hfin : ((u.updTsu f).setRg pTSU R.TSU_HOLD_EST w).tsu = f { s.tsu with sync := y } := congrArg f htsu
  refine ⟨?_, ?_, ?_, State.rg_setRg _ _ _ _, hbit, (hq.updTsu f).setRg _ _ _⟩
  · rw [hfin, hs]
  · rw [hfin, hn]
  · rw [hfin, hr]

theorem State.resynced_locked (s : State) : s.Resynced .locked 0 (s.setSync .locked) :=
  State.resynced_of_irq _ _ _ (fun _ => rfl) (fun _ => rfl) fun _ => rfl

theorem State.resynced_unlocked (s : State) : s.Resynced .unlocked 0xFFFFFFFF (s.setSync .unlocked) :=
  State.resynced_of_irq _ _ _ (fun _ => rfl) (fun _ => rfl) fun _ => rfl

/-- Entry to holdover (R99, R100). -/
structure State.HoldEntered (wdog : Bool) (s t : State) : Prop where
  sync : t.tsu.sync = .holdover
  entry : t.tsu.wdogEntry = wdog
  rate : t.tsu.rate = s.tsu.meanRate
  held : t.rg pTSU R.TSU_RATE_HELD = wS s.tsu.meanRate
  elapsed : t.rg pTSU R.TSU_HOLD_ELAPSED = 0
  slew : t.tsu.slewLeft = 0
  now : t.tsu.now = s.tsu.now
  cnt : t.cn pTSU R.TSU_CNT_HOLDOVER = min (cntMax pTSU R.TSU_CNT_HOLDOVER) (s.cn pTSU R.TSU_CNT_HOLDOVER + 1)
  wdogs : t.cn pTSU R.TSU_CNT_DISC_WDOG = s.cn pTSU R.TSU_CNT_DISC_WDOG
  bit4 : bit (t.hd pTSU).irqStatus 4 = true
  quiet : s.TsuQuiet t

/-- The unit at the entry to holdover: the rate frozen at `r`, the slew discarded, the watchdog's mark and the clock of the entry. -/
def Tsu.hold (t : Tsu) (r : Int) (wdog : Bool) : Tsu :=
  { t.setRate r with slewing := false, slewLeft := 0, wdogEntry := wdog, holdClk := t.clk }

/-- The registers at the entry to holdover. -/
def State.holdRegs (s : State) (wdog : Bool) : State :=
  let u := (((s.updTsu fun t => t.hold s.tsu.meanRate wdog).setRg pTSU R.TSU_RATE_HELD (wS s.tsu.meanRate)).setRg pTSU R.TSU_HOLD_ELAPSED 0)
  u.setRg pTSU R.TSU_HOLD_EST (u.rg pTSU R.TSU_HOLD_BASE)

/-- The entry to holdover before the watchdog's own count. -/
def State.holdBase (s : State) (wdog : Bool) : State :=
  (((s.holdRegs wdog).bump pTSU R.TSU_CNT_HOLDOVER).updTsu fun t => { t with sync := .holdover }).irq pTSU 4

theorem State.enterHold_eq (s : State) (wdog : Bool) : s.enterHold wdog =
    if wdog then ((s.holdBase wdog).bump pTSU R.TSU_CNT_DISC_WDOG).irq pTSU 11 else s.holdBase wdog := by
  simp only [State.enterHold, State.holdBase, State.holdRegs, Tsu.hold]

theorem State.holdEntered_holdBase (s : State) (wdog : Bool) : s.HoldEntered wdog (s.holdBase wdog) := by
  have hq : s.TsuQuiet (s.holdRegs wdog) :=
    ((((State.TsuQuiet.refl s).updTsu fun t => t.hold s.tsu.meanRate wdog).setRg _ _ _).setRg _ _ _).setRg _ _ _
  have htsu : (s.holdRegs wdog).tsu = s.tsu.hold s.tsu.meanRate wdog := rfl
  have hcn (o : Nat) : (s.holdRegs wdog).cn pTSU o = s.cn pTSU o := rfl
  have hheld : (s.holdRegs wdog).rg pTSU R.TSU_RATE_HELD = wS s.tsu.meanRate := by
    unfold State.holdRegs
    rw [State.rg_setRg_other _ _ _ _ _ _ (by decide), State.rg_setRg_other _ _ _ _ _ _ (by decide), State.rg_setRg]
  have helapsed : (s.holdRegs wdog).rg pTSU R.TSU_HOLD_ELAPSED = 0 := by
    unfold State.holdRegs
    rw [State.rg_setRg_other _ _ _ _ _ _ (by decide), State.rg_setRg]
  unfold State.holdBase
  generalize s.holdRegs wdog = u at hq htsu hcn hheld helapsed
  have hfin : (((u.bump pTSU R.TSU_CNT_HOLDOVER).updTsu fun t => { t with sync := .holdover }).irq pTSU 4).tsu =
      { s.tsu.hold s.tsu.meanRate wdog with sync := .holdover } := by
    rw [State.irq_tsu]
    exact congrArg (fun t : Tsu => { t with sync := Sync.holdover }) ((u.bump_tsu _ _).trans htsu)
  have hrg (o : Nat) : (((u.bump pTSU R.TSU_CNT_HOLDOVER).updTsu fun t => { t with sync := .holdover }).irq pTSU 4).rg pTSU o = u.rg pTSU o := by
    rw [State.rg, State.irq_regs, State.updTsu_regs, State.bump_regs]; rfl
  have hcnt (o : Nat) : (((u.bump pTSU R.TSU_CNT_HOLDOVER).updTsu fun t => { t with sync := .holdover }).irq pTSU 4).cn pTSU o =
      (u.bump pTSU R.TSU_CNT_HOLDOVER).cn pTSU o := by
    rw [State.cn, State.irq_cnts, State.updTsu_cnts]; rfl
  refine ⟨congrArg Tsu.sync hfin, congrArg Tsu.wdogEntry hfin, congrArg Tsu.rate hfin, (hrg _).trans hheld, (hrg _).trans helapsed,
    congrArg Tsu.slewLeft hfin, by rw [hfin]; rfl, ?_, ?_, State.bit_irq _ _ (by decide),
    ((hq.bump (by decide)).updTsu _).irq _⟩
  · rw [hcnt, u.cn_bump, hcn]
  · rw [hcnt, u.cn_bump_other _ _ _ _ (by decide), hcn]

theorem State.holdEntered_wdog {s t : State} (h : s.HoldEntered true t) :
    let u := (t.bump pTSU R.TSU_CNT_DISC_WDOG).irq pTSU 11
    u.tsu = t.tsu ∧ u.cn pTSU R.TSU_CNT_DISC_WDOG = min (cntMax pTSU R.TSU_CNT_DISC_WDOG) (s.cn pTSU R.TSU_CNT_DISC_WDOG + 1) ∧
      bit (u.hd pTSU).irqStatus 11 = true ∧ s.TsuQuiet u := by
  refine ⟨(State.irq_tsu _ _ _).trans (State.bump_tsu _ _ _), ?_, State.bit_irq _ _ (by decide), (h.quiet.bump (by decide)).irq _⟩
  rw [State.cn, State.irq_cnts]
  exact (t.cn_bump _ _).trans (by rw [h.wdogs])

/-! ### The estimate (R101) -/

/-- The registers of the time base read as the module's ordering code gives them (R102). -/
theorem regWord_hold (s : State) : s.regWord pTSU R.TSU_HOLD_RATE = w32 s.holdRate ∧ s.regWord pTSU R.TSU_HOLD_TEMPCO = w32 s.holdTempco :=
  ⟨rfl, rfl⟩

theorem toNat_regWord_hold (s : State) :
    (s.regWord pTSU R.TSU_HOLD_RATE).toNat = s.holdRate ∧ (s.regWord pTSU R.TSU_HOLD_TEMPCO).toNat = s.holdTempco := by
  rw [(regWord_hold s).1, (regWord_hold s).2, State.holdRate, State.holdTempco]
  constructor <;> split <;> rfl

/-- The registers after an update, and the state where the estimate has passed its limit. -/
theorem State.holdUpdate_eq (s : State) (dT : Int) {n est : Nat} (hn : n = (s.rg pTSU R.TSU_HOLD_ELAPSED).toNat + 1)
    (he : est = min 0xFFFFFFFF ((s.rg pTSU R.TSU_HOLD_BASE).toNat + cdiv ((s.holdRate + s.holdTempco * dT.natAbs) * n) 100))
    (hh : s.inHold = true) :
    s.holdUpdate dT =
      if n * 250000000 ≤ s.since s.tsu.holdClk then
        let u := (s.setRg pTSU R.TSU_HOLD_ELAPSED (w32 n)).setRg pTSU R.TSU_HOLD_EST (w32 est)
        if s.tsu.sync = .holdover ∧ fld (s.ac pTSU R.TSU_HOLD_LIMIT) 0 20 < est then
          ((u.updTsu fun t => { t with sync := .holdExceeded }).irq pTSU 4).irq pTSU 6
        else u
      else s := by
  subst hn he
  unfold State.holdUpdate
  by_cases hd : ((s.rg pTSU R.TSU_HOLD_ELAPSED).toNat + 1) * 250000000 ≤ s.since s.tsu.holdClk
  · simp only [hh, hd, decide_true, Bool.and_self, if_true, Bool.and_eq_true, beq_iff_eq, decide_eq_true_eq]
    rfl
  · simp only [hd, decide_false, Bool.and_false, Bool.false_eq_true, if_false]

/-- What an update of the estimate leaves. -/
theorem State.holdUpdate_spec (s : State) (dT : Int) {n est : Nat} (hn : n = (s.rg pTSU R.TSU_HOLD_ELAPSED).toNat + 1)
    (he : est = min 0xFFFFFFFF ((s.rg pTSU R.TSU_HOLD_BASE).toNat + cdiv ((s.holdRate + s.holdTempco * dT.natAbs) * n) 100))
    (hh : s.inHold = true) (hd : n * 250000000 ≤ s.since s.tsu.holdClk) {t : State} (ht : t = s.holdUpdate dT) :
    t.rg pTSU R.TSU_HOLD_ELAPSED = w32 n ∧ t.rg pTSU R.TSU_HOLD_EST = w32 est ∧
      t.tsu = { s.tsu with
        sync := if s.tsu.sync = .holdover ∧ fld (s.ac pTSU R.TSU_HOLD_LIMIT) 0 20 < est then .holdExceeded else s.tsu.sync } ∧
      (∀ p off, ka p off ≠ ka pTSU R.TSU_HOLD_ELAPSED → ka p off ≠ ka pTSU R.TSU_HOLD_EST → t.rg p off = s.rg p off) ∧ s.TsuQuiet t := by
  rw [s.holdUpdate_eq dT hn he hh, if_pos hd] at ht
  dsimp only at ht
  have hq := ((State.TsuQuiet.refl s).setRg pTSU R.TSU_HOLD_ELAPSED (w32 n)).setRg pTSU R.TSU_HOLD_EST (w32 est)
  have hest : ((s.setRg pTSU R.TSU_HOLD_ELAPSED (w32 n)).setRg pTSU R.TSU_HOLD_EST (w32 est)).rg pTSU R.TSU_HOLD_EST = w32 est :=
    State.rg_setRg _ _ _ _
  have hel : ((s.setRg pTSU R.TSU_HOLD_ELAPSED (w32 n)).setRg pTSU R.TSU_HOLD_EST (w32 est)).rg pTSU R.TSU_HOLD_ELAPSED = w32 n := by
    rw [State.rg_setRg_other _ _ _ _ _ _ (by decide), State.rg_setRg]
  have hother (p off : Nat) (h1 : ka p off ≠ ka pTSU R.TSU_HOLD_ELAPSED) (h2 : ka p off ≠ ka pTSU R.TSU_HOLD_EST) :
      ((s.setRg pTSU R.TSU_HOLD_ELAPSED (w32 n)).setRg pTSU R.TSU_HOLD_EST (w32 est)).rg p off = s.rg p off := by
    rw [State.rg_setRg_other _ _ _ _ _ _ h2, State.rg_setRg_other _ _ _ _ _ _ h1]
  have htsu : ((s.setRg pTSU R.TSU_HOLD_ELAPSED (w32 n)).setRg pTSU R.TSU_HOLD_EST (w32 est)).tsu = s.tsu := rfl
  generalize (s.setRg pTSU R.TSU_HOLD_ELAPSED (w32 n)).setRg pTSU R.TSU_HOLD_EST (w32 est) = u at ht hq hest hel hother htsu
  split at ht
  next hover =>
    have hrg (p off : Nat) : t.rg p off = u.rg p off := by rw [ht, State.rg, State.irq_regs, State.irq_regs]; rfl
    have hsync : t.tsu = { s.tsu with sync := .holdExceeded } := by
      rw [ht, State.irq_tsu, State.irq_tsu]
      exact congrArg (fun t : Tsu => { t with sync := Sync.holdExceeded }) htsu
    exact ⟨(hrg _ _).trans hel, (hrg _ _).trans hest, by rw [if_pos hover, hsync], fun p off h1 h2 => (hrg p off).trans (hother p off h1 h2),
      ht ▸ ((hq.updTsu _).irq _).irq _⟩
  next hunder => exact ⟨ht ▸ hel, ht ▸ hest, by rw [if_neg hunder, ht, htsu], fun p off h1 h2 => ht ▸ hother p off h1 h2, ht ▸ hq⟩

/-- A command that does nothing in the state it finds: its access ends a half-given unlock sequence. -/
theorem actReg_nothing {on : State → Bool} {p : Nat} {f : State → State} {s : State} (hon : on s = true)
    (h : f (s.touch p) = s.touch p) : ∃ t, actReg on p f s = .next t ∧ t = { s with hdrs := t.hdrs } := by
  obtain ⟨u, hu, hexec⟩ := actReg_next (p := p) (f := f) hon
  rw [h] at hu
  exact ⟨_, hexec, by rw [hu, State.touch_shape]⟩

/-- Settles O24: each command enters its state by `setSync` or `enterHold`, or finds nothing to do. -/
theorem syncAndHoldover : Obligations.SyncAndHoldover := by
  refine ⟨fun s hon => ⟨fun hne => ?_, fun hl => ?_, fun hd => ?_, fun hh => ?_, fun hl => ?_, fun hne => ?_, fun hd => ?_, fun hh => ?_⟩,
    fun dT s hon hh n est hn he => ⟨?_, fun hd => ?_, fun hd => ?_⟩⟩
  · obtain ⟨u, hu, hexec⟩ := actReg_next (p := pTSU) (f := State.tsuLocked) hon
    have htsu : (s.touch pTSU).tsu = s.tsu := s.touch_tsu pTSU
    rw [State.tsuLocked, htsu, if_neg (by simpa using hne)] at hu
    have h := (s.touch pTSU).resynced_locked
    rw [← hu] at h
    clear hu
    exact ⟨_, (exec_locked s).trans hexec, h.sync, h.now.trans (congrArg Tsu.now htsu), h.est, h.bit4, h.quiet.of_touch.pend⟩
  · obtain ⟨u, hu, hexec⟩ := actReg_next (p := pTSU) (f := State.tsuHold) hon
    have htsu : (s.touch pTSU).tsu = s.tsu := s.touch_tsu pTSU
    rw [State.tsuHold, htsu, if_pos (by rw [hl]; rfl), State.enterHold_eq, if_neg Bool.false_ne_true] at hu
    have h := (s.touch pTSU).holdEntered_holdBase false
    rw [← hu] at h
    clear hu
    have hcn : (s.touch pTSU).cn pTSU R.TSU_CNT_HOLDOVER = s.cn pTSU R.TSU_CNT_HOLDOVER := by rw [State.cn, State.touch_cnts]; rfl
    have hrate := h.rate
    have hheld := h.held
    have hnow := h.now
    rw [htsu] at hrate hheld hnow
    exact ⟨_, (exec_hold s).trans hexec, h.sync, h.entry, hrate, hheld, h.elapsed, h.slew, hnow, h.cnt.trans (by rw [hcn]), h.bit4,
      h.quiet.of_touch.pend⟩
  · obtain ⟨u, hu, hexec⟩ := act_next (f := fun s : State => if s.discDue then s.enterHold true else s) hon
    rw [if_pos hd, State.enterHold_eq, if_pos rfl] at hu
    have h := s.holdEntered_holdBase true
    obtain ⟨htsu, hcn, hbit, hq⟩ := State.holdEntered_wdog h
    rw [← hu] at htsu hcn hbit hq
    clear hu
    exact ⟨_, (exec_discWdog s).trans hexec, (congrArg Tsu.sync htsu).trans h.sync, (congrArg Tsu.wdogEntry htsu).trans h.entry,
      (congrArg Tsu.rate htsu).trans h.rate, hcn, hbit, hq.pend⟩
  · obtain ⟨u, hu, hexec⟩ := actReg_next (p := pTSU) (f := State.tsuRelease) hon
    rw [State.tsuRelease, if_pos ((s.inHold_touch _).trans hh)] at hu
    have h := (s.touch pTSU).resynced_unlocked
    rw [← hu] at h
    clear hu
    exact ⟨_, (exec_release s).trans hexec, h.sync, h.rate.trans (congrArg Tsu.rate (s.touch_tsu pTSU)), h.est, h.quiet.of_touch.pend⟩
  · rw [exec_locked]
    exact actReg_nothing hon (by rw [State.tsuLocked, State.touch_tsu, if_pos (by rw [hl]; rfl)])
  · rw [exec_hold]
    exact actReg_nothing hon (by rw [State.tsuHold, State.touch_tsu, if_neg (by simpa using hne)])
  · rw [exec_discWdog]
    exact act_same (by rw [hd, if_neg Bool.false_ne_true])
  · rw [exec_release]
    exact actReg_nothing hon (by rw [State.tsuRelease, s.inHold_touch, hh, if_neg Bool.false_ne_true])
  · rw [(toNat_regWord_hold s).1, (toNat_regWord_hold s).2, State.holdRate, State.holdTempco]
    simp
  · rw [(toNat_regWord_hold s).1, (toNat_regWord_hold s).2] at he
    obtain ⟨u, hu, hexec⟩ := act_next (f := fun s => s.holdUpdate dT) hon
    obtain ⟨hel, hest, htsu, hother, hq⟩ := s.holdUpdate_spec dT hn he hh hd hu
    clear hu
    exact ⟨_, (exec_holdUpdate dT s).trans hexec, hel, hest, htsu, hother, hq.pend⟩
  · rw [(toNat_regWord_hold s).1, (toNat_regWord_hold s).2] at he
    rw [exec_holdUpdate]
    refine act_same ?_
    rw [s.holdUpdate_eq dT hn he hh, if_neg (Nat.not_le.2 hd)]

end Sys2Proof.Machine
end

section
/-! A tick start in every block (R47, R95, R125, R182): O21. -/
namespace Sys2Proof.Machine
open Sys2Proof

/-! ### What finds nothing to do -/

theorem State.commitApply_idle (s : State) {p : Nat} (hg : headPage p = p) (h : (s.hd p).commitPending = false) : s.commitApply p = s := by
  simp [State.commitApply, hg, h]

theorem State.stopApply_idle (s : State) {p : Nat} (h : (s.hd p).stopNs = none) : s.stopApply p = s := by
  simp [State.stopApply, h]

theorem State.commits_idle (s : State) (h : ∀ p ∈ commitPages, (s.hd p).commitPending = false) :
    commitPages.foldl (fun (s : State) p => s.commitApply p) s = s := by
  have hg : ∀ p ∈ commitPages, headPage p = p := by decide
  have keep (l : List Nat) (hl : ∀ p ∈ l, p ∈ commitPages) : l.foldl (fun (s : State) p => s.commitApply p) s = s := by
    induction l with
    | nil => rfl
    | cons p l ih =>
      have hp := hl p (List.mem_cons_self ..)
      rw [List.foldl_cons, s.commitApply_idle (hg p hp) (h p hp)]
      exact ih fun q hq => hl q (List.mem_cons_of_mem _ hq)
  exact keep _ fun _ h => h

theorem State.stops_idle (s : State) (h : ∀ p ∈ tickPages, (s.hd p).stopNs = none) :
    tickPages.foldl (fun (s : State) p => s.stopApply p) s = s := by
  generalize tickPages = l at h
  induction l with
  | nil => rfl
  | cons p l ih =>
    rw [List.foldl_cons, s.stopApply_idle (h p (List.mem_cons_self ..))]
    exact ih fun q hq => h q (List.mem_cons_of_mem _ hq)

/-! ### What each block does at a tick start -/

/-- While the plane runs the sets take what was asked of them and no tick is closed for them. -/
theorem State.acqBegin_running (s : State) (h : s.running pSVA = true) :
    ∃ sets, s.acqBegin = { s with acq := { s.acq with sets := sets } } := by
  unfold State.acqBegin iter
  generalize List.range 4 = l
  have step (l : List Nat) (sets : List (Nat × AcqSet)) : ∃ sets', l.foldl (fun (s : State) n =>
      let x := s.aset n
      let s := match x.startNs with
        | some t => if t + 1000 ≤ tickStartNs s.tick then s.setAset n { x with startNs := none, ctl := x.ctl ++ [(s.tick, 0)] } else s
        | none => s
      if s.running pSVA || (s.aset n).ctl.isEmpty then s else s.acqCtl n s.tick s.tick) { s with acq := { s.acq with sets := sets } } =
        { s with acq := { s.acq with sets := sets' } } := by
    induction l generalizing sets with
    | nil => exact ⟨sets, rfl⟩
    | cons n l ih =>
      have run (sets : List (Nat × AcqSet)) : ({ s with acq := { s.acq with sets := sets } } : State).running pSVA = true := by
        rw [State.running_pSVA] at h ⊢; exact h
      rw [List.foldl_cons]
      dsimp only
      split
      · split
        · rw [if_pos (by rw [State.setAset, State.updAcq, run, Bool.true_or])]
          exact ih _
        · rw [if_pos (by rw [run, Bool.true_or])]
          exact ih _
      · rw [if_pos (by rw [run, Bool.true_or])]
        exact ih _
  exact step l s.acq.sets

theorem State.running_pDFO (s : State) : s.running pDFO = (s.hd pDFO).enable := rfl

theorem State.dfoTick_off (s : State) (h : s.running pDFO = false) : s.dfoTick = s := by simp [State.dfoTick, h]

theorem State.svaTick_running (s : State) (h : s.running pSVA = true) : s.svaTick =
    s.updSva fun v => { v with toClose := v.toClose ++ [(s.tick, tickStartNs s.tick + fld (s.ac pSVA R.SVA_TICK_CFG) 0 12 * 1000)] } := by
  simp [State.svaTick, h]

theorem State.adcTick_shape (s : State) : ∃ ad pl, s.adcTick = { s with adcs := ad, plaus := pl } := by
  have set (t : State) (c : Nat) (x : Adc) (h : ∃ ad, t = { s with adcs := ad }) : ∃ ad, t.setAdc c x = { s with adcs := ad } := by
    obtain ⟨ad, rfl⟩ := h
    exact ⟨_, rfl⟩
  obtain ⟨ad, h⟩ := set _ 0 _ (set s 1 _ ⟨s.adcs, rfl⟩)
  unfold State.adcTick
  dsimp only
  exact ⟨ad, _, by rw [h]⟩

theorem State.cycTick_on (s : State) (h : s.cycOn = true) : s.cycTick = s.updCyc fun c => { c with ticks := c.ticks ++ [s.tick] } := by
  simp [State.cycTick, h]

/-- With no tick frozen and the executor on, the pair notes at a tick start whether it is one. -/
theorem State.dupTickStart_idle (s : State) (h : s.cycOn = true) (hf : s.sva.frozen = []) :
    ∃ p, s.dupTickStart = { s with dup := { s.dup with paired := p } } := by
  have htick : ∃ p, s.dupTick = { s with dup := { s.dup with paired := p } } := by
    refine ⟨s.dupEn && s.hbCurrent && (s.dup.state = 2 || s.dup.state = 3 || s.dup.state = 4), ?_⟩
    unfold State.dupTick
    exact if_pos h
  obtain ⟨p, hp⟩ := htick
  refine ⟨p, ?_⟩
  unfold State.dupTickStart
  rw [hp]
  dsimp only
  split
  · rfl
  · rw [State.closeAlone, hf]; rfl

/-- The second's copy of the clock changes the supply block alone. -/
theorem State.rtcSecond_shape (s : State) : ∃ p, s.rtcSecond = { s with pwr := p } := by
  unfold State.rtcSecond
  split
  · exact ⟨s.pwr, rfl⟩
  · split <;> exact ⟨_, rfl⟩

/-- A tick start in the islands fed from VMAIN where no COMMIT and no STOP waits for it. -/
theorem State.mainTick_running (s : State) (hstop : ∀ p ∈ tickPages, (s.hd p).stopNs = none)
    (hcom : ∀ p ∈ commitPages, (s.hd p).commitPending = false) (hsva : s.running pSVA = true) (hcyc : s.cycOn = true)
    (hdfo : s.running pDFO = false) (hfz : s.sva.frozen = []) :
    ∃ sets ats ad pl pr ins, s.mainTick = { s with
      acq := { s.acq with sets := sets }, talAts := ats
      sva := { s.sva with
        toClose := s.sva.toClose ++ [(s.tick, tickStartNs s.tick + fld (s.ac pSVA R.SVA_TICK_CFG) 0 12 * 1000)] }
      adcs := ad, plaus := pl, cyc := { s.cyc with ticks := s.cyc.ticks ++ [s.tick] }, dup := { s.dup with paired := pr }, hwsIn := ins } := by
  have hdefn : s.mainTick = s.acqBegin.talNote.svaTick.adcTick.cycTick.dfoTick.dupTickStart.sendGooseVec := by
    unfold State.mainTick
    rw [s.commits_idle hcom]
    dsimp only
    rw [s.stops_idle hstop]
  obtain ⟨sets, hacq⟩ := s.acqBegin_running hsva
  rw [hdefn, hacq]
  -- The fields the next functions look at are those of `s`.
  have hnote : ∃ ats, State.talNote { s with acq := { s.acq with sets := sets } } =
      { s with acq := { s.acq with sets := sets }, talAts := ats } := ⟨_, rfl⟩
  obtain ⟨ats, hnote⟩ := hnote
  rw [hnote, State.svaTick_running _ (by rw [State.running_pSVA] at hsva ⊢; exact hsva)]
  generalize hu : State.updSva { s with acq := { s.acq with sets := sets }, talAts := ats } _ = u
  obtain ⟨ad, pl, hadc⟩ := u.adcTick_shape
  rw [hadc]
  have hcyc' : State.cycOn { u with adcs := ad, plaus := pl } = true := by rw [← hu]; exact hcyc
  rw [State.cycTick_on _ hcyc']
  generalize hv : State.updCyc { u with adcs := ad, plaus := pl } _ = v
  have hoff : v.running pDFO = false := by rw [← hv, ← hu]; exact hdfo
  obtain ⟨pr, hdup⟩ := v.dupTickStart_idle (by rw [← hv]; exact hcyc') (by rw [← hv, ← hu]; exact hfz)
  rw [v.dfoTick_off hoff, hdup]
  have hvec (w : State) : ∃ ins, w.sendGooseVec = { w with hwsIn := ins } := ⟨_, rfl⟩
  obtain ⟨ins, hvec⟩ := hvec { v with dup := { v.dup with paired := pr } }
  rw [hvec]
  refine ⟨sets, ats, ad, pl, pr, ins, ?_⟩
  rw [← hv, ← hu]
  rfl

/-! ### The command -/

theorem State.tickDue_eq (s : State) : s.tickDue = decide (tickStartNs s.tsu.nextTick ≤ s.ns) := rfl

/-- The unit once it has issued a tick start. -/
theorem State.tsuTick_commit (s : State) (h : (s.hd pTSU).commitPending = false) : s.tsuTick.commitApply pTSU = s.tsuTick :=
  State.commitApply_idle _ (by decide) h

/-- Settles O21: before its time nothing, else the unit's tick, `mainTick_running`, and the safety island's tag. -/
theorem tickStarts : Obligations.TickStarts := by
  refine fun s hon => ⟨fun hd => ?_, fun hd hmain hcom => ?_, fun hd hmain hstop hcom hsva hcyc hdfo hfz => ?_⟩
  · rw [exec_tickStart]
    exact act_same (by rw [State.tickStart, s.tickDue_eq, decide_eq_false (Nat.not_le.2 hd)]; rfl)
  · obtain ⟨u, hu, hexec⟩ := act_next (f := State.tickStart) hon
    rw [State.tickStart, s.tickDue_eq, decide_eq_true hd, Bool.not_true, if_neg Bool.false_ne_true] at hu
    dsimp only at hu
    rw [s.tsuTick_commit hcom, if_neg (by rw [Bool.not_eq_true]; exact hmain)] at hu
    obtain ⟨p, hp⟩ := s.tsuTick.hwsTick.rtcSecond_shape
    rw [hp] at hu
    exact ⟨_, (exec_tickStart s).trans hexec, by rw [hu]; rfl, by rw [hu]; rfl, by rw [hu]; rfl⟩
  · obtain ⟨u, hu, hexec⟩ := act_next (f := State.tickStart) hon
    rw [State.tickStart, s.tickDue_eq, decide_eq_true hd, Bool.not_true, if_neg Bool.false_ne_true] at hu
    dsimp only at hu
    rw [s.tsuTick_commit (hcom _ (List.mem_cons_self ..)), if_pos (show s.tsuTick.onMain = true from hmain)] at hu
    obtain ⟨sets, ats, ad, pl, pr, ins, hm⟩ := s.tsuTick.mainTick_running hstop (fun p hp => hcom p (List.mem_cons_of_mem _ hp))
      (by rw [State.running_pSVA] at hsva ⊢; exact hsva) hcyc hdfo hfz
    rw [hm] at hu
    generalize hw : ({ s.tsuTick with
      acq := { s.tsuTick.acq with sets := sets }, talAts := ats
      sva := { s.tsuTick.sva with
        toClose := s.tsuTick.sva.toClose ++
          [(s.tsuTick.tick, tickStartNs s.tsuTick.tick + fld (s.tsuTick.ac pSVA R.SVA_TICK_CFG) 0 12 * 1000)] }
      adcs := ad, plaus := pl, cyc := { s.tsuTick.cyc with ticks := s.tsuTick.cyc.ticks ++ [s.tsuTick.tick] }
      dup := { s.tsuTick.dup with paired := pr }, hwsIn := ins } : State) = w at hu
    obtain ⟨p, hp⟩ := w.hwsTick.rtcSecond_shape
    rw [hp] at hu
    have htsu : u.tsu = { s.tsu with lastTick := s.tsu.nextTick, nextTick := s.tsu.nextTick + 1 } := by rw [hu, ← hw]; rfl
    have hsva' : u.sva = { s.sva with
        toClose := s.sva.toClose ++
          [(s.tsu.nextTick, tickStartNs s.tsu.nextTick + fld (s.ac pSVA R.SVA_TICK_CFG) 0 12 * 1000)] } := by rw [hu, ← hw]; rfl
    have hcyc' : u.cyc = { s.cyc with ticks := s.cyc.ticks ++ [s.tsu.nextTick] } := by rw [hu, ← hw]; rfl
    have htag : u.hws.tickTag = tagOf s.tsu.nextTick := by rw [hu, ← hw]; rfl
    have hshape : { u with pending := s.pending } = { s with
          tsu := u.tsu, sva := u.sva, cyc := u.cyc, adcs := u.adcs, plaus := u.plaus, dup := { s.dup with paired := u.dup.paired },
          talAts := u.talAts, acq := { s.acq with sets := u.acq.sets }, hwsIn := u.hwsIn, hws := u.hws, pwr := u.pwr } := by
      rw [hu, ← hw]; rfl
    exact ⟨_, (exec_tickStart s).trans hexec, htsu, hsva', hcyc', htag, hshape⟩

end Sys2Proof.Machine
end

section
/-! Frames offered to ports and written to the Landing (R66, R74, R77). -/
namespace Sys2Proof.Machine
open Sys2Proof

/-! ### What the Crosscut's decisions read -/

section
variable {ps : List Nat} {s t : State} (h : s.Quiet ps t)
include h

theorem State.Quiet.mac (p : Nat) : t.mac p = s.mac p := by rw [State.mac, h.macs]; rfl
theorem State.Quiet.eg (e : Nat) : t.eg e = s.eg e := by rw [State.eg, h.egs]; rfl
theorem State.Quiet.ns : t.ns = s.ns := by rw [State.ns, h.tsu]; rfl
theorem State.Quiet.short : t.short = s.short := by rw [State.short, h.ns]; rfl
theorem State.Quiet.redMode (pr : Nat) : t.redMode pr = s.redMode pr := by rw [State.redMode, h.ac]; rfl
theorem State.Quiet.pairOf (e : Nat) : t.pairOf e = s.pairOf e := by simp only [State.pairOf, h.redMode]
theorem State.Quiet.macRuns (e : Nat) : t.macRuns e = s.macRuns e := by simp only [State.macRuns, h.running, h.unusable]
theorem State.Quiet.canTx (e : Nat) : t.canTx e = s.canTx e := by simp only [State.canTx, State.macCfg, h.mac, h.ac, h.macRuns]
theorem State.Quiet.vlanMembers (v : Nat) : t.vlanMembers v = s.vlanMembers v := by simp only [State.vlanMembers, h.tw]
theorem State.Quiet.lagMembers (g : Nat) : t.lagMembers g = s.lagMembers g := by simp only [State.lagMembers, h.ac]
theorem State.Quiet.lagOf (p : Nat) : t.lagOf p = s.lagOf p := by simp only [State.lagOf, h.lagMembers]
theorem State.Quiet.hashIdx (f : Frame) (v : Nat) : t.hashIdx f v = s.hashIdx f v := by simp only [State.hashIdx, State.hashKey, h.ac]
theorem State.Quiet.lagPick (g : Nat) (f : Frame) (v : Nat) : t.lagPick g f v = s.lagPick g f v := by
  have hc : t.canTx = s.canTx := funext fun e => h.canTx e
  simp only [State.lagPick, h.lagMembers, h.tw, h.hashIdx, hc]
theorem State.Quiet.resolve (m p v : Nat) (f : Frame) : t.resolve m p v f = s.resolve m p v f := by
  simp only [State.resolve, h.vlanMembers, h.pairOf, h.lagOf, h.lagPick]
theorem State.Quiet.lookup (f : Frame) (v : Nat) : t.lookup f v = s.lookup f v := by
  simp only [State.lookup, State.fdbFind, State.fdbMatch, h.ac, h.tw, h.vlanMembers]
theorem State.Quiet.queueOf (f : Frame) (p : Nat) : t.queueOf f p = s.queueOf f p := by
  simp only [State.queueOf, h.ac]
theorem State.Quiet.egTag (e : Nat) (f : Frame) (n : Nat) : t.egTag e f n = s.egTag e f n := by
  simp only [State.egTag, h.pairOf, h.redMode]
theorem State.Quiet.egFrame (e : Nat) (f : Frame) (v p n : Nat) : t.egFrame e f v p n = s.egFrame e f v p n := by
  have hu : t.vlanUntag v = s.vlanUntag v := by simp only [State.vlanUntag, h.tw]
  simp only [State.egFrame, hu, h.egTag]
theorem State.Quiet.gateSegs (e : Nat) : t.gateSegs e = s.gateSegs e := by simp only [State.gateSegs, h.eg, h.tw]
theorem State.Quiet.gatePos (e n : Nat) : t.gatePos e n = s.gatePos e n := by simp only [State.gatePos, h.eg]
theorem State.Quiet.gateOpen (e q : Nat) : t.gateOpen e q = s.gateOpen e q := by simp only [State.gateOpen, h.eg, h.tw]
theorem State.Quiet.gateOpensIn (e q : Nat) : t.gateOpensIn e q = s.gateOpensIn e q := by
  simp only [State.gateOpensIn, State.gateWalk, h.gateOpen, h.gateSegs, h.gatePos, h.ns]
theorem State.Quiet.macCfg (p : Nat) : t.macCfg p = s.macCfg p := h.ac _ _
theorem State.Quiet.maxLen (p : Nat) : t.maxLen p = s.maxLen p := by simp only [State.maxLen, h.ac]
theorem State.Quiet.macsecAdd (p : Nat) : t.macsecAdd p = s.macsecAdd p := by simp only [State.macsecAdd, h.ac]
theorem State.Quiet.macsecOn (p : Nat) : t.macsecOn p = s.macsecOn p := by simp only [State.macsecOn, h.macCfg]
theorem State.Quiet.egMacsec (e : Nat) (f : Frame) : t.egMacsec e f = s.egMacsec e f := by
  simp only [State.egMacsec, State.macsecBypass, h.macsecOn, h.macCfg]
theorem State.Quiet.qDepth (e q : Nat) : t.qDepth e q = s.qDepth e q := by simp only [State.qDepth, h.eg]
theorem State.Quiet.egRefuse (e q : Nat) (f : Frame) (st : Nat) : t.egRefuse e q f st = s.egRefuse e q f st := by
  simp only [State.egRefuse, h.egMacsec, h.macsecAdd, h.maxLen, h.qDepth, h.ac, h.canTx, h.gateOpensIn, h.short]
theorem State.Quiet.rxStamp (p : Nat) : t.rxStamp p = s.rxStamp p := by simp only [State.rxStamp, h.tsu, h.ac]

end

theorem State.queueOf_lt (s : State) (f : Frame) (p : Nat) : s.queueOf f p < 8 := by
  unfold State.queueOf
  split <;> exact Nat.mod_lt _ (by decide)

/-! ### One port after another -/

/-- Port `e` with a frame more in queue `q`. -/
def State.accepted (s : State) (e q : Nat) (x : QEntry) : State :=
  (s.setEg e { s.eg e with q := (s.eg e).q.set q ((((s.eg e).q[q]?).getD []) ++ [x]) }).bump (pEG e) (qCnt q 0)

theorem State.enqOne_accepted {s : State} {e q : Nat} {x : QEntry} (h : s.egRefuse e q x.frame x.stamp = none) :
    s.enqOne e q x = (true, s.accepted e q x) := by
  simp only [State.enqOne, h, State.accepted]

theorem State.accepted_eg (s : State) (e q : Nat) (x : QEntry) : (s.accepted e q x).eg e =
    { s.eg e with q := (s.eg e).q.set q ((((s.eg e).q[q]?).getD []) ++ [x]) } := by
  rw [State.eg, State.accepted, State.bump_egs]
  exact s.eg_setEg e _

theorem State.accepted_eg_other (s : State) {e r : Nat} (q : Nat) (x : QEntry) (h : r ≠ e) : (s.accepted e q x).eg r = s.eg r := by
  rw [State.eg, State.accepted, State.bump_egs]
  exact s.eg_setEg_other e r _ h

theorem State.accepted_swc (s : State) (e q : Nat) (x : QEntry) : (s.accepted e q x).swc = s.swc := by
  rw [State.accepted, State.bump_swc]; rfl

/-- What an accepted frame changes beside the port's row is quiet on the port's page. -/
theorem State.accepted_quiet (s : State) (e : Nat) {q : Nat} (x : QEntry) (hq : q < 8) :
    ({ s with egs := (s.accepted e q x).egs } : State).Quiet [pEG e] (s.accepted e q x) := by
  have h := (State.Quiet.refl [pEG e] (s.setEg e { s.eg e with q := (s.eg e).q.set q ((((s.eg e).q[q]?).getD []) ++ [x]) })).bump
    (p := pEG e) (by simp) (qCnt q 0) (by unfold qCnt; omega)
  have hegs : (s.accepted e q x).egs =
      (s.setEg e { s.eg e with q := (s.eg e).q.set q ((((s.eg e).q[q]?).getD []) ++ [x]) }).egs := h.egs
  rw [hegs]
  exact h

/-- What a port refuses does not depend on the rows of the others. -/
theorem State.egRefuse_egs {s : State} {e q : Nat} {f : Frame} {st : Nat} (l : List (Nat × EgPort))
    (h : ({ s with egs := l } : State).eg e = s.eg e) : ({ s with egs := l } : State).egRefuse e q f st = s.egRefuse e q f st := by
  have hopen (q : Nat) : ({ s with egs := l } : State).gateOpen e q = s.gateOpen e q := by simp only [State.gateOpen, h]; rfl
  have hsegs : ({ s with egs := l } : State).gateSegs e = s.gateSegs e := by simp only [State.gateSegs, h]; rfl
  have hpos (n : Nat) : ({ s with egs := l } : State).gatePos e n = s.gatePos e n := by simp only [State.gatePos, h]
  have hwait : ({ s with egs := l } : State).gateOpensIn e q = s.gateOpensIn e q := by
    simp only [State.gateOpensIn, State.gateWalk, hopen, hsegs, hpos]; rfl
  have hdepth : ({ s with egs := l } : State).qDepth e q = s.qDepth e q := by simp only [State.qDepth, h]
  simp only [State.egRefuse, hdepth, hwait]
  rfl

theorem State.egRefuse_accepted (s : State) {e r q : Nat} (x : QEntry) (hq : q < 8) (h : r ≠ e) (n : Nat) (f : Frame) (st : Nat) :
    (s.accepted e q x).egRefuse r n f st = s.egRefuse r n f st :=
  ((s.accepted_quiet e x hq).egRefuse r n f st).trans (State.egRefuse_egs _ (s.accepted_eg_other q x h))

section
variable {s : State} {b : Bound} {x : QEntry} {fr : Nat → Frame} {e r : Nat}

theorem State.offer_one (h10 : e ≠ 10) (h : s.egRefuse e b.queue (fr e) x.stamp = none) :
    s.offer b x fr [e] = ([e], s.accepted e b.queue { x with frame := fr e }) := by
  simp only [State.offer, List.foldl_cons, List.foldl_nil, if_neg h10, State.enqOne_accepted (x := { x with frame := fr e }) h, if_true,
    List.nil_append]

theorem State.offer_two (hq : b.queue < 8) (hne : r ≠ e) (h10 : e ≠ 10) (h10' : r ≠ 10) (h : s.egRefuse e b.queue (fr e) x.stamp = none)
    (h' : s.egRefuse r b.queue (fr r) x.stamp = none) :
    s.offer b x fr [e, r] =
      ([e, r], (s.accepted e b.queue { x with frame := fr e }).accepted r b.queue { x with frame := fr r }) := by
  have h2 := (s.egRefuse_accepted (e := e) { x with frame := fr e } hq hne b.queue (fr r) x.stamp).trans h'
  simp only [State.offer, List.foldl_cons, List.foldl_nil, if_neg h10, if_neg h10', State.enqOne_accepted (x := { x with frame := fr e }) h,
    State.enqOne_accepted (x := { x with frame := fr r }) h2, if_true, List.nil_append, List.cons_append]

end

/-- A port that is not offered a frame keeps its row. -/
theorem State.offer_eg_other (s : State) (b : Bound) (x : QEntry) (fr : Nat → Frame) (l : List Nat) {e : Nat} (h : e ∉ l) :
    (s.offer b x fr l).2.eg e = s.eg e := by
  have one (t : State) (r q : Nat) (y : QEntry) (hr : e ≠ r) : (t.enqOne r q y).2.eg e = t.eg e := by
    unfold State.enqOne
    split
    · dsimp only
      split
      · rw [State.eg, State.irq_egs, State.bump_egs]; rfl
      · rw [State.eg, State.bump_egs]; rfl
    · exact t.accepted_eg_other q y hr
  have all : ∀ (l : List Nat), e ∉ l → ∀ acc : List Nat × State, acc.2.eg e = s.eg e →
      (l.foldl (fun (acc : List Nat × State) e =>
        let y := acc.2.enqOne e (if e = 10 then b.lane else b.queue) { x with frame := fr e }
        (if y.1 then acc.1 ++ [e] else acc.1, y.2)) acc).2.eg e = s.eg e := by
    intro l
    induction l with
    | nil => exact fun _ _ h => h
    | cons r l ih =>
      intro hl acc hacc
      rw [List.mem_cons, not_or] at hl
      exact ih hl.2 _ ((one acc.2 r _ _ hl.1).trans hacc)
  exact all l h ([], s) rfl

/-! ### The Landing -/

/-- A frame stands in the Landing with its count of targets. -/
def State.landed (u : State) (id cells n : Nat) : State :=
  ((u.freshAt ((List.range cells).map (Config.cellAt id)) 256).updSwc fun c => { c with landing := c.landing ++ [(id, cells, n)] }).lndMark

theorem foldl_sclear_nil {β : Type} (l : List Nat) (n : Nat) :
    l.foldl (fun (m : List (Nat × β)) a => sclear (a / 8) ((a + n) / 8) m) [] = [] := by
  induction l with
  | nil => rfl
  | cons a l ih => exact ih

theorem State.landed_shape (u : State) (id cells n : Nat) : ∃ fl po mf,
    u.landed id cells n = { u with
      flips := fl, poison := po, swc := { u.swc with landing := u.swc.landing ++ [(id, cells, n)], minFree := mf } } ∧
      (u.flips = [] → fl = []) ∧ (u.poison = [] → po = []) := by
  have hfresh : ∃ fl po, u.freshAt ((List.range cells).map (Config.cellAt id)) 256 = { u with flips := fl, poison := po } ∧
      (u.flips = [] → fl = []) ∧ (u.poison = [] → po = []) := by
    unfold State.freshAt
    split
    · exact ⟨u.flips, u.poison, rfl, fun h => h, fun h => h⟩
    · exact ⟨_, _, rfl, fun h => by rw [h]; exact foldl_sclear_nil _ _, fun h => by rw [h]; exact foldl_sclear_nil _ _⟩
  obtain ⟨fl, po, hf, h1, h2⟩ := hfresh
  exact ⟨fl, po, _, by rw [State.landed, hf]; rfl, h1, h2⟩

/-- The Crosscut's counters as a frame is offered: the next identity, and the numbers of the pairs it is sent into. -/
def State.offered (s : State) (b : Bound) (x : QEntry) (seq : Option Nat) : State :=
  s.updSwc fun c => { c with
    nextId := s.swc.nextId + 1, pairSeq := (s.numbered b x seq).foldl (fun l pr => l.set pr ((s.pairNo pr + 1) % 65536)) c.pairSeq }

/-- A frame that some port accepts. -/
theorem State.enqueueAll_eq {s u : State} {f : Frame} {b : Bound} {x : QEntry} {seq : Option Nat} {ports : List Nat}
    (hp : (if f.et = 0x8808 then b.ports.filter (9 < ·) else b.ports) = b.ports) (hne : ports ≠ [])
    (ho : (s.offered b x seq).offer b { x with id := s.swc.nextId, cells := cellsOf f.size, rsel := b.rsel, lane := b.lane }
      (s.frameAt f b x seq) b.ports = (ports, u)) :
    s.enqueueAll f b x seq = (ports, u.landed s.swc.nextId (cellsOf f.size) ports.length) := by
  have hempty : ports.isEmpty = false := by cases ports with | nil => exact absurd rfl hne | cons _ _ => rfl
  have hb : { b with ports := b.ports } = b := rfl
  unfold State.enqueueAll
  dsimp only
  rw [hp, hb]
  unfold State.offered at ho
  rw [ho]
  dsimp only
  rw [hempty, if_neg Bool.false_ne_true]
  rfl

end Sys2Proof.Machine
end

section
/-! Ageing in the Crosscut and supervision frames (R75, R83, R84, R105): O20. -/
namespace Sys2Proof.Machine
open Sys2Proof

/-! ### Ageing -/

theorem State.fdbAgeOut_eq {s : State} {i lim : Nat} (hl : lim = fld (s.ac pSWC R.SWC_FDB_AGE) 0 16) (h0 : lim ≠ 0) (hi : i < 32768)
    (hv : bit (s.tw (fdbAddr i + 4)) 31 = true) (hd : bit (s.tw (fdbAddr i + 8)) 31 = false) :
    s.fdbAgeOut i = if lim ≤ s.fdbAge i then
      (s.setTws (fdbAddr i) [0, 0, 0, 0, 0]).updSwc fun c => { c with fdbRef := sdel i c.fdbRef } else s := by
  subst hl
  simp [State.fdbAgeOut, h0, hi, hv, hd]

theorem fdbAgeOut_spec {s : State} {i lim : Nat} (hon : s.onMain = true) (hrun : s.running pSWC = true)
    (hl : lim = fld (s.ac pSWC R.SWC_FDB_AGE) 0 16) (h0 : lim ≠ 0) (hi : i < 32768)
    (hv : bit (s.tw (fdbAddr i + 4)) 31 = true) (hd : bit (s.tw (fdbAddr i + 8)) 31 = false) :
    (lim ≤ s.fdbAge i → ∃ t, exec (.fdbAgeOut i) s = .next t ∧ bit (t.tw (fdbAddr i + 4)) 31 = false ∧
      (∀ a, (∀ k, k < 5 → a ≠ fdbAddr i + 4 * k) → t.tw a = s.tw a) ∧
      t = { s with tbl := t.tbl, swc := { s.swc with fdbRef := t.swc.fdbRef } }) ∧
    (s.fdbAge i < lim → exec (.fdbAgeOut i) s = .next s) := by
  have heq := State.fdbAgeOut_eq hl h0 hi hv hd
  constructor
  · intro hage
    obtain ⟨u, hu, hexec⟩ := act_next (f := fun s : State => if s.running pSWC then s.fdbAgeOut i else s) hon
    rw [if_pos hrun, heq, if_pos hage] at hu
    have hin := s.tw_setTws (fdbAddr i) [0, 0, 0, 0, 0] (i := 1) (by decide)
    have hout (a : Nat) := s.tw_setTws_other (fdbAddr i) a [0, 0, 0, 0, 0]
    have hshape := s.setTws_shape (fdbAddr i) [0, 0, 0, 0, 0]
    generalize s.setTws (fdbAddr i) [0, 0, 0, 0, 0] = v at hu hin hout hshape
    have htw (a : Nat) : u.tw a = v.tw a := by rw [hu]; rfl
    have hvalid : u.tw (fdbAddr i + 4) = 0 := (htw _).trans hin
    have hother (a : Nat) (ha : ∀ k, k < 5 → a ≠ fdbAddr i + 4 * k) : u.tw a = s.tw a := (htw a).trans (hout a ha)
    have hshape : { u with pending := s.pending } = { s with tbl := u.tbl, swc := { s.swc with fdbRef := u.swc.fdbRef } } := by
      rw [hu, hshape]; rfl
    have hbit : bit (u.tw (fdbAddr i + 4)) 31 = false := by rw [hvalid]; rfl
    exact ⟨_, (exec_fdbAgeOut i s).trans hexec, hbit, hother, hshape⟩
  · intro hage
    rw [exec_fdbAgeOut]
    exact act_same (by rw [if_pos hrun, heq, if_neg (Nat.not_le.2 hage)])

theorem dupForget_spec {s : State} {i : Nat} {e : DupEntry} (hon : s.onMain = true) (hrun : s.running pSWC = true)
    (hf : s.swc.dups.find? (fun d => d.1 == i) = some (i, e)) :
    (msClk (s.ac pRED R.SWC_RED_FORGET).toNat ≤ s.since e.lastClk → ∃ t, exec (.dupEntryForget i) s = .next t ∧
      (∀ d ∈ t.swc.dups, d.1 ≠ i) ∧ (∀ d, d.1 ≠ i → (d ∈ t.swc.dups ↔ d ∈ s.swc.dups)) ∧
      t = { s with swc := { s.swc with dups := t.swc.dups } }) ∧
    (s.since e.lastClk < msClk (s.ac pRED R.SWC_RED_FORGET).toNat → exec (.dupEntryForget i) s = .next s) := by
  constructor
  · intro hage
    obtain ⟨u, hu, hexec⟩ := act_next (f := fun s : State => if s.running pSWC then s.dupForget i else s) hon
    rw [if_pos hrun, State.dupForget, hf] at hu
    dsimp only at hu
    rw [if_pos hage] at hu
    have hdups : u.swc.dups = s.swc.dups.filter fun d => d.1 != i := by rw [hu]; rfl
    refine ⟨_, (exec_dupEntryForget i s).trans hexec, fun d hd => ?_, fun d hd => ?_, by rw [hu]; rfl⟩
    · change d ∈ u.swc.dups at hd
      rw [hdups] at hd
      simpa using (List.mem_filter.1 hd).2
    · change d ∈ u.swc.dups ↔ _
      rw [hdups, List.mem_filter]
      simp [hd]
  · intro hage
    rw [exec_dupEntryForget]
    refine act_same ?_
    rw [if_pos hrun, State.dupForget, hf]
    exact if_neg (Nat.not_le.2 hage)

theorem tcRelease_spec {s : State} {c : TcEntry} {rest : List TcEntry} (hon : s.onMain = true) (hrun : s.running pSWC = true)
    (hc : s.swc.tc = c :: rest) :
    (msClk 100 ≤ s.since c.syncClk → ∃ t, exec .tcSyncEntryRelease s = .next t ∧ t = { s with swc := { s.swc with tc := rest } }) ∧
    (s.since c.syncClk < msClk 100 → exec .tcSyncEntryRelease s = .next s) := by
  have heq : exec .tcSyncEntryRelease s = act State.onMain (fun _ =>
      if msClk 100 ≤ s.since c.syncClk then s.updSwc fun w => { w with tc := rest } else s) s := by
    rw [exec_tcSyncEntryRelease, act_on _ _ _ hon, act_on _ _ _ hon, hc]
    simp [hrun]
  rw [heq]
  constructor
  · intro hage
    rw [act_on _ _ _ hon, if_pos hage]
    exact ⟨_, rfl, rfl⟩
  · intro hage
    exact act_same (if_neg (Nat.not_le.2 hage))

/-! ### Supervision -/

theorem State.supervise_eq {s : State} {pair n : Nat} (hp : pair < 4) (hm : s.redMode pair ≠ 0) (hrun : s.running pSWC = true)
    (hl : (s.ac pRED R.SWC_RED_LIFECHECK).toNat ≠ 0) (hs : s.swc.supClk[pair]? = some n)
    (hd : msClk (s.ac pRED R.SWC_RED_LIFECHECK).toNat ≤ s.since n) :
    s.supervise pair = (s.updSwc fun c => { c with supClk := c.supClk.set pair s.tsu.clk }).beacon pair := by
  have h3 : ¬3 < pair := by omega
  simp [State.supervise, h3, hm, hl, hrun, hs, Nat.not_lt.2 hd]

/-- The ports of a pair that is not OFF belong to it and to no other. -/
theorem State.pairOf_port {s : State} {pair e : Nat} (hp : pair < 4) (hm : s.redMode pair ≠ 0) (he : e ∈ [2 * pair, 2 * pair + 1]) :
    s.pairOf e = some pair := by
  have h2 : e / 2 = pair := by simp only [List.mem_cons, List.not_mem_nil, or_false] at he; omega
  have h7 : e ≤ 7 := by omega
  simp [State.pairOf, h2, h7, hm]

/-- A frame of a pair's own takes the pair's number alone. -/
theorem State.numbered_pair {s : State} {pair : Nat} (hp : pair < 4) (hm : s.redMode pair ≠ 0) (b : Bound) (x : QEntry) (hx : 7 < x.ing)
    (hb : b.ports = [2 * pair, 2 * pair + 1]) : s.numbered b x none = [pair] := by
  have hring (e : Nat) : s.ringOn x.ing e = false := by simp [State.ringOn, Nat.not_le.2 hx]
  have h1 := State.pairOf_port hp hm (e := 2 * pair) (by simp)
  have h2 := State.pairOf_port hp hm (e := 2 * pair + 1) (by simp)
  have hf : s.numbered b x none = (List.range 4).filter fun pr => pair == pr := by
    simp [State.numbered, hb, hring, h1, h2]
  rw [hf]
  have all : ∀ k, k < 4 → (List.range 4).filter (fun pr => k == pr) = [k] := by decide
  exact all pair hp

/-- Under a number of its own pair a port sends what `egFrame` makes of a frame. -/
theorem State.frameAt_pair {s : State} {pair e : Nat} (hp : pair < 4) (hm : s.redMode pair ≠ 0) (f : Frame) (b : Bound) (x : QEntry)
    (hx : 7 < x.ing) (ho : x.oversize = false) (he : e ∈ [2 * pair, 2 * pair + 1]) :
    s.frameAt f b x none e = s.egFrame e f b.vid b.pcp (s.pairNo pair) := by
  simp [State.frameAt, ho, State.ringOn, Nat.not_le.2 hx, State.pairOf_port hp hm he]

theorem State.egRefuse_offered (s : State) (b : Bound) (x : QEntry) (seq : Option Nat) (e q : Nat) (f : Frame) (st : Nat) :
    (s.offered b x seq).egRefuse e q f st = s.egRefuse e q f st := rfl

/-- How a supervision frame is bound. -/
def supBound (pair q : Nat) : Bound := { ports := [2 * pair, 2 * pair + 1], queue := q, lane := 0, rsel := 0, vid := 1, pcp := 0 }

/-- The entry of a supervision frame before it is offered. -/
def supEntry (f : Frame) (st : Nat) : QEntry := { id := 0, frame := f, cells := 0, stamp := st, ing := 12, rsel := 0 }

/-- A supervision frame both of whose ports accept it. -/
theorem State.beacon_enqueued {s : State} {pair sq : Nat} {f : Frame} (hp : pair < 4) (hm : s.redMode pair ≠ 0) (het : f.et ≠ 0x8808)
    (hn : s.pairNo pair = sq)
    (hok : ∀ e, e ∈ [2 * pair, 2 * pair + 1] → s.egRefuse e (s.queueOf f 0) (s.egFrame e f 1 0 sq) s.short = none) :
    ∃ y : QEntry, ∃ u, u = ((s.offered (supBound pair (s.queueOf f 0)) (supEntry f s.short) none).accepted (2 * pair) (s.queueOf f 0)
        { y with frame := s.egFrame (2 * pair) f 1 0 sq }).accepted (2 * pair + 1) (s.queueOf f 0)
        { y with frame := s.egFrame (2 * pair + 1) f 1 0 sq } ∧
      s.enqueue f (supBound pair (s.queueOf f 0)) (supEntry f s.short) none = u.landed s.swc.nextId (cellsOf f.size) 2 := by
  generalize hb : supBound pair (s.queueOf f 0) = b
  generalize hx : supEntry f s.short = x
  have hports : b.ports = [2 * pair, 2 * pair + 1] := hb ▸ rfl
  have hqueue : b.queue = s.queueOf f 0 := hb ▸ rfl
  have hstamp : x.stamp = s.short := hx ▸ rfl
  have hfr (e : Nat) (he : e ∈ [2 * pair, 2 * pair + 1]) : s.frameAt f b x none e = s.egFrame e f 1 0 sq := by
    rw [State.frameAt_pair hp hm f b x (by rw [← hx]; exact (by decide : 7 < 12)) (hx ▸ rfl) he, hn, ← hb]
    rfl
  have hacc (e : Nat) (he : e ∈ [2 * pair, 2 * pair + 1]) :
      (s.offered b x none).egRefuse e b.queue (s.frameAt f b x none e) x.stamp = none := by
    rw [State.egRefuse_offered, hfr e he, hqueue, hstamp]
    exact hok e he
  have h10 : 2 * pair ≠ 10 ∧ 2 * pair + 1 ≠ 10 := by omega
  have hoffer := State.offer_two (s := s.offered b x none) (b := b)
    (x := { x with id := s.swc.nextId, cells := cellsOf f.size, rsel := b.rsel, lane := b.lane }) (fr := s.frameAt f b x none)
    (by rw [hqueue]; exact s.queueOf_lt f 0) (Nat.succ_ne_self (2 * pair)) h10.1 h10.2 (hacc _ (by simp)) (hacc _ (by simp))
  refine ⟨{ x with id := s.swc.nextId, cells := cellsOf f.size, rsel := b.rsel, lane := b.lane }, _, rfl, ?_⟩
  rw [← hports] at hoffer
  rw [State.enqueue, State.enqueueAll_eq (if_neg het) (by rw [hports]; simp) hoffer, hports, hqueue, hfr _ (by simp), hfr _ (by simp)]
  rfl

/-- What a supervision frame that both ports accept changes. -/
theorem State.beacon_spec {s t : State} {pair q sq : Nat} {f : Frame} (hp : pair < 4) (hm : s.redMode pair ≠ 0) (hf : f = s.beaconFrame pair)
    (hq : q = s.queueOf f 0) (hn : s.pairNo pair = sq) (ht : t = s.beacon pair)
    (hok : ∀ e, e ∈ [2 * pair, 2 * pair + 1] → s.egRefuse e q (s.egFrame e f 1 0 sq) s.short = none) :
    t.swc.supClk = s.swc.supClk ∧ t.swc.pairSeq = s.swc.pairSeq.set pair ((sq + 1) % 65536) ∧
      (∀ e, e ∈ [2 * pair, 2 * pair + 1] → ∃ x : QEntry, x.frame = s.egFrame e f 1 0 sq ∧
        (t.eg e).q = (s.eg e).q.set q ((((s.eg e).q[q]?).getD []) ++ [x])) ∧
      (∀ e, e ∉ [2 * pair, 2 * pair + 1] → t.eg e = s.eg e) ∧ t.macs = s.macs ∧ t.tbl = s.tbl ∧ t.regs = s.regs := by
  have het : f.et ≠ 0x8808 := by rw [hf]; exact (by decide : (0x88FB : Nat) ≠ 0x8808)
  subst hq
  have hbeacon : t = s.enqueue f (supBound pair (s.queueOf f 0)) (supEntry f s.short) none := by rw [ht, hf]; rfl
  obtain ⟨y, u, hu, henq⟩ := State.beacon_enqueued hp hm het hn hok
  rw [henq] at hbeacon
  obtain ⟨fl, po, mf, hland, -, -⟩ := u.landed_shape s.swc.nextId (cellsOf f.size) 2
  rw [hland] at hbeacon
  have hnum : (s.offered (supBound pair (s.queueOf f 0)) (supEntry f s.short) none).swc.pairSeq =
      s.swc.pairSeq.set pair ((sq + 1) % 65536) := by
    have h := State.numbered_pair hp hm (supBound pair (s.queueOf f 0)) (supEntry f s.short) (by decide : 7 < 12) rfl
    rw [← hn]
    unfold State.offered
    rw [h]
    rfl
  have hsup : (s.offered (supBound pair (s.queueOf f 0)) (supEntry f s.short) none).swc.supClk = s.swc.supClk := rfl
  have hegs (e : Nat) : (s.offered (supBound pair (s.queueOf f 0)) (supEntry f s.short) none).eg e = s.eg e := rfl
  have hmacs : (s.offered (supBound pair (s.queueOf f 0)) (supEntry f s.short) none).macs = s.macs := rfl
  have htbl : (s.offered (supBound pair (s.queueOf f 0)) (supEntry f s.short) none).tbl = s.tbl := rfl
  have hregs : (s.offered (supBound pair (s.queueOf f 0)) (supEntry f s.short) none).regs = s.regs := rfl
  generalize s.offered (supBound pair (s.queueOf f 0)) (supEntry f s.short) none = v at hu hnum hsup hegs hmacs htbl hregs
  have hlt := s.queueOf_lt f 0
  generalize s.queueOf f 0 = q at *
  have hswc : u.swc = v.swc := by rw [hu, State.accepted_swc, State.accepted_swc]
  have hne : 2 * pair ≠ 2 * pair + 1 := by omega
  have hq1 := v.accepted_quiet (2 * pair) { y with frame := s.egFrame (2 * pair) f 1 0 sq } hlt
  have hq2 := (v.accepted (2 * pair) q { y with frame := s.egFrame (2 * pair) f 1 0 sq }).accepted_quiet (2 * pair + 1)
    { y with frame := s.egFrame (2 * pair + 1) f 1 0 sq } hlt
  rw [← hu] at hq2
  have heg (e : Nat) : t.eg e = u.eg e := by rw [hbeacon]; rfl
  refine ⟨?_, ?_, fun e he => ?_, fun e he => ?_, ?_, ?_, ?_⟩
  · rw [hbeacon]; exact (congrArg Swc.supClk hswc).trans hsup
  · rw [hbeacon]; exact (congrArg Swc.pairSeq hswc).trans hnum
  · rw [heg, hu]
    simp only [List.mem_cons, List.not_mem_nil, or_false] at he
    obtain rfl | rfl := he
    · exact ⟨_, rfl, by rw [State.accepted_eg_other _ q _ hne, State.accepted_eg, hegs]⟩
    · exact ⟨_, rfl, by rw [State.accepted_eg, State.accepted_eg_other _ q _ hne.symm, hegs]⟩
  · simp only [List.mem_cons, List.not_mem_nil, or_false, not_or] at he
    rw [heg, hu, State.accepted_eg_other _ q _ he.2, State.accepted_eg_other _ q _ he.1, hegs]
  · rw [hbeacon]; exact hq2.macs.trans (hq1.macs.trans hmacs)
  · rw [hbeacon]; exact hq2.tbl.trans (hq1.tbl.trans htbl)
  · rw [hbeacon]; exact hq2.regs.trans (hq1.regs.trans hregs)

/-- Settles O20: the three ages, and the beacon of `beacon_spec` after its clock is noted. -/
theorem ageingAndSupervision : Obligations.AgeingAndSupervision := by
  refine ⟨fun i s hon hrun => ⟨fun lim hl h0 hi hv hd => fdbAgeOut_spec hon hrun hl h0 hi hv hd, fun e he => dupForget_spec hon hrun he,
    fun c rest hc => tcRelease_spec hon hrun hc⟩, ?_⟩
  intro pair n s hon hp hm hrun hl hs hlen hd f q sq hf hq hsq hok
  obtain ⟨u, hu, hexec⟩ := act_next (f := fun s => s.supervise pair) hon
  rw [State.supervise_eq hp hm hrun hl hs hd] at hu
  have hno : State.pairNo (s.updSwc fun c => { c with supClk := c.supClk.set pair s.tsu.clk }) pair = sq := by
    rw [State.pairNo]
    exact congrArg (fun o : Option Nat => o.getD 0) hsq
  obtain ⟨hsup, hseq, hin, hout, hmacs, htbl, hregs⟩ := State.beacon_spec (q := q) (f := f)
    (s := s.updSwc fun c => { c with supClk := c.supClk.set pair s.tsu.clk }) hp hm hf hq hno hu hok
  clear hu
  have hnext : u.swc.pairSeq[pair]? = some ((sq + 1) % 65536) := by
    rw [hseq]
    exact List.getElem?_set_self (by rw [State.updSwc, hlen]; exact hp)
  exact ⟨_, (exec_supervisionSend pair s).trans hexec, hsup, hnext, hin, hout, hmacs, htbl, hregs⟩

end Sys2Proof.Machine
end

section
/-! Reception (R67, R74, R77): O18. -/
namespace Sys2Proof.Machine
open Sys2Proof

/-! ### What a port makes of a frame it receives -/

section
variable {s : State} {p : Nat} {f : Frame}

/-- A frame of a port that receives, by the checks of R67 in their order. -/
theorem State.frameRx_open (hp : p ≤ 9) (hr : s.macRuns p = true) (hl : (s.mac p).linkUp = true) (hen : bit (s.macCfg p) 12 = true)
    (het : f.et ≠ 0x8808) (hrun : s.running pSWC = true ∨ s.lndFree < cellsOf (s.maxLen p)) :
    (s.lndFree < cellsOf (s.maxLen p) → s.frameRx p f = (s.bump (pMAC p) R.MAC_CNT_RX_OVF).irq (pMAC p) 6) ∧
      (cellsOf (s.maxLen p) ≤ s.lndFree → f.size < 64 → s.frameRx p f = s.bump (pMAC p) R.MAC_CNT_RUNT) ∧
      (cellsOf (s.maxLen p) ≤ s.lndFree → 64 ≤ f.size → f.size ≤ s.maxLen p → f.fcsOk = false →
        s.frameRx p f = s.bump (pMAC p) R.MAC_CNT_FCS_ERR) := by
  have h9 : ¬9 < p := Nat.not_lt.2 hp
  refine ⟨fun hfree => ?_, fun hfree hsize => ?_, fun hfree hsize hmax hfcs => ?_⟩
  · simp [State.frameRx, h9, hr, hl, hen, het, Nat.not_le.2 hfree]
  · have hrun := hrun.resolve_right (Nat.not_lt.2 hfree)
    simp [State.frameRx, h9, hr, hl, hen, hfree, hrun, hsize]
  · have hrun := hrun.resolve_right (Nat.not_lt.2 hfree)
    simp [State.frameRx, h9, hr, hl, hen, hfree, hrun, Nat.not_lt.2 hsize, Nat.not_lt.2 hmax, hfcs]

end

/-- Where no pair is active nothing of redundancy happens at reception. -/
theorem State.redRx_off {s : State} (h : ∀ pr, pr < 4 → s.redMode pr = 0) {p : Nat} (hp : p ≤ 7) (f : Frame) :
    s.redRx p f = (true, none, s) := by
  have hproxy : s.proxySeen p f.sa = s := by
    have hany : (List.range 4).any (fun pr => (s.redMode pr == 3 || s.redMode pr == 4) && (7 < p || p / 2 != pr)) = false := by
      refine List.any_eq_false.2 fun pr hpr => ?_
      rw [h pr (List.mem_range.1 hpr)]
      simp
    rw [State.proxySeen, hany, if_neg Bool.false_ne_true]
  have hpair : s.pairOf p = none := by
    rw [State.pairOf, h (p / 2) (by omega)]
    simp
  rw [State.redRx, hproxy]
  simp only [hpair]

/-- With every pair off no port belongs to one. -/
theorem State.pairOf_off {s : State} (h : ∀ pr, pr < 4 → s.redMode pr = 0) (e : Nat) : s.pairOf e = none := by
  unfold State.pairOf
  by_cases he : e ≤ 7
  · rw [h (e / 2) (by omega)]; simp
  · simp [he]

/-- The tagged frame of a plain port, once it has passed the checks: it is forwarded. -/
theorem State.frameRx_good {s u : State} {p pcp vid : Nat} {f : Frame} (hp : p ≤ 7) (hr : s.macRuns p = true) (hl : (s.mac p).linkUp = true)
    (hen : bit (s.macCfg p) 12 = true) (hsec : s.macsecOn p = false) (het : f.et ≠ 0x8808) (hv : f.vlan = some (pcp, vid))
    (hin : bit (s.ac (pMAC p) R.MAC_VLAN) 17 = false) (hrun : s.running pSWC = true) (hfree : cellsOf (s.maxLen p) ≤ s.lndFree)
    (h64 : 64 ≤ f.size) (hmax : f.size ≤ s.maxLen p) (hfcs : f.fcsOk = true) (hred : ∀ pr, pr < 4 → s.redMode pr = 0)
    (hu : u = (s.bump (pMAC p) R.MAC_CNT_RX_FRAMES).bumpBy (pMAC p) R.MAC_CNT_RX_BYTES f.size) (hq : s.Quiet [pMAC p] u) :
    s.frameRx p f = u.forward p f (s.rxStamp p) vid pcp none := by
  have h9 : ¬9 < p := by omega
  have hmacsec : u.macsecRx p f = (some f, u) := by
    rw [State.macsecRx, hq.macsecOn, hsec]; rfl
  have hredRx := State.redRx_off (s := u) (fun pr h => (hq.redMode pr).trans (hred pr h)) hp f
  have hvlan : bit (u.ac (pMAC p) R.MAC_VLAN) 17 = false := by rw [hq.ac, hin]
  have hp9 : ¬p = 9 := by omega
  have hp8 : ¬p = 8 := by omega
  simp [State.frameRx, h9, hr, hl, hen, het, hfree, hrun, Nat.not_lt.2 h64, Nat.not_lt.2 hmax, hfcs, ← hu, hmacsec, hv, hp9, hp8, hvlan, hredRx]

/-- A frame with one egress port that is not a PTP message is written to the Landing for it. -/
theorem State.forward_one {s : State} {p pcp vid st e m r : Nat} {f : Frame} (hlearn : bit (s.macCfg p) 9 = false) (hptp : f.et ≠ 0x88F7)
    (hlook : s.lookup f vid = .ports m r) (hres : s.resolve m p vid f = [e]) :
    ∃ b x, b.ports = [e] ∧ b.queue = s.queueOf f pcp ∧ b.vid = vid ∧ b.pcp = pcp ∧ b.rsel = r ∧ x.stamp = st ∧ x.ing = p ∧
      x.oversize = false ∧ s.forward p f st vid pcp none = s.enqueue f b x none := by
  have htc (t : State) (l : List Nat) : t.tcRx p f l = t := by
    unfold State.tcRx
    split
    · simp [hptp]
    · rfl
  have hpd : isPdelay f = false := by
    unfold isPdelay
    split
    · simp [hptp]
    · rfl
  refine ⟨{ ports := [e], queue := s.queueOf f pcp, lane := s.laneOf f vid, rsel := r, vid := vid, pcp := pcp },
    { id := 0, frame := f, cells := 0, stamp := st, ing := p, rsel := 0, frac := (s.rxFrac p).1, fracOk := (s.rxFrac p).2 },
    rfl, rfl, rfl, rfl, rfl, rfl, rfl, rfl, ?_⟩
  simp [State.forward, hlearn, hpd, State.bind, hlook, hres, htc, State.enqueue]

/-- A frame under no pair's number that its one port accepts. -/
theorem State.enqueue_one {s : State} {f : Frame} {b : Bound} {x : QEntry} {seq : Option Nat} {e : Nat} (hb : b.ports = [e])
    (het : f.et ≠ 0x8808) (h10 : e ≠ 10) (hpair : s.pairOf e = none) (hseq : seq = none) (hover : x.oversize = false)
    (hok : s.egRefuse e b.queue (s.egFrame e f b.vid b.pcp 0) x.stamp = none) :
    ∃ u y, y = { x with
        id := s.swc.nextId, cells := cellsOf f.size, rsel := b.rsel, lane := b.lane, frame := s.egFrame e f b.vid b.pcp 0 } ∧
      u = ({ s with swc := { s.swc with nextId := s.swc.nextId + 1 } } : State).accepted e b.queue y ∧
      s.enqueue f b x seq = u.landed s.swc.nextId (cellsOf f.size) 1 := by
  have hring : s.ringOn x.ing e = false := by simp [State.ringOn, hpair]
  have hnum : s.numbered b x seq = [] := by
    simp [State.numbered, hb, hpair, hseq]
  have hoff : s.offered b x seq = { s with swc := { s.swc with nextId := s.swc.nextId + 1 } } := by
    unfold State.offered
    rw [hnum]
    rfl
  have hfr : s.frameAt f b x seq e = s.egFrame e f b.vid b.pcp 0 := by
    simp [State.frameAt, hover, hring, hpair, hseq]
  have hacc : (s.offered b x seq).egRefuse e b.queue (s.frameAt f b x seq e) x.stamp = none := by
    rw [State.egRefuse_offered, hfr]; exact hok
  have hoffer := State.offer_one (s := s.offered b x seq) (b := b)
    (x := { x with id := s.swc.nextId, cells := cellsOf f.size, rsel := b.rsel, lane := b.lane }) (fr := s.frameAt f b x seq) h10 hacc
  refine ⟨_, _, rfl, rfl, ?_⟩
  rw [← hb] at hoffer
  rw [State.enqueue, State.enqueueAll_eq (if_neg het) (by rw [hb]; simp) hoffer, hb, hfr, hoff]
  rfl

/-- What is quiet stays so when both sides are given the same ports, cells and Crosscut. -/
theorem State.Quiet.withCross {ps : List Nat} {s t : State} (h : s.Quiet ps t) (e : List (Nat × EgPort)) (fl : List (Nat × Nat))
    (po : List (Nat × Bool)) (w : Swc) :
    ({ s with egs := e, flips := fl, poison := po, swc := w } : State).Quiet ps { t with egs := e, flips := fl, poison := po, swc := w } :=
  ⟨congrArg (fun u : State => { u with egs := e, flips := fl, poison := po, swc := w }) h.rest, h.hd, h.hdIn, h.cn⟩

/-- The counters of a good frame. -/
theorem State.rxCounted (s : State) (p n : Nat) :
    let u := (s.bump (pMAC p) R.MAC_CNT_RX_FRAMES).bumpBy (pMAC p) R.MAC_CNT_RX_BYTES n
    s.Quiet [pMAC p] u ∧
      u.cn (pMAC p) R.MAC_CNT_RX_FRAMES = min (cntMax (pMAC p) R.MAC_CNT_RX_FRAMES) (s.cn (pMAC p) R.MAC_CNT_RX_FRAMES + 1) := by
  have hne : ka (pMAC p) R.MAC_CNT_RX_FRAMES ≠ ka (pMAC p) R.MAC_CNT_RX_BYTES := fun h =>
    absurd ((ka_inj (by decide) (by decide)).1 h).2 (by decide)
  exact ⟨((State.Quiet.refl _ s).bump (by simp) _ (by decide)).bumpBy (by simp) _ _ (by decide),
    (State.cn_bumpBy_other _ _ _ _ _ _ hne).trans (s.cn_bump _ _)⟩

/-- Settles O18: the refusals of `frameRx_open`, and the good frame by `frameRx_good`, `forward_one` and `enqueue_one`. -/
theorem reception : Obligations.Reception := by
  refine ⟨fun p f s hon hp hr hl hen het => ⟨fun hfree => ?_, fun hrun hfree => ⟨fun hsize => ?_, fun hsize hmax hfcs => ?_⟩⟩, ?_⟩
  · obtain ⟨u, hu, hexec⟩ := act_next (f := fun s => s.frameRx p f) hon
    rw [(State.frameRx_open hp hr hl hen het (.inr hfree)).1 hfree] at hu
    have hcn : u.cn (pMAC p) R.MAC_CNT_RX_OVF = min (cntMax (pMAC p) R.MAC_CNT_RX_OVF) (s.cn (pMAC p) R.MAC_CNT_RX_OVF + 1) := by
      rw [hu, State.cn, State.irq_cnts]; exact s.cn_bump _ _
    have hbit : bit (u.hd (pMAC p)).irqStatus 6 = true := by rw [hu]; exact State.bit_irq _ _ (by decide)
    have hq : s.Quiet [pMAC p] u := by rw [hu]; exact ((State.Quiet.refl _ s).bump (by simp) _ (by decide)).irq (by simp) _
    exact ⟨_, (exec_frameRx p f s).trans hexec, hcn, hbit, hq.pend⟩
  · obtain ⟨u, hu, hexec⟩ := act_next (f := fun s => s.frameRx p f) hon
    rw [(State.frameRx_open hp hr hl hen het (.inl hrun)).2.1 hfree hsize] at hu
    have hq : s.Quiet [pMAC p] u := by rw [hu]; exact (State.Quiet.refl _ s).bump (by simp) _ (by decide)
    exact ⟨_, (exec_frameRx p f s).trans hexec, hu ▸ s.cn_bump _ _, hq.pend⟩
  · obtain ⟨u, hu, hexec⟩ := act_next (f := fun s => s.frameRx p f) hon
    rw [(State.frameRx_open hp hr hl hen het (.inl hrun)).2.2 hfree hsize hmax hfcs] at hu
    have hq : s.Quiet [pMAC p] u := by rw [hu]; exact (State.Quiet.refl _ s).bump (by simp) _ (by decide)
    exact ⟨_, (exec_frameRx p f s).trans hexec, hu ▸ s.cn_bump _ _, hq.pend⟩
  intro p f pcp vid e m r s hon hp hr hl hen hlearn hsec het hptp hv hin hrun hfree h64 hmax hfcs hred hlook hres h10 hok
  obtain ⟨u, hu, hexec⟩ := act_next (f := fun s => s.frameRx p f) hon
  obtain ⟨hq, hcn⟩ := s.rxCounted p f.size
  rw [State.frameRx_good hp hr hl hen hsec het hv hin hrun hfree h64 hmax hfcs hred rfl hq] at hu
  generalize (s.bump (pMAC p) R.MAC_CNT_RX_FRAMES).bumpBy (pMAC p) R.MAC_CNT_RX_BYTES f.size = w at hu hq hcn
  obtain ⟨b, x, hports, hqueue, hvid, hpcp, hrsel, hstamp, hing, hover, hfwd⟩ := State.forward_one (s := w) (p := p) (pcp := pcp)
    (st := s.rxStamp p) ((congrArg (bit · 9) (hq.macCfg p)).trans hlearn) hptp ((hq.lookup f vid).trans hlook)
    ((hq.resolve m p vid f).trans hres)
  have hframe : w.egFrame e f b.vid b.pcp 0 = s.egFrame e f vid pcp 0 := by rw [hvid, hpcp, hq.egFrame]
  have hqs : b.queue = s.queueOf f pcp := hqueue.trans (hq.queueOf f pcp)
  obtain ⟨v, y, hy, hv', henq⟩ := State.enqueue_one (seq := none) hports het h10
    ((hq.pairOf e).trans (State.pairOf_off hred e)) rfl hover (by rw [hframe, hqs, hstamp, hq.egRefuse]; exact hok)
  obtain ⟨fl, po, mf, hland, hfl, hpo⟩ := v.landed_shape w.swc.nextId (cellsOf f.size) 1
  rw [hfwd, henq, hland] at hu
  rw [hqs] at hv'
  have hlt := s.queueOf_lt f pcp
  generalize s.queueOf f pcp = q at hv' hlt
  have hswc : w.swc = s.swc := hq.swc
  have heg (r : Nat) : u.eg r = v.eg r := by rw [hu]; rfl
  have hbase (r : Nat) : State.eg { w with swc := { w.swc with nextId := w.swc.nextId + 1 } } r = s.eg r := hq.eg r
  have hvswc : v.swc = { w.swc with nextId := w.swc.nextId + 1 } := by rw [hv', State.accepted_swc]
  have hvq := State.accepted_quiet { w with swc := { w.swc with nextId := w.swc.nextId + 1 } } e y hlt
  rw [hvswc, hswc] at hu
  have hself : (u.eg e).q = (s.eg e).q.set q ((((s.eg e).q[q]?).getD []) ++ [y]) := by
    rw [heg, hv', State.accepted_eg, hbase]
  have hother (r : Nat) (h : r ≠ e) : u.eg r = s.eg r := by rw [heg, hv', State.accepted_eg_other _ q y h, hbase]
  have hcnt : u.cn (pMAC p) R.MAC_CNT_RX_FRAMES = min (cntMax (pMAC p) R.MAC_CNT_RX_FRAMES) (s.cn (pMAC p) R.MAC_CNT_RX_FRAMES + 1) := by
    have hpage : pMAC p ∉ [pEG e] := by simp only [List.mem_singleton, pMAC, pEG]; omega
    have h := hvq.cn (pMAC p) R.MAC_CNT_RX_FRAMES hpage (by decide)
    rw [← hv'] at h
    rw [hu]
    exact h.trans hcn
  rw [← hv'] at hvq
  clear hv' heg henq hfwd hland
  have hquiet : ({ s with
      egs := u.egs, flips := u.flips, poison := u.poison
      swc := { s.swc with landing := u.swc.landing, nextId := s.swc.nextId + 1, minFree := u.swc.minFree } } : State).Quiet
      [pMAC p, pEG e] u := by
    rw [hu]
    exact ((hq.mono (by simp)).withCross _ _ _ _).trans ((hvq.mono (by simp)).withCross _ _ _ _)
  have hflips : s.flips = [] → u.flips = [] := fun h => by
    rw [hu]; exact hfl (hvq.flips.trans (hq.flips.trans h))
  have hpoison : s.poison = [] → u.poison = [] := fun h => by
    rw [hu]; exact hpo (hvq.poison.trans (hq.poison.trans h))
  have hlanding : u.swc.landing = s.swc.landing ++ [(s.swc.nextId, cellsOf f.size, 1)] := by rw [hu]
  refine ⟨_, y, (exec_frameRx p f s).trans hexec, ?_, ?_, ?_, ?_, ?_, ?_, hself, hother, hlanding, hcnt, hquiet.pend, hflips, hpoison⟩
  · rw [hy, hswc]
  · rw [hy, hframe]
  · rw [hy]; exact hing
  · rw [hy]; exact hrsel
  · rw [hy]; exact hstamp
  · rw [hy]

end Sys2Proof.Machine
end

section
/-! What reading damaged memory leaves (R383 to R388). -/
namespace Sys2Proof.Machine
open Sys2Proof

/-- Memory and what its reads keep book of have changed: its words and damage, remap entries, free values, the pages of memory. -/
def State.MemRead (s t : State) : Prop :=
  ({ s with mem := t.mem, flips := t.flips, poison := t.poison, memSt := t.memSt, tbl := t.tbl, free := t.free } : State).Quiet [pMEM] t

theorem State.MemRead.refl (s : State) : s.MemRead s := State.Quiet.refl _ _

theorem State.Quiet.withMem {ps : List Nat} {s t : State} (h : s.Quiet ps t) (u : State) :
    ({ s with mem := u.mem, flips := u.flips, poison := u.poison, memSt := u.memSt, tbl := u.tbl, free := u.free } : State).Quiet ps
      { t with mem := u.mem, flips := u.flips, poison := u.poison, memSt := u.memSt, tbl := u.tbl, free := u.free } :=
  ⟨congrArg (fun x : State => { x with
    mem := u.mem, flips := u.flips, poison := u.poison, memSt := u.memSt, tbl := u.tbl, free := u.free }) h.rest, h.hd, h.hdIn, h.cn⟩

section
variable {s t : State} (h : s.MemRead t)
include h

theorem State.MemRead.trans {u : State} (h' : t.MemRead u) : s.MemRead u := (State.Quiet.withMem h u).trans h'

/-- A change of memory's own fields alone. -/
theorem State.MemRead.fields {u : State} (hu : u = { t with
    mem := u.mem, flips := u.flips, poison := u.poison, memSt := u.memSt, tbl := u.tbl, free := u.free }) : s.MemRead u := by
  have hq := State.Quiet.withMem h u
  rw [← hu] at hq
  exact hq

theorem State.MemRead.quiet {u : State} (hu : t.Quiet [pMEM] u) : s.MemRead u := by
  have hq := (State.Quiet.withMem h u).trans (s := { s with
    mem := u.mem, flips := u.flips, poison := u.poison, memSt := u.memSt, tbl := u.tbl, free := u.free }) (u := u)
  refine hq ?_
  rw [hu.mem, hu.flips, hu.poison, hu.memSt, hu.tbl, hu.free]
  exact hu

theorem State.MemRead.irq (i : Nat) : s.MemRead (t.irq pMEM i) := h.quiet ((State.Quiet.refl _ _).irq (by simp) i)

theorem State.MemRead.bump {o : Nat} (ho : o < 4096) : s.MemRead (t.bump pMEM o) := h.quiet ((State.Quiet.refl _ _).bump (by simp) o ho)

theorem State.MemRead.updMem (f : MemSt → MemSt) : s.MemRead (t.updMem f) := h.fields rfl

theorem State.MemRead.freeWord : s.MemRead t.freeWord.2 := h.fields rfl

theorem State.MemRead.setTws (a : Nat) (ws : List Word) : s.MemRead (t.setTws a ws) := by
  have hs := t.setTws_shape a ws
  generalize t.setTws a ws = u at hs
  exact h.fields (by rw [hs])

theorem State.MemRead.memEvent (a k r i : Nat) : s.MemRead (t.memEvent a k r i) := by
  unfold State.memEvent
  split
  · exact (h.bump (by decide)).irq _
  · exact h.freeWord.updMem _

theorem State.MemRead.setWordState (a : Nat) (p : Bool) : s.MemRead (t.setWordState a p) := by
  unfold State.setWordState
  dsimp only
  split <;> exact h.fields rfl

theorem State.MemRead.remap (a : Nat) (ue : Bool) (r i : Nat) : s.MemRead (t.remap a ue r i) := by
  unfold State.remap
  split
  · exact h
  split
  · unfold State.remapInto
    exact ((((h.setTws _ _).updMem _).bump (by decide)).irq _).memEvent _ _ _ _
  · exact ((h.bump (by decide)).irq _).memEvent _ _ _ _

theorem State.MemRead.trackCorr (a r i : Nat) : s.MemRead (t.trackCorr a r i) := by
  unfold State.trackCorr
  split
  · exact h
  · dsimp only
    refine iteInduction (motive := fun u : State => s.MemRead u) (fun _ => State.MemRead.remap ?_ _ _ _ _) fun _ => ?_
    all_goals
      split
      · exact h.updMem _
      · refine iteInduction (motive := fun u : State => s.MemRead u) (fun _ => ?_) fun _ => ?_
        · exact h.bump (by decide)
        · exact h.updMem _

theorem State.MemRead.corrected (a k r i : Nat) : s.MemRead (t.corrected a k r i) := by
  unfold State.corrected
  refine State.MemRead.trackCorr (State.MemRead.memEvent (State.MemRead.irq (State.MemRead.bump (h.setWordState a false) ?_) _) _ _ _ _) _ _ _
  split <;> decide

theorem State.MemRead.uncorrectable (a k r i : Nat) : s.MemRead (t.uncorrectable a k r i) := by
  unfold State.uncorrectable
  refine State.MemRead.remap (State.MemRead.memEvent (State.MemRead.bump (h.setWordState a true) ?_) _ _ _ _) _ _ _ _
  split <;> decide

theorem State.MemRead.wordIs (a : Nat) : s.MemRead (t.wordIs a).2 := by
  unfold State.wordIs
  dsimp only
  split
  · split <;> exact h
  split
  · exact h
  split
  · exact h
  split
  · exact h
  split
  · exact h.freeWord
  · have hfree := h.freeWord.freeWord.freeWord
    generalize putBytes _ _ _ = m
    generalize t.freeWord.2.freeWord.2.freeWord.2 = u at hfree ⊢
    exact hfree.fields rfl

theorem State.MemRead.readWord (a r i : Nat) : s.MemRead (t.readWord a r i).2 := by
  have hw := h.wordIs a
  unfold State.readWord
  dsimp only
  generalize t.wordIs a = x at hw
  obtain ⟨k, u⟩ := x
  cases k
  case clean => exact hw
  case correctable => exact State.MemRead.corrected hw _ _ _ _
  case uncorr => exact State.MemRead.uncorrectable (State.MemRead.irq hw _) _ _ _ _
  case poisoned => exact State.MemRead.memEvent (State.MemRead.bump hw (by decide)) _ _ _ _

theorem State.MemRead.readMem (a n r i : Nat) : s.MemRead (t.readMem a n r i).2.2 := by
  unfold State.readMem
  dsimp only
  have all : ∀ (l : List Nat) (acc : Bool × State), s.MemRead acc.2 → s.MemRead (l.foldl (fun acc w =>
      let x := acc.2.readWord (w * 8) r i
      (acc.1 || x.1, x.2)) acc).2 := by
    intro l
    induction l with
    | nil => exact fun _ h => h
    | cons w l ih => exact fun acc hacc => ih _ (State.MemRead.readWord hacc _ _ _)
  exact all _ (false, t) h

theorem State.MemRead.lndRead (id c e : Nat) : s.MemRead (t.lndRead id c e).2 := by
  unfold State.lndRead
  split
  · exact h
  · have all : ∀ (l : List Nat) (acc : Bool × State), s.MemRead acc.2 → s.MemRead (l.foldl (fun acc n =>
        let r := acc.2.readMem (Config.cellAt id n) 256 4 e
        (acc.1 || r.2.1, r.2.2)) acc).2 := by
      intro l
      induction l with
      | nil => exact fun _ h => h
      | cons w l ih => exact fun acc hacc => ih _ (State.MemRead.readMem hacc _ _ _ _)
    exact all _ (false, t) h

end

end Sys2Proof.Machine
end

section
/-! Posting through H1, selection and the end of a transmission (R68, R72, R77, R107): O19. -/
namespace Sys2Proof.Machine
open Sys2Proof

/-! ### H1 (R68) -/

/-- The node table is all that noting a proxied source changes beside its page. -/
theorem State.proxySeen_spec (s : State) (ing sa : Nat) :
    ∃ w, (s.proxySeen ing sa).swc = w ∧ w.nextId = s.swc.nextId ∧ w.landing = s.swc.landing ∧ w.h1q = s.swc.h1q ∧
      ({ s with swc := w } : State).Quiet [pRED] (s.proxySeen ing sa) := by
  have same : s.swc.nextId = s.swc.nextId ∧ s.swc.landing = s.swc.landing ∧ s.swc.h1q = s.swc.h1q := ⟨rfl, rfl, rfl⟩
  unfold State.proxySeen
  split
  · unfold State.nodeSeen
    dsimp only
    split
    · exact ⟨_, rfl, rfl, rfl, rfl, .refl _ _⟩
    · split
      · have hq := (State.Quiet.refl [pRED] s).bump (p := pRED) (by simp) R.CNT_REFUSED (by decide)
        exact ⟨s.swc, hq.swc, rfl, rfl, rfl, hq⟩
      · exact ⟨_, rfl, rfl, rfl, rfl, .refl _ _⟩
  · exact ⟨s.swc, rfl, rfl, rfl, rfl, .refl _ _⟩

/-- Offering a frame leaves the Crosscut's own state. -/
theorem State.offer_swc (s : State) (b : Bound) (x : QEntry) (fr : Nat → Frame) (l : List Nat) : (s.offer b x fr l).2.swc = s.swc := by
  have one (t : State) (r q : Nat) (y : QEntry) : (t.enqOne r q y).2.swc = t.swc := by
    unfold State.enqOne
    split
    · dsimp only
      split
      · rw [State.irq_swc, State.bump_swc]
      · rw [State.bump_swc]
    · exact t.accepted_swc _ q y
  have all : ∀ (l : List Nat) (acc : List Nat × State), acc.2.swc = s.swc → (l.foldl (fun (acc : List Nat × State) e =>
      let y := acc.2.enqOne e (if e = 10 then b.lane else b.queue) { x with frame := fr e }
      (if y.1 then acc.1 ++ [e] else acc.1, y.2)) acc).2.swc = s.swc := by
    intro l
    induction l with
    | nil => exact fun _ h => h
    | cons r l ih => exact fun acc hacc => ih _ ((one acc.2 r _ _).trans hacc)
  exact all l ([], s) rfl

/-- A frame enqueued leaves what waits for H1, and the rows of the ports it is not offered to. -/
theorem State.enqueue_keeps (s : State) (f : Frame) (b : Bound) (x : QEntry) (seq : Option Nat) :
    (s.enqueue f b x seq).swc.h1q = s.swc.h1q ∧
      ∀ e, e ∉ (if f.et = 0x8808 then b.ports.filter (9 < ·) else b.ports) → (s.enqueue f b x seq).eg e = s.eg e := by
  unfold State.enqueue State.enqueueAll
  dsimp only
  generalize (if f.et = 0x8808 then b.ports.filter (9 < ·) else b.ports) = ports
  generalize hs : (s.updSwc fun c => { c with
    nextId := s.swc.nextId + 1
    pairSeq := (s.numbered { b with ports := ports } x seq).foldl (fun l pr => l.set pr ((s.pairNo pr + 1) % 65536)) c.pairSeq }) = t
  have heg (e : Nat) : t.eg e = s.eg e := by rw [← hs]; rfl
  have hq : t.swc.h1q = s.swc.h1q := by rw [← hs]; rfl
  generalize hx : ({ x with id := s.swc.nextId, cells := cellsOf f.size, rsel := b.rsel, lane := b.lane } : QEntry) = y
  generalize s.frameAt f { b with ports := ports } x seq = fr
  have hswc := t.offer_swc { b with ports := ports } y fr ports
  have hother := fun e (he : e ∉ ports) => t.offer_eg_other { b with ports := ports } y fr ports he
  generalize t.offer { b with ports := ports } y fr ports = r at hswc hother ⊢
  split
  · exact ⟨(congrArg Swc.h1q hswc).trans hq, fun e he => (hother e he).trans (heg e)⟩
  · obtain ⟨fl, po, mf, hland, -, -⟩ := r.2.landed_shape s.swc.nextId (cellsOf f.size) r.1.length
    rw [State.landed] at hland
    rw [hland]
    exact ⟨(congrArg Swc.h1q hswc).trans hq, fun e he => (hother e he).trans (heg e)⟩

/-- VID and PCP a posted frame is bound under. -/
def postVid (f : Frame) : Nat := match f.vlan with | some v => v.2 | none => 1
def postPcp (f : Frame) : Nat := match f.vlan with | some v => v.1 | none => 0

/-- The state in which H1 binds the oldest posted frame: it has left the list, and its source is noted. -/
def State.h1Noted (s : State) (f : Frame) (rest : List H1Item) : State :=
  (s.updSwc fun c => { c with h1q := rest, ownSrc := if c.ownSrc.contains f.sa then c.ownSrc else f.sa :: c.ownSrc }).proxySeen 11 f.sa

/-- How a frame posted for named ports is bound in a state. -/
def State.h1Bound (u : State) (i : H1Item) (mask : Nat) : Bound :=
  { ports := (List.range 12).filter mask.testBit, queue := i.queue.getD (u.queueOf i.frame (postPcp i.frame))
    lane := u.laneOf i.frame (postVid i.frame), rsel := 0, vid := postVid i.frame, pcp := postPcp i.frame }

/-- The entry of a posted frame before it is offered. -/
def State.h1Entry (u : State) (i : H1Item) : QEntry :=
  { id := 0, frame := i.frame, cells := 0, stamp := u.short, ing := 11, rsel := 0, tsReq := i.tsReq, oneStep := i.oneStep, fn := i.fn }

theorem State.h1Take_direct {s : State} {i : H1Item} {rest : List H1Item} {mask : Nat} (hq : s.swc.h1q = i :: rest) (h64 : 64 ≤ i.frame.size)
    (hrun : s.running pSWC = true) (hfree : cellsOf i.frame.size ≤ s.lndFree) (hd : i.direct = some mask) :
    s.h1Take = (s.h1Noted i.frame rest).enqueue i.frame ((s.h1Noted i.frame rest).h1Bound i mask) ((s.h1Noted i.frame rest).h1Entry i) i.seq := by
  simp only [State.h1Take, hq, hrun, Nat.not_lt.2 h64, if_false, Nat.not_lt.2 hfree, Bool.not_true, Bool.false_or, decide_false,
    Bool.false_eq_true, hd]
  rfl

theorem State.h1Take_waits {s : State} {i : H1Item} {rest : List H1Item} (hq : s.swc.h1q = i :: rest) (h64 : 64 ≤ i.frame.size)
    (hfree : s.lndFree < cellsOf i.frame.size) : s.h1Take = s := by
  simp [State.h1Take, hq, Nat.not_lt.2 h64, hfree]

/-- What H1's note leaves for the decision: everything but the lists of the Crosscut. -/
theorem State.h1Noted_spec (s : State) (f : Frame) (rest : List H1Item) :
    ∃ w, (s.h1Noted f rest).swc = w ∧ w.nextId = s.swc.nextId ∧ w.landing = s.swc.landing ∧ w.h1q = rest ∧
      ({ s with swc := w } : State).Quiet [pRED] (s.h1Noted f rest) := by
  unfold State.h1Noted
  generalize hs : (s.updSwc fun c => { c with
    h1q := rest, ownSrc := if c.ownSrc.contains f.sa then c.ownSrc else f.sa :: c.ownSrc }) = t
  obtain ⟨w, hw, hid, hland, hq, hquiet⟩ := t.proxySeen_spec 11 f.sa
  refine ⟨w, hw, hid.trans (by rw [← hs]; rfl), hland.trans (by rw [← hs]; rfl), hq.trans (by rw [← hs]; rfl), ?_⟩
  have hfrom : ({ t with swc := w } : State) = { s with swc := w } := by rw [← hs]; rfl
  rw [← hfrom]
  exact hquiet

/-- A frame posted for one port that accepts it. -/
theorem State.h1Take_one {s t : State} {i : H1Item} {rest : List H1Item} {mask e : Nat} (hq : s.swc.h1q = i :: rest) (h64 : 64 ≤ i.frame.size)
    (hrun : s.running pSWC = true) (hfree : cellsOf i.frame.size ≤ s.lndFree) (hd : i.direct = some mask) (hseq : i.seq = none)
    (het : i.frame.et ≠ 0x8808) (he : (List.range 12).filter mask.testBit = [e]) (h10 : e ≠ 10) (hpair : s.pairOf e = none) {q : Nat}
    (hqueue : q = i.queue.getD (s.queueOf i.frame (postPcp i.frame)))
    (hok : s.egRefuse e q (s.egFrame e i.frame (postVid i.frame) (postPcp i.frame) 0) s.short = none) (ht : t = s.h1Take) :
    ∃ x : QEntry, x.id = s.swc.nextId ∧ x.frame = s.egFrame e i.frame (postVid i.frame) (postPcp i.frame) 0 ∧ x.ing = 11 ∧
      x.stamp = s.short ∧ x.tsReq = i.tsReq ∧ (t.eg e).q = (s.eg e).q.set q ((((s.eg e).q[q]?).getD []) ++ [x]) ∧
      (∀ q, q ≠ e → t.eg q = s.eg q) ∧ t.swc.h1q = rest ∧
      t.swc.landing = s.swc.landing ++ [(s.swc.nextId, cellsOf i.frame.size, 1)] := by
  rw [State.h1Take_direct hq h64 hrun hfree hd] at ht
  obtain ⟨w, hw, hid, hland, hlist, hquiet⟩ := s.h1Noted_spec i.frame rest
  generalize s.h1Noted i.frame rest = u at ht hw hquiet
  -- Nothing the decision reads lies in the Crosscut's lists.
  have hshort : u.short = s.short := hquiet.short
  have hframe : u.egFrame e i.frame (postVid i.frame) (postPcp i.frame) 0 = s.egFrame e i.frame (postVid i.frame) (postPcp i.frame) 0 :=
    hquiet.egFrame e _ _ _ _
  have hq' : (u.h1Bound i mask).queue = q :=
    (congrArg (fun n => i.queue.getD n) (hquiet.queueOf i.frame (postPcp i.frame))).trans hqueue.symm
  have hrefuse : u.egRefuse e q (u.egFrame e i.frame (postVid i.frame) (postPcp i.frame) 0) u.short = none := by
    rw [hframe, hshort]
    exact (hquiet.egRefuse e q _ _).trans hok
  obtain ⟨v, y, hy, hv, henq⟩ := State.enqueue_one (b := u.h1Bound i mask) (x := u.h1Entry i) (seq := i.seq) he het h10
    ((hquiet.pairOf e).trans hpair) hseq rfl (by rw [hq']; exact hrefuse)
  obtain ⟨fl, po, mf, hland', -, -⟩ := v.landed_shape u.swc.nextId (cellsOf i.frame.size) 1
  rw [henq, hland'] at ht
  rw [hq'] at hv
  have hbase (r : Nat) : State.eg { u with swc := { u.swc with nextId := u.swc.nextId + 1 } } r = s.eg r := hquiet.eg r
  have hvswc : v.swc = { u.swc with nextId := u.swc.nextId + 1 } := by rw [hv, State.accepted_swc]
  have heg (r : Nat) : t.eg r = v.eg r := by rw [ht]; rfl
  refine ⟨y, ?_, ?_, ?_, ?_, ?_, ?_, fun r hr => ?_, ?_, ?_⟩
  · rw [hy]; exact (congrArg Swc.nextId hw).trans hid
  · rw [hy]; exact hframe
  · rw [hy]; rfl
  · rw [hy]; exact hshort
  · rw [hy]; rfl
  · rw [heg, hv, State.accepted_eg, hbase]
  · rw [heg, hv, State.accepted_eg_other _ q y hr, hbase]
  · rw [ht, hvswc, hw]; exact hlist
  · rw [ht, hvswc, hw]; simp only [hland, hid]

/-- A MAC control frame posted for named ports reaches none of P0 to P9. -/
theorem State.h1Take_control {s t : State} {i : H1Item} {rest : List H1Item} {mask : Nat} (hq : s.swc.h1q = i :: rest)
    (h64 : 64 ≤ i.frame.size) (hrun : s.running pSWC = true) (hfree : cellsOf i.frame.size ≤ s.lndFree) (hd : i.direct = some mask)
    (het : i.frame.et = 0x8808) (ht : t = s.h1Take) : t.swc.h1q = rest ∧ ∀ e, e ≤ 9 → t.eg e = s.eg e := by
  rw [State.h1Take_direct hq h64 hrun hfree hd] at ht
  obtain ⟨w, hw, -, -, hlist, hquiet⟩ := s.h1Noted_spec i.frame rest
  generalize s.h1Noted i.frame rest = u at ht hw hquiet
  obtain ⟨hkeep, hother⟩ := u.enqueue_keeps i.frame (u.h1Bound i mask) (u.h1Entry i) i.seq
  rw [← ht] at hkeep hother
  refine ⟨hkeep.trans ((congrArg Swc.h1q hw).trans hlist), fun e he => (hother e ?_).trans (hquiet.eg e)⟩
  rw [if_pos het, List.mem_filter]
  simp only [decide_eq_true_eq]
  omega

/-! ### Selection (R72) -/

/-- The highest number of a list of the first ones that satisfies a test. -/
theorem find?_reverse_range {P : Nat → Bool} {n q : Nat} (hq : q < n) (hp : P q = true) (hn : ∀ r, q < r → r < n → P r = false) :
    (List.range n).reverse.find? P = some q := by
  induction n with
  | zero => exact absurd hq (Nat.not_lt_zero q)
  | succ n ih =>
    rw [List.range_succ, List.reverse_append, List.reverse_singleton, List.singleton_append]
    obtain h | rfl := Nat.lt_or_eq_of_le (Nat.le_of_lt_succ hq)
    · rw [List.find?_cons_of_neg (by rw [hn n h (Nat.lt_succ_self n)]; decide)]
      exact ih h fun r h1 h2 => hn r h1 (Nat.lt_succ_of_lt h2)
    · exact List.find?_cons_of_pos hp

/-- The head of the highest queue that is open and holds a frame starts, where it fits, is not aged and needs no MACsec. -/
theorem State.select_plain {s v : State} {e q n : Nat} {x : QEntry} {rest : List QEntry} (he : e ≤ 9) (hq : q < 8)
    (hx : (s.eg e).q[q]? = some (x :: rest)) (hnone : ∀ r, q < r → r < 8 → (s.eg e).q[r]? = some []) (hopen : s.gateOpen e q = true)
    (haged : s.aged e q x = false) (hfits : s.fits e q x = true) (hptp : ∀ m, x.frame.body ≠ .ptp m)
    (hv : v = ((s.deq e q).lndRead x.id x.cells e).2.bump (pEG e) (qCnt q 1)) (hsec : v.egMacsec e x.frame = false) :
    s.select e (n + 1) = v.setEg e { v.eg e with fly := [{ x with
      frame := { x.frame with fcsOk := x.frame.fcsOk && !((s.deq e q).lndRead x.id x.cells e).1 }
      egNs := v.ns, egFrac := if e = 6 ∨ e = 7 then 0 else v.frac }] } := by
  have h10 : (e != 10) = true := by rw [bne_iff_ne]; omega
  have hhead : (((s.eg e).q[q]?).getD []).head? = some x := by rw [hx]; rfl
  have hout (fr : Nat) : v.ptpOut e x v.ns fr = (x.frame, v) := by
    unfold State.ptpOut
    split
    next m h => exact absurd h (hptp m)
    · rfl
  have htx : v.macsecTx e x.frame = (some x.frame, v) := by rw [State.macsecTx, hsec]; rfl
  have h9 : ¬9 < e := by omega
  have haged' : (s.deq e q).aged e q x = false := haged
  unfold State.select
  dsimp only
  rw [find?_reverse_range hq]
  · dsimp only
    rw [hhead]
    dsimp only
    rw [haged', if_neg Bool.false_ne_true, if_neg h9, ← hv, hout, htx]
    simp only [Bool.or_eq_true, decide_eq_true_eq]
  · rw [hhead]
    dsimp only
    rw [hopen, hfits, h10, Bool.or_true, Bool.true_or]
    rfl
  · intro r h1 h2
    rw [hnone r h1 h2]
    rfl

end Sys2Proof.Machine
end

section
/-! The end of a transmission (R70, R77, R106, R107), and O19. -/
namespace Sys2Proof.Machine
open Sys2Proof

theorem State.Quiet.withEgs {ps : List Nat} {s t : State} (h : s.Quiet ps t) (l : List (Nat × EgPort)) :
    ({ s with egs := l } : State).Quiet ps { t with egs := l } :=
  ⟨congrArg (fun u : State => { u with egs := l }) h.rest, h.hd, h.hdIn, h.cn⟩

/-! ### Selection: what it leaves -/

theorem State.deq_eg {s : State} {e q : Nat} {x : QEntry} {rest : List QEntry} (hx : (s.eg e).q[q]? = some (x :: rest)) :
    (s.deq e q).eg e = { s.eg e with q := (s.eg e).q.set q rest } := by
  refine (s.eg_setEg e _).trans ?_
  rw [hx]
  rfl

theorem portFrameSelect_spec {s : State} {e q : Nat} {x : QEntry} {rest : List QEntry} (hon : s.onMain = true) (he : e ≤ 9)
    (hidle : s.egIdle e = true) (hq : q < 8)
    (hx : (s.eg e).q[q]? = some (x :: rest)) (hnone : ∀ r, q < r → r < 8 → (s.eg e).q[r]? = some []) (hopen : s.gateOpen e q = true)
    (haged : s.aged e q x = false) (hfits : s.fits e q x = true) (hsec : s.egMacsec e x.frame = false)
    (hptp : ∀ m, x.frame.body ≠ .ptp m) :
    ∃ t, exec (.portFrameSelect e) s = .next t ∧
      t.eg e = { s.eg e with
        q := (s.eg e).q.set q rest
        fly := [{ x with
          frame := { x.frame with fcsOk := x.frame.fcsOk && !((s.deq e q).lndRead x.id x.cells e).1 }
          egNs := s.ns, egFrac := if e = 6 ∨ e = 7 then 0 else s.frac }] } ∧
      (∀ r, r ≠ e → t.eg r = s.eg r) ∧
      t.cn (pEG e) (qCnt q 1) = min (cntMax (pEG e) (qCnt q 1)) (s.cn (pEG e) (qCnt q 1) + 1) ∧
      (s.flips = [] → s.poison = [] → ({ s with egs := t.egs } : State).Quiet [pEG e] t) := by
  obtain ⟨u, hu, hexec⟩ := act_next (f := fun s : State => if s.egIdle e then s.select e (s.egLoad e) else s) hon
  have hread := (State.MemRead.refl (s.deq e q)).lndRead x.id x.cells e
  have hclean : s.flips = [] → s.poison = [] → ((s.deq e q).lndRead x.id x.cells e).2 = s.deq e q := by
    intro h1 h2
    have h1' : (s.deq e q).flips = [] := h1
    have h2' : (s.deq e q).poison = [] := h2
    rw [State.lndRead, h1', h2']
    rfl
  have hoff : qCnt q 1 < 4096 := by unfold qCnt; omega
  have hsel := State.select_plain (n := ((s.eg e).q.map List.length).sum) he hq hx hnone hopen haged hfits hptp rfl ?_
  · rw [if_pos hidle, State.egLoad, hsel] at hu
    generalize ((s.deq e q).lndRead x.id x.cells e).1 = bad at hu ⊢
    generalize ((s.deq e q).lndRead x.id x.cells e).2 = m at hu hread hclean
    have hm : m.Quiet [pEG e] (m.bump (pEG e) (qCnt q 1)) := (State.Quiet.refl _ _).bump (by simp) _ hoff
    have hcnt : (m.bump (pEG e) (qCnt q 1)).cn (pEG e) (qCnt q 1) =
        min (cntMax (pEG e) (qCnt q 1)) (s.cn (pEG e) (qCnt q 1) + 1) := by
      have hpage : pEG e ∉ [pMEM] := by simp only [List.mem_singleton, pEG, pMEM]; omega
      rw [m.cn_bump, State.Quiet.cn hread (pEG e) (qCnt q 1) hpage hoff]
      rfl
    generalize m.bump (pEG e) (qCnt q 1) = v at hu hm hcnt
    have heg (r : Nat) : v.eg r = (s.deq e q).eg r := (hm.eg r).trans (State.Quiet.eg hread r)
    have hmtsu := State.Quiet.tsu hread
    have htsu : v.tsu = s.tsu := hm.tsu.trans hmtsu
    have hns : v.ns = s.ns := by rw [State.ns, htsu]; rfl
    have hfrac : v.frac = s.frac := by rw [State.frac, htsu]; rfl
    rw [heg, State.deq_eg hx, hns, hfrac] at hu
    have hself := hu ▸ v.eg_setEg e _
    have hother (r : Nat) (h : r ≠ e) : u.eg r = s.eg r := by
      rw [hu, v.eg_setEg_other e r _ h, heg]; exact s.eg_setEg_other e r _ h
    have hquiet (h1 : s.flips = []) (h2 : s.poison = []) : ({ s with egs := u.egs } : State).Quiet [pEG e] u := by
      have hv : (s.deq e q).Quiet [pEG e] v := hclean h1 h2 ▸ hm
      rw [hu]
      exact hv.withEgs _
    have hcn : u.cn (pEG e) (qCnt q 1) = min (cntMax (pEG e) (qCnt q 1)) (s.cn (pEG e) (qCnt q 1) + 1) := by rw [hu]; exact hcnt
    clear hu
    exact ⟨_, (exec_portFrameSelect e s).trans hexec, hself, hother, hcn, fun h1 h2 => (hquiet h1 h2).pend⟩
  · have h1 := State.Quiet.egMacsec hread e x.frame
    have h2 := ((State.Quiet.refl [pEG e] ((s.deq e q).lndRead x.id x.cells e).2).bump (p := pEG e) (by simp) _ hoff).egMacsec e x.frame
    exact h2.trans (h1.trans hsec)

/-! ### The end of a transmission -/

/-- What capturing a stamp and starting a pause leave of a port that has sent a frame. -/
structure State.Sent (e : Nat) (s t : State) : Prop where
  egs : t.egs = s.egs
  swc : t.swc = s.swc
  frames : t.cn (pMAC e) R.MAC_CNT_TX_FRAMES = s.cn (pMAC e) R.MAC_CNT_TX_FRAMES
  quiet : ({ s with macs := t.macs } : State).Quiet [pMAC e] t

theorem State.Sent.refl (e : Nat) (s : State) : s.Sent e s := ⟨rfl, rfl, rfl, .refl _ _⟩

theorem State.Sent.trans {e : Nat} {s t u : State} (h : s.Sent e t) (h' : t.Sent e u) : s.Sent e u := by
  refine ⟨h'.egs.trans h.egs, h'.swc.trans h.swc, h'.frames.trans h.frames, ?_⟩
  have hq := State.Quiet.withPorts h.quiet u.macs s.egs s.swc
  have hfrom : ({ t with macs := u.macs, egs := s.egs, swc := s.swc } : State) = { t with macs := u.macs } := by rw [← h.egs, ← h.swc]
  rw [hfrom] at hq
  exact hq.trans h'.quiet

theorem State.sent_setMac (e : Nat) (s : State) (m : Mac) : s.Sent e (s.setMac e m) := ⟨rfl, rfl, rfl, .refl _ _⟩

theorem State.sent_stampLost (e : Nat) (s : State) : s.Sent e ((s.bump (pMAC e) R.MAC_CNT_TS_DROP).irq (pMAC e) 10) := by
  have hq : s.Quiet [pMAC e] ((s.bump (pMAC e) R.MAC_CNT_TS_DROP).irq (pMAC e) 10) :=
    ((State.Quiet.refl _ s).bump (by simp) _ (by decide)).irq (by simp) _
  refine ⟨hq.egs, hq.swc, ?_, ?_⟩
  · rw [State.cn, State.irq_cnts]
    exact s.cn_bump_other _ _ _ _ fun h => absurd ((ka_inj (by decide) (by decide)).1 h).2 (by decide)
  · have hfrom : ({ s with macs := ((s.bump (pMAC e) R.MAC_CNT_TS_DROP).irq (pMAC e) 10).macs } : State) = s := by rw [hq.macs]
    rw [hfrom]
    exact hq

theorem State.sent_txStamp (s : State) (e tag : Nat) (x : QEntry) : s.Sent e (s.txStamp e tag x) := by
  unfold State.txStamp
  dsimp only
  split
  · exact (s.sent_setMac e _).trans (State.sent_stampLost e _)
  · exact s.sent_setMac e _

theorem State.pauseWait_txStamp (s : State) (e tag : Nat) (x : QEntry) : ((s.txStamp e tag x).mac e).pauseWait = (s.mac e).pauseWait := by
  unfold State.txStamp
  dsimp only
  split
  · have hq (t : State) : t.Quiet [pMAC e] ((t.bump (pMAC e) R.MAC_CNT_TS_DROP).irq (pMAC e) 10) :=
      ((State.Quiet.refl _ t).bump (by simp) _ (by decide)).irq (by simp) _
    rw [(hq _).mac, State.mac_setMac]
  · rw [State.mac_setMac]

/-- A stamp for which the FIFO has room enters it. -/
theorem State.txStamp_room {s : State} {e : Nat} (tag : Nat) (x : QEntry) (h : (s.mac e).tsf.length < 64) :
    ∃ st fr, ((s.txStamp e tag x).mac e).tsf = (s.mac e).tsf ++ [(st, tag, fr, e != 6 && e != 7)] ∧
      ((s.txStamp e tag x).mac e).lastTag = tag := by
  unfold State.txStamp
  dsimp only
  rw [if_neg (Nat.not_le.2 h), State.mac_setMac]
  exact ⟨_, _, rfl, rfl⟩

theorem State.sent_pauseBegin (s : State) (e : Nat) : s.Sent e (s.pauseBegin e) := by
  unfold State.pauseBegin
  dsimp only
  split
  · exact s.sent_setMac e _
  · exact .refl e s

theorem State.pauseBegin_idle {s : State} {e : Nat} (h : (s.mac e).pauseWait = false) : s.pauseBegin e = s := by
  simp [State.pauseBegin, h]

theorem State.pauseBegin_waits {s : State} {e : Nat} (h : (s.mac e).pauseWait = true) :
    s.pauseBegin e = s.setMac e { s.mac e with pauseWait := false, pauseStartClk := s.tsu.clk } := by
  simp [State.pauseBegin, h]

/-- The stamp FIFO and its tag are not the pause's. -/
theorem State.tsf_pauseBegin (s : State) (e : Nat) :
    ((s.pauseBegin e).mac e).tsf = (s.mac e).tsf ∧ ((s.pauseBegin e).mac e).lastTag = (s.mac e).lastTag := by
  unfold State.pauseBegin
  dsimp only
  split
  · rw [State.mac_setMac]; exact ⟨rfl, rfl⟩
  · exact ⟨rfl, rfl⟩

/-- The stamp of a frame where one was asked for. -/
def State.stampOf (s : State) (e : Nat) (x : QEntry) : State := match x.tsReq with | none => s | some tag => s.txStamp e tag x

/-- The counts and the output of a frame that leaves. -/
def State.txCounted (s : State) (e : Nat) (f : Frame) : State :=
  ((s.bump (pMAC e) R.MAC_CNT_TX_FRAMES).bumpBy (pMAC e) R.MAC_CNT_TX_BYTES f.size).emit (.tx e f)

theorem State.txCounted_spec (s : State) (e : Nat) (f : Frame) :
    s.Quiet [pMAC e] (s.txCounted e f) ∧ (s.txCounted e f).cn (pMAC e) R.MAC_CNT_TX_FRAMES =
      min (cntMax (pMAC e) R.MAC_CNT_TX_FRAMES) (s.cn (pMAC e) R.MAC_CNT_TX_FRAMES + 1) := by
  have hemit (t : State) (o : Output) : t.Quiet [pMAC e] (t.emit o) := ⟨rfl, fun _ _ => rfl, fun _ => rfl, fun _ _ _ _ => rfl⟩
  refine ⟨(((State.Quiet.refl _ s).bump (by simp) _ (by decide)).bumpBy (by simp) _ _ (by decide)).trans (hemit _ _), ?_⟩
  unfold State.txCounted
  rw [State.cn, State.emit_cnts]
  refine (State.cn_bumpBy_other _ _ _ _ _ _ fun h => ?_).trans (s.cn_bump _ _)
  exact absurd ((ka_inj (by decide) (by decide)).1 h).2 (by decide)

theorem State.txDone_port {s : State} {e : Nat} {x : QEntry} {rest : List QEntry} (he : e ≤ 9) (hrun : s.running pSWC = true)
    (hf : (s.eg e).fly = x :: rest) (hy : e = 8 → s.swc.yard = []) :
    s.txDone e = ((((s.setEg e { s.eg e with fly := rest }).lndDrop x.id).txCounted e x.frame).stampOf e x).pauseBegin e := by
  have h10 : ¬e = 10 := by omega
  have h11 : ¬e = 11 := by omega
  have heq : s.txDone e =
      let t := ((((s.setEg e { s.eg e with fly := rest }).lndDrop x.id).txCounted e x.frame).stampOf e x).pauseBegin e
      if e = 8 then t.yardDrain else t := by
    simp only [State.txDone, hrun, Bool.not_true, Bool.false_eq_true, if_false, hf, h10, h11]
    rfl
  rw [heq]
  dsimp only
  split
  next h8 =>
    have hc := (((s.setEg e { s.eg e with fly := rest }).lndDrop x.id).txCounted_spec e x.frame).1.swc
    generalize ht : ((s.setEg e { s.eg e with fly := rest }).lndDrop x.id).txCounted e x.frame = t at hc
    have hs : t.Sent e (t.stampOf e x) := by
      unfold State.stampOf
      split
      · exact .refl e t
      · exact t.sent_txStamp e _ x
    have hyard : ((t.stampOf e x).pauseBegin e).swc.yard = [] := by
      rw [((t.stampOf e x).sent_pauseBegin e).swc, hs.swc, hc]
      exact hy h8
    generalize (t.stampOf e x).pauseBegin e = u at hyard
    rw [State.yardDrain, hyard]
    change { u with swc := { u.swc with yard := [] } } = u
    rw [← hyard]
  · rfl

/-- One share of a frame less: what stands in the Landing afterwards stood there with one more. -/
theorem State.lndDrop_landing {s : State} {n id k c : Nat} (h : (id, c, k) ∈ (s.lndDrop n).swc.landing) (hid : id = n) :
    (id, c, k + 1) ∈ s.swc.landing := by
  have hmem : (id, c, k) ∈ ((s.swc.landing.map fun x => if x.1 = n then (x.1, x.2.1, x.2.2 - 1) else x).filter fun x => x.2.2 != 0) := h
  rw [List.mem_filter, List.mem_map] at hmem
  obtain ⟨⟨⟨id', c', k'⟩, hin, heq⟩, hk⟩ := hmem
  have hk0 : k ≠ 0 := by simpa using hk
  by_cases hn : id' = n
  · simp only [hn, if_true, Prod.mk.injEq] at heq
    obtain ⟨h1, h2, h3⟩ := heq
    have hk' : k' = k + 1 := by omega
    rw [← h2, ← hk', hid, ← hn]
    exact hin
  · simp only [hn, if_false, Prod.mk.injEq] at heq
    exact absurd (heq.1.trans hid) hn

/-- What a frame that leaves a port changes. -/
theorem State.txDone_spec {s t : State} {e : Nat} {x : QEntry} {rest : List QEntry} (he : e ≤ 9) (hrun : s.running pSWC = true)
    (hf : (s.eg e).fly = x :: rest) (hy : e = 8 → s.swc.yard = []) (ht : t = s.txDone e) :
    t.eg e = { s.eg e with fly := rest } ∧ (∀ r, r ≠ e → t.eg r = s.eg r) ∧
      t.cn (pMAC e) R.MAC_CNT_TX_FRAMES = min (cntMax (pMAC e) R.MAC_CNT_TX_FRAMES) (s.cn (pMAC e) R.MAC_CNT_TX_FRAMES + 1) ∧
      (∀ id k c, (id, c, k) ∈ t.swc.landing → id = x.id → (id, c, k + 1) ∈ s.swc.landing) ∧
      (x.tsReq = none → (s.mac e).pauseWait = false → t.macs = s.macs) ∧
      ((s.mac e).pauseWait = true → (t.mac e).pauseWait = false ∧ (t.mac e).pauseStartClk = s.tsu.clk) ∧
      (∀ tag, x.tsReq = some tag → (s.mac e).tsf.length < 64 →
        ∃ st fr, (t.mac e).tsf = (s.mac e).tsf ++ [(st, tag, fr, e != 6 && e != 7)] ∧ (t.mac e).lastTag = tag) ∧
      ({ s with egs := t.egs, macs := t.macs, swc := { s.swc with landing := t.swc.landing } } : State).Quiet [pMAC e] t := by
  rw [State.txDone_port he hrun hf hy] at ht
  generalize hb : (s.setEg e { s.eg e with fly := rest }).lndDrop x.id = b at ht
  have hbeg (r : Nat) : b.eg r = (s.setEg e { s.eg e with fly := rest }).eg r := by rw [← hb]; rfl
  have hland (id k c : Nat) (h : (id, c, k) ∈ b.swc.landing) (hid : id = x.id) : (id, c, k + 1) ∈ s.swc.landing := by
    rw [← hb] at h; exact State.lndDrop_landing (s := s.setEg e { s.eg e with fly := rest }) h hid
  have hbshape : b = { s with egs := b.egs, swc := { s.swc with landing := b.swc.landing } } := by rw [← hb]; rfl
  have hbmacs : b.macs = s.macs := by rw [hbshape]
  have hbtsu : b.tsu = s.tsu := by rw [hbshape]
  have hbcn : b.cn (pMAC e) R.MAC_CNT_TX_FRAMES = s.cn (pMAC e) R.MAC_CNT_TX_FRAMES := by rw [hbshape]; rfl
  clear hb
  obtain ⟨hq, hcn⟩ := b.txCounted_spec e x.frame
  generalize b.txCounted e x.frame = c at ht hq hcn
  have hcmac : c.mac e = s.mac e := by rw [State.mac, hq.macs, hbmacs]; rfl
  have hstamp : c.Sent e (c.stampOf e x) := by
    unfold State.stampOf
    split
    · exact .refl e c
    · exact c.sent_txStamp e _ x
  have hwait : ((c.stampOf e x).mac e).pauseWait = (s.mac e).pauseWait := by
    rw [← hcmac]
    unfold State.stampOf
    split
    · rfl
    · exact c.pauseWait_txStamp e _ x
  have hnone (h : x.tsReq = none) : c.stampOf e x = c := by rw [State.stampOf, h]
  have hroom (tag : Nat) (h : x.tsReq = some tag) (hlen : (s.mac e).tsf.length < 64) : ∃ st fr,
      ((c.stampOf e x).mac e).tsf = (s.mac e).tsf ++ [(st, tag, fr, e != 6 && e != 7)] ∧ ((c.stampOf e x).mac e).lastTag = tag := by
    rw [State.stampOf, h, ← hcmac]
    exact State.txStamp_room tag x (by rw [hcmac]; exact hlen)
  generalize c.stampOf e x = d at ht hstamp hwait hnone hroom
  have hpause := d.sent_pauseBegin e
  obtain ⟨htsf, htag⟩ := d.tsf_pauseBegin e
  rw [← ht] at hpause htsf htag
  have hsent : c.Sent e t := hstamp.trans hpause
  have heg (r : Nat) : t.eg r = (s.setEg e { s.eg e with fly := rest }).eg r := by
    rw [← hbeg, State.eg, hsent.egs, hq.egs]; rfl
  refine ⟨(heg e).trans (s.eg_setEg e _), fun r h => (heg r).trans (s.eg_setEg_other e r _ h), ?_, fun id k n h => ?_, fun h1 h2 => ?_,
    fun h => ?_, fun tag h hlen => ?_, ?_⟩
  · rw [hsent.frames, hcn, hbcn]
  · rw [hsent.swc, hq.swc] at h
    exact hland id k n h
  · rw [ht, State.pauseBegin_idle (hwait.trans h2), hnone h1, hq.macs, hbmacs]
  · have hd : d.tsu = s.tsu := by
      have h1 := hstamp.quiet.tsu
      exact h1.trans (hq.tsu.trans hbtsu)
    rw [ht, State.pauseBegin_waits (hwait.trans h), State.mac_setMac, hd]
    exact ⟨rfl, rfl⟩
  · obtain ⟨st, fr, h1, h2⟩ := hroom tag h hlen
    exact ⟨st, fr, htsf.trans h1, htag.trans h2⟩
  · have h1 := hq.withPorts t.macs t.egs t.swc
    have hfrom : ({ b with macs := t.macs, egs := t.egs, swc := t.swc } : State) =
        { s with egs := t.egs, macs := t.macs, swc := { s.swc with landing := t.swc.landing } } := by
      rw [hsent.swc, hq.swc, hbshape]
    rw [hfrom] at h1
    have hto : ({ c with macs := t.macs, egs := t.egs, swc := t.swc } : State) = { c with macs := t.macs } := by
      rw [hsent.egs, hsent.swc]
    rw [hto] at h1
    exact h1.trans hsent.quiet

/-- Settles O19: `h1Take_one` and `h1Take_control`, `portFrameSelect_spec`, and `txDone_spec`. -/
theorem postingAndSending : Obligations.PostingAndSending := by
  refine ⟨fun i rest s hon hq h64 => ⟨fun hfree => ?_, fun mask hrun hfree hd het => ?_, fun mask e hrun hfree hd hseq het hp h10 hpair => ?_⟩,
    fun e x rest s hon he => ⟨fun q hidle hq hx hnone hopen haged hfits hsec hptp =>
      portFrameSelect_spec hon he hidle hq hx hnone hopen haged hfits hsec hptp, fun hrun hf hy => ?_, fun hrun hf => ?_⟩⟩
  · rw [exec_h1Post]
    exact act_same (State.h1Take_waits hq h64 hfree)
  · obtain ⟨u, hu, hexec⟩ := act_next (f := State.h1Take) hon
    obtain ⟨hlist, hegs⟩ := State.h1Take_control hq h64 hrun hfree hd het hu
    exact ⟨_, (exec_h1Post s).trans hexec, hlist, hegs⟩
  · intro vid pcp q hvid hpcp hqueue hok
    obtain ⟨u, hu, hexec⟩ := act_next (f := State.h1Take) hon
    obtain rfl : vid = postVid i.frame := hvid
    obtain rfl : pcp = postPcp i.frame := hpcp
    obtain ⟨x, hid, hframe, hing, hst, hts, hself, hother, hlist, hland⟩ :=
      State.h1Take_one hq h64 hrun hfree hd hseq het hp h10 hpair hqueue hok hu
    exact ⟨_, x, (exec_h1Post s).trans hexec, hid, hframe, hing, hst, hts, hself, hother, hlist, hland⟩
  · obtain ⟨u, hu, hexec⟩ := act_next (f := fun s => s.txDone e) hon
    obtain ⟨hself, hother, hcn, hland, hmacs, hpause, hstamp, hquiet⟩ := State.txDone_spec he hrun hf hy hu
    exact ⟨_, (exec_frameTxDone e s).trans hexec, hself, hother, hcn, hland, hmacs, hpause, hstamp, hquiet.pend⟩
  · obtain ⟨u, hu, hexec⟩ := act_next (f := fun s => s.txDone 11) hon
    have heq : s.txDone 11 = ((s.setEg 11 { s.eg 11 with fly := rest }).lndDrop x.id).updSwc fun c => { c with h1rx := c.h1rx ++ [x] } := by
      simp only [State.txDone, hrun, Bool.not_true, Bool.false_eq_true, if_false, hf]
      rfl
    rw [heq] at hu
    have heg : u.eg 11 = { s.eg 11 with fly := rest } := by rw [hu]; exact s.eg_setEg 11 _
    have hrx : u.swc.h1rx = s.swc.h1rx ++ [x] := by rw [hu]; rfl
    have hshape : { u with pending := s.pending } =
        { s with egs := u.egs, swc := { s.swc with landing := u.swc.landing, h1rx := u.swc.h1rx } } := by rw [hu]; rfl
    exact ⟨_, (exec_frameTxDone 11 s).trans hexec, hrx, heg, hshape⟩

end Sys2Proof.Machine
end

section
/-!
PROOFS. Supplies and resets: the FINAL saves a warning or a preparation begins, requests for a reset, and the two contacts (R429, R433, R441).
-/
namespace Sys2Proof.Machine
open Sys2Proof

/-- What is quiet beside the fields that `a` has of its own: only its remainder has to be shown. -/
theorem State.Quiet.over {ps : List Nat} {s u a t : State} (h : s.Quiet ps u)
    (rest : t = { a with
      hdrs := t.hdrs, cnts := t.cnts, vecs := t.vecs, out := t.out, shf := { a.shf with intr := t.shf.intr, msix := t.shf.msix } })
    (hh : t.hdrs = u.hdrs) (hc : t.cnts = u.cnts) (ah : a.hdrs = s.hdrs) (ac : a.cnts = s.cnts) : a.Quiet ps t where
  rest := rest
  hd q hq := by have := h.hd q hq; simpa only [State.hd, hh, ah] using this
  hdIn q := by have := h.hdIn q; simpa only [State.hd, hh, ah] using this
  cn q off hq ho := by have := h.cn q off hq ho; simpa only [State.cn, hc, ac] using this

/-- A counter that counts and an interrupt raised on the same page: quiet, the bit set, the counter one more or at its end. -/
theorem State.bump_irq_spec (s : State) (p : Nat) {o i : Nat} (ho : o < 4096) (hi : i < 32) :
    s.Quiet [p] ((s.bump p o).irq p i) ∧ bit (((s.bump p o).irq p i).hd p).irqStatus i = true ∧
      ((s.bump p o).irq p i).cn p o = min (cntMax p o) (s.cn p o + 1) :=
  ⟨((State.Quiet.refl [p] s).bump (by simp) o ho).irq (by simp) i, State.bit_irq _ _ hi,
    by rw [State.cn, State.irq_cnts]; exact s.cn_bump p o⟩

/-! ### FINAL saves (R287) -/

/-- Nothing but the tally engines, MRAM, the event deck and the mark of the FINAL saves can differ. -/
def State.Finals (s t : State) : Prop :=
  t = { s with tals := t.tals, mram := t.mram, evr := t.evr, pwr := { s.pwr with finalDone := t.pwr.finalDone } }

/-- The newest save of the engine is a FINAL one. -/
def State.LastFinal (s : State) (e : Nat) : Prop := ∃ v, (s.te e).saves.getLast? = some v ∧ v.final = true

theorem State.Finals.refl (s : State) : s.Finals s := rfl

theorem State.Finals.trans {s t u : State} (h : s.Finals t) (h' : t.Finals u) : s.Finals u := by
  unfold State.Finals at h h' ⊢
  rw [h] at h'
  rw [h']

theorem State.Finals.foldl {α : Type} {f : State → α → State} (l : List α) (hf : ∀ (s : State) x, s.Finals (f s x)) (s : State) :
    s.Finals (l.foldl f s) := by
  induction l generalizing s with
  | nil => exact .refl s
  | cons x l ih => exact (hf s x).trans (ih _)

theorem State.finals_deck (s : State) (src cls typ : Nat) (body : List Nat) : s.Finals (s.deck src cls typ body) := rfl

theorem State.finals_saveStart (s : State) (e k : Nat) (final : Bool) : s.Finals (s.saveStart e k final) := by
  unfold State.saveStart State.saveOpen
  dsimp only
  split
  · split
    · exact rfl
    · exact rfl
  · exact rfl

theorem State.finals_finalRecords (s : State) : s.Finals s.finalRecords := by
  unfold State.finalRecords
  dsimp only
  generalize hf : List.foldl _ s _ = t
  have h : s.Finals t := hf ▸ State.Finals.foldl _ (fun s e => s.finals_deck _ _ _ _) s
  refine h.trans ?_
  split <;> exact rfl

theorem State.finals_talFinals (s : State) : s.Finals s.talFinals := by
  unfold State.talFinals
  dsimp only
  split
  · exact s.finals_finalRecords
  · exact State.Finals.foldl _ (fun s e => s.finals_saveStart _ _ _) s

theorem State.te_saveStart (s : State) (e k : Nat) (final : Bool) :
    (s.saveStart e k final).tals = (s.setTe e ((s.saveStart e k final).te e)).tals := by
  unfold State.saveStart State.saveOpen
  dsimp only
  split
  · split <;> simp [State.te, State.setTe, State.writeMram]
  · simp [State.te, State.setTe]

/-- A FINAL save is then the newest of its engine. -/
theorem State.lastFinal_saveStart_self (s : State) (e k : Nat) : (s.saveStart e k true).LastFinal e := by
  unfold State.saveStart State.saveOpen State.LastFinal
  dsimp only
  split
  · split <;> exact ⟨_, by simp [State.te, State.setTe, State.writeMram]; rfl, rfl⟩
  · exact ⟨_, by simp [State.te, State.setTe]; rfl, rfl⟩

theorem State.LastFinal.saveStart {s : State} {e : Nat} (h : s.LastFinal e) (o k : Nat) : (s.saveStart o k true).LastFinal e := by
  by_cases he : e = o
  · exact he ▸ s.lastFinal_saveStart_self e k
  · have ht : (s.saveStart o k true).te e = s.te e := by
      rw [State.te, State.te_saveStart]
      exact State.te_setTe_other _ _ _ _ he
    rwa [State.LastFinal, ht]

/-- Each usable engine's newest save is then a FINAL one. -/
theorem State.lastFinal_talFinals (s : State) {e : Nat} (he : e < 8) (hu : s.unusable (pTAL e) = false) : s.talFinals.LastFinal e := by
  have hmem : e ∈ (List.range 8).filter (fun e => !s.unusable (pTAL e)) := by simp [he, hu]
  have key (l : List Nat) (t : State) (h : e ∈ l ∨ t.LastFinal e) :
      (l.foldl (fun s e => s.saveStart e ((s.te e).lastRun.getD 0) true) t).LastFinal e := by
    induction l generalizing t with
    | nil => exact h.resolve_left List.not_mem_nil
    | cons o l ih =>
      refine ih _ ?_
      obtain h | h := h
      · obtain rfl | h := List.mem_cons.1 h
        · exact .inr (State.lastFinal_saveStart_self _ _ _)
        · exact .inl h
      · exact .inr (h.saveStart _ _)
  have hne : ((List.range 8).filter (fun e => !s.unusable (pTAL e))).isEmpty = false := by
    cases hl : (List.range 8).filter (fun e => !s.unusable (pTAL e)) with
    | nil => rw [hl] at hmem; exact absurd hmem List.not_mem_nil
    | cons => rfl
  rw [State.talFinals, if_neg (by rw [hne]; decide)]
  exact key _ s (.inl hmem)

/-! ### Requests for a reset (R433, R438) -/

section
variable {s : State} (hrun : s.pwr.phase = .run)
include hrun

/-- With nothing in preparation and no flush the preparation begins. -/
theorem State.resetReq_begins (hpf : s.pwr.pfMode = false) (hprep : s.rst.prep = none) (c : Nat) :
    s.resetReq c = ((s.updRst (fun r => { r with prep := some (c, s.tsu.clk) })).updPwr (fun p => { p with finalDone := false })).talFinals := by
  simp only [State.resetReq, hrun, hpf, hprep]
  rfl

theorem State.resetReq_first (hpf : s.pwr.pfMode = false) (hprep : s.rst.prep = none) {c : Nat} {t : State} (ht : t = s.resetReq c) :
    t.rst = { s.rst with prep := some (c, s.tsu.clk) } ∧ t.pwr = { s.pwr with finalDone := t.pwr.finalDone } ∧
      ∀ e, e < 8 → s.unusable (pTAL e) = false → t.LastFinal e := by
  have hfin := State.finals_talFinals
    ((s.updRst (fun r => { r with prep := some (c, s.tsu.clk) })).updPwr (fun p => { p with finalDone := false }))
  rw [State.resetReq_begins hrun hpf hprep] at ht
  refine ⟨?_, ?_, fun e he hu => ht ▸ State.lastFinal_talFinals _ he hu⟩
  · rw [ht, hfin]
    rfl
  · rw [ht, hfin]
    rfl

/-- In a flush a first request is held to its end. -/
theorem State.resetReq_held (hpf : s.pwr.pfMode = true) (hheld : s.pwr.heldReset = none) (c : Nat) :
    s.resetReq c = s.updPwr (fun p => { p with heldReset := some (c, s.tsu.clk) }) := by
  simp only [State.resetReq, hrun, hpf]
  simp [State.updPwr, hheld]

/-- A cause other than the button's leaves a reset in preparation as it stands. -/
theorem State.resetReq_stands (hpf : s.pwr.pfMode = false) (hprep : s.rst.prep ≠ none) {c : Nat} (hc : c ≠ 3) : s.resetReq c = s := by
  obtain ⟨h, hh⟩ := Option.ne_none_iff_exists'.1 hprep
  simp only [State.resetReq, hrun, hpf, hh]
  simp [State.mergeCause, hc, State.updRst, ← hh]

end

/-- A request changes the reset, the supplies' state, the tally engines, MRAM and the deck, and no more. -/
def State.Requested (s t : State) : Prop :=
  t = { s with rst := t.rst, pwr := t.pwr, tals := t.tals, mram := t.mram, evr := t.evr }

theorem State.Finals.requested {s t : State} (h : s.Finals t) : s.Requested t := by
  unfold State.Finals State.Requested at *
  rw [h]

theorem State.requested_resetReq (s : State) (c : Nat) : s.Requested (s.resetReq c) := by
  unfold State.resetReq
  dsimp only
  split
  · exact rfl
  · split
    · exact rfl
    · split
      · exact rfl
      · have h := (((s.updRst (fun r => { r with prep := some (c, s.tsu.clk) })).updPwr (fun p => { p with finalDone := false }))).finals_talFinals
        generalize State.talFinals _ = t at h ⊢
        unfold State.Finals State.Requested at *
        rw [h]
        rfl

end Sys2Proof.Machine
end

section
/-!
PROOFS. The two reset contacts (R441).
-/
namespace Sys2Proof.Machine
open Sys2Proof

/-! ### A contact stored -/

section
variable (s : State) (x : Bool) (c : Contact)

@[simp] theorem State.contact_setContact : (s.setContact x c).contact x = c := by cases x <;> rfl
@[simp] theorem State.contact_setContact_other : (s.setContact x c).contact (!x) = s.contact (!x) := by cases x <;> rfl
@[simp] theorem State.holdBy_setContact : (s.setContact x c).rst.holdBy = s.rst.holdBy := by cases x <;> rfl
@[simp] theorem State.prep_setContact : (s.setContact x c).rst.prep = s.rst.prep := by cases x <;> rfl
@[simp] theorem State.cause_setContact : (s.setContact x c).rst.cause = s.rst.cause := by cases x <;> rfl
@[simp] theorem State.kickClk_setContact : (s.setContact x c).rst.kickClk = s.rst.kickClk := by cases x <;> rfl
@[simp] theorem State.pwr_setContact : (s.setContact x c).pwr = s.pwr := rfl
theorem State.setContact_shape : s.setContact x c = { s with rst := (s.setContact x c).rst } := rfl

end

theorem State.contact_of_rst {s t : State} (hb : t.rst.button = s.rst.button) (hr : t.rst.rstIn = s.rst.rstIn) (x : Bool) :
    t.contact x = s.contact x := by simp [State.contact, hb, hr]

/-! ### Press -/

section
variable {s : State} {x : Bool}

/-- A closed or STUCK contact, or one seen without VMAIN, asks for nothing. -/
theorem State.press_ignored (h : (s.contact x).closed = true ∨ (s.contact x).stuck = true ∨ s.pwr.phase ≠ .run) :
    s.press x = s.setContact x { s.contact x with closed := true } := by
  unfold State.press
  dsimp only
  rw [if_pos]
  obtain h | h | h := h
  · simp [h]
  · simp [h]
  · simp [h]

/-- The first press asks for the reset it will hold. -/
theorem State.press_first (hrun : s.pwr.phase = .run) (hc : (s.contact x).closed = false) (hs : (s.contact x).stuck = false)
    (hh : s.rst.holdBy = none) :
    s.press x = ((s.setContact x { s.contact x with closed := true }).updRst
      (fun r => { r with holdBy := some (x, s.tsu.clk) })).resetReq (if x then 4 else 3) := by
  unfold State.press
  dsimp only
  rw [if_neg (by simp [hc, hs, hrun])]
  simp only [State.holdBy_setContact, hh, Option.isNone_none, if_true]
  rfl

theorem exec_press_ignored (h : (s.contact x).closed = true ∨ (s.contact x).stuck = true ∨ s.pwr.phase ≠ .run) :
    ∃ t, exec (.buttonPress x) s = .next t ∧ t.contact x = { s.contact x with closed := true } ∧ t.contact (!x) = s.contact (!x) ∧
      t.rst.prep = s.rst.prep ∧ t.rst.holdBy = s.rst.holdBy ∧ t = { s with rst := t.rst } := by
  obtain ⟨u, hu, hexec⟩ := act_next (f := fun s => s.press x) (show State.always s = true from rfl)
  rw [show u = s.setContact x { s.contact x with closed := true } from hu.trans (State.press_ignored h)] at hexec
  exact ⟨_, (exec_buttonPress x s).trans hexec, s.contact_setContact x _, s.contact_setContact_other x _, s.prep_setContact x _,
    s.holdBy_setContact x _, rfl⟩

theorem exec_press_first (hrun : s.pwr.phase = .run) (hc : (s.contact x).closed = false) (hs : (s.contact x).stuck = false)
    (hh : s.rst.holdBy = none) (hprep : s.rst.prep = none) (hpf : s.pwr.pfMode = false) :
    ∃ t, exec (.buttonPress x) s = .next t ∧ t.contact x = { s.contact x with closed := true } ∧
      t.contact (!x) = s.contact (!x) ∧ t.rst.holdBy = some (x, s.tsu.clk) ∧ t.rst.prep = some (if x then 4 else 3, s.tsu.clk) ∧
      t.rst.cause = s.rst.cause ∧ t.rst.kickClk = s.rst.kickClk ∧ t.pwr = { s.pwr with finalDone := t.pwr.finalDone } ∧
      t = { s with rst := t.rst, pwr := t.pwr, tals := t.tals, mram := t.mram, evr := t.evr } := by
  obtain ⟨u, hu, hexec⟩ := act_next (f := fun s => s.press x) (show State.always s = true from rfl)
  replace hu := hu.trans (State.press_first hrun hc hs hh)
  generalize hv : State.updRst _ _ = v at hu
  have hvc (y : Bool) : v.contact y = (s.setContact x { s.contact x with closed := true }).contact y :=
    hv ▸ State.contact_of_rst rfl rfl y
  have hvr : v.rst = { (s.setContact x { s.contact x with closed := true }).rst with holdBy := some (x, s.tsu.clk) } := by rw [← hv]; rfl
  have hvs : v = { s with rst := v.rst } := by rw [← hv]; rfl
  clear hv
  have hvp : v.rst.prep = none := by simp [hvr, hprep]
  obtain ⟨hrst, hpwr, -⟩ := State.resetReq_first (s := v) (by rw [hvs]; exact hrun) (by rw [hvs]; exact hpf) hvp hu
  have hreq : v.Requested u := hu ▸ v.requested_resetReq _
  clear hu
  unfold State.Requested at hreq
  have hcon (y : Bool) : u.contact y = v.contact y := State.contact_of_rst (by rw [hrst]) (by rw [hrst]) y
  refine ⟨_, (exec_buttonPress x s).trans hexec, (hcon x).trans ((hvc x).trans (s.contact_setContact x _)),
    (hcon (!x)).trans ((hvc (!x)).trans (s.contact_setContact_other x _)), ?_, ?_, ?_, ?_, ?_, ?_⟩
  · simp [hrst, hvr]
  · simp only [hrst]; rw [hvs]
  · simp [hrst, hvr]
  · simp [hrst, hvr]
  · refine hpwr.trans ?_; rw [hvs]
  · rw [hvs] at hreq; rw [hreq]

/-! ### Release -/

theorem exec_release_holder {c : Nat} (hh : s.rst.holdBy = some (x, c)) : ∃ t, exec (.buttonRelease x) s = .next t ∧
    t.contact x = { s.contact x with closed := false, openClk := s.tsu.clk } ∧ t.contact (!x) = s.contact (!x) ∧ t.rst.holdBy = none ∧
    t.pwr = { s.pwr with phase := if s.pwr.phase = .reset then .run else s.pwr.phase } ∧ t = { s with rst := t.rst, pwr := t.pwr } := by
  have hrel : s.unpress x = ((s.setContact x { s.contact x with closed := false, openClk := s.tsu.clk }).releaseReset) := by
    rw [State.unpress, if_pos (by simp [hh])]
  obtain ⟨u, hu, hexec⟩ := act_next (f := fun s => s.unpress x) (show State.always s = true from rfl)
  replace hu := hu.trans hrel
  have hshape : u = { s with
      rst := { (s.setContact x { s.contact x with closed := false, openClk := s.tsu.clk }).rst with holdBy := none }
      pwr := { s.pwr with phase := if s.pwr.phase = .reset then .run else s.pwr.phase } } := by
    rw [hu, State.releaseReset]
    by_cases hp : s.pwr.phase = .reset
    · exact (if_pos hp).trans (by rw [if_pos hp]; rfl)
    · exact (if_neg hp).trans (by rw [if_neg hp]; rfl)
  have hcon (y : Bool) : u.contact y = (s.setContact x { s.contact x with closed := false, openClk := s.tsu.clk }).contact y :=
    State.contact_of_rst (by rw [hshape]) (by rw [hshape]) y
  refine ⟨_, (exec_buttonRelease x s).trans hexec, (hcon x).trans (s.contact_setContact x _), (hcon (!x)).trans (s.contact_setContact_other x _),
    ?_, ?_, ?_⟩
  all_goals rw [hshape]

theorem exec_release_other (hh : ∀ c, s.rst.holdBy ≠ some (x, c)) : ∃ t, exec (.buttonRelease x) s = .next t ∧
    t.contact x = { s.contact x with closed := false, openClk := s.tsu.clk } ∧ t.contact (!x) = s.contact (!x) ∧
    t.rst.holdBy = s.rst.holdBy ∧ t = { s with rst := t.rst } := by
  have hne : s.rst.holdBy.map Prod.fst ≠ some x := by
    intro h
    obtain ⟨⟨y, c⟩, hc, rfl⟩ := Option.map_eq_some_iff.1 h
    exact hh c hc
  have hrel : s.unpress x = s.setContact x { s.contact x with closed := false, openClk := s.tsu.clk } := by
    rw [State.unpress, if_neg (by simpa using hne)]
  obtain ⟨u, hu, hexec⟩ := act_next (f := fun s => s.unpress x) (show State.always s = true from rfl)
  rw [show u = _ from hu.trans hrel] at hexec
  exact ⟨_, (exec_buttonRelease x s).trans hexec, s.contact_setContact x _, s.contact_setContact_other x _, s.holdBy_setContact x _, rfl⟩

/-! ### The end of the hold (2 s), and of STUCK (100 ms) -/

theorem State.holdRelease_early {c : Nat} (hh : s.rst.holdBy = some (x, c))
    (h : s.since c < 500000000 ∨ (s.pwr.phase ≠ .run ∧ s.pwr.phase ≠ .reset)) : s.holdRelease = s := by
  simp only [State.holdRelease, hh]
  rw [if_pos]
  obtain h | ⟨h, h'⟩ := h
  · simp [h, msClk]
  · simp [h, h']

theorem State.holdRelease_due {c : Nat} (hh : s.rst.holdBy = some (x, c)) (ht : 500000000 ≤ s.since c)
    (hp : s.pwr.phase = .run ∨ s.pwr.phase = .reset) : s.holdRelease =
      if (s.contact x).closed then
        ((s.releaseReset.setContact x { s.contact x with stuck := true }).bump pRST R.RST_CNT_STUCK).irq pRST 4
      else s.releaseReset := by
  have hcon : s.releaseReset.contact x = s.contact x := by
    unfold State.releaseReset
    dsimp only
    split <;> rfl
  simp only [State.holdRelease, hh]
  rw [if_neg]
  · simp only [hcon]
  · obtain hp | hp := hp <;> simp [hp, msClk, Nat.not_lt.2 ht]

/-- The asserted reset released: the hold ends and the module runs. -/
theorem State.releaseReset_eq (hp : s.pwr.phase = .run ∨ s.pwr.phase = .reset) :
    s.releaseReset = { s with rst := { s.rst with holdBy := none }, pwr := { s.pwr with phase := .run } } := by
  unfold State.releaseReset
  obtain hp | hp := hp
  · refine (if_neg (show ¬ s.pwr.phase = .reset by simp [hp])).trans ?_
    rw [← hp]
    rfl
  · exact if_pos hp

theorem exec_holdRelease {c : Nat} (hh : s.rst.holdBy = some (x, c)) (ht : 500000000 ≤ s.since c)
    (hp : s.pwr.phase = .run ∨ s.pwr.phase = .reset) : ∃ t, exec .resetHoldRelease s = .next t ∧
      t.pwr = { s.pwr with phase := .run } ∧ t.rst.holdBy = none ∧ t.rst.prep = s.rst.prep ∧ t.contact (!x) = s.contact (!x) ∧
      ((s.contact x).closed = false → t.contact x = s.contact x ∧ t = { s with rst := t.rst, pwr := t.pwr }) ∧
      ((s.contact x).closed = true → t.contact x = { s.contact x with stuck := true } ∧ bit (t.hd pRST).irqStatus 4 = true ∧
        t.cn pRST R.RST_CNT_STUCK = min (cntMax pRST R.RST_CNT_STUCK) (s.cn pRST R.RST_CNT_STUCK + 1) ∧
        ({ s with rst := t.rst, pwr := t.pwr } : State).Quiet [pRST] t) := by
  obtain ⟨u, hu, hexec⟩ := act_next (f := State.holdRelease) (show State.always s = true from rfl)
  replace hu := hu.trans (State.holdRelease_due hh ht hp)
  rw [State.releaseReset_eq hp] at hu
  cases hc : (s.contact x).closed with
  | false =>
    rw [hc, if_neg (by decide)] at hu
    rw [hu] at hexec
    exact ⟨_, (exec_resetHoldRelease s).trans hexec, rfl, rfl, rfl, rfl, fun _ => ⟨rfl, rfl⟩, nofun⟩
  | true =>
    rw [hc, if_pos rfl] at hu
    generalize hv : State.setContact _ x _ = v at hu
    have hvc : v.contact x = { s.contact x with stuck := true } := hv ▸ State.contact_setContact _ _ _
    have hvo : v.contact (!x) = s.contact (!x) := hv ▸ State.contact_setContact_other _ _ _
    have hvh : v.rst.holdBy = none := hv ▸ State.holdBy_setContact _ _ _
    have hvp : v.rst.prep = s.rst.prep := hv ▸ State.prep_setContact _ _ _
    have hvs : v = { s with rst := v.rst, pwr := { s.pwr with phase := .run } } := by rw [← hv]; rfl
    clear hv
    obtain ⟨hq, hbit, hcn⟩ := hu ▸ State.bump_irq_spec v pRST (o := R.RST_CNT_STUCK) (i := 4) (by decide) (by decide)
    have hrst : u.rst = v.rst := hq.rst
    have hpwr : u.pwr = { s.pwr with phase := .run } := hq.pwr.trans (by rw [hvs])
    have hfrom : ({ s with rst := u.rst, pwr := u.pwr } : State) = v := by rw [hrst, hpwr, ← hvs]
    have hsn : v.cn pRST R.RST_CNT_STUCK = s.cn pRST R.RST_CNT_STUCK := by rw [hvs]; rfl
    clear hu
    refine ⟨_, (exec_resetHoldRelease s).trans hexec, hpwr, (congrArg Rst.holdBy hrst).trans hvh, (congrArg Rst.prep hrst).trans hvp,
      (State.contact_of_rst (s := v) (congrArg Rst.button hrst) (congrArg Rst.rstIn hrst) _).trans hvo, nofun,
      fun _ => ⟨(State.contact_of_rst (s := v) (congrArg Rst.button hrst) (congrArg Rst.rstIn hrst) _).trans hvc, hbit, hsn ▸ hcn, ?_⟩⟩
    exact hfrom ▸ hq.pending_eq (by rw [hvs])

theorem exec_stuckClear_due (hon : s.onMain = true) (hs : (s.contact x).stuck = true) (hc : (s.contact x).closed = false)
    (ht : 25000000 ≤ s.since (s.contact x).openClk) :
    ∃ t, exec (.stuckClear x) s = .next t ∧ t.contact x = { s.contact x with stuck := false } ∧
      t.contact (!x) = s.contact (!x) ∧ t.rst.prep = s.rst.prep ∧ t = { s with rst := t.rst } := by
  obtain ⟨u, hu, hexec⟩ := act_next (f := fun s => s.stuckClear x) hon
  have hclear : s.stuckClear x = s.setContact x { s.contact x with stuck := false } := by
    rw [State.stuckClear, if_pos (by simp [hs, hc, msClk, ht])]
  rw [show u = _ from hu.trans hclear] at hexec
  exact ⟨_, (exec_stuckClear x s).trans hexec, s.contact_setContact x _, s.contact_setContact_other x _, s.prep_setContact x _, rfl⟩

theorem State.stuckClear_early (h : (s.contact x).stuck = false ∨ (s.contact x).closed = true ∨ s.since (s.contact x).openClk < 25000000) :
    s.stuckClear x = s := by
  rw [State.stuckClear, if_neg]
  obtain h | h | h := h
  · simp [h]
  · simp [h]
  · simp [msClk, Nat.not_le.2 h]

end

/-- Settles O55, command by command: press, release, the end of the hold and the end of STUCK. -/
theorem resetContacts : Obligations.ResetContacts := by
  intro s x
  refine ⟨exec_press_first, exec_press_ignored, fun c => exec_release_holder, exec_release_other, fun c hh => ⟨fun h => ?_, exec_holdRelease hh⟩,
    fun hh => ?_, fun hon => ⟨exec_stuckClear_due hon, fun h => ?_⟩⟩
  · rw [exec_resetHoldRelease]
    exact act_same (State.holdRelease_early hh h)
  · rw [exec_resetHoldRelease]
    exact act_same (by simp only [State.holdRelease, hh])
  · rw [exec_stuckClear]
    exact act_same (State.stuckClear_early h)

end Sys2Proof.Machine
end

section
/-!
PROOFS. Requests for a reset by command and by the watchdog, its kicks, and PERST_N (R433, R438, R440).
-/
namespace Sys2Proof.Machine
open Sys2Proof

/-- A quiet step beside what a request for a reset may change. -/
theorem State.Quiet.requested {ps : List Nat} {s u t : State} (h : s.Quiet ps u) (ht : u.Requested t) :
    ({ s with rst := t.rst, pwr := t.pwr, tals := t.tals, mram := t.mram, evr := t.evr } : State).Quiet ps { t with pending := s.pending } := by
  unfold State.Requested at ht
  refine h.over ?_ (by rw [ht]) (by rw [ht]) rfl rfl
  rw [ht]
  exact congrArg (fun x : State =>
    { x with rst := t.rst, pwr := t.pwr, tals := t.tals, mram := t.mram, evr := t.evr, pending := s.pending }) h.rest

/-- What asks for a reset with this cause: an accepted WARM or COLD, or the watchdog that was not kicked in time. -/
def State.Asks (s : State) (c : Instr) (cause : Nat) : Prop :=
  (c = .warm ∧ cause = 5 ∧ (s.hd pRST).unlocked = true) ∨ (c = .cold ∧ cause = 2 ∧ (s.hd pRST).unlocked = true) ∨
    (c = .wdogExpiry ∧ cause = 6 ∧ s.wdogMs ≠ 0 ∧ s.wdogMs * 250000 ≤ s.since s.rst.kickClk ∧ s.pwr.heldReset = none ∧ s.rst.prep = none)

section
variable {s : State} (hon : s.onMain = true)
include hon

theorem State.run_of_onMain : s.pwr.phase = .run := by simpa [State.onMain] using hon

/-- A command that asks is a request made of a state that differs from the one before in page RST alone. -/
theorem exec_of_asks {c : Instr} {cause : Nat} (h : s.Asks c cause) :
    ∃ u, exec c s = .next { u.resetReq cause with pending := s.pending } ∧ s.Quiet [pRST] u ∧
      (cause = 6 → u.cn pRST R.RST_CNT_WDOG = min (cntMax pRST R.RST_CNT_WDOG) (s.cn pRST R.RST_CNT_WDOG + 1)) := by
  have hq : s.Quiet [pRST] (s.touch pRST) := State.Quiet.touch (.refl _ s) (by simp)
  have hun : (s.hd pRST).unlocked = true → ∀ f : State → State, (s.touch pRST).ifUnlocked pRST R.RST_CMD f = f (s.touch pRST) :=
    fun h f => if_pos ((s.unlocked_touch pRST pRST).trans h)
  obtain ⟨rfl, rfl, hl⟩ | ⟨rfl, rfl, hl⟩ | ⟨rfl, rfl, hms, hdue, hheld, hprep⟩ := h
  · obtain ⟨u, hu, hexec⟩ := actReg_next (p := pRST) (f := fun s => s.ifUnlocked pRST R.RST_CMD (fun s => s.rstCmd 1)) hon
    rw [show u = (s.touch pRST).resetReq 5 from hu.trans (hun hl _)] at hexec
    exact ⟨_, (exec_warm s).trans hexec, hq, nofun⟩
  · obtain ⟨u, hu, hexec⟩ := actReg_next (p := pRST) (f := fun s => s.ifUnlocked pRST R.RST_CMD (fun s => s.rstCmd 2)) hon
    rw [show u = (s.touch pRST).resetReq 2 from hu.trans (hun hl _)] at hexec
    exact ⟨_, (exec_cold s).trans hexec, hq, nofun⟩
  · have hexp : s.wdogExpiry = (s.bump pRST R.RST_CNT_WDOG).resetReq 6 := by
      rw [State.wdogExpiry, if_neg (by simp [hms, hheld, hprep, msClk, Nat.not_lt.2 hdue])]
    obtain ⟨u, hu, hexec⟩ := act_next (f := State.wdogExpiry) hon
    rw [show u = _ from hu.trans hexp] at hexec
    exact ⟨_, (exec_wdogExpiry s).trans hexec, State.Quiet.bump (.refl _ s) (by simp) _ (by decide), fun _ => s.cn_bump _ _⟩

theorem exec_reset_locked {c : Instr} (h : c = .warm ∨ c = .cold) (hl : (s.hd pRST).unlocked = false) : ∃ t, exec c s = .next t ∧
    (t.hd pRST).errCode = w32 (R.RST_CMD * 256 + Err.locked) ∧ s.Quiet [pRST] t := by
  have hun : ∀ f : State → State, (s.touch pRST).ifUnlocked pRST R.RST_CMD f = (s.touch pRST).refuse pRST R.RST_CMD Err.locked :=
    fun f => if_neg (by rw [show headPage pRST = pRST by decide, s.unlocked_touch, hl]; decide)
  obtain rfl | rfl := h
  · obtain ⟨u, hu, hexec⟩ := actReg_next (p := pRST) (f := fun s => s.ifUnlocked pRST R.RST_CMD (fun s => s.rstCmd 1)) hon
    rw [hun] at hu
    exact ⟨_, (exec_warm s).trans hexec, State.refuse_touch_headPage (by decide) (by rw [hu])⟩
  · obtain ⟨u, hu, hexec⟩ := actReg_next (p := pRST) (f := fun s => s.ifUnlocked pRST R.RST_CMD (fun s => s.rstCmd 2)) hon
    rw [hun] at hu
    exact ⟨_, (exec_cold s).trans hexec, State.refuse_touch_headPage (by decide) (by rw [hu])⟩

theorem exec_asks_counts {c : Instr} {cause : Nat} (h : s.Asks c cause) (h6 : cause = 6) : ∃ t, exec c s = .next t ∧
    t.cn pRST R.RST_CNT_WDOG = min (cntMax pRST R.RST_CNT_WDOG) (s.cn pRST R.RST_CNT_WDOG + 1) := by
  obtain ⟨u, hexec, -, hcn⟩ := exec_of_asks hon h
  have hreq : (u.resetReq cause).cnts = u.cnts := by rw [u.requested_resetReq cause]
  exact ⟨_, hexec, by rw [← hcn h6, State.cn, State.cn]; exact congrArg (sget 0 (ka pRST R.RST_CNT_WDOG)) hreq⟩

theorem exec_asks_begins {c : Instr} {cause : Nat} (h : s.Asks c cause) (hpf : s.pwr.pfMode = false) (hprep : s.rst.prep = none) :
    ∃ t, exec c s = .next t ∧ t.rst = { s.rst with prep := some (cause, s.tsu.clk) } ∧
      t.pwr = { s.pwr with finalDone := t.pwr.finalDone } ∧
      (∀ e, e < 8 → s.unusable (pTAL e) = false → ∃ v, (t.te e).saves.getLast? = some v ∧ v.final = true) ∧
      ({ s with rst := t.rst, pwr := t.pwr, tals := t.tals, mram := t.mram, evr := t.evr } : State).Quiet [pRST] t := by
  obtain ⟨u, hexec, hq, -⟩ := exec_of_asks hon h
  have hreq := u.requested_resetReq cause
  obtain ⟨hrst, hpwr, hlast⟩ := State.resetReq_first (s := u) (by rw [hq.pwr]; exact State.run_of_onMain hon) (by rw [hq.pwr]; exact hpf)
    (by rw [hq.rst]; exact hprep) (c := cause) rfl
  generalize u.resetReq cause = t at hexec hreq hrst hpwr hlast
  rw [hq.rst, hq.tsu] at hrst
  rw [hq.pwr] at hpwr
  exact ⟨_, hexec, hrst, hpwr, fun e he hu => hlast e he ((hq.unusable _).trans hu), State.Quiet.requested (t := t) hq hreq⟩

theorem exec_asks_held {c : Instr} {cause : Nat} (h : s.Asks c cause) (hpf : s.pwr.pfMode = true) (hheld : s.pwr.heldReset = none) :
    ∃ t, exec c s = .next t ∧ t.pwr = { s.pwr with heldReset := some (cause, s.tsu.clk) } ∧
      ({ s with pwr := t.pwr } : State).Quiet [pRST] t := by
  obtain ⟨u, hexec, hq, -⟩ := exec_of_asks hon h
  rw [State.resetReq_held (s := u) (by rw [hq.pwr]; exact State.run_of_onMain hon) (by rw [hq.pwr]; exact hpf) (by rw [hq.pwr]; exact hheld)] at hexec
  have hpwr : { u.pwr with heldReset := some (cause, u.tsu.clk) } = { s.pwr with heldReset := some (cause, s.tsu.clk) } := by
    rw [hq.pwr, hq.tsu]
  exact ⟨_, hexec, hpwr, hq.over (congrArg (fun x : State => { x with pwr := { u.pwr with heldReset := some (cause, u.tsu.clk) }, pending := s.pending }) hq.rest) rfl rfl rfl rfl⟩

theorem exec_asks_stands {c : Instr} {cause : Nat} (h : s.Asks c cause) (hpf : s.pwr.pfMode = false) (hprep : s.rst.prep ≠ none) :
    ∃ t, exec c s = .next t ∧ s.Quiet [pRST] t := by
  have h3 : cause ≠ 3 := by obtain ⟨-, rfl, -⟩ | ⟨-, rfl, -⟩ | ⟨-, rfl, -⟩ := h <;> decide
  obtain ⟨u, hexec, hq, -⟩ := exec_of_asks hon h
  rw [State.resetReq_stands (s := u) (by rw [hq.pwr]; exact State.run_of_onMain hon) (by rw [hq.pwr]; exact hpf) (by rw [hq.rst]; exact hprep) h3] at hexec
  exact ⟨_, hexec, hq.pend⟩

omit hon in
theorem State.wdogExpiry_early
    (h : s.wdogMs = 0 ∨ s.since s.rst.kickClk < s.wdogMs * 250000 ∨ s.rst.prep ≠ none ∨ s.pwr.heldReset ≠ none) : s.wdogExpiry = s := by
  refine if_pos ?_
  simpa [msClk, Option.isSome_iff_ne_none] using h

theorem exec_kick : ∃ t, exec (.rstWdogKick 0xC35A) s = .next t ∧ t = { s with rst := { s.rst with kickClk := s.tsu.clk }, hdrs := t.hdrs } := by
  obtain ⟨u, hu, hexec⟩ := actReg_next (p := pRST) (f := fun s => s.wdogKick 0xC35A) hon
  have hshape : u = { s with rst := { s.rst with kickClk := s.tsu.clk }, hdrs := u.hdrs } := by
    rw [hu, s.touch_shape pRST]
    rfl
  exact ⟨_, (exec_rstWdogKick _ s).trans hexec, congrArg (fun t : State => { t with pending := s.pending }) hshape⟩

theorem exec_badKick {v : Word} (hv : v ≠ 0xC35A) : ∃ t, exec (.rstWdogKick v) s = .next t ∧
    t.cn pRST R.RST_CNT_BAD_KICK = min (cntMax pRST R.RST_CNT_BAD_KICK) (s.cn pRST R.RST_CNT_BAD_KICK + 1) ∧ s.Quiet [pRST] t := by
  obtain ⟨u, hu, hexec⟩ := actReg_next (p := pRST) (f := fun s => s.wdogKick v) hon
  rw [State.wdogKick, if_neg hv] at hu
  have hq : s.Quiet [pRST] u := hu ▸ (State.Quiet.touch (.refl _ s) (by simp)).bump (by simp) _ (by decide)
  have hcn : u.cn pRST R.RST_CNT_BAD_KICK = min (cntMax pRST R.RST_CNT_BAD_KICK) (s.cn pRST R.RST_CNT_BAD_KICK + 1) := by
    rw [hu, State.cn_bump, State.cn, s.touch_shape pRST]
    rfl
  exact ⟨_, (exec_rstWdogKick _ s).trans hexec, hcn, hq.pend⟩

end

/-- Settles O54: every request is `resetReq` of a state that differs in page RST alone, and has its three outcomes. -/
theorem resetRequests : Obligations.ResetRequests := by
  intro s hon
  refine ⟨fun c h => exec_reset_locked hon h, fun c cause h => ⟨exec_asks_counts hon h, exec_asks_begins hon h, exec_asks_held hon h,
    exec_asks_stands hon h⟩, fun h => ?_, exec_kick hon, fun v => exec_badKick hon, fun h => ?_, fun h => ?_⟩
  · rw [exec_wdogExpiry]
    exact act_same (State.wdogExpiry_early h)
  · rw [exec_perstN, act_on _ _ _ hon, State.perst, if_pos h]
    rfl
  · rw [exec_perstN]
    exact act_same (by rw [State.perst, h, if_neg (by decide)])

end Sys2Proof.Machine
end

section
/-!
PROOFS. Module health (R456 to R462): what a sample and what follows from changed fits leave.
-/
namespace Sys2Proof.Machine
open Sys2Proof

/-- What holds of one visit of a loop holds at its end: `Pre` lasts until the visit of `k`, which gives `Post`, which lasts. -/
theorem iter_visit {σ : Type} {f : Nat → σ → σ} {Pre Post : σ → Prop} {k n : Nat} (hk : k < n) {s : σ} (hs : Pre s)
    (hpre : ∀ i s, i < n → i ≠ k → Pre s → Pre (f i s)) (hat : ∀ s, Pre s → Post (f k s))
    (hpost : ∀ i s, i < n → i ≠ k → Post s → Post (f i s)) : Post (iter n f s) := by
  have key (l : List Nat) (hlt : ∀ i ∈ l, i < n) (hl : l.Nodup) (s : σ) (h : if k ∈ l then Pre s else Post s) :
      Post (l.foldl (fun s i => f i s) s) := by
    induction l generalizing s with
    | nil => exact h
    | cons i l ih =>
      obtain ⟨hi, hl⟩ := List.nodup_cons.1 hl
      refine ih (fun j hj => hlt j (List.mem_cons_of_mem i hj)) hl _ ?_
      by_cases hik : i = k
      · subst hik
        rw [if_neg hi]
        exact hat s (by simpa using h)
      · by_cases hm : k ∈ l
        · rw [if_pos hm]
          exact hpre i s (hlt i List.mem_cons_self) hik (by simpa [hm] using h)
        · rw [if_neg hm]
          exact hpost i s (hlt i List.mem_cons_self) hik (by simpa [hm, Ne.symm hik] using h)
  exact key _ (fun _ => List.mem_range.1) List.nodup_range s (by rwa [if_pos (List.mem_range.2 hk)])

/-! ### Quiet but for health registers and fits -/

/-- A step that is quiet on the health page but for registers and fits. -/
def State.HltQuiet (s t : State) : Prop := ({ s with hlt := t.hlt, regs := t.regs } : State).Quiet [pHLT] t

theorem State.Quiet.withHlt {ps : List Nat} {s t : State} (h : s.Quiet ps t) (r : List (Nat × Word)) (x : Hlt) :
    ({ s with hlt := x, regs := r } : State).Quiet ps { t with hlt := x, regs := r } :=
  h.over (congrArg (fun s : State => { s with hlt := x, regs := r }) h.rest) rfl rfl rfl rfl

section
variable {s t u : State}

theorem State.HltQuiet.refl (s : State) : s.HltQuiet s := State.Quiet.refl _ _

theorem State.HltQuiet.trans (h : s.HltQuiet t) (h' : t.HltQuiet u) : s.HltQuiet u := (State.Quiet.withHlt h _ _).trans h'

theorem State.Quiet.hltQuiet (h : s.Quiet [pHLT] t) : s.HltQuiet t := by
  rw [State.HltQuiet, h.hlt, h.regs]
  exact h

theorem State.hltQuiet_setRg (s : State) (p o : Nat) (v : Word) : s.HltQuiet (s.setRg p o v) := State.Quiet.refl _ _
theorem State.hltQuiet_updHlt (s : State) (f : Hlt → Hlt) : s.HltQuiet (s.updHlt f) := State.Quiet.refl _ _
theorem State.hltQuiet_setFit (s : State) (i : Nat) (x : HFit) : s.HltQuiet (s.setFit i x) := State.Quiet.refl _ _
theorem State.hltQuiet_irq (s : State) (i : Nat) : s.HltQuiet (s.irq pHLT i) := (State.Quiet.irq (.refl _ _) (by simp) i).hltQuiet
theorem State.hltQuiet_bump (s : State) {o : Nat} (ho : o < 4096) : s.HltQuiet (s.bump pHLT o) :=
  (State.Quiet.bump (.refl _ _) (by simp) o ho).hltQuiet

theorem State.HltQuiet.iter {f : Nat → State → State} (hf : ∀ i s, State.HltQuiet s (f i s)) (n : Nat) (s : State) :
    s.HltQuiet (iter n f s) :=
  List.foldlRecOn _ _ (.refl s) fun _ h i _ => h.trans (hf i _)

theorem State.HltQuiet.optime (h : s.HltQuiet t) : t.optime = s.optime := by
  have he : t.evr = s.evr := (show State.Quiet [pHLT] _ t from h).evr
  have ht : t.tsu = s.tsu := (show State.Quiet [pHLT] _ t from h).tsu
  rw [State.optime, he, ht]
  rfl

theorem State.HltQuiet.tick (h : s.HltQuiet t) : t.tick = s.tick := by
  have ht : t.tsu = s.tsu := (show State.Quiet [pHLT] _ t from h).tsu
  rw [State.tick, ht]
  rfl

theorem State.HltQuiet.cn (h : s.HltQuiet t) {p off : Nat} (hp : p ≠ pHLT) (ho : off < 4096) : t.cn p off = s.cn p off :=
  State.Quiet.cn h p off (by simpa using hp) ho

theorem State.HltQuiet.hd (h : s.HltQuiet t) {p : Nat} (hp : p ≠ pHLT) : t.hd p = s.hd p := State.Quiet.hd h p (by simpa using hp)

/-- Nothing but the health unit, registers and what a quiet step may change. -/
theorem State.HltQuiet.shape (h : s.HltQuiet t) :
    t = { s with hlt := t.hlt, regs := t.regs, hdrs := t.hdrs, cnts := t.cnts, vecs := t.vecs, out := t.out, shf := t.shf } :=
  State.Quiet.shape h

end

/-! ### A sample -/

section
variable (s : State) (i : Nat) (v limit : Int)

theorem State.hltQuiet_hltTake : s.HltQuiet (s.hltTake i v limit) := (s.hltQuiet_setFit i _).trans (State.hltQuiet_bump _ (by decide))

@[simp] theorem State.fit_hltTake : (s.hltTake i v limit).fit i = (s.fit i).add s.optime v limit (tagOf s.tick) := by
  rw [State.hltTake, State.fit, State.bump_hlt]
  exact s.fit_setFit i _

theorem State.fit_hltTake_other {j : Nat} (h : j ≠ i) : (s.hltTake i v limit).fit j = s.fit j := by
  rw [State.hltTake, State.fit, State.bump_hlt]
  exact s.fit_setFit_other i j _ h

@[simp] theorem State.hour_hltTake : (s.hltTake i v limit).hlt.hour = s.hlt.hour := by rw [State.hltTake, State.bump_hlt]; rfl

@[simp] theorem State.regs_hltTake : (s.hltTake i v limit).regs = s.regs := by rw [State.hltTake, State.bump_regs]; rfl

end

/-! ### What follows from changed fits -/

/-- The registers shown and the marks of warnings given change; the fits and the other registers stay. -/
structure State.Shown (s t : State) : Prop where
  quiet : s.HltQuiet t
  hour : t.hlt.hour = s.hlt.hour
  fits : ∀ k, { t.fit k with warned := (s.fit k).warned } = s.fit k
  low : ∀ k, k < 16 → t.fit k = s.fit k
  rg : ∀ off, R.HLT_RO ≤ off → off < R.HLT_SO_DAYS → t.rg pHLT off = s.rg pHLT off

section
variable {s t u : State}

theorem State.Shown.refl (s : State) : s.Shown s := ⟨.refl s, rfl, fun _ => rfl, fun _ _ => rfl, fun _ _ _ => rfl⟩

theorem State.Shown.trans (h : s.Shown t) (h' : t.Shown u) : s.Shown u :=
  ⟨h.quiet.trans h'.quiet, h'.hour.trans h.hour,
    fun k => (congrArg (fun x : HFit => { x with warned := (s.fit k).warned }) (h'.fits k)).trans (h.fits k),
    fun k hk => (h'.low k hk).trans (h.low k hk), fun off ho ho' => (h'.rg off ho ho').trans (h.rg off ho ho')⟩

/-- A step that leaves the fits and the registers. -/
theorem State.HltQuiet.shown (h : s.HltQuiet t) (hh : t.hlt.hour = s.hlt.hour) (hf : t.hlt.fits = s.hlt.fits) (hr : t.regs = s.regs) :
    s.Shown t :=
  have hfit (k : Nat) : t.fit k = s.fit k := by rw [State.fit, hf, ← State.fit]
  ⟨h, hh, fun k => by rw [hfit k], fun k _ => hfit k, fun off _ _ => by rw [State.rg, hr, ← State.rg]⟩

theorem State.shown_irq (s : State) (i : Nat) : s.Shown (s.irq pHLT i) :=
  (s.hltQuiet_irq i).shown (by rw [State.irq_hlt]) (by rw [State.irq_hlt]) (by rw [State.irq_regs])

theorem State.shown_bump (s : State) {o : Nat} (ho : o < 4096) : s.Shown (s.bump pHLT o) :=
  (s.hltQuiet_bump ho).shown (by rw [State.bump_hlt]) (by rw [State.bump_hlt]) (by rw [State.bump_regs])

theorem State.shown_setRg (s : State) {o : Nat} (h : o < R.HLT_RO ∨ R.HLT_SO_DAYS ≤ o) (v : Word) : s.Shown (s.setRg pHLT o v) :=
  ⟨s.hltQuiet_setRg _ _ _, rfl, fun _ => rfl, fun _ _ => rfl, fun off ho ho' => s.rg_setRg_other _ _ _ _ _ (by unfold ka; omega)⟩

theorem State.shown_warn (s : State) {i : Nat} (hi : 16 ≤ i) (b : Bool) : s.Shown (s.setFit i { s.fit i with warned := b }) := by
  refine ⟨s.hltQuiet_setFit _ _, rfl, fun k => ?_, fun k hk => s.fit_setFit_other _ _ _ (by omega), fun _ _ _ => rfl⟩
  by_cases hk : k = i
  · subst hk; rw [s.fit_setFit]
  · rw [s.fit_setFit_other _ _ _ hk]

/-- The days left of one output, with its warning. -/
theorem State.shown_soDays (s : State) (n warn : Nat) : s.Shown
    (let x := s.fit (16 + n)
     let d := x.days (16 + n)
     let s := s.setRg pHLT (R.HLT_SO_DAYS + 4 * n) (w32 d)
     let s := if d < warn && !x.warned then s.irq pHLT 5 else s
     s.setFit (16 + n) { x with warned := decide (d < warn) }) := by
  dsimp only
  have key {u : State} (h : s.Shown u) (hu : u.hlt = s.hlt) (b : Bool) : s.Shown (u.setFit (16 + n) { s.fit (16 + n) with warned := b }) := by
    have hfit : s.fit (16 + n) = u.fit (16 + n) := by rw [State.fit, State.fit, hu]
    exact hfit ▸ h.trans (u.shown_warn (by omega) _)
  have hreg := s.shown_setRg (o := R.HLT_SO_DAYS + 4 * n) (.inr (by omega)) (w32 ((s.fit (16 + n)).days (16 + n)))
  split
  · exact key (hreg.trans (State.shown_irq _ _)) (State.irq_hlt _ _ _) _
  · exact key hreg rfl _

/-- What `hltShow` does with the days and the information it has found. -/
def State.hltTell (s : State) (days info : Nat) : State :=
  let warn := fld (s.ac pHLT R.HLT_CFG) 16 16
  let s := (s.setRg pHLT R.HLT_EOL_DAYS (w32 days)).setRg pHLT R.HLT_EOL_INFO (w32 info)
  let s := if days < warn && !s.hlt.warned then (s.bump pHLT R.HLT_CNT_EOL_WARN).irq pHLT 4 else s
  let s := s.updHlt (fun h => { h with warned := decide (days < warn) })
  iter 8 (fun n s =>
    let x := s.fit (16 + n)
    let d := x.days (16 + n)
    let s := s.setRg pHLT (R.HLT_SO_DAYS + 4 * n) (w32 d)
    let s := if d < warn && !x.warned then s.irq pHLT 5 else s
    s.setFit (16 + n) { x with warned := decide (d < warn) }) s

theorem State.hltShow_eq (s : State) : ∃ days info, s.hltShow = s.hltTell days info := by
  unfold State.hltShow State.hltTell
  rcases s.worst with _ | ⟨d, i, c⟩
  · exact ⟨_, _, rfl⟩
  · exact ⟨_, _, rfl⟩

theorem State.shown_hltTell (s : State) (days info : Nat) : s.Shown (s.hltTell days info) := by
  unfold State.hltTell
  dsimp only
  have hregs := (s.shown_setRg (o := R.HLT_EOL_DAYS) (by decide) (w32 days)).trans
    (State.shown_setRg _ (o := R.HLT_EOL_INFO) (by decide) (w32 info))
  generalize State.setRg (s.setRg pHLT R.HLT_EOL_DAYS (w32 days)) _ _ _ = t at hregs ⊢
  have hwarn (b : Prop) [Decidable b] : t.Shown (if b then (t.bump pHLT R.HLT_CNT_EOL_WARN).irq pHLT 4 else t) :=
    iteInduction (fun _ => (t.shown_bump (by decide)).trans (State.shown_irq _ _)) fun _ => .refl t
  refine hregs.trans ((hwarn (days < fld (s.ac pHLT R.HLT_CFG) 16 16 && !t.hlt.warned)).trans ?_)
  exact State.Shown.trans (t := State.updHlt _ _) ((State.hltQuiet_updHlt _ _).shown rfl rfl rfl)
    (List.foldlRecOn _ _ (.refl _) fun v h n _ => h.trans (v.shown_soDays n _))

theorem State.shown_hltShow (s : State) : s.Shown s.hltShow := by
  obtain ⟨days, info, h⟩ := s.hltShow_eq
  exact h ▸ s.shown_hltTell days info

end

end Sys2Proof.Machine
end

section
/-!
PROOFS. The hourly sample of the health monitors, and their fits begun anew (R456, R457, R462).
-/
namespace Sys2Proof.Machine
open Sys2Proof

/-- Samples of the monitors `ks` alone: the other fits and the shown readings of the other sensors stay. -/
structure State.Sampled (ks : Nat → Prop) (s t : State) : Prop where
  quiet : s.HltQuiet t
  hour : t.hlt.hour = s.hlt.hour
  fits : ∀ j, ¬ ks j → t.fit j = s.fit j
  rg : ∀ i, i < 8 → ¬ ks i → t.rg pHLT (R.HLT_RO + 4 * i) = s.rg pHLT (R.HLT_RO + 4 * i)

section
variable {ks ks' : Nat → Prop} {s t u : State}

theorem State.Sampled.refl (ks : Nat → Prop) (s : State) : s.Sampled ks s := ⟨.refl s, rfl, fun _ _ => rfl, fun _ _ _ => rfl⟩

theorem State.Sampled.trans (h : s.Sampled ks t) (h' : t.Sampled ks u) : s.Sampled ks u :=
  ⟨h.quiet.trans h'.quiet, h'.hour.trans h.hour, fun j hj => (h'.fits j hj).trans (h.fits j hj),
    fun i hi hk => (h'.rg i hi hk).trans (h.rg i hi hk)⟩

theorem State.Sampled.mono (h : s.Sampled ks t) (hk : ∀ j, ks j → ks' j) : s.Sampled ks' t :=
  ⟨h.quiet, h.hour, fun j hj => h.fits j (fun e => hj (hk j e)), fun i hi hj => h.rg i hi (fun e => hj (hk i e))⟩

theorem State.Sampled.iter {f : Nat → State → State} {n : Nat} (hf : ∀ i s, i < n → State.Sampled ks s (f i s)) (s : State) :
    s.Sampled ks (iter n f s) :=
  List.foldlRecOn _ _ (.refl ks s) fun _ h i hi => h.trans (hf i _ (List.mem_range.1 hi))

end

section
variable (s : State)

theorem State.sampled_hltTake (i : Nat) (v limit : Int) : s.Sampled (· = i) (s.hltTake i v limit) :=
  ⟨s.hltQuiet_hltTake i v limit, s.hour_hltTake i v limit, fun _ hj => s.fit_hltTake_other i v limit hj,
    fun k _ _ => by rw [State.rg, s.regs_hltTake, ← State.rg]⟩

theorem State.sampled_setRg {o : Nat} (h : o < R.HLT_RO ∨ R.HLT_RO + 32 ≤ o) (v : Word) (ks : Nat → Prop) : s.Sampled ks (s.setRg pHLT o v) :=
  ⟨s.hltQuiet_setRg _ _ _, rfl, fun _ _ => rfl, fun i hi _ => s.rg_setRg_other _ _ _ _ _ (by unfold ka; omega)⟩

theorem State.sampled_setFit (i : Nat) (x : HFit) : s.Sampled (· = i) (s.setFit i x) :=
  ⟨s.hltQuiet_setFit _ _, rfl, fun _ hj => s.fit_setFit_other _ _ _ hj, fun _ _ _ => rfl⟩

theorem State.sampled_irq (i : Nat) (ks : Nat → Prop) : s.Sampled ks (s.irq pHLT i) :=
  ⟨s.hltQuiet_irq i, by rw [State.irq_hlt], fun j _ => by rw [State.fit, State.irq_hlt, ← State.fit],
    fun i _ _ => by rw [State.rg, State.irq_regs, ← State.rg]⟩

theorem State.sampled_bump {o : Nat} (ho : o < 4096) (ks : Nat → Prop) : s.Sampled ks (s.bump pHLT o) :=
  ⟨s.hltQuiet_bump ho, by rw [State.bump_hlt], fun j _ => by rw [State.fit, State.bump_hlt, ← State.fit],
    fun i _ _ => by rw [State.rg, State.bump_regs, ← State.rg]⟩

/-! ### The three loops of a sample -/

/-- One sensor: its reading is shown and sampled. -/
def State.roStep (ro : List Nat) (i : Nat) (s : State) : State :=
  (s.setRg pHLT (R.HLT_RO + 4 * i) (w32 ((ro[i]?).getD 0))).hltTake i ((ro[i]?).getD 0 : Nat) 30000

/-- One output: its operations since the last replacement. -/
def State.soStep (n : Nat) (s : State) : State :=
  let rated := (s.ac pHLT (R.HLT_SO_RATED + 4 * n)).toNat
  if rated = 0 then s.setFit (16 + n) { s.fit (16 + n) with valid := false }
  else s.hltTake (16 + n) ((s.cn (pHWS 0) (R.HWS_CNT_SO_OPS + 8 * n) : Int) - (s.rg pHLT (R.HLT_SO_BASE + 4 * n)).toNat) rated

theorem State.hltSample_due (ro : List Nat) (sfp : List SfpRead) (h : s.hlt.hour < s.optime / 36000) : s.hltSample ro sfp =
    (iter 8 State.soStep (iter 6 (fun n s => s.hltSfp n ((sfp[n]?).getD .absent))
      ((iter 8 (State.roStep ro) (s.updHlt fun h => { h with hour := s.optime / 36000 })).hltTake 8
        ((iter 8 (State.roStep ro) (s.updHlt fun h => { h with hour := s.optime / 36000 })).rg pMEM R.MEM_FL_WEAR).toNat 10000))).hltShow :=
  if_neg (Nat.not_le.2 h)

theorem State.sampled_roStep (ro : List Nat) (i : Nat) : s.Sampled (· = i) (s.roStep ro i) :=
  State.Sampled.trans (t := s.setRg pHLT (R.HLT_RO + 4 * i) (w32 ((ro[i]?).getD 0)))
    ⟨s.hltQuiet_setRg _ _ _, rfl, fun _ _ => rfl, fun k _ hk => s.rg_setRg_other _ _ _ _ _ (by unfold ka; omega)⟩
    (State.sampled_hltTake _ _ _ _)

theorem State.sampled_hltSfp (n : Nat) (r : SfpRead) : s.Sampled (· = 10 + n) (s.hltSfp n r) := by
  cases r with
  | absent => exact s.sampled_setFit _ _
  | noDiag => exact s.sampled_setFit _ _
  | failed => exact s.sampled_bump (by decide) _
  | ok serial tx rx low alarm =>
    unfold State.hltSfp
    dsimp only
    have htx := (s.sampled_setRg (o := R.HLT_SFP_TX + 8 * n) (.inr (show 0x430 ≤ 0x440 + 8 * n by omega)) (w32 (min 0xFFFF tx)) (· = 10 + n)).trans
      (State.sampled_setRg _ (o := R.HLT_SFP_RX + 8 * n) (.inr (show 0x430 ≤ 0x444 + 8 * n by omega)) (w32 (min 0xFFFF rx)) _)
    generalize State.setRg (s.setRg _ _ _) _ _ _ = t at htx ⊢
    refine (htx.trans ?_).trans (State.sampled_hltTake _ _ _ _)
    have halarm : t.Sampled (· = 10 + n) (if alarm then t.irq pHLT 6 else t) := iteInduction (fun _ => t.sampled_irq _ _) fun _ => .refl _ _
    refine halarm.trans (iteInduction (fun _ => .refl _ _) fun _ => State.sampled_setFit _ _ _)

theorem State.sampled_soStep (n : Nat) : s.Sampled (16 ≤ ·) (s.soStep n) := by
  refine State.Sampled.mono (ks := (· = 16 + n)) ?_ (fun j hj => by omega)
  unfold State.soStep
  dsimp only
  split
  · exact s.sampled_setFit _ _
  · exact s.sampled_hltTake _ _ _

/-- The loop over the sensors gives each its reading and its sample. -/
theorem State.ro_of_iter (ro : List Nat) {k : Nat} (hk : k < 8) :
    (iter 8 (State.roStep ro) s).fit k = (s.fit k).add s.optime ((ro[k]?).getD 0 : Nat) 30000 (tagOf s.tick) ∧
      (iter 8 (State.roStep ro) s).rg pHLT (R.HLT_RO + 4 * k) = w32 ((ro[k]?).getD 0) := by
  refine iter_visit (Pre := fun t => s.Sampled (· ≠ k) t) (Post := fun t : State =>
    t.fit k = (s.fit k).add s.optime ((ro[k]?).getD 0 : Nat) 30000 (tagOf s.tick) ∧ t.rg pHLT (R.HLT_RO + 4 * k) = w32 ((ro[k]?).getD 0)) hk (.refl _ s)
    (fun i t _ hik h => h.trans ((t.sampled_roStep ro i).mono fun j hj => hj ▸ hik)) (fun t h => ?_)
    (fun i t _ hik h => ?_)
  · rw [State.roStep, State.fit_hltTake, State.rg, State.regs_hltTake, ← State.rg, State.rg_setRg, ← h.quiet.optime, ← h.quiet.tick,
      ← h.fits k (by simp)]
    exact ⟨rfl, rfl⟩
  · obtain ⟨hfit, hrg⟩ := h
    have hs := t.sampled_roStep ro i
    exact ⟨(hs.fits k (Ne.symm hik)).trans hfit, (hs.rg k hk (Ne.symm hik)).trans hrg⟩

/-- The loop over the SFPs makes the monitor of an absent one invalid. -/
theorem State.sfp_of_iter (sfp : List SfpRead) {k : Nat} (hk : k < 6) (h : sfp[k]? = none ∨ sfp[k]? = some .absent) :
    let t := iter 6 (fun n s => State.hltSfp s n ((sfp[n]?).getD .absent)) s
    (t.fit (10 + k)).valid = false ∧ (t.fit (10 + k)).n = (s.fit (10 + k)).n := by
  have hab : (sfp[k]?).getD .absent = .absent := by obtain h | h := h <;> rw [h] <;> rfl
  refine iter_visit (Pre := fun t => s.Sampled (· ≠ 10 + k) t) (Post := fun t : State =>
    (t.fit (10 + k)).valid = false ∧ (t.fit (10 + k)).n = (s.fit (10 + k)).n) hk (.refl _ s)
    (fun i t _ hik h => h.trans ((t.sampled_hltSfp i _).mono fun j hj => by omega)) (fun t h => ?_)
    (fun i t _ hik h => ?_)
  · have hfit : (t.hltSfp k ((sfp[k]?).getD .absent)).fit (10 + k) = { t.fit (10 + k) with valid := false } := by
      rw [hab]
      exact t.fit_setFit _ _
    rw [hfit, ← h.fits (10 + k) (by simp)]
    exact ⟨rfl, rfl⟩
  · rw [(t.sampled_hltSfp i _).fits (10 + k) (by omega)]
    exact h

/-- The hourly sample, monitor by monitor (R456). -/
theorem State.hltSample_spec (ro : List Nat) (sfp : List SfpRead) (h : s.hlt.hour < s.optime / 36000) {t : State}
    (ht : t = s.hltSample ro sfp) : t.hlt.hour = s.optime / 36000 ∧ s.HltQuiet t ∧
      (∀ i, i < 8 → t.fit i = (s.fit i).add s.optime ((ro[i]?).getD 0 : Nat) 30000 (tagOf s.tick) ∧
        t.rg pHLT (R.HLT_RO + 4 * i) = w32 ((ro[i]?).getD 0)) ∧
      t.fit 8 = (s.fit 8).add s.optime ((s.rg pMEM R.MEM_FL_WEAR).toNat : Nat) 10000 (tagOf s.tick) ∧ t.fit 9 = s.fit 9 ∧
      ∀ n, n < 6 → sfp[n]? = none ∨ sfp[n]? = some .absent →
        (t.fit (10 + n)).valid = false ∧ (t.fit (10 + n)).n = (s.fit (10 + n)).n := by
  rw [s.hltSample_due ro sfp h] at ht
  have hbase : s.HltQuiet (s.updHlt fun h => { h with hour := s.optime / 36000 }) := s.hltQuiet_updHlt _
  have hfit (k : Nat) : (s.updHlt fun h => { h with hour := s.optime / 36000 }).fit k = s.fit k := rfl
  have hhour : (s.updHlt fun h => { h with hour := s.optime / 36000 }).hlt.hour = s.optime / 36000 := rfl
  have hwear (p o : Nat) : (s.updHlt fun h => { h with hour := s.optime / 36000 }).rg p o = s.rg p o := rfl
  generalize (s.updHlt fun h => { h with hour := s.optime / 36000 }) = s₀ at *
  have hro (k : Nat) (hk : k < 8) := s₀.ro_of_iter ro hk
  have ha : s₀.Sampled (· < 8) (iter 8 (State.roStep ro) s₀) :=
    .iter (fun i s hi => (s.sampled_roStep ro i).mono fun j hj => hj ▸ hi) s₀
  have hmem : (iter 8 (State.roStep ro) s₀).rg pMEM R.MEM_FL_WEAR = s.rg pMEM R.MEM_FL_WEAR := by
    rw [← hwear]
    refine List.foldlRecOn (motive := fun t : State => t.rg pMEM R.MEM_FL_WEAR = s₀.rg pMEM R.MEM_FL_WEAR) _ _ rfl fun t h i _ => ?_

    rw [← h, State.roStep, State.rg, State.regs_hltTake, ← State.rg, t.rg_setRg_other _ _ _ _ _ (by unfold ka pMEM pHLT R.HLT_RO R.MEM_FL_WEAR; omega)]
  generalize iter 8 (State.roStep ro) s₀ = a at *
  rw [hmem] at ht
  have hb := a.sampled_hltTake 8 ((s.rg pMEM R.MEM_FL_WEAR).toNat : Nat) 10000
  have hb8 := a.fit_hltTake 8 ((s.rg pMEM R.MEM_FL_WEAR).toNat : Nat) 10000
  generalize a.hltTake 8 ((s.rg pMEM R.MEM_FL_WEAR).toNat : Nat) 10000 = b at *
  have hsfp (k : Nat) (hk : k < 6) := b.sfp_of_iter sfp hk
  have hc : b.Sampled (fun j => 10 ≤ j ∧ j < 16) (iter 6 (fun n s => State.hltSfp s n ((sfp[n]?).getD .absent)) b) :=
    .iter (fun i s hi => (s.sampled_hltSfp i _).mono fun j hj => by omega) b
  generalize iter 6 (fun n s => State.hltSfp s n ((sfp[n]?).getD .absent)) b = c at *
  have hd : c.Sampled (16 ≤ ·) (iter 8 State.soStep c) := .iter (fun i s _ => s.sampled_soStep i) c
  generalize iter 8 State.soStep c = d at *
  have he := ht ▸ d.shown_hltShow
  clear ht
  have hlate (k : Nat) (hk : k < 10) : t.fit k = b.fit k :=
    (he.low k (by omega)).trans ((hd.fits k (by omega)).trans (hc.fits k (by omega)))
  refine ⟨?_, ?_, fun i hi => ⟨?_, ?_⟩, ?_, ?_, fun n hn hab => ?_⟩
  · rw [he.hour, hd.hour, hc.hour, hb.hour, ha.hour, hhour]
  · exact ((((hbase.trans ha.quiet).trans hb.quiet).trans hc.quiet).trans hd.quiet).trans he.quiet
  · rw [hlate i (by omega), hb.fits i (by omega), (hro i hi).1, hfit, hbase.optime, hbase.tick]
  · rw [he.rg _ (show 0x410 ≤ 0x410 + 4 * i by omega) (show 0x410 + 4 * i < 0x4A0 by omega), hd.rg i hi (by omega), hc.rg i hi (by omega), hb.rg i hi (by omega),
      (hro i hi).2]
  · rw [hlate 8 (by omega), hb8, ha.fits 8 (by omega), hfit, (hbase.trans ha.quiet).optime, (hbase.trans ha.quiet).tick]
  · rw [hlate 9 (by omega), hb.fits 9 (by omega), ha.fits 9 (by omega), hfit]
  · obtain ⟨hv, hn'⟩ := hsfp n hn hab
    rw [he.low _ (by omega), hd.fits _ (by omega)]
    exact ⟨hv, by rw [hn', hb.fits _ (by omega), ha.fits _ (by omega), hfit]⟩

/-! ### Fits begun anew -/

/-- A fit stored and what follows from it. -/
theorem State.fit_setFit_hltShow (i : Nat) (x : HFit) :
    ((s.setFit i x).hltShow.fit i).n = x.n ∧ ((s.setFit i x).hltShow.fit i).valid = x.valid ∧
      ((s.setFit i x).hltShow.fit i).serial = x.serial ∧
      ∀ k, k ≠ i → { (s.setFit i x).hltShow.fit k with warned := (s.fit k).warned } = s.fit k := by
  have h := (s.setFit i x).shown_hltShow
  have hi := h.fits i
  rw [s.fit_setFit] at hi
  generalize (s.setFit i x).hltShow = t at *
  refine ⟨by rw [← hi], by rw [← hi], by rw [← hi], fun k hk => ?_⟩
  have hk' := h.fits k
  rwa [s.fit_setFit_other _ _ _ hk] at hk'

end

/-! ### Protected commands -/

section
variable {s : State} {on : State → Bool} {p off : Nat} (hon : on s = true) (hg : headPage p = p)
include hg

theorem actReg_unlocked (f : State → State) (h : (s.hd p).unlocked = true) :
    actReg on p (fun s => s.ifUnlocked p off f) s = actReg on p f s := by
  have hf : (s.touch p).ifUnlocked p off f = f (s.touch p) := if_pos (by rw [hg, s.unlocked_touch, h])
  rw [actReg, actReg, act, act, hf]

include hon in
theorem actReg_locked (f : State → State) (h : (s.hd p).unlocked = false) : ∃ t, actReg on p (fun s => s.ifUnlocked p off f) s = .next t ∧
    (t.hd p).errCode = w32 (off * 256 + Err.locked) ∧ s.Quiet [p] t := by
  obtain ⟨u, hu, hexec⟩ := actReg_next (p := p) (f := fun s => s.ifUnlocked p off f) hon
  replace hu : u = (s.touch p).refuse p off Err.locked := hu.trans (if_neg (by rw [hg, s.unlocked_touch, h]; decide))
  exact ⟨_, hexec, State.refuse_touch_headPage hg (by rw [hu])⟩

end

section
variable {s : State} (hon : s.onMain = true) (hl : (s.hd pHLT).unlocked = true)
include hon hl

theorem exec_fit_outOfRange {c : Instr} {i : Nat} (h : (c = .hltRestart i ∧ 23 < i) ∨ (c = .soReplaced i ∧ (i < 16 ∨ 23 < i))) :
    ∃ t, exec c s = .next t ∧ (t.hd pHLT).errCode = w32 (R.HLT_CMD * 256 + Err.range) ∧ s.Quiet [pHLT] t := by
  obtain ⟨rfl, hi⟩ | ⟨rfl, hi⟩ := h
  · obtain ⟨u, hu, hexec⟩ := actReg_next (p := pHLT) (f := fun s => s.hltRestart i) hon
    rw [State.hltRestart, if_pos hi] at hu
    exact ⟨_, (exec_hltRestart i s).trans ((actReg_unlocked (by decide) _ hl).trans hexec), State.refuse_touch_headPage (by decide) (by rw [hu])⟩
  · obtain ⟨u, hu, hexec⟩ := actReg_next (p := pHLT) (f := fun s => s.soReplaced i) hon
    rw [State.soReplaced, if_pos hi] at hu
    exact ⟨_, (exec_soReplaced i s).trans ((actReg_unlocked (by decide) _ hl).trans hexec), State.refuse_touch_headPage (by decide) (by rw [hu])⟩

theorem exec_fit_anew {c : Instr} {i : Nat} (h : (c = .hltRestart i ∧ i ≤ 23) ∨ (c = .soReplaced i ∧ 16 ≤ i ∧ i ≤ 23)) :
    ∃ t, exec c s = .next t ∧ (t.fit i).n = 0 ∧ (t.fit i).valid = false ∧ (c = .hltRestart i → (t.fit i).serial = (s.fit i).serial) ∧
      (∀ k, k ≠ i → { t.fit k with warned := (s.fit k).warned } = s.fit k) ∧
      (c = .soReplaced i → t.rg pHLT (R.HLT_SO_BASE + 4 * (i - 16)) = w32 (s.cn (pHWS 0) (R.HWS_CNT_SO_OPS + 8 * (i - 16)))) ∧
      ({ s with hlt := t.hlt, regs := t.regs } : State).Quiet [pHLT] t := by
  have hq : s.HltQuiet (s.touch pHLT) := (State.Quiet.touch (.refl _ s) (by simp)).hltQuiet
  have hfit (k : Nat) : (s.touch pHLT).fit k = s.fit k := by rw [State.fit, s.touch_shape pHLT, State.fit]
  have hcn (q o : Nat) : (s.touch pHLT).cn q o = s.cn q o := by rw [State.cn, s.touch_shape pHLT, State.cn]
  obtain ⟨rfl, hi⟩ | ⟨rfl, hi, hi'⟩ := h
  · obtain ⟨u, hu, hexec⟩ := actReg_next (p := pHLT) (f := fun s => s.hltRestart i) hon
    rw [State.hltRestart, if_neg (Nat.not_lt.2 hi)] at hu
    generalize s.touch pHLT = v at *
    obtain ⟨hn, hv, hser, hoth⟩ := v.fit_setFit_hltShow i { serial := (v.fit i).serial }
    have hquiet := (hq.trans (v.hltQuiet_setFit i _)).trans (State.shown_hltShow (v.setFit i { serial := (v.fit i).serial })).quiet
    rw [← hu] at hn hv hser hoth hquiet
    exact ⟨_, (exec_hltRestart i s).trans ((actReg_unlocked (by decide) _ hl).trans hexec), hn, hv, fun _ => hser.trans (by rw [hfit]),
      fun k hk => hfit k ▸ hoth k hk, nofun, State.Quiet.pend hquiet⟩
  · obtain ⟨u, hu, hexec⟩ := actReg_next (p := pHLT) (f := fun s => s.soReplaced i) hon
    rw [State.soReplaced, if_neg (by omega), hcn] at hu
    generalize s.touch pHLT = v at *
    have hbase := v.rg_setRg pHLT (R.HLT_SO_BASE + 4 * (i - 16)) (w32 (s.cn (pHWS 0) (R.HWS_CNT_SO_OPS + 8 * (i - 16))))
    replace hq := hq.trans (v.hltQuiet_setRg pHLT (R.HLT_SO_BASE + 4 * (i - 16)) (w32 (s.cn (pHWS 0) (R.HWS_CNT_SO_OPS + 8 * (i - 16)))))
    replace hfit (k : Nat) : (v.setRg pHLT (R.HLT_SO_BASE + 4 * (i - 16)) (w32 (s.cn (pHWS 0) (R.HWS_CNT_SO_OPS + 8 * (i - 16))))).fit k =
      s.fit k := hfit k
    dsimp only at hu
    generalize v.setRg pHLT (R.HLT_SO_BASE + 4 * (i - 16)) (w32 (s.cn (pHWS 0) (R.HWS_CNT_SO_OPS + 8 * (i - 16)))) = w at *
    obtain ⟨hn, hv, -, hoth⟩ := w.fit_setFit_hltShow i {}
    have hshow := State.shown_hltShow (w.setFit i {})
    have hquiet := (hq.trans (w.hltQuiet_setFit i _)).trans hshow.quiet
    have hrg := hshow.rg (R.HLT_SO_BASE + 4 * (i - 16)) (show 0x410 ≤ 0x480 + 4 * (i - 16) by omega) (show 0x480 + 4 * (i - 16) < 0x4A0 by omega)
    rw [← hu] at hn hv hoth hquiet hrg
    exact ⟨_, (exec_soReplaced i s).trans ((actReg_unlocked (by decide) _ hl).trans hexec), hn, hv, nofun,
      fun k hk => hfit k ▸ hoth k hk, fun _ => hrg.trans hbase, State.Quiet.pend hquiet⟩

end

/-- Settles O59: the sample stage by stage, and the two commands through the fit they store. -/
theorem healthMonitors : Obligations.HealthMonitors := by
  intro s hon
  refine ⟨fun ro sfp h => ?_, fun ro sfp h => ?_, fun c i h hl => ?_, fun c i h hl => exec_fit_outOfRange hon hl h,
    fun c i h hl => exec_fit_anew hon hl h⟩
  · rw [exec_hltSample]
    exact act_same (if_pos h)
  · obtain ⟨u, hu, hexec⟩ := act_next (f := fun s => s.hltSample ro sfp) hon
    obtain ⟨hhour, hq, hro, h8, h9, hsfp⟩ := s.hltSample_spec ro sfp h hu
    exact ⟨_, (exec_hltSample ro sfp s).trans hexec, hhour, hro, h8, h9, hsfp,
      congrArg (fun t : State => { t with pending := s.pending }) hq.shape⟩
  · obtain rfl | rfl := h
    · rw [exec_hltRestart]
      exact actReg_locked hon (by decide) _ hl
    · rw [exec_soReplaced]
      exact actReg_locked hon (by decide) _ hl

end Sys2Proof.Machine
end

section
/-!
PROOFS. The power-fail warning, its flush and what ends it, and the signs of the supplies (R425, R427 to R433).
-/
namespace Sys2Proof.Machine
open Sys2Proof

/-! ### What a warning begins -/

/-- Nothing but the supplies' state, the deck, capture, the tally engines, MRAM and what a quiet step may change. -/
def State.Warns (s t : State) : Prop :=
  t = { s with
    pwr := t.pwr, evr := t.evr, acq := t.acq, tals := t.tals, mram := t.mram, hdrs := t.hdrs, cnts := t.cnts, vecs := t.vecs,
    out := t.out, shf := t.shf }

theorem State.Warns.trans {s t u : State} (h : s.Warns t) (h' : t.Warns u) : s.Warns u := by
  unfold State.Warns at *
  rw [h] at h'
  rw [h']

theorem State.Quiet.warns {ps : List Nat} {s t : State} {p : Pwr} {e : Evr} (h : ({ s with pwr := p, evr := e } : State).Quiet ps t) :
    s.Warns t := by
  unfold State.Warns
  rw [h.shape]

theorem State.Finals.warns {s t : State} (h : s.Finals t) : s.Warns t := by
  unfold State.Finals State.Warns at *
  rw [h]

theorem State.acqStopAt_shape (s : State) (n k : Nat) : s.acqStopAt n k = { s with acq := (s.acqStopAt n k).acq } := rfl

/-- Capture stops: only its sets change. -/
theorem State.acqPowerFail_shape (s : State) : s.acqPowerFail = { s with acq := s.acqPowerFail.acq } :=
  List.foldlRecOn (motive := fun t : State => t = { s with acq := t.acq }) _ _ rfl fun t h n _ =>
    (t.acqStopAt_shape n 2).trans (congrArg (fun x : State => { x with acq := (t.acqStopAt n 2).acq }) h)

theorem State.warns_acqPowerFail (s : State) : s.Warns s.acqPowerFail := by
  unfold State.Warns
  rw [s.acqPowerFail_shape]

/-- With no reset in preparation the flush begins with the FINAL saves. -/
theorem State.flushSaves_first {s t : State} (h : s.rst.prep = none) (ht : t = s.flushSaves) :
    s.Finals t ∧ ∀ e, e < 8 → s.unusable (pTAL e) = false → t.LastFinal e := by
  have hsave : s.flushSaves = (s.updPwr (fun p => { p with finalDone := false })).talFinals := if_pos (by rw [h]; rfl)
  rw [hsave] at ht
  refine ⟨?_, fun e he hu => ht ▸ State.lastFinal_talFinals _ he hu⟩
  have hf := State.finals_talFinals (s.updPwr (fun p => { p with finalDone := false }))
  rw [← ht] at hf
  unfold State.Finals at *
  rw [hf]
  rfl

/-- The supplies' state as a warning leaves it. -/
def State.warned (s : State) (ext : Bool) : Pwr :=
  { s.pwr with
    pfw := true, pfMode := true, vmainOk := s.pwr.vmainOk && ext, extPfw := ext, flushClk := s.tsu.clk, rtcCopy := s.rtcNow }

/-- The warning noted, counted and raised, before capture stops and the saves begin. -/
def State.warnBase (s : State) (ext : Bool) : State :=
  let s := { s with pwr := s.warned ext, evr := { s.evr with pf3 := false, pf4 := false } }
  let s := s.bump pPWR R.PWR_CNT_PFW
  (if ext then s.bump pPWR R.PWR_CNT_EXT_PFW else s).irq pPWR 4

section
variable {s : State} (ext : Bool)

theorem State.warnBase_spec (s : State) (ext : Bool) :
    ({ s with pwr := s.warned ext, evr := { s.evr with pf3 := false, pf4 := false } } : State).Quiet [pPWR] (s.warnBase ext) ∧
      bit ((s.warnBase ext).hd pPWR).irqStatus 4 = true ∧
      (s.warnBase ext).cn pPWR R.PWR_CNT_PFW = min (cntMax pPWR R.PWR_CNT_PFW) (s.cn pPWR R.PWR_CNT_PFW + 1) := by
  unfold State.warnBase
  dsimp only
  have hcn : s.cn pPWR R.PWR_CNT_PFW =
    ({ s with pwr := s.warned ext, evr := { s.evr with pf3 := false, pf4 := false } } : State).cn pPWR R.PWR_CNT_PFW := rfl
  rw [hcn]
  generalize ({ s with pwr := s.warned ext, evr := { s.evr with pf3 := false, pf4 := false } } : State) = b
  have hq : b.Quiet [pPWR] (b.bump pPWR R.PWR_CNT_PFW) := State.Quiet.bump (.refl _ b) (by simp) _ (by decide)
  have hc := b.cn_bump pPWR R.PWR_CNT_PFW
  refine ⟨State.Quiet.irq (iteInduction (fun _ => hq.bump (by simp) _ (by decide)) fun _ => hq) (by simp) _,
    State.bit_irq _ _ (by decide), ?_⟩
  rw [State.cn, State.irq_cnts, ← State.cn]
  cases ext with
  | false => exact hc
  | true => rw [← hc]; exact State.cn_bump_other _ _ _ _ _ (by decide)

theorem State.pfWarning_same (hw : s.pwr.pfw = true ∨ (ext = true ∧ bit (s.ac pPWR R.PWR_CFG) 0 = false)) :
    s.pfWarning ext = s := by
  refine if_pos ?_
  obtain hw | ⟨rfl, hw⟩ := hw
  · exact .inr (.inl hw)
  · exact .inr (.inr (by rw [hw]; rfl))

section
variable (h : s.pwr.phase = .run) (hw : s.pwr.pfw = false) (he : ext = true → bit (s.ac pPWR R.PWR_CFG) 0 = true)
include h hw he

theorem State.pfWarning_taken : s.pfWarning ext =
    if s.pwr.pfMode then s.updPwr (fun p => { p with pfw := true, vmainOk := p.vmainOk && ext })
    else (s.warnBase ext).acqPowerFail.flushSaves := by
  refine if_neg ?_
  rintro (h' | h' | h')
  · exact h' h
  · rw [hw] at h'; exact absurd h' (by decide)
  · cases ext with
    | false => exact absurd h' Bool.false_ne_true
    | true => rw [he rfl] at h'; exact absurd h' (by decide)

end
end

section
variable {s : State} (hon : s.onMain = true)
include hon

theorem exec_warning_again (ext : Bool) (hw : s.pwr.pfw = false) (he : ext = true → bit (s.ac pPWR R.PWR_CFG) 0 = true)
    (hpf : s.pwr.pfMode = true) :
    exec (.powerFailWarning ext) s = .next { s with pwr := { s.pwr with pfw := true, vmainOk := s.pwr.vmainOk && ext } } := by
  have hf := State.pfWarning_taken ext (State.run_of_onMain hon) hw he
  rw [if_pos hpf] at hf
  rw [exec_powerFailWarning, act_on _ _ _ hon, hf]
  rfl

theorem exec_warning_first (ext : Bool) (hw : s.pwr.pfw = false) (he : ext = true → bit (s.ac pPWR R.PWR_CFG) 0 = true)
    (hpf : s.pwr.pfMode = false) (hprep : s.rst.prep = none) : ∃ t, exec (.powerFailWarning ext) s = .next t ∧
      t.pwr = { s.pwr with
        pfw := true, pfMode := true, vmainOk := s.pwr.vmainOk && ext, extPfw := ext, flushClk := s.tsu.clk, rtcCopy := s.rtcNow,
        finalDone := t.pwr.finalDone } ∧
      t.cn pPWR R.PWR_CNT_PFW = min (cntMax pPWR R.PWR_CNT_PFW) (s.cn pPWR R.PWR_CNT_PFW + 1) ∧ bit (t.hd pPWR).irqStatus 4 = true ∧
      (∀ e, e < 8 → s.unusable (pTAL e) = false → ∃ v, (t.te e).saves.getLast? = some v ∧ v.final = true) ∧
      (∀ q, q ≠ pPWR → t.hd q = s.hd q) ∧
      t = { s with
        pwr := t.pwr, evr := t.evr, acq := t.acq, tals := t.tals, mram := t.mram, hdrs := t.hdrs, cnts := t.cnts, vecs := t.vecs,
        out := t.out, shf := t.shf } := by
  obtain ⟨u, hu, hexec⟩ := act_next (f := fun s => s.pfWarning ext) hon
  replace hu := hu.trans (State.pfWarning_taken ext (State.run_of_onMain hon) hw he)
  rw [if_neg (by rw [hpf]; decide)] at hu
  obtain ⟨hq, hbit, hcn⟩ := s.warnBase_spec ext
  generalize s.warnBase ext = b at *
  have hstop := b.acqPowerFail_shape
  have hwarns := hq.warns.trans b.warns_acqPowerFail
  generalize b.acqPowerFail = c at *
  have hun (p : Nat) : c.unusable p = s.unusable p := by
    rw [hstop]
    exact hq.unusable p
  have hp : c.rst.prep = none := ((congrArg (fun c : State => c.rst.prep) hstop).trans (congrArg Rst.prep hq.rst)).trans hprep
  obtain ⟨hfin, hlast⟩ := State.flushSaves_first hp hu
  clear hu
  unfold State.Finals at hfin
  have hcp : c.pwr = s.warned ext := (congrArg State.pwr hstop).trans hq.pwr
  have hch : u.hdrs = b.hdrs := (show u.hdrs = c.hdrs by rw [hfin]).trans (by rw [hstop])
  have hcc : u.cnts = b.cnts := (show u.cnts = c.cnts by rw [hfin]).trans (by rw [hstop])
  refine ⟨_, (exec_powerFailWarning ext s).trans hexec, ?_, ?_, ?_, fun e he hu => hlast e he ((hun _).trans hu), fun q hne => ?_, ?_⟩
  · have hpwr : u.pwr = { c.pwr with finalDone := u.pwr.finalDone } := congrArg State.pwr hfin
    exact hpwr.trans (by rw [hcp]; rfl)
  · rw [← hcn, State.cn, State.cn]
    exact congrArg _ hcc
  · rw [State.hd] at hbit ⊢
    exact hch ▸ hbit
  · have := hq.hd q (by simpa using hne)
    rw [State.hd] at this ⊢
    exact hch ▸ this
  · exact congrArg (fun t : State => { t with pending := s.pending }) (hwarns.trans (State.Finals.warns hfin))

/-! ### What ends a warning and a flush -/

omit hon in
theorem State.talResume_shape (s : State) : s.talResume = { s with tals := s.talResume.tals } :=
  List.foldlRecOn (motive := fun t : State => t = { s with tals := t.tals }) _ _ rfl fun t h n _ => by
    dsimp only [State.updTe, State.setTe]
    generalize sset _ _ _ t.tals = l
    exact congrArg (fun x : State => { x with tals := l }) h

omit hon in
theorem State.te_talResume (s : State) {e : Nat} (he : e < 8) : s.talResume.te e = { s.te e with fromTick := s.tick + 1 } := by
  refine iter_visit (Pre := fun t : State => t.te e = s.te e ∧ t.tick = s.tick)
    (Post := fun t => t.te e = { s.te e with fromTick := s.tick + 1 }) he ⟨rfl, rfl⟩
    (fun i t _ hi h => ⟨(State.te_setTe_other _ _ _ _ (Ne.symm hi)).trans h.1, h.2⟩) (fun t h => ?_)
    (fun i t _ hi h => (State.te_setTe_other _ _ _ _ (Ne.symm hi)).trans h)
  rw [State.updTe, State.te_setTe, h.1, h.2]

theorem exec_cleared (hw : s.pwr.pfw = true) : ∃ t, exec .pfwCleared s = .next t ∧ t.pwr = { s.pwr with pfw := false, vmainOk := true } ∧
    t.cn pPWR R.PWR_CNT_PF_CLEARED = min (cntMax pPWR R.PWR_CNT_PF_CLEARED) (s.cn pPWR R.PWR_CNT_PF_CLEARED + 1) ∧
    bit (t.hd pPWR).irqStatus 5 = true ∧ (∀ e, e < 8 → t.te e = { s.te e with fromTick := s.tick + 1 }) ∧
    ({ s with pwr := t.pwr, tals := t.tals } : State).Quiet [pPWR] t := by
  have hclear : s.pfCleared = (((s.updPwr (fun p => { p with pfw := false, vmainOk := true })).bump pPWR R.PWR_CNT_PF_CLEARED).irq pPWR 5).talResume :=
    if_neg (by simp [hw, State.run_of_onMain hon])
  obtain ⟨u, hu, hexec⟩ := act_next (f := State.pfCleared) hon
  rw [hclear] at hu
  obtain ⟨hq, hbit, hcn⟩ := State.bump_irq_spec (s.updPwr (fun p => { p with pfw := false, vmainOk := true })) pPWR
    (o := R.PWR_CNT_PF_CLEARED) (i := 5) (by decide) (by decide)
  generalize ((s.updPwr (fun p => { p with pfw := false, vmainOk := true })).bump pPWR R.PWR_CNT_PF_CLEARED).irq pPWR 5 = b at *
  have hte (e : Nat) (he : e < 8) : u.te e = { s.te e with fromTick := s.tick + 1 } := by
    rw [hu, b.te_talResume he, State.te, hq.tals, State.tick, hq.tsu]
    rfl
  have hshape := b.talResume_shape
  rw [← hu] at hshape
  clear hu hclear
  have hpwr : u.pwr = { s.pwr with pfw := false, vmainOk := true } := (congrArg State.pwr hshape).trans hq.pwr
  refine ⟨_, (exec_pfwCleared s).trans hexec, hpwr, ?_, ?_, hte, ?_⟩
  · rw [hshape]; exact hcn
  · rw [hshape]; exact hbit
  · have hf := hq.over (a := { s with pwr := { s.pwr with pfw := false, vmainOk := true }, tals := u.tals }) (t := { b with tals := u.tals })
      (congrArg (fun x : State => { x with tals := u.tals }) hq.rest) rfl rfl rfl rfl
    rw [← hshape, ← hpwr] at hf
    exact hf.pend

omit hon in
theorem exec_flushEnd_not (h : s.pwr.pfMode = false ∨ s.flushOver = false) : exec .flushEnd s = .next s := by
  rw [exec_flushEnd]
  refine act_same (if_pos (.inr ?_))
  simpa using h

omit hon in
theorem State.dfos_open (s : State) (e : Nat × Dfo) (he : e ∈ s.dfosOpen.dfos) : e.2.closed = false ∧ e.2.pulse = false := by
  obtain ⟨x, -, rfl⟩ := List.mem_map.1 he
  exact ⟨rfl, rfl⟩

section
variable (hpf : s.pwr.pfMode = true) (hover : s.flushOver = true)
include hpf hover

theorem State.flushEnd_shed (hw : s.pwr.pfw = true) :
    s.flushEnd = (s.updPwr (fun p => { p with pfTime := min 0xFFFF (s.since s.pwr.flushClk / 250) })).shed := by
  unfold State.flushEnd
  rw [if_neg (by simp [hpf, hover, State.run_of_onMain hon])]
  exact if_pos hw

theorem State.flushEnd_clear (hw : s.pwr.pfw = false) (hprep : s.rst.prep = none) : s.flushEnd =
    let u := { s with
      pwr := { s.pwr with pfTime := min 0xFFFF (s.since s.pwr.flushClk / 250), pfMode := false }, evr := { s.evr with pf3 := false, pf4 := false } }
    match s.pwr.heldReset with
    | some h => (u.updPwr (fun p => { p with heldReset := none })).updRst (fun r => { r with prep := some h })
    | none =>
      if s.dup.state = 2 then u.updRst (fun r => { r with prep := some (7, s.tsu.clk) })
      else u.updPwr (fun p => { p with finalDone := false }) := by
  unfold State.flushEnd
  rw [if_neg (by simp [hpf, hover, State.run_of_onMain hon])]
  simp only [State.updPwr, State.updEvr, hw, hprep]
  cases s.pwr.heldReset <;> rfl

theorem exec_flushEnd_held {us : Nat} (hus : us = min 0xFFFF (s.since s.pwr.flushClk / 250)) (h : Nat × Nat) (hw : s.pwr.pfw = false)
    (hprep : s.rst.prep = none) (hheld : s.pwr.heldReset = some h) : exec .flushEnd s = .next { s with
      pwr := { s.pwr with pfTime := us, pfMode := false, heldReset := none }
      evr := { s.evr with pf3 := false, pf4 := false }
      rst := { s.rst with prep := some h } } := by
  subst hus
  have hend := State.flushEnd_clear hon hpf hover hw hprep
  simp only [hheld] at hend
  rw [exec_flushEnd, act_on _ _ _ hon, hend]
  rfl

theorem exec_flushEnd_resumes {us : Nat} (hus : us = min 0xFFFF (s.since s.pwr.flushClk / 250)) (hw : s.pwr.pfw = false)
    (hprep : s.rst.prep = none) (hheld : s.pwr.heldReset = none) (hd : s.dup.state ≠ 2) : exec .flushEnd s = .next { s with
      pwr := { s.pwr with pfTime := us, pfMode := false, finalDone := false }
      evr := { s.evr with pf3 := false, pf4 := false } } := by
  subst hus
  have hend := State.flushEnd_clear hon hpf hover hw hprep
  simp only [hheld, if_neg hd] at hend
  rw [exec_flushEnd, act_on _ _ _ hon, hend]
  simp only [State.updPwr, hheld]

theorem exec_flushEnd_failover {us : Nat} (hus : us = min 0xFFFF (s.since s.pwr.flushClk / 250)) (hw : s.pwr.pfw = false)
    (hprep : s.rst.prep = none) (hheld : s.pwr.heldReset = none) (hd : s.dup.state = 2) : exec .flushEnd s = .next { s with
      pwr := { s.pwr with pfTime := us, pfMode := false }
      evr := { s.evr with pf3 := false, pf4 := false }
      rst := { s.rst with prep := some (7, s.tsu.clk) } } := by
  subst hus
  have hend := State.flushEnd_clear hon hpf hover hw hprep
  simp only [hheld, if_pos hd] at hend
  rw [exec_flushEnd, act_on _ _ _ hon, hend]
  simp only [State.updRst, hheld]

theorem exec_flushEnd_shed {us : Nat} (hus : us = min 0xFFFF (s.since s.pwr.flushClk / 250)) (hw : s.pwr.pfw = true) :
    ∃ t, exec .flushEnd s = .next t ∧ t.pwr = { s.pwr with pfTime := us, phase := .held, pfMode := false, heldReset := none } ∧
      t.rst = { s.rst with prep := none, holdBy := none } ∧ (∀ e, e ∈ t.dfos → e.2.closed = false ∧ e.2.pulse = false) ∧
      t.cn pPWR R.PWR_CNT_SHED = min (cntMax pPWR R.PWR_CNT_SHED) (s.cn pPWR R.PWR_CNT_SHED + 1) ∧
      ({ s with pwr := t.pwr, rst := t.rst, dfos := t.dfos } : State).Quiet [pPWR] t := by
  subst hus
  obtain ⟨u, hu, hexec⟩ := act_next (f := State.flushEnd) hon
  rw [State.flushEnd_shed hon hpf hover hw] at hu
  unfold State.shed at hu
  have hq := State.Quiet.bump (.refl [pPWR] (s.updPwr (fun p => { p with pfTime := min 0xFFFF (s.since s.pwr.flushClk / 250) }))) (p := pPWR)
    (by simp) R.PWR_CNT_SHED (by decide)
  have hcn := State.cn_bump (s.updPwr (fun p => { p with pfTime := min 0xFFFF (s.since s.pwr.flushClk / 250) })) pPWR R.PWR_CNT_SHED
  generalize State.bump _ pPWR R.PWR_CNT_SHED = b at *
  have hopen (e : Nat × Dfo) (he : e ∈ u.dfos) : e.2.closed = false ∧ e.2.pulse = false := by
    rw [hu] at he
    exact State.dfos_open _ e he
  have hshape : u = { b with
      pwr := { s.pwr with pfTime := min 0xFFFF (s.since s.pwr.flushClk / 250), phase := .held, pfMode := false, heldReset := none }
      rst := { s.rst with prep := none, holdBy := none }, dfos := u.dfos } := by
    rw [hu]
    dsimp only [State.updPwr, State.updRst, State.dfosOpen]
    rw [hq.pwr, hq.rst]
    rfl
  clear hu
  have hf := hq.over (a := { s with
      pwr := { s.pwr with pfTime := min 0xFFFF (s.since s.pwr.flushClk / 250), phase := .held, pfMode := false, heldReset := none }
      rst := { s.rst with prep := none, holdBy := none }, dfos := u.dfos }) (t := { b with
      pwr := { s.pwr with pfTime := min 0xFFFF (s.since s.pwr.flushClk / 250), phase := .held, pfMode := false, heldReset := none }
      rst := { s.rst with prep := none, holdBy := none }, dfos := u.dfos })
    (congrArg (fun x : State => { x with
      pwr := { s.pwr with pfTime := min 0xFFFF (s.since s.pwr.flushClk / 250), phase := .held, pfMode := false, heldReset := none }
      rst := { s.rst with prep := none, holdBy := none }, dfos := u.dfos }) hq.rest) rfl rfl rfl rfl
  rw [← hshape] at hf
  have hpwr : u.pwr = { s.pwr with
    pfTime := min 0xFFFF (s.since s.pwr.flushClk / 250), phase := .held, pfMode := false, heldReset := none } := by rw [hshape]
  have hrst : u.rst = { s.rst with prep := none, holdBy := none } := by rw [hshape]
  have hc : u.cnts = b.cnts := by rw [hshape]
  refine ⟨_, (exec_flushEnd s).trans hexec, hpwr, hrst, hopen, ?_, ?_⟩
  · rw [State.cn, hc]
    exact hcn
  · rw [← hpwr, ← hrst] at hf
    exact hf.pend

end

/-! ### The store and VAUX -/

/-- The store charged: its readiness, its capacitance and whether it is low. -/
def State.charged (s : State) (us : Nat) : State :=
  s.updPwr (fun p => { p with holdupReady := true, cap := min 0xFFFF (us / 150), holdupLow := decide (us < 135000) })

/-- A low capacitance raises its event. -/
def State.chargeSeen (s : State) (us : Nat) : State := if us < 135000 then (s.charged us).irq pPWR 6 else s.charged us

omit hon in
theorem State.holdupReady_due (s : State) (us : Nat) (hon : s.onMain = true) (h : s.pwr.holdupReady = false) :
    s.holdupReady us = (s.chargeSeen us).hltHoldup := by
  rw [State.holdupReady, if_neg (by rw [hon, h]; decide)]
  by_cases hl : us < 135000
  · rw [State.chargeSeen, if_pos hl]
    simp only [hl, decide_true, if_true, State.charged]
  · rw [State.chargeSeen, if_neg hl]
    simp only [hl, decide_false, Bool.false_eq_true, if_false, State.charged]

theorem exec_holdupReady_due (us : Nat) (h : s.pwr.holdupReady = false) : ∃ t, exec (.holdupReady us) s = .next t ∧
    t.pwr = { s.pwr with holdupReady := true, cap := min 0xFFFF (us / 150), holdupLow := decide (us < 135000) } ∧
    (us < 135000 → bit (t.hd pPWR).irqStatus 6 = true) ∧ (135000 ≤ us → t.hd pPWR = s.hd pPWR) ∧
    t.fit 9 = (s.fit 9).add s.optime (min 0xFFFF (us / 150) : Nat) 900 (tagOf s.tick) ∧
    t = { s with
      pwr := t.pwr, hlt := t.hlt, regs := t.regs, hdrs := t.hdrs, cnts := t.cnts, vecs := t.vecs, out := t.out, shf := t.shf } := by
  obtain ⟨u, hu, hexec⟩ := act_next (f := fun s => s.holdupReady us) hon
  rw [s.holdupReady_due us hon h] at hu
  have hb : (s.charged us).Quiet [pPWR] (s.chargeSeen us) := iteInduction (fun _ => State.Quiet.irq (.refl _ _) (by simp) 6) fun _ => .refl _ _
  have hlow : us < 135000 → bit ((s.chargeSeen us).hd pPWR).irqStatus 6 = true := fun h => by
    rw [State.chargeSeen, if_pos h]
    exact State.bit_irq _ _ (by decide)
  have hfull : 135000 ≤ us → (s.chargeSeen us).hd pPWR = s.hd pPWR := fun h => by
    rw [State.chargeSeen, if_neg (Nat.not_lt.2 h)]
    rfl
  generalize s.chargeSeen us = b at *
  have hpwr : b.pwr = { s.pwr with holdupReady := true, cap := min 0xFFFF (us / 150), holdupLow := decide (us < 135000) } := hb.pwr
  have hfit : b.fit 9 = s.fit 9 := by rw [State.fit, hb.hlt]; rfl
  have htime : b.optime = s.optime ∧ b.tick = s.tick := by
    rw [State.optime, State.tick, hb.evr, hb.tsu]
    exact ⟨rfl, rfl⟩
  have htake := b.fit_hltTake 9 (b.pwr.cap : Int) 900
  have hshow := (b.hltTake 9 (b.pwr.cap : Int) 900).shown_hltShow
  have hquiet := (b.hltQuiet_hltTake 9 (b.pwr.cap : Int) 900).trans hshow.quiet
  have h9 := (hshow.low 9 (by decide)).trans htake
  rw [show (b.hltTake 9 (b.pwr.cap : Int) 900).hltShow = u from hu.symm] at hquiet h9
  have hshape := hquiet.shape
  rw [hb.shape] at hshape
  have hup : u.pwr = b.pwr := (show State.Quiet [pHLT] _ u from hquiet).pwr
  have huh : u.hd pPWR = b.hd pPWR := hquiet.hd (by decide)
  clear hu hshow htake
  refine ⟨_, (exec_holdupReady us s).trans hexec, hup.trans hpwr, fun h => ?_, fun h => huh.trans (hfull h), ?_, ?_⟩
  · have := hlow h
    rwa [← huh] at this
  · rw [hpwr, hfit, htime.1, htime.2] at h9
    exact h9
  · rw [hshape]
    rfl

theorem exec_vauxLow_due (h : s.pwr.vauxOk = true) : ∃ t, exec .vauxLow s = .next t ∧ t.pwr = { s.pwr with vauxOk := false } ∧
    bit (t.hd pPWR).irqStatus 7 = true ∧ ({ s with pwr := t.pwr } : State).Quiet [pPWR] t := by
  have hrun := State.run_of_onMain hon
  obtain ⟨u, hu, hexec⟩ := act_next (on := State.onKeep) (f := State.vauxLow) (s := s) (by simp [State.onKeep, hrun])
  replace hu : u = (s.updPwr (fun p => { p with vauxOk := false })).irq pPWR 7 := hu.trans (if_neg (by simp [h, hrun]))
  have hq : ({ s with pwr := { s.pwr with vauxOk := false } } : State).Quiet [pPWR] u := hu ▸ State.Quiet.irq (.refl _ _) (by simp) 7
  have hbit : bit (u.hd pPWR).irqStatus 7 = true := hu ▸ State.bit_irq _ _ (by decide)
  refine ⟨_, (exec_vauxLow s).trans hexec, hq.pwr, hbit, ?_⟩
  have hpwr : u.pwr = { s.pwr with vauxOk := false } := hq.pwr
  rw [← hpwr] at hq
  exact hq.pend

end

/-- Settles O51, command by command: the warning, its clearing, the end of the flush, the store and VAUX. -/
theorem warningAndFlush : Obligations.WarningAndFlush := by
  intro s hon
  refine ⟨fun ext h => ?_, fun ext hw he => ⟨exec_warning_again hon ext hw he, exec_warning_first hon ext hw he⟩, fun h => ?_,
    exec_cleared hon, exec_flushEnd_not, fun us hus hpf hover => ⟨exec_flushEnd_shed hon hpf hover hus, exec_flushEnd_held hon hpf hover hus,
      exec_flushEnd_resumes hon hpf hover hus, exec_flushEnd_failover hon hpf hover hus⟩, fun us h => ?_, exec_holdupReady_due hon, fun h => ?_,
    exec_vauxLow_due hon⟩
  · rw [exec_powerFailWarning]
    exact act_same (State.pfWarning_same ext h)
  · rw [exec_pfwCleared]
    exact act_same (if_pos (.inr (by rw [h]; rfl)))
  · rw [exec_holdupReady]
    exact act_same (if_pos (by rw [h, Bool.or_true]))
  · rw [exec_vauxLow]
    exact act_same (if_pos (by rw [h]; rfl))

end Sys2Proof.Machine
end

section
/-!
PROOFS. Loss of supply, the keep-alive island, and the return of VAUX (R431, R432, R434, R479).
-/
namespace Sys2Proof.Machine
open Sys2Proof

/-! ### A message of the key store cut by the loss (R409) -/

/-- Of a module only MRAM and the next free value change. -/
theorem State.msgCut_shape (s : State) : s.msgCut = { s with mram := s.msgCut.mram, free := s.msgCut.free } := by
  unfold State.msgCut
  split
  · dsimp only
    split
    · rfl
    · split
      · rfl
      · split <;> rfl
  · rfl

/-- MRAM changes in the update counter's entry alone. -/
theorem State.mram_msgCut (s : State) {a : Nat} (ha : a < 0x3FB00 ∨ 0x3FB08 ≤ a) :
    sget (0 : Byte) a s.msgCut.mram = sget (0 : Byte) a s.mram := by
  unfold State.msgCut
  split
  · dsimp only
    split
    · rfl
    · split
      · rfl
      · split
        · rfl
        · refine (sget_putBytes _ _ _ _).trans (if_neg ?_)
          rw [List.length_take]
          omega
  · rfl

/-- No message, no change. -/
theorem State.msgCut_none (s : State) (h : ∀ o, s.ksu.op = some o → o.op ≠ 7) : s.msgCut = s := by
  unfold State.msgCut
  split
  next o ho => exact if_pos (by simp [h o ho])
  · rfl

/-! ### The loss -/

/-- Every switch of a channel open. -/
def HCh.opened (c : HCh) : HCh := { c with outs := c.outs.map (fun o => { o with on := false }) }

theorem HCh.off_of_opened {c : HCh} {o : HOut} (h : o ∈ c.opened.outs) : o.on = false := by
  obtain ⟨x, -, rfl⟩ := List.mem_map.1 h
  rfl

/-- A module whose supply is cut: outputs open, the loss noted, the keep-alive island on VAUX. -/
def State.cut (m : State) : State :=
  { m with
    hws := { m.hws with a := m.hws.a.opened, b := m.hws.b.opened }
    dfos := m.dfosOpen.dfos
    evr := { m.evr with optBase := m.optime }
    pwr := { m.pwr with phase := .sleep, lossRtc := m.rtcNow, vmainOk := false, pfMode := false, holdupReady := false }
    rst := { m.rst with prep := none, holdBy := none } }

theorem State.powerLoss_eq (s : State) : s.powerLoss = if s.msgCut.pwr.vauxOk then s.msgCut.cut else s.msgCut.cut.keepOff := by
  unfold State.powerLoss
  generalize s.msgCut = m
  dsimp only [State.updEvr, State.updPwr, State.updRst, State.dfosOpen, State.cut, HCh.opened, State.optime, State.rtcNow, State.since]

/-- The keep-alive island off: what is lost with it. -/
theorem State.keepOff_eq (s : State) : s.keepOff =
    { s with
      cnts := s.cnts.filter (fun e => e.1 / 4096 != pPWR), pwr := { s.pwr with phase := .off, vauxOk := false, kaOff := true, lossRtc := 0 }
      ksu := { s.ksu with kas := none }, shf := { s.shf with ovr := 0 }, hlt := { hour := s.hlt.hour } } := rfl

/-- What a loss leaves. -/
structure State.Lost (s t : State) : Prop where
  phase : t.pwr.phase = if s.pwr.vauxOk then .sleep else .off
  vmain : t.pwr.vmainOk = false
  pfMode : t.pwr.pfMode = false
  rtc : t.pwr.lossRtc = if s.pwr.vauxOk then s.rtcNow else 0
  rst : t.rst = { s.rst with prep := none, holdBy := none }
  outsA : ∀ o, o ∈ t.hws.a.outs → o.on = false
  outsB : ∀ o, o ∈ t.hws.b.outs → o.on = false
  pulses : ∀ e, e ∈ t.dfos → e.2.closed = false
  evr : t.evr = { s.evr with optBase := s.optime }
  mram : ∀ a, a < 0x3FB00 ∨ 0x3FB08 ≤ a → sget (0 : Byte) a t.mram = sget (0 : Byte) a s.mram
  idle : (∀ o, s.ksu.op = some o → o.op ≠ 7) → t.mram = s.mram
  rest : t = { s with
    pwr := t.pwr, rst := t.rst, hws := t.hws, dfos := t.dfos, evr := t.evr, mram := t.mram, cnts := t.cnts, ksu := t.ksu,
    shf := t.shf, hlt := t.hlt, free := t.free }

theorem State.lost_powerLoss (s : State) : s.Lost s.powerLoss := by
  have hm := s.msgCut_shape
  have hram (a : Nat) := s.mram_msgCut (a := a)
  have hidle := s.msgCut_none
  rw [s.powerLoss_eq]
  generalize s.msgCut = m at *
  have hfree : (∀ o, s.ksu.op = some o → o.op ≠ 7) → m.mram = s.mram := fun h => by rw [hidle h]
  clear hidle
  have hcut : m.cut = { s.cut with mram := m.mram, free := m.free } := by rw [hm]; rfl
  have hv : m.pwr.vauxOk = s.pwr.vauxOk := by rw [hm]
  have hopen (e : Nat × Dfo) (he : e ∈ s.dfosOpen.dfos) : e.2.closed = false := (State.dfos_open s e he).1
  rw [hcut, hv]
  generalize m.mram = ram, m.free = fr at *
  cases hvaux : s.pwr.vauxOk with
  | true =>
    rw [if_pos rfl]
    exact ⟨by rw [hvaux]; rfl, rfl, rfl, by rw [hvaux]; rfl, rfl, fun o ho => HCh.off_of_opened ho, fun o ho => HCh.off_of_opened ho, hopen, rfl, hram, hfree, rfl⟩
  | false =>
    rw [if_neg (by decide), State.keepOff_eq]
    exact ⟨by rw [hvaux]; rfl, rfl, rfl, by rw [hvaux]; rfl, rfl, fun o ho => HCh.off_of_opened ho, fun o ho => HCh.off_of_opened ho, hopen, rfl, hram, hfree, rfl⟩

/-- A torn record: MRAM and the deck's queues change. -/
theorem State.tornWrite_shape (s : State) :
    s.tornWrite = { s with mram := s.tornWrite.mram, evr := s.tornWrite.evr } ∧ s.tornWrite.evr.optBase = s.evr.optBase := by
  unfold State.tornWrite
  split
  · exact ⟨rfl, rfl⟩
  · dsimp only [State.updEvr, State.writeMram]
    generalize putBytes _ _ s.mram = ram
    split <;> exact ⟨rfl, rfl⟩

/-- Settles O52: every loss is `powerLoss`, of the state given or, where a record is torn, of one that differs in MRAM and the deck. -/
theorem supplyLoss : Obligations.SupplyLoss := by
  intro s
  refine ⟨fun c h => ?_, fun h => ?_, fun torn h => ?_, fun h => ?_, fun h => ?_, fun h => ?_, fun h => ?_⟩
  · have hexec : ∃ b, exec c s = .next { b.powerLoss with pending := s.pending } ∧ (c ≠ .abruptLoss true → b = s) ∧
        b = { s with mram := b.mram, evr := b.evr } ∧ b.evr.optBase = s.evr.optBase := by
      obtain ⟨rfl, hp⟩ | ⟨⟨torn, rfl⟩, hp, hf⟩ | ⟨rfl, hon⟩ := h
      · refine ⟨s, ?_, fun _ => rfl, rfl, rfl⟩
        rw [exec_storeEmpty, act_on _ _ _ rfl, State.storeEmpty, if_pos hp]
      · have hloss : s.abruptLoss torn = (if torn then s.tornWrite else s).powerLoss := by
          refine if_neg ?_
          rintro (⟨h1, h2⟩ | h3)
          · exact hp.elim h1 h2
          · rw [hf] at h3; exact absurd h3 (by decide)
        refine ⟨if torn then s.tornWrite else s, by rw [exec_abruptLoss, act_on _ _ _ rfl, hloss], ?_, ?_⟩
        · intro hne
          cases torn with
          | true => exact absurd rfl hne
          | false => rfl
        · cases torn with
          | true => exact s.tornWrite_shape
          | false => exact ⟨rfl, rfl⟩
      · exact ⟨s, by rw [exec_overtempShutdown, act_on _ _ _ hon], fun _ => rfl, rfl, rfl⟩
    obtain ⟨b, hexec, hsame, hb, hopt⟩ := hexec
    have hl := b.lost_powerLoss
    generalize b.powerLoss = t at *
    have hpwr : b.pwr = s.pwr := by rw [hb]
    have hrst : b.rst = s.rst := by rw [hb]
    have htsu : b.tsu = s.tsu := by rw [hb]
    have hrtc : b.rtcNow = s.rtcNow := by rw [State.rtcNow, State.since, hpwr, htsu]; rfl
    have hot : b.optime = s.optime := by rw [State.optime, hopt, htsu]; rfl
    refine ⟨_, hexec, hpwr ▸ hl.phase, hl.vmain, hl.pfMode, by rw [← hrtc, ← hpwr]; exact hl.rtc, hrst ▸ hl.rst, hl.outsA, hl.outsB, hl.pulses,
      hot ▸ congrArg Evr.optBase hl.evr, fun hne => ?_, ?_⟩
    · obtain rfl := hsame hne
      exact ⟨hl.evr, hl.mram, hl.idle⟩
    · have hrest := hl.rest
      rw [hb] at hrest
      rw [hrest]
  · rw [exec_storeEmpty]
    refine act_same (if_neg ?_)
    rintro (h' | ⟨h', h''⟩)
    · simp [h'] at h
    · simp [h', h''] at h
  · rw [exec_abruptLoss]
    refine act_same (if_pos ?_)
    obtain h | h | h | h := h
    · exact .inl (by simp [h])
    · exact .inl (by simp [h])
    · exact .inl (by simp [h])
    · exact .inr h
  · refine ⟨_, (exec_keepAliveOff s).trans (act_on _ _ _ (by simp [h])), rfl, rfl, rfl, fun off ho => ?_, rfl⟩
    refine (sget_filter_key (fun a => a / 4096 != pPWR) 0 (ka pPWR off) s.cnts).trans (if_neg ?_)
    rw [ka_div _ ho]
    decide
  · rw [exec_keepAliveOff]
    exact act_off _ _ _ (by simpa using h)
  · rw [exec_vauxReturn, act_on _ _ _ rfl]
    exact congrArg (fun t : State => Host.Outcome.next { t with pending := s.pending }) (if_pos h)
  · rw [exec_vauxReturn, act_on _ _ _ rfl]
    exact congrArg (fun t : State => Host.Outcome.next { t with pending := s.pending }) (if_neg h)

end Sys2Proof.Machine
end

section
/-!
PROOFS. What the work of a start, a fence and a failure leaves: the controls of every page, supplies, reset, time, the key store (R27, R436).
-/
namespace Sys2Proof.Machine
open Sys2Proof

/-- The module works on: pages keep their controls, what they have raised and what is fenced; supplies, reset, time and the key store stay,
empty memory stays empty, and page RST counts nothing. -/
structure State.Works (s t : State) : Prop where
  unlocked : ∀ q, (t.hd q).unlocked = (s.hd q).unlocked
  enable : ∀ q, (t.hd q).enable = (s.hd q).enable
  started : ∀ q, (t.hd q).started = (s.hd q).started
  fenced : ∀ q, (s.hd q).fenced = true → (t.hd q).fenced = true
  degraded : ∀ q, (s.hd q).degraded = true → (t.hd q).degraded = true
  raised : ∀ q i, bit (s.hd q).irqStatus i = true → bit (t.hd q).irqStatus i = true
  cn : ∀ off, off < 4096 → t.cn pRST off = s.cn pRST off
  ident : t.ident = s.ident
  phase : t.pwr.phase = s.pwr.phase
  vaux : t.pwr.vauxOk = s.pwr.vauxOk
  rst : t.rst = s.rst
  mem : s.mem = [] → t.mem = []
  tsu : t.tsu = s.tsu
  cycles : t.evr.pwrCycles = s.evr.pwrCycles
  mgr : t.shf.mgr = s.shf.mgr
  ksu : t.ksu = s.ksu
  tmpActive : t.tmp.active = s.tmp.active

section
variable {s t u : State}

theorem State.Works.refl (s : State) : s.Works s :=
  ⟨fun _ => rfl, fun _ => rfl, fun _ => rfl, fun _ => id, fun _ => id, fun _ _ => id, fun _ _ => rfl, rfl, rfl, rfl, rfl, id, rfl, rfl, rfl, rfl, rfl⟩

theorem State.Works.trans (h : s.Works t) (h' : t.Works u) : s.Works u where
  unlocked q := (h'.unlocked q).trans (h.unlocked q)
  enable q := (h'.enable q).trans (h.enable q)
  started q := (h'.started q).trans (h.started q)
  fenced q hq := h'.fenced q (h.fenced q hq)
  degraded q hq := h'.degraded q (h.degraded q hq)
  raised q i hq := h'.raised q i (h.raised q i hq)
  cn off ho := (h'.cn off ho).trans (h.cn off ho)
  ident := h'.ident.trans h.ident
  phase := h'.phase.trans h.phase
  vaux := h'.vaux.trans h.vaux
  rst := h'.rst.trans h.rst
  mem hm := h'.mem (h.mem hm)
  tsu := h'.tsu.trans h.tsu
  cycles := h'.cycles.trans h.cycles
  mgr := h'.mgr.trans h.mgr
  ksu := h'.ksu.trans h.ksu
  tmpActive := h'.tmpActive.trans h.tmpActive

/-- A change beside all of these. -/
theorem State.works_of (hh : t.hdrs = s.hdrs := by rfl) (hc : t.cnts = s.cnts := by rfl) (hi : t.ident = s.ident := by rfl)
    (hp : t.pwr = s.pwr := by rfl) (hr : t.rst = s.rst := by rfl) (hm : t.mem = s.mem := by rfl) (ht : t.tsu = s.tsu := by rfl)
    (hy : t.evr.pwrCycles = s.evr.pwrCycles := by rfl) (hg : t.shf = s.shf := by rfl) (hk : t.ksu = s.ksu := by rfl)
    (hx : t.tmp = s.tmp := by rfl) : s.Works t := by
  have hd (q : Nat) : t.hd q = s.hd q := by rw [State.hd, hh, ← State.hd]
  exact ⟨fun q => by rw [hd], fun q => by rw [hd], fun q => by rw [hd], fun q => by rw [hd]; exact id, fun q => by rw [hd]; exact id,
    fun q i => by rw [hd]; exact id, fun off _ => by rw [State.cn, hc, ← State.cn], hi, by rw [hp], by rw [hp], hr, fun h => hm.trans h, ht, hy,
    by rw [hg], hk, by rw [hx]⟩

/-- A change of headers that keeps the controls and loses no mark. -/
theorem State.works_updHd (s : State) (p : Nat) {f : Hdr → Hdr} (hf : ∀ h, (f h).unlocked = h.unlocked ∧ (f h).enable = h.enable ∧
    (f h).started = h.started ∧ (h.fenced = true → (f h).fenced = true) ∧ (h.degraded = true → (f h).degraded = true) ∧
    ∀ i, bit h.irqStatus i = true → bit (f h).irqStatus i = true) : s.Works (s.updHd p f) := by
  have key (P : Hdr → Hdr → Prop) (hs : ∀ h, P h h) (hP : ∀ h, P h (f h)) (q : Nat) : P (s.hd q) ((s.updHd p f).hd q) := by
    by_cases hq : q = p
    · subst hq; rw [s.hd_updHd]; exact hP _
    · rw [s.hd_updHd_other _ _ _ hq]; exact hs _
  exact ⟨key (fun a b => b.unlocked = a.unlocked) (fun _ => rfl) fun h => (hf h).1,
    key (fun a b => b.enable = a.enable) (fun _ => rfl) fun h => (hf h).2.1,
    key (fun a b => b.started = a.started) (fun _ => rfl) fun h => (hf h).2.2.1,
    key (fun a b => a.fenced = true → b.fenced = true) (fun _ => id) fun h => (hf h).2.2.2.1,
    key (fun a b => a.degraded = true → b.degraded = true) (fun _ => id) fun h => (hf h).2.2.2.2.1,
    fun q i => key (fun a b => bit a.irqStatus i = true → bit b.irqStatus i = true) (fun _ => id) (fun h => (hf h).2.2.2.2.2 i) q,
    fun off _ => by rw [State.cn, State.updHd_cnts, ← State.cn], by simp, by simp, by simp, by simp, fun h => by simpa using h, by simp,
    by simp, by rw [s.updHd_sameShf p f], by simp, by simp⟩

theorem State.works_irq (s : State) (p i : Nat) : s.Works (s.irq p i) where
  unlocked q := by rw [State.hd_irq_all]
  enable q := by rw [State.hd_irq_all]
  started q := by rw [State.hd_irq_all]
  fenced q := by rw [State.hd_irq_all]; exact id
  degraded q := by rw [State.hd_irq_all]; exact id
  raised q j := State.bit_irq_of_bit
  cn off _ := by rw [State.cn, State.irq_cnts, ← State.cn]
  ident := by simp
  phase := by simp
  vaux := by simp
  rst := by simp
  mem h := by simpa using h
  tsu := by simp
  cycles := by simp
  mgr := by rw [((State.Quiet.refl [p] s).irq (by simp) i).rest]
  ksu := by simp
  tmpActive := by simp

theorem State.works_bumpBy (s : State) {p o : Nat} (hp : p ≠ pRST) (ho : o < 4096) (n : Nat) : s.Works (s.bumpBy p o n) where
  unlocked q := by rw [State.hd_bumpBy]
  enable q := by rw [State.hd_bumpBy]
  started q := by rw [State.hd_bumpBy]
  fenced q := by rw [State.hd_bumpBy]; exact id
  degraded q := by rw [State.hd_bumpBy]; exact id
  raised q j := State.bit_bumpBy_of_bit
  cn off hoff := s.cn_bumpBy_other _ _ _ _ _ (by unfold ka; omega)
  ident := by simp
  phase := by simp
  vaux := by simp
  rst := by simp
  mem h := by simpa using h
  tsu := by simp
  cycles := by simp
  mgr := by rw [((State.Quiet.refl [p] s).bumpBy (by simp) o n ho).rest]
  ksu := by simp
  tmpActive := by simp

theorem State.works_bump (s : State) {p o : Nat} (hp : p ≠ pRST) (ho : o < 4096) : s.Works (s.bump p o) := s.works_bumpBy hp ho 1

theorem State.Works.foldl {α : Type} {f : State → α → State} (l : List α) (hf : ∀ (s : State) x, x ∈ l → s.Works (f s x)) (s : State) :
    s.Works (l.foldl f s) :=
  List.foldlRecOn _ _ (.refl s) fun _ h x hx => h.trans (hf _ x hx)

theorem State.Works.iter {f : Nat → State → State} {n : Nat} (hf : ∀ i (s : State), i < n → s.Works (f i s)) (s : State) :
    s.Works (iter n f s) := State.Works.foldl _ (fun s i hi => hf i s (List.mem_range.1 hi)) s

theorem State.works_setRg (s : State) (p o : Nat) (v : Word) : s.Works (s.setRg p o v) := State.works_of
theorem State.works_deck (s : State) (src cls typ : Nat) (body : List Nat) : s.Works (s.deck src cls typ body) := State.works_of
theorem State.works_setTws (s : State) (a : Nat) (ws : List Word) : s.Works (s.setTws a ws) := by
  have h := s.setTws_shape a ws
  generalize s.setTws a ws = t at *
  rw [h]
  exact State.works_of

theorem State.works_flushStart (s : State) : s.Works s.flushStart := by
  refine State.works_of (hy := ?_)
  unfold State.flushStart State.updEvr
  dsimp only
  split <;> rfl

/-! ### The work of a fenced unit (R27) -/

theorem State.works_flushPort (s : State) (p : Nat) : s.Works (s.flushPort p) := by
  have hdrop (s : State) (id : Nat) : s.Works (s.lndDrop id) := State.works_of
  have hq : s.Works (s.flushQueues p) := by
    refine State.Works.trans (t := iter 8 _ s) (State.Works.iter (fun q s hq => ?_) s) State.works_of
    exact State.Works.foldl _ (fun s y _ => (hdrop s _).trans (State.works_bump _ (by unfold pEG pRST; omega) (by unfold qCnt; omega))) s
  unfold State.flushPort
  dsimp only
  have hf := hq.trans (State.Works.foldl ((s.flushQueues p).eg p).fly (fun s y _ => hdrop s y.id) _)
  generalize List.foldl _ (s.flushQueues p) _ = t at *
  have ht : t.Works (t.setEg p { t.eg p with fly := [] }) := State.works_of
  refine (hf.trans ht).trans ?_
  generalize t.setEg p { t.eg p with fly := [] } = u
  split
  · have hy : u.Works (u.updSwc (fun c => { c with yard := [] })) := State.works_of
    exact hy.trans (State.works_bumpBy _ (by decide) (by decide) _)
  · exact .refl u

theorem State.works_linkLost (s : State) (p : Nat) : s.Works (s.linkLost p) := by
  unfold State.linkLost
  dsimp only
  split
  · exact .refl s
  · have hm : s.Works (s.setMac p { (s.mac p).resume with linkUp := false, holdoff := false }) := State.works_of
    exact ((hm.trans (State.works_bump _ (by unfold pMAC pRST; omega) (by decide))).trans (State.works_irq _ _ _)).trans (State.works_flushPort _ _)

theorem State.works_fltStopAll (s : State) (e : Nat) : s.Works (s.fltStopAll e) := by
  refine State.Works.foldl _ (fun s c _ => ?_) s
  split
  · have hf (x : FltEng) : s.Works (s.setFe e x) := State.works_of
    exact (hf _).trans (State.works_setTws _ _ _)
  · exact .refl s

theorem State.works_setTp (s : State) (e l : Nat) (p : TPt) : s.Works (s.setTp e l p) := State.works_of

theorem State.works_talFenced (s : State) (e : Nat) : s.Works (s.talFenced e) := by
  refine State.Works.trans (t := s.talHalt e) (State.Works.foldl _ (fun s l _ => ?_) s) State.works_of
  dsimp only
  split
  · exact s.works_setTp _ _ _
  · exact (s.works_setTp _ _ _).trans (State.works_irq _ _ _)

theorem State.works_ringStop (s : State) (q d st : Nat) : s.Works (s.ringStop q d st) := by
  unfold State.ringStop
  dsimp only
  split
  · exact .refl s
  · have hq (x : Qp) : s.Works (s.setQp q x) := State.works_of
    generalize ite (d = 0) _ _ = y
    refine State.Works.trans ?_ (State.works_irq _ _ _)
    split
    · exact (hq y).trans State.works_of
    · exact hq y

theorem State.works_skdFenced (s : State) (k : Nat) : s.Works (s.skdFenced k) := by
  unfold State.skdFenced
  dsimp only
  refine State.Works.trans ?_ (State.Works.foldl _ (fun s q _ => ?_) _)
  · have hs : s.Works (s.setSkd k { s.skd k with reqs := [] }) := State.works_of
    exact (hs.trans (State.works_bumpBy _ (show 0x180 + k ≠ 0x002 by omega) (show R.SKD_CNT_SQUASHED < 4096 by decide) _)).trans State.works_of
  · split
    · exact (s.works_ringStop _ _ _).trans (State.works_ringStop _ _ _ _)
    · exact .refl s

theorem State.works_instFault (s : State) (i : Nat) (b : Bool) : s.Works (s.instFault i b) := by
  unfold State.instFault
  dsimp only
  have hi (x : Inst) : s.Works (s.setInst i x) := State.works_of
  split
  · exact hi _
  · exact ((hi _).trans (State.works_bump _ (by decide) (by decide))).trans (State.works_irq _ _ _)

theorem State.works_fenceWork (s : State) (p : Nat) : s.Works (s.fenceWork p) := by
  unfold State.fenceWork
  split
  · exact s.works_linkLost _
  · exact s.works_fltStopAll _
  · exact s.works_talFenced _
  · exact s.works_skdFenced _
  · exact State.Works.foldl _ (fun s n _ => s.works_instFault n false) s
  · exact .refl s

theorem State.works_degrade (s : State) (p : Nat) : s.Works (s.updHd p (fun h => { h with degraded := true })) :=
  s.works_updHd p fun _ => ⟨rfl, rfl, rfl, id, fun _ => rfl, fun _ => id⟩

theorem State.works_fence (s : State) (p cause : Nat) : s.Works (s.fence p cause) := by
  unfold State.fence
  split
  · exact .refl s
  · have hf : s.Works (s.updHd p (fun h => { h with fenced := true })) :=
      s.works_updHd p fun _ => ⟨rfl, rfl, rfl, fun _ => rfl, id, fun _ => id⟩
    have hw := ((hf.trans (State.works_irq _ p 3)).trans (State.works_degrade _ 0)).trans (State.works_fenceWork _ p)
    dsimp only
    generalize State.fenceWork _ p = t at *
    have hd : t.Works { t with dup := { t.dup with healthyClk := t.tsu.clk } } := State.works_of
    exact ((hw.trans hd).trans (State.works_flushStart _)).trans (State.works_deck _ _ _ _ _)

theorem State.works_fail (s : State) (p cause : Nat) : s.Works (s.fail p cause) := by
  unfold State.fail
  split
  · exact .refl s
  · exact ((s.works_setRg _ _ _).trans (State.works_flushStart _)).trans (State.works_deck _ _ _ _ _)

theorem State.works_hwsOff (s : State) : s.Works s.hwsOff := State.works_of

end

end Sys2Proof.Machine
end

section
/-!
PROOFS. A fenced unit and a failed module (R24 to R29, R491).
-/
namespace Sys2Proof.Machine
open Sys2Proof

section
variable (s : State) (p cause : Nat)

/-- A unit fenced, with its interrupt and DEGRADED on SYS, before its work stops. -/
def State.fenceMark : State := ((s.updHd p (fun h => { h with fenced := true })).irq p 3).updHd 0 (fun h => { h with degraded := true })

theorem State.fence_taken (hf : fenceable p = true) (hu : s.unusable p = false) : s.fence p cause =
    State.fenceRec (State.flushStart { (s.fenceMark p).fenceWork p with
      dup := { ((s.fenceMark p).fenceWork p).dup with healthyClk := ((s.fenceMark p).fenceWork p).tsu.clk } }) p cause 0 := by
  unfold State.fence
  rw [if_neg (by rw [hf, hu]; decide)]
  rfl

theorem State.fenceMark_spec : ((s.fenceMark p).hd p).fenced = true ∧ bit ((s.fenceMark p).hd p).irqStatus 3 = true ∧
    ((s.fenceMark p).hd 0).degraded = true := by
  unfold State.fenceMark
  have hf : ((s.updHd p (fun h => { h with fenced := true })).hd p).fenced = true := by rw [State.hd_updHd]
  have hb := State.bit_irq (s.updHd p (fun h => { h with fenced := true })) p (i := 3) (by decide)
  have hi := State.works_irq (s.updHd p (fun h => { h with fenced := true })) p 3
  replace hf := hi.fenced p hf
  generalize (s.updHd p (fun h => { h with fenced := true })).irq p 3 = t at *
  have hd := t.works_degrade 0
  exact ⟨hd.fenced p hf, hd.raised p 3 hb, by rw [State.hd_updHd]⟩

theorem State.fenceRec_cross (page c g : Nat) : ∃ r, (s.fenceRec page c g).evr.cross = s.evr.cross ++ [r] ∧ r.cls = 13 ∧ r.typ = 1 :=
  ⟨_, rfl, rfl, rfl⟩

theorem State.flushStart_flushing : s.flushStart.evr.flushing.isSome = true := by
  unfold State.flushStart State.updEvr
  dsimp only
  split
  · assumption
  · rfl

theorem State.flushStart_cross : s.flushStart.evr.cross = s.evr.cross := by
  unfold State.flushStart State.updEvr
  dsimp only
  split <;> rfl

theorem exec_fence_taken (hon : s.onMain = true) (hf : fenceable p = true) (hu : s.unusable p = false) :
    ∃ t r l, exec (.unitFence p) s = .next t ∧ (t.hd p).fenced = true ∧ bit (t.hd p).irqStatus 3 = true ∧ (t.hd 0).degraded = true ∧
      t.unusable p = true ∧ t.evr.cross = l ++ [r] ∧ r.cls = 13 ∧ r.typ = 1 ∧ t.evr.flushing.isSome = true := by
  obtain ⟨u, hu', hexec⟩ := act_next (f := fun s => s.fence p 2) hon
  obtain ⟨hfen, hbit, hdeg⟩ := s.fenceMark_spec p
  have hw := (s.fenceMark p).works_fenceWork p
  rw [s.fence_taken p 2 hf hu] at hu'
  generalize (s.fenceMark p).fenceWork p = v at *
  have hd : v.Works { v with dup := { v.dup with healthyClk := v.tsu.clk } } := State.works_of
  replace hw := hw.trans hd
  generalize ({ v with dup := { v.dup with healthyClk := v.tsu.clk } } : State) = x at *
  have hflush := x.flushStart_flushing
  replace hw := hw.trans x.works_flushStart
  generalize x.flushStart = y at *
  obtain ⟨r, hr, hcls, htyp⟩ := y.fenceRec_cross p 2 0
  have hfl : (y.fenceRec p 2 0).evr.flushing = y.evr.flushing := rfl
  replace hw : (s.fenceMark p).Works (y.fenceRec p 2 0) := hw.trans (State.works_deck _ _ _ _ _)
  rw [← hu'] at hr hw hfl
  clear hu' hd
  have hfen' := hw.fenced p hfen
  refine ⟨_, r, y.evr.cross, (exec_unitFence p s).trans hexec, hfen', hw.raised p 3 hbit, hw.degraded 0 hdeg, ?_, hr, hcls, htyp, by rw [← hflush, ← hfl]⟩
  rw [State.unusable]
  exact Bool.or_eq_true_iff.2 (.inl hfen')

/-! ### A failure (R29) -/

theorem State.failed_putBit : (s.putBit 0 R.SYS_STATUS 1 true).failed = true := by
  have h : (s.putBit 0 R.SYS_STATUS 1 true).failed = bit ((s.putBit 0 R.SYS_STATUS 1 true).rg 0 R.SYS_STATUS) 1 := rfl
  rw [h, State.putBit, State.rg_setRg]
  exact bit_setBit_same _ (by decide)

theorem State.fail_failed (h : s.failed = true) : s.fail p cause = s := if_pos h

theorem State.fail_first (h : s.failed = false) : ∃ r, (s.fail p cause).failed = true ∧
    (s.fail p cause).evr.cross = s.evr.cross ++ [r] ∧ r.cls = 13 ∧ r.typ = 8 ∧ (s.fail p cause).evr.flushing.isSome = true ∧
    (∀ q off, ka q off ≠ ka 0 R.SYS_STATUS → (s.fail p cause).rg q off = s.rg q off) ∧
    s.fail p cause = { s with regs := (s.fail p cause).regs, evr := (s.fail p cause).evr } := by
  have hfail : s.fail p cause = ((s.putBit 0 R.SYS_STATUS 1 true).flushStart).deck 0 13 8 (tagBody (tagOf (s.putBit 0 R.SYS_STATUS 1 true).flushStart.tick) ++
    bytesLE 2 p ++ bytesLE 1 cause) := if_neg (by rw [h]; decide)
  have hf := s.failed_putBit
  have hcross := (s.putBit 0 R.SYS_STATUS 1 true).flushStart_cross
  have hflush := (s.putBit 0 R.SYS_STATUS 1 true).flushStart_flushing
  rw [hfail]
  exact ⟨_, hf, congrArg (· ++ [_]) hcross, rfl, rfl, hflush, fun q off hne => s.rg_setRg_other _ _ _ _ _ hne, rfl⟩

theorem exec_fail_first (hon : s.onMain = true) (hf : fenceable p = false) (hp : headPage p ≠ pHWS 0) (h : s.failed = false) :
    ∃ t r, exec (.moduleFail p cause) s = .next t ∧ t.failed = true ∧
      t.evr.cross = s.evr.cross ++ [r] ∧ r.cls = 13 ∧ r.typ = 8 ∧ t.evr.flushing.isSome = true ∧
      (∀ q off, ka q off ≠ ka 0 R.SYS_STATUS → t.rg q off = s.rg q off) ∧ t = { s with regs := t.regs, evr := t.evr } := by
  obtain ⟨u, hu, hexec⟩ := act_next (f := fun s => s.unitFail p cause) hon
  replace hu : u = s.fail p cause := hu.trans ((if_neg (by rw [hf]; decide)).trans (if_neg hp))
  obtain ⟨r, hfail, hcross, hcls, htyp, hflush, hrg, hshape⟩ := s.fail_first p cause h
  rw [← hu] at hfail hcross hflush hrg hshape
  exact ⟨_, r, (exec_moduleFail p cause s).trans hexec, hfail, hcross, hcls, htyp, hflush, hrg,
    congrArg (fun t : State => { t with pending := s.pending }) hshape⟩

theorem exec_fail_safety (hon : s.onMain = true) (hp : headPage p = pHWS 0) (hf : fenceable p = false) (h : s.hws.safe = false) :
    ∃ t, exec (.moduleFail p cause) s = .next t ∧ t.failed = true ∧ t.hws.safe = true ∧
      (∀ o, o ∈ t.hws.a.outs → o.on = false) ∧ (∀ o, o ∈ t.hws.b.outs → o.on = false) ∧ t.mem = s.mem ∧ t.tsu = s.tsu := by
  obtain ⟨u, hu, hexec⟩ := act_next (f := fun s => s.unitFail p cause) hon
  replace hu : u = s.hwsSafe := hu.trans ((if_neg (by rw [hf]; decide)).trans (if_pos hp))
  rw [State.hwsSafe, if_neg (by rw [h]; decide)] at hu
  have hhws : ((s.hwsOff.hwsBoth R.HWS_CNT_SYNC_FAULT 11).hwsRec 0 5 0 0).hws = s.hwsOff.hws := by simp [State.hwsRec, State.hwsBoth]
  have hmem : ((s.hwsOff.hwsBoth R.HWS_CNT_SYNC_FAULT 11).hwsRec 0 5 0 0).mem = s.mem := by simp [State.hwsRec, State.hwsBoth, State.hwsOff]
  have htsu : ((s.hwsOff.hwsBoth R.HWS_CNT_SYNC_FAULT 11).hwsRec 0 5 0 0).tsu = s.tsu := by simp [State.hwsRec, State.hwsBoth, State.hwsOff]
  generalize (s.hwsOff.hwsBoth R.HWS_CNT_SYNC_FAULT 11).hwsRec 0 5 0 0 = v at *
  obtain ⟨hfail, hshape⟩ : u.failed = true ∧ u = { v with regs := u.regs, evr := u.evr } := by
    cases hv : v.failed with
    | true => rw [v.fail_failed _ _ hv] at hu; exact ⟨hu ▸ hv, by rw [hu]⟩
    | false =>
      obtain ⟨-, hf, -, -, -, -, -, hs⟩ := v.fail_first (pHWS 0) 3 hv
      rw [← hu] at hf hs
      exact ⟨hf, hs⟩
  have hh : u.hws = s.hwsOff.hws := (congrArg State.hws hshape).trans hhws
  clear hu
  refine ⟨_, (exec_moduleFail p cause s).trans hexec, hfail, by rw [hh]; rfl, fun o ho => ?_, fun o ho => ?_,
    (congrArg State.mem hshape).trans hmem, (congrArg State.tsu hshape).trans htsu⟩
  · rw [hh] at ho
    obtain ⟨x, -, rfl⟩ := List.mem_map.1 ho
    rfl
  · rw [hh] at ho
    obtain ⟨x, -, rfl⟩ := List.mem_map.1 ho
    rfl

end

/-- Settles O60: fencing through `fenceMark` and the work that stops, failure through `fail`. -/
theorem unitsThatFail : Obligations.UnitsThatFail := by
  intro p s hon
  refine ⟨fun h => ?_, exec_fence_taken s p hon, fun cause => ⟨fun h => ?_, fun hf hp => ⟨fun h => ?_, exec_fail_first s p cause hon hf hp⟩,
    fun hp hf => ⟨fun h => ?_, exec_fail_safety s p cause hon hp hf⟩⟩⟩
  · rw [exec_unitFence]
    refine act_same (if_pos ?_)
    simpa using h
  · rw [exec_moduleFail]
    exact act_same (if_pos h)
  · rw [exec_moduleFail]
    exact act_same ((if_neg (by rw [hf]; decide)).trans ((if_neg hp).trans (s.fail_failed p cause h)))
  · rw [exec_moduleFail]
    exact act_same ((if_neg (by rw [hf]; decide)).trans ((if_pos hp).trans (if_pos h)))

end Sys2Proof.Machine
end

section
/-!
PROOFS. Power-on and warm resets (R382, R401, R431, R436, R438, R439).
-/
namespace Sys2Proof.Machine
open Sys2Proof

/-! ### Stores rebuilt entry by entry -/

section
variable {β : Type} [DecidableEq β] {d : β} {f : Nat → β → β} {p : Nat}

/-- A rebuilt store reads what it was given first, or a value that has passed `f`. -/
theorem sget_foldl_sset (P : β → Prop) (hf : ∀ v, P (f p v)) (l m : List (Nat × β)) (hm : P (sget d p m)) :
    P (sget d p (l.foldl (fun m e => sset d e.1 (f e.1 e.2) m) m)) :=
  List.foldlRecOn (motive := fun m => P (sget d p m)) l _ hm fun m h e _ => by
    by_cases he : p = e.1
    · rw [he, sget_sset_same]
      exact he ▸ hf _
    · rwa [sget_sset_other _ _ _ _ _ _ he]

/-- What every entry of a key becomes, the rebuilt store reads there, if it has one or read it before. -/
theorem sget_foldl_sset_mem (P : β → Prop) (l m : List (Nat × β)) (hl : ∀ e ∈ l, e.1 = p → P (f p e.2))
    (hm : P (sget d p m) ∨ p ∈ l.map Prod.fst) : P (sget d p (l.foldl (fun m e => sset d e.1 (f e.1 e.2) m) m)) := by
  induction l generalizing m with
  | nil => exact hm.resolve_right List.not_mem_nil
  | cons e l ih =>
    refine ih _ (fun x hx => hl x (List.mem_cons_of_mem e hx)) ?_
    by_cases he : p = e.1
    · subst he
      rw [sget_sset_same]
      exact .inl (hl e List.mem_cons_self rfl)
    · rw [sget_sset_other _ _ _ _ _ _ he]
      exact hm.imp_right fun h => (List.mem_cons.1 h).resolve_left he

omit [DecidableEq β] in
theorem sget_of_not_mem (l : List (Nat × β)) (h : p ∉ l.map Prod.fst) : sget d p l = d := by
  induction l with
  | nil => rfl
  | cons e l ih =>
    obtain ⟨a, b⟩ := e
    rw [List.map_cons, List.mem_cons, not_or] at h
    rw [sget, if_neg (Ne.symm h.1), ih h.2]

omit [DecidableEq β] in
/-- With no key twice, an entry is what the store reads at its key. -/
theorem sget_of_mem (l : List (Nat × β)) (hl : (l.map Prod.fst).Nodup) {v : β} (h : (p, v) ∈ l) : sget d p l = v := by
  induction l with
  | nil => exact absurd h List.not_mem_nil
  | cons e l ih =>
    obtain ⟨a, b⟩ := e
    obtain ⟨ha, hl⟩ := List.nodup_cons.1 hl
    obtain h | h := List.mem_cons.1 h
    · obtain ⟨rfl, rfl⟩ := Prod.mk.inj h
      rw [sget, if_pos rfl]
    · have hne : a ≠ p := fun e => ha (e ▸ List.mem_map.2 ⟨(p, v), h, rfl⟩)
      rw [sget, if_neg hne, ih hl h]

end

/-! ### What the restores of a start change -/

/-- The pages a restore may count and raise on. -/
def restorePages : List Nat := pHLT :: (List.range 8).map pTAL

/-- Tally engines, the crossing of the deck, MRAM, health and what a quiet step of their pages may change. -/
def State.Restored (s t : State) : Prop :=
  ({ s with tals := t.tals, evr := { s.evr with cross := t.evr.cross }, mram := t.mram, hlt := t.hlt, regs := t.regs } : State).Quiet restorePages t

section
variable {s t u : State}

theorem State.Restored.refl (s : State) : s.Restored s := State.Quiet.refl _ _

theorem State.Restored.trans (h : s.Restored t) (h' : t.Restored u) : s.Restored u := by
  have he : { t.evr with cross := u.evr.cross } = { s.evr with cross := u.evr.cross } := by rw [(show State.Quiet _ _ t from h).evr]
  refine State.Quiet.trans (t := { t with tals := u.tals, evr := { t.evr with cross := u.evr.cross }, mram := u.mram, hlt := u.hlt, regs := u.regs }) ?_ h'
  rw [he]
  exact State.Quiet.over h (congrArg (fun x : State => { x with
    tals := u.tals, evr := { s.evr with cross := u.evr.cross }, mram := u.mram, hlt := u.hlt, regs := u.regs }) h.rest) rfl rfl rfl rfl

theorem State.Quiet.restored (h : s.Quiet restorePages t) : s.Restored t := by
  rw [State.Restored, h.tals, h.evr, h.mram, h.hlt, h.regs]
  exact h

theorem State.Restored.foldl {α : Type} {f : State → α → State} (l : List α) (hf : ∀ (s : State) x, x ∈ l → s.Restored (f s x)) (s : State) :
    s.Restored (l.foldl f s) :=
  List.foldlRecOn _ _ (.refl s) fun _ h x hx => h.trans (hf _ x hx)

theorem pTAL_mem {e : Nat} (he : e < 8) : pTAL e ∈ restorePages := List.mem_cons_of_mem _ (List.mem_map_of_mem (List.mem_range.2 he))

theorem State.restored_talRestore (s : State) (loss : Option Nat) {e : Nat} (he : e < 8) : s.Restored (s.talRestore loss e) := by
  have hset (s : State) (x : TalEng) : s.Restored (s.setTe e x) := State.Quiet.refl _ _
  have hdeck (s : State) (c t : Nat) (b : List Nat) : s.Restored (s.deck (pTAL e) c t b) := State.Quiet.refl _ _
  have hirq (s : State) (i : Nat) : s.Restored (s.irq (pTAL e) i) := (State.Quiet.irq (.refl _ s) (pTAL_mem he) i).restored
  have hbump (s : State) {o : Nat} (ho : o < 4096) : s.Restored (s.bump (pTAL e) o) :=
    (State.Quiet.bump (.refl _ s) (pTAL_mem he) o ho).restored
  have hsave (x : TalEng) (torn : Bool) (body : List Nat) : s.Restored
      (((if torn then (s.setTe e x).bump (pTAL e) R.TAL_CNT_SAVE_TORN else s.setTe e x).deck (pTAL e) 9 4 body).irq (pTAL e) 10) :=
    ((iteInduction (fun _ => (hset s x).trans (hbump _ (by decide))) fun _ => hset s x).trans (hdeck _ _ _ _)).trans (hirq _ _)
  unfold State.talRestore
  split
  · exact .refl s
  dsimp only
  split
  · exact hset s _
  · exact iteInduction (fun _ => hsave _ _ _) fun _ => (((hsave _ _ _).trans (hdeck _ _ _ _)).trans (hirq _ _)).trans (hbump _ (by decide))

theorem State.restored_tmpReport (s : State) : s.Restored s.tmpReport :=
  State.Restored.foldl _ (fun s _ _ => (State.Quiet.refl _ _ : s.Restored (s.tmpDeck _ _ _ _))) s

theorem State.restored_hltShow (s : State) : s.Restored s.hltShow := by
  have h := s.shown_hltShow.quiet
  generalize s.hltShow = t at *
  have he := (show State.Quiet [pHLT] _ t from h).evr
  have hm := (show State.Quiet [pHLT] _ t from h).mram
  have ht := (show State.Quiet [pHLT] _ t from h).tals
  rw [State.Restored, he, hm, ht]
  exact State.Quiet.mono h (by decide)

theorem State.restored_talRestores (s : State) (loss : Option Nat) : s.Restored (iter 8 (fun e s => State.talRestore s loss e) s) :=
  State.Restored.foldl _ (fun s _ he => s.restored_talRestore loss (List.mem_range.1 he)) s

end

/-! ### Power-on -/

/-- What a power-on reset shows at its end. -/
structure State.Booted (cause cycles : Nat) (b : StartUp) (mgr : Bool) (t : State) : Prop where
  phase : t.pwr.phase = .run
  cause : t.rst.cause = cause
  mem : t.mem = []
  sync : t.tsu.sync = .unlocked
  cycles : t.evr.pwrCycles = cycles
  vaux : t.pwr.vauxOk = b.vaux
  head : ∀ p, (t.hd p).unlocked = false ∧ (t.hd p).enable = false ∧ (t.hd p).started = false
  mgr : t.shf.mgr = mgr
  cn : ∀ off, off < 4096 → t.cn pRST off = 0

section
variable {cause cycles : Nat} {b : StartUp} {mgr : Bool} {s t : State}

theorem State.Booted.works (h : s.Booted cause cycles b mgr) (hw : s.Works t) : t.Booted cause cycles b mgr where
  phase := hw.phase.trans h.phase
  cause := by rw [hw.rst, h.cause]
  mem := hw.mem h.mem
  sync := by rw [hw.tsu, h.sync]
  cycles := hw.cycles.trans h.cycles
  vaux := hw.vaux.trans h.vaux
  head p := by rw [hw.unlocked, hw.enable, hw.started]; exact h.head p
  mgr := hw.mgr.trans h.mgr
  cn off ho := (hw.cn off ho).trans (h.cn off ho)

theorem State.Booted.restored (h : s.Booted cause cycles b mgr) (hr : s.Restored t) : t.Booted cause cycles b mgr := by
  have hq : State.Quiet restorePages _ t := hr
  have he := hq.evr
  exact {
    phase := (congrArg Pwr.phase hq.pwr).trans h.phase
    cause := (congrArg Rst.cause hq.rst).trans h.cause
    mem := hq.mem.trans h.mem
    sync := (congrArg Tsu.sync hq.tsu).trans h.sync
    cycles := (congrArg Evr.pwrCycles he).trans h.cycles
    vaux := (congrArg Pwr.vauxOk hq.pwr).trans h.vaux
    head := fun p => by rw [hq.hdIn p]; exact h.head p
    mgr := by rw [hq.rest]; exact h.mgr
    cn := fun off ho => (hq.cn pRST off (by decide) ho).trans (h.cn off ho) }

/-- The boot halts: keys are gone and the module reads FAILED. -/
theorem State.Booted.bootHalt (h : s.Booted cause cycles b mgr) : s.bootHalt.Booted cause cycles b mgr :=
  ⟨h.phase, h.cause, h.mem, h.sync, h.cycles, h.vaux, h.head, h.mgr, h.cn⟩

/-- The cold state, before anything else is done. -/
theorem State.booted_coldState (s : State) (cause : Nat) (b : StartUp) :
    (s.coldState cause b).Booted cause ((s.evr.pwrCycles + 1) % 2 ^ 32) b (if s.shf.ovr = 0 then b.mgr else s.shf.ovr == 1) := by
  refine ⟨rfl, rfl, rfl, rfl, rfl, rfl, fun p => ⟨rfl, rfl, rfl⟩, rfl, fun off ho => ?_⟩
  refine (sget_filter_key (fun a => a / 4096 == pPWR || (a / 4096 == pTMP && R.TMP_CNT_SRC ≤ a % 4096)) 0 (ka pRST off) s.cnts).trans (if_neg ?_)
  rw [ka_div _ ho]
  simp

theorem State.ksu_coldState (s : State) (cause : Nat) {b : StartUp} (hp : b.pufErr ≤ 150) (ho : b.pufOk = true) :
    (s.coldState cause b).ksu.rootOk = true ∧ (s.coldState cause b).ksu.root = true ∧ (s.coldState cause b).ksu.running = false ∧
      (s.coldState cause b).ksu.rootFail = false := by
  have hok : (decide (b.pufErr ≤ 150) && b.pufOk) = true := by simp [hp, ho]
  exact ⟨hok, hok, rfl, by rw [show (s.coldState cause b).ksu.rootFail = !(decide (b.pufErr ≤ 150) && b.pufOk) from rfl, hok]; rfl⟩

/-! ### The work of a power-on -/

theorem State.works_remapSaved (s : State) : s.Works s.remapSaved := by
  refine State.Works.foldl _ (fun s a _ => ?_) s
  split
  · exact .refl s
  · split
    · exact s.works_setTws _ _
    · exact .refl s

theorem State.works_remapDrop (s : State) : s.Works s.remapDrop :=
  State.Works.foldl _ (fun s _ _ => iteInduction (fun _ => s.works_setTws _ _) fun _ => .refl s) s

theorem State.works_memEvent (s : State) (a kind req idx : Nat) : s.Works (s.memEvent a kind req idx) := by
  unfold State.memEvent
  split
  · exact (s.works_bump (by decide) (by decide)).trans (State.works_irq _ _ _)
  · exact State.works_of

theorem State.works_remap (s : State) (a : Nat) (ue : Bool) (req idx : Nat) : s.Works (s.remap a ue req idx) := by
  unfold State.remap
  split
  · exact .refl s
  · split
    · unfold State.remapInto
      dsimp only
      have ht := s.works_setTws
      have hm (s : State) (f : MemSt → MemSt) : s.Works (s.updMem f) := State.works_of
      exact ((((ht _ _).trans (hm _ _)).trans (State.works_bump _ (by decide) (by decide))).trans (State.works_irq _ _ _)).trans
        (State.works_memEvent _ _ _ _ _)
    · exact ((s.works_bump (by decide) (by decide)).trans (State.works_irq _ _ _)).trans (State.works_memEvent _ _ _ _ _)

theorem State.works_setWordState (s : State) (a : Nat) (p : Bool) : s.Works (s.setWordState a p) := by
  have hf : s.Works { s with flips := sdel (a / 8) s.flips, poison := sset false (a / 8) p s.poison } := State.works_of
  unfold State.setWordState
  dsimp only
  split
  · exact { hf with mem := fun h => by rw [h]; rfl }
  · exact hf

theorem State.works_uncorrectable (s : State) (a kind req idx : Nat) : s.Works (s.uncorrectable a kind req idx) := by
  have hb : s.Works ((s.setWordState a true).bump pMEM (if isDram a then R.MEM_CNT_UE_DRAM else R.MEM_CNT_UE_SRAM)) :=
    (s.works_setWordState a true).trans (State.works_bump _ (by decide) (by split <;> decide))
  exact (hb.trans (State.works_memEvent _ _ _ _ _)).trans (State.works_remap _ _ _ _ _)

theorem State.works_fenceDram (s : State) (g : Nat) : s.Works (s.fenceDram g) := by
  unfold State.fenceDram
  split
  · exact .refl s
  · have hf : s.Works { s with memFenced := s.memFenced ||| 2 ^ g } := State.works_of
    exact (((hf.trans (State.works_degrade _ _)).trans (State.works_irq _ _ _)).trans (State.works_degrade _ _)).trans (State.works_deck _ _ _ _ _)

theorem State.works_fillBad (s : State) (a : Nat) : s.Works (s.fillBad a) := by
  unfold State.fillBad
  dsimp only
  refine iteInduction (fun _ => .refl s) fun _ => iteInduction (fun _ => ?_) fun _ => ?_
  · exact (s.works_irq _ _).trans (State.works_uncorrectable _ _ _ _ _)
  · exact (((s.works_irq _ _).trans (State.works_bump _ (by decide) (by decide))).trans (State.works_memEvent _ _ _ _ _)).trans
      (State.works_fenceDram _ _)

theorem State.works_selfTest (s : State) (p : Nat) : s.Works (s.selfTest p) :=
  iteInduction (fun _ => s.works_fence p 1) fun _ => iteInduction (fun _ => s.works_hwsOff.trans (State.works_fail _ p 1)) fun _ =>
    iteInduction (fun _ => s.works_fail p 1) fun _ => .refl s

theorem State.works_evrScan (s : State) : s.Works s.evrScan := by
  unfold State.evrScan
  dsimp only
  refine State.Works.trans ?_ (State.Works.foldl _ (fun s q _ => ?_) _)
  · exact State.works_of
  · exact ((s.works_bump (by decide) (by decide)).trans (State.works_irq _ _ _)).trans (State.works_deck _ _ _ _ _)

theorem State.works_abruptSeen (s : State) : s.Works s.abruptSeen := by
  have hp : s.Works (s.updPwr (fun p => { p with abrupt := true })) := { State.Works.refl s with }
  exact iteInduction (fun _ => (hp.trans (State.works_bump _ (by decide) (by decide))).trans (State.works_irq _ _ _)) fun _ => .refl s

/-- A root key that cannot be formed, or a hard tamper, halts the boot. -/
def State.bootChecks (t : State) : State :=
  let t := if t.ksu.rootFail then (t.bootHalt.irq pKSU 7).keyRec 9 0xFFFF t.ksu.pufErr else t
  if t.tmp.active ≠ 0 then t.bootHalt else t

/-- The work of a start after its boot checks: fill, fences, restores and the scan of the deck. -/
def State.startWork (t : State) (b : StartUp) (cut : Nat) : State :=
  let t := if b.vaux then t else t.irq pPWR 7
  let t := (b.badWords.foldl State.fillBad t).remapDrop
  let t := t.selfTests b.failed
  let loss := if t.pwr.kaLost then none else some t.pwr.lossRtc
  let t := (iter 8 (fun e t => t.talRestore loss e) t).evrScan
  t.abruptSeen.bumpBy 0x1B0 R.ACQ_CNT_PF_CUT cut

theorem State.powerOn_eq (s : State) (cause : Nat) (b : StartUp) : ∃ cut, s.powerOn cause b =
    (if cause = 2 then (((s.coldState cause b).remapSaved.bootChecks).startWork b cut).bump pRST R.RST_CNT_COLD
      else ((s.coldState cause b).remapSaved.bootChecks).startWork b cut).tmpReport.hltShow := by
  unfold State.powerOn
  extract_lets cut t₁ t₂ t₃ t₄ t₅ t₆ loss t₇ t₈ t₉
  have hb : t₃ = (s.coldState cause b).remapSaved.bootChecks := rfl
  have hw : t₈ = t₃.startWork b cut := rfl
  exact ⟨cut, by rw [← hb, ← hw]⟩

theorem State.Booted.bootChecks (h : s.Booted cause cycles b mgr) : s.bootChecks.Booted cause cycles b mgr := by
  have h1 : (if s.ksu.rootFail then (s.bootHalt.irq pKSU 7).keyRec 9 0xFFFF s.ksu.pufErr else s).Booted cause cycles b mgr :=
    iteInduction (motive := fun t : State => t.Booted cause cycles b mgr)
      (fun _ => (h.bootHalt.works (State.works_irq _ _ _)).works (State.works_deck _ _ _ _ _)) fun _ => h
  exact iteInduction (motive := fun t : State => t.Booted cause cycles b mgr) (fun _ => h1.bootHalt) fun _ => h1

theorem State.bootChecks_same (s : State) (hr : s.ksu.rootFail = false) (ht : s.tmp.active = 0) : s.bootChecks = s := by
  unfold State.bootChecks
  simp only [hr, Bool.false_eq_true, if_false, ht, ne_eq, not_true_eq_false]

/-- The start's work keeps what the start shows, and the key store. -/
theorem State.startWork_keeps (P : State → Prop) (hw : ∀ s t : State, P s → s.Works t → P t) (hr : ∀ s t : State, P s → s.Restored t → P t)
    (b : StartUp) (cut : Nat) (h : P s) : P (s.startWork b cut) := by
  unfold State.startWork
  dsimp only
  replace h : P (if b.vaux then s else s.irq pPWR 7) := iteInduction (fun _ => h) fun _ => hw _ _ h (s.works_irq _ _)
  generalize (if b.vaux then s else s.irq pPWR 7) = t at *
  replace h := hw _ _ h ((State.Works.foldl b.badWords (fun s a _ => s.works_fillBad a) t).trans (State.works_remapDrop _))
  generalize (b.badWords.foldl State.fillBad t).remapDrop = u at *
  replace h : P (u.selfTests b.failed) := hw _ _ h (State.Works.foldl b.failed (fun s p _ => s.works_selfTest p) u)
  generalize u.selfTests b.failed = v at *
  replace h := hr _ _ h (v.restored_talRestores (if v.pwr.kaLost then none else some v.pwr.lossRtc))
  generalize iter 8 _ v = w at *
  exact hw _ _ h ((w.works_evrScan.trans (State.works_abruptSeen _)).trans (State.works_bumpBy _ (by decide) (by decide) _))

theorem State.Restored.ksu (h : s.Restored t) : t.ksu = s.ksu := (show State.Quiet restorePages _ t from h).ksu

/-- What a power-on reset leaves. -/
theorem State.powerOn_spec (s : State) (cause : Nat) (b : StartUp) {t : State} (ht : t = s.powerOn cause b) :
    t.pwr.phase = .run ∧ t.rst.cause = cause ∧ t.mem = [] ∧ t.tsu.sync = .unlocked ∧
      t.evr.pwrCycles = (s.evr.pwrCycles + 1) % 2 ^ 32 ∧ t.pwr.vauxOk = b.vaux ∧
      (∀ p, (t.hd p).unlocked = false ∧ (t.hd p).enable = false ∧ (t.hd p).started = false) ∧
      t.shf.mgr = (if s.shf.ovr = 0 then b.mgr else s.shf.ovr == 1) ∧ (cause = 2 → t.cn pRST R.RST_CNT_COLD = 1) ∧
      (b.pufErr ≤ 150 → b.pufOk = true → s.tmp.active = 0 → t.ksu.rootOk = true ∧ t.ksu.root = true ∧ t.ksu.running = false) := by
  obtain ⟨cut, heq⟩ := s.powerOn_eq cause b
  rw [heq] at ht
  clear heq
  have hmap := (s.coldState cause b).works_remapSaved
  have hboot := (((s.booted_coldState cause b).works hmap).bootChecks)
  have hksu : b.pufErr ≤ 150 → b.pufOk = true → s.tmp.active = 0 →
      (s.coldState cause b).remapSaved.bootChecks.ksu.rootOk = true ∧ (s.coldState cause b).remapSaved.bootChecks.ksu.root = true ∧
        (s.coldState cause b).remapSaved.bootChecks.ksu.running = false := fun hp ho hx => by
    obtain ⟨h1, h2, h3, h4⟩ := s.ksu_coldState cause hp ho
    rw [State.bootChecks_same _ (by rw [hmap.ksu, h4]) (by rw [hmap.tmpActive]; exact hx), hmap.ksu]
    exact ⟨h1, h2, h3⟩
  generalize (s.coldState cause b).remapSaved.bootChecks = u at *
  obtain ⟨hv, hvk⟩ : (u.startWork b cut).Booted cause ((s.evr.pwrCycles + 1) % 2 ^ 32) b (if s.shf.ovr = 0 then b.mgr else s.shf.ovr == 1) ∧
      (u.startWork b cut).ksu = u.ksu :=
    State.startWork_keeps (fun t => t.Booted cause _ b _ ∧ t.ksu = u.ksu) (fun _ _ h hw => ⟨h.1.works hw, hw.ksu.trans h.2⟩)
      (fun _ _ h hr => ⟨h.1.restored hr, hr.ksu.trans h.2⟩) b cut ⟨hboot, rfl⟩
  generalize u.startWork b cut = v at *
  have hq : v.Quiet [pRST] (if cause = 2 then v.bump pRST R.RST_CNT_COLD else v) :=
    iteInduction (fun _ => State.Quiet.bump (.refl _ v) (by simp) _ (by decide)) fun _ => .refl _ v
  have hcold : cause = 2 → (if cause = 2 then v.bump pRST R.RST_CNT_COLD else v).cn pRST R.RST_CNT_COLD = 1 := fun h => by
    rw [if_pos h, State.cn_bump, hv.cn _ (by decide)]
    decide
  generalize (if cause = 2 then v.bump pRST R.RST_CNT_COLD else v) = w at *
  have hr : State.Quiet restorePages _ t := (w.restored_tmpReport.trans (State.restored_hltShow _)).trans (ht ▸ .refl _)
  clear ht
  have hpwr : t.pwr = v.pwr := hr.pwr.trans hq.pwr
  have hcyc : t.evr.pwrCycles = v.evr.pwrCycles := (show t.evr.pwrCycles = w.evr.pwrCycles by rw [hr.evr]).trans (congrArg Evr.pwrCycles hq.evr)
  have hmgr : t.shf.mgr = v.shf.mgr :=
    (show t.shf.mgr = w.shf.mgr by rw [hr.rest]).trans (by rw [hq.rest])
  have hk : t.ksu = u.ksu := hr.ksu.trans (hq.ksu.trans hvk)
  refine ⟨by rw [hpwr, hv.phase], by rw [hr.rst]; exact (congrArg Rst.cause hq.rst).trans hv.cause, (hr.mem.trans hq.mem).trans hv.mem,
    by rw [hr.tsu]; exact (congrArg Tsu.sync hq.tsu).trans hv.sync, hcyc.trans hv.cycles, by rw [hpwr, hv.vaux], fun p => ?_, hmgr.trans hv.mgr,
    fun h => (hr.cn pRST _ (by decide) (by decide)).trans (hcold h), by rw [hk]; exact hksu⟩
  rw [hr.hdIn p]
  have := hv.head p
  rw [← show (w.hd p).unlocked = (v.hd p).unlocked by rw [hq.hdIn p], ← show (w.hd p).enable = (v.hd p).enable by rw [hq.hdIn p],
    ← show (w.hd p).started = (v.hd p).started by rw [hq.hdIn p]] at this
  exact this

end

/-! ### Warm reset -/

section
variable (s : State) (cause : Nat)

/-- A page's header after a warm reset. -/
theorem State.hd_warmState (p : Nat) : ∀ P : Hdr → Prop, P {} → (∀ h, P (warmHdr p h)) → P ((s.warmState cause).hd p) :=
  fun P h0 hP => sget_foldl_sset P hP s.hdrs [] h0

/-- Every header stored for the page, and what it reads, agree on whether it is fenced. -/
def State.FencedIs (s : State) (p : Nat) (b : Bool) : Prop := (∀ h, (p, h) ∈ s.hdrs → h.fenced = b) ∧ (s.hd p).fenced = b

theorem State.fencedIs_of_nodup (h : (s.hdrs.map Prod.fst).Nodup) (p : Nat) : s.FencedIs p (s.hd p).fenced :=
  ⟨fun x hx => by rw [State.hd, sget_of_mem _ h hx], rfl⟩

variable {s} in
theorem State.FencedIs.updHd {p : Nat} {b : Bool} (h : s.FencedIs p b) (q : Nat) {f : Hdr → Hdr} (hf : ∀ x, (f x).fenced = x.fenced) :
    (s.updHd q f).FencedIs p b := by
  refine ⟨fun x hx => ?_, ?_⟩
  · rw [State.updHd_hdrs] at hx
    obtain hx | hx := mem_sset hx
    · obtain ⟨rfl, rfl⟩ := Prod.mk.inj hx
      rw [hf]
      exact h.2
    · exact h.1 x hx
  · by_cases hp : p = q
    · subst hp; rw [s.hd_updHd, hf]; exact h.2
    · rw [s.hd_updHd_other _ _ _ hp]; exact h.2

variable {s} in
theorem State.FencedIs.bump {p : Nat} {b : Bool} (h : s.FencedIs p b) (q o : Nat) : (s.bump q o).FencedIs p b := by
  unfold State.bump State.bumpBy
  dsimp only
  generalize hu : ({ s with cnts := sset 0 (ka q o) (min (cntMax q o) (s.cn q o + 1)) s.cnts } : State) = u
  have hu' : u.FencedIs p b := hu ▸ h
  exact iteInduction (motive := fun t : State => t.FencedIs p b) (fun _ => State.FencedIs.updHd (hu'.updHd q (f := fun h => { h with satSeen := true }) (fun _ => rfl)) q
      (f := fun h => { h with irqStatus := h.irqStatus ||| w32 (1 <<< 2) }) fun _ => rfl) fun _ => hu'

variable {s} in
theorem State.FencedIs.warmState {p : Nat} {b : Bool} (h : s.FencedIs p b) : ((s.warmState cause).hd p).fenced = b := by
  have hw (x : Hdr) : (warmHdr p x).fenced = x.fenced := by
    unfold warmHdr
    split <;> rfl
  refine sget_foldl_sset_mem (fun x => x.fenced = b) s.hdrs [] (fun e he hp => ?_) ?_
  · obtain ⟨q, x⟩ := e
    obtain rfl : q = p := hp
    exact (hw x).trans (h.1 x he)
  · by_cases hp : p ∈ s.hdrs.map Prod.fst
    · exact .inr hp
    · refine .inl ?_
      have := h.2
      rwa [State.hd, sget_of_not_mem _ hp] at this

theorem State.warmReset_eq (h : s.rst.holdBy = none) : s.warmReset cause =
    (iter 8 (fun e s => State.talRestore s none e)
      (((s.bump pRST R.RST_CNT_WARM).warmState cause).updRst (fun r => { r with holdBy := none }))).tmpReport.hltShow := by
  unfold State.warmReset
  rw [h]
  rfl

/-- What a warm reset leaves. -/
theorem State.warmReset_spec (h : s.rst.holdBy = none) (hrun : s.pwr.phase = .run) {t : State} (ht : t = s.warmReset cause) :
    t.pwr.phase = .run ∧ t.rst = { s.rst with cause := cause, prep := none } ∧ t.mem = s.mem ∧
      t.flips = s.flips ∧ t.poison = s.poison ∧ t.hws = s.hws ∧ t.img = s.img ∧ t.ksu.running = false ∧ t.ksu.mrLock = 0 ∧
      t.cn pRST R.RST_CNT_WARM = min (cntMax pRST R.RST_CNT_WARM) (s.cn pRST R.RST_CNT_WARM + 1) ∧
      (∀ p, p ≠ 0x1A0 → p ≠ 0x1A1 → (t.hd p).unlocked = false ∧ (t.hd p).enable = false) ∧
      ((s.hdrs.map Prod.fst).Nodup → ∀ p, (t.hd p).fenced = (s.hd p).fenced) := by
  rw [s.warmReset_eq cause h] at ht
  have hq : s.Quiet [pRST] (s.bump pRST R.RST_CNT_WARM) := State.Quiet.bump (.refl _ s) (by simp) _ (by decide)
  have hcn := s.cn_bump pRST R.RST_CNT_WARM
  have hfen (p : Nat) (hn : (s.hdrs.map Prod.fst).Nodup) := ((s.fencedIs_of_nodup hn p).bump pRST R.RST_CNT_WARM).warmState cause
  generalize s.bump pRST R.RST_CNT_WARM = b at *
  have hpwr : (b.warmState cause).pwr.phase = s.pwr.phase := by
    rw [← hq.pwr]
    rfl
  have hrst : { (b.warmState cause).rst with holdBy := none } = { s.rst with cause := cause, prep := none } := by
    show { b.rst with cause := cause, prep := none, holdBy := none } = { s.rst with cause := cause, prep := none }
    rw [hq.rst, ← h]
  have hlock (p : Nat) (h0 : p ≠ 0x1A0) (h1 : p ≠ 0x1A1) :
      ((b.warmState cause).hd p).unlocked = false ∧ ((b.warmState cause).hd p).enable = false := by
    refine b.hd_warmState cause p (fun x => x.unlocked = false ∧ x.enable = false) ⟨rfl, rfl⟩ fun x => ?_
    rw [warmHdr, if_neg (by omega)]
    exact ⟨rfl, rfl⟩
  have hr := ((State.restored_talRestores ((b.warmState cause).updRst (fun r => { r with holdBy := none })) none).trans
    (State.restored_tmpReport _)).trans (State.restored_hltShow _)
  rw [← ht] at hr
  replace hr : State.Quiet restorePages _ t := hr
  clear ht
  refine ⟨?_, ?_, ?_, ?_, ?_, ?_, ?_, ?_, ?_, ?_, fun p h0 h1 => ?_, fun hn p => ?_⟩
  · rw [hr.pwr]; exact hpwr.trans hrun
  · rw [hr.rst]; exact hrst
  · rw [hr.mem]; exact hq.mem
  · rw [hr.flips]; exact hq.flips
  · rw [hr.poison]; exact hq.poison
  · rw [hr.hws]; exact hq.hws
  · rw [hr.img]; exact hq.img
  · rw [hr.ksu]; rfl
  · rw [hr.ksu]; rfl
  · rw [hr.cn pRST _ (by decide) (by decide)]; exact hcn
  · rw [hr.hdIn p]; exact hlock p h0 h1
  · rw [hr.hdIn p]; exact hfen p hn

end

theorem State.warmDue_of {s : State} {c k : Nat} (hrun : s.pwr.phase = .run) (hpf : s.pwr.pfMode = false) (hprep : s.rst.prep = some (c, k))
    (hc : c ≠ 2) (hdone : s.prepDone = true) : s.warmDue = some c := by
  unfold State.warmDue
  rw [hprep]
  exact if_pos ⟨hrun, by rw [hpf]; rfl, hc, hdone⟩

/-- Settles O53: the cold state and the warm state, each kept by the work that follows it. -/
theorem starts : Obligations.Starts := by
  intro s
  refine ⟨fun c cause b h => ?_, fun b hp hn => ?_, fun b h => ?_, fun c k hrun hpf hprep hc hdone hhold => ?_, fun h => ?_⟩
  · have hexec : exec c s = .next { s.powerOn cause b with pending := s.pending } := by
      obtain ⟨rfl, rfl, hp⟩ | ⟨rfl, rfl, hp⟩ | ⟨rfl, rfl, hp, hpf, ⟨k, hprep⟩, hdone⟩ := h
      · rw [exec_powerOnReset, act_on _ _ _ rfl]
        exact congrArg (fun t : State => Host.Outcome.next { t with pending := s.pending }) (if_pos hp)
      · rw [exec_shedRecover, act_on _ _ _ (by simp [hp])]
      · have hon : s.powerOnReset b = s.powerOn 2 b := by
          unfold State.powerOnReset
          rw [if_neg (by simp [hp]), hprep]
          exact if_pos ⟨hp, by rw [hpf]; rfl, hdone⟩
        rw [exec_powerOnReset, act_on _ _ _ rfl, hon]
    have hspec := s.powerOn_spec cause b rfl
    generalize s.powerOn cause b = t at *
    exact ⟨_, hexec, hspec⟩
  · rw [exec_powerOnReset]
    refine act_same ?_
    unfold State.powerOnReset
    rw [if_neg (by obtain hp | hp := hp <;> simp [hp])]
    split
    next k hk => exact absurd hk (hn k)
    · rfl
  · rw [exec_shedRecover]
    exact act_off _ _ _ (by simpa using h)
  · obtain ⟨u, hu, hexec⟩ := act_next (f := fun s => match s.warmDue with | some c => s.warmReset c | none => s) (show State.always s = true from rfl)
    rw [State.warmDue_of hrun hpf hprep hc hdone] at hu
    have hspec := s.warmReset_spec c hhold hrun hu
    clear hu
    exact ⟨_, (exec_warmReset s).trans hexec, hspec⟩
  · rw [exec_warmReset]
    exact act_same (by rw [h])

end Sys2Proof.Machine
end

section
/-!
PROOFS. The tamper unit: its record in MRAM, its deck records, the responses of a running module, the hold and ACK (R415 to R419).
-/
namespace Sys2Proof.Machine
open Sys2Proof

/-! ### Bytes of MRAM after a write -/

theorem length_bytesLE (n v : Nat) : (bytesLE n v).length = n := by simp [bytesLE]

theorem lt_of_mem_bytesLE {n v b : Nat} (h : b ∈ bytesLE n v) : b < 256 := by
  obtain ⟨i, -, rfl⟩ := List.mem_map.1 h
  exact Nat.mod_lt _ (by decide)

section
variable (s : State) (a : Nat) (bs : List Nat)

/-- Bytes read back within what was written. -/
theorem State.mramBytes_writeMram (k n : Nat) (h : k + n ≤ bs.length) (hb : ∀ b ∈ (bs.drop k).take n, b < 256) :
    (s.writeMram a bs).mramBytes (a + k) n = (bs.drop k).take n := by
  refine List.ext_getElem (by simp [State.mramBytes]; omega) fun i h1 h2 => ?_
  have hi : i < n := by simpa [State.mramBytes] using h1
  have hlt := hb _ (List.getElem_mem h2)
  have hget : ((bs.drop k).take n)[i] = (bs[k + i]?).getD 0 := by
    rw [List.getElem_take, List.getElem_drop, List.getElem?_eq_getElem (by omega), Option.getD_some]
  rw [hget] at hlt ⊢
  simp only [State.mramBytes, State.writeMram, List.getElem_map, List.getElem_range]
  rw [sget_putBytes, if_pos (by omega), show a + k + i - a = k + i by omega, BitVec.toNat_ofNat]
  exact Nat.mod_eq_of_lt hlt

/-- Bytes beside what was written. -/
theorem State.mramBytes_writeMram_other (b n : Nat) (h : b + n ≤ a ∨ a + bs.length ≤ b) :
    (s.writeMram a bs).mramBytes b n = s.mramBytes b n := by
  refine List.map_congr_left fun i hi => ?_
  have := List.mem_range.1 hi
  rw [State.writeMram, sget_putBytes, if_neg (by omega)]

end

/-! ### An entry of the record, reported to the deck -/

/-- An entry noted in MRAM and reported to the deck: address, first words, and what else changes. -/
structure State.Noted (q w typ : Nat) (s t : State) : Prop where
  tmp : t.tmp = { s.tmp with seq := (q + 1) % 2 ^ 32 }
  cross : ∃ r, t.evr = { s.evr with cross := s.evr.cross ++ [r] } ∧ r.cls = 11 ∧ r.typ = typ
  seq : t.mramBytes (0x3FC00 + q % 32 * 32) 4 = bytesLE 4 q
  word : t.mramBytes (0x3FC00 + q % 32 * 32 + 4) 4 = bytesLE 4 w
  other : ∀ a, a < 0x3FC00 + q % 32 * 32 ∨ 0x3FC00 + q % 32 * 32 + 32 ≤ a → a < 0x3FB08 ∨ 0x3FB0C ≤ a →
    sget (0 : Byte) a t.mram = sget (0 : Byte) a s.mram
  rest : t = { s with tmp := t.tmp, evr := t.evr, mram := t.mram }

theorem State.noted_write (s : State) (q w typ src resp : Nat) {rest : List Nat} (hr : rest.length = 24) : s.Noted q w typ
    (((s.writeMram (0x3FC00 + q % 32 * 32) (bytesLE 4 q ++ (bytesLE 4 w ++ rest))).updTmp
      (fun t => { t with seq := (q + 1) % 2 ^ 32 })).tmpDeck typ src q resp) := by
  have hlen : (bytesLE 4 q ++ (bytesLE 4 w ++ rest)).length = 32 := by simp [length_bytesLE, hr]
  have hdrop : (bytesLE 4 q ++ (bytesLE 4 w ++ rest)).drop 4 = bytesLE 4 w ++ rest := List.drop_left' (length_bytesLE 4 q)
  have hq : ((bytesLE 4 q ++ (bytesLE 4 w ++ rest)).drop 0).take 4 = bytesLE 4 q := List.take_left' (length_bytesLE 4 q)
  have hw : ((bytesLE 4 q ++ (bytesLE 4 w ++ rest)).drop 4).take 4 = bytesLE 4 w := by
    rw [hdrop]
    exact List.take_left' (length_bytesLE 4 w)
  have hlast (t : State) : ∀ a n, 0x3FC00 ≤ a → (t.writeMram 0x3FB08 (bytesLE 4 q)).mramBytes a n = t.mramBytes a n := fun a n ha =>
    t.mramBytes_writeMram_other _ _ _ _ (.inr (by rw [length_bytesLE]; omega))
  have h0 := s.mramBytes_writeMram (0x3FC00 + q % 32 * 32) (bytesLE 4 q ++ (bytesLE 4 w ++ rest)) 0 4 (by omega)
    (by rw [hq]; exact fun b => lt_of_mem_bytesLE)
  have h4 := s.mramBytes_writeMram (0x3FC00 + q % 32 * 32) (bytesLE 4 q ++ (bytesLE 4 w ++ rest)) 4 4 (by omega)
    (by rw [hw]; exact fun b => lt_of_mem_bytesLE)
  have hbyte (a : Nat) (h : a < 0x3FC00 + q % 32 * 32 ∨ 0x3FC00 + q % 32 * 32 + 32 ≤ a) :
      sget (0 : Byte) a (s.writeMram (0x3FC00 + q % 32 * 32) (bytesLE 4 q ++ (bytesLE 4 w ++ rest))).mram = sget 0 a s.mram :=
    (sget_putBytes _ _ _ _).trans (if_neg (by omega))
  have hfrom : s.writeMram (0x3FC00 + q % 32 * 32) (bytesLE 4 q ++ (bytesLE 4 w ++ rest)) =
    { s with mram := (s.writeMram (0x3FC00 + q % 32 * 32) (bytesLE 4 q ++ (bytesLE 4 w ++ rest))).mram } := rfl
  generalize s.writeMram (0x3FC00 + q % 32 * 32) (bytesLE 4 q ++ (bytesLE 4 w ++ rest)) = m at *
  refine ⟨by rw [hfrom]; rfl, ⟨_, by rw [hfrom]; rfl, rfl, rfl⟩, ?_, ?_, fun a ha hb => ?_, by rw [hfrom]; rfl⟩
  · exact (hlast m _ 4 (by omega)).trans (h0.trans hq)
  · exact (hlast m _ 4 (by omega)).trans (h4.trans hw)
  · exact ((sget_putBytes _ _ _ _).trans (if_neg (by rw [length_bytesLE]; omega))).trans (hbyte a ha)

theorem State.noted (s : State) (src : Nat) (clear : Bool) (cls resp value typ : Nat) :
    s.Noted s.tmp.seq (2 ^ (24 + src) + b2n clear * 2 ^ 16 + 1 * 2 ^ 14 + cls * 2 ^ 8 + resp) typ
      ((s.tmpEntry src clear 1 cls resp value).tmpDeck typ src s.tmp.seq resp) := by
  unfold State.tmpEntry
  simp only [List.append_assoc]
  exact s.noted_write _ _ typ src resp (by simp [length_bytesLE])

theorem State.Noted.withKsu {x y : State} {q w typ : Nat} (h : x.Noted q w typ y) (k : Ksu) :
    ({ x with ksu := k } : State).Noted q w typ { y with ksu := k } :=
  ⟨h.tmp, h.cross, h.seq, h.word, h.other, congrArg (fun s : State => { s with ksu := k }) h.rest⟩

/-- An entry noted and its event raised, over a quiet step. -/
theorem State.Noted.quiet {a v x : State} {ps : List Nat} {q w typ : Nat} (h : a.Quiet ps v) (hn : v.Noted q w typ x) (hp : pTMP ∈ ps) (i : Nat) :
    ({ a with tmp := x.tmp, evr := x.evr, mram := x.mram } : State).Quiet ps (x.irq pTMP i) := by
  have hr := hn.rest
  refine State.Quiet.trans (t := x) ?_ (State.Quiet.irq (.refl ps x) hp i)
  have hf := h.over (a := { a with tmp := x.tmp, evr := x.evr, mram := x.mram }) (t := { v with tmp := x.tmp, evr := x.evr, mram := x.mram })
    (congrArg (fun s : State => { s with tmp := x.tmp, evr := x.evr, mram := x.mram }) h.rest) rfl rfl rfl rfl
  rwa [← hr] at hf

/-- What shows once an entry is noted and its event raised: `a` is the state before, but for what the response has changed. -/
theorem State.Noted.shown {a x y t : State} {ps : List Nat} {q w typ i : Nat} (h : a.Quiet ps x) (hn : x.Noted q w typ y) (hp : pTMP ∈ ps)
    (hi : i < 32) (ht : t = y.irq pTMP i) :
    t.tmp = { a.tmp with seq := (q + 1) % 2 ^ 32 } ∧ (∃ r, t.evr = { a.evr with cross := a.evr.cross ++ [r] } ∧ r.cls = 11 ∧ r.typ = typ) ∧
      t.mramBytes (0x3FC00 + q % 32 * 32) 4 = bytesLE 4 q ∧ t.mramBytes (0x3FC00 + q % 32 * 32 + 4) 4 = bytesLE 4 w ∧
      (∀ k, k < 0x3FC00 + q % 32 * 32 ∨ 0x3FC00 + q % 32 * 32 + 32 ≤ k → k < 0x3FB08 ∨ 0x3FB0C ≤ k →
        sget (0 : Byte) k t.mram = sget (0 : Byte) k a.mram) ∧
      bit (t.hd pTMP).irqStatus i = true ∧ t.cnts = x.cnts ∧
      ({ a with tmp := t.tmp, evr := t.evr, mram := t.mram } : State).Quiet ps t := by
  have hq := hn.quiet h hp i
  have hqy : y.Quiet [pTMP] t := ht ▸ State.Quiet.irq (.refl _ y) (by simp) i
  have hb : bit (t.hd pTMP).irqStatus i = true := ht ▸ State.bit_irq _ _ hi
  have hc : t.cnts = y.cnts := by rw [ht, State.irq_cnts]
  rw [← ht] at hq
  clear ht
  obtain ⟨r, hr, hcls, htyp⟩ := hn.cross
  refine ⟨?_, ⟨r, ?_, hcls, htyp⟩, ?_, ?_, fun k hk hk' => ?_, hb, ?_, ?_⟩
  · rw [hqy.tmp, hn.tmp, h.tmp]
  · rw [hqy.evr, hr, h.evr]
  · rw [State.mramBytes, hqy.mram]; exact hn.seq
  · rw [State.mramBytes, hqy.mram]; exact hn.word
  · rw [hqy.mram, hn.other k hk hk', h.mram]
  · rw [hc, hn.rest]
  · rw [hqy.tmp, hqy.evr, hqy.mram]; exact hq

/-- Every slot zeroised: state ZEROED, no material, nothing staged. -/
def State.zeroSlots (s : State) : List (Nat × KSlot) :=
  (List.range 256).map fun i =>
    (i, { s.kslot i with state := 3, material := [], staged := none, unsaved := false, lastTag := tagOf s.tick })

theorem sget_map_range {β : Type} (d : β) (f : Nat → β) {n i : Nat} (h : i < n) : sget d i ((List.range n).map fun j => (j, f j)) = f i := by
  have key (l : List Nat) (hi : i ∈ l) : sget d i (l.map fun j => (j, f j)) = f i := by
    induction l with
    | nil => exact absurd hi List.not_mem_nil
    | cons j l ih =>
      by_cases hj : j = i
      · subst hj; exact if_pos rfl
      · exact (if_neg hj).trans (ih ((List.mem_cons.1 hi).resolve_left (Ne.symm hj)))
  exact key _ (List.mem_range.2 h)

theorem State.zeroise_spec (s : State) : ∃ r,
    ({ s with
      kslots := s.zeroSlots, ekeys := [], ksu := { s.ksu with root := false, kas := none, lockedOut := true }
      evr := { s.evr with cross := s.evr.cross ++ [r] } } : State).Quiet [pTMP, pKSU] s.zeroise ∧ s.zeroise.cnts = s.cnts := by
  unfold State.zeroise State.keyRec State.deck
  dsimp only
  generalize State.mkRec _ _ _ _ _ = r
  exact ⟨r, State.Quiet.irq (.refl _ _) (by simp) 6, by rw [State.irq_cnts]; rfl⟩

/-! ### Detection (R417) -/

section
variable {s : State} (hon : s.onMain = true)
include hon

theorem State.onKeep_of_onMain : s.onKeep = true := by simp [State.onKeep, State.run_of_onMain hon]

theorem State.tmpWatched_of_onMain {src : Nat} (h : src < 6) : s.tmpWatched src = true := by
  simp [State.tmpWatched, h, State.onKeep_of_onMain hon, State.run_of_onMain hon]

section
variable (hr : s.ksu.running = true) (hop : s.ksu.op = none)
include hr hop

theorem State.tmpState_running : s.tmpState = 1 := by simp [State.tmpState, State.run_of_onMain hon, hr, hop]

/-- A running module without a key operation holds for a soft source and zeroises for a hard one. -/
theorem State.tmpRespond_running (src : Nat) : s.tmpRespond src =
    if s.tmpHard src then (6, s.zeroise) else (0, s.updKsu (fun k => { k with hold := true, holdSrc := k.holdSrc ||| 1 <<< src })) := by
  have habort (b : Bool) : s.ksuAbort b = s := by simp [State.ksuAbort, hop]
  unfold State.tmpRespond
  simp only [State.tmpState_running hon hr hop, habort, hop, Option.isSome_none]
  rfl

end

/-- The source noted as active and seen, and counted. -/
def State.tmpSeen (s : State) (src : Nat) : State :=
  (s.updTmp (fun t => { t with active := t.active ||| 1 <<< src, seen := t.seen ||| 1 <<< src })).bump pTMP (R.TMP_CNT_SRC + 4 * src)

omit hon in
theorem State.tmpSeen_spec (s : State) {src : Nat} (h : src < 6) :
    ({ s with tmp := { s.tmp with active := s.tmp.active ||| 1 <<< src, seen := s.tmp.seen ||| 1 <<< src } } : State).Quiet [pTMP] (s.tmpSeen src) ∧
      (s.tmpSeen src).cn pTMP (R.TMP_CNT_SRC + 4 * src) =
        min (cntMax pTMP (R.TMP_CNT_SRC + 4 * src)) (s.cn pTMP (R.TMP_CNT_SRC + 4 * src) + 1) :=
  ⟨State.Quiet.bump (.refl _ _) (by simp) _ (show 0x808 + 4 * src < 4096 by omega), State.cn_bump _ _ _⟩

omit hon in
theorem State.onMain_report (s : State) (src st cls resp v typ q resp' : Nat) (clear : Bool) :
    ((s.tmpEntry src clear st cls resp v).tmpDeck typ src q resp').onMain = s.onMain := by
  unfold State.tmpEntry State.tmpDeck
  dsimp only
  generalize _ ++ bytesLE 4 s.evr.pwrCycles = b
  rfl

theorem State.tamperDetect_running (hr : s.ksu.running = true) (hop : s.ksu.op = none) {src : Nat} (hs : src < 6)
    (ha : s.tmp.active.testBit src = false) (v : Nat) {r : Nat × State} (hres : (s.tmpSeen src).tmpRespond src = r) (hm : r.2.onMain = true) :
    s.tamperDetect src v =
      ((r.2.tmpEntry src false 1 (b2n (s.tmpHard src)) r.1 v).tmpDeck 1 src s.tmp.seq r.1).irq pTMP (if s.tmpHard src then 4 else 5) := by
  unfold State.tamperDetect
  rw [if_neg (by rw [State.tmpWatched_of_onMain hon hs, ha]; decide), State.tmpState_running hon hr hop]
  have hseen : (s.updTmp (fun t => { t with active := t.active ||| 1 <<< src, seen := t.seen ||| 1 <<< src })).bump pTMP (R.TMP_CNT_SRC + 4 * src) =
    s.tmpSeen src := rfl
  simp only [hseen, hres, true_or, if_true, State.onMain_report, hm]

section
variable (hr : s.ksu.running = true) (hop : s.ksu.op = none) {src : Nat} (hs : src < 6) (ha : s.tmp.active.testBit src = false)
include hr hop hs ha

/-- A soft source (R417): the key store holds. -/
theorem exec_tamper_soft (v : Nat) (hc : bit (s.ac pTMP R.TMP_CFG) src = false) : ∃ t r, exec (.tamperDetect src v) s = .next t ∧
    t.tmp = { active := s.tmp.active ||| 1 <<< src, seen := s.tmp.seen ||| 1 <<< src, seq := (s.tmp.seq + 1) % 2 ^ 32 } ∧
    t.cn pTMP (R.TMP_CNT_SRC + 4 * src) =
      min (cntMax pTMP (R.TMP_CNT_SRC + 4 * src)) (s.cn pTMP (R.TMP_CNT_SRC + 4 * src) + 1) ∧
    t.evr = { s.evr with cross := s.evr.cross ++ [r] } ∧ r.cls = 11 ∧ r.typ = 1 ∧
    t.mramBytes (0x3FC00 + s.tmp.seq % 32 * 32) 4 = bytesLE 4 s.tmp.seq ∧
    t.mramBytes (0x3FC00 + s.tmp.seq % 32 * 32 + 4) 4 = bytesLE 4 (2 ^ (24 + src) + 2 ^ 14) ∧
    (∀ a, a < 0x3FC00 + s.tmp.seq % 32 * 32 ∨ 0x3FC00 + s.tmp.seq % 32 * 32 + 32 ≤ a → a < 0x3FB08 ∨ 0x3FB0C ≤ a →
      sget (0 : Byte) a t.mram = sget (0 : Byte) a s.mram) ∧
    bit (t.hd pTMP).irqStatus 5 = true ∧ t.ksu = { s.ksu with hold := true, holdSrc := s.ksu.holdSrc ||| 1 <<< src } ∧
    ({ s with tmp := t.tmp, ksu := t.ksu, evr := t.evr, mram := t.mram } : State).Quiet [pTMP] t := by
  obtain ⟨u, hu, hexec⟩ := act_next (f := fun s => s.tamperDetect src v) (State.onKeep_of_onMain hon)
  obtain ⟨hq, hcn⟩ := s.tmpSeen_spec hs
  have hh : (s.tmpSeen src).tmpHard src = false := by
    rw [State.tmpHard, hq.ac]
    exact hc
  have hm : (s.tmpSeen src).onMain = true := by rw [State.onMain, hq.pwr]; exact hon
  have hres := State.tmpRespond_running hm (by rw [hq.ksu]; exact hr) (by rw [hq.ksu]; exact hop) src
  rw [hh, if_neg (by decide)] at hres
  replace hu := hu.trans (State.tamperDetect_running hon hr hop hs ha v hres hm)
  rw [show s.tmpHard src = false from hc, if_neg (by decide)] at hu
  dsimp only at hu
  generalize s.tmpSeen src = w at *
  have hn := (w.updKsu (fun k => { k with hold := true, holdSrc := k.holdSrc ||| 1 <<< src })).noted src false 0 0 v 1
  have hk : { w.ksu with hold := true, holdSrc := w.ksu.holdSrc ||| 1 <<< src } = { s.ksu with hold := true, holdSrc := s.ksu.holdSrc ||| 1 <<< src } := by
    rw [hq.ksu]
  have hseq : (w.updKsu (fun k => { k with hold := true, holdSrc := k.holdSrc ||| 1 <<< src })).tmp.seq = s.tmp.seq :=
    show w.tmp.seq = s.tmp.seq by rw [hq.tmp]
  have hqx := hq.over (a := { s with
      tmp := { s.tmp with active := s.tmp.active ||| 1 <<< src, seen := s.tmp.seen ||| 1 <<< src }
      ksu := { s.ksu with hold := true, holdSrc := s.ksu.holdSrc ||| 1 <<< src } })
    (t := w.updKsu (fun k => { k with hold := true, holdSrc := k.holdSrc ||| 1 <<< src }))
    (by rw [State.updKsu, hk]; exact congrArg (fun x : State => { x with ksu := { s.ksu with hold := true, holdSrc := s.ksu.holdSrc ||| 1 <<< src } }) hq.rest)
    rfl rfl rfl rfl
  have hxc : (w.updKsu (fun k => { k with hold := true, holdSrc := k.holdSrc ||| 1 <<< src })).cnts = w.cnts := rfl
  generalize w.updKsu (fun k => { k with hold := true, holdSrc := k.holdSrc ||| 1 <<< src }) = x at *
  rw [hseq] at hn
  obtain ⟨htmp, ⟨r, hr, hcls, htyp⟩, h0, h4, hoth, hbit, hcnts, hquiet⟩ := State.Noted.shown hqx hn (by simp) (by decide) hu
  clear hu
  have hksu : u.ksu = { s.ksu with hold := true, holdSrc := s.ksu.holdSrc ||| 1 <<< src } := hquiet.ksu
  refine ⟨_, r, (exec_tamperDetect src v s).trans hexec, htmp, ?_, hr, hcls, htyp, h0, ?_, hoth, hbit, hksu, ?_⟩
  · rw [State.cn, hcnts, hxc]
    exact hcn
  · refine h4.trans (congrArg _ ?_)
    rw [b2n, if_neg (by decide)]
    omega
  · rw [← hksu] at hquiet
    exact hquiet.pend

/-- A hard source (R417): the key store is zeroised and locked out. -/
theorem exec_tamper_hard (v : Nat) (hc : bit (s.ac pTMP R.TMP_CFG) src = true) : ∃ t r, exec (.tamperDetect src v) s = .next t ∧
    t.tmp = { active := s.tmp.active ||| 1 <<< src, seen := s.tmp.seen ||| 1 <<< src, seq := (s.tmp.seq + 1) % 2 ^ 32 } ∧
    t.cn pTMP (R.TMP_CNT_SRC + 4 * src) =
      min (cntMax pTMP (R.TMP_CNT_SRC + 4 * src)) (s.cn pTMP (R.TMP_CNT_SRC + 4 * src) + 1) ∧
    r ∈ t.evr.cross ∧ t.evr = { s.evr with cross := t.evr.cross } ∧ r.cls = 11 ∧ r.typ = 1 ∧
    t.mramBytes (0x3FC00 + s.tmp.seq % 32 * 32) 4 = bytesLE 4 s.tmp.seq ∧
    t.mramBytes (0x3FC00 + s.tmp.seq % 32 * 32 + 4) 4 = bytesLE 4 (2 ^ (24 + src) + 2 ^ 14 + 2 ^ 8 + 6) ∧
    (∀ a, a < 0x3FC00 + s.tmp.seq % 32 * 32 ∨ 0x3FC00 + s.tmp.seq % 32 * 32 + 32 ≤ a → a < 0x3FB08 ∨ 0x3FB0C ≤ a →
      sget (0 : Byte) a t.mram = sget (0 : Byte) a s.mram) ∧
    bit (t.hd pTMP).irqStatus 4 = true ∧ t.ksu = { s.ksu with root := false, kas := none, lockedOut := true } ∧ t.ekeys = [] ∧
    (∀ i, i < 256 → (t.kslot i).state = 3 ∧ (t.kslot i).material = [] ∧ (t.kslot i).staged = none) ∧
    ({ s with tmp := t.tmp, ksu := t.ksu, kslots := t.kslots, ekeys := [], evr := t.evr, mram := t.mram } : State).Quiet [pTMP, pKSU] t := by
  obtain ⟨u, hu, hexec⟩ := act_next (f := fun s => s.tamperDetect src v) (State.onKeep_of_onMain hon)
  obtain ⟨hq, hcn⟩ := s.tmpSeen_spec hs
  have hh : (s.tmpSeen src).tmpHard src = true := by
    rw [State.tmpHard, hq.ac]
    exact hc
  have hm : (s.tmpSeen src).onMain = true := by rw [State.onMain, hq.pwr]; exact hon
  have hres := State.tmpRespond_running hm (by rw [hq.ksu]; exact hr) (by rw [hq.ksu]; exact hop) src
  rw [hh, if_pos rfl] at hres
  have hzm : (s.tmpSeen src).zeroise.onMain = true := by rw [State.onMain, State.zeroise, State.irq_pwr]; exact hm
  replace hu := hu.trans (State.tamperDetect_running hon hr hop hs ha v hres hzm)
  rw [show s.tmpHard src = true from hc, if_pos rfl] at hu
  dsimp only at hu
  generalize s.tmpSeen src = w at *
  have hn := w.zeroise.noted src false 1 6 v 1
  obtain ⟨r₀, hz, hzc⟩ := w.zeroise_spec
  generalize w.zeroise = x at *
  have hseq : x.tmp.seq = s.tmp.seq := (congrArg Tmp.seq hz.tmp).trans (show w.tmp.seq = s.tmp.seq by rw [hq.tmp])
  have hk : { w.ksu with root := false, kas := none, lockedOut := true } = { s.ksu with root := false, kas := none, lockedOut := true } := by
    rw [hq.ksu]
  have he : { w.evr with cross := w.evr.cross ++ [r₀] } = { s.evr with cross := s.evr.cross ++ [r₀] } := by rw [hq.evr]
  rw [hk, he] at hz
  have hqx := State.Quiet.trans ((hq.mono (qs := [pTMP, pKSU]) (by simp)).over (a := { s with
      tmp := { s.tmp with active := s.tmp.active ||| 1 <<< src, seen := s.tmp.seen ||| 1 <<< src }, kslots := w.zeroSlots, ekeys := []
      ksu := { s.ksu with root := false, kas := none, lockedOut := true }, evr := { s.evr with cross := s.evr.cross ++ [r₀] } })
    (t := { w with
      kslots := w.zeroSlots, ekeys := [], ksu := { s.ksu with root := false, kas := none, lockedOut := true }
      evr := { s.evr with cross := s.evr.cross ++ [r₀] } })
    (congrArg (fun x : State => { x with
      kslots := w.zeroSlots, ekeys := [], ksu := { s.ksu with root := false, kas := none, lockedOut := true }
      evr := { s.evr with cross := s.evr.cross ++ [r₀] } }) hq.rest) rfl rfl rfl rfl) hz
  rw [hseq] at hn
  obtain ⟨htmp, ⟨r, hr, hcls, htyp⟩, h0, h4, hoth, hbit, hcnts, hquiet⟩ := State.Noted.shown hqx hn (by simp) (by decide) hu
  clear hu
  have hksu : u.ksu = { s.ksu with root := false, kas := none, lockedOut := true } := hquiet.ksu
  have hslots : u.kslots = w.zeroSlots := hquiet.kslots
  refine ⟨_, r, (exec_tamperDetect src v s).trans hexec, htmp, ?_, ?_, ?_, hcls, htyp, h0, ?_, hoth, hbit, hksu, hquiet.ekeys, fun i hi => ?_, ?_⟩
  · rw [State.cn, hcnts, hzc]
    exact hcn
  · rw [show ({ u with pending := s.pending } : State).evr.cross = u.evr.cross from rfl, hr]
    exact List.mem_append_right _ (List.mem_singleton_self r)
  · rw [show ({ u with pending := s.pending } : State).evr = u.evr from rfl, hr]
  · refine h4.trans (congrArg _ ?_)
    rw [b2n, if_neg (by decide)]
    omega
  · have hget : ({ u with pending := s.pending } : State).kslot i =
        { w.kslot i with state := 3, material := [], staged := none, unsaved := false, lastTag := tagOf w.tick } := by
      rw [State.kslot, hslots]
      exact sget_map_range _ _ hi
    rw [hget]
    exact ⟨rfl, rfl, rfl⟩
  · rw [← hksu, ← hslots] at hquiet
    exact hquiet.pend

end

/-! ### A source clears, the hold ends, ACK -/

section
variable (hr : s.ksu.running = true) (hop : s.ksu.op = none) {src : Nat} (hs : src < 6) (ha : s.tmp.active.testBit src = true)
include hr hop hs ha

theorem exec_tamperClear_active (v : Nat) : ∃ t r, exec (.tamperClear src v) s = .next t ∧
    t.tmp = { s.tmp with active := s.tmp.active ^^^ 1 <<< src, seq := (s.tmp.seq + 1) % 2 ^ 32 } ∧ bit (t.hd pTMP).irqStatus 6 = true ∧
    t.evr = { s.evr with cross := s.evr.cross ++ [r] } ∧ r.cls = 11 ∧ r.typ = 4 ∧
    t.mramBytes (0x3FC00 + s.tmp.seq % 32 * 32) 4 = bytesLE 4 s.tmp.seq ∧
    (s.ksu.holdSrc.testBit src = true → t.ksu = { s.ksu with holdSrc := s.ksu.holdSrc ^^^ 1 <<< src, holdClk := s.tsu.clk }) ∧
    (s.ksu.holdSrc.testBit src = false → t.ksu = s.ksu) ∧
    (∀ a, a < 0x3FC00 + s.tmp.seq % 32 * 32 ∨ 0x3FC00 + s.tmp.seq % 32 * 32 + 32 ≤ a → a < 0x3FB08 ∨ 0x3FB0C ≤ a →
      sget (0 : Byte) a t.mram = sget (0 : Byte) a s.mram) ∧
    ({ s with tmp := t.tmp, ksu := t.ksu, evr := t.evr, mram := t.mram } : State).Quiet [pTMP] t := by
  obtain ⟨u, hu, hexec⟩ := act_next (f := fun s => s.tamperClear src v) (State.onKeep_of_onMain hon)
  unfold State.tamperClear at hu
  rw [if_neg (by rw [State.tmpWatched_of_onMain hon hs, ha]; decide), State.tmpState_running hon hr hop] at hu
  simp only [true_or, if_true] at hu
  have hn := (s.updTmp (fun t => { t with active := t.active ^^^ 1 <<< src })).noted src true
    (b2n ((s.updTmp (fun t => { t with active := t.active ^^^ 1 <<< src })).tmpHard src)) 0 v 4
  rw [show (s.updTmp (fun t => { t with active := t.active ^^^ 1 <<< src })).tmp.seq = s.tmp.seq from rfl] at hn
  generalize State.tmpDeck _ 4 src s.tmp.seq 0 = y at hn hu
  have hyk : y.ksu = s.ksu := by rw [hn.rest]; rfl
  have hyt : y.tsu = s.tsu := by rw [hn.rest]; rfl
  have hyon : y.onMain = true := by rw [State.onMain, hn.rest]; exact hon
  have hcase : ∃ k, u = State.irq { y with ksu := k } pTMP 6 ∧
      (s.ksu.holdSrc.testBit src = true → k = { s.ksu with holdSrc := s.ksu.holdSrc ^^^ 1 <<< src, holdClk := s.tsu.clk }) ∧
      (s.ksu.holdSrc.testBit src = false → k = s.ksu) := by
    cases hb : s.ksu.holdSrc.testBit src with
    | true =>
      simp only [hyk, hb, if_true] at hu
      refine ⟨_, hu.trans (if_pos hyon), fun _ => ?_, nofun⟩
      rw [hyk, hyt]
    | false =>
      simp only [hyk, hb, Bool.false_eq_true, if_false] at hu
      exact ⟨y.ksu, hu.trans (if_pos hyon), nofun, fun _ => hyk⟩
  clear hu
  obtain ⟨k, hu, hk1, hk0⟩ := hcase
  obtain ⟨htmp, ⟨r, hr, hcls, htyp⟩, h0, -, hoth, hbit, -, hquiet⟩ := State.Noted.shown
    (State.Quiet.refl [pTMP] ({ s with tmp := { s.tmp with active := s.tmp.active ^^^ 1 <<< src }, ksu := k } : State)) (hn.withKsu k)
    (by simp) (by decide) hu
  clear hu
  have hksu : u.ksu = k := hquiet.ksu
  refine ⟨_, r, (exec_tamperClear src v s).trans hexec, htmp, hbit, hr, hcls, htyp, h0, fun h => hksu.trans (hk1 h), fun h => hksu.trans (hk0 h),
    hoth, ?_⟩
  rw [← hksu] at hquiet
  exact hquiet.pend

end

theorem exec_ack_seen : ∃ t, exec .ack s = .next t ∧ t = { s with tmp := { s.tmp with seen := 0 }, hdrs := t.hdrs } ∧
    (∀ q, q ≠ pTMP → t.hd q = s.hd q) ∧ t.hd pTMP = { s.hd pTMP with lockSeen := false } := by
  obtain ⟨u, hu, hexec⟩ := actReg_next (p := pTMP) (f := fun s => s.updTmp (fun t => { t with seen := 0 })) hon
  have hshape : u = { s with tmp := { s.tmp with seen := 0 }, hdrs := u.hdrs } := by
    rw [hu, s.touch_shape pTMP]
    rfl
  have hhd (q : Nat) : u.hd q = (s.touch pTMP).hd q := by rw [hu]; rfl
  clear hu
  refine ⟨_, (exec_ack s).trans hexec, congrArg (fun t : State => { t with pending := s.pending }) hshape, fun q hq => ?_, ?_⟩
  · exact (hhd q).trans (s.hd_touch_other pTMP q hq)
  · refine (hhd pTMP).trans ?_
    unfold State.touch
    split
    · rw [s.hd_setHd]
    next h =>
      have hf : (s.hd pTMP).lockSeen = false := by simpa using h
      rw [← hf]

end

/-- Settles O50: the entry and its report once (`Noted`), then the response of each class. -/
theorem tamperResponses : Obligations.TamperResponses := by
  intro s hon
  refine ⟨fun src v q e hs hr hop hq he => ⟨fun ha => ?_, fun ha => ?_, fun ha => ?_, fun ha => ?_⟩, fun hh h0 ht => ?_, fun h => ?_, exec_ack_seen hon⟩
  · rw [exec_tamperDetect]
    exact act_same (if_pos (by rw [ha, Bool.or_true]))
  · subst hq he
    cases hc : bit (s.ac pTMP R.TMP_CFG) src with
    | false =>
      obtain ⟨t, r, hexec, htmp, hcn, hr, hcls, htyp, h0, h4, hoth, hbit, hksu, hquiet⟩ := exec_tamper_soft hon hr hop hs ha v hc
      exact ⟨t, r, hexec, htmp, hcn, by rw [hr]; simp, hcls, htyp, h0, hoth, fun _ => ⟨h4, hbit, hr, hksu, hquiet⟩, nofun⟩
    | true =>
      obtain ⟨t, r, hexec, htmp, hcn, hmem, hevr, hcls, htyp, h0, h4, hoth, hbit, hksu, hek, hslots, hquiet⟩ :=
        exec_tamper_hard hon hr hop hs ha v hc
      exact ⟨t, r, hexec, htmp, hcn, hmem, hcls, htyp, h0, hoth, nofun, fun _ => ⟨h4, hbit, hevr, hksu, hek, hslots, hquiet⟩⟩
  · subst hq he
    exact exec_tamperClear_active hon hr hop hs ha v
  · rw [exec_tamperClear]
    exact act_same (if_pos (by rw [ha]; simp))
  · rw [exec_tamperHoldEnd, act_on _ _ _ hon, State.tamperHoldEnd, if_pos (by simp [hh, h0, msClk, ht])]
    rfl
  · rw [exec_tamperHoldEnd]
    refine act_same (if_neg ?_)
    obtain h | h := h
    · simp [h]
    · simp [msClk, Nat.not_le.2 h]

end Sys2Proof.Machine
end

section
/-!
PROOFS. How operations of the key store end, and what their slots hold (R400, R404 to R414).
-/
namespace Sys2Proof.Machine
open Sys2Proof

/-! ### The end of an operation -/

theorem State.ksuIdle_eq (s : State) : s.ksuIdle = iter 12 (fun i s => s.setRg pKSU (R.KSU_DATA + 4 * i) 0)
    ((s.updKsu (fun k => { k with op := none })).setHd pKSU { s.hd pKSU with busy := false }) := by
  unfold State.ksuIdle
  rw [State.updHd_eq_setHd _ _ _ ⟨rfl, rfl, rfl⟩]
  rfl

/-- Words cleared one after the other: each reads 0, the others what they read, and only registers change. -/
theorem State.iter_setRg_zero (s : State) (p o n : Nat) :
    let t := iter n (fun i s => State.setRg s p (o + 4 * i) 0) s
    (∀ i, i < n → t.rg p (o + 4 * i) = 0) ∧ (∀ q off, (∀ i, i < n → ka q off ≠ ka p (o + 4 * i)) → t.rg q off = s.rg q off) ∧
      t = { s with regs := t.regs } := by
  refine ⟨fun i hi => ?_, fun q off h => ?_, ?_⟩
  · exact iter_visit (Pre := fun _ => True) (Post := fun t : State => t.rg p (o + 4 * i) = 0) hi trivial (fun _ _ _ _ _ => trivial)
      (fun t _ => t.rg_setRg _ _ _) fun j t _ hj h => (t.rg_setRg_other _ _ _ _ _ (by unfold ka; omega)).trans h
  · exact List.foldlRecOn (motive := fun t : State => t.rg q off = s.rg q off) _ _ rfl fun t h' i hi =>
      (t.rg_setRg_other _ _ _ _ _ (h i (List.mem_range.1 hi))).trans h'
  · exact List.foldlRecOn (motive := fun t : State => t = { s with regs := t.regs }) _ _ rfl fun t h i _ => by
      dsimp only [State.setRg]
      generalize sset _ _ _ t.regs = r
      exact congrArg (fun x : State => { x with regs := r }) h

/-- What the end of an operation with its CODE shows (R414). -/
structure State.KsuEnded (o : KOp) (c : Nat) (s t : State) : Prop where
  result : t.rg pKSU R.KSU_RESULT = w32 (o.op * 2 ^ 16 + c)
  data : ∀ i, i < 12 → t.rg pKSU (R.KSU_DATA + 4 * i) = 0
  rg : ∀ p off, ka p off ≠ ka pKSU R.KSU_RESULT → (∀ i, i < 12 → ka p off ≠ ka pKSU (R.KSU_DATA + 4 * i)) → t.rg p off = s.rg p off
  busy : (t.hd pKSU).busy = false
  irq : bit (t.hd pKSU).irqStatus 4 = true
  hd : ∀ q, q ≠ pKSU → t.hd q = s.hd q
  ops : t.cn pKSU R.KSU_CNT_OPS = min (cntMax pKSU R.KSU_CNT_OPS) (s.cn pKSU R.KSU_CNT_OPS + 1)
  own : ∀ off, off ≠ R.KSU_CNT_OPS → t.cn pKSU off = s.cn pKSU off
  cn : ∀ q off, q ≠ pKSU → off < 4096 → t.cn q off = s.cn q off
  ksu : t.ksu = { s.ksu with op := none }
  rest : t = { s with
    ksu := t.ksu, regs := t.regs, hdrs := t.hdrs, cnts := t.cnts, vecs := t.vecs, out := t.out,
    shf := { s.shf with intr := t.shf.intr, msix := t.shf.msix } }

theorem State.ksuEnded (s : State) (o : KOp) (c : Nat) : s.KsuEnded o c (s.ksuEnd o c) := by
  unfold State.ksuEnd
  dsimp only
  rw [State.ksuIdle_eq]
  have hbase : ((s.setRg pKSU R.KSU_RESULT (w32 (o.op * 2 ^ 16 + c))).updKsu (fun k => { k with op := none })).setHd pKSU
      { (s.setRg pKSU R.KSU_RESULT (w32 (o.op * 2 ^ 16 + c))).hd pKSU with busy := false } =
    { s with
      regs := (s.setRg pKSU R.KSU_RESULT (w32 (o.op * 2 ^ 16 + c))).regs, ksu := { s.ksu with op := none }
      hdrs := (s.setHd pKSU { s.hd pKSU with busy := false }).hdrs } := rfl
  rw [hbase]
  have hres := s.rg_setRg pKSU R.KSU_RESULT (w32 (o.op * 2 ^ 16 + c))
  have hoth (p off : Nat) (h : ka p off ≠ ka pKSU R.KSU_RESULT) := s.rg_setRg_other pKSU R.KSU_RESULT p off (w32 (o.op * 2 ^ 16 + c)) h
  have hhd := s.hd_setHd pKSU { s.hd pKSU with busy := false }
  have hhdo (q : Nat) (h : q ≠ pKSU) := s.hd_setHd_other pKSU q { s.hd pKSU with busy := false } h
  generalize s.setRg pKSU R.KSU_RESULT (w32 (o.op * 2 ^ 16 + c)) = r at *
  generalize s.setHd pKSU { s.hd pKSU with busy := false } = h at *
  obtain ⟨hz, hzo, hzs⟩ := State.iter_setRg_zero ({ s with regs := r.regs, ksu := { s.ksu with op := none }, hdrs := h.hdrs } : State)
    pKSU R.KSU_DATA 12
  generalize iter 12 _ _ = b at *
  obtain ⟨hq, hbit, hcn⟩ := b.bump_irq_spec pKSU (o := R.KSU_CNT_OPS) (i := 4) (by decide) (by decide)
  have hown (off : Nat) (h : off ≠ R.KSU_CNT_OPS) : ((b.bump pKSU R.KSU_CNT_OPS).irq pKSU 4).cn pKSU off = b.cn pKSU off := by
    rw [State.cn, State.irq_cnts, ← State.cn]
    exact b.cn_bump_other _ _ _ _ (by unfold ka; omega)
  generalize (b.bump pKSU R.KSU_CNT_OPS).irq pKSU 4 = t at *
  have hbc (q off : Nat) : b.cn q off = s.cn q off := by rw [State.cn, hzs]; rfl
  have hbh (q : Nat) : b.hd q = h.hd q := by rw [State.hd, hzs]; rfl
  have hdata (i : Nat) (hi : i < 12) : ka pKSU R.KSU_RESULT ≠ ka pKSU (R.KSU_DATA + 4 * i) :=
    show 0x010 * 4096 + 0x404 ≠ 0x010 * 4096 + (0x080 + 4 * i) by omega
  exact {
    result := (hq.rg _ _).trans ((hzo _ _ hdata).trans hres)
    data := fun i hi => (hq.rg _ _).trans (hz i hi)
    rg := fun p off h1 h2 => (hq.rg _ _).trans ((hzo _ _ h2).trans (hoth p off h1))
    busy := by rw [hq.hdIn pKSU, hbh, hhd]
    irq := hbit
    hd := fun q hne => (hq.hd q (by simpa using hne)).trans ((hbh q).trans (hhdo q hne))
    ops := by rw [hcn, hbc]
    own := fun off ho => (hown off ho).trans (hbc _ _)
    cn := fun q off hne ho => (hq.cn q off (by simpa using hne) ho).trans (hbc _ _)
    ksu := hq.ksu.trans (by rw [hzs])
    rest := by
      have hr := hq.rest
      rw [hzs] at hr
      rw [hr] }

section
variable {s t : State} {o : KOp} {c : Nat} (h : s.KsuEnded o c t)
include h

theorem State.KsuEnded.kslots : t.kslots = s.kslots := by rw [h.rest]
theorem State.KsuEnded.ekeys : t.ekeys = s.ekeys := by rw [h.rest]
theorem State.KsuEnded.mem : t.mem = s.mem := by rw [h.rest]
theorem State.KsuEnded.kslot (k : Nat) : t.kslot k = s.kslot k := by rw [State.kslot, h.kslots, ← State.kslot]

end

/-! ### OP_DONE -/

section
variable {s : State} {o : KOp} (hop : s.ksu.op = some o)
include hop

/-- An operation whose work is done completes once its record has left for the queue. -/
theorem exec_opDone_waits {c : Nat} (hc : o.code = some c) (hw : s.deckWaits pKSU = true) : exec .opDone s = .next s := by
  rw [exec_opDone]
  refine act_same ?_
  simp only [State.ksuDone, hop, hc, hw, if_true]

variable (hon : s.onMain = true)
include hon

theorem exec_opDone_ends {c : Nat} (hc : o.code = some c) (hw : s.deckWaits pKSU = false) :
    ∃ u, exec .opDone s = .next { u with pending := s.pending } ∧ s.KsuEnded o c u := by
  obtain ⟨u, hu, hexec⟩ := act_next (f := State.ksuDone) hon
  have hd : u = s.ksuEnd o c := by simp only [hu, State.ksuDone, hop, hc, hw, Bool.false_eq_true, if_false]
  exact ⟨u, (exec_opDone s).trans hexec, hd ▸ s.ksuEnded o c⟩

variable (hc : o.code = none)
include hc

/-- An operation that leaves no record ends with its work. -/
theorem exec_opDone_work {r : Nat × State} (hr : s.kWork o = r) (hw : r.2.deckWaits pKSU = false) :
    ∃ u, exec .opDone s = .next { u with pending := s.pending } ∧ r.2.KsuEnded o r.1 u := by
  obtain ⟨u, hu, hexec⟩ := act_next (f := State.ksuDone) hon
  have hd : u = r.2.ksuEnd o r.1 := by simp only [hu, State.ksuDone, hop, hc, hr, hw, Bool.false_eq_true, if_false]
  exact ⟨u, (exec_opDone s).trans hexec, hd ▸ r.2.ksuEnded o r.1⟩

/-- OP_DONE leaves slots, engine copies, memory and counters as the work left them. -/
theorem exec_opDone_slots {r : Nat × State} (hr : s.kWork o = r) :
    ∃ t, exec .opDone s = .next t ∧ t.kslots = r.2.kslots ∧ t.ekeys = r.2.ekeys ∧ t.mem = r.2.mem ∧
      (∀ off, off ≠ R.KSU_CNT_OPS → t.cn pKSU off = r.2.cn pKSU off) ∧
      (∀ x, t.ksu.op = some x → x = { o with code := some r.1 }) := by
  cases hw : r.2.deckWaits pKSU with
  | false =>
    obtain ⟨u, hexec, hu⟩ := exec_opDone_work hop hon hc hr hw
    exact ⟨_, hexec, hu.kslots, hu.ekeys, hu.mem, hu.own, fun x hx => by
      rw [show u.ksu = _ from hu.ksu] at hx
      cases hx⟩
  | true =>
    obtain ⟨u, hu, hexec⟩ := act_next (f := State.ksuDone) hon
    have hd : u = r.2.updKsu fun k => { k with op := some { o with code := some r.1 } } := by
      simp only [hu, State.ksuDone, hop, hc, hr, hw, if_true]
    subst hd
    exact ⟨_, (exec_opDone s).trans hexec, rfl, rfl, rfl, fun _ _ => rfl, fun x hx => (Option.some.inj hx).symm⟩

end

/-! ### Operations that leave no record -/

/-- Work on the KSU's own rows: its registers and one slot. -/
structure State.KeyStep (i : Nat) (s t : State) : Prop where
  kslot : ∀ k, k ≠ i → t.kslot k = s.kslot k
  rest : t = { s with ksu := t.ksu, kslots := t.kslots }

theorem State.keyStep_slot (s : State) (i : Nat) (x : KSlot) : s.KeyStep i (s.setKslot i x) :=
  ⟨fun _ h => State.kslot_setKslot_other s _ _ x h, rfl⟩
theorem State.KeyStep.refl (i : Nat) (s : State) : s.KeyStep i s := ⟨fun _ _ => rfl, rfl⟩

theorem State.kVerify_none {s : State} {o : KOp} (h : (s.kslot o.slot).staged = none) : s.kVerify o = (0x43, s) := by
  simp only [State.kVerify, h]

theorem State.kVerify_some {s : State} {o : KOp} {m : List Byte} {v : Bool} (h : (s.kslot o.slot).staged = some (m, v)) : s.kVerify o =
    if Machine.fit 8 (Config.hmac384 (ofBytes m) [0x4B, 0x43, 0x56]) = Machine.fit 8 o.data then
      (0, s.setKslot o.slot { s.kslot o.slot with staged := some (m, true) })
    else (0x43, s) := by
  simp only [State.kVerify, h]

theorem State.keyStep_kVerify (s : State) (o : KOp) : s.KeyStep o.slot (s.kVerify o).2 ∧ (s.kVerify o).2.ksu = s.ksu := by
  cases h : (s.kslot o.slot).staged with
  | none => rw [State.kVerify_none h]; exact ⟨.refl _ _, rfl⟩
  | some x =>
    rw [State.kVerify_some h]
    split
    · exact ⟨s.keyStep_slot _ _, rfl⟩
    · exact ⟨.refl _ _, rfl⟩

theorem State.keyStep_kExtend (s : State) (o : KOp) : s.KeyStep o.slot (s.kExtend o).2 ∧ (s.kExtend o).2.kslots = s.kslots := by
  unfold State.kExtend
  split
  · exact ⟨.refl _ _, rfl⟩
  · split
    · exact ⟨.refl _ _, rfl⟩
    · exact ⟨⟨fun _ _ => rfl, rfl⟩, rfl⟩

theorem State.keyStep_kLockMr (s : State) (o : KOp) : s.KeyStep o.slot (s.kLockMr o).2 ∧ (s.kLockMr o).2.kslots = s.kslots := by
  unfold State.kLockMr
  split
  · exact ⟨.refl _ _, rfl⟩
  · exact ⟨⟨fun _ _ => rfl, rfl⟩, rfl⟩

theorem State.keyStep_kWork (s : State) {o : KOp} (h : o.op ∈ ([3, 5, 13, 14, 15] : List Nat)) : s.KeyStep o.slot (s.kWork o).2 := by
  simp only [List.mem_cons, List.not_mem_nil, or_false] at h
  unfold State.kWork
  obtain h | h | h | h | h := h <;> rw [h]
  · exact (s.keyStep_kVerify o).1
  · exact s.keyStep_slot _ _
  · exact (s.keyStep_kExtend o).1
  · exact (s.keyStep_kLockMr o).1
  · exact ⟨fun _ _ => rfl, rfl⟩

/-! ### Orphans, and new material (R412, R413) -/

/-- Rows of other blocks, and counters but CNT_ORPHANED, through the orphaning of slots. -/
structure State.Orphaned (s t : State) : Prop where
  mem : t.mem = s.mem
  ksu : t.ksu = s.ksu
  cn : ∀ off, off ≠ R.KSU_CNT_ORPHANED → t.cn pKSU off = s.cn pKSU off

section
variable {s t u : State}

theorem State.Orphaned.refl (s : State) : s.Orphaned s := ⟨rfl, rfl, fun _ _ => rfl⟩

theorem State.Orphaned.trans (h : s.Orphaned t) (h' : t.Orphaned u) : s.Orphaned u :=
  ⟨h'.mem.trans h.mem, h'.ksu.trans h.ksu, fun off ho => (h'.cn off ho).trans (h.cn off ho)⟩

end

theorem State.Orphaned.purge {s t : State} (h : s.Orphaned t) (l : List Nat) : s.Orphaned (t.purge l) := ⟨h.mem, h.ksu, h.cn⟩

theorem State.orphaned_step (s : State) (c : Nat) (x : KSlot) : s.Orphaned ((s.setKslot c x).bump pKSU R.KSU_CNT_ORPHANED) :=
  have hq := (State.Quiet.refl [pKSU] (s.setKslot c x)).bump (p := pKSU) (o := R.KSU_CNT_ORPHANED) (by simp) (by decide)
  ⟨hq.mem, hq.ksu, fun off ho => (s.setKslot c x).cn_bump_other _ _ _ _ (by unfold ka; omega)⟩

theorem State.orphaned_orphanGen (s : State) (ps : List Nat) : s.Orphaned (s.orphanGen ps).2 := by
  unfold State.orphanGen
  dsimp only
  refine State.Orphaned.purge ?_ _
  exact List.foldlRecOn (motive := fun t => s.Orphaned t) _ _ (.refl s) fun t h c _ => h.trans (t.orphaned_step c _)

theorem State.orphaned_irq (s : State) (i : Nat) : s.Orphaned (s.irq pKSU i) :=
  have hq := (State.Quiet.refl [pKSU] s).irq (p := pKSU) (by simp) i
  ⟨hq.mem, hq.ksu, fun off _ => by rw [State.cn, State.irq_cnts, ← State.cn]⟩

theorem State.orphaned_invalidated (s : State) (i : Nat) : s.Orphaned (s.invalidated i).2 := by
  unfold State.invalidated
  dsimp only
  have hfold (l : List Nat) (a : List Nat × Nat × State) (h : s.Orphaned a.2.2) :
      s.Orphaned (l.foldl (fun (acc : List Nat × Nat × State) _ =>
        if acc.1.isEmpty then acc
        else ((acc.2.2.orphanGen acc.1).1, acc.2.1 + (acc.2.2.orphanGen acc.1).1.length, (acc.2.2.orphanGen acc.1).2)) a).2.2 :=
    List.foldlRecOn (motive := fun t : List Nat × Nat × State => s.Orphaned t.2.2) l _ h fun t h x _ => by
      split
      · exact h
      · exact h.trans (t.2.2.orphaned_orphanGen _)
  split
  · exact hfold _ _ (.refl s)
  · exact (hfold _ _ (.refl s)).trans (State.orphaned_irq _ _)

/-- A slot's rows and memory through a record, a counter or an interrupt of the KSU. -/
def State.SameKeys (s t : State) : Prop := t.kslots = s.kslots ∧ t.ekeys = s.ekeys ∧ t.mem = s.mem

theorem State.sameKeys_bump (s : State) (off : Nat) (ho : off < 4096) : s.SameKeys (s.bump pKSU off) :=
  have hq := (State.Quiet.refl [pKSU] s).bump (p := pKSU) (o := off) (by simp) ho
  ⟨hq.kslots, hq.ekeys, hq.mem⟩

theorem State.sameKeys_keyRec_bump (s : State) (typ slot v off : Nat) (ho : off < 4096) :
    s.SameKeys ((s.keyRec typ slot v).bump pKSU off) :=
  (s.keyRec typ slot v).sameKeys_bump off ho

theorem State.genUp_rows (s : State) (i : Nat) : (s.genUp i).ekeys = s.ekeys ∧ (s.genUp i).mem = s.mem ∧
    ((s.genUp i).kslot i).state = (s.kslot i).state ∧ ((s.genUp i).kslot i).material = (s.kslot i).material ∧
    ((s.genUp i).kslot i).origin = (s.kslot i).origin ∧ ((s.genUp i).kslot i).staged = (s.kslot i).staged := by
  unfold State.genUp
  dsimp only
  split
  · generalize hw : s.writeMram _ _ = w
    have hk : w.kslot i = s.kslot i := by rw [← hw]; rfl
    have hm : w.mem = s.mem ∧ w.ekeys = s.ekeys := by rw [← hw]; exact ⟨rfl, rfl⟩
    have hq := (State.Quiet.refl [pKSU] (w.setKslot i { w.kslot i with unsaved := true })).irq (p := pKSU) (by simp) 8
    rw [hq.ekeys, hq.mem, show ((w.setKslot i { w.kslot i with unsaved := true }).irq pKSU 8).kslot i =
      { w.kslot i with unsaved := true } from by rw [State.kslot, hq.kslots]; exact State.kslot_setKslot _ _ _, hk]
    exact ⟨hm.2, hm.1, rfl, rfl, rfl, rfl⟩
  · exact ⟨rfl, rfl, rfl, rfl, rfl, rfl⟩

theorem toBytes_ofBytes (m : List Byte) : toBytes (ofBytes m) = m := by
  rw [toBytes, ofBytes, List.map_map]
  exact (List.map_congr_left fun b _ => (BitVec.ofNat_toNat 8 b).trans b.setWidth_eq).trans (List.map_id m)

/-! ### The slot after an operation with a record -/

section
variable {s : State} {o : KOp}

/-- The rows after an installation, in terms of the state its orphans leave. -/
theorem State.install_rows (s : State) (i : Nat) (m : List Nat) (origin : Nat) (send : Bool) (f : KSlot → KSlot) :
    (s.install i m origin send f).kslots = sset {} i (f { (s.invalidated i).2.kslot i with
      state := 1, origin := origin, kid := false, material := toBytes m, staged := none, unsaved := false,
      lastTag := tagOf (s.invalidated i).2.tick }) (s.invalidated i).2.kslots ∧
    (s.invalidated i).2.Orphaned (s.install i m origin send f) ∧
    (send = true → (s.install i m origin send f).ekeys =
      (s.invalidated i).2.ekeys.map fun e => if e.1 % 256 = i then (e.1, toBytes m) else e) := by
  unfold State.install
  generalize s.invalidated i = r
  cases send with
  | true => exact ⟨rfl, ⟨rfl, rfl, fun _ _ => rfl⟩, fun _ => rfl⟩
  | false => exact ⟨rfl, ⟨rfl, rfl, fun _ _ => rfl⟩, fun h => by cases h⟩

theorem State.install_slot (s : State) (i : Nat) (m : List Nat) (origin : Nat) (send : Bool) (f : KSlot → KSlot) :
    (s.install i m origin send f).kslot i = f { (s.invalidated i).2.kslot i with
      state := 1, origin := origin, kid := false, material := toBytes m, staged := none, unsaved := false,
      lastTag := tagOf (s.invalidated i).2.tick } := by
  rw [State.kslot, (s.install_rows i m origin send f).1]
  exact sget_sset_same _ _ _ _

theorem State.orphaned_install (s : State) (i : Nat) (m : List Nat) (origin : Nat) (send : Bool) (f : KSlot → KSlot) :
    s.Orphaned (s.install i m origin send f) :=
  (s.orphaned_invalidated i).trans (s.install_rows i m origin send f).2.1

theorem State.install_send (s : State) (i : Nat) (m : List Nat) (origin : Nat) (f : KSlot → KSlot) {e : Nat × List Byte}
    (he : e ∈ (s.install i m origin true f).ekeys) (hi : e.1 % 256 = i) : e.2 = toBytes m := by
  rw [(s.install_rows i m origin true f).2.2 rfl] at he
  obtain ⟨x, _, rfl⟩ := List.mem_map.1 he
  by_cases h : x.1 % 256 = i
  · rw [if_pos h]
  · rw [if_neg h] at hi
    exact absurd hi h

theorem State.kDerive_root (hf : s.flips = []) (hp : s.poison = []) (hr : (s.kslot o.slot).fromRoot = true) (hk : s.ksu.root = true)
    (h0 : 0 < o.len) (h32 : o.len ≤ 32) (hrange : postRange o.addr o.len = true) :
    s.kDerive o =
      (0, ((s.install o.slot (kdfMat Config.rootSecret (s.bytes o.addr o.len) (s.kctx (s.kslot o.slot)) (s.kslot o.slot).type) 1 false
        fun x => { x with depth := 1, kid := false }).keyRec 1 o.slot 0).bump pKSU R.KSU_CNT_DERIVE) := by
  unfold State.kDerive
  simp only [hr, hk, hrange, if_true, Bool.not_true, Bool.false_and, Bool.false_eq_true, if_false, or_false, State.kRead,
    State.readMem_clean s _ _ _ _ hf hp, if_neg (show ¬o.len = 0 by omega), if_neg (show ¬32 < o.len by omega),
    if_neg (show ¬4 < 1 by decide)]

theorem State.kStage_clean (hf : s.flips = []) (hp : s.poison = []) (hrange : postRange o.addr (s.kslot o.slot).keyLen = true) :
    s.kStage o = (0, s.setKslot o.slot { s.kslot o.slot with staged := some (toBytes (s.bytes o.addr (s.kslot o.slot).keyLen), false) }) := by
  simp only [State.kStage, hrange, Bool.not_true, Bool.false_eq_true, if_false, State.kRead, State.readMem_clean s _ _ _ _ hf hp]

theorem State.kCommit_verified {m : List Byte} (h : (s.kslot o.slot).staged = some (m, true)) :
    s.kCommit o = (0, (((s.install o.slot (ofBytes m) 4 true fun x => { x with depth := 0 }).genUp o.slot).keyRec 2 o.slot 0).bump pKSU
      R.KSU_CNT_COMMIT) := by
  simp only [State.kCommit, h]

variable (hon : s.onMain = true) (hop : s.ksu.op = some o) (hc : o.code = none)
include hon hop hc

theorem exec_opDone_derive (h1 : o.op = 1) (hf : s.flips = []) (hp : s.poison = []) (hr : (s.kslot o.slot).fromRoot = true)
    (hk : s.ksu.root = true) (h0 : 0 < o.len) (h32 : o.len ≤ 32) (hrange : postRange o.addr o.len = true) :
    ∃ t, exec .opDone s = .next t ∧
      (t.kslot o.slot).material = toBytes (kdfMat Config.rootSecret (s.bytes o.addr o.len) (s.kctx (s.kslot o.slot)) (s.kslot o.slot).type) ∧
      (t.kslot o.slot).state = 1 ∧ (t.kslot o.slot).origin = 1 ∧ (t.kslot o.slot).depth = 1 ∧ t.mem = s.mem ∧
      t.cn pKSU R.KSU_CNT_DERIVE = min (cntMax pKSU R.KSU_CNT_DERIVE) (s.cn pKSU R.KSU_CNT_DERIVE + 1) ∧
      (∀ x, t.ksu.op = some x → x = { o with code := some 0 }) := by
  have hw : s.kWork o = s.kDerive o := by simp only [State.kWork, h1]
  rw [State.kDerive_root hf hp hr hk h0 h32 hrange] at hw
  generalize kdfMat _ _ _ _ = m at *
  obtain ⟨t, hexec, hks, _, hmem, hcn, hx⟩ := exec_opDone_slots hop hon hc hw
  have hslot := s.install_slot o.slot m 1 false fun x => { x with depth := 1, kid := false }
  have hinst := s.orphaned_install o.slot m 1 false fun x => { x with depth := 1, kid := false }
  generalize s.install _ _ _ _ _ = a at *
  obtain ⟨hk, _, hm⟩ := a.sameKeys_keyRec_bump 1 o.slot 0 R.KSU_CNT_DERIVE (by decide)
  have hkt : t.kslot o.slot = a.kslot o.slot := by rw [State.kslot, hks, hk, ← State.kslot]
  rw [hslot] at hkt
  refine ⟨t, hexec, by rw [hkt], by rw [hkt], by rw [hkt], by rw [hkt], (hmem.trans hm).trans hinst.mem, ?_, hx⟩
  rw [hcn _ (by decide), State.cn_bump, ← hinst.cn R.KSU_CNT_DERIVE (by decide)]
  rfl

theorem exec_opDone_stage (h2 : o.op = 2) (hf : s.flips = []) (hp : s.poison = []) (hw : s.deckWaits pKSU = false)
    (hrange : postRange o.addr (s.kslot o.slot).keyLen = true) : ∃ t, exec .opDone s = .next t ∧ t.ksu = { s.ksu with op := none } ∧
      t.kslot o.slot = { s.kslot o.slot with staged := some (toBytes (s.bytes o.addr (s.kslot o.slot).keyLen), false) } ∧
      (∀ k, k ≠ o.slot → t.kslot k = s.kslot k) ∧ t.mem = s.mem := by
  have hwork : s.kWork o = s.kStage o := by simp only [State.kWork, h2]
  rw [State.kStage_clean hf hp hrange] at hwork
  obtain ⟨u, hexec, hu⟩ := exec_opDone_work hop hon hc hwork hw
  exact ⟨_, hexec, hu.ksu, (hu.kslot _).trans (State.kslot_setKslot _ _ _), fun k h => (hu.kslot k).trans (State.kslot_setKslot_other _ _ _ _ h),
    hu.mem⟩

theorem exec_opDone_commit {m : List Byte} (h4 : o.op = 4) (hst : (s.kslot o.slot).staged = some (m, true)) :
    ∃ t, exec .opDone s = .next t ∧ (t.kslot o.slot).state = 1 ∧ (t.kslot o.slot).material = m ∧ (t.kslot o.slot).origin = 4 ∧
      (t.kslot o.slot).staged = none ∧ (∀ e, e ∈ t.ekeys → e.1 % 256 = o.slot → e.2 = m) ∧ t.mem = s.mem := by
  have hw : s.kWork o = s.kCommit o := by simp only [State.kWork, h4]
  rw [State.kCommit_verified hst] at hw
  obtain ⟨t, hexec, hks, hek, hmem, _, _⟩ := exec_opDone_slots hop hon hc hw
  have hslot := s.install_slot o.slot (ofBytes m) 4 true fun x => { x with depth := 0 }
  have hinst := s.orphaned_install o.slot (ofBytes m) 4 true fun x => { x with depth := 0 }
  have hsend (e : Nat × List Byte) := s.install_send o.slot (ofBytes m) 4 (fun x => { x with depth := 0 }) (e := e)
  rw [toBytes_ofBytes] at hslot hsend
  generalize s.install _ _ _ _ _ = a at *
  obtain ⟨hge, hgm, hgs, hgmat, hgo, hgst⟩ := a.genUp_rows o.slot
  generalize a.genUp o.slot = b at *
  obtain ⟨hk, he, hm⟩ := b.sameKeys_keyRec_bump 2 o.slot 0 R.KSU_CNT_COMMIT (by decide)
  have hkt : t.kslot o.slot = b.kslot o.slot := by rw [State.kslot, hks, hk, ← State.kslot]
  have hekeys : t.ekeys = a.ekeys := hek.trans (he.trans hge)
  exact ⟨t, hexec, by rw [hkt, hgs, hslot], by rw [hkt, hgmat, hslot], by rw [hkt, hgo, hslot], by rw [hkt, hgst, hslot],
    fun e hmem hi => hsend e (hekeys ▸ hmem) hi, (hmem.trans (hm.trans hgm)).trans hinst.mem⟩

omit hon hop hc in
theorem State.kInvalidate_rows (s : State) (o : KOp) :
    (s.kInvalidate o).2.kslots = sset {} o.slot { (s.invalidated o.slot).2.kslot o.slot with
      state := 3, material := [], staged := none, unsaved := false, lastTag := tagOf (s.invalidated o.slot).2.tick }
      (s.invalidated o.slot).2.kslots ∧
    (s.kInvalidate o).2.ekeys = (s.invalidated o.slot).2.ekeys.filter (fun e => !([o.slot].contains (e.1 % 256))) ∧
    (s.kInvalidate o).2.mem = (s.invalidated o.slot).2.mem := by
  unfold State.kInvalidate
  generalize s.invalidated o.slot = r
  exact ⟨rfl, rfl, rfl⟩

theorem exec_opDone_invalidate (h8 : o.op = 8) :
    ∃ t, exec .opDone s = .next t ∧ (t.kslot o.slot).state = 3 ∧ (t.kslot o.slot).material = [] ∧
      (t.kslot o.slot).staged = none ∧ (∀ e, e ∈ t.ekeys → e.1 % 256 ≠ o.slot) ∧ t.mem = s.mem := by
  have hw : s.kWork o = s.kInvalidate o := by simp only [State.kWork, h8]
  obtain ⟨t, hexec, hks, hek, hmem, _, _⟩ := exec_opDone_slots hop hon hc hw
  have hinv := s.orphaned_invalidated o.slot
  obtain ⟨hs, he, hm⟩ := s.kInvalidate_rows o
  generalize s.invalidated o.slot = r at *
  have hkt : t.kslot o.slot = { r.2.kslot o.slot with
      state := 3, material := [], staged := none, unsaved := false, lastTag := tagOf r.2.tick } := by
    rw [State.kslot, hks, hs]
    exact sget_sset_same _ _ _ _
  rw [hm] at hmem
  rw [he] at hek
  refine ⟨t, hexec, by rw [hkt], by rw [hkt], by rw [hkt], fun e he => ?_, hmem.trans hinv.mem⟩
  rw [hek] at he
  have hpurged := (List.mem_filter.1 he).2
  simpa using hpurged

end

/-! ### An operation that starts -/

/-- KSU_CMD does nothing to the operation, or starts the one written with its operands as they stand (R414). -/
theorem State.ksuCmd_op (s : State) (op slot arg : Nat) : (s.ksuCmd op slot arg).ksu.op = s.ksu.op ∨
    (s.ksuCmd op slot arg).ksu.op = some
      { op := op, slot := slot % 256, arg := arg % 256, addr := s.rg64 pKSU R.KSU_ADDR, len := (s.rg pKSU R.KSU_LEN).toNat,
        data := s.ksuData, before := s.kslot (slot % 256) } := by
  have hgo (f : Ksu → Ksu) (g : Hdr → Hdr) : ((s.updKsu f).updHd pKSU g).ksu = f s.ksu := by rw [State.updHd_ksu]; rfl
  have hno (c : Nat) : (s.refuse pKSU R.KSU_CMD c).ksu.op = s.ksu.op := by rw [State.refuse_ksu]
  unfold State.ksuCmd
  dsimp only
  generalize s.rg64 pKSU R.KSU_ADDR = a, s.ksuData = d
  split
  · exact .inl rfl
  · iterate 6 refine (apply_ite (fun t : State => t.ksu.op = s.ksu.op ∨ t.ksu.op = some _) _ _ _).mpr ?_; split; exact .inl (hno _)
    exact .inr (by rw [hgo])

/-- Settles O49: OP_DONE ends the operation with the result of its work. -/
theorem keyOperations : Obligations.KeyOperations := by
  unfold Obligations.KeyOperations
  refine ⟨fun s hon => ⟨fun hop => ?_, fun op sl ar x hop hx => ?_, fun o hop hc hw hmem => ?_⟩, fun s o hon hop => ⟨fun c hc hw => ?_, fun c hc hw => ?_,
    fun hc => ⟨fun h1 hf hp hr hk h0 h32 hrange => ?_, fun h2 hf hp hw hrange => ?_, fun m h4 hst => ?_, fun h8 => ?_⟩⟩⟩
  · rw [exec_opDone]
    exact act_same (by simp only [State.ksuDone, hop])
  · obtain h | h := s.ksuCmd_op op sl ar
    · rw [h, hop] at hx
      cases hx
    · rw [h] at hx
      cases hx
      exact ⟨rfl, rfl, rfl, rfl⟩
  · have hstep := s.keyStep_kWork hmem
    have hdw : (s.kWork o).2.deckWaits pKSU = false := by rw [State.deckWaits, hstep.rest]; exact hw
    obtain ⟨u, hexec, hu⟩ := exec_opDone_work hop hon hc rfl hdw
    have hslot (k : Nat) (hk : k ≠ o.slot) : u.kslot k = s.kslot k := (hu.kslot k).trans (hstep.kslot k hk)
    refine ⟨_, (s.kWork o).1, hexec, hu.result, hu.data, fun p off h h' => (hu.rg p off h h').trans (by rw [hstep.rest]; rfl), hu.busy, hu.irq,
      fun q hq => (hu.hd q hq).trans (by rw [hstep.rest]; rfl), hu.ops.trans (by rw [hstep.rest]; rfl),
      fun q off hq ho => (hu.cn q off hq ho).trans (by rw [hstep.rest]; rfl), hslot, fun h3 => ?_, fun h5 => ?_, fun h13 => ?_, fun h14 => ?_,
      fun h15 => ?_, ?_⟩
    · have hv : s.kWork o = s.kVerify o := by simp only [State.kWork, h3]
      rw [hv] at hu ⊢
      refine ⟨by rw [show u.ksu = _ from hu.ksu, (s.keyStep_kVerify o).2], fun hst => ?_, fun m v hst => ⟨fun heq => ?_, fun hne => ?_⟩⟩
      · rw [State.kVerify_none hst] at hu ⊢
        exact ⟨rfl, hu.kslot _⟩
      · rw [State.kVerify_some hst, if_pos heq] at hu ⊢
        exact ⟨rfl, (hu.kslot _).trans (State.kslot_setKslot _ _ _)⟩
      · rw [State.kVerify_some hst, if_neg hne] at hu ⊢
        exact ⟨rfl, hu.kslot _⟩
    · have hv : s.kWork o = s.kAbortStage o := by simp only [State.kWork, h5]
      rw [hv] at hu ⊢
      exact ⟨rfl, (hu.kslot _).trans (State.kslot_setKslot _ _ _), hu.ksu⟩
    · have hv : s.kWork o = s.kExtend o := by simp only [State.kWork, h13]
      rw [hv] at hu ⊢
      refine ⟨(hu.kslot _).trans (by rw [State.kslot, (s.keyStep_kExtend o).2, ← State.kslot]), fun h => ?_, fun h hl => ?_, fun old hl h hold => ?_⟩
      · rw [State.kExtend, if_pos h] at hu ⊢
        exact ⟨rfl, hu.ksu⟩
      · rw [State.kExtend, if_neg (by omega), if_pos hl] at hu ⊢
        exact ⟨rfl, hu.ksu⟩
      · rw [State.kExtend, if_neg (by omega), if_neg (by simp [hl])] at hu ⊢
        refine ⟨rfl, (show u.ksu = _ from hu.ksu).trans ?_⟩
        simp only [State.updKsu, hold, Option.getD_some]
    · have hv : s.kWork o = s.kLockMr o := by simp only [State.kWork, h14]
      rw [hv] at hu ⊢
      refine ⟨(hu.kslot _).trans (by rw [State.kslot, (s.keyStep_kLockMr o).2, ← State.kslot]), fun h => ?_, fun h => ?_⟩
      · rw [State.kLockMr, if_pos h] at hu ⊢
        exact ⟨rfl, hu.ksu⟩
      · rw [State.kLockMr, if_neg (by omega)] at hu ⊢
        exact ⟨rfl, hu.ksu⟩
    · have hv : s.kWork o = (0, s.updKsu fun k => { k with running := true }) := by simp only [State.kWork, h15]
      rw [hv] at hu ⊢
      exact ⟨hu.kslot _, rfl, hu.ksu⟩
    · have hr := hu.rest
      rw [hstep.rest] at hr
      have hks := hu.kslots
      rw [hr]
  · exact exec_opDone_waits hop hc hw
  · obtain ⟨u, hexec, hu⟩ := exec_opDone_ends hop hon hc hw
    exact ⟨_, hexec, hu.result, hu.ksu, hu.busy, hu.irq, hu.kslots⟩
  · exact exec_opDone_derive hon hop hc h1 hf hp hr hk h0 h32 hrange
  · exact exec_opDone_stage hon hop hc h2 hf hp hw hrange
  · exact exec_opDone_commit hon hop hc h4 hst
  · exact exec_opDone_invalidate hon hop hc h8

end Sys2Proof.Machine
end

section
/-!
PROOFS. Point access by the PF and the commands of an instance (R191, R198, R219).
-/
namespace Sys2Proof.Machine
open Sys2Proof

/-! ### Accesses of a register page -/

/-- An access changes headers before the command's effect, which then stands with the queue given back. -/
theorem actReg_eff {on : State → Bool} {p : Nat} {f : State → State} {s : State} (h : on s = true) :
    ∃ w, (∀ q, ({ s with hdrs := w } : State).unusable q = s.unusable q) ∧ s.Quiet [p] { s with hdrs := w } ∧
      actReg on p f s = .next { f { s with hdrs := w } with pending := s.pending } := by
  have hq := (State.Quiet.refl [p] s).touch (List.mem_singleton_self p)
  have hsh : s.touch p = { s with hdrs := (s.touch p).hdrs } := s.touch_shape p
  refine ⟨(s.touch p).hdrs, fun q => ?_, ?_, ?_⟩
  · rw [← hsh, State.unusable_touch]
  · rw [← hsh]; exact hq
  · rw [← hsh]; exact actReg_on on p f s h

/-- A command that only refuses writes ERR_CODE and changes nothing of the module's work (R40). -/
theorem actReg_refuses {on : State → Bool} {p o c : Nat} {f : State → State} {s : State} (h : on s = true) (hg : headPage p = p)
    (hf : f (s.touch p) = (s.touch p).refuse p o c) :
    ∃ t, actReg on p f s = .next t ∧ (t.hd p).errCode = w32 (o * 256 + c) ∧ s.Quiet [p] t := by
  obtain ⟨u, hu, hexec⟩ := actReg_next (p := p) (f := f) h
  exact ⟨_, hexec, State.refuse_touch_headPage hg (by rw [hu, hf])⟩

/-- What an access sees of a state: everything but headers. -/
theorem State.touch_eq (s : State) (p : Nat) : ∃ w, s.touch p = { s with hdrs := w } := ⟨_, s.touch_shape p⟩

/-! ### Points -/

theorem rg64_setRg64 (s : State) (p o v : Nat) : (s.setRg64 p o v).rg64 p o = v % 2 ^ 64 := by
  have hne : ka p o ≠ ka p (o + 4) := by unfold ka; omega
  rw [State.rg64, State.setRg64, State.rg_setRg, State.rg_setRg_other _ _ _ _ _ _ hne, State.rg_setRg]
  simp only [w32, BitVec.toNat_ofNat]
  omega

/-- The registers that show a point and its directory entry. -/
structure State.PointShown (t : State) (v q st i h : Nat) : Prop where
  value : t.rg64 (pCYC 0) R.CYC_PI_VALUE = v % 2 ^ 64
  qual : t.rg (pCYC 0) R.CYC_PI_QUAL = w32 q
  stamp : t.rg (pCYC 0) R.CYC_PI_STAMP = w32 st
  id : t.rg (pCYC 0) R.CYC_PI_ID = w32 i
  hash : t.rg (pCYC 0) R.CYC_PI_HASH = w32 h

def State.showPoint (a : State) (v q st i h : Nat) : State :=
  ((((a.setRg64 (pCYC 0) R.CYC_PI_VALUE v).setRg (pCYC 0) R.CYC_PI_QUAL (w32 q)).setRg (pCYC 0) R.CYC_PI_STAMP (w32 st)).setRg (pCYC 0)
    R.CYC_PI_ID (w32 i)).setRg (pCYC 0) R.CYC_PI_HASH (w32 h)

theorem State.pointShown_showPoint (a : State) (v q st i h : Nat) : (a.showPoint v q st i h).PointShown v q st i h ∧
    a.showPoint v q st i h = { a with regs := (a.showPoint v q st i h).regs } := by
  have hregs : a.RegsOnly (a.showPoint v q st i h) :=
    ((((((State.RegsOnly.refl a).setRg _ _ _).setRg _ _ _).setRg _ _ _).setRg _ _ _).setRg _ _ _).setRg _ _ _
  refine ⟨?_, hregs⟩
  unfold State.showPoint
  refine ⟨?_, ?_, ?_, ?_, State.rg_setRg _ _ _ _⟩
  · rw [← rg64_setRg64 a (pCYC 0) R.CYC_PI_VALUE v]
    unfold State.rg64
    simp (disch := decide) only [State.rg_setRg_other]
  · simp (disch := decide) only [State.rg_setRg_other, State.rg_setRg]
  · simp (disch := decide) only [State.rg_setRg_other, State.rg_setRg]
  · simp (disch := decide) only [State.rg_setRg_other, State.rg_setRg]

section
variable {s : State} (hon : s.onMain = true)
include hon

theorem exec_piRead_shows : ∃ t, exec .piRead s = .next t ∧ t.rg64 (pCYC 0) R.CYC_PI_VALUE = (s.pt s.piIndex).value % 2 ^ 64 ∧
    t.rg (pCYC 0) R.CYC_PI_QUAL = w32 (s.pt s.piIndex).qual ∧ t.rg (pCYC 0) R.CYC_PI_STAMP = w32 (s.pt s.piIndex).stamp ∧
    t.rg (pCYC 0) R.CYC_PI_ID = w32 (s.dirAt s.piIndex).1 ∧ t.rg (pCYC 0) R.CYC_PI_HASH = w32 (s.dirAt s.piIndex).2 ∧
    t = { s with regs := t.regs, hdrs := t.hdrs } := by
  obtain ⟨w, -, -, hexec⟩ := actReg_eff (p := pCYC 0) (f := State.piRead) hon
  rw [show ({ s with hdrs := w } : State).piRead = ({ s with hdrs := w } : State).showPoint (s.pt s.piIndex).value (s.pt s.piIndex).qual
    (s.pt s.piIndex).stamp (s.dirAt s.piIndex).1 (s.dirAt s.piIndex).2 from rfl] at hexec
  obtain ⟨⟨hv, hq, hst, hi, hh⟩, hr⟩ := ({ s with hdrs := w } : State).pointShown_showPoint (s.pt s.piIndex).value (s.pt s.piIndex).qual
    (s.pt s.piIndex).stamp (s.dirAt s.piIndex).1 (s.dirAt s.piIndex).2
  generalize State.showPoint _ _ _ _ _ _ = t at *
  refine ⟨_, (exec_piRead s).trans hexec, hv, hq, hst, hi, hh, ?_⟩
  rw [hr]

theorem exec_piWrite_stages (keep : Bool) (hr : s.inRange (some 0) s.piIndex = true) (hq : (s.inst 0).wrote < s.iQuota 0) :
    ∃ t, exec (.piWrite keep) s = .next t ∧
      t.cyc.pfStage = s.cyc.pfStage ++ [(s.cycNow, s.piIndex,
        ⟨s.rg64 (pCYC 0) R.CYC_PI_VALUE, (s.rg (pCYC 0) R.CYC_PI_QUAL).toNat,
          if keep then (s.rg (pCYC 0) R.CYC_PI_STAMP).toNat else shortOf (tickStartNs s.cycNow)⟩)] ∧
      (t.inst 0).wrote = (s.inst 0).wrote + 1 ∧
      t = { s with cyc := { s.cyc with insts := t.cyc.insts, pfStage := t.cyc.pfStage }, hdrs := t.hdrs } := by
  obtain ⟨w, -, -, hexec⟩ := actReg_eff (p := pCYC 0) (f := fun s => s.piWrite keep) hon
  have hmay (x : State) (h : x.inRange (some 0) s.piIndex = true) (h' : (x.inst 0).wrote < x.iQuota 0) :
      x.mayWrite 0 s.piIndex = (true, x.updInst 0 fun y => { y with wrote := y.wrote + 1 }) := by
    rw [State.mayWrite, h, Bool.not_true, if_neg (by decide), if_neg (by omega)]
  have heff : ({ s with hdrs := w } : State).piWrite keep = ({ s with hdrs := w }.updInst 0 fun y => { y with wrote := y.wrote + 1 }).updCyc
      fun c => { c with pfStage := c.pfStage ++ [(s.cycNow, s.piIndex,
        (⟨s.rg64 (pCYC 0) R.CYC_PI_VALUE, (s.rg (pCYC 0) R.CYC_PI_QUAL).toNat,
          if keep then (s.rg (pCYC 0) R.CYC_PI_STAMP).toNat else shortOf (tickStartNs s.cycNow)⟩ : Point))] } := by
    unfold State.piWrite
    rw [show ({ s with hdrs := w } : State).mayWrite 0 ({ s with hdrs := w } : State).piIndex = _ from hmay { s with hdrs := w } hr hq]
    rfl
  rw [heff] at hexec
  exact ⟨_, (exec_piWrite keep s).trans hexec, rfl, congrArg Inst.wrote (s.inst_setInst 0 _), rfl⟩

theorem exec_piDirectory_sets (h : s.inRange none s.piIndex = false) : ∃ t, exec .piDirectoryWrite s = .next t ∧
    t.dirAt s.piIndex = ((s.rg (pCYC 0) R.CYC_PI_ID).toNat, (s.rg (pCYC 0) R.CYC_PI_HASH).toNat) ∧
    (∀ q, q ≠ s.piIndex → t.dirAt q = s.dirAt q) ∧ t = { s with dir := t.dir, hdrs := t.hdrs } := by
  obtain ⟨w, -, -, hexec⟩ := actReg_eff (p := pCYC 0) (f := State.piDir) hon
  have heff : ({ s with hdrs := w } : State).piDir =
      { s with hdrs := w }.setDir s.piIndex ((s.rg (pCYC 0) R.CYC_PI_ID).toNat, (s.rg (pCYC 0) R.CYC_PI_HASH).toNat) :=
    if_neg (show ¬s.inRange none s.piIndex = true by rw [h]; decide)
  rw [heff] at hexec
  exact ⟨_, (exec_piDirectoryWrite s).trans hexec, s.dirAt_setDir _ _, fun q hq => s.dirAt_setDir_other _ _ _ hq, rfl⟩

theorem exec_piDirectory_refused (h : s.inRange none s.piIndex = true) : ∃ t, exec .piDirectoryWrite s = .next t ∧
    (t.hd (pCYC 0)).errCode = w32 (R.CYC_PI_CMD * 256 + 0x46) ∧ s.Quiet [pCYC 0] t := by
  refine actReg_refuses hon (by decide) ?_
  obtain ⟨w, hw⟩ := s.touch_eq (pCYC 0)
  rw [hw]
  exact if_pos h

end

/-! ### Commands of an instance -/

section
variable {s : State} (hon : s.onMain = true) {i : Nat}
include hon

theorem exec_inst_sets {c : Instr} {f : State → State} {x : Inst} (hc : exec c s = actReg State.onMain (pCYC 0) f s)
    (hf : ∀ w, (∀ q, ({ s with hdrs := w } : State).unusable q = s.unusable q) →
      f { s with hdrs := w } = ({ s with hdrs := w } : State).setInst i x) :
    ∃ t, exec c s = .next t ∧ t.inst i = x ∧ (∀ k, k ≠ i → t.inst k = s.inst k) ∧
      t = { s with cyc := { s.cyc with insts := t.cyc.insts }, hdrs := t.hdrs } := by
  obtain ⟨w, hw, -, hexec⟩ := actReg_eff (p := pCYC 0) (f := f) hon
  rw [hf w hw] at hexec
  exact ⟨_, hc.trans hexec, s.inst_setInst i x, fun k hk => s.inst_setInst_other _ _ x hk, rfl⟩

theorem exec_inst_refused {c : Instr} {f : State → State} {e : Nat} (hc : exec c s = actReg State.onMain (pCYC 0) f s)
    (hf : ∀ w, f { s with hdrs := w } = ({ s with hdrs := w } : State).refuse (pCYC 0) R.CYC_INST_CMD e) :
    ∃ t, exec c s = .next t ∧ (t.hd (pCYC 0)).errCode = w32 (R.CYC_INST_CMD * 256 + e) ∧ s.Quiet [pCYC 0] t := by
  rw [hc]
  refine actReg_refuses hon (by decide) ?_
  obtain ⟨w, hw⟩ := s.touch_eq (pCYC 0)
  rw [hw]
  exact hf w

end

/-- Settles O33: each access acts on the point or the instance it names, or is refused. -/
theorem pointAccessAndInstances : Obligations.PointAccessAndInstances := by
  unfold Obligations.PointAccessAndInstances
  intro s hon
  refine ⟨exec_piRead_shows hon, exec_piWrite_stages hon, exec_piDirectory_sets hon, exec_piDirectory_refused hon,
    fun i ha h0 hu hun hc => ?_, fun i ha h0 => ⟨?_, ?_⟩, fun i ha h0 hn => ?_, fun i ha h2 hun => ?_, fun i ha => ?_, fun i ha h2 => ?_⟩
  · refine exec_inst_sets hon (exec_instStart i s) fun w hw => ?_
    exact (if_neg (show ¬s.absent (0x140 + i) = true by simp [ha])).trans <|
      (if_neg (show ¬((s.inst i).state ≠ 0 || !iUsed (s.iw i 0)) = true by simp [h0, hu])).trans <|
      (if_neg (by rw [hw]; exact Bool.eq_false_iff.1 hun)).trans <| by
        rw [show ({ s with hdrs := w } : State).instCheck i = none from hc]
        rfl
  · refine exec_inst_refused hon (exec_instStart i s) fun w => ?_
    exact (if_neg (show ¬s.absent (0x140 + i) = true by simp [ha])).trans <|
      if_pos (show ((s.inst i).state ≠ 0 || !iUsed (s.iw i 0)) = true by simp [h0])
  · refine exec_inst_sets hon (exec_instStop i s) fun w _ => ?_
    exact (if_neg (show ¬s.absent (0x140 + i) = true by simp [ha])).trans <|
      (if_neg (show ¬((s.inst i).state = 0 && (s.inst i).startNs.isNone) = true by simp [h0])).trans <| if_neg h0
  · refine exec_inst_refused hon (exec_instStop i s) fun w => ?_
    exact (if_neg (show ¬s.absent (0x140 + i) = true by simp [ha])).trans <|
      if_pos (show ((s.inst i).state = 0 && (s.inst i).startNs.isNone) = true by simp [h0, hn])
  · refine exec_inst_sets hon (exec_restart i s) fun w hw => ?_
    exact (if_neg (show ¬s.absent (0x140 + i) = true by simp [ha])).trans <|
      (if_neg (show ¬(s.inst i).state ≠ 2 by simp [h2])).trans <| if_neg (by rw [hw]; exact Bool.eq_false_iff.1 hun)
  · exact exec_inst_refused hon (exec_instStart i s) fun w => if_pos ha
  · refine exec_inst_refused hon (exec_restart i s) fun w => ?_
    exact (if_neg (show ¬s.absent (0x140 + i) = true by simp [ha])).trans (if_pos h2)

end Sys2Proof.Machine
end

section
/-!
PROOFS. The states of an on-line change and the switch of the bank (R204, R205, R206, R210).
-/
namespace Sys2Proof.Machine
open Sys2Proof

/-! ### Bits of a command word -/

theorem bit_setBit_other (w : Word) {i k : Nat} (b : Bool) (hk : k < 32) (h : k ≠ i) : bit (setBit w i b) k = bit w k := by
  have hmod : ∀ n : Nat, (n % 2 ^ 32).testBit k = n.testBit k := fun n => by
    rw [Nat.testBit_mod_two_pow, decide_eq_true hk, Bool.true_and]
  have hmask : (0xFFFFFFFF : Nat).testBit k = true := by
    rw [show (0xFFFFFFFF : Nat) = 2 ^ 32 - 1 from rfl, Nat.testBit_two_pow_sub_one, decide_eq_true hk]
  have hone (n : Nat) (hn : n < 2) : (n <<< i).testBit k = false := by
    rw [Nat.testBit_shiftLeft, Bool.and_eq_false_iff]
    by_cases hik : i ≤ k
    · refine .inr (Nat.testBit_lt_two_pow (hn.trans_le ?_))
      exact Nat.le_self_pow (by omega) 2
    · exact .inl (decide_eq_false hik)
  have hlast := hone (b2n b % 2 ^ 1) (Nat.mod_lt _ (by decide))
  rw [bit, setBit, setFld, w32, BitVec.toNat_ofNat, hmod, Nat.testBit_or, Nat.testBit_and, Nat.testBit_xor, hmask, hone _ (by decide),
    hlast, Bool.xor_false, Bool.and_true, Bool.or_false, bit]

theorem bit_of_fld_zero {v : Word} {lo n k : Nat} (h : fld v lo n = 0) (hk : k < n) : bit v (lo + k) = false := by
  have ht : (fld v lo n).testBit k = bit v (lo + k) := by
    rw [fld, Nat.testBit_mod_two_pow, decide_eq_true hk, Bool.true_and, Nat.testBit_shiftRight, bit]
  rw [← ht, h, Nat.zero_testBit]

/-! ### The change in progress -/

/-- A command of the on-line change that sets its state. -/
theorem exec_olc_sets {s : State} (hon : s.onMain = true) {c : Instr} {f : State → State} {x : Olc}
    (hc : exec c s = actReg State.onMain (pCYC 0) f s)
    (hf : ∀ w, f { s with hdrs := w } = ({ s with hdrs := w } : State).updOlc fun _ => x) :
    ∃ t, exec c s = .next t ∧ t.cyc.olc = x ∧ t = { s with cyc := { s.cyc with olc := t.cyc.olc }, hdrs := t.hdrs } := by
  obtain ⟨w, -, -, hexec⟩ := actReg_eff (p := pCYC 0) (f := f) hon
  rw [hf w] at hexec
  exact ⟨_, hc.trans hexec, rfl, rfl⟩

theorem exec_olc_refused {s : State} (hon : s.onMain = true) {c : Instr} {f : State → State} {e : Nat}
    (hc : exec c s = actReg State.onMain (pCYC 0) f s)
    (hf : ∀ w, f { s with hdrs := w } = ({ s with hdrs := w } : State).refuse (pCYC 0) R.CYC_OLC_CMD e) :
    ∃ t, exec c s = .next t ∧ (t.hd (pCYC 0)).errCode = w32 (R.CYC_OLC_CMD * 256 + e) ∧ s.Quiet [pCYC 0] t := by
  rw [hc]
  refine actReg_refuses hon (by decide) ?_
  obtain ⟨w, hw⟩ := s.touch_eq (pCYC 0)
  rw [hw]
  exact hf w

/-- CYC_OLC_CMD with PREPARE alone. -/
theorem State.olcCmd_prepare (s : State) {v : Word} (h : fld v 1 3 = 0) : s.olcCmd (setBit v 0 true) = s.olcPrepare := by
  have hbit (k : Nat) (hk : k < 3) : bit (setBit v 0 true) (1 + k) = false := by
    rw [bit_setBit_other _ _ (by omega) (by omega), bit_of_fld_zero h hk]
  unfold State.olcCmd
  rw [bit_setBit_same _ (by decide), show bit (setBit v 0 true) 1 = false from hbit 0 (by decide),
    show bit (setBit v 0 true) 2 = false from hbit 1 (by decide), show bit (setBit v 0 true) 3 = false from hbit 2 (by decide)]
  rfl

theorem State.olcPrepare_fits (s : State) {i : Nat} {o n : Bank} (hi : i = fld (s.rg (pCYC 0) R.CYC_OLC_INST) 0 6)
    (ho : o = s.bankOf i (s.inst i).bank) (hn : n = s.bankOf i (!(s.inst i).bank)) (ha : s.absent (0x140 + i) = false)
    (hol : o.syms.length ≤ 65536) (hnl : n.syms.length ≤ 65536) (hoo : symOrdered o.syms = true) (hno : symOrdered n.syms = true)
    (hst : s.cyc.olc.state = 0 ∨ s.cyc.olc.state = 5) (hr : (s.inst i).state = 1) (hc : carryBytes o n ≤ 2 ^ 22) :
    s.olcPrepare = s.updOlc fun _ => { state := 1, inst := i, oldB := o, newB := n } := by
  unfold State.olcPrepare
  dsimp only
  rw [← hi, ← ho, ← hn, if_neg (by simp [ha]), if_neg (by simp; omega), if_neg (by simp [hoo, hno]), if_neg (by simp; omega),
    if_neg (by simp [hr]), if_neg (by omega)]

/-! ### The end of the matching -/

/-- The registers that show the counts of R205. -/
def State.olcShow (s : State) (b : Nat) (c : Nat × Nat × Nat × Nat) : State :=
  ((((s.setRg (pCYC 0) R.CYC_OLC_CARRY (w32 b)).setRg (pCYC 0) R.CYC_OLC_N_CARRIED (w32 c.1)).setRg (pCYC 0)
    (R.CYC_OLC_N_CARRIED + 4) (w32 c.2.1)).setRg (pCYC 0) (R.CYC_OLC_N_CARRIED + 8) (w32 c.2.2.1)).setRg (pCYC 0)
    (R.CYC_OLC_N_CARRIED + 12) (w32 c.2.2.2)

theorem State.olcShow_spec (s : State) (b : Nat) (c : Nat × Nat × Nat × Nat) :
    (s.olcShow b c).rg (pCYC 0) R.CYC_OLC_CARRY = w32 b ∧ (s.olcShow b c).rg (pCYC 0) R.CYC_OLC_N_CARRIED = w32 c.1 ∧
    (s.olcShow b c).rg (pCYC 0) (R.CYC_OLC_N_CARRIED + 4) = w32 c.2.1 ∧ (s.olcShow b c).rg (pCYC 0) (R.CYC_OLC_N_CARRIED + 8) = w32 c.2.2.1 ∧
    (s.olcShow b c).rg (pCYC 0) (R.CYC_OLC_N_CARRIED + 12) = w32 c.2.2.2 ∧ s.olcShow b c = { s with regs := (s.olcShow b c).regs } := by
  have hregs : s.RegsOnly (s.olcShow b c) := (((((State.RegsOnly.refl s).setRg _ _ _).setRg _ _ _).setRg _ _ _).setRg _ _ _).setRg _ _ _
  refine ⟨?_, ?_, ?_, ?_, State.rg_setRg _ _ _ _, hregs⟩
  all_goals
    unfold State.olcShow
    simp (disch := decide) only [State.rg_setRg_other, State.rg_setRg]

theorem State.olcPrepared_eq (s : State) {x : Olc} (hx : s.cyc.olc = x) (h1 : x.state = 1) : s.olcPrepared =
    (s.olcShow (carryBytes x.oldB x.newB) (olcCounts x.oldB x.newB)).updOlc fun x =>
      { x with state := 2, extended := decide (2 ^ 18 < carryBytes x.oldB x.newB) } := by
  subst hx
  exact if_neg (by rw [h1]; decide)

/-! ### The switch -/

theorem State.olcEdges_none (s : State) (h : s.cyc.olc.newB.syms = []) : s.olcEdges = s := by
  unfold State.olcEdges
  dsimp only
  rw [h]
  rfl

theorem State.olcDir_none (s : State) (ho : s.cyc.olc.oldB.points = []) (hn : s.cyc.olc.newB.points = []) (hf : s.cyc.forces = []) :
    s.olcDir = s := by
  unfold State.olcDir
  dsimp only
  rw [ho, hn]
  show List.foldl _ (List.foldl _ s (s.cyc.forces.filter _)) (((s.cyc.forces).filter _).map _) = s
  rw [hf]
  rfl

theorem State.olcSwitch_eq (s : State) {i : Nat} (hi : s.cyc.olc.inst = i) (hs : s.cyc.olc.newB.syms = []) (ho : s.cyc.olc.oldB.points = [])
    (hn : s.cyc.olc.newB.points = []) (hf : s.cyc.forces = []) : ∃ body, s.olcSwitch =
      (((((s.updInst i fun x => { x with bank := !x.bank, heldCyc := false }).updOlc fun x => { x with state := 5 }).bump (pCYC 0)
        R.CYC_CNT_OLC).irq (pCYC 0) 8).deck (pCYC 0) 5 1 body) := by
  unfold State.olcSwitch
  dsimp only
  rw [hi, s.olcEdges_none hs, s.olcDir_none ho hn hf]
  exact ⟨_, rfl⟩

/-- An event record beside a quiet step. -/
theorem State.Quiet.withEvr {ps : List Nat} {s t : State} (h : s.Quiet ps t) (e : Evr) :
    ({ s with evr := e } : State).Quiet ps { t with evr := e } :=
  h.over (congrArg (fun x : State => { x with evr := e }) h.rest) rfl rfl rfl rfl

/-- Settles O34: each command moves the on-line change as its state allows, and the held cycle's end switches the bank. -/
theorem onLineChange : Obligations.OnLineChange := by
  unfold Obligations.OnLineChange
  intro s hon
  refine ⟨fun i o n hi ho hn ha hol hnl hoo hno hst hr hc m v hm hv => ?_, fun x hx h1 => ?_, fun k hk h2 => ⟨fun h => ?_, fun h => ?_⟩, fun h => ?_,
    fun h => ?_, fun h => ?_, fun i hi h4 hk ht hs ho hn hf => ?_, fun h => ?_⟩
  · refine exec_olc_sets hon (exec_prepare_olcCmd m v s hm) fun w => ?_
    rw [State.olcCmd_prepare _ hv]
    exact State.olcPrepare_fits { s with hdrs := w } hi ho hn ha hol hnl hoo hno hst hr hc
  · obtain ⟨u, hu, hexec⟩ := act_next (f := State.olcPrepared) hon
    rw [State.olcPrepared_eq s hx h1] at hu
    obtain ⟨hb, h0, h4, h8, h12, hr⟩ := s.olcShow_spec (carryBytes x.oldB x.newB) (olcCounts x.oldB x.newB)
    generalize s.olcShow _ _ = a at *
    subst hu
    have hcyc : a.cyc.olc = x := by rw [hr, ← hx]
    refine ⟨_, (exec_prepareDone s).trans hexec, ?_, hb, h0, h4, h8, h12, ?_⟩
    · rw [← hcyc]; rfl
    · rw [hr]; rfl
  · refine exec_olc_sets hon (exec_arm s) fun w => ?_
    exact (if_neg (show ¬s.cyc.olc.state ≠ 2 by omega)).trans <| (if_neg (show ¬(s.untag (s.rg (pCYC 0) R.CYC_OLC_TAG) ≤ s.cycNow ||
      (s.untag (s.rg (pCYC 0) R.CYC_OLC_TAG) = s.cycNow + 1 && s.cyc.kerfDone)) = true by
        rw [hk]; obtain h | ⟨h, hd⟩ := h
        · simp; omega
        · simp [h, hd])).trans (by rw [← hk]; rfl)
  · refine exec_olc_refused hon (exec_arm s) fun w => ?_
    exact (if_neg (show ¬s.cyc.olc.state ≠ 2 by omega)).trans <| if_pos (show (s.untag (s.rg (pCYC 0) R.CYC_OLC_TAG) ≤ s.cycNow ||
      (s.untag (s.rg (pCYC 0) R.CYC_OLC_TAG) = s.cycNow + 1 && s.cyc.kerfDone)) = true by
        rw [hk]; obtain h | ⟨h, hd⟩ := h
        · simp [h]
        · simp [h, hd])
  · obtain ⟨t, hexec, hx, ht⟩ := exec_olc_sets hon (exec_abort s) (x := {}) fun w => if_pos (by simpa using h)
    exact ⟨t, hexec, by rwa [hx] at ht⟩
  · obtain ⟨t, hexec, hx, ht⟩ := exec_olc_sets hon (exec_olcRelease s) (x := {}) fun w => if_pos h
    exact ⟨t, hexec, by rwa [hx] at ht⟩
  · exact exec_olc_refused hon (exec_olcRelease s) fun w => if_neg h
  · obtain ⟨u, hu, hexec⟩ := act_next (f := State.olcHeldEnd) hon
    obtain ⟨v, hv⟩ := s.olcSwitch_eq hi hs ho hn hf
    rw [State.olcHeldEnd, if_pos (by simp [h4, hk, ht]), hv] at hu
    have hx := s.inst_setInst i { s.inst i with bank := !(s.inst i).bank, heldCyc := false }
    have hxo (k : Nat) (hk : k ≠ i) := s.inst_setInst_other _ _ { s.inst i with bank := !(s.inst i).bank, heldCyc := false } hk
    obtain ⟨a, ha⟩ : ∃ a : State, a = (s.updInst i fun x => { x with bank := !x.bank, heldCyc := false }).updOlc fun x => { x with state := 5 } :=
      ⟨_, rfl⟩
    rw [← ha] at hu
    obtain ⟨hq, hb, hcn⟩ := a.bump_irq_spec (pCYC 0) (o := R.CYC_CNT_OLC) (i := 8) (by decide) (by decide)
    generalize (a.bump (pCYC 0) R.CYC_CNT_OLC).irq (pCYC 0) 8 = b at *
    have hcyc : u.cyc = a.cyc := by rw [hu]; exact hq.cyc
    have hevr : b.evr = s.evr := hq.evr.trans (by rw [ha]; rfl)
    have hinst (k : Nat) : u.inst k = a.inst k := by rw [State.inst, hcyc, ← State.inst]
    refine ⟨_, b.mkRec (pCYC 0) 5 1 v, (exec_olcHeldCycleEnd s).trans hexec, (hinst i).trans (by rw [ha]; exact hx),
      fun k hk => (hinst k).trans (by rw [ha]; exact hxo k hk), (congrArg Cyc.olc hcyc).trans (by rw [ha]; rfl), ?_,
      (show bit (u.hd (pCYC 0)).irqStatus 8 = true by rw [hu]; exact hb), ?_, rfl, rfl, ?_⟩
    · have hca : a.cn (pCYC 0) R.CYC_CNT_OLC = s.cn (pCYC 0) R.CYC_CNT_OLC := by rw [ha]; rfl
      rw [← hca, ← hcn]
      exact (show u.cnts = b.cnts by rw [hu]; rfl) ▸ rfl
    · rw [hu, ← hevr]; rfl
    · refine State.Quiet.pend (s := { s with cyc := { s.cyc with insts := u.cyc.insts, olc := u.cyc.olc }, evr := u.evr }) ?_
      have hqe := hq.withEvr u.evr
      have hrest : a = { s with cyc := { s.cyc with insts := a.cyc.insts, olc := a.cyc.olc } } := by rw [ha]; rfl
      rw [show { b with evr := u.evr } = u from by rw [hu]; rfl, hrest] at hqe
      rw [hcyc]
      exact hqe
  · rw [exec_olcHeldCycleEnd]
    exact act_same (if_neg (by simp; omega))

end Sys2Proof.Machine
end

section
/-!
PROOFS. Windows open and close, activations end, writes are staged or discarded (R187 to R190, R196).
-/
namespace Sys2Proof.Machine
open Sys2Proof

/-! ### Damage and vectors that are not there -/

section
variable {s : State} (hf : s.flips = []) (hp : s.poison = [])
include hf hp

theorem State.spoilt_clean (a : Nat) : s.spoilt a = false := by simp [State.spoilt, hf, hp]

theorem State.readAt_clean (as : List Nat) (r i : Nat) : s.readAt as r i = s := by simp [State.readAt, hf, hp]

theorem State.taskReads_clean (i : Nat) (reads : List Nat) : s.taskReads i reads = s := by
  have hany : reads.any s.spoilt = false := List.any_eq_false.2 fun a _ => by simp [State.spoilt_clean hf hp]
  simp [State.taskReads, State.readAt_clean hf hp, hany]

end

theorem State.windowVecs_none {s : State} {i : Nat} (h : ∀ v ∈ s.vecs, v.2.owner = i → v.2.pending = false) : s.windowVecs i = s := by
  have hnone : s.vecs.filter (fun v => v.2.target == 2 && v.2.owner == i && v.2.pending && !v.2.mask) = [] := by
    refine List.filter_eq_nil_iff.2 fun v hv hc => ?_
    simp only [Bool.and_eq_true, beq_iff_eq] at hc
    obtain ⟨⟨⟨-, ho⟩, hpend⟩, -⟩ := hc
    rw [h v hv ho] at hpend
    cases hpend
  rw [State.windowVecs, hnone]
  rfl

/-- Counting nothing raises nothing. -/
theorem State.bumpBy_zero (s : State) (p o : Nat) : s.bumpBy p o 0 = { s with cnts := sset 0 (ka p o) (min (cntMax p o) (s.cn p o)) s.cnts } := by
  refine if_neg ?_
  simp only [Nat.add_zero, Bool.and_eq_true, decide_eq_true_eq, beq_iff_eq]
  omega

/-! ### An instance's row -/

/-- Steps that change no row but those of instances. -/
def State.InstsOnly (s t : State) : Prop := t = { s with cyc := { s.cyc with insts := t.cyc.insts } }

theorem State.InstsOnly.setInst {s t : State} (h : s.InstsOnly t) (i : Nat) (x : Inst) : s.InstsOnly (t.setInst i x) := by
  unfold State.InstsOnly at *
  dsimp only [State.setInst, State.updCyc]
  generalize sset _ _ _ t.cyc.insts = l
  exact congrArg (fun y : State => { y with cyc := { y.cyc with insts := l } }) h

/-- A step that sets one instance, beside quiet changes of pages. -/
structure State.InstSet (ps : List Nat) (i : Nat) (x : Inst) (s t : State) : Prop where
  inst : t.inst i = x
  other : ∀ k, k ≠ i → t.inst k = s.inst k
  quiet : ({ s with cyc := { s.cyc with insts := t.cyc.insts } } : State).Quiet ps t

theorem State.instSet (ps : List Nat) (s : State) (i : Nat) (x : Inst) : s.InstSet ps i x (s.setInst i x) :=
  ⟨s.inst_setInst i x, fun _ hk => s.inst_setInst_other _ _ x hk, .refl _ _⟩

theorem State.InstSet.then {ps : List Nat} {i : Nat} {x : Inst} {s t u : State} (h : s.InstSet ps i x t) (hq : t.Quiet ps u) :
    s.InstSet ps i x u where
  inst := by rw [State.inst, hq.cyc]; exact h.inst
  other k := by rw [State.inst, hq.cyc]; exact h.other k
  quiet := by rw [hq.cyc]; exact h.quiet.trans hq

theorem State.Quiet.instSet {ps : List Nat} {s t : State} (h : s.Quiet ps t) (i : Nat) (x : Inst) : s.InstSet ps i x (t.setInst i x) where
  inst := t.inst_setInst i x
  other _ hk := (t.inst_setInst_other _ _ x hk).trans (by rw [State.inst, h.cyc, ← State.inst])
  quiet := by
    have hc : (t.setInst i x).cyc = { s.cyc with insts := sset {} i x s.cyc.insts } := by rw [← h.cyc]; rfl
    refine h.over ?_ rfl rfl rfl rfl
    rw [hc, show t.setInst i x = { t with cyc := (t.setInst i x).cyc } from rfl, hc]
    exact congrArg (fun y : State => { y with cyc := { s.cyc with insts := sset {} i x s.cyc.insts } }) h.rest

theorem State.InstSet.pend {ps : List Nat} {i : Nat} {x : Inst} {s t : State} (h : s.InstSet ps i x t) :
    s.InstSet ps i x { t with pending := s.pending } :=
  ⟨h.inst, h.other, h.quiet.pend⟩

/-! ### Windows -/

/-- The activations a window of a running instance opens with when none is left over (R189). -/
theorem State.winActs_fresh (s : State) (i : Nat) {x : Inst} (h1 : x.state = 1) (ha : x.acts = []) :
    s.winActs i x false = ((List.range 7).filter (fun c => s.due i c s.cycNow) ++ if s.clsEn i 7 then [7] else []).map
      (fun c => ({ cls := c, cyc := s.cycNow } : Act)) := by
  have hnew (c : Nat) : x.busy c = false := by rw [Inst.busy, ha]; rfl
  unfold State.winActs
  simp only [hnew, ha, h1, Bool.false_eq_true, if_false, List.append_nil, List.nil_append, List.map_append,
    show ¬(1 : Nat) = 2 by decide]
  refine congr (congrArg _ List.map_eq_flatMap.symm) ?_
  split <;> rfl

theorem State.winOpen_fresh (s : State) {i : Nat} (hw : s.inWindows = true) (hi : i < 64) (hu : iUsed (s.iw i 0) = true)
    (h1 : (s.inst i).state = 1) (h0 : (s.inst i).window = 0) (hh : (s.inst i).heldCyc = false) (hc : (s.inst i).causes = 0)
    (ha : (s.inst i).acts = []) (hst : s.winStart i ≤ s.ns) (hun : s.unusable (pCYC (iPair (s.iw i 0))) = false) :
    ∃ e n, s.winOpen i =
      let t := s.setInst i { s.inst i with window := 1, errOnce := e, acts := s.winActs i (s.inst i) false, cntSkip := n }
      if iPair (s.iw i 0) = 0 then t else t.bumpBy (pCYC (iPair (s.iw i 0))) R.CYCP_CNT_SKIPPED_ACT 0 := by
  have hb (c : Nat) : (s.inst i).busy c = false := by rw [Inst.busy, ha]; rfl
  unfold State.winOpen
  simp only [hw, hu, h1, h0, hh, hc, hun, hst, hi, hb, decide_true, Bool.and_self, Bool.true_or, Bool.not_false, Bool.not_true,
    Bool.false_eq_true, if_false, bne_self_eq_false, Bool.false_and, Bool.and_false, List.filter_false, List.length_nil, b2n, if_true, Nat.add_zero]
  exact ⟨_, _, rfl⟩

section
variable {i : Nat} {s : State} (hon : s.onMain = true)
include hon

theorem exec_windowStart_opens (reads : List Nat) (hw : s.inWindows = true) (hi : i < 64) (huse : iUsed (s.iw i 0) = true)
    (h1 : (s.inst i).state = 1) (h0 : (s.inst i).window = 0) (hh : (s.inst i).heldCyc = false) (hc : (s.inst i).causes = 0)
    (ha : (s.inst i).acts = []) (hst : s.winStart i ≤ s.ns) (hun : s.unusable (pCYC (iPair (s.iw i 0))) = false) (hf : s.flips = [])
    (hp : s.poison = []) (hv : ∀ v ∈ s.vecs, v.2.owner = i → v.2.pending = false) :
    ∃ t x, exec (.windowStart ⟨i, reads⟩) s = .next t ∧ x.window = 1 ∧ x.state = 1 ∧
      x.acts = ((List.range 7).filter (fun c => s.due i c s.cycNow) ++ if s.clsEn i 7 then [7] else []).map
        (fun c => ({ cls := c, cyc := s.cycNow } : Act)) ∧ s.InstSet [pCYC (iPair (s.iw i 0))] i x t := by
  obtain ⟨u, hu, hexec⟩ := act_next (f := fun s => let t := s.winOpen i
    if (s.inst i).window = 0 && (t.inst i).window = 1 then (t.windowVecs i).taskReads i reads else t) hon
  obtain ⟨e, n, hopen⟩ := s.winOpen_fresh hw hi huse h1 h0 hh hc ha hst hun
  dsimp only at hu hopen
  have hacts := s.winActs_fresh i h1 ha
  have hset := s.instSet [pCYC (iPair (s.iw i 0))] i
    { s.inst i with window := 1, errOnce := e, acts := s.winActs i (s.inst i) false, cntSkip := n }
  have hrows (t : State) (x : Inst) : (t.setInst i x).flips = t.flips ∧ (t.setInst i x).poison = t.poison ∧ (t.setInst i x).vecs = t.vecs := ⟨rfl, rfl, rfl⟩
  obtain ⟨haf, hap, hav⟩ := hrows s { s.inst i with window := 1, errOnce := e, acts := s.winActs i (s.inst i) false, cntSkip := n }
  generalize s.setInst i _ = a at *
  have hq : a.Quiet [pCYC (iPair (s.iw i 0))] (s.winOpen i) ∧ (s.winOpen i).vecs = a.vecs := by
    rw [hopen]
    split
    · exact ⟨.refl _ _, rfl⟩
    · exact ⟨(State.Quiet.refl _ a).bumpBy (by simp) _ _ (by decide), by rw [State.bumpBy_zero]⟩
  obtain ⟨hq, hvec⟩ := hq
  generalize s.winOpen i = w at *
  have hset := hset.then hq
  rw [State.windowVecs_none (by rw [hvec, hav]; exact hv), State.taskReads_clean (hq.flips.trans (haf.trans hf)) (hq.poison.trans (hap.trans hp)),
    ite_self] at hu
  subst hu
  exact ⟨_, { s.inst i with window := 1, errOnce := e, acts := s.winActs i (s.inst i) false, cntSkip := n }, (exec_windowStart ⟨i, reads⟩ s).trans hexec, rfl, h1, hacts, hset.pend⟩

theorem exec_windowEnd_closes (hw : s.inWindows = true) (h1 : (s.inst i).window = 1) (hend : s.winStart i + s.iBudget i ≤ s.ns) :
    ∃ t, exec (.windowEnd i) s = .next t ∧ s.InstSet [pCYC (iPair (s.iw i 0))] i { s.inst i with window := 2 } t ∧
      (∀ a ∈ (s.inst i).acts, a.done = false → a.cls ≠ 7 → bit (t.hd (pCYC (iPair (s.iw i 0)))).irqStatus 12 = true) := by
  obtain ⟨u, hu, hexec⟩ := act_next (f := fun s => s.winClose i) hon
  rw [State.winClose, if_neg (by simp [hw, h1, hend])] at hu
  dsimp only at hu
  have hset := s.instSet [pCYC (iPair (s.iw i 0))] i { s.inst i with window := 2 }
  have hiw : (s.setInst i { s.inst i with window := 2 }).iw i 0 = s.iw i 0 := rfl
  rw [hiw] at hu
  generalize s.setInst i { s.inst i with window := 2 } = a at *
  generalize hp : pCYC (iPair (s.iw i 0)) = p at *
  have hbump : a.Quiet [p] (if iPair (s.iw i 0) = 0 then a else a.bump p R.CYCP_CNT_BUDGET_EXCEED) := by
    split
    · exact .refl _ _
    · exact (State.Quiet.refl _ a).bump (by simp) _ (by decide)
  split at hu
  · subst hu
    exact ⟨_, (exec_windowEnd i s).trans hexec, (hset.then (hbump.irq (by simp) 12)).pend, fun _ _ _ _ => State.bit_irq _ _ (by decide)⟩
  · rename_i hno
    subst hu
    refine ⟨_, (exec_windowEnd i s).trans hexec, hset.pend, fun x hx hd h7 => absurd ?_ hno⟩
    exact List.any_eq_true.2 ⟨x, hx, by simp [hd, h7]⟩

/-! ### Activations and writes -/

theorem exec_activationEnd_ends {cls : Nat} (h : s.runsNow i cls = true) : ∃ t, exec (.activationEnd i cls) s = .next t ∧
    t.inst i = { s.inst i with acts := (s.inst i).acts.map (fun a => if a.cls = cls then { a with done := true } else a) } ∧
    (∀ k, k ≠ i → t.inst k = s.inst k) ∧ t = { s with cyc := { s.cyc with insts := t.cyc.insts } } := by
  obtain ⟨u, hu, hexec⟩ := act_next (f := fun s => s.actEnd i cls) hon
  rw [State.actEnd, if_pos h] at hu
  subst hu
  refine ⟨_, (exec_activationEnd i cls s).trans hexec, (s.inst_setInst i _).trans ?_, fun k hk => s.inst_setInst_other _ _ _ hk, rfl⟩
  simp only [beq_iff_eq]

section
variable {cls p : Nat} (v q : Nat) (keep : Option Nat) {a : Act} (hr : s.runsNow i cls = true) (hp : p < 2 ^ 20)
include hr hp

theorem exec_pointWrite_stages (ha : (s.inst i).acts = [a]) (hcls : a.cls = cls) (hd : a.done = false) (hin : s.inRange (some i) p = true)
    (hq : (s.inst i).wrote < s.iQuota i) :
    ∃ t, exec (.pointWrite i cls p v q keep) s = .next t ∧
      t.inst i = { s.inst i with
        wrote := (s.inst i).wrote + 1
        acts := [{ a with writes := a.writes ++
          [(p, ⟨v % 2 ^ 64, q % 2 ^ 32, keep.getD (shortOf (tickStartNs a.cyc)) % 2 ^ 32⟩)] }] } ∧
      (∀ k, k ≠ i → t.inst k = s.inst k) ∧ t = { s with cyc := { s.cyc with insts := t.cyc.insts } } := by
  obtain ⟨u, hu, hexec⟩ := act_next (f := fun s => s.pointWrite i cls p v q keep) hon
  have hmay : s.mayWrite i p = (true, s.updInst i fun y => { y with wrote := y.wrote + 1 }) := by
    rw [State.mayWrite, hin, Bool.not_true, if_neg (by decide), if_neg (by omega)]
  rw [State.pointWrite, if_neg (by rw [hr, decide_eq_true hp]; decide)] at hu
  dsimp only at hu
  rw [hmay, if_neg (show ¬(!true) = true by decide)] at hu
  have h1 := s.instSet [] i { s.inst i with wrote := (s.inst i).wrote + 1 }
  dsimp only [State.updInst] at hu
  rw [h1.inst] at hu
  dsimp only at hu
  rw [ha, List.map_cons, List.map_nil, if_pos (by simp [hcls, hd])] at hu
  subst hu
  refine ⟨_, (exec_pointWrite i cls p v q keep s).trans hexec, State.inst_setInst _ i _,
    fun k hk => (State.inst_setInst_other _ _ _ _ hk).trans (State.inst_setInst_other s _ _ _ hk), ?_⟩
  exact (State.InstsOnly.setInst (s := s) (t := s) rfl i _).setInst i _

theorem exec_pointWrite_denied (hin : s.inRange (some i) p = false) :
    ∃ t, exec (.pointWrite i cls p v q keep) s = .next t ∧ s.InstSet [pCYC 0] i { s.inst i with causes := (s.inst i).causes ||| 2 ^ 4 } t ∧
      t.cn (pCYC 0) R.CYC_CNT_WR_DENIED = min (cntMax (pCYC 0) R.CYC_CNT_WR_DENIED) (s.cn (pCYC 0) R.CYC_CNT_WR_DENIED + 1) := by
  obtain ⟨u, hu, hexec⟩ := act_next (f := fun s => s.pointWrite i cls p v q keep) hon
  have hmay : s.mayWrite i p = (false, (s.bump (pCYC 0) R.CYC_CNT_WR_DENIED).cause i 4) := by
    rw [State.mayWrite, hin, Bool.not_false, if_pos rfl]
  rw [State.pointWrite, if_neg (by rw [hr, decide_eq_true hp]; decide)] at hu
  dsimp only at hu
  rw [hmay, if_pos (show (!false) = true by decide)] at hu
  have hq := (State.Quiet.refl [pCYC 0] s).bump (p := pCYC 0) (by simp) R.CYC_CNT_WR_DENIED (by decide)
  have hcn := s.cn_bump (pCYC 0) R.CYC_CNT_WR_DENIED
  generalize s.bump (pCYC 0) R.CYC_CNT_WR_DENIED = b at *
  have hinst : b.inst i = s.inst i := by rw [State.inst, hq.cyc, ← State.inst]
  rw [State.cause, State.updInst, hinst] at hu
  subst hu
  exact ⟨_, (exec_pointWrite i cls p v q keep s).trans hexec, (hq.instSet i _).pend, hcn⟩

end

end

/-- Settles O32: windows, activations and writes of an instance. -/
theorem windowsAndWrites : Obligations.WindowsAndWrites := by
  unfold Obligations.WindowsAndWrites
  intro i s hon
  refine ⟨fun reads hw hi hu h1 h0 hh hc ha hst hun hf hp hv => ?_, fun reads h => ?_, fun hw h1 hend => ?_, fun h => ?_, fun cls h => ?_,
    fun cls p v q keep a hr ha hcls hd hp => ⟨fun hin hq => ?_, fun hin => ?_⟩⟩
  · obtain ⟨t, x, hexec, hx1, hx2, hx3, hset⟩ := exec_windowStart_opens hon reads hw hi hu h1 h0 hh hc ha hst hun hf hp hv
    exact ⟨t, hexec, by rw [hset.inst, hx1], by rw [hset.inst, hx2], by rw [hset.inst, hx3], hset.other, hset.quiet⟩
  · rw [exec_windowStart]
    have hopen : s.winOpen i = s := if_pos (by simp; omega)
    exact act_same (by dsimp only; rw [hopen]; exact if_neg (by simp; omega))
  · obtain ⟨t, hexec, hset, hbit⟩ := exec_windowEnd_closes hon hw h1 hend
    exact ⟨t, hexec, hset.inst, hset.other, hbit, hset.quiet⟩
  · rw [exec_windowEnd]
    exact act_same (if_pos (by simp; omega))
  · exact exec_activationEnd_ends hon h
  · exact exec_pointWrite_stages hon v q keep hr hp ha hcls hd hin hq
  · obtain ⟨t, hexec, hset, hcn⟩ := exec_pointWrite_denied hon v q keep hr hp hin
    exact ⟨t, hexec, hset.inst, hset.other, hcn, hset.quiet⟩

end Sys2Proof.Machine
end

section
/-!
PROOFS. The start of a cycle: its boundary, its view or its wait for the tokens (R182, R184, R217, R218).
-/
namespace Sys2Proof.Machine
open Sys2Proof

/-! ### The view (R184) -/

theorem State.MemRead.readAt {s t : State} (h : s.MemRead t) (as : List Nat) (r i : Nat) : s.MemRead (t.readAt as r i) := by
  unfold State.readAt
  split
  · exact h
  · exact List.foldlRecOn (motive := fun u => s.MemRead u) _ _ h fun u hu w _ => State.MemRead.readWord hu _ _ _

section
variable {s t : State} (h : s.MemRead t)
include h

theorem State.MemRead.cyc : t.cyc = s.cyc := (show State.Quiet [pMEM] _ t from h).cyc
theorem State.MemRead.tsu : t.tsu = s.tsu := (show State.Quiet [pMEM] _ t from h).tsu

end

theorem State.InstsOnly.refl (s : State) : s.InstsOnly s := rfl

theorem State.instsOnly_foldl (f : State → Nat → Inst) (l : List Nat) (s : State) :
    s.InstsOnly (l.foldl (fun s i => s.setInst i (f s i)) s) :=
  List.foldlRecOn (motive := fun t => s.InstsOnly t) l _ (.refl s) fun _ h i _ => h.setInst i _

theorem State.fixView_eq (s : State) (j : Nat) : ∃ c, (s.readAt (s.viewReads j) 1 0).InstsOnly c ∧
    s.fixView j = c.updCyc fun x => { x with
      viewed := true, waiting := false, winNs := (if x.waiting then c.ns else x.boundNs) + 2000 } := by
  unfold State.fixView
  generalize s.readAt (s.viewReads j) 1 0 = b
  exact ⟨_, State.instsOnly_foldl _ _ _, rfl⟩

/-- The cycle's own rows once its view is fixed. -/
def Cyc.viewedAt (c : Cyc) (l : List (Nat × Inst)) (ns : Nat) : Cyc :=
  { c with insts := l, viewed := true, waiting := false, winNs := (if c.waiting then ns else c.boundNs) + 2000 }

/-- The view of a cycle: instances take their inputs, the words it reads may be mended or found bad, and the windows' start is fixed. -/
theorem State.fixView_spec (s : State) (j : Nat) : ∃ b l, s.MemRead b ∧ (s.flips = [] → s.poison = [] → b = s) ∧
    s.fixView j = { b with cyc := s.cyc.viewedAt l s.ns } := by
  have hread := (State.MemRead.refl s).readAt (s.viewReads j) 1 0
  have hclean (hf : s.flips = []) (hp : s.poison = []) := State.readAt_clean hf hp (s.viewReads j) 1 0
  obtain ⟨c, hc, heq⟩ := s.fixView_eq j
  rw [heq]
  generalize s.readAt (s.viewReads j) 1 0 = b at *
  refine ⟨b, c.cyc.insts, hread, hclean, ?_⟩
  have hcyc : b.cyc = s.cyc := hread.cyc
  have hns : s.ns = c.ns := by rw [hc, State.ns, State.ns, show s.tsu = b.tsu from hread.tsu.symm]
  rw [← hcyc, hns]
  unfold State.InstsOnly at hc
  generalize c.cyc.insts = l, c.ns = n at *
  rw [hc]
  rfl

/-! ### The instances at the boundary (R219) -/

/-- Steps that change rows of instances and publications, and the directory. -/
def State.Begun (s t : State) : Prop :=
  t = { s with cyc := { s.cyc with insts := t.cyc.insts, pubs := t.cyc.pubs }, dir := t.dir }

theorem State.Begun.trans {s t u : State} (h : s.Begun t) (h' : t.Begun u) : s.Begun u := by
  unfold State.Begun at *
  rw [h] at h'
  rw [h']

theorem State.begun_setInst (s : State) (i : Nat) (x : Inst) : s.Begun (s.setInst i x) := rfl

theorem State.begun_setDirs (s : State) (l : List (Nat × Nat × Nat)) : s.Begun (s.setDirs l) := by
  unfold State.setDirs
  refine List.foldlRecOn (motive := fun t : State => s.Begun t) l _ rfl fun t h p _ => h.trans ?_
  exact (rfl : t.Begun { t with dir := sset (0, 0) p.1 (p.2.1, p.2.2) t.dir })

theorem State.begun_pubs (s : State) (f : List (Nat × GPub) → List (Nat × GPub)) : s.Begun (s.updCyc fun c => { c with pubs := f c.pubs }) := rfl

theorem State.begun_instBegin (s : State) (i b : Nat) : s.Begun (s.instBegin i b) ∧
    ((s.inst i).startNs = none → s.instBegin i b = s) := by
  unfold State.instBegin
  dsimp only
  cases h : (s.inst i).startNs with
  | none => exact ⟨rfl, fun _ => rfl⟩
  | some t =>
    refine ⟨?_, fun h => by cases h⟩
    dsimp only
    split
    · exact ((s.begun_setInst i _).trans (State.begun_setDirs _ _)).trans (State.begun_pubs _ _)
    · rfl

/-- What a boundary makes of an instance's row (R189, R191). -/
def Inst.atBoundary (x : Inst) : Inst :=
  let x := { x with window := 0, wrote := 0 }
  if x.restart then { x with state := 1, ovrRun := 0, restart := false, errOnce := false } else x

theorem Inst.startNs_atBoundary (x : Inst) : x.atBoundary.startNs = x.startNs := by
  unfold Inst.atBoundary
  dsimp only
  split <;> rfl

def State.instsBegin (s : State) (b : Nat) : State :=
  (List.range 64).foldl (fun (s : State) i => (s.updInst i Inst.atBoundary).instBegin i b) s

theorem State.begun_instsBegin (s : State) (b : Nat) : s.Begun (s.instsBegin b) ∧
    ((∀ i, (s.inst i).startNs = none) → (s.instsBegin b).dir = s.dir) := by
  unfold State.instsBegin
  suffices h : s.Begun ((List.range 64).foldl (fun (s : State) i => (s.updInst i Inst.atBoundary).instBegin i b) s) ∧
      ((∀ i, (s.inst i).startNs = none) → ((List.range 64).foldl (fun (s : State) i => (s.updInst i Inst.atBoundary).instBegin i b) s).dir = s.dir ∧
        ∀ i, (((List.range 64).foldl (fun (s : State) i => (s.updInst i Inst.atBoundary).instBegin i b) s).inst i).startNs = none) from
    ⟨h.1, fun hs => (h.2 hs).1⟩
  refine List.foldlRecOn (motive := fun t : State => s.Begun t ∧ ((∀ i, (s.inst i).startNs = none) → t.dir = s.dir ∧
    ∀ i, (t.inst i).startNs = none)) _ _ ⟨rfl, fun h => ⟨rfl, h⟩⟩ fun t h i _ => ?_
  obtain ⟨hb, hd⟩ := h
  obtain ⟨hbi, hnone⟩ := (t.updInst i Inst.atBoundary).begun_instBegin i b
  refine ⟨hb.trans ((t.begun_setInst i _).trans hbi), fun hs => ?_⟩
  obtain ⟨hdir, hst⟩ := hd hs
  have hst' (k : Nat) : ((t.updInst i Inst.atBoundary).inst k).startNs = none := by
    by_cases hk : k = i
    · subst hk
      rw [State.updInst, State.inst_setInst, Inst.startNs_atBoundary]
      exact hst _
    · rw [State.updInst, State.inst_setInst_other _ _ _ _ hk]
      exact hst _
  rw [hnone (hst' i)]
  exact ⟨hdir, hst'⟩

/-! ### The cycle's own rows (R182) -/

/-- A cycle that starts takes its tick, its boundary, and no view yet. -/
def Cyc.startedAt (c : Cyc) (j b : Nat) : Cyc :=
  { c with ticks := c.ticks.filter (fun t => j < t), cyc := some j, boundNs := b, kerfDone := false, viewed := false, waiting := false }

def Cyc.ranMark (c : Cyc) : Cyc := { c with ranTasks := c.ranTasks || c.insts.any (fun x => x.2.state == 1) }

/-- A cycle before its tokens are looked at; `n` activations were skipped. -/
def State.cycOpen (s : State) (j n : Nat) : State :=
  ((((s.bumpBy (pCYC 0) R.CYC_CNT_TICK_SKIPPED n).updCyc (fun c => c.startedAt j (s.bound j))).setRg (pCYC 0) R.CYC_CYCLE_TAG
    (tagOf j)).instsBegin (s.bound j)).updCyc Cyc.ranMark

theorem State.cycBegin_eq (s : State) (j : Nat) : ∃ n, s.cycBegin j =
    if (s.cycOpen j n).tokens j then (s.cycOpen j n).fixView j
    else (((s.cycOpen j n).updCyc fun c => { c with waiting := true }).bump (pCYC 0) R.CYC_CNT_SNAP_WAIT).irq (pCYC 0) 6 := by
  unfold State.cycBegin
  extract_lets b skipped s1 s2 s3 s4 s5
  have h5 : s5 = s.cycOpen j skipped := rfl
  rw [h5]
  exact ⟨skipped, rfl⟩

structure State.Opened (j : Nat) (s t : State) : Prop where
  cyc : t.cyc = { s.cyc.startedAt j (s.bound j) with insts := t.cyc.insts, pubs := t.cyc.pubs, ranTasks := t.cyc.ranTasks }
  tag : t.rg (pCYC 0) R.CYC_CYCLE_TAG = tagOf j
  rg : ∀ p off, ka p off ≠ ka (pCYC 0) R.CYC_CYCLE_TAG → t.rg p off = s.rg p off
  dir : (∀ i, (s.inst i).startNs = none) → t.dir = s.dir
  cn : ∀ off, off ≠ R.CYC_CNT_TICK_SKIPPED → t.cn (pCYC 0) off = s.cn (pCYC 0) off
  quiet : ({ s with cyc := t.cyc, regs := t.regs, dir := t.dir } : State).Quiet [pCYC 0] t

theorem State.opened_cycOpen (s : State) (j n : Nat) : s.Opened j (s.cycOpen j n) := by
  unfold State.cycOpen
  have hq := (State.Quiet.refl [pCYC 0] s).bumpBy (p := pCYC 0) (by simp) R.CYC_CNT_TICK_SKIPPED n (by decide)
  have hcn (off : Nat) (h : off ≠ R.CYC_CNT_TICK_SKIPPED) :=
    s.cn_bumpBy_other (pCYC 0) R.CYC_CNT_TICK_SKIPPED n (pCYC 0) off (by unfold ka; omega)
  generalize s.bumpBy (pCYC 0) R.CYC_CNT_TICK_SKIPPED n = a at *
  have htag := (a.updCyc fun c => c.startedAt j (s.bound j)).rg_setRg (pCYC 0) R.CYC_CYCLE_TAG (tagOf j)
  have hrg (p off : Nat) (h : ka p off ≠ ka (pCYC 0) R.CYC_CYCLE_TAG) :=
    (a.updCyc fun c => c.startedAt j (s.bound j)).rg_setRg_other (pCYC 0) R.CYC_CYCLE_TAG p off (tagOf j) h
  have hb : (a.updCyc fun c => c.startedAt j (s.bound j)).setRg (pCYC 0) R.CYC_CYCLE_TAG (tagOf j) = { a with
    cyc := a.cyc.startedAt j (s.bound j)
    regs := ((a.updCyc fun c => c.startedAt j (s.bound j)).setRg (pCYC 0) R.CYC_CYCLE_TAG (tagOf j)).regs } := rfl
  generalize (a.updCyc fun c => c.startedAt j (s.bound j)).setRg (pCYC 0) R.CYC_CYCLE_TAG (tagOf j) = b at *
  obtain ⟨hbeg, hdir⟩ := b.begun_instsBegin (s.bound j)
  generalize b.instsBegin (s.bound j) = c at *
  have hcyc : c.cyc = { s.cyc.startedAt j (s.bound j) with insts := c.cyc.insts, pubs := c.cyc.pubs } := by
    rw [hbeg, hb, hq.cyc]
  have hregs : c.regs = b.regs := by rw [hbeg]
  have hrest : c.updCyc Cyc.ranMark = { a with cyc := c.cyc.ranMark, regs := c.regs, dir := c.dir } := by
    rw [hregs]
    unfold State.updCyc
    rw [hbeg, hb]
  exact {
    cyc := by
      show c.cyc.ranMark = { s.cyc.startedAt j (s.bound j) with
        insts := c.cyc.insts, pubs := c.cyc.pubs, ranTasks := c.cyc.ranMark.ranTasks }
      generalize c.cyc = y at hcyc
      rw [hcyc]
      rfl
    tag := (show sget _ _ c.regs = _ by rw [hregs]; exact htag)
    rg := fun p off h => (show sget _ _ c.regs = _ by rw [hregs]; exact (hrg p off h).trans (hq.rg p off))
    dir := fun h => (hdir fun i => by
      rw [show b.inst i = s.inst i by rw [hb, State.inst, hq.cyc]; rfl]
      exact h i).trans (by rw [hb, hq.dir])
    cn := fun off h => (by rw [hrest]; exact hcn off h)
    quiet := by
      rw [hrest]
      exact hq.over (congrArg (fun x : State => { x with cyc := c.cyc.ranMark, regs := c.regs, dir := c.dir }) hq.rest) rfl rfl rfl rfl }

/-! ### Tokens (R184) -/

theorem State.Quiet.fltLive {ps : List Nat} {s t : State} (h : s.Quiet ps t) (e : Nat) : t.fltLive e = s.fltLive e := by
  simp only [State.fltLive, h.enable, h.unusable]

theorem State.tokens_congr {s t : State} (hl : ∀ e, t.fltLive e = s.fltLive e) (hf : t.flt = s.flt) (hs : t.sva = s.sva) (ht : t.tsu = s.tsu)
    (hd : t.dup = s.dup) (j : Nat) : t.tokens j = s.tokens j := by
  have hfe (e : Nat) : t.fe e = s.fe e := by rw [State.fe, hf]; rfl
  have hfin : t.isFinal j = s.isFinal j := by rw [State.isFinal, hs]; rfl
  unfold State.tokens State.fltDone
  simp only [hl, hfe, hfin, ht, hd]

theorem State.Quiet.tokens {ps : List Nat} {s t : State} (h : s.Quiet ps t) (j : Nat) : t.tokens j = s.tokens j :=
  State.tokens_congr h.fltLive h.flt h.sva h.tsu h.dup j

/-- What the start of cycle `j` leaves, once its tokens have been looked at. -/
structure State.CycleBegun (j : Nat) (s t : State) : Prop where
  cyc : t.cyc.cyc = some j
  boundNs : t.cyc.boundNs = s.bound j
  kerfDone : t.cyc.kerfDone = false
  ticks : t.cyc.ticks = s.cyc.ticks.filter (fun k => j < k)
  release : t.cyc.release = s.cyc.release
  tag : t.rg (pCYC 0) R.CYC_CYCLE_TAG = tagOf j
  rg : ∀ p off, ka p off ≠ ka (pCYC 0) R.CYC_CYCLE_TAG → t.rg p off = s.rg p off
  dir : (∀ i, (s.inst i).startNs = none) → t.dir = s.dir
  swc : t.swc = s.swc
  hwsIn : t.hwsIn = s.hwsIn
  acts : t.acts = s.acts
  dup : t.dup = s.dup
  hd : ∀ q, (t.hd q).commitPending = (s.hd q).commitPending ∧ (t.hd q).stopNs = (s.hd q).stopNs ∧ (t.hd q).enable = (s.hd q).enable
  ready : s.tokens j = true → t.cyc.viewed = true ∧ t.cyc.waiting = false ∧ t.cyc.winNs = s.bound j + 2000
  waits : s.tokens j = false → t.cyc.viewed = false ∧ t.cyc.waiting = true ∧ bit (t.hd (pCYC 0)).irqStatus 6 = true ∧
    t.cn (pCYC 0) R.CYC_CNT_SNAP_WAIT = min (cntMax (pCYC 0) R.CYC_CNT_SNAP_WAIT) (s.cn (pCYC 0) R.CYC_CNT_SNAP_WAIT + 1)
  clean : s.flips = [] → s.poison = [] → ({ s with cyc := t.cyc, regs := t.regs, dir := t.dir } : State).Quiet [pCYC 0] t

theorem State.Quiet.ctrl {ps : List Nat} {s t : State} (h : s.Quiet ps t) (q : Nat) :
    (t.hd q).commitPending = (s.hd q).commitPending ∧ (t.hd q).stopNs = (s.hd q).stopNs ∧ (t.hd q).enable = (s.hd q).enable := by
  rw [h.hdIn q]
  exact ⟨rfl, rfl, rfl⟩

section
variable {j : Nat} {s c : State} (ho : s.Opened j c)
include ho

theorem State.Opened.viewed (ht : s.tokens j = true) : s.CycleBegun j (c.fixView j) := by
  obtain ⟨b, l, hb, hclean, hv⟩ := c.fixView_spec j
  have hbq : State.Quiet [pMEM] _ b := hb
  have hcyc : (c.fixView j).cyc = c.cyc.viewedAt l c.ns := by rw [hv]
  have hboth (q : Nat) : ((c.fixView j).hd q).commitPending = (s.hd q).commitPending ∧ ((c.fixView j).hd q).stopNs = (s.hd q).stopNs ∧
      ((c.fixView j).hd q).enable = (s.hd q).enable := by
    obtain ⟨h1, h2, h3⟩ := hbq.ctrl q
    obtain ⟨g1, g2, g3⟩ := ho.quiet.ctrl q
    rw [hv]
    exact ⟨h1.trans g1, h2.trans g2, h3.trans g3⟩
  have hbound : c.cyc.boundNs = s.bound j := by rw [ho.cyc]; rfl
  have hwait : c.cyc.waiting = false := by rw [ho.cyc]; rfl
  exact {
    cyc := by rw [hcyc, Cyc.viewedAt, ho.cyc]; rfl
    boundNs := by rw [hcyc]; exact hbound
    kerfDone := by rw [hcyc, Cyc.viewedAt, ho.cyc]; rfl
    ticks := by rw [hcyc, Cyc.viewedAt, ho.cyc]; rfl
    release := by rw [hcyc, Cyc.viewedAt, ho.cyc]; rfl
    tag := by rw [hv]; exact (hbq.rg _ _).trans ho.tag
    rg := fun p off h => by rw [hv]; exact (hbq.rg p off).trans (ho.rg p off h)
    dir := fun h => by rw [hv]; exact hbq.dir.trans (ho.dir h)
    swc := by rw [hv]; exact hbq.swc.trans ho.quiet.swc
    hwsIn := by rw [hv]; exact hbq.hwsIn.trans ho.quiet.hwsIn
    acts := by rw [hv]; exact hbq.acts.trans ho.quiet.acts
    dup := by rw [hv]; exact hbq.dup.trans ho.quiet.dup
    hd := hboth
    ready := fun _ => by
      rw [hcyc]
      refine ⟨rfl, rfl, ?_⟩
      show (if c.cyc.waiting = true then c.ns else c.cyc.boundNs) + 2000 = _
      rw [hwait, hbound]
      rfl
    waits := fun h => by rw [ht] at h; cases h
    clean := fun hf hp => by
      have hbc : b = c := hclean (ho.quiet.flips.trans hf) (ho.quiet.poison.trans hp)
      rw [hbc] at hv
      have hq := ho.quiet.over (a := { s with cyc := (c.fixView j).cyc, regs := (c.fixView j).regs, dir := (c.fixView j).dir })
        (t := c.fixView j) ?_ (by rw [hv]) (by rw [hv]) rfl rfl
      · exact hq
      · rw [hv]
        exact congrArg (fun x : State => { x with cyc := c.cyc.viewedAt l c.ns }) ho.quiet.rest }

theorem State.Opened.waiting (ht : s.tokens j = false) : s.CycleBegun j
    (((c.updCyc fun c => { c with waiting := true }).bump (pCYC 0) R.CYC_CNT_SNAP_WAIT).irq (pCYC 0) 6) := by
  obtain ⟨hq, hbit, hcn⟩ := (c.updCyc fun c => { c with waiting := true }).bump_irq_spec (pCYC 0) (o := R.CYC_CNT_SNAP_WAIT) (i := 6)
    (by decide) (by decide)
  have hw : ({ s with cyc := { c.cyc with waiting := true }, regs := c.regs, dir := c.dir } : State).Quiet [pCYC 0]
      (c.updCyc fun c => { c with waiting := true }) :=
    ho.quiet.over (congrArg (fun x : State => { x with cyc := { c.cyc with waiting := true } }) ho.quiet.rest) rfl rfl rfl rfl
  have hcnc : (c.updCyc fun c => { c with waiting := true }).cn (pCYC 0) R.CYC_CNT_SNAP_WAIT = s.cn (pCYC 0) R.CYC_CNT_SNAP_WAIT :=
    ho.cn _ (by decide)
  have hwc := hw.cyc
  generalize c.updCyc (fun c => { c with waiting := true }) = d at *
  generalize (d.bump (pCYC 0) R.CYC_CNT_SNAP_WAIT).irq (pCYC 0) 6 = t at *
  have hall := hw.trans hq
  have hcyc : t.cyc = { c.cyc with waiting := true } := hall.cyc
  exact {
    cyc := by rw [hcyc, ho.cyc]; rfl
    boundNs := by rw [hcyc, ho.cyc]; rfl
    kerfDone := by rw [hcyc, ho.cyc]; rfl
    ticks := by rw [hcyc, ho.cyc]; rfl
    release := by rw [hcyc, ho.cyc]; rfl
    tag := (hall.rg _ _).trans ho.tag
    rg := fun p off h => (hall.rg p off).trans (ho.rg p off h)
    dir := fun h => hall.dir.trans (ho.dir h)
    swc := hall.swc
    hwsIn := hall.hwsIn
    acts := hall.acts
    dup := hall.dup
    hd := fun q => hall.ctrl q
    ready := fun h => by rw [ht] at h; cases h
    waits := fun _ => ⟨by rw [hcyc, ho.cyc]; rfl, by rw [hcyc], hbit, by rw [hcn, hcnc]⟩
    clean := fun _ _ => by rw [hcyc, hall.regs, hall.dir]; exact hall }

end

theorem State.Opened.tokens {j : Nat} {s c : State} (ho : s.Opened j c) (k : Nat) : c.tokens k = s.tokens k :=
  State.tokens_congr (fun e => by rw [ho.quiet.fltLive e]) ho.quiet.flt ho.quiet.sva ho.quiet.tsu ho.quiet.dup k

theorem State.cycleBegun (s : State) (j : Nat) : s.CycleBegun j (s.cycBegin j) := by
  obtain ⟨n, hn⟩ := s.cycBegin_eq j
  have ho := s.opened_cycOpen j n
  generalize s.cycOpen j n = c at *
  rw [hn, ho.tokens j]
  split
  · exact ho.viewed ‹_›
  · exact ho.waiting (Bool.eq_false_iff.2 ‹_›)

/-! ### The frames of the cycle before (R217) -/

/-- Frames of publications leave for their queue. -/
structure State.Released (n : Nat) (s t : State) : Prop where
  items : ∃ items, t.swc = { s.swc with h1q := s.swc.h1q ++ items } ∧ (s.failed = false → s.dupEn = false → items.length = n)
  cn : ∀ off, off ≠ R.CYC_CNT_PUB_SENT → t.cn (pCYC 0) off = s.cn (pCYC 0) off
  quiet : ({ s with swc := t.swc } : State).Quiet [pCYC 0] t

theorem State.mayPublish_works {s : State} (hf : s.failed = false) (he : s.dupEn = false) (n : Nat) : s.mayPublish n = true := by
  simp [State.mayPublish, hf, he]

theorem State.Quiet.dupEn {ps : List Nat} {s t : State} (h : s.Quiet ps t) : t.dupEn = s.dupEn := by
  rw [State.dupEn, h.enable, h.ac]
  rfl

/-- The frames of cycle `j` handed over one after the other. -/
def State.releaseList (s : State) (j : Nat) (rs : List (Nat × Frame)) : State :=
  rs.foldl (fun s r =>
    if !s.mayPublish r.1 then s
    else
      let item : H1Item :=
        {
          fn := none, frame := r.2, seq := if s.dupEn then some ((j * 512 + r.1) % 65536) else none,
          queue := some 6 }
      (s.updSwc (fun c => { c with h1q := c.h1q ++ [item] })).bump (pCYC 0) R.CYC_CNT_PUB_SENT) s

theorem State.released_releaseList (s : State) (j : Nat) (rs : List (Nat × Frame)) : s.Released rs.length (s.releaseList j rs) := by
  induction rs generalizing s with
  | nil => exact ⟨⟨[], by rw [List.append_nil]; rfl, fun _ _ => rfl⟩, fun _ _ => rfl, .refl _ _⟩
  | cons r rs ih =>
    rw [State.releaseList, List.foldl_cons, ← State.releaseList]
    by_cases hm : s.mayPublish r.1 = true
    · rw [if_neg (by simp [hm])]
      dsimp only
      generalize ({ fn := none, frame := r.2, seq := _, queue := _ } : H1Item) = item
      have hq := (State.Quiet.refl [pCYC 0] (s.updSwc fun c => { c with h1q := c.h1q ++ [item] })).bump (p := pCYC 0) (by simp)
        R.CYC_CNT_PUB_SENT (by decide)
      have hcn (off : Nat) (h : off ≠ R.CYC_CNT_PUB_SENT) := (s.updSwc fun c => { c with h1q := c.h1q ++ [item] }).cn_bump_other (pCYC 0)
        R.CYC_CNT_PUB_SENT (pCYC 0) off (by unfold ka; omega)
      generalize (s.updSwc fun c => { c with h1q := c.h1q ++ [item] }).bump (pCYC 0) R.CYC_CNT_PUB_SENT = t at *
      obtain ⟨⟨items, hi, hlen⟩, hc, hquiet⟩ := ih t
      have hswc : t.swc = { s.swc with h1q := s.swc.h1q ++ [item] } := hq.swc
      refine ⟨⟨item :: items, ?_, fun hf he => ?_⟩, fun off h => (hc off h).trans (hcn off h), ?_⟩
      · rw [hi, hswc, List.append_assoc]
        rfl
      · rw [List.length_cons, List.length_cons, hlen ?_ ?_]
        · rw [State.failed, hq.regs]; exact hf
        · rw [hq.dupEn]; exact he
      · generalize t.releaseList j rs = u at *
        have hs : ({ s with swc := u.swc } : State).Quiet [pCYC 0] { t with swc := u.swc } :=
          hq.over (congrArg (fun x : State => { x with swc := u.swc }) hq.rest) rfl rfl rfl rfl
        exact hs.trans hquiet
    · have hm' : s.mayPublish r.1 = false := Bool.eq_false_iff.2 hm
      rw [if_pos (by simp [hm'])]
      obtain ⟨⟨items, hi, -⟩, hc, hquiet⟩ := ih s
      exact ⟨⟨items, hi, fun hf he => absurd (State.mayPublish_works hf he r.1) hm⟩, hc, hquiet⟩

theorem State.releaseAll_eq (s : State) (j : Nat) : s.releaseAll j = (s.updCyc fun c => { c with release := [] }).releaseList j s.cyc.release := rfl

/-! ### What finds nothing to do at the boundary -/

theorem State.skdRun_idle (s : State) (h : s.ops = []) (k n : Nat) : ∃ l, s.skdRun k n = { s with skds := l } := by
  cases n with
  | zero => exact ⟨s.skds, rfl⟩
  | succ n =>
    have hopen (f : Nat) : s.openOps k f = [] := by rw [State.openOps, h]; rfl
    have hnone : s.pendingFns k = [] := by
      unfold State.pendingFns
      simp only [hopen, List.isEmpty_nil, Bool.not_true, List.filter_false]
    unfold State.skdRun
    dsimp only
    rw [hnone]
    exact ⟨_, rfl⟩

theorem State.skdAll_idle (s : State) (h : s.ops = []) : ∃ l, s.skdAll = { s with skds := l } := by
  refine List.foldlRecOn (motive := fun t : State => ∃ l, t = { s with skds := l }) _ _ ⟨s.skds, rfl⟩ fun t ht k _ => ?_
  obtain ⟨l, rfl⟩ := ht
  unfold State.skdGo
  split
  · exact ⟨l, rfl⟩
  · obtain ⟨m, hm⟩ := ({ s with skds := l } : State).skdRun_idle h k 6400
    exact ⟨m, hm⟩

theorem State.boundary_idle (s : State) (hd : s.dup.pend = none) (hv : s.vfs = []) (ho : s.ops = []) :
    ∃ l, s.dupBoundary.migBoundary.kerfOver = { s with skds := l } := by
  have hdup : s.dupBoundary = s := by rw [State.dupBoundary, hd]
  have hmig : s.migBoundary = s := by rw [State.migBoundary, hv]; rfl
  have hkerf : s.kerfOver = s.skdAll := by
    unfold State.kerfOver
    refine congrArg State.skdAll (List.foldlRecOn (motive := fun t : State => t = s) _ _ rfl fun t ht f _ => ?_)
    subst ht
    rw [show t.vf f = {} by rw [State.vf, hv]; rfl]
  rw [hdup, hmig, hkerf]
  exact s.skdAll_idle ho

/-- Core pairs in which neither a COMMIT nor a STOP waits. -/
theorem State.pairs_idle (s : State) (h : ∀ p, p < 16 → (s.hd (pCYC p)).stopNs = none ∧ (s.hd (pCYC p)).commitPending = false) :
    (List.range 16).foldl (fun (s : State) p => (s.commitApply (pCYC p)).stopApply (pCYC p)) s = s := by
  have hg : ∀ p < 16, headPage (pCYC p) = pCYC p := by decide
  refine List.foldlRecOn (motive := fun t : State => t = s) _ _ rfl fun t ht p hp => ?_
  subst ht
  obtain ⟨hs, hc⟩ := h p (List.mem_range.1 hp)
  rw [t.commitApply_idle (hg p (List.mem_range.1 hp)) hc, t.stopApply_idle hs]

/-! ### CYCLE_START -/

/-- The state at the boundary before the cycle's own rows: the frames of the cycle before released, its request vector sent, except at the
first cycle. -/
structure State.AtBoundary (s t : State) : Prop where
  cyc : t.cyc = { s.cyc with release := t.cyc.release }
  first : s.cyc.cyc = none → t.swc = s.swc ∧ t.hwsIn = s.hwsIn
  later : s.cyc.cyc ≠ none → t.cyc.release = [] ∧ t.hwsIn = s.hwsIn ++ [(1, s.reqVector, 0)] ∧
    ∃ items, t.swc = { s.swc with h1q := s.swc.h1q ++ items } ∧ (s.failed = false → items.length = s.cyc.release.length)
  cn : ∀ off, off ≠ R.CYC_CNT_PUB_SENT → t.cn (pCYC 0) off = s.cn (pCYC 0) off
  quiet : ({ s with cyc := t.cyc, swc := t.swc, hwsIn := t.hwsIn, skds := t.skds } : State).Quiet [pCYC 0] t

/-- The boundary of a module without a pair: releases and the request vector. -/
def State.atBoundary (s : State) : State :=
  let first := s.cyc.cyc.isNone
  let last := s.cycNow
  let s := s.dupBoundary.migBoundary.kerfOver
  let s := if first then s else (s.releaseAll last)
  if first then s else { s with hwsIn := s.hwsIn ++ [(1, s.outVector, 0)] }

theorem State.readPt_congr {s t : State} (hf : t.flips = s.flips) (hp : t.poison = s.poison) (hn : t.free = s.free) (hi : t.img = s.img) (i : Nat) :
    t.readPt i = s.readPt i := by
  have hw (a : Nat) : (t.wordIs a).1 = (s.wordIs a).1 := by
    unfold State.wordIs State.freeWord
    simp only [apply_ite Prod.fst, hf, hp, hn]
  have hspoilt (a : Nat) : t.spoilt a = s.spoilt a := by
    unfold State.spoilt
    rw [hf, hp, hw]
  rw [State.readPt, State.readPt, hspoilt, State.pt, hi, ← State.pt]

theorem State.reqVector_congr {s t : State} (hf : t.flips = s.flips) (hp : t.poison = s.poison) (hn : t.free = s.free) (hi : t.img = s.img)
    (ht : t.tbl = s.tbl) : t.reqVector = s.reqVector := by
  have htw (a : Nat) : t.tw a = s.tw a := by rw [State.tw, ht, ← State.tw]
  unfold State.reqVector
  simp only [State.readPt_congr hf hp hn hi, htw]

theorem State.atBoundary_spec (s : State) (hd : s.dup.pend = none) (he : s.dupEn = false) (hv : s.vfs = []) (ho : s.ops = []) :
    s.AtBoundary s.atBoundary := by
  obtain ⟨l, hl⟩ := s.boundary_idle hd hv ho
  unfold State.atBoundary
  dsimp only
  rw [hl]
  cases hc : s.cyc.cyc with
  | none =>
    rw [Option.isNone_none, if_pos rfl, if_pos rfl]
    exact ⟨rfl, fun _ => ⟨rfl, rfl⟩, fun h => absurd hc h, fun _ _ => rfl, .refl _ _⟩
  | some j =>
    rw [Option.isNone_some, if_neg (by decide), if_neg (by decide), State.releaseAll_eq]
    obtain ⟨b, hb⟩ : ∃ b : State, b = { s with skds := l, cyc := { s.cyc with release := [] } } := ⟨_, rfl⟩
    rw [show ({ s with skds := l } : State).updCyc (fun c => { c with release := [] }) = b from hb.symm,
      show ({ s with skds := l } : State).cyc.release = s.cyc.release from rfl]
    have hr := b.released_releaseList s.cycNow s.cyc.release
    generalize b.releaseList s.cycNow s.cyc.release = a at *
    obtain ⟨⟨items, hi, hlen⟩, hcn, hq⟩ := hr
    have hcyc : a.cyc = { s.cyc with release := [] } := hq.cyc.trans (by rw [hb])
    have hen : a.dupEn = false := hq.dupEn.trans (by rw [hb]; exact he)
    have hvec : a.outVector = s.reqVector := by
      rw [State.outVector, hen, Bool.false_and, if_neg (by decide)]
      exact State.reqVector_congr (hq.flips.trans (by rw [hb])) (hq.poison.trans (by rw [hb])) (hq.free.trans (by rw [hb]))
        (hq.img.trans (by rw [hb])) (hq.tbl.trans (by rw [hb]))
    have hhw : a.hwsIn = s.hwsIn := hq.hwsIn.trans (by rw [hb])
    have hsk : a.skds = l := hq.skds.trans (by rw [hb])
    have hswc : a.swc = { s.swc with h1q := s.swc.h1q ++ items } := hi.trans (by rw [hb])
    rw [hvec, hhw]
    refine ⟨by rw [hcyc], fun h => (by rw [hc] at h; cases h),
      fun _ => ⟨by rw [hcyc], rfl, items, hswc, fun hf => hlen (by rw [hb]; exact hf) (by rw [hb]; exact he)⟩,
      fun off h => (hcn off h).trans (by rw [hb]; rfl), ?_⟩
    refine hq.over ?_ rfl rfl (by rw [hb]) (by rw [hb])
    generalize s.hwsIn ++ _ = w
    have hrest := congrArg (fun x : State => { x with hwsIn := w }) hq.rest
    rw [hb] at hrest
    refine hrest.trans ?_
    dsimp only
    rw [hcyc, hsk]

theorem State.cycleStart_eq (s : State) {j : Nat} (hj : s.cycDue = some j) (he : (s.atBoundary.cycBegin j).dupEn = false) :
    s.cycleStart = (s.atBoundary.cycBegin j).updDup fun d => { d with injNow := 0 } := by
  unfold State.cycleStart
  rw [hj]
  dsimp only
  generalize hb : State.cycBegin _ j = b
  rw [show s.atBoundary.cycBegin j = b from hb] at he ⊢
  exact if_neg (Bool.eq_false_iff.1 he)

/-- CYCLE_START of a module without a pair, in which neither a COMMIT nor a STOP waits for the boundary. -/
theorem exec_cycleStart_begins {s : State} (hon : s.onMain = true) {j : Nat} (hj : s.cycDue = some j)
    (hidle : ∀ p, p < 16 → (s.hd (pCYC p)).stopNs = none ∧ (s.hd (pCYC p)).commitPending = false) (hd : s.dup.pend = none) (he : s.dupEn = false)
    (hv : s.vfs = []) (ho : s.ops = []) : ∃ a b l, s.AtBoundary a ∧ a.CycleBegun j b ∧
      exec .cycleStart s = .next { b with dup := { s.dup with injNow := 0 }, talAts := l, pending := s.pending } := by
  obtain ⟨u, hu, hexec⟩ := act_next (f := State.cycleBound) hon
  have ha := s.atBoundary_spec hd he hv ho
  have hb := s.atBoundary.cycleBegun j
  have hen : (s.atBoundary.cycBegin j).dupEn = false := by
    have hac : (s.atBoundary.cycBegin j).acts = s.acts := hb.acts.trans ha.quiet.acts
    obtain ⟨-, -, h1⟩ := hb.hd 0x1D0
    obtain ⟨-, -, h2⟩ := ha.quiet.ctrl 0x1D0
    rw [State.dupEn, State.ac, hac, h1, h2]
    exact he
  rw [State.cycleBound, if_neg (by simp [hj]), s.cycleStart_eq hj hen] at hu
  have hdup : (s.atBoundary.cycBegin j).dup = s.dup := hb.dup.trans ha.quiet.dup
  have hpairs (p : Nat) (hp : p < 16) : ((s.atBoundary.cycBegin j).hd (pCYC p)).stopNs = none ∧
      ((s.atBoundary.cycBegin j).hd (pCYC p)).commitPending = false := by
    obtain ⟨hc, hs, -⟩ := hb.hd (pCYC p)
    obtain ⟨hc', hs', -⟩ := ha.quiet.ctrl (pCYC p)
    obtain ⟨h1, h2⟩ := hidle p hp
    exact ⟨hs.trans (hs'.trans h1), hc.trans (hc'.trans h2)⟩
  generalize s.atBoundary = a at *
  generalize a.cycBegin j = b at *
  rw [State.pairs_idle (b.updDup fun d => { d with injNow := 0 }) hpairs] at hu
  obtain ⟨l, hl⟩ : ∃ l, (b.updDup fun d => { d with injNow := 0 }).talNote = { b with dup := { b.dup with injNow := 0 }, talAts := l } :=
    ⟨_, rfl⟩
  rw [hl, hdup] at hu
  exact ⟨a, b, l, ha, hb, (exec_cycleStart s).trans (by rw [hexec, hu])⟩

/-- Settles O30: a cycle starts at its boundary, and one that waits for its tokens goes on when they are here. -/
theorem cycleStarts : Obligations.CycleStarts := by
  unfold Obligations.CycleStarts
  refine fun s hon => ⟨fun j hj hidle hd he hv ho => ?_, fun h => ?_, fun hw hk => ⟨fun ht => ?_, fun ht => ?_⟩⟩
  · obtain ⟨a, b, l, ha, hb, hexec⟩ := exec_cycleStart_begins hon hj hidle hd he hv ho
    have hbound : a.bound j = s.bound j := by rw [State.bound, State.bound, State.phase, ha.quiet.ac]; rfl
    have htok : a.tokens j = s.tokens j := State.tokens_congr (fun e => by rw [ha.quiet.fltLive e]) ha.quiet.flt ha.quiet.sva ha.quiet.tsu ha.quiet.dup j
    have hticks : a.cyc.ticks = s.cyc.ticks := by rw [ha.cyc]
    have hinst (i : Nat) : a.inst i = s.inst i := by rw [State.inst, ha.cyc]; rfl
    refine ⟨_, hexec, hb.cyc, hb.boundNs.trans hbound, hb.kerfDone, hb.ticks.trans (by rw [hticks]), hb.tag, fun ht => ?_, fun ht => ?_, fun h => ?_,
      fun h => ?_, fun p off h => (hb.rg p off h).trans (ha.quiet.rg p off), fun h => ?_, fun hf hp => ?_⟩
    · rw [← hbound]
      exact hb.ready (htok.trans ht)
    · obtain ⟨h1, h2, h3, h4⟩ := hb.waits (htok.trans ht)
      exact ⟨h1, h2, h3, h4.trans (by rw [ha.cn _ (by decide)])⟩
    · obtain ⟨h1, h2⟩ := ha.first h
      exact ⟨hb.swc.trans h1, hb.hwsIn.trans h2⟩
    · obtain ⟨h1, h2, items, h3, h4⟩ := ha.later h
      exact ⟨hb.release.trans h1, hb.hwsIn.trans h2, items, hb.swc.trans h3, h4⟩
    · exact (hb.dir fun i => by rw [hinst]; exact h i).trans ha.quiet.dir
    · have hq := hb.clean (ha.quiet.flips.trans hf) (ha.quiet.poison.trans hp)
      have hs : ({ s with cyc := b.cyc, swc := a.swc, hwsIn := a.hwsIn, regs := b.regs, dir := b.dir, skds := a.skds } : State).Quiet [pCYC 0] b :=
        State.Quiet.trans (ha.quiet.over (t := { a with cyc := b.cyc, regs := b.regs, dir := b.dir }) (congrArg (fun x : State => { x with cyc := b.cyc, regs := b.regs, dir := b.dir }) ha.quiet.rest)
          rfl rfl rfl rfl) hq
      have hr := congrArg (fun x : State => { x with dup := { s.dup with injNow := 0 }, talAts := l, pending := s.pending }) hs.rest
      refine hs.over (hr.trans ?_) rfl rfl rfl rfl
      dsimp only
      rw [hs.swc, hs.hwsIn, hs.skds]
  · rw [exec_cycleStart]
    exact act_same (if_pos (by rw [h]; rfl))
  · obtain ⟨u, hu, hexec⟩ := act_next (f := State.snapEnd) hon
    rw [State.snapEnd, hw, hk, ht, if_pos (by decide)] at hu
    obtain ⟨b, l, hb, hclean, hv⟩ := s.fixView_spec s.cycNow
    rw [hv] at hu
    refine ⟨_, (exec_snapWaitEnd s).trans hexec, by rw [hu]; rfl, by rw [hu]; rfl, ?_, fun hf hp => ?_⟩
    · rw [hu]
      show (if s.cyc.waiting = true then s.ns else s.cyc.boundNs) + 2000 = _
      rw [hw]
      rfl
    · rw [hu, hclean hf hp]
  · rw [exec_snapWaitEnd]
    exact act_same (if_neg (by rw [ht]; simp))

end Sys2Proof.Machine
end

section
/-!
PROOFS. The kerf of a module with no instance of its own commits the write the PF staged (R186, R195, R206).
-/
namespace Sys2Proof.Machine
open Sys2Proof

/-! ### Steps of a kerf that find nothing to do -/

theorem State.slackMark_shape (s : State) (k : Nat) : ∃ l, s.slackMark k = { s with cyc := { s.cyc with slack := l } } := by
  unfold State.slackMark iter
  refine List.foldlRecOn (motive := fun t : State => ∃ l, t = { s with cyc := { s.cyc with slack := l } }) _ _ ⟨s.cyc.slack, rfl⟩ fun t h n _ => ?_
  obtain ⟨l, rfl⟩ := h
  exact ⟨_, rfl⟩

/-- A step repeated over a list that changes nothing changes nothing. -/
theorem foldl_idle {α β : Type} {f : α → β → α} {l : List β} {a : α} (h : ∀ b ∈ l, f a b = a) : l.foldl f a = a :=
  List.foldlRecOn (motive := fun t => t = a) l f rfl fun t ht b hb => by rw [ht, h b hb]

section
variable {s : State}

theorem State.usedInsts_congr {t : State} (h : t.tbl = s.tbl) : t.usedInsts = s.usedInsts := by
  have hiw (i : Nat) : t.iw i 0 = s.iw i 0 := by rw [State.iw, State.tw, h]; rfl
  unfold State.usedInsts
  simp only [hiw]

section
variable (hv : s.vfs = [])
include hv

theorem State.mig_none (f : Nat) : s.mig f = {} := by rw [State.mig, State.vf, hv]; rfl

theorem State.migNow_none (sel : State → Nat → Bool) : s.migNow sel = [] := by
  unfold State.migNow
  exact List.filter_eq_nil_iff.2 fun f _ => by rw [State.mig_none hv]; simp

theorem State.migKerfPre_idle : s.migKerfPre = s := by
  unfold State.migKerfPre State.migIn_
  rw [State.migNow_none hv]
  dsimp only [List.foldl]
  rw [State.migNow_none hv]
  rfl

theorem State.migPubs_idle : s.migPubs = s := by
  unfold State.migPubs State.migIn_
  rw [State.migNow_none hv]
  rfl

theorem State.migKerfPost_idle : s.migKerfPost = s := by
  have hheld : (List.range 64).filter (fun f => (s.mig f).state == 7 && (s.mig f).tick ≤ s.cycNow) = [] :=
    List.filter_eq_nil_iff.2 fun f _ => by rw [State.mig_none hv]; simp
  unfold State.migKerfPost State.migIn_
  rw [hheld]
  dsimp only [List.foldl]
  rw [State.migNow_none hv]
  dsimp only [List.foldl]
  rw [State.migNow_none hv]
  rfl

end

theorem State.instStopNow_idle (h : s.cyc.insts = []) : (List.range 64).foldl State.instStopNow s = s :=
  foldl_idle fun i _ => if_neg (by rw [State.inst, h]; exact Bool.false_ne_true)

theorem State.safeReq_idle (h : s.cyc.insts = []) : (List.range 64).foldl (fun (s : State) i =>
    if (s.inst i).safeReq then (s.safeValues i).updInst i (fun x => { x with safeReq := false }) else s) s = s :=
  foldl_idle fun i _ => if_neg (by rw [State.inst, h]; exact Bool.false_ne_true)

theorem State.kerfForces_idle (h : s.cyc.forceDirty = []) : s.kerfForces = s := by
  unfold State.kerfForces
  rw [h]
  show { s with cyc := { s.cyc with forceDirty := [] } } = s
  rw [← h]

theorem State.pubSteps_idle (h : ∀ n, bit (s.pw n 0) 31 = false) (quiet : Nat → Bool) :
    (List.range 256).foldl (fun s n => State.pubStep s quiet n) s = s :=
  foldl_idle fun n _ => if_pos (by rw [h]; rfl)

theorem State.kerfOlc_idle (h : s.cyc.olc.state = 0) : s.kerfOlc = s := if_neg (by simp [h])

theorem State.dupKerf_idle (h : s.dupEn = false) : s.dupKerf = s := if_pos (by rw [h]; rfl)

theorem State.dupKerfPre_idle (h : s.dupEn = false) : s.dupKerfPre = s := if_pos (by rw [h]; rfl)

theorem State.sendPubs_idle (h : s.answered = none) : s.sendPubs = s := by rw [State.sendPubs, h]

/-- The tally engines note the points their lists name, over memory without damage. -/
theorem State.talKerf_clean (hf : s.flips = []) (hp : s.poison = []) : ∃ l, s.talKerf = { s with tals := l } := by
  unfold State.talKerf iter
  refine List.foldlRecOn (motive := fun t : State => ∃ l, t = { s with tals := l }) _ _ ⟨s.tals, rfl⟩ fun t h e _ => ?_
  obtain ⟨l, rfl⟩ := h
  dsimp only
  split
  · exact ⟨l, rfl⟩
  · rw [State.readAt_clean (s := { s with tals := l }) hf hp]
    exact ⟨_, rfl⟩

end

/-! ### The commit of one staged write (R195) -/

/-- The executor's rows after the first step of a kerf. -/
def Cyc.kerfBegun (c : Cyc) (l : List (Nat × Nat)) (j : Nat) : Cyc :=
  { c with slack := l, kerfDone := true, waiting := false, past := c.past.filter (fun e => some e.1 == c.lastKerf), lastKerf := some j }

/-- The write of the current cycle taken from the stages, what the point held before kept for views. -/
def Cyc.committed (c : Cyc) (j p : Nat) (x : Point) : Cyc :=
  { c with adcStage := [], gooseStage := [], pfStage := [], past := c.past ++ [(j, p, x)] }

theorem State.commitPt_free (s : State) {p : Nat} (x : Point) (hlt : p < 2 ^ 20) (hfo : s.cyc.forces = []) (hf : s.flips = [])
    (hp : s.poison = []) : s.commitPt p x = (s.keepPast p).setPt p x := by
  have hnone : s.forceOf p = none := by rw [State.forceOf, hfo]; rfl
  rw [State.commitPt, if_neg (by omega), hnone]
  exact if_pos (by rw [show ((s.keepPast p).setPt p x).flips = [] from hf, show ((s.keepPast p).setPt p x).poison = [] from hp]; rfl)

/-- Stages that hold nothing but one write of the PF for the cycle. -/
theorem State.commitImage_one {s : State} {p : Nat} {x : Point} (hu : s.usedInsts = []) (ha : s.cyc.adcStage = []) (hg : s.cyc.gooseStage = [])
    (hpf : s.cyc.pfStage = [(s.cycNow, p, x)]) (hfo : s.cyc.forces = []) (hlt : p < 2 ^ 20) (hf : s.flips = []) (hp : s.poison = []) :
    ∃ n v, s.commitImage = { s with
      cyc := s.cyc.committed s.cycNow p (s.pt p), cnts := sset 0 (ka (pCYC 0) R.CYC_CNT_GOOSE_DEFER) n s.cnts, img := sset {} p x s.img
      regs := (s.setRg (pCYC 0) R.CYC_PI_PEAK v).regs } := by
  have hused (t : State) (ht : t.tbl = s.tbl) : t.usedInsts = [] := (State.usedInsts_congr ht).trans hu
  unfold State.commitImage
  rw [ha, hg, hpf]
  dsimp only [List.filter, List.take, List.length, List.foldl, List.map, List.drop]
  rw [decide_eq_true (le_refl s.cycNow)]
  dsimp only [List.filter, List.take, List.length, List.foldl, List.map, List.drop]
  rw [show (0 : Nat) - 2048 = 0 from rfl]
  obtain ⟨b, hb⟩ : ∃ b : State, b = ({ s with cyc := { s.cyc with adcStage := [], gooseStage := [], pfStage := [] } } : State).bumpBy (pCYC 0)
    R.CYC_CNT_GOOSE_DEFER 0 := ⟨_, rfl⟩
  have hstages : (s.updCyc fun c => { c with
      adcStage := c.adcStage.filter (fun w => s.cycNow < w.1), gooseStage := [] ++ c.gooseStage.filter (fun w => s.cycNow < w.1)
      pfStage := c.pfStage.filter (fun w => s.cycNow < w.1) }) =
      { s with cyc := { s.cyc with adcStage := [], gooseStage := [], pfStage := [] } } := by
    have hlt : ([(s.cycNow, p, x)] : List (Nat × Nat × Point)).filter (fun w => s.cycNow < w.1) = [] := by simp
    dsimp only [State.updCyc]
    rw [ha, hg, hpf, hlt]
    rfl
  rw [hstages, ← hb]
  rw [State.bumpBy_zero] at hb
  have hbu : b.usedInsts = [] := hused b (by rw [hb])
  have hpt : b.pt p = s.pt p := by rw [hb]; rfl
  rw [hbu, List.flatMap_nil, List.append_nil, List.foldl_cons, List.foldl_nil,
    b.commitPt_free x hlt (by rw [hb]; exact hfo) (by rw [hb]; exact hf) (by rw [hb]; exact hp)]
  have hc : (b.keepPast p).setPt p x = { b with cyc := { b.cyc with past := b.cyc.past ++ [(s.cycNow, p, s.pt p)] }, img := sset {} p x s.img } := by
    rw [← hpt, hb]
    rfl
  rw [hc]
  generalize w32 _ = v
  refine ⟨min (cntMax (pCYC 0) R.CYC_CNT_GOOSE_DEFER) (s.cn (pCYC 0) R.CYC_CNT_GOOSE_DEFER), v, ?_⟩
  rw [hused _ (by rw [hb]; rfl), List.foldl_nil, hb]
  rfl

/-! ### The kerf -/

/-- A module whose kerf has the PF's one write of point `p` to commit, and nothing else to do. -/
structure State.KerfPlain (s : State) (p : Nat) (x : Point) : Prop where
  alone : s.dupEn = false
  vfs : s.vfs = []
  used : s.usedInsts = []
  insts : s.cyc.insts = []
  forces : s.cyc.forces = []
  dirty : s.cyc.forceDirty = []
  olc : s.cyc.olc.state = 0
  pubs : ∀ n, bit (s.pw n 0) 31 = false
  answered : s.answered = none
  adc : s.cyc.adcStage = []
  goose : s.cyc.gooseStage = []
  pf : s.cyc.pfStage = [(s.cycNow, p, x)]
  lt : p < 2 ^ 20
  flips : s.flips = []
  poison : s.poison = []

/-- The registers that show the time a kerf used. -/
def State.kerfShown (s : State) (used : Nat) : State :=
  (s.setRg (pCYC 0) R.CYC_KERF_USED (w32 (min 0xFFFF used))).setRg (pCYC 0) R.CYC_KERF_MAX
    (w32 (max (min 0xFFFF used) (s.rg (pCYC 0) R.CYC_KERF_MAX).toNat))

/-- The executor's rows and registers at the start of the kerf, before the image is committed. -/
theorem State.kerf12_eq (s : State) (used : Nat) (lenient : Nat → Bool) (hu : s.usedInsts = []) : ∃ l, s.kerf12 used lenient =
    let t := (List.range 64).foldl State.instStopNow
      ({ s with regs := (s.kerfShown used).regs, cyc := s.cyc.kerfBegun l s.cycNow } : State)
    let t := t.kerfForces.commitImage
    (List.range 64).foldl (fun (s : State) i =>
      if (s.inst i).safeReq then (s.safeValues i).updInst i (fun x => { x with safeReq := false }) else s) t := by
  have hshow : s.kerfShown used = { s with regs := (s.kerfShown used).regs } := ((State.RegsOnly.refl s).setRg _ _ _).setRg _ _ _
  obtain ⟨m, hm⟩ := (s.kerfShown used).slackMark_shape ((s.kerfShown used).nextBound - (s.kerfShown used).kerfLen)
  unfold State.kerf12
  rw [show (s.setRg (pCYC 0) R.CYC_KERF_USED (w32 (min 0xFFFF used))).setRg (pCYC 0) R.CYC_KERF_MAX
    (w32 (max (min 0xFFFF used) (s.rg (pCYC 0) R.CYC_KERF_MAX).toNat)) = s.kerfShown used from rfl]
  extract_lets s1 s2 s3 s4 s5 s6
  have h2 : ∃ l, s2 = { s with regs := (s.kerfShown used).regs, cyc := { s.cyc with slack := l } } := by
    by_cases hv : s1.cyc.viewed = true
    · refine ⟨m, (if_pos hv).trans (hm.trans ?_)⟩
      generalize s.kerfShown used = k at hshow
      rw [hshow]
    · refine ⟨s.cyc.slack, (if_neg hv).trans ?_⟩
      exact hshow
  obtain ⟨l, hl⟩ := h2
  have h3 : s3 = { s with regs := (s.kerfShown used).regs, cyc := s.cyc.kerfBegun l s.cycNow } := by
    show s2.updCyc _ = _
    rw [hl]
    rfl
  have h4 : s4 = s3 := by
    have hused : s3.usedInsts = [] := (State.usedInsts_congr (by rw [h3])).trans hu
    show List.foldl _ s3 s3.usedInsts = s3
    rw [hused]
    rfl
  refine ⟨l, ?_⟩
  rw [← h3, ← h4]

section
variable {s : State} {p : Nat} {x : Point} (h : s.KerfPlain p x)
include h

theorem State.kerf12_plain (used : Nat) (lenient : Nat → Bool) : ∃ l n v, s.kerf12 used lenient = { s with
    cyc := (s.cyc.kerfBegun l s.cycNow).committed s.cycNow p (s.pt p)
    cnts := sset 0 (ka (pCYC 0) R.CYC_CNT_GOOSE_DEFER) n s.cnts, img := sset {} p x s.img
    regs := ((s.kerfShown used).setRg (pCYC 0) R.CYC_PI_PEAK v).regs } := by
  obtain ⟨l, hl⟩ := s.kerf12_eq used lenient h.used
  dsimp only at hl
  obtain ⟨b, hb⟩ : ∃ b : State, b = { s with regs := (s.kerfShown used).regs, cyc := s.cyc.kerfBegun l s.cycNow } := ⟨_, rfl⟩
  rw [← hb] at hl
  have hins : b.cyc.insts = [] := by rw [hb]; exact h.insts
  have hcommit := State.commitImage_one (s := b) (p := p) (x := x) ((State.usedInsts_congr (by rw [hb])).trans h.used) (by rw [hb]; exact h.adc)
    (by rw [hb]; exact h.goose) (by rw [hb]; exact h.pf) (by rw [hb]; exact h.forces) h.lt (by rw [hb]; exact h.flips) (by rw [hb]; exact h.poison)
  obtain ⟨n, v, hv⟩ := hcommit
  rw [State.instStopNow_idle hins, State.kerfForces_idle (by rw [hb]; exact h.dirty), State.safeReq_idle (by rw [hv]; exact hins), hv] at hl
  refine ⟨l, n, v, hl.trans ?_⟩
  rw [hb]
  rfl

/-- The kerf of a module with nothing to do but one write of the PF. -/
theorem State.kerf_plain (used : Nat) : ∃ l n v tals, s.kerf used = { s with
    cyc := (s.cyc.kerfBegun l s.cycNow).committed s.cycNow p (s.pt p)
    cnts := sset 0 (ka (pCYC 0) R.CYC_CNT_GOOSE_DEFER) n s.cnts, img := sset {} p x s.img
    regs := ((s.kerfShown used).setRg (pCYC 0) R.CYC_PI_PEAK v).regs, tals := tals } := by
  unfold State.kerf
  dsimp only
  rw [State.dupKerfPre_idle h.alone, State.migKerfPre_idle h.vfs]
  generalize hb : s.kerf12 used _ = b
  obtain ⟨l, n, v, hk⟩ := State.kerf12_plain h used _
  rw [hb] at hk
  obtain ⟨tals, ht⟩ := State.talKerf_clean (s := b) (by rw [hk]; exact h.flips) (by rw [hk]; exact h.poison)
  obtain ⟨c, hc⟩ : ∃ c, c = b.talKerf := ⟨_, rfl⟩
  rw [← hc] at ht ⊢
  have hrow : c.vfs = s.vfs ∧ c.cyc.olc = s.cyc.olc ∧ c.dupEn = s.dupEn ∧ c.answered = s.answered ∧ ∀ n, c.pw n 0 = s.pw n 0 := by
    rw [ht, hk]
    exact ⟨rfl, rfl, rfl, rfl, fun _ => rfl⟩
  obtain ⟨hv, ho, he, ha, hp⟩ := hrow
  rw [State.migPubs_idle (hv.trans h.vfs), State.pubSteps_idle (fun n => by rw [hp]; exact h.pubs n), State.dupKerf_idle (he.trans h.alone),
    State.sendPubs_idle (ha.trans h.answered), State.kerfOlc_idle (by rw [ho]; exact h.olc), ho, h.olc, if_neg (by decide),
    State.migKerfPost_idle (hv.trans h.vfs)]
  exact ⟨l, n, v, tals, by rw [ht, hk]⟩

end

/-- Settles O31: the kerf of a module without instances commits the write the PF staged. -/
theorem kerfCommitsTheImage : Obligations.KerfCommitsTheImage := by
  unfold Obligations.KerfCommitsTheImage
  refine fun used s hon => ⟨fun h => ?_, fun p x hdue he hv hu hi hfo hd ho hp ha hadc hg hpf hlt hf hpo => ?_⟩
  · rw [exec_kerfStart]
    exact act_same (if_neg (by rw [h]; decide))
  · obtain ⟨u, hu', hexec⟩ := act_next (f := fun s => s.kerfStart used) hon
    obtain ⟨l, n, v, tals, hk⟩ := State.kerf_plain (s := s) (p := p) (x := x) ⟨he, hv, hu, hi, hfo, hd, ho, hp, ha, hadc, hg, hpf, hlt, hf, hpo⟩ used
    rw [State.kerfStart, if_pos hdue, hk] at hu'
    clear hk
    have hpt := s.pt_setPt p x
    have hpo (q : Nat) (hq : q ≠ p) := s.pt_setPt_other _ _ x hq
    have hrg : ((s.kerfShown used).setRg (pCYC 0) R.CYC_PI_PEAK v).rg (pCYC 0) R.CYC_KERF_USED = w32 (min 0xFFFF used) := by
      unfold State.kerfShown
      simp (disch := decide) only [State.rg_setRg_other, State.rg_setRg]
    generalize State.setRg _ _ _ _ = r at *
    subst hu'
    refine ⟨_, (exec_kerfStart used s).trans hexec, rfl, rfl, rfl, hpt, hpo, ?_, hrg, rfl, rfl, ?_⟩
    · exact List.mem_append_right _ (List.mem_singleton_self _)
    · refine ⟨rfl, fun _ _ => rfl, fun _ => rfl, fun q off hq hoff => ?_⟩
      refine sget_sset_other _ _ _ _ _ _ fun h => hq (List.mem_singleton.2 ?_)
      unfold ka pCYC R.CYC_CNT_GOOSE_DEFER at h
      unfold pCYC
      omega

end Sys2Proof.Machine
end

section
/-!
PROOFS. The safety island: its cycle, the vectors on their way, overloads and acknowledgements (R294 to R311).
-/
namespace Sys2Proof.Machine
open Sys2Proof

/-! ### What the events of a channel leave -/

/-- Only counters, interrupts, messages, records and the module's own status can differ. -/
def State.Told (s t : State) : Prop :=
  t = { s with regs := t.regs, hdrs := t.hdrs, cnts := t.cnts, vecs := t.vecs, out := t.out, shf := t.shf, evr := t.evr }

theorem State.Told.refl (s : State) : s.Told s := rfl

theorem State.Told.trans {s t u : State} (h : s.Told t) (h' : t.Told u) : s.Told u := by
  unfold State.Told at *
  rw [h] at h'
  exact h'

section
variable {s t : State} (h : s.Told t)
include h

theorem State.Told.withHws (k : Hws) : ({ s with hws := k } : State).Told { t with hws := k } := by
  unfold State.Told at *
  rw [h]

theorem State.Told.hws : t.hws = s.hws := by rw [h]
theorem State.Told.mem : t.mem = s.mem := by rw [h]
theorem State.Told.img : t.img = s.img := by rw [h]
theorem State.Told.tbl : t.tbl = s.tbl := by rw [h]
theorem State.Told.tsu : t.tsu = s.tsu := by rw [h]
theorem State.Told.cyc : t.cyc = s.cyc := by rw [h]
theorem State.Told.hwsIn : t.hwsIn = s.hwsIn := by rw [h]
theorem State.Told.pwr : t.pwr = s.pwr := by rw [h]

end

theorem State.Quiet.told {ps : List Nat} {s t : State} (h : s.Quiet ps t) : s.Told t := by
  have hr := h.rest
  unfold State.Told
  rw [hr]

theorem State.Told.foldl {α : Type} {f : State → α → State} (hf : ∀ (u : State) a, u.Told (f u a)) (l : List α) (s : State) :
    s.Told (l.foldl f s) :=
  List.foldlRecOn (motive := fun u => s.Told u) l f (State.Told.refl s) fun u hu a _ => hu.trans (hf u a)

section
variable (s : State)

theorem State.told_irq (p i : Nat) : s.Told (s.irq p i) := ((State.Quiet.refl [p] s).irq (by simp) i).told

theorem State.told_updHd (p : Nat) (f : Hdr → Hdr) : s.Told (s.updHd p f) := by
  unfold State.Told
  rw [s.updHd_shape p f]

theorem State.told_bump (p o : Nat) : s.Told (s.bump p o) := by
  unfold State.bump State.bumpBy
  extract_lets v v' u
  have hu : s.Told u := rfl
  split
  · exact (hu.trans (u.told_updHd p _)).trans (State.told_irq _ p 2)
  · exact hu

theorem State.told_hwsRec (ch typ kind idx : Nat) : s.Told (s.hwsRec ch typ kind idx) := rfl

theorem State.told_hwsBoth (cnt i : Nat) : s.Told (s.hwsBoth cnt i) :=
  (((s.told_bump (pHWS 0) cnt).trans (State.told_irq _ (pHWS 0) i)).trans (State.told_bump _ (pHWS 1) cnt)).trans
    (State.told_irq _ (pHWS 1) i)

theorem State.told_hwsEv (ch : Nat) (rec_ : Bool) (e : HEv) : s.Told (s.hwsEv ch rec_ e) := by
  unfold State.hwsEv
  extract_lets s1 s2
  have h1 : s.Told s1 := by
    dsimp only [s1]
    split
    · exact State.Told.refl s
    · exact s.told_bump _ _
  have h2 : s1.Told s2 := by
    dsimp only [s2]
    split
    · exact State.Told.refl s1
    · exact s1.told_irq _ _
  split
  · exact h1.trans h2
  · exact (h1.trans h2).trans (s2.told_hwsRec _ _ _ _)

theorem State.told_fail (page cause : Nat) : s.Told (s.fail page cause) := by
  cases hf : s.failed with
  | true => rw [s.fail_failed _ _ hf]; exact State.Told.refl s
  | false =>
    obtain ⟨-, -, -, -, -, -, -, hs⟩ := s.fail_first page cause hf
    generalize s.fail page cause = t at *
    unfold State.Told
    rw [hs]

/-- The safety island fails: its switches open, and the rest is told. -/
theorem State.hwsSafe_spec : ∃ u, s.hwsSafe = u ∧ ({ s with hws := u.hws } : State).Told u ∧
    u.hws = if s.hws.safe then s.hws else s.hwsOff.hws := by
  refine ⟨_, rfl, ?_⟩
  unfold State.hwsSafe
  split
  · exact ⟨State.Told.refl s, rfl⟩
  · have ht := ((s.hwsOff.told_hwsBoth R.HWS_CNT_SYNC_FAULT 11).trans (State.told_hwsRec _ 0 5 0 0)).trans (State.told_fail _ (pHWS 0) 3)
    generalize (((s.hwsOff.hwsBoth R.HWS_CNT_SYNC_FAULT 11).hwsRec 0 5 0 0).fail (pHWS 0) 3) = t at *
    have hh : t.hws = s.hwsOff.hws := ht.hws
    exact ⟨hh ▸ ht, hh⟩

end

/-! ### A safety cycle (R295, R300, R306, R307) -/

/-- The vectors latched at a cycle start under the request watchdog `wd` (R306, R307). -/
def Hws.latched (h : Hws) (wd : Nat) : Hws :=
  let mG := if (h.newest 0).isSome then 0 else min 256 (h.missG + 1)
  let mI := if (h.newest 1).isSome then 0 else min 256 (h.missI + 1)
  { h with
    fifo := [], vecG := (match h.newest 0 with | some v => v.2 | none => h.vecG)
    vecI := (match h.newest 1 with | some v => v.2.1 | none => h.vecI)
    missG := mG, missI := mI, lostG := wd != 0 && wd ≤ mG, lostI := wd != 0 && wd ≤ mI }

theorem Hws.lostI_latched {h : Hws} {v : Nat × Nat × Nat} (hv : h.newest 1 = some v) (wd : Nat) : (h.latched wd).lostI = false := by
  simp only [Hws.latched, hv, Option.isSome_some, if_true]
  cases wd <;> simp

/-- The count of cycles without a tick start (R296). -/
def Hws.ticked (h : Hws) : Hws :=
  if h.tickSeen then { h with tickSeen := false, tickMiss := 0 }
  else { h with tickMiss := min 4 (h.tickMiss + 1), tickLost := h.tickLost || min 4 (h.tickMiss + 1) = 4 }

theorem Hws.ticked_shape (h : Hws) :
    h.ticked = { h with tickSeen := h.ticked.tickSeen, tickMiss := h.ticked.tickMiss, tickLost := h.ticked.tickLost } := by
  unfold Hws.ticked
  split <;> rfl

theorem State.told_hwsLatch (s : State) : ({ s with hws := s.hws.latched s.reqWdog } : State).Told s.hwsLatch := by
  unfold State.hwsLatch
  extract_lets h wd g i mG mI lG lI h' s1 s2
  have h1 : ({ s with hws := s.hws.latched s.reqWdog } : State).Told s1 := rfl
  have h2 : s1.Told s2 := by
    dsimp only [s2]
    split
    · exact s1.told_hwsBoth _ _
    · exact State.Told.refl s1
  split
  · exact (h1.trans h2).trans (s2.told_hwsBoth _ _)
  · exact h1.trans h2

theorem State.told_hwsTicks (s : State) : ({ s with hws := s.hws.ticked } : State).Told s.hwsTicks := by
  unfold State.hwsTicks
  extract_lets h n s1
  have hseen : h = s.hws := rfl
  split
  case isTrue hs =>
    have : s.hws.ticked = { s.hws with tickSeen := false, tickMiss := 0 } := if_pos hs
    rw [this]
    rfl
  case isFalse hs =>
    have h1 : ({ s with hws := s.hws.ticked } : State) = s1 := by
      have : s.hws.ticked = { s.hws with tickMiss := n, tickLost := s.hws.tickLost || n = 4 } := if_neg hs
      rw [this]
      rfl
    rw [h1]
    split
    · exact s1.told_hwsBoth _ _
    · exact State.Told.refl s1

/-! ### Outputs (R300 to R304) -/

section
variable {o : HOut} {n c : Nat} {w0 w1 : Word} {bad : Bool × Bool}

theorem HOut.on_turn_false : (o.turn c w0 w1 false).on = false := by
  unfold HOut.turn
  split
  case isTrue h => exact h.symm
  case isFalse => rfl

theorem HOut.trip_turn (want : Bool) : (o.turn c w0 w1 want).trip = o.trip := by
  unfold HOut.turn
  split <;> rfl

theorem HOut.trip_check : (o.check n c).1.trip = o.trip := by
  unfold HOut.check
  repeat' split
  all_goals rfl

/-- An output no configuration, or the safe state, lets energise is off. -/
theorem HOut.step_off (read trip reset : Bool) : (o.step n c w0 w1 read trip reset true bad).1.on = false := by
  unfold HOut.step
  rw [Bool.true_or, if_pos rfl]
  exact HOut.on_turn_false

/-- A configured output that de-energises to trip is tripped and off where its TRIP holds. -/
theorem HOut.step_trips (read reset : Bool) (h31 : bit w0 31 = true) (h30 : bit w0 30 = false) :
    (o.step n c w0 w1 read true reset false bad).1.trip = true ∧ (o.step n c w0 w1 read true reset false bad).1.on = false := by
  unfold HOut.step
  extract_lets o1 evH o2 o3 off edm evT o4 o5 r o6 preBad newPre manual asked want r2
  rw [if_neg (by rw [h31]; decide)]
  have h2 : r2 = (o6, false, []) := by
    dsimp only [r2]
    rw [if_pos (by rw [h30]; rfl), if_pos rfl]
  have h5 : o5.trip = true := by
    dsimp only [o5]
    split <;> rfl
  have h6 : o6.trip = true := by
    dsimp only [o6, r]
    split
    · rw [HOut.trip_check, h5]
    · exact h5
  rw [h2]
  exact ⟨(HOut.trip_turn false).trans h6, HOut.on_turn_false⟩

end

/-! ### The outputs of a channel -/

section
variable {h : Hws} {r : HwsRead} {bad : Nat → Bool × Bool} (x : HCh)

theorem HCh.length_outs_step : (x.step h r bad).1.outs.length = 8 := by
  unfold HCh.step
  dsimp only
  rw [List.length_map, List.length_map, List.length_range]

/-- Every output of a channel without a configuration, or in the safe state, is off. -/
theorem HCh.step_off (hoff : h.configured = false ∨ h.safe = true) : ∀ o ∈ (x.step h r bad).1.outs, o.on = false := by
  have hoff : (h.safe || !h.configured) = true := by rcases hoff with h | h <;> simp [h]
  intro o ho
  unfold HCh.step at ho
  dsimp only at ho
  rw [hoff, List.map_map] at ho
  obtain ⟨n, -, rfl⟩ := List.mem_map.1 ho
  exact HOut.step_off _ _ _

/-- The instance vector trips an output that takes it (R300, R306). -/
theorem HCh.step_trips {n : Nat} (hn : n < 8) (hc : h.configured = true) (hs : h.safe = false) (hl : h.lostI = false)
    (hv : h.vecI.testBit n = true) (h31 : bit (h.ow n 0) 31 = true) (h30 : bit (h.ow n 0) 30 = false)
    (h26 : bit (h.ow n 0) 26 = true) :
    ∃ o, (x.step h r bad).1.outs[n]? = some o ∧ o.trip = true ∧ o.on = false := by
  unfold HCh.step
  extract_lets f y ins onMask resets g v outs
  have htrip : tripOf (h.ow n 0) n onMask g v h.lostG h.lostI y.vfFault = true := by
    have hv : v = h.vecI := if_neg (by rw [hl]; decide)
    rw [tripOf, h26, hv, ‹h.vecI.testBit n = true›]
    simp
  have hget (f : Nat → HOut × List HEv) : (((List.range 8).map f).map (fun o => o.1))[n]? = some (f n).1 := by
    rw [List.getElem?_map, List.getElem?_map, List.getElem?_range hn]
    rfl
  change ∃ o, (outs.map (fun o => o.1))[n]? = some o ∧ _
  rw [hget]
  refine ⟨_, rfl, ?_⟩
  dsimp only
  rw [htrip, hs, hc]
  exact HOut.step_trips _ _ h31 h30

end

/-- Every switch open, the island in its safe state. -/
theorem State.off_hwsOff {s : State} : ∀ o ∈ s.hwsOff.hws.a.outs ++ s.hwsOff.hws.b.outs, o.on = false := by
  intro o ho
  rcases List.mem_append.1 ho with ho | ho <;> obtain ⟨x, -, rfl⟩ := List.mem_map.1 ho <;> rfl

/-- The channels evaluated in a cycle, and what they exchange and compare (R295, R309). -/
def Hws.cycled (h : Hws) (a b : HwsRead) : Hws :=
  let bad (n : Nat) : Bool × Bool := (a.sw.testBit n, b.sw.testBit n)
  let ra := (h.a.step h a bad).1
  let rb := (h.b.step h b bad).1
  { h with cyc := h.cyc + 1, a := ra, b := rb, diff := if ra.same rb a b then 0 else min 4 (h.diff + 1) }

/-- The state of the island at the end of a cycle that does not fail it. -/
def State.hwsNext (s : State) (a b : HwsRead) : Hws := (s.hws.latched s.reqWdog).ticked.cycled a b

/-- A safety cycle: the island's next state, its switches open where the cycle fails it. -/
theorem State.safetyCycle_spec {s : State} (a b : HwsRead) (mis : Bool) (hp : (s.hd (pHWS 0)).commitPending = false) :
    ∃ t, s.safetyCycle a b mis = t ∧ ({ s with hws := t.hws } : State).Told t ∧
      (t.hws = s.hwsNext a b ∧ (mis = true → (s.hwsNext a b).safe = true) ∨
        t.hws = (({ s with hws := s.hwsNext a b } : State).hwsOff).hws) := by
  have hact : s.hwsActivate = s := if_pos (by rw [hp]; rfl)
  unfold State.safetyCycle
  rw [hact]
  extract_lets s1 h bad ra rb same diff s2 s3 s4 s5 s6
  have hl := s.told_hwsLatch
  have ht := s.hwsLatch.told_hwsTicks
  rw [hl.hws] at ht
  have h1 : ({ s with hws := (s.hws.latched s.reqWdog).ticked } : State).Told s1 :=
    (hl.withHws _).trans ht
  have hh : h = (s.hws.latched s.reqWdog).ticked := h1.hws
  have h2 : ({ s with hws := s.hwsNext a b } : State).Told s2 := by
    have hcyc : s.hwsNext a b = h.cycled a b := by rw [hh]; rfl
    rw [hcyc]
    exact h1.withHws _
  have h3 : s2.Told s3 := State.Told.foldl (fun u e => u.told_hwsEv _ _ e) _ _
  have h4 : s3.Told s4 := State.Told.foldl (fun u e => u.told_hwsEv _ _ e) _ _
  have h5 : s4.Told s5 := State.Told.foldl (fun u n => u.told_bump _ _) _ _
  have h6 : s5.Told s6 := State.Told.foldl (fun u n => u.told_bump _ _) _ _
  replace h6 := (((h2.trans h3).trans h4).trans h5).trans h6
  have hnext : s6.hws = s.hwsNext a b := h6.hws
  obtain ⟨t, htell, htold, hhws⟩ := s6.hwsSafe_spec
  replace htold := (h6.withHws t.hws).trans htold
  split
  case isFalse hn =>
    refine ⟨s6, rfl, ?_, .inl ⟨hnext, fun hm => absurd ?_ hn⟩⟩
    · rw [hnext]; exact h6
    · rw [hm]; simp
  case isTrue =>
    refine ⟨t, htell, htold, ?_⟩
    rw [hnext] at hhws
    split at hhws
    case isTrue hs => exact .inl ⟨hhws, fun _ => hs⟩
    case isFalse => exact .inr (by rw [hhws]; unfold State.hwsOff State.updHws; rw [hnext])

section
variable {s : State} (a b : HwsRead)

theorem State.hwsNext_latched : (s.hwsNext a b).cyc = s.hws.cyc + 1 ∧ (s.hwsNext a b).fifo = [] ∧
    (s.hwsNext a b).vecG = (s.hws.latched s.reqWdog).vecG ∧ (s.hwsNext a b).vecI = (s.hws.latched s.reqWdog).vecI ∧
    (s.hwsNext a b).safe = s.hws.safe := by
  unfold State.hwsNext Hws.cycled
  rw [Hws.ticked_shape]
  exact ⟨rfl, rfl, rfl, rfl, rfl⟩

/-- Without a configuration, or in the safe state, no switch is closed. -/
theorem State.hwsNext_off (hoff : s.hws.configured = false ∨ s.hws.safe = true) :
    ∀ o ∈ (s.hwsNext a b).a.outs ++ (s.hwsNext a b).b.outs, o.on = false := by
  have hoff : (s.hws.latched s.reqWdog).ticked.configured = false ∨ (s.hws.latched s.reqWdog).ticked.safe = true := by
    rw [Hws.ticked_shape]
    exact hoff
  intro o ho
  rcases List.mem_append.1 ho with ho | ho
  · exact HCh.step_off _ hoff o ho
  · exact HCh.step_off _ hoff o ho

theorem State.hwsNext_trips {n : Nat} {v : Nat × Nat × Nat} (hn : n < 8) (hc : s.hws.configured = true) (hs : s.hws.safe = false)
    (hv : s.hws.newest 1 = some v) (hb : v.2.1.testBit n = true) (h31 : bit (s.hws.ow n 0) 31 = true)
    (h30 : bit (s.hws.ow n 0) 30 = false) (h26 : bit (s.hws.ow n 0) 26 = true) :
    ∃ p q, (s.hwsNext a b).a.outs[n]? = some p ∧ (s.hwsNext a b).b.outs[n]? = some q ∧ p.trip = true ∧ p.on = false ∧
      q.trip = true ∧ q.on = false := by
  have hl := Hws.lostI_latched hv s.reqWdog
  have hvec : (s.hws.latched s.reqWdog).vecI = v.2.1 := by simp only [Hws.latched, hv]
  have hcfg : (s.hws.latched s.reqWdog).ticked.cfg = s.hws.cfg := by rw [Hws.ticked_shape]; rfl
  have hrest : (s.hws.latched s.reqWdog).ticked.configured = true ∧ (s.hws.latched s.reqWdog).ticked.safe = false ∧
      (s.hws.latched s.reqWdog).ticked.lostI = false ∧ (s.hws.latched s.reqWdog).ticked.vecI.testBit n = true := by
    rw [Hws.ticked_shape]
    exact ⟨hc, hs, hl, by rw [← hb, ← hvec]⟩
  obtain ⟨h1, h2, h3, h4⟩ := hrest
  unfold Hws.ow at h31 h30 h26
  rw [← hcfg] at h31 h30 h26
  obtain ⟨p, hp, htp, hop⟩ := HCh.step_trips (bad := fun n => (a.sw.testBit n, b.sw.testBit n)) (r := a)
    (s.hws.latched s.reqWdog).ticked.a hn h1 h2 h3 h4 h31 h30 h26
  obtain ⟨q, hq, htq, hoq⟩ := HCh.step_trips (bad := fun n => (a.sw.testBit n, b.sw.testBit n)) (r := b)
    (s.hws.latched s.reqWdog).ticked.b hn h1 h2 h3 h4 h31 h30 h26
  exact ⟨p, q, hp, hq, htp, hop, htq, hoq⟩

/-- The switches of an output opened: it is off, and keeps its trip. -/
theorem State.hwsOff_get {n : Nat} {o : HOut} :
    (s.hws.a.outs[n]? = some o → s.hwsOff.hws.a.outs[n]? = some { o with on := false, chk := none, wait := true }) ∧
    (s.hws.b.outs[n]? = some o → s.hwsOff.hws.b.outs[n]? = some { o with on := false, chk := none, wait := true }) :=
  ⟨fun h => (List.getElem?_map).trans (by rw [h]; rfl), fun h => (List.getElem?_map).trans (by rw [h]; rfl)⟩

end

/-! ### Vectors, overloads and acknowledgements (R303, R304, R306) -/

section
variable {s : State}

theorem State.updSo_get {n m : Nat} {f : HOut → HOut} {o : HOut} :
    (s.hws.a.outs[m]? = some o → (s.updSo n f).hws.a.outs[m]? = some (if m = n then f o else o)) ∧
    (s.hws.b.outs[m]? = some o → (s.updSo n f).hws.b.outs[m]? = some (if m = n then f o else o)) := by
  unfold State.updSo State.updHws
  dsimp only
  constructor <;> intro h <;> rw [List.getElem?_map, List.getElem?_zipIdx, h] <;> simp

theorem State.updSo_other {n m : Nat} {f : HOut → HOut} (hm : m ≠ n) :
    (s.updSo n f).hws.a.outs[m]? = s.hws.a.outs[m]? ∧ (s.updSo n f).hws.b.outs[m]? = s.hws.b.outs[m]? := by
  unfold State.updSo State.updHws
  dsimp only
  constructor <;> rw [List.getElem?_map, List.getElem?_zipIdx]
  · cases s.hws.a.outs[m]? <;> simp [hm]
  · cases s.hws.b.outs[m]? <;> simp [hm]

/-- A fault of output `n` that has been set is seen. -/
theorem HOut.has_set (o : HOut) (b : Nat) : (o.set b).has b = true := by
  simp [HOut.has, HOut.set, Nat.testBit_or, Nat.testBit_two_pow_self]

theorem HOut.faults_turn {o : HOut} {c : Nat} {w0 w1 : Word} {want : Bool} : (o.turn c w0 w1 want).faults = o.faults := by
  unfold HOut.turn
  split <;> rfl

/-- OVERLOAD opens both switches of an output that is on, and is counted and told by both channels. -/
theorem exec_overload_opens {n : Nat} (hon : s.onTime = true) (hn : n < 8) (hso : s.soOn n = true) :
    ∃ t p q, exec (.outputOverload n) s = .next t ∧ t.hws.a.outs[n]? = some p ∧
      t.hws.b.outs[n]? = some q ∧ p.on = false ∧ p.has fOvl = true ∧ q.on = false ∧ q.has fOvl = true ∧
      (∀ m, m ≠ n → t.hws.a.outs[m]? = s.hws.a.outs[m]? ∧ t.hws.b.outs[m]? = s.hws.b.outs[m]?) ∧
      t.cn (pHWS 0) R.HWS_CNT_OUT_FAULT = min (cntMax (pHWS 0) R.HWS_CNT_OUT_FAULT) (s.cn (pHWS 0) R.HWS_CNT_OUT_FAULT + 1) ∧
      t.cn (pHWS 1) R.HWS_CNT_OUT_FAULT = min (cntMax (pHWS 1) R.HWS_CNT_OUT_FAULT) (s.cn (pHWS 1) R.HWS_CNT_OUT_FAULT + 1) ∧
      bit (t.hd (pHWS 0)).irqStatus 8 = true ∧ bit (t.hd (pHWS 1)).irqStatus 8 = true ∧
      ({ s with hws := t.hws, evr := t.evr } : State).Quiet [pHWS 0, pHWS 1] t := by
  obtain ⟨u, hu, hexec⟩ := act_next (f := fun s => if n < 8 then s.overload n else s) hon
  replace hu := hu.trans (if_pos hn)
  rw [State.overload, if_neg (by rw [hso]; decide)] at hu
  dsimp only at hu
  obtain ⟨ha, hb⟩ := Bool.and_eq_true_iff.1 hso
  obtain ⟨p, hp⟩ : ∃ p, s.hws.a.outs[n]? = some p := Option.ne_none_iff_exists'.1 fun h => by rw [h] at ha; exact absurd ha (by decide)
  obtain ⟨q, hq⟩ : ∃ q, s.hws.b.outs[n]? = some q := Option.ne_none_iff_exists'.1 fun h => by rw [h] at hb; exact absurd hb (by decide)
  generalize hf : (fun o : HOut => (o.set fOvl).turn s.hws.cyc (s.hws.ow n 0) (s.hws.ow n 1) false) = f at hu
  have hgp := (State.updSo_get (n := n) (f := f)).1 hp
  have hgq := (State.updSo_get (n := n) (f := f)).2 hq
  have hoth (m : Nat) (hm : m ≠ n) := s.updSo_other (f := f) hm
  rw [if_pos rfl] at hgp hgq
  have hset (o : HOut) : (f o).on = false ∧ (f o).has fOvl = true := by
    rw [← hf]
    exact ⟨HOut.on_turn_false, by rw [HOut.has, HOut.faults_turn]; exact o.has_set fOvl⟩
  obtain ⟨k, hk⟩ : ∃ k, s.updSo n f = { s with hws := k } := ⟨_, rfl⟩
  rw [hk] at hu hgp hgq hoth
  obtain ⟨hq0, hb0, hc0⟩ := ({ s with hws := k } : State).bump_irq_spec (pHWS 0) (o := R.HWS_CNT_OUT_FAULT) (i := 8) (by decide) (by decide)
  replace hu : u = ((((({ s with hws := k } : State).bump (pHWS 0) R.HWS_CNT_OUT_FAULT).irq (pHWS 0) 8).hwsRec 0 3 (8 + fOvl) n).bump
    (pHWS 1) R.HWS_CNT_OUT_FAULT).irq (pHWS 1) 8 := hu
  generalize (({ s with hws := k } : State).bump (pHWS 0) R.HWS_CNT_OUT_FAULT).irq (pHWS 0) 8 = v at *
  obtain ⟨e, he⟩ : ∃ e, v.hwsRec 0 3 (8 + fOvl) n = { v with evr := e } := ⟨_, rfl⟩
  rw [he] at hu
  obtain ⟨hq1, hb1, hc1⟩ := ({ v with evr := e } : State).bump_irq_spec (pHWS 1) (o := R.HWS_CNT_OUT_FAULT) (i := 8) (by decide) (by decide)
  rw [← hu] at hq1 hb1 hc1
  clear hu
  have hquiet : ({ s with hws := u.hws, evr := u.evr } : State).Quiet [pHWS 0, pHWS 1] u := by
    rw [hq1.hws, hq1.evr, show ({ v with evr := e } : State).hws = k from hq0.hws]
    exact ((hq0.withEvr e).mono (by simp)).trans (hq1.mono (by simp))
  have hhws : u.hws = k := hq1.hws.trans hq0.hws
  refine ⟨_, f p, f q, (exec_outputOverload n s).trans hexec, ?_, ?_, (hset p).1, (hset p).2, (hset q).1, (hset q).2, ?_, ?_, ?_, ?_, ?_,
    hquiet.pend⟩
  · exact (congrArg (fun h : Hws => h.a.outs[n]?) hhws).trans hgp
  · exact (congrArg (fun h : Hws => h.b.outs[n]?) hhws).trans hgq
  · intro m hm
    exact ⟨(congrArg (fun h : Hws => h.a.outs[m]?) hhws).trans (hoth m hm).1, (congrArg (fun h : Hws => h.b.outs[m]?) hhws).trans (hoth m hm).2⟩
  · exact (hq1.cn (pHWS 0) _ (by decide) (by decide)).trans hc0
  · refine hc1.trans ?_
    rw [show ({ v with evr := e } : State).cn (pHWS 1) R.HWS_CNT_OUT_FAULT = s.cn (pHWS 1) R.HWS_CNT_OUT_FAULT from
      hq0.cn (pHWS 1) _ (by decide) (by decide)]
  · exact (congrArg (fun h : Hdr => bit h.irqStatus 8) (hq1.hd (pHWS 0) (by decide))).trans hb0
  · exact hb1

/-- What FAULT_ACK leaves of an output's faults (R303, R304). -/
def HOut.acked (o : HOut) : HOut := { o with faults := o.faults &&& (if o.mirror then 0x30 else 0x3E) }

theorem State.faultAck_shape (out : Nat) : ∃ h, s.faultAck out = { s with hws := h } := by
  unfold State.faultAck iter
  refine List.foldlRecOn (motive := fun t : State => ∃ h, t = { s with hws := h }) _ _ ⟨s.hws, rfl⟩ fun t ht n _ => ?_
  obtain ⟨h, rfl⟩ := ht
  dsimp only
  split
  · exact ⟨_, rfl⟩
  · exact ⟨_, rfl⟩

/-- FAULT_ACK of the outputs in `out`, output by output. -/
theorem State.faultAck_get {out n : Nat} (hn : n < 8) {o : HOut} :
    (s.hws.a.outs[n]? = some o → (s.faultAck out).hws.a.outs[n]? = some (if out.testBit n then o.acked else o)) ∧
    (s.hws.b.outs[n]? = some o → (s.faultAck out).hws.b.outs[n]? = some (if out.testBit n then o.acked else o)) := by
  have stepA (i : Nat) (x : HOut) (t : State) (h : t.hws.a.outs[n]? = some x) :
      (if out.testBit i then t.updSo i HOut.acked else t).hws.a.outs[n]? = some (if n = i ∧ out.testBit i = true then x.acked else x) := by
    cases out.testBit i with
    | false => simpa using h
    | true => simpa using State.updSo_get.1 h
  have stepB (i : Nat) (x : HOut) (t : State) (h : t.hws.b.outs[n]? = some x) :
      (if out.testBit i then t.updSo i HOut.acked else t).hws.b.outs[n]? = some (if n = i ∧ out.testBit i = true then x.acked else x) := by
    cases out.testBit i with
    | false => simpa using h
    | true => simpa using State.updSo_get.2 h
  constructor <;> intro h
  · refine iter_visit (Pre := fun t : State => t.hws.a.outs[n]? = some o)
      (Post := fun t : State => t.hws.a.outs[n]? = some (if out.testBit n then o.acked else o)) hn h ?_ ?_ ?_
    · exact fun i t _ hi ht => (stepA i _ t ht).trans (by rw [if_neg (fun h => hi h.1.symm)])
    · exact fun t ht => (stepA n _ t ht).trans (by simp)
    · exact fun i t _ hi ht => (stepA i _ t ht).trans (by rw [if_neg (fun h => hi h.1.symm)])
  · refine iter_visit (Pre := fun t : State => t.hws.b.outs[n]? = some o)
      (Post := fun t : State => t.hws.b.outs[n]? = some (if out.testBit n then o.acked else o)) hn h ?_ ?_ ?_
    · exact fun i t _ hi ht => (stepB i _ t ht).trans (by rw [if_neg (fun h => hi h.1.symm)])
    · exact fun t ht => (stepB n _ t ht).trans (by simp)
    · exact fun i t _ hi ht => (stepB i _ t ht).trans (by rw [if_neg (fun h => hi h.1.symm)])

end
/-- The word a FAULT_ACK of the outputs `out` writes has its command bit set. -/
theorem bit_ackWord (out : Nat) : bit (w32 (1 + out % 256 * 2 ^ 8)) 0 = true := by
  rw [bit, w32, BitVec.toNat_ofNat, Nat.testBit_zero]
  simp only [decide_eq_true_eq]
  omega

theorem fld_ackWord {out : Nat} (h : out < 256) : fld (w32 (1 + out % 256 * 2 ^ 8)) 8 8 = out := by
  rw [fld, w32, BitVec.toNat_ofNat, Nat.shiftRight_eq_div_pow]
  omega

theorem State.hwsCmd_ack (s : State) {out : Nat} (h : out < 256) (hun : (s.hd (pHWS 0)).unlocked = true) :
    s.hwsCmd (w32 (1 + out % 256 * 2 ^ 8)) = s.faultAck out := by
  rw [State.hwsCmd, if_neg (by rw [bit_ackWord]; decide), if_pos hun, fld_ackWord h]

theorem exec_safetyCycle_spec {s : State} {a b : HwsRead} {mis : Bool} (hon : s.onTime = true)
    (hp : (s.hd (pHWS 0)).commitPending = false) :
    ∃ t, exec (.safetyCycle a b mis) s = .next t ∧ ({ s with hws := t.hws } : State).Told t ∧
      (t.hws = s.hwsNext a b ∧ (mis = true → (s.hwsNext a b).safe = true) ∨
        t.hws = (({ s with hws := s.hwsNext a b } : State).hwsOff).hws) := by
  obtain ⟨u, hu, htold, hhws⟩ := State.safetyCycle_spec a b mis hp
  refine ⟨{ u with pending := s.pending }, (exec_safetyCycle a b mis s).trans ((act_on _ _ s hon).trans (by rw [hu])), ?_, hhws⟩
  exact congrArg (fun x : State => ({ x with pending := s.pending } : State)) htold

/-- Settles O41: the cycle's latched vectors, trips and safe state; vectors on their way, overloads and acknowledgements. -/
theorem safetyIsland : Obligations.SafetyIsland := by
  unfold Obligations.SafetyIsland
  refine ⟨fun a b mis s hon hp => ?_, fun s hon => ⟨fun v rest hv => ⟨fun hfull => ?_, fun w tail hfull hr hw => ?_⟩, fun hnil => ?_,
    fun n hn hso => exec_overload_opens hon hn hso, fun n hso => ?_, fun out ho hun => ?_, fun out _ hun => ?_, ?_⟩⟩
  · obtain ⟨t, hexec, htold, hhws⟩ := exec_safetyCycle_spec (a := a) (b := b) (mis := mis) hon hp
    obtain ⟨hcyc, hfifo, hg, hi, hsafe⟩ := s.hwsNext_latched a b
    have hkept : t.hws.cyc = s.hws.cyc + 1 ∧ t.hws.fifo = [] ∧ t.hws.vecG = (s.hws.latched s.reqWdog).vecG ∧
        t.hws.vecI = (s.hws.latched s.reqWdog).vecI := by
      rcases hhws with ⟨h, -⟩ | h <;> rw [h]
      · exact ⟨hcyc, hfifo, hg, hi⟩
      · exact ⟨hcyc, hfifo, hg, hi⟩
    obtain ⟨hcyc, hfifo, hg, hi⟩ := hkept
    refine ⟨t, hexec, hcyc, hfifo, fun v hv => ?_, fun v hv => ?_, htold.mem, htold.img, htold.tbl, htold.tsu, htold.cyc, htold.hwsIn,
      htold.pwr, fun hoff => ?_, fun n v hn hc hs hv hb h31 h30 h26 => ?_, fun hmis => ?_⟩
    · rw [hg]; simp only [Hws.latched, hv]
    · rw [hi]; simp only [Hws.latched, hv]
    · rcases hhws with ⟨h, -⟩ | h <;> rw [h]
      · exact s.hwsNext_off a b hoff
      · exact State.off_hwsOff
    · obtain ⟨p, q, hp, hq, htp, hop, htq, hoq⟩ := s.hwsNext_trips a b hn hc hs hv hb h31 h30 h26
      rcases hhws with ⟨h, -⟩ | h <;> rw [h]
      · exact ⟨p, q, hp, hq, htp, hop, htq, hoq⟩
      · exact ⟨_, _, State.hwsOff_get.1 hp, State.hwsOff_get.2 hq, htp, rfl, htq, rfl⟩
    · rcases hhws with ⟨h, hs⟩ | h <;> rw [h]
      · have hs := hs hmis
        exact ⟨hs, s.hwsNext_off a b (.inr (hsafe.symm.trans hs))⟩
      · exact ⟨rfl, State.off_hwsOff⟩
  · rw [exec_safetyReqVector, act_on _ _ s hon, State.reqVectorIn, hv]
    dsimp only
    rw [if_pos (by rw [hfull]; rfl)]
  · rw [exec_safetyReqVector, act_on _ _ s hon, State.reqVectorIn, hv, hr]
    dsimp only
    have hfind : findI (fun w => w.1 == v.1) (w :: tail) = some (0, w) := by simp [findI, findI.go, hw]
    rw [if_neg (by rw [hfull]; decide), hfind]
    rfl
  · rw [exec_safetyReqVector]
    exact act_same (by rw [State.reqVectorIn, hnil])
  · rw [exec_outputOverload]
    refine act_same ?_
    split
    · exact if_pos (by rw [hso]; rfl)
    · rfl
  · obtain ⟨u, hu, hexec⟩ := actReg_next (p := pHWS 0) (f := fun s => s.hwsCmd (w32 (1 + out % 256 * 2 ^ 8))) hon
    replace hu := hu.trans (State.hwsCmd_ack _ ho (by rw [State.unlocked_touch, hun]))
    have ha (n : Nat) (o : HOut) (hn : n < 8) := State.faultAck_get (s := s.touch (pHWS 0)) (out := out) hn (o := o)
    obtain ⟨k, hk⟩ := (s.touch (pHWS 0)).faultAck_shape out
    rw [← hu] at hk ha
    obtain ⟨w, hw⟩ := s.touch_eq (pHWS 0)
    rw [hw] at hk ha
    exact ⟨_, (exec_faultAck out s).trans hexec, fun n o h hn => (ha n o hn).1 h, fun n o h hn => (ha n o hn).2 h, by rw [hk]⟩
  · rw [exec_faultAck]
    refine actReg_refuses hon (by decide) ?_
    rw [State.hwsCmd, if_neg (by rw [bit_ackWord]; decide), if_neg (by rw [State.unlocked_touch, hun]; decide)]
  · rw [exec_safetySelftestDone, act_on _ _ s hon]
    rfl

end Sys2Proof.Machine
end

section
/-!
PROOFS. The event deck: posts, flushes, and privileged records (R341 to R348).
-/
namespace Sys2Proof.Machine
open Sys2Proof

/-! ### What a step of the recorder leaves -/

/-- Beside the recorder itself, `t` differs from `s` only as a quiet step of the pages `ps`. -/
def State.Decked (ps : List Nat) (s t : State) : Prop := ({ s with evr := t.evr } : State).Quiet ps t

/-- Only the state of a flush differs. -/
def State.Flushes (s t : State) : Prop :=
  t = { s with evr := { s.evr with
    flushing := t.evr.flushing, fold := t.evr.fold, again := t.evr.again, pf3 := t.evr.pf3 } }

section
variable {ps : List Nat} {s t u : State}

theorem State.Quiet.decked (h : s.Quiet ps t) : s.Decked ps t := by
  unfold State.Decked
  rw [h.evr]
  exact h

theorem State.decked_updEvr (ps : List Nat) (s : State) (f : Evr → Evr) : s.Decked ps (s.updEvr f) := State.Quiet.refl _ _

theorem State.Decked.trans (h : s.Decked ps t) (h' : t.Decked ps u) : s.Decked ps u :=
  State.Quiet.trans (State.Quiet.withEvr h u.evr) h'

theorem State.Flushes.refl (s : State) : s.Flushes s := rfl

theorem State.Flushes.trans (h : s.Flushes t) (h' : t.Flushes u) : s.Flushes u := by
  unfold State.Flushes at *
  rw [h] at h'
  exact h'

theorem State.Flushes.shape (h : s.Flushes t) : t = { s with evr := t.evr } := by
  rw [State.Flushes] at h
  exact h.trans (congrArg (fun e => ({ s with evr := e } : State)) (congrArg State.evr h).symm)

theorem State.Flushes.decked (h : s.Flushes t) (ps : List Nat) : s.Decked ps t := by
  unfold State.Decked
  rw [← h.shape]
  exact State.Quiet.refl ps t

section
variable (h : s.Flushes t)
include h

theorem State.Flushes.ordBuf : t.evr.ordBuf = s.evr.ordBuf := by rw [h]
theorem State.Flushes.ordSeq : t.evr.ordSeq = s.evr.ordSeq := by rw [h]
theorem State.Flushes.cross : t.evr.cross = s.evr.cross := by rw [h]
theorem State.Flushes.privQ : t.evr.privQ = s.evr.privQ := by rw [h]
theorem State.Flushes.privSeq : t.evr.privSeq = s.evr.privSeq := by rw [h]
theorem State.Flushes.lost : t.evr.lost = s.evr.lost := by rw [h]
theorem State.Flushes.post : t.evr.post = s.evr.post := by rw [h]
theorem State.Flushes.hdrs : t.hdrs = s.hdrs := by rw [h]
theorem State.Flushes.cnts : t.cnts = s.cnts := by rw [h]

end

theorem State.flushes_flushStart (s : State) : s.Flushes s.flushStart := by
  unfold State.flushStart State.updEvr
  dsimp only
  split <;> rfl

theorem State.flushes_pfStep3 (s : State) : s.Flushes s.pfStep3 := by
  unfold State.pfStep3
  split
  · exact State.Flushes.trans (t := s.updEvr (fun e => { e with pf3 := true })) rfl (State.flushes_flushStart _)
  · exact State.Flushes.refl s

theorem State.pfStep3_idle (h : s.pwr.pfMode = false) : s.pfStep3 = s := if_neg (by rw [h]; simp)

end

/-! ### Ordinary records and their flush (R341, R343, R345) -/

section
variable {s : State} {r : Rec}

/-- The record joined the buffer with the next SEQ, counted. -/
structure State.Buffered (s : State) (r : Rec) (t : State) : Prop where
  ordBuf : t.evr.ordBuf = s.evr.ordBuf ++ [{ r with seq := s.evr.ordSeq }]
  ordSeq : t.evr.ordSeq = (s.evr.ordSeq + 1) % 2 ^ 32
  cross : t.evr.cross = s.evr.cross
  privQ : t.evr.privQ = s.evr.privQ
  post : t.evr.post = s.evr.post
  cn : t.cn pEVR R.EVR_CNT_ORD_RECORDS = min (cntMax pEVR R.EVR_CNT_ORD_RECORDS) (s.cn pEVR R.EVR_CNT_ORD_RECORDS + 1)
  decked : s.Decked [pEVR] t

theorem State.Buffered.flushes {t u : State} (h : s.Buffered r t) (hf : t.Flushes u) : s.Buffered r u where
  ordBuf := hf.ordBuf.trans h.ordBuf
  ordSeq := hf.ordSeq.trans h.ordSeq
  cross := hf.cross.trans h.cross
  privQ := hf.privQ.trans h.privQ
  post := hf.post.trans h.post
  cn := by rw [State.cn, hf.cnts]; exact h.cn
  decked := h.decked.trans (hf.decked _)

theorem State.Buffered.irq {t : State} (h : s.Buffered r t) (i : Nat) : s.Buffered r (t.irq pEVR i) where
  ordBuf := by rw [State.irq_evr]; exact h.ordBuf
  ordSeq := by rw [State.irq_evr]; exact h.ordSeq
  cross := by rw [State.irq_evr]; exact h.cross
  privQ := by rw [State.irq_evr]; exact h.privQ
  post := by rw [State.irq_evr]; exact h.post
  cn := by rw [State.cn, State.irq_cnts]; exact h.cn
  decked := h.decked.trans ((State.Quiet.refl [pEVR] t).irq (by simp) i).decked

/-- A record that folds into none and fits joins the buffer. -/
theorem State.ordAccept_buffered (hf : s.foldInto r = none) (hfit : s.evr.ordFill + r.size ≤ 2 ^ 21) :
    s.Buffered r (s.ordAccept r) := by
  unfold State.ordAccept
  rw [hf]
  dsimp -zeta only
  rw [if_neg (by omega)]
  extract_lets before r' off v1 v2
  have h2 : s.Buffered r v2 := by
    dsimp only [v2]
    exact {
      ordBuf := by rw [State.bump_evr]; rfl
      ordSeq := by rw [State.bump_evr]; rfl
      cross := by rw [State.bump_evr]; rfl
      privQ := by rw [State.bump_evr]; rfl
      post := by rw [State.bump_evr]; rfl
      cn := v1.cn_bump _ _
      decked := (s.decked_updEvr _ _).trans ((State.Quiet.refl [pEVR] v1).bump (by simp) _ (by decide)).decked }
  split
  · exact (h2.irq 4).flushes (State.flushes_flushStart _)
  · exact h2

/-- One record to flash leaves what the recorder still holds. -/
theorem State.ordOut_spec (r : Rec) : ∃ t, s.ordOut r = t ∧ s.Decked [pEVR, pMEM] t ∧
    t.cn pEVR R.EVR_CNT_FLUSH = s.cn pEVR R.EVR_CNT_FLUSH ∧
    t.evr = { s.evr with ordSegs := t.evr.ordSegs, segSeq := t.evr.segSeq } := by
  refine ⟨_, rfl, ?_⟩
  unfold State.ordOut
  extract_lets x reuse s1 s2
  have hq2 : s1.Quiet [pEVR, pMEM] s2 := (State.Quiet.refl _ s1).bumpBy (by simp) _ _ (by decide)
  have hc2 : s2.cn pEVR R.EVR_CNT_FLUSH = s.cn pEVR R.EVR_CNT_FLUSH := s1.cn_bumpBy_other _ _ _ _ _ (by decide)
  have he2 : s2.evr = { s.evr with ordSegs := s2.evr.ordSegs, segSeq := s2.evr.segSeq } := by
    rw [hq2.evr]
    rfl
  have hd2 : s.Decked [pEVR, pMEM] s2 := (s.decked_updEvr _ _).trans hq2.decked
  split
  · have hq3 : s2.Quiet [pEVR, pMEM] (s2.bump pEVR R.EVR_CNT_SEG_OVERWRITE) := (State.Quiet.refl _ s2).bump (by simp) _ (by decide)
    refine ⟨hd2.trans hq3.decked, (s2.cn_bumpBy_other _ _ _ _ _ (by decide)).trans hc2, ?_⟩
    rw [hq3.evr]
    exact he2
  · exact ⟨hd2, hc2, he2⟩

theorem State.ordOuts_spec (l : List Rec) : ∃ t, l.foldl State.ordOut s = t ∧ s.Decked [pEVR, pMEM] t ∧
    t.cn pEVR R.EVR_CNT_FLUSH = s.cn pEVR R.EVR_CNT_FLUSH ∧
    t.evr = { s.evr with ordSegs := t.evr.ordSegs, segSeq := t.evr.segSeq } := by
  induction l generalizing s with
  | nil => exact ⟨s, rfl, State.Quiet.refl _ _, rfl, rfl⟩
  | cons r l ih =>
    obtain ⟨t, ht, hd, hc, he⟩ := s.ordOut_spec r
    obtain ⟨u, hu, hd', hc', he'⟩ := ih (s := t)
    refine ⟨u, by rw [List.foldl_cons, ht, hu], hd.trans hd', hc'.trans hc, ?_⟩
    rw [he] at he'
    exact he'

/-- The end of a flush removes its records, counted, and a further start follows it. -/
theorem State.flushDone_spec {n : Nat} (hn : s.evr.flushing = some n) (hro : s.memSt.readOnly = false)
    (hpf : s.pwr.pfMode = false ∨ s.evr.pf3 = true) : ∃ t, s.flushDone = t ∧
      t.evr.ordBuf = s.evr.ordBuf.drop n ∧ t.evr.again = false ∧
      t.evr.flushing = (if s.evr.again then some (s.evr.ordBuf.drop n).length else none) ∧ t.evr.ordSeq = s.evr.ordSeq ∧
      t.evr.privQ = s.evr.privQ ∧
      t.cn pEVR R.EVR_CNT_FLUSH = min (cntMax pEVR R.EVR_CNT_FLUSH) (s.cn pEVR R.EVR_CNT_FLUSH + 1) ∧
      bit (t.hd pEVR).irqStatus 5 = true ∧ s.Decked [pEVR, pMEM] t := by
  refine ⟨_, rfl, ?_⟩
  unfold State.flushDone
  rw [hn]
  dsimp -zeta only
  rw [if_neg (by rcases hpf with h | h <;> simp [hro, h])]
  extract_lets out s1 s2 s3
  obtain ⟨t, ht, hd, hc, he⟩ := s.ordOuts_spec out
  have hs1 : s1 = t := ht
  obtain ⟨k, hk⟩ : ∃ k : Evr, s2 = { s1 with evr := k } ∧ k.ordBuf = s.evr.ordBuf.drop n ∧ k.flushing = none ∧ k.again = s.evr.again ∧
      k.ordSeq = s.evr.ordSeq ∧ k.privQ = s.evr.privQ :=
    ⟨_, rfl, by rw [hs1, he], rfl, by rw [hs1, he], by rw [hs1, he], by rw [hs1, he]⟩
  obtain ⟨hs2, hbuf, hfl, hag, hseq, hpq⟩ := hk
  obtain ⟨hq3, hb3, hc3⟩ := s2.bump_irq_spec pEVR (o := R.EVR_CNT_FLUSH) (i := 5) (by decide) (by decide)
  have he3 : s3.evr = k := hq3.evr.trans (by rw [hs2])
  have hc3 : s3.cn pEVR R.EVR_CNT_FLUSH = min (cntMax pEVR R.EVR_CNT_FLUSH) (s.cn pEVR R.EVR_CNT_FLUSH + 1) := by
    rw [← hc, ← hs1]
    exact hc3.trans (by rw [hs2]; rfl)
  have hd3 : s.Decked [pEVR, pMEM] s3 := by
    refine (hd.trans ?_).trans (hq3.mono (by simp)).decked
    rw [← hs1]
    exact s1.decked_updEvr _ _
  rw [he3]
  cases ha : s.evr.again with
  | false =>
    rw [if_neg (by rw [hag, ha]; decide)]
    refine ⟨by rw [he3, hbuf], by rw [he3, hag, ha], ?_, by rw [he3, hseq], by rw [he3, hpq], hc3, hb3, hd3⟩
    rw [he3, hfl]
    rfl
  | true =>
    rw [if_pos (by rw [hag, ha])]
    have hst : (s3.updEvr (fun e => { e with again := false })).flushStart =
        s3.updEvr (fun e => { e with again := false, flushing := some e.ordBuf.length, fold := [] }) := by
      unfold State.flushStart State.updEvr
      dsimp only
      rw [if_neg (by rw [he3, hfl]; decide)]
    rw [hst]
    refine ⟨?_, rfl, ?_, ?_, ?_, hc3, hb3, hd3.trans (s3.decked_updEvr _ _)⟩
    · exact (congrArg Evr.ordBuf he3).trans hbuf
    · rw [if_pos rfl, ← hbuf, ← he3]; rfl
    · exact (congrArg Evr.ordSeq he3).trans hseq
    · exact (congrArg Evr.privQ he3).trans hpq

end

/-! ### Privileged records (R342, R347, R348) -/

section
variable {s : State} {r : Rec} {rest : List Rec}

theorem State.privAccept_spec (r : Rec) : ∃ t, s.privAccept r = t ∧ t.evr.privQ = s.evr.privQ ++ [{ r with seq := s.evr.privSeq }] ∧
    t.evr.privSeq = (s.evr.privSeq + 1) % 2 ^ 32 ∧ t.evr.cross = s.evr.cross ∧ t.evr.lost = s.evr.lost ∧
    ([8, 10, 11, 13].contains r.cls = true → t.evr.flushing ≠ none) ∧
    ([8, 10, 11, 13].contains r.cls = false → t.evr.flushing = s.evr.flushing) ∧ t = { s with evr := t.evr } := by
  refine ⟨_, rfl, ?_⟩
  unfold State.privAccept
  extract_lets r' s1
  have hcls : r'.cls = r.cls := rfl
  rw [hcls]
  cases hc : [8, 10, 11, 13].contains r.cls with
  | false =>
    rw [if_neg (by decide)]
    exact ⟨rfl, rfl, rfl, rfl, fun h => absurd h (by decide), fun _ => rfl, rfl⟩
  | true =>
    rw [if_pos rfl]
    have hf := s1.flushes_flushStart
    have hsome := s1.flushStart_flushing
    refine ⟨hf.privQ, hf.privSeq, hf.cross, hf.lost, fun _ h => ?_, fun h => absurd h (by decide), hf.shape⟩
    rw [h] at hsome
    exact absurd hsome (by decide)

theorem Rec.length_bytes : (r.bytes ++ r.mark).length = r.size := by
  simp only [Rec.bytes, Rec.mark, Rec.size, List.length_append, length_bytesLE]
  omega

/-- MRAM bytes read back as they were written. -/
theorem State.mramBytes_written (s : State) (a : Nat) (bs : List Nat) :
    (s.writeMram a bs).mramBytes a bs.length = bs.map (fun b => b % 256) := by
  refine List.ext_getElem (by simp [State.mramBytes]) fun i h1 h2 => ?_
  have hi : i < bs.length := by simpa using h2
  simp only [State.mramBytes, State.writeMram, List.getElem_map, List.getElem_range]
  rw [sget_putBytes, if_pos (by omega), Nat.add_sub_cancel_left, BitVec.toNat_ofNat, List.getElem?_eq_getElem hi]
  rfl

/-- The head of the queue written to the privileged area. -/
theorem State.privWrite_room (hq : s.evr.privQ = r :: rest) (hroom : s.evr.room r.size = true) (hw : s.evr.wptr + r.size ≤ 65536) :
    ∃ t, s.privWrite = t ∧
      t.evr = { s.evr with
        privQ := rest, ring := s.evr.ring ++ [(s.evr.wptr, r.size, some r.seq)], unmirrored := s.evr.unmirrored ++ [r]
        wptr := (s.evr.wptr + r.size) % 65536 } ∧
      t.mramBytes s.evr.wptr r.size = (r.bytes ++ r.mark).map (fun b => b % 256) ∧
      (∀ a, a < s.evr.wptr ∨ s.evr.wptr + r.size ≤ a → sget 0 a t.mram = sget 0 a s.mram) ∧
      t.cn pEVR R.EVR_CNT_PRIV_RECORDS = min (cntMax pEVR R.EVR_CNT_PRIV_RECORDS) (s.cn pEVR R.EVR_CNT_PRIV_RECORDS + 1) ∧
      ({ s with evr := t.evr, mram := t.mram } : State).Quiet [pEVR] t := by
  have hpad : s.evr.padFor r.size = 0 := if_neg (by omega)
  obtain ⟨u, hu⟩ : ∃ u : State, u = { s with
      evr := { s.evr with
        privQ := rest, ring := s.evr.ring ++ [(s.evr.wptr, r.size, some r.seq)], unmirrored := s.evr.unmirrored ++ [r]
        wptr := (s.evr.wptr + r.size) % 65536 }, mram := (s.writeMram s.evr.wptr (r.bytes ++ r.mark)).mram } := ⟨_, rfl⟩
  have hrun : s.privWrite = u.bump pEVR R.EVR_CNT_PRIV_RECORDS := by
    unfold State.privWrite
    rw [hq]
    dsimp only
    rw [if_neg (by rw [hroom]; decide), hpad, if_pos rfl, if_pos rfl, hu]
    simp only [if_true, List.append_nil, State.updEvr, State.writeMram]
  have hquiet : u.Quiet [pEVR] (u.bump pEVR R.EVR_CNT_PRIV_RECORDS) := (State.Quiet.refl [pEVR] u).bump (by simp) _ (by decide)
  have hcn := u.cn_bump pEVR R.EVR_CNT_PRIV_RECORDS
  rw [hrun]
  generalize u.bump pEVR R.EVR_CNT_PRIV_RECORDS = t at *
  have hm : t.mram = (s.writeMram s.evr.wptr (r.bytes ++ r.mark)).mram := hquiet.mram.trans (by rw [hu])
  have hev : t.evr = u.evr := hquiet.evr
  refine ⟨t, rfl, by rw [hev, hu], ?_, fun a ha => ?_, hcn.trans (by rw [State.cn, hu, State.cn]), ?_⟩
  · have := s.mramBytes_written s.evr.wptr (r.bytes ++ r.mark)
    rw [Rec.length_bytes] at this
    rw [← this, State.mramBytes, hm]
    rfl
  · rw [hm]
    rw [State.writeMram, sget_putBytes, if_neg (by rw [Rec.length_bytes]; omega)]
  · rw [hev, hm]
    rw [hu] at hquiet ⊢
    exact hquiet

theorem State.privLost_spec (s : State) : ∃ t, s.privLost = t ∧ t.evr = { s.evr with lost := s.evr.lost + 1 } ∧ t.mram = s.mram ∧
    t.cn pEVR R.EVR_CNT_PRIV_LOST = min (cntMax pEVR R.EVR_CNT_PRIV_LOST) (s.cn pEVR R.EVR_CNT_PRIV_LOST + 1) ∧
    bit (t.hd pEVR).irqStatus 7 = true ∧ s.Decked [pEVR] t := by
  obtain ⟨hq, hb, hc⟩ := (s.updEvr (fun e => { e with lost := e.lost + 1 })).bump_irq_spec pEVR (o := R.EVR_CNT_PRIV_LOST) (i := 7)
    (by decide) (by decide)
  exact ⟨_, rfl, hq.evr, hq.mram, hc, hb, (s.decked_updEvr _ _).trans hq.decked⟩

theorem segAppend_mem (next pwr : Nat) (r : Rec) (l : List Seg) : ∃ g ∈ (segAppend next pwr r l).1, r ∈ g.recs := by
  unfold segAppend
  split
  · split <;> exact ⟨_, List.mem_cons_self, by simp⟩
  · exact ⟨_, List.mem_cons_self, by simp⟩

/-- The oldest unmirrored record goes to the mirror region. -/
theorem State.privMirror_spec (hu : s.evr.unmirrored = r :: rest) (hpf : s.pwr.pfMode = false) (hro : s.memSt.readOnly = false)
    (hfull : s.evr.mirFull r.size = false) : ∃ t, s.privMirror = t ∧ t.evr.unmirrored = rest ∧ t.evr.mirrorSeq = r.seq ∧
      (∃ g ∈ t.evr.mirSegs, r ∈ g.recs) ∧ t.evr.privQ = s.evr.privQ ∧ t.mram = s.mram ∧ s.Decked [pEVR, pMEM] t := by
  refine ⟨_, rfl, ?_⟩
  unfold State.privMirror
  rw [hu]
  dsimp -zeta only
  rw [if_neg (by simp [State.evrPf, hpf, hro, hfull])]
  extract_lets x e near keep s1 s2
  have hq2 : s1.Quiet [pEVR, pMEM] s2 := (State.Quiet.refl _ s1).bumpBy (by simp) _ _ (by decide)
  have h2 : s2.evr.unmirrored = rest ∧ s2.evr.mirrorSeq = r.seq ∧ (∃ g ∈ s2.evr.mirSegs, r ∈ g.recs) ∧ s2.evr.privQ = s.evr.privQ ∧
      s2.mram = s.mram ∧ s.Decked [pEVR, pMEM] s2 := by
    rw [hq2.evr, hq2.mram]
    exact ⟨rfl, rfl, segAppend_mem _ _ _ _, rfl, rfl, (s.decked_updEvr _ _).trans hq2.decked⟩
  obtain ⟨h1, hm, hg, hp, hr, hd⟩ := h2
  split
  · rw [State.irq_evr, State.irq_mram]
    exact ⟨h1, hm, hg, hp, hr, hd.trans ((State.Quiet.refl _ s2).irq (by simp) 9).decked⟩
  · exact ⟨h1, hm, hg, hp, hr, hd⟩

/-- The body of a post read over clean memory: its record joins the buffer (R341, R343). -/
theorem State.postDone_spec {a n : Nat} (hpost : s.evr.post = some (r, a, n)) (hf : s.flips = []) (hp : s.poison = [])
    (hfold : s.foldInto { r with body := s.bytes a n } = none) (hfit : s.evr.ordFill + 48 + n ≤ 2 ^ 21) :
    ∃ t, s.postDone = t ∧ t.evr.ordBuf = s.evr.ordBuf ++ [{ r with body := s.bytes a n, seq := s.evr.ordSeq }] ∧
      t.evr.ordSeq = (s.evr.ordSeq + 1) % 2 ^ 32 ∧ t.evr.cross = s.evr.cross ∧ t.evr.privQ = s.evr.privQ ∧ t.evr.post = none ∧
      t.cn pEVR R.EVR_CNT_ORD_RECORDS = min (cntMax pEVR R.EVR_CNT_ORD_RECORDS) (s.cn pEVR R.EVR_CNT_ORD_RECORDS + 1) ∧
      bit (t.hd pEVR).irqStatus 10 = true ∧ s.Decked [pEVR] t := by
  refine ⟨_, rfl, ?_⟩
  unfold State.postDone
  rw [hpost]
  dsimp only
  rw [s.readMem_clean a n 2 0 hf hp]
  dsimp only
  rw [if_neg (by decide)]
  have hd0 := s.decked_updEvr [pEVR] (fun e => { e with post := none })
  have hsize : ({ r with body := s.bytes a n } : Rec).size = 48 + n := by simp [Rec.size, State.bytes]
  have hb := State.ordAccept_buffered (s := s.updEvr (fun e => { e with post := none })) (r := { r with body := s.bytes a n }) hfold
    (by rw [hsize, ← Nat.add_assoc]; exact hfit)
  obtain ⟨x, hx⟩ : ∃ x, (s.updEvr (fun e => { e with post := none })).ordAccept { r with body := s.bytes a n } = x := ⟨_, rfl⟩
  rw [hx] at hb ⊢
  have h10 := State.bit_irq x pEVR (i := 10) (by decide)
  have hfl := (x.irq pEVR 10).flushes_pfStep3
  have hall := (hb.irq 10).flushes hfl
  have hhd : bit (((x.irq pEVR 10).pfStep3).hd pEVR).irqStatus 10 = true := by
    rw [State.hd, hfl.hdrs]
    exact h10
  exact ⟨hall.ordBuf, hall.ordSeq, hall.cross, hall.privQ, hall.post, hall.cn, hhd, hd0.trans hall.decked⟩

end

/-! ### The commands -/

section
variable {s : State}

/-- The record of a post, its body still to be read (R341). -/
def State.postRec (s : State) (v : Word) : Rec :=
  { s.mkRec (0x8000 + fld (s.rg pEVR R.EVR_POST_INFO) 0 15) (fld v 0 4) (fld (s.rg pEVR R.EVR_POST_INFO) 16 8) [] with body := [] }

section
variable {v : Word} {a len : Nat} (ha : a = s.rg64 pEVR R.EVR_POST_ADDR) (hl : len = fld (s.rg pEVR R.EVR_POST_INFO) 24 8)
  (h2 : 2 ≤ len) (h128 : len ≤ 128) (h8 : a % 8 = 0) (hr : postRange a (len * 8) = true) (hc : fld v 0 4 ≤ 7)
include ha hl h2 h128 h8 hr hc

theorem State.evrPost_taken (hp : s.evr.post = none) (hpf : s.pwr.pfMode = false) :
    s.evrPost v = { s with evr := { s.evr with post := some (s.postRec v, a, len * 8) } } := by
  unfold State.evrPost
  extract_lets info k b cls r
  have hk : k = len := hl.symm
  have hb : b = a := ha.symm
  have hbad : ¬(len = 1 ∨ 128 < len ∨ a % 8 ≠ 0 ∨ (!postRange a (len * 8)) = true ∨ 7 < cls) := by
    rw [hr]
    simp only [Bool.not_true, Bool.false_eq_true, false_or, cls]
    omega
  rw [hk, hb, if_neg (by omega), if_neg hbad, if_neg (by rw [hp]; decide),
    if_neg (by simp [State.evrPf, hpf])]
  rfl

theorem State.evrPost_busy (hp : s.evr.post ≠ none) : s.evrPost v = s.refuse pEVR R.EVR_POST_CMD 0x40 := by
  unfold State.evrPost
  extract_lets info k b cls r
  have hk : k = len := hl.symm
  have hb : b = a := ha.symm
  have hbad : ¬(len = 1 ∨ 128 < len ∨ a % 8 ≠ 0 ∨ (!postRange a (len * 8)) = true ∨ 7 < cls) := by
    rw [hr]
    simp only [Bool.not_true, Bool.false_eq_true, false_or, cls]
    omega
  rw [hk, hb, if_neg (by omega), if_neg hbad, if_pos (Option.isSome_iff_ne_none.2 hp)]

end

theorem State.evrPost_empty {v : Word} (h0 : fld (s.rg pEVR R.EVR_POST_INFO) 24 8 = 0) :
    s.evrPost v = s.refuse pEVR R.EVR_POST_CMD Err.zeroField := if_pos h0

theorem exec_evrPost_refused {v : Word} {c : Nat} (hon : s.onMain = true)
    (h : (s.touch pEVR).evrPost v = (s.touch pEVR).refuse pEVR R.EVR_POST_CMD c) :
    ∃ t, exec (.evrPost v) s = .next t ∧ (t.hd pEVR).errCode = w32 (R.EVR_POST_CMD * 256 + c) ∧ s.Quiet [pEVR] t := by
  rw [exec_evrPost]
  exact actReg_refuses hon (by decide) h

end

/-- Settles O43: posts and the ordinary buffer, flushes, the privileged queue, its area, its losses and its mirror. -/
theorem eventDeck : Obligations.EventDeck := by
  unfold Obligations.EventDeck
  refine ⟨fun s hon => ⟨fun v info a len hinfo ha hlen => ⟨fun h2 h128 h8 hr hc hp hpf => ?_, fun h0 => ?_,
    fun h2 h128 h8 hr hc hp => ?_⟩, fun r a n hpost hf hp hfold hfit => ?_, fun hnone => ?_, fun hfl => ?_, fun hfl => ?_,
    fun n hn => ⟨fun hro hpf => ?_, fun hro => ?_⟩⟩, fun s hon => ⟨fun r rest hcross hcls => ⟨fun hlen => ?_, fun hlen hsrc => ?_,
    fun hlen hsa hsb hnil => ?_⟩, fun r rest hq hpf => ⟨fun hroom hw => ?_, fun hroom => ?_⟩, fun hl hlen hroom => ?_, fun hl => ?_,
    fun r rest hu hpf hro => ⟨fun hfull => ?_, fun hfull => ?_⟩, fun v => ?_⟩⟩
  · obtain ⟨u, hu, hexec⟩ := actReg_next (p := pEVR) (f := fun s => s.evrPost v) hon
    obtain ⟨w, hw⟩ := s.touch_eq pEVR
    rw [hw] at hu
    subst hinfo
    replace hu := hu.trans (State.evrPost_taken (s := { s with hdrs := w }) ha hlen h2 h128 h8 hr hc hp hpf)
    exact ⟨_, _, (exec_evrPost v s).trans hexec, by rw [hu], rfl, rfl, rfl, rfl, by rw [hu]⟩
  · refine exec_evrPost_refused hon (State.evrPost_empty ?_)
    rw [s.touch_shape pEVR]
    rw [hlen, hinfo] at h0
    exact h0
  · refine exec_evrPost_refused hon ?_
    obtain ⟨w, hw⟩ := s.touch_eq pEVR
    rw [hw]
    subst hinfo
    exact State.evrPost_busy (s := { s with hdrs := w }) ha hlen h2 h128 h8 hr hc hp
  · obtain ⟨u, hu, hexec⟩ := act_next (f := State.postDone) hon
    obtain ⟨t, ht, hbuf, hseq, hx, hpq, hpost, hcn, hb, hd⟩ := State.postDone_spec hpost hf hp hfold hfit
    rw [ht] at hu
    rw [hu] at hexec
    exact ⟨_, (exec_postDone s).trans hexec, hpost, hbuf, hseq, hx, hpq, hcn, hb, State.Quiet.pend hd⟩
  · rw [exec_postDone]
    exact act_same (by rw [State.postDone, hnone])
  · obtain ⟨u, hu, hexec⟩ := actReg_next (p := pEVR) (f := State.flushStart) hon
    obtain ⟨w, hw⟩ := s.touch_eq pEVR
    rw [hw, State.flushStart, State.updEvr] at hu
    replace hu := hu.trans (congrArg (fun e => ({ s with hdrs := w, evr := e } : State)) (if_neg (by rw [show _ = none from hfl]; decide)))
    exact ⟨_, (exec_flush s).trans hexec, by rw [hu]⟩
  · obtain ⟨u, hu, hexec⟩ := actReg_next (p := pEVR) (f := State.flushStart) hon
    obtain ⟨w, hw⟩ := s.touch_eq pEVR
    rw [hw, State.flushStart, State.updEvr] at hu
    replace hu := hu.trans (congrArg (fun e => ({ s with hdrs := w, evr := e } : State)) (if_pos (Option.isSome_iff_ne_none.2 hfl)))
    exact ⟨_, (exec_flush s).trans hexec, by rw [hu]⟩
  · obtain ⟨t, ht, hbuf, hag, hfl, hseq, hpq, hc, hb, hd⟩ := State.flushDone_spec hn hro hpf
    obtain ⟨u, hu, hexec⟩ := act_next (f := State.flushDone) hon
    rw [ht] at hu
    rw [hu] at hexec
    exact ⟨_, (exec_flushDone s).trans hexec, hbuf, hag, hfl, hseq, hpq, hc, hb, State.Quiet.pend hd⟩
  · rw [exec_flushDone]
    refine act_same ?_
    rw [State.flushDone, hn]
    exact if_pos (by rw [hro]; rfl)
  · obtain ⟨u, hu, hexec⟩ := act_next (f := State.hwSubmit) hon
    have hfind : findI s.canSubmit s.evr.cross = some (0, r) := by
      rw [hcross]
      exact if_pos (by simp [State.canSubmit, hlen])
    rw [State.hwSubmit, hfind] at hu
    dsimp only at hu
    rw [if_neg (by omega)] at hu
    replace hu := hu.trans (if_neg (show ¬64 ≤ s.evr.privQ.length by omega))
    obtain ⟨t, ht, hpq, hps, hx, hl, hstart, hkeep, hshape⟩ := State.privAccept_spec (s := s.updEvr (fun e => { e with cross := e.cross.eraseIdx 0 })) r
    rw [ht] at hu
    rw [hu] at hexec
    refine ⟨_, (exec_hwRecordSubmit s).trans hexec, hx.trans ?_, hpq, hps, hstart, hkeep, by rw [hshape]; rfl⟩
    exact (congrArg (List.eraseIdx · 0) hcross).trans rfl
  · obtain ⟨u, hu, hexec⟩ := act_next (f := State.hwSubmit) hon
    have hfind : findI s.canSubmit s.evr.cross = some (0, r) := by
      rw [hcross]
      exact if_pos (by simp [State.canSubmit, hsrc])
    rw [State.hwSubmit, hfind] at hu
    dsimp only at hu
    rw [if_neg (by omega)] at hu
    replace hu := hu.trans (if_pos (show 64 ≤ s.evr.privQ.length by omega))
    obtain ⟨t, ht, he, -, hc, hb, hd⟩ := (s.updEvr (fun e => { e with cross := e.cross.eraseIdx 0 })).privLost_spec
    rw [ht] at hu
    rw [hu] at hexec
    refine ⟨_, (exec_hwRecordSubmit s).trans hexec, he.trans ?_, hc, hb, State.Quiet.pend ((s.decked_updEvr [pEVR] _).trans hd)⟩
    have hrest : s.evr.cross.eraseIdx 0 = rest := by rw [hcross]; rfl
    rw [← hrest]
    rfl
  · rw [exec_hwRecordSubmit]
    refine act_same ?_
    have hfind : findI s.canSubmit s.evr.cross = none := by
      rw [hcross, hnil]
      exact if_neg (by simp [State.canSubmit, hsa, hsb]; omega)
    rw [State.hwSubmit, hfind]
  · obtain ⟨u, hu, hexec⟩ := act_next (f := fun s => s.privWrite.pfStep3) hon
    obtain ⟨t, ht, he, hb, ho, hc, hd⟩ := State.privWrite_room hq hroom hw
    rw [ht, State.pfStep3_idle (by rw [hd.pwr]; exact hpf)] at hu
    rw [hu] at hexec
    exact ⟨_, (exec_privRecordWrite s).trans hexec, he, hb, ho, hc, hd.pend⟩
  · obtain ⟨u, hu, hexec⟩ := act_next (f := fun s => s.privWrite.pfStep3) hon
    obtain ⟨t, ht, he, hm, -, hb, hd⟩ := (s.updEvr (fun e => { e with privQ := rest })).privLost_spec
    have hrun : s.privWrite = t := by
      rw [← ht, State.privWrite, hq]
      exact if_pos (by rw [hroom]; rfl)
    rw [hrun, State.pfStep3_idle (by rw [State.Quiet.pwr hd]; exact hpf)] at hu
    rw [hu] at hexec
    exact ⟨_, (exec_privRecordWrite s).trans hexec, he, hm, hb⟩
  · obtain ⟨u, hu, hexec⟩ := act_next (f := State.privLossRec) hon
    have hrun : s.privLossRec = (s.updEvr (fun e => { e with lost := 0 })).privAccept
        (s.mkRec pEVR 13 0x05 (tagBody (tagOf s.tick) ++ bytesLE 8 s.evr.lost)) :=
      if_neg (by rw [hroom]; simp; omega)
    obtain ⟨t, ht, hpq, -, -, hlost, -, -, hshape⟩ := State.privAccept_spec (s := s.updEvr (fun e => { e with lost := 0 }))
      (s.mkRec pEVR 13 0x05 (tagBody (tagOf s.tick) ++ bytesLE 8 s.evr.lost))
    rw [hrun, ht] at hu
    rw [hu] at hexec
    refine ⟨_, _, (exec_privLossRecord s).trans hexec, hlost, hpq, rfl, rfl, rfl, rfl, ?_, by rw [hshape]; rfl⟩
    simp [State.mkRec, tagBody, length_bytesLE, cdiv]
  · rw [exec_privLossRecord]
    exact act_same (if_pos (.inl hl))
  · obtain ⟨t, ht, h1, hm, hg, hp, hr, hd⟩ := State.privMirror_spec hu hpf hro hfull
    obtain ⟨u, hu, hexec⟩ := act_next (f := State.privMirror) hon
    rw [ht] at hu
    rw [hu] at hexec
    exact ⟨_, (exec_privMirror s).trans hexec, h1, hm, hg, hp, hr, State.Quiet.pend hd⟩
  · rw [exec_privMirror]
    refine act_same ?_
    rw [State.privMirror, hu]
    exact if_pos (by rw [hfull]; simp)
  · obtain ⟨u, hu, hexec⟩ := actReg_next (p := pEVR) (f := fun s => s.privRelease v) hon
    obtain ⟨w, hw⟩ := s.touch_eq pEVR
    rw [hw] at hu
    exact ⟨_, (exec_evrPrivRelease v s).trans hexec, by rw [hu]; rfl, by rw [hu]; rfl⟩

end Sys2Proof.Machine
end

section
/-!
PROOFS. The pair: changes of state and role at a cycle boundary, divergence, the commands of the pair, and injected points
(R354, R360, R364, R371 to R374).
-/
namespace Sys2Proof.Machine
open Sys2Proof

/-! ### What the work of a cycle boundary leaves of the pair, the cycle and the STOPs that wait -/

structure State.Steady (s t : State) : Prop where
  dup : t.dup = s.dup
  cyc : t.cyc.cyc = s.cyc.cyc
  stop : ∀ q, (t.hd q).stopNs = (s.hd q).stopNs

section
variable {s t u : State}

theorem State.Steady.refl (s : State) : s.Steady s := ⟨rfl, rfl, fun _ => rfl⟩

theorem State.Steady.trans (h : s.Steady t) (h' : t.Steady u) : s.Steady u :=
  ⟨h'.dup.trans h.dup, h'.cyc.trans h.cyc, fun q => (h'.stop q).trans (h.stop q)⟩

theorem State.steady_of (hd : t.dup = s.dup := by rfl) (hc : t.cyc.cyc = s.cyc.cyc := by rfl) (hh : t.hdrs = s.hdrs := by rfl) :
    s.Steady t :=
  ⟨hd, hc, fun q => by rw [State.hd, hh, State.hd]⟩

theorem State.Quiet.steady {ps : List Nat} (h : s.Quiet ps t) : s.Steady t :=
  ⟨h.dup, by rw [h.cyc], fun q => by rw [h.hdIn q]⟩

theorem State.Steady.foldl {α : Type} {f : State → α → State} (hf : ∀ (u : State) a, u.Steady (f u a)) (l : List α) (s : State) :
    s.Steady (l.foldl f s) :=
  List.foldlRecOn (motive := fun u => s.Steady u) l f (State.Steady.refl s) fun u hu a _ => hu.trans (hf u a)

end

section
variable (s : State)

theorem State.steady_irq (p i : Nat) : s.Steady (s.irq p i) :=
  ⟨by simp, by simp, fun q => by rw [s.hd_irq_all p i q]⟩

theorem State.steady_bumpBy (p o n : Nat) : s.Steady (s.bumpBy p o n) :=
  ⟨by simp, by simp, fun q => by rw [s.hd_bumpBy p o n q]⟩

theorem State.steady_bump (p o : Nat) : s.Steady (s.bump p o) := s.steady_bumpBy p o 1

theorem State.steady_updHd (p : Nat) {f : Hdr → Hdr} (hf : ∀ h, (f h).stopNs = h.stopNs) : s.Steady (s.updHd p f) := by
  refine ⟨by simp, by simp, fun q => ?_⟩
  by_cases hq : q = p
  · subst hq
    rw [State.hd_updHd, hf]
  · rw [State.hd_updHd_other _ _ _ _ hq]

theorem State.steady_updInst (i : Nat) (f : Inst → Inst) : s.Steady (s.updInst i f) := State.steady_of
theorem State.steady_setVf (f : Nat) (x : Vf) : s.Steady (s.setVf f x) := State.steady_of
theorem State.steady_setSkd (k : Nat) (x : Skd) : s.Steady (s.setSkd k x) := State.steady_of
theorem State.steady_updOp (r a : Nat) (f : Op → Op) : s.Steady (s.updOp r a f) := State.steady_of
theorem State.steady_setQp (q : Nat) (x : Qp) : s.Steady (s.setQp q x) := State.steady_of
theorem State.steady_setGpub (n : Nat) (x : GPub) : s.Steady (s.setGpub n x) := State.steady_of
theorem State.steady_updSwc (f : Swc → Swc) : s.Steady (s.updSwc f) := State.steady_of
theorem State.steady_lndMark : s.Steady s.lndMark := State.steady_of
theorem State.steady_talNote : s.Steady s.talNote := State.steady_of
theorem State.steady_hwsIn (l : List (Nat × Nat × Nat)) : s.Steady { s with hwsIn := l } := State.steady_of
theorem State.steady_setEg (e : Nat) (x : EgPort) : s.Steady (s.setEg e x) := State.steady_of

/-! ### The Skidders and the rings -/

theorem State.steady_issue (k : Nat) (o : Op) (r : Req) : s.Steady (s.issue k o r) :=
  (s.steady_updOp _ _ _).trans (State.steady_setSkd _ _ _)

theorem State.steady_skdRun (k n : Nat) : s.Steady (s.skdRun k n) := by
  induction n generalizing s with
  | zero => exact State.Steady.refl s
  | succ n ih =>
    unfold State.skdRun
    dsimp only
    split
    · exact s.steady_setSkd _ _
    · split
      · exact State.Steady.refl s
      · split
        · exact (s.steady_issue k _ _).trans (ih _)
        · exact (s.steady_setSkd k _).trans (ih _)

theorem State.steady_skdAll : s.Steady s.skdAll :=
  State.Steady.foldl (fun u k => by
    unfold State.skdGo
    split
    · exact State.Steady.refl u
    · exact u.steady_skdRun k 6400) _ s

theorem State.steady_opSettle (r a : Nat) : s.Steady (s.opSettle r a) := by
  unfold State.opSettle
  split
  · exact State.Steady.refl s
  · extract_lets busy put w q role f0 sa f1 it
    have hput (st : Nat) (u : State) : u.Steady (put st u) := u.steady_updOp _ _ _
    split
    · split
      · exact State.Steady.refl s
      · split
        · exact State.steady_of
        · exact (hput 6 s).trans (State.steady_bump _ _ _)
    · split
      · split
        · exact State.Steady.refl s
        · split
          · exact hput 4 s
          · split
            · exact (hput 0 s).trans (State.steady_bump _ _ _)
            · exact (hput 0 s).trans (State.steady_updSwc _ _)
      · split
        · exact State.Steady.refl s
        · exact hput _ s

theorem State.steady_cutFn (sel : Op → Bool) : s.Steady (s.cutFn sel) := by
  unfold State.cutFn
  extract_lets t
  have ht : s.Steady t := State.steady_of
  exact (ht.trans (State.Steady.foldl (fun u o => u.steady_opSettle _ _) _ t)).trans (State.steady_skdAll _)

theorem State.steady_squashFn (f : Nat) : s.Steady (s.squashFn f) :=
  State.Steady.foldl (fun u _ => (u.steady_setSkd _ _).trans (State.steady_bumpBy _ _ _ _)) _ s

theorem State.steady_dropFn (f : Nat) : s.Steady (s.dropFn f) := by
  unfold State.dropFn
  extract_lets t
  have ht : s.Steady t := s.steady_squashFn f
  have hu : t.Steady { t with ops := t.ops.filter (fun o => o.fn != f) } := State.steady_of
  exact (ht.trans hu).trans (State.steady_skdAll _)

/-! ### A move aborted by a reset (R246) -/

theorem State.steady_useKey (slot d : Nat) : s.Steady (s.useKey slot d).2 := by
  unfold State.useKey
  split
  · exact State.Steady.refl s
  · dsimp only
    split
    · exact State.steady_of
    · exact s.steady_bump _ _

theorem State.steady_migSend (f : Nat) (m : MigMsg) : s.Steady (s.migSend f m) := by
  unfold State.migSend
  have hk := s.steady_useKey (s.migSlot f) 5
  generalize s.useKey (s.migSlot f) 5 = k at *
  dsimp only
  split
  · exact hk
  · exact hk.trans (State.steady_updSwc _ _)

theorem State.steady_migStop (f : Nat) : s.Steady (s.migStop f) := by
  unfold State.migStop
  extract_lets m back s1 s2 x s3 s4 t
  have h3 : s.Steady s3 := ((s.steady_updInst f _).trans (State.steady_dropFn _ f)).trans (State.steady_setVf _ _ _)
  have h4 : s3.Steady s4 := by
    refine State.Steady.foldl (fun u q => ?_) _ s3
    split
    · exact u.steady_setQp q _
    · exact State.Steady.refl u
  have ht : s.Steady t := by
    dsimp only [t]
    split
    · split
      · exact (h3.trans h4).trans (State.Steady.foldl (fun u n => u.steady_setGpub n _) _ s4)
      · exact h3
    · exact State.Steady.refl s
  exact ((ht.trans (State.steady_setVf _ _ _)).trans ((State.steady_setVf _ _ _).trans (State.steady_irq _ _ _))).trans
    (State.steady_bump _ _ _)

theorem State.steady_migAbortReset (f : Nat) : s.Steady (s.migAbortReset f) := by
  unfold State.migAbortReset
  split
  · exact (s.steady_migSend f _).trans (State.steady_migStop _ f)
  · exact State.Steady.refl s

theorem State.steady_vfResetNow (f : Nat) (squash : Bool) {abort : State → State} (ha : s.Steady (abort s)) :
    s.Steady (s.vfResetNow f squash abort) := by
  unfold State.vfResetNow
  extract_lets t x u v
  have hv : s.Steady v := (ha.trans (State.steady_setVf _ _ _)).trans (State.steady_updInst _ _ _)
  split
  · exact hv.trans (State.steady_dropFn _ f)
  · exact hv.trans (State.steady_cutFn _ _)

theorem State.steady_kerfOver : s.Steady s.kerfOver := by
  refine (State.Steady.foldl (fun u f => ?_) _ s).trans (State.steady_skdAll _)
  split
  · split
    · exact State.Steady.refl u
    · exact u.steady_vfResetNow f _ (u.steady_migAbortReset f)
  · exact State.Steady.refl u

/-! ### The beacon (R356) -/

theorem State.steady_enqOne (e q : Nat) (x : QEntry) : s.Steady (s.enqOne e q x).2 := by
  unfold State.enqOne
  split
  · dsimp only
    split
    · exact (s.steady_bump _ _).trans (State.steady_irq _ _ _)
    · exact s.steady_bump _ _
  · exact (s.steady_setEg e _).trans (State.steady_bump _ _ _)

theorem State.steady_offer (b : Bound) (x : QEntry) (fr : Nat → Frame) (ports : List Nat) : s.Steady (s.offer b x fr ports).2 := by
  unfold State.offer
  refine List.foldlRecOn (motive := fun acc : List Nat × State => s.Steady acc.2) _ _ (State.Steady.refl s) fun acc hacc e _ => ?_
  exact hacc.trans (acc.2.steady_enqOne _ _ _)

theorem State.steady_freshAt (l : List Nat) (n : Nat) : s.Steady (s.freshAt l n) := by
  unfold State.freshAt
  split
  · exact State.Steady.refl s
  · exact State.steady_of

theorem State.steady_enqueue (f : Frame) (b : Bound) (x : QEntry) (seq : Option Nat) : s.Steady (s.enqueue f b x seq) := by
  unfold State.enqueue State.enqueueAll
  extract_lets id cells ports b' t r
  have hr : s.Steady r.2 := (s.steady_updSwc _).trans (State.steady_offer _ _ _ _ _)
  split
  · exact hr
  · exact (hr.trans (State.steady_freshAt _ _ _)).trans ((State.steady_updSwc _ _).trans (State.steady_lndMark _))

theorem State.steady_beacon (pair : Nat) : s.Steady (s.beacon pair) := s.steady_enqueue _ _ _ _

theorem State.steady_pairBeacon : s.Steady (if s.dupEn then s.beacon s.redPair else s) := by
  split
  · exact s.steady_beacon _
  · exact State.Steady.refl s

theorem State.steady_releaseAll (j : Nat) : s.Steady (s.releaseAll j) := by
  unfold State.releaseAll
  extract_lets rs t
  have ht : s.Steady t := State.steady_of
  refine ht.trans (State.Steady.foldl (fun v r => ?_) _ t)
  split
  · exact State.Steady.refl v
  · exact (v.steady_updSwc _).trans (State.steady_bump _ _ _)

/-! ### What a COMMIT of the executor takes at the boundary (R44) -/

theorem State.steady_commitTake (g : Nat) : s.Steady (s.commitTake g) := by
  unfold State.commitTake
  extract_lets t u
  have ht : s.Steady t := State.Steady.foldl (fun v p => State.Steady.foldl (fun w o => State.steady_of) _ v) _ s
  have hu : t.Steady u := State.Steady.foldl (fun v p => v.steady_updHd p (by intro; rfl)) _ t
  exact ((ht.trans hu).trans (State.steady_updHd _ g (by intro; rfl))).trans (State.steady_irq _ _ _)

theorem State.steady_commitApply_pCYC {p : Nat} (hp : p < 16) : s.Steady (s.commitApply (pCYC p)) := by
  have hblock : pageBlock (headPage (pCYC p)) = some (.cyc, p) := by
    interval_cases p <;> rfl
  unfold State.commitApply State.commitNow State.blockApplied
  dsimp only
  split
  · rw [hblock]
    dsimp only
    refine (s.steady_commitTake (headPage (pCYC p))).trans ?_
    unfold State.cycApplied
    split
    · exact State.Steady.foldl (fun u i => State.steady_of) _ _
    · exact State.Steady.refl _
  · exact State.Steady.refl s

end
/-! ### States and roles at a boundary (R354) -/

/-- The module is in state `st` with the role `a`; the cycle and the STOPs that wait are as before. -/
structure State.InRole (st : Nat) (a : Bool) (s t : State) : Prop where
  state : t.dup.state = st
  active : t.dup.active = a
  cyc : t.cyc.cyc = s.cyc.cyc
  stop : ∀ q, (t.hd q).stopNs = (s.hd q).stopNs

section
variable {s t u : State} {st : Nat} {a : Bool}

theorem State.InRole.then (h : State.InRole st a s t) (h' : t.Steady u) : State.InRole st a s u :=
  ⟨by rw [h'.dup, h.state], by rw [h'.dup, h.active], h'.cyc.trans h.cyc, fun q => (h'.stop q).trans (h.stop q)⟩

theorem State.InRole.updDup (h : State.InRole st a s t) {f : Dup → Dup} (hs : (f t.dup).state = t.dup.state)
    (ha : (f t.dup).active = t.dup.active) : State.InRole st a s (t.updDup f) :=
  ⟨hs.trans h.state, ha.trans h.active, h.cyc, h.stop⟩

theorem State.inRole_dupEnter (s : State) (st : Nat) (a : Bool) (c : Nat) : State.InRole st a s (s.dupEnter st a c) := by
  unfold State.dupEnter
  extract_lets d s1 s2 s3 s4 pt s5
  split
  case isTrue h => exact ⟨h.1, h.2, rfl, fun _ => rfl⟩
  case isFalse =>
    have h1 : State.InRole st a s s1 := ⟨rfl, rfl, rfl, fun _ => rfl⟩
    have h2 : State.InRole st a s s2 := by
      dsimp only [s2]
      split
      · exact h1.updDup rfl rfl
      · exact h1.updDup rfl rfl
    have h3 : State.InRole st a s s3 := h2.then (s2.steady_irq _ _)
    have h4 : State.InRole st a s s4 := by
      dsimp only [s4]
      split
      · exact h3.then (s3.steady_irq _ _)
      · exact h3
    have h5 : State.InRole st a s s5 := by
      dsimp only [s5]
      split
      · exact h4
      · exact h4.then (((s4.steady_irq _ _).trans (State.steady_bump _ _ _)).trans State.steady_of)
    split
    · exact h5.updDup rfl rfl
    · exact h5

/-- At the boundary of the next cycle the change decided has taken effect. -/
theorem exec_cycleStart_role {j c : Nat} (hon : s.onMain = true) (hj : s.cycDue = some j) (hp : s.dup.pend = some (st, a, c))
    (hstop : ∀ p, p < 16 → (s.hd (pCYC p)).stopNs = none) :
    ∃ t, exec .cycleStart s = .next t ∧ t.dup.state = st ∧ t.dup.active = a ∧ t.cyc.cyc = some j := by
  obtain ⟨u, hu, hexec⟩ := act_next (f := State.cycleBound) hon
  rw [State.cycleBound, if_neg (by simp [hj])] at hu
  have hstart : s.cycleStart.dup.state = st ∧ s.cycleStart.dup.active = a ∧ s.cycleStart.cyc.cyc = some j ∧
      ∀ q, (s.cycleStart.hd q).stopNs = (s.hd q).stopNs := by
    unfold State.cycleStart
    rw [hj]
    dsimp -zeta only
    extract_lets last first s1 s2 s3 s4
    have h1 : State.InRole st a s s1 := by
      have hb : s.dupBoundary = s.dupEnter st a c := by rw [State.dupBoundary, hp]
      have h0 := s.inRole_dupEnter st a c
      rw [← hb] at h0
      exact (h0.then (State.Steady.foldl (fun v e => v.steady_setVf _ _) _ s.dupBoundary)).then (State.steady_kerfOver _)
    have h2 : State.InRole st a s s2 := by
      dsimp only [s2]
      split
      · exact h1
      · exact h1.then (s1.steady_releaseAll last)
    have h3 : State.InRole st a s s3 := by
      dsimp only [s3]
      split
      · exact h2
      · exact h2.then (s2.steady_hwsIn _)
    have hb := s3.cycleBegun j
    obtain ⟨b, hbd⟩ : ∃ b, s3.cycBegin j = b := ⟨_, rfl⟩
    have h4 : s4 = b.updDup (fun d => { d with injNow := 0 }) := by rw [← hbd]
    rw [hbd] at hb
    clear_value s4
    replace h4 : s4.dup.state = st ∧ s4.dup.active = a ∧ s4.cyc.cyc = some j ∧ ∀ q, (s4.hd q).stopNs = (s.hd q).stopNs := by
      rw [h4]
      exact ⟨(congrArg Dup.state hb.dup).trans h3.state, (congrArg Dup.active hb.dup).trans h3.active, hb.cyc,
        fun q => (hb.hd q).2.1.trans (h3.stop q)⟩
    obtain ⟨hs4, ha4, hc4, ht4⟩ := h4
    have he := s4.steady_pairBeacon
    exact ⟨(congrArg Dup.state he.dup).trans hs4, (congrArg Dup.active he.dup).trans ha4, he.cyc.trans hc4,
      fun q => (he.stop q).trans (ht4 q)⟩
  obtain ⟨hst, hact, hcyc, hkeep⟩ := hstart
  generalize s.cycleStart = v at *
  have hpairs (l : List Nat) (hl : ∀ p ∈ l, p < 16) (w : State) (hw : v.Steady w) :
      v.Steady (l.foldl (fun (s : State) p => (s.commitApply (pCYC p)).stopApply (pCYC p)) w) := by
    refine List.foldlRecOn (motive := fun x => v.Steady x) l _ hw fun x hx p hpl => ?_
    have hp16 := hl p hpl
    have hc := hx.trans (x.steady_commitApply_pCYC hp16)
    have hidle : (x.commitApply (pCYC p)).stopApply (pCYC p) = x.commitApply (pCYC p) := by
      rw [State.stopApply, hc.stop, hkeep, hstop p hp16]
    rw [hidle]
    exact hc
  have hall := hpairs (List.range 16) (fun p hp => List.mem_range.1 hp) v (State.Steady.refl v)
  have htal := hall.trans (State.steady_talNote _)
  rw [← hu] at htal
  clear hu
  exact ⟨_, (exec_cycleStart s).trans hexec, (congrArg Dup.state htal.dup).trans hst, (congrArg Dup.active htal.dup).trans hact,
    htal.cyc.trans hcyc⟩

/-! ### Divergence (R364) -/

/-- A divergence found outside TEST: noted with its cause and tick, raised, recorded, and a change decided. -/
theorem State.diverge_spec {cause j own partner : Nat} (h : s.dupMode ≠ 2) : ∃ t r, s.diverge cause j own partner = t ∧
    t.dup = { s.dup with cause := cause, healthyClk := s.tsu.clk, pend := some (if s.dup.active then (5, true, 6) else (4, false, 6)) } ∧
    t.rg pDUP R.DUP_DIVERGE_TAG = tagOf j ∧ bit (t.hd pDUP).irqStatus 6 = true ∧ t.evr.cross = s.evr.cross ++ [r] ∧ r.cls = 13 ∧
    r.typ = 7 ∧ (∀ p off, ka p off ≠ ka pDUP R.DUP_DIVERGE_TAG → t.rg p off = s.rg p off) ∧
    ({ s with dup := t.dup, evr := t.evr, regs := t.regs } : State).Quiet [pDUP] t := by
  unfold State.diverge
  rw [if_neg h]
  extract_lets d s1 s2 pid s3
  obtain ⟨b, hb⟩ : ∃ b, b = s1.setRg pDUP R.DUP_DIVERGE_TAG (tagOf j) := ⟨_, rfl⟩
  have htag := s1.rg_setRg pDUP R.DUP_DIVERGE_TAG (tagOf j)
  have hoth (p off : Nat) (h : ka p off ≠ ka pDUP R.DUP_DIVERGE_TAG) := s1.rg_setRg_other pDUP R.DUP_DIVERGE_TAG p off (tagOf j) h
  have hb' : b = { s with dup := { s.dup with cause := cause, healthyClk := s.tsu.clk }, regs := b.regs } := by rw [hb]; rfl
  rw [← hb] at htag hoth
  have hq := (State.Quiet.refl [pDUP] b).irq (p := pDUP) (by simp) 6
  have hbit := State.bit_irq b pDUP (i := 6) (by decide)
  have hs2 : s2 = b.irq pDUP 6 := by rw [hb]
  rw [← hs2] at hq hbit
  clear_value s2
  obtain ⟨r, hr⟩ : ∃ r, s3 = { s2 with evr := { s2.evr with cross := s2.evr.cross ++ [r] } } ∧ r.cls = 13 ∧ r.typ = 7 := ⟨_, rfl, rfl, rfl⟩
  obtain ⟨hs3, hcls, htyp⟩ := hr
  have hdec : (if d.active then s3.dupGo 5 true 6 else s3.dupGo 4 false 6) =
      { s2 with
        evr := { s2.evr with cross := s2.evr.cross ++ [r] }
        dup := { s2.dup with pend := some (if s.dup.active then (5, true, 6) else (4, false, 6)) } } := by
    rw [hs3]
    cases d.active <;> rfl
  have hdup : s2.dup = { s.dup with cause := cause, healthyClk := s.tsu.clk } := hq.dup.trans (by rw [hb'])
  have hevr : s2.evr = s.evr := hq.evr.trans (by rw [hb'])
  have hregs : s2.regs = b.regs := hq.regs
  refine ⟨_, r, rfl, ?_⟩
  rw [hdec]
  refine ⟨by rw [hdup], ?_, hbit, by rw [hevr], hcls, htyp, fun p off h => ?_, ?_⟩
  · rw [State.rg, hregs]; exact htag
  · rw [State.rg, hregs]; exact hoth p off h
  · have hrest := hq.rest
    obtain ⟨rs, hrs⟩ : ∃ rs, b.regs = rs := ⟨_, rfl⟩
    rw [hrs] at hb'
    rw [hb'] at hrest hq
    refine hq.over ?_ rfl rfl rfl rfl
    exact congrArg (fun x : State => { x with
      evr := { s2.evr with cross := s2.evr.cross ++ [r] }
      dup := { s2.dup with pend := some (if s.dup.active then (5, true, 6) else (4, false, 6)) }
      regs := s2.regs }) hrest

/-! ### The preferred standby (R374) -/

/-- A healthy preferred standby asks for the swap. -/
theorem State.preferredReturn_asks (hen : s.dupEn = true) (hm : s.dupMode = 0) (hp : s.preferred = true) (hst : s.dup.state = 2)
    (ha : s.dup.active = false) (hr : s.dup.reqSwap = false)
    (ho : s.sideB = false ∨ ∀ m, s.dup.partner = some m → m.preferred = false) (hs : s.tsu.sync ≠ .unlocked)
    (hc : fld (s.ac pDUP R.DUP_TIMING) 16 16 * 250000000 ≤ s.since s.dup.healthyClk) :
    s.preferredReturn = s.updDup (fun d => { d with reqSwap := true }) := by
  unfold State.preferredReturn
  extract_lets d other
  have hside : (s.sideB && other) = false := by
    rcases ho with h | h
    · rw [h]; rfl
    · have : other = false := by
        dsimp only [other]
        split
        case h_1 m he => exact h m he
        case h_2 => rfl
      rw [this, Bool.and_false]
  exact if_pos (by simp [d, hen, hm, hp, hst, ha, hr, hside, hs, hc])

/-! ### Injected points (R360) -/

theorem State.dupEn_touch (p : Nat) : (s.touch p).dupEn = s.dupEn := ((State.Quiet.refl [p] s).touch (by simp)).dupEn

/-- An injected point that may be written is staged for the tag shown, and kept for the partner except in SOLO. -/
theorem State.dupInject_stages {p k : Nat} {x : Point} (hp : p = fld (s.rg pDUP R.DUP_INJ_POINT) 0 20)
    (hk : k = s.cycNow + fld (s.ac pDUP R.DUP_TIMING) 13 3)
    (hx : x = { value := s.rg64 pDUP R.DUP_INJ_VALUE, qual := (s.rg pDUP R.DUP_INJ_QUAL).toNat, stamp := shortOf (tickStartNs k) })
    (ha : s.dup.active = true) (hf : s.failed = false) (hn : s.dup.injNow < 16) (hr : s.inRange (some 0) p = true)
    (hq : (s.inst 0).wrote < s.iQuota 0) : ∃ l, s.dupInject = { s with
      regs := (s.setRg pDUP R.DUP_INJ_TAG (tagOf k)).regs
      cyc := { s.cyc with insts := l, pfStage := s.cyc.pfStage ++ [(k, p, x)] }
      dup := { s.dup with injNow := s.dup.injNow + 1, inj := if s.dup.state = 5 then s.dup.inj else s.dup.inj ++ [(k, p, x)] } } := by
  subst hp hk hx
  unfold State.dupInject
  rw [if_neg (by simp [ha, hf]), if_neg (by omega)]
  extract_lets tag p' x' t r u
  have hmay : r = (true, t.updInst 0 fun y => { y with wrote := y.wrote + 1 }) := by
    dsimp only [r]
    rw [State.mayWrite, if_neg (by rw [show t.inRange (some 0) p' = true from hr]; decide),
      if_neg (show ¬t.iQuota 0 ≤ (t.inst 0).wrote from Nat.not_le.2 hq)]
  rw [if_neg (by rw [hmay]; exact Bool.false_ne_true)]
  have hu : u = { s with
      regs := (s.setRg pDUP R.DUP_INJ_TAG (tagOf tag)).regs
      cyc := { s.cyc with insts := (t.updInst 0 fun y => { y with wrote := y.wrote + 1 }).cyc.insts, pfStage := s.cyc.pfStage ++ [(tag, p', x')] }
      dup := { s.dup with injNow := s.dup.injNow + 1 } } := by
    dsimp only [u]
    rw [hmay]
    rfl
  refine ⟨(t.updInst 0 fun y => { y with wrote := y.wrote + 1 }).cyc.insts, ?_⟩
  rw [hu]
  dsimp only
  split
  · rfl
  · rfl

theorem State.dupInject_full (ha : s.dup.active = true) (hf : s.failed = false) (hn : 16 ≤ s.dup.injNow) :
    s.dupInject = s.refuse pDUP R.DUP_INJ_CMD Err.capFull := by
  rw [State.dupInject, if_neg (by simp [ha, hf]), if_pos hn]

theorem State.dupInject_role (h : s.dup.active = false ∨ s.failed = true) : s.dupInject = s.refuse pDUP R.DUP_INJ_CMD 0x42 :=
  if_pos (by rcases h with h | h <;> simp [h])

end

/-- Settles O45: the change decided at its boundary, divergence, the commands of a pair, and injected points. -/
theorem pairAndInjection : Obligations.PairAndInjection := by
  unfold Obligations.PairAndInjection
  refine ⟨fun s hon => ⟨fun j st a c hj hp hstop => exec_cycleStart_role hon hj hp hstop, fun hen hst hcd hm => ?_, fun hcd => ?_,
    fun hen hst hpn hcl => ?_, fun hcl => ?_, fun hen hst => ?_, fun h => ?_, fun hen hst hact => ?_, fun h => ?_,
    fun hen hun hhb hm hst => ?_, fun hun h => ?_, fun hun => ?_, fun hen hm hp hst ha hr ho hs hc => ?_, fun hp => ?_⟩,
    fun p k x s hon hp hk hx => ⟨fun ha hf => ⟨fun hn hr hq => ?_, fun hn => ?_⟩, fun h => ?_⟩⟩
  · obtain ⟨t, r, ht, hdup, htag, hb, hx, hcls, htyp, hrg, hq⟩ :=
      State.diverge_spec (s := s.updDup (fun d => { d with cfgDiff := 0 })) (cause := 3) (j := s.cycNow) (own := 0) (partner := 0) hm
    obtain ⟨u, hu, hexec⟩ := act_next (f := State.configDiverge) hon
    rw [State.configDiverge, if_pos (by simp [hen, hst, hcd]), ht] at hu
    rw [hu] at hexec
    exact ⟨_, r, (exec_configDiverge s).trans hexec, hdup, htag, hb, hx, hcls, htyp, hrg, hq.pend⟩
  · rw [exec_configDiverge]
    exact act_same (if_neg (by simp; omega))
  · rw [exec_pairingTimeout, act_on _ _ s hon, State.pairingTimeout, if_neg (by simp [hen, hst]; omega), hpn]
    rfl
  · rw [exec_pairingTimeout]
    exact act_same (if_pos (by simp [hcl]))
  · obtain ⟨u, hu, hexec⟩ := actReg_next (p := pDUP) (f := State.dupResync) hon
    obtain ⟨w, hw⟩ := s.touch_eq pDUP
    have hen' := s.dupEn_touch pDUP
    rw [hw] at hu hen'
    rw [State.dupResync, if_pos (by rw [hen', hen]; simpa using hst)] at hu
    exact ⟨_, (exec_resync s).trans hexec, by rw [hu]; rfl⟩
  · rw [exec_resync]
    refine actReg_refuses hon (by decide) (if_neg ?_)
    rw [State.dupEn_touch, show (s.touch pDUP).dup = s.dup by rw [s.touch_shape]]
    rcases h with h | ⟨h4, h6⟩
    · simp [h]
    · simp [h4, h6]
  · obtain ⟨u, hu, hexec⟩ := actReg_next (p := pDUP) (f := State.dupSwap) hon
    obtain ⟨w, hw⟩ := s.touch_eq pDUP
    have hen' := s.dupEn_touch pDUP
    rw [hw] at hu hen'
    rw [State.dupSwap, if_pos (by rw [hen', hen]; simp [hst, hact])] at hu
    exact ⟨_, (exec_swap s).trans hexec, by rw [hu]; rfl⟩
  · rw [exec_swap]
    refine actReg_refuses hon (by decide) (if_neg ?_)
    rw [State.dupEn_touch, show (s.touch pDUP).dup = s.dup by rw [s.touch_shape]]
    rcases h with h | h | h <;> simp [h]
  · rw [exec_take, actReg_unlocked (by decide) _ hun]
    obtain ⟨u, hu, hexec⟩ := actReg_next (p := pDUP) (f := State.dupTake) hon
    obtain ⟨w, hw⟩ := s.touch_eq pDUP
    have hen' := s.dupEn_touch pDUP
    rw [hw] at hu hen'
    rw [State.dupTake, if_pos (by
      rw [hen', hen, show ({ s with hdrs := w } : State).dupMode = 3 from hm, show ({ s with hdrs := w } : State).hbCurrent = false from hhb]
      simpa [or_assoc] using hst)] at hu
    exact ⟨_, hexec, by rw [hu]; rfl⟩
  · rw [exec_take, actReg_unlocked (by decide) _ hun]
    refine actReg_refuses hon (by decide) (if_neg ?_)
    obtain ⟨w, hw⟩ := s.touch_eq pDUP
    rw [hw, show ({ s with hdrs := w } : State).dupMode = s.dupMode from rfl,
      show ({ s with hdrs := w } : State).hbCurrent = s.hbCurrent from rfl]
    rcases h with h | h <;> simp [h]
  · rw [exec_take]
    exact actReg_locked hon (by decide) _ hun
  · rw [exec_preferredReturn, act_on _ _ s hon, State.preferredReturn_asks hen hm hp hst ha hr ho hs hc]
    rfl
  · rw [exec_preferredReturn]
    exact act_same (if_neg (by simp [hp]))
  · obtain ⟨u, hu, hexec⟩ := actReg_next (p := pDUP) (f := State.dupInject) hon
    obtain ⟨w, hw⟩ := s.touch_eq pDUP
    rw [hw] at hu
    obtain ⟨l, hl⟩ := State.dupInject_stages (s := { s with hdrs := w }) hp hk hx ha hf hn hr hq
    rw [hl] at hu
    have htag := s.rg_setRg pDUP R.DUP_INJ_TAG (tagOf k)
    have hoth (q off : Nat) (h : ka q off ≠ ka pDUP R.DUP_INJ_TAG) := s.rg_setRg_other pDUP R.DUP_INJ_TAG q off (tagOf k) h
    subst hu
    exact ⟨_, (exec_go s).trans hexec, htag, rfl, rfl, hoth, rfl⟩
  · rw [exec_go]
    refine actReg_refuses hon (by decide) (State.dupInject_full ?_ ?_ ?_) <;> rw [s.touch_shape pDUP]
    · exact ha
    · exact hf
    · exact hn
  · rw [exec_go]
    refine actReg_refuses hon (by decide) (State.dupInject_role ?_)
    rw [s.touch_shape pDUP]
    exact h

end Sys2Proof.Machine
end

section
/-!
PROOFS. Host requests at the manager's endpoint, and MSI-X (R450 to R455).
-/
namespace Sys2Proof.Machine
open Sys2Proof

theorem length_winOps (a : Nat) (wr : Bool) (dws : List HostDw) : (winOps a wr dws).length = dws.length := by simp [winOps]

section
variable {s : State} {n a tag : Nat} {wr : Bool} {dws : List HostDw}

/-- Counter of the doublewords of a request. -/
abbrev winCnt (wr : Bool) : Nat := if wr then R.SHF_CNT_WIN_WR else R.SHF_CNT_WIN_RD

/-- A request in the window of slot `n` of a manager: its own accesses, or what waits for another slot. -/
theorem State.hostAccess_window (hm : s.shf.mgr = true) (hn : n < 64) (ha : a < 2 ^ 24) (h4 : a % 4 = 0) (hd : dws ≠ []) :
    s.hostAccess 0 tag (n * 2 ^ 24 + a) wr dws =
      if n = s.ownSlot then
        let r := (s.bumpBy pSHF (winCnt wr) dws.length).winPerform (winOps a wr dws)
        if wr then r.1 else r.1.emit (.hostRead tag (r.2.map w32))
      else if s.winTakes tag n wr (winOps a wr dws) then
        (s.bumpBy pSHF (winCnt wr) dws.length).winRemote tag n wr (winOps a wr dws)
      else s := by
  have hslot : (n * 2 ^ 24 + a) / 2 ^ 24 = n := by omega
  have haddr : (n * 2 ^ 24 + a) % 2 ^ 24 / 4 * 4 = a := by omega
  unfold State.hostAccess
  rw [if_neg (by simp [hm, hd]), if_neg (by decide), if_neg (by omega)]
  dsimp only
  rw [hslot, haddr, length_winOps]

theorem State.winTakes_absent {ops : List WinOp} (h : s.serves = false ∨ (s.slot n).state ≠ 1) : s.winTakes tag n wr ops = true := by
  rcases h with h | h <;> simp [State.winTakes, h]

theorem State.Quiet.shfRest {ps : List Nat} {t : State} (h : s.Quiet ps t) : t.shf = { s.shf with intr := t.shf.intr, msix := t.shf.msix } :=
  congrArg State.shf h.rest

theorem State.Quiet.serves {ps : List Nat} {t : State} (h : s.Quiet ps t) : t.serves = s.serves := by
  rw [State.serves, h.shfRest]
  rfl

theorem State.Quiet.slot {ps : List Nat} {t : State} (h : s.Quiet ps t) (k : Nat) : t.slot k = s.slot k := by
  rw [State.slot, h.shfRest]
  rfl

theorem State.Quiet.wq {ps : List Nat} {t : State} (h : s.Quiet ps t) (k : Nat) : t.wq k = s.wq k := by
  rw [State.wq, h.shfRest]
  rfl

theorem State.Quiet.reads {ps : List Nat} {t : State} (h : s.Quiet ps t) : t.shf.reads = s.shf.reads := by
  rw [h.shfRest]

theorem State.Quiet.emit {ps : List Nat} {t : State} (h : s.Quiet ps t) (o : Output) : s.Quiet ps (t.emit o) :=
  h.trans ⟨rfl, fun _ _ => rfl, fun _ => rfl, fun _ _ _ _ => rfl⟩

/-- The window's state may change with a quiet step. -/
theorem State.Quiet.withShf {ps : List Nat} {t : State} (h : s.Quiet ps t) (f : Shf → Shf) :
    ({ s with shf := (t.updShf f).shf } : State).Quiet ps (t.updShf f) :=
  h.over (congrArg (fun x : State => { x with shf := f t.shf }) h.rest) rfl rfl rfl rfl

/-! ### Slots that are not PRESENT, and PRESENT ones (R452, R453) -/

/-- A write of a slot that is not PRESENT is discarded and counted. -/
theorem State.winWrite_absent (habs : s.serves = false ∨ (s.slot n).state ≠ 1) (ops : List WinOp) (m : Nat) :
    ∃ t, (s.bumpBy pSHF R.SHF_CNT_WIN_WR m).winRemote tag n true ops = t ∧
      t.cn pSHF R.SHF_CNT_WIN_WR = min (cntMax pSHF R.SHF_CNT_WIN_WR) (s.cn pSHF R.SHF_CNT_WIN_WR + m) ∧
      t.cn pSHF R.SHF_CNT_WIN_DISCARD = min (cntMax pSHF R.SHF_CNT_WIN_DISCARD) (s.cn pSHF R.SHF_CNT_WIN_DISCARD + ops.length) ∧
      s.Quiet [pSHF] t := by
  have hq := (State.Quiet.refl [pSHF] s).bumpBy (p := pSHF) (by simp) R.SHF_CNT_WIN_WR m (by decide)
  have hc := s.cn_bumpBy pSHF R.SHF_CNT_WIN_WR m
  have hc' := s.cn_bumpBy_other pSHF R.SHF_CNT_WIN_WR m pSHF R.SHF_CNT_WIN_DISCARD (by decide)
  generalize s.bumpBy pSHF R.SHF_CNT_WIN_WR m = v at *
  rw [← hq.serves, ← hq.slot] at habs
  refine ⟨_, rfl, ?_⟩
  unfold State.winRemote
  dsimp only
  rw [if_pos (by rcases habs with h | h <;> simp [h]), if_pos rfl]
  refine ⟨?_, ?_, hq.bumpBy (by simp) _ _ (by decide)⟩
  · rw [v.cn_bumpBy_other _ _ _ _ _ (by decide), hc]
  · rw [v.cn_bumpBy, hc']

/-- A read of a slot that is not PRESENT is answered with ones. -/
theorem State.winRead_absent (habs : s.serves = false ∨ (s.slot n).state ≠ 1) (ops : List WinOp) (m : Nat) :
    ∃ t, (s.bumpBy pSHF R.SHF_CNT_WIN_RD m).winRemote tag n false ops = t ∧
      t.cn pSHF R.SHF_CNT_RD_TIMEOUT = min (cntMax pSHF R.SHF_CNT_RD_TIMEOUT) (s.cn pSHF R.SHF_CNT_RD_TIMEOUT + 1) ∧
      .hostRead tag (ops.map (fun _ => 0xFFFFFFFF)) ∈ t.out ∧ bit (t.hd pSHF).irqStatus 5 = true ∧ s.Quiet [pSHF] t := by
  have hq := (State.Quiet.refl [pSHF] s).bumpBy (p := pSHF) (by simp) R.SHF_CNT_WIN_RD m (by decide)
  have hc' := s.cn_bumpBy_other pSHF R.SHF_CNT_WIN_RD m pSHF R.SHF_CNT_RD_TIMEOUT (by decide)
  generalize s.bumpBy pSHF R.SHF_CNT_WIN_RD m = v at *
  rw [← hq.serves, ← hq.slot] at habs
  refine ⟨_, rfl, ?_⟩
  unfold State.winRemote
  dsimp only
  rw [if_pos (by rcases habs with h | h <;> simp [h]), if_neg (by decide)]
  obtain ⟨hq', hb, hcn⟩ := v.bump_irq_spec pSHF (o := R.SHF_CNT_RD_TIMEOUT) (i := 5) (by decide) (by decide)
  exact ⟨hcn.trans (by rw [hc']), List.mem_cons_self, hb, (hq.trans hq').emit _⟩

/-- A request for a PRESENT slot waits for a frame. -/
theorem State.winRemote_present (hs : s.serves = true) (hp : (s.slot n).state = 1) (ops : List WinOp) {c : Nat} (m : Nat) (hc : c < 4096) :
    ∃ t, (s.bumpBy pSHF c m).winRemote tag n wr ops = t ∧ (t.wq n).queue = (s.wq n).queue ++ winTagged tag ops ∧
      (t.wq n).fly = (s.wq n).fly ∧ (∀ k, k ≠ n → t.wq k = s.wq k) ∧
      t.shf.reads = s.shf.reads ++ (if wr then [] else [{ tag := tag, slot := n, data := ops.map (fun _ => none) }]) ∧
      ({ s with shf := t.shf } : State).Quiet [pSHF] t := by
  have hq := (State.Quiet.refl [pSHF] s).bumpBy (p := pSHF) (by simp) c m hc
  generalize s.bumpBy pSHF c m = v at *
  refine ⟨_, rfl, ?_⟩
  unfold State.winRemote
  extract_lets q u
  obtain ⟨x, hu, hxq, hxf⟩ : ∃ x : WinQ, u = v.setWq n x ∧ x.queue = (v.wq n).queue ++ winTagged tag ops ∧ x.fly = (v.wq n).fly :=
    ⟨_, rfl, rfl, rfl⟩
  have hqu : ({ s with shf := u.shf } : State).Quiet [pSHF] u := hq.withShf _
  have hkeep : (u.wq n).queue = (s.wq n).queue ++ winTagged tag ops ∧ (u.wq n).fly = (s.wq n).fly ∧ (∀ k, k ≠ n → u.wq k = s.wq k) ∧
      u.shf.reads = s.shf.reads := by
    rw [hu]
    refine ⟨by rw [State.wq_setWq, hxq, hq.wq], by rw [State.wq_setWq, hxf, hq.wq], fun k hk => ?_, hq.reads⟩
    rw [State.wq_setWq_other _ _ _ _ hk, hq.wq]
  obtain ⟨hqueue, hfly, hoth, hreads⟩ := hkeep
  rw [if_neg (by rw [hq.serves, hq.slot, hs, hp]; decide)]
  cases wr with
  | true =>
    rw [if_pos rfl, if_pos rfl]
    exact ⟨hqueue, hfly, hoth, by rw [hreads, List.append_nil], hqu⟩
  | false =>
    rw [if_neg (by decide), if_neg (by decide)]
    exact ⟨hqueue, hfly, hoth, congrArg (· ++ _) hreads, hqu.withShf _⟩

end

/-! ### MSI-X (R450, R455) -/

/-- An MSI-X entry whose mask has been cleared, its message sent. -/
def State.msixSent (s : State) (k : Nat) : State :=
  { s with
    shf := { s.shf with msix := sset {} k { sget {} k s.shf.msix with mask := false, pend := false } s.shf.msix }
    out := .msix k (sget {} k s.shf.msix).addr (sget {} k s.shf.msix).data :: s.out }

section
variable {s : State} {k : Nat}

theorem State.msixWrite_unmask (hk : k < 2048) (hp : (sget {} k s.shf.msix).pend = true) : s.msixWrite (16 * k + 12) 0 = s.msixSent k := by
  have hmod : (16 * k + 12) % 16 / 4 = 3 := by omega
  have hidx : (16 * k + 12) / 16 = k := by omega
  unfold State.msixWrite
  rw [if_neg (by omega), hidx, hmod]
  dsimp only
  rw [hp]
  rfl

/-- A mask cleared by the host sends the message that pends. -/
theorem State.hostAccess_unmask (tag : Nat) (hm : s.shf.mgr = true) (hk : k < 2048) (hp : (sget {} k s.shf.msix).pend = true) :
    s.hostAccess 2 tag (16 * k + 12) true [{ full := true, data := 0 }] = s.msixSent k := by
  have haddr : (16 * k + 12) / 4 * 4 = 16 * k + 12 := by omega
  unfold State.hostAccess
  rw [if_neg (by simp [hm]), if_pos rfl, if_neg (by omega), haddr]
  exact State.msixWrite_unmask hk hp

end

/-- Settles O57: requests for the own slot, for absent and PRESENT slots, and the MSI-X mask. -/
theorem hostWindow : Obligations.HostWindow := by
  unfold Obligations.HostWindow
  intro tag n a s hon hn ha h4
  refine ⟨fun bar addr wr dws hm => ?_, fun hm hown => ⟨fun d => ?_, fun u d hu => ?_⟩, fun dws hm hown hd => ⟨fun habs => ⟨?_, ?_⟩,
    fun hs hp => ⟨fun hroom => ?_, fun hfull => ?_, fun htag => ?_⟩⟩, fun k x hm hk hx hp => ?_⟩
  all_goals rw [exec_hostWindowAccess]
  · exact act_same (if_pos (.inl (by rw [hm]; rfl)))
  · rw [act_on _ _ s hon, State.hostAccess_window hm hn ha h4 (by simp), if_pos hown]
    rfl
  · rw [act_on _ _ s hon, State.hostAccess_window hm hn ha h4 (by simp), if_pos hown]
    have hrun : (s.bumpBy pSHF (winCnt false) 1).winPerform (winOps a false [{ full := true, data := d }]) = (u, [u.rdata.toNat]) := by
      rw [hu]
      rfl
    dsimp only [List.length_singleton]
    rw [hrun]
    simp [State.emit, w32]
  · obtain ⟨u, hu, hexec⟩ := act_next (f := fun s => s.hostAccess 0 tag (n * 2 ^ 24 + a) true dws) hon
    rw [State.hostAccess_window hm hn ha h4 hd, if_neg hown, if_pos (State.winTakes_absent habs)] at hu
    obtain ⟨t, ht, h1, h2, hq⟩ := State.winWrite_absent (tag := tag) habs (winOps a true dws) dws.length
    rw [hu.trans ht] at hexec
    rw [length_winOps] at h2
    exact ⟨_, hexec, h1, h2, hq.pend⟩
  · obtain ⟨u, hu, hexec⟩ := act_next (f := fun s => s.hostAccess 0 tag (n * 2 ^ 24 + a) false dws) hon
    rw [State.hostAccess_window hm hn ha h4 hd, if_neg hown, if_pos (State.winTakes_absent habs)] at hu
    obtain ⟨t, ht, h1, h2, hb, hq⟩ := State.winRead_absent (tag := tag) habs (winOps a false dws) dws.length
    rw [hu.trans ht] at hexec
    refine ⟨_, hexec, h1, ?_, hb, hq.pend⟩
    rwa [List.map_const', length_winOps, ← List.map_const'] at h2
  · obtain ⟨u, hu, hexec⟩ := act_next (f := fun s => s.hostAccess 0 tag (n * 2 ^ 24 + a) true dws) hon
    rw [State.hostAccess_window hm hn ha h4 hd, if_neg hown, if_pos (by simp [State.winTakes, length_winOps, hroom])] at hu
    obtain ⟨t, ht, h1, h2, h3, h5, hq⟩ := State.winRemote_present (tag := tag) (wr := true) hs hp (winOps a true dws) (c := R.SHF_CNT_WIN_WR)
      dws.length (by decide)
    rw [hu.trans ht] at hexec
    exact ⟨_, hexec, h1, h2, h3, h5.trans (List.append_nil _), hq.pend⟩
  · refine act_same ?_
    rw [State.hostAccess_window hm hn ha h4 hd, if_neg hown, if_neg (by simp [State.winTakes, length_winOps, hs, hp]; omega)]
  · obtain ⟨u, hu, hexec⟩ := act_next (f := fun s => s.hostAccess 0 tag (n * 2 ^ 24 + a) false dws) hon
    rw [State.hostAccess_window hm hn ha h4 hd, if_neg hown, if_pos (by simpa [State.winTakes] using .inr htag)] at hu
    obtain ⟨t, ht, h1, h2, h3, h5, hq⟩ := State.winRemote_present (tag := tag) (wr := false) hs hp (winOps a false dws) (c := R.SHF_CNT_WIN_RD)
      dws.length (by decide)
    rw [hu.trans ht] at hexec
    refine ⟨_, hexec, h1, h3, ?_, hq.pend⟩
    rw [List.map_const', length_winOps, ← List.map_const'] at h5
    exact h5
  · rw [act_on _ _ s hon, State.hostAccess_unmask tag hm hk (by rw [← hx]; exact hp)]
    refine ⟨_, rfl, ?_, fun j hj => ?_, ?_⟩
    · exact (sget_sset_same _ _ _ _).trans (by rw [hx])
    · exact sget_sset_other _ _ _ _ _ _ hj
    · rw [hx]
      rfl

end Sys2Proof.Machine
end

section
/-!
PROOFS. Window frames that leave on P9 (R447, R452).
-/
namespace Sys2Proof.Machine
open Sys2Proof

/-- Beside the ports' queues, the Crosscut and what was damaged in the cells it writes, `t` differs from `s` only as a quiet step of `ps`. -/
def State.Crossed (ps : List Nat) (s t : State) : Prop :=
  ({ s with egs := t.egs, swc := t.swc, flips := t.flips, poison := t.poison } : State).Quiet ps t

section
variable {ps : List Nat} {s t u : State}

theorem State.Crossed.refl (ps : List Nat) (s : State) : s.Crossed ps s := State.Quiet.refl ps _

theorem State.Crossed.trans (h : s.Crossed ps t) (h' : t.Crossed ps u) : s.Crossed ps u :=
  State.Quiet.trans (State.Quiet.withCross h u.egs u.flips u.poison u.swc) h'

theorem State.Quiet.crossed (h : s.Quiet ps t) : s.Crossed ps t := by
  unfold State.Crossed
  rw [h.egs, h.swc, h.flips, h.poison]
  exact h

theorem State.crossed_updSwc (ps : List Nat) (s : State) (f : Swc → Swc) : s.Crossed ps (s.updSwc f) := State.Quiet.refl ps _
theorem State.crossed_setEg (ps : List Nat) (s : State) (e : Nat) (x : EgPort) : s.Crossed ps (s.setEg e x) := State.Quiet.refl ps _

theorem State.egRefuse_lt {e q st c : Nat} {f : Frame} (h : s.egRefuse e q f st = some c) : c < 7 := by
  unfold State.egRefuse at h
  extract_lets size age at h
  split at h
  · injection h; omega
  · split at h
    · injection h; omega
    · split at h
      · injection h; omega
      · obtain ⟨-, h⟩ := Option.ite_none_right_eq_some.1 h
        injection h
        omega

theorem State.crossed_enqOne {e q : Nat} (x : QEntry) (he : pEG e ∈ ps) (hq : q < 8) : s.Crossed ps (s.enqOne e q x).2 := by
  have hbump (u : State) (c : Nat) (hc : c < 7) : u.Crossed ps (u.bump (pEG e) (qCnt q c)) :=
    ((State.Quiet.refl ps u).bump he _ (by unfold qCnt; omega)).crossed
  unfold State.enqOne
  split
  case h_1 c hc =>
    have h7 := State.egRefuse_lt hc
    dsimp only
    split
    · exact (hbump s c h7).trans ((State.Quiet.refl ps _).irq he 6).crossed
    · exact hbump s c h7
  case h_2 => exact (s.crossed_setEg ps e _).trans (hbump _ 0 (by decide))

theorem State.crossed_offer {b : Bound} (x : QEntry) (fr : Nat → Frame) {ports : List Nat} (hp : ∀ e ∈ ports, pEG e ∈ ps)
    (hq : b.queue < 8) (hl : b.lane < 8) : s.Crossed ps (s.offer b x fr ports).2 := by
  unfold State.offer
  refine List.foldlRecOn (motive := fun acc : List Nat × State => s.Crossed ps acc.2) _ _ (State.Crossed.refl ps s) fun acc hacc e he => ?_
  exact hacc.trans (State.crossed_enqOne _ (hp e he) (by split <;> assumption))

theorem State.crossed_landed (ps : List Nat) (id cells n : Nat) : s.Crossed ps (s.landed id cells n) := by
  obtain ⟨fl, po, mf, hl, -, -⟩ := s.landed_shape id cells n
  rw [hl]
  exact State.Quiet.refl ps _

/-- A frame enqueued changes the Crosscut and, quietly, the ports it is offered to. -/
theorem State.crossed_enqueue (f : Frame) {b : Bound} (x : QEntry) (seq : Option Nat) (hp : ∀ e ∈ b.ports, pEG e ∈ ps)
    (hq : b.queue < 8) (hl : b.lane < 8) : s.Crossed ps (s.enqueue f b x seq) := by
  unfold State.enqueue State.enqueueAll
  extract_lets id cells ports b' t r
  have hports : ∀ e ∈ ports, pEG e ∈ ps := by
    dsimp only [ports]
    split
    · exact fun e he => hp e (List.mem_filter.1 he).1
    · exact hp
  have hr : s.Crossed ps r.2 := (s.crossed_updSwc ps _).trans (State.crossed_offer (b := b') _ _ hports hq hl)
  split
  · exact hr
  · exact hr.trans (r.2.crossed_landed ps _ _ _)

/-- The frame a port sends carries the content, kind and destination of the one it was given. -/
theorem State.egFrame_kept (s : State) (e : Nat) (f : Frame) (vid pcp seq : Nat) :
    (s.egFrame e f vid pcp seq).body = f.body ∧ (s.egFrame e f vid pcp seq).et = f.et ∧ (s.egFrame e f vid pcp seq).da = f.da := by
  have htag (g : Frame) : (s.egTag e g seq).body = g.body ∧ (s.egTag e g seq).et = g.et ∧ (s.egTag e g seq).da = g.da := by
    unfold State.egTag
    split
    · exact ⟨rfl, rfl, rfl⟩
    · split <;> exact ⟨rfl, rfl, rfl⟩
  unfold State.egFrame
  extract_lets untag f1 f2
  have h1 : f1.body = f.body ∧ f1.et = f.et ∧ f1.da = f.da := by
    dsimp only [f1]
    split <;> exact ⟨rfl, rfl, rfl⟩
  obtain ⟨hb, he, hd⟩ := htag f1
  have h2 : f2.body = f.body ∧ f2.et = f.et ∧ f2.da = f.da := ⟨hb.trans h1.1, he.trans h1.2.1, hd.trans h1.2.2⟩
  split <;> exact h2

/-- A window frame sent: it stands in queue 3 of P9 where there is room for it, and nothing else but that port has work. -/
theorem State.winSend_spec (s : State) (dst : Nat) (k : WinKind) : ∃ t, s.winSend dst k = t ∧ s.Crossed [pEG 9] t ∧
    (s.WinRoom dst k → s.WinSent t dst k) := by
  refine ⟨_, rfl, ?_, fun hr => ?_⟩
  · unfold State.winSend
    dsimp only
    split
    · exact State.Crossed.refl _ s
    · exact State.crossed_enqueue _ _ _ (by simp) (by decide) (by decide)
  · obtain ⟨hrun, hroom, hpair, hok⟩ := hr
    unfold State.winSend
    extract_lets f
    rw [if_neg (by simp [hrun]; exact hroom)]
    obtain ⟨u, y, hy, hu, henq⟩ := State.enqueue_one (s := s) (f := f)
      (b := { ports := [9], queue := 3, lane := 0, rsel := 0, vid := 1, pcp := 0 })
      (x := { id := 0, frame := f, cells := 0, stamp := s.short, ing := 12, rsel := 0 }) (seq := none) rfl
      (show (0x88B7 : Nat) ≠ 0x8808 by decide) (by decide) hpair rfl rfl hok
    rw [henq]
    obtain ⟨fl, po, mf, hl, -, -⟩ := u.landed_shape s.swc.nextId (cellsOf f.size) 1
    rw [hl]
    obtain ⟨hbody, het, hda⟩ := s.egFrame_kept 9 f 1 0 0
    refine ⟨y, ?_, ?_, ?_, by rw [hy], by rw [hy], ?_⟩
    · rw [hy]; exact hbody
    · rw [hy]; exact het
    · rw [hy]; exact hda
    · have := State.accepted_eg ({ s with swc := { s.swc with nextId := s.swc.nextId + 1 } } : State) 9 3 y
      rw [← hu] at this
      exact congrArg EgPort.q this

end
end Sys2Proof.Machine
end

section
/-!
PROOFS. Members of a shelf: announcements, the slot table, managers and workers (R447 to R449).
-/
namespace Sys2Proof.Machine
open Sys2Proof

/-! ### What the slot table's work leaves -/

/-- Beside the shelf, `t` differs from `s` only as a quiet step of the SHF page, and no interrupt raised has been cleared. -/
structure State.Shelved (s t : State) : Prop where
  quiet : ({ s with shf := t.shf } : State).Quiet [pSHF] t
  raised : ∀ p i, bit (s.hd p).irqStatus i = true → bit (t.hd p).irqStatus i = true
  out : ∀ o, o ∈ s.out → o ∈ t.out

section
variable {s t u : State}

theorem State.Shelved.refl (s : State) : s.Shelved s := ⟨State.Quiet.refl _ _, fun _ _ => id, fun _ => id⟩

theorem State.Shelved.trans (h : s.Shelved t) (h' : t.Shelved u) : s.Shelved u where
  quiet := (h.quiet.over (a := { s with shf := u.shf }) (t := { t with shf := u.shf })
    (congrArg (fun x : State => { x with shf := u.shf }) h.quiet.rest) rfl rfl rfl rfl).trans h'.quiet
  raised p i hb := h'.raised p i (h.raised p i hb)
  out o ho := h'.out o (h.out o ho)

theorem State.shelved_updShf (s : State) (f : Shf → Shf) : s.Shelved (s.updShf f) := ⟨State.Quiet.refl _ _, fun _ _ => id, fun _ => id⟩

end

/-! ### Messages stay sent -/

section
variable (s : State) {o : Output}

theorem State.out_vecSend (v : Nat) (x : Vec) (h : o ∈ s.out) : o ∈ (s.vecSend v x).out := by
  unfold State.vecSend State.msixRaise
  split
  · split
    · dsimp only
      split
      · exact h
      · exact List.mem_cons_of_mem _ h
    · exact h
  · exact List.mem_cons_of_mem _ h

theorem State.out_fire (v : Nat) (h : o ∈ s.out) : o ∈ (s.fire v).out := by
  unfold State.fire
  dsimp only
  split
  · exact s.out_vecSend v _ h
  · exact h

theorem State.out_updHd (p : Nat) (f : Hdr → Hdr) (h : o ∈ s.out) : o ∈ (s.updHd p f).out := by
  unfold State.updHd
  extract_lets x x' t rise u
  have hrise (v : Nat) (w : State) (hw : o ∈ w.out) : o ∈ (rise v w).out := by
    dsimp only [rise]
    split
    · exact w.out_fire v hw
    · exact hw
  have hu : o ∈ u.out := by
    dsimp only [u]
    split
    · exact hrise _ _ h
    · exact h
  split
  · exact hrise _ _ hu
  · exact hu

theorem State.out_irq (p i : Nat) (h : o ∈ s.out) : o ∈ (s.irq p i).out := s.out_updHd p _ h

theorem State.out_bumpBy (p off n : Nat) (h : o ∈ s.out) : o ∈ (s.bumpBy p off n).out := by
  unfold State.bumpBy
  extract_lets v v' t
  split
  · exact State.out_irq _ p 2 (t.out_updHd p _ h)
  · exact h

end

section
variable (s : State)

theorem State.Quiet.shelve {s t : State} (h : s.Quiet [pSHF] t) : ({ s with shf := t.shf } : State).Quiet [pSHF] t := h.withShf id

theorem State.shelved_irq (i : Nat) : s.Shelved (s.irq pSHF i) :=
  ⟨((State.Quiet.refl [pSHF] s).irq (by simp) i).shelve, fun _ _ => State.bit_irq_of_bit, fun _ => s.out_irq pSHF i⟩

theorem State.shelved_bumpBy {c : Nat} (hc : c < 4096) (n : Nat) : s.Shelved (s.bumpBy pSHF c n) :=
  ⟨((State.Quiet.refl [pSHF] s).bumpBy (by simp) c n hc).shelve, fun _ _ => State.bit_bumpBy_of_bit, fun _ => s.out_bumpBy pSHF c n⟩

theorem State.shelved_bump {c : Nat} (hc : c < 4096) : s.Shelved (s.bump pSHF c) := s.shelved_bumpBy hc 1

theorem State.shelved_emit (o : Output) : s.Shelved (s.emit o) :=
  ⟨((State.Quiet.refl [pSHF] s).emit o).shelve, fun _ _ => id, fun _ => List.mem_cons_of_mem _⟩

end

/-! ### The slot table (R448) -/

/-- Two states of the shelf differ in the slot table, and in interrupts on their way. -/
def SlotsOnly (a b : Shf) : Prop := b = { a with slots := b.slots, intr := b.intr, msix := b.msix }

theorem SlotsOnly.trans {a b c : Shf} (h : SlotsOnly a b) (h' : SlotsOnly b c) : SlotsOnly a c := by
  unfold SlotsOnly at *
  rw [h] at h'
  exact h'

theorem SameShf.slotsOnly {a b : Shf} (h : SameShf a b) : SlotsOnly a b := by
  unfold SameShf at h
  unfold SlotsOnly
  rw [h]

/-- The slot's entry became `x`, and no other. -/
structure State.SlotSet (n : Nat) (x : Slot) (s t : State) : Prop where
  slot : t.slot n = x
  other : ∀ k, k ≠ n → t.slot k = s.slot k
  shf : SlotsOnly s.shf t.shf
  shelved : s.Shelved t

theorem State.slotSet_setSlot (s : State) (n : Nat) (x : Slot) : s.SlotSet n x (s.setSlot n x) :=
  ⟨State.slot_setSlot _ _ _, fun _ hk => State.slot_setSlot_other _ _ _ _ hk, rfl, s.shelved_updShf _⟩

theorem State.SlotSet.quiet {n : Nat} {x : Slot} {s t u : State} (h : s.SlotSet n x t) (hs : t.Shelved u) (hq : t.Quiet [pSHF] u) :
    s.SlotSet n x u :=
  ⟨(hq.slot n).trans h.slot, fun k hk => (hq.slot k).trans (h.other k hk), h.shf.trans (SameShf.slotsOnly hq.shfRest), h.shelved.trans hs⟩

/-- The entry a change of state leaves. -/
def Slot.gone (x : Slot) (st : Nat) : Slot :=
  if x.state = st then x else { x with state := st, lost := if st = 3 then min 0xFFFFFFFF (x.lost + 1) else x.lost }

theorem Slot.state_gone (x : Slot) (st : Nat) : (x.gone st).state = st := by
  unfold Slot.gone
  split
  · assumption
  · rfl

theorem State.slotGo_spec (s : State) (n : Nat) (x : Slot) (st : Nat) : ∃ t, s.slotGo n x st = t ∧ s.SlotSet n (x.gone st) t ∧
    (x.state ≠ st → bit (t.hd pSHF).irqStatus 4 = true) ∧
    t.cn pSHF R.SHF_CNT_SLOT_LOST = if x.state ≠ st ∧ st = 3 then min (cntMax pSHF R.SHF_CNT_SLOT_LOST) (s.cn pSHF R.SHF_CNT_SLOT_LOST + 1)
      else s.cn pSHF R.SHF_CNT_SLOT_LOST := by
  refine ⟨_, rfl, ?_⟩
  unfold State.slotGo Slot.gone
  by_cases hx : x.state = st
  · rw [if_pos hx, if_pos hx, if_neg (fun h => h.1 hx)]
    exact ⟨s.slotSet_setSlot n x, fun h => absurd hx h, rfl⟩
  · rw [if_neg hx, if_neg hx]
    generalize ({ x with state := st, lost := if st = 3 then min 0xFFFFFFFF (x.lost + 1) else x.lost } : Slot) = y
    extract_lets t u
    have ht := s.slotSet_setSlot n y
    have hu : s.SlotSet n y u ∧
        u.cn pSHF R.SHF_CNT_SLOT_LOST = if st = 3 then min (cntMax pSHF R.SHF_CNT_SLOT_LOST) (s.cn pSHF R.SHF_CNT_SLOT_LOST + 1)
          else s.cn pSHF R.SHF_CNT_SLOT_LOST := by
      dsimp only [u]
      by_cases h3 : st = 3
      · rw [if_pos h3, if_pos h3]
        exact ⟨ht.quiet (t.shelved_bump (by decide)) ((State.Quiet.refl _ t).bump (by simp) R.SHF_CNT_SLOT_LOST (by decide)), t.cn_bump _ _⟩
      · rw [if_neg h3, if_neg h3]
        exact ⟨ht, rfl⟩
    refine ⟨hu.1.quiet (u.shelved_irq 4) ((State.Quiet.refl _ u).irq (by simp) 4), fun _ => State.bit_irq u pSHF (by decide), ?_⟩
    rw [State.cn, State.irq_cnts]
    exact hu.2.trans (by simp [hx])

/-! ### A slot that is PRESENT no more (R452 to R454) -/

/-- A read given up: what has not come reads as ones. -/
def HostReq.ones (r : HostReq) : Output := .hostRead r.tag (r.data.map (fun w => w.getD 0xFFFFFFFF))

/-- Reads given up one after the other. -/
theorem State.readsGone_spec (l : List HostReq) (s : State) : ∃ t,
    l.foldl (fun s r => ((s.bump pSHF R.SHF_CNT_RD_TIMEOUT).irq pSHF 5).emit r.ones) s = t ∧ s.Quiet [pSHF] t ∧ s.Shelved t ∧
      t.cn pSHF R.SHF_CNT_SLOT_LOST = s.cn pSHF R.SHF_CNT_SLOT_LOST ∧ ∀ r, r ∈ l → r.ones ∈ t.out := by
  induction l generalizing s with
  | nil => exact ⟨s, rfl, State.Quiet.refl _ s, State.Shelved.refl s, rfl, fun r h => absurd h (List.not_mem_nil)⟩
  | cons r l ih =>
    obtain ⟨hq, -, -⟩ := s.bump_irq_spec pSHF (o := R.SHF_CNT_RD_TIMEOUT) (i := 5) (by decide) (by decide)
    have hsh := ((s.shelved_bump (c := R.SHF_CNT_RD_TIMEOUT) (by decide)).trans (State.shelved_irq _ 5)).trans (State.shelved_emit _ r.ones)
    have hc : (((s.bump pSHF R.SHF_CNT_RD_TIMEOUT).irq pSHF 5).emit r.ones).cn pSHF R.SHF_CNT_SLOT_LOST = s.cn pSHF R.SHF_CNT_SLOT_LOST := by
      refine Eq.trans ?_ (s.cn_bumpBy_other pSHF R.SHF_CNT_RD_TIMEOUT 1 pSHF R.SHF_CNT_SLOT_LOST (by decide))
      rw [State.cn, show (((s.bump pSHF R.SHF_CNT_RD_TIMEOUT).irq pSHF 5).emit r.ones).cnts = _ from State.irq_cnts _ _ _]
      rfl
    have hin : r.ones ∈ (((s.bump pSHF R.SHF_CNT_RD_TIMEOUT).irq pSHF 5).emit r.ones).out := List.mem_cons_self
    have hq := hq.emit r.ones
    obtain ⟨t, ht, hq', hsh', hc', hout⟩ := ih (((s.bump pSHF R.SHF_CNT_RD_TIMEOUT).irq pSHF 5).emit r.ones)
    refine ⟨t, ht, hq.trans hq', hsh.trans hsh', hc'.trans hc, fun x hx => ?_⟩
    rcases List.mem_cons.1 hx with rfl | hx
    · exact hsh'.out _ hin
    · exact hout x hx

/-- What the loss of a slot takes from the window. -/
def Shf.flushed (h : Shf) (n : Nat) : Shf :=
  { h with wins := sset {} n { seq := (sget {} n h.wins).seq } h.wins, reads := h.reads.filter (fun r => r.slot != n) }

structure State.SlotCleared (n : Nat) (s t : State) : Prop where
  shf : SameShf (s.shf.flushed n) t.shf
  shelved : s.Shelved t
  cn : t.cn pSHF R.SHF_CNT_SLOT_LOST = s.cn pSHF R.SHF_CNT_SLOT_LOST
  told : ∀ r, r ∈ s.shf.reads → r.slot = n → r.ones ∈ t.out

theorem State.slotFlush_spec (s : State) (n : Nat) : s.SlotCleared n (s.slotFlush n) := by
  unfold State.slotFlush
  extract_lets q ops writes gone u v
  have hu : u = { s with shf := s.shf.flushed n } := rfl
  have huv : u.Quiet [pSHF] v := (State.Quiet.refl _ u).bumpBy (by simp) _ _ (by decide)
  have hsv : s.Shelved v := (s.shelved_updShf _).trans (u.shelved_bumpBy (by decide) _)
  have hcv : v.cn pSHF R.SHF_CNT_SLOT_LOST = s.cn pSHF R.SHF_CNT_SLOT_LOST := u.cn_bumpBy_other _ _ _ _ _ (by decide)
  obtain ⟨t, ht, hq, hsh, hc, hout⟩ := v.readsGone_spec gone
  have hfold : gone.foldl (fun s r => ((s.bump pSHF R.SHF_CNT_RD_TIMEOUT).irq pSHF 5).emit
      (.hostRead r.tag (r.data.map (fun w => w.getD 0xFFFFFFFF)))) v = t := ht
  rw [hfold]
  refine ⟨?_, hsv.trans hsh, hc.trans hcv, fun r hr hn => hout r (List.mem_filter.2 ⟨hr, by simp [hn]⟩)⟩
  have hall := (huv.trans hq).shfRest
  rw [hu] at hall
  exact hall

theorem State.SlotCleared.slot {n : Nat} {s t : State} (h : s.SlotCleared n t) (k : Nat) : t.slot k = s.slot k := by
  have hs := h.shf
  unfold SameShf at hs
  rw [State.slot, hs]
  rfl

/-- A slot that becomes LOST. -/
theorem State.slotLose_spec (s : State) (n : Nat) : ∃ t u, s.slotLose n = t ∧ s.SlotCleared n u ∧ u.SlotSet n ((s.slot n).gone 3) t ∧
    ((s.slot n).state ≠ 3 → bit (t.hd pSHF).irqStatus 4 = true) ∧
    ((s.slot n).state ≠ 3 → t.cn pSHF R.SHF_CNT_SLOT_LOST = min (cntMax pSHF R.SHF_CNT_SLOT_LOST) (s.cn pSHF R.SHF_CNT_SLOT_LOST + 1)) := by
  have hf := s.slotFlush_spec n
  unfold State.slotLose
  dsimp only
  generalize s.slotFlush n = u at *
  rw [hf.slot]
  obtain ⟨t, ht, hs, hb, hc⟩ := u.slotGo_spec n (s.slot n) 3
  refine ⟨t, u, ht, hf, hs, hb, fun hx => ?_⟩
  rw [if_pos ⟨hx, rfl⟩, hf.cn] at hc
  exact hc

/-! ### An ANNOUNCE taken (R448) -/

/-- Two states of the shelf differ in the slot table, the window's queues and reads, and interrupts on their way. -/
def TableOnly (a b : Shf) : Prop :=
  b = { a with slots := b.slots, wins := b.wins, reads := b.reads, intr := b.intr, msix := b.msix }

theorem TableOnly.refl (a : Shf) : TableOnly a a := rfl

theorem SlotsOnly.tableOnly {a b : Shf} (h : SlotsOnly a b) : TableOnly a b := by
  unfold SlotsOnly at h
  unfold TableOnly
  rw [h]

theorem State.SlotCleared.tableOnly {n : Nat} {s t : State} (h : s.SlotCleared n t) : TableOnly s.shf t.shf := by
  have hs := h.shf
  unfold SameShf Shf.flushed at hs
  unfold TableOnly
  rw [hs]

section
variable {a b : Shf} (h : TableOnly a b)
include h

theorem TableOnly.rx : b.rx = a.rx := by rw [h]
theorem TableOnly.conflict : b.conflict = a.conflict := by rw [h]
theorem TableOnly.mgrs : b.mgrs = a.mgrs := by rw [h]
theorem TableOnly.mgrClk : b.mgrClk = a.mgrClk := by rw [h]
theorem TableOnly.mgrLost : b.mgrLost = a.mgrLost := by rw [h]
theorem TableOnly.standby : b.standby = a.standby := by rw [h]
theorem TableOnly.annClk : b.annClk = a.annClk := by rw [h]
theorem TableOnly.annSig : b.annSig = a.annSig := by rw [h]

end

theorem TableOnly.trans {a b c : Shf} (h : TableOnly a b) (h' : TableOnly b c) : TableOnly a c := by
  unfold TableOnly at *
  rw [h] at h'
  exact h'

section
variable (s : State) (n : Nat) (a : Announce)

/-- DEVICE_IDs heard from the slot within a second, another one within 300 ms, and a return after a reset. -/
def State.annIds : List (List Nat × Nat) :=
  (a.deviceId, s.tsu.clk) :: (s.slot n).ids.filter (fun e => e.1 != a.deviceId && s.since e.2 < msClk 1000)
def State.annClash : Bool := (s.slot n).ids.any (fun e => e.1 != a.deviceId && s.since e.2 ≤ msClk 300)
def State.annSeen : Bool :=
  (s.slot n).state == 3 && (match (s.slot n).ann with | some b => b.cycles != a.cycles || b.cause != a.cause | none => false)

/-- The entry and the state an ANNOUNCE gives its slot. -/
def State.annEntry : Slot :=
  { s.slot n with
    ann := some a, stamp := s.short, clk := s.tsu.clk, ids := s.annIds n a, resetSeen := (s.slot n).resetSeen || s.annSeen n a }
def State.annGoal : Nat := if (s.slot n).state = 4 ∨ s.annClash n a then 4 else annState a

theorem State.slotAnn_eq : s.slotAnn n a =
    (if (s.slot n).state = 1 ∧ s.annGoal n a ≠ 1 then s.slotFlush n else s).slotGo n (s.annEntry n a) (s.annGoal n a) := by
  unfold State.slotAnn State.annGoal State.annEntry State.annClash State.annSeen State.annIds
  rfl

theorem State.slotAnn_spec : ∃ t, s.slotAnn n a = t ∧ t.slot n = (s.annEntry n a).gone (s.annGoal n a) ∧
    (∀ k, k ≠ n → t.slot k = s.slot k) ∧ TableOnly s.shf t.shf ∧ s.Shelved t ∧
    ((s.slot n).state ≠ s.annGoal n a → bit (t.hd pSHF).irqStatus 4 = true) := by
  rw [State.slotAnn_eq]
  have hv : ∃ v, v = (if (s.slot n).state = 1 ∧ s.annGoal n a ≠ 1 then s.slotFlush n else s) ∧ (∀ k, v.slot k = s.slot k) ∧
      TableOnly s.shf v.shf ∧ s.Shelved v := by
    refine ⟨_, rfl, ?_⟩
    split
    · have hf := s.slotFlush_spec n
      exact ⟨hf.slot, hf.tableOnly, hf.shelved⟩
    · exact ⟨fun _ => rfl, TableOnly.refl _, State.Shelved.refl s⟩
  obtain ⟨v, hvd, hslot, htab, hsh⟩ := hv
  rw [← hvd]
  obtain ⟨t, ht, hs, hb, -⟩ := v.slotGo_spec n (s.annEntry n a) (s.annGoal n a)
  exact ⟨t, ht, hs.slot, fun k hk => (hs.other k hk).trans (hslot k), htab.trans hs.shf.tableOnly, hsh.trans hs.shelved, hb⟩

theorem Slot.gone_kept (x : Slot) (st : Nat) : (x.gone st).ann = x.ann ∧ (x.gone st).stamp = x.stamp ∧ (x.gone st).clk = x.clk ∧
    (x.gone st).resetSeen = x.resetSeen := by
  unfold Slot.gone
  split <;> exact ⟨rfl, rfl, rfl, rfl⟩

end

/-- The entry a manager holds of slot `n` after its ANNOUNCE. -/
structure State.Announced (n : Nat) (a : Announce) (s t : State) : Prop where
  ann : (t.slot n).ann = some a
  stamp : (t.slot n).stamp = s.short
  clk : (t.slot n).clk = s.tsu.clk
  other : ∀ k, k ≠ n → t.slot k = s.slot k
  first : (s.slot n).state ≠ 4 → (s.slot n).ids = [] → (t.slot n).state = annState a
  clash : ∀ e, e ∈ (s.slot n).ids → e.1 ≠ a.deviceId → s.since e.2 ≤ 75000000 → (t.slot n).state = 4
  raised : (t.slot n).state ≠ (s.slot n).state → bit (t.hd pSHF).irqStatus 4 = true
  seen : ∀ b, (s.slot n).state = 3 → (s.slot n).ann = some b → b.cycles ≠ a.cycles ∨ b.cause ≠ a.cause → (t.slot n).resetSeen = true

theorem State.Announced.of_shelved {n : Nat} {a : Announce} {s v t : State} (h : v.Announced n a t) (hs : s.Shelved v)
    (hslot : ∀ k, v.slot k = s.slot k) : s.Announced n a t := by
  have htsu : v.tsu = s.tsu := hs.quiet.tsu
  obtain ⟨h1, h2, h3, h4, h5, h6, h7, h8⟩ := h
  simp only [State.short, State.ns, State.since, hslot, htsu] at *
  exact ⟨h1, h2, h3, h4, h5, h6, h7, h8⟩

theorem State.slotAnn_announced (s : State) (n : Nat) (a : Announce) :
    s.Announced n a (s.slotAnn n a) ∧ TableOnly s.shf (s.slotAnn n a).shf ∧ s.Shelved (s.slotAnn n a) := by
  obtain ⟨t, ht, hslot, hoth, htab, hsh, hb⟩ := s.slotAnn_spec n a
  rw [ht]
  obtain ⟨hann, hstamp, hclk, hseen⟩ := (s.annEntry n a).gone_kept (s.annGoal n a)
  have hstate : (t.slot n).state = s.annGoal n a := by rw [hslot, Slot.state_gone]
  rw [← hslot] at hann hstamp hclk hseen
  refine ⟨⟨hann, hstamp, hclk, hoth, fun h4 hids => ?_, fun e he hid hs => ?_, fun h => hb fun he => h (hstate.trans he.symm),
    fun b h3 hb' hne => ?_⟩, htab, hsh⟩
  · rw [hstate, State.annGoal, State.annClash, hids]
    exact if_neg (by simp [h4])
  · rw [hstate]
    refine if_pos (.inr (List.any_eq_true.2 ⟨e, he, ?_⟩))
    simp only [Bool.and_eq_true, bne_iff_ne, decide_eq_true_eq]
    exact ⟨hid, hs⟩
  · rw [hseen, State.annEntry, State.annSeen, h3, hb']
    rcases hne with h | h <;> simp [h]

/-! ### ANNOUNCE_RX (R448, R449) -/

section
variable (s : State) (n : Nat) (a : Announce) (rest : List WinMsg)

/-- Another module announces this module's slot. -/
def State.clashNoted : State :=
  if n = s.ownSlot && a.deviceId != deviceId then
    let t := s.updShf (fun h => { h with conflict := some s.tsu.clk })
    if s.slotClash then t else (t.bump pSHF R.SHF_CNT_SLOT_CONFLICT).irq pSHF 7
  else s

/-- A manager is heard. -/
def Shf.heardMgr (h : Shf) (n own clk : Nat) : Shf :=
  { h with mgrs := sput n clk h.mgrs, mgrClk := clk, mgrLost := false, standby := h.standby || (h.mgr && decide (n < own)) }

theorem State.annRx_eq {m : WinMsg} (hrx : s.shf.rx = m :: rest) (hk : m.kind = .announce a) (hn : n = m.src % 64) :
    s.annRx =
      let u := (s.updShf (fun h => { h with rx := rest })).clashNoted n a
      let v := if a.mgr then u.updShf (fun h => h.heardMgr n u.ownSlot u.tsu.clk) else u
      if v.shf.mgr then v.slotAnn n a else v := by
  subst hn
  unfold State.annRx
  rw [hrx]
  dsimp -zeta only
  rw [hk]
  rfl

theorem State.clashNoted_spec : ∃ t, s.clashNoted n a = t ∧
    t.shf = { s.shf with conflict := t.shf.conflict, intr := t.shf.intr, msix := t.shf.msix } ∧
    (n = s.ownSlot → a.deviceId ≠ deviceId → t.shf.conflict = some s.tsu.clk ∧
      (s.slotClash = false → bit (t.hd pSHF).irqStatus 7 = true)) ∧
    (n ≠ s.ownSlot → t.shf.conflict = s.shf.conflict) ∧ s.Shelved t := by
  refine ⟨_, rfl, ?_⟩
  unfold State.clashNoted
  by_cases hc : n = s.ownSlot ∧ a.deviceId ≠ deviceId
  · rw [if_pos (by simp [hc.1, hc.2])]
    extract_lets t
    have ht : s.Shelved t := s.shelved_updShf _
    cases hs : s.slotClash with
    | true =>
      rw [if_pos rfl]
      exact ⟨rfl, fun _ _ => ⟨rfl, fun h => absurd h (by decide)⟩, fun h => absurd hc.1 h, ht⟩
    | false =>
      rw [if_neg (by decide)]
      obtain ⟨hq, hb, -⟩ := t.bump_irq_spec pSHF (o := R.SHF_CNT_SLOT_CONFLICT) (i := 7) (by decide) (by decide)
      have hsh := (t.shelved_bump (c := R.SHF_CNT_SLOT_CONFLICT) (by decide)).trans (State.shelved_irq _ 7)
      generalize (t.bump pSHF R.SHF_CNT_SLOT_CONFLICT).irq pSHF 7 = u at *
      have hshf := hq.shfRest
      refine ⟨?_, fun _ _ => ⟨by rw [hshf]; rfl, fun _ => hb⟩, fun h => absurd hc.1 h, ht.trans hsh⟩
      rw [hshf]
      rfl
  · rw [if_neg (by simpa using fun h => hc h)]
    exact ⟨rfl, fun h1 h2 => absurd ⟨h1, h2⟩ hc, fun _ => rfl, State.Shelved.refl s⟩

end

theorem mem_sput_self {β : Type} (k : Nat) (v : β) (m : List (Nat × β)) : (k, v) ∈ sput k v m := by
  induction m with
  | nil => exact List.mem_cons_self
  | cons e t ih =>
    obtain ⟨i, b⟩ := e
    unfold sput
    split
    · exact List.mem_cons_self
    · split
      · exact List.mem_cons_self
      · exact List.mem_cons_of_mem _ ih

/-- Whether the sender is a manager: its place among the managers heard. -/
theorem State.heardMgr_spec (s : State) (b : Bool) (n own clk : Nat) :
    ∃ t, (if b then s.updShf (fun h => h.heardMgr n own clk) else s) = t ∧
      t.shf = { s.shf with mgrs := t.shf.mgrs, mgrClk := t.shf.mgrClk, mgrLost := t.shf.mgrLost, standby := t.shf.standby } ∧
      (b = true → (n, clk) ∈ t.shf.mgrs ∧ t.shf.mgrClk = clk ∧ t.shf.mgrLost = false ∧
        t.shf.standby = (s.shf.standby || (s.shf.mgr && decide (n < own)))) ∧
      (b = false → t.shf.mgrs = s.shf.mgrs ∧ t.shf.standby = s.shf.standby ∧ t.shf.mgrLost = s.shf.mgrLost) ∧ s.Shelved t := by
  refine ⟨_, rfl, ?_⟩
  cases b with
  | true =>
    rw [if_pos rfl]
    exact ⟨rfl, fun _ => ⟨mem_sput_self _ _ _, rfl, rfl, rfl⟩, fun h => absurd h (by decide), s.shelved_updShf _⟩
  | false =>
    rw [if_neg (by decide)]
    exact ⟨rfl, fun h => absurd h (by decide), fun _ => ⟨rfl, rfl, rfl⟩, State.Shelved.refl s⟩

/-- What an ANNOUNCE does on a manager, and that it does nothing to the table of a worker. -/
theorem State.announceEntered_spec (s : State) (n : Nat) (a : Announce) : ∃ t, (if s.shf.mgr then s.slotAnn n a else s) = t ∧
    TableOnly s.shf t.shf ∧ s.Shelved t ∧ (s.shf.mgr = false → t.shf.slots = s.shf.slots) ∧ (s.shf.mgr = true → s.Announced n a t) := by
  refine ⟨_, rfl, ?_⟩
  cases s.shf.mgr with
  | true =>
    rw [if_pos rfl]
    obtain ⟨hann, htab, hsh⟩ := s.slotAnn_announced n a
    exact ⟨htab, hsh, fun h => absurd h (by decide), fun _ => hann⟩
  | false =>
    rw [if_neg (by decide)]
    exact ⟨TableOnly.refl _, State.Shelved.refl s, fun _ => rfl, fun h => absurd h (by decide)⟩

/-- An ANNOUNCE received: the clash noted, a manager heard, and on a manager its slot's entry. -/
theorem exec_announceRx_takes {s : State} {m : WinMsg} {rest : List WinMsg} {a : Announce} {n : Nat} (hon : s.onMain = true)
    (hrx : s.shf.rx = m :: rest) (hk : m.kind = .announce a) (hn : n = m.src % 64) :
    ∃ t, exec .announceRx s = .next t ∧ t.shf.rx = rest ∧
      (n = s.ownSlot → a.deviceId ≠ deviceId → t.shf.conflict = some s.tsu.clk ∧
        (s.slotClash = false → bit (t.hd pSHF).irqStatus 7 = true)) ∧
      (n ≠ s.ownSlot → t.shf.conflict = s.shf.conflict) ∧
      (a.mgr = true → (n, s.tsu.clk) ∈ t.shf.mgrs ∧ t.shf.mgrClk = s.tsu.clk ∧ t.shf.mgrLost = false ∧
        t.shf.standby = (s.shf.standby || (s.shf.mgr && decide (n < s.ownSlot)))) ∧
      (a.mgr = false → t.shf.mgrs = s.shf.mgrs ∧ t.shf.standby = s.shf.standby ∧ t.shf.mgrLost = s.shf.mgrLost) ∧
      (s.shf.mgr = false → t.shf.slots = s.shf.slots) ∧ (s.shf.mgr = true → s.Announced n a t) ∧
      ({ s with shf := t.shf } : State).Quiet [pSHF] t := by
  obtain ⟨w, hw, hexec⟩ := act_next (f := State.annRx) hon
  rw [s.annRx_eq n a rest hrx hk hn] at hw
  obtain ⟨u, hu, hushf, hown, hfar, hush⟩ := (s.updShf (fun h => { h with rx := rest })).clashNoted_spec n a
  dsimp only at hw
  rw [hu] at hw
  replace hush := (s.shelved_updShf (fun h => { h with rx := rest })).trans hush
  have hclk : u.tsu = s.tsu := hush.quiet.tsu
  have hos : u.ownSlot = s.ownSlot := by rw [State.ownSlot, hush.quiet.ident]; rfl
  rw [hos, hclk] at hw
  have hrx' : u.shf.rx = rest := by rw [hushf]; rfl
  have hstand : u.shf.standby = s.shf.standby := by rw [hushf]; rfl
  have hmgr : u.shf.mgr = s.shf.mgr := by rw [hushf]; rfl
  have hmgrs : u.shf.mgrs = s.shf.mgrs := by rw [hushf]; rfl
  have hlost : u.shf.mgrLost = s.shf.mgrLost := by rw [hushf]; rfl
  have hslots : u.shf.slots = s.shf.slots := by rw [hushf]; rfl
  obtain ⟨v, hv, hvshf, hyes, hno, hvsh⟩ := u.heardMgr_spec a.mgr n s.ownSlot s.tsu.clk
  rw [hv] at hw
  obtain ⟨t, ht, htab, hsh, hworker, hmanager⟩ := v.announceEntered_spec n a
  rw [ht] at hw
  rw [hw] at hexec
  have hslot (k : Nat) : v.slot k = s.slot k := by rw [State.slot, hvshf]; exact congrArg (sget {} k) hslots
  have hvm : v.shf.mgr = s.shf.mgr := by rw [hvshf]; exact hmgr
  have hall := hush.trans hvsh
  rw [hvm] at hworker hmanager
  rw [hstand, hmgr] at hyes
  rw [hmgrs, hstand, hlost] at hno
  have hrxv : v.shf.rx = rest := by rw [hvshf]; exact hrx'
  have hconf : v.shf.conflict = u.shf.conflict := by rw [hvshf]
  have hslotsv : v.shf.slots = s.shf.slots := by rw [hvshf]; exact hslots
  refine ⟨_, (exec_announceRx s).trans hexec, ?_, fun h1 h2 => ?_, fun h1 => ?_, fun h => ?_, fun h => ?_, fun h => ?_, fun h => ?_,
    State.Quiet.pend (hall.trans hsh).quiet⟩
  · exact htab.rx.trans hrxv
  · obtain ⟨hc, hb⟩ := hown h1 h2
    exact ⟨htab.conflict.trans (hconf.trans hc), fun h => (hvsh.trans hsh).raised pSHF 7 (hb h)⟩
  · exact htab.conflict.trans (hconf.trans (hfar h1))
  · obtain ⟨h1, h2, h3, h4⟩ := hyes h
    exact ⟨by rw [show t.shf.mgrs = v.shf.mgrs from htab.mgrs]; exact h1, htab.mgrClk.trans h2,
      htab.mgrLost.trans h3, htab.standby.trans h4⟩
  · obtain ⟨h1, h2, h3⟩ := hno h
    exact ⟨htab.mgrs.trans h1, htab.standby.trans h2, htab.mgrLost.trans h3⟩
  · exact (hworker h).trans hslotsv
  · obtain ⟨h1, h2, h3, h4, h5, h6, h7, h8⟩ := (hmanager h).of_shelved hall hslot
    exact ⟨h1, h2, h3, h4, h5, h6, h7, h8⟩

/-! ### ANNOUNCE_SEND (R447) -/

theorem State.caps_congr {s t : State} (hu : ∀ q, t.unusable q = s.unusable q) (hi : t.ident = s.ident) (hm : t.memFenced = s.memFenced) :
    t.caps = s.caps := by
  simp only [State.caps, State.usable, hu, State.half, State.capStreams, State.capChannels, State.dramGroups, hi, hm]
  rfl

section
variable {ps : List Nat} {s t : State} (h : s.Crossed ps t)
include h

theorem State.Crossed.sysStatus : t.sysStatus = s.sysStatus := by
  have hf : t.failed = s.failed := by
    unfold State.failed
    rw [h.regs]
  have hc : t.cyc = s.cyc := h.cyc
  rw [State.sysStatus, hf, hc]
  rfl

theorem State.Crossed.caps : t.caps = s.caps := State.caps_congr (fun q => h.unusable q) h.ident h.memFenced

theorem State.Crossed.annNow : t.annNow = s.annNow := by rw [State.annNow, h.sysStatus, h.caps]; rfl

theorem State.Crossed.mgr : t.shf.mgr = s.shf.mgr := by rw [State.Quiet.shfRest h]
theorem State.Crossed.slots : t.shf.slots = s.shf.slots := by rw [State.Quiet.shfRest h]

theorem State.Crossed.announce : t.announce = s.announce := by
  have he : t.eol = s.eol := by
    unfold State.eol State.rg
    rw [h.regs]
  have hi : t.ident = s.ident := h.ident
  have hev : t.evr = s.evr := h.evr
  have hr : t.rst = s.rst := h.rst
  rw [State.announce, h.mgr, State.sysId, hi, h.sysStatus, h.caps, hev, hr, he]
  rfl

end

/-- What an ANNOUNCE sent leaves: its time, what it carried, and on a manager its own entry. -/
structure State.AnnSent (s t : State) : Prop where
  clk : t.shf.annClk = some s.tsu.clk
  sig : t.shf.annSig = s.annNow
  sent : s.WinRoom 64 (.announce s.announce) → s.WinSent t 64 (.announce s.announce)
  worker : s.shf.mgr = false → t.shf.slots = s.shf.slots
  manager : s.shf.mgr = true → (t.slot s.ownSlot).ann = some s.announce ∧ (t.slot s.ownSlot).clk = s.tsu.clk ∧
    ∀ n, n ≠ s.ownSlot → t.slot n = s.slot n
  rest : t = { s with
    shf := t.shf, egs := t.egs, swc := t.swc, flips := t.flips, poison := t.poison, hdrs := t.hdrs, cnts := t.cnts, vecs := t.vecs
    out := t.out }

theorem State.annSend_due (s : State) (hd : s.shf.annClk = none ∨ (∃ c, s.shf.annClk = some c ∧ (25000000 ≤ s.since c ∨ s.annNow ≠ s.shf.annSig))) :
    s.AnnSent s.annSend := by
  unfold State.annSend
  extract_lets due u v
  have hdue : due = true := by
    dsimp only [due]
    rcases hd with h | ⟨c, hc, h⟩
    · rw [h]
    · rw [hc]
      simp only [Bool.or_eq_true, decide_eq_true_eq, bne_iff_ne]
      exact h
  rw [hdue, if_neg (by decide)]
  obtain ⟨x, hx, hcross, hsent⟩ := s.winSend_spec 64 (.announce s.announce)
  have hux : u = x := hx
  rw [← hux] at hcross hsent
  obtain ⟨k, hv, hkc, hks, hkm, hkl⟩ : ∃ k, v = { u with shf := k } ∧ k.annClk = some s.tsu.clk ∧ k.annSig = s.annNow ∧
      k.mgr = u.shf.mgr ∧ k.slots = u.shf.slots :=
    ⟨_, rfl, by rw [show u.tsu = s.tsu from hcross.tsu], by rw [hcross.annNow], rfl, rfl⟩
  have hvmgr : v.shf.mgr = s.shf.mgr := by rw [hv]; exact hkm.trans hcross.mgr
  have hvann : v.announce = s.announce := by
    rw [← hcross.announce, State.announce, hvmgr, ← hcross.mgr, hv]
    rfl
  have hvslot : v.ownSlot = s.ownSlot := by
    have hi : u.ident = s.ident := hcross.ident
    rw [hv, State.ownSlot, State.ownSlot, hi]
  rw [hvann, hvslot]
  obtain ⟨t, ht, htab, hsh, hworker, hmanager⟩ := v.announceEntered_spec s.ownSlot s.announce
  rw [ht]
  rw [hvmgr] at hworker hmanager
  have hslots : v.shf.slots = s.shf.slots := by rw [hv]; exact hkl.trans hcross.slots
  have htsu : v.tsu = s.tsu := by rw [hv]; exact hcross.tsu
  refine ⟨htab.annClk.trans (by rw [hv]; exact hkc), htab.annSig.trans (by rw [hv]; exact hks), fun hr => ?_, fun hm => (hworker hm).trans hslots, fun hm => ?_, ?_⟩
  · obtain ⟨y, h1, h2, h3, h4, h5, h6⟩ := hsent hr
    refine ⟨y, h1, h2, h3, h4, h5, ?_⟩
    have he : t.egs = u.egs := hsh.quiet.egs.trans (by rw [hv])
    rw [← h6, State.eg, he]
    rfl
  · have ha := hmanager hm
    refine ⟨ha.ann, ha.clk.trans (by rw [htsu]), fun k hk => (ha.other k hk).trans ?_⟩
    rw [State.slot, hslots]
    rfl
  · have h1 := hcross.rest
    have h2 := hsh.quiet.rest
    rw [hv] at h2
    rw [h1] at h2
    rw [h2]

/-! ### The commands -/

section
variable {s : State} {n : Nat} {x : Slot}

/-- A PRESENT slot silent for LOSS_COUNT periods becomes LOST. -/
theorem exec_slotLost_takes (hon : s.onMain = true) (hn : n < 64) (hx : x = s.slot n) (hm : s.shf.mgr = true) (h1 : x.state = 1)
    (hl : s.lossClk ≤ s.since x.clk) : ∃ t, exec (.slotLost n) s = .next t ∧
      t.slot n = { x with state := 3, lost := min 0xFFFFFFFF (x.lost + 1) } ∧ (∀ k, k ≠ n → t.slot k = s.slot k) ∧
      t.wq n = { seq := (s.wq n).seq } ∧ (∀ k, k ≠ n → t.wq k = s.wq k) ∧ (∀ r, r ∈ t.shf.reads → r.slot ≠ n) ∧
      (∀ r, r ∈ s.shf.reads → r.slot = n → r.ones ∈ t.out) ∧
      t.cn pSHF R.SHF_CNT_SLOT_LOST = min (cntMax pSHF R.SHF_CNT_SLOT_LOST) (s.cn pSHF R.SHF_CNT_SLOT_LOST + 1) ∧
      bit (t.hd pSHF).irqStatus 4 = true ∧ ({ s with shf := t.shf } : State).Quiet [pSHF] t := by
  subst hx
  obtain ⟨w, hw, hexec⟩ := act_next (f := fun s => if n < 64 then s.slotLost n else s) hon
  obtain ⟨t, u, ht, hf, hs, hb, hc⟩ := s.slotLose_spec n
  rw [if_pos hn, State.slotLost, if_pos (by simp [hm, h1, hl]), ht] at hw
  rw [hw] at hexec
  have hne : (s.slot n).state ≠ 3 := by omega
  have hgone : (s.slot n).gone 3 = { s.slot n with state := 3, lost := min 0xFFFFFFFF ((s.slot n).lost + 1) } := if_neg hne
  have hwins : t.shf.wins = sset {} n { seq := (s.wq n).seq } s.shf.wins ∧ t.shf.reads = s.shf.reads.filter (fun r => r.slot != n) := by
    have h1 := hs.shf
    have h2 := hf.shf
    unfold SlotsOnly at h1
    unfold SameShf Shf.flushed at h2
    rw [h1, h2]
    exact ⟨rfl, rfl⟩
  obtain ⟨hwin, hreads⟩ := hwins
  refine ⟨_, (exec_slotLost n s).trans hexec, hs.slot.trans hgone, fun k hk => (hs.other k hk).trans (hf.slot k), ?_, fun k hk => ?_,
    fun r hr => ?_, fun r hr hsl => hs.shelved.out _ (hf.told r hr hsl), hc hne, hb hne, State.Quiet.pend (hf.shelved.trans hs.shelved).quiet⟩
  · exact (congrArg (sget {} n) hwin).trans (sget_sset_same _ _ _ _)
  · exact (congrArg (sget {} k) hwin).trans (sget_sset_other _ _ _ _ _ _ hk)
  · rw [show t.shf.reads = _ from hreads] at hr
    simpa using (List.mem_filter.1 hr).2

/-- A conflict ends where one DEVICE_ID is left. -/
theorem exec_slotConflictEnd_takes {a : Announce} (hon : s.onMain = true) (hn : n < 64) (hx : x = s.slot n) (h4 : x.state = 4)
    (hl : (x.ids.filter (fun e => s.since e.2 < msClk 1000)).length ≤ 1) (ha : x.ann = some a) :
    ∃ t, exec (.slotConflictEnd n) s = .next t ∧ (t.slot n).state = annState a ∧ (∀ k, k ≠ n → t.slot k = s.slot k) ∧
      bit (t.hd pSHF).irqStatus 4 = true ∧ ({ s with shf := t.shf } : State).Quiet [pSHF] t := by
  subst hx
  obtain ⟨w, hw, hexec⟩ := act_next (f := fun s => if n < 64 then s.conflictEnd n else s) hon
  rw [if_pos hn] at hw
  replace hw : w = if (s.slot n).state ≠ 4 ∨ 1 < ((s.slot n).ids.filter (fun e => s.since e.2 < msClk 1000)).length then s else
      match (s.slot n).ann with
      | some a => s.slotGo n { s.slot n with ids := (s.slot n).ids.filter (fun e => s.since e.2 < msClk 1000) } (annState a)
      | none => s := hw
  rw [if_neg (fun h => h.elim (fun h => h h4) (fun h => absurd hl (Nat.not_le.2 h))), ha] at hw
  have hne : annState a ≠ 4 := by unfold annState; split <;> decide
  obtain ⟨t, ht, hs, hb, -⟩ := s.slotGo_spec n { s.slot n with ids := (s.slot n).ids.filter (fun e => s.since e.2 < msClk 1000) } (annState a)
  rw [hw.trans ht] at hexec
  refine ⟨_, (exec_slotConflictEnd n s).trans hexec, ?_, hs.other, hb ?_, State.Quiet.pend hs.shelved.quiet⟩
  · exact (congrArg Slot.state hs.slot).trans (Slot.state_gone _ _)
  · rw [show ({ s.slot n with ids := _ } : Slot).state = 4 from h4]
    exact hne.symm

theorem exec_forget_lost (hon : s.onMain = true) (hn : n < 64) (hun : (s.hd pSHF).unlocked = true) (h3 : (s.slot n).state = 3) :
    ∃ t, exec (.forget n) s = .next t ∧ t.slot n = { s.slot n with state := 0, ids := [], ann := none } ∧
      (∀ k, k ≠ n → t.slot k = s.slot k) ∧ bit (t.hd pSHF).irqStatus 4 = true ∧ ({ s with shf := t.shf } : State).Quiet [pSHF] t := by
  rw [exec_forget, actReg_unlocked (by decide) _ hun]
  obtain ⟨w, hw, hexec⟩ := actReg_next (p := pSHF) (f := fun s => if n < 64 then s.forget n else s) hon
  have hq := (State.Quiet.refl [pSHF] s).touch (p := pSHF) (by simp)
  rw [if_pos hn, State.forget, hq.slot, if_pos h3] at hw
  obtain ⟨t, ht, hs, hb, -⟩ := (s.touch pSHF).slotGo_spec n { s.slot n with ids := [], ann := none } 0
  rw [hw.trans ht] at hexec
  have hgone : ({ s.slot n with ids := [], ann := none } : Slot).gone 0 = { s.slot n with state := 0, ids := [], ann := none } :=
    if_neg (by rw [show ({ s.slot n with ids := [], ann := none } : Slot).state = 3 from h3]; decide)
  refine ⟨_, hexec, hs.slot.trans hgone, fun k hk => (hs.other k hk).trans (hq.slot k), hb ?_, ?_⟩
  · rw [show ({ s.slot n with ids := [], ann := none } : Slot).state = 3 from h3]
    decide
  · have h0 : s.Shelved (s.touch pSHF) := ⟨hq.shelve, fun p i h => by rw [State.hd_touch]; exact h, fun o h => by rw [s.touch_shape]; exact h⟩
    exact State.Quiet.pend (h0.trans hs.shelved).quiet

end

/-- Settles O56: announcements sent and taken, slots lost and given back, managers and workers, FORGET and ACK_RESET. -/
theorem shelfMembers : Obligations.ShelfMembers := by
  unfold Obligations.ShelfMembers
  refine ⟨fun s hon => ⟨fun c hc hl hs => ?_, fun hd => ?_, fun hrx => ?_, fun m rest a n hrx hk hn => ?_, fun n x hn hx => ⟨fun h => ?_,
    fun hm h1 hl => exec_slotLost_takes hon hn hx hm h1 hl, fun h => ?_, fun a h4 hl ha => exec_slotConflictEnd_takes hon hn hx h4 hl ha⟩,
    fun h => ?_, fun hm hs ha => ?_, fun h => ?_, fun hm hl hs => ?_⟩, fun n s hon hn => ⟨fun hun => ?_,
    fun hun => ⟨fun h3 => exec_forget_lost hon hn hun h3, fun h3 => ?_⟩, ?_⟩⟩
  · rw [exec_announceSend]
    refine act_same (if_pos ?_)
    simp [hc, hs, msClk, Nat.not_le.2 hl]
  · obtain ⟨w, hw, hexec⟩ := act_next (f := State.annSend) hon
    obtain ⟨h1, h2, h3, h4, h5, h6⟩ := s.annSend_due hd
    rw [← hw] at h1 h2 h3 h4 h5 h6
    clear hw
    exact ⟨_, (exec_announceSend s).trans hexec, h1, h2, h3, h4, h5, congrArg (fun x : State => { x with pending := s.pending }) h6⟩
  · rw [exec_announceRx]
    exact act_same (by rw [State.annRx, hrx])
  · obtain ⟨t, hexec, h1, h2, h3, h4, h5, h6, h7, h8⟩ := exec_announceRx_takes hon hrx hk hn
    refine ⟨t, hexec, h1, h2, h3, h4, h5, h6, fun hm => ?_, h8⟩
    obtain ⟨a1, a2, a3, a4, a5, a6, a7, a8⟩ := h7 hm
    exact ⟨a1, a2, a3, a4, a5, a6, a7, a8⟩
  · rw [exec_slotLost]
    refine act_same ?_
    rw [if_pos hn, State.slotLost, ← hx]
    refine if_neg ?_
    rcases h with h | h | h
    · simp [h]
    · simp [h]
    · simp [Nat.not_le.2 h]
  · rw [exec_slotConflictEnd]
    refine act_same ?_
    rw [if_pos hn, State.conflictEnd, ← hx]
    exact if_pos h
  · rw [exec_mgrTakeover]
    refine act_same (if_neg ?_)
    rcases h with h | h | ⟨k, hk, hlt⟩
    · simp [h]
    · simp [h]
    · simp only [Bool.and_eq_true, Bool.not_eq_true', not_and, Bool.not_eq_false, List.any_eq_true, decide_eq_true_eq]
      exact fun _ => ⟨k, hk, hlt⟩
  · obtain ⟨w, hw, hexec⟩ := act_next (f := State.takeover) hon
    have hany : s.mgrsAlive.any (· < s.ownSlot) = false := by
      rw [List.any_eq_false]
      exact fun k hk => by simpa using ha k hk
    rw [State.takeover, if_pos (by simp [hm, hs, hany])] at hw
    have hq := (State.Quiet.refl [pSHF] (s.updShf (fun h => { h with standby := false }))).irq (p := pSHF) (by simp) 6
    have hb := State.bit_irq (s.updShf (fun h => { h with standby := false })) pSHF (i := 6) (by decide)
    rw [← hw] at hq hb
    refine ⟨_, (exec_mgrTakeover s).trans hexec, ?_, hb, hq.pend⟩
    have hshf := hq.shfRest
    clear hw
    exact (congrArg Shf.standby hshf).trans rfl
  · rw [exec_mgrLost]
    refine act_same (if_neg ?_)
    rcases h with h | h | h
    · simp [h]
    · simp [h]
    · simp [Nat.not_le.2 h]
  · obtain ⟨w, hw, hexec⟩ := act_next (f := State.mgrLoss) hon
    rw [State.mgrLoss, if_pos (by simp [hm, hl, hs])] at hw
    have hq := (State.Quiet.refl [pSHF] (s.updShf (fun h => { h with mgrLost := true }))).irq (p := pSHF) (by simp) 8
    have hb := State.bit_irq (s.updShf (fun h => { h with mgrLost := true })) pSHF (i := 8) (by decide)
    rw [← hw] at hq hb
    refine ⟨_, (exec_mgrLost s).trans hexec, ?_, hb, hq.pend⟩
    have hshf := hq.shfRest
    clear hw
    exact (congrArg Shf.mgrLost hshf).trans rfl
  · rw [exec_forget]
    exact actReg_locked hon (by decide) _ hun
  · rw [exec_forget, actReg_unlocked (by decide) _ hun]
    obtain ⟨w, -, hq, hexec⟩ := actReg_eff (p := pSHF) (f := fun s => if n < 64 then s.forget n else s) hon
    rw [if_pos hn, State.forget, if_neg (show ¬(({ s with hdrs := w } : State).slot n).state = 3 from h3)] at hexec
    exact ⟨_, hexec, rfl, hq⟩
  · obtain ⟨w, -, hq, hexec⟩ := actReg_eff (p := pSHF) (f := fun s => if n < 64 then s.ackReset n else s) hon
    rw [if_pos hn] at hexec
    exact ⟨_, (exec_ackReset n s).trans hexec, s.slot_setSlot n _, fun k hk => s.slot_setSlot_other n k _ hk, rfl⟩

end Sys2Proof.Machine
end

section
/-!
PROOFS. Window frames: packing, performing once, responses, retries, timeouts, interrupts (R452 to R455).
-/
namespace Sys2Proof.Machine
open Sys2Proof

/-! ### Room for a frame on P9, carried along a step -/

section
variable {s t u : State} {d : Nat} {k : WinKind}

theorem State.WinRoom.quiet {ps : List Nat} (hr : s.WinRoom d k) (h : s.Quiet ps t) : t.WinRoom d k := by
  have hi : t.ident = s.ident := h.ident
  have ha : t.ownAddr 9 = s.ownAddr 9 := by simp only [State.ownAddr, h.ac]
  obtain ⟨h1, h2, h3, h4⟩ := hr
  refine ⟨(h.running _).trans h1, ?_, (h.pairOf _).trans h3, ?_⟩
  · rw [State.lndFree, h.swc]; exact h2
  · rw [h.egRefuse, h.egFrame, h.short, ha, State.ownShelf, State.ownSlot, hi]; exact h4

theorem State.egRefuse_withShf (s : State) (x : Shf) (e q : Nat) (f : Frame) (st : Nat) :
    ({ s with shf := x } : State).egRefuse e q f st = s.egRefuse e q f st := by
  have h1 : ({ s with shf := x } : State).canTx e = s.canTx e := rfl
  have h2 : ({ s with shf := x } : State).egMacsec e f = s.egMacsec e f := rfl
  have h3 : ({ s with shf := x } : State).macsecAdd e = s.macsecAdd e := rfl
  have h4 : ({ s with shf := x } : State).maxLen e = s.maxLen e := rfl
  have h5 : ({ s with shf := x } : State).gateOpensIn e q = s.gateOpensIn e q := rfl
  simp only [State.egRefuse, h1, h2, h3, h4, h5, State.qDepth]
  rfl

theorem State.egFrame_withShf (s : State) (x : Shf) (e : Nat) (f : Frame) (v p n : Nat) :
    ({ s with shf := x } : State).egFrame e f v p n = s.egFrame e f v p n := by
  have h1 : ({ s with shf := x } : State).vlanUntag v = s.vlanUntag v := rfl
  have h2 (f : Frame) : ({ s with shf := x } : State).egTag e f n = s.egTag e f n := rfl
  simp only [State.egFrame, h1, h2]

theorem State.WinRoom.withShf (hr : s.WinRoom d k) (x : Shf) : ({ s with shf := x } : State).WinRoom d k := by
  obtain ⟨h1, h2, h3, h4⟩ := hr
  have ha : ({ s with shf := x } : State).ownAddr 9 = s.ownAddr 9 := rfl
  refine ⟨h1, h2, h3, ?_⟩
  rw [State.egRefuse_withShf, State.egFrame_withShf, ha]
  exact h4

theorem State.WinSent.of_same (h : t.WinSent u d k) (hi : t.ident = s.ident) (he : t.egs = s.egs) (hs : t.swc = s.swc) : s.WinSent u d k := by
  unfold State.WinSent State.ownShelf State.ownSlot at *
  rw [hi, State.eg, State.eg, he, hs] at h
  exact h

end

section
variable {ps : List Nat} {s t : State}

theorem State.Quiet.rx (h : s.Quiet ps t) : t.shf.rx = s.shf.rx := by rw [h.shfRest]
theorem State.Quiet.done (h : s.Quiet ps t) : t.shf.done = s.shf.done := by rw [h.shfRest]
theorem State.Crossed.rx (h : s.Crossed ps t) : t.shf.rx = s.shf.rx := by
  unfold State.Crossed at h
  rw [State.Quiet.rx h]
theorem State.Crossed.done (h : s.Crossed ps t) : t.shf.done = s.shf.done := by
  unfold State.Crossed at h
  rw [State.Quiet.done h]
theorem State.Crossed.regs (h : s.Crossed ps t) : t.regs = s.regs := by
  unfold State.Crossed at h
  rw [State.Quiet.regs h]
theorem State.Crossed.tbl (h : s.Crossed ps t) : t.tbl = s.tbl := by
  unfold State.Crossed at h
  rw [State.Quiet.tbl h]

end

/-! ### Vectors on their way to the host only join the list -/

section
variable {s t u : State}

/-- Beside what a quiet step may change, the list of host vectors has only grown. -/
def State.Queued (s t : State) : Prop := s.shf.intr <+: t.shf.intr

theorem State.queued_vecSend (s : State) (v : Nat) (x : Vec) : s.Queued (s.vecSend v x) := by
  unfold State.Queued State.vecSend State.msixRaise
  split
  · split
    · dsimp only
      split <;> exact List.prefix_rfl
    · exact List.prefix_append _ _
  · exact List.prefix_rfl

theorem State.queued_fire (s : State) (v : Nat) : s.Queued (s.fire v) := by
  unfold State.fire
  dsimp only
  split
  · exact s.queued_vecSend v _
  · exact List.prefix_rfl

theorem State.queued_updHd (s : State) (p : Nat) (f : Hdr → Hdr) : s.Queued (s.updHd p f) := by
  unfold State.updHd
  extract_lets x x' t rise u
  have hrise (v : Nat) (w : State) (hw : s.Queued w) : s.Queued (rise v w) := by
    dsimp only [rise]
    split
    · exact hw.trans (w.queued_fire v)
    · exact hw
  have hu : s.Queued u := by
    dsimp only [u]
    split
    · exact hrise _ _ List.prefix_rfl
    · exact List.prefix_rfl
  split
  · exact hrise _ _ hu
  · exact hu

theorem State.queued_bump (s : State) (p c : Nat) : s.Queued (s.bump p c) := by
  unfold State.bump State.bumpBy
  extract_lets v v' t
  split
  · exact List.IsPrefix.trans (t.queued_updHd p _) (State.queued_updHd _ p _)
  · exact List.prefix_rfl

theorem State.queued_enqOne (s : State) (e q : Nat) (x : QEntry) : s.Queued (s.enqOne e q x).2 := by
  unfold State.enqOne
  split
  · dsimp only
    split
    · exact List.IsPrefix.trans (s.queued_bump _ _) (State.queued_updHd _ _ _)
    · exact s.queued_bump _ _
  · dsimp only
    exact State.queued_bump (s.setEg e _) _ _

theorem State.queued_offer (s : State) (b : Bound) (x : QEntry) (fr : Nat → Frame) (ports : List Nat) : s.Queued (s.offer b x fr ports).2 := by
  unfold State.offer
  refine List.foldlRecOn (motive := fun acc : List Nat × State => s.Queued acc.2) _ _ List.prefix_rfl fun acc hacc e _ => ?_
  exact List.IsPrefix.trans hacc (acc.2.queued_enqOne _ _ _)

theorem State.queued_landed (s : State) (id cells n : Nat) : s.Queued (s.landed id cells n) := by
  obtain ⟨fl, po, mf, hl, -, -⟩ := s.landed_shape id cells n
  rw [hl]
  exact List.prefix_rfl

theorem State.queued_enqueue (s : State) (f : Frame) (b : Bound) (x : QEntry) (seq : Option Nat) : s.Queued (s.enqueue f b x seq) := by
  unfold State.enqueue State.enqueueAll
  extract_lets id cells ports b' t r
  have hr : s.Queued r.2 := State.queued_offer t _ _ _ _
  split
  · exact hr
  · exact List.IsPrefix.trans hr (r.2.queued_landed _ _ _)

theorem State.queued_winSend (s : State) (d : Nat) (k : WinKind) : s.Queued (s.winSend d k) := by
  unfold State.winSend
  dsimp only
  split
  · exact List.prefix_rfl
  · exact s.queued_enqueue _ _ _ _

end

/-! ### Frames to a worker, and its interrupts (R452, R455) -/

section
variable {s : State} {n : Nat} {q : WinQ}

/-- No entry is due to be packed. -/
theorem exec_windowFrameSend_waits (hn : n < 64) (hq : q = s.wq n) (hm : s.shf.mgr = true)
    (h : q.queue = [] ∨ (q.queue.length < 128 ∧ (∀ o, o ∈ q.queue → opReads o.1 = false) ∧ s.since q.firstClk < 125)) :
    exec (.windowFrameSend n) s = .next s := by
  rw [exec_windowFrameSend]
  refine act_same ?_
  rw [if_pos hn, State.windowSend, if_pos hm, State.winPack, ← hq]
  refine if_pos ?_
  rcases h with h | ⟨hl, hr, hc⟩
  · simp [h]
  · have hany : q.queue.any (fun o => opReads o.1) = false := List.any_eq_false.2 fun o ho => by simp [hr o ho]
    simp [hany, Nat.not_le.2 hl, Nat.not_le.2 hc]

/-- The next frame to a worker. -/
def State.nextFrame (s : State) (n : Nat) : WinFly :=
  { seq := (s.wq n).seq, ops := (s.wq n).queue.take (s.wq n).pack, tries := 1, firstClk := s.tsu.clk, lastClk := s.tsu.clk }

/-- The window's side once that frame has been packed. -/
def State.packed (s : State) (n : Nat) : WinQ :=
  { queue := (s.wq n).queue.drop (s.wq n).pack, firstClk := s.tsu.clk, fly := (s.wq n).fly ++ [s.nextFrame n], seq := ((s.wq n).seq + 1) % 65536 }

/-- A frame sent to a worker leaves the window's queues as they are. -/
theorem State.winSend_setWq (s : State) (n d : Nat) (x : WinQ) (k : WinKind) : ∃ t, (s.setWq n x).winSend d k = t ∧ t.wq n = x ∧
    (∀ j, j ≠ n → t.wq j = s.wq j) ∧ t.cnts = ((s.setWq n x).winSend d k).cnts ∧ (s.WinRoom d k → s.WinSent t d k) := by
  obtain ⟨t, ht, hc, hs⟩ := (s.setWq n x).winSend_spec d k
  refine ⟨t, ht, (State.Quiet.wq hc n).trans (State.wq_setWq s n x), fun j hj => (State.Quiet.wq hc j).trans (State.wq_setWq_other s _ _ x hj), ?_,
    fun hr => (hs (hr.withShf _)).of_same rfl rfl rfl⟩
  rw [ht]

theorem State.winPack_due (hd : (s.wq n).queue ≠ [] ∧ (128 ≤ (s.wq n).queue.length ∨ (∃ o, o ∈ (s.wq n).queue ∧ opReads o.1 = true) ∨
    125 ≤ s.since (s.wq n).firstClk)) : s.winPack n = (s.setWq n (s.packed n)).winFrame n (s.nextFrame n) := by
  obtain ⟨hne, hdue⟩ := hd
  refine if_neg ?_
  simp only [List.isEmpty_iff, Bool.or_eq_true, Bool.not_eq_true', Bool.or_eq_false_iff, decide_eq_false_iff_not, not_or]
  refine ⟨hne, fun h => ?_⟩
  obtain ⟨⟨h1, h2⟩, h3⟩ := h
  rcases hdue with h | ⟨o, ho, hr⟩ | h
  · exact h1 h
  · rw [List.any_eq_false] at h2
    exact h2 o ho hr
  · exact h3 h

/-- A worker's oldest host vector leaves for the manager. -/
theorem exec_windowFrameSend_interrupt {i m : Nat} {rest : List Nat} (hon : s.onMain = true) (hn : n < 64) (hm : s.shf.mgr = false)
    (hi : s.shf.intr = i :: rest) (hs : s.mgrSlot = some m) : ∃ t more, exec (.windowFrameSend n) s = .next t ∧
      t.shf.intr = rest ++ more ∧ t.cn pSHF R.SHF_CNT_INTR = min (cntMax pSHF R.SHF_CNT_INTR) (s.cn pSHF R.SHF_CNT_INTR + 1) ∧
      (s.WinRoom m (.intr i) → s.WinSent t m (.intr i)) := by
  obtain ⟨w, hw, hexec⟩ := act_next (f := fun s => if n < 64 then s.windowSend n else s) hon
  obtain ⟨u, hu⟩ : ∃ u, s.updShf (fun h => { h with intr := rest }) = u := ⟨_, rfl⟩
  have hq := (State.Quiet.refl [pSHF] u).bump (p := pSHF) (by simp) R.SHF_CNT_INTR (by decide)
  have hcn : (u.bump pSHF R.SHF_CNT_INTR).cn pSHF R.SHF_CNT_INTR = min (cntMax pSHF R.SHF_CNT_INTR) (s.cn pSHF R.SHF_CNT_INTR + 1) := by
    rw [u.cn_bump, ← hu]
    rfl
  have hpre := u.queued_bump pSHF R.SHF_CNT_INTR
  rw [if_pos hn, State.windowSend, if_neg (by simp [hm]), State.intrSend, hi, hs] at hw
  dsimp only at hw
  rw [hu] at hw
  generalize u.bump pSHF R.SHF_CNT_INTR = v at *
  obtain ⟨t, ht, hc, hsent⟩ := v.winSend_spec m (.intr i)
  have hpre' := v.queued_winSend m (.intr i)
  rw [ht] at hw hpre'
  rw [hw] at hexec
  obtain ⟨more, hmore⟩ : u.shf.intr <+: t.shf.intr := List.IsPrefix.trans hpre hpre'
  refine ⟨_, more, (exec_windowFrameSend n s).trans hexec, ?_, (State.Quiet.cn hc pSHF R.SHF_CNT_INTR (by decide) (by decide)).trans hcn, fun hr => ?_⟩
  · rw [← hu] at hmore
    exact hmore.symm
  · have hr' : u.WinRoom m (.intr i) := hu ▸ hr.withShf _
    have hi : v.ident = s.ident := hq.ident.trans (by rw [← hu]; rfl)
    have he : v.egs = s.egs := hq.egs.trans (by rw [← hu]; rfl)
    have hsw : v.swc = s.swc := hq.swc.trans (by rw [← hu]; rfl)
    exact (hsent (hr'.quiet hq)).of_same hi he hsw

end

/-! ### Frames received from the manager (R454) -/

section
variable {s : State} {n seq : Nat} {m : WinMsg} {rest : List WinMsg} {ops : List WinOp}

/-- The state once the oldest window frame has been taken off. -/
def State.rxTaken (s : State) (rest : List WinMsg) : State := { s with shf := { s.shf with rx := rest } }

theorem State.windowRx_eq (hrx : s.shf.rx = m :: rest) (hd : m.dst = s.ownSlot) (hk : m.kind = .req seq ops) (hs : m.src = n) (hn : n < 64) :
    s.windowRx = (s.rxTaken rest).winTake n seq ops := by
  rw [State.windowRx, hrx]
  dsimp only
  rw [hk]
  dsimp only
  rw [hs, Nat.mod_eq_of_lt hn]
  exact if_pos hd

/-- A repeat is counted and answered again. -/
theorem exec_windowFrameRx_repeat {e : Nat × List Nat} (hon : s.onMain = true) (hn : n < 64) (hrx : s.shf.rx = m :: rest)
    (hd : m.dst = s.ownSlot) (hs : m.src = n) (hk : m.kind = .req seq ops)
    (he : (sget [] n s.shf.done).find? (fun e => e.1 == seq) = some e) : ∃ t, exec .windowFrameRx s = .next t ∧ t.shf.rx = rest ∧
      t.shf.done = s.shf.done ∧
      t.cn pSHF R.SHF_CNT_DUP_FRAME = min (cntMax pSHF R.SHF_CNT_DUP_FRAME) (s.cn pSHF R.SHF_CNT_DUP_FRAME + 1) ∧
      t.regs = s.regs ∧ t.tbl = s.tbl ∧ (s.WinRoom n (.resp seq e.2) → s.WinSent t n (.resp seq e.2)) := by
  obtain ⟨w, hw, hexec⟩ := act_next (f := State.windowRx) hon
  rw [State.windowRx_eq hrx hd hk hs hn, State.winTake] at hw
  dsimp only at hw
  rw [show sget [] n (s.rxTaken rest).shf.done = sget [] n s.shf.done from rfl, he] at hw
  have hq := (State.Quiet.refl [pSHF] (s.rxTaken rest)).bump (p := pSHF) (by simp) R.SHF_CNT_DUP_FRAME (by decide)
  have hcn := (s.rxTaken rest).cn_bump pSHF R.SHF_CNT_DUP_FRAME
  dsimp only at hw
  generalize (s.rxTaken rest).bump pSHF R.SHF_CNT_DUP_FRAME = v at *
  obtain ⟨t, ht, hc, hsent⟩ := v.winSend_spec n (.resp seq e.2)
  rw [hw.trans ht] at hexec
  refine ⟨_, (exec_windowFrameRx s).trans hexec, hc.rx.trans hq.rx, hc.done.trans hq.done,
    (State.Quiet.cn hc _ _ (by decide) (by decide)).trans hcn, hc.regs.trans hq.regs, hc.tbl.trans hq.tbl, fun hr => ?_⟩
  exact (hsent ((hr.withShf _).quiet hq)).of_same hq.ident hq.egs hq.swc

/-- A frame neither a repeat nor the next in sequence is dropped. -/
theorem exec_windowFrameRx_stray (hon : s.onMain = true) (hn : n < 64) (hrx : s.shf.rx = m :: rest)
    (hd : m.dst = s.ownSlot) (hs : m.src = n) (hk : m.kind = .req seq ops)
    (he : (sget [] n s.shf.done).find? (fun e => e.1 == seq) = none) (h0 : seq ≠ 0)
    (hh : ∀ e, (sget [] n s.shf.done).head? = some e → seq ≠ (e.1 + 1) % 65536) (hne : sget [] n s.shf.done ≠ []) :
    exec .windowFrameRx s = .next (s.rxTaken rest) := by
  obtain ⟨w, hw, hexec⟩ := act_next (f := State.windowRx) hon
  rw [State.windowRx_eq hrx hd hk hs hn, State.winTake] at hw
  dsimp only at hw
  rw [show sget [] n (s.rxTaken rest).shf.done = sget [] n s.shf.done from rfl, he] at hw
  cases hdone : sget [] n s.shf.done with
  | nil => exact absurd hdone hne
  | cons e l =>
    have hne' := hh e (by rw [hdone]; rfl)
    rw [hdone] at hw
    dsimp only at hw
    rw [if_pos (by simp [h0, hne'])] at hw
    rw [hw] at hexec
    exact (exec_windowFrameRx s).trans hexec

/-- A frame in sequence is performed once, and answered. -/
theorem exec_windowFrameRx_next {u : State} {ds : List Nat} (hon : s.onMain = true) (hn : n < 64) (hrx : s.shf.rx = m :: rest)
    (hd : m.dst = s.ownSlot) (hs : m.src = n) (hk : m.kind = .req seq ops)
    (he : (sget [] n s.shf.done).find? (fun e => e.1 == seq) = none)
    (hh : sget [] n s.shf.done = [] ∨ seq = 0 ∨ (∃ e, (sget [] n s.shf.done).head? = some e ∧ seq = (e.1 + 1) % 65536))
    (hu : (u, ds) = (s.rxTaken rest).winPerform ops) : ∃ t, exec .windowFrameRx s = .next t ∧
      sget [] n t.shf.done = ((seq, ds) :: sget [] n s.shf.done).take 512 ∧ t.regs = u.regs ∧ t.tbl = u.tbl ∧
      (u.WinRoom n (.resp seq ds) → u.WinSent t n (.resp seq ds)) := by
  obtain ⟨w, hw, hexec⟩ := act_next (f := State.windowRx) hon
  rw [State.windowRx_eq hrx hd hk hs hn, State.winTake] at hw
  dsimp only at hw
  rw [show sget [] n (s.rxTaken rest).shf.done = sget [] n s.shf.done from rfl, he, ← hu] at hw
  dsimp only at hw
  have hgo : w = (u.updShf (fun h => { h with done := sset [] n (((seq, ds) :: sget [] n s.shf.done).take 512) h.done })).winSend n
      (.resp seq ds) := by
    rw [hw]
    refine if_neg ?_
    cases hdone : sget [] n s.shf.done with
    | nil => simp
    | cons e l =>
      rw [hdone] at hh
      rcases hh with h | h | ⟨e', h, h'⟩
      · exact absurd h (List.cons_ne_nil _ _)
      · simp [h]
      · obtain rfl : e = e' := Option.some.inj h
        simp [h']
  obtain ⟨t, ht, hc, hsent⟩ := (u.updShf (fun h => { h with done := sset [] n (((seq, ds) :: sget [] n s.shf.done).take 512) h.done })).winSend_spec n
    (.resp seq ds)
  rw [hgo.trans ht] at hexec
  refine ⟨_, (exec_windowFrameRx s).trans hexec, ?_, hc.regs, hc.tbl, fun hr => ?_⟩
  · refine (congrArg (sget [] n) hc.done).trans ?_
    dsimp only [State.updShf]
    rw [sget_sset_same]
  · exact (hsent (hr.withShf _)).of_same rfl rfl rfl

end

/-! ### Responses received (R452) -/

section
variable {s : State} {n seq : Nat} {m : WinMsg} {rest : List WinMsg} {ds : List Nat}

theorem State.responseRx_eq (hrx : s.shf.rx = m :: rest) (hd : m.dst = s.ownSlot) (hk : m.kind = .resp seq ds) (hs : m.src = n) (hn : n < 64)
    (hm : s.shf.mgr = true) : s.responseRx = (s.rxTaken rest).winResp n seq ds := by
  rw [State.responseRx, hrx]
  dsimp only
  rw [hk]
  dsimp only
  rw [hs, Nat.mod_eq_of_lt hn]
  refine if_pos ?_
  rw [show (s.updShf (fun h => { h with rx := rest })).shf.mgr = true from hm, Bool.and_true, decide_eq_true_eq]
  exact hd

/-- The window's side once the frame has been acknowledged. -/
def WinQ.acked (q : WinQ) (seq : Nat) : WinQ := { q with fly := q.fly.filter (fun f => f.seq != seq) }

theorem State.winResp_some {f : WinFly} (hf : (s.wq n).fly.find? (fun f => f.seq == seq) = some f) : s.winResp n seq ds =
    ((f.ops.filterMap (fun o => o.2)).zip ds).foldl (fun (s : State) e => s.readData e.1.1 e.1.2 (w32 e.2)) (s.setWq n ((s.wq n).acked seq)) := by
  rw [State.winResp]
  dsimp only
  rw [hf]
  rfl

/-- The one doubleword of a read completes it. -/
theorem State.readData_last {tag w : Nat} {r : HostReq} (hr : s.shf.reads.find? (fun r => r.tag == tag) = some r) (hdata : r.data = [none]) :
    s.readData tag 0 (w32 w) = (s.updShf (fun h => { h with reads := s.shf.reads.filter (fun x => x.tag != tag) })).emit (.hostRead tag [w32 w]) := by
  rw [State.readData, hr]
  dsimp only
  rw [hdata]
  rfl

end

theorem State.SlotSet.wq {n : Nat} {x : Slot} {s t : State} (h : s.SlotSet n x t) (k : Nat) : t.wq k = s.wq k := by
  have hs := h.shf
  unfold SlotsOnly at hs
  rw [State.wq, hs]
  rfl

theorem State.SlotCleared.wq_self {n : Nat} {s t : State} (h : s.SlotCleared n t) : t.wq n = { seq := (s.wq n).seq } := by
  have hs := h.shf
  unfold SameShf Shf.flushed at hs
  rw [State.wq, hs]
  exact sget_sset_same _ _ _ _

/-! ### Frames not answered in time (R453, R454) -/

section
variable {s : State} {n : Nat} {f : WinFly}

theorem State.winRetry_waits (h : ∀ f, f ∈ (s.wq n).fly → s.since f.lastClk < 5000) : s.winRetry n = s := by
  have hnone : (s.wq n).fly.filter (fun f => decide (5000 ≤ s.since f.lastClk)) = [] :=
    List.filter_eq_nil_iff.2 fun f hf => by simpa using h f hf
  rw [State.winRetry]
  dsimp only
  rw [hnone]
  rfl

theorem State.winRetry_again (hf : (s.wq n).fly = [f]) (hc : 5000 ≤ s.since f.lastClk) (ht : f.tries ≤ fld (s.ac pSHF R.SHF_CFG) 8 3) :
    s.winRetry n = ((s.setWq n { s.wq n with fly := [{ f with tries := f.tries + 1, lastClk := s.tsu.clk }] }).bump pSHF R.SHF_CNT_RETRY).winFrame
      n f := by
  rw [State.winRetry]
  dsimp only
  rw [hf]
  simp only [List.filter_cons, hc, decide_true, if_true, List.filter_nil, List.isEmpty_cons, List.any_cons, List.any_nil, Bool.or_false,
    Nat.not_lt.2 ht, decide_false, Bool.false_eq_true, if_false, List.map_cons, List.map_nil, List.foldl_cons, List.foldl_nil]

theorem State.winRetry_lost (hf : (s.wq n).fly = [f]) (hc : 5000 ≤ s.since f.lastClk) (ht : fld (s.ac pSHF R.SHF_CFG) 8 3 < f.tries) :
    s.winRetry n = s.slotLose n := by
  rw [State.winRetry]
  dsimp only
  rw [hf]
  simp only [List.filter_cons, hc, decide_true, if_true, List.filter_nil, List.isEmpty_cons, List.any_cons, List.any_nil, Bool.or_false,
    ht, Bool.false_eq_true, if_false]

theorem State.readLost_some {tag : Nat} {r : HostReq} (hr : s.shf.reads.find? (fun r => r.tag == tag) = some r) : s.readLost tag =
    (((s.updShf (fun h => { h with reads := h.reads.filter (fun x => x.tag != tag) })).bump pSHF R.SHF_CNT_RD_TIMEOUT).irq pSHF 5).emit
      (.hostRead tag (r.data.map (fun w => w.getD 0xFFFFFFFF))) := by
  rw [State.readLost, hr]

theorem exec_windowRetryTimeout_again (hon : s.onMain = true) (hn : n < 64) (hf : (s.wq n).fly = [f]) (hc : 5000 ≤ s.since f.lastClk)
    (ht : f.tries ≤ fld (s.ac pSHF R.SHF_CFG) 8 3) : ∃ t, exec (.windowRetryTimeout n) s = .next t ∧
      t.wq n = { s.wq n with fly := [{ f with tries := f.tries + 1, lastClk := s.tsu.clk }] } ∧
      t.cn pSHF R.SHF_CNT_RETRY = min (cntMax pSHF R.SHF_CNT_RETRY) (s.cn pSHF R.SHF_CNT_RETRY + 1) ∧
      (s.WinRoom n (.req f.seq (f.ops.map Prod.fst)) → s.WinSent t n (.req f.seq (f.ops.map Prod.fst))) := by
  obtain ⟨w, hw, hexec⟩ := act_next (f := fun s => if n < 64 then s.winRetry n else s) hon
  rw [if_pos hn, State.winRetry_again hf hc ht] at hw
  generalize hx : ({ s.wq n with fly := [{ f with tries := f.tries + 1, lastClk := s.tsu.clk }] } : WinQ) = x at *
  have hq := (State.Quiet.refl [pSHF] (s.setWq n x)).bump (p := pSHF) (by simp) R.SHF_CNT_RETRY (by decide)
  have hcn := (s.setWq n x).cn_bump pSHF R.SHF_CNT_RETRY
  generalize (s.setWq n x).bump pSHF R.SHF_CNT_RETRY = v at *
  obtain ⟨t, ht, hcr, hsent⟩ := v.winSend_spec n (.req f.seq (f.ops.map Prod.fst))
  rw [hw.trans ht] at hexec
  refine ⟨_, (exec_windowRetryTimeout n s).trans hexec, ?_, (State.Quiet.cn hcr _ _ (by decide) (by decide)).trans hcn, fun hr => ?_⟩
  · exact (State.Quiet.wq hcr n).trans ((hq.wq n).trans (State.wq_setWq s n x))
  · exact (hsent ((hr.withShf _).quiet hq)).of_same hq.ident hq.egs hq.swc

theorem exec_windowRetryTimeout_lost (hon : s.onMain = true) (hn : n < 64) (hf : (s.wq n).fly = [f]) (hc : 5000 ≤ s.since f.lastClk)
    (ht : fld (s.ac pSHF R.SHF_CFG) 8 3 < f.tries) : ∃ t, exec (.windowRetryTimeout n) s = .next t ∧ (t.slot n).state = 3 ∧
      t.wq n = { seq := (s.wq n).seq } ∧ ({ s with shf := t.shf } : State).Quiet [pSHF] t := by
  obtain ⟨w, hw, hexec⟩ := act_next (f := fun s => if n < 64 then s.winRetry n else s) hon
  obtain ⟨t, u, hl, hcl, hset, -, -⟩ := s.slotLose_spec n
  rw [if_pos hn, State.winRetry_lost hf hc ht, hl] at hw
  rw [hw] at hexec
  refine ⟨_, (exec_windowRetryTimeout n s).trans hexec, (congrArg Slot.state hset.slot).trans (Slot.state_gone _ _), ?_,
    State.Quiet.pend (hcl.shelved.trans hset.shelved).quiet⟩
  exact (hset.wq n).trans hcl.wq_self

/-- Reads that come too late read as ones. -/
theorem exec_windowReadTimeout_late {o : WinOp} {tag : Nat} {r : HostReq} (hon : s.onMain = true) (hn : n < 64) (hf : (s.wq n).fly = [f])
    (ho : f.ops = [(o, some (tag, 0))]) (hc : fld (s.ac pSHF R.SHF_CFG) 16 16 * 250 ≤ s.since f.firstClk)
    (hr : s.shf.reads.find? (fun r => r.tag == tag) = some r) : ∃ t, exec (.windowReadTimeout n) s = .next t ∧
      t.shf.reads = s.shf.reads.filter (fun x => x.tag != tag) ∧
      .hostRead tag (r.data.map (fun w => w.getD 0xFFFFFFFF)) ∈ t.out ∧ bit (t.hd pSHF).irqStatus 5 = true ∧
      t.cn pSHF R.SHF_CNT_RD_TIMEOUT = min (cntMax pSHF R.SHF_CNT_RD_TIMEOUT) (s.cn pSHF R.SHF_CNT_RD_TIMEOUT + 1) ∧
      ({ s with shf := t.shf } : State).Quiet [pSHF] t := by
  obtain ⟨w, hw, hexec⟩ := act_next (f := fun s => if n < 64 then s.winReadOut n else s) hon
  rw [if_pos hn, State.winReadOut] at hw
  rw [hf] at hw
  simp only [List.filter_cons, hc, decide_true, if_true, List.filter_nil, List.flatMap_cons, List.flatMap_nil, List.append_nil, ho,
    List.filterMap_cons, List.filterMap_nil, List.foldl_cons, List.foldl_nil] at hw
  rw [State.readLost_some hr] at hw
  obtain ⟨hq, hb, hcn⟩ := (s.updShf (fun h => { h with reads := h.reads.filter (fun x => x.tag != tag) })).bump_irq_spec pSHF
    (o := R.SHF_CNT_RD_TIMEOUT) (i := 5) (by decide) (by decide)
  generalize ((s.updShf (fun h => { h with reads := h.reads.filter (fun x => x.tag != tag) })).bump pSHF R.SHF_CNT_RD_TIMEOUT).irq pSHF 5 = v at *
  rw [hw] at hexec
  refine ⟨_, (exec_windowReadTimeout n s).trans hexec, hq.reads, List.mem_cons_self, hb, hcn, ?_⟩
  exact ((hq.shelve).emit _).pend

end

/-! ### Interrupts of a worker (R455) -/

section
variable {s : State} {n : Nat}

/-- Below its limit a counter counts one and nothing else happens. -/
theorem State.bump_below {p o : Nat} (h : s.cn p o + 1 < cntMax p o) : s.bump p o = { s with cnts := sset 0 (ka p o) (s.cn p o + 1) s.cnts } := by
  unfold State.bump State.bumpBy
  extract_lets v v' t
  have hv : v' = s.cn p o + 1 := Nat.min_eq_right (by omega)
  rw [if_neg (by rw [hv, show (s.cn p o + 1 == cntMax p o) = false from beq_false_of_ne (by omega), Bool.and_false, Bool.false_and]; decide)]
  dsimp only [t]
  rw [hv]

theorem State.bump_below_kept {p o : Nat} (h : s.cn p o + 1 < cntMax p o) : (s.bump p o).shf = s.shf ∧ (s.bump p o).out = s.out := by
  rw [State.bump_below h]
  exact ⟨rfl, rfl⟩

theorem State.msixRaise_masked {k : Nat} (h : (sget {} k s.shf.msix).mask = true) :
    s.msixRaise k = s.updShf (fun y => { y with msix := sset {} k { sget {} k s.shf.msix with pend := true } s.shf.msix }) := if_pos h

theorem State.msixRaise_open {k : Nat} (h : (sget {} k s.shf.msix).mask = false) :
    s.msixRaise k = s.emit (.msix k (sget {} k s.shf.msix).addr (sget {} k s.shf.msix).data) := if_neg (by rw [h]; decide)

theorem exec_intrFrameRx_takes {m : WinMsg} {rest : List WinMsg} {i : Nat} (hon : s.onMain = true) (hn : n < 64) (hrx : s.shf.rx = m :: rest)
    (hd : m.dst = s.ownSlot) (hs : m.src = n) (hk : m.kind = .intr i) (hm : s.shf.mgr = true)
    (hc : s.cn pSHF R.SHF_CNT_INTR + 1 < cntMax pSHF R.SHF_CNT_INTR) :
    ∃ t, exec .intrFrameRx s = .next t ∧ t.shf.rx = rest ∧ t.cn pSHF R.SHF_CNT_INTR = s.cn pSHF R.SHF_CNT_INTR + 1 ∧
      ∀ x, x = sget {} (n * 32 + i % 32) s.shf.msix →
        (x.mask = true → sget {} (n * 32 + i % 32) t.shf.msix = { x with pend := true } ∧ t.out = s.out) ∧
        (x.mask = false → t.shf.msix = s.shf.msix ∧ t.out = .msix (n * 32 + i % 32) x.addr x.data :: s.out) := by
  obtain ⟨w, hw, hexec⟩ := act_next (f := State.intrRx) hon
  rw [State.intrRx, hrx] at hw
  dsimp only at hw
  rw [hk] at hw
  dsimp only at hw
  obtain ⟨v, hv, hvs, hvo, hvc⟩ : ∃ v, s.updShf (fun h => { h with rx := rest }) = v ∧ v.shf = { s.shf with rx := rest } ∧ v.out = s.out ∧
      v.cn pSHF R.SHF_CNT_INTR = s.cn pSHF R.SHF_CNT_INTR := ⟨_, rfl, rfl, rfl, rfl⟩
  have hgo : (decide (m.dst = v.ownSlot) && v.shf.mgr) = true := by
    rw [hvs, ← hv, hm, Bool.and_true, decide_eq_true_eq]
    exact hd
  rw [hv, if_pos hgo, hs, Nat.mod_eq_of_lt hn] at hw
  have hucn := v.cn_bump pSHF R.SHF_CNT_INTR
  rw [hvc, Nat.min_eq_right (by omega)] at hucn
  obtain ⟨hushf, huout⟩ := State.bump_below_kept (s := v) (by rw [hvc]; exact hc)
  rw [hvs] at hushf
  rw [hvo] at huout
  obtain ⟨u, hux⟩ : ∃ u, v.bump pSHF R.SHF_CNT_INTR = u := ⟨_, rfl⟩
  rw [hux] at hw hucn hushf huout
  have hu := hw
  have hum : u.shf.msix = s.shf.msix := by rw [hushf]
  have hur : u.shf.rx = rest := by rw [hushf]
  refine ⟨_, (exec_intrFrameRx s).trans hexec, ?_⟩
  cases hx : (sget {} (n * 32 + i % 32) s.shf.msix).mask with
  | true =>
    rw [State.msixRaise_masked (by rw [hum]; exact hx), hum] at hu
    rw [hu]
    refine ⟨hur, hucn, fun x hxx => ⟨fun _ => ⟨?_, huout⟩, fun h => ?_⟩⟩
    · rw [hxx]; exact sget_sset_same _ _ _ _
    · rw [hxx, hx] at h; exact absurd h (by decide)
  | false =>
    rw [State.msixRaise_open (by rw [hum]; exact hx), hum] at hu
    rw [hu]
    refine ⟨hur, hucn, fun x hxx => ⟨fun h => ?_, fun _ => ⟨hum, by rw [hxx, ← huout]; rfl⟩⟩⟩
    rw [hxx, hx] at h
    exact absurd h (by decide)

end

/-- Settles O58: window frames packed, performed once, answered, sent again, given up, and a worker's interrupts. -/
theorem windowFrames : Obligations.WindowFrames := by
  unfold Obligations.WindowFrames
  rintro n q s hon hn rfl
  refine ⟨fun hm => ⟨exec_windowFrameSend_waits hn rfl hm, fun hne hd => ?_⟩, fun hm hi => ?_,
    fun i rest m hm hi hs => exec_windowFrameSend_interrupt hon hn hm hi hs, fun m rest done hrx hd hs hdone => ?_, fun hrx => ?_, fun h => ?_,
    fun f hf hc => ⟨exec_windowRetryTimeout_again hon hn hf hc, exec_windowRetryTimeout_lost hon hn hf hc⟩, fun h => ?_,
    fun f o tag r hf ho hc hr => exec_windowReadTimeout_late hon hn hf ho hc hr⟩
  · obtain ⟨w, hw, hexec⟩ := act_next (f := fun s => if n < 64 then s.windowSend n else s) hon
    rw [if_pos hn, State.windowSend, if_pos hm, State.winPack_due ⟨hne, hd⟩] at hw
    obtain ⟨t, ht, hwq, hother, -, hsent⟩ := s.winSend_setWq n n (s.packed n) (.req (s.wq n).seq (((s.wq n).queue.take (s.wq n).pack).map Prod.fst))
    rw [hw.trans ht] at hexec
    exact ⟨_, s.nextFrame n, (exec_windowFrameSend n s).trans hexec, rfl, rfl, rfl, rfl, rfl, congrArg WinQ.queue hwq, congrArg WinQ.firstClk hwq,
      congrArg WinQ.fly hwq, congrArg WinQ.seq hwq, hother, hsent⟩
  · rw [exec_windowFrameSend]
    exact act_same (by rw [if_pos hn, State.windowSend, if_neg (by simp [hm]), State.intrSend, hi])
  · subst hdone
    refine ⟨fun seq ops hk => ⟨fun e he => exec_windowFrameRx_repeat hon hn hrx hd hs hk he,
      fun he h0 hh hne => exec_windowFrameRx_stray hon hn hrx hd hs hk he h0 hh hne,
      fun u ds he hh hu => exec_windowFrameRx_next hon hn hrx hd hs hk he hh hu⟩,
      fun seq ds hk hm => ⟨fun hf => ?_, fun f hf hops => ?_, fun f o tag r w hf hops hds hr hdata => ?_⟩,
      fun i hk hm hc => exec_intrFrameRx_takes hon hn hrx hd hs hk hm hc⟩
    · obtain ⟨w, hw, hexec⟩ := act_next (f := State.responseRx) hon
      rw [State.responseRx_eq hrx hd hk hs hn hm, State.winResp] at hw
      dsimp only at hw
      rw [show (s.rxTaken rest).wq n = s.wq n from rfl, hf] at hw
      rw [hw] at hexec
      exact (exec_windowResponseRx s).trans hexec
    · obtain ⟨w, hw, hexec⟩ := act_next (f := State.responseRx) hon
      have hnone : f.ops.filterMap (fun o => o.2) = [] := List.filterMap_eq_nil_iff.2 hops
      rw [State.responseRx_eq hrx hd hk hs hn hm, State.winResp_some (s := s.rxTaken rest) hf, hnone, List.zip_nil_left, List.foldl_nil] at hw
      have hwq : w.wq n = (s.wq n).acked seq := by rw [hw]; exact State.wq_setWq _ _ _
      have hother (k : Nat) (hk : k ≠ n) : w.wq k = s.wq k := by rw [hw]; exact State.wq_setWq_other _ _ _ _ hk
      have hrest : w = { s with shf := { s.shf with rx := rest, wins := w.shf.wins } } := by rw [hw]; rfl
      exact ⟨_, (exec_windowResponseRx s).trans hexec, hwq, hother, congrArg (fun x : State => { x with pending := s.pending }) hrest⟩
    · obtain ⟨u, hu, hexec⟩ := act_next (f := State.responseRx) hon
      have hone : f.ops.filterMap (fun o => o.2) = [(tag, 0)] := by rw [hops]; rfl
      rw [State.responseRx_eq hrx hd hk hs hn hm, State.winResp_some (s := s.rxTaken rest) hf, hone, hds, List.zip_cons_cons, List.zip_nil_left,
        List.foldl_cons, List.foldl_nil] at hu
      replace hu := hu.trans (State.readData_last (s := (s.rxTaken rest).setWq n (((s.rxTaken rest).wq n).acked seq)) (r := r) hr hdata)
      have hwq : u.wq n = (s.wq n).acked seq := by rw [hu]; exact State.wq_setWq _ _ _
      have hreads : u.shf.reads = s.shf.reads.filter (fun x => x.tag != tag) := by rw [hu]; rfl
      have hout : u.out = .hostRead tag [w32 w] :: s.out := by rw [hu]; rfl
      exact ⟨_, (exec_windowResponseRx s).trans hexec, hwq, hreads, hout⟩
  · exact ⟨(exec_windowFrameRx s).trans (act_same (by rw [State.windowRx, hrx])),
      (exec_windowResponseRx s).trans (act_same (by rw [State.responseRx, hrx])),
      (exec_intrFrameRx s).trans (act_same (by rw [State.intrRx, hrx]))⟩
  · rw [exec_windowRetryTimeout]
    exact act_same (by rw [if_pos hn, State.winRetry_waits h])
  · rw [exec_windowReadTimeout]
    refine act_same ?_
    have hnone : (s.wq n).fly.filter (fun f => decide (fld (s.ac pSHF R.SHF_CFG) 16 16 * 250 ≤ s.since f.firstClk)) = [] :=
      List.filter_eq_nil_iff.2 fun f hf => by simpa using h f hf
    rw [if_pos hn, State.winReadOut, hnone]
    rfl

end Sys2Proof.Machine
end

section
/-!
PROOFS. Frames of the partner of a duplex pair (R356, R363, R372, R373).
-/
namespace Sys2Proof.Machine
open Sys2Proof

/-! ### Writes of memory -/

section
variable {s t : State} (h : s.MemRead t)
include h

theorem State.MemRead.partialWrite (a : Nat) (bs : List Nat) (r i : Nat) : s.MemRead (t.partialWrite a bs r i).2 := by
  have hw := State.MemRead.wordIs h a
  unfold State.partialWrite
  generalize t.wordIs a = x at hw ⊢
  obtain ⟨f, u⟩ := x
  cases f
  case clean => exact State.MemRead.fields hw rfl
  case correctable => exact State.MemRead.fields (State.MemRead.corrected (State.MemRead.bump hw (by decide)) _ _ _ _) rfl
  case uncorr => exact State.MemRead.uncorrectable (State.MemRead.irq (State.MemRead.bump hw (by decide)) _) _ _ _ _
  case poisoned => exact State.MemRead.memEvent (State.MemRead.irq (State.MemRead.bump hw (by decide)) _) _ _ _ _

theorem State.MemRead.writeMem (a : Nat) (bs : List Nat) (r i : Nat) : s.MemRead (t.writeMem a bs r i).2 := by
  unfold State.writeMem
  extract_lets head mid r1 s2 tail r3
  have h1 : s.MemRead r1.2 := by
    dsimp only [r1]
    split
    · exact h
    · exact h.partialWrite _ _ _ _
  have h2 : s.MemRead s2 := h1.fields rfl
  dsimp only [r3]
  split
  · exact h2
  · exact h2.partialWrite _ _ _ _

end

/-! ### What the handling of a SYNC frame leaves -/

/-- The partner heard, the frames received, the state and role of the pair, and time, stay. -/
structure State.Heard (s t : State) : Prop where
  partner : t.dup.partner = s.dup.partner
  rx : t.dup.rx = s.dup.rx
  mismatch : t.dup.mismatch = s.dup.mismatch
  state : t.dup.state = s.dup.state
  active : t.dup.active = s.dup.active
  tsu : t.tsu = s.tsu

section
variable {s t u : State}

theorem State.Heard.refl (s : State) : s.Heard s := ⟨rfl, rfl, rfl, rfl, rfl, rfl⟩

theorem State.Heard.trans (h : s.Heard t) (h' : t.Heard u) : s.Heard u :=
  ⟨h'.partner.trans h.partner, h'.rx.trans h.rx, h'.mismatch.trans h.mismatch, h'.state.trans h.state, h'.active.trans h.active,
    h'.tsu.trans h.tsu⟩

theorem State.heard_of (hd : t.dup = s.dup := by rfl) (ht : t.tsu = s.tsu := by rfl) : s.Heard t := by
  refine ⟨?_, ?_, ?_, ?_, ?_, ht⟩ <;> rw [hd]

theorem State.Quiet.heard {ps : List Nat} (h : s.Quiet ps t) : s.Heard t := State.heard_of h.dup h.tsu

theorem State.MemRead.heard (h : s.MemRead t) : s.Heard t :=
  State.heard_of (show State.Quiet [pMEM] _ t from h).dup (show State.Quiet [pMEM] _ t from h).tsu

theorem State.Heard.foldl {α : Type} {f : State → α → State} (hf : ∀ (u : State) a, u.Heard (f u a)) (l : List α) (s : State) :
    s.Heard (l.foldl f s) :=
  List.foldlRecOn (motive := fun u => s.Heard u) l f (State.Heard.refl s) fun u hu a _ => hu.trans (hf u a)

end

section
variable (s : State)

theorem State.heard_dupGo (st : Nat) (a : Bool) (c : Nat) : s.Heard (s.dupGo st a c) := ⟨rfl, rfl, rfl, rfl, rfl, rfl⟩

theorem State.heard_setRg (p o : Nat) (v : Word) : s.Heard (s.setRg p o v) := State.heard_of

theorem State.heard_bumpIrq {p o i : Nat} (ho : o < 4096) : s.Heard ((s.bump p o).irq p i) :=
  (((State.Quiet.refl [p] s).bump (by simp) o ho).irq (by simp) i).heard

theorem State.heard_diverge (c j a b : Nat) : s.Heard (s.diverge c j a b) := by
  by_cases hm : s.dupMode = 2
  · rw [State.diverge, if_pos hm]
    exact State.Heard.refl s
  · obtain ⟨t, r, ht, hdup, -, -, -, -, -, -, hq⟩ := State.diverge_spec (cause := c) (j := j) (own := a) (partner := b) hm
    rw [ht]
    refine ⟨?_, ?_, ?_, ?_, ?_, hq.tsu⟩ <;> rw [hdup]

theorem State.heard_injIn (n : Nat) (x : Nat × Nat × Nat × Nat) : s.Heard (s.injIn n x) := by
  unfold State.injIn
  extract_lets tag u late v
  split
  · exact State.Heard.refl s
  · have hu : s.Heard u := ⟨rfl, rfl, rfl, rfl, rfl, rfl⟩
    have hv : s.Heard v := hu.trans (u.heard_bumpIrq (p := pDUP) (o := R.DUP_CNT_INJ_LATE) (i := 10) (by decide))
    split
    · split
      · exact hv.trans (v.heard_diverge _ _ _ _)
      · exact hv
    · split
      · exact hu.trans State.heard_of
      · exact hu.trans ((State.Quiet.refl [pCYC 0] u).bump (by simp) _ (by decide)).heard

theorem State.heard_injAll (seen : List Nat) (l : List (Nat × Nat × Nat × Nat)) : s.Heard (s.injAll seen l) := by
  induction l generalizing s seen with
  | nil => exact State.Heard.refl s
  | cons x l ih => exact (s.heard_injIn _ x).trans (ih _ _)

theorem State.heard_pairing (m : SyncMsg) : s.Heard (s.pairing m) := by
  have hgo := s.heard_dupGo
  have hr := State.Heard.refl s
  unfold State.pairing
  dsimp only
  split
  · split
    · split
      · exact hr
      · exact hgo _ _ _
    · split
      · exact hr
      · split
        · exact hgo _ _ _
        · split
          · exact hgo _ _ _
          · exact hr
  · split
    · exact hgo _ _ _
    · exact hr

theorem State.heard_resyncCtl (prev : Option SyncMsg) (m : SyncMsg) : s.Heard (s.resyncCtl prev m) := by
  unfold State.resyncCtl
  extract_lets d soloNew u
  have hu : s.Heard u := by
    dsimp only [u]
    split
    · exact ⟨rfl, rfl, rfl, rfl, rfl, rfl⟩
    · exact State.Heard.refl s
  have hans (w : State) (k : Nat) : w.Heard (w.updDup (fun d => { d with answer := some k, matches_ := 0 })) := ⟨rfl, rfl, rfl, rfl, rfl, rfl⟩
  split
  · split
    · exact (s.heard_setRg _ _ _).trans (hans _ _)
    · exact State.Heard.refl s
  · split
    · split
      · split
        · exact hu.trans ⟨rfl, rfl, rfl, rfl, rfl, rfl⟩
        · exact hu
      · exact hu
    · exact State.Heard.refl s

theorem State.heard_swapCtl (m : SyncMsg) : s.Heard (s.swapCtl m) := by
  unfold State.swapCtl
  extract_lets d u
  have hu : s.Heard u := by
    dsimp only [u]
    split
    · split
      · exact ⟨rfl, rfl, rfl, rfl, rfl, rfl⟩
      · exact State.Heard.refl s
    · exact State.Heard.refl s
  split
  · exact State.Heard.refl s
  · split
    · split
      · split
        · exact ⟨rfl, rfl, rfl, rfl, rfl, rfl⟩
        · exact State.Heard.refl s
      · split
        · exact ⟨rfl, rfl, rfl, rfl, rfl, rfl⟩
        · exact State.Heard.refl s
    · split
      · exact hu.trans ⟨rfl, rfl, rfl, rfl, rfl, rfl⟩
      · exact hu

theorem State.heard_writePt (i : Nat) (x : Point) : s.Heard (s.writePt i x) := by
  unfold State.writePt State.freshAt
  split <;> exact State.heard_of

theorem State.heard_mirAdopt (bs : List Nat) : s.Heard (s.mirAdopt bs) := by
  unfold State.mirAdopt
  refine List.foldlRecOn (motive := fun acc : State × List Nat => s.Heard acc.1) _ _ (State.Heard.refl s) fun acc hacc i _ => ?_
  dsimp only
  split
  · exact hacc
  · split
    · exact hacc.trans (State.Heard.foldl (fun u k => u.heard_writePt _ _) _ acc.1)
    · exact hacc.trans ((State.MemRead.refl acc.1).writeMem _ _ _ _).heard

theorem State.heard_mirTry : s.Heard s.mirTry := by
  have hdone (u : State) : u.Heard (u.updDup (fun d => { d with adoptedMir := true })) := ⟨rfl, rfl, rfl, rfl, rfl, rfl⟩
  unfold State.mirTry
  split
  · extract_lets got
    split
    · exact (s.heard_mirAdopt _).trans (hdone _)
    · exact State.Heard.refl s
  · exact State.Heard.refl s

theorem State.mirTry_idle (h : s.dup.state ≠ 3) : s.mirTry = s := by
  unfold State.mirTry
  split
  case h_1 h3 _ _ => exact absurd h3 h
  case h_2 => rfl

end

/-! ### SYNC frames (R356, R371, R372) -/

/-- The partner's frame kept, with the comparison of the configurations. -/
def State.synced (s : State) (m : SyncMsg) (rx : List Body) : State :=
  s.updDup (fun d => { d with
    rx := rx, partner := some m, syncs := (m :: d.syncs).take 4, mismatch := m.configId != s.cfgId,
    cfgDiff := if m.configId != s.cfgId then d.cfgDiff + 1 else 0 })

section
variable {s : State} {m : SyncMsg} {rx : List Body}

theorem State.dupSyncRx_eq (he : s.dupEn = true) (hrx : s.dup.rx = .sync m :: rx) : s.dupSyncRx =
    ((((((s.synced m rx).injAll [] m.inj).pairing m).resyncCtl s.dup.partner m).swapCtl m).mirTry) := by
  rw [State.dupSyncRx, hrx]
  exact if_neg (by rw [show (s.updDup (fun d => { d with rx := rx })).dupEn = s.dupEn from rfl, he]; decide)

theorem State.heard_dupSyncRx (he : s.dupEn = true) (hrx : s.dup.rx = .sync m :: rx) : (s.synced m rx).Heard s.dupSyncRx := by
  rw [State.dupSyncRx_eq he hrx]
  exact ((((State.heard_injAll _ _ _).trans (State.heard_pairing _ _)).trans (State.heard_resyncCtl _ _ _)).trans
    (State.heard_swapCtl _ _)).trans (State.heard_mirTry _)

/-- A STANDBY in PAIRING takes nothing else from the frame than the change it decides. -/
theorem State.dupSyncRx_pairing (he : s.dupEn = true) (hrx : s.dup.rx = .sync m :: rx) (h1 : s.dup.state = 1) (hi : m.inj = [])
    (ha : s.dup.active = false) : s.dupSyncRx = (s.synced m rx).pairing m := by
  have hh := (s.synced m rx).heard_pairing m
  rw [State.dupSyncRx_eq he hrx, hi]
  have hst : ((s.synced m rx).pairing m).dup.state = 1 := hh.state.trans h1
  have hac : ((s.synced m rx).pairing m).dup.active = false := hh.active.trans ha
  rw [show (s.synced m rx).injAll [] [] = s.synced m rx from rfl]
  generalize (s.synced m rx).pairing m = v at *
  have hr : v.resyncCtl s.dup.partner m = v := by
    rw [State.resyncCtl, hst, hac]
    rfl
  rw [hr, State.swapCtl, if_pos (by rw [hst]; decide), State.mirTry_idle v (by rw [hst]; decide)]

/-- A partner of the same side is a conflict. -/
theorem State.pairing_conflict (h1 : s.dup.state = 1) (hs : m.side = s.sideB) (hp : s.dup.pend = none) : s.pairing m = s.dupGo 7 false 3 := by
  rw [State.pairing]
  rw [if_pos h1, if_pos hs, hp]
  rfl

/-- An ACTIVE partner of the other side is joined. -/
theorem State.pairing_join (h1 : s.dup.state = 1) (hs : m.side ≠ s.sideB) (hm : s.dup.mismatch = false) (ha : m.active = true)
    (h5 : m.state = 5) : s.pairing m = s.dupGo 3 false 3 := by
  rw [State.pairing]
  rw [if_pos h1, if_neg hs, hm, if_neg (by decide), if_pos (by simp [ha, h5])]

end

/-! ### Parts of a mirror (R363) -/

section
variable {s : State} {c : Nat} {bs : List Nat} {rx : List Body}

theorem State.updDup_updDup (s : State) (f g : Dup → Dup) : (s.updDup f).updDup g = { s with dup := g (f s.dup) } := rfl

/-- What the parts of a mirror received make of another part. -/
def mirJoin (old : Option (Nat × List Nat)) (c : Nat) (bs : List Nat) : Option (Nat × List Nat) :=
  match old with
  | some (c', old) => if c' = c then some (c, (old ++ bs).take 65536) else if c < c' then some (c', old) else some (c, bs)
  | none => some (c, bs)

theorem exec_mirrorRx_part (hon : s.onMain = true) (he : s.dupEn = true) (hrx : s.dup.rx = .mirror c bs :: rx) (ha : s.dup.active = false)
    (h3 : s.dup.state ≠ 3) : exec .mirrorRx s = .next { s with dup := { s.dup with rx := rx, mirRx := mirJoin s.dup.mirRx c bs } } := by
  obtain ⟨w, hw, hexec⟩ := act_next (f := State.mirrorRx) hon
  rw [State.mirrorRx, hrx] at hw
  dsimp only [dupHead] at hw
  rw [show (s.updDup (fun d => { d with rx := rx })).dupEn = s.dupEn from rfl, he,
    show (s.updDup (fun d => { d with rx := rx })).dup.active = s.dup.active from rfl, ha, if_neg (by decide)] at hw
  rw [hw.trans (State.mirTry_idle _ (by exact h3)), State.updDup_updDup] at hexec
  exact (exec_mirrorRx s).trans hexec

end

/-! ### RSTATE frames (R373) -/

/-- A publication taken over. -/
def adoptedPub (p : PubState) : GPub :=
  {
    started := true, stNum := p.stNum, sqNum := p.sqNum, lastTag := p.lastTag, tick := p.tick, utc := p.utc, syncs := p.syncs,
    relTick := p.relTick, next := p.next, last := p.last }

/-- Settles O44: SYNC frames, parts of a mirror, and the publications adopted. -/
theorem partnerFrames : Obligations.PartnerFrames := by
  unfold Obligations.PartnerFrames
  intro s hon he
  refine ⟨fun m rx hrx => ?_, fun c bs rx hrx ha h3 => ?_, fun k m rx hrx => ⟨fun h3 => ?_, fun p h3 hr heng hsub hpub hlast => ?_⟩⟩
  · obtain ⟨w, hw, hexec⟩ := act_next (f := State.dupSyncRx) hon
    have hh := State.heard_dupSyncRx he hrx
    rw [← hw] at hh
    refine ⟨_, (exec_dupSyncRx s).trans hexec, hh.partner, hh.rx, hh.mismatch, hh.state, hh.active, hh.tsu, fun h1 hi hs hp ha => ?_,
      fun h1 hi hs hc ha h5 hact => ?_⟩
    · rw [hw, State.dupSyncRx_pairing he hrx h1 hi ha, State.pairing_conflict (s := s.synced m rx) h1 hs hp]
      rfl
    · rw [hw, State.dupSyncRx_pairing he hrx h1 hi hact,
        State.pairing_join (s := s.synced m rx) h1 hs (by show (m.configId != s.cfgId) = false; simp [hc]) ha h5]
      rfl
  · have hpart := exec_mirrorRx_part hon he hrx ha h3
    refine ⟨fun h => ?_, fun old h => ?_, fun c' old h hc => ?_, fun c' old h hc => ?_⟩
    · rw [hpart, h]
      rfl
    · rw [hpart, h, mirJoin, if_pos rfl]
    · rw [hpart, h, mirJoin, if_neg (by omega), if_neg (by omega)]
    · rw [hpart, h, mirJoin, if_neg (by omega), if_pos hc, ← h]
  · rw [exec_rstateRx, act_on _ _ s hon, State.rstateRx, hrx]
    dsimp only [dupHead]
    rw [State.rstateIn]
    split
    case h_1 h _ => exact absurd h h3
    case h_2 => rfl
  · obtain ⟨w, hw, hexec⟩ := act_next (f := State.rstateRx) hon
    have hgo : w = ((s.updDup (fun d => { d with rx := rx })).setGpub p.idx (adoptedPub p)).updDup (fun d => { d with adoptedPubs := true }) := by
      rw [hw, State.rstateRx, hrx]
      dsimp only [dupHead]
      rw [State.rstateIn, show (s.updDup (fun d => { d with rx := rx })).dup.state = 3 from h3,
        show (s.updDup (fun d => { d with rx := rx })).dup.resyncTick = some (k + 1) from hr]
      rw [heng]
      refine (if_pos rfl).trans ?_
      rw [State.adoptPubs, hsub, hpub, hlast]
      rfl
    have hpubs : w.cyc.pubs = sset {} p.idx (adoptedPub p) s.cyc.pubs := by rw [hgo]; rfl
    have hself : w.gpub p.idx = (adoptedPub p) := by
      rw [State.gpub, hpubs]
      exact sget_sset_same _ _ _ _
    have hother (n : Nat) (hn : n ≠ p.idx) : w.gpub n = s.gpub n := by
      rw [State.gpub, hpubs]
      exact sget_sset_other _ _ _ _ _ _ hn
    have hrest : w = { s with dup := w.dup, cyc := { s.cyc with pubs := w.cyc.pubs } } := by rw [hgo]; rfl
    have hdup : w.dup = { s.dup with rx := rx, adoptedPubs := true } := by rw [hgo]; rfl
    exact ⟨_, (exec_rstateRx s).trans hexec, hdup, congrArg GPub.started hself, congrArg GPub.stNum hself, congrArg GPub.sqNum hself,
      congrArg GPub.next hself, hother,
      congrArg (fun x : State => { x with pending := s.pending }) hrest⟩

end Sys2Proof.Machine
end

section
/-!
PROOFS. The close of a tick: alone, agreed, or solo after AGREE_WAIT (R125 to R129).
-/
namespace Sys2Proof.Machine
open Sys2Proof

/-! ### What the end of a close leaves of the plane -/

/-- The ticks started, frozen and final, the registers, time, the frames received and the pairing stay, the plane's counters too, and no
interrupt raised is cleared. -/
structure State.PlaneKept (s t : State) : Prop where
  frozen : t.sva.frozen = s.sva.frozen
  finals : t.sva.finals = s.sva.finals
  toClose : t.sva.toClose = s.sva.toClose
  lastClosed : t.sva.lastClosed = s.sva.lastClosed
  regs : t.regs = s.regs
  acts : t.acts = s.acts
  tsu : t.tsu = s.tsu
  rx : t.dup.rx = s.dup.rx
  paired : t.dup.paired = s.dup.paired
  cn : ∀ off, off < 4096 → t.cn pSVA off = s.cn pSVA off
  raised : ∀ p i, bit (s.hd p).irqStatus i = true → bit (t.hd p).irqStatus i = true

section
variable {s t u : State}

theorem State.PlaneKept.refl (s : State) : s.PlaneKept s := ⟨rfl, rfl, rfl, rfl, rfl, rfl, rfl, rfl, rfl, fun _ _ => rfl, fun _ _ => id⟩

theorem State.PlaneKept.trans (h : s.PlaneKept t) (h' : t.PlaneKept u) : s.PlaneKept u :=
  ⟨h'.frozen.trans h.frozen, h'.finals.trans h.finals, h'.toClose.trans h.toClose, h'.lastClosed.trans h.lastClosed, h'.regs.trans h.regs,
    h'.acts.trans h.acts, h'.tsu.trans h.tsu, h'.rx.trans h.rx, h'.paired.trans h.paired, fun off ho => (h'.cn off ho).trans (h.cn off ho),
    fun p i hb => h'.raised p i (h.raised p i hb)⟩

theorem State.PlaneKept.foldl {α : Type} {f : State → α → State} (hf : ∀ (u : State) a, u.PlaneKept (f u a)) (l : List α) (s : State) :
    s.PlaneKept (l.foldl f s) :=
  List.foldlRecOn (motive := fun u => s.PlaneKept u) l f (State.PlaneKept.refl s) fun u hu a _ => hu.trans (hf u a)

end

section
variable (s : State)

theorem State.planeKept_updCyc (f : Cyc → Cyc) : s.PlaneKept (s.updCyc f) := ⟨rfl, rfl, rfl, rfl, rfl, rfl, rfl, rfl, rfl, fun _ _ => rfl, fun _ _ => id⟩

theorem State.planeKept_updDup {f : Dup → Dup} (hr : (f s.dup).rx = s.dup.rx) (hp : (f s.dup).paired = s.dup.paired) : s.PlaneKept (s.updDup f) :=
  ⟨rfl, rfl, rfl, rfl, rfl, rfl, rfl, hr, hp, fun _ _ => rfl, fun _ _ => id⟩

theorem State.planeKept_setTw (a : Nat) (v : Word) : s.PlaneKept (s.setTw a v) :=
  ⟨rfl, rfl, rfl, rfl, rfl, rfl, rfl, rfl, rfl, fun _ _ => rfl, fun _ _ => id⟩

theorem State.planeKept_setStrm (n : Nat) (x : Stream) : s.PlaneKept (s.setStrm n x) :=
  ⟨rfl, rfl, rfl, rfl, rfl, rfl, rfl, rfl, rfl, fun _ _ => rfl, fun _ _ => id⟩

theorem State.planeKept_hwsIn (l : List (Nat × Nat × Nat)) : s.PlaneKept { s with hwsIn := l } :=
  ⟨rfl, rfl, rfl, rfl, rfl, rfl, rfl, rfl, rfl, fun _ _ => rfl, fun _ _ => id⟩

theorem State.planeKept_tbl (l : List (Nat × Word)) : s.PlaneKept { s with tbl := l } :=
  ⟨rfl, rfl, rfl, rfl, rfl, rfl, rfl, rfl, rfl, fun _ _ => rfl, fun _ _ => id⟩

theorem State.planeKept_freshAt (as : List Nat) (n : Nat) : s.PlaneKept (s.freshAt as n) := by
  unfold State.freshAt
  split
  · exact State.PlaneKept.refl s
  · exact ⟨rfl, rfl, rfl, rfl, rfl, rfl, rfl, rfl, rfl, fun _ _ => rfl, fun _ _ => id⟩

theorem State.planeKept_irq (p i : Nat) : s.PlaneKept (s.irq p i) := by
  refine ⟨?_, ?_, ?_, ?_, by simp, by simp, by simp, ?_, ?_, fun off _ => ?_, fun _ _ => State.bit_irq_of_bit⟩
  iterate 4 rw [State.irq_sva]
  iterate 2 rw [State.irq_dup]
  rw [State.cn, State.irq_cnts, State.cn]

theorem State.planeKept_bump {p o : Nat} (hp : p ≠ pSVA) (ho : o < 4096) : s.PlaneKept (s.bump p o) := by
  have hq := (State.Quiet.refl [p] s).bump (p := p) (by simp) o ho
  refine ⟨?_, ?_, ?_, ?_, hq.regs, hq.acts, hq.tsu, ?_, ?_, fun off hoff => hq.cn pSVA off (by simpa using hp.symm) hoff, fun _ _ => State.bit_bump_of_bit⟩
  iterate 4 rw [hq.sva]
  iterate 2 rw [hq.dup]

/-! ### The pair's share of a close (R358, R359) -/

theorem State.planeKept_adoptState (g : GState) : s.PlaneKept (s.adoptState g) :=
  (s.planeKept_updCyc _).trans (State.planeKept_bump _ (by decide) (by decide))

theorem State.planeKept_stageMembers (n tag stamp : Nat) (ms : List (Nat × Nat)) : s.PlaneKept (s.stageMembers n tag stamp ms) := by
  unfold State.stageMembers
  exact s.planeKept_updCyc _

theorem State.planeKept_gooseExpire (n j : Nat) : s.PlaneKept (s.gooseExpire n j) := by
  unfold State.gooseExpire
  extract_lets x b u v
  have hv : s.PlaneKept v := (s.planeKept_updCyc _).trans (u.planeKept_updCyc _)
  exact hv.trans (((v.planeKept_bump (p := pCYC 0) (o := R.CYC_CNT_GOOSE_EXPIRED) (by decide) (by decide)).trans (State.planeKept_irq _ _ _)).trans
    (State.planeKept_hwsIn _ _))

theorem State.planeKept_dupClosed (fz : Frozen) (m : Option PMap) (solo : Bool) : s.PlaneKept (s.dupClosed fz m solo) := by
  unfold State.dupClosed
  extract_lets k s1 s2 s3 mine theirs new s4 s5 s6 ex s7 vals all pick s8
  have h1 : s.PlaneKept s1 := s.planeKept_updCyc _
  have h2 : s1.PlaneKept s2 := by
    dsimp only [s2]
    split
    · exact s1.planeKept_updDup rfl rfl
    · exact State.PlaneKept.refl s1
  have h3 : s2.PlaneKept s3 := by
    dsimp only [s3]
    split
    · exact s2.planeKept_updDup rfl rfl
    · exact State.PlaneKept.refl s2
  have h4 : s3.PlaneKept s4 := s3.planeKept_updDup rfl rfl
  have h5 : s4.PlaneKept s5 := State.PlaneKept.foldl (fun u g => by
    split
    · exact State.PlaneKept.refl u
    · split
      · exact u.planeKept_bump (by decide) (by decide)
      · exact u.planeKept_adoptState g) _ _
  have h6 : s5.PlaneKept s6 := by
    dsimp only [s6]
    exact State.PlaneKept.foldl (fun u n => State.PlaneKept.foldl (fun u g => u.planeKept_stageMembers _ _ _ _) _ u) _ _
  have h7 : s6.PlaneKept s7 := State.PlaneKept.foldl (fun u n => by
    split
    · exact u.planeKept_gooseExpire n k
    · exact State.PlaneKept.refl u) _ _
  have h8 : s7.PlaneKept s8 := State.PlaneKept.foldl (fun u p => by
    split
    · exact u.planeKept_updCyc _
    · exact State.PlaneKept.refl u) _ _
  split
  · exact h1
  · exact (((((((h1.trans h2).trans h3).trans h4).trans h5).trans h6).trans h7).trans h8).trans (s8.planeKept_updDup rfl rfl)

/-! ### A tick becomes final (R128, R132, R133) -/

theorem State.planeKept_putChans (k c : Nat) (l : List (Int × Nat)) : s.PlaneKept (s.putChans k c l) := by
  induction l generalizing s c with
  | nil => exact State.PlaneKept.refl s
  | cons x l ih => exact ((s.planeKept_setTw _ _).trans (State.planeKept_setTw _ _ _)).trans (ih _ _)

theorem State.planeKept_finalStr (k : Nat) (agreed solo : Bool) (slot : Nat) (f : FrozenStr) : s.PlaneKept (s.finalStr k agreed solo slot f) := by
  unfold State.finalStr
  extract_lets cur same x got y u v
  have hu : s.PlaneKept u := s.planeKept_putChans _ _ _
  have hv : s.PlaneKept v := hu.trans (u.planeKept_setStrm _ _)
  split
  · exact hu
  · split
    · exact hv.trans (v.planeKept_irq _ _)
    · exact hv

end

/-- The streams of a frozen tick present in both modules. -/
def Frozen.agreed (fz : Frozen) (m : Option PMap) : List Nat :=
  match m with
  | some m => fz.present.filter (fun i => m.present.contains i)
  | none => fz.present

/-- SVA_CLOSE_INFO of a tick that becomes final. -/
def State.closeInfo (s : State) (fz : Frozen) (m : Option PMap) (solo : Bool) : Nat :=
  b2n solo + 2 * b2n m.isSome + fz.sync * 16 + (match m with | some m => m.sync % 4 * 64 | none => 0) +
    min ((s.ns - fz.closeNs) / 100) 0xFFF * 256

theorem bit_closeInfo (s : State) (fz : Frozen) (m : Option PMap) (solo : Bool) : bit (w32 (s.closeInfo fz m solo)) 0 = solo := by
  have h : (match m with | some m => m.sync % 4 * 64 | none => 0) % 2 = 0 := by
    cases m
    · rfl
    · dsimp only; omega
  have hpar : s.closeInfo fz m solo % 2 = b2n solo := by
    unfold State.closeInfo
    have hb : b2n solo < 2 := by cases solo <;> decide
    omega
  rw [bit, w32, BitVec.toNat_ofNat, Nat.testBit_zero, Nat.mod_mod_of_dvd _ (by decide : 2 ∣ 2 ^ 32), hpar]
  cases solo <;> rfl

/-- What the oldest frozen tick leaves as it becomes final. -/
structure State.Finaled (fz : Frozen) (rest : List Frozen) (m : Option PMap) (solo : Bool) (s t : State) : Prop where
  frozen : t.sva.frozen = rest
  finals : t.sva.finals = ((fz.tick, solo, s.tsu.clk) :: s.sva.finals).take 32
  toClose : t.sva.toClose = s.sva.toClose
  lastClosed : t.sva.lastClosed = s.sva.lastClosed
  stat : t.rg pSVA R.SVA_TICK_STAT = tagOf fz.tick
  info : bit (t.rg pSVA R.SVA_CLOSE_INFO) 0 = solo
  tsu : t.tsu = s.tsu
  acts : t.acts = s.acts
  rx : t.dup.rx = s.dup.rx
  paired : t.dup.paired = s.dup.paired
  oneSided : t.cn pSVA R.SVA_CNT_ONE_SIDED = min (cntMax pSVA R.SVA_CNT_ONE_SIDED)
    (s.cn pSVA R.SVA_CNT_ONE_SIDED + (fz.present.length - (fz.agreed m).length))
  solos : solo = true → t.cn pSVA R.SVA_CNT_SOLO_TICKS = min (cntMax pSVA R.SVA_CNT_SOLO_TICKS) (s.cn pSVA R.SVA_CNT_SOLO_TICKS + 1)
  raised : solo = true → bit (t.hd pSVA).irqStatus 6 = true

theorem State.closeFinal_spec {s : State} {fz : Frozen} {rest : List Frozen} (m : Option PMap) (solo : Bool) (hf : s.sva.frozen = fz :: rest) :
    s.Finaled fz rest m solo (s.closeFinal m solo) := by
  rw [State.closeFinal, hf]
  dsimp only
  suffices h : s.Finaled fz rest m solo (s.svaFinal m solo) by
    have hk := (s.svaFinal m solo).planeKept_dupClosed fz m solo
    refine ⟨hk.frozen.trans h.frozen, hk.finals.trans h.finals, hk.toClose.trans h.toClose, hk.lastClosed.trans h.lastClosed, ?_, ?_,
      hk.tsu.trans h.tsu, hk.acts.trans h.acts, hk.rx.trans h.rx, hk.paired.trans h.paired, (hk.cn _ (by decide)).trans h.oneSided,
      fun hs => (hk.cn _ (by decide)).trans (h.solos hs), fun hs => hk.raised _ _ (h.raised hs)⟩
    · rw [State.rg, hk.regs]; exact h.stat
    · rw [State.rg, hk.regs]; exact h.info
  unfold State.svaFinal
  rw [hf]
  dsimp -zeta only
  extract_lets k agreed oneSided s1 s2 s3 tenths info s4 s5
  have hag : agreed = fz.agreed m := rfl
  have hq1 := (State.Quiet.refl [pSVA] s).bumpBy (p := pSVA) (by simp) R.SVA_CNT_ONE_SIDED oneSided (by decide)
  have hc1 := s.cn_bumpBy pSVA R.SVA_CNT_ONE_SIDED oneSided
  have hc2 := s.cn_bumpBy_other pSVA R.SVA_CNT_ONE_SIDED oneSided pSVA R.SVA_CNT_SOLO_TICKS (by decide)
  have h13 : s1.PlaneKept s3 := by
    refine State.PlaneKept.trans (t := s2) ((s1.planeKept_tbl _).trans (State.planeKept_freshAt _ _ _)) ?_
    exact State.PlaneKept.foldl (fun u e => u.planeKept_finalStr _ _ _ _ _) _ _
  change s1.cn _ _ = _ at hc1
  change s1.cn _ _ = _ at hc2
  change State.Quiet [pSVA] s s1 at hq1
  clear_value s1
  clear_value s3
  have hinfo : w32 info = w32 (s3.closeInfo fz m solo) := rfl
  have hsva : s5.sva.frozen = rest ∧ s5.sva.finals = ((k, solo, s3.tsu.clk) :: s3.sva.finals).take 32 ∧ s5.sva.toClose = s3.sva.toClose ∧
      s5.sva.lastClosed = s3.sva.lastClosed := ⟨rfl, rfl, rfl, rfl⟩
  have hstat : s5.rg pSVA R.SVA_TICK_STAT = tagOf fz.tick := by
    refine (State.rg_setRg_other (s3.setRg pSVA R.SVA_TICK_STAT (tagOf k)) pSVA R.SVA_CLOSE_INFO pSVA R.SVA_TICK_STAT _ (by decide)).trans ?_
    exact State.rg_setRg _ _ _ _
  have hcl : s5.rg pSVA R.SVA_CLOSE_INFO = w32 (s3.closeInfo fz m solo) := (State.rg_setRg _ _ _ _).trans hinfo
  have hkeep : s5.tsu = s3.tsu ∧ s5.acts = s3.acts ∧ s5.dup = s3.dup ∧ s5.cnts = s3.cnts := ⟨rfl, rfl, rfl, rfl⟩
  obtain ⟨hfr, hfi, htc, hlc⟩ := hsva
  obtain ⟨htsu, hacts, hdup, hcnts⟩ := hkeep
  have hcn (off : Nat) (ho : off < 4096) : s5.cn pSVA off = s1.cn pSVA off := by
    rw [State.cn, hcnts]
    exact h13.cn off ho
  clear_value s5
  have htsu' : s5.tsu = s.tsu := htsu.trans (h13.tsu.trans hq1.tsu)
  have hfin : s5.sva.finals = ((fz.tick, solo, s.tsu.clk) :: s.sva.finals).take 32 := by
    rw [hfi, h13.tsu.trans hq1.tsu, h13.finals, hq1.sva]
  have htc' : s5.sva.toClose = s.sva.toClose := by rw [htc, h13.toClose, hq1.sva]
  have hlc' : s5.sva.lastClosed = s.sva.lastClosed := by rw [hlc, h13.lastClosed, hq1.sva]
  have hrx : s5.dup.rx = s.dup.rx := by rw [hdup, h13.rx, hq1.dup]
  have hpd : s5.dup.paired = s.dup.paired := by rw [hdup, h13.paired, hq1.dup]
  have hac : s5.acts = s.acts := hacts.trans (h13.acts.trans hq1.acts)
  have hone : s5.cn pSVA R.SVA_CNT_ONE_SIDED = min (cntMax pSVA R.SVA_CNT_ONE_SIDED)
      (s.cn pSVA R.SVA_CNT_ONE_SIDED + (fz.present.length - (fz.agreed m).length)) := (hcn _ (by decide)).trans hc1
  have hsolo : s5.cn pSVA R.SVA_CNT_SOLO_TICKS = s.cn pSVA R.SVA_CNT_SOLO_TICKS := (hcn _ (by decide)).trans hc2
  cases solo with
  | false =>
    exact ⟨hfr, hfin, htc', hlc', hstat, by rw [if_neg (by decide), hcl, bit_closeInfo], htsu', hac, hrx, hpd, hone, fun h => absurd h (by decide),
      fun h => absurd h (by decide)⟩
  | true =>
    obtain ⟨hq, hb, hc⟩ := s5.bump_irq_spec pSVA (o := R.SVA_CNT_SOLO_TICKS) (i := 6) (by decide) (by decide)
    have hother : ((s5.bump pSVA R.SVA_CNT_SOLO_TICKS).irq pSVA 6).cn pSVA R.SVA_CNT_ONE_SIDED = s5.cn pSVA R.SVA_CNT_ONE_SIDED := by
      rw [State.cn, State.irq_cnts]
      exact s5.cn_bump_other _ _ _ _ (by decide)
    rw [if_pos rfl]
    generalize (s5.bump pSVA R.SVA_CNT_SOLO_TICKS).irq pSVA 6 = t at *
    refine ⟨by rw [hq.sva]; exact hfr, by rw [hq.sva]; exact hfin, by rw [hq.sva]; exact htc', by rw [hq.sva]; exact hlc', (hq.rg _ _).trans hstat,
      by rw [hq.rg, hcl, bit_closeInfo], hq.tsu.trans htsu', hq.acts.trans hac, by rw [hq.dup]; exact hrx, by rw [hq.dup]; exact hpd, hother.trans hone,
      fun _ => hc.trans (by rw [hsolo]), fun _ => hb⟩

/-! ### The freeze (R125, R358) -/

/-- The plane, time, the registers, the pair, the filter engines and memory stay. -/
structure State.Yarded (s t : State) : Prop where
  sva : t.sva = s.sva
  tsu : t.tsu = s.tsu
  acts : t.acts = s.acts
  dup : t.dup = s.dup
  regs : t.regs = s.regs
  flt : t.flt = s.flt
  mem : t.mem = s.mem

section
variable {s t u : State}

theorem State.Yarded.refl (s : State) : s.Yarded s := ⟨rfl, rfl, rfl, rfl, rfl, rfl, rfl⟩

theorem State.Yarded.trans (h : s.Yarded t) (h' : t.Yarded u) : s.Yarded u :=
  ⟨h'.sva.trans h.sva, h'.tsu.trans h.tsu, h'.acts.trans h.acts, h'.dup.trans h.dup, h'.regs.trans h.regs, h'.flt.trans h.flt, h'.mem.trans h.mem⟩

end

section
variable (s : State)

theorem State.yarded_bumpBy (p o n : Nat) : s.Yarded (s.bumpBy p o n) := ⟨by simp, by simp, by simp, by simp, by simp, by simp, by simp⟩
theorem State.yarded_bump (p o : Nat) : s.Yarded (s.bump p o) := s.yarded_bumpBy p o 1
theorem State.yarded_irq (p i : Nat) : s.Yarded (s.irq p i) := ⟨by simp, by simp, by simp, by simp, by simp, by simp, by simp⟩

theorem State.yarded_emit (o : Output) : s.Yarded (s.emit o) := ⟨rfl, rfl, rfl, rfl, rfl, rfl, rfl⟩

theorem State.yarded_useKey (slot d : Nat) : s.Yarded (s.useKey slot d).2 := by
  unfold State.useKey
  split
  · exact State.Yarded.refl s
  · dsimp only
    split
    · exact ⟨rfl, rfl, rfl, rfl, rfl, rfl, rfl⟩
    · exact s.yarded_bump _ _

theorem State.yarded_pnThresh (p old new : Nat) : s.Yarded (s.pnThresh p old new) := by
  unfold State.pnThresh
  dsimp only
  split
  · exact s.yarded_irq _ _
  · exact State.Yarded.refl s

theorem State.yarded_macsecTx (p : Nat) (f : Frame) : s.Yarded (s.macsecTx p f).2 := by
  unfold State.macsecTx
  split
  · exact State.Yarded.refl s
  · extract_lets an a pn incl t g
    split
    · exact State.Yarded.refl s
    · split
      · exact (s.yarded_bump _ _).trans (State.yarded_irq _ _ _)
      · have hk := s.yarded_useKey (fld (s.tw (a + 4)) 0 8) (macsecDest p)
        split
        · next u hu =>
          rw [hu] at hk
          exact hk
        · next key u hu =>
          rw [hu] at hk
          exact hk.trans (State.Yarded.trans (t := u.setTw (a + 16) (w32 (pn + 1))) ⟨rfl, rfl, rfl, rfl, rfl, rfl, rfl⟩ (State.yarded_pnThresh _ _ _ _))

theorem State.yarded_yardSend (f : Frame) : s.Yarded (s.yardSend f) := by
  unfold State.yardSend
  split
  · exact s.yarded_bump _ _
  · split
    · have hm := s.yarded_macsecTx 8 f
      unfold State.yardOut
      split
      · next u hu =>
        rw [hu] at hm
        exact hm.trans (u.yarded_bump _ _)
      · next g u hu =>
        rw [hu] at hm
        exact (hm.trans (u.yarded_bump _ _)).trans ((State.yarded_bumpBy _ _ _ _).trans (State.yarded_emit _ _))
    · exact ⟨rfl, rfl, rfl, rfl, rfl, rfl, rfl⟩

end

/-- A tick has frozen: one that waits, with the partner's map of it where that was held already. -/
structure State.Froze (k : Nat) (rest : List (Nat × Nat)) (fz : Frozen) (s t : State) : Prop where
  frozen : t.sva.frozen = [fz]
  tick : fz.tick = k
  closeNs : fz.closeNs = s.ns
  map : fz.map = s.sva.heldMaps.find? (fun m => m.tick == k)
  toClose : t.sva.toClose = rest
  lastClosed : t.sva.lastClosed = some k
  finals : t.sva.finals = s.sva.finals
  strm : ∀ n, (s.strm n).valid = true → t.strm n = s.strm n
  tsu : t.tsu = s.tsu
  acts : t.acts = s.acts
  paired : t.dup.paired = s.dup.paired

theorem strm_freed {l : List (Nat × Stream)} {n : Nat} (h : (sget {} n l).valid = true) :
    sget {} n (l.map (fun e => if e.2.valid then e else (e.1, { e.2 with held := false }))) = sget {} n l := by
  induction l with
  | nil => rfl
  | cons e l ih =>
    obtain ⟨a, x⟩ := e
    by_cases hx : x.valid = true
    · by_cases ha : a = n
      · simp [sget, hx, ha]
      · simpa [sget, hx, ha] using ih (by simpa [sget, ha] using h)
    · by_cases ha : a = n
      · simp [sget, ha, hx] at h
      · simpa [sget, hx, ha] using ih (by simpa [sget, ha] using h)

theorem State.svaFreeze_spec {s : State} {k at_ : Nat} {rest : List (Nat × Nat)} (hc : s.sva.toClose = (k, at_) :: rest) (hf : s.sva.frozen = []) :
    ∃ fz, s.Froze k rest fz s.svaFreeze := by
  unfold State.svaFreeze
  rw [hc]
  dsimp -zeta only
  extract_lets fz stale
  obtain ⟨u, hu, hfr, hto, hlc, hfi, hst, htsu, hacts, hpd⟩ : ∃ u : State, s.updSva (fun v =>
      { v with
        toClose := rest, lastClosed := some k, frozen := v.frozen ++ [fz], mapOwn := fz.spread fz.present
        streams := v.streams.map (fun e => if e.2.valid then e else (e.1, { e.2 with held := false }))
        heldMaps := v.heldMaps.filter (fun m => k < m.tick) }) = u ∧ u.sva.frozen = s.sva.frozen ++ [fz] ∧ u.sva.toClose = rest ∧
      u.sva.lastClosed = some k ∧ u.sva.finals = s.sva.finals ∧
      u.sva.streams = s.sva.streams.map (fun e => if e.2.valid then e else (e.1, { e.2 with held := false })) ∧ u.tsu = s.tsu ∧ u.acts = s.acts ∧
      u.dup.paired = s.dup.paired := ⟨_, rfl, rfl, rfl, rfl, rfl, rfl, rfl, rfl, rfl⟩
  have hy := u.yarded_bumpBy pSVA R.SVA_CNT_AGREE_LATE stale
  rw [hu]
  generalize u.bumpBy pSVA R.SVA_CNT_AGREE_LATE stale = t at *
  refine ⟨fz, by rw [hy.sva, hfr, hf]; rfl, rfl, rfl, rfl, by rw [hy.sva, hto], by rw [hy.sva, hlc], by rw [hy.sva, hfi], fun n hn => ?_, hy.tsu.trans htsu,
    hy.acts.trans hacts, by rw [hy.dup, hpd]⟩
  rw [State.strm, hy.sva, hst]
  exact strm_freed hn

theorem State.Froze.dupFreeze {s t : State} {k : Nat} {rest : List (Nat × Nat)} {fz : Frozen} (h : s.Froze k rest fz t) :
    ∃ fz', s.Froze k rest fz' t.dupFreeze := by
  unfold State.dupFreeze
  split
  case h_1 fz0 _ hlast =>
    extract_lets shared r dead u v m
    rw [h.frozen] at hlast
    obtain rfl : fz = fz0 := Option.some.inj hlast
    have hv : s.Froze k rest { fz with report := r.1, expired := dead } v :=
      ⟨by show t.sva.frozen.dropLast ++ _ = _; rw [h.frozen]; rfl, h.tick, h.closeNs, h.map, h.toClose, h.lastClosed, h.finals, h.strm, h.tsu, h.acts,
        h.paired⟩
    split
    · exact ⟨_, hv⟩
    · have hy : v.Yarded (v.dupSend (224 + (r.1.map repBytes).sum + 20 * m.shared.length) (.map m)) := v.yarded_yardSend _
      refine ⟨_, by rw [hy.sva]; exact hv.frozen, hv.tick, hv.closeNs, hv.map, by rw [hy.sva]; exact hv.toClose, by rw [hy.sva]; exact hv.lastClosed,
        by rw [hy.sva]; exact hv.finals, fun n hn => ?_, hy.tsu.trans hv.tsu, hy.acts.trans hv.acts, by rw [hy.dup]; exact hv.paired⟩
      rw [← hv.strm n hn, State.strm, State.strm, hy.sva]
  case h_2 => exact ⟨fz, h⟩

/-! ### The commands -/

section
variable {s : State}

theorem exec_tickClose_early {k at_ : Nat} {rest : List (Nat × Nat)} (hc : s.sva.toClose = (k, at_) :: rest) (h : s.ns < at_) :
    exec .tickClose s = .next s := by
  rw [exec_tickClose]
  refine act_same (if_pos ?_)
  rw [State.closeDue, hc]
  simp [h]

/-- The oldest tick due freezes. -/
theorem State.tickClose_due {k at_ : Nat} {rest : List (Nat × Nat)} (hc : s.sva.toClose = (k, at_) :: rest) (hr : s.running pSVA = true)
    (hf : s.sva.frozen = []) (h : at_ ≤ s.ns) : ∃ t fz, s.Froze k rest fz t ∧
      s.tickClose = if s.paired then t.closeSettle 1 else t.closeFinal none false := by
  obtain ⟨fz0, h0⟩ := State.svaFreeze_spec hc hf
  obtain ⟨fz, hfz⟩ := h0.dupFreeze
  refine ⟨_, fz, hfz, ?_⟩
  have hdue : s.closeDue = true := by rw [State.closeDue, hc]; simp [hr, h]
  rw [State.tickClose, hdue, if_neg (by decide)]
  have hp : s.svaFreeze.dupFreeze.paired = s.paired := hfz.paired
  dsimp only
  rw [hp, State.closeAlone, hfz.frozen]
  cases s.paired <;> rfl

theorem State.closeSettle_waits {fz : Frozen} {n : Nat} (hf : s.sva.frozen = [fz]) (hm : fz.map = none) : s.closeSettle n = s := by
  cases n with
  | zero => rfl
  | succ n => rw [State.closeSettle, hf]; simp [hm]

theorem State.closeSettle_none {n : Nat} (hf : s.sva.frozen = []) : s.closeSettle n = s := by
  cases n with
  | zero => rfl
  | succ n => rw [State.closeSettle, hf]; rfl

theorem exec_tickClose_alone {k at_ : Nat} {rest : List (Nat × Nat)} (hon : s.onMain = true) (hc : s.sva.toClose = (k, at_) :: rest)
    (hr : s.running pSVA = true) (hf : s.sva.frozen = []) (h : at_ ≤ s.ns) (hp : s.paired = false) :
    ∃ t, exec .tickClose s = .next t ∧ t.sva.toClose = rest ∧ t.sva.lastClosed = some k ∧ t.sva.frozen = [] ∧
      t.sva.finals = ((k, false, s.tsu.clk) :: s.sva.finals).take 32 ∧ t.rg pSVA R.SVA_TICK_STAT = tagOf k ∧
      bit (t.rg pSVA R.SVA_CLOSE_INFO) 0 = false ∧ t.tsu = s.tsu ∧ t.acts = s.acts := by
  obtain ⟨u, hu, hexec⟩ := act_next (f := State.tickClose) hon
  obtain ⟨v, fz, hv, htc⟩ := State.tickClose_due hc hr hf h
  have ht := v.closeFinal_spec none false hv.frozen
  rw [hu, htc, hp, if_neg (by decide)] at hexec
  refine ⟨_, (exec_tickClose s).trans hexec, ht.toClose.trans hv.toClose, ht.lastClosed.trans hv.lastClosed, ht.frozen, ?_, ?_, ht.info,
    ht.tsu.trans hv.tsu, ht.acts.trans hv.acts⟩
  · refine Eq.trans ht.finals ?_
    rw [hv.tick, hv.tsu, hv.finals]
  · refine Eq.trans ht.stat ?_
    rw [hv.tick]

theorem exec_tickClose_paired {k at_ : Nat} {rest : List (Nat × Nat)} (hon : s.onMain = true) (hc : s.sva.toClose = (k, at_) :: rest)
    (hr : s.running pSVA = true) (hf : s.sva.frozen = []) (h : at_ ≤ s.ns) (hp : s.paired = true) (hheld : ∀ m ∈ s.sva.heldMaps, m.tick ≠ k) :
    ∃ t fz, exec .tickClose s = .next t ∧ t.sva.frozen = [fz] ∧ fz.tick = k ∧ fz.closeNs = s.ns ∧ t.sva.toClose = rest ∧
      t.sva.lastClosed = some k ∧ t.sva.finals = s.sva.finals ∧ ∀ n, (s.strm n).valid = true → t.strm n = s.strm n := by
  obtain ⟨u, hu, hexec⟩ := act_next (f := State.tickClose) hon
  obtain ⟨v, fz, hv, htc⟩ := State.tickClose_due hc hr hf h
  have hm : fz.map = none := by
    rw [hv.map]
    exact List.find?_eq_none.2 fun m hm => by simpa using hheld m hm
  rw [hu, htc, hp, if_pos rfl, State.closeSettle_waits hv.frozen hm] at hexec
  exact ⟨_, fz, (exec_tickClose s).trans hexec, hv.frozen, hv.tick, hv.closeNs, hv.toClose, hv.lastClosed, hv.finals, hv.strm⟩

end

/-! ### The partner's map, and its absence (R128, R129) -/

section
variable {s : State} {m : PMap} {rx : List Body}

/-- The state once the oldest frame of the partner has been taken off. -/
def State.mapTaken (s : State) (rx : List Body) : State := { s with dup := { s.dup with rx := rx } }

theorem State.mapRx_eq (hrx : s.dup.rx = .map m :: rx) : s.mapRx =
    if ((s.mapTaken rx).svaMap m).paired then ((s.mapTaken rx).svaMap m).closeSettle ((s.mapTaken rx).svaMap m).sva.frozen.length
    else (s.mapTaken rx).svaMap m := by
  rw [State.mapRx, hrx]
  rfl

/-- A map of frozen ticks joins the one that waits for it. -/
theorem State.svaMap_frozen (hr : s.running pSVA = true) (h : s.sva.frozen.any (fun fz => fz.tick == m.tick) = true) :
    s.svaMap m = s.updSva (fun v => { v with
      frozen := v.frozen.map (fun fz => if fz.tick = m.tick ∧ fz.map = none then { fz with map := some m } else fz) }) := by
  rw [State.svaMap, hr, if_neg (by decide), if_pos h]

theorem exec_partnerMapRx_completes {fz : Frozen} (hon : s.onMain = true) (hr : s.running pSVA = true) (hp : s.paired = true)
    (hrx : s.dup.rx = .map m :: rx) (hf : s.sva.frozen = [fz]) (hm : fz.map = none) (ht : fz.tick = m.tick) :
    ∃ t, exec .partnerMapRx s = .next t ∧ t.sva.frozen = [] ∧
      t.sva.finals = ((m.tick, false, s.tsu.clk) :: s.sva.finals).take 32 ∧ t.rg pSVA R.SVA_TICK_STAT = tagOf m.tick ∧
      t.cn pSVA R.SVA_CNT_ONE_SIDED = min (cntMax pSVA R.SVA_CNT_ONE_SIDED)
        (s.cn pSVA R.SVA_CNT_ONE_SIDED + (fz.present.length - (fz.present.filter (fun i => m.present.contains i)).length)) ∧
      t.dup.rx = rx := by
  obtain ⟨u, hu, hexec⟩ := act_next (f := State.mapRx) hon
  have hany : (s.mapTaken rx).sva.frozen.any (fun fz => fz.tick == m.tick) = true := by
    show s.sva.frozen.any _ = true
    rw [hf]
    simp [ht]
  rw [State.mapRx_eq hrx, State.svaMap_frozen (s := s.mapTaken rx) hr hany] at hu
  obtain ⟨v, hv, hfr, hfi, htsu, hcn, hrx', hpd⟩ : ∃ v : State, (s.mapTaken rx).updSva (fun v => { v with
      frozen := v.frozen.map (fun fz => if fz.tick = m.tick ∧ fz.map = none then { fz with map := some m } else fz) }) = v ∧
      v.sva.frozen = [{ fz with map := some m }] ∧ v.sva.finals = s.sva.finals ∧ v.tsu = s.tsu ∧
      v.cn pSVA R.SVA_CNT_ONE_SIDED = s.cn pSVA R.SVA_CNT_ONE_SIDED ∧ v.dup.rx = rx ∧ v.paired = true := by
    refine ⟨_, rfl, ?_, rfl, rfl, rfl, rfl, hp⟩
    show s.sva.frozen.map _ = _
    rw [hf]
    simp [ht, hm]
  rw [hv, hpd, if_pos rfl, hfr, List.length_singleton, State.closeSettle, hfr] at hu
  dsimp only [List.head?_cons, Option.bind_some] at hu
  have hfin := v.closeFinal_spec (some m) false hfr
  rw [State.closeSettle] at hu
  rw [hu] at hexec
  refine ⟨_, (exec_partnerMapRx s).trans hexec, hfin.frozen, ?_, ?_, ?_, hfin.rx.trans hrx'⟩
  · refine Eq.trans hfin.finals ?_
    rw [ht, hfi, htsu]
  · refine Eq.trans hfin.stat ?_
    rw [ht]
  · refine Eq.trans hfin.oneSided ?_
    rw [hcn]
    rfl

theorem exec_partnerMapRx_ahead {fz : Frozen} {rest : List Frozen} (hon : s.onMain = true) (hr : s.running pSVA = true) (hp : s.paired = true)
    (hrx : s.dup.rx = .map m :: rx) (hf : s.sva.frozen = fz :: rest) (hm : fz.map = none) (ht : fz.tick ≠ m.tick)
    (hg : ∃ g ∈ rest, g.tick = m.tick) : exec .partnerMapRx s = .next { s with
      dup := { s.dup with rx := rx }
      sva := { s.sva with
        frozen := fz :: rest.map (fun g => if g.tick = m.tick ∧ g.map = none then { g with map := some m } else g) } } := by
  obtain ⟨u, hu, hexec⟩ := act_next (f := State.mapRx) hon
  obtain ⟨g, hgr, hgt⟩ := hg
  have hany : (s.mapTaken rx).sva.frozen.any (fun fz => fz.tick == m.tick) = true := by
    show s.sva.frozen.any _ = true
    rw [hf, List.any_eq_true]
    exact ⟨g, List.mem_cons_of_mem _ hgr, by simp [hgt]⟩
  rw [State.mapRx_eq hrx, State.svaMap_frozen (s := s.mapTaken rx) hr hany] at hu
  obtain ⟨v, hv, hfr, hpd, hrest⟩ : ∃ v : State, (s.mapTaken rx).updSva (fun v => { v with
      frozen := v.frozen.map (fun fz => if fz.tick = m.tick ∧ fz.map = none then { fz with map := some m } else fz) }) = v ∧
      v.sva.frozen = fz :: rest.map (fun g => if g.tick = m.tick ∧ g.map = none then { g with map := some m } else g) ∧ v.paired = true ∧
      v = { s with dup := { s.dup with rx := rx }, sva := { s.sva with frozen := v.sva.frozen } } := by
    refine ⟨_, rfl, ?_, hp, rfl⟩
    show s.sva.frozen.map _ = _
    rw [hf, List.map_cons, if_neg (fun h => ht h.1)]
  have hwait : v.closeSettle v.sva.frozen.length = v := by
    rw [hfr, List.length_cons, State.closeSettle, hfr, List.head?_cons, Option.bind_some, hm]
  rw [hv, hpd, if_pos rfl, hwait, hrest, hfr] at hu
  rw [hu] at hexec
  exact (exec_partnerMapRx s).trans hexec

theorem exec_partnerMapRx_early (hon : s.onMain = true) (hr : s.running pSVA = true) (hp : s.paired = true)
    (hrx : s.dup.rx = .map m :: rx) (hf : s.sva.frozen = []) (hc : s.closedUpTo m.tick = false) (hl : s.sva.heldMaps.length < 16) :
    exec .partnerMapRx s = .next { s with dup := { s.dup with rx := rx }, sva := { s.sva with heldMaps := s.sva.heldMaps ++ [m] } } := by
  obtain ⟨u, hu, hexec⟩ := act_next (f := State.mapRx) hon
  have hmap : (s.mapTaken rx).svaMap m = (s.mapTaken rx).updSva (fun v => { v with heldMaps := v.heldMaps ++ [m] }) := by
    rw [State.svaMap, show (s.mapTaken rx).running pSVA = true from hr, if_neg (by decide), show (s.mapTaken rx).sva.frozen = [] from hf,
      if_neg (by simp), show (s.mapTaken rx).closedUpTo m.tick = false from hc, if_neg (by decide), if_neg ?_]
    rw [show (s.mapTaken rx).paired = true from hp, show (s.mapTaken rx).sva.heldMaps = s.sva.heldMaps from rfl]
    simpa using hl
  rw [State.mapRx_eq hrx, hmap, State.closeSettle_none (by exact hf), ite_self] at hu
  rw [hu] at hexec
  exact (exec_partnerMapRx s).trans hexec

theorem exec_partnerMapRx_late (hon : s.onMain = true) (hr : s.running pSVA = true)
    (hrx : s.dup.rx = .map m :: rx) (hf : s.sva.frozen = []) (hc : s.closedUpTo m.tick = true) : ∃ t, exec .partnerMapRx s = .next t ∧
      t.cn pSVA R.SVA_CNT_AGREE_LATE = min (cntMax pSVA R.SVA_CNT_AGREE_LATE) (s.cn pSVA R.SVA_CNT_AGREE_LATE + 1) ∧
      ({ s with dup := { s.dup with rx := rx } } : State).Quiet [pSVA] t := by
  obtain ⟨u, hu, hexec⟩ := act_next (f := State.mapRx) hon
  have hmap : (s.mapTaken rx).svaMap m = (s.mapTaken rx).bump pSVA R.SVA_CNT_AGREE_LATE := by
    rw [State.svaMap, show (s.mapTaken rx).running pSVA = true from hr, if_neg (by decide), show (s.mapTaken rx).sva.frozen = [] from hf,
      if_neg (by simp), show (s.mapTaken rx).closedUpTo m.tick = true from hc, if_pos rfl]
  have hq := (State.Quiet.refl [pSVA] (s.mapTaken rx)).bump (p := pSVA) (by simp) R.SVA_CNT_AGREE_LATE (by decide)
  have hcn := (s.mapTaken rx).cn_bump pSVA R.SVA_CNT_AGREE_LATE
  rw [State.mapRx_eq hrx, hmap] at hu
  generalize (s.mapTaken rx).bump pSVA R.SVA_CNT_AGREE_LATE = v at *
  rw [State.closeSettle_none (by rw [hq.sva]; exact hf), ite_self] at hu
  rw [hu] at hexec
  exact ⟨_, (exec_partnerMapRx s).trans hexec, hcn, hq.pend⟩

theorem exec_agreeWaitExpiry_solo {fz : Frozen} (hon : s.onMain = true) (hp : s.paired = true) (hf : s.sva.frozen = [fz]) (hm : fz.map = none)
    (hw : fz.closeNs + fld (s.ac pSVA R.SVA_AGREE_CFG) 0 7 * 1000 ≤ s.ns) : ∃ t, exec .agreeWaitExpiry s = .next t ∧ t.sva.frozen = [] ∧
      t.sva.finals = ((fz.tick, true, s.tsu.clk) :: s.sva.finals).take 32 ∧ bit (t.rg pSVA R.SVA_CLOSE_INFO) 0 = true ∧
      t.cn pSVA R.SVA_CNT_SOLO_TICKS = min (cntMax pSVA R.SVA_CNT_SOLO_TICKS) (s.cn pSVA R.SVA_CNT_SOLO_TICKS + 1) ∧
      bit (t.hd pSVA).irqStatus 6 = true := by
  obtain ⟨u, hu, hexec⟩ := act_next (f := State.agreeExpire) hon
  have hexp : s.agreeExpired = true := by
    rw [State.agreeExpired, hf]
    simp [hp, hm, hw]
  have hfin := s.closeFinal_spec none true hf
  rw [State.agreeExpire, hexp, if_pos rfl] at hu
  dsimp only at hu
  rw [State.closeSettle_none hfin.frozen] at hu
  rw [hu] at hexec
  exact ⟨_, (exec_agreeWaitExpiry s).trans hexec, hfin.frozen, hfin.finals, hfin.info, hfin.solos rfl, hfin.raised rfl⟩

end

/-- Settles O27: the close of a tick alone and in a pair, the partner's map, and the solo close. -/
theorem tickClosing : Obligations.TickClosing := by
  unfold Obligations.TickClosing
  refine ⟨fun k at_ rest s hon hc => ⟨exec_tickClose_early hc, fun hr hf h hp => exec_tickClose_alone hon hc hr hf h hp,
    fun hr hf h hp hheld => exec_tickClose_paired hon hc hr hf h hp hheld⟩, fun s hon hr hp =>
    ⟨fun m rx fz hrx hf hm ht => exec_partnerMapRx_completes hon hr hp hrx hf hm ht,
     fun m rx fz rest hrx hf hm ht hg => exec_partnerMapRx_ahead hon hr hp hrx hf hm ht hg,
     fun m rx hrx hf => ⟨fun hc hl => exec_partnerMapRx_early hon hr hp hrx hf hc hl, fun hc => exec_partnerMapRx_late hon hr hrx hf hc⟩,
     fun fz hf => ⟨fun hm hw => exec_agreeWaitExpiry_solo hon hp hf hm hw, fun h => ?_⟩⟩⟩
  rw [exec_agreeWaitExpiry]
  refine act_same (if_neg ?_)
  rw [State.agreeExpired, hf]
  simp [Nat.not_le.2 h]

end Sys2Proof.Machine
end

section
/-!
PROOFS. Writes of undamaged memory, and what the skidders do with the operations there are (R231, R232).
-/
namespace Sys2Proof.Machine
open Sys2Proof

/-! ### Writes of undamaged memory (R385, R386) -/

/-- A memory that holds `bs` from `a` on, and elsewhere what `m` holds. -/
def Holds (a : Nat) (bs : List Nat) (m m' : List (Nat × Byte)) : Prop :=
  ∀ x, sget (0 : Byte) x m' = if a ≤ x ∧ x < a + bs.length then BitVec.ofNat 8 ((bs[x - a]?).getD 0) else sget 0 x m

theorem holds_putBytes (a : Nat) (bs : List Nat) (m : List (Nat × Byte)) : Holds a bs m (putBytes a bs m) := fun _ => sget_putBytes _ _ _ _

theorem Holds.nil (a : Nat) (m : List (Nat × Byte)) : Holds a [] m m := fun x => by
  rw [if_neg (by simp only [List.length_nil]; omega)]

theorem Holds.append {a b : Nat} {bs cs : List Nat} {m m' m'' : List (Nat × Byte)} (h : Holds a bs m m') (h' : Holds b cs m' m'')
    (hb : b = a + bs.length) : Holds a (bs ++ cs) m m'' := by
  intro x
  subst hb
  rw [h' x, h x, List.length_append]
  by_cases h1 : a + bs.length ≤ x ∧ x < a + bs.length + cs.length
  · rw [if_pos h1, if_pos (by omega), List.getElem?_append_right (by omega)]
    congr 3
    omega
  · rw [if_neg h1]
    by_cases h2 : a ≤ x ∧ x < a + bs.length
    · rw [if_pos h2, if_pos (by omega), List.getElem?_append_left (by omega)]
    · rw [if_neg h2, if_neg (by omega)]

section
variable {s : State} (hf : s.flips = []) (hp : s.poison = [])
include hf hp

theorem State.partialWrite_clean (a : Nat) (bs : List Nat) (r i : Nat) :
    s.partialWrite a bs r i = (false, { s with mem := putBytes a bs s.mem }) := by
  unfold State.partialWrite
  rw [s.wordIs_clean a hf hp]

theorem State.writeWords_clean (a : Nat) (bs : List Nat) : s.writeWords a bs = { s with mem := putBytes a bs s.mem } := by
  unfold State.writeWords
  dsimp only
  rw [hf, hp]
  rfl

/-- A write of undamaged memory puts its bytes there and does nothing else. -/
theorem State.writeMem_clean (a : Nat) (bs : List Nat) (r i : Nat) :
    ∃ m, s.writeMem a bs r i = (false, { s with mem := m }) ∧ Holds a bs s.mem m := by
  unfold State.writeMem
  extract_lets head mid r1 s2 tail r3
  have hhead : head ≤ bs.length := Nat.min_le_left _ _
  have hmid : head + mid ≤ bs.length := by
    have := Nat.div_mul_le_self (bs.length - head) 8
    dsimp only [mid]
    omega
  obtain ⟨m1, h1, k1⟩ : ∃ m, r1 = (false, { s with mem := m }) ∧ Holds a (bs.take head) s.mem m := by
    dsimp only [r1]
    split
    · next h0 => exact ⟨s.mem, rfl, by rw [h0]; exact Holds.nil _ _⟩
    · exact ⟨_, State.partialWrite_clean hf hp _ _ _ _, holds_putBytes _ _ _⟩
  obtain ⟨m2, h2, k2⟩ : ∃ m, s2 = { s with mem := m } ∧ Holds (a + head) ((bs.drop head).take mid) m1 m := by
    dsimp only [s2]
    rw [h1, State.writeWords_clean (s := { s with mem := m1 }) hf hp]
    exact ⟨_, rfl, holds_putBytes _ _ _⟩
  obtain ⟨m3, h3, k3⟩ : ∃ m, r3 = (false, { s with mem := m }) ∧ Holds (a + head + mid) tail m2 m := by
    dsimp only [r3]
    rw [h2]
    split
    · next h0 => exact ⟨m2, rfl, by rw [List.isEmpty_iff.1 h0]; exact Holds.nil _ _⟩
    · exact ⟨_, State.partialWrite_clean (s := { s with mem := m2 }) hf hp _ _ _ _, holds_putBytes _ _ _⟩
  refine ⟨m3, by rw [h1, h3]; rfl, ?_⟩
  have hall : bs.take head ++ (bs.drop head).take mid ++ tail = bs := by
    dsimp only [tail]
    rw [List.append_assoc, ← List.drop_drop, List.take_append_drop, List.take_append_drop]
  have h12 := k1.append k2 (by rw [List.length_take, Nat.min_eq_left hhead])
  have h123 := h12.append k3 (by simp only [List.length_append, List.length_take, List.length_drop]; omega)
  rwa [hall] at h123

end

theorem Holds.bytes {s t : State} {a : Nat} {bs : List Nat} (h : Holds a bs s.mem t.mem) : t.bytes a bs.length = bs.map (fun b => b % 256) := by
  refine List.ext_getElem (by simp [State.bytes]) fun i h1 h2 => ?_
  have hi : i < bs.length := by simpa [State.bytes] using h1
  simp only [State.bytes, State.byte, List.getElem_map, List.getElem_range]
  rw [h, if_pos (by omega), Nat.add_sub_cancel_left, BitVec.toNat_ofNat, List.getElem?_eq_getElem hi]
  rfl

theorem Holds.byte_other {s t : State} {a : Nat} {bs : List Nat} (h : Holds a bs s.mem t.mem) {x : Nat} (hx : x < a ∨ a + bs.length ≤ x) :
    t.byte x = s.byte x := by
  rw [State.byte, h, if_neg (by omega)]
  rfl

/-! ### The skidders issue what they can (R231, R232) -/

/-- An operation further issued. -/
def Going (o o' : Op) : Prop := ∃ rd wr, o' = { o with rdNext := rd, wrNext := wr }

theorem Going.refl (o : Op) : Going o o := ⟨o.rdNext, o.wrNext, rfl⟩

theorem Going.trans {o o' o'' : Op} (h : Going o o') (h' : Going o' o'') : Going o o'' := by
  obtain ⟨rd, wr, rfl⟩ := h
  obtain ⟨rd', wr', rfl⟩ := h'
  exact ⟨rd', wr', rfl⟩

/-- The skidders have issued requests of the operations there are, and nothing else has changed. -/
structure State.Skidded (s t : State) : Prop where
  rest : t = { s with ops := t.ops, skds := t.skds }
  ops : List.Forall₂ Going s.ops t.ops
  reqs : ∀ k, ∀ r ∈ (t.skd k).reqs, r ∈ (s.skd k).reqs ∨ ∃ o ∈ s.ops, o.fn = r.fn

section
variable {s t u : State}

theorem State.Skidded.refl (s : State) : s.Skidded s :=
  ⟨rfl, List.forall₂_same.2 fun o _ => Going.refl o, fun _ _ h => .inl h⟩

theorem State.Skidded.fn (h : s.Skidded t) {o' : Op} (ho : o' ∈ t.ops) : ∃ o ∈ s.ops, o.fn = o'.fn := by
  obtain ⟨i, hi, rfl⟩ := List.getElem_of_mem ho
  have hl := h.ops.length_eq
  obtain ⟨rd, wr, he⟩ := List.forall₂_iff_get.1 h.ops |>.2 i (by omega) hi
  exact ⟨s.ops[i], List.getElem_mem _, by simpa using (congrArg Op.fn he).symm⟩

/-- The operation last entered is further issued. -/
theorem State.Skidded.last {o : Op} {l : List Op} (h : s.Skidded t) (ho : s.ops = l ++ [o]) : ∃ o' ∈ t.ops, Going o o' := by
  obtain ⟨hlen, hall⟩ := List.forall₂_iff_get.1 h.ops
  have hi : l.length < s.ops.length := by simp [ho]
  have hg := hall l.length hi (by rw [← hlen]; exact hi)
  simp only [List.get_eq_getElem, ho, List.getElem_concat_length] at hg
  exact ⟨_, List.getElem_mem _, hg⟩

theorem State.Skidded.trans (h : s.Skidded t) (h' : t.Skidded u) : s.Skidded u where
  rest := by
    have h1 := h.rest
    have h2 := h'.rest
    rw [h1] at h2
    exact h2
  ops := by
    exact List.forall₂_iff_get.2 ⟨h.ops.length_eq.trans h'.ops.length_eq, fun i h1 h2 =>
      ((List.forall₂_iff_get.1 h.ops).2 i h1 (by have := h.ops.length_eq; omega)).trans
        ((List.forall₂_iff_get.1 h'.ops).2 i (by have := h.ops.length_eq; omega) h2)⟩
  reqs k r hr := by
    rcases h'.reqs k r hr with hr | ⟨o, ho, hf⟩
    · exact h.reqs k r hr
    · obtain ⟨o', ho', hf'⟩ := h.fn ho
      exact .inr ⟨o', ho', hf'.trans hf⟩

/-- A change of a skidder that adds no request. -/
theorem State.skidded_setSkd (s : State) (k : Nat) (x : Skd) (h : x.reqs = (s.skd k).reqs) : s.Skidded (s.setSkd k x) where
  rest := rfl
  ops := List.forall₂_same.2 fun o _ => Going.refl o
  reqs j r hr := by
    left
    by_cases hj : j = k
    · subst hj
      rw [State.skd_setSkd, h] at hr
      exact hr
    · rw [State.skd_setSkd_other _ _ _ _ hj] at hr
      exact hr

theorem State.serviceOp_mem {s : State} {k f : Nat} {o : Op} (h : s.serviceOp k f = some o) : o ∈ s.openOps k f := by
  unfold State.serviceOp at h
  extract_lets os at h
  split at h
  case h_1 => exact List.mem_of_head? h
  case h_2 ring a _ =>
    extract_lets turn at h
    cases hfind : os.find? (fun o => o.is ring a) with
    | some o' =>
      rw [hfind] at h
      rw [← Option.some.inj h]
      exact List.mem_of_find?_eq_some hfind
    | none =>
      rw [hfind] at h
      exact List.mem_of_find?_eq_some h

theorem State.nextReq_fn {s : State} {k f : Nat} {o : Op} {r : Req} (h : s.nextReq k f = some (o, r)) : o ∈ s.ops ∧ o.fn = r.fn := by
  unfold State.nextReq at h
  extract_lets x at h
  split at h
  · exact absurd h (by simp)
  · next o' ho' =>
    have hm := State.serviceOp_mem ho'
    rw [State.openOps, List.mem_filter] at hm
    split at h
    · exact absurd h (by simp)
    · split at h
      · exact absurd h (by simp)
      · obtain ⟨rfl, rfl⟩ := Prod.mk.inj (Option.some.inj h)
        refine ⟨hm.1, ?_⟩
        have h2 := hm.2
        simp only [Bool.and_eq_true, beq_iff_eq] at h2
        exact h2.1.1

theorem State.skidded_issue (s : State) {k f : Nat} {o : Op} {r : Req} (h : s.nextReq k f = some (o, r)) : s.Skidded (s.issue k o r) := by
  obtain ⟨hmem, hfn⟩ := State.nextReq_fn h
  have hg (p : Op) : Going p (if p.is o.ring o.addr then (if r.wr then { p with wrNext := r.off + r.len } else { p with rdNext := r.off + r.len }) else p) := by
    split
    · split
      · exact ⟨p.rdNext, _, rfl⟩
      · exact ⟨_, p.wrNext, rfl⟩
    · exact Going.refl p
  unfold State.issue
  extract_lets u x reqs
  have hreqs : x.reqs = (s.skd k).reqs := rfl
  refine ⟨rfl, ?_, fun j q hq => ?_⟩
  · show List.Forall₂ Going s.ops (s.ops.map _)
    rw [List.forall₂_map_right_iff]
    exact List.forall₂_same.2 fun p _ => hg p
  · by_cases hj : j = k
    · subst hj
      rw [State.skd_setSkd] at hq
      rcases List.mem_append.1 hq with hq | hq
      · exact .inl hq
      · rw [List.mem_singleton.1 hq]
        exact .inr ⟨o, hmem, hfn⟩
    · rw [State.skd_setSkd_other _ _ _ _ hj] at hq
      exact .inl hq

theorem State.skidded_skdRun (s : State) (k n : Nat) : s.Skidded (s.skdRun k n) := by
  induction n generalizing s with
  | zero => exact State.Skidded.refl s
  | succ n ih =>
    unfold State.skdRun
    extract_lets x pend nxt w keep
    split
    · exact s.skidded_setSkd k _ rfl
    · split
      · exact State.Skidded.refl s
      · split
        · next o r hor =>
          have hnext : s.nextReq k x.cur = some (o, r) := by
            split at hor
            · exact hor
            · exact absurd hor (by simp)
          exact (s.skidded_issue hnext).trans (ih _)
        · refine State.Skidded.trans ?_ (ih _)
          exact s.skidded_setSkd k _ rfl

theorem State.skidded_skdGo (s : State) (k : Nat) : s.Skidded (s.skdGo k) := by
  unfold State.skdGo
  split
  · exact State.Skidded.refl s
  · exact s.skidded_skdRun k 6400

theorem State.skidded_skdAll (s : State) : s.Skidded s.skdAll :=
  List.foldlRecOn (motive := fun u => s.Skidded u) _ _ (State.Skidded.refl s) fun u hu k _ => hu.trans (u.skidded_skdGo k)

end

end Sys2Proof.Machine
end

section
/-!
PROOFS. Rings and skidders: tail writes, descriptor fetches and completions, returns (R226 to R233, R237).
-/
namespace Sys2Proof.Machine
open Sys2Proof

/-! ### Tail writes (R226, R233) -/

section
variable {s : State} {f l d v : Nat}

theorem exec_ringTailWrite_takes {q size : Nat} (hon : s.onMain = true) (hf : f < 64) (hl : l < 8) (hd : d < 2) (hq : s.qOf f l = some q)
    (hsize : size = s.qSize q d) (h0 : size ≠ 0) (hr : s.fnReset f = false) (hu : s.unusable (pSKD (s.qSkd q)) = false)
    (hlim : (v % 4096 % size + size - (s.qp q).head d) % size ≤ min (fld (s.ac (pVFM f) R.VFM_FN_CFG) 0 13) (size - 1)) :
    ∃ t, exec (.ringTailWrite f l d v) s = .next t ∧ (t.qp q).tail d = v % 4096 % size ∧ (t.qp q).head d = (s.qp q).head d ∧
      (∀ k, k ≠ q → t.qp k = s.qp k) ∧ t = { s with qps := t.qps, hdrs := t.hdrs } := by
  subst hsize
  obtain ⟨w, hun, -, hexec⟩ := actReg_eff (p := pVFM f) (f := fun s => if f < 64 && l < 8 && d < 2 then s.tailWrite f l d (v % 4096) else s) hon
  have hcond : (f < 64 && l < 8 && d < 2 : Bool) = true := by simp [hf, hl, hd]
  have hgo : ({ s with hdrs := w } : State).tailWrite f l d (v % 4096) = ({ s with hdrs := w } : State).setQp q
      (if d = 0 then { s.qp q with txTail := v % 4096 % s.qSize q d } else { s.qp q with rxTail := v % 4096 % s.qSize q d }) := by
    unfold State.tailWrite
    rw [show ({ s with hdrs := w } : State).qOf f l = some q from hq]
    dsimp only
    rw [hun]
    refine (if_neg (by rw [show State.qSkd { s with hdrs := w } q = s.qSkd q from rfl, hu]; decide)).trans (if_neg ?_)
    rw [show State.fnReset { s with hdrs := w } f = s.fnReset f from rfl, hr, show State.qSize { s with hdrs := w } q d = s.qSize q d from rfl]
    simp only [Bool.or_false, Bool.or_eq_true, decide_eq_true_eq, not_or]
    exact ⟨h0, Nat.not_lt.2 hlim⟩
  rw [if_pos hcond, hgo] at hexec
  refine ⟨_, (exec_ringTailWrite f l d v s).trans hexec, ?_, ?_, fun k hk => State.qp_setQp_other _ _ _ _ hk, rfl⟩
  · refine (congrArg (fun x : Qp => x.tail d) (State.qp_setQp ({ s with hdrs := w } : State) q _)).trans ?_
    by_cases h : d = 0 <;> simp [Qp.tail, h]
  · refine (congrArg (fun x : Qp => x.head d) (State.qp_setQp ({ s with hdrs := w } : State) q _)).trans ?_
    by_cases h : d = 0 <;> simp [Qp.head, h]

theorem exec_ringTailWrite_refused (hon : s.onMain = true) (hf : f < 64) (hl : l < 8) (hd : d < 2)
    (h : ∀ q, s.qOf f l = some q → s.unusable (pSKD (s.qSkd q)) = false ∧ (s.fnReset f = true ∨ s.qSize q d = 0 ∨
      min (fld (s.ac (pVFM f) R.VFM_FN_CFG) 0 13) (s.qSize q d - 1) <
        (v % 4096 % s.qSize q d + s.qSize q d - (s.qp q).head d) % s.qSize q d)) :
    ∃ t, exec (.ringTailWrite f l d v) s = .next t ∧ bit (t.hd (pVFM f)).irqStatus 6 = true ∧
      t.cn (pVFM f) R.VFM_CNT_POST_REFUSED = min (cntMax (pVFM f) R.VFM_CNT_POST_REFUSED) (s.cn (pVFM f) R.VFM_CNT_POST_REFUSED + 1) ∧
      s.Quiet [pVFM f] t := by
  obtain ⟨w, hun, hqw, hexec⟩ := actReg_eff (p := pVFM f) (f := fun s => if f < 64 && l < 8 && d < 2 then s.tailWrite f l d (v % 4096) else s) hon
  have hcond : (f < 64 && l < 8 && d < 2 : Bool) = true := by simp [hf, hl, hd]
  have hno : ({ s with hdrs := w } : State).tailWrite f l d (v % 4096) =
      (({ s with hdrs := w } : State).bump (pVFM f) R.VFM_CNT_POST_REFUSED).irq (pVFM f) 6 := by
    unfold State.tailWrite
    extract_lets no
    rw [show ({ s with hdrs := w } : State).qOf f l = s.qOf f l from rfl]
    cases hq : s.qOf f l with
    | none => rfl
    | some q =>
      obtain ⟨hu, hor⟩ := h q hq
      dsimp only
      rw [hun]
      refine (if_neg (by rw [show State.qSkd { s with hdrs := w } q = s.qSkd q from rfl, hu]; decide)).trans (if_pos ?_)
      rw [show State.fnReset { s with hdrs := w } f = s.fnReset f from rfl, show State.qSize { s with hdrs := w } q d = s.qSize q d from rfl]
      simp only [Bool.or_eq_true, decide_eq_true_eq]
      rcases hor with h | h | h
      · exact .inl (.inr h)
      · exact .inl (.inl h)
      · exact .inr h
  rw [if_pos hcond, hno] at hexec
  obtain ⟨hq, hb, hc⟩ := ({ s with hdrs := w } : State).bump_irq_spec (pVFM f) (o := R.VFM_CNT_POST_REFUSED) (i := 6) (by decide) (by decide)
  generalize (({ s with hdrs := w } : State).bump (pVFM f) R.VFM_CNT_POST_REFUSED).irq (pVFM f) 6 = t at *
  exact ⟨_, (exec_ringTailWrite f l d v s).trans hexec, hb, hc, (hqw.trans hq).pend⟩

end

/-! ### Fetches of descriptors (R226 to R228, R237) -/

section
variable {s : State} {q : Nat}

/-- A transmit ring whose head descriptor can be fetched. -/
def State.Fetches (s : State) (q : Nat) : Prop :=
  (q < 256 ∧ s.qValid q = true ∧ (s.qp q).txStop = none ∧ s.fnHeld (s.qFn q) = false ∧ (s.qp q).txHead ≠ (s.qp q).txTail ∧
    s.ringOps (2 * q) = []) ∧ s.unusable (pSKD (s.qSkd q)) = false

theorem State.Fetches.usable (h : s.Fetches q) : s.unusable (pSKD (s.qSkd q)) = false := h.2

/-- The operation a transmit descriptor becomes. -/
def State.txOp (s : State) (q : Nat) (ws : List Word) : Op :=
  {
    ring := 2 * q, fn := s.qFn q, kind := if fld ((ws[0]?).getD 0) 28 4 = 2 then 2 else 1, desc := ws,
    addr := s.qBase q 0 + (s.qp q).txHead * 32, src := ((ws[2]?).getD 0).toNat + ((ws[3]?).getD 0).toNat * 2 ^ 32,
    dst := ((ws[4]?).getD 0).toNat + ((ws[5]?).getD 0).toNat * 2 ^ 32, len := ((ws[1]?).getD 0).toNat }

/-- Over undamaged memory a fetch that succeeds changes nothing. -/
theorem State.fetchDesc_clean {d idx : Nat} {ws : List Word} (hf : s.flips = []) (hp : s.poison = []) (h : (s.fetchDesc q d idx).1 = some ws) :
    (s.fetchDesc q d idx).2 = s := by
  have hr := s.readMem_clean (s.qBase q d + idx * 32) 32 3 (s.qSkd q) hf hp
  cases hw : s.permit (s.qFn q) (s.qBase q d) (s.qSize q d * 32) true true with
  | false =>
    rw [State.fetchDesc, hw, if_pos (by decide)] at h
    exact absurd h (by simp)
  | true =>
    rw [State.fetchDesc, hw, if_neg (by decide), hr, if_neg (by simp)]

theorem State.fetchDesc_window {d idx : Nat} (h : s.permit (s.qFn q) (s.qBase q d) (s.qSize q d * 32) true true = false) :
    s.fetchDesc q d idx = (none, s.winFault (s.qFn q)) := by
  rw [State.fetchDesc, h]
  exact if_pos (by decide)

/-- A ring that can fetch gets past the checks of the fetch. -/
theorem State.Fetches.ready (h : s.Fetches q) : ¬(!s.qValid q || (s.qp q).txStop.isSome || s.fnHeld (s.qFn q) ||
    decide ((s.qp q).txHead = (s.qp q).txTail) || !(s.ringOps (2 * q)).isEmpty || decide (255 < q)) = true := by
  obtain ⟨⟨hlt, hvalid, hopen, hfree, hposted, halone⟩, -⟩ := h
  simp [hvalid, hopen, hfree, halone, hposted]
  omega

theorem State.Fetches.starts {ws : List Word} (h : s.Fetches q) (hw : (s.fetchDesc q 0 (s.qp q).txHead).1 = some ws)
    (hs : (s.fetchDesc q 0 (s.qp q).txHead).2 = s) (he : s.txEarly (s.qFn q) ws = none) :
    s.descFetch q = ({ s with ops := s.ops ++ [s.txOp q ws] } : State).skdGo (s.qSkd q) := by
  have hr : s.fetchDesc q 0 (s.qp q).txHead = (some ws, s) := Prod.ext hw hs
  rw [State.descFetch, if_neg h.ready, if_neg (by rw [h.usable]; decide), hr]
  dsimp only
  rw [he]
  rfl

theorem exec_descriptorFetch_starts {ws : List Word} (hon : s.onMain = true) (h : s.Fetches q) (hf : s.flips = []) (hp : s.poison = [])
    (hw : (s.fetchDesc q 0 (s.qp q).txHead).1 = some ws) (he : s.txEarly (s.qFn q) ws = none) :
    ∃ t, exec (.descriptorFetch q) s = .next t ∧ t.qps = s.qps ∧ t.mem = s.mem ∧ ∃ o ∈ t.ops, Going (s.txOp q ws) o := by
  obtain ⟨u, hu, hexec⟩ := act_next (f := fun s => s.descFetch q) hon
  have hclean := State.fetchDesc_clean hf hp hw
  have hsk := State.skidded_skdGo ({ s with ops := s.ops ++ [s.txOp q ws] } : State) (s.qSkd q)
  rw [h.starts hw hclean he] at hu
  rw [← hu] at hsk
  have hmem : u.mem = s.mem := by rw [hsk.rest]
  have hqps : u.qps = s.qps := by rw [hsk.rest]
  exact ⟨_, (exec_descriptorFetch q s).trans hexec, hqps, hmem, hsk.last rfl⟩

/-- A ring without operations stops with FETCH. -/
theorem State.ringStop_fetch (hn : (s.qp q).txStop = none) (ho : s.ringOps (2 * q) = []) : s.ringStop q 0 0x0A =
    (s.setQp q { s.qp q with txStop := some 0x0A, stopDir := if (s.qp q).stopped then (s.qp q).stopDir else 0 }).irq (pVFM (s.qFn q)) 10 := by
  have hring (o : Op) (h : o ∈ s.ops) : o.ring ≠ 2 * q := fun hr => by
    have hm : o ∈ s.ringOps (2 * q) := List.mem_filter.2 ⟨h, by simp [hr]⟩
    rw [ho] at hm
    exact absurd hm (List.not_mem_nil)
  have hops : (s.ops.filter (fun o => o.ring != 2 * q + 0 || (o.status.isNone && s.opBusy o.ring o.addr))).map (fun o =>
      if o.ring == 2 * q + 0 then { o with cut := true } else o) = s.ops := by
    rw [List.filter_eq_self.2 fun o h => by simp [hring o h]]
    exact (List.map_congr_left fun o h => by simp [hring o h]).trans (List.map_id _)
  have hy : (if (s.qp q).stopped then s.qp q else { s.qp q with stopDir := 0 }) =
      { s.qp q with stopDir := if (s.qp q).stopped then (s.qp q).stopDir else 0 } := by
    split <;> rfl
  have hbusy (y : Qp) : (fun o : Op => o.ring != 2 * q + 0 || (o.status.isNone && (s.setQp q y).opBusy o.ring o.addr)) =
      (fun o : Op => o.ring != 2 * q + 0 || (o.status.isNone && s.opBusy o.ring o.addr)) := rfl
  rw [State.ringStop, if_neg (by rw [show (s.qp q).stop 0 = (s.qp q).txStop from rfl, hn]; decide)]
  dsimp only
  rw [if_pos rfl, if_pos rfl, hy, show (s.setQp q _).ops = s.ops from rfl, hbusy, hops]
  rfl

theorem State.winFault_spec (f : Nat) : ∃ t, s.winFault f = t ∧
    t.cn (pVFM f) R.VFM_CNT_WINDOW = min (cntMax (pVFM f) R.VFM_CNT_WINDOW) (s.cn (pVFM f) R.VFM_CNT_WINDOW + 1) ∧
    bit (t.hd (pVFM f)).irqStatus 4 = true ∧ ({ s with cyc := { s.cyc with insts := t.cyc.insts } } : State).Quiet [pVFM f] t := by
  obtain ⟨hq, hb, hc⟩ := s.bump_irq_spec (pVFM f) (o := R.VFM_CNT_WINDOW) (i := 4) (by decide) (by decide)
  refine ⟨_, rfl, ?_⟩
  unfold State.winFault
  dsimp only
  generalize (s.bump (pVFM f) R.VFM_CNT_WINDOW).irq (pVFM f) 4 = u at *
  split
  · refine ⟨hc, hb, ?_⟩
    rw [hq.cyc]
    exact hq
  · refine ⟨hc, hb, ?_⟩
    obtain ⟨l, hl⟩ : ∃ l, u.cause f 5 = { u with cyc := { u.cyc with insts := l } } := ⟨_, rfl⟩
    rw [hl]
    have hrest := congrArg (fun x : State => { x with cyc := { x.cyc with insts := l } }) hq.rest
    exact hq.over hrest rfl rfl rfl rfl

theorem exec_descriptorFetch_window (hon : s.onMain = true) (h : s.Fetches q)
    (hw : s.permit (s.qFn q) (s.qBase q 0) (s.qSize q 0 * 32) true true = false) :
    ∃ t, exec (.descriptorFetch q) s = .next t ∧
      t.qp q = { s.qp q with txStop := some 0x0A, stopDir := if (s.qp q).stopped then (s.qp q).stopDir else 0 } ∧
      (∀ k, k ≠ q → t.qp k = s.qp k) ∧ bit (t.hd (pVFM (s.qFn q))).irqStatus 4 = true ∧ bit (t.hd (pVFM (s.qFn q))).irqStatus 10 = true ∧
      t.cn (pVFM (s.qFn q)) R.VFM_CNT_WINDOW = min (cntMax (pVFM (s.qFn q)) R.VFM_CNT_WINDOW) (s.cn (pVFM (s.qFn q)) R.VFM_CNT_WINDOW + 1) ∧
      ({ s with qps := t.qps, cyc := { s.cyc with insts := t.cyc.insts } } : State).Quiet [pVFM (s.qFn q)] t := by
  obtain ⟨u, hu, hexec⟩ := act_next (f := fun s => s.descFetch q) hon
  obtain ⟨v, hv, hcn, hb, hq⟩ := s.winFault_spec (s.qFn q)
  have hgo : s.descFetch q = v.ringStop q 0 0x0A := by
    rw [State.descFetch, if_neg h.ready, if_neg (by rw [h.usable]; decide), State.fetchDesc_window hw, hv]
  obtain ⟨⟨-, -, hn, -, -, ho⟩, -⟩ := h
  have hqp (k : Nat) : v.qp k = s.qp k := by rw [State.qp, hq.qps]; rfl
  have hops : v.ringOps (2 * q) = [] := by rw [State.ringOps, hq.ops]; exact ho
  have hfn : v.qFn q = s.qFn q := by simp only [State.qFn, State.qw, hq.tw]; rfl
  rw [hgo, State.ringStop_fetch (by rw [hqp]; exact hn) hops, hqp, hfn] at hu
  generalize hy : ({ s.qp q with txStop := some 0x0A, stopDir := if (s.qp q).stopped then (s.qp q).stopDir else 0 } : Qp) = y at *
  obtain ⟨l, hl⟩ : ∃ l, v.setQp q y = { v with qps := l } ∧ l = sset {} q y v.qps := ⟨_, rfl, rfl⟩
  obtain ⟨hset, hlq⟩ := hl
  have hrest := congrArg (fun x : State => { x with qps := l }) hq.rest
  have hqv : ({ s with qps := l, cyc := { s.cyc with insts := v.cyc.insts } } : State).Quiet [pVFM (s.qFn q)] { v with qps := l } :=
    hq.over hrest rfl rfl rfl rfl
  have hqi := hqv.irq (p := pVFM (s.qFn q)) (by simp) 10
  have hb10 := State.bit_irq ({ v with qps := l } : State) (pVFM (s.qFn q)) (i := 10) (by decide)
  have hb4 : bit ((({ v with qps := l } : State).irq (pVFM (s.qFn q)) 10).hd (pVFM (s.qFn q))).irqStatus 4 = true := State.bit_irq_of_bit hb
  have hcn' : (({ v with qps := l } : State).irq (pVFM (s.qFn q)) 10).cn (pVFM (s.qFn q)) R.VFM_CNT_WINDOW = v.cn (pVFM (s.qFn q)) R.VFM_CNT_WINDOW := by
    rw [State.cn, State.irq_cnts]
    rfl
  rw [hset] at hu
  generalize ({ v with qps := l } : State).irq (pVFM (s.qFn q)) 10 = t at *
  have htq : t.qps = l := hqi.qps
  have htc : t.cyc.insts = v.cyc.insts := by rw [hqi.cyc]
  rw [hu] at hexec
  refine ⟨_, (exec_descriptorFetch q s).trans hexec, ?_, fun k hk => ?_, hb4, hb10, hcn'.trans hcn, ?_⟩
  · show sget {} q t.qps = y
    rw [htq, hlq, sget_sset_same]
  · show sget {} k t.qps = _
    rw [htq, hlq, sget_sset_other _ _ _ _ _ _ hk]
    exact hqp k
  · rw [← htq, ← htc] at hqi
    exact hqi.pend

end

/-! ### Completion (R227 to R229) -/

section
variable {s : State} {q size : Nat} {o : Op} {rest : List Op}

/-- What the completion of a copy leaves: its status word, the head, and the counts. -/
structure State.CopyDone (q size : Nat) (o : Op) (rest : List Op) (s t : State) : Prop where
  ops : t.ops = rest
  qp : t.qp q = { s.qp q with txHead := ((s.qp q).txHead + 1) % size }
  other : ∀ k, k ≠ q → t.qp k = s.qp k
  word : Holds (o.addr + 28) [0, 0, 0, 128] s.mem t.mem
  desc : t.cn (pVFM o.fn) R.VFM_CNT_DESC = min (cntMax (pVFM o.fn) R.VFM_CNT_DESC) (s.cn (pVFM o.fn) R.VFM_CNT_DESC + 1)
  count : t.cn (pSKD (s.qSkd q)) R.SKD_CNT_OPS = min (cntMax (pSKD (s.qSkd q)) R.SKD_CNT_OPS) (s.cn (pSKD (s.qSkd q)) R.SKD_CNT_OPS + 1)
  quiet : ({ s with qps := t.qps, ops := t.ops, mem := t.mem } : State).Quiet [pVFM o.fn, pSKD (s.qSkd q)] t

theorem State.dirtyMark_off {f : Nat} (bm : Bool) (a n : Nat) (h : bit (s.ac (pVFM f) R.VFM_DIRTY_CFG) 0 = false) : s.dirtyMark f bm a n = s := by
  rw [State.dirtyMark, if_pos (by simp [h])]

theorem State.qSkd_lt (s : State) (q : Nat) : s.qSkd q < 16 := Nat.mod_lt _ (by decide)

theorem State.descComplete_copy (hops : s.ops = o :: rest) (hr : o.ring = 2 * q) (hf : o.fn < 64) (hk : o.kind = 2) (hst : o.status = some 0)
    (hs : (s.qp q).txStop ≠ some 0x0A) (hh : ∀ e ∈ s.swc.h1q, e.ring ≠ some (2 * q)) (hfl : s.flips = []) (hpo : s.poison = [])
    (hsize : size = s.qSize q 0) (h0 : size ≠ 0) (hd : bit (s.ac (pVFM o.fn) R.VFM_DIRTY_CFG) 0 = false) (hi : bit ((o.desc[0]?).getD 0) 24 = false) :
    s.CopyDone q size o rest (s.descComplete (2 * q)) := by
  obtain ⟨m, hm, hmem⟩ := State.writeMem_clean (s := { s with ops := rest }) hfl hpo (o.addr + 28) (bytesLE 4 (2 ^ 31 + 0)) 3 (s.qSkd q)
  have hq2 : 2 * q / 2 = q := by omega
  have hd2 : 2 * q % 2 = 0 := by omega
  have hmul : (s.ops.eraseP (fun p => p.ring == 2 * q)) = rest := by rw [hops, List.eraseP_cons_of_pos (by simp [hr])]
  have hfind : s.ops.find? (fun o => o.ring == 2 * q) = some o := by rw [hops, List.find?_cons_of_pos (by simp [hr])]
  have hany : s.swc.h1q.any (fun i => i.ring == some (2 * q)) = false := List.any_eq_false.2 fun e he => by simpa using hh e he
  obtain ⟨v, hv⟩ : ∃ v, v = ({ s with ops := rest, mem := m } : State).setQp q { s.qp q with txHead := ((s.qp q).txHead + 1) % size } := ⟨_, rfl⟩
  have hgo : s.descComplete (2 * q) = (v.bump (pVFM o.fn) R.VFM_CNT_DESC).bump (pSKD (s.qSkd q)) R.SKD_CNT_OPS := by
    unfold State.descComplete
    rw [hfind]
    dsimp -zeta only
    extract_lets q' d f st s1 r1 r2 s2 x sz adv s3 s4 s5 s6
    have hq' : q' = q := hq2
    have hd' : d = 0 := hd2
    clear_value q' d
    subst hq' hd'
    have hst0 : st = 0 := by dsimp only [st]; rw [hst]; rfl
    clear_value st
    subst hst0
    have h1 : s1 = { s with ops := rest } := by dsimp only [s1]; rw [hmul]
    clear_value s1
    subst h1
    have h2 : r1 = (false, { s with ops := rest }) := rfl
    clear_value r1
    subst h2
    have h3 : r2 = (false, { s with ops := rest, mem := m }) := hm
    clear_value r2
    subst h3
    have h4 : s2 = { s with ops := rest, mem := m } := State.dirtyMark_off _ _ _ hd
    clear_value s2
    subst h4
    have h5 : s3 = v := by
      rw [hv]
      show State.setQp _ _ { s.qp q' with txHead := if s.qSize q' 0 = 0 then (s.qp q').txHead else ((s.qp q').txHead + 1) % s.qSize q' 0 } = _
      rw [← hsize, if_neg h0]
    clear_value s3
    subst h5
    rw [if_neg ?_, if_neg (by simp)]
    · have h6 : s6 = s4 := by
        dsimp only [s6]
        rw [if_neg (by decide), if_neg (by rw [hk]; decide)]
        rfl
      have hbit : bit ((o.desc[0]?).getD 0) 24 = false := hi
      rw [hbit, if_neg (by decide), h6]
      dsimp only [s4]
      rw [hv]
      rfl
    · rw [hst, hany, show (s.qp q').stop 0 = (s.qp q').txStop from rfl]
      simpa using hs
  rw [hgo]
  have hvq : v.qp q = { s.qp q with txHead := ((s.qp q).txHead + 1) % size } := by rw [hv]; exact State.qp_setQp _ _ _
  have hvo (k : Nat) (hk : k ≠ q) : v.qp k = s.qp k := by rw [hv]; exact State.qp_setQp_other _ _ _ _ hk
  have hrest : v = { s with qps := v.qps, ops := v.ops, mem := v.mem } := by rw [hv]; rfl
  have hvops : v.ops = rest := by rw [hv]; rfl
  have hvm : v.mem = m := by rw [hv]; rfl
  have hvc (p o : Nat) : v.cn p o = s.cn p o := by rw [hv]; rfl
  clear hgo hv
  have hlt := s.qSkd_lt q
  have hne : ka (pVFM o.fn) R.VFM_CNT_DESC ≠ ka (pSKD (s.qSkd q)) R.SKD_CNT_OPS := by
    unfold ka
    have h1 : R.VFM_CNT_DESC < 4096 := by decide
    have h2 : R.SKD_CNT_OPS < 4096 := by decide
    generalize R.VFM_CNT_DESC = x at *
    generalize R.SKD_CNT_OPS = y at *
    unfold pVFM pSKD
    omega
  have hc1 := v.cn_bump (pVFM o.fn) R.VFM_CNT_DESC
  have hc2 := v.cn_bump_other (pVFM o.fn) R.VFM_CNT_DESC (pSKD (s.qSkd q)) R.SKD_CNT_OPS hne.symm
  have hq1 := (State.Quiet.refl [pVFM o.fn, pSKD (s.qSkd q)] v).bump (p := pVFM o.fn) (by simp) R.VFM_CNT_DESC (by decide)
  generalize v.bump (pVFM o.fn) R.VFM_CNT_DESC = u at *
  have hc3 := u.cn_bump (pSKD (s.qSkd q)) R.SKD_CNT_OPS
  have hc4 := u.cn_bump_other (pSKD (s.qSkd q)) R.SKD_CNT_OPS (pVFM o.fn) R.VFM_CNT_DESC hne
  have hq2' := hq1.bump (p := pSKD (s.qSkd q)) (by simp) R.SKD_CNT_OPS (by decide)
  generalize u.bump (pSKD (s.qSkd q)) R.SKD_CNT_OPS = t at *
  have htq : t.qps = v.qps := hq2'.qps
  have hto : t.ops = v.ops := hq2'.ops
  have htm : t.mem = v.mem := hq2'.mem
  refine ⟨hto.trans hvops, ?_, fun k hk => ?_, ?_, hc4.trans (hc1.trans (by rw [hvc])), hc3.trans (by rw [hc2, hvc]), ?_⟩
  · rw [State.qp, htq]; exact hvq
  · rw [State.qp, htq]; exact hvo k hk
  · rw [htm, hvm]; exact hmem
  · rw [htq, hto, htm, ← hrest]
    exact hq2'

end

theorem exec_descriptorComplete_copy {s : State} {q size : Nat} {o : Op} {rest : List Op} (hon : s.onMain = true)
    (h : s.CopyDone q size o rest (s.descComplete (2 * q))) : ∃ t, exec (.descriptorComplete (2 * q)) s = .next t ∧ t.ops = rest ∧
      t.qp q = { s.qp q with txHead := ((s.qp q).txHead + 1) % size } ∧ (∀ k, k ≠ q → t.qp k = s.qp k) ∧
      t.bytes (o.addr + 28) 4 = [0, 0, 0, 128] ∧ (∀ a, a < o.addr + 28 ∨ o.addr + 32 ≤ a → t.byte a = s.byte a) ∧
      t.cn (pVFM o.fn) R.VFM_CNT_DESC = min (cntMax (pVFM o.fn) R.VFM_CNT_DESC) (s.cn (pVFM o.fn) R.VFM_CNT_DESC + 1) ∧
      t.cn (pSKD (s.qSkd q)) R.SKD_CNT_OPS =
        min (cntMax (pSKD (s.qSkd q)) R.SKD_CNT_OPS) (s.cn (pSKD (s.qSkd q)) R.SKD_CNT_OPS + 1) ∧
      ({ s with qps := t.qps, ops := t.ops, mem := t.mem } : State).Quiet [pVFM o.fn, pSKD (s.qSkd q)] t := by
  obtain ⟨u, hu, hexec⟩ := act_next (f := fun s => s.descComplete (2 * q)) hon
  have hu : u = s.descComplete (2 * q) := hu
  rw [← hu] at h
  clear hu
  obtain ⟨hops, hqp, hother, hword, hdesc, hcount, hquiet⟩ := h
  exact ⟨_, (exec_descriptorComplete (2 * q) s).trans hexec, hops, hqp, hother, hword.bytes, fun a ha => hword.byte_other ha, hdesc, hcount, hquiet.pend⟩

/-! ### Returns of a skidder (R231) -/

/-- What settling an operation changes. -/
def Settled (o o' : Op) : Prop := ∃ st, o' = { o with status := st }

theorem Settled.refl (o : Op) : Settled o o := ⟨o.status, rfl⟩

section
variable {s : State} {o : Op}

/-- Settling the only operation there is gives it at most a status. -/
theorem State.opSettle_only (ho : s.ops = [o]) (hc : o.cut = false) (k c : Nat) (hcn : c < 4096) (hk : k < 16) :
    ∃ t o', s.opSettle o.ring o.addr = t ∧ t.ops = [o'] ∧ Settled o o' ∧ t.mem = s.mem ∧ t.qps = s.qps ∧ t.cn (pSKD k) c = s.cn (pSKD k) c := by
  have hput (st : Nat) : s.updOp o.ring o.addr (fun p => { p with status := some st }) = { s with ops := [{ o with status := some st }] } := by
    rw [State.updOp, ho]
    simp [Op.is]
  unfold State.opSettle
  split
  · exact ⟨s, o, rfl, ho, Settled.refl o, rfl, rfl, rfl⟩
  · next p hp =>
    have hpo : p = o := by
      have hm := List.mem_of_find?_eq_some hp
      rw [ho] at hm
      exact List.mem_singleton.1 hm
    subst hpo
    extract_lets busy put w q role f0 sa fr it
    have hput' (st : Nat) : put st s = { s with ops := [{ p with status := some st }] } := hput st
    rw [hc, if_neg (by decide)]
    split
    · split
      · exact ⟨s, p, rfl, ho, Settled.refl p, rfl, rfl, rfl⟩
      · split
        · rw [hput']
          exact ⟨_, _, rfl, rfl, ⟨_, rfl⟩, rfl, rfl, rfl⟩
        · split
          · rw [hput']
            generalize hu : ({ s with ops := [{ p with status := some 0 }] } : State) = u
            have hq := (State.Quiet.refl [pDUP] u).bump (p := pDUP) (by simp) R.DUP_CNT_RB_SUPPRESSED (by decide)
            have hne : pSKD k ∉ [pDUP] := by simp [pSKD, pDUP]; omega
            exact ⟨_, _, rfl, hq.ops.trans (by rw [← hu]), ⟨_, rfl⟩, hq.mem.trans (by rw [← hu]), hq.qps.trans (by rw [← hu]),
              (hq.cn _ _ hne hcn).trans (by rw [← hu]; rfl)⟩
          · rw [hput']
            exact ⟨_, _, rfl, rfl, ⟨_, rfl⟩, rfl, rfl, rfl⟩
    · split
      · exact ⟨s, p, rfl, ho, Settled.refl p, rfl, rfl, rfl⟩
      · rw [hput']
        exact ⟨_, _, rfl, rfl, ⟨_, rfl⟩, rfl, rfl, rfl⟩

/-- After a return the operation is settled and the skidder issues what it can. -/
theorem State.return_settles (ho : s.ops = [o]) (hc : o.cut = false) (k c : Nat) (hcn : c < 4096) (hk : k < 16) :
    ∃ t o1 o', (s.opSettle o.ring o.addr).skdGo k = t ∧ t.ops = [o'] ∧ Settled o o1 ∧ Going o1 o' ∧ t.mem = s.mem ∧ t.qps = s.qps ∧
      t.cn (pSKD k) c = s.cn (pSKD k) c := by
  obtain ⟨u, o1, hu, huo, hset, hmem, hqps, hcnt⟩ := s.opSettle_only ho hc k c hcn hk
  rw [hu]
  have hsk := u.skidded_skdGo k
  obtain ⟨o', ho', hg⟩ : ∃ o', (u.skdGo k).ops = [o'] ∧ Going o1 o' := by
    have h := hsk.ops
    rw [huo] at h
    obtain ⟨o', l, hg, hl, he⟩ := List.forall₂_cons_left_iff.1 h
    rw [List.forall₂_nil_left_iff.1 hl] at he
    exact ⟨o', he, hg⟩
  have h1 : (u.skdGo k).mem = u.mem := by rw [hsk.rest]
  have h2 : (u.skdGo k).qps = u.qps := by rw [hsk.rest]
  have h3 : (u.skdGo k).cn (pSKD k) c = u.cn (pSKD k) c := by rw [hsk.rest]; rfl
  exact ⟨_, o1, o', rfl, ho', hset, hg, h1.trans hmem, h2.trans hqps, h3.trans hcnt⟩

end

section
variable {s : State} {k i : Nat} {r : Req} {o : Op}

/-- The request that returns: the oldest of its ring and kind, of the only operation there is. -/
def State.Returns (s : State) (k i : Nat) (r : Req) (o : Op) : Prop :=
  (k < 16 ∧ s.ops = [o] ∧ (s.skd k).reqs[i]? = some r ∧ r.squashed = false ∧ r.orphan = false ∧ o.ring = r.ring ∧ o.addr = r.desc ∧ o.cut = false) ∧
    ∀ e ∈ (s.skd k).reqs.take i, e.ring = r.ring → e.desc = r.desc → e.wr = r.wr → e.squashed = true

/-- The state once the request has left the skidder. -/
def State.untagged (s : State) (k i : Nat) : State := s.setSkd k { s.skd k with reqs := (s.skd k).reqs.eraseIdx i }

theorem State.Returns.eq (h : s.Returns k i r o) : s.skdReturn k i =
    ((if r.wr then (s.untagged k i).writeBack k r else (s.untagged k i).readBack k r).opSettle r.ring r.desc).skdGo k := by
  obtain ⟨⟨-, -, hr, hsq, hor, -, -, -⟩, hold⟩ := h
  have hfirst : ((s.skd k).reqs.take i).any (fun q => q.ring == r.ring && q.desc == r.desc && q.wr == r.wr && !q.squashed) = false := by
    refine List.any_eq_false.2 fun e he => ?_
    simp only [Bool.and_eq_true, beq_iff_eq, Bool.not_eq_true', not_and, Bool.not_eq_false]
    exact fun ⟨⟨h1, h2⟩, h3⟩ => hold e he h1 h2 h3
  rw [State.skdReturn]
  dsimp only
  rw [hr]
  dsimp only
  rw [hfirst, hsq, hor, if_neg (by decide), if_neg (by decide), if_neg (by decide)]
  rfl

theorem exec_skidderReturn_read (hon : s.onMain = true) (h : s.Returns k i r o) (hf : s.flips = []) (hp : s.poison = []) (hw : r.wr = false) :
    ∃ t o', exec (.skidderReturn k i) s = .next t ∧ t.ops = [o'] ∧ o'.ring = o.ring ∧ o'.len = o.len ∧
      o'.buf = o.buf ++ s.bytes r.addr r.len ∧ o'.pois = o.pois ∧ o'.wrDone = o.wrDone ∧ t.mem = s.mem ∧ t.qps = s.qps ∧
      t.cn (pSKD k) R.SKD_CNT_BYTES_RD = min (cntMax (pSKD k) R.SKD_CNT_BYTES_RD) (s.cn (pSKD k) R.SKD_CNT_BYTES_RD + r.len) := by
  obtain ⟨u, hu, hexec⟩ := act_next (f := fun s => s.skdReturn k i) hon
  have hu : u = s.skdReturn k i := hu
  rw [h.eq, hw, if_neg (by decide)] at hu
  obtain ⟨⟨hk, ho, -, -, hor, hring, hdesc, hcut⟩, -⟩ := h
  have hq := (State.Quiet.refl [pSKD k] (s.untagged k i)).bumpBy (p := pSKD k) (by simp) R.SKD_CNT_BYTES_RD r.len (by decide)
  have hcn := (s.untagged k i).cn_bumpBy (pSKD k) R.SKD_CNT_BYTES_RD r.len
  obtain ⟨o2, hback, ho2⟩ : ∃ o2 : Op, (s.untagged k i).readBack k r =
      { (s.untagged k i).bumpBy (pSKD k) R.SKD_CNT_BYTES_RD r.len with ops := [o2] } ∧
      o2 = { o with buf := o.buf ++ s.bytes r.addr r.len, pois := o.pois ++ [] } := by
    refine ⟨_, ?_, rfl⟩
    rw [State.readBack, (s.untagged k i).readMem_clean _ _ _ _ hf hp]
    dsimp only
    rw [hor, if_neg Bool.false_ne_true, if_neg Bool.false_ne_true, if_neg Bool.false_ne_true, State.updOp]
    rw [show ((s.untagged k i).bumpBy (pSKD k) R.SKD_CNT_BYTES_RD r.len).ops = [o] from hq.ops.trans ho]
    simp [Op.is, hring, hdesc]
    rfl
  rw [hback] at hu
  generalize (s.untagged k i).bumpBy (pSKD k) R.SKD_CNT_BYTES_RD r.len = v at *
  have hr2 : o2.ring = r.ring := by rw [ho2]; exact hring
  have hd2 : o2.addr = r.desc := by rw [ho2]; exact hdesc
  obtain ⟨t, o1, o', ht, hto, ⟨st, hst⟩, ⟨rd, wr, hg⟩, hmem, hqps, hcnt⟩ := State.return_settles (s := { v with ops := [o2] }) (o := o2) rfl
    (by rw [ho2]; exact hcut) k R.SKD_CNT_BYTES_RD (by decide) hk
  rw [hr2, hd2] at ht
  rw [hu, ht] at hexec
  have ho' : o' = { o with buf := o.buf ++ s.bytes r.addr r.len, pois := o.pois ++ [], status := st, rdNext := rd, wrNext := wr } := by
    rw [hg, hst, ho2]
  refine ⟨_, o', (exec_skidderReturn k i s).trans hexec, hto, by rw [ho'], by rw [ho'], by rw [ho'], by rw [ho']; exact List.append_nil _, by rw [ho'],
    hmem.trans hq.mem, hqps.trans hq.qps, hcnt.trans hcn⟩

theorem exec_skidderReturn_write (hon : s.onMain = true) (h : s.Returns k i r o) (hf : s.flips = []) (hp : s.poison = []) (hw : r.wr = true)
    (hpo : r.pois = []) (hl : r.data.length = r.len) (hd : bit (s.ac (pVFM r.fn) R.VFM_DIRTY_CFG) 0 = false) :
    ∃ t o', exec (.skidderReturn k i) s = .next t ∧ t.ops = [o'] ∧ o'.ring = o.ring ∧ o'.buf = o.buf ∧
      o'.wrDone = o.wrDone + r.len ∧ t.bytes r.addr r.len = r.data.map (fun b => b % 256) ∧
      (∀ a, a < r.addr ∨ r.addr + r.len ≤ a → t.byte a = s.byte a) ∧ t.qps = s.qps ∧
      t.cn (pSKD k) R.SKD_CNT_BYTES_WR = min (cntMax (pSKD k) R.SKD_CNT_BYTES_WR) (s.cn (pSKD k) R.SKD_CNT_BYTES_WR + r.len) := by
  obtain ⟨u, hu, hexec⟩ := act_next (f := fun s => s.skdReturn k i) hon
  have hu : u = s.skdReturn k i := hu
  rw [h.eq, hw, if_pos rfl] at hu
  obtain ⟨⟨hk, ho, -, -, hor, hring, hdesc, hcut⟩, -⟩ := h
  obtain ⟨m, hm, hholds⟩ := State.writeMem_clean (s := s.untagged k i) hf hp r.addr r.data 3 k
  obtain ⟨b, hb, hbm, hbo, hbq, hba, hbc⟩ : ∃ b : State, { s.untagged k i with mem := m } = b ∧ b.mem = m ∧ b.ops = [o] ∧ b.qps = s.qps ∧
      b.acts = s.acts ∧ ∀ p c, b.cn p c = s.cn p c := ⟨_, rfl, rfl, ho, rfl, rfl, fun _ _ => rfl⟩
  have hq := (State.Quiet.refl [pSKD k] b).bumpBy (p := pSKD k) (by simp) R.SKD_CNT_BYTES_WR r.len (by decide)
  have hcn := b.cn_bumpBy (pSKD k) R.SKD_CNT_BYTES_WR r.len
  obtain ⟨o2, hback, ho2⟩ : ∃ o2 : Op, (s.untagged k i).writeBack k r =
      { b.bumpBy (pSKD k) R.SKD_CNT_BYTES_WR r.len with ops := [o2] } ∧
      o2 = { o with wrDone := o.wrDone + r.len, memErr := o.memErr || false } := by
    refine ⟨_, ?_, rfl⟩
    rw [State.writeBack, hm, hb]
    dsimp only
    rw [hpo, List.foldl_nil, State.dirtyMark_off, hor, if_neg Bool.false_ne_true, if_neg Bool.false_ne_true, State.updOp]
    · rw [show (b.bumpBy (pSKD k) R.SKD_CNT_BYTES_WR r.len).ops = [o] from hq.ops.trans hbo]
      simp [Op.is, hring, hdesc]
    · rw [if_neg Bool.false_ne_true, hq.ac, State.ac, hba]
      exact hd
  rw [hback] at hu
  generalize b.bumpBy (pSKD k) R.SKD_CNT_BYTES_WR r.len = v at *
  have hr2 : o2.ring = r.ring := by rw [ho2]; exact hring
  have hd2 : o2.addr = r.desc := by rw [ho2]; exact hdesc
  obtain ⟨t, o1, o', ht, hto, ⟨st, hst⟩, ⟨rd, wr, hg⟩, hmem, hqps, hcnt⟩ := State.return_settles (s := { v with ops := [o2] }) (o := o2) rfl
    (by rw [ho2]; exact hcut) k R.SKD_CNT_BYTES_WR (by decide) hk
  rw [hr2, hd2] at ht
  rw [hu, ht] at hexec
  have ho' : o' = { o with wrDone := o.wrDone + r.len, memErr := o.memErr || false, status := st, rdNext := rd, wrNext := wr } := by
    rw [hg, hst, ho2]
  have htm : t.mem = m := hmem.trans (hq.mem.trans hbm)
  have hh : Holds r.addr r.data s.mem t.mem := by rw [htm]; exact hholds
  refine ⟨_, o', (exec_skidderReturn k i s).trans hexec, hto, by rw [ho'], by rw [ho'], by rw [ho'], ?_, fun a ha => ?_,
    hqps.trans (hq.qps.trans hbq), hcnt.trans (hcn.trans (by rw [hbc]))⟩
  · rw [← hl]
    exact hh.bytes
  · rw [← hl] at ha
    exact hh.byte_other ha

end

/-- Settles O36: tail writes, the fetch and completion of descriptors, and the returns of a skidder. -/
theorem ringsAndSkidder : Obligations.RingsAndSkidder := by
  unfold Obligations.RingsAndSkidder
  refine ⟨fun s hon => ⟨fun f l d v q size hf hl hd hq hsize h0 hr hu hlim => exec_ringTailWrite_takes hon hf hl hd hq hsize h0 hr hu hlim,
    fun f l d v hf hl hd h => exec_ringTailWrite_refused hon hf hl hd h, fun q f hlt hff hv hn hh hp ho hu => ?_,
    fun q o rest size _ hops hr hf hk hst hs hh hfl hpo hsize h0 hd hi =>
      exec_descriptorComplete_copy hon (State.descComplete_copy hops hr hf hk hst hs hh hfl hpo hsize h0 hd hi)⟩,
    fun k i r o s hon hk hf hp ho hr hsq hor hring hdesc hcut hold => ?_⟩
  · subst hff
    have hfetch : s.Fetches q := ⟨⟨hlt, hv, hn, hh, hp, ho⟩, hu⟩
    refine ⟨fun ws hfl hpo hw he => ?_, fun hw => exec_descriptorFetch_window hon hfetch hw⟩
    obtain ⟨t, hexec, hqps, hmem, o, hmo, rd, wr, hg⟩ := exec_descriptorFetch_starts hon hfetch hfl hpo hw he
    exact ⟨t, hexec, hqps, hmem, o, hmo, by rw [hg]; rfl, by rw [hg]; rfl, by rw [hg]; rfl, by rw [hg]; rfl, by rw [hg]; rfl, by rw [hg]; rfl,
      by rw [hg]; rfl, by rw [hg]; rfl, by rw [hg]; rfl⟩
  · have hret : s.Returns k i r o := ⟨⟨hk, ho, hr, hsq, hor, hring, hdesc, hcut⟩, hold⟩
    exact ⟨fun hw => exec_skidderReturn_read hon hret hf hp hw, fun hw hpo hl hd => exec_skidderReturn_write hon hret hf hp hw hpo hl hd⟩

end Sys2Proof.Machine
end

section
/-!
PROOFS. What reaches a function, and moderated events (R230, R238).
-/
namespace Sys2Proof.Machine
open Sys2Proof

/-! ### Frames delivered to H1 (R230) -/

section
variable {s : State} {x : QEntry} {rest : List QEntry}

/-- The state once the oldest frame has been taken from H1. -/
def State.h1Taken (s : State) (rest : List QEntry) : State := { s with swc := { s.swc with h1rx := rest } }

theorem exec_h1RxDeliver_mig {m : MigMsg} {f : Nat} (hon : s.onMain = true) (h : s.swc.h1rx = x :: rest) (ho : x.oversize = false)
    (hb : x.frame.body = .mig m) (hf : s.migFn m = some f) :
    exec .h1RxDeliver s = .next { s with swc := { s.swc with h1rx := rest }, migIn := s.migIn ++ [(f, m)] } := by
  obtain ⟨u, hu, hexec⟩ := act_next (f := State.h1Deliver) hon
  have hgo : s.h1Deliver = { s.h1Taken rest with migIn := s.migIn ++ [(f, m)] } := by
    rw [State.h1Deliver, h]
    dsimp only
    rw [ho, if_neg Bool.false_ne_true, hb]
    dsimp only
    rw [show State.migFn (s.updSwc fun c => { c with h1rx := rest }) m = some f from hf]
    rfl
  rw [hu.trans hgo] at hexec
  exact (exec_h1RxDeliver s).trans hexec

/-- A frame of no other kind goes to the pair its receive selector names. -/
theorem State.h1Deliver_pair {b : List Byte} (h : s.swc.h1rx = x :: rest) (ho : x.oversize = false) (hb : x.frame.body = .raw b)
    (he : x.frame.et ≠ 0x88F7) (h0 : 0 < x.rsel) (hlt : x.rsel < 256) : s.h1Deliver = (s.h1Taken rest).rxCopy x false x.rsel := by
  rw [State.h1Deliver, h]
  dsimp only
  rw [ho, if_neg Bool.false_ne_true, hb]
  dsimp only
  rw [if_neg he, State.rselDeliver, ho, if_neg Bool.false_ne_true, if_neg (by omega), if_pos hlt]
  rfl

/-! ### A copy for a pair -/

variable {q : Nat} {g : Bool}

theorem State.rxCopy_noBuffer (hheld : s.fnHeld (s.qFn q) = false) (hstop : (s.qp q).rxStop ≠ none) :
    s.rxCopy x g q = (s.bump (pVFM (s.qFn q)) R.VFM_CNT_RX_NOBUF).irq (pVFM (s.qFn q)) 7 := by
  rw [State.rxCopy, hheld, if_neg Bool.false_ne_true, Option.isSome_iff_ne_none.2 hstop, if_pos (by simp)]

/-- A pair with a posted buffer and no receive operation. -/
def State.Posted (s : State) (q : Nat) : Prop :=
  (s.qValid q = true ∧ (s.qp q).rxStop = none ∧ s.unusable (pSKD (s.qSkd q)) = false ∧ s.ringOps (2 * q + 1) = []) ∧
    (s.qp q).rxHead < s.qSize q 1 ∧ (s.qp q).rxTail < s.qSize q 1 ∧ (s.qp q).rxHead ≠ (s.qp q).rxTail

/-- The posted buffers of a ring, by its head and tail. -/
theorem posted_pos {head tail size : Nat} (hh : head < size) (ht : tail < size) (hne : head ≠ tail) : (tail + size - head) % size ≠ 0 := by
  rcases Nat.lt_or_gt_of_ne hne with h | h
  · rw [show tail + size - head = (tail - head) + size by omega, Nat.add_mod_right, Nat.mod_eq_of_lt (by omega)]
    omega
  · rw [Nat.mod_eq_of_lt (by omega)]
    omega

theorem State.Posted.fetches {ws : List Word} (h : s.Posted q) (hheld : s.fnHeld (s.qFn q) = false)
    (hw : s.fetchDesc q 1 (s.qp q).rxHead = (some ws, s)) (ho : x.oversize = false) (hk : fld ((ws[0]?).getD 0) 28 4 = 3)
    (hlen : (frameBytes x.frame).length ≤ ((ws[1]?).getD 0).toNat) (h0 : ((ws[1]?).getD 0).toNat ≠ 0)
    (hp : s.permit (s.qFn q) (((ws[2]?).getD 0).toNat + ((ws[3]?).getD 0).toNat * 2 ^ 32) ((ws[1]?).getD 0).toNat false true = true) :
    ∃ o, s.rxCopy x g q = ({ s with ops := s.ops ++ [o] } : State).skdGo (s.qSkd q) ∧ o.ring = 2 * q + 1 ∧ o.fn = s.qFn q ∧ o.kind = 3 ∧
      o.desc = ws ∧ o.buf = frameBytes x.frame ∧ o.dst = ((ws[2]?).getD 0).toNat + ((ws[3]?).getD 0).toNat * 2 ^ 32 ∧ o.trunc = false ∧
      o.status = none := by
  obtain ⟨⟨hvalid, hstop, husable, halone⟩, hhead, htail, hne⟩ := h
  have hpos := posted_pos hhead htail hne
  rw [State.rxCopy, hheld, if_neg Bool.false_ne_true, hstop, husable, halone, List.length_nil, if_neg (Nat.ne_zero_of_lt hhead), hvalid,
    if_neg (by simp [hpos]), Nat.add_zero, Nat.mod_eq_of_lt hhead]
  simp only [hw, ho, hk, h0, hp, ne_eq, not_true_eq_false, if_false, Bool.not_true, Bool.false_eq_true, reduceCtorEq, List.take_of_length_le hlen]
  exact ⟨_, rfl, rfl, rfl, rfl, rfl, rfl, rfl, decide_eq_false (Nat.not_lt.2 hlen), rfl⟩

end

section
variable {s : State} {x : QEntry} {rest : List QEntry}

/-- Over undamaged memory a fetch reads the same descriptor whatever frames wait at H1. -/
theorem State.fetchDesc_h1Taken {q d idx : Nat} (hf : s.flips = []) (hp : s.poison = []) :
    ((s.h1Taken rest).fetchDesc q d idx).1 = (s.fetchDesc q d idx).1 := by
  rw [State.fetchDesc, State.fetchDesc, s.readMem_clean _ _ _ _ hf hp, (s.h1Taken rest).readMem_clean _ _ _ _ hf hp,
    show (s.h1Taken rest).permit ((s.h1Taken rest).qFn q) ((s.h1Taken rest).qBase q d) ((s.h1Taken rest).qSize q d * 32) true true =
      s.permit (s.qFn q) (s.qBase q d) (s.qSize q d * 32) true true from rfl]
  split <;> rfl

/-- The oldest frame at H1 is for a pair whose function is not held. -/
def State.ForPair (s : State) (x : QEntry) (rest : List QEntry) : Prop :=
  s.h1Deliver = (s.h1Taken rest).rxCopy x false x.rsel ∧ x.oversize = false ∧ s.fnHeld (s.qFn x.rsel) = false

theorem exec_h1RxDeliver_buffer {ws : List Word} (hon : s.onMain = true) (h : s.ForPair x rest) (hp : s.Posted x.rsel) (hf : s.flips = [])
    (hpo : s.poison = []) (hw : (s.fetchDesc x.rsel 1 (s.qp x.rsel).rxHead).1 = some ws) (hk : fld ((ws[0]?).getD 0) 28 4 = 3)
    (hlen : (frameBytes x.frame).length ≤ ((ws[1]?).getD 0).toNat) (h0 : ((ws[1]?).getD 0).toNat ≠ 0)
    (hpm : s.permit (s.qFn x.rsel) (((ws[2]?).getD 0).toNat + ((ws[3]?).getD 0).toNat * 2 ^ 32) ((ws[1]?).getD 0).toNat false true = true) :
    ∃ t, exec .h1RxDeliver s = .next t ∧ t.swc = { s.swc with h1rx := rest } ∧ t.mem = s.mem ∧ t.qps = s.qps ∧
      ∃ o ∈ t.ops, o.ring = 2 * x.rsel + 1 ∧ o.fn = s.qFn x.rsel ∧ o.kind = 3 ∧ o.desc = ws ∧ o.buf = frameBytes x.frame ∧
        o.dst = ((ws[2]?).getD 0).toNat + ((ws[3]?).getD 0).toNat * 2 ^ 32 ∧ o.trunc = false ∧ o.status = none := by
  obtain ⟨u, hu, hexec⟩ := act_next (f := State.h1Deliver) hon
  obtain ⟨hgo, ho, hheld⟩ := h
  have hfetch : (s.h1Taken rest).fetchDesc x.rsel 1 (s.qp x.rsel).rxHead = (some ws, s.h1Taken rest) := by
    have h1 : ((s.h1Taken rest).fetchDesc x.rsel 1 (s.qp x.rsel).rxHead).1 = some ws := (State.fetchDesc_h1Taken hf hpo).trans hw
    exact Prod.ext h1 (State.fetchDesc_clean hf hpo h1)
  obtain ⟨o, hcopy, hor, hof, hok, hod, hob, hodst, hot, hos⟩ := State.Posted.fetches (s := s.h1Taken rest) (g := false) hp hheld hfetch ho hk hlen h0 hpm
  have hsk := State.skidded_skdGo ({ s.h1Taken rest with ops := s.ops ++ [o] } : State) (s.qSkd x.rsel)
  replace hu : u = ({ s.h1Taken rest with ops := s.ops ++ [o] } : State).skdGo (s.qSkd x.rsel) := hu.trans (hgo.trans hcopy)
  rw [← hu] at hsk
  have hswc : u.swc = { s.swc with h1rx := rest } := by rw [hsk.rest]; rfl
  have hmem : u.mem = s.mem := by rw [hsk.rest]; rfl
  have hqps : u.qps = s.qps := by rw [hsk.rest]; rfl
  obtain ⟨o', hm, rd, wr, hg⟩ := hsk.last rfl
  exact ⟨_, (exec_h1RxDeliver s).trans hexec, hswc, hmem, hqps, o', hm, by rw [hg]; exact hor, by rw [hg]; exact hof, by rw [hg]; exact hok,
    by rw [hg]; exact hod, by rw [hg]; exact hob, by rw [hg]; exact hodst, by rw [hg]; exact hot, by rw [hg]; exact hos⟩

theorem exec_h1RxDeliver_noBuffer (hon : s.onMain = true) (h : s.ForPair x rest) (hstop : (s.qp x.rsel).rxStop ≠ none) :
    ∃ t, exec .h1RxDeliver s = .next t ∧ bit (t.hd (pVFM (s.qFn x.rsel))).irqStatus 7 = true ∧
      t.cn (pVFM (s.qFn x.rsel)) R.VFM_CNT_RX_NOBUF =
        min (cntMax (pVFM (s.qFn x.rsel)) R.VFM_CNT_RX_NOBUF) (s.cn (pVFM (s.qFn x.rsel)) R.VFM_CNT_RX_NOBUF + 1) ∧
      ({ s with swc := { s.swc with h1rx := rest } } : State).Quiet [pVFM (s.qFn x.rsel)] t := by
  obtain ⟨u, hu, hexec⟩ := act_next (f := State.h1Deliver) hon
  obtain ⟨hgo, ho, hheld⟩ := h
  obtain ⟨hq, hb, hc⟩ := (s.h1Taken rest).bump_irq_spec (pVFM (s.qFn x.rsel)) (o := R.VFM_CNT_RX_NOBUF) (i := 7) (by decide) (by decide)
  have hcopy := State.rxCopy_noBuffer (s := s.h1Taken rest) (x := x) (g := false) hheld hstop
  replace hu : u = ((s.h1Taken rest).bump (pVFM (s.qFn x.rsel)) R.VFM_CNT_RX_NOBUF).irq (pVFM (s.qFn x.rsel)) 7 := hu.trans (hgo.trans hcopy)
  rw [← hu] at hq hb hc
  exact ⟨_, (exec_h1RxDeliver s).trans hexec, hb, hc, hq.pend⟩

end

/-! ### Moderated events (R238) -/

section
variable {s : State} {f l at_ v : Nat}

/-- Whether an instance runs depends on the functions only by which of them are frozen. -/
theorem State.instRuns_setVf (s : State) (f i : Nat) (x : Vf) (h : x.frozen = (s.vf f).frozen) : (s.setVf f x).instRuns i = s.instRuns i := by
  have hfr (k : Nat) : (sget ({} : Vf) k (s.setVf f x).vfs).frozen = (sget ({} : Vf) k s.vfs).frozen := by
    by_cases hk : k = f
    · subst hk
      exact (congrArg Vf.frozen (s.vf_setVf k x)).trans h
    · exact congrArg Vf.frozen (s.vf_setVf_other f k x hk)
  have hpick (want : Inst → Bool) : (s.setVf f x).slackPick i want = s.slackPick i want := by
    simp only [State.slackPick, hfr]
    rfl
  rw [State.instRuns, State.slackOf, hfr, hpick, hpick]
  rfl

/-- The state once the interval of a local pair's events has ended and `l'` remain. -/
def State.itrSet (s : State) (f : Nat) (l' : List (Nat × Nat × Bool)) : State := s.setVf f { s.vf f with itr := l' }

theorem State.itrExpire_waiting (hitr : (s.vf f).itr = [(l, at_, true)]) (hat : at_ ≤ s.clkNs)
    (hen : bit (s.rg (pVFM f) (R.VFM_QP_ROUTE + 4 * l)) 8 = true) : s.itrExpire f l =
      (s.itrSet f [(l, s.clkNs + fld (s.ac (pVFM f) (R.VFM_QP_ITR + 4 * l)) 0 16 * 1000, false)]).fire
        (fld (s.rg (pVFM f) (R.VFM_QP_ROUTE + 4 * l)) 0 8) := by
  rw [State.itrExpire]
  dsimp only
  rw [hitr, List.find?_cons_of_pos (by simp)]
  dsimp only
  rw [if_neg (Nat.not_lt.2 hat), hen, if_pos (by decide), List.filter_cons_of_neg (by simp), List.filter_nil]
  rfl

theorem State.itrExpire_disabled (hitr : (s.vf f).itr = [(l, at_, true)]) (hat : at_ ≤ s.clkNs)
    (hen : bit (s.rg (pVFM f) (R.VFM_QP_ROUTE + 4 * l)) 8 = false) : s.itrExpire f l = s.itrSet f [] := by
  rw [State.itrExpire]
  dsimp only
  rw [hitr, List.find?_cons_of_pos (by simp)]
  dsimp only
  rw [if_neg (Nat.not_lt.2 hat), hen, if_neg (by decide), List.filter_cons_of_neg (by simp), List.filter_nil]
  rfl

theorem exec_itrExpiry_early (hitr : (s.vf f).itr = [(l, at_, true)]) (hat : s.clkNs < at_) : exec (.itrExpiry f l) s = .next s := by
  rw [exec_itrExpiry]
  refine act_same ?_
  rw [State.itrExpire]
  dsimp only
  rw [hitr, List.find?_cons_of_pos (by simp)]
  exact if_pos hat

theorem exec_itrExpiry_sends (hon : s.onMain = true) (hitr : (s.vf f).itr = [(l, at_, true)])
    (hv : v = fld (s.rg (pVFM f) (R.VFM_QP_ROUTE + 4 * l)) 0 8) (hat : at_ ≤ s.clkNs)
    (hen : bit (s.rg (pVFM f) (R.VFM_QP_ROUTE + 4 * l)) 8 = true) (ht : (s.vec v).target = 0) (hm : (s.vec v).mask = false) :
    ∃ t, exec (.itrExpiry f l) s = .next t ∧
      (t.vf f).itr = [(l, s.clkNs + fld (s.ac (pVFM f) (R.VFM_QP_ITR + 4 * l)) 0 16 * 1000, false)] ∧
      (∀ g, g ≠ f → t.vf g = s.vf g) ∧ t.out = .vector v 0 (s.vec v).hostIdx :: s.out ∧ t = { s with vfs := t.vfs, out := t.out } := by
  obtain ⟨u, hu, hexec⟩ := act_next (f := fun s => s.itrExpire f l) hon
  replace hu := hu.trans (State.itrExpire_waiting hitr hat hen)
  rw [← hv] at hu
  generalize [(l, s.clkNs + fld (s.ac (pVFM f) (R.VFM_QP_ITR + 4 * l)) 0 16 * 1000, false)] = l' at *
  have hfire : (s.itrSet f l').fire v = (s.itrSet f l').emit (.vector v 0 (s.vec v).hostIdx) := by
    rw [State.fire]
    rw [show (s.itrSet f l').vec v = s.vec v from rfl, State.vecOpen, hm, ht, if_pos (by simp), State.vecSend, ht, if_neg (by decide)]
  rw [hu, hfire] at hexec
  exact ⟨_, (exec_itrExpiry f l s).trans hexec, congrArg Vf.itr (s.vf_setVf f _), fun g hg => s.vf_setVf_other f g _ hg, rfl, rfl⟩

theorem exec_itrExpiry_pends (hon : s.onMain = true) (hitr : (s.vf f).itr = [(l, at_, true)])
    (hv : v = fld (s.rg (pVFM f) (R.VFM_QP_ROUTE + 4 * l)) 0 8) (hat : at_ ≤ s.clkNs)
    (hen : bit (s.rg (pVFM f) (R.VFM_QP_ROUTE + 4 * l)) 8 = true) (ht : (s.vec v).target = 2) (ho : (s.vec v).owner ≠ 0)
    (hr : s.instRuns (s.vec v).owner = false) :
    ∃ t, exec (.itrExpiry f l) s = .next t ∧ (t.vec v).pending = true ∧ t.out = s.out ∧ t = { s with vfs := t.vfs, vecs := t.vecs } := by
  obtain ⟨u, hu, hexec⟩ := act_next (f := fun s => s.itrExpire f l) hon
  replace hu := hu.trans (State.itrExpire_waiting hitr hat hen)
  rw [← hv] at hu
  generalize [(l, s.clkNs + fld (s.ac (pVFM f) (R.VFM_QP_ITR + 4 * l)) 0 16 * 1000, false)] = l' at *
  have hrun : (s.itrSet f l').instRuns (s.vec v).owner = false := (s.instRuns_setVf f _ { s.vf f with itr := l' } rfl).trans hr
  have hfire : (s.itrSet f l').fire v = (s.itrSet f l').setVec v { s.vec v with pending := true } := by
    rw [State.fire]
    dsimp only
    rw [show (s.itrSet f l').vec v = s.vec v from rfl, State.vecOpen, hrun, ht, if_neg (by simp [ho])]
  rw [hu, hfire] at hexec
  exact ⟨_, (exec_itrExpiry f l s).trans hexec, congrArg Vec.pending ((s.itrSet f l').vec_setVec v _), rfl, rfl⟩

theorem exec_itrExpiry_disabled (hon : s.onMain = true) (hitr : (s.vf f).itr = [(l, at_, true)]) (hat : at_ ≤ s.clkNs)
    (hen : bit (s.rg (pVFM f) (R.VFM_QP_ROUTE + 4 * l)) 8 = false) :
    ∃ t, exec (.itrExpiry f l) s = .next t ∧ (t.vf f).itr = [] ∧ (∀ g, g ≠ f → t.vf g = s.vf g) ∧ t = { s with vfs := t.vfs } := by
  obtain ⟨u, hu, hexec⟩ := act_next (f := fun s => s.itrExpire f l) hon
  rw [hu.trans (State.itrExpire_disabled hitr hat hen)] at hexec
  exact ⟨_, (exec_itrExpiry f l s).trans hexec, congrArg Vf.itr (s.vf_setVf f _), fun g hg => s.vf_setVf_other f g _ hg, rfl⟩

end

/-- Settles O37: frames delivered to H1, and moderated events. -/
theorem receiveAndModeration : Obligations.ReceiveAndModeration := by
  unfold Obligations.ReceiveAndModeration
  refine fun s hon => ⟨fun x rest m f h ho hb hf => exec_h1RxDeliver_mig hon h ho hb hf, fun x rest b q h ho hb he hq h0 hlt hheld => ?_,
    fun f l at_ v hitr hv => ⟨fun hat hen ht hm => exec_itrExpiry_sends hon hitr hv hat hen ht hm,
      fun hat hen ht how hr => exec_itrExpiry_pends hon hitr hv hat hen ht how hr,
      fun hat hen => exec_itrExpiry_disabled hon hitr hat hen, fun hat => exec_itrExpiry_early hitr hat⟩⟩
  subst hq
  have hpair : s.ForPair x rest := ⟨State.h1Deliver_pair h ho hb he h0 hlt, ho, hheld⟩
  refine ⟨fun ws hv hst hu halone hh ht hne hf hp hw hk hlen hn hpm => ?_, fun hst => exec_h1RxDeliver_noBuffer hon hpair hst⟩
  exact exec_h1RxDeliver_buffer hon hpair ⟨⟨hv, hst, hu, halone⟩, hh, ht, hne⟩ hf hp hw hk hlen hn hpm

end Sys2Proof.Machine
end

section
/-!
PROOFS. Resets of functions and pairs, and the swap of the dirty log (R228, R239, R243).
-/
namespace Sys2Proof.Machine
open Sys2Proof

/-! ### What a pass over the skidders leaves -/

section
variable {s : State} {F : State → Nat × Skd → State} {Q : Skd → Prop}

/-- A pass that makes `Q` true of each skidder it visits leaves it true of all, where one that holds nothing has it. -/
theorem State.foldl_skds (hset : ∀ (u : State) e, Q ((F u e).skd e.1)) (hother : ∀ (u : State) e k, k ≠ e.1 → (F u e).skd k = u.skd k)
    (h0 : Q {}) (k : Nat) : Q ((s.skds.foldl F s).skd k) := by
  have key (l : List (Nat × Skd)) (u : State) (h : Q (u.skd k) ∨ ∃ x, (k, x) ∈ l) : Q ((l.foldl F u).skd k) := by
    induction l generalizing u with
    | nil =>
      obtain h | ⟨x, hx⟩ := h
      · exact h
      · exact absurd hx List.not_mem_nil
    | cons e l ih =>
      refine ih _ ?_
      by_cases hk : k = e.1
      · subst hk
        exact .inl (hset u e)
      · rw [hother u e k hk]
        refine h.imp_right fun ⟨x, hx⟩ => ⟨x, ?_⟩
        rcases List.mem_cons.1 hx with hx | hx
        · exact absurd (congrArg Prod.fst hx) hk
        · exact hx
  refine key _ s ?_
  rcases sget_eq_or_mem ({} : Skd) k s.skds with h | h
  · exact .inl (by rw [State.skd, h]; exact h0)
  · exact .inr ⟨_, h⟩

theorem State.skd_mapSkds (g : Skd → Skd) (h0 : g {} = {}) (l : List (Nat × Skd)) (k : Nat) :
    sget {} k (l.map (fun e => (e.1, g e.2))) = g (sget {} k l) := by
  induction l with
  | nil => exact h0.symm
  | cons e l ih =>
    by_cases hk : e.1 = k
    · simp [sget, hk]
    · simpa [sget, hk] using ih

end

section
variable {s : State}

/-- With no operation a skidder issues nothing. -/
theorem State.skdAll_reqs (h : s.ops = []) (k : Nat) : (s.skdAll.skd k).reqs = (s.skd k).reqs := by
  have hrun (u : State) (hu : u.ops = []) (j n : Nat) : ((u.skdRun j n).skd k).reqs = (u.skd k).reqs := by
    cases n with
    | zero => rfl
    | succ n =>
      have hnone : u.pendingFns j = [] := by
        unfold State.pendingFns State.openOps
        simp [hu]
      rw [State.skdRun]
      dsimp only
      rw [hnone, List.isEmpty_nil, if_pos rfl]
      by_cases hk : k = j
      · subst hk
        exact (congrArg Skd.reqs (u.skd_setSkd k _)).trans rfl
      · exact congrArg Skd.reqs (u.skd_setSkd_other _ _ _ hk)
  have hall : s.skdAll.ops = [] ∧ (s.skdAll.skd k).reqs = (s.skd k).reqs := by
    refine List.foldlRecOn (motive := fun t : State => t.ops = [] ∧ (t.skd k).reqs = (s.skd k).reqs) _ _ ⟨h, rfl⟩ fun t ht j _ => ?_
    obtain ⟨ht1, ht2⟩ := ht
    unfold State.skdGo
    split
    · exact ⟨ht1, ht2⟩
    · obtain ⟨l, hl⟩ := t.skdRun_idle ht1 j 6400
      exact ⟨by rw [hl]; exact ht1, (hrun t ht1 j 6400).trans ht2⟩
  exact hall.2

/-- With no operation cutting those of a function or pair changes no request. -/
theorem State.cutFn_idle (h : s.ops = []) (sel : Op → Bool) :
    ∃ l, s.cutFn sel = { s with skds := l } ∧ ∀ k, (sget {} k l : Skd).reqs = (s.skd k).reqs := by
  have hcut : s.cutFn sel = s.skdAll := by
    unfold State.cutFn
    simp only [h, List.map_nil, List.filter_nil, List.foldl_nil]
    congr 1
    exact congrArg (fun l => { s with ops := l }) h.symm
  obtain ⟨l, hl⟩ := s.skdAll_idle h
  refine ⟨l, hcut.trans hl, fun k => ?_⟩
  have hk := State.skdAll_reqs h k
  rw [hl] at hk
  exact hk

end

/-! ### Squashing a function (R239) -/

section
variable {s : State} {f : Nat}

/-- The requests of a function that a squash leaves are reads, squashed. -/
def Squashed (f : Nat) (x : Skd) : Prop := ∀ r ∈ x.reqs, r.fn = f → r.wr = false ∧ r.squashed = true

theorem squashed_squash (x : Skd) : Squashed f { x with reqs := (x.reqs.filter (fun r => !(r.fn == f && r.wr))).map (fun r =>
    if r.fn == f then { r with squashed := true } else r) } := by
  intro r hr hf
  obtain ⟨r', hm, rfl⟩ := List.mem_map.1 hr
  have hw := (List.mem_filter.1 hm).2
  by_cases h : r'.fn = f
  · simp only [h, BEq.rfl, Bool.true_and, Bool.not_eq_true'] at hw ⊢
    exact ⟨hw, rfl⟩
  · simp [h] at hf

theorem State.squashed_squashFn (k : Nat) : Squashed f ((s.squashFn f).skd k) := by
  refine State.foldl_skds (fun u e => ?_) (fun u e k hk => ?_) (fun r hr => absurd hr List.not_mem_nil) k
  · dsimp only
    rw [State.skd, State.bumpBy_skds]
    exact (congrArg (Squashed f) (u.skd_setSkd _ _)).mpr (squashed_squash _)
  · dsimp only
    rw [State.skd, State.bumpBy_skds]
    exact u.skd_setSkd_other _ _ _ hk

theorem State.squashFn_keeps : (s.squashFn f).vfs = s.vfs ∧ (s.squashFn f).ops = s.ops ∧ (s.squashFn f).mem = s.mem ∧
    (s.squashFn f).qps = s.qps := by
  refine List.foldlRecOn (motive := fun t : State => t.vfs = s.vfs ∧ t.ops = s.ops ∧ t.mem = s.mem ∧ t.qps = s.qps) _ _ ⟨rfl, rfl, rfl, rfl⟩
    fun t ht e _ => ?_
  simpa using ht

theorem State.dropFn_spec : ∃ t, s.dropFn f = t ∧ List.Forall₂ Going (s.ops.filter (fun o => o.fn != f)) t.ops ∧
    (∀ k, Squashed f (t.skd k)) ∧ t.vfs = s.vfs ∧ t.mem = s.mem ∧ t.qps = s.qps := by
  obtain ⟨hv, ho, hm, hq⟩ := s.squashFn_keeps (f := f)
  have hsq (k : Nat) := s.squashed_squashFn (f := f) k
  obtain ⟨u, hu, huo, hus, huv, hum, huq⟩ : ∃ u : State, { s.squashFn f with ops := (s.squashFn f).ops.filter (fun o => o.fn != f) } = u ∧
      u.ops = s.ops.filter (fun o => o.fn != f) ∧ (∀ k, Squashed f (u.skd k)) ∧ u.vfs = s.vfs ∧ u.mem = s.mem ∧ u.qps = s.qps :=
    ⟨_, rfl, by rw [← ho], hsq, hv, hm, hq⟩
  have hgo : s.dropFn f = u.skdAll := by rw [← hu]; rfl
  rw [hgo]
  have hsk := u.skidded_skdAll
  refine ⟨_, rfl, by rw [← huo]; exact hsk.ops, fun k r hr hf => ?_, by rw [hsk.rest]; exact huv, by rw [hsk.rest]; exact hum,
    by rw [hsk.rest]; exact huq⟩
  rcases hsk.reqs k r hr with hr | ⟨o, hmo, hof⟩
  · exact hus k r hr hf
  · rw [huo] at hmo
    exact absurd (hof.trans hf) (by simpa using (List.mem_filter.1 hmo).2)

theorem going_keys {l l' : List Op} (h : List.Forall₂ Going l l') : l'.map (fun o => (o.ring, o.addr)) = l.map (fun o => (o.ring, o.addr)) := by
  induction h with
  | nil => rfl
  | cons hg _ ih =>
    obtain ⟨rd, wr, rfl⟩ := hg
    simp [ih]

end

/-! ### Resets of a function (R239) -/

section
variable {s : State} {f : Nat}

/-- A function whose reset has begun: its instance stops in the next kerf. -/
def State.resetBegun (s : State) (f n : Nat) : State :=
  (s.setVf f { s.vf f with reset := n, resetClk := s.tsu.clk }).updInst f (fun y => { y with startNs := none, stopReq := decide (y.state ≠ 0) })

section
variable (n : Nat)
theorem State.vf_resetBegun : (s.resetBegun f n).vf f = { s.vf f with reset := n, resetClk := s.tsu.clk } := s.vf_setVf f _
theorem State.vf_resetBegun_other {g : Nat} (h : g ≠ f) : (s.resetBegun f n).vf g = s.vf g := s.vf_setVf_other f g _ h
theorem State.inst_resetBegun : (s.resetBegun f n).inst f = { s.inst f with startNs := none, stopReq := decide ((s.inst f).state ≠ 0) } :=
  State.inst_setInst _ f _
theorem State.inst_resetBegun_other {g : Nat} (h : g ≠ f) : (s.resetBegun f n).inst g = s.inst g := State.inst_setInst_other _ f g _ h
end

theorem State.vfResetNow_still {abort : State → State} (h : abort s = s) (hr : (s.vf f).resetReq = none) (sq : Bool) :
    s.vfResetNow f sq abort = if sq then (s.resetBegun f 3).dropFn f else (s.resetBegun f 2).cutFn (fun o => o.fn == f) := by
  have hbegun (n : Nat) : (s.setVf f { s.vf f with reset := n, resetClk := s.tsu.clk, resetReq := none }).updInst f
      (fun y => { y with startNs := none, stopReq := decide (y.state ≠ 0) }) = s.resetBegun f n := by
    rw [State.resetBegun, ← hr]
  unfold State.vfResetNow
  rw [h]
  cases sq with
  | false => exact congrArg (State.cutFn · (fun o => o.fn == f)) (hbegun 2)
  | true => exact congrArg (State.dropFn · f) (hbegun 3)

/-- A function that has neither a reset nor a move under way begins its reset at once. -/
theorem State.vfReset_now (hf : 0 < f ∧ f < 64) (ha : s.absent (pVFM f) = false) (hk : s.kerfBusy f = false) (hv : s.vf f = {}) (sq : Bool) :
    s.vfReset f sq (fun s => s.migAbortReset f) =
      if sq then (s.resetBegun f 3).dropFn f else (s.resetBegun f 2).cutFn (fun o => o.fn == f) := by
  have hlive : s.migAbortReset f = s := by
    rw [State.migAbortReset, State.migLive, State.mig, hv]
    rfl
  have hidle : ¬(s.fnReset f || (s.vf f).resetReq.isSome) = true := by
    rw [State.fnReset, hv]
    decide
  unfold State.vfReset
  rw [if_neg (by omega), ha, if_neg Bool.false_ne_true, if_neg hidle, hk, if_neg Bool.false_ne_true]
  exact State.vfResetNow_still hlive (by rw [hv]) sq

theorem State.vfReset_waits (hf : 0 < f ∧ f < 64) (ha : s.absent (pVFM f) = false) (hk : s.kerfBusy f = true) (hv : s.vf f = {}) (sq : Bool) :
    s.vfReset f sq (fun s => s.migAbortReset f) = s.setVf f { s.vf f with resetReq := some sq } := by
  have hidle : ¬(s.fnReset f || (s.vf f).resetReq.isSome) = true := by
    rw [State.fnReset, hv]
    decide
  unfold State.vfReset
  rw [if_neg (by omega), ha, if_neg Bool.false_ne_true, if_neg hidle, hk, if_pos rfl]

theorem exec_resetDrain_starts (hon : s.onMain = true) (hf : 0 < f ∧ f < 64) (ha : s.absent (pVFM f) = false) (hk : s.kerfBusy f = false)
    (hv : s.vf f = {}) (ho : s.ops = []) :
    ∃ t, exec (.resetDrain f) s = .next t ∧ t.vf f = { s.vf f with reset := 2, resetClk := s.tsu.clk } ∧ (∀ g, g ≠ f → t.vf g = s.vf g) ∧
      t.inst f = { s.inst f with startNs := none, stopReq := decide ((s.inst f).state ≠ 0) } ∧ (∀ g, g ≠ f → t.inst g = s.inst g) ∧
      (∀ k, (t.skd k).reqs = (s.skd k).reqs) ∧
      t = { s with vfs := t.vfs, cyc := { s.cyc with insts := t.cyc.insts }, skds := t.skds, hdrs := t.hdrs } := by
  obtain ⟨w, hun, -, hexec⟩ := actReg_eff (p := pVFM f) (f := fun s => s.vfReset f false (fun s => s.migAbortReset f)) hon
  have hgo := State.vfReset_now (s := { s with hdrs := w }) hf ha hk hv false
  rw [if_neg Bool.false_ne_true] at hgo
  obtain ⟨u, hu, huv, huvo, hui, huio, huops, huskd, hurest⟩ : ∃ u : State, ({ s with hdrs := w } : State).resetBegun f 2 = u ∧
      u.vf f = { s.vf f with reset := 2, resetClk := s.tsu.clk } ∧ (∀ g, g ≠ f → u.vf g = s.vf g) ∧
      u.inst f = { s.inst f with startNs := none, stopReq := decide ((s.inst f).state ≠ 0) } ∧ (∀ g, g ≠ f → u.inst g = s.inst g) ∧
      u.ops = [] ∧ u.skds = s.skds ∧ u = { s with vfs := u.vfs, cyc := { s.cyc with insts := u.cyc.insts }, hdrs := u.hdrs } :=
    ⟨_, rfl, State.vf_resetBegun 2, fun g hg => State.vf_resetBegun_other 2 hg, State.inst_resetBegun 2,
      fun g hg => State.inst_resetBegun_other 2 hg, ho, rfl, rfl⟩
  obtain ⟨l, hl, hreqs⟩ := State.cutFn_idle huops (fun o => o.fn == f)
  rw [hu, hl] at hgo
  rw [hgo] at hexec
  refine ⟨_, (exec_resetDrain f s).trans hexec, huv, huvo, hui, huio, fun k => (hreqs k).trans (by rw [State.skd, huskd]; rfl), ?_⟩
  exact congrArg (fun x : State => { x with skds := l, pending := s.pending }) hurest

theorem exec_resetSquash_starts (hon : s.onMain = true) (hf : 0 < f ∧ f < 64) (ha : s.absent (pVFM f) = false) (hk : s.kerfBusy f = false)
    (hv : s.vf f = {}) :
    ∃ t, exec (.resetSquash f) s = .next t ∧
      t.ops.map (fun o => (o.ring, o.addr)) = (s.ops.filter (fun o => o.fn != f)).map (fun o => (o.ring, o.addr)) ∧
      (∀ k, ∀ r ∈ (t.skd k).reqs, r.fn = f → r.wr = false ∧ r.squashed = true) ∧
      t.vf f = { s.vf f with reset := 3, resetClk := s.tsu.clk } ∧ (∀ g, g ≠ f → t.vf g = s.vf g) ∧ t.mem = s.mem ∧ t.qps = s.qps := by
  obtain ⟨w, hun, -, hexec⟩ := actReg_eff (p := pVFM f) (f := fun s => s.vfReset f true (fun s => s.migAbortReset f)) hon
  have hgo := State.vfReset_now (s := { s with hdrs := w }) hf ha hk hv true
  rw [if_pos rfl] at hgo
  obtain ⟨u, hu, huv, huvo, huops, hum, huq⟩ : ∃ u : State, ({ s with hdrs := w } : State).resetBegun f 3 = u ∧
      u.vf f = { s.vf f with reset := 3, resetClk := s.tsu.clk } ∧ (∀ g, g ≠ f → u.vf g = s.vf g) ∧
      u.ops = s.ops ∧ u.mem = s.mem ∧ u.qps = s.qps :=
    ⟨_, rfl, State.vf_resetBegun 3, fun g hg => State.vf_resetBegun_other 3 hg, rfl, rfl, rfl⟩
  obtain ⟨t, ht, hops, hsq, hvf, hmem, hqps⟩ := u.dropFn_spec (f := f)
  rw [hu, ht] at hgo
  rw [hgo] at hexec
  refine ⟨_, (exec_resetSquash f s).trans hexec, (going_keys hops).trans (by rw [huops]), hsq, ?_, fun g hg => ?_, hmem.trans hum, hqps.trans huq⟩
  · show t.vf f = _
    rw [State.vf, hvf]
    exact huv
  · show t.vf g = _
    rw [State.vf, hvf]
    exact huvo g hg

theorem exec_resetSquash_waits (hon : s.onMain = true) (hf : 0 < f ∧ f < 64) (ha : s.absent (pVFM f) = false) (hk : s.kerfBusy f = true)
    (hv : s.vf f = {}) :
    ∃ t, exec (.resetSquash f) s = .next t ∧ t.vf f = { s.vf f with resetReq := some true } ∧ (∀ g, g ≠ f → t.vf g = s.vf g) ∧
      t = { s with vfs := t.vfs, hdrs := t.hdrs } := by
  obtain ⟨w, hun, -, hexec⟩ := actReg_eff (p := pVFM f) (f := fun s => s.vfReset f true (fun s => s.migAbortReset f)) hon
  rw [State.vfReset_waits (s := { s with hdrs := w }) hf ha hk hv true] at hexec
  exact ⟨_, (exec_resetSquash f s).trans hexec, State.vf_setVf { s with hdrs := w } f _, fun g hg => State.vf_setVf_other { s with hdrs := w } f g _ hg, rfl⟩

/-! ### The end of a reset -/

/-- A skidder that holds no request of a function. -/
def Retired (f : Nat) (x : Skd) : Prop := ∀ r ∈ x.reqs, r.fn ≠ f

/-- A request of a function still held is retired, counted and raised. -/
def State.retire (f : Nat) (s : State) (e : Nat × Skd) : State :=
  let y := s.skd e.1
  let n : Nat := (y.reqs.filter (fun r => r.fn == f)).length
  if n = 0 then s
  else ((s.setSkd e.1 { y with reqs := y.reqs.filter (fun r => r.fn != f) }).bumpBy (pSKD e.1) R.SKD_CNT_TAG_FORCED n).irq (pSKD e.1) 4

theorem State.retired_retire (e : Nat × Skd) : Retired f ((s.retire f e).skd e.1) := by
  unfold State.retire
  extract_lets y n
  split
  · next h0 =>
    intro r hr hf
    have hnil := List.eq_nil_of_length_eq_zero h0
    have hmem : r ∈ y.reqs.filter (fun r => r.fn == f) := List.mem_filter.2 ⟨hr, by simp [hf]⟩
    rw [hnil] at hmem
    exact absurd hmem List.not_mem_nil
  · rw [State.skd, State.irq_skds, State.bumpBy_skds]
    refine (congrArg (Retired f) (s.skd_setSkd _ _)).mpr fun r hr => ?_
    simpa using (List.mem_filter.1 hr).2

theorem State.retire_other (e : Nat × Skd) {k : Nat} (hk : k ≠ e.1) : (s.retire f e).skd k = s.skd k := by
  unfold State.retire
  extract_lets y n
  split
  · rfl
  · rw [State.skd, State.irq_skds, State.bumpBy_skds]
    exact s.skd_setSkd_other _ _ _ hk

theorem State.retire_keeps (e : Nat × Skd) : (s.retire f e).vfs = s.vfs ∧ (s.retire f e).ops = s.ops ∧ (s.retire f e).mem = s.mem ∧
    (s.retire f e).qps = s.qps := by
  unfold State.retire
  extract_lets y n
  split
  · exact ⟨rfl, rfl, rfl, rfl⟩
  · simp

theorem exec_resetTagTimeout_retires (hon : s.onMain = true) (hr : s.fnReset f = true) (hc : 12000 ≤ s.since (s.vf f).resetClk) :
    ∃ t, exec (.resetTagTimeout f) s = .next t ∧ (∀ o ∈ t.ops, o.fn ≠ f) ∧ (∀ k, ∀ r ∈ (t.skd k).reqs, r.fn ≠ f) ∧
      t.vfs = s.vfs ∧ t.qps = s.qps ∧ t.mem = s.mem := by
  obtain ⟨t, ht, hexec⟩ := act_next (f := fun s => s.resetTimeout f) hon
  obtain ⟨a, ha, haops, haskds, hav, haq, ham⟩ : ∃ a : State, { s with ops := s.ops.filter (fun o => o.fn != f) } = a ∧
      a.ops = s.ops.filter (fun o => o.fn != f) ∧ a.skds = s.skds ∧ a.vfs = s.vfs ∧ a.qps = s.qps ∧ a.mem = s.mem := ⟨_, rfl, rfl, rfl, rfl, rfl, rfl⟩
  have hgo : s.resetTimeout f = (a.skds.foldl (State.retire f) a).skdAll := by
    rw [State.resetTimeout, if_neg (by simp [hr, hc]), ← ha]
    rfl
  have hret (k : Nat) : Retired f ((a.skds.foldl (State.retire f) a).skd k) :=
    State.foldl_skds (fun u e => u.retired_retire e) (fun u e k hk => u.retire_other e hk) (fun r hr => absurd hr List.not_mem_nil) k
  have hkeep : (a.skds.foldl (State.retire f) a).vfs = a.vfs ∧ (a.skds.foldl (State.retire f) a).ops = a.ops ∧
      (a.skds.foldl (State.retire f) a).mem = a.mem ∧ (a.skds.foldl (State.retire f) a).qps = a.qps := by
    refine List.foldlRecOn (motive := fun t : State => t.vfs = a.vfs ∧ t.ops = a.ops ∧ t.mem = a.mem ∧ t.qps = a.qps) _ _ ⟨rfl, rfl, rfl, rfl⟩
      fun t ht e _ => ?_
    obtain ⟨h1, h2, h3, h4⟩ := ht
    obtain ⟨k1, k2, k3, k4⟩ := t.retire_keeps (f := f) e
    exact ⟨k1.trans h1, k2.trans h2, k3.trans h3, k4.trans h4⟩
  replace ht : t = (a.skds.foldl (State.retire f) a).skdAll := ht.trans hgo
  generalize a.skds.foldl (State.retire f) a = u at *
  obtain ⟨h1, h2, h3, h4⟩ := hkeep
  have hsk := u.skidded_skdAll
  rw [← ht] at hsk
  have hno (o : Op) (ho : o ∈ u.ops) : o.fn ≠ f := by
    rw [h2, haops] at ho
    simpa using (List.mem_filter.1 ho).2
  refine ⟨_, (exec_resetTagTimeout f s).trans hexec, fun o ho => ?_, fun k r hr => ?_, ?_, ?_, ?_⟩
  · obtain ⟨o', ho', hfn⟩ := hsk.fn ho
    rw [← hfn]
    exact hno o' ho'
  · rcases hsk.reqs k r hr with hr | ⟨o, hmo, hof⟩
    · exact hret k r hr
    · rw [← hof]
      exact hno o hmo
  · show t.vfs = _
    rw [hsk.rest]
    exact h1.trans hav
  · show t.qps = _
    rw [hsk.rest]
    exact h4.trans haq
  · show t.mem = _
    rw [hsk.rest]
    exact h3.trans ham

theorem exec_resetTagTimeout_early (h : s.since (s.vf f).resetClk < 12000) : exec (.resetTagTimeout f) s = .next s := by
  rw [exec_resetTagTimeout]
  refine act_same (if_pos ?_)
  simp only [Bool.not_eq_true', Bool.and_eq_false_iff, decide_eq_false_iff_not]
  exact .inr (Nat.not_le.2 h)

theorem exec_resetDone_waits (h : s.fnReqs f ≠ 0) : exec (.resetDone f) s = .next s := by
  rw [exec_resetDone]
  exact act_same (if_pos (by simp [h]))

/-- The pairs of a function as after reset. -/
def State.pairsReset (s : State) (f : Nat) : State :=
  (List.range 256).foldl (fun s q => if s.qValid q && s.qFn q == f then s.setQp q {} else s) s

theorem State.pairsReset_spec : ∃ t, s.pairsReset f = t ∧ (∀ q, q < 256 → s.qValid q = true → s.qFn q = f → t.qp q = {}) ∧
    (∀ q, s.qFn q ≠ f → t.qp q = s.qp q) ∧ t = { s with qps := t.qps } := by
  have hstep (i : Nat) (t : State) (ht : t = { s with qps := t.qps }) (u : State)
      (hu : u = if t.qValid i && t.qFn i == f then t.setQp i {} else t) : u = { s with qps := u.qps } ∧
      (∀ q, q ≠ i ∨ s.qFn q ≠ f → u.qp q = t.qp q) ∧ (s.qValid i = true → s.qFn i = f → u.qp i = {}) := by
    have hv : t.qValid i = s.qValid i := by rw [ht]; rfl
    have hfn (q : Nat) : t.qFn q = s.qFn q := by rw [ht]; rfl
    rw [hv, hfn] at hu
    by_cases hc : (s.qValid i && s.qFn i == f) = true
    · rw [if_pos hc] at hu
      rw [Bool.and_eq_true, beq_iff_eq] at hc
      refine ⟨by rw [hu, ht]; rfl, fun q hq => ?_, fun _ _ => by rw [hu]; exact t.qp_setQp _ _⟩
      have hqi : q ≠ i := fun h => hq.elim (fun h' => h' h) (fun h' => h' (h ▸ hc.2))
      rw [hu]
      exact t.qp_setQp_other _ _ _ hqi
    · rw [if_neg hc] at hu
      refine ⟨by rw [hu]; exact ht, fun _ _ => by rw [hu], fun h1 h2 => ?_⟩
      simp [h1, h2] at hc
  refine ⟨_, rfl, fun q hq hv hf => ?_, fun q hf => ?_, ?_⟩
  · refine (iter_visit (Pre := fun t : State => t = { s with qps := t.qps })
      (Post := fun t : State => t = { s with qps := t.qps } ∧ t.qp q = {}) hq rfl (fun i t _ _ ht => (hstep i t ht _ rfl).1)
      (fun t ht => ?_) (fun i t _ hi ht => ?_)).2
    · obtain ⟨h1, -, h3⟩ := hstep q t ht _ rfl
      exact ⟨h1, h3 hv hf⟩
    · obtain ⟨h1, h2, -⟩ := hstep i t ht.1 _ rfl
      exact ⟨h1, (h2 q (.inl (Ne.symm hi))).trans ht.2⟩
  · refine (List.foldlRecOn (motive := fun t : State => t = { s with qps := t.qps } ∧ t.qp q = s.qp q) _ _ ⟨rfl, rfl⟩ fun t ht i _ => ?_).2
    obtain ⟨h1, h2, -⟩ := hstep i t ht.1 _ rfl
    exact ⟨h1, (h2 q (.inr hf)).trans ht.2⟩
  · exact List.foldlRecOn (motive := fun t : State => t = { s with qps := t.qps }) _ _ rfl fun t ht i _ => (hstep i t ht _ rfl).1

/-- Vectors of a function whose messages wait wait no more. -/
def State.vecsReset (s : State) (f : Nat) : State :=
  s.vecs.foldl (fun s v => if v.2.owner == f then s.setVec v.1 { s.vec v.1 with pending := false } else s) s

theorem State.vecsReset_shape : ∃ l, s.vecsReset f = { s with vecs := l } := by
  refine List.foldlRecOn (motive := fun t : State => ∃ l, t = { s with vecs := l }) _ _ ⟨s.vecs, rfl⟩ fun t ht v _ => ?_
  obtain ⟨l, rfl⟩ := ht
  split
  · exact ⟨_, rfl⟩
  · exact ⟨l, rfl⟩

/-- A function at the end of its reset, before that is raised and counted. -/
def State.resetOver (s : State) (f : Nat) : State :=
  let a := ((s.pairsReset f).setRg (pVFM f) R.VFM_QP_EVT 0).vecsReset f
  let b := a.setRg (pVFM f) R.VFM_RESET_TIME (w32 (min 0xFFFF (a.since (s.vf f).resetClk * 4 / 100)))
  b.setVf f { b.vf f with reset := 4, itr := [], frozen := false }

theorem State.resetDone_eq (hr : s.fnReset f = true) (h0 : s.fnReqs f = 0) (ho : ∀ o ∈ s.ops, o.fn ≠ f) :
    s.resetDone f = (((s.resetOver f).irq (pVFM f) 5).irq (pVFM 0) 5).bump (pVFM f) R.VFM_CNT_RESET := by
  have hany : s.ops.any (fun o => o.fn == f) = false := List.any_eq_false.2 fun o hm => by simpa using ho o hm
  have hif : s.resetDone f = if !s.fnReset f || s.fnReqs f ≠ 0 || s.ops.any (fun o => o.fn == f) then s
      else (((s.resetOver f).irq (pVFM f) 5).irq (pVFM 0) 5).bump (pVFM f) R.VFM_CNT_RESET := rfl
  rw [hif, if_neg (by simp [hr, h0, hany])]

theorem State.resetOver_spec : ∃ u : State, s.resetOver f = u ∧ u.vf f = { s.vf f with reset := 4, itr := [], frozen := false } ∧
    (∀ g, g ≠ f → u.vf g = s.vf g) ∧ (∀ q, q < 256 → s.qValid q = true → s.qFn q = f → u.qp q = {}) ∧
    (∀ q, s.qFn q ≠ f → u.qp q = s.qp q) ∧ u.rg (pVFM f) R.VFM_QP_EVT = 0 ∧
    u = { s with vfs := u.vfs, qps := u.qps, regs := u.regs, vecs := u.vecs } := by
  obtain ⟨a, ha, hreset, hkept, hshape⟩ := s.pairsReset_spec (f := f)
  obtain ⟨l, hl⟩ := State.vecsReset_shape (s := a.setRg (pVFM f) R.VFM_QP_EVT 0) (f := f)
  obtain ⟨b, hb, hbv, hbq, hbr, hbs⟩ : ∃ b : State, ({ a.setRg (pVFM f) R.VFM_QP_EVT 0 with vecs := l } : State).setRg (pVFM f) R.VFM_RESET_TIME
      (w32 (min 0xFFFF (({ a.setRg (pVFM f) R.VFM_QP_EVT 0 with vecs := l } : State).since (s.vf f).resetClk * 4 / 100))) = b ∧ b.vfs = a.vfs ∧ b.qps = a.qps ∧ b.rg (pVFM f) R.VFM_QP_EVT = 0 ∧
      b = { a with regs := b.regs, vecs := b.vecs } := by
    refine ⟨_, rfl, rfl, rfl, ?_, rfl⟩
    have hne : ka (pVFM f) R.VFM_QP_EVT ≠ ka (pVFM f) R.VFM_RESET_TIME := fun h => absurd (Nat.add_left_cancel h) (by decide)
    rw [State.rg_setRg_other _ _ _ _ _ _ hne]
    exact a.rg_setRg _ _ _
  have hav : a.vfs = s.vfs := by rw [hshape]
  have hbvf (g : Nat) : b.vf g = s.vf g := by rw [State.vf, hbv, hav]; rfl
  have hgo : s.resetOver f = b.setVf f { s.vf f with reset := 4, itr := [], frozen := false } := by
    rw [State.resetOver, ha, hl]
    dsimp only
    rw [hb, hbvf]
  rw [hgo]
  refine ⟨_, rfl, b.vf_setVf f _, fun g hg => (b.vf_setVf_other f g _ hg).trans (hbvf g), fun q h1 h2 h3 => ?_, fun q hq => ?_, hbr, ?_⟩
  · exact (congrArg (sget ({} : Qp) q) hbq).trans (hreset q h1 h2 h3)
  · exact (congrArg (sget ({} : Qp) q) hbq).trans (hkept q hq)
  · rw [hshape] at hbs
    generalize ({ s.vf f with reset := 4, itr := [], frozen := false } : Vf) = x
    rw [hbs]
    rfl

theorem exec_resetDone_ends (hon : s.onMain = true) (hr : s.fnReset f = true) (h0 : s.fnReqs f = 0)
    (ho : ∀ o ∈ s.ops, o.fn ≠ f) :
    ∃ t, exec (.resetDone f) s = .next t ∧ t.vf f = { s.vf f with reset := 4, itr := [], frozen := false } ∧ (∀ g, g ≠ f → t.vf g = s.vf g) ∧
      (∀ q, q < 256 → s.qValid q = true → s.qFn q = f → t.qp q = {}) ∧ (∀ q, s.qFn q ≠ f → t.qp q = s.qp q) ∧
      t.rg (pVFM f) R.VFM_QP_EVT = 0 ∧ bit (t.hd (pVFM f)).irqStatus 5 = true ∧ bit (t.hd (pVFM 0)).irqStatus 5 = true ∧
      t.cn (pVFM f) R.VFM_CNT_RESET = min (cntMax (pVFM f) R.VFM_CNT_RESET) (s.cn (pVFM f) R.VFM_CNT_RESET + 1) ∧
      ({ s with vfs := t.vfs, qps := t.qps, regs := t.regs } : State).Quiet [pVFM f, pVFM 0] t := by
  obtain ⟨t, ht, hexec⟩ := act_next (f := fun s => s.resetDone f) hon
  obtain ⟨u, hu, hvf, hvo, hqp, hqo, hrg, hshape⟩ := s.resetOver_spec (f := f)
  replace ht : t = ((u.irq (pVFM f) 5).irq (pVFM 0) 5).bump (pVFM f) R.VFM_CNT_RESET := ht.trans (by rw [State.resetDone_eq hr h0 ho, hu])
  have hq := (((State.Quiet.refl [pVFM f, pVFM 0] u).irq (p := pVFM f) (by simp) 5).irq (p := pVFM 0) (by simp) 5).bump (p := pVFM f) (by simp)
    R.VFM_CNT_RESET (by decide)
  have hb1 : bit (t.hd (pVFM f)).irqStatus 5 = true := by
    rw [ht]
    exact State.bit_bump_of_bit (State.bit_irq_of_bit (State.bit_irq _ _ (by decide)))
  have hb2 : bit (t.hd (pVFM 0)).irqStatus 5 = true := by
    rw [ht]
    exact State.bit_bump_of_bit (State.bit_irq _ _ (by decide))
  have hcn : t.cn (pVFM f) R.VFM_CNT_RESET = min (cntMax (pVFM f) R.VFM_CNT_RESET) (s.cn (pVFM f) R.VFM_CNT_RESET + 1) := by
    rw [ht, State.cn_bump, State.cn, State.irq_cnts, State.irq_cnts, hshape]
    rfl
  rw [← ht] at hq
  clear ht
  have htv (g : Nat) : t.vf g = u.vf g := by rw [State.vf, hq.vfs]; rfl
  have htq (q : Nat) : t.qp q = u.qp q := by rw [State.qp, hq.qps]; rfl
  refine ⟨_, (exec_resetDone f s).trans hexec, (htv f).trans hvf, fun g hg => (htv g).trans (hvo g hg), fun q h1 h2 h3 => (htq q).trans (hqp q h1 h2 h3),
    fun q h => (htq q).trans (hqo q h), (hq.rg _ _).trans hrg, hb1, hb2, hcn, ?_⟩
  have hrest := congrArg (fun x : State => { x with vecs := t.vecs }) hshape
  rw [← hq.vfs, ← hq.qps, ← hq.regs] at hshape
  have hq' : ({ s with vfs := t.vfs, qps := t.qps, regs := t.regs } : State).Quiet [pVFM f, pVFM 0] t := by
    refine hq.over ?_ rfl rfl (by rw [hshape]) (by rw [hshape])
    have h := hq.rest
    rw [hshape] at h
    exact h
  exact hq'.pend

end

/-! ### Commands of a pair (R228) -/

section
variable {s : State} {q : Nat}

theorem exec_qpRestart_restarts (hon : s.onMain = true) (hq : q < 256) (hu : s.qValid q = true → s.unusable (pSKD (s.qSkd q)) = false) :
    ∃ t, exec (.qpRestart q) s = .next t ∧ t.qp q = {} ∧ (∀ k, k ≠ q → t.qp k = s.qp k) ∧ t.ops = s.ops.filter (fun o => o.ring / 2 != q) ∧
      (∀ k, ∀ r ∈ (t.skd k).reqs, r.ring / 2 = q → r.orphan = true) ∧ t = { s with qps := t.qps, ops := t.ops, skds := t.skds, hdrs := t.hdrs } := by
  obtain ⟨w, hun, -, hexec⟩ := actReg_eff (p := pVFM 0) (f := fun s => s.qpRestart q) hon
  have hcond : ¬(({ s with hdrs := w } : State).qValid q && ({ s with hdrs := w } : State).unusable (pSKD (({ s with hdrs := w } : State).qSkd q))) = true := by
    rw [hun, Bool.and_eq_true]
    exact fun ⟨h1, h2⟩ => absurd (hu h1) (by rw [show s.unusable (pSKD (s.qSkd q)) = true from h2]; decide)
  obtain ⟨b, hb, hbq, hbo, hbk, hrest⟩ : ∃ b : State, b = { s with
      hdrs := w, ops := s.ops.filter (fun o => o.ring / 2 != q),
      skds := s.skds.map (fun e => (e.1, { e.2 with reqs := e.2.reqs.map (fun r => if r.ring / 2 == q then { r with orphan := true } else r) })) } ∧
      b.qps = s.qps ∧ b.ops = s.ops.filter (fun o => o.ring / 2 != q) ∧
      (∀ k, b.skd k = { s.skd k with reqs := (s.skd k).reqs.map (fun r => if r.ring / 2 == q then { r with orphan := true } else r) }) ∧
      b = { s with ops := b.ops, skds := b.skds, hdrs := b.hdrs } :=
    ⟨_, rfl, rfl, rfl, State.skd_mapSkds (fun x => { x with reqs := x.reqs.map (fun r => if r.ring / 2 == q then { r with orphan := true } else r) })
      rfl s.skds, rfl⟩
  have hgo : ({ s with hdrs := w } : State).qpRestart q = b.setQp q {} := by
    rw [State.qpRestart, if_neg (by omega), hb]
    exact if_neg hcond
  rw [hgo] at hexec
  refine ⟨_, (exec_qpRestart q s).trans hexec, b.qp_setQp q {}, fun k hk => ?_, hbo, fun k r hr hring => ?_, ?_⟩
  · exact (b.qp_setQp_other q k {} hk).trans (by rw [State.qp, hbq]; rfl)
  · replace hr := (congrArg (fun x : Skd => r ∈ x.reqs) (hbk k)).mp hr
    obtain ⟨r', -, rfl⟩ := List.mem_map.1 hr
    by_cases h : r'.ring / 2 = q
    · simp [h]
    · simp [h] at hring
  · exact congrArg (fun x : State => { x with qps := (b.setQp q {}).qps, pending := s.pending }) hrest

/-- A ring still open stops with a status other than FETCH. -/
theorem State.ringStop_open {d st : Nat} (h : ((s.qp q).stop d).isSome = false) (hst : st ≠ 0x0A) : s.ringStop q d st =
    (s.setQp q (if d = 0 then { (if (s.qp q).stopped then s.qp q else { s.qp q with stopDir := d }) with txStop := some st }
      else { (if (s.qp q).stopped then s.qp q else { s.qp q with stopDir := d }) with rxStop := some st })).irq (pVFM (s.qFn q)) 10 := by
  rw [State.ringStop, h, if_neg Bool.false_ne_true]
  dsimp only
  rw [if_neg hst]
  rfl

theorem State.Quiet.withRings {ps : List Nat} {t : State} (h : s.Quiet ps t) (l : List (Nat × Qp)) (m : List (Nat × Skd)) :
    ({ s with qps := l, skds := m } : State).Quiet ps { t with qps := l, skds := m } :=
  h.over (congrArg (fun x : State => { x with qps := l, skds := m }) h.rest) rfl rfl rfl rfl

/-- STOP of a pair neither of whose rings has stopped. -/
theorem State.ringStop_both {ps : List Nat} (hp : pVFM (s.qFn q) ∈ ps) (hn : (s.qp q).stopped = false) :
    ∃ t, (s.ringStop q 0 6).ringStop q 1 6 = t ∧ t.qp q = { s.qp q with txStop := some 6, rxStop := some 6, stopDir := 0 } ∧
      (∀ k, k ≠ q → t.qp k = s.qp k) ∧ bit (t.hd (pVFM (s.qFn q))).irqStatus 10 = true ∧ ({ s with qps := t.qps } : State).Quiet ps t := by
  obtain ⟨htx, hrx⟩ := Bool.or_eq_false_iff.1 (show ((s.qp q).txStop.isSome || (s.qp q).rxStop.isSome) = false from hn)
  obtain ⟨a, ha, haq, hao, harest⟩ : ∃ a, s.setQp q { s.qp q with txStop := some 6, stopDir := 0 } = a ∧
      a.qp q = { s.qp q with txStop := some 6, stopDir := 0 } ∧ (∀ k, k ≠ q → a.qp k = s.qp k) ∧ a = { s with qps := a.qps } :=
    ⟨_, rfl, s.qp_setQp _ _, fun k hk => s.qp_setQp_other _ _ _ hk, rfl⟩
  have hfirst : s.ringStop q 0 6 = a.irq (pVFM (s.qFn q)) 10 := by
    rw [State.ringStop_open (d := 0) htx (by decide), hn, if_neg Bool.false_ne_true, if_pos rfl, ← ha]
  have hq := (State.Quiet.refl ps a).irq hp 10
  rw [hfirst]
  generalize a.irq (pVFM (s.qFn q)) 10 = u at *
  have huq (k : Nat) : u.qp k = a.qp k := by rw [State.qp, hq.qps]; rfl
  have huf : u.qFn q = s.qFn q := by
    simp only [State.qFn, State.qw, hq.tw]
    rw [harest]
    rfl
  have hrx' : ((u.qp q).stop 1).isSome = false := by
    rw [huq, haq]
    exact hrx
  have hstop : (u.qp q).stopped = true := by
    rw [huq, haq]
    rfl
  obtain ⟨b, hb, hbq, hbo, hbrest⟩ : ∃ b, u.setQp q { s.qp q with txStop := some 6, rxStop := some 6, stopDir := 0 } = b ∧
      b.qp q = { s.qp q with txStop := some 6, rxStop := some 6, stopDir := 0 } ∧ (∀ k, k ≠ q → b.qp k = u.qp k) ∧ b = { u with qps := b.qps } :=
    ⟨_, rfl, u.qp_setQp _ _, fun k hk => u.qp_setQp_other _ _ _ hk, rfl⟩
  have hsecond : u.ringStop q 1 6 = b.irq (pVFM (s.qFn q)) 10 := by
    rw [State.ringStop_open hrx' (by decide), huf, hstop, if_pos rfl, if_neg (by decide), huq, haq, ← hb]
  have hqb : ({ s with qps := b.qps } : State).Quiet ps b := by
    have h := hq.withRings b.qps a.skds
    rw [show ({ u with qps := b.qps, skds := a.skds } : State) = b by rw [← hq.skds]; exact hbrest.symm] at h
    rwa [show ({ a with qps := b.qps, skds := a.skds } : State) = { s with qps := b.qps } by rw [harest]] at h
  have hqt := hqb.irq hp 10
  have hbit := b.bit_irq (pVFM (s.qFn q)) (i := 10) (by decide)
  rw [hsecond]
  generalize b.irq (pVFM (s.qFn q)) 10 = t at *
  have htq (k : Nat) : t.qp k = b.qp k := by rw [State.qp, hqt.qps]; rfl
  refine ⟨t, rfl, (htq q).trans hbq, fun k hk => (htq k).trans ((hbo k hk).trans ((huq k).trans (hao k hk))), hbit, ?_⟩
  rw [hqt.qps]
  exact hqt

theorem exec_qpStop_stops (hon : s.onMain = true) (hq : q < 256) (hv : s.qValid q = true) (ho : s.ops = []) (hn : (s.qp q).stopped = false) :
    ∃ t, exec (.qpStop q) s = .next t ∧ t.qp q = { s.qp q with txStop := some 6, rxStop := some 6, stopDir := 0 } ∧
      (∀ k, k ≠ q → t.qp k = s.qp k) ∧ bit (t.hd (pVFM (s.qFn q))).irqStatus 10 = true ∧ (∀ k, (t.skd k).reqs = (s.skd k).reqs) ∧
      ({ s with qps := t.qps, skds := t.skds } : State).Quiet [pVFM (s.qFn q), pVFM 0] t := by
  obtain ⟨w, hun, hqw, hexec⟩ := actReg_eff (p := pVFM 0) (f := fun s => s.qpStop q) hon
  obtain ⟨l, hl, hreqs⟩ := State.cutFn_idle (s := { s with hdrs := w }) ho (fun o => o.ring / 2 == q)
  have hgo : ({ s with hdrs := w } : State).qpStop q = (({ s with hdrs := w, skds := l } : State).ringStop q 0 6).ringStop q 1 6 := by
    rw [State.qpStop, if_neg, hl]
    rw [show ({ s with hdrs := w } : State).qValid q = true from hv]
    simp
    omega
  obtain ⟨t, ht, htq, hto, hbit, hqt⟩ := State.ringStop_both (s := { s with hdrs := w, skds := l }) (ps := [pVFM (s.qFn q), pVFM 0])
    (List.mem_cons_self) hn
  rw [hgo, ht] at hexec
  have hsk : t.skds = l := hqt.skds
  refine ⟨_, (exec_qpStop q s).trans hexec, htq, hto, hbit, fun k => ?_, ?_⟩
  · show (sget ({} : Skd) k t.skds).reqs = _
    rw [hsk]
    exact hreqs k
  · have h := ((hqw.mono (qs := [pVFM (s.qFn q), pVFM 0]) (by simp)).withRings t.qps l).trans hqt
    rw [← hsk] at h
    exact h.pend

end

/-! ### The dirty log (R243) -/

section
variable {s : State} {f : Nat}

/-- The writes of a function that a skidder holds were issued before the swap. -/
def Swapped (f : Nat) (x : Skd) : Prop := ∀ r ∈ x.reqs, r.fn = f → r.wr = true → r.old = true

theorem exec_swapLog_swaps (hon : s.onMain = true) (hf : 0 < f) (ha : s.absent (pVFM f) = false) (hb : (s.vf f).swapBusy = false) :
    ∃ t, exec (.swapLog f) s = .next t ∧ t.vf f = { s.vf f with bitmap := !(s.vf f).bitmap, swapBusy := true } ∧
      (∀ g, g ≠ f → t.vf g = s.vf g) ∧ (∀ k, ∀ r ∈ (t.skd k).reqs, r.fn = f → r.wr = true → r.old = true) ∧
      t = { s with vfs := t.vfs, skds := t.skds, hdrs := t.hdrs } := by
  obtain ⟨w, -, -, hexec⟩ := actReg_eff (p := pVFM f) (f := fun s => s.swapLog f) hon
  obtain ⟨u, hu, huf, huo, hushape⟩ : ∃ u, u = ({ s with hdrs := w } : State).setVf f { s.vf f with bitmap := !(s.vf f).bitmap, swapBusy := true } ∧
      u.vf f = { s.vf f with bitmap := !(s.vf f).bitmap, swapBusy := true } ∧ (∀ g, g ≠ f → u.vf g = s.vf g) ∧
      u = { s with vfs := u.vfs, hdrs := u.hdrs } :=
    ⟨_, rfl, State.vf_setVf { s with hdrs := w } f _, fun g hg => State.vf_setVf_other { s with hdrs := w } f g _ hg, rfl⟩
  have hgo : ({ s with hdrs := w } : State).swapLog f = u.skds.foldl (fun s e => s.setSkd e.1 { s.skd e.1 with
      reqs := (s.skd e.1).reqs.map (fun r => if r.fn == f && r.wr then { r with old := true } else r) }) u := by
    rw [State.swapLog, if_neg (by omega), show State.absent { s with hdrs := w } (pVFM f) = false from ha, if_neg Bool.false_ne_true,
      show (State.vf { s with hdrs := w } f).swapBusy = false from hb, if_neg Bool.false_ne_true, hu]
    rfl
  have hsw (k : Nat) : Swapped f ((u.skds.foldl (fun s e => s.setSkd e.1 { s.skd e.1 with
      reqs := (s.skd e.1).reqs.map (fun r => if r.fn == f && r.wr then { r with old := true } else r) }) u).skd k) := by
    refine State.foldl_skds (fun v e => ?_) (fun v e k hk => v.skd_setSkd_other _ _ _ hk) (fun r hr => absurd hr List.not_mem_nil) k
    rw [v.skd_setSkd]
    intro r hr h1 h2
    obtain ⟨r', -, rfl⟩ := List.mem_map.1 hr
    by_cases h : (r'.fn == f && r'.wr) = true
    · rw [if_pos h]
    · rw [if_neg h] at h1 h2
      simp [h1, h2] at h
  obtain ⟨l, hl⟩ : ∃ l, u.skds.foldl (fun s e => s.setSkd e.1 { s.skd e.1 with
      reqs := (s.skd e.1).reqs.map (fun r => if r.fn == f && r.wr then { r with old := true } else r) }) u = { u with skds := l } := by
    refine List.foldlRecOn (motive := fun t : State => ∃ l, t = { u with skds := l }) _ _ ⟨u.skds, rfl⟩ fun t ht e _ => ?_
    obtain ⟨l, rfl⟩ := ht
    exact ⟨_, rfl⟩
  rw [hl] at hgo hsw
  rw [hgo] at hexec
  exact ⟨_, (exec_swapLog f s).trans hexec, huf, huo, hsw, congrArg (fun x : State => { x with skds := l, pending := s.pending }) hushape⟩

theorem exec_swapLog_busy (hon : s.onMain = true) (hf : 0 < f ∧ f < 64) (ha : s.absent (pVFM f) = false) (hb : (s.vf f).swapBusy = true) :
    ∃ t, exec (.swapLog f) s = .next t ∧ (t.hd (pVFM f)).errCode = w32 (R.VFM_VF_CMD * 256 + 0x44) ∧ s.Quiet [pVFM f] t := by
  have hhead : headPage (pVFM f) = pVFM f := (show ∀ f < 64, headPage (pVFM f) = pVFM f by decide) f hf.2
  rw [exec_swapLog]
  refine actReg_refuses hon hhead ?_
  obtain ⟨w, hw⟩ := s.touch_eq (pVFM f)
  rw [hw]
  rw [State.swapLog, if_neg (by omega), show State.absent { s with hdrs := w } (pVFM f) = false from ha, if_neg Bool.false_ne_true]
  exact if_pos hb

theorem exec_swapLogDone_ends (hon : s.onMain = true) (hb : (s.vf f).swapBusy = true) (h : ∀ e ∈ s.skds, ∀ r ∈ e.2.reqs, r.fn = f → r.old = false) :
    ∃ t, exec (.swapLogDone f) s = .next t ∧ t.vf f = { s.vf f with swapBusy := false } ∧ (∀ g, g ≠ f → t.vf g = s.vf g) ∧
      t = { s with vfs := t.vfs } := by
  obtain ⟨t, ht, hexec⟩ := act_next (f := fun s => s.swapDone f) hon
  have hany : s.skds.any (fun e => e.2.reqs.any (fun r => r.fn == f && r.old)) = false :=
    List.any_eq_false.2 fun e he => by
      rw [Bool.not_eq_true]
      exact List.any_eq_false.2 fun r hr => by
        simp only [Bool.and_eq_true, beq_iff_eq, not_and, Bool.not_eq_true]
        exact h e he r hr
  have hgo : s.swapDone f = s.setVf f { s.vf f with swapBusy := false } := if_pos (by rw [hb, hany]; rfl)
  rw [ht.trans hgo] at hexec
  exact ⟨_, (exec_swapLogDone f s).trans hexec, s.vf_setVf f _, fun g hg => s.vf_setVf_other f g _ hg, rfl⟩

theorem exec_swapLogDone_waits {e : Nat × Skd} {r : Req} (he : e ∈ s.skds) (hr : r ∈ e.2.reqs) (hf : r.fn = f) (ho : r.old = true) :
    exec (.swapLogDone f) s = .next s := by
  rw [exec_swapLogDone]
  refine act_same (if_neg ?_)
  have hany : s.skds.any (fun e => e.2.reqs.any (fun r => r.fn == f && r.old)) = true :=
    List.any_eq_true.2 ⟨e, he, List.any_eq_true.2 ⟨r, hr, by simp [hf, ho]⟩⟩
  rw [hany]
  simp

end

/-- Settles O38: resets of functions and pairs, and the swap of the dirty log. -/
theorem resetsAndDirtyLogs : Obligations.ResetsAndDirtyLogs := by
  unfold Obligations.ResetsAndDirtyLogs
  refine ⟨fun f s hon h0 hlt => ⟨fun ha hk hv => ⟨fun ho => exec_resetDrain_starts hon ⟨h0, hlt⟩ ha hk hv ho,
    exec_resetSquash_starts hon ⟨h0, hlt⟩ ha hk hv⟩, fun ha hk hv => exec_resetSquash_waits hon ⟨h0, hlt⟩ ha hk hv, fun h1 h3 => ?_,
    fun q hq => ⟨fun hu => exec_qpRestart_restarts hon hq hu, fun hv ho hn => exec_qpStop_stops hon hq hv ho hn⟩⟩,
    fun f s hon h0 hlt => ⟨fun ha hb => ?_, fun ha hb => exec_swapLog_busy hon ⟨h0, hlt⟩ ha hb, fun hb h => exec_swapLogDone_ends hon hb h,
      fun e r he hr hf ho => exec_swapLogDone_waits he hr hf ho⟩⟩
  · have hr : s.fnReset f = true := by simp [State.fnReset, h1, h3]
    refine ⟨fun hc => ?_, exec_resetTagTimeout_early, fun h0 ho => exec_resetDone_ends hon hr h0 ho, exec_resetDone_waits⟩
    obtain ⟨t, hexec, hops, hreqs, hvfs, hqps, hmem⟩ := exec_resetTagTimeout_retires hon hr hc
    exact ⟨t, hexec, hops, fun e _ => hreqs e.1, hvfs, hqps, hmem⟩
  · obtain ⟨t, hexec, hvf, hvo, hreqs, hrest⟩ := exec_swapLog_swaps hon h0 ha hb
    exact ⟨t, hexec, hvf, hvo, fun e _ => hreqs e.1, hrest⟩

end Sys2Proof.Machine
end

section
/-!
PROOFS. The GOOSE subscriber with one subscription, unauthenticated, in a module alone (R211 to R214).
-/
namespace Sys2Proof.Machine
open Sys2Proof

/-! ### What the subscriber makes of a frame (R211, R212) -/

section
variable {s : State} {n : Nat} {g : GSub} {x : QEntry} {rest : List QEntry} {p : GoosePdu}

/-- A frame that matches the only subscription and passes its tests. -/
def State.Matches (s : State) (n : Nat) (g : GSub) (x : QEntry) (p : GoosePdu) : Prop :=
  (s.cyc.gsubs = [(n, g)] ∧ g.state ≠ 0 ∧ fld (s.gw n 0) 0 16 = x.frame.appid ∧ gocbRef (s.gsubWords n) = p.gocbRef ∧ bit (s.gw n 0) 30 = false) ∧
    s.gooseOk n p = true ∧ fld (s.gw n 4) 21 2 = 0

theorem State.Matches.found (h : s.Matches n g x p) : s.cyc.gsubs.find? (fun e => e.2.state != 0 && fld (s.gw e.1 0) 0 16 == x.frame.appid &&
    gocbRef (s.gsubWords e.1) == p.gocbRef && (!bit (s.gw e.1 0) 30 || gSa (s.gsubWords e.1) == x.frame.sa)) = some (n, g) := by
  obtain ⟨⟨hg, h0, happ, href, hsa⟩, -⟩ := h
  rw [hg, List.find?_cons_of_pos]
  simp [h0, happ, href, hsa]

theorem State.Matches.authentic (h : s.Matches n g x p) : s.gooseAuth n p = (true, s) := by
  rw [State.gooseAuth]
  exact if_pos h.2.2

/-- The entry once the frame is counted. -/
def GSub.counted (g : GSub) : GSub := { g with frames := min 0xFFFFFFFF (g.frames + 1) }

/-- The entry as the frame's numbers renew it. -/
def GSub.renewed (g : GSub) (stamp : Nat) (p : GoosePdu) (ms : List (Nat × Nat)) : GSub :=
  { g.counted with
    state := 2, stNum := p.stNum, sqNum := p.sqNum, stamp := stamp, deadline := (stamp + p.tal * 1000000) % 2 ^ 32, members := ms }

theorem State.gooseRx_new (h : s.Matches n g x p) (hd : s.dupEn = false) (h1 : g.state = 1) : s.gooseRx x.frame x.stamp x.frac p =
    (true, (({ s.setGsub n (g.renewed x.stamp p p.members) with
      acqGoose := s.acqGoose ++ [(n, g.members, p.members, s.extend x.stamp * 16 + x.frac)] } : State).stageMembers n
        (tickOfNs (s.extend x.stamp)) x.stamp p.members).sendGooseVec) := by
  rw [State.gooseRx, h.found]
  dsimp only
  rw [h.2.1, h.authentic, Bool.not_true, if_neg Bool.false_ne_true, if_neg Bool.false_ne_true]
  simp only [h1, decide_true, Bool.true_or, Bool.not_true, Bool.false_and, Bool.false_eq_true, if_false, if_true, State.gooseNew]
  rw [show State.dupEn { s.setGsub n _ with acqGoose := _ } = false from hd, if_neg Bool.false_ne_true]
  rfl

theorem State.gooseRx_repeat (h : s.Matches n g x p) (h2 : g.state = 2) (hst : g.stNum = p.stNum) (hsq : g.sqNum < p.sqNum) :
    s.gooseRx x.frame x.stamp x.frac p = (true, s.setGsub n (g.renewed x.stamp p g.members)) := by
  rw [State.gooseRx, h.found]
  dsimp only
  rw [h.2.1, h.authentic, Bool.not_true, if_neg Bool.false_ne_true, if_neg Bool.false_ne_true]
  simp only [h2, hst, hsq, bne_self_eq_false, decide_true, Bool.not_true, Bool.not_false, Bool.and_true, Bool.and_false,
    Bool.false_eq_true, if_false, Nat.reduceEqDiff, decide_false, Bool.or_self]
  rfl

theorem State.gooseRx_old (h : s.Matches n g x p) (h2 : g.state = 2) (hst : g.stNum = p.stNum) (hsq : p.sqNum ≤ g.sqNum) :
    s.gooseRx x.frame x.stamp x.frac p =
      (true, (s.setGsub n { g.counted with dup := min 0xFFFFFFFF (g.dup + 1) }).bump (pCYC 0) R.CYC_CNT_GOOSE_DUP) := by
  rw [State.gooseRx, h.found]
  dsimp only
  rw [h.2.1, h.authentic, Bool.not_true, if_neg Bool.false_ne_true, if_neg Bool.false_ne_true]
  have hfresh : (decide (g.state = 1) || p.stNum != g.stNum) = false := by rw [h2, hst]; simp
  rw [hfresh, decide_eq_false (Nat.not_lt.2 hsq), if_pos (by rfl)]
  rfl

/-- The oldest frame at H1 is offered to the subscriber. -/
theorem State.h1Goose_offers {r : State} (hon : s.cycOn = true) (h : s.swc.h1rx = x :: rest) (ho : x.oversize = false)
    (hb : x.frame.body = .goose p) (hr : (s.h1Taken rest).gooseRx x.frame x.stamp x.frac p = (true, r)) : s.h1Goose = r := by
  have hgo : s.h1Goose = s.h1Deliver := by
    rw [State.h1Goose, h]
    dsimp only
    rw [hb]
  rw [hgo, State.h1Deliver, h]
  dsimp only
  rw [ho, if_neg Bool.false_ne_true, hb]
  dsimp only
  rw [show State.cycOn (s.updSwc fun c => { c with h1rx := rest }) = true from hon, if_pos rfl,
    show State.gooseRx (s.updSwc fun c => { c with h1rx := rest }) x.frame x.stamp x.frac p = (true, r) from hr]
  rfl

end

section
variable {s : State} {n : Nat} {g : GSub} {x : QEntry} {rest : List QEntry} {p : GoosePdu}

/-- The frame at the head of those delivered to H1 is a GOOSE frame for the subscriber. -/
def State.Offered (s : State) (x : QEntry) (rest : List QEntry) (p : GoosePdu) : Prop :=
  s.cycOn = true ∧ s.swc.h1rx = x :: rest ∧ x.oversize = false ∧ x.frame.body = .goose p

theorem exec_gooseRx_offers {r : State} (hon : s.onMain = true) (h : s.Offered x rest p)
    (hr : (s.h1Taken rest).gooseRx x.frame x.stamp x.frac p = (true, r)) : exec .gooseRx s = .next { r with pending := s.pending } := by
  obtain ⟨u, hu, hexec⟩ := act_next (f := State.h1Goose) hon
  obtain ⟨hc, h1, ho, hb⟩ := h
  rw [hu.trans (State.h1Goose_offers hc h1 ho hb hr)] at hexec
  exact (exec_gooseRx s).trans hexec

theorem exec_gooseRx_new (hon : s.onMain = true) (ho : s.Offered x rest p) (h : s.Matches n g x p) (hd : s.dupEn = false) (h1 : g.state = 1) :
    ∃ t, exec .gooseRx s = .next t ∧
      t.gsub n = { g with
        state := 2, stNum := p.stNum, sqNum := p.sqNum, stamp := x.stamp, deadline := (x.stamp + p.tal * 1000000) % 2 ^ 32
        members := p.members, frames := min 0xFFFFFFFF (g.frames + 1) } ∧
      t.cyc.gooseStage = (s.stageMembers n (tickOfNs (s.extend x.stamp)) x.stamp p.members).cyc.gooseStage ∧
      t.hwsIn = s.hwsIn ++ [(0, t.gooseVector.1, t.gooseVector.2)] ∧
      t = { s with
        swc := { s.swc with h1rx := rest }, cyc := { s.cyc with gsubs := t.cyc.gsubs, gooseStage := t.cyc.gooseStage }
        hwsIn := t.hwsIn, acqGoose := t.acqGoose } := by
  have hr := State.gooseRx_new (s := s.h1Taken rest) h hd h1
  obtain ⟨a, ha, hag, hast, hah, harest⟩ : ∃ a, (({ (s.h1Taken rest).setGsub n (g.renewed x.stamp p p.members) with
      acqGoose := s.acqGoose ++ [(n, g.members, p.members, s.extend x.stamp * 16 + x.frac)] } : State).stageMembers n
        (tickOfNs (s.extend x.stamp)) x.stamp p.members).sendGooseVec = a ∧ a.gsub n = g.renewed x.stamp p p.members ∧
      a.cyc.gooseStage = (s.stageMembers n (tickOfNs (s.extend x.stamp)) x.stamp p.members).cyc.gooseStage ∧
      a.hwsIn = s.hwsIn ++ [(0, a.gooseVector.1, a.gooseVector.2)] ∧ a = { s with
        swc := { s.swc with h1rx := rest }, cyc := { s.cyc with gsubs := a.cyc.gsubs, gooseStage := a.cyc.gooseStage }
        hwsIn := a.hwsIn, acqGoose := a.acqGoose } :=
    ⟨_, rfl, sget_sset_same ({} : GSub) n (g.renewed x.stamp p p.members) s.cyc.gsubs, rfl, rfl, rfl⟩
  replace hr : (s.h1Taken rest).gooseRx x.frame x.stamp x.frac p = (true, a) := hr.trans (congrArg (Prod.mk true) ha)
  exact ⟨_, exec_gooseRx_offers hon ho hr, hag, hast, hah, congrArg (fun x : State => { x with pending := s.pending }) harest⟩

theorem exec_gooseRx_repeat (hon : s.onMain = true) (ho : s.Offered x rest p) (h : s.Matches n g x p) (h2 : g.state = 2)
    (hst : g.stNum = p.stNum) (hsq : g.sqNum < p.sqNum) :
    ∃ t, exec .gooseRx s = .next t ∧
      t.gsub n = { g with
        sqNum := p.sqNum, stamp := x.stamp, deadline := (x.stamp + p.tal * 1000000) % 2 ^ 32, frames := min 0xFFFFFFFF (g.frames + 1) } ∧
      t = { s with swc := { s.swc with h1rx := rest }, cyc := { s.cyc with gsubs := t.cyc.gsubs } } := by
  have hr := State.gooseRx_repeat (s := s.h1Taken rest) h h2 hst hsq
  refine ⟨_, exec_gooseRx_offers hon ho hr, (State.gsub_setGsub _ n _).trans ?_, rfl⟩
  rw [GSub.renewed, GSub.counted, ← h2, ← hst]

theorem exec_gooseRx_old (hon : s.onMain = true) (ho : s.Offered x rest p) (h : s.Matches n g x p) (h2 : g.state = 2)
    (hst : g.stNum = p.stNum) (hsq : p.sqNum ≤ g.sqNum) :
    ∃ t, exec .gooseRx s = .next t ∧
      t.gsub n = { g with frames := min 0xFFFFFFFF (g.frames + 1), dup := min 0xFFFFFFFF (g.dup + 1) } ∧
      t.cn (pCYC 0) R.CYC_CNT_GOOSE_DUP = min (cntMax (pCYC 0) R.CYC_CNT_GOOSE_DUP) (s.cn (pCYC 0) R.CYC_CNT_GOOSE_DUP + 1) ∧
      ({ s with swc := { s.swc with h1rx := rest }, cyc := { s.cyc with gsubs := t.cyc.gsubs } } : State).Quiet [pCYC 0] t := by
  have hr := State.gooseRx_old (s := s.h1Taken rest) h h2 hst hsq
  obtain ⟨a, ha, hag, hac, hap, harest⟩ : ∃ a, (s.h1Taken rest).setGsub n { g.counted with dup := min 0xFFFFFFFF (g.dup + 1) } = a ∧
      a.gsub n = { g with frames := min 0xFFFFFFFF (g.frames + 1), dup := min 0xFFFFFFFF (g.dup + 1) } ∧
      (∀ p o, a.cn p o = s.cn p o) ∧ a.pending = s.pending ∧ { s with swc := { s.swc with h1rx := rest }, cyc := { s.cyc with gsubs := a.cyc.gsubs } } = a :=
    ⟨_, rfl, State.gsub_setGsub _ n _, fun _ _ => rfl, rfl, rfl⟩
  rw [ha] at hr
  have hexec := exec_gooseRx_offers hon ho hr
  have hq := (State.Quiet.refl [pCYC 0] a).bump (p := pCYC 0) (by simp) R.CYC_CNT_GOOSE_DUP (by decide)
  have hcn := a.cn_bump (pCYC 0) R.CYC_CNT_GOOSE_DUP
  generalize a.bump (pCYC 0) R.CYC_CNT_GOOSE_DUP = t at *
  refine ⟨_, hexec, ?_, hcn.trans (by rw [hac]), ?_⟩
  · show sget {} n t.cyc.gsubs = _
    rw [hq.cyc]
    exact hag
  · have hs : ({ s with swc := { s.swc with h1rx := rest }, cyc := { s.cyc with gsubs := t.cyc.gsubs } } : State) = a := by rw [hq.cyc, harest]
    show State.Quiet [pCYC 0] { s with swc := { s.swc with h1rx := rest }, cyc := { s.cyc with gsubs := t.cyc.gsubs } }
      { t with pending := s.pending }
    rw [hs, ← hap]
    exact hq.pend

end

/-! ### Expiry (R212) -/

section
variable {s : State} {n : Nat} {g : GSub}

/-- The subscriber's deadline has passed at the boundary just gone. -/
def State.Overdue (s : State) (g : GSub) : Prop := diff32 g.deadline (shortOf s.cyc.boundNs) < 0

theorem exec_gooseExpired_expires (hon : s.onMain = true) (hg : s.gsub n = g) (h2 : g.state = 2) (hp : s.dup.paired = false)
    (hc : s.cyc.cyc ≠ none) (h : s.Overdue g) :
    ∃ t, exec (.gooseExpired n) s = .next t ∧
      t.gsub n = { g with state := 3, expired := min 0xFFFFFFFF (g.expired + 1) } ∧
      t.cyc.gooseStage = s.cyc.gooseStage ++ (List.range (gMembers (s.gw n 0))).map
        (fun m => (s.cycNow, fld (s.gw n 5) 0 20 + m, none, 2 ^ 20, 0)) ∧
      t.cn (pCYC 0) R.CYC_CNT_GOOSE_EXPIRED =
        min (cntMax (pCYC 0) R.CYC_CNT_GOOSE_EXPIRED) (s.cn (pCYC 0) R.CYC_CNT_GOOSE_EXPIRED + 1) ∧
      bit (t.hd (pCYC 0)).irqStatus 10 = true ∧ t.hwsIn = s.hwsIn ++ [(0, t.gooseVector.1, t.gooseVector.2)] ∧
      ({ s with cyc := { s.cyc with gsubs := t.cyc.gsubs, gooseStage := t.cyc.gooseStage }, hwsIn := t.hwsIn } : State).Quiet [pCYC 0] t := by
  obtain ⟨u, hu, hexec⟩ := act_next (f := fun s => s.gooseDeadline n) hon
  have hdue : s.gooseDeadline n = s.gooseExpire n s.cycNow := by
    refine if_pos ?_
    rw [hg, h2, hp, Option.isSome_iff_ne_none.2 hc, decide_eq_true (show diff32 g.deadline (shortOf s.cyc.boundNs) < 0 from h)]
    rfl
  obtain ⟨a, ha, hag, hast, hac, hah, harest⟩ : ∃ a : State, ((s.setGsub n { g with state := 3, expired := min 0xFFFFFFFF (g.expired + 1) }).updCyc
        fun c => { c with gooseStage := c.gooseStage ++
          (List.range (gMembers (s.gw n 0))).map (fun m => (s.cycNow, fld (s.gw n 5) 0 20 + m, none, 2 ^ 20, 0)) }) = a ∧
      a.gsub n = { g with state := 3, expired := min 0xFFFFFFFF (g.expired + 1) } ∧
      a.cyc.gooseStage = s.cyc.gooseStage ++ (List.range (gMembers (s.gw n 0))).map
        (fun m => (s.cycNow, fld (s.gw n 5) 0 20 + m, none, 2 ^ 20, 0)) ∧
      (∀ p o, a.cn p o = s.cn p o) ∧ a.hwsIn = s.hwsIn ∧
      a = { s with cyc := { s.cyc with gsubs := a.cyc.gsubs, gooseStage := a.cyc.gooseStage } } :=
    ⟨_, rfl, sget_sset_same ({} : GSub) n { g with state := 3, expired := min 0xFFFFFFFF (g.expired + 1) } s.cyc.gsubs, rfl, fun _ _ => rfl, rfl,
      rfl⟩
  have hgo : s.gooseExpire n s.cycNow = ((a.bump (pCYC 0) R.CYC_CNT_GOOSE_EXPIRED).irq (pCYC 0) 10).sendGooseVec := by
    rw [State.gooseExpire, hg, ← ha]
    rfl
  replace hu := hu.trans (hdue.trans hgo)
  obtain ⟨hq, hb, hcn⟩ := a.bump_irq_spec (pCYC 0) (o := R.CYC_CNT_GOOSE_EXPIRED) (i := 10) (by decide) (by decide)
  generalize (a.bump (pCYC 0) R.CYC_CNT_GOOSE_EXPIRED).irq (pCYC 0) 10 = v at *
  obtain ⟨w, hw⟩ : ∃ w, w = v.hwsIn ++ [(0, v.gooseVector.1, v.gooseVector.2)] := ⟨_, rfl⟩
  rw [show v.sendGooseVec = { v with hwsIn := w } by rw [hw]; rfl] at hu
  have hvh : v.hwsIn = s.hwsIn := hq.hwsIn.trans hah
  rw [hu] at hexec
  have hq' : ({ a with hwsIn := w } : State).Quiet [pCYC 0] { v with hwsIn := w } :=
    hq.over (congrArg (fun x : State => { x with hwsIn := w }) hq.rest) rfl rfl rfl rfl
  refine ⟨_, (exec_gooseExpired n s).trans hexec, ?_, ?_, hcn.trans (by rw [hac]), hb, hw.trans (by rw [hvh]; rfl), ?_⟩
  · show sget {} n v.cyc.gsubs = _
    rw [hq.cyc]
    exact hag
  · exact (congrArg Cyc.gooseStage hq.cyc).trans hast
  · have hs : ({ s with cyc := { s.cyc with gsubs := v.cyc.gsubs, gooseStage := v.cyc.gooseStage }, hwsIn := w } : State) =
        { a with hwsIn := w } := by
      rw [hq.cyc]
      exact (congrArg (fun x : State => { x with hwsIn := w }) harest).symm
    show State.Quiet [pCYC 0] { s with cyc := { s.cyc with gsubs := v.cyc.gsubs, gooseStage := v.cyc.gooseStage }, hwsIn := w }
      { v with hwsIn := w, pending := s.pending }
    rw [hs]
    have hp : s.pending = ({ a with hwsIn := w } : State).pending := by rw [harest]
    rw [hp]
    exact hq'.pend

theorem exec_gooseExpired_waits (hg : s.gsub n = g) (h : ¬s.Overdue g) : exec (.gooseExpired n) s = .next s := by
  rw [exec_gooseExpired]
  refine act_same (if_neg ?_)
  rw [hg, decide_eq_false (show ¬diff32 g.deadline (shortOf s.cyc.boundNs) < 0 from h)]
  simp

end

/-- Settles O35: a subscription enters RUN, is renewed, refuses an older number, and expires. -/
theorem gooseSubscriber : Obligations.GooseSubscriber := by
  unfold Obligations.GooseSubscriber
  intro n g s hon hg
  have hgsub : s.gsub n = g := by rw [State.gsub, hg]; simp [sget]
  refine ⟨fun x rest p hc hd h1 ho hb happ href hsa hok hau => ?_, fun h2 hp hcyc =>
    ⟨fun h => exec_gooseExpired_expires hon hgsub h2 hp hcyc h, fun h => exec_gooseExpired_waits hgsub (not_lt.2 h)⟩⟩
  have hoff : s.Offered x rest p := ⟨hc, h1, ho, hb⟩
  have hm (h0 : g.state ≠ 0) : s.Matches n g x p := ⟨⟨hg, h0, happ, href, hsa⟩, hok, hau⟩
  exact ⟨fun hs => exec_gooseRx_new hon hoff (hm (by omega)) hd hs, fun hs hst hsq => exec_gooseRx_repeat hon hoff (hm (by omega)) hs hst hsq,
    fun hs hst hsq => exec_gooseRx_old hon hoff (hm (by omega)) hs hst hsq⟩

end Sys2Proof.Machine
end

section
/-!
PROOFS. Moving an instance (R244 to R246): the statement fails on a state whose skidder store is not in its canonical form.
-/
namespace Sys2Proof.Machine
open Sys2Proof

/-- A source at the end of its last activation of cycle S - 1, of a module whose skidder store lists skidder 0 twice: what reads as skidder 0
holds a credit and nothing else, and a request of the source stands in the entry behind it. -/
def sourceTwice : State :=
  {
    hdrs := [(pCYC 0, { enable := true })], acts := [(ka (pVFM 1) R.VFM_MIG_CFG, 1)]
    vfs := [(1, { mig := { state := 1, tick := 1 } })], cyc := { cyc := some 0, viewed := true }
    skds := [(0, { credit := [(1, 1)] }), (0, { reqs := [{ fn := 1, ring := 0, desc := 0, wr := false, addr := 0, off := 0, len := 8 }] })] }

/-- The freeze takes the spent credit, and with it both entries: no request is left, and without a key the move is aborted at once. -/
theorem state_migFreeze_sourceTwice : ((sourceTwice.migFreeze 1).mig 1).state = 9 := by decide +kernel

theorem exec_migFreeze_mig {s t : State} {f : Nat} (hon : s.onMain = true) (h : exec (.migFreeze f) s = .next t) :
    t.mig f = (s.migFreeze f).mig f := by
  obtain ⟨u, rfl, hrun⟩ := act_next (f := fun s => s.migFreeze f) hon
  rw [Host.Outcome.next.inj (h.symm.trans ((exec_migFreeze f s).trans hrun))]
  rfl

/-- Refutes O39: MIG_FREEZE of a source with a request in flight need not end in FROZEN, for nothing the statement assumes keeps the skidder
store canonical (each skidder listed once); in `sourceTwice` the request goes with the credit of skidder 0 and the move is ABORTED. -/
theorem not_instanceMoves : ¬ Obligations.InstanceMoves := by
  unfold Obligations.InstanceMoves
  intro h
  have hon : sourceTwice.onMain = true := by decide
  obtain ⟨-, -, hfreeze, -⟩ := h 1 sourceTwice hon (by decide) (by decide)
  obtain ⟨t, hexec, hstate, -⟩ := hfreeze (by decide) (by decide) (by decide) (by decide) rfl (.inl (by decide)) (by decide) rfl
  rw [exec_migFreeze_mig hon hexec, state_migFreeze_sourceTwice] at hstate
  omega

end Sys2Proof.Machine
end

section
/-!
PROOFS. Converters: the scan, urgent conversions and the data register, calibration and shunts (R166 to R180).
-/
namespace Sys2Proof.Machine
open Sys2Proof

/-! ### What changes one converter -/

/-- Nothing has changed but converter `c`, and what it counts and raises. -/
def State.AdcOnly (c : Nat) (s t : State) : Prop :=
  ({ s with adcs := t.adcs } : State).Quiet [pADC c] t ∧ ∀ j, j ≠ c → t.adc j = s.adc j

section
variable {s t u : State} {c : Nat}

theorem State.AdcOnly.refl (c : Nat) (s : State) : State.AdcOnly c s s := ⟨State.Quiet.refl _ s, fun _ _ => rfl⟩

theorem State.AdcOnly.setAdc (h : State.AdcOnly c s t) (x : Adc) : State.AdcOnly c s (t.setAdc c x) := by
  obtain ⟨hq, hj⟩ := h
  refine ⟨?_, fun j hne => (t.adc_setAdc_other c j x hne).trans (hj j hne)⟩
  exact hq.over (congrArg (fun y : State => { y with adcs := (t.setAdc c x).adcs }) hq.rest) rfl rfl rfl rfl

theorem State.AdcOnly.quiet (h : State.AdcOnly c s t) (hq : t.Quiet [pADC c] u) : State.AdcOnly c s u := by
  obtain ⟨h1, h2⟩ := h
  refine ⟨?_, fun j hne => ?_⟩
  · rw [hq.adcs]
    exact h1.trans hq
  · rw [State.adc, hq.adcs]
    exact h2 j hne

theorem State.AdcOnly.trans (h : State.AdcOnly c s t) (h' : State.AdcOnly c t u) : State.AdcOnly c s u := by
  obtain ⟨h1, h2⟩ := h
  obtain ⟨h3, h4⟩ := h'
  have hq : ({ s with adcs := u.adcs } : State).Quiet [pADC c] { t with adcs := u.adcs } :=
    h1.over (congrArg (fun y : State => { y with adcs := u.adcs }) h1.rest) rfl rfl rfl rfl
  exact ⟨hq.trans h3, fun j hj => (h4 j hj).trans (h2 j hj)⟩

theorem State.AdcOnly.irq (h : State.AdcOnly c s t) (i : Nat) : State.AdcOnly c s (t.irq (pADC c) i) :=
  h.quiet ((State.Quiet.refl _ t).irq (List.mem_singleton_self _) i)

theorem State.AdcOnly.bump (h : State.AdcOnly c s t) {o : Nat} (ho : o < 4096) : State.AdcOnly c s (t.bump (pADC c) o) :=
  h.quiet ((State.Quiet.refl _ t).bump (List.mem_singleton_self _) o ho)

theorem State.adc_irq (s : State) (c p i : Nat) : (s.irq p i).adc c = s.adc c := by rw [State.adc, State.irq_adcs]; rfl
theorem State.adc_updHd (s : State) (c p : Nat) (f : Hdr → Hdr) : (s.updHd p f).adc c = s.adc c := by rw [State.adc, State.updHd_adcs]; rfl
theorem State.adc_bump (s : State) (c p o : Nat) : (s.bump p o).adc c = s.adc c := by rw [State.adc, State.bump_adcs]; rfl

end

/-! ### The next conversion (R169, R173) -/

section
variable {s : State} {c : Nat} {k : AdcScan}

/-- A slot as its first conversion begins. -/
def State.slotBegun (s : State) (c n : Nat) : AdcScan :=
  { slot := n, cfg := s.slotCfg c n, stamp := s.short, gain := s.slotGain c n (((s.slotCfg c n)[0]?).getD 0) }

theorem State.adcNext_slot (hu : (s.adc c).urgWait = false) (hs : (s.adc c).scan = some k) (hd : k.done = 0) (hn : k.slot < s.nSlots c) :
    s.adcNext c = s.setAdc c { s.adc c with
      scan := some (s.slotBegun c k.slot), cur := some (false, s.ns, s.short, (s.slotBegun c k.slot).gain) } := by
  rw [State.adcNext]
  dsimp only
  rw [hu, if_neg Bool.false_ne_true, hs]
  dsimp only
  rw [hd, if_neg (by simp; omega), if_pos rfl]
  rfl

theorem State.adcNext_again (hu : (s.adc c).urgWait = false) (hs : (s.adc c).scan = some k) (hd : k.done ≠ 0) :
    s.adcNext c = s.setAdc c { s.adc c with scan := some k, cur := some (false, s.ns, s.short, k.gain) } := by
  rw [State.adcNext]
  dsimp only
  rw [hu, if_neg Bool.false_ne_true, hs]
  dsimp only
  rw [if_neg (by simp [hd]), if_neg hd]

theorem State.adcNext_idle (hu : (s.adc c).urgWait = false) (hs : (s.adc c).scan = none) : s.adcNext c = s.setAdc c { s.adc c with cur := none } := by
  rw [State.adcNext]
  dsimp only
  rw [hu, if_neg Bool.false_ne_true, hs]

end

/-! ### The start of a scan (R169, R178) -/

section
variable {s : State} {c : Nat} {temp : Int}

/-- The instant at which a converter's scan of the present tick starts. -/
def State.scanNs (s : State) (c : Nat) : Nat := tickStartNs s.tsu.lastTick + fld (s.ac (pADC c) R.ADC_CFG) 16 8 * 1000

/-- The drift mark that a die temperature leaves. -/
def State.drifts (s : State) (c : Nat) (temp : Int) : Bool :=
  (s.adc c).drift || ((s.adc c).calValid && decide (1500 < (temp - (s.rg (pADC c) R.ADC_CAL_TEMP).toInt).natAbs))

theorem exec_adcScanStart_early (h : s.ns < s.scanNs c) : exec (.adcScanStart c temp) s = .next s := by
  rw [exec_adcScanStart]
  refine act_same (if_pos ?_)
  rw [decide_eq_false (show ¬tickStartNs s.tick + fld (s.ac (pADC c) R.ADC_CFG) 16 8 * 1000 ≤ s.ns from Nat.not_le.2 h)]
  simp

/-- The state with the die temperature judged. -/
theorem State.scan_judged : ∃ u, (if (s.adc c).calValid && decide (1500 < (temp - (s.rg (pADC c) R.ADC_CAL_TEMP).toInt).natAbs) && !(s.adc c).drift
    then (s.setAdc c { s.adc c with drift := true }).irq (pADC c) 9 else s) = u ∧ State.AdcOnly c s u ∧
      u.adc c = { s.adc c with drift := s.drifts c temp } := by
  have hself : s.adc c = { s.adc c with drift := (s.adc c).drift } := rfl
  rw [State.drifts]
  cases hd : (s.adc c).drift with
  | true => exact ⟨s, if_neg (by simp), State.AdcOnly.refl c s, by rw [Bool.true_or, ← hd]⟩
  | false =>
    cases hh : ((s.adc c).calValid && decide (1500 < (temp - (s.rg (pADC c) R.ADC_CAL_TEMP).toInt).natAbs)) with
    | true =>
      refine ⟨_, if_pos rfl, ((State.AdcOnly.refl c s).setAdc _).irq 9, ?_⟩
      rw [State.adc_irq, s.adc_setAdc]
      rfl
    | false => exact ⟨s, if_neg (by decide), State.AdcOnly.refl c s, by rw [Bool.or_self, ← hd]⟩

theorem exec_adcScanStart_starts (hon : s.onMain = true) (hc : c < 2) (hl : (s.adc c).live = true) (hs : (s.adc c).scan = none)
    (ht : (s.adc c).scanTick ≠ some s.tsu.lastTick) (hcur : (s.adc c).cur = none) (hu : (s.adc c).urgWait = false) (hn : 0 < s.nSlots c)
    (h : s.scanNs c ≤ s.ns) :
    ∃ t k, exec (.adcScanStart c temp) s = .next t ∧ (t.adc c).scan = some k ∧ k.slot = 0 ∧ k.done = 0 ∧ k.sum = 0 ∧
      k.cfg = s.slotCfg c 0 ∧ (t.adc c).scanTick = some s.tsu.lastTick ∧ (t.adc c).cur = some (false, s.ns, s.short, k.gain) ∧
      (t.adc c).drift = s.drifts c temp ∧ (∀ j, j ≠ c → t.adc j = s.adc j) ∧ ({ s with adcs := t.adcs } : State).Quiet [pADC c] t := by
  obtain ⟨t, hrun, hexec⟩ := act_next (f := fun s => s.adcScan c temp) hon
  obtain ⟨u, hu', hou, hadc⟩ := s.scan_judged (c := c) (temp := temp)
  have hdue : ¬(!((s.adc c).live && (s.adc c).scan.isNone && (s.adc c).scanTick != some s.tick &&
      decide (tickStartNs s.tick + fld (s.ac (pADC c) R.ADC_CFG) 16 8 * 1000 ≤ s.ns) && decide (c < 2))) = true := by
    rw [hl, hs, decide_eq_true (show tickStartNs s.tick + fld (s.ac (pADC c) R.ADC_CFG) 16 8 * 1000 ≤ s.ns from h)]
    simpa [hc] using (show (s.adc c).scanTick ≠ some s.tick from ht)
  have hns : u.ns = s.ns := hou.1.ns
  have htick : u.tick = s.tick := by rw [State.tick, hou.1.tsu]; rfl
  have hcfg (n : Nat) : u.slotCfg c n = s.slotCfg c n := by simp only [State.slotCfg, hou.1.ac]; rfl
  have hslots : u.nSlots c = s.nSlots c := by simp only [State.nSlots, hou.1.ac]; rfl
  obtain ⟨v, hv, hov, hvadc, hvns, hvcfg, hvslots⟩ : ∃ v, v = u.updAdc c (fun x => { x with scan := some { slot := 0 }, scanTick := some u.tick }) ∧
      State.AdcOnly c s v ∧ v.adc c = { s.adc c with drift := s.drifts c temp, scan := some { slot := 0 }, scanTick := some s.tick } ∧
      v.ns = s.ns ∧ v.slotCfg c 0 = s.slotCfg c 0 ∧ v.nSlots c = s.nSlots c := by
    refine ⟨_, rfl, hou.setAdc _, ?_, hns, hcfg 0, hslots⟩
    rw [State.updAdc, u.adc_setAdc, hadc, htick]
  have hnext := State.adcNext_slot (s := v) (c := c) (k := { slot := 0 }) (by rw [hvadc]; exact hu) (by rw [hvadc]) rfl (by rw [hvslots]; exact hn)
  have hgo : s.adcScan c temp = v.adcNext c := by
    rw [State.adcScan]
    dsimp only
    rw [if_neg hdue, hu', ← hv, hvadc, hcur]
    rfl
  have hot := hov.setAdc { v.adc c with
    scan := some (v.slotBegun c 0), cur := some (false, v.ns, v.short, (v.slotBegun c 0).gain) }
  have hta := v.adc_setAdc c { v.adc c with
    scan := some (v.slotBegun c 0), cur := some (false, v.ns, v.short, (v.slotBegun c 0).gain) }
  replace hrun := hrun.trans (hgo.trans hnext)
  rw [← hrun, hvadc, State.short, hvns] at hta
  rw [← hrun] at hot
  refine ⟨_, v.slotBegun c 0, (exec_adcScanStart c temp s).trans hexec, congrArg Adc.scan hta, rfl, rfl, rfl, hvcfg,
    congrArg Adc.scanTick hta, congrArg Adc.cur hta, congrArg Adc.drift hta, hot.2, hot.1.pend⟩

end

/-! ### The end of a conversion (R166 to R174) -/

section
variable {s : State} {c : Nat}

/-- What serving an AIN0 result alone may change. -/
def State.PlausKept (s t : State) : Prop := t = { s with plaus := t.plaus, dup := t.dup, cyc := t.cyc }

theorem State.stageAdc_kept (s : State) (p : Nat) (x : Point) : s.PlausKept (s.stageAdc p x) := by
  unfold State.stageAdc
  split <;> rfl

theorem State.plausAlone_kept (s : State) (c : Nat) : s.PlausKept (s.plausAlone c) := by
  unfold State.plausAlone
  split
  · rfl
  · split
    · next r _ =>
      have h := State.stageAdc_kept { s with plaus := { s.plaus with done := true, single := true } }
        (fld (s.ac (pADC 0) R.ADC_PLAUS_CFG) 0 20) { value := ofS 64 r.1, qual := (r.2.1 &&& 0xFFFFFFFC) ||| worstVal (r.2.1 % 4) 3, stamp := r.2.2 }
      exact h
    · rfl

/-- With no result of the other converter waiting, nothing serves alone. -/
theorem State.plausAlone_none (h : (s.adc (1 - c)).ain0 = none) : s.plausAlone c = s := by
  unfold State.plausAlone
  rw [h]
  split <;> rfl

end

section
variable {s : State} {c : Nat} {raw : Int} {start stamp g : Nat}

/-- The state once a conversion's code has been taken and counted. -/
theorem State.converted_spec (b : Bool) : ∃ u, (if b then ((s.setAdc c { s.adc c with cur := none }).bump (pADC c) R.ADC_CNT_CONV).bump (pADC c) R.ADC_CNT_CLIP
      else (s.setAdc c { s.adc c with cur := none }).bump (pADC c) R.ADC_CNT_CONV) = u ∧ State.AdcOnly c s u ∧ u.adc c = { s.adc c with cur := none } ∧
      u.cn (pADC c) R.ADC_CNT_CONV = min (cntMax (pADC c) R.ADC_CNT_CONV) (s.cn (pADC c) R.ADC_CNT_CONV + 1) := by
  have h0 := (State.AdcOnly.refl c s).setAdc { s.adc c with cur := none }
  have ha := s.adc_setAdc c { s.adc c with cur := none }
  have hn (p o : Nat) : (s.setAdc c { s.adc c with cur := none }).cn p o = s.cn p o := rfl
  generalize s.setAdc c { s.adc c with cur := none } = a at *
  have hc := (a.cn_bump (pADC c) R.ADC_CNT_CONV).trans (by rw [hn])
  cases b with
  | false => exact ⟨_, if_neg Bool.false_ne_true, h0.bump (by decide), by rw [State.adc_bump, ha], hc⟩
  | true =>
    refine ⟨_, if_pos rfl, (h0.bump (by decide)).bump (by decide), by rw [State.adc_bump, State.adc_bump, ha], ?_⟩
    rw [State.cn_bump_other _ _ _ _ _ (fun h => absurd (Nat.add_left_cancel h) (by decide))]
    exact hc

/-- A conversion of a slot that is not the slot's last (R169, R170). -/
theorem State.adcDone_slot {k : AdcScan} (hraw : -131072 ≤ raw ∧ raw ≤ 131071) (hns : start + 1000 ≤ s.ns) (hst : (s.adc c).stopping = false)
    (hu : (s.adc c).urgWait = false) (hcur : (s.adc c).cur = some (false, start, stamp, g)) (hs : (s.adc c).scan = some k)
    (hk : k.done + 1 < 2 ^ sAvg ((k.cfg[0]?).getD 0)) :
    ∃ v, s.adcDone c raw = v.plausAlone c ∧ State.AdcOnly c s v ∧
      v.adc c = { s.adc c with
        scan := some { k with done := k.done + 1, sum := k.sum + raw * 16 / 2 ^ g, clip := k.clip || (raw == 131071 || raw == -131072) },
        cur := some (false, s.ns, s.short, k.gain) } ∧
      v.cn (pADC c) R.ADC_CNT_CONV = min (cntMax (pADC c) R.ADC_CNT_CONV) (s.cn (pADC c) R.ADC_CNT_CONV + 1) := by
  obtain ⟨u, hu', hou, hadc, hcn⟩ := s.converted_spec (c := c) (raw == 131071 || raw == -131072)
  obtain ⟨w, hw, how, hwadc, hwcn⟩ : ∃ w, w = u.updAdc c (fun x => { x with
        scan := some { k with done := k.done + 1, sum := k.sum + raw * 16 / 2 ^ g, clip := k.clip || (raw == 131071 || raw == -131072) } }) ∧
      State.AdcOnly c s w ∧ w.adc c = { s.adc c with
        cur := none, scan := some { k with
          done := k.done + 1, sum := k.sum + raw * 16 / 2 ^ g, clip := k.clip || (raw == 131071 || raw == -131072) } } ∧
      ∀ p o, w.cn p o = u.cn p o := by
    refine ⟨_, rfl, hou.setAdc _, ?_, fun _ _ => rfl⟩
    rw [State.updAdc, u.adc_setAdc, hadc]
  have hnext := State.adcNext_again (s := w) (c := c) (k := { k with
    done := k.done + 1, sum := k.sum + raw * 16 / 2 ^ g, clip := k.clip || (raw == 131071 || raw == -131072) })
    (by rw [hwadc]; exact hu) (by rw [hwadc]) (Nat.succ_ne_zero _)
  have hclamp : max (-131072) (min 131071 raw) = raw := by omega
  have hgo : s.adcDone c raw = (w.adcNext c).plausAlone c := by
    rw [State.adcDone]
    dsimp only
    rw [hcur]
    dsimp only
    rw [if_neg (by omega), hclamp, hu', hs, if_neg Bool.false_ne_true]
    dsimp only
    rw [hst, if_neg Bool.false_ne_true, if_neg (Nat.not_le.2 hk), hw, Nat.cast_pow]
    rfl
  rw [hnext] at hgo
  refine ⟨_, hgo, how.setAdc _, ?_, hwcn _ _ |>.trans hcn⟩
  rw [w.adc_setAdc, hwadc, how.1.ns, how.1.short]
  rfl

theorem exec_adcConversionDone_slot {k : AdcScan} (hon : s.onMain = true) (hc : c < 2) (hraw : -131072 ≤ raw ∧ raw ≤ 131071)
    (hns : start + 1000 ≤ s.ns) (hst : (s.adc c).stopping = false) (hu : (s.adc c).urgWait = false)
    (hcur : (s.adc c).cur = some (false, start, stamp, g)) (hs : (s.adc c).scan = some k) (hk : k.done + 1 < 2 ^ sAvg ((k.cfg[0]?).getD 0)) :
    ∃ t, exec (.adcConversionDone c raw) s = .next t ∧
      (t.adc c).scan = some { k with
        done := k.done + 1, sum := k.sum + raw * 16 / 2 ^ g, clip := k.clip || raw == 131071 || raw == -131072 } ∧
      (t.adc c).cur = some (false, s.ns, s.short, k.gain) ∧ (∀ j, j ≠ c → t.adc j = s.adc j) ∧
      t.cn (pADC c) R.ADC_CNT_CONV = min (cntMax (pADC c) R.ADC_CNT_CONV) (s.cn (pADC c) R.ADC_CNT_CONV + 1) ∧
      ((s.adc (1 - c)).ain0 = none → ({ s with adcs := t.adcs } : State).Quiet [pADC c] t) := by
  obtain ⟨t, ht, hexec⟩ := act_next (f := fun s => if c < 2 then s.adcDone c raw else s) hon
  obtain ⟨v, hv, hov, hadc, hcn⟩ := State.adcDone_slot hraw hns hst hu hcur hs hk
  replace ht := ht.trans ((if_pos hc).trans hv)
  have hkept := v.plausAlone_kept c
  rw [← ht] at hkept
  have htadc (j : Nat) : t.adc j = v.adc j := by rw [State.adc, hkept]; rfl
  have htcn : t.cn (pADC c) R.ADC_CNT_CONV = v.cn (pADC c) R.ADC_CNT_CONV := by rw [State.cn, hkept]; rfl
  refine ⟨_, (exec_adcConversionDone c raw s).trans hexec, ?_, ?_, fun j hj => (htadc j).trans (hov.2 j hj), htcn.trans hcn, fun hain => ?_⟩
  · exact (congrArg Adc.scan ((htadc c).trans hadc)).trans (by rw [← Bool.or_assoc])
  · exact congrArg Adc.cur ((htadc c).trans hadc)
  · have hj : 1 - c ≠ c := by omega
    rw [State.plausAlone_none (by rw [hov.2 _ hj]; exact hain)] at ht
    rw [ht]
    exact hov.1.pend

/-! ### An urgent result (R173, R174) -/

/-- ADC_DATA_INFO of an urgent result. -/
def urgentInfo (unread : Bool) (slot inp g : Nat) : Word :=
  w32 (2 ^ 31 + b2n unread * 2 ^ 30 + b2n true * 2 ^ 29 + slot * 2 ^ 16 + inp * 2 ^ 8 + g)

theorem urgentInfo_bits {unread : Bool} {slot inp g : Nat} (hs : slot < 16) (hi : inp < 16) (hg : g ≤ 4) :
    bit (urgentInfo unread slot inp g) 31 = true ∧ bit (urgentInfo unread slot inp g) 29 = true ∧
      bit (urgentInfo unread slot inp g) 30 = unread := by
  have hb : b2n unread ≤ 1 := by cases unread <;> decide
  have h1 : b2n true = 1 := rfl
  have h0 : b2n false = 0 := rfl
  simp only [bit, urgentInfo, w32, BitVec.toNat_ofNat, Nat.testBit_eq_decide_div_mod_eq, decide_eq_true_eq, h1]
  refine ⟨by omega, by omega, ?_⟩
  cases unread with
  | false => exact decide_eq_false (by omega)
  | true => exact decide_eq_true (by omega)

theorem State.adcData_urgent (s : State) (c n inp g : Nat) (v : Int) (st : Nat) :
    ∃ t, s.adcData c n inp g true v st = t ∧ State.AdcOnly c s t ∧
      t.adc c = { s.adc c with data := v, info := urgentInfo (bit (s.adc c).info 31) n inp g, stamp := st } ∧
      bit (t.hd (pADC c)).irqStatus 5 = true := by
  have h0 := ((State.AdcOnly.refl c s).setAdc { s.adc c with data := v, info := urgentInfo (bit (s.adc c).info 31) n inp g, stamp := st }).irq 5
  have ha := s.adc_setAdc c { s.adc c with data := v, info := urgentInfo (bit (s.adc c).info 31) n inp g, stamp := st }
  have hb := (s.setAdc c { s.adc c with data := v, info := urgentInfo (bit (s.adc c).info 31) n inp g, stamp := st }).bit_irq (pADC c)
    (i := 5) (by decide)
  unfold State.adcData
  dsimp only
  rw [show w32 (2 ^ 31 + b2n (bit (s.adc c).info 31) * 2 ^ 30 + b2n true * 2 ^ 29 + n * 2 ^ 16 + inp * 2 ^ 8 + g) =
    urgentInfo (bit (s.adc c).info 31) n inp g from rfl]
  generalize s.setAdc c { s.adc c with data := v, info := urgentInfo (bit (s.adc c).info 31) n inp g, stamp := st } = a at *
  split
  · exact ⟨_, rfl, (h0.bump (by decide)).irq 4, by rw [State.adc_irq, State.adc_bump, State.adc_irq, ha],
      State.bit_irq_of_bit (State.bit_bump_of_bit hb)⟩
  · exact ⟨_, rfl, h0, by rw [State.adc_irq, ha], hb⟩

theorem State.adcDone_urgent (hraw : -131072 < raw ∧ raw < 131071) (hns : start + 1000 ≤ s.ns) (hst : (s.adc c).stopping = false)
    (hu : (s.adc c).urgWait = false) (hcur : (s.adc c).cur = some (true, start, stamp, g)) (hs : (s.adc c).scan = none) :
    ∃ v n inp, s.adcDone c raw = v.plausAlone c ∧ State.AdcOnly c s v ∧ n < 16 ∧ inp < 16 ∧
      v.adc c = { s.adc c with
        cur := none, data := s.adcCal c g (raw * 16 / 2 ^ g), info := urgentInfo (bit (s.adc c).info 31) n inp g, stamp := stamp } ∧
      bit (v.hd (pADC c)).irqStatus 5 = true := by
  obtain ⟨u, hu', hou, hadc, -⟩ := s.converted_spec (c := c) false
  rw [if_neg Bool.false_ne_true] at hu'
  obtain ⟨n, hn⟩ : ∃ n, n = fld (s.ac (pADC c) R.ADC_CFG) 12 4 := ⟨_, rfl⟩
  obtain ⟨inp, hinp⟩ : ∃ i, i = sIn (s.ac (pADC c) (R.ADC_SLOT_CFG + 16 * n)) := ⟨_, rfl⟩
  have hob := hou.bump (o := R.ADC_CNT_URGENT) (by decide)
  have hbadc := (State.adc_bump u c (pADC c) R.ADC_CNT_URGENT).trans hadc
  obtain ⟨w, hw, how, hwadc, hbit⟩ := (u.bump (pADC c) R.ADC_CNT_URGENT).adcData_urgent c n inp g (s.adcCal c g (raw * 16 / 2 ^ g)) stamp
  have hcal (x : Int) : u.adcCal c g x = s.adcCal c g x := by
    simp only [State.adcCal, hou.1.rg]
    rfl
  have hac (o : Nat) : u.ac (pADC c) o = s.ac (pADC c) o := (hou.1.ac (pADC c) o).trans rfl
  rw [hbadc] at hwadc
  have hwo := hob.trans how
  have hclamp : max (-131072) (min 131071 raw) = raw := by omega
  have hclip : (raw == 131071 || raw == -131072) = false := by
    rw [Bool.or_eq_false_iff, beq_eq_false_iff_ne, beq_eq_false_iff_ne]
    omega
  have hnext := State.adcNext_idle (s := w) (c := c) (by rw [hwadc]; exact hu) (by rw [hwadc]; exact hs)
  have hgo : s.adcDone c raw = (w.adcNext c).plausAlone c := by
    rw [State.adcDone]
    dsimp only
    rw [hcur]
    dsimp only
    rw [if_neg (by omega), hclamp, hclip, if_neg Bool.false_ne_true, hu', if_pos rfl, hst, if_neg Bool.false_ne_true, Nat.cast_pow, Nat.cast_ofNat]
    rw [hac, ← hn, hac, ← hinp, hcal, hw]
  refine ⟨_, n, inp, hgo.trans (congrArg (State.plausAlone · c) hnext), hwo.setAdc _, hn ▸ ?_, hinp ▸ ?_, ?_, hbit⟩
  · exact Nat.mod_lt _ (by decide)
  · exact Nat.mod_lt _ (by decide)
  · rw [w.adc_setAdc, hwadc]

theorem exec_adcConversionDone_urgent (hon : s.onMain = true) (hc : c < 2) (hraw : -131072 < raw ∧ raw < 131071) (hg : g ≤ 4)
    (hns : start + 1000 ≤ s.ns) (hst : (s.adc c).stopping = false) (hu : (s.adc c).urgWait = false)
    (hcur : (s.adc c).cur = some (true, start, stamp, g)) (hs : (s.adc c).scan = none) :
    ∃ t, exec (.adcConversionDone c raw) s = .next t ∧ (t.adc c).data = s.adcCal c g (raw * 16 / 2 ^ g) ∧
      bit (t.adc c).info 31 = true ∧ bit (t.adc c).info 29 = true ∧ bit (t.adc c).info 30 = bit (s.adc c).info 31 ∧
      (t.adc c).stamp = stamp ∧ (t.adc c).cur = none ∧ bit (t.hd (pADC c)).irqStatus 5 = true ∧
      ((s.adc (1 - c)).ain0 = none → ({ s with adcs := t.adcs } : State).Quiet [pADC c] t) := by
  obtain ⟨t, ht, hexec⟩ := act_next (f := fun s => if c < 2 then s.adcDone c raw else s) hon
  obtain ⟨v, n, inp, hv, hov, hn, hinp, hadc, hbit⟩ := State.adcDone_urgent hraw hns hst hu hcur hs
  replace ht := ht.trans ((if_pos hc).trans hv)
  have hkept := v.plausAlone_kept c
  rw [← ht] at hkept
  have htadc : t.adc c = v.adc c := by rw [State.adc, hkept]; rfl
  have hthd : t.hd (pADC c) = v.hd (pADC c) := by rw [State.hd, hkept]; rfl
  have hall := htadc.trans hadc
  obtain ⟨h31, h29, h30⟩ := urgentInfo_bits (unread := bit (s.adc c).info 31) hn hinp hg
  have hinfo := congrArg Adc.info hall
  refine ⟨_, (exec_adcConversionDone c raw s).trans hexec, congrArg Adc.data hall, (congrArg (bit · 31) hinfo).trans h31,
    (congrArg (bit · 29) hinfo).trans h29, (congrArg (bit · 30) hinfo).trans h30, congrArg Adc.stamp hall, congrArg Adc.cur hall,
    (congrArg (fun h : Hdr => bit h.irqStatus 5) hthd).trans hbit, fun hain => ?_⟩
  have hj : 1 - c ≠ c := by omega
  rw [State.plausAlone_none (by rw [hov.2 _ hj]; exact hain)] at ht
  rw [ht]
  exact hov.1.pend

end

/-! ### Urgent requests and the data register (R173, R174) -/

section
variable {s : State} {c : Nat}

theorem exec_urgent_waits (hon : s.onMain = true) (hc : c < 2) (hr : s.running (pADC c) = true) (hcur : (s.adc c).cur ≠ none)
    (hu : (s.adc c).urgWait = false) :
    ∃ t, exec (.urgent c) s = .next t ∧ t.adc c = { s.adc c with urgWait := true } ∧ t = { s with adcs := t.adcs, hdrs := t.hdrs } := by
  obtain ⟨w, -, hqw, hexec⟩ := actReg_eff (p := pADC c) (f := fun s => if c < 2 then s.adcUrgent c R.ADC_CMD else s) hon
  have hgo : ({ s with hdrs := w } : State).adcUrgent c R.ADC_CMD = ({ s with hdrs := w } : State).setAdc c { s.adc c with urgWait := true } := by
    rw [State.adcUrgent, hqw.running, hr, Bool.not_true, if_neg Bool.false_ne_true]
    dsimp only
    rw [show (State.adc { s with hdrs := w } c).urgWait = false from hu, if_neg Bool.false_ne_true, if_neg]
    · rfl
    · exact fun h => hcur (Option.isNone_iff_eq_none.1 h)
  rw [if_pos hc, hgo] at hexec
  exact ⟨_, (exec_urgent c s).trans hexec, State.adc_setAdc _ _ _, rfl⟩

theorem exec_urgent_merges (hon : s.onMain = true) (hc : c < 2) (hr : s.running (pADC c) = true) (hu : (s.adc c).urgWait = true) :
    ∃ t, exec (.urgent c) s = .next t ∧
      t.cn (pADC c) R.ADC_CNT_URG_MERGED = min (cntMax (pADC c) R.ADC_CNT_URG_MERGED) (s.cn (pADC c) R.ADC_CNT_URG_MERGED + 1) ∧
      s.Quiet [pADC c] t := by
  obtain ⟨w, -, hqw, hexec⟩ := actReg_eff (p := pADC c) (f := fun s => if c < 2 then s.adcUrgent c R.ADC_CMD else s) hon
  have hgo : ({ s with hdrs := w } : State).adcUrgent c R.ADC_CMD = ({ s with hdrs := w } : State).bump (pADC c) R.ADC_CNT_URG_MERGED := by
    rw [State.adcUrgent, hqw.running, hr, Bool.not_true, if_neg Bool.false_ne_true]
    exact if_pos hu
  rw [if_pos hc, hgo] at hexec
  have hq := hqw.bump (p := pADC c) (by simp) R.ADC_CNT_URG_MERGED (by decide)
  have hcn := ({ s with hdrs := w } : State).cn_bump (pADC c) R.ADC_CNT_URG_MERGED
  generalize ({ s with hdrs := w } : State).bump (pADC c) R.ADC_CNT_URG_MERGED = t at *
  exact ⟨_, (exec_urgent c s).trans hexec, hcn, hq.pend⟩

/-- Clearing VALID and OVR of ADC_DATA_INFO leaves VALID clear. -/
theorem bit_setFld_valid (v : Word) : bit (setFld v 30 2 0) 31 = false := by
  simp [bit, setFld, w32]
  exact fun _ => by decide

theorem exec_adcDataRead_reads (hon : s.onMain = true) (hc : c < 2) :
    ∃ t, exec (.adcDataRead c) s = .next t ∧ t.rdata = wS (s.adc c).data ∧ (t.adc c).lat = some ((s.adc c).info, (s.adc c).stamp) ∧
      bit (t.adc c).info 31 = false ∧ t = { s with rdata := t.rdata, adcs := t.adcs, hdrs := t.hdrs } := by
  obtain ⟨w, -, -, hexec⟩ := actReg_eff (p := pADC c) (f := fun s => if c < 2 then s.adcRead c else s) hon
  have ha := State.adc_setAdc ({ s with hdrs := w } : State) c { s.adc c with lat := some ((s.adc c).info, (s.adc c).stamp), info := setFld (s.adc c).info 30 2 0 }
  rw [if_pos hc] at hexec
  exact ⟨_, (exec_adcDataRead c s).trans hexec, rfl, congrArg Adc.lat ha, (congrArg (fun x : Adc => bit x.info 31) ha).trans (bit_setFld_valid _), rfl⟩

/-! ### Calibration (R177) -/

theorem exec_cal_starts (hon : s.onMain = true) (hc : c < 2) (hr : s.running (pADC c) = false) :
    ∃ t, exec (.cal c) s = .next t ∧ (t.adc c).calBusy = true ∧ (t.adc c).calNs = s.clkNs ∧ (t.hd (pADC c)).busy = true ∧
      (∀ j, j ≠ c → t.adc j = s.adc j) ∧ t.regs = s.regs ∧ t.cnts = s.cnts := by
  obtain ⟨w, -, hqw, hexec⟩ := actReg_eff (p := pADC c) (f := fun s => if c < 2 then s.adcCalStart c else s) hon
  have hgo : ({ s with hdrs := w } : State).adcCalStart c =
      (({ s with hdrs := w } : State).setAdc c { s.adc c with calBusy := true, calNs := s.clkNs }).updHd (pADC c) fun h => { h with busy := true } := by
    rw [State.adcCalStart, hqw.running, hr, if_neg Bool.false_ne_true]
    rfl
  rw [if_pos hc, hgo] at hexec
  obtain ⟨a, haa, haadc, haj, har, hac⟩ : ∃ a, ({ s with hdrs := w } : State).setAdc c { s.adc c with calBusy := true, calNs := s.clkNs } = a ∧
      a.adc c = { s.adc c with calBusy := true, calNs := s.clkNs } ∧ (∀ j, j ≠ c → a.adc j = s.adc j) ∧ a.regs = s.regs ∧ a.cnts = s.cnts :=
    ⟨_, rfl, State.adc_setAdc _ c _, fun j hj => State.adc_setAdc_other _ c j _ hj, rfl, rfl⟩
  rw [haa] at hexec
  have hb := congrArg Hdr.busy (a.hd_updHd (pADC c) fun h => { h with busy := true })
  have hbadc (j : Nat) := a.adc_updHd j (pADC c) fun h => { h with busy := true }
  have hbr := a.updHd_regs (pADC c) fun h => { h with busy := true }
  have hbc := a.updHd_cnts (pADC c) fun h => { h with busy := true }
  generalize a.updHd (pADC c) (fun h => { h with busy := true }) = t at *
  have htadc := (hbadc c).trans haadc
  exact ⟨_, (exec_cal c s).trans hexec, congrArg Adc.calBusy htadc, congrArg Adc.calNs htadc, hb, fun j hj => (hbadc j).trans (haj j hj),
    hbr.trans har, hbc.trans hac⟩

theorem headPage_pADC (hc : c < 2) : headPage (pADC c) = pADC c := (show ∀ c < 2, headPage (pADC c) = pADC c by decide) c hc

theorem exec_cal_running (hon : s.onMain = true) (hc : c < 2) (hr : s.running (pADC c) = true) :
    ∃ t, exec (.cal c) s = .next t ∧ (t.hd (pADC c)).errCode = w32 (R.ADC_CMD * 256 + Err.notStopped) ∧ s.Quiet [pADC c] t := by
  rw [exec_cal]
  refine actReg_refuses hon (headPage_pADC hc) ?_
  have hq := (State.Quiet.refl [pADC c] s).touch (List.mem_singleton_self (pADC c))
  rw [if_pos hc, State.adcCalStart, hq.running, hr]
  exact if_pos rfl

theorem exec_calDone_early {offs gains : List Int} {temp : Int} (h : s.clkNs < (s.adc c).calNs + 3200000) :
    exec (.calDone c offs gains temp) s = .next s := by
  rw [exec_calDone]
  refine act_same ?_
  split
  · exact if_pos (by simp [h])
  · rfl

/-- The factors of `n` gain codes as measured. -/
def State.calFactors (c : Nat) (offs gains : List Int) (n : Nat) (s : State) : State :=
  iter n (fun g s => (s.setRg (pADC c) (R.ADC_CAL_OFF + 4 * g) (wS ((offs[g]?).getD 0))).setRg (pADC c) (R.ADC_CAL_GAIN + 4 * g)
    (wS ((gains[g]?).getD (2 ^ 30)))) s

theorem State.calFactors_succ (offs gains : List Int) (n : Nat) : State.calFactors c offs gains (n + 1) s =
    ((State.calFactors c offs gains n s).setRg (pADC c) (R.ADC_CAL_OFF + 4 * n) (wS ((offs[n]?).getD 0))).setRg (pADC c) (R.ADC_CAL_GAIN + 4 * n)
      (wS ((gains[n]?).getD (2 ^ 30))) := by
  rw [State.calFactors, iter, List.range_succ, List.foldl_append]
  rfl

theorem State.calFactors_spec (offs gains : List Int) (n : Nat) (hn : n ≤ 5) : ∃ u, State.calFactors c offs gains n s = u ∧
    u = { s with regs := u.regs } ∧ ∀ g, g < n → u.rg (pADC c) (R.ADC_CAL_OFF + 4 * g) = wS ((offs[g]?).getD 0) ∧
      u.rg (pADC c) (R.ADC_CAL_GAIN + 4 * g) = wS ((gains[g]?).getD (2 ^ 30)) := by
  induction n with
  | zero => exact ⟨s, rfl, rfl, fun g hg => absurd hg (Nat.not_lt_zero g)⟩
  | succ n ih =>
    obtain ⟨u, hu, hrest, hall⟩ := ih (by omega)
    refine ⟨_, State.calFactors_succ offs gains n, ?_, fun g hg => ?_⟩
    · rw [hu, hrest]
      rfl
    · rw [hu]
      have hka (a b : Nat) (h : a ≠ b) : ka (pADC c) a ≠ ka (pADC c) b := fun h' => h (Nat.add_left_cancel h')
      by_cases hgn : g = n
      · subst hgn
        rw [State.rg_setRg, State.rg_setRg_other _ _ _ _ _ _ (hka _ _ (by simp only [R.ADC_CAL_OFF, R.ADC_CAL_GAIN]; omega)), State.rg_setRg]
        exact ⟨rfl, rfl⟩
      · have hold := hall g (by omega)
        rw [State.rg_setRg_other _ _ _ _ _ _ (hka _ _ (by simp only [R.ADC_CAL_OFF, R.ADC_CAL_GAIN]; omega)),
          State.rg_setRg_other _ _ _ _ _ _ (hka _ _ (by omega)), State.rg_setRg_other _ _ _ _ _ _ (hka _ _ (by omega)),
          State.rg_setRg_other _ _ _ _ _ _ (hka _ _ (by simp only [R.ADC_CAL_OFF, R.ADC_CAL_GAIN]; omega))]
        exact hold

theorem exec_calDone_ends (hon : s.onMain = true) (hc : c < 2) {offs gains : List Int} {temp : Int} (hb : (s.adc c).calBusy = true)
    (hns : (s.adc c).calNs + 3200000 ≤ s.clkNs) (hg : gains.length = 5) :
    ∃ t, exec (.calDone c offs gains temp) s = .next t ∧
      (∀ g, g < 5 → t.rg (pADC c) (R.ADC_CAL_OFF + 4 * g) = wS ((offs[g]?).getD 0) ∧
        t.rg (pADC c) (R.ADC_CAL_GAIN + 4 * g) = wS ((gains[g]?).getD 0)) ∧
      t.rg (pADC c) R.ADC_CAL_TEMP = wS temp ∧ (t.adc c).calValid = true ∧ (t.adc c).calBusy = false ∧ (t.hd (pADC c)).busy = false ∧
      bit (t.hd (pADC c)).irqStatus 8 = true ∧ t.acts = s.acts ∧ (∀ j, j ≠ c → t.adc j = s.adc j) := by
  obtain ⟨t, ht, hexec⟩ := act_next (f := fun s => if c < 2 then s.adcCalDone c offs gains temp else s) hon
  obtain ⟨u, hu, hrest, hall⟩ := s.calFactors_spec (c := c) offs gains 5 (Nat.le_refl 5)
  have hka (g : Nat) (hg : g < 5) : ka (pADC c) (R.ADC_CAL_OFF + 4 * g) ≠ ka (pADC c) R.ADC_CAL_TEMP ∧
      ka (pADC c) (R.ADC_CAL_GAIN + 4 * g) ≠ ka (pADC c) R.ADC_CAL_TEMP :=
    ⟨fun h => absurd (Nat.add_left_cancel h) (by simp only [R.ADC_CAL_OFF, R.ADC_CAL_TEMP]; omega),
      fun h => absurd (Nat.add_left_cancel h) (by simp only [R.ADC_CAL_GAIN, R.ADC_CAL_TEMP]; omega)⟩
  obtain ⟨v, hv, hvrg, hvt, hvadc, hvj, hvbusy, hvacts⟩ : ∃ v, ((u.setRg (pADC c) R.ADC_CAL_TEMP (wS temp)).updAdc c
        (fun x => { x with calBusy := false, calValid := true, drift := false })).updHd (pADC c) (fun h => { h with busy := false }) = v ∧
      (∀ g, g < 5 → v.rg (pADC c) (R.ADC_CAL_OFF + 4 * g) = wS ((offs[g]?).getD 0) ∧
        v.rg (pADC c) (R.ADC_CAL_GAIN + 4 * g) = wS ((gains[g]?).getD (2 ^ 30))) ∧
      v.rg (pADC c) R.ADC_CAL_TEMP = wS temp ∧ ((v.adc c).calValid = true ∧ (v.adc c).calBusy = false) ∧ (∀ j, j ≠ c → v.adc j = s.adc j) ∧
      (v.hd (pADC c)).busy = false ∧ v.acts = s.acts := by
    obtain ⟨b, hb', hbr, hbt, hba, hbj, hbac⟩ : ∃ b, (u.setRg (pADC c) R.ADC_CAL_TEMP (wS temp)).updAdc c
          (fun x => { x with calBusy := false, calValid := true, drift := false }) = b ∧
        (∀ g, g < 5 → b.rg (pADC c) (R.ADC_CAL_OFF + 4 * g) = wS ((offs[g]?).getD 0) ∧
          b.rg (pADC c) (R.ADC_CAL_GAIN + 4 * g) = wS ((gains[g]?).getD (2 ^ 30))) ∧ b.rg (pADC c) R.ADC_CAL_TEMP = wS temp ∧
        b.adc c = { u.adc c with calBusy := false, calValid := true, drift := false } ∧ (∀ j, j ≠ c → b.adc j = u.adc j) ∧ b.acts = u.acts :=
      ⟨_, rfl, fun g hg5 => ⟨(u.rg_setRg_other _ _ _ _ _ (hka g hg5).1).trans (hall g hg5).1, (u.rg_setRg_other _ _ _ _ _ (hka g hg5).2).trans (hall g hg5).2⟩,
        u.rg_setRg _ _ _, State.adc_setAdc _ c _, fun j hj => State.adc_setAdc_other _ c j _ hj, rfl⟩
    have hrg (o : Nat) := b.rg_updHd (pADC c) (fun h => { h with busy := false }) (pADC c) o
    rw [hb']
    refine ⟨_, rfl, fun g hg5 => ⟨(hrg _).trans (hbr g hg5).1, (hrg _).trans (hbr g hg5).2⟩, (hrg _).trans hbt, ?_, fun j hj => ?_,
      congrArg Hdr.busy (b.hd_updHd _ _), ?_⟩
    · rw [State.adc_updHd, hba]
      exact ⟨rfl, rfl⟩
    · rw [State.adc_updHd, hbj j hj, State.adc, hrest]
      rfl
    · rw [State.updHd_acts, hbac, hrest]
  have hgo : s.adcCalDone c offs gains temp = v.irq (pADC c) 8 := by
    have hif : s.adcCalDone c offs gains temp = if !(s.adc c).calBusy || s.clkNs < (s.adc c).calNs + 3200000 then s else
        ((((State.calFactors c offs gains 5 s).setRg (pADC c) R.ADC_CAL_TEMP (wS temp)).updAdc c
          (fun x => { x with calBusy := false, calValid := true, drift := false })).updHd (pADC c) (fun h => { h with busy := false })).irq (pADC c) 8 := rfl
    rw [hif, hb, if_neg (by simp [hns]), hu, hv]
  replace ht := ht.trans ((if_pos hc).trans hgo)
  have hq := (State.Quiet.refl [pADC c] v).irq (p := pADC c) (by simp) 8
  have hbit := v.bit_irq (pADC c) (i := 8) (by decide)
  rw [← ht] at hq hbit
  have htadc (j : Nat) : t.adc j = v.adc j := by rw [State.adc, hq.adcs]; rfl
  refine ⟨_, (exec_calDone c offs gains temp s).trans hexec, fun g hg5 => ⟨(hq.rg _ _).trans (hvrg g hg5).1, (hq.rg _ _).trans ?_⟩,
    (hq.rg _ _).trans hvt, (congrArg Adc.calValid (htadc c)).trans hvadc.1, (congrArg Adc.calBusy (htadc c)).trans hvadc.2,
    (congrArg Hdr.busy (hq.hdIn (pADC c))).trans hvbusy, hbit, hq.acts.trans hvacts, fun j hj => (htadc j).trans (hvj j hj)⟩
  rw [(hvrg g hg5).2, List.getElem?_eq_getElem (by omega)]
  rfl

/-! ### Shunts (R168) -/

theorem exec_shuntClose_closes (hon : s.onMain = true) (hc : c < 2) :
    ∃ t, exec (.shuntClose c) s = .next t ∧ (∀ b, b ∈ t.shunts ↔ b ∈ s.shunts ∧ c ∉ adcsOf b) ∧ t = { s with shunts := t.shunts, hdrs := t.hdrs } := by
  obtain ⟨w, -, -, hexec⟩ := actReg_eff (p := pADC c) (f := fun s => if c < 2 then s.shuntClose c else s) hon
  rw [if_pos hc] at hexec
  refine ⟨_, (exec_shuntClose c s).trans hexec, fun b => ?_, rfl⟩
  exact List.mem_filter.trans (by simp)

/-- A trip is raised and counted at each converter that reads the input in current mode. -/
def State.tripAt (a : Nat) (s : State) (c : Nat) : State :=
  if s.inCurrent c a then (s.irq (pADC c) 10).bump (pADC c) R.ADC_CNT_SHUNT_TRIP else s

theorem State.tripAt_quiet {ps : List Nat} {a : Nat} (hp : pADC c ∈ ps) : s.Quiet ps (s.tripAt a c) := by
  unfold State.tripAt
  split
  · exact ((State.Quiet.refl ps s).irq hp 10).bump hp R.ADC_CNT_SHUNT_TRIP (by decide)
  · exact State.Quiet.refl ps s

theorem State.tripAt_spec {a : Nat} (h : s.inCurrent c a = true) : bit ((s.tripAt a c).hd (pADC c)).irqStatus 10 = true ∧
    (s.tripAt a c).cn (pADC c) R.ADC_CNT_SHUNT_TRIP =
      min (cntMax (pADC c) R.ADC_CNT_SHUNT_TRIP) (s.cn (pADC c) R.ADC_CNT_SHUNT_TRIP + 1) := by
  rw [State.tripAt, if_pos h]
  refine ⟨State.bit_bump_of_bit (State.bit_irq _ _ (by decide)), ?_⟩
  rw [State.cn_bump, State.cn, State.irq_cnts]
  rfl

/-- Each converter of an input is reached once. -/
theorem State.trips_spec {a : Nat} (hc : c ∈ adcsOf a) (hi : s.inCurrent c a = true) :
    ((adcsOf a).foldl (State.tripAt a) s).cn (pADC c) R.ADC_CNT_SHUNT_TRIP =
      min (cntMax (pADC c) R.ADC_CNT_SHUNT_TRIP) (s.cn (pADC c) R.ADC_CNT_SHUNT_TRIP + 1) ∧
    bit (((adcsOf a).foldl (State.tripAt a) s).hd (pADC c)).irqStatus 10 = true ∧
    s.Quiet ((adcsOf a).map pADC) ((adcsOf a).foldl (State.tripAt a) s) := by
  have hone (j : Nat) (hj : c ∈ [j]) : ([j].foldl (State.tripAt a) s).cn (pADC c) R.ADC_CNT_SHUNT_TRIP =
      min (cntMax (pADC c) R.ADC_CNT_SHUNT_TRIP) (s.cn (pADC c) R.ADC_CNT_SHUNT_TRIP + 1) ∧
      bit (([j].foldl (State.tripAt a) s).hd (pADC c)).irqStatus 10 = true ∧ s.Quiet ([j].map pADC) ([j].foldl (State.tripAt a) s) := by
    rw [List.mem_singleton] at hj
    subst hj
    obtain ⟨hb, hn⟩ := State.tripAt_spec hi
    exact ⟨hn, hb, State.tripAt_quiet (List.mem_singleton_self _)⟩
  unfold adcsOf at hc ⊢
  split at hc
  · next h0 =>
    rw [if_pos h0]
    have hq0 : s.Quiet [pADC 0, pADC 1] (s.tripAt a 0) := State.tripAt_quiet (by simp)
    have hq1 : (s.tripAt a 0).Quiet [pADC 0, pADC 1] ((s.tripAt a 0).tripAt a 1) := State.tripAt_quiet (by simp)
    have hs0 : s.Quiet [pADC 0] (s.tripAt a 0) := State.tripAt_quiet (by simp)
    have hs1 : (s.tripAt a 0).Quiet [pADC 1] ((s.tripAt a 0).tripAt a 1) := State.tripAt_quiet (by simp)
    have hcur : (s.tripAt a 0).inCurrent c a = s.inCurrent c a := by
      simp only [State.inCurrent, hq0.ac]
    rcases List.mem_pair.1 hc with rfl | rfl
    · obtain ⟨hb, hn⟩ := State.tripAt_spec hi
      refine ⟨(hs1.cn (pADC 0) _ (by simp) (by decide)).trans hn, ?_, hq0.trans hq1⟩
      exact (congrArg (fun h : Hdr => bit h.irqStatus 10) (hs1.hd (pADC 0) (by simp))).trans hb
    · obtain ⟨hb, hn⟩ := State.tripAt_spec (hcur.trans hi)
      exact ⟨hn.trans (by rw [hs0.cn (pADC 1) _ (by simp) (by decide)]), hb, hq0.trans hq1⟩
  · next h0 =>
    rw [if_neg h0]
    split at hc
    · next h6 =>
      rw [if_pos h6]
      exact hone 0 hc
    · next h6 =>
      rw [if_neg h6]
      split at hc
      · next h11 =>
        rw [if_pos h11]
        exact hone 1 hc
      · exact absurd hc List.not_mem_nil

theorem exec_shuntTrip_trips {a : Nat} (hon : s.onMain = true) (hc : c ∈ adcsOf a) (hi : s.inCurrent c a = true) (hn : a ∉ s.shunts) :
    ∃ t, exec (.shuntTrip a) s = .next t ∧ (∀ b, b ∈ t.shunts ↔ b = a ∨ b ∈ s.shunts) ∧ bit (t.hd (pADC c)).irqStatus 10 = true ∧
      t.cn (pADC c) R.ADC_CNT_SHUNT_TRIP = min (cntMax (pADC c) R.ADC_CNT_SHUNT_TRIP) (s.cn (pADC c) R.ADC_CNT_SHUNT_TRIP + 1) ∧
      ({ s with shunts := t.shunts } : State).Quiet ((adcsOf a).map pADC) t := by
  obtain ⟨t, ht, hexec⟩ := act_next (f := fun s => s.shuntTrip a) hon
  obtain ⟨u, hu, hsh, hcur, hcn, hrest⟩ : ∃ u, { s with shunts := (s.shunts ++ [a]).mergeSort } = u ∧ (∀ b, b ∈ u.shunts ↔ b = a ∨ b ∈ s.shunts) ∧
      (∀ j, u.inCurrent j a = s.inCurrent j a) ∧ (∀ p o, u.cn p o = s.cn p o) ∧ { s with shunts := u.shunts } = u :=
    ⟨{ s with shunts := (s.shunts ++ [a]).mergeSort }, rfl, fun b => by simp [or_comm], fun _ => rfl, fun _ _ => rfl, rfl⟩
  have hgo : s.shuntTrip a = (adcsOf a).foldl (State.tripAt a) u := by
    have hany : (adcsOf a).any (fun c => s.inCurrent c a) = true := List.any_eq_true.2 ⟨c, hc, hi⟩
    rw [State.shuntTrip, hany, if_neg (by simpa using hn), ← hu]
    rfl
  replace ht := ht.trans hgo
  have hspec := State.trips_spec hc ((hcur c).trans hi)
  rw [← ht] at hspec
  obtain ⟨hcount, hbit, hq⟩ := hspec
  refine ⟨_, (exec_shuntTrip a s).trans hexec, fun b => ?_, hbit, hcount.trans (by rw [hcn]), ?_⟩
  · show b ∈ t.shunts ↔ _
    rw [hq.shunts]
    exact hsh b
  · have hs : ({ s with shunts := t.shunts } : State) = u := by rw [hq.shunts, hrest]
    have hp : s.pending = u.pending := by rw [← hu]
    show State.Quiet _ { s with shunts := t.shunts } { t with pending := s.pending }
    rw [hs, hp]
    exact hq.pend

end

/-- Settles O29: the scan of a converter, its urgent conversions and data register, its calibration and its shunts. -/
theorem converters : Obligations.Converters := by
  unfold Obligations.Converters
  refine ⟨fun c s hon hc => ⟨fun temp hl hs ht hcur hu hn => ⟨fun h => ?_, fun h => exec_adcScanStart_early h⟩,
    fun raw start stamp g k h1 h2 hns hst hu hcur hs hk => ?_, fun raw start stamp g h1 h2 hg hns hst hu hcur hs =>
      exec_adcConversionDone_urgent hon hc ⟨h1, h2⟩ hg hns hst hu hcur hs, fun hr hcur => ⟨fun hu => exec_urgent_waits hon hc hr hcur hu,
        fun hu => exec_urgent_merges hon hc hr hu⟩, exec_adcDataRead_reads hon hc⟩,
    fun c s hon hc => ⟨fun hr => ?_, fun hr => exec_cal_running hon hc hr, fun offs gains temp hb hns _ hg => ?_,
      fun offs gains temp h => exec_calDone_early h, fun a ha hi hn => exec_shuntTrip_trips hon ha hi hn, exec_shuntClose_closes hon hc⟩⟩
  · obtain ⟨t, k, hexec, h1, h2, h3, h4, h5, h6, h7, h8, hj, hq⟩ := exec_adcScanStart_starts (temp := temp) hon hc hl hs ht hcur hu hn h
    exact ⟨t, k, hexec, h1, h2, h3, h4, h5, h6, h7, h8, hj _ (by omega), hq⟩
  · obtain ⟨t, hexec, hscan, hcur', hj, hcn, hq⟩ := exec_adcConversionDone_slot hon hc ⟨h1, h2⟩ hns hst hu hcur hs hk
    exact ⟨t, hexec, hscan, hcur', hj _ (by omega), hcn, hq⟩
  · obtain ⟨t, hexec, hb, hns, hbusy, hj, hregs, hcnts⟩ := exec_cal_starts hon hc hr
    exact ⟨t, hexec, hb, hns, hbusy, hj _ (by omega), hregs, hcnts⟩
  · obtain ⟨t, hexec, hall, htemp, hv, hbusy, hhd, hbit, hacts, hj⟩ := exec_calDone_ends (offs := offs) (temp := temp) hon hc hb hns hg
    exact ⟨t, hexec, hall, htemp, hv, hbusy, hhd, hbit, hacts, hj _ (by omega)⟩

end Sys2Proof.Machine
end

section
/-!
PROOFS. Commands of a filter engine and the run of its next tick (R141 to R162).
-/
namespace Sys2Proof.Machine
open Sys2Proof

/-! ### What changes one engine -/

/-- Nothing has changed but engine `e`, and what it counts and raises. -/
def State.FltOnly (e : Nat) (s t : State) : Prop :=
  ({ s with flt := t.flt } : State).Quiet [pFLT e] t ∧ ∀ q, q ≠ e → t.fe q = s.fe q

section
variable {s t u : State} {e c : Nat}

theorem State.FltOnly.of_quiet (h : s.Quiet [pFLT e] t) : State.FltOnly e s t := by
  refine ⟨?_, fun q _ => by rw [State.fe, h.flt]; rfl⟩
  rw [h.flt]
  exact h

theorem State.FltOnly.setFe (h : State.FltOnly e s t) (x : FltEng) : State.FltOnly e s (t.setFe e x) := by
  obtain ⟨hq, hj⟩ := h
  exact ⟨hq.over (congrArg (fun y : State => { y with flt := (t.setFe e x).flt }) hq.rest) rfl rfl rfl rfl,
    fun q hne => (t.fe_setFe_other e q x hne).trans (hj q hne)⟩

theorem State.FltOnly.quiet (h : State.FltOnly e s t) (hq : t.Quiet [pFLT e] u) : State.FltOnly e s u := by
  obtain ⟨h1, h2⟩ := h
  refine ⟨?_, fun j hne => ?_⟩
  · rw [hq.flt]
    exact h1.trans hq
  · rw [State.fe, hq.flt]
    exact h2 j hne

theorem headPage_pFLT (he : e < 64) : headPage (pFLT e) = pFLT e := (show ∀ e < 64, headPage (pFLT e) = pFLT e by decide) e he

/-! ### STOP, CLEAR_SAT, FLT_REF_CMD and FLT_EVT_POP (R141, R149, R152, R159) -/

/-- A command that only sets its engine. -/
theorem actReg_setFe {f : State → State} {x : FltEng} (hon : s.onMain = true)
    (hf : ∀ w, (∀ q, ({ s with hdrs := w } : State).unusable q = s.unusable q) → f { s with hdrs := w } = ({ s with hdrs := w } : State).setFe e x) :
    ∃ t, actReg State.onMain (pFLT e) f s = .next t ∧ t.fe e = x ∧ (∀ q, q ≠ e → t.fe q = s.fe q) ∧ ({ s with flt := t.flt } : State).Quiet [pFLT e] t := by
  obtain ⟨w, hun, hqw, hexec⟩ := actReg_eff (p := pFLT e) (f := f) hon
  rw [hf w hun] at hexec
  have ho := (State.FltOnly.of_quiet hqw).setFe x
  have hx := State.fe_setFe ({ s with hdrs := w } : State) e x
  generalize ({ s with hdrs := w } : State).setFe e x = t at *
  exact ⟨_, hexec, hx, ho.2, ho.1.pend⟩

/-- Chain `c` of engine `e`. -/
def State.chain (s : State) (e c : Nat) : Chain := sget {} c (s.fe e).chains

/-- A command that only sets a chain of its engine. -/
theorem actReg_setChain {f : State → State} {y : Chain} (hon : s.onMain = true)
    (hf : ∀ w, (∀ q, ({ s with hdrs := w } : State).unusable q = s.unusable q) →
      f { s with hdrs := w } = ({ s with hdrs := w } : State).setFe e { s.fe e with chains := sput c y (s.fe e).chains }) :
    ∃ t, actReg State.onMain (pFLT e) f s = .next t ∧ sget {} c (t.fe e).chains = y ∧
      (∀ d, d ≠ c → sget {} d (t.fe e).chains = sget {} d (s.fe e).chains) ∧ (∀ q, q ≠ e → t.fe q = s.fe q) ∧
      ({ s with flt := t.flt } : State).Quiet [pFLT e] t := by
  obtain ⟨t, hexec, hfe, hother, hq⟩ := actReg_setFe hon hf
  exact ⟨t, hexec, by rw [hfe]; exact sget_sput_same _ _ _ _, fun d hd => by rw [hfe]; exact sget_sput_other _ _ _ _ _ hd, hother, hq⟩

theorem exec_fltChainStop_stops (hon : s.onMain = true) (hu : s.unusable (pFLT e) = false) (hr : (s.chain e c).running = true) :
    ∃ t, exec (.fltChainStop e c) s = .next t ∧ sget {} c (t.fe e).chains = { s.chain e c with running := false, valid := false } ∧
      (∀ d, d ≠ c → sget {} d (t.fe e).chains = sget {} d (s.fe e).chains) ∧ (∀ q, q ≠ e → t.fe q = s.fe q) ∧
      ({ s with flt := t.flt } : State).Quiet [pFLT e] t := by
  rw [exec_fltChainStop]
  refine actReg_setChain hon fun w hun => ?_
  rw [State.chainStop, hun, hu, if_neg Bool.false_ne_true]
  exact if_pos hr

theorem exec_clearSat_clears (hon : s.onMain = true) (hu : s.unusable (pFLT e) = false) (hs : (s.chain e c).sat = true) :
    ∃ t, exec (.clearSat e c) s = .next t ∧ sget {} c (t.fe e).chains = { s.chain e c with sat := false } ∧
      (∀ d, d ≠ c → sget {} d (t.fe e).chains = sget {} d (s.fe e).chains) ∧ (∀ q, q ≠ e → t.fe q = s.fe q) ∧
      ({ s with flt := t.flt } : State).Quiet [pFLT e] t := by
  rw [exec_clearSat]
  refine actReg_setChain hon fun w hun => ?_
  rw [State.chainClearSat, hun, hu, if_neg Bool.false_ne_true]
  exact if_pos hs

theorem exec_fltRefCmd_notes {v : Word} (hon : s.onMain = true) (hu : s.unusable (pFLT e) = false) (ht : s.refTrack e (fld v 0 2) = true)
    (hs : s.unusable (pFLT (fld v 16 6)) = false) :
    ∃ t, exec (.fltRefCmd e v) s = .next t ∧ t.fe e = { s.fe e with copies := (s.fe e).copies ++ [(fld v 0 2, fld v 16 6, fld v 12 2)] } ∧
      (∀ q, q ≠ e → t.fe q = s.fe q) ∧ ({ s with flt := t.flt } : State).Quiet [pFLT e] t := by
  rw [exec_fltRefCmd]
  refine actReg_setFe hon fun w hun => ?_
  rw [State.fltRefCmd]
  dsimp only
  rw [hun, hu, if_neg Bool.false_ne_true, show State.refTrack { s with hdrs := w } e (fld v 0 2) = true from ht, Bool.not_true,
    if_neg Bool.false_ne_true, hun, hs, if_neg Bool.false_ne_true]
  rfl

theorem exec_fltEvtPop_pops (hon : s.onMain = true) :
    ∃ t, exec (.fltEvtPop e) s = .next t ∧ t.fe e = { s.fe e with evts := (s.fe e).evts.drop 1 } ∧ (∀ q, q ≠ e → t.fe q = s.fe q) ∧
      ({ s with flt := t.flt } : State).Quiet [pFLT e] t := by
  rw [exec_fltEvtPop]
  exact actReg_setFe hon fun w _ => rfl

/-! ### START (R158, R159) -/

/-- The cost of a chain that runs, and nothing for one that does not. -/
def State.load (s : State) (e : Nat) (d : Nat × Chain) : Nat := if d.2.running then s.chainCost e d.1 else 0

/-- An engine that has no more running chains than before, and one besides, costs no more than that one besides. -/
theorem State.load_sput (y : Chain) (l : List (Nat × Chain)) :
    ((sput c y l).map (s.load e)).sum ≤ s.chainCost e c + (l.map (s.load e)).sum := by
  have hy : s.load e (c, y) ≤ s.chainCost e c := by
    unfold State.load
    split
    · exact Nat.le_refl _
    · exact Nat.zero_le _
  induction l with
  | nil => simpa [sput] using hy
  | cons d l ih =>
    obtain ⟨a, b⟩ := d
    rw [sput]
    split
    · simp only [List.map_cons, List.sum_cons]
      omega
    · split
      · simp only [List.map_cons, List.sum_cons]
        omega
      · simp only [List.map_cons, List.sum_cons]
        omega

/-- Running chains at their costs. -/
def State.recosted (s : State) (e : Nat) (l : List (Nat × Chain)) : List (Nat × Chain) :=
  l.map (fun d => if d.2.running then (d.1, { d.2 with cost := s.chainCost e d.1 }) else d)

theorem State.load_recosted (l : List (Nat × Chain)) :
    ((s.recosted e l).map (fun d => if d.2.running then d.2.cost else 0)).sum = (l.map (s.load e)).sum := by
  rw [State.recosted, List.map_map]
  refine congrArg List.sum (List.map_congr_left fun d _ => ?_)
  show (if (if d.2.running then (d.1, { d.2 with cost := s.chainCost e d.1 }) else d).2.running then _ else 0) = if d.2.running then _ else 0
  cases h : d.2.running with
  | true => simp [h]
  | false => simp [h]

theorem State.sget_recosted (l : List (Nat × Chain)) (d : Nat) : sget {} d (s.recosted e l) =
    { sget {} d l with cost := if (sget {} d l : Chain).running then s.chainCost e d else (sget {} d l : Chain).cost } := by
  induction l with
  | nil => rfl
  | cons x l ih =>
    obtain ⟨a, b⟩ := x
    rw [State.recosted, List.map_cons, ← State.recosted]
    cases hb : b.running with
    | true =>
      by_cases ha : a = d
      · subst ha
        simp [sget, hb]
      · simpa [sget, hb, ha] using ih
    | false =>
      by_cases ha : a = d
      · subst ha
        obtain ⟨⟩ := b
        simp_all [sget]
      · simpa [sget, hb, ha] using ih

theorem State.chainW_congr (h : t.tbl = s.tbl) (d : Nat) : t.chainW e d = s.chainW e d := by
  have htw : ∀ a, t.tw a = s.tw a := fun a => by rw [State.tw, State.tw, h]
  simp only [State.chainW, State.tws, htw]

theorem State.chainHead_congr (h : t.tbl = s.tbl) : ∀ n d, t.chainHead e n d = s.chainHead e n d
  | 0, _ => rfl
  | n + 1, d => by simp only [State.chainHead, State.chainW_congr h, State.chainHead_congr h n]

theorem State.chainCost_congr (h : t.tbl = s.tbl) (d : Nat) : t.chainCost e d = s.chainCost e d := by
  simp only [State.chainCost, State.chainIn, State.chainW_congr h, State.chainHead_congr h]

theorem State.freshChain_congr (h : t.tbl = s.tbl) (ht : t.tsu = s.tsu) (x : Chain) : t.freshChain e c x = s.freshChain e c x := by
  simp only [State.freshChain, State.chainDelay, State.tick, State.chainW_congr h, State.chainHead_congr h, State.chainCost_congr h, ht]

theorem exec_fltChainStart_starts (hon : s.onMain = true) (he : e < 64) (hu : s.unusable (pFLT e) = false) (hr : (s.chain e c).running = false)
    (hp : (s.hd (pFLT e)).commitPending = false) (hc : s.chainCheck e c (fun i => cUsed (s.chainW e i)) = none)
    (hl : s.chainCost e c + ((s.fe e).chains.map (s.load e)).sum ≤ 120000) :
    ∃ t, exec (.fltChainStart e c) s = .next t ∧ sget {} c (t.fe e).chains = s.freshChain e c (s.chain e c) ∧ (t.hd (pFLT e)).cfgErr = false ∧
      (∀ d, d ≠ c → sget {} d (t.fe e).chains = { sget {} d (s.fe e).chains with
        cost := if (sget {} d (s.fe e).chains : Chain).running then s.chainCost e d else (sget {} d (s.fe e).chains : Chain).cost }) ∧
      (∀ q, q ≠ e → t.fe q = s.fe q) ∧ ({ s with flt := t.flt } : State).Quiet [pFLT e] t := by
  obtain ⟨w, hun, hqw, hexec⟩ := actReg_eff (p := pFLT e) (f := fun s => s.chainStart e c R.FLT_CHAIN_CMD) hon
  have hpw : (({ s with hdrs := w } : State).hd (pFLT e)).commitPending = false := by rw [hqw.hdIn]; exact hp
  have hcommit : ({ s with hdrs := w } : State).fltCommitNow e = { s with hdrs := w } := by
    rw [State.fltCommitNow, hpw]
    exact if_neg Bool.false_ne_true
  obtain ⟨v, hv, hvfe, hvo, hcost⟩ : ∃ v, ({ s with hdrs := w } : State).setFe e { s.fe e with
        chains := sput c (s.freshChain e c (s.chain e c)) (s.fe e).chains } = v ∧
      v.fe e = { s.fe e with chains := sput c (s.freshChain e c (s.chain e c)) (s.fe e).chains } ∧ State.FltOnly e s v ∧
      (∀ d, v.chainCost e d = s.chainCost e d) :=
    ⟨_, rfl, State.fe_setFe _ e _, (State.FltOnly.of_quiet hqw).setFe _, fun _ => State.chainCost_congr (by rfl) _⟩
  obtain ⟨a, ha, hafe, hao⟩ : ∃ a, v.recost e = a ∧
      a.fe e = { s.fe e with chains := s.recosted e (sput c (s.freshChain e c (s.chain e c)) (s.fe e).chains) } ∧ State.FltOnly e s a := by
    refine ⟨_, rfl, ?_, hvo.setFe _⟩
    rw [State.recost, State.fe_setFe, hvfe]
    simp only [hcost]
    rfl
  have hload : a.fltLoad e ≤ 120000 := by
    rw [State.fltLoad, hafe]
    exact (State.load_recosted _).trans_le ((State.load_sput _ _).trans hl)
  have hgo : ({ s with hdrs := w } : State).chainStart e c R.FLT_CHAIN_CMD = a.accept (pFLT e) := by
    rw [State.chainStart, hun, hu, if_neg Bool.false_ne_true]
    dsimp only
    rw [hcommit, show (sget ({} : Chain) c (({ s with hdrs := w } : State).fe e).chains).running = false from hr, if_neg Bool.false_ne_true,
      show ({ s with hdrs := w } : State).chainCheck e c (fun i => cUsed (({ s with hdrs := w } : State).chainW e i)) = none from hc]
    dsimp only
    rw [State.freshChain_congr (s := s) (by rfl) (by rfl), show (({ s with hdrs := w } : State).setFe e { ({ s with hdrs := w } : State).fe e with
        chains := sput c (s.freshChain e c (sget {} c (({ s with hdrs := w } : State).fe e).chains))
          (({ s with hdrs := w } : State).fe e).chains }) = v from hv, ha]
    exact if_neg (Nat.not_lt.mpr hload)
  rw [hgo] at hexec
  obtain ⟨t, ht, htfe, hth, hto⟩ : ∃ t, a.accept (pFLT e) = t ∧ t.fe e = a.fe e ∧ (t.hd (pFLT e)).cfgErr = false ∧ State.FltOnly e s t := by
    refine ⟨_, rfl, by simp [State.fe], ?_, hao.quiet ?_⟩
    · rw [State.accept, headPage_pFLT he]
      simp
    · exact (State.Quiet.refl _ a).accept (by rw [headPage_pFLT he]; simp)
  rw [ht] at hexec
  obtain ⟨hq, hother⟩ := hto
  refine ⟨_, (exec_fltChainStart e c s).trans hexec, ?_, ?_, fun d hd => ?_, hother, hq.pend⟩
  · show sget {} c (t.fe e).chains = _
    rw [htfe, hafe]
    simp only [State.sget_recosted, sget_sput_same]
    obtain ⟨y, hy, hyr, hyc⟩ : ∃ y, s.freshChain e c (s.chain e c) = y ∧ y.running = true ∧ y.cost = s.chainCost e c := ⟨_, rfl, rfl, rfl⟩
    rw [hy, if_pos hyr, ← hyc]
  · exact hth
  · show sget {} d (t.fe e).chains = _
    rw [htfe, hafe]
    simp only [State.sget_recosted, sget_sput_other _ _ _ _ _ hd]

theorem exec_fltChainStart_refused {code : Nat} (hon : s.onMain = true) (he : e < 64) (hu : s.unusable (pFLT e) = false)
    (hr : (s.chain e c).running = false) (hp : (s.hd (pFLT e)).commitPending = false)
    (hc : s.chainCheck e c (fun i => cUsed (s.chainW e i)) = some code) :
    ∃ t, exec (.fltChainStart e c) s = .next t ∧ (t.hd (pFLT e)).cfgErr = true ∧ (t.hd (pFLT e)).errCode = w32 (R.FLT_CHAIN_CMD * 256 + code) ∧
      s.Quiet [pFLT e] t := by
  obtain ⟨u, hu', hexec⟩ := actReg_next (p := pFLT e) (f := fun s => s.chainStart e c R.FLT_CHAIN_CMD) hon
  obtain ⟨w, hw, hun, hpw⟩ : ∃ w, s.touch (pFLT e) = { s with hdrs := w } ∧ (s.touch (pFLT e)).unusable (pFLT e) = s.unusable (pFLT e) ∧
      ((s.touch (pFLT e)).hd (pFLT e)).commitPending = (s.hd (pFLT e)).commitPending := by
    obtain ⟨w, hw⟩ := s.touch_eq (pFLT e)
    have hq : s.Quiet [pFLT e] (s.touch (pFLT e)) := (State.Quiet.refl _ s).touch (by simp)
    exact ⟨w, hw, hq.unusable _, by rw [hq.hdIn]⟩
  have hgo : (s.touch (pFLT e)).chainStart e c R.FLT_CHAIN_CMD = (s.touch (pFLT e)).refuse (pFLT e) R.FLT_CHAIN_CMD code := by
    rw [hw] at hun hpw ⊢
    have hcommit : ({ s with hdrs := w } : State).fltCommitNow e = { s with hdrs := w } := by
      rw [State.fltCommitNow, hpw, hp]
      exact if_neg Bool.false_ne_true
    rw [State.chainStart, hun, hu, if_neg Bool.false_ne_true]
    dsimp only
    rw [hcommit, show (sget ({} : Chain) c (({ s with hdrs := w } : State).fe e).chains).running = false from hr, if_neg Bool.false_ne_true,
      show ({ s with hdrs := w } : State).chainCheck e c (fun i => cUsed (({ s with hdrs := w } : State).chainW e i)) = some code from hc]
  rw [hgo] at hu'
  obtain ⟨herr, -⟩ := (s.touch (pFLT e)).hd_refuse (pFLT e) R.FLT_CHAIN_CMD code
  obtain ⟨t, ht, hth⟩ : ∃ t, t = { u with pending := s.pending } ∧ ∀ q, t.hd q = u.hd q := ⟨_, rfl, fun _ => rfl⟩
  obtain ⟨hcode, hq⟩ := State.refuse_touch_headPage (s := s) (t := t) (headPage_pFLT he) (by rw [ht, hu'])
  rw [headPage_pFLT he, ← hu', ← hth] at herr
  exact ⟨t, ht ▸ (exec_fltChainStart e c s).trans hexec, herr, hcode, hq⟩

/-! ### The run of a tick (R149, R157) -/

/-- What a step of the run leaves: the other engines, the copies asked for and the changed references of this one, what the module has
besides its filters, and memory. -/
structure State.FltKept (e : Nat) (s t : State) : Prop where
  other : ∀ q, q ≠ e → t.fe q = s.fe q
  copies : (t.fe e).copies = (s.fe e).copies
  changed : (t.fe e).changed = (s.fe e).changed
  acts : t.acts = s.acts
  sva : t.sva = s.sva
  tsu : t.tsu = s.tsu
  mem : t.mem = s.mem

theorem State.FltKept.trans (h : State.FltKept e s t) (h' : State.FltKept e t u) : State.FltKept e s u :=
  ⟨fun q hq => (h'.other q hq).trans (h.other q hq), h'.copies.trans h.copies, h'.changed.trans h.changed, h'.acts.trans h.acts,
    h'.sva.trans h.sva, h'.tsu.trans h.tsu, h'.mem.trans h.mem⟩

theorem State.Yarded.fe (h : s.Yarded t) (q : Nat) : t.fe q = s.fe q := by rw [State.fe, h.flt]; rfl

theorem State.Yarded.fltKept (h : s.Yarded t) : State.FltKept e s t :=
  ⟨fun q _ => h.fe q, by rw [h.fe], by rw [h.fe], h.acts, h.sva, h.tsu, h.mem⟩

theorem State.fltKept_setFe {x : FltEng} (hc : x.copies = (s.fe e).copies) (hg : x.changed = (s.fe e).changed) : State.FltKept e s (s.setFe e x) :=
  ⟨fun q hq => s.fe_setFe_other e q x hq, by rw [s.fe_setFe, hc], by rw [s.fe_setFe, hg], rfl, rfl, rfl, rfl⟩

theorem State.fltKept_same (hf : t.flt = s.flt) (ha : t.acts = s.acts) (hs : t.sva = s.sva) (ht : t.tsu = s.tsu) (hm : t.mem = s.mem) :
    State.FltKept e s t := by
  have hfe (q : Nat) : t.fe q = s.fe q := by rw [State.fe, hf]; rfl
  exact ⟨fun q _ => hfe q, by rw [hfe], by rw [hfe], ha, hs, ht, hm⟩

theorem State.fltKept_setRg (p o : Nat) (v : Word) : State.FltKept e s (s.setRg p o v) := State.fltKept_same rfl rfl rfl rfl rfl

theorem State.fe_setRg (p o : Nat) (v : Word) (q : Nat) : (s.setRg p o v).fe q = s.fe q := rfl

theorem State.FltKept.foldl {α : Type} {f : State → α → State} (hf : ∀ (u : State) a, State.FltKept e u (f u a)) (l : List α) (s : State) :
    State.FltKept e s (l.foldl f s) :=
  List.foldlRecOn (motive := fun u => State.FltKept e s u) l f (State.fltKept_same rfl rfl rfl rfl rfl) fun u hu a _ => hu.trans (hf u a)

theorem State.fltKept_setTws (a : Nat) (ws : List Word) : State.FltKept e s (s.setTws a ws) := by
  induction ws generalizing s a with
  | nil => exact State.fltKept_same rfl rfl rfl rfl rfl
  | cons w ws ih =>
    rw [State.setTws]
    exact (State.fltKept_same (s := s) (t := s.setTw a w) rfl rfl rfl rfl rfl).trans (ih (s := s.setTw a w) (a + 4))

theorem State.fltKept_thrRaise (w : Word) (ev : ThrEvent) : State.FltKept e s (s.thrRaise e w ev) := by
  unfold State.thrRaise
  extract_lets s1 s2 s3
  have h1 : State.FltKept e s s1 := ((s.yarded_bump _ _).trans (State.yarded_irq _ _ _)).fltKept
  have h2 : State.FltKept e s1 s2 := by dsimp only [s2]; split <;> exact State.fltKept_same rfl rfl rfl rfl rfl
  have h3 : State.FltKept e s2 s3 := by dsimp only [s3]; split <;> exact State.fltKept_same rfl rfl rfl rfl rfl
  have h := (h1.trans h2).trans h3
  split
  · split
    · exact h.trans ((s3.yarded_bump _ _).trans (State.yarded_irq _ _ _)).fltKept
    · exact h.trans (State.fltKept_setFe rfl rfl)
  · exact h

theorem State.fltKept_runChain (k : Nat) (refs : List RefSt) (outs : List (Nat × List OutSmp)) :
    State.FltKept e s (s.runChain e k c refs outs).2 := by
  unfold State.runChain
  extract_lets x y b ws src srcValid x' r y1 lost last y2 y3 s1 s2 s3 s4 s5
  have hput (z : Chain) : State.FltKept e s ((s.setFe e { s.fe e with chains := sput c z (s.fe e).chains }).putOut e c k z) := by
    rw [State.putOut]
    exact State.FltKept.trans (State.fltKept_setFe (by rfl) (by rfl)) (State.fltKept_setTws _ _)
  split
  · exact hput y
  · have h2 : State.FltKept e s1 s2 := (s1.yarded_bumpBy _ _ _).fltKept
    have h3 : State.FltKept e s2 s3 := by
      dsimp only [s3]
      split
      · exact (s2.yarded_irq _ _).fltKept
      · exact (State.Yarded.refl s2).fltKept
    have h4 : State.FltKept e s3 s4 := by
      dsimp only [s4]
      split
      · exact (s3.yarded_irq _ _).fltKept
      · exact (State.Yarded.refl s3).fltKept
    exact (((hput y3).trans h2).trans (h3.trans h4)).trans (State.FltKept.foldl (fun u _ => u.fltKept_thrRaise _ _) _ _)

theorem State.fltKept_runs (k : Nat) (refs : List RefSt) (l : List Nat) (outs : List (Nat × List OutSmp)) (s : State) :
    State.FltKept e s (l.foldl (fun acc c => acc.2.runChain e k c refs acc.1) (outs, s)).2 := by
  induction l generalizing outs s with
  | nil => exact State.fltKept_same rfl rfl rfl rfl rfl
  | cons c l ih => exact (s.fltKept_runChain k refs outs).trans (ih _ _)

/-- The engine has run tick `k`. -/
structure State.FltTaken (e k : Nat) (s t : State) : Prop where
  lastRun : (t.fe e).lastRun = some k
  copies : (t.fe e).copies = []
  changed : (t.fe e).changed = []
  shown : t.rg (pFLT e) R.FLT_LAST_TICK = tagOf k
  other : ∀ q, q ≠ e → t.fe q = s.fe q
  acts : t.acts = s.acts
  sva : t.sva = s.sva
  tsu : t.tsu = s.tsu
  mem : s.flips = [] → s.poison = [] → t.mem = s.mem

theorem State.FltTaken.yarded {k : Nat} (h : State.FltTaken e k s t) (hy : t.Yarded u) : State.FltTaken e k s u :=
  ⟨by rw [hy.fe, h.lastRun], by rw [hy.fe, h.copies], by rw [hy.fe, h.changed], by rw [State.rg, hy.regs]; exact h.shown,
    fun q hq => (hy.fe q).trans (h.other q hq), hy.acts.trans h.acts, hy.sva.trans h.sva, hy.tsu.trans h.tsu,
    fun hf hp => hy.mem.trans (h.mem hf hp)⟩

theorem State.fltTaken_fltRun {k done : Nat} (hn : s.fltNext e = some (k, done)) (hl : s.fltLive e = true) (hw : s.fltWaits e k = false)
    (hp : (s.hd (pFLT e)).commitPending = false) : State.FltTaken e k s (s.fltRun e) := by
  have hrel : s.fltReleased e = s := by rw [State.fltReleased, hp]; exact if_neg Bool.false_ne_true
  rw [State.fltRun, hn]
  dsimp -zeta only
  rw [hl, hw, if_neg (by simp), hrel]
  extract_lets x late hit b chains refs s1 s2 r s3 after newLost load s4 b5 s5 s6 s7 s8
  have h1 : State.FltKept e (s.setFe e { s.fe e with chains := chains, changed := [], copies := [] }) s1 := State.fltKept_setFe (by rfl) (by rfl)
  have hq : s1.MemRead s2 := (State.MemRead.refl s1).readAt _ _ _
  have hfe (q : Nat) : s2.fe q = s1.fe q := by rw [State.fe, hq.flt]; rfl
  have hmem (hf : s.flips = []) (hp : s.poison = []) : s2.mem = s1.mem := by
    rw [show s2 = s1 from State.readAt_clean (s := s1) hf hp _ _ _]
  clear_value s2
  have h3 : State.FltKept e s2 s3 := State.fltKept_runs _ _ _ _ _
  clear_value s3 after newLost load
  have h4 : State.FltKept e s3 s4 := by
    dsimp only [s4, iter]
    exact State.FltKept.foldl (fun u n => (State.fltKept_setRg _ _ _).trans (State.fltKept_setRg _ _ _)) _ _
  clear_value s4
  have h5 : State.FltKept e s4 s5 := State.fltKept_setFe rfl rfl
  have hkept : State.FltKept e s2 s5 := (h3.trans h4).trans h5
  have hlast : (s6.fe e).lastRun = some k := by
    dsimp only [s6, s5]
    rw [State.fe_setRg, State.fe_setRg, State.fe_setFe]
  have hshown : s6.rg (pFLT e) R.FLT_LAST_TICK = tagOf k := by
    rw [State.rg_setRg_other _ _ _ _ _ _ (by unfold ka; simp only [R.FLT_LAST_TICK, R.FLT_RUN_TIME]; omega), State.rg_setRg]
  have hran : State.FltKept e s2 s6 := (hkept.trans (State.fltKept_setRg _ _ _)).trans (State.fltKept_setRg _ _ _)
  clear_value s6
  have h6 : State.FltTaken e k s s6 :=
    { lastRun := hlast
      copies := hran.copies.trans (by rw [hfe, h1.copies, State.fe_setFe])
      changed := hran.changed.trans (by rw [hfe, h1.changed, State.fe_setFe])
      shown := hshown
      other := fun q hne => (hran.other q hne).trans ((hfe q).trans ((h1.other q hne).trans (s.fe_setFe_other e q _ hne)))
      acts := hran.acts.trans (hq.acts.trans h1.acts)
      sva := hran.sva.trans (hq.sva.trans h1.sva)
      tsu := hran.tsu.trans (hq.tsu.trans h1.tsu)
      mem := fun hf hp => hran.mem.trans ((hmem hf hp).trans h1.mem) }
  have h8 : State.FltTaken e k s s8 := by
    dsimp only [s8]
    split
    · exact (h6.yarded (s6.yarded_bumpBy _ _ _)).yarded (s7.yarded_irq _ _)
    · exact h6.yarded (s6.yarded_bumpBy _ _ _)
  split
  · exact h8.yarded (s8.yarded_bump _ _)
  · exact h8

theorem State.yarded_rsend (tick : Nat) : ∀ (l : List (Nat × RStateMsg)) (s : State), s.Yarded (s.rsend tick l)
  | [], s => State.Yarded.refl s
  | [_], s => s.yarded_yardSend _
  | (_, _) :: m :: l, s => (s.yarded_yardSend _).trans (State.yarded_rsend tick (m :: l) _)

theorem State.yarded_sendRefs (b : Option Nat) : s.Yarded (s.sendRefs e b) := by
  unfold State.sendRefs
  split
  · split
    · exact State.yarded_rsend _ _ _
    · exact State.Yarded.refl s
  · exact State.Yarded.refl s

theorem State.sendRefs_same : s.sendRefs e (s.fe e).lastRun = s := by
  unfold State.sendRefs
  split
  · exact if_neg fun h => h.1 rfl
  · rfl

theorem exec_fltTickRun_takes {k done : Nat} (hon : s.onMain = true) (he : e < 64) (hn : s.fltNext e = some (k, done)) (hl : s.fltLive e = true)
    (hw : s.fltWaits e k = false) (hp : (s.hd (pFLT e)).commitPending = false) :
    ∃ t, exec (.fltTickRun e) s = .next t ∧ State.FltTaken e k s t := by
  obtain ⟨u, hu, hexec⟩ := act_next (f := fun s => if e < 64 then s.fltTickRun e else s) hon
  rw [if_pos he] at hu
  have h : State.FltTaken e k s u := hu ▸ (State.fltTaken_fltRun hn hl hw hp).yarded (State.yarded_sendRefs _)
  exact ⟨_, (exec_fltTickRun e s).trans hexec, h.yarded ⟨rfl, rfl, rfl, rfl, rfl, rfl, rfl⟩⟩

theorem exec_fltTickRun_waits {k done : Nat} (he : e < 64) (hn : s.fltNext e = some (k, done))
    (hw : s.fltWaits e k = true) : exec (.fltTickRun e) s = .next s := by
  have hrun : s.fltRun e = s := by
    rw [State.fltRun, hn]
    dsimp only
    rw [hw, if_pos (by simp)]
  rw [exec_fltTickRun]
  refine act_same ?_
  rw [if_pos he, State.fltTickRun, hrun, State.sendRefs_same]

end

/-- Settles O28: the commands of a chain set that chain alone, and a run takes its tick unless the last run or a reference's engine is behind. -/
theorem filterEngines : Obligations.FilterEngines := by
  unfold Obligations.FilterEngines
  refine ⟨fun e c x s hon he hu hx => ⟨fun hr hp => ⟨fun hc hl => ?_, fun code hc => ?_⟩, fun hr => ?_, fun hs => ?_,
    fun v ht hs => exec_fltRefCmd_notes hon hu ht hs, exec_fltEvtPop_pops hon⟩, fun e k done s hon he hn hl hd hp => ⟨fun hend hcop => ?_, fun hw => ?_⟩⟩
  · rw [hx] at hr
    obtain ⟨t, hexec, hy, herr, hrest⟩ := exec_fltChainStart_starts hon he hu hr hp hc hl
    refine ⟨t, s.freshChain e c (s.chain e c), hexec, hy.symm, rfl, rfl, rfl, rfl, rfl, fun st hst => ?_, rfl, herr, rfl, hrest⟩
    obtain ⟨_, _, hst⟩ := List.mem_map.1 hst
    exact hst.symm
  · rw [hx] at hr
    exact exec_fltChainStart_refused hon he hu hr hp hc
  · subst hx
    exact exec_fltChainStop_stops hon hu hr
  · subst hx
    exact exec_clearSat_clears hon hu hs
  · have hw : s.fltWaits e k = false := by
      have hcop' : (s.fe e).copies.any (fun c => s.fltBehind c.2.1 k) = false := by simpa using fun c d f hc => hcop (c, d, f) hc
      rw [State.fltWaits, hcop', beq_eq_false_iff_ne.2 hd]
      simpa using hend
    obtain ⟨t, hexec, h⟩ := exec_fltTickRun_takes hon he hn hl hw hp
    exact ⟨t, hexec, h.lastRun, h.copies, h.changed, h.shown, h.other, h.acts, h.sva, h.tsu, h.mem⟩
  · refine exec_fltTickRun_waits he hn ?_
    rw [State.fltWaits]
    rcases hw with hend | ⟨c, hc, hb⟩
    · rw [decide_eq_true hend]
      rfl
    · rw [List.any_eq_true.2 ⟨c, hc, hb⟩, Bool.or_true]

end Sys2Proof.Machine
end

section
/-!
PROOFS. Frames of a sampled-value stream, strangers, and the states of a stream (R112 to R136).
-/
namespace Sys2Proof.Machine
open Sys2Proof

section
variable {s t : State}

/-! ### A frame of a lane (R112, R116) -/

/-- A frame is matched by what a quiet state keeps. -/
theorem State.Quiet.svMatch {ps : List Nat} (h : s.Quiet ps t) (f : Frame) (p : SvPdu) (arr : Nat) : t.svMatch f p arr = s.svMatch f p arr := by
  have hsub (n : Nat) : t.sub n = s.sub n := by simp only [State.sub, State.tws, h.tw]
  simp only [State.svMatch, State.validSubs, State.strm, hsub, h.sva]
  rfl

theorem State.Quiet.closedUpTo {ps : List Nat} (h : s.Quiet ps t) (k : Nat) : t.closedUpTo k = s.closedUpTo k := by
  rw [State.closedUpTo, h.sva]
  rfl

/-- The plane is set over a quiet state. -/
theorem State.Quiet.withSva {ps : List Nat} (h : s.Quiet ps t) (v : Sva) : ({ s with sva := v } : State).Quiet ps { t with sva := v } :=
  h.over (congrArg (fun y : State => { y with sva := v }) h.rest) rfl rfl rfl rfl

theorem State.Quiet.extend {ps : List Nat} (h : s.Quiet ps t) (n : Nat) : t.extend n = s.extend n := by
  simp only [State.extend, h.ns, h.short]

/-- The state with the head of a lane taken. -/
def State.laneTaken (s : State) (lane : Nat) (rest : List QEntry) : State := s.updSwc (fun c => { c with lanes := c.lanes.set lane rest })

/-- The running plane decodes the frame at the head of a lane. -/
theorem exec_svFrameDecode_sv {lane : Nat} {x : QEntry} {rest : List QEntry} {p : SvPdu} (hon : s.onMain = true) (hr : s.running pSVA = true)
    (he : (s.hd pSVA).enable = true) (hl : s.swc.lanes[lane]? = some (x :: rest)) (hb : x.frame.body = .sv p) :
    ∃ u, u = (s.laneTaken lane rest).svFrame x p ∧ exec (.svFrameDecode lane) s = .next { u with pending := s.pending } := by
  obtain ⟨u, hu, hexec⟩ := act_next (f := fun s => s.svDecode lane) hon
  refine ⟨u, ?_, (exec_svFrameDecode lane s).trans hexec⟩
  rw [State.svDecode, hl] at hu
  rw [hu]
  show (if !(s.hd pSVA).enable then _ else _) = _
  rw [he, if_neg (by simp)]
  show (if !(s.laneTaken lane rest).running pSVA then _ else _) = _
  rw [show (s.laneTaken lane rest).running pSVA = true from hr, if_neg (by simp), hb]
  rfl

/-! ### Strangers (R136) -/

/-- A stranger as its first frame shows it. -/
def firstStranger (x : QEntry) (p : SvPdu) : Stranger :=
  {
    port := x.ing, noAsdu := p.noAsdu, synch := (match p.asdus.getLast? with | some a => a.smpSynch | none => 0), appid := x.frame.appid,
    sa := x.frame.sa, vid := (match x.frame.vlan with | some v => v.2 | none => 0),
    channels := (match p.asdus.head? with | some a => min 255 (a.seqLen / 8) | none => 0),
    first := x.stamp, last := x.stamp, frames := 1, svid := p.svid }

theorem State.stranger_first {x : QEntry} {p : SvPdu} (hc : bit (s.ac pSVA R.SVA_CFG) 16 = true) (hs : s.sva.strangers = []) :
    s.stranger x p = (s.updSva (fun v => { v with strangers := [firstStranger x p] })).irq pSVA 5 := by
  rw [State.stranger, hc, hs]
  simp only [Bool.not_true, Bool.false_eq_true, if_false, List.any_nil, List.length_nil, Nat.reduceLeDiff]
  rw [State.updSva, hs]
  rfl

theorem exec_svFrameDecode_stranger {lane : Nat} {x : QEntry} {rest : List QEntry} {p : SvPdu} (hon : s.onMain = true) (hr : s.running pSVA = true)
    (he : (s.hd pSVA).enable = true) (hl : s.swc.lanes[lane]? = some (x :: rest)) (hb : x.frame.body = .sv p)
    (hm : s.svMatch x.frame p (s.extend x.stamp) = none) (hc : bit (s.ac pSVA R.SVA_CFG) 16 = true) (hs : s.sva.strangers = []) :
    ∃ t n, exec (.svFrameDecode lane) s = .next t ∧ t.sva.strangers = [n] ∧ n.sa = x.frame.sa ∧ n.appid = x.frame.appid ∧
      n.svid = p.svid ∧ n.port = x.ing ∧ n.first = x.stamp ∧ n.frames = 1 ∧ bit (t.hd pSVA).irqStatus 5 = true ∧
      t.cn pSVA R.SVA_CNT_FRAMES_IN = min (cntMax pSVA R.SVA_CNT_FRAMES_IN) (s.cn pSVA R.SVA_CNT_FRAMES_IN + 1) ∧
      t.cn pSVA R.SVA_CNT_NO_MATCH = min (cntMax pSVA R.SVA_CNT_NO_MATCH) (s.cn pSVA R.SVA_CNT_NO_MATCH + 1) ∧
      ({ s with
        sva := { s.sva with strangers := [n] }, swc := { s.swc with lanes := s.swc.lanes.set lane rest } } : State).Quiet [pSVA] t := by
  obtain ⟨u, hu, hexec⟩ := exec_svFrameDecode_sv hon hr he hl hb
  obtain ⟨a, ha, hqa, hca1, hca2⟩ : ∃ a, a = ((s.laneTaken lane rest).bump pSVA R.SVA_CNT_FRAMES_IN).bump pSVA R.SVA_CNT_NO_MATCH ∧
      (s.laneTaken lane rest).Quiet [pSVA] a ∧
      a.cn pSVA R.SVA_CNT_FRAMES_IN = min (cntMax pSVA R.SVA_CNT_FRAMES_IN) (s.cn pSVA R.SVA_CNT_FRAMES_IN + 1) ∧
      a.cn pSVA R.SVA_CNT_NO_MATCH = min (cntMax pSVA R.SVA_CNT_NO_MATCH) (s.cn pSVA R.SVA_CNT_NO_MATCH + 1) := by
    refine ⟨_, rfl, ((State.Quiet.refl _ _).bump (by simp) _ (by decide)).bump (by simp) _ (by decide), ?_, ?_⟩
    · rw [State.cn_bump_other _ _ _ _ _ (by decide), State.cn_bump]
      rfl
    · rw [State.cn_bump, State.cn_bump_other _ _ _ _ _ (by decide)]
      rfl
  have hq1 : (s.laneTaken lane rest).Quiet [pSVA] ((s.laneTaken lane rest).bump pSVA R.SVA_CNT_FRAMES_IN) :=
    (State.Quiet.refl _ _).bump (by simp) _ (by decide)
  rw [State.svFrame, hq1.svMatch, hq1.extend, show (s.laneTaken lane rest).svMatch x.frame p ((s.laneTaken lane rest).extend x.stamp) = none from hm] at hu
  dsimp only at hu
  rw [← ha, State.stranger_first (by rw [hqa.ac]; exact hc) (by rw [hqa.sva]; exact hs)] at hu
  have hqu : ({ s with
      sva := { s.sva with strangers := [firstStranger x p] }, swc := { s.swc with lanes := s.swc.lanes.set lane rest } } : State).Quiet [pSVA] u := by
    have hset : (a.updSva (fun v => { v with strangers := [firstStranger x p] })).irq pSVA 5 =
        ({ a with sva := { s.sva with strangers := [firstStranger x p] } } : State).irq pSVA 5 := by
      rw [State.updSva, hqa.sva]
      rfl
    rw [hu, hset]
    exact (hqa.withSva _).irq (by simp) _
  refine ⟨_, firstStranger x p, hexec, ?_, rfl, rfl, rfl, rfl, rfl, rfl, ?_, ?_, ?_, hqu.pend⟩
  · show u.sva.strangers = _
    rw [hqu.sva]
  · show bit (u.hd pSVA).irqStatus 5 = true
    rw [hu]
    exact State.bit_irq _ _ (by decide)
  · show u.cn _ _ = _
    rw [hu, State.cn, State.irq_cnts]
    exact hca1
  · show u.cn _ _ = _
    rw [hu, State.cn, State.irq_cnts]
    exact hca2

/-! ### Placement (R114 to R120) -/

/-- A sample within the tolerance of its second, not placed yet and not late, is placed. -/
theorem State.placeSync_places {slot : Nat} {e : Sub} {a : SvAsdu} {arr n : Nat} {d sec : Int} (hreq : Sub.reqSync e = 0)
    (hd : d = (arr : Int) * Sub.rate e - (a.smpCnt : Int) * 1000000000)
    (hsec : sec = (d + Sub.rate e * 500000000) / (Sub.rate e * 1000000000))
    (htol : -(fld (s.ac pSVA R.SVA_CFG) 8 8 * 1000 * Sub.rate e : Int) ≤ d - sec * (Sub.rate e * 1000000000))
    (hn : n = (sec * Sub.rate e + a.smpCnt).toNat) (hnew : ∀ m ∈ (s.strm slot).samples, m.idx ≠ n)
    (hcl : s.closedUpTo (firstNeed (Sub.rate e) (Sub.phases e) n) = false) :
    s.placeSync slot e a arr false =
      s.setStrm slot { s.strm slot with samples := (s.strm slot).samples ++ [{ idx := n, vals := Sub.pick e a false false }] } := by
  have hany : (s.strm slot).samples.any (fun m => m.idx == n) = false := by simpa using hnew
  rw [State.placeSync]
  dsimp only
  rw [← hd, ← hsec, ← hn, if_neg (not_lt.2 htol), hany, if_neg Bool.false_ne_true, hcl, hreq]
  rfl

theorem State.svFrame_places {x : QEntry} {p : SvPdu} {slot n : Nat} {e : Sub} {a : SvAsdu} {d sec : Int}
    (hm : s.svMatch x.frame p (s.extend x.stamp) = some slot) (he : e = s.sub slot) (hp : p.asdus = [a]) (hc : s.svCause e p = none)
    (hauth : Sub.auth e = 0) (hsync : Sub.unsync e = false) (hreq : Sub.reqSync e = 0)
    (hd : d = (s.extend x.stamp : Int) * Sub.rate e - (a.smpCnt : Int) * 1000000000)
    (hsec : sec = (d + Sub.rate e * 500000000) / (Sub.rate e * 1000000000))
    (htol : -(fld (s.ac pSVA R.SVA_CFG) 8 8 * 1000 * Sub.rate e : Int) ≤ d - sec * (Sub.rate e * 1000000000))
    (hn : n = (sec * Sub.rate e + a.smpCnt).toNat) (hnew : ∀ m ∈ (s.strm slot).samples, m.idx ≠ n)
    (hcl : s.closedUpTo (firstNeed (Sub.rate e) (Sub.phases e) n) = false) :
    ∃ l, s.svFrame x p = { s.bump pSVA R.SVA_CNT_FRAMES_IN with sva := { s.sva with streams := l } } ∧
      (sget {} slot l : Stream).samples = (s.strm slot).samples ++ [{ idx := n, vals := Sub.pick e a false false }] ∧
      (sget {} slot l : Stream).lastCnt = a.smpCnt ∧ (sget {} slot l : Stream).state = (s.strm slot).state ∧
      ∀ q, q ≠ slot → sget ({} : Stream) q l = s.strm q := by
  have hq : s.Quiet [pSVA] (s.bump pSVA R.SVA_CNT_FRAMES_IN) := (State.Quiet.refl _ _).bump (by simp) _ (by decide)
  rw [State.svFrame]
  generalize s.bump pSVA R.SVA_CNT_FRAMES_IN = b at *
  have hstrm (q : Nat) : b.strm q = s.strm q := by rw [State.strm, hq.sva]; rfl
  have hsub : b.sub slot = e := by rw [he]; simp only [State.sub, State.tws, hq.tw]
  have hcause : b.svCause e p = none := by rw [← hc]; simp only [State.svCause, hq.ac]
  obtain ⟨v, hv, hvac, hvcl, hvsva⟩ : ∃ v, v = b.setStrm slot { (s.strm slot).count 6 with
      lastSynch := a.smpSynch, lastCnt := a.smpCnt, lastStamp := x.stamp } ∧ v.ac pSVA R.SVA_CFG = s.ac pSVA R.SVA_CFG ∧
      (∀ k, v.closedUpTo k = s.closedUpTo k) ∧
      v = { b with sva := { s.sva with streams := v.sva.streams } } :=
    ⟨_, rfl, hq.ac _ _, fun k => hq.closedUpTo k, by rw [State.setStrm, State.updSva, hq.sva]⟩
  have hvs : v.strm slot = { (s.strm slot).count 6 with lastSynch := a.smpSynch, lastCnt := a.smpCnt, lastStamp := x.stamp } := by
    rw [hv, State.strm_setStrm]
  have hvo (q : Nat) (hne : q ≠ slot) : v.strm q = s.strm q := by rw [hv, State.strm_setStrm_other _ _ _ _ hne, hstrm]
  have hplace := State.placeSync_places (s := v) (slot := slot) hreq hd hsec (by rw [hvac]; exact htol) hn (by rw [hvs]; exact hnew) (by rw [hvcl]; exact hcl)
  refine ⟨sset {} slot { v.strm slot with samples := (v.strm slot).samples ++ [{ idx := n, vals := Sub.pick e a false false }] } v.sva.streams, ?_, ?_⟩
  · rw [hq.svMatch, hq.extend, hm]
    dsimp only
    rw [hsub, hcause, show b.svAuth e p = ((true, false, false), b) from if_pos hauth]
    dsimp only
    rw [if_neg (by simp), if_neg Bool.false_ne_true, hreq, if_neg (by simp), hp, hstrm]
    simp only [List.getLast?_singleton, List.foldl_cons, List.foldl_nil, hsync, Bool.false_eq_true, if_false]
    rw [← hv, hplace, State.setStrm, State.updSva, hvsva]
  · rw [sget_sset_same]
    refine ⟨?_, ?_, ?_, fun q hne => ?_⟩
    · rw [hvs]
      rfl
    · rw [hvs]
    · rw [hvs]
      rfl
    · rw [sget_sset_other _ _ _ _ _ _ hne]
      exact hvo q hne

/-! ### States of a stream (R132) -/

theorem Stream.next_present (x : Stream) (recover dropout k : Nat) : (x.next recover dropout k true).presRun = x.presRun + 1 ∧
    (x.next recover dropout k true).missRun = 0 ∧
    (x.next recover dropout k true).state = if x.state = 2 ∨ x.state = 3 then 2 else if recover ≤ x.presRun + 1 then 2 else x.state := by
  rw [Stream.next, if_pos rfl]
  refine ⟨rfl, rfl, ?_⟩
  simp [Bool.or_eq_true]

theorem Stream.next_missing (x : Stream) (recover dropout k : Nat) : (x.next recover dropout k false).presRun = 0 ∧
    (x.next recover dropout k false).missRun = x.missRun + 1 ∧
    (x.next recover dropout k false).state = if x.state = 2 ∨ x.state = 3 then
      (if dropout ≤ x.missRun + 1 then (if (x.missRun = 0 ∨ x.runRej = true) ∧ k ∈ x.rej then 5 else 4) else 3) else x.state := by
  rw [Stream.next, if_neg Bool.false_ne_true]
  refine ⟨rfl, rfl, ?_⟩
  simp [Bool.or_eq_true]

/-! ### SVA_STR_POP (R136) -/

theorem exec_svaStrPop_pops {n : Stranger} {rest : List Stranger} (hon : s.onMain = true) (hs : s.sva.strangers = n :: rest) :
    ∃ t, exec .svaStrPop s = .next t ∧ t.sva = { s.sva with strangers := rest, strHead := (s.sva.strHead + 1) % 64 } ∧
      t = { s with sva := t.sva, hdrs := t.hdrs } := by
  obtain ⟨u, hu, hexec⟩ := actReg_next (p := pSVA) (f := State.strPop) hon
  obtain ⟨w, hw⟩ := s.touch_eq pSVA
  have hsw : ({ s with hdrs := w } : State).sva.strangers = n :: rest := hs
  rw [hw, State.strPop, hsw, if_neg (by simp), State.updSva, hsw] at hu
  subst hu
  exact ⟨_, (exec_svaStrPop s).trans hexec, rfl, rfl⟩

theorem exec_svaStrPop_empty (hon : s.onMain = true) (hs : s.sva.strangers = []) :
    ∃ t, exec .svaStrPop s = .next t ∧ t = { s with hdrs := t.hdrs } := by
  obtain ⟨u, hu, hexec⟩ := actReg_next (p := pSVA) (f := State.strPop) hon
  obtain ⟨w, hw⟩ := s.touch_eq pSVA
  rw [hw, State.strPop, show ({ s with hdrs := w } : State).sva.strangers = [] from hs] at hu
  subst hu
  exact ⟨_, (exec_svaStrPop s).trans hexec, rfl⟩

end

/-- Settles O26: a frame is listed as a stranger or placed by the instant R119 gives it, and a stream's state follows its presence. -/
theorem sampleStreams : Obligations.SampleStreams := by
  unfold Obligations.SampleStreams
  refine ⟨fun lane x rest p s hon hr he hl hb => ⟨fun hm hc hs => exec_svFrameDecode_stranger hon hr he hl hb hm hc hs,
    fun slot e a d sec n hm he' hp hc hauth hsync hreq hd hsec htol hn hnew hcl => ?_⟩,
    fun s hon => ⟨fun n rest hs => exec_svaStrPop_pops hon hs, fun hs => exec_svaStrPop_empty hon hs⟩, fun x recover dropout k hx => ?_⟩
  · obtain ⟨u, hu, hexec⟩ := exec_svFrameDecode_sv hon hr he hl hb
    have hq : (s.laneTaken lane rest).Quiet [pSVA] ((s.laneTaken lane rest).bump pSVA R.SVA_CNT_FRAMES_IN) :=
      (State.Quiet.refl _ _).bump (by simp) _ (by decide)
    obtain ⟨l, hl, hsmp, hcnt, hst, hother⟩ := State.svFrame_places (s := s.laneTaken lane rest) hm he' hp hc hauth hsync hreq hd hsec htol hn hnew hcl
    rw [hl] at hu
    subst hu
    exact ⟨_, hexec, hsmp, hcnt, hst, hother, (hq.withSva _).pend⟩
  · obtain ⟨hpp, hpm, hps⟩ := x.next_present recover dropout k
    obtain ⟨hmp, hmm, hms⟩ := x.next_missing recover dropout k
    have hcases : x.state ∈ [1, 4, 5] → ¬ (x.state = 2 ∨ x.state = 3) := by
      simp only [List.mem_cons, List.not_mem_nil, or_false]
      omega
    rw [hps, hms]
    refine ⟨fun h => if_pos h, fun h => if_neg (hcases h), hpp, hpm, fun h hlt => ?_, fun h hle hrun hk => ?_, fun h hle hnot => ?_,
      fun h => if_neg (hcases h), hmp, hmm⟩
    · rw [if_pos h, if_neg (not_le.2 hlt)]
    · rw [if_pos h, if_pos hle, if_pos ⟨hrun, hk⟩]
    · rw [if_pos h, if_pos hle, if_neg hnot]

end Sys2Proof.Machine
end

section
/-!
PROOFS. The work of capture in a tick (R318 to R326): what it never touches, and the block of a set that fills or is armed.
-/
namespace Sys2Proof.Machine
open Sys2Proof

/-! ### What the work of a tick leaves alone -/

/-- The Choker's levels, the store and its FIFO, the registers, memory, time and the events of the filters stay. -/
structure State.AcqKept (s t : State) : Prop where
  lam : t.acq.lam = s.acq.lam
  chokes : t.acq.chokes = s.acq.chokes
  store : t.acq.store = s.acq.store
  fifo : t.acq.fifo = s.acq.fifo
  regs : t.regs = s.regs
  mem : t.mem = s.mem
  flips : t.flips = s.flips
  poison : t.poison = s.poison
  tsu : t.tsu = s.tsu
  thrAcq : t.thrAcq = s.thrAcq

section
variable {s t u : State}

theorem State.AcqKept.refl (s : State) : s.AcqKept s := ⟨rfl, rfl, rfl, rfl, rfl, rfl, rfl, rfl, rfl, rfl⟩

theorem State.AcqKept.trans (h : s.AcqKept t) (h' : t.AcqKept u) : s.AcqKept u :=
  ⟨h'.lam.trans h.lam, h'.chokes.trans h.chokes, h'.store.trans h.store, h'.fifo.trans h.fifo, h'.regs.trans h.regs, h'.mem.trans h.mem,
    h'.flips.trans h.flips, h'.poison.trans h.poison, h'.tsu.trans h.tsu, h'.thrAcq.trans h.thrAcq⟩

theorem State.AcqKept.foldl {α : Type} {f : State → α → State} (hf : ∀ (u : State) a, u.AcqKept (f u a)) (l : List α) (s : State) :
    s.AcqKept (l.foldl f s) :=
  List.foldlRecOn (motive := fun u => s.AcqKept u) l f (State.AcqKept.refl s) fun u hu a _ => hu.trans (hf u a)

/-- A fold whose state stands beside something that it gathers. -/
theorem State.AcqKept.foldl_fst {α β : Type} {f : State × β → α → State × β} (hf : ∀ c a, State.AcqKept c.1 (f c a).1) (l : List α) (c : State × β) :
    State.AcqKept c.1 (l.foldl f c).1 :=
  List.foldlRecOn (motive := fun d : State × β => State.AcqKept c.1 d.1) l f (State.AcqKept.refl _) fun d hd a _ => hd.trans (hf d a)

end

section
variable (s : State) (n k : Nat)

theorem State.acqKept_updAcq {f : Acq → Acq} (hl : (f s.acq).lam = s.acq.lam) (hc : (f s.acq).chokes = s.acq.chokes) (hs : (f s.acq).store = s.acq.store)
    (hf : (f s.acq).fifo = s.acq.fifo) : s.AcqKept (s.updAcq f) := ⟨hl, hc, hs, hf, rfl, rfl, rfl, rfl, rfl, rfl⟩

theorem State.acqKept_setAset (x : AcqSet) : s.AcqKept (s.setAset n x) := s.acqKept_updAcq rfl rfl rfl rfl

theorem State.acqKept_updRec (id : Nat) (f : AcqRec → AcqRec) : s.AcqKept (s.updRec id f) := s.acqKept_updAcq rfl rfl rfl rfl

theorem State.acqKept_irq (p i : Nat) : s.AcqKept (s.irq p i) := by
  constructor <;> simp

theorem State.acqKept_bump (p o : Nat) : s.AcqKept (s.bump p o) := by
  constructor <;> simp

theorem State.acqKept_acqStage (id : Nat) (b : AcqBlk) : s.AcqKept (s.acqStage id b) := by
  unfold State.acqStage
  split
  · exact State.AcqKept.refl s
  · extract_lets trig c
    split
    · exact ((s.acqKept_updRec _ _).trans (State.acqKept_bump _ _ _)).trans (State.acqKept_irq _ _ _)
    · exact (s.acqKept_updAcq rfl rfl rfl rfl).trans (State.acqKept_updRec _ _ _)

theorem State.acqKept_acqRing (b : AcqBlk) : s.AcqKept (s.acqRing n b) := by
  unfold State.acqRing
  extract_lets x t b'
  have ht : s.AcqKept t := s.acqKept_setAset n _
  split
  · split
    · exact ht
    · exact (ht.trans (t.acqKept_bump _ _)).trans (State.acqKept_irq _ _ _)
  · exact (s.acqKept_setAset n _).trans (State.acqKept_bump _ _ _)

theorem State.acqKept_maskScan (m : Nat) (rows : List (List (Int × Bool))) : s.AcqKept (s.maskScan n m rows k).1 := by
  unfold State.maskScan
  extract_lets w q ch vs put
  refine State.AcqKept.foldl_fst (c := (s, [])) (fun c r => ?_) _
  extract_lets u p cnt d v
  have hput (v : State) (x : Nat) : v.AcqKept (put v x) := v.acqKept_setAset n _
  split
  · split
    · split
      · exact ((hput u d).trans (State.acqKept_bump _ _ _)).trans (State.acqKept_irq _ _ _)
      · exact hput u d
    · exact hput u 0
  · exact (hput u 0).trans (State.acqKept_bump _ _ _)

theorem State.acqKept_acqOpen (T : Nat) (t : AcqTrig) : s.AcqKept (s.acqOpen n T k t) := by
  unfold State.acqOpen
  extract_lets x pre post first id held short r s1 s2 s3 s4
  have h1 : s.AcqKept s1 := s.acqKept_setAset n _
  have h2 : s1.AcqKept s2 := s1.acqKept_updAcq rfl rfl rfl rfl
  have h3 : s2.AcqKept s3 := s2.acqKept_bump _ _
  have h4 : s3.AcqKept s4 := State.AcqKept.foldl (fun u b => u.acqKept_acqStage _ _) _ _
  have h := (h1.trans h2).trans (h3.trans h4)
  split
  · exact h.trans (s4.acqKept_updRec _ _)
  · exact h

theorem State.acqKept_acqMark (id T : Nat) : s.AcqKept (s.acqMark n id T) := by
  unfold State.acqMark
  exact (s.acqKept_setAset n _).trans (State.acqKept_updAcq _ rfl rfl rfl rfl)

theorem State.acqKept_acqPlace (t : AcqTrig) : s.AcqKept (s.acqPlace n k t) := by
  unfold State.acqPlace
  extract_lets x T ignored placed
  have hi (u : State) : u.AcqKept (ignored u) := u.acqKept_bump _ _
  have hp (u : State) : u.AcqKept (placed u) :=
    ((u.acqKept_setAset n _).trans (State.acqKept_bump _ _ _)).trans (State.acqKept_irq _ _ _)
  split
  · exact (s.acqKept_acqOpen n k T t).trans (hp _)
  · exact (s.acqKept_acqOpen n k T t).trans (hp _)
  · split
    · exact hi s
    · split
      · exact hi s
      · exact ((s.acqKept_updRec _ _).trans (State.acqKept_acqMark _ _ _ _)).trans (hp _)
  · exact hi s

theorem State.acqKept_acqEnd (flag : Nat) : s.AcqKept (s.acqEnd n k flag) := by
  unfold State.acqEnd
  extract_lets x
  split
  · exact State.AcqKept.refl s
  · extract_lets s1 frozen s2
    have h : s.AcqKept s2 := (s.acqKept_updRec _ _).trans (State.acqKept_setAset _ _ _)
    split
    · exact h.trans (State.acqKept_irq _ _ _)
    · exact h

theorem State.acqKept_acqSampled (b : AcqBlk) (rows : List (List (Int × Bool))) : s.AcqKept (s.acqSampled n k b rows).1 := by
  unfold State.acqSampled
  extract_lets m x get
  refine State.AcqKept.foldl_fst (c := (s, [])) (fun c i => ?_) _
  extract_lets u w dir ix
  split
  · exact State.AcqKept.refl u
  · split
    · split
      · exact State.AcqKept.refl u
      · exact u.acqKept_setAset n _
    · split
      · split
        · exact State.AcqKept.refl u
        · exact State.AcqKept.refl u
      · exact State.AcqKept.refl u
    · exact State.AcqKept.refl u

theorem State.acqKept_acqMasks (rows : List (List (Int × Bool))) : s.AcqKept (s.acqMasks n k rows).1 := by
  unfold State.acqMasks
  refine State.AcqKept.foldl_fst (c := (s, [])) (fun c m => ?_) _
  extract_lets u w
  split
  · exact State.AcqKept.refl u
  · exact u.acqKept_maskScan n k m rows

theorem State.acqKept_acqCtl (last : Nat) : s.AcqKept (s.acqCtl n k last) := by
  unfold State.acqCtl
  extract_lets due l t
  have ht : s.AcqKept t := State.AcqKept.foldl (fun u e => by
    split
    · exact u.acqKept_setAset n _
    · exact (u.acqKept_acqEnd n e.1 _).trans (State.acqKept_setAset _ _ _)) _ _
  exact ht.trans (t.acqKept_setAset n _)

theorem State.acqKept_acqSetTick (hf : s.flips = []) (hp : s.poison = []) : s.AcqKept (s.acqSetTick n k) := by
  unfold State.acqSetTick
  extract_lets s1 pre s2 m mine waiting s3 frozen s4 r a b all now s5 trig blk0 blk s6 s7 s8 y0 y s9 s10
  have hplace (l : List AcqTrig) (u : State) : u.AcqKept (l.foldl (fun s t => s.acqPlace n k t) u) :=
    State.AcqKept.foldl (fun v t => v.acqKept_acqPlace n k t) l u
  have h3 : s.AcqKept s3 := ((s.acqKept_acqCtl n k k).trans (s1.acqKept_setAset n _)).trans (s2.acqKept_updAcq rfl rfl rfl rfl)
  split
  · exact h3.trans (hplace _ _)
  · have h4 : s.AcqKept s4 := by
      rw [show s4 = s3 from State.readAt_clean (h3.flips.trans hf) (h3.poison.trans hp) _ _ _]
      exact h3
    have h5 : s4.AcqKept s5 :=
      ((s4.acqKept_acqSampled n k _ _).trans (a.1.acqKept_acqMasks n k _)).trans (b.1.acqKept_updAcq rfl rfl rfl rfl)
    have h7 : s6.AcqKept s7 := by
      dsimp only [s7]
      split
      · exact State.AcqKept.refl s6
      · exact s6.acqKept_acqRing n blk
    have h8 : s7.AcqKept s8 := by
      dsimp only [s8]
      split
      · split
        · exact s7.acqKept_acqStage _ _
        · exact State.AcqKept.refl s7
      · exact State.AcqKept.refl s7
    have h10 : s9.AcqKept s10 := by
      dsimp only [s10]
      split
      · split
        · exact s9.acqKept_acqEnd n k 0
        · exact State.AcqKept.refl s9
      · exact State.AcqKept.refl s9
    exact ((h4.trans h5).trans (((hplace now s5).trans h7).trans (h8.trans (s8.acqKept_setAset n _)))).trans
      (h10.trans (s10.acqKept_acqCtl n k (k + 1)))

/-! ### The tick block (R318) -/

theorem State.acqKept_sets (hf : s.flips = []) (hp : s.poison = []) : s.AcqKept (iter 4 (fun n s => s.acqSetTick n k) s) :=
  List.foldlRecOn (motive := fun u => s.AcqKept u) _ _ (State.AcqKept.refl s) fun u hu n _ =>
    hu.trans (u.acqKept_acqSetTick n k (hu.flips.trans hf) (hu.poison.trans hp))

theorem State.acqTick_eq {s : State} {k : Nat} (he : (s.hd pACQ).enable = true) (hn : s.acqNext = some k) :
    s.acqTick = ({ iter 4 (fun n s => s.acqSetTick n k) s with
      thrAcq := (iter 4 (fun n s => s.acqSetTick n k) s).thrAcq.filter (fun v => k < v.tick), acqGoose := [] } : State).updAcq
        (fun a => { a with last := some k }) := by
  rw [State.acqTick, he, if_neg (by simp), hn]

theorem exec_acqTickBlock_takes {s : State} {k : Nat} (hon : s.onMain = true) (he : (s.hd pACQ).enable = true) (hn : s.acqNext = some k)
    (hf : s.flips = []) (hp : s.poison = []) :
    ∃ t, exec .acqTickBlock s = .next t ∧ t.acq.last = some k ∧ t.acqGoose = [] ∧ t.thrAcq = s.thrAcq.filter (fun v => k < v.tick) ∧
      t.acq.lam = s.acq.lam ∧ t.acq.chokes = s.acq.chokes ∧ t.acq.store = s.acq.store ∧ t.acq.fifo = s.acq.fifo ∧
      t.regs = s.regs ∧ t.mem = s.mem ∧ t.tsu = s.tsu := by
  obtain ⟨u, hu, hexec⟩ := act_next (f := State.acqTick) hon
  rw [State.acqTick_eq he hn] at hu
  have h := s.acqKept_sets k hf hp
  generalize iter 4 (fun n s => s.acqSetTick n k) s = v at *
  subst hu
  exact ⟨_, (exec_acqTickBlock s).trans hexec, rfl, rfl, congrArg _ h.thrAcq, h.lam, h.chokes, h.store, h.fifo, h.regs, h.mem, h.tsu⟩

theorem exec_acqTickBlock_none {s : State} (hn : s.acqNext = none) : exec .acqTickBlock s = .next s := by
  rw [exec_acqTickBlock]
  refine act_same ?_
  rw [State.acqTick, hn]
  exact ite_self _

end

end Sys2Proof.Machine
end

section
/-!
PROOFS. The block of a tick in a set that fills or is armed (R318 to R321).
-/
namespace Sys2Proof.Machine
open Sys2Proof

/-! ### Sets alone -/

/-- Nothing but the sets of capture may differ, and of them only set `n`, which is `x`. -/
structure State.SetIs (n : Nat) (x : AcqSet) (s t : State) : Prop where
  rest : t = { s with acq := { s.acq with sets := t.acq.sets } }
  set : t.aset n = x
  other : ∀ m, m ≠ n → t.aset m = s.aset m

section
variable {s t u : State} {n k : Nat} {x : AcqSet}

theorem State.SetIs.setAset (h : State.SetIs n x s t) (y : AcqSet) : State.SetIs n y s (t.setAset n y) := by
  refine ⟨?_, t.aset_setAset n y, fun m hm => (t.aset_setAset_other n m y hm).trans (h.other m hm)⟩
  conv_lhs => rw [h.rest]
  rfl

theorem State.SetIs.refl (s : State) (n : Nat) : State.SetIs n (s.aset n) s s := ⟨rfl, rfl, fun _ _ => rfl⟩

/-- A set that nothing waits for keeps its state. -/
theorem State.acqCtl_none {last : Nat} (hc : (s.aset n).ctl = []) : s.acqCtl n k last = s.setAset n (s.aset n) := by
  have hx : { s.aset n with ctl := [] } = s.aset n := by rw [← hc]
  rw [State.acqCtl, hc]
  exact congrArg _ hx

theorem AcqSet.arm_ctl (x : AcqSet) (pre : Nat) : (x.arm pre).ctl = x.ctl := by
  unfold AcqSet.arm
  split <;> rfl

theorem AcqSet.arm_cur (x : AcqSet) (pre : Nat) : (x.arm pre).cur = x.cur := by
  unfold AcqSet.arm
  split <;> rfl

theorem AcqSet.arm_ring (x : AcqSet) (pre : Nat) : (x.arm pre).ring = x.ring := by
  unfold AcqSet.arm
  split <;> rfl

theorem AcqSet.arm_stall (x : AcqSet) (pre : Nat) : (x.arm pre).stall = x.stall := by
  unfold AcqSet.arm
  split <;> rfl

/-- A set that has been armed where it can be is not armed again. -/
theorem AcqSet.arm_idem {x y : AcqSet} (pre : Nat) (hs : y.state = (x.arm pre).state) (hr : y.ring = x.ring) : y.arm pre = y := by
  unfold AcqSet.arm at hs ⊢
  refine if_neg fun h => ?_
  rw [hs, hr] at h
  split at h
  · simp at h
  · contradiction

/-- No entry of the trigger tables is in use. -/
def State.NoTriggers (s : State) : Prop := ∀ m i, bit (s.tw (tEntry m i)) 31 = false

theorem State.acqEvents_none (h : s.NoTriggers) : s.acqEvents n k = [] := by
  simp only [State.acqEvents, h n, Bool.false_eq_true, if_false]
  simp

theorem State.updAcq_trigIn (f : List (Nat × AcqTrig) → List (Nat × AcqTrig)) (h : f s.acq.trigIn = s.acq.trigIn) :
    s.updAcq (fun a => { a with trigIn := f a.trigIn }) = s := by
  rw [State.updAcq, h]

/-- A set that is STOPPED does nothing in a tick. -/
theorem State.acqSetTick_stopped (ht : s.acq.trigIn = []) (hst : (s.aset n).state = 0) (hc : (s.aset n).ctl = []) (hn : s.NoTriggers) :
    State.SetIs n (s.aset n) s (s.acqSetTick n k) := by
  unfold State.acqSetTick
  extract_lets s1 pre s2 m mine waiting s3
  have h1 : State.SetIs n (s.aset n) s s1 := by
    dsimp only [s1]
    rw [State.acqCtl_none hc]
    exact (State.SetIs.refl s n).setAset _
  have harm : (s1.aset n).arm pre = s.aset n := by
    rw [h1.set, AcqSet.arm, hst]
    rfl
  have h2 : State.SetIs n (s.aset n) s s2 := by
    dsimp only [s2]
    rw [harm]
    exact h1.setAset _
  have ht2 : s2.acq.trigIn = [] := by
    rw [h2.rest]
    exact ht
  have h3 : s3 = s2 := State.updAcq_trigIn _ (by rw [ht2]; rfl)
  have hw : waiting = [] := by
    dsimp only [waiting]
    rw [ht2]
    rfl
  have htw (a : Nat) : s2.tw a = s.tw a := by
    rw [h2.rest]
    rfl
  have hev : s2.acqEvents n k = [] := State.acqEvents_none fun m i => by rw [htw]; exact hn m i
  clear_value s3 waiting
  subst h3 hw
  rw [if_pos (by rw [h2.set]; exact hst), hev]
  exact h2

/-! ### The ring (R320) -/

/-- What the ring writer of set `n` leaves that holds `b` or stalls. -/
structure State.RingWritten (n : Nat) (b : AcqBlk) (s t : State) : Prop where
  other : ∀ m, m ≠ n → t.aset m = s.aset m
  quiet : ({ s with acq := { s.acq with sets := t.acq.sets } } : State).Quiet [pACQ, pACQS n] t
  room : ∀ r, ringRoom s.acqPart b.size (s.aset n).ring = some r →
    t.aset n = { s.aset n with stall := false, gap := false, ring := r ++ [({ b with flags := b.flags ||| b2n (s.aset n).gap * 8 }, none)] } ∧
    t.cn (pACQS n) R.ACQS_CNT_BLOCKS = min (cntMax (pACQS n) R.ACQS_CNT_BLOCKS) (s.cn (pACQS n) R.ACQS_CNT_BLOCKS + 1)
  full : ringRoom s.acqPart b.size (s.aset n).ring = none →
    t.aset n = { s.aset n with stall := true, gap := true } ∧
    ((s.aset n).stall = false → bit (t.hd pACQ).irqStatus 8 = true ∧ t.cn (pACQS n) R.ACQS_CNT_RING_STALL =
      min (cntMax (pACQS n) R.ACQS_CNT_RING_STALL) (s.cn (pACQS n) R.ACQS_CNT_RING_STALL + 1))

/-- What is counted and raised once a set has been written. -/
theorem State.SetIs.quiet {ps : List Nat} (h : State.SetIs n x s t) (hq : t.Quiet ps u) : u.aset n = x ∧ (∀ m, m ≠ n → u.aset m = s.aset m) ∧
    ({ s with acq := { s.acq with sets := u.acq.sets } } : State).Quiet ps u := by
  have hset (m : Nat) : u.aset m = t.aset m := by rw [State.aset, hq.acq]; rfl
  refine ⟨(hset n).trans h.set, fun m hm => (hset m).trans (h.other m hm), ?_⟩
  rw [hq.acq, ← h.rest]
  exact hq

theorem State.SetIs.cn (h : State.SetIs n x s t) (p o : Nat) : t.cn p o = s.cn p o := by
  rw [h.rest]
  rfl

theorem State.ringWritten (b : AcqBlk) : State.RingWritten n b s (s.acqRing n b) := by
  unfold State.acqRing
  extract_lets x t b'
  split
  · next hroom =>
    have ht : State.SetIs n { x with stall := true, gap := true } s t := (State.SetIs.refl s n).setAset _
    clear_value t
    split
    · next hst =>
      obtain ⟨hset, hother, hquiet⟩ := ht.quiet (State.Quiet.refl [pACQ, pACQS n] t)
      exact ⟨hother, hquiet, fun r hr => absurd (hroom.symm.trans hr) (by simp), fun _ => ⟨hset, fun hf => absurd (hf.symm.trans hst) (by simp)⟩⟩
    · obtain ⟨hset, hother, hquiet⟩ := ht.quiet ((((State.Quiet.refl [pACQ, pACQS n] t).bump (p := pACQS n) (by simp) R.ACQS_CNT_RING_STALL
        (by decide)).irq (p := pACQ) (by simp) 8))
      refine ⟨hother, hquiet, fun r hr => absurd (hroom.symm.trans hr) (by simp), fun _ => ⟨hset, fun _ => ⟨State.bit_irq _ _ (by decide), ?_⟩⟩⟩
      rw [State.cn, State.irq_cnts]
      exact (State.cn_bump _ _ _).trans (by rw [ht.cn])
  · next r hroom =>
    obtain ⟨v, hv, hvs⟩ : ∃ v, s.setAset n { x with ring := r ++ [(b', none)], stall := false, gap := false } = v ∧
      State.SetIs n { x with ring := r ++ [(b', none)], stall := false, gap := false } s v := ⟨_, rfl, (State.SetIs.refl s n).setAset _⟩
    rw [hv]
    obtain ⟨hset, hother, hquiet⟩ := hvs.quiet ((State.Quiet.refl [pACQ, pACQS n] v).bump (p := pACQS n) (by simp) R.ACQS_CNT_BLOCKS (by decide))
    refine ⟨hother, hquiet, fun r' hr => ?_, fun hr => absurd (hroom.symm.trans hr) (by simp)⟩
    obtain rfl : r = r' := Option.some.inj (hroom.symm.trans hr)
    exact ⟨hset, (State.cn_bump _ _ _).trans (by rw [hvs.cn])⟩

/-! ### A set that fills or is armed -/

/-- No mask is in use. -/
def State.NoMasks (s : State) : Prop := ∀ m, bit (s.tw (mHead m)) 31 = false

theorem State.acqSampled_none (h : s.NoTriggers) (b : AcqBlk) (rows : List (List (Int × Bool))) : s.acqSampled n k b rows = (s, []) := by
  unfold State.acqSampled
  refine List.foldl_fixed' (fun i => ?_) _
  dsimp only
  rw [h n i, Bool.not_false, if_pos rfl]

theorem State.acqMasks_none (h : s.NoMasks) (rows : List (List (Int × Bool))) : s.acqMasks n k rows = (s, []) := by
  unfold State.acqMasks
  refine List.foldl_fixed' (fun m => ?_) _
  dsimp only
  rw [h m, Bool.not_false, Bool.true_or, if_pos rfl]

/-- Over clean memory the sets of capture have no part in a block. -/
theorem State.acqBuild_acq (hf : s.flips = []) (hp : s.poison = []) (a : Acq) : ({ s with acq := a } : State).acqBuild n k = s.acqBuild n k := by
  have htw (b : Nat) : ({ s with acq := a } : State).tw b = s.tw b := rfl
  have hcfg : ({ s with acq := a } : State).acqCfg n = s.acqCfg n := rfl
  have hspoilt (b : Nat) : ({ s with acq := a } : State).spoilt b = s.spoilt b := by
    rw [State.spoilt_clean hf hp, State.spoilt_clean (s := { s with acq := a }) hf hp]
  have hread (i : Nat) : ({ s with acq := a } : State).readPt i = s.readPt i := by
    simp only [State.readPt, hspoilt]
    rfl
  have hgrid (j c : Nat) : ({ s with acq := a } : State).grid j c = s.grid j c := by
    simp only [State.grid, hspoilt, htw]
  have hun (p : Nat) : ({ s with acq := a } : State).unusable p = s.unusable p := rfl
  have himg : ({ s with acq := a } : State).imgTag = s.imgTag := rfl
  have hrg (p o : Nat) : ({ s with acq := a } : State).rg p o = s.rg p o := rfl
  simp only [State.acqBuild, State.acqVal, htw, hcfg, hread, hgrid, hun, himg, hrg]

/-- What a set remembers of tick `k` beside its ring. -/
def State.acqNoted (s : State) (n k : Nat) (x : AcqSet) : AcqSet :=
  { x with
    hist := ((((s.acqBuild n k).2.zipIdx.map (fun e => (k * cfgSubs (s.acqCfg n) + e.2, e.1))).reverse) ++ x.hist).take 64
    binPrev := (s.acqBuild n k).1.bin.map (fun v => v.1) }

theorem State.acqNoted_cur (x : AcqSet) : (s.acqNoted n k x).cur = x.cur := rfl

/-- What a set that fills or is armed does in a tick without a trigger. -/
theorem State.acqSetTick_block (ht : s.acq.trigIn = []) (hst : (s.aset n).state = 1 ∨ (s.aset n).state = 2) (hc : (s.aset n).ctl = [])
    (hcur : (s.aset n).cur = none) (hn : s.NoTriggers) (hm : s.NoMasks) (hf : s.flips = []) (hp : s.poison = [])
    (hx : x = (s.aset n).arm (lenPre (s.ac (pACQS n) R.ACQ_SET_LEN))) :
    ∃ w z, State.SetIs n x s w ∧ w.acqRing n (s.acqBuild n k).1 = z ∧
      s.acqSetTick n k = (z.setAset n ((s.acqNoted n k (z.aset n)).arm (lenPre (s.ac (pACQS n) R.ACQ_SET_LEN)))).acqCtl n k (k + 1) := by
  unfold State.acqSetTick
  extract_lets s1 pre s2 m mine waiting s3 frozen s4 r a b all now s5 trig blk0 blk s6 s7 s8 y0 y s9 s10
  have h1 : State.SetIs n (s.aset n) s s1 := by
    dsimp only [s1]
    rw [State.acqCtl_none hc]
    exact (State.SetIs.refl s n).setAset _
  have hpre : pre = lenPre (s.ac (pACQS n) R.ACQ_SET_LEN) := by
    dsimp only [pre]
    rw [h1.rest]
    rfl
  have h2 : State.SetIs n x s s2 := by
    dsimp only [s2]
    rw [h1.set, hpre, ← hx]
    exact h1.setAset x
  have ht2 : s2.acq.trigIn = [] := by
    rw [h2.rest]
    exact ht
  have h3 : s3 = s2 := State.updAcq_trigIn _ (by rw [ht2]; rfl)
  have hw : waiting = [] := by
    dsimp only [waiting]
    rw [ht2]
    rfl
  have hm2 : m = cfgSubs (s.acqCfg n) := by
    dsimp only [m]
    rw [h2.rest]
    rfl
  have htw (a : Nat) : s2.tw a = s.tw a := by
    rw [h2.rest]
    rfl
  have hn2 : s2.NoTriggers := fun m i => by rw [htw]; exact hn m i
  have hmask2 : s2.NoMasks := fun m => by rw [htw]; exact hm m
  have hf2 : s2.flips = [] := by
    rw [h2.rest]
    exact hf
  have hp2 : s2.poison = [] := by
    rw [h2.rest]
    exact hp
  have hst2 : x.state = 1 ∨ x.state = 2 := by
    rw [hx]
    unfold AcqSet.arm
    split
    · exact Or.inr rfl
    · exact hst
  have h4 : s4 = s2 := by
    dsimp only [s4]
    rw [h3, State.readAt_clean hf2 hp2]
  have hr : r = s.acqBuild n k := by
    dsimp only [r]
    rw [h4, h2.rest, State.acqBuild_acq hf hp]
  have ha : a = (s2, []) := by
    dsimp only [a]
    rw [h4, State.acqSampled_none hn2]
  have hb : b = (s2, []) := by
    dsimp only [b]
    rw [ha, State.acqMasks_none hmask2]
  have hall : all = [] := by
    dsimp only [all]
    rw [hw, h4, State.acqEvents_none hn2, ha, hb]
    rfl
  have hnow : now = [] := by
    dsimp only [now]
    rw [hall]
    rfl
  have h5 : s5 = s2 := by
    dsimp only [s5]
    rw [hb, hall]
    exact State.updAcq_trigIn (fun l => l ++ []) (List.append_nil _)
  have hblk : blk = (s.acqBuild n k).1 := by
    dsimp only [blk, blk0, trig]
    rw [hnow, hr]
    exact congrArg (fun f => { (s.acqBuild n k).1 with flags := f }) (Nat.or_zero _)
  have h6 : s6 = s2 := by
    dsimp only [s6]
    rw [hnow, h5]
    rfl
  have h7 : s7 = s2.acqRing n (s.acqBuild n k).1 := by
    dsimp only [s7, frozen]
    rw [h3, h2.set, h6, hblk]
    exact if_neg (by omega)
  have hcur7 : (s7.aset n).cur = none := by
    have hring := s2.ringWritten (n := n) (s.acqBuild n k).1
    have hx2 : (s2.aset n).cur = none := by rw [h2.set, hx, AcqSet.arm_cur, hcur]
    rw [h7]
    cases hroom : ringRoom s2.acqPart (s.acqBuild n k).1.size (s2.aset n).ring with
    | none => rw [(hring.full hroom).1, hx2]
    | some r => rw [(hring.room r hroom).1, hx2]
  clear_value s7
  have h8 : s8 = s7 := by
    dsimp only [s8]
    rw [hcur7]
    rfl
  clear_value s8
  have hy : y = s.acqNoted n k (s7.aset n) := by
    dsimp only [y, y0]
    rw [h8, hr, hm2]
    rfl
  have hycur : y.cur = none := by rw [hy, State.acqNoted_cur, hcur7]
  clear_value y
  have h10 : s10 = s9 := by
    dsimp only [s10]
    rw [hycur]
    rfl
  have h9 : s9 = s7.setAset n ((s.acqNoted n k (s7.aset n)).arm (lenPre (s.ac (pACQS n) R.ACQ_SET_LEN))) := by
    dsimp only [s9]
    rw [h8, hy, hpre]
  refine ⟨s2, s7, h2, h7.symm, ?_⟩
  rw [if_neg (by rw [h3, h2.set]; omega), h10, h9]

/-- What a tick leaves of set `n`, which `x` arms: its block in the ring, or a stall. -/
structure State.BlockDone (n k : Nat) (x : AcqSet) (s t : State) : Prop where
  other : ∀ m, m ≠ n → t.aset m = s.aset m
  quiet : ({ s with acq := { s.acq with sets := t.acq.sets } } : State).Quiet [pACQ, pACQS n] t
  room : ∀ r, ringRoom s.acqPart (s.acqBuild n k).1.size (s.aset n).ring = some r →
    t.aset n = { s.acqNoted n k x with
      stall := false, gap := false
      ring := r ++ [({ (s.acqBuild n k).1 with flags := (s.acqBuild n k).1.flags ||| b2n x.gap * 8 }, none)] }.arm
        (lenPre (s.ac (pACQS n) R.ACQ_SET_LEN)) ∧
    t.cn (pACQS n) R.ACQS_CNT_BLOCKS = min (cntMax (pACQS n) R.ACQS_CNT_BLOCKS) (s.cn (pACQS n) R.ACQS_CNT_BLOCKS + 1)
  full : ringRoom s.acqPart (s.acqBuild n k).1.size (s.aset n).ring = none →
    t.aset n = { s.acqNoted n k x with stall := true, gap := true } ∧
    ((s.aset n).stall = false → bit (t.hd pACQ).irqStatus 8 = true ∧ t.cn (pACQS n) R.ACQS_CNT_RING_STALL =
      min (cntMax (pACQS n) R.ACQS_CNT_RING_STALL) (s.cn (pACQS n) R.ACQS_CNT_RING_STALL + 1))

/-- The sets are written over a quiet state. -/
theorem State.Quiet.withAcq {ps : List Nat} (h : s.Quiet ps t) (v : Acq) : ({ s with acq := v } : State).Quiet ps { t with acq := v } :=
  h.over (congrArg (fun y : State => { y with acq := v }) h.rest) rfl rfl rfl rfl

theorem State.SetIs.after {ps : List Nat} (hq : ({ s with acq := { s.acq with sets := t.acq.sets } } : State).Quiet ps t) (h : State.SetIs n x t u) :
    ({ s with acq := { s.acq with sets := u.acq.sets } } : State).Quiet ps u ∧ (∀ q, u.hd q = t.hd q) ∧ ∀ p o, u.cn p o = t.cn p o := by
  refine ⟨?_, fun q => by rw [h.rest]; rfl, h.cn⟩
  have he : u = { t with acq := { s.acq with sets := u.acq.sets } } :=
    h.rest.trans (congrArg (fun a : Acq => { t with acq := { a with sets := u.acq.sets } }) hq.acq)
  have hw := hq.withAcq { s.acq with sets := u.acq.sets }
  rwa [← he] at hw

theorem State.blockDone (ht : s.acq.trigIn = []) (hst : (s.aset n).state = 1 ∨ (s.aset n).state = 2) (hc : (s.aset n).ctl = [])
    (hcur : (s.aset n).cur = none) (hn : s.NoTriggers) (hm : s.NoMasks) (hf : s.flips = []) (hp : s.poison = [])
    (hx : x = (s.aset n).arm (lenPre (s.ac (pACQS n) R.ACQ_SET_LEN))) : State.BlockDone n k x s (s.acqSetTick n k) := by
  obtain ⟨w, z, hw, hz, htick⟩ := State.acqSetTick_block (k := k) ht hst hc hcur hn hm hf hp hx
  have hring := w.ringWritten (n := n) (s.acqBuild n k).1
  rw [hz] at hring
  have hpart : w.acqPart = s.acqPart := by
    rw [hw.rest]
    rfl
  have hxr : (w.aset n).ring = (s.aset n).ring := by rw [hw.set, hx, AcqSet.arm_ring]
  have hzq : ({ s with acq := { s.acq with sets := z.acq.sets } } : State).Quiet [pACQ, pACQS n] z := by
    have hq := hring.quiet
    rw [hw.rest] at hq
    exact hq
  have hzc : (z.aset n).ctl = [] ∧ (ringRoom s.acqPart (s.acqBuild n k).1.size (s.aset n).ring = none →
      (z.aset n).state = x.state ∧ (z.aset n).ring = x.ring) := by
    have hxc : (w.aset n).ctl = [] := by rw [hw.set, hx, AcqSet.arm_ctl, hc]
    cases hroom : ringRoom w.acqPart (s.acqBuild n k).1.size (w.aset n).ring with
    | none =>
      rw [(hring.full hroom).1, hw.set]
      rw [hw.set] at hxc
      exact ⟨hxc, fun _ => ⟨rfl, rfl⟩⟩
    | some r =>
      rw [(hring.room r hroom).1]
      refine ⟨hxc, fun hno => ?_⟩
      rw [hpart, hxr, hno] at hroom
      cases hroom
  obtain ⟨hctl, hfullz⟩ := hzc
  have hv : State.SetIs n ((s.acqNoted n k (z.aset n)).arm (lenPre (s.ac (pACQS n) R.ACQ_SET_LEN))) z (s.acqSetTick n k) := by
    have h1 := (State.SetIs.refl z n).setAset ((s.acqNoted n k (z.aset n)).arm (lenPre (s.ac (pACQS n) R.ACQ_SET_LEN)))
    rw [htick, State.acqCtl_none (by rw [h1.set, AcqSet.arm_ctl]; exact hctl), h1.set]
    exact h1.setAset _
  obtain ⟨hquiet, hhd, hcn⟩ := State.SetIs.after hzq hv
  refine ⟨fun m hm => (hv.other m hm).trans ((hring.other m hm).trans (hw.other m hm)), hquiet, fun r hr => ?_, fun hno => ?_⟩
  · obtain ⟨hset, hcount⟩ := hring.room r (by rw [hpart, hxr, hr])
    refine ⟨?_, by rw [hcn, hcount, hw.cn]⟩
    rw [hv.set, hset, hw.set]
    rfl
  · obtain ⟨hset, hraised⟩ := hring.full (by rw [hpart, hxr, hno])
    obtain ⟨hzst, hzring⟩ := hfullz hno
    refine ⟨?_, fun hs => ?_⟩
    · rw [hv.set, AcqSet.arm_idem (x := s.aset n) (y := s.acqNoted n k (z.aset n)) _ (by rw [← hx]; exact hzst) (hzring.trans (by rw [hx, AcqSet.arm_ring])), hset, hw.set]
      rfl
    · rw [hhd, hcn]
      obtain ⟨hbit, hcount⟩ := hraised (by rw [hw.set, hx, AcqSet.arm_stall, hs])
      exact ⟨hbit, by rw [hcount, hw.cn]⟩

/-! ### The four sets -/

theorem State.BlockDone.same {m : Nat} (h : State.BlockDone n k x s t) (hu : State.SetIs m (t.aset m) t u) : State.BlockDone n k x s u := by
  have hset (j : Nat) : u.aset j = t.aset j := by
    by_cases hj : j = m
    · rw [hj, hu.set]
    · exact hu.other j hj
  obtain ⟨hquiet, hhd, hcn⟩ := State.SetIs.after h.quiet hu
  refine ⟨fun j hj => (hset j).trans (h.other j hj), hquiet, fun r hr => ?_, fun hno => ?_⟩
  · rw [hset, hcn]
    exact h.room r hr
  · rw [hset, hhd, hcn]
    exact h.full hno

/-- No set has done its work in the tick yet, or those that have are STOPPED. -/
structure State.SetsSame (s t : State) : Prop where
  rest : t = { s with acq := { s.acq with sets := t.acq.sets } }
  set : ∀ m, t.aset m = s.aset m

theorem State.SetsSame.step {m : Nat} (h : s.SetsSame t) (hu : State.SetIs m (t.aset m) t u) : s.SetsSame u := by
  refine ⟨?_, fun j => ?_⟩
  · conv_lhs => rw [hu.rest, h.rest]
  · by_cases hj : j = m
    · rw [hj, hu.set, h.set]
    · rw [hu.other j hj, h.set]

theorem State.SetsSame.noTriggers (h : s.SetsSame t) (hn : s.NoTriggers) : t.NoTriggers := fun m i => by
  rw [h.rest]
  exact hn m i

theorem State.SetsSame.blockDone (h : s.SetsSame t) (hf : s.flips = []) (hp : s.poison = []) (hb : State.BlockDone n k x t u) :
    State.BlockDone n k x s u := by
  have hbuild : t.acqBuild n k = s.acqBuild n k := by
    rw [h.rest]
    exact State.acqBuild_acq hf hp _
  have hnoted (y : AcqSet) : t.acqNoted n k y = s.acqNoted n k y := by
    rw [State.acqNoted, hbuild, show t.acqCfg n = s.acqCfg n by rw [h.rest]; rfl]
    rfl
  have hpart : t.acqPart = s.acqPart := by
    rw [h.rest]
    rfl
  have hac (p o : Nat) : t.ac p o = s.ac p o := by
    rw [h.rest]
    rfl
  have hcn (p o : Nat) : t.cn p o = s.cn p o := by
    rw [h.rest]
    rfl
  obtain ⟨hother, hquiet, hroom, hfull⟩ := hb
  rw [h.set, hbuild, hpart] at hroom hfull
  simp only [hnoted, hac, hcn] at hroom hfull
  refine ⟨fun m hm => (hother m hm).trans (h.set m), ?_, hroom, hfull⟩
  rw [h.rest] at hquiet
  exact hquiet

theorem State.blockDone_sets (hlt : n < 4) (ht : s.acq.trigIn = []) (hf : s.flips = []) (hp : s.poison = [])
    (hstop : ∀ m, m < 4 → m ≠ n → (s.aset m).state = 0) (hctl : ∀ m, m < 4 → (s.aset m).ctl = [])
    (hst : (s.aset n).state = 1 ∨ (s.aset n).state = 2) (hcur : (s.aset n).cur = none) (hn : s.NoTriggers) (hm : s.NoMasks)
    (hx : x = (s.aset n).arm (lenPre (s.ac (pACQS n) R.ACQ_SET_LEN))) :
    State.BlockDone n k x s (iter 4 (fun n s => s.acqSetTick n k) s) := by
  refine iter_visit (Pre := s.SetsSame) (Post := State.BlockDone n k x s) hlt ⟨rfl, fun _ => rfl⟩ (fun i u hi hne h => ?_) (fun u h => ?_)
    (fun i u hi hne h => ?_)
  · refine h.step (State.acqSetTick_stopped ?_ (by rw [h.set]; exact hstop i hi hne) (by rw [h.set]; exact hctl i hi) (h.noTriggers hn))
    rw [h.rest]
    exact ht
  · refine h.blockDone hf hp (State.blockDone ?_ (by rw [h.set]; exact hst) (by rw [h.set]; exact hctl n hlt) (by rw [h.set]; exact hcur)
      (h.noTriggers hn) (fun m => ?_) ?_ ?_ ?_)
    · rw [h.rest]
      exact ht
    · rw [h.rest]
      exact hm m
    · rw [h.rest]
      exact hf
    · rw [h.rest]
      exact hp
    · rw [h.set, hx, h.rest]
      rfl
  · refine h.same (State.acqSetTick_stopped ?_ ?_ ?_ ?_)
    · rw [h.quiet.acq]
      exact ht
    · rw [h.other i hne]
      exact hstop i hi hne
    · rw [h.other i hne]
      exact hctl i hi
    · intro m i
      rw [h.quiet.tw]
      exact hn m i

/-- The tick has been taken by the sets and their ends noted. -/
theorem exec_acqTickBlock_block (hon : s.onMain = true) (he : (s.hd pACQ).enable = true) (hk : s.acqNext = some k) (hlt : n < 4)
    (ht : s.acq.trigIn = []) (hf : s.flips = []) (hp : s.poison = []) (hstop : ∀ m, m < 4 → m ≠ n → (s.aset m).state = 0)
    (hctl : ∀ m, m < 4 → (s.aset m).ctl = []) (hst : (s.aset n).state = 1 ∨ (s.aset n).state = 2) (hcur : (s.aset n).cur = none)
    (hn : s.NoTriggers) (hm : s.NoMasks) (hx : x = (s.aset n).arm (lenPre (s.ac (pACQS n) R.ACQ_SET_LEN))) :
    ∃ v t, State.BlockDone n k x s v ∧ exec .acqTickBlock s = .next t ∧ (∀ m, t.aset m = v.aset m) ∧ (∀ q, t.hd q = v.hd q) ∧
      (∀ p o, t.cn p o = v.cn p o) ∧
      ({ s with acq := { s.acq with sets := t.acq.sets, last := some k }, acqGoose := [], thrAcq := t.thrAcq } : State).Quiet [pACQ, pACQS n] t := by
  have hv := State.blockDone_sets (k := k) hlt ht hf hp hstop hctl hst hcur hn hm hx
  obtain ⟨u, hu, hexec⟩ := act_next (f := State.acqTick) hon
  rw [State.acqTick_eq he hk] at hu
  generalize iter 4 (fun n s => s.acqSetTick n k) s = v at *
  obtain ⟨l, hl⟩ : ∃ l, l = v.thrAcq.filter (fun w => k < w.tick) := ⟨_, rfl⟩
  rw [← hl] at hu
  have hacq : { v.acq with last := some k } = { s.acq with sets := v.acq.sets, last := some k } :=
    congrArg (fun a : Acq => { a with last := some k }) hv.quiet.acq
  have hq : ({ s with acq := { s.acq with sets := v.acq.sets, last := some k }, acqGoose := [], thrAcq := l } : State).Quiet [pACQ, pACQS n]
      { v with acq := { s.acq with sets := v.acq.sets, last := some k }, acqGoose := [], thrAcq := l } :=
    hv.quiet.over (congrArg (fun y : State => { y with
      acq := { s.acq with sets := v.acq.sets, last := some k }, acqGoose := [], thrAcq := l }) hv.quiet.rest) rfl rfl rfl rfl
  have hu' : u = { v with acq := { s.acq with sets := v.acq.sets, last := some k }, acqGoose := [], thrAcq := l } := by
    rw [hu, State.updAcq]
    exact congrArg (fun a : Acq => { v with acq := a, acqGoose := [], thrAcq := l }) hacq
  subst hu'
  exact ⟨v, _, hv, (exec_acqTickBlock s).trans hexec, fun _ => rfl, fun _ => rfl, fun _ _ => rfl, hq.pend⟩

end

end Sys2Proof.Machine
end

section
/-!
PROOFS. Commands of capture (R316 to R330): its sets, triggers, the Choker, the flusher and the record store.
-/
namespace Sys2Proof.Machine
open Sys2Proof

section
variable {s t u : State} {n : Nat}

/-! ### Commands of a set (R321) -/

theorem headPage_pACQS (hn : n < 4) : headPage (pACQS n) = pACQ := (show ∀ n < 4, headPage (pACQS n) = pACQ by decide) n hn

/-- A command that sets its own set. -/
theorem actReg_setAset {f : State → State} {x : AcqSet} (hon : s.onMain = true)
    (hf : ∀ w, f { s with hdrs := w } = ({ s with hdrs := w } : State).setAset n x) :
    ∃ t, actReg State.onMain (pACQS n) f s = .next t ∧ t.aset n = x ∧ (∀ m, m ≠ n → t.aset m = s.aset m) ∧
      t = { s with acq := { s.acq with sets := t.acq.sets }, hdrs := t.hdrs } := by
  obtain ⟨w, -, -, hexec⟩ := actReg_eff (p := pACQS n) (f := f) hon
  rw [hf w] at hexec
  exact ⟨_, hexec, State.aset_setAset { s with hdrs := w } n x, fun m hm => State.aset_setAset_other { s with hdrs := w } n m x hm, rfl⟩

/-- A command that has no effect. -/
theorem actReg_none {p : Nat} {f : State → State} (hon : s.onMain = true) (hf : ∀ w, f { s with hdrs := w } = { s with hdrs := w }) :
    ∃ t, actReg State.onMain p f s = .next t ∧ t = { s with hdrs := t.hdrs } := by
  obtain ⟨w, -, -, hexec⟩ := actReg_eff (p := p) (f := f) hon
  rw [hf w] at hexec
  exact ⟨_, hexec, rfl⟩

theorem exec_acqSetStart_none (hon : s.onMain = true) (hn : n < 4) (hs : s.asetState n ≠ 0) :
    ∃ t, exec (.acqSetStart n) s = .next t ∧ t = { s with hdrs := t.hdrs } := by
  rw [exec_acqSetStart]
  refine actReg_none hon fun w => ?_
  rw [if_pos hn]
  exact if_pos hs

theorem exec_acqSetStart_starts (hon : s.onMain = true) (hn : n < 4) (hs : s.asetState n = 0) (hc : s.acqStartCheck n = none) :
    ∃ t, exec (.acqSetStart n) s = .next t ∧ t.aset n = { s.aset n with startNs := some s.ns } ∧ (∀ m, m ≠ n → t.aset m = s.aset m) ∧
      (t.hd pACQ).cfgErr = false ∧ ({ s with acq := { s.acq with sets := t.acq.sets } } : State).Quiet [pACQ, pACQS n] t := by
  obtain ⟨w, -, hqw, hexec⟩ := actReg_eff (p := pACQS n) (f := fun s => if n < 4 then s.acqStart n else s) hon
  obtain ⟨v, hv, hset, hother, hq⟩ : ∃ v, v = ({ s with hdrs := w } : State).setAset n { s.aset n with startNs := some s.ns } ∧
      v.aset n = { s.aset n with startNs := some s.ns } ∧ (∀ m, m ≠ n → v.aset m = s.aset m) ∧
      ({ s with acq := { s.acq with sets := v.acq.sets } } : State).Quiet [pACQ, pACQS n] v :=
    ⟨_, rfl, State.aset_setAset { s with hdrs := w } n _, fun m hm => State.aset_setAset_other { s with hdrs := w } n m _ hm,
      (hqw.withAcq _).mono (by simp)⟩
  have hgo : (if n < 4 then ({ s with hdrs := w } : State).acqStart n else { s with hdrs := w }) = v.accept (pACQS n) := by
    rw [if_pos hn, State.acqStart, show ({ s with hdrs := w } : State).asetState n = 0 from hs, if_neg (by simp),
      show ({ s with hdrs := w } : State).acqStartCheck n = none from hc, hv]
    rfl
  rw [hgo] at hexec
  have hqa : v.Quiet [pACQ, pACQS n] (v.accept (pACQS n)) := (State.Quiet.refl _ v).accept (by rw [headPage_pACQS hn]; simp)
  have herr : ((v.accept (pACQS n)).hd pACQ).cfgErr = false := by
    rw [State.accept, headPage_pACQS hn]
    simp
  generalize v.accept (pACQS n) = t at *
  have hst (m : Nat) : t.aset m = v.aset m := by
    rw [State.aset, hqa.acq]
    rfl
  refine ⟨_, (exec_acqSetStart n s).trans hexec, (hst n).trans hset, fun m hm => (hst m).trans (hother m hm), herr, ?_⟩
  have hq2 := hq.trans hqa
  rw [← hqa.acq] at hq2
  exact hq2.pend

theorem exec_acqSetStart_refused {o c : Nat} (hon : s.onMain = true) (hn : n < 4) (hs : s.asetState n = 0) (hc : s.acqStartCheck n = some (o, c)) :
    ∃ t, exec (.acqSetStart n) s = .next t ∧ (t.hd pACQ).errCode = w32 (pageIndex (pACQS n) * 2 ^ 20 + o * 256 + c) ∧
      (t.hd pACQ).cfgErr = true ∧ s.Quiet [pACQ, pACQS n] t := by
  obtain ⟨w, -, hqw, hexec⟩ := actReg_eff (p := pACQS n) (f := fun s => if n < 4 then s.acqStart n else s) hon
  have hgo : (if n < 4 then ({ s with hdrs := w } : State).acqStart n else { s with hdrs := w }) =
      ({ s with hdrs := w } : State).refuse (pACQS n) o c := by
    rw [if_pos hn, State.acqStart, show ({ s with hdrs := w } : State).asetState n = 0 from hs, if_neg (by simp),
      show ({ s with hdrs := w } : State).acqStartCheck n = some (o, c) from hc]
  rw [hgo] at hexec
  obtain ⟨herr, hcode⟩ := State.hd_refuse ({ s with hdrs := w } : State) (pACQS n) o c
  have hq : s.Quiet [pACQ, pACQS n] (({ s with hdrs := w } : State).refuse (pACQS n) o c) :=
    (hqw.mono (by simp)).refuse (by rw [headPage_pACQS hn]; simp) (by simp) o c
  rw [headPage_pACQS hn] at herr hcode
  exact ⟨_, (exec_acqSetStart n s).trans hexec, hcode, herr, hq.pend⟩

theorem exec_acqSetStop_stops (hon : s.onMain = true) (hn : n < 4) :
    ∃ t, exec (.acqSetStop n) s = .next t ∧ t.aset n = { s.aset n with
        startNs := none, ctl := if s.asetState n = 0 then (s.aset n).ctl else (s.aset n).ctl ++ [(s.tick, 1)] } ∧
      (∀ m, m ≠ n → t.aset m = s.aset m) ∧ t = { s with acq := { s.acq with sets := t.acq.sets }, hdrs := t.hdrs } := by
  rw [exec_acqSetStop]
  refine actReg_setAset hon fun w => ?_
  rw [if_pos hn]
  rfl

theorem exec_resume_resumes (hon : s.onMain = true) (hn : n < 4) (hs : s.asetState n = 4) :
    ∃ t, exec (.resume n) s = .next t ∧ t.aset n = { s.aset n with startNs := some s.ns } ∧ (∀ m, m ≠ n → t.aset m = s.aset m) ∧
      t = { s with acq := { s.acq with sets := t.acq.sets }, hdrs := t.hdrs } := by
  rw [exec_resume]
  refine actReg_setAset hon fun w => ?_
  rw [if_pos hn]
  exact if_pos hs

theorem exec_resume_none (hon : s.onMain = true) (hn : n < 4) (hs : s.asetState n ≠ 4) :
    ∃ t, exec (.resume n) s = .next t ∧ t = { s with hdrs := t.hdrs } := by
  rw [exec_resume]
  refine actReg_none hon fun w => ?_
  rw [if_pos hn]
  exact if_neg hs

/-! ### Triggers (R321, R324) -/

theorem exec_trigger_waits (hon : s.onMain = true) (hn : n < 4) (h0 : s.asetState n ≠ 0) (h4 : s.asetState n ≠ 4) :
    ∃ t, exec (.trigger n) s = .next t ∧ t = { s with
      acq := { s.acq with trigIn := s.acq.trigIn ++ [(n, { typ := 0, idx := 0, dir := 0, time := s.ns * 16, flags := 4 })] }
      hdrs := t.hdrs } := by
  obtain ⟨w, -, -, hexec⟩ := actReg_eff (p := pACQS n) (f := fun s => if n < 4 then s.acqManual n else s) hon
  refine ⟨_, (exec_trigger n s).trans hexec, ?_⟩
  rw [if_pos hn, State.acqManual, State.acqGive, show ({ s with hdrs := w } : State).asetState n = s.asetState n from rfl, if_neg (by simp [h0, h4])]
  rfl

theorem exec_trigger_ignored (hon : s.onMain = true) (hn : n < 4) (h : s.asetState n = 0 ∨ s.asetState n = 4) :
    ∃ t, exec (.trigger n) s = .next t ∧ t.cn (pACQS n) R.ACQS_CNT_TRIG_IGNORED =
      min (cntMax (pACQS n) R.ACQS_CNT_TRIG_IGNORED) (s.cn (pACQS n) R.ACQS_CNT_TRIG_IGNORED + 1) ∧ s.Quiet [pACQ, pACQS n] t := by
  obtain ⟨w, -, hqw, hexec⟩ := actReg_eff (p := pACQS n) (f := fun s => if n < 4 then s.acqManual n else s) hon
  have hgo : (if n < 4 then ({ s with hdrs := w } : State).acqManual n else { s with hdrs := w }) =
      ({ s with hdrs := w } : State).bump (pACQS n) R.ACQS_CNT_TRIG_IGNORED := by
    rw [if_pos hn, State.acqManual, State.acqGive, show ({ s with hdrs := w } : State).asetState n = s.asetState n from rfl]
    exact if_pos (by simpa using h)
  rw [hgo] at hexec
  refine ⟨_, (exec_trigger n s).trans hexec, ?_, (((hqw.mono (by simp)).bump (p := pACQS n) (by simp) _ (by decide)).pend)⟩
  exact State.cn_bump _ _ _

theorem exec_acqXtrigCmd_refused {v : Word} {total : Nat} (hon : s.onMain = true)
    (htot : total = (s.rg pACQ R.ACQ_XTRIG_SEC).toNat * 1000000000 + fld (s.rg pACQ (R.ACQ_XTRIG_SEC + 4)) 0 16 * 2 ^ 32 * 1000000000 +
      fld (s.rg pACQ R.ACQ_XTRIG_NS) 0 30)
    (h : 999999999 < fld (s.rg pACQ R.ACQ_XTRIG_NS) 0 30 ∨ s.ns < total) :
    ∃ t, exec (.acqXtrigCmd v) s = .next t ∧ (t.hd pACQ).errCode = w32 (R.ACQ_XTRIG_CMD * 256 + Err.range) ∧ s.Quiet [pACQ] t := by
  rw [exec_acqXtrigCmd]
  refine actReg_refuses hon (by decide) ?_
  obtain ⟨w, hw⟩ := s.touch_eq pACQ
  rw [hw, State.acqXtrig]
  exact if_pos (by rw [htot] at h; exact h)

/-- The pages of capture. -/
abbrev acqPages : List Nat := [pACQ, pACQS 0, pACQS 1, pACQS 2, pACQS 3]

/-- A set takes a trigger from outside. -/
def State.takesTrig (s : State) (v : Word) (m : Nat) : Bool := bit v m && decide (s.asetState m ≠ 0) && decide (s.asetState m ≠ 4)

/-- The sets `l` that `v` names have been given trigger `x`. -/
structure State.Given (v : Word) (x : AcqTrig) (l : List Nat) (s t : State) : Prop where
  acq : t.acq = { s.acq with trigIn := s.acq.trigIn ++ (l.filter (s.takesTrig v)).map (fun m => (m, x)) }
  ignored : ∀ m ∈ l, bit v m = true → s.asetState m = 0 ∨ s.asetState m = 4 → t.cn (pACQS m) R.ACQS_CNT_TRIG_IGNORED =
    min (cntMax (pACQS m) R.ACQS_CNT_TRIG_IGNORED) (s.cn (pACQS m) R.ACQS_CNT_TRIG_IGNORED + 1)
  cn : ∀ p o, (∀ m ∈ l, ka p o ≠ ka (pACQS m) R.ACQS_CNT_TRIG_IGNORED) → t.cn p o = s.cn p o
  quiet : ({ s with acq := t.acq } : State).Quiet acqPages t

/-- One set of those that are given a trigger. -/
def State.xGive (v : Word) (x : AcqTrig) (m : Nat) (s : State) : State := if !bit v m then s else s.acqGive m x

theorem State.given_one (v : Word) (x : AcqTrig) {m : Nat} (hm : m < 4) (s : State) : State.Given v x [m] s (s.xGive v x m) := by
  have hsame (h : s.takesTrig v m = false) : s.acq = { s.acq with trigIn := s.acq.trigIn ++ ([m].filter (s.takesTrig v)).map (fun m => (m, x)) } := by
    rw [List.filter_singleton, h]
    exact congrArg (fun l => { s.acq with trigIn := l }) (List.append_nil _).symm
  unfold State.xGive
  split
  · next hb =>
    have hb' : bit v m = false := by simpa using hb
    refine ⟨hsame (by rw [State.takesTrig, hb']; rfl), fun j hj hbj => ?_, fun _ _ _ => rfl, State.Quiet.refl _ s⟩
    rw [List.mem_singleton.1 hj, hb'] at hbj
    cases hbj
  · next hb =>
    have hb' : bit v m = true := by simpa using hb
    unfold State.acqGive
    split
    · next hs =>
      have hp : pACQS m ∈ acqPages := (show ∀ m < 4, pACQS m ∈ acqPages by decide) m hm
      have hq : s.Quiet acqPages (s.bump (pACQS m) R.ACQS_CNT_TRIG_IGNORED) := (State.Quiet.refl _ s).bump hp _ (by decide)
      refine ⟨?_, fun j hj _ _ => ?_, fun p o h => State.cn_bump_other _ _ _ _ _ (h m (by simp)), by rw [hq.acq]; exact hq⟩
      · rw [hq.acq]
        refine hsame ?_
        rcases (by simpa using hs : s.asetState m = 0 ∨ s.asetState m = 4) with h | h <;> simp [State.takesTrig, h]
      · rw [List.mem_singleton.1 hj]
        exact State.cn_bump _ _ _
    · next hs =>
      have hs' : s.asetState m ≠ 0 ∧ s.asetState m ≠ 4 := by simpa using hs
      refine ⟨?_, fun j hj _ h => ?_, fun _ _ _ => rfl, State.Quiet.refl _ _⟩
      · rw [List.filter_singleton, State.takesTrig, hb', decide_eq_true hs'.1, decide_eq_true hs'.2]
        rfl
      · rw [List.mem_singleton.1 hj] at h
        exact absurd h (by simpa using hs')

theorem State.given_all (v : Word) (x : AcqTrig) (l : List Nat) (hl : ∀ m ∈ l, m < 4) (hnd : l.Nodup) (s : State) :
    State.Given v x l s (l.foldl (fun s m => s.xGive v x m) s) := by
  induction l generalizing s with
  | nil =>
    exact ⟨congrArg (fun l => { s.acq with trigIn := l }) (List.append_nil _).symm, fun _ h => absurd h List.not_mem_nil, fun _ _ _ => rfl, State.Quiet.refl _ s⟩
  | cons m l ih =>
    obtain ⟨hm, hnd'⟩ := List.nodup_cons.1 hnd
    have h1 := State.given_one v x (hl m (by simp)) s
    have h2 := ih (fun j hj => hl j (by simp [hj])) hnd' (s.xGive v x m)
    rw [List.foldl_cons]
    generalize s.xGive v x m = u at *
    generalize l.foldl (fun s m => s.xGive v x m) u = t at *
    have hstate (j : Nat) : u.asetState j = s.asetState j := by
      rw [State.asetState, State.aset, h1.acq, State.tick, h1.quiet.tsu]
      rfl
    have hne (j : Nat) (hj : j ∈ l) : ka (pACQS m) R.ACQS_CNT_TRIG_IGNORED ≠ ka (pACQS j) R.ACQS_CNT_TRIG_IGNORED := by
      have hjm : j ≠ m := fun e => hm (e ▸ hj)
      unfold ka
      simp only [pACQS, R.ACQS_CNT_TRIG_IGNORED]
      omega
    have htakes : u.takesTrig v = s.takesTrig v := funext fun j => by simp only [State.takesTrig, hstate]
    refine ⟨?_, fun j hj hb hs => ?_, fun p o h => ?_, ?_⟩
    · rw [h2.acq, h1.acq, htakes]
      refine congrArg (fun q => { s.acq with trigIn := q }) ?_
      rw [show m :: l = [m] ++ l from rfl, List.filter_append (l₁ := [m]), List.map_append, ← List.append_assoc]
    · rcases List.mem_cons.1 hj with rfl | hj
      · rw [h2.cn _ _ hne]
        exact h1.ignored j (by simp) hb hs
      · rw [h2.ignored j hj hb (by rw [hstate]; exact hs), h1.cn _ _ fun q hq => by rw [List.mem_singleton.1 hq]; exact (hne j hj).symm]
    · rw [h2.cn p o fun j hj => h j (by simp [hj]), h1.cn p o fun j hj => h j (by simp_all)]
    · exact (h1.quiet.withAcq t.acq).trans h2.quiet

theorem exec_acqXtrigCmd_gives {v : Word} {total : Nat} (hon : s.onMain = true)
    (htot : total = (s.rg pACQ R.ACQ_XTRIG_SEC).toNat * 1000000000 + fld (s.rg pACQ (R.ACQ_XTRIG_SEC + 4)) 0 16 * 2 ^ 32 * 1000000000 +
      fld (s.rg pACQ R.ACQ_XTRIG_NS) 0 30)
    (hle : fld (s.rg pACQ R.ACQ_XTRIG_NS) 0 30 ≤ 999999999) (hns : total ≤ s.ns) :
    ∃ t, exec (.acqXtrigCmd v) s = .next t ∧
      t.acq = { s.acq with
        trigIn := s.acq.trigIn ++
          ((List.range 4).filter (fun m => bit v m && decide (s.asetState m ≠ 0) && decide (s.asetState m ≠ 4))).map
            (fun m => (m, { typ := 0, idx := 0, dir := 0, time := total * 16, flags := 2 })) } ∧
      t.cn pACQ R.ACQ_CNT_XTRIG = min (cntMax pACQ R.ACQ_CNT_XTRIG) (s.cn pACQ R.ACQ_CNT_XTRIG + 1) ∧
      (∀ m, m < 4 → bit v m = true → s.asetState m = 0 ∨ s.asetState m = 4 → t.cn (pACQS m) R.ACQS_CNT_TRIG_IGNORED =
        min (cntMax (pACQS m) R.ACQS_CNT_TRIG_IGNORED) (s.cn (pACQS m) R.ACQS_CNT_TRIG_IGNORED + 1)) ∧
      ({ s with acq := t.acq } : State).Quiet [pACQ, pACQS 0, pACQS 1, pACQS 2, pACQS 3] t := by
  obtain ⟨w, -, hqw, hexec⟩ := actReg_eff (p := pACQ) (f := fun s => s.acqXtrig v) hon
  have hgo : ({ s with hdrs := w } : State).acqXtrig v = (List.range 4).foldl
      (fun s m => s.xGive v { typ := 0, idx := 0, dir := 0, time := total * 16, flags := 2 } m) (({ s with hdrs := w } : State).bump pACQ R.ACQ_CNT_XTRIG) := by
    rw [State.acqXtrig]
    simp only [show ∀ o, ({ s with hdrs := w } : State).rg pACQ o = s.rg pACQ o from fun _ => rfl, ← htot]
    exact if_neg (by rw [show ({ s with hdrs := w } : State).ns = s.ns from rfl]; omega)
  rw [hgo] at hexec
  have hq : s.Quiet [pACQ] (({ s with hdrs := w } : State).bump pACQ R.ACQ_CNT_XTRIG) := hqw.bump (by simp) _ (by decide)
  have hcn := State.cn_bump ({ s with hdrs := w } : State) pACQ R.ACQ_CNT_XTRIG
  have hcnOther (m : Nat) (hm : m < 4) : (({ s with hdrs := w } : State).bump pACQ R.ACQ_CNT_XTRIG).cn (pACQS m) R.ACQS_CNT_TRIG_IGNORED =
      s.cn (pACQS m) R.ACQS_CNT_TRIG_IGNORED :=
    hq.cn _ _ (by simp only [pACQS, pACQ, List.mem_singleton]; omega) (by decide)
  generalize ({ s with hdrs := w } : State).bump pACQ R.ACQ_CNT_XTRIG = b at *
  have hg := State.given_all v { typ := 0, idx := 0, dir := 0, time := total * 16, flags := 2 } (List.range 4)
    (fun m hm => List.mem_range.1 hm) List.nodup_range b
  generalize (List.range 4).foldl (fun s m => s.xGive v { typ := 0, idx := 0, dir := 0, time := total * 16, flags := 2 } m) b = t at *
  have hstate (m : Nat) : b.asetState m = s.asetState m := by
    rw [State.asetState, State.aset, hq.acq, State.tick, hq.tsu]
    rfl
  have htakes : b.takesTrig v = fun m => bit v m && decide (s.asetState m ≠ 0) && decide (s.asetState m ≠ 4) :=
    funext fun j => by simp only [State.takesTrig, hstate]
  refine ⟨_, (exec_acqXtrigCmd v s).trans hexec, ?_, ?_, fun m hm hb hs => ?_, ?_⟩
  · show t.acq = _
    rw [hg.acq, htakes, hq.acq]
  · exact (hg.cn pACQ R.ACQ_CNT_XTRIG fun m hm => by
      unfold ka
      simp only [pACQS, R.ACQS_CNT_TRIG_IGNORED, R.ACQ_CNT_XTRIG]
      omega).trans hcn
  · exact (hg.ignored m (List.mem_range.2 hm) hb (by rw [hstate]; exact hs)).trans (by rw [hcnOther m hm])
  · exact (((hq.withAcq t.acq).mono (by simp)).trans hg.quiet).pend

end

end Sys2Proof.Machine
end

section
/-!
PROOFS. The Choker, the flusher and the record store (R327 to R330).
-/
namespace Sys2Proof.Machine
open Sys2Proof

section
variable {s t u : State}

/-! ### The Choker (R328) -/

/-- The Choker has a decision to take. -/
structure State.ChokeDue (s : State) : Prop where
  on : s.onMain = true
  enabled : (s.hd pACQ).enable = true
  active : bit (s.ac pACQ R.ACQ_CFG) 0 = true
  tick : s.tick % 480 = 0
  fresh : s.acq.chokeTick ≠ some s.tick

/-- Capture with the level `l` decided at the current tick. -/
def State.choked (s : State) (l : Nat) : Acq :=
  { s.acq with
    chokeTick := some s.tick, lam := l, chokes := ((s.tick, s.acq.lam, l) :: s.acq.chokes).take 128
    recs := s.acq.recs.map (fun r => if r.ended then r else { r with chokes := r.chokes + 1 }) }

/-- The level that the staged data asks for. -/
def State.chokeLevel (s : State) : Nat :=
  if 402653184 < s.acq.backlog && s.acq.lam < fld (s.ac pACQ R.ACQ_CFG) 8 3 then s.acq.lam + 1
  else if s.acq.backlog < 134217728 && 0 < s.acq.lam then s.acq.lam - 1 else s.acq.lam

theorem State.ChokeDue.step (h : s.ChokeDue) : s.chokeStep = if s.chokeLevel = s.acq.lam then { s with acq := { s.acq with chokeTick := some s.tick } }
    else (({ s with acq := s.choked s.chokeLevel } : State).bump pACQ R.ACQ_CNT_CHOKE_STEP).irq pACQ 6 := by
  obtain ⟨-, he, hb, ht, hf⟩ := h
  rw [State.chokeStep]
  dsimp only
  rw [he, hb, if_neg (by simp [ht, hf])]
  rfl

theorem exec_chokeStep_changes {l : Nat} (h : s.ChokeDue) (hl : s.chokeLevel = l) (hne : l ≠ s.acq.lam) :
    ∃ t, exec .chokeStep s = .next t ∧ t.acq = s.choked l ∧
      t.cn pACQ R.ACQ_CNT_CHOKE_STEP = min (cntMax pACQ R.ACQ_CNT_CHOKE_STEP) (s.cn pACQ R.ACQ_CNT_CHOKE_STEP + 1) ∧
      bit (t.hd pACQ).irqStatus 6 = true ∧ ({ s with acq := t.acq } : State).Quiet [pACQ] t := by
  obtain ⟨u, hu, hexec⟩ := act_next (f := State.chokeStep) h.on
  rw [h.step, hl, if_neg hne] at hu
  have hq : ({ s with acq := s.choked l } : State).Quiet [pACQ] u := by
    rw [hu]
    exact ((State.Quiet.refl _ _).bump (by simp) _ (by decide)).irq (by simp) _
  refine ⟨_, (exec_chokeStep s).trans hexec, hq.acq, ?_, ?_, ?_⟩
  · show u.cn _ _ = _
    rw [hu, State.cn, State.irq_cnts]
    exact State.cn_bump _ _ _
  · show bit (u.hd pACQ).irqStatus 6 = true
    rw [hu]
    exact State.bit_irq _ _ (by decide)
  · have hacq : u.acq = s.choked l := hq.acq
    rw [← hacq] at hq
    exact hq.pend

theorem exec_chokeStep_keeps (h : s.ChokeDue) (hl : s.chokeLevel = s.acq.lam) :
    exec .chokeStep s = .next { s with acq := { s.acq with chokeTick := some s.tick } } := by
  obtain ⟨u, hu, hexec⟩ := act_next (f := State.chokeStep) h.on
  rw [h.step, if_pos hl] at hu
  subst hu
  exact (exec_chokeStep s).trans hexec

theorem exec_chokeStep_idle (h : (s.hd pACQ).enable = false ∨ bit (s.ac pACQ R.ACQ_CFG) 0 = false ∨ s.tick % 480 ≠ 0 ∨ s.acq.chokeTick = some s.tick) :
    exec .chokeStep s = .next s := by
  rw [exec_chokeStep]
  refine act_same ?_
  rw [State.chokeStep]
  refine if_pos ?_
  rcases h with h | h | h | h <;> simp [h]

/-! ### The record store (R329, R330) -/

theorem exec_acqRecPop_pops (hon : s.onMain = true) :
    ∃ t, exec .acqRecPop s = .next t ∧ t = { s with acq := { s.acq with fifo := s.acq.fifo.drop 1 }, hdrs := t.hdrs } := by
  obtain ⟨w, -, -, hexec⟩ := actReg_eff (p := pACQ) (f := State.acqRecPop) hon
  exact ⟨_, (exec_acqRecPop s).trans hexec, rfl⟩

theorem exec_acqRecRelease_none {v : Word} (hon : s.onMain = true) (h : ∀ e ∈ s.acq.store, e.1 ≠ fld v 0 16) :
    ∃ t, exec (.acqRecRelease v) s = .next t ∧ t = { s with hdrs := t.hdrs } := by
  rw [exec_acqRecRelease]
  refine actReg_none hon fun w => ?_
  have hfind : s.acq.store.find? (fun e => e.1 == fld v 0 16) = none := List.find?_eq_none.2 fun e he => by simpa using h e he
  rw [State.acqRelease]
  dsimp only
  rw [hfind]

theorem exec_acqRecRelease_named {v : Word} {u : Nat} {x : AcqUnit} {names : Bool} (hon : s.onMain = true)
    (h : s.acq.store.find? (fun e => e.1 == fld v 0 16) = some (u, x))
    (hn : names = (decide (x.part = 3) ||
      (decide (x.part = 0) && !s.acq.store.any (fun e => e.2.id == x.id && e.2.part == 3) && (s.arec x.id).isNone))) :
    ∃ t, exec (.acqRecRelease v) s = .next t ∧ t = { s with
      acq := { s.acq with store := if names then s.acq.store.filter (fun e => e.2.id != x.id) else s.acq.store }, hdrs := t.hdrs } := by
  obtain ⟨w, -, -, hexec⟩ := actReg_eff (p := pACQ) (f := fun s => s.acqRelease v) hon
  refine ⟨_, (exec_acqRecRelease v s).trans hexec, ?_⟩
  have hgo : ({ s with hdrs := w } : State).acqRelease v = { s with
      acq := { s.acq with store := if names then s.acq.store.filter (fun e => e.2.id != x.id) else s.acq.store }, hdrs := w } := by
    rw [State.acqRelease]
    dsimp only
    rw [h]
    dsimp only
    rw [show ({ s with hdrs := w } : State).arec x.id = s.arec x.id from rfl, ← hn]
    cases names <;> rfl
  rw [hgo]

/-! ### RESCAN (R330) -/

/-- What the store `st` says of record `i`: where its trailer lies or, without one, its header. -/
def recEntry (st : List (Nat × AcqUnit)) (i : Nat) : Option Nat :=
  match st.find? (fun e => e.2.id == i && e.2.part == 3), st.find? (fun e => e.2.id == i && e.2.part == 0) with
  | some (u, x), _ => some (recInfo ((x.rec_.map (fun r => r.set)).getD 0) u false)
  | none, some (u, x) => some (recInfo ((x.rec_.map (fun r => r.set)).getD 0) u true)
  | none, none => none

section
variable {st : List (Nat × AcqUnit)} {i : Nat} {e : Nat × AcqUnit}

theorem recEntry_trailer (h : st.find? (fun e => e.2.id == i && e.2.part == 3) = some e) :
    recEntry st i = some (recInfo ((e.2.rec_.map (fun r => r.set)).getD 0) e.1 false) := by
  rw [recEntry, h]

theorem recEntry_header (h3 : st.find? (fun e => e.2.id == i && e.2.part == 3) = none)
    (h : st.find? (fun e => e.2.id == i && e.2.part == 0) = some e) :
    recEntry st i = some (recInfo ((e.2.rec_.map (fun r => r.set)).getD 0) e.1 true) := by
  rw [recEntry, h3, h]

theorem recEntry_none (h3 : st.find? (fun e => e.2.id == i && e.2.part == 3) = none)
    (h : st.find? (fun e => e.2.id == i && e.2.part == 0) = none) : recEntry st i = none := by
  rw [recEntry, h3, h]

end

/-- One record of a rescan. -/
def State.requeue (st : List (Nat × AcqUnit)) (s : State) (i : Nat) : State :=
  match recEntry st i with
  | some info => if 256 ≤ s.acq.fifo.length then s else s.updAcq (fun a => { a with fifo := a.fifo ++ [(i, info)] })
  | none => s

/-- The records that a rescan looks for. -/
def State.rescanIds (s : State) : List Nat :=
  ((s.acq.store.map (fun e => e.2.id)).eraseDups).filter (fun i => (s.arec i).isNone && !s.acq.fifo.any (fun f => f.1 == i))

theorem State.acqRescan_eq (s : State) : s.acqRescan = s.rescanIds.foldl (State.requeue s.acq.store) s := by
  rw [State.acqRescan]
  refine congrFun (congrFun (congrArg List.foldl (funext fun t => funext fun i => ?_)) _) _
  by_cases h : 256 ≤ t.acq.fifo.length
  · rw [if_pos h, State.requeue]
    split
    · exact (if_pos h).symm
    · rfl
  · rw [if_neg h, State.requeue]
    split
    · next h3 => rw [recEntry_trailer h3]; exact (if_neg h).trans (if_neg h).symm
    · next h3 h0 => rw [recEntry_header h3 h0]; exact (if_neg h).trans (if_neg h).symm
    · next h3 h0 => rw [recEntry_none h3 h0]

/-- The FIFO after a rescan of records `l`. -/
structure State.Requeued (st : List (Nat × AcqUnit)) (l : List Nat) (s t : State) : Prop where
  rest : t = { s with acq := { s.acq with fifo := t.acq.fifo } }
  before : s.acq.fifo <+: t.acq.fifo
  length : t.acq.fifo.length ≤ max 256 s.acq.fifo.length
  queued : t.acq.fifo.length < 256 → ∀ i ∈ l, ∀ info, recEntry st i = some info → (i, info) ∈ t.acq.fifo

theorem State.requeued_one (st : List (Nat × AcqUnit)) (i : Nat) (s : State) : State.Requeued st [i] s (s.requeue st i) := by
  unfold State.requeue
  split
  · next info hi =>
    split
    · next h => exact ⟨rfl, List.prefix_rfl, le_max_right _ _, fun hlt => absurd hlt (Nat.not_lt.2 h)⟩
    · next h =>
      refine ⟨rfl, List.prefix_append _ _, ?_, fun _ j hj info' hj' => ?_⟩
      · show (s.acq.fifo ++ [(i, info)]).length ≤ _
        rw [List.length_append, List.length_singleton]
        omega
      · obtain rfl := List.mem_singleton.1 hj
        obtain rfl := Option.some.inj (hi.symm.trans hj')
        exact List.mem_append_right _ (List.mem_singleton_self _)
  · next hi =>
    refine ⟨rfl, List.prefix_rfl, le_max_right _ _, fun _ j hj info hj' => ?_⟩
    rw [List.mem_singleton.1 hj, hi] at hj'
    cases hj'

theorem State.requeued_all (st : List (Nat × AcqUnit)) (l : List Nat) (s : State) : State.Requeued st l s (l.foldl (State.requeue st) s) := by
  induction l generalizing s with
  | nil => exact ⟨rfl, List.prefix_rfl, le_max_right _ _, fun _ _ h => absurd h List.not_mem_nil⟩
  | cons i l ih =>
    have h1 := s.requeued_one st i
    have h2 := ih (s.requeue st i)
    rw [List.foldl_cons]
    generalize s.requeue st i = u at *
    generalize l.foldl (State.requeue st) u = t at *
    have hle := h2.before.length_le
    refine ⟨?_, h1.before.trans h2.before, ?_, fun hlt j hj info hi => ?_⟩
    · conv_lhs => rw [h2.rest, h1.rest]
    · have := h1.length
      have := h2.length
      omega
    · rcases List.mem_cons.1 hj with rfl | hj
      · exact h2.before.subset (h1.queued (by omega) j (by simp) info hi)
      · exact h2.queued hlt j hj info hi

theorem exec_rescan_queues (hon : s.onMain = true) : ∃ t, exec .rescan s = .next t ∧
    t = { s with acq := { s.acq with fifo := t.acq.fifo }, hdrs := t.hdrs } ∧ s.acq.fifo <+: t.acq.fifo ∧
    t.acq.fifo.length ≤ max 256 s.acq.fifo.length ∧
    (t.acq.fifo.length < 256 → ∀ i ∈ s.rescanIds, ∀ info, recEntry s.acq.store i = some info → (i, info) ∈ t.acq.fifo) := by
  obtain ⟨w, -, -, hexec⟩ := actReg_eff (p := pACQ) (f := State.acqRescan) hon
  rw [State.acqRescan_eq] at hexec
  have h := State.requeued_all s.acq.store s.rescanIds { s with hdrs := w }
  have hids : ({ s with hdrs := w } : State).rescanIds = s.rescanIds := rfl
  rw [hids, show ({ s with hdrs := w } : State).acq.store = s.acq.store from rfl] at hexec
  generalize s.rescanIds.foldl (State.requeue s.acq.store) { s with hdrs := w } = t at *
  refine ⟨_, (exec_rescan s).trans hexec, ?_, h.before, h.length, h.queued⟩
  rw [h.rest]

theorem State.mem_rescanIds {i c : Nat} {e : Nat × AcqUnit} (hr : s.arec i = none) (hf : ∀ f ∈ s.acq.fifo, f.1 ≠ i)
    (he : s.acq.store.find? (fun e => e.2.id == i && e.2.part == c) = some e) : i ∈ s.rescanIds := by
  have hfound := List.find?_some he
  have hid : e.2.id = i := by
    rw [Bool.and_eq_true, beq_iff_eq] at hfound
    exact hfound.1
  have hmem : i ∈ s.acq.store.map (fun e => e.2.id) := List.mem_map.2 ⟨e, List.mem_of_find?_eq_some he, hid⟩
  have hany : s.acq.fifo.any (fun f => f.1 == i) = false := List.any_eq_false.2 fun f hf' => by simpa using hf f hf'
  exact List.mem_filter.2 ⟨List.mem_eraseDups.2 hmem, by rw [hr, hany]; rfl⟩

/-! ### The flusher (R327) -/

/-- The flusher works and has a free unit `u`. -/
structure State.FlushReady (u : Nat) (s : State) : Prop where
  on : s.onMain = true
  enabled : (s.hd pACQ).enable = true
  released : s.pwr.pfMode = false ∨ s.evr.pf4 = true
  writable : s.memSt.readOnly = false
  room : s.acq.store.length < 65536
  unit : u < 65536
  free : ∀ e ∈ s.acq.store, e.1 ≠ u

theorem State.FlushReady.guards {u : Nat} (h : State.FlushReady u s) : (s.pwr.pfMode && !s.evr.pf4) = false ∧
    ¬ (65536 ≤ s.acq.store.length ∨ s.memSt.readOnly = true) ∧ ¬ (65535 < u ∨ s.acq.store.any (fun e => e.1 == u) = true) := by
  obtain ⟨-, -, hr, hw, hroom, hu, hf⟩ := h
  refine ⟨?_, ?_, ?_⟩
  · rcases hr with h | h <;> simp [h]
  · rw [hw]
    simp [hroom]
  · have hany : s.acq.store.any (fun e => e.1 == u) = false := List.any_eq_false.2 fun e he => by simpa using hf e he
    rw [hany]
    simp
    omega

/-- A unit stored by the flusher: what the store holds of its record, and the bytes counted. -/
structure State.UnitPut (n : Nat) (a : Acq) (s t : State) : Prop where
  acq : t.acq = a
  bytes : t.cn pACQ R.ACQ_CNT_FLASH_BYTES = min (cntMax pACQ R.ACQ_CNT_FLASH_BYTES) (s.cn pACQ R.ACQ_CNT_FLASH_BYTES + n)
  flash : t.cn pMEM R.MEM_CNT_FL_BYTES_WR = min (cntMax pMEM R.MEM_CNT_FL_BYTES_WR) (s.cn pMEM R.MEM_CNT_FL_BYTES_WR + n)
  quiet : ({ s with acq := a } : State).Quiet [pACQ, pMEM] t

/-- Capture with unit `u` stored for its record. -/
def State.unitStored (s : State) (u : Nat) (x : AcqUnit) : Acq :=
  { s.acq with
    store := sput u x s.acq.store
    recs := s.acq.recs.map (fun q => if q.id == x.id then { q with units := u :: q.units } else q) }

theorem State.unitPut (u : Nat) (x : AcqUnit) : State.UnitPut (64 + x.len) (s.unitStored u x) s (s.putUnit u x) := by
  obtain ⟨v, hv, hva⟩ : ∃ v, v = { s with acq := s.unitStored u x } ∧
      s.putUnit u x = (v.bumpBy pACQ R.ACQ_CNT_FLASH_BYTES (64 + x.len)).bumpBy pMEM R.MEM_CNT_FL_BYTES_WR (64 + x.len) := ⟨_, rfl, rfl⟩
  have hq : v.Quiet [pACQ, pMEM] (s.putUnit u x) := by
    rw [hva]
    exact ((State.Quiet.refl _ v).bumpBy (by simp) _ _ (by decide)).bumpBy (by simp) _ _ (by decide)
  refine ⟨by rw [hq.acq, hv], ?_, ?_, hv ▸ hq⟩
  · rw [hva, State.cn_bumpBy_other _ _ _ _ _ _ (by decide), State.cn_bumpBy, hv]
    rfl
  · rw [hva, State.cn_bumpBy, State.cn_bumpBy_other _ _ _ _ _ _ (by decide), hv]
    rfl

/-- The header unit of a record. -/
def AcqRec.headerUnit (r : AcqRec) : AcqUnit := { id := r.id, idx := r.next, part := 0, len := r.headLen, rec_ := some r }

/-- A unit of a record's blocks. -/
def AcqRec.dataUnit (r : AcqRec) (bs : List AcqBlk) : AcqUnit :=
  { id := r.id, idx := r.next, part := 2, len := (bs.map AcqBlk.size).sum, blocks := bs }

/-- The trailer unit of a record, stored in unit `u`. -/
def AcqRec.trailerUnit (r : AcqRec) (u : Nat) : AcqUnit :=
  { id := r.id, idx := r.next, part := 3, len := 128 + 4 * (r.units.length + 1), rec_ := some { r with units := u :: r.units } }

theorem State.flashUnit_idle (u : Nat) (hr : s.acq.recs = []) (hs : s.acq.stage = []) : s.flashUnit u = s := by
  unfold State.flashUnit
  extract_lets a header staged done held work
  have hwork : work = false := by
    dsimp only [work, header, staged, done, held, a]
    rw [hr, hs]
    rfl
  rw [hwork, if_pos (by simp)]

theorem State.flashUnit_full (u : Nat) (he : (s.hd pACQ).enable = true) (hp : (s.pwr.pfMode && !s.evr.pf4) = false)
    (hw : s.acq.stage ≠ [] ∨ ∃ r ∈ s.acq.recs, r.headed = false) (hf : s.memSt.readOnly = true ∨ 65536 ≤ s.acq.store.length) :
    s.flashUnit u = s.irq pACQ 11 := by
  unfold State.flashUnit
  extract_lets a header staged done held work
  have hwork : work = true := by
    rcases hw with hs | ⟨r, hr, hh⟩
    · have hstaged : staged.isSome = true := by
        dsimp only [staged, a]
        cases hl : s.acq.stage with
        | nil => exact absurd hl hs
        | cons e l => rfl
      simp only [work, hstaged, Bool.or_true, Bool.true_or]
    · have hheader : header.isSome = true := List.find?_isSome.2 ⟨r, hr, by rw [hh]; rfl⟩
      simp only [work, hheader, Bool.true_or]
  rw [hwork, he, hp, if_neg (by simp), if_pos ?_]
  rcases hf with h | h <;> simp [a, h]

theorem State.flashUnit_header {u : Nat} {r : AcqRec} (h : State.FlushReady u s) (hr : s.acq.recs.find? (fun r => !r.headed) = some r) :
    s.flashUnit u = (s.putUnit u r.headerUnit).updRec r.id
      (fun r => { r with headed := true }) := by
  obtain ⟨hp, hroom, hfree⟩ := h.guards
  unfold State.flashUnit
  extract_lets a header staged done held work
  have hheader : header = some r := hr
  have hwork : work = true := by
    dsimp only [work]
    rw [hheader]
    rfl
  rw [hwork, h.enabled, hp, if_neg (by simp), if_neg (by simpa using hroom), if_neg (by simpa using hfree), hheader]
  rfl

/-- The blocks of record `i` put ahead of those of other records. -/
theorem stage_regrouped {i : Nat} {l m : List (Nat × AcqBlk)} (hl : ∀ e ∈ l, (e.1 != i) = true) (hm : ∀ e ∈ m, (e.1 == i) = true) :
    (l ++ m).filter (fun e => e.1 == i) ++ (l ++ m).filter (fun e => e.1 != i) = m ++ l := by
  have h1 : l.filter (fun e => e.1 == i) = [] := List.filter_eq_nil_iff.2 fun e he => by simpa using hl e he
  have h2 : m.filter (fun e => e.1 != i) = [] := List.filter_eq_nil_iff.2 fun e he => by simpa using hm e he
  rw [List.filter_append, List.filter_append, h1, h2, List.filter_eq_self.2 hl, List.filter_eq_self.2 hm, List.nil_append, List.append_nil]

theorem State.flashUnit_data {u : Nat} {r : AcqRec} {b : AcqBlk} {rest : List (Nat × AcqBlk)} {mine : List AcqBlk} (h : State.FlushReady u s)
    (hh : ∀ q ∈ s.acq.recs, q.headed = true) (hs : s.acq.stage = (r.id, b) :: rest) (hr : s.arec r.id = some r)
    (hm : mine = (s.acq.stage.filter (fun e => e.1 == r.id)).map (fun e => e.2)) :
    s.flashUnit u = ({ s with acq := { s.acq with
        stage := (mine.drop (unitFill 1048512 mine)).map (fun b => (r.id, b)) ++ s.acq.stage.filter (fun e => e.1 != r.id) } } : State).putUnit u
      (r.dataUnit (mine.take (unitFill 1048512 mine))) := by
  obtain ⟨hp, hroom, hfree⟩ := h.guards
  unfold State.flashUnit
  extract_lets a header staged done held work
  have hheader : header = none := List.find?_eq_none.2 fun q hq => by simp [hh q hq]
  have hstaged : staged = some (r.id, b) := by
    dsimp only [staged, a]
    rw [hs]
    rfl
  have hwork : work = true := by
    dsimp only [work]
    rw [hstaged]
    simp
  rw [hwork, h.enabled, hp, if_neg (by simp), if_neg (by simpa using hroom), if_neg (by simpa using hfree), hheader, hstaged]
  dsimp only
  have hstage := stage_regrouped (i := r.id) (l := s.acq.stage.filter (fun e => e.1 != r.id))
    (m := (mine.drop (unitFill 1048512 mine)).map (fun b => (r.id, b))) (fun e he => (List.mem_filter.1 he).2) fun e he => by
      obtain ⟨b, -, rfl⟩ := List.mem_map.1 he
      exact beq_self_eq_true _
  simp only [a, ← hm, State.updAcq, hstage]
  refine congrArg (State.putUnit _ u) ?_
  rw [State.arec] at hr ⊢
  rw [hr]
  rfl

theorem State.flashUnit_trailer {u : Nat} {r : AcqRec} (h : State.FlushReady u s) (hh : ∀ q ∈ s.acq.recs, q.headed = true)
    (hs : s.acq.stage = []) (hd : s.acq.recs.find? s.trailerDue = some r) :
    ∃ v, v = (s.putUnit u (r.trailerUnit u)).updAcq (fun a => { a with recs := a.recs.filter (fun x => x.id != r.id) }) ∧
      s.flashUnit u = ((v.setAset r.set { v.aset r.set with
        ring := (v.aset r.set).ring.map (fun b => if b.2 = some r.id then (b.1, none) else b) }).recQueue r.id (recInfo r.set u false)).irq pACQ 5 := by
  refine ⟨_, rfl, ?_⟩
  obtain ⟨hp, hroom, hfree⟩ := h.guards
  unfold State.flashUnit
  extract_lets a header staged done held work
  have hheader : header = none := List.find?_eq_none.2 fun q hq => by simp [hh q hq]
  have hstaged : staged = none := by
    dsimp only [staged, a]
    rw [hs]
    rfl
  have hdone : done = some r := hd
  have hwork : work = true := by
    dsimp only [work]
    rw [hdone]
    simp
  rw [hwork, h.enabled, hp, if_neg (by simp), if_neg (by simpa using hroom), if_neg (by simpa using hfree), hheader, hstaged, hdone]
  rfl

/-! ### What the flusher's units leave (R327, R330) -/

section
variable (i : Nat) {f g : AcqRec → AcqRec} (hf : ∀ q, (f q).id = q.id)
include hf

theorem recs_map_twice (l : List AcqRec) : (l.map (fun q => if q.id == i then f q else q)).map (fun q => if q.id == i then g q else q) =
    l.map (fun q => if q.id == i then g (f q) else q) := by
  refine List.map_map.trans (List.map_congr_left fun q _ => ?_)
  rw [Function.comp_apply]
  by_cases hq : (q.id == i) = true
  · rw [if_pos hq, if_pos hq, hf, if_pos hq]
  · rw [if_neg hq, if_neg hq, if_neg hq]

theorem recs_filter_map (l : List AcqRec) : (l.map (fun q => if q.id == i then f q else q)).filter (fun q => q.id != i) =
    l.filter (fun q => q.id != i) := by
  induction l with
  | nil => rfl
  | cons q l ih =>
    rw [List.map_cons]
    by_cases hq : q.id = i
    · rw [if_pos (by simpa using hq), List.filter_cons_of_neg (by rw [hf]; simpa using hq), List.filter_cons_of_neg (by simpa using hq), ih]
    · rw [if_neg (by simpa using hq), List.filter_cons_of_pos (by simpa using hq), List.filter_cons_of_pos (by simpa using hq), ih]

end

theorem exec_flashUnitWrite_next {u : Nat} (hon : s.onMain = true) (hv : s.flashUnit u = t) :
    exec (.flashUnitWrite u) s = .next { t with pending := s.pending } := by
  obtain ⟨v, hu, hexec⟩ := act_next (f := fun s => s.flashUnit u) hon
  rw [hv] at hu
  subst hu
  exact (exec_flashUnitWrite u s).trans hexec

theorem exec_flashUnitWrite_header {u : Nat} {r : AcqRec} (h : State.FlushReady u s) (hr : s.acq.recs.find? (fun r => !r.headed) = some r) :
    ∃ t, exec (.flashUnitWrite u) s = .next t ∧ t.acq = { s.acq with
        store := sput u r.headerUnit s.acq.store
        recs := s.acq.recs.map (fun q => if q.id == r.id then { q with units := u :: q.units, headed := true } else q) } ∧
      t.cn pACQ R.ACQ_CNT_FLASH_BYTES = min (cntMax pACQ R.ACQ_CNT_FLASH_BYTES) (s.cn pACQ R.ACQ_CNT_FLASH_BYTES + (64 + r.headerUnit.len)) ∧
      t.cn pMEM R.MEM_CNT_FL_BYTES_WR = min (cntMax pMEM R.MEM_CNT_FL_BYTES_WR) (s.cn pMEM R.MEM_CNT_FL_BYTES_WR + (64 + r.headerUnit.len)) ∧
      ({ s with acq := t.acq } : State).Quiet [pACQ, pMEM] t := by
  have hput := s.unitPut u r.headerUnit
  have hgo := State.flashUnit_header h hr
  generalize s.putUnit u r.headerUnit = w at *
  have hrecs : (s.unitStored u r.headerUnit).recs.map (fun q => if q.id == r.id then { q with headed := true } else q) =
      s.acq.recs.map (fun q => if q.id == r.id then { q with units := u :: q.units, headed := true } else q) :=
    recs_map_twice r.id (f := fun q => { q with units := u :: q.units }) (g := fun q => { q with headed := true }) (fun _ => rfl) _
  have hacq : (w.updRec r.id (fun r => { r with headed := true })).acq = { s.acq with
      store := sput u r.headerUnit s.acq.store
      recs := s.acq.recs.map (fun q => if q.id == r.id then { q with units := u :: q.units, headed := true } else q) } := by
    rw [State.updRec, State.updAcq, hput.acq, ← hrecs]
    rfl
  have hquiet := (hput.quiet.withAcq (w.updRec r.id (fun r => { r with headed := true })).acq).pend
  exact ⟨_, exec_flashUnitWrite_next h.on hgo, hacq, hput.bytes, hput.flash, hquiet⟩

theorem exec_flashUnitWrite_data {u : Nat} {r : AcqRec} {b : AcqBlk} {rest : List (Nat × AcqBlk)} {mine : List AcqBlk} (h : State.FlushReady u s)
    (hh : ∀ q ∈ s.acq.recs, q.headed = true) (hs : s.acq.stage = (r.id, b) :: rest) (hr : s.arec r.id = some r)
    (hm : mine = (s.acq.stage.filter (fun e => e.1 == r.id)).map (fun e => e.2)) :
    ∃ t, exec (.flashUnitWrite u) s = .next t ∧ t.acq = { s.acq with
        store := sput u (r.dataUnit (mine.take (unitFill 1048512 mine))) s.acq.store
        stage := (mine.drop (unitFill 1048512 mine)).map (fun b => (r.id, b)) ++ s.acq.stage.filter (fun e => e.1 != r.id)
        recs := s.acq.recs.map (fun q => if q.id == r.id then { q with units := u :: q.units } else q) } ∧
      t.cn pACQ R.ACQ_CNT_FLASH_BYTES = min (cntMax pACQ R.ACQ_CNT_FLASH_BYTES)
        (s.cn pACQ R.ACQ_CNT_FLASH_BYTES + (64 + (r.dataUnit (mine.take (unitFill 1048512 mine))).len)) ∧
      ({ s with acq := t.acq } : State).Quiet [pACQ, pMEM] t := by
  have hgo := State.flashUnit_data h hh hs hr hm
  obtain ⟨v, hv, hvcn, hvq⟩ : ∃ v, ({ s with acq := { s.acq with
      stage := (mine.drop (unitFill 1048512 mine)).map (fun b => (r.id, b)) ++ s.acq.stage.filter (fun e => e.1 != r.id) } } : State) = v ∧
      (∀ p o, v.cn p o = s.cn p o) ∧ ∀ a, ({ v with acq := a } : State) = { s with acq := a } := ⟨_, rfl, fun _ _ => rfl, fun _ => rfl⟩
  have hput := v.unitPut u (r.dataUnit (mine.take (unitFill 1048512 mine)))
  rw [hv] at hgo
  have hquiet := hput.quiet
  rw [← hput.acq, hvq] at hquiet
  refine ⟨_, exec_flashUnitWrite_next h.on hgo, hput.acq.trans ?_, hput.bytes.trans (by rw [hvcn]), hquiet.pend⟩
  rw [← hv]
  rfl

theorem exec_flashUnitWrite_trailer {u : Nat} {r : AcqRec} (h : State.FlushReady u s) (hh : ∀ q ∈ s.acq.recs, q.headed = true)
    (hs : s.acq.stage = []) (hd : s.acq.recs.find? s.trailerDue = some r) (hf : s.acq.fifo.length < 256) :
    ∃ t, exec (.flashUnitWrite u) s = .next t ∧ t.acq = { s.acq with
        sets := t.acq.sets, store := sput u (r.trailerUnit u) s.acq.store, recs := s.acq.recs.filter (fun q => q.id != r.id)
        fifo := s.acq.fifo ++ [(r.id, recInfo r.set u false)] } ∧
      (∀ n, n ≠ r.set → t.aset n = s.aset n) ∧ bit (t.hd pACQ).irqStatus 5 = true ∧
      ({ s with acq := t.acq } : State).Quiet [pACQ, pMEM] t := by
  obtain ⟨v, hv, hgo⟩ := State.flashUnit_trailer h hh hs hd
  have hput := s.unitPut u (r.trailerUnit u)
  generalize s.putUnit u (r.trailerUnit u) = w at *
  obtain ⟨z, hz, hzset, hzother, hzfifo⟩ : ∃ z, z = v.setAset r.set { v.aset r.set with
        ring := (v.aset r.set).ring.map (fun b => if b.2 = some r.id then (b.1, none) else b) } ∧
      z = { w with acq := { s.acq with
        sets := z.acq.sets, store := sput u (r.trailerUnit u) s.acq.store, recs := s.acq.recs.filter (fun q => q.id != r.id) } } ∧
      (∀ n, n ≠ r.set → z.aset n = s.aset n) ∧ z.acq.fifo = s.acq.fifo := by
    have hrecs : (s.unitStored u (r.trailerUnit u)).recs.filter (fun q => q.id != r.id) = s.acq.recs.filter (fun q => q.id != r.id) :=
      recs_filter_map r.id (f := fun q => { q with units := u :: q.units }) (fun _ => rfl) _
    have hv' : v = { w with acq := { s.acq with
        store := sput u (r.trailerUnit u) s.acq.store, recs := s.acq.recs.filter (fun q => q.id != r.id) } } := by
      rw [hv, State.updAcq, hput.acq, ← hrecs]
      rfl
    subst hv'
    exact ⟨_, rfl, rfl, fun n hn => State.aset_setAset_other _ _ _ _ hn, rfl⟩
  rw [← hz, State.recQueue, if_neg (by rw [hzfifo]; omega)] at hgo
  obtain ⟨y, hy, hyw⟩ : ∃ y, y = z.updAcq (fun a => { a with fifo := a.fifo ++ [(r.id, recInfo r.set u false)] }) ∧
      y = { w with acq := { s.acq with
        sets := z.acq.sets, store := sput u (r.trailerUnit u) s.acq.store, recs := s.acq.recs.filter (fun q => q.id != r.id)
        fifo := s.acq.fifo ++ [(r.id, recInfo r.set u false)] } } := by
    refine ⟨_, rfl, ?_⟩
    rw [State.updAcq]
    conv_lhs => rw [hzset]
  rw [← hy] at hgo
  have hyq : ({ s with acq := y.acq } : State).Quiet [pACQ, pMEM] y := by
    have hq := hput.quiet.withAcq y.acq
    have hwy : { w with acq := y.acq } = y := by rw [hyw]
    rw [hwy] at hq
    exact hq
  have hyset (n : Nat) : y.aset n = z.aset n := by
    rw [hyw]
    rfl
  have hq := hyq.irq (p := pACQ) (by simp) 5
  have hbit := State.bit_irq y pACQ (i := 5) (by decide)
  have hacq : (y.irq pACQ 5).acq = y.acq := State.irq_acq y pACQ 5
  generalize y.irq pACQ 5 = t at *
  rw [← hacq] at hq
  refine ⟨_, exec_flashUnitWrite_next h.on hgo, ?_, fun n hn => ?_, hbit, hq.pend⟩
  · show t.acq = { s.acq with
      sets := t.acq.sets, store := sput u (r.trailerUnit u) s.acq.store, recs := s.acq.recs.filter (fun q => q.id != r.id)
      fifo := s.acq.fifo ++ [(r.id, recInfo r.set u false)] }
    rw [hacq, hyw]
  · show t.aset n = s.aset n
    rw [State.aset, hacq, ← State.aset, hyset, hzother n hn]

theorem exec_flashUnitWrite_full {u : Nat} (hon : s.onMain = true) (he : (s.hd pACQ).enable = true) (hp : s.pwr.pfMode = false ∨ s.evr.pf4 = true)
    (hw : s.acq.stage ≠ [] ∨ ∃ r ∈ s.acq.recs, r.headed = false) (hf : s.memSt.readOnly = true ∨ 65536 ≤ s.acq.store.length) :
    ∃ t, exec (.flashUnitWrite u) s = .next t ∧ bit (t.hd pACQ).irqStatus 11 = true ∧ s.Quiet [pACQ] t := by
  have hp' : (s.pwr.pfMode && !s.evr.pf4) = false := by rcases hp with h | h <;> simp [h]
  exact ⟨_, exec_flashUnitWrite_next hon (State.flashUnit_full u he hp' hw hf), State.bit_irq _ _ (by decide),
    ((State.Quiet.refl _ s).irq (by simp) _).pend⟩

theorem exec_flashUnitWrite_idle {u : Nat} (hr : s.acq.recs = []) (hs : s.acq.stage = []) : exec (.flashUnitWrite u) s = .next s := by
  rw [exec_flashUnitWrite]
  exact act_same (State.flashUnit_idle u hr hs)

end

/-- Settles O42: the tick's work never touches the Choker, the store or memory; each command is what its lemma above says. -/
theorem capture : Obligations.Capture := by
  unfold Obligations.Capture
  refine ⟨fun s hon => ⟨fun k he hk hf hp => exec_acqTickBlock_takes hon he hk hf hp,
      fun n k x y he hk hn ht hf hp hstop hctl hst hcur htrig hmask hx hy => ?_, exec_acqTickBlock_none⟩,
    fun n s hon hn => ⟨fun hs hc => exec_acqSetStart_starts hon hn hs hc, fun o c hs hc => exec_acqSetStart_refused hon hn hs hc,
      fun hs => exec_acqSetStart_none hon hn hs, ?_, fun hs => exec_resume_resumes hon hn hs, fun hs => exec_resume_none hon hn hs⟩,
    fun s hon => ⟨fun n hn h0 h4 => exec_trigger_waits hon hn h0 h4, fun n hn h => exec_trigger_ignored hon hn h,
      fun v at_ total hat htot => ⟨fun hle hns => ?_, fun h => ?_⟩⟩,
    fun s up down hon hup hdown => ⟨fun he hb ht hf => ⟨fun l hl => ?_, fun hu hd => ?_⟩, exec_chokeStep_idle⟩,
    fun s u hon => ⟨fun he hp hw hroom hu hf => ⟨fun r x hr hx => ?_, fun r b rest mine bs x hh hs hr hm hbs hx => ?_, fun r x hh hs hd hfifo hx => ?_⟩,
      fun he hp hw hf => exec_flashUnitWrite_full hon he hp hw hf, exec_flashUnitWrite_idle⟩,
    fun s hon => ⟨?_, fun v u x names h hn => exec_acqRecRelease_named hon h hn, fun v h => exec_acqRecRelease_none hon h, exec_acqRecPop_pops hon⟩⟩
  · obtain ⟨v, t, hv, hexec, hset, hhd, hcn, hq⟩ := exec_acqTickBlock_block hon he hk hn ht hf hp hstop hctl hst hcur htrig hmask hx
    refine ⟨t, hexec, fun m hm => (hset m).trans (hv.other m hm), hq, fun r hr => ?_, fun hno => ?_⟩
    · rw [hset, hcn, hy]
      exact hv.room r hr
    · rw [hset, hhd, hcn, hy]
      exact hv.full hno
  · obtain ⟨t, hexec, hset, hother, hrest⟩ := exec_acqSetStop_stops hon hn
    exact ⟨t, hexec, hother, hset, hrest⟩
  · subst hat
    exact exec_acqXtrigCmd_gives hon htot hle hns
  · subst hat
    exact exec_acqXtrigCmd_refused hon htot h
  · rcases hl with ⟨hu, rfl⟩ | ⟨hd, rfl⟩
    · exact exec_chokeStep_changes ⟨hon, he, hb, ht, hf⟩ (if_pos (hup.symm.trans hu)) (by omega)
    · obtain ⟨hlow, hpos⟩ : s.acq.backlog < 134217728 ∧ 0 < s.acq.lam := by
        rw [hdown] at hd
        simpa using hd
      refine exec_chokeStep_changes ⟨hon, he, hb, ht, hf⟩ ?_ (by omega)
      rw [State.chokeLevel, if_neg (by simp; omega)]
      exact if_pos (hdown.symm.trans hd)
  · refine exec_chokeStep_keeps ⟨hon, he, hb, ht, hf⟩ ?_
    rw [State.chokeLevel, if_neg (by rw [← hup, hu]; simp), if_neg (by rw [← hdown, hd]; simp)]
  · subst hx
    exact exec_flashUnitWrite_header ⟨hon, he, hp, hw, hroom, hu, hf⟩ hr
  · subst hx hbs
    exact exec_flashUnitWrite_data ⟨hon, he, hp, hw, hroom, hu, hf⟩ hh hs hr hm
  · subst hx
    exact exec_flashUnitWrite_trailer ⟨hon, he, hp, hw, hroom, hu, hf⟩ hh hs hd hfifo
  · obtain ⟨t, hexec, hrest, hpre, hlen, hq⟩ := exec_rescan_queues hon
    refine ⟨t, hexec, hrest, hpre, hlen, fun hlt i hr hfi => ⟨fun u x h3 => ?_, fun u x h3 h0 => ?_⟩⟩
    · have hentry := recEntry_trailer h3
      exact hq hlt i (State.mem_rescanIds hr hfi h3) _ hentry
    · have hentry := recEntry_header h3 h0
      exact hq hlt i (State.mem_rescanIds hr hfi h0) _ hentry

end Sys2Proof.Machine
end

section
/-!
PROOFS. What leaves memory and MRAM as they are (1): the accessors, memory, station time, the Crosscut, the sample plane, the
filters and the event deck. One lemma for each function of the state that writes neither.
-/
namespace Sys2Proof.Machine
open Sys2Proof

/-- The bytes of memory and of MRAM stay. -/
abbrev State.MemSame (s t : State) : Prop := t.mem = s.mem ∧ t.mram = s.mram

@[simp] theorem State.memSame_iff (s t : State) : s.MemSame t ↔ t.mem = s.mem ∧ t.mram = s.mram := Iff.rfl

@[simp] theorem State.mem_ite (c : Prop) [Decidable c] (s t : State) : (if c then s else t).mem = if c then s.mem else t.mem :=
  apply_ite State.mem c s t

@[simp] theorem State.mram_ite (c : Prop) [Decidable c] (s t : State) : (if c then s else t).mram = if c then s.mram else t.mram :=
  apply_ite State.mram c s t

theorem State.MemSame.refl (s : State) : s.MemSame s := ⟨rfl, rfl⟩

theorem State.MemSame.trans {s t u : State} (h : s.MemSame t) (h' : t.MemSame u) : s.MemSame u := ⟨h'.1.trans h.1, h'.2.trans h.2⟩

theorem State.MemSame.ite {s t u : State} {c : Prop} [Decidable c] (ht : s.MemSame t) (hu : s.MemSame u) :
    s.MemSame (if c then t else u) := iteInduction (fun _ => ht) fun _ => hu

@[simp] theorem foldl_memSame {α : Type} {f : State → α → State} (hf : ∀ (s : State) a, s.MemSame (f s a))
    (l : List α) (s : State) :
    s.MemSame (l.foldl f s) :=
  List.foldlRecOn (motive := fun u => s.MemSame u) l f (State.MemSame.refl s) fun u hu a _ => hu.trans (hf u a)

@[simp] theorem foldl_snd_memSame {α β : Type} {f : β × State → α → β × State}
    (hf : ∀ (c : β × State) a, c.2.MemSame (f c a).2) (l : List α) (c : β × State) :
    c.2.MemSame (l.foldl f c).2 :=
  List.foldlRecOn (motive := fun u : β × State => c.2.MemSame u.2) l f (State.MemSame.refl _) fun u hu a _ => hu.trans (hf u a)

@[simp] theorem foldl_fst_memSame {α β : Type} {f : State × β → α → State × β}
    (hf : ∀ (c : State × β) a, c.1.MemSame (f c a).1) (l : List α) (c : State × β) :
    c.1.MemSame (l.foldl f c).1 :=
  List.foldlRecOn (motive := fun u : State × β => c.1.MemSame u.1) l f (State.MemSame.refl _) fun u hu a _ => hu.trans (hf u a)

@[simp] theorem iter_memSame {f : Nat → State → State} (hf : ∀ n (s : State), s.MemSame (f n s)) (n : Nat) (s : State) :
    s.MemSame (iter n f s) :=
  foldl_memSame (fun s a => hf a s) _ s

theorem State.memSame_touch (s : State) (p : Nat) : s.MemSame (s.touch p) := ⟨s.touch_mem p, s.touch_mram p⟩

theorem State.memSame_irq (s : State) (p i : Nat) : s.MemSame (s.irq p i) := ⟨s.irq_mem p i, s.irq_mram p i⟩

theorem State.memSame_bump (s : State) (p o : Nat) : s.MemSame (s.bump p o) := ⟨s.bump_mem p o, s.bump_mram p o⟩

theorem State.memSame_bumpBy (s : State) (p o n : Nat) : s.MemSame (s.bumpBy p o n) := ⟨s.bumpBy_mem p o n, s.bumpBy_mram p o n⟩

theorem State.memSame_refuse (s : State) (p o c : Nat) : s.MemSame (s.refuse p o c) := ⟨s.refuse_mem p o c, s.refuse_mram p o c⟩

theorem State.memSame_accept (s : State) (p : Nat) : s.MemSame (s.accept p) := ⟨s.accept_mem p, s.accept_mram p⟩

/-! ### The state and its accessors -/

@[simp] theorem State.setRg64_memSame (s : State) (p off v : Nat) : s.MemSame (s.setRg64 p off v) := by
  simp [State.setRg64]

@[simp] theorem State.putBit_memSame (s : State) (p off i : Nat) (b : Bool) : s.MemSame (s.putBit p off i b) := by
  simp [State.putBit]

@[simp] theorem State.setTws_memSame (s : State) (a : Nat) (l : List Word) : s.MemSame (s.setTws a l) := by
  induction l generalizing s a with
  | nil => exact ⟨rfl, rfl⟩
  | cons w ws ih => exact ih (s.setTw a w) (a + 4)

@[simp] theorem State.setInst_memSame (s : State) (i : Nat) (x : Inst) : s.MemSame (s.setInst i x) := by
  simp [State.setInst]

@[simp] theorem State.updInst_memSame (s : State) (i : Nat) (f : Inst → Inst) : s.MemSame (s.updInst i f) := by
  simp [State.updInst]

/-! ### Interrupts, vectors and boundaries -/

@[simp] theorem State.msixRaise_memSame (s : State) (n : Nat) : s.MemSame (s.msixRaise n) := by
  simp [State.msixRaise]

@[simp] theorem State.vecSend_memSame (s : State) (v : Nat) (x : Vec) : s.MemSame (s.vecSend v x) := by
  simp [State.vecSend]

@[simp] theorem State.commitTake_memSame (s : State) (g : Nat) : s.MemSame (s.commitTake g) := by
  simp [State.commitTake]

@[simp] theorem State.stopEnd_memSame (s : State) (g : Nat) : s.MemSame (s.stopEnd g) := by
  simp [State.stopEnd]

@[simp] theorem State.freeWord_memSame (s : State) : s.MemSame (State.freeWord s).2 := ⟨rfl, rfl⟩

/-! ### Keys at the engines -/

@[simp] theorem State.useKey_memSame (s : State) (slot d : Nat) : s.MemSame (s.useKey slot d).2 := by
  unfold State.useKey
  split <;> simp [apply_ite Prod.snd]

/-! ### Memory and its Cruiser -/

@[simp] theorem State.memEvent_memSame (s : State) (a kind req idx : Nat) : s.MemSame (s.memEvent a kind req idx) := by
  simp [State.memEvent]

@[simp] theorem State.remapInto_memSame (s : State) (e a : Nat) (ue : Bool) (req idx : Nat) : s.MemSame (s.remapInto e a ue req idx) :=
  ⟨s.remapInto_mem e a ue req idx, by
    rw [State.remapInto, (State.memEvent_memSame _ _ _ _ _).2, State.irq_mram, State.bump_mram, State.updMem_mram,
      (s.setTws_memSame _ _).2]⟩

@[simp] theorem State.remap_memSame (s : State) (a : Nat) (ue : Bool) (req idx : Nat) : s.MemSame (s.remap a ue req idx) := by
  unfold State.remap
  split
  · exact State.MemSame.refl s
  · split
    · exact s.remapInto_memSame _ a ue req idx
    · exact ((s.memSame_bump _ _).trans (State.memSame_irq _ _ _)).trans (State.memEvent_memSame _ _ _ _ _)

@[simp] theorem State.trackCorr_memSame (s : State) (a req idx : Nat) : s.MemSame (s.trackCorr a req idx) := by
  constructor <;> simp [State.trackCorr] <;> (repeat' split) <;> simp

@[simp] theorem State.freshAt_memSame (s : State) (as : List Nat) (n : Nat) : s.MemSame (s.freshAt as n) := by
  simp [State.freshAt]

@[simp] theorem State.setLap_memSame (s : State) (m : Nat) (l : Lap) : s.MemSame (s.setLap m l) := by
  simp [State.setLap]

@[simp] theorem State.lapEnd_memSame (s : State) (m : Nat) : s.MemSame (s.lapEnd m) := by
  simp [State.lapEnd]

@[simp] theorem State.lapWarn_memSame (s : State) (m : Nat) : s.MemSame (s.lapWarn m) := by
  simp [State.lapWarn]

@[simp] theorem State.memInj_memSame (s : State) (v : Word) : s.MemSame (s.memInj v) := by
  simp [State.memInj]

@[simp] theorem State.flashWear_memSame (s : State) (used spare : Nat) : s.MemSame (s.flashWear used spare) := by
  simp [State.flashWear]

@[simp] theorem State.flashWrote_memSame (s : State) (n : Nat) : s.MemSame (s.flashWrote n) := by
  simp [State.flashWrote]

/-! ### Station time -/

@[simp] theorem State.setSync_memSame (s : State) (y : Sync) : s.MemSame (s.setSync y) := by
  unfold State.setSync
  split <;> simp

@[simp] theorem State.enterHold_memSame (s : State) (byWdog : Bool) : s.MemSame (s.enterHold byWdog) := by
  simp [State.enterHold]

@[simp] theorem State.tsuLocked_memSame (s : State) : s.MemSame (State.tsuLocked s) := by
  simp [State.tsuLocked]

@[simp] theorem State.tsuHold_memSame (s : State) : s.MemSame (State.tsuHold s) := by
  simp [State.tsuHold]

@[simp] theorem State.tsuRelease_memSame (s : State) : s.MemSame (State.tsuRelease s) := by
  simp [State.tsuRelease]

@[simp] theorem State.tsuLatch_memSame (s : State) : s.MemSame (State.tsuLatch s) := by
  simp [State.tsuLatch]

@[simp] theorem State.toArm_memSame (s : State) (n : Nat) : s.MemSame (s.toArm n) := by
  simp [State.toArm]

@[simp] theorem State.toStepped_memSame (s : State) (n : Nat) (d : Int) : s.MemSame (s.toStepped n d) := by
  simp [State.toStepped]

@[simp] theorem State.tsuStep_memSame (s : State) : s.MemSame (State.tsuStep s) := by
  have hbase (new : Nat) : s.MemSame (s.stepBase new) := by
    unfold State.stepBase
    have h : s.MemSame (s.updTsu fun _ => s.steppedTsu new) := ⟨rfl, rfl⟩
    generalize s.updTsu (fun _ => s.steppedTsu new) = u at h
    exact h.trans ((u.memSame_bump _ _).trans (State.memSame_irq _ _ _))
  have hgap (u : State) (g : Nat) : u.MemSame (u.stepGap g) := by
    unfold State.stepGap
    extract_lets v
    have hv : u.MemSame v := ⟨rfl, rfl⟩
    clear_value v
    exact .ite hv (hv.trans ((v.memSame_bumpBy _ _ _).trans (State.memSame_irq _ _ _)))
  cases hh : s.inHold with
  | true =>
    rw [State.tsuStep, if_pos hh]
    exact s.memSame_refuse _ _ _
  | false =>
    rw [s.tsuStep_eq hh rfl]
    refine State.MemSame.trans ?_ (iter_memSame (fun n u => u.toStepped_memSame n _) 4 _)
    split
    · exact (hbase _).trans (hgap _ _)
    · exact hbase _

@[simp] theorem State.adjRate_memSame (s : State) (v : Word) : s.MemSame (s.adjRate v) := by
  simp [State.adjRate]

@[simp] theorem State.adjPhase_memSame (s : State) (v : Word) : s.MemSame (s.adjPhase v) := by
  simp [State.adjPhase]

@[simp] theorem State.holdUpdate_memSame (s : State) (dT : Int) : s.MemSame (s.holdUpdate dT) := by
  simp [State.holdUpdate]

@[simp] theorem State.tsuTick_memSame (s : State) : s.MemSame (State.tsuTick s) := by
  simp [State.tsuTick]

@[simp] theorem State.toEdge_memSame (s : State) (n : Nat) : s.MemSame (s.toEdge n) := by
  simp [State.toEdge]

@[simp] theorem State.toPulseEnd_memSame (s : State) (n : Nat) : s.MemSame (s.toPulseEnd n) := by
  simp [State.toPulseEnd]

@[simp] theorem State.tiCapture_memSame (s : State) (n : Nat) (falling : Bool) (width : Nat) : s.MemSame (s.tiCapture n falling width) := by
  simp [State.tiCapture]

@[simp] theorem State.tiPop_memSame (s : State) (v : Word) : s.MemSame (s.tiPop v) := by
  simp [State.tiPop]

@[simp] theorem State.tsuCmd_memSame (s : State) (v : Word) : s.MemSame (s.tsuCmd v) := by
  simp [State.tsuCmd]

@[simp] theorem State.tsuApplied_memSame (old s : State) : s.MemSame (State.tsuApplied old s) := by
  simp [State.tsuApplied]

@[simp] theorem State.tsuSoft_memSame (s : State) : s.MemSame (State.tsuSoft s) := by
  simp [State.tsuSoft]

/-! ### Ports and the Crosscut -/

@[simp] theorem State.lndMark_memSame (s : State) : s.MemSame (State.lndMark s) := by
  simp [State.lndMark]

@[simp] theorem State.lndDrop_memSame (s : State) (id : Nat) : s.MemSame (s.lndDrop id) := by
  simp [State.lndDrop]

@[simp] theorem State.enqOne_memSame (s : State) (e q : Nat) (x : QEntry) : s.MemSame (s.enqOne e q x).2 := by
  unfold State.enqOne
  split <;> simp

@[simp] theorem State.offer_memSame (s : State) (b : Bound) (x : QEntry) (fr : Nat → Frame) (ports : List Nat) :
    s.MemSame (s.offer b x fr ports).2 := by
  simp [State.offer]

@[simp] theorem State.enqueueAll_memSame (s : State) (f : Frame) (b : Bound) (x : QEntry) (seq : Option Nat) :
    s.MemSame (s.enqueueAll f b x seq).2 := by
  simp [State.enqueueAll, apply_ite Prod.snd]

@[simp] theorem State.enqueue_memSame (s : State) (f : Frame) (b : Bound) (x : QEntry) (seq : Option Nat) :
    s.MemSame (s.enqueue f b x seq) := by
  simp [State.enqueue]

@[simp] theorem State.learn_memSame (s : State) (p sa vid : Nat) : s.MemSame (s.learn p sa vid) := by
  unfold State.learn
  repeat' split
  all_goals simp

@[simp] theorem State.fdbAgeOut_memSame (s : State) (i : Nat) : s.MemSame (s.fdbAgeOut i) := by
  simp [State.fdbAgeOut]

@[simp] theorem State.dupCheck_memSame (s : State) (pair sa seq : Nat) : s.MemSame (s.dupCheck pair sa seq).2 := by
  unfold State.dupCheck
  repeat' split
  all_goals simp

@[simp] theorem State.dupForget_memSame (s : State) (i : Nat) : s.MemSame (s.dupForget i) := by
  unfold State.dupForget
  split <;> simp

@[simp] theorem State.nodeSeen_memSame (s : State) (node : Nat) (lan : Option Nat) (proxied : Bool) :
    s.MemSame (s.nodeSeen node lan proxied) := by
  unfold State.nodeSeen
  repeat' split
  all_goals simp

@[simp] theorem State.pauseRx_memSame (s : State) (p quanta : Nat) : s.MemSame (s.pauseRx p quanta) := by
  simp [State.pauseRx]

@[simp] theorem State.pauseBegin_memSame (s : State) (p : Nat) : s.MemSame (s.pauseBegin p) := by
  simp [State.pauseBegin]

@[simp] theorem State.pauseExpire_memSame (s : State) (p : Nat) : s.MemSame (s.pauseExpire p) := by
  simp [State.pauseExpire]

@[simp] theorem State.pauseWdog_memSame (s : State) (p : Nat) : s.MemSame (s.pauseWdog p) := by
  simp [State.pauseWdog]

@[simp] theorem State.pauseHoldoffEnd_memSame (s : State) (p : Nat) : s.MemSame (s.pauseHoldoffEnd p) := by
  simp [State.pauseHoldoffEnd]

@[simp] theorem State.flushQueues_memSame (s : State) (p : Nat) : s.MemSame (s.flushQueues p) := by
  simp [State.flushQueues]

@[simp] theorem State.flushPort_memSame (s : State) (p : Nat) : s.MemSame (s.flushPort p) := by
  simp [State.flushPort]

@[simp] theorem State.linkLost_memSame (s : State) (p : Nat) : s.MemSame (s.linkLost p) := by
  simp [State.linkLost]

@[simp] theorem State.linkGained_memSame (s : State) (p : Nat) : s.MemSame (s.linkGained p) := by
  simp [State.linkGained]

@[simp] theorem State.pnTaken_memSame (s : State) (a pn : Nat) : s.MemSame (s.pnTaken a pn) := by
  simp [State.pnTaken]

@[simp] theorem State.macsecRx_memSame (s : State) (p : Nat) (f : Frame) : s.MemSame (s.macsecRx p f).2 := by
  unfold State.macsecRx
  split
  · exact ⟨rfl, rfl⟩
  · split
    · split
      · exact ⟨rfl, rfl⟩
      · exact ⟨s.bump_mem _ _, s.bump_mram _ _⟩
    · next t _ =>
      split
      · exact ⟨s.bump_mem _ _, s.bump_mram _ _⟩
      · extract_lets a
        split
        · exact ⟨s.bump_mem _ _, s.bump_mram _ _⟩
        · have hk := s.useKey_memSame (fld (s.tw (a + 4)) 0 8) (macsecDest p)
          split
          · next u hu =>
            rw [hu] at hk
            exact ⟨(u.bump_mem _ _).trans hk.1, (u.bump_mram _ _).trans hk.2⟩
          · next key u hu =>
            rw [hu] at hk
            split
            · exact ⟨(u.bump_mem _ _).trans hk.1, (u.bump_mram _ _).trans hk.2⟩
            · exact ⟨(u.pnTaken_memSame _ _).1.trans hk.1, (u.pnTaken_memSame _ _).2.trans hk.2⟩

@[simp] theorem State.pnThresh_memSame (s : State) (p old new : Nat) : s.MemSame (s.pnThresh p old new) := by
  simp [State.pnThresh]

@[simp] theorem State.saWritten_memSame (s : State) (p a : Nat) : s.MemSame (s.saWritten p a) := by
  simp [State.saWritten]

@[simp] theorem State.tcRx_memSame (s : State) (p : Nat) (f : Frame) (ports : List Nat) : s.MemSame (s.tcRx p f ports) := by
  unfold State.tcRx
  repeat' split
  all_goals simp

@[simp] theorem State.forward_memSame (s : State) (p : Nat) (f : Frame) (stamp vid pcp : Nat) (ring : Option Nat) :
    s.MemSame (s.forward p f stamp vid pcp ring) := by
  constructor <;> simp [State.forward] <;> (repeat' split) <;> simp

@[simp] theorem State.proxySeen_memSame (s : State) (ing sa : Nat) : s.MemSame (s.proxySeen ing sa) := by
  simp [State.proxySeen]

@[simp] theorem State.redRx_memSame (s : State) (p : Nat) (f : Frame) : s.MemSame (s.redRx p f).2.2 := by
  constructor <;> simp [State.redRx] <;> (repeat' split) <;> simp

@[simp] theorem State.windowIn_memSame (s : State) (f : Frame) : s.MemSame (s.windowIn f) := by
  unfold State.windowIn
  split <;> simp

@[simp] theorem State.frameRx_memSame (s : State) (p : Nat) (f : Frame) : s.MemSame (s.frameRx p f) := by
  have hone (q o : Nat) (u : State) : u.MemSame (u.bump q o) := u.memSame_bump q o
  unfold State.frameRx
  refine .ite (.refl s) ?_
  · extract_lets mp stamp control admitted s1 vc pcp s2
    have h1 : s.MemSame s1 := (s.memSame_bump _ _).trans (State.memSame_irq _ _ _)
    have h2 : s.MemSame s2 := (s.memSame_bump _ _).trans (State.memSame_bumpBy _ _ _ _)
    clear_value s1 s2
    split
    · exact (s.memSame_bump _ _).trans (State.memSame_irq _ _ _)
    · split
      · exact hone _ _ s
      · split
        · split
          · exact h1
          · exact h1.trans (s1.enqueue_memSame _ _ _ _)
        · split
          · exact hone _ _ s
          · split
            · split
              · exact h2.trans (s2.pauseRx_memSame _ _)
              · exact h2.trans (hone _ _ s2)
            · have hm := s2.macsecRx_memSame p f
              split
              · next u hu =>
                rw [hu] at hm
                exact h2.trans hm
              · next g u hu =>
                rw [hu] at hm
                have h : s.MemSame u := h2.trans hm
                extract_lets vc' vid pcp'
                refine .ite (h.trans (u.windowIn_memSame g)) (.ite (.ite h (h.trans (hone _ _ u))) (.ite (h.trans (hone _ _ u)) ?_))
                have hr := h.trans (u.redRx_memSame p g)
                exact .ite (hr.trans (State.forward_memSame _ _ _ _ _ _ _)) hr

@[simp] theorem State.h1Take_memSame (s : State) : s.MemSame (State.h1Take s) := by
  constructor <;> simp [State.h1Take] <;> (repeat' split) <;> simp

@[simp] theorem State.deq_memSame (s : State) (e q : Nat) : s.MemSame (s.deq e q) := by
  simp [State.deq]

@[simp] theorem State.ptpOut_memSame (s : State) (e : Nat) (x : QEntry) (eg frac : Nat) : s.MemSame (s.ptpOut e x eg frac).2 := by
  unfold State.ptpOut
  repeat' split
  all_goals simp

@[simp] theorem State.macsecTx_memSame (s : State) (p : Nat) (f : Frame) : s.MemSame (s.macsecTx p f).2 := by
  unfold State.macsecTx
  split
  · exact ⟨rfl, rfl⟩
  · extract_lets an a pn incl t g
    split
    · exact ⟨rfl, rfl⟩
    · split
      · exact ⟨(State.irq_mem _ _ _).trans (s.bump_mem _ _), (State.irq_mram _ _ _).trans (s.bump_mram _ _)⟩
      · have hk := s.useKey_memSame (fld (s.tw (a + 4)) 0 8) (macsecDest p)
        split
        · next u hu =>
          rw [hu] at hk
          exact hk
        · next key u hu =>
          rw [hu] at hk
          exact ⟨(State.pnThresh_memSame _ _ _ _).1.trans hk.1, (State.pnThresh_memSame _ _ _ _).2.trans hk.2⟩

@[simp] theorem State.yardOut_memSame (s : State) (f : Frame) : s.MemSame (s.yardOut f) := by
  have hm := s.macsecTx_memSame 8 f
  unfold State.yardOut
  split
  · next u hu =>
    rw [hu] at hm
    exact hm.trans (u.memSame_bump _ _)
  · next g u hu =>
    rw [hu] at hm
    exact hm.trans ((u.memSame_bump _ _).trans (State.memSame_bumpBy _ _ _ _))

@[simp] theorem State.yardSend_memSame (s : State) (f : Frame) : s.MemSame (s.yardSend f) := by
  simp [State.yardSend]

@[simp] theorem State.yardDrain_memSame (s : State) : s.MemSame (State.yardDrain s) := by
  simp [State.yardDrain]

/-! ### The sample plane -/

@[simp] theorem State.setStrm_memSame (s : State) (slot : Nat) (x : Stream) : s.MemSame (s.setStrm slot x) := by
  simp [State.setStrm]

@[simp] theorem State.subWritten_memSame (s : State) (slot : Nat) : s.MemSame (s.subWritten slot) := by
  simp [State.subWritten]

@[simp] theorem State.svLate_memSame (s : State) (slot : Nat) : s.MemSame (s.svLate slot) := by
  simp [State.svLate]

@[simp] theorem State.placeSync_memSame (s : State) (slot : Nat) (e : Sub) (a : SvAsdu) (arr : Nat) (authOk : Bool) :
    s.MemSame (s.placeSync slot e a arr authOk) := by
  simp [State.placeSync]

@[simp] theorem State.placeUnsync_memSame (s : State) (slot : Nat) (e : Sub) (a : SvAsdu) (arr : Int) (authOk : Bool) :
    s.MemSame (s.placeUnsync slot e a arr authOk) := by
  simp [State.placeUnsync]

@[simp] theorem State.svAuth_memSame (s : State) (e : Sub) (p : SvPdu) : s.MemSame (s.svAuth e p).2 := by
  unfold State.svAuth
  repeat' split
  all_goals simp [apply_ite Prod.snd]

@[simp] theorem State.svDiscard_memSame (s : State) (slot cause arr : Nat) : s.MemSame (s.svDiscard slot cause arr) := by
  unfold State.svDiscard
  split <;> simp

@[simp] theorem State.stranger_memSame (s : State) (x : QEntry) (p : SvPdu) : s.MemSame (s.stranger x p) := by
  simp [State.stranger]

@[simp] theorem State.strPop_memSame (s : State) : s.MemSame (State.strPop s) := by
  simp [State.strPop]

@[simp] theorem State.svFrame_memSame (s : State) (x : QEntry) (p : SvPdu) : s.MemSame (s.svFrame x p) := by
  constructor <;> simp [State.svFrame] <;> (repeat' split) <;> simp

@[simp] theorem State.svDecode_memSame (s : State) (lane : Nat) : s.MemSame (s.svDecode lane) := by
  unfold State.svDecode
  repeat' split
  all_goals simp

@[simp] theorem State.svaTick_memSame (s : State) : s.MemSame (State.svaTick s) := by
  simp [State.svaTick]

@[simp] theorem State.svaFreeze_memSame (s : State) : s.MemSame (State.svaFreeze s) := by
  unfold State.svaFreeze
  split <;> simp

@[simp] theorem State.putChans_memSame (s : State) (k c : Nat) (l : List (Int × Nat)) : s.MemSame (s.putChans k c l) := by
  induction l generalizing s c with
  | nil => exact ⟨rfl, rfl⟩
  | cons x l ih => exact ih _ (c + 1)

@[simp] theorem State.finalStr_memSame (s : State) (k : Nat) (agreed solo : Bool) (slot : Nat) (f : FrozenStr) :
    s.MemSame (s.finalStr k agreed solo slot f) := by
  simp [State.finalStr]

@[simp] theorem State.svaFinal_memSame (s : State) (partner : Option PMap) (solo : Bool) : s.MemSame (s.svaFinal partner solo) := by
  unfold State.svaFinal
  split <;> simp

@[simp] theorem State.svaMap_memSame (s : State) (m : PMap) : s.MemSame (s.svaMap m) := by
  simp [State.svaMap]

@[simp] theorem State.svaApplied_memSame (s : State) : s.MemSame (State.svaApplied s) := by
  simp [State.svaApplied]

@[simp] theorem State.svaStopped_memSame (s : State) : s.MemSame (State.svaStopped s) := by
  simp [State.svaStopped]

@[simp] theorem State.svaCntClear_memSame (s : State) : s.MemSame (State.svaCntClear s) := by
  simp [State.svaCntClear]

/-! ### Filter engines and converters -/

@[simp] theorem State.recost_memSame (s : State) (e : Nat) : s.MemSame (s.recost e) := by
  simp [State.recost]

@[simp] theorem State.putOut_memSame (s : State) (e c k : Nat) (x : Chain) : s.MemSame (s.putOut e c k x) := by
  simp [State.putOut]

@[simp] theorem State.thrRaise_memSame (s : State) (e : Nat) (w : Word) (ev : ThrEvent) : s.MemSame (s.thrRaise e w ev) := by
  simp [State.thrRaise]

@[simp] theorem State.runChain_memSame (s : State) (e k c : Nat) (refs : List RefSt) (outs : List (Nat × List OutSmp)) :
    s.MemSame (s.runChain e k c refs outs).2 := by
  simp [State.runChain, apply_ite Prod.snd]

@[simp] theorem State.fltActivate_memSame (s : State) (e : Nat) (old : State) : s.MemSame (s.fltActivate e old) := by
  simp [State.fltActivate]

@[simp] theorem State.fltCommitNow_memSame (s : State) (e : Nat) : s.MemSame (s.fltCommitNow e) := by
  simp [State.fltCommitNow]

@[simp] theorem State.fltReleased_memSame (s : State) (e : Nat) : s.MemSame (s.fltReleased e) := by
  simp [State.fltReleased]

@[simp] theorem State.chainStart_memSame (s : State) (e c off : Nat) : s.MemSame (s.chainStart e c off) := by
  constructor <;> simp [State.chainStart] <;> split <;> simp

theorem State.fltStartAll_memSame (s : State) (e : Nat) : s.MemSame ((State.fltStartAll s e).elim Prod.snd id) := by
  unfold State.fltStartAll
  extract_lets todo x t u
  have ht : s.MemSame t := s.fltCommitNow_memSame e
  have hu : t.MemSame u := by
    refine .trans ?_ (State.recost_memSame _ _)
    refine foldl_memSame (fun v c => ?_) todo t
    exact ⟨rfl, rfl⟩
  clear_value t u
  split
  · exact .refl s
  split
  · exact .ite ⟨rfl, rfl⟩ (.refl s)
  split
  · exact ht
  · split
    · exact ht
    · exact ht.trans hu

@[simp] theorem State.chainStop_memSame (s : State) (e c : Nat) : s.MemSame (s.chainStop e c) := by
  simp [State.chainStop]

@[simp] theorem State.chainClearSat_memSame (s : State) (e c : Nat) : s.MemSame (s.chainClearSat e c) := by
  simp [State.chainClearSat]

@[simp] theorem State.fltStop_memSame (s : State) (e : Nat) : s.MemSame (s.fltStop e) := by
  simp [State.fltStop]

@[simp] theorem State.fltStopAll_memSame (s : State) (e : Nat) : s.MemSame (s.fltStopAll e) := by
  simp [State.fltStopAll]

@[simp] theorem State.fltRefCmd_memSame (s : State) (e : Nat) (v : Word) : s.MemSame (s.fltRefCmd e v) := by
  simp [State.fltRefCmd]

@[simp] theorem State.chainWritten_memSame (s : State) (e c : Nat) (old : List Word) : s.MemSame (s.chainWritten e c old) := by
  simp [State.chainWritten]

/-! ### The event deck -/

@[simp] theorem State.deck_memSame (s : State) (src cls typ : Nat) (body : List Nat) : s.MemSame (s.deck src cls typ body) := by
  simp [State.deck]

@[simp] theorem State.flushStart_memSame (s : State) : s.MemSame (State.flushStart s) := by
  simp [State.flushStart]

@[simp] theorem State.ordOut_memSame (s : State) (r : Rec) : s.MemSame (s.ordOut r) := by
  simp [State.ordOut]

@[simp] theorem State.flushDone_memSame (s : State) : s.MemSame (State.flushDone s) := by
  unfold State.flushDone
  split <;> simp

@[simp] theorem State.ordLost_memSame (s : State) : s.MemSame (State.ordLost s) := by
  simp [State.ordLost]

@[simp] theorem State.ordAccept_memSame (s : State) (r : Rec) : s.MemSame (s.ordAccept r) := by
  unfold State.ordAccept
  split <;> simp

@[simp] theorem State.evrPost_memSame (s : State) (v : Word) : s.MemSame (s.evrPost v) := by
  simp [State.evrPost]

@[simp] theorem State.pfStep3_memSame (s : State) : s.MemSame (State.pfStep3 s) := by
  simp [State.pfStep3]

@[simp] theorem State.privLost_memSame (s : State) : s.MemSame (State.privLost s) := by
  simp [State.privLost]

@[simp] theorem State.privAccept_memSame (s : State) (r : Rec) : s.MemSame (s.privAccept r) := by
  simp [State.privAccept]

@[simp] theorem State.hwSubmit_memSame (s : State) : s.MemSame (State.hwSubmit s) := by
  unfold State.hwSubmit
  split <;> constructor <;> simp [↓apply_ite State.mem, ↓apply_ite State.mram]

@[simp] theorem State.privLossRec_memSame (s : State) : s.MemSame (State.privLossRec s) := by
  simp [State.privLossRec]

@[simp] theorem State.privMirror_memSame (s : State) : s.MemSame (State.privMirror s) := by
  unfold State.privMirror
  split <;> simp

@[simp] theorem State.privRelease_memSame (s : State) (v : Word) : s.MemSame (s.privRelease v) := by
  simp [State.privRelease]

end Sys2Proof.Machine
end

section
/-!
PROOFS. What leaves memory and MRAM as they are (2): the cycle executor, capture, function instances, tally engines, the pair.
-/
namespace Sys2Proof.Machine
open Sys2Proof

/-! ### The process image -/

@[simp] theorem State.writePt_memSame (s : State) (i : Nat) (x : Point) : s.MemSame (s.writePt i x) := by
  simp [State.writePt]

@[simp] theorem State.stageAdc_memSame (s : State) (p : Nat) (x : Point) : s.MemSame (s.stageAdc p x) := by
  simp [State.stageAdc]

@[simp] theorem State.updAdc_memSame (s : State) (c : Nat) (f : Adc → Adc) : s.MemSame (s.updAdc c f) := by
  simp [State.updAdc]

@[simp] theorem State.adcNext_memSame (s : State) (c : Nat) : s.MemSame (s.adcNext c) := by
  constructor <;> simp [State.adcNext] <;> split <;> simp

@[simp] theorem State.adcTick_memSame (s : State) : s.MemSame (State.adcTick s) := by
  simp [State.adcTick]

@[simp] theorem State.adcScan_memSame (s : State) (c : Nat) (temp : Int) : s.MemSame (s.adcScan c temp) := by
  simp [State.adcScan]

@[simp] theorem State.adcData_memSame (s : State) (c slot inp g : Nat) (urgent : Bool) (v : Int) (stamp : Nat) :
    s.MemSame (s.adcData c slot inp g urgent v stamp) := by
  simp [State.adcData]

@[simp] theorem State.adcAuto_memSame (s : State) (c n : Nat) (w : Word) (v : Int) : s.MemSame (s.adcAuto c n w v) := by
  simp [State.adcAuto]

@[simp] theorem State.adcWin_memSame (s : State) (c n : Nat) (cfg : List Word) (v : Int) : s.MemSame (s.adcWin c n cfg v) := by
  simp [State.adcWin]

@[simp] theorem State.plausWrite_memSame (s : State) (v : Int) (q stamp : Nat) : s.MemSame (s.plausWrite v q stamp) := by
  simp [State.plausWrite]

@[simp] theorem State.plausPair_memSame (s : State) (a b : Int × Nat × Nat) (later : Nat) : s.MemSame (s.plausPair a b later) := by
  simp [State.plausPair]

@[simp] theorem State.plausSingle_memSame (s : State) (r : Int × Nat × Nat) : s.MemSame (s.plausSingle r) := by
  simp [State.plausSingle]

@[simp] theorem State.plausAlone_memSame (s : State) (c : Nat) : s.MemSame (s.plausAlone c) := by
  unfold State.plausAlone
  repeat' split
  all_goals simp

@[simp] theorem State.plausIn_memSame (s : State) (c : Nat) (v : Int) (q stamp : Nat) : s.MemSame (s.plausIn c v q stamp) := by
  constructor <;> simp [State.plausIn] <;> split <;> simp

@[simp] theorem State.adcResult_memSame (s : State) (c : Nat) (k : AdcScan) : s.MemSame (s.adcResult c k) := by
  simp [State.adcResult]

@[simp] theorem State.adcHalt_memSame (s : State) (c : Nat) : s.MemSame (s.adcHalt c) := by
  simp [State.adcHalt]

@[simp] theorem State.adcDone_memSame (s : State) (c : Nat) (raw : Int) : s.MemSame (s.adcDone c raw) := by
  constructor <;> simp [State.adcDone] <;> (repeat' split) <;> simp

@[simp] theorem State.adcUrgent_memSame (s : State) (c off : Nat) : s.MemSame (s.adcUrgent c off) := by
  simp [State.adcUrgent]

@[simp] theorem State.adcEdge_memSame (s : State) (n : Nat) : s.MemSame (s.adcEdge n) := by
  simp [State.adcEdge]

@[simp] theorem State.adcCalStart_memSame (s : State) (c : Nat) : s.MemSame (s.adcCalStart c) := by
  simp [State.adcCalStart]

@[simp] theorem State.adcCalDone_memSame (s : State) (c : Nat) (offs gains : List Int) (temp : Int) :
    s.MemSame (s.adcCalDone c offs gains temp) := by
  simp [State.adcCalDone]

@[simp] theorem State.shuntTrip_memSame (s : State) (a : Nat) : s.MemSame (s.shuntTrip a) := by
  simp [State.shuntTrip]

@[simp] theorem State.shuntClose_memSame (s : State) (c : Nat) : s.MemSame (s.shuntClose c) := ⟨rfl, rfl⟩

@[simp] theorem State.adcRead_memSame (s : State) (c : Nat) : s.MemSame (s.adcRead c) := by
  simp [State.adcRead]

theorem State.adcStart_memSame (s : State) (c : Nat) : ∀ t, State.adcStart s c = .inr t → s.MemSame t := by
  intro t h
  unfold State.adcStart at h
  split at h
  · cases h
  · cases h
    exact ⟨rfl, rfl⟩

@[simp] theorem State.adcStop_memSame (s : State) (c : Nat) : s.MemSame (s.adcStop c) := by
  simp [State.adcStop]

@[simp] theorem State.adcApplied_memSame (s : State) (c : Nat) : s.MemSame (s.adcApplied c) := by
  unfold State.adcApplied
  dsimp only
  split <;> simp

@[simp] theorem State.adcSoft_memSame (s : State) (c : Nat) : s.MemSame (s.adcSoft c) := by
  simp [State.adcSoft]

/-! ### The cycle executor -/

@[simp] theorem State.cycTick_memSame (s : State) : s.MemSame (State.cycTick s) := by
  simp [State.cycTick]

@[simp] theorem State.setDirs_memSame (s : State) (ps : List (Nat × Nat × Nat)) : s.MemSame (s.setDirs ps) := by
  simp [State.setDirs]

@[simp] theorem State.winOpen_memSame (s : State) (i : Nat) : s.MemSame (s.winOpen i) := by
  simp [State.winOpen]

@[simp] theorem State.winClose_memSame (s : State) (i : Nat) : s.MemSame (s.winClose i) := by
  simp [State.winClose]

@[simp] theorem State.actEnd_memSame (s : State) (i cls : Nat) : s.MemSame (s.actEnd i cls) := by
  simp [State.actEnd]

@[simp] theorem State.cause_memSame (s : State) (i b : Nat) : s.MemSame (s.cause i b) := by
  simp [State.cause]

@[simp] theorem State.mayWrite_memSame (s : State) (i p : Nat) : s.MemSame (s.mayWrite i p).2 := by
  simp [State.mayWrite, apply_ite Prod.snd]

@[simp] theorem State.pointWrite_memSame (s : State) (i cls p value qual : Nat) (keep : Option Nat) :
    s.MemSame (s.pointWrite i cls p value qual keep) := by
  simp [State.pointWrite]

@[simp] theorem State.cycRec_memSame (s : State) (cls typ a b : Nat) : s.MemSame (s.cycRec cls typ a b) := by
  simp [State.cycRec]

@[simp] theorem State.keepPast_memSame (s : State) (p : Nat) : s.MemSame (s.keepPast p) := by
  simp [State.keepPast]

@[simp] theorem State.forceApply_memSame (s : State) (e : Nat) (f : Force) : s.MemSame (s.forceApply e f) := by
  simp [State.forceApply]

@[simp] theorem State.forceLift_memSame (s : State) (e : Nat) (f : Force) : s.MemSame (s.forceLift e f) := by
  simp [State.forceLift]

@[simp] theorem State.forceStep_memSame (s : State) (e : Nat) : s.MemSame (s.forceStep e) := by
  unfold State.forceStep
  dsimp only
  split <;> simp

@[simp] theorem State.kerfForces_memSame (s : State) : s.MemSame (State.kerfForces s) := by
  simp [State.kerfForces]

@[simp] theorem State.forceWritten_memSame (s : State) (e : Nat) : s.MemSame (s.forceWritten e) := by
  simp [State.forceWritten]

@[simp] theorem State.commitPt_memSame (s : State) (p : Nat) (x : Point) : s.MemSame (s.commitPt p x) := by
  unfold State.commitPt
  repeat' split
  all_goals simp

@[simp] theorem State.commitGoose_memSame (s : State) (g : Nat × Nat × Option Nat × Nat × Nat) : s.MemSame (s.commitGoose g) := by
  simp [State.commitGoose]

@[simp] theorem State.safeValues_memSame (s : State) (i : Nat) : s.MemSame (s.safeValues i) := by
  simp [State.safeValues]

@[simp] theorem State.commitImage_memSame (s : State) : s.MemSame (State.commitImage s) := by
  simp [State.commitImage]

@[simp] theorem State.instFault_memSame (s : State) (i : Nat) (errTask : Bool) : s.MemSame (s.instFault i errTask) := by
  simp [State.instFault]

@[simp] theorem State.overrun_memSame (s : State) (lenient : Bool) (i : Nat) : s.MemSame (s.overrun lenient i) := by
  simp [State.overrun]

@[simp] theorem State.instStopNow_memSame (s : State) (i : Nat) : s.MemSame (s.instStopNow i) := by
  simp [State.instStopNow]

@[simp] theorem State.slackMark_memSame (s : State) (kerfNs : Nat) : s.MemSame (s.slackMark kerfNs) := by
  simp [State.slackMark]

@[simp] theorem State.kerf12_memSame (s : State) (used : Nat) (lenient : Nat → Bool) : s.MemSame (s.kerf12 used lenient) := by
  simp [State.kerf12]

@[simp] theorem State.instBegin_memSame (s : State) (i b : Nat) : s.MemSame (s.instBegin i b) := by
  unfold State.instBegin
  dsimp only
  split <;> simp

@[simp] theorem State.instStart_memSame (s : State) (i off pg : Nat) : s.MemSame (s.instStart i off pg) := by
  unfold State.instStart
  repeat' split
  all_goals simp

@[simp] theorem State.instStop_memSame (s : State) (i off pg : Nat) : s.MemSame (s.instStop i off pg) := by
  simp [State.instStop]

@[simp] theorem State.instRestart_memSame (s : State) (i : Nat) : s.MemSame (s.instRestart i) := by
  simp [State.instRestart]

@[simp] theorem State.piRead_memSame (s : State) : s.MemSame (State.piRead s) := by
  simp [State.piRead]

@[simp] theorem State.piWrite_memSame (s : State) (keep : Bool) : s.MemSame (s.piWrite keep) := by
  simp [State.piWrite]

@[simp] theorem State.piDir_memSame (s : State) : s.MemSame (State.piDir s) := by
  simp [State.piDir]

@[simp] theorem State.cycApplied_memSame (s : State) (p : Nat) : s.MemSame (s.cycApplied p) := by
  simp [State.cycApplied]

@[simp] theorem State.cycCntClear_memSame (s : State) (p : Nat) : s.MemSame (s.cycCntClear p) := by
  simp [State.cycCntClear]

/-! ### Capture of a tick -/

@[simp] theorem State.setAset_memSame (s : State) (n : Nat) (x : AcqSet) : s.MemSame (s.setAset n x) := by
  simp [State.setAset]

@[simp] theorem State.updRec_memSame (s : State) (id : Nat) (f : AcqRec → AcqRec) : s.MemSame (s.updRec id f) := by
  simp [State.updRec]

@[simp] theorem State.acqStage_memSame (s : State) (id : Nat) (b : AcqBlk) : s.MemSame (s.acqStage id b) := by
  unfold State.acqStage
  split <;> simp

@[simp] theorem State.acqRing_memSame (s : State) (n : Nat) (b : AcqBlk) : s.MemSame (s.acqRing n b) := by
  unfold State.acqRing
  dsimp only
  split <;> simp

@[simp] theorem State.maskScan_memSame (s : State) (n m : Nat) (rows : List (List (Int × Bool))) (k : Nat) :
    s.MemSame (s.maskScan n m rows k).1 := by
  unfold State.maskScan
  extract_lets w q ch vs put
  refine foldl_fst_memSame (c := (s, [])) (fun c r => ?_) _
  extract_lets u p cnt d v
  have hput (v : State) (x : Nat) : v.MemSame (put v x) := ⟨rfl, rfl⟩
  split
  · split
    · split
      · exact ((hput u d).trans (State.memSame_bump _ _ _)).trans (State.memSame_irq _ _ _)
      · exact hput u d
    · exact hput u 0
  · exact (hput u 0).trans (State.memSame_bump _ _ _)

@[simp] theorem State.acqOpen_memSame (s : State) (n T k : Nat) (t : AcqTrig) : s.MemSame (s.acqOpen n T k t) := by
  simp [State.acqOpen]

@[simp] theorem State.acqMark_memSame (s : State) (n id T : Nat) : s.MemSame (s.acqMark n id T) := by
  simp [State.acqMark]

@[simp] theorem State.acqPlace_memSame (s : State) (n k : Nat) (t : AcqTrig) : s.MemSame (s.acqPlace n k t) := by
  constructor <;> simp [State.acqPlace] <;> (repeat' split) <;> simp

@[simp] theorem State.acqEnd_memSame (s : State) (n k flag : Nat) : s.MemSame (s.acqEnd n k flag) := by
  unfold State.acqEnd
  dsimp only
  split <;> simp

@[simp] theorem State.acqSampled_memSame (s : State) (n k : Nat) (b : AcqBlk) (rows : List (List (Int × Bool))) :
    s.MemSame (s.acqSampled n k b rows).1 := by
  refine foldl_fst_memSame (c := (s, [])) (fun c i => ?_) _
  extract_lets u w dir ix
  split
  · exact State.MemSame.refl u
  · split
    · split
      · exact State.MemSame.refl u
      · exact ⟨rfl, rfl⟩
    · split
      · split <;> exact State.MemSame.refl u
      · exact State.MemSame.refl u
    · exact State.MemSame.refl u

@[simp] theorem State.acqMasks_memSame (s : State) (n k : Nat) (rows : List (List (Int × Bool))) : s.MemSame (s.acqMasks n k rows).1 := by
  simp [State.acqMasks, apply_ite Prod.fst]

@[simp] theorem State.acqCtl_memSame (s : State) (n k last : Nat) : s.MemSame (s.acqCtl n k last) := by
  simp [State.acqCtl]

@[simp] theorem State.acqBegin_memSame (s : State) : s.MemSame (State.acqBegin s) := by
  refine iter_memSame (fun n s => ?_) 4 s
  extract_lets x u
  have hu : s.MemSame u := by
    dsimp only [u]
    split
    · split <;> exact ⟨rfl, rfl⟩
    · exact State.MemSame.refl s
  split
  · exact hu
  · exact hu.trans (u.acqCtl_memSame _ _ _)

/-! ### Regions of a function -/

@[simp] theorem State.kerfCopied_memSame (s : State) (f n : Nat) : s.MemSame (s.kerfCopied f n) := by
  simp [State.kerfCopied]

/-! ### GOOSE and the on-line change -/

@[simp] theorem State.setGsub_memSame (s : State) (n : Nat) (x : GSub) : s.MemSame (s.setGsub n x) := by
  simp [State.setGsub]

@[simp] theorem State.setGpub_memSame (s : State) (n : Nat) (x : GPub) : s.MemSame (s.setGpub n x) := by
  simp [State.setGpub]

@[simp] theorem State.gsubWritten_memSame (s : State) (n : Nat) : s.MemSame (s.gsubWritten n) := by
  simp [State.gsubWritten]

@[simp] theorem State.sendGooseVec_memSame (s : State) : s.MemSame (State.sendGooseVec s) := ⟨rfl, rfl⟩

@[simp] theorem State.stageMembers_memSame (s : State) (n tag stamp : Nat) (ms : List (Nat × Nat)) :
    s.MemSame (s.stageMembers n tag stamp ms) := by
  simp [State.stageMembers]

@[simp] theorem State.gooseAuth_memSame (s : State) (n : Nat) (p : GoosePdu) : s.MemSame (s.gooseAuth n p).2 := by
  unfold State.gooseAuth
  split <;> simp [apply_ite Prod.snd]

@[simp] theorem State.gooseNew_memSame (s : State) (n stamp : Nat) (p : GoosePdu) : s.MemSame (s.gooseNew n stamp p) := by
  simp [State.gooseNew]

@[simp] theorem State.gooseRx_memSame (s : State) (f : Frame) (stamp frac : Nat) (p : GoosePdu) :
    s.MemSame (s.gooseRx f stamp frac p).2 := by
  unfold State.gooseRx
  split <;> simp [apply_ite Prod.snd]

@[simp] theorem State.gooseExpire_memSame (s : State) (n j : Nat) : s.MemSame (s.gooseExpire n j) := by
  simp [State.gooseExpire]

@[simp] theorem State.gooseDeadline_memSame (s : State) (n : Nat) : s.MemSame (s.gooseDeadline n) := by
  simp [State.gooseDeadline]

@[simp] theorem State.gpubWritten_memSame (s : State) (n : Nat) : s.MemSame (s.gpubWritten n) := by
  simp [State.gpubWritten]

@[simp] theorem State.updOlc_memSame (s : State) (f : Olc → Olc) : s.MemSame (s.updOlc f) := by
  simp [State.updOlc]

@[simp] theorem State.olcPrepare_memSame (s : State) : s.MemSame (State.olcPrepare s) := by
  simp [State.olcPrepare]

@[simp] theorem State.olcPrepared_memSame (s : State) : s.MemSame (State.olcPrepared s) := by
  simp [State.olcPrepared]

@[simp] theorem State.olcArm_memSame (s : State) : s.MemSame (State.olcArm s) := by
  simp [State.olcArm]

@[simp] theorem State.olcAbort_memSame (s : State) : s.MemSame (State.olcAbort s) := by
  simp [State.olcAbort]

@[simp] theorem State.olcRelease_memSame (s : State) : s.MemSame (State.olcRelease s) := by
  simp [State.olcRelease]

@[simp] theorem State.forceDrop_memSame (s : State) (e : Nat) (f : Force) : s.MemSame (s.forceDrop e f) := by
  unfold State.forceDrop
  dsimp only
  split <;> simp

@[simp] theorem State.forceMove_memSame (s : State) (e : Nat) (f : Force) (p : Nat) : s.MemSame (s.forceMove e f p) := by
  simp [State.forceMove]

@[simp] theorem State.olcDir_memSame (s : State) : s.MemSame (State.olcDir s) := by
  unfold State.olcDir
  extract_lets x u go dst v
  have hu : s.MemSame u := (s.setDirs_memSame _).trans (State.setDirs_memSame _ _)
  have hv : u.MemSame v := foldl_memSame (fun s f => s.forceLift_memSame _ _) _ _
  refine (hu.trans hv).trans (foldl_memSame (fun s f => ?_) _ _)
  split
  · exact s.forceMove_memSame _ _ _
  · exact s.forceDrop_memSame _ _

@[simp] theorem State.olcCmd_memSame (s : State) (v : Word) : s.MemSame (s.olcCmd v) := by
  simp [State.olcCmd]

/-! ### Commands of capture and its store -/

@[simp] theorem State.acqStart_memSame (s : State) (n : Nat) : s.MemSame (s.acqStart n) := by
  unfold State.acqStart
  repeat' split
  all_goals simp

theorem State.acqStartAll_memSame (s : State) : ∀ t, State.acqStartAll s = .inr t → s.MemSame t := by
  intro t h
  unfold State.acqStartAll at h
  extract_lets todo at h
  split at h
  · cases h
  · cases h
    refine foldl_memSame (fun u n => ?_) todo s
    exact ⟨rfl, rfl⟩

@[simp] theorem State.acqStopAt_memSame (s : State) (n kind : Nat) : s.MemSame (s.acqStopAt n kind) := by
  simp [State.acqStopAt]

@[simp] theorem State.acqStop_memSame (s : State) (n : Nat) : s.MemSame (s.acqStop n) := by
  simp [State.acqStop]

@[simp] theorem State.acqResume_memSame (s : State) (n : Nat) : s.MemSame (s.acqResume n) := by
  simp [State.acqResume]

@[simp] theorem State.acqPut_memSame (s : State) (n : Nat) (t : AcqTrig) : s.MemSame (s.acqPut n t) := by
  simp [State.acqPut]

@[simp] theorem State.acqGive_memSame (s : State) (n : Nat) (t : AcqTrig) : s.MemSame (s.acqGive n t) := by
  simp [State.acqGive]

@[simp] theorem State.acqManual_memSame (s : State) (n : Nat) : s.MemSame (s.acqManual n) := by
  simp [State.acqManual]

@[simp] theorem State.acqXtrig_memSame (s : State) (v : Word) : s.MemSame (s.acqXtrig v) := by
  simp [State.acqXtrig]

@[simp] theorem State.acqTiEdge_memSame (s : State) (n : Nat) : s.MemSame (s.acqTiEdge n) := by
  simp [State.acqTiEdge]

@[simp] theorem State.acqPowerFail_memSame (s : State) : s.MemSame (State.acqPowerFail s) := by
  simp [State.acqPowerFail]

@[simp] theorem State.acqHalt_memSame (s : State) : s.MemSame (State.acqHalt s) := by
  simp [State.acqHalt]

@[simp] theorem State.chokeStep_memSame (s : State) : s.MemSame (State.chokeStep s) := by
  simp [State.chokeStep]

@[simp] theorem State.putUnit_memSame (s : State) (u : Nat) (x : AcqUnit) : s.MemSame (s.putUnit u x) := by
  simp [State.putUnit]

@[simp] theorem State.recQueue_memSame (s : State) (id info : Nat) : s.MemSame (s.recQueue id info) := by
  simp [State.recQueue]

@[simp] theorem State.flashUnit_memSame (s : State) (u : Nat) : s.MemSame (s.flashUnit u) := by
  constructor <;> simp [State.flashUnit] <;> split <;> simp

@[simp] theorem State.acqRescan_memSame (s : State) : s.MemSame (State.acqRescan s) := by
  refine foldl_memSame (fun u i => ?_) _ s
  split
  · exact State.MemSame.refl u
  · split
    · exact u.recQueue_memSame _ _
    · exact u.recQueue_memSame _ _
    · exact State.MemSame.refl u

@[simp] theorem State.acqRelease_memSame (s : State) (v : Word) : s.MemSame (s.acqRelease v) := by
  unfold State.acqRelease
  dsimp only
  split <;> simp

@[simp] theorem State.acqRecPop_memSame (s : State) : s.MemSame (State.acqRecPop s) := by
  simp [State.acqRecPop]

@[simp] theorem State.acqWritten_memSame (s : State) (a : Nat) : s.MemSame (s.acqWritten a) := by
  simp [State.acqWritten]

/-! ### Function instances -/

@[simp] theorem State.winFault_memSame (s : State) (f : Nat) : s.MemSame (s.winFault f) := by
  simp [State.winFault]

@[simp] theorem State.ringEvent_memSame (s : State) (f l dir : Nat) : s.MemSame (s.ringEvent f l dir) := by
  constructor <;> simp [State.ringEvent] <;> split <;> simp

@[simp] theorem State.itrExpire_memSame (s : State) (f l : Nat) : s.MemSame (s.itrExpire f l) := by
  unfold State.itrExpire
  dsimp only
  split <;> simp

@[simp] theorem State.windowVecs_memSame (s : State) (i : Nat) : s.MemSame (s.windowVecs i) := by
  simp [State.windowVecs]

@[simp] theorem State.ringStop_memSame (s : State) (q d st : Nat) : s.MemSame (s.ringStop q d st) := by
  simp [State.ringStop]

@[simp] theorem State.updOp_memSame (s : State) (ring addr : Nat) (f : Op → Op) : s.MemSame (s.updOp ring addr f) := by
  simp [State.updOp]

@[simp] theorem State.issue_memSame (s : State) (k : Nat) (o : Op) (r : Req) : s.MemSame (s.issue k o r) := by
  simp [State.issue]

@[simp] theorem State.skdRun_memSame (s : State) (k : Nat) (l : Nat) : s.MemSame (s.skdRun k l) := by
  induction l generalizing s with
  | zero => exact ⟨rfl, rfl⟩
  | succ n ih =>
    rw [State.skdRun]
    extract_lets x pend nxt
    split
    · exact ⟨rfl, rfl⟩
    · split
      · exact ⟨rfl, rfl⟩
      · split
        · exact ⟨(ih _).1.trans (s.issue_memSame _ _ _).1, (ih _).2.trans (s.issue_memSame _ _ _).2⟩
        · exact ih _

@[simp] theorem State.skdGo_memSame (s : State) (k : Nat) : s.MemSame (s.skdGo k) := by
  simp [State.skdGo]

@[simp] theorem State.skdAll_memSame (s : State) : s.MemSame (State.skdAll s) := by
  simp [State.skdAll]

@[simp] theorem State.opSettle_memSame (s : State) (ring addr : Nat) : s.MemSame (s.opSettle ring addr) := by
  unfold State.opSettle
  split <;> simp

@[simp] theorem State.tailWrite_memSame (s : State) (f l d v : Nat) : s.MemSame (s.tailWrite f l d v) := by
  unfold State.tailWrite
  split <;> simp

@[simp] theorem State.squashFn_memSame (s : State) (f : Nat) : s.MemSame (s.squashFn f) := by
  simp [State.squashFn]

@[simp] theorem State.cutFn_memSame (s : State) (sel : Op → Bool) : s.MemSame (s.cutFn sel) := by
  simp [State.cutFn]

@[simp] theorem State.dropFn_memSame (s : State) (f : Nat) : s.MemSame (s.dropFn f) := by
  simp [State.dropFn]

@[simp] theorem State.vfResetNow_memSame (s : State) (f : Nat) (squash : Bool) (abort : State → State)
    (habort : ∀ s : State, s.MemSame (abort s)) :
    s.MemSame (s.vfResetNow f squash abort) := by
  unfold State.vfResetNow
  extract_lets a x b c
  have ha : s.MemSame a := habort s
  clear_value a
  have hb : a.MemSame b := ⟨rfl, rfl⟩
  clear_value b
  have hc : s.MemSame c := (ha.trans hb).trans (b.updInst_memSame _ _)
  clear_value c
  exact .ite (hc.trans (c.dropFn_memSame f)) (hc.trans (c.cutFn_memSame _))

@[simp] theorem State.vfReset_memSame (s : State) (f : Nat) (squash : Bool) (abort : State → State)
    (habort : ∀ s : State, s.MemSame (abort s)) :
    s.MemSame (s.vfReset f squash abort) := by
  unfold State.vfReset
  split
  · exact s.memSame_refuse _ _ _
  split
  · exact s.memSame_refuse _ _ _
  split
  · exact State.MemSame.refl s
  split
  · exact ⟨rfl, rfl⟩
  · exact s.vfResetNow_memSame f squash abort habort

@[simp] theorem State.resetTimeout_memSame (s : State) (f : Nat) : s.MemSame (s.resetTimeout f) := by
  simp [State.resetTimeout]

@[simp] theorem State.resetDone_memSame (s : State) (f : Nat) : s.MemSame (s.resetDone f) := by
  simp [State.resetDone]

@[simp] theorem State.swapLog_memSame (s : State) (f : Nat) : s.MemSame (s.swapLog f) := by
  simp [State.swapLog]

@[simp] theorem State.swapDone_memSame (s : State) (f : Nat) : s.MemSame (s.swapDone f) := by
  simp [State.swapDone]

@[simp] theorem State.qpRestart_memSame (s : State) (q : Nat) : s.MemSame (s.qpRestart q) := by
  simp [State.qpRestart]

@[simp] theorem State.qpStop_memSame (s : State) (q : Nat) : s.MemSame (s.qpStop q) := by
  simp [State.qpStop]

@[simp] theorem State.skdFenced_memSame (s : State) (k : Nat) : s.MemSame (s.skdFenced k) := by
  simp [State.skdFenced]

@[simp] theorem State.coreError_memSame (s : State) (c : Nat) : s.MemSame (s.coreError c) := by
  unfold State.coreError
  split <;> simp

/-! ### Migration -/

@[simp] theorem State.updMig_memSame (s : State) (f : Nat) (g : Mig → Mig) : s.MemSame (s.updMig f g) := by
  simp [State.updMig]

@[simp] theorem State.migGo_memSame (s : State) (f st : Nat) : s.MemSame (s.migGo f st) := by
  simp [State.migGo]

@[simp] theorem State.migSend_memSame (s : State) (f : Nat) (m : MigMsg) : s.MemSame (s.migSend f m) := by
  unfold State.migSend
  dsimp only
  split <;> simp

@[simp] theorem State.migOpens_memSame (s : State) (f : Nat) (m : MigMsg) : s.MemSame (s.migOpens f m).2 := by
  simp [State.migOpens]

@[simp] theorem State.migStop_memSame (s : State) (f : Nat) : s.MemSame (s.migStop f) := by
  simp [State.migStop]

@[simp] theorem State.migAbortSend_memSame (s : State) (f : Nat) : s.MemSame (s.migAbortSend f) := by
  simp [State.migAbortSend]

@[simp] theorem State.migAbortCmd_memSame (s : State) (f : Nat) : s.MemSame (s.migAbortCmd f) := by
  simp [State.migAbortCmd]

@[simp] theorem State.migArm_memSame (s : State) (f : Nat) : s.MemSame (s.migArm f) := by
  simp [State.migArm]

@[simp] theorem State.migFreeze_memSame (s : State) (f : Nat) : s.MemSame (s.migFreeze f) := by
  simp [State.migFreeze]

@[simp] theorem State.migStaged_memSame (s : State) (f : Nat) : s.MemSame (s.migStaged f) := by
  simp [State.migStaged]

@[simp] theorem State.migDeadline_memSame (s : State) (f : Nat) : s.MemSame (s.migDeadline f) := by
  simp [State.migDeadline]

@[simp] theorem State.migAck_memSame (s : State) : s.MemSame (State.migAck s) := by
  unfold State.migAck
  split <;> simp

@[simp] theorem State.migAbortRx_memSame (s : State) : s.MemSame (State.migAbortRx s) := by
  unfold State.migAbortRx
  split <;> simp

@[simp] theorem State.migKerfPre_memSame (s : State) : s.MemSame (State.migKerfPre s) := by
  simp [State.migKerfPre]

@[simp] theorem State.migPubs_memSame (s : State) : s.MemSame (State.migPubs s) := by
  simp [State.migPubs]

@[simp] theorem State.migRec_memSame (s : State) (f : Nat) : s.MemSame (s.migRec f) := by
  simp [State.migRec]

@[simp] theorem State.migSwitchOut_memSame (s : State) (f : Nat) : s.MemSame (s.migSwitchOut f) := by
  simp [State.migSwitchOut]

@[simp] theorem State.migBoundary_memSame (s : State) : s.MemSame (State.migBoundary s) := by
  simp [State.migBoundary]

@[simp] theorem State.migAbortReset_memSame (s : State) (f : Nat) : s.MemSame (s.migAbortReset f) := by
  simp [State.migAbortReset]

@[simp] theorem State.kerfOver_memSame (s : State) : s.MemSame (State.kerfOver s) := by
  refine State.MemSame.trans (foldl_memSame (fun u f => ?_) _ s) (State.skdAll_memSame _)
  split
  · split
    · exact State.MemSame.refl u
    · exact u.vfResetNow_memSame _ _ _ fun v => v.migAbortReset_memSame f
  · exact State.MemSame.refl u

/-! ### Tally engines -/

@[simp] theorem State.updTe_memSame (s : State) (e : Nat) (f : TalEng → TalEng) : s.MemSame (s.updTe e f) := by
  simp [State.updTe]

@[simp] theorem State.setTp_memSame (s : State) (e l : Nat) (p : TPt) : s.MemSame (s.setTp e l p) := by
  simp [State.setTp]

@[simp] theorem State.talNote_memSame (s : State) : s.MemSame (State.talNote s) := ⟨rfl, rfl⟩

@[simp] theorem State.talIvl_memSame (s : State) (e k gap : Nat) : s.MemSame (s.talIvl e k gap) := by
  simp [State.talIvl]

@[simp] theorem State.dfoAdd_memSame (s : State) (e l k t q endNs : Nat) : s.MemSame (s.dfoAdd e l k t q endNs) := by
  simp [State.dfoAdd]

@[simp] theorem State.talRec_memSame (s : State) (typ e v : Nat) : s.MemSame (s.talRec typ e v) := by
  simp [State.talRec]

@[simp] theorem State.talStarts_memSame (s : State) (e k : Nat) : s.MemSame (s.talStarts e k) := by
  refine foldl_memSame (fun u l => ?_) _ s
  split
  · split
    · exact (u.setTp_memSame _ _ _).trans (State.memSame_irq _ _ _)
    · exact State.MemSame.refl u
  · exact State.MemSame.refl u

@[simp] theorem State.talPoint_memSame (s : State) (e k endNs l : Nat) : s.MemSame (s.talPoint e k endNs l) := by
  simp [State.talPoint]

@[simp] theorem State.talStart_memSame (s : State) (e l : Nat) : s.MemSame (s.talStart e l) := by
  constructor <;> simp [State.talStart] <;> split <;> simp

theorem State.talStartAll_memSame (s : State) (e : Nat) : ∀ t, State.talStartAll s e = .inr t → s.MemSame t := by
  intro t h
  unfold State.talStartAll at h
  extract_lets run new bad at h
  clear_value bad
  split at h
  · cases h
  · split at h
    · cases h
    · cases h
      refine foldl_memSame (fun u l => ?_) new s
      exact (u.setTp_memSame _ _ _).trans (State.talRec_memSame _ _ _ _)

@[simp] theorem State.talStop_memSame (s : State) (e l : Nat) : s.MemSame (s.talStop e l) := by
  simp [State.talStop]

@[simp] theorem State.talStopAll_memSame (s : State) (e : Nat) : s.MemSame (s.talStopAll e) := by
  simp [State.talStopAll]

@[simp] theorem State.talHalt_memSame (s : State) (e : Nat) : s.MemSame (s.talHalt e) := by
  simp [State.talHalt]

@[simp] theorem State.talClearSat_memSame (s : State) (e l : Nat) : s.MemSame (s.talClearSat e l) := by
  simp [State.talClearSat]

@[simp] theorem State.talApplied_memSame (s : State) (e : Nat) : s.MemSame (s.talApplied e) := by
  simp [State.talApplied]

/-! ### Commands of the tally engines and pulse outputs -/

@[simp] theorem State.finalRecords_memSame (s : State) : s.MemSame (State.finalRecords s) := by
  simp [State.finalRecords]

@[simp] theorem State.talResume_memSame (s : State) : s.MemSame (State.talResume s) := by
  simp [State.talResume]

@[simp] theorem State.talRestore_memSame (s : State) (lossRtc : Option Nat) (e : Nat) : s.MemSame (s.talRestore lossRtc e) := by
  constructor <;> simp [State.talRestore] <;> split <;> simp

@[simp] theorem State.ifUnlocked_memSame (s : State) (p off : Nat) (f : State → State) (hf : ∀ s : State, s.MemSame (f s)) :
    s.MemSame (s.ifUnlocked p off f) := by
  unfold State.ifUnlocked
  split
  · exact hf s
  · exact s.memSame_refuse _ _ _

@[simp] theorem State.saveCmd_memSame (s : State) (e l : Nat) (f : State → State) (hf : ∀ s : State, s.MemSame (f s)) :
    s.MemSame (s.saveCmd e l f) := by
  unfold State.saveCmd
  split
  · exact s.memSame_refuse _ _ _
  · refine s.ifUnlocked_memSame _ _ _ fun u => ?_
    split
    · exact u.memSame_refuse _ _ _
    · exact hf u

@[simp] theorem State.saveNow_memSame (s : State) (e : Nat) : s.MemSame (s.saveNow e) := by
  simp [State.saveNow]

@[simp] theorem State.acceptEmpty_memSame (s : State) (e : Nat) : s.MemSame (s.acceptEmpty e) := by
  simp [State.acceptEmpty]

@[simp] theorem State.zeroPoint_memSame (s : State) (e l : Nat) : s.MemSame (s.zeroPoint e l) := by
  simp [State.zeroPoint]

@[simp] theorem State.talFenced_memSame (s : State) (e : Nat) : s.MemSame (s.talFenced e) := by
  simp [State.talFenced]

@[simp] theorem State.dfoTick_memSame (s : State) : s.MemSame (State.dfoTick s) := by
  simp [State.dfoTick]

@[simp] theorem State.dfoPulseEnd_memSame (s : State) (n : Nat) : s.MemSame (s.dfoPulseEnd n) := by
  simp [State.dfoPulseEnd]

@[simp] theorem State.dfoStopped_memSame (s : State) : s.MemSame (State.dfoStopped s) := by
  simp [State.dfoStopped]

@[simp] theorem State.dfoApplied_memSame (old s : State) : s.MemSame (State.dfoApplied old s) := by
  refine State.MemSame.trans (iter_memSame (fun n u => ?_) 8 s) (State.deck_memSame _ _ _ _ _)
  extract_lets a b x v
  have hv : u.MemSame v := by
    dsimp only [v]
    split <;> exact ⟨rfl, rfl⟩
  clear_value v
  split
  · exact hv
  · split
    · exact hv
    · extract_lets w
      have hw : u.MemSame w := hv.trans ⟨rfl, rfl⟩
      split
      · exact hw.trans ⟨rfl, rfl⟩
      · exact hw

/-! ### The duplex pair -/

@[simp] theorem State.dupSend_memSame (s : State) (payload : Nat) (b : Body) : s.MemSame (s.dupSend payload b) := by
  simp [State.dupSend]

@[simp] theorem State.dupGo_memSame (s : State) (st : Nat) (act : Bool) (cause : Nat) : s.MemSame (s.dupGo st act cause) := by
  simp [State.dupGo]

@[simp] theorem State.dupEnter_memSame (s : State) (st : Nat) (act : Bool) (cause : Nat) : s.MemSame (s.dupEnter st act cause) := by
  simp [State.dupEnter]

@[simp] theorem State.dupBoundary_memSame (s : State) : s.MemSame (State.dupBoundary s) := by
  unfold State.dupBoundary
  split <;> simp

@[simp] theorem State.diverge_memSame (s : State) (cause j own partner : Nat) : s.MemSame (s.diverge cause j own partner) := by
  simp [State.diverge]

@[simp] theorem State.dupTick_memSame (s : State) : s.MemSame (State.dupTick s) := by
  simp [State.dupTick]

@[simp] theorem State.hashCompare_memSame (s : State) (j : Nat) : s.MemSame (s.hashCompare j) := by
  unfold State.hashCompare
  split <;> constructor <;> simp [↓apply_ite State.mem, ↓apply_ite State.mram]

@[simp] theorem State.hbLost_memSame (s : State) : s.MemSame (State.hbLost s) := by
  simp [State.hbLost]

@[simp] theorem State.hbCheck_memSame (s : State) (j : Nat) : s.MemSame (s.hbCheck j) := by
  simp [State.hbCheck]

@[simp] theorem State.swapStep_memSame (s : State) : s.MemSame (State.swapStep s) := by
  unfold State.swapStep
  split <;> simp

@[simp] theorem State.dupKerfPre_memSame (s : State) : s.MemSame (State.dupKerfPre s) := by
  simp [State.dupKerfPre]

@[simp] theorem State.dupKerf_memSame (s : State) : s.MemSame (State.dupKerf s) := by
  simp [State.dupKerf]

@[simp] theorem State.dupFreeze_memSame (s : State) : s.MemSame (State.dupFreeze s) := by
  unfold State.dupFreeze
  split <;> simp

@[simp] theorem State.adoptState_memSame (s : State) (g : GState) : s.MemSame (s.adoptState g) := by
  simp [State.adoptState]

@[simp] theorem State.dupClosed_memSame (s : State) (fz : Frozen) (partner : Option PMap) (solo : Bool) :
    s.MemSame (s.dupClosed fz partner solo) := by
  unfold State.dupClosed
  extract_lets k s1 s2 s3 mine theirs new s4 s5 s6 ex s7 vals all pick s8
  have h1 : s.MemSame s1 := ⟨rfl, rfl⟩
  have h2 : s1.MemSame s2 := by
    dsimp only [s2]
    split <;> exact ⟨rfl, rfl⟩
  have h3 : s2.MemSame s3 := by
    dsimp only [s3]
    split <;> exact ⟨rfl, rfl⟩
  have h4 : s3.MemSame s4 := ⟨rfl, rfl⟩
  have h5 : s4.MemSame s5 := foldl_memSame (fun u g => by
    split
    · exact State.MemSame.refl u
    · split
      · exact u.memSame_bump _ _
      · exact u.adoptState_memSame g) _ _
  have h6 : s5.MemSame s6 := foldl_memSame (fun u n => foldl_memSame (fun u g => u.stageMembers_memSame _ _ _ _) _ u) _ _
  have h7 : s6.MemSame s7 := foldl_memSame (fun u n => by
    split
    · exact u.gooseExpire_memSame _ _
    · exact State.MemSame.refl u) _ _
  have h8 : s7.MemSame s8 := foldl_memSame (fun u q => by
    split <;> exact ⟨rfl, rfl⟩) _ _
  split
  · exact h1
  · exact (((h1.trans h2).trans (h3.trans h4)).trans ((h5.trans h6).trans (h7.trans h8))).trans ⟨rfl, rfl⟩

@[simp] theorem State.dupApplied_memSame (old s : State) : s.MemSame (State.dupApplied old s) := by
  simp [State.dupApplied]

@[simp] theorem State.dupStopped_memSame (s : State) : s.MemSame (State.dupStopped s) := by
  simp [State.dupStopped]

/-! ### Resynchronisation -/

@[simp] theorem State.rsend_memSame (s : State) (tick : Nat) (l : List (Nat × RStateMsg)) : s.MemSame (s.rsend tick l) := by
  induction l generalizing s with
  | nil => exact ⟨rfl, rfl⟩
  | cons x l ih =>
    cases l with
    | nil => exact s.dupSend_memSame _ _
    | cons y l =>
      obtain ⟨hmem, hmram⟩ := s.dupSend_memSame x.1 (.rstate tick { x.2 with last := false })
      exact ⟨(ih _).1.trans hmem, (ih _).2.trans hmram⟩

@[simp] theorem State.sendRefs_memSame (s : State) (e : Nat) (before : Option Nat) : s.MemSame (s.sendRefs e before) := by
  unfold State.sendRefs
  split <;> simp

@[simp] theorem State.sendPoints_memSame (s : State) (e : Nat) (before : Option Nat) : s.MemSame (s.sendPoints e before) := by
  unfold State.sendPoints
  split <;> simp

@[simp] theorem State.sendPubs_memSame (s : State) : s.MemSame (State.sendPubs s) := by
  unfold State.sendPubs
  split <;> simp

@[simp] theorem State.adoptRefs_memSame (s : State) (e tick : Nat) (rs : List RefState) : s.MemSame (s.adoptRefs e tick rs) := by
  simp [State.adoptRefs]

@[simp] theorem State.adoptPubs_memSame (s : State) (m : RStateMsg) : s.MemSame (s.adoptPubs m) := by
  simp [State.adoptPubs]

@[simp] theorem State.adoptPoints_memSame (s : State) (e : Nat) (m : RStateMsg) : s.MemSame (s.adoptPoints e m) := by
  simp [State.adoptPoints]

@[simp] theorem State.rstateIn_memSame (s : State) (tick : Nat) (m : RStateMsg) : s.MemSame (s.rstateIn tick m) := by
  unfold State.rstateIn
  split
  · split
    · split
      · exact s.adoptPubs_memSame m
      · exact ⟨rfl, rfl⟩
    · split
      · exact s.adoptRefs_memSame _ _ _
      · split
        · exact s.adoptPoints_memSame _ _
        · exact ⟨rfl, rfl⟩
  · exact ⟨rfl, rfl⟩

/-! ### Commands of the pair -/

@[simp] theorem State.injIn_memSame (s : State) (n : Nat) (x : Nat × Nat × Nat × Nat) : s.MemSame (s.injIn n x) := by
  simp [State.injIn]

@[simp] theorem State.injAll_memSame (s : State) (seen : List Nat) (l : List (Nat × Nat × Nat × Nat)) : s.MemSame (s.injAll seen l) := by
  induction l generalizing s seen with
  | nil => exact ⟨rfl, rfl⟩
  | cons x l ih =>
    obtain ⟨hmem, hmram⟩ := s.injIn_memSame (seen.count x.1) x
    exact ⟨(ih _ _).1.trans hmem, (ih _ _).2.trans hmram⟩

@[simp] theorem State.pairing_memSame (s : State) (m : SyncMsg) : s.MemSame (s.pairing m) := by
  simp [State.pairing]

@[simp] theorem State.resyncCtl_memSame (s : State) (prev : Option SyncMsg) (m : SyncMsg) : s.MemSame (s.resyncCtl prev m) := by
  unfold State.resyncCtl
  repeat' split
  all_goals simp

@[simp] theorem State.swapCtl_memSame (s : State) (m : SyncMsg) : s.MemSame (s.swapCtl m) := by
  constructor <;> simp [State.swapCtl] <;> (repeat' split) <;> simp

@[simp] theorem State.rstateRx_memSame (s : State) : s.MemSame (State.rstateRx s) := by
  unfold State.rstateRx
  split <;> simp

@[simp] theorem State.configDiverge_memSame (s : State) : s.MemSame (State.configDiverge s) := by
  simp [State.configDiverge]

@[simp] theorem State.pairingTimeout_memSame (s : State) : s.MemSame (State.pairingTimeout s) := by
  unfold State.pairingTimeout
  repeat' split
  all_goals simp

@[simp] theorem State.preferredReturn_memSame (s : State) : s.MemSame (State.preferredReturn s) := by
  simp [State.preferredReturn]

@[simp] theorem State.dupResync_memSame (s : State) : s.MemSame (State.dupResync s) := by
  simp [State.dupResync]

@[simp] theorem State.dupSwap_memSame (s : State) : s.MemSame (State.dupSwap s) := by
  simp [State.dupSwap]

@[simp] theorem State.dupTake_memSame (s : State) : s.MemSame (State.dupTake s) := by
  simp [State.dupTake]

@[simp] theorem State.dupInject_memSame (s : State) : s.MemSame (State.dupInject s) := by
  unfold State.dupInject
  split <;> constructor <;> simp [↓apply_ite State.mem, ↓apply_ite State.mram]

/-! ### Commits and frames of the Crosscut -/

@[simp] theorem State.txStamp_memSame (s : State) (e tag : Nat) (x : QEntry) : s.MemSame (s.txStamp e tag x) := by
  simp [State.txStamp]

@[simp] theorem State.txDone_memSame (s : State) (e : Nat) : s.MemSame (s.txDone e) := by
  constructor <;> simp [State.txDone] <;> (repeat' split) <;> simp

@[simp] theorem State.gateAdvance_memSame (s : State) (e : Nat) : s.MemSame (s.gateAdvance e) := by
  simp [State.gateAdvance]

@[simp] theorem State.gateSwitch_memSame (s : State) (e : Nat) : s.MemSame (s.gateSwitch e) := by
  simp [State.gateSwitch]

@[simp] theorem State.swcApplied_memSame (old s : State) : s.MemSame (State.swcApplied old s) := by
  simp [State.swcApplied]

@[simp] theorem State.macApplied_memSame (old s : State) (p : Nat) : s.MemSame (State.macApplied old s p) := by
  simp [State.macApplied]

@[simp] theorem State.swcWritten_memSame (s : State) (a : Nat) : s.MemSame (s.swcWritten a) := by
  simp [State.swcWritten]

@[simp] theorem State.beacon_memSame (s : State) (pair : Nat) : s.MemSame (s.beacon pair) := by
  simp [State.beacon]

@[simp] theorem State.supervise_memSame (s : State) (pair : Nat) : s.MemSame (s.supervise pair) := by
  simp [State.supervise]

@[simp] theorem State.cageTrip_memSame (s : State) (p : Nat) : s.MemSame (s.cageTrip p) := by
  simp [State.cageTrip]

@[simp] theorem State.sfpRefit_memSame (s : State) (p : Nat) : s.MemSame (s.sfpRefit p) := by
  simp [State.sfpRefit]

@[simp] theorem State.macStopped_memSame (s : State) (p : Nat) : s.MemSame (s.macStopped p) := by
  simp [State.macStopped]

@[simp] theorem State.macSoft_memSame (s : State) (p : Nat) : s.MemSame (s.macSoft p) := by
  simp [State.macSoft]

end Sys2Proof.Machine
end

section
/-!
PROOFS. What leaves memory and MRAM as they are (3): the kerf, keys, safety, shelves, health, supplies, registers, the host window.
-/
namespace Sys2Proof.Machine
open Sys2Proof

/-! ### The kerf and the tick -/

@[simp] theorem State.releaseAll_memSame (s : State) (j : Nat) : s.MemSame (s.releaseAll j) := by
  simp [State.releaseAll]

@[simp] theorem State.closeFinal_memSame (s : State) (m : Option PMap) (solo : Bool) : s.MemSame (s.closeFinal m solo) := by
  unfold State.closeFinal
  split <;> simp

@[simp] theorem State.closeSettle_memSame (s : State) (l : Nat) : s.MemSame (s.closeSettle l) := by
  induction l generalizing s with
  | zero => exact ⟨rfl, rfl⟩
  | succ n ih =>
    rw [State.closeSettle]
    split
    · exact ⟨(ih _).1.trans (s.closeFinal_memSame _ _).1, (ih _).2.trans (s.closeFinal_memSame _ _).2⟩
    · exact ⟨rfl, rfl⟩

@[simp] theorem State.closeAlone_memSame (s : State) (solo : Bool) : s.MemSame (s.closeAlone solo) := by
  simp [State.closeAlone]

@[simp] theorem State.tickClose_memSame (s : State) : s.MemSame (State.tickClose s) := by
  simp [State.tickClose]

@[simp] theorem State.mapIn_memSame (s : State) (m : PMap) : s.MemSame (s.mapIn m) := by
  simp [State.mapIn]

@[simp] theorem State.mapRx_memSame (s : State) : s.MemSame (State.mapRx s) := by
  unfold State.mapRx
  split <;> simp

@[simp] theorem State.agreeExpire_memSame (s : State) : s.MemSame (State.agreeExpire s) := by
  simp [State.agreeExpire]

@[simp] theorem State.dupTickStart_memSame (s : State) : s.MemSame (State.dupTickStart s) := by
  simp [State.dupTickStart]

/-! ### Keys -/

@[simp] theorem State.keyRec_memSame (s : State) (typ slot v : Nat) : s.MemSame (s.keyRec typ slot v) := by
  simp [State.keyRec]

@[simp] theorem State.purge_memSame (s : State) (slots : List Nat) : s.MemSame (s.purge slots) := ⟨rfl, rfl⟩

@[simp] theorem State.orphanGen_memSame (s : State) (ps : List Nat) : s.MemSame (s.orphanGen ps).2 := by
  simp [State.orphanGen]

@[simp] theorem State.invalidated_memSame (s : State) (i : Nat) : s.MemSame (s.invalidated i).2 := by
  have hfold (l : List Nat) (a : List Nat × Nat × State) (h : s.MemSame a.2.2) :
      s.MemSame (l.foldl (fun (acc : List Nat × Nat × State) _ =>
        if acc.1.isEmpty then acc
        else ((acc.2.2.orphanGen acc.1).1, acc.2.1 + (acc.2.2.orphanGen acc.1).1.length, (acc.2.2.orphanGen acc.1).2)) a).2.2 :=
    List.foldlRecOn (motive := fun t : List Nat × Nat × State => s.MemSame t.2.2) l _ h fun t h x _ => by
      split
      · exact h
      · exact h.trans (t.2.2.orphanGen_memSame _)
  unfold State.invalidated
  dsimp only
  split
  · exact hfold _ _ (.refl s)
  · exact (hfold _ _ (.refl s)).trans (State.memSame_irq _ _ _)

@[simp] theorem State.install_memSame (s : State) (i : Nat) (m : List Nat) (origin : Nat) (send : Bool) (f : KSlot → KSlot) :
    s.MemSame (s.install i m origin send f) := by
  simp [State.install]

@[simp] theorem State.kVerify_memSame (s : State) (o : KOp) : s.MemSame (s.kVerify o).2 := by
  unfold State.kVerify
  dsimp only
  split <;> simp [apply_ite Prod.snd]

@[simp] theorem State.kAbortStage_memSame (s : State) (o : KOp) : s.MemSame (s.kAbortStage o).2 := by
  simp [State.kAbortStage]

@[simp] theorem State.kInvalidate_memSame (s : State) (o : KOp) : s.MemSame (s.kInvalidate o).2 := by
  simp [State.kInvalidate]

@[simp] theorem State.kExtend_memSame (s : State) (o : KOp) : s.MemSame (s.kExtend o).2 := by
  simp [State.kExtend, apply_ite Prod.snd]

@[simp] theorem State.kLockMr_memSame (s : State) (o : KOp) : s.MemSame (s.kLockMr o).2 := by
  simp [State.kLockMr, apply_ite Prod.snd]

@[simp] theorem State.ksuIdle_memSame (s : State) : s.MemSame (State.ksuIdle s) := by
  simp [State.ksuIdle]

@[simp] theorem State.ksuCmd_memSame (s : State) (op slot arg : Nat) : s.MemSame (s.ksuCmd op slot arg) := by
  simp [State.ksuCmd]

@[simp] theorem State.ksuEnd_memSame (s : State) (o : KOp) (c : Nat) : s.MemSame (s.ksuEnd o c) := by
  simp [State.ksuEnd]

@[simp] theorem State.ksuAbort_memSame (s : State) (hard : Bool) : s.MemSame (s.ksuAbort hard) := by
  unfold State.ksuAbort
  split <;> simp

@[simp] theorem State.slotWritten_memSame (s : State) (i : Nat) (ws : List Word) : s.MemSame (s.slotWritten i ws) := by
  simp [State.slotWritten]

/-! ### A failed module -/

@[simp] theorem State.fail_memSame (s : State) (page cause : Nat) : s.MemSame (s.fail page cause) := by
  simp [State.fail]

/-! ### The safety island -/

@[simp] theorem State.hwsRec_memSame (s : State) (ch typ kind idx : Nat) : s.MemSame (s.hwsRec ch typ kind idx) := by
  simp [State.hwsRec]

@[simp] theorem State.hwsEv_memSame (s : State) (ch : Nat) (rec_ : Bool) (e : HEv) : s.MemSame (s.hwsEv ch rec_ e) := by
  simp [State.hwsEv]

@[simp] theorem State.hwsBoth_memSame (s : State) (cnt irq : Nat) : s.MemSame (s.hwsBoth cnt irq) := by
  simp [State.hwsBoth]

@[simp] theorem State.reqVectorIn_memSame (s : State) : s.MemSame (State.reqVectorIn s) := by
  unfold State.reqVectorIn
  repeat' split
  all_goals simp

@[simp] theorem State.hwsLatch_memSame (s : State) : s.MemSame (State.hwsLatch s) := by
  simp [State.hwsLatch]

@[simp] theorem State.hwsTicks_memSame (s : State) : s.MemSame (State.hwsTicks s) := by
  simp [State.hwsTicks]

@[simp] theorem State.hwsTick_memSame (s : State) : s.MemSame (State.hwsTick s) := by
  simp [State.hwsTick]

@[simp] theorem State.hwsCommitted_memSame (s : State) : s.MemSame (State.hwsCommitted s) := by
  simp [State.hwsCommitted]

@[simp] theorem State.hwsActivate_memSame (s : State) : s.MemSame (State.hwsActivate s) := by
  simp [State.hwsActivate]

@[simp] theorem State.hwsOff_memSame (s : State) : s.MemSame (State.hwsOff s) := by
  simp [State.hwsOff]

@[simp] theorem State.hwsSafe_memSame (s : State) : s.MemSame (State.hwsSafe s) := by
  simp [State.hwsSafe]

@[simp] theorem State.safetyCycle_memSame (s : State) (a b : HwsRead) (misaligned : Bool) : s.MemSame (s.safetyCycle a b misaligned) := by
  simp [State.safetyCycle]

@[simp] theorem State.updSo_memSame (s : State) (n : Nat) (f : HOut → HOut) : s.MemSame (s.updSo n f) := by
  simp [State.updSo]

@[simp] theorem State.overload_memSame (s : State) (n : Nat) : s.MemSame (s.overload n) := by
  simp [State.overload]

@[simp] theorem State.faultAck_memSame (s : State) (out : Nat) : s.MemSame (s.faultAck out) := by
  simp [State.faultAck]

@[simp] theorem State.hwsCmd_memSame (s : State) (v : Word) : s.MemSame (s.hwsCmd v) := by
  simp [State.hwsCmd]

/-! ### The module -/

@[simp] theorem State.fenceWork_memSame (s : State) (p : Nat) : s.MemSame (s.fenceWork p) := by
  unfold State.fenceWork
  split <;> simp

@[simp] theorem State.fenceRec_memSame (s : State) (page cause group : Nat) : s.MemSame (s.fenceRec page cause group) := by
  simp [State.fenceRec]

@[simp] theorem State.fence_memSame (s : State) (p cause : Nat) : s.MemSame (s.fence p cause) := by
  simp [State.fence]

@[simp] theorem State.fenceDram_memSame (s : State) (g : Nat) : s.MemSame (s.fenceDram g) := by
  simp [State.fenceDram]

@[simp] theorem State.unitFail_memSame (s : State) (p cause : Nat) : s.MemSame (s.unitFail p cause) := by
  simp [State.unitFail]

/-! ### Shelves -/

@[simp] theorem State.setSlot_memSame (s : State) (n : Nat) (x : Slot) : s.MemSame (s.setSlot n x) := by
  simp [State.setSlot]

@[simp] theorem State.winSend_memSame (s : State) (dst : Nat) (k : WinKind) : s.MemSame (s.winSend dst k) := by
  simp [State.winSend]

@[simp] theorem State.slotGo_memSame (s : State) (n : Nat) (x : Slot) (st : Nat) : s.MemSame (s.slotGo n x st) := by
  simp [State.slotGo]

@[simp] theorem State.slotFlush_memSame (s : State) (n : Nat) : s.MemSame (s.slotFlush n) := by
  simp [State.slotFlush]

@[simp] theorem State.slotAnn_memSame (s : State) (n : Nat) (a : Announce) : s.MemSame (s.slotAnn n a) := by
  simp [State.slotAnn]

@[simp] theorem State.conflictEnd_memSame (s : State) (n : Nat) : s.MemSame (s.conflictEnd n) := by
  constructor <;> simp [State.conflictEnd] <;> split <;> simp

@[simp] theorem State.slotLose_memSame (s : State) (n : Nat) : s.MemSame (s.slotLose n) := by
  simp [State.slotLose]

@[simp] theorem State.slotLost_memSame (s : State) (n : Nat) : s.MemSame (s.slotLost n) := by
  simp [State.slotLost]

@[simp] theorem State.annSend_memSame (s : State) : s.MemSame (State.annSend s) := by
  unfold State.annSend
  split <;> constructor <;> simp [↓apply_ite State.mem, ↓apply_ite State.mram]

@[simp] theorem State.annRx_memSame (s : State) : s.MemSame (State.annRx s) := by
  unfold State.annRx
  repeat' split
  all_goals simp

@[simp] theorem State.takeover_memSame (s : State) : s.MemSame (State.takeover s) := by
  simp [State.takeover]

@[simp] theorem State.mgrLoss_memSame (s : State) : s.MemSame (State.mgrLoss s) := by
  simp [State.mgrLoss]

@[simp] theorem State.forget_memSame (s : State) (n : Nat) : s.MemSame (s.forget n) := by
  simp [State.forget]

@[simp] theorem State.ackReset_memSame (s : State) (n : Nat) : s.MemSame (s.ackReset n) := by
  simp [State.ackReset]

/-! ### Health -/

@[simp] theorem State.setFit_memSame (s : State) (i : Nat) (x : HFit) : s.MemSame (s.setFit i x) := by
  simp [State.setFit]

@[simp] theorem State.hltShow_memSame (s : State) : s.MemSame (State.hltShow s) := by
  simp [State.hltShow]

@[simp] theorem State.hltTake_memSame (s : State) (i : Nat) (v limit : Int) : s.MemSame (s.hltTake i v limit) := by
  simp [State.hltTake]

@[simp] theorem State.hltSfp_memSame (s : State) (n : Nat) (r : SfpRead) : s.MemSame (s.hltSfp n r) := by
  unfold State.hltSfp
  split <;> simp

@[simp] theorem State.hltSample_memSame (s : State) (ro : List Nat) (sfp : List SfpRead) : s.MemSame (s.hltSample ro sfp) := by
  unfold State.hltSample
  extract_lets hour s1 s2 s3 s4 s5
  have h1 : s.MemSame s1 := ⟨rfl, rfl⟩
  have h2 : s1.MemSame s2 := iter_memSame (fun n u => by simp) 8 s1
  have h3 : s2.MemSame s3 := s2.hltTake_memSame _ _ _
  have h4 : s3.MemSame s4 := iter_memSame (fun n u => u.hltSfp_memSame n _) 6 s3
  have h5 : s4.MemSame s5 := iter_memSame (fun n u => by dsimp only; split <;> simp) 8 s4
  exact .ite (.refl s) (((h1.trans h2).trans (h3.trans h4)).trans (h5.trans s5.hltShow_memSame))

@[simp] theorem State.hltHoldup_memSame (s : State) : s.MemSame (State.hltHoldup s) := by
  simp [State.hltHoldup]

@[simp] theorem State.hltRestart_memSame (s : State) (i : Nat) : s.MemSame (s.hltRestart i) := by
  simp [State.hltRestart]

@[simp] theorem State.soReplaced_memSame (s : State) (i : Nat) : s.MemSame (s.soReplaced i) := by
  simp [State.soReplaced]

/-! ### Tamper -/

@[simp] theorem State.zeroise_memSame (s : State) : s.MemSame (State.zeroise s) := by
  simp [State.zeroise]

@[simp] theorem State.bootHalt_memSame (s : State) : s.MemSame (State.bootHalt s) := by
  simp [State.bootHalt]

@[simp] theorem State.tmpRespond_memSame (s : State) (src : Nat) : s.MemSame (s.tmpRespond src).2 := by
  unfold State.tmpRespond
  split <;> simp [apply_ite Prod.snd]

@[simp] theorem State.tamperHoldEnd_memSame (s : State) : s.MemSame (State.tamperHoldEnd s) := by
  simp [State.tamperHoldEnd]

/-! ### Supplies and starts -/

@[simp] theorem State.rtcSecond_memSame (s : State) : s.MemSame (State.rtcSecond s) := by
  simp [State.rtcSecond]

@[simp] theorem State.pfCleared_memSame (s : State) : s.MemSame (State.pfCleared s) := by
  simp [State.pfCleared]

@[simp] theorem State.dfosOpen_memSame (s : State) : s.MemSame (State.dfosOpen s) := ⟨rfl, rfl⟩

@[simp] theorem State.shed_memSame (s : State) : s.MemSame (State.shed s) := by
  simp [State.shed]

@[simp] theorem State.evrScan_memSame (s : State) : s.MemSame (State.evrScan s) := by
  simp [State.evrScan]

@[simp] theorem State.remapSaved_memSame (s : State) : s.MemSame (State.remapSaved s) := by
  refine foldl_memSame (fun u a => ?_) _ s
  split
  · exact State.MemSame.refl u
  · split
    · exact u.setTws_memSame _ _
    · exact State.MemSame.refl u

@[simp] theorem State.remapDrop_memSame (s : State) : s.MemSame (State.remapDrop s) := by
  simp [State.remapDrop]

@[simp] theorem State.selfTest_memSame (s : State) (p : Nat) : s.MemSame (s.selfTest p) := by
  simp [State.selfTest]

@[simp] theorem State.selfTests_memSame (s : State) (failed : List Nat) : s.MemSame (s.selfTests failed) := by
  simp [State.selfTests]

@[simp] theorem State.abruptSeen_memSame (s : State) : s.MemSame (State.abruptSeen s) := by
  simp [State.abruptSeen]

@[simp] theorem State.keepOff_memSame (s : State) : s.MemSame (State.keepOff s) := by
  simp [State.keepOff]

@[simp] theorem State.flushEnd_memSame (s : State) : s.MemSame (State.flushEnd s) := by
  unfold State.flushEnd
  constructor <;> simp only [↓apply_ite State.mem, ↓apply_ite State.mram] <;> (repeat' split) <;> simp

@[simp] theorem State.holdupReady_memSame (s : State) (chargeUs : Nat) : s.MemSame (s.holdupReady chargeUs) := by
  simp [State.holdupReady]

@[simp] theorem State.vauxLow_memSame (s : State) : s.MemSame (State.vauxLow s) := by
  simp [State.vauxLow]

@[simp] theorem State.vauxReturn_memSame (s : State) : s.MemSame (State.vauxReturn s) := by
  unfold State.vauxReturn
  dsimp only
  split <;> simp

@[simp] theorem State.setContact_memSame (s : State) (rstIn : Bool) (c : Contact) : s.MemSame (s.setContact rstIn c) := by
  simp [State.setContact]

@[simp] theorem State.releaseReset_memSame (s : State) : s.MemSame (State.releaseReset s) := by
  unfold State.releaseReset
  dsimp only
  split <;> simp

@[simp] theorem State.unpress_memSame (s : State) (rstIn : Bool) : s.MemSame (s.unpress rstIn) := by
  simp [State.unpress]

@[simp] theorem State.holdRelease_memSame (s : State) : s.MemSame (State.holdRelease s) := by
  unfold State.holdRelease
  split <;> simp

@[simp] theorem State.stuckClear_memSame (s : State) (rstIn : Bool) : s.MemSame (s.stuckClear rstIn) := by
  simp [State.stuckClear]

@[simp] theorem State.wdogKick_memSame (s : State) (v : Word) : s.MemSame (s.wdogKick v) := by
  simp [State.wdogKick]

@[simp] theorem State.rstApplied_memSame (s : State) : s.MemSame (State.rstApplied s) := by
  simp [State.rstApplied]

@[simp] theorem State.perst_memSame (s : State) : s.MemSame (State.perst s) := by
  simp [State.perst]

/-! ### CTRL -/

@[simp] theorem State.blockApplied_memSame (old s : State) (g : Nat) : s.MemSame (State.blockApplied old s g) := by
  unfold State.blockApplied
  split <;> simp

@[simp] theorem State.commitNow_memSame (s : State) (g : Nat) : s.MemSame (s.commitNow g) := by
  simp [State.commitNow]

@[simp] theorem State.commit_memSame (s : State) (g : Nat) : s.MemSame (s.commit g) := by
  unfold State.commit
  repeat' split
  all_goals simp

@[simp] theorem State.commitApply_memSame (s : State) (p : Nat) : s.MemSame (s.commitApply p) := by
  simp [State.commitApply]

@[simp] theorem State.halt_memSame (s : State) (g : Nat) : s.MemSame (s.halt g) := by
  unfold State.halt
  split <;> simp

@[simp] theorem State.ctrlStop_memSame (s : State) (g : Nat) : s.MemSame (s.ctrlStop g) := by
  unfold State.ctrlStop
  split <;> simp

@[simp] theorem State.stopApply_memSame (s : State) (g : Nat) : s.MemSame (s.stopApply g) := by
  unfold State.stopApply
  split <;> simp

@[simp] theorem State.ctrlStart_memSame (s : State) (g : Nat) : s.MemSame (s.ctrlStart g) := by
  unfold State.ctrlStart
  extract_lets ok take
  have hok (u : State) : u.MemSame (ok u) := (State.MemSame.trans ⟨u.updHd_mem _ _, u.updHd_mram _ _⟩ (State.memSame_accept _ _))
  have htake (r : Nat ⊕ State) (hr : ∀ t, r = .inr t → s.MemSame t) : s.MemSame (take r) := by
    dsimp only [take]
    split
    · exact s.memSame_refuse _ _ _
    · exact (hr _ rfl).trans (hok _)
  split
  · exact s.memSame_refuse _ _ _
  · split
    · exact s.memSame_refuse _ _ _
    · split
      · next e _ =>
        have hs := s.fltStartAll_memSame e
        split
        · next c t ht =>
          rw [ht] at hs
          exact hs.trans (t.memSame_refuse _ _ _)
        · next t ht =>
          rw [ht] at hs
          exact hs.trans (hok t)
      · split
        · exact hok s
        · exact htake _ (s.adcStart_memSame _)
      · exact htake _ (s.talStartAll_memSame _)
      · next q _ =>
        have hs := s.acqStartAll_memSame
        split
        · exact s.memSame_refuse _ _ _
        · next t ht => exact (hs t ht).trans (hok t)
      · split
        · exact s.memSame_refuse _ _ _
        · refine State.MemSame.trans (foldl_memSame (fun u i => ?_) _ s) (hok _)
          split <;> exact ⟨rfl, rfl⟩
      · exact hok s

@[simp] theorem State.setEnable_memSame (s : State) (g : Nat) (b : Bool) : s.MemSame (s.setEnable g b) := by
  unfold State.setEnable
  repeat' split
  all_goals simp

@[simp] theorem State.softRegs_memSame (s : State) (p : Nat) : s.MemSame (s.softRegs p) := by
  simp [State.softRegs]

@[simp] theorem State.softBlock_memSame (old s : State) (g : Nat) : s.MemSame (State.softBlock old s g) := by
  unfold State.softBlock
  split <;> simp

@[simp] theorem State.softReset_memSame (s : State) (g : Nat) : s.MemSame (s.softReset g) := by
  simp [State.softReset]

@[simp] theorem State.snapshot_memSame (s : State) (g : Nat) : s.MemSame (s.snapshot g) := by
  simp [State.snapshot]

@[simp] theorem State.cntClear_memSame (s : State) (g : Nat) : s.MemSame (s.cntClear g) := by
  unfold State.cntClear
  split <;> simp

@[simp] theorem State.ctrlWrite_memSame (s : State) (p : Nat) (v : Word) : s.MemSame (s.ctrlWrite p v) := by
  simp [State.ctrlWrite]

@[simp] theorem State.irqClear_memSame (s : State) (p : Nat) (v : Word) : s.MemSame (s.irqClear p v) := by
  simp [State.irqClear]

@[simp] theorem State.irqForce_memSame (s : State) (p : Nat) (v : Word) : s.MemSame (s.irqForce p v) := by
  simp [State.irqForce]

@[simp] theorem State.routeWrite_memSame (s : State) (p : Nat) (v : Word) : s.MemSame (s.routeWrite p v) := by
  simp [State.routeWrite]

@[simp] theorem State.lockKey_memSame (s : State) (p : Nat) (v : Word) : s.MemSame (s.lockKey p v) := by
  simp [State.lockKey]

@[simp] theorem State.lockTimeout_memSame (s : State) (p : Nat) : s.MemSame (s.lockTimeout p) := by
  simp [State.lockTimeout]

/-! ### Register writes -/

@[simp] theorem State.badAccess_memSame (s : State) (a : Nat) : s.MemSame (s.badAccess a) := by
  simp [State.badAccess]

@[simp] theorem State.regRead_memSame (s : State) (m a : Nat) : s.MemSame (s.regRead m a) := by
  constructor <;> simp [State.regRead] <;> (repeat' split) <;> simp

theorem State.cmdSignal_memSame (s : State) (p off : Nat) (v : Word) : s.MemSame ((State.cmdSignal s p off v).getD s) := by
  have hon (i : Nat) (f : State → State) {w : State} (u : State) (hu : w.MemSame u) (hf : ∀ u : State, u.MemSame (f u)) :
      w.MemSame (if bit v i then f u else u) := .ite (hu.trans (hf u)) hu
  have hnone : s.MemSame ((none : Option State).getD s) := .refl s
  unfold State.cmdSignal
  dsimp only
  split
  · exact iteInduction (motive := fun o : Option State => s.MemSame (o.getD s)) (fun _ => .ite ⟨rfl, rfl⟩ (.refl s)) fun _ => hnone
  · exact iteInduction (motive := fun o : Option State => s.MemSame (o.getD s))
      (fun _ => hon _ _ s (.refl s) fun u => u.strPop_memSame) fun _ => hnone
  · split
    · dsimp only [Option.getD_some]
      split
      · exact s.chainStart_memSame _ _ _
      · exact s.chainStop_memSame _ _
      · exact s.chainClearSat_memSame _ _
      · exact .refl s
    split
    · exact s.fltRefCmd_memSame _ _
    split
    · exact .ite ⟨rfl, rfl⟩ (.refl s)
    · exact hnone
  · split
    · exact hon _ _ _ (hon _ _ _ (hon _ _ s (.refl s) fun u => u.adcCalStart_memSame _) fun u => u.adcUrgent_memSame _ _) fun u =>
        u.shuntClose_memSame _
    · exact hnone
  · next e _ =>
    split
    · refine .ite (.refl s) (s.saveCmd_memSame _ _ _ fun u => ?_)
      split
      · exact u.saveNow_memSame _
      · exact u.zeroPoint_memSame _ _
      · exact u.acceptEmpty_memSame _
      · exact .refl u
    split
    · dsimp only [Option.getD_some]
      split
      · exact s.talStart_memSame _ _
      · exact s.talStop_memSame _ _
      · exact s.talClearSat_memSame _ _
      · exact .ite (s.memSame_refuse _ _ _) (.refl s)
    · exact hnone
  · split
    · exact .ite (.refl s) (s.ifUnlocked_memSame _ _ _ fun u => u.hwsCmd_memSame v)
    · exact hnone
  · split
    · split
      · exact s.acqXtrig_memSame v
      split
      · exact hon _ _ s (.refl s) fun u => u.acqRescan_memSame
      split
      · exact s.acqRelease_memSame v
      split
      · exact hon _ _ s (.refl s) fun u => u.acqRecPop_memSame
      · exact hnone
    split
    · have h (n : Nat) := hon 1 (·.acqStop n) _ (hon 0 (·.acqStart n) s (.refl s) (·.acqStart_memSame n)) (·.acqStop_memSame n)
      exact hon 3 (·.acqResume _) _ (hon 2 (·.acqManual _) _ (h _) (·.acqManual_memSame _)) (·.acqResume_memSame _)
    · exact hnone
  · split
    · have hf (u : State) :=
        hon 2 State.dupTake _ (hon 1 State.dupSwap _ (hon 0 State.dupResync u (.refl u) (·.dupResync_memSame)) (·.dupSwap_memSame))
          (·.dupTake_memSame)
      exact .ite (s.ifUnlocked_memSame p off _ hf) (hf s)
    split
    · exact hon _ _ s (.refl s) fun u => u.dupInject_memSame
    · exact hnone
  · exact hnone

theorem State.cmdExec_memSame (s : State) (p off : Nat) (v : Word) : s.MemSame ((State.cmdExec s p off v).getD s) := by
  have hreset (f : Nat) (sq : Bool) : s.MemSame (s.vfReset f sq fun s => s.migAbortReset f) :=
    s.vfReset_memSame f sq _ fun u => u.migAbortReset_memSame f
  unfold State.cmdExec
  split
  · split
    · exact .refl s
    split
    · dsimp only [Option.getD_some]
      split
      · exact s.instStart_memSame _ _ _
      · exact s.instStop_memSame _ _ _
      · exact s.instRestart_memSame _
      · exact .refl s
    split
    · exact s.olcCmd_memSame v
    split
    · dsimp only [Option.getD_some]
      split
      · exact s.piRead_memSame
      · exact s.piWrite_memSame _
      · exact s.piDir_memSame
      · exact .refl s
    · exact .refl s
  · split
    · dsimp only [Option.getD_some]
      split
      · exact .refl s
      · exact hreset _ _
      · exact hreset _ _
      · exact s.swapLog_memSame _
      · exact s.migArm_memSame _
      · exact s.migAbortCmd_memSame _
      · exact s.memSame_refuse _ _ _
    split
    · dsimp only [Option.getD_some]
      split
      · exact s.qpRestart_memSame _
      · exact s.qpStop_memSame _
      · exact .refl s
    split
    · exact s.tailWrite_memSame _ _ _ _
    · exact .refl s
  · exact .refl s

@[simp] theorem State.holdWrite_memSame (s : State) (p off : Nat) (r : RegDef) (hi : Bool) (v : Word) :
    s.MemSame (s.holdWrite p off r hi v) := by
  simp [State.holdWrite]

/-! ### Tables -/

@[simp] theorem State.unroute_memSame (s : State) (v : Nat) : s.MemSame (s.unroute v) := by
  simp [State.unroute]

@[simp] theorem State.vecWritten_memSame (s : State) (v : Nat) (w : Word) : s.MemSame (s.vecWritten v w) := by
  simp [State.vecWritten]

@[simp] theorem State.entryNoted_memSame (s : State) (p a : Nat) : s.MemSame (s.entryNoted p a) := by
  unfold State.entryNoted
  split <;> simp

@[simp] theorem State.tblRead_memSame (s : State) (p : Nat) : s.MemSame (s.tblRead p) := by
  constructor <;> simp [State.tblRead] <;> split <;> simp

@[simp] theorem State.tblRefuse_memSame (s : State) (p off code : Nat) : s.MemSame (s.tblRefuse p off code) := by
  simp [State.tblRefuse]

@[simp] theorem State.tblWrite_memSame (s : State) (p : Nat) : s.MemSame (s.tblWrite p) := by
  constructor <;> simp [State.tblWrite] <;> (repeat' split) <;> simp

@[simp] theorem State.winWrite_memSame (s : State) (p off : Nat) (v : Word) : s.MemSame (s.winWrite p off v) := by
  unfold State.winWrite
  repeat' split
  all_goals simp

@[simp] theorem State.vfCtrl_memSame (s : State) (p : Nat) (v : Word) : s.MemSame (s.vfCtrl p v) := by
  simp [State.vfCtrl]

@[simp] theorem State.hdrWrite_memSame (s : State) (m p off : Nat) (v : Word) : s.MemSame (s.hdrWrite m p off v) := by
  simp [State.hdrWrite]

@[simp] theorem State.oddAccess_memSame (s : State) (m a width : Nat) (wr : Bool) : s.MemSame (s.oddAccess m a width wr) := by
  simp [State.oddAccess]

/-! ### The tick start -/

@[simp] theorem State.mainTick_memSame (s : State) : s.MemSame (State.mainTick s) := by
  simp [State.mainTick]

@[simp] theorem State.tickStart_memSame (s : State) : s.MemSame (State.tickStart s) := by
  simp [State.tickStart]

@[simp] theorem State.tiEdge_memSame (s : State) (n : Nat) (falling : Bool) (width : Nat) : s.MemSame (s.tiEdge n falling width) := by
  simp [State.tiEdge]

@[simp] theorem State.ownEdge_memSame (s t : State) (n width : Nat) : t.MemSame (s.ownEdge t n width) := by
  unfold State.ownEdge
  split
  · exact t.tiEdge_memSame _ _ _
  · exact State.MemSame.refl t

@[simp] theorem State.tiContend_memSame (s : State) (falling : Bool) (width : Nat) : s.MemSame (s.tiContend falling width) := by
  simp [State.tiContend]

/-! ### The host window -/

@[simp] theorem State.setWq_memSame (s : State) (n : Nat) (q : WinQ) : s.MemSame (s.setWq n q) := by
  simp [State.setWq]

@[simp] theorem State.readData_memSame (s : State) (tag i : Nat) (w : Word) : s.MemSame (s.readData tag i w) := by
  unfold State.readData
  split <;> simp

@[simp] theorem State.readLost_memSame (s : State) (tag : Nat) : s.MemSame (s.readLost tag) := by
  unfold State.readLost
  split <;> simp

@[simp] theorem State.msixWrite_memSame (s : State) (a v : Nat) : s.MemSame (s.msixWrite a v) := by
  simp [State.msixWrite]

@[simp] theorem State.msixPerform_memSame (s : State) (l : List WinOp) : s.MemSame (s.msixPerform l).1 := by
  induction l generalizing s with
  | nil => exact ⟨rfl, rfl⟩
  | cons o l ih =>
    cases o with
    | write a v => exact (s.msixWrite_memSame a v).trans (ih _)
    | read a => exact ih s
    | bad a wr => exact (s.memSame_bump _ _).trans (ih _)

@[simp] theorem State.winRemote_memSame (s : State) (tag n : Nat) (wr : Bool) (ops : List WinOp) :
    s.MemSame (s.winRemote tag n wr ops) := by
  simp [State.winRemote]

@[simp] theorem State.winFrame_memSame (s : State) (n : Nat) (f : WinFly) : s.MemSame (s.winFrame n f) := by
  simp [State.winFrame]

@[simp] theorem State.winPack_memSame (s : State) (n : Nat) : s.MemSame (s.winPack n) := by
  simp [State.winPack]

@[simp] theorem State.intrSend_memSame (s : State) : s.MemSame (State.intrSend s) := by
  unfold State.intrSend
  split <;> simp

@[simp] theorem State.windowSend_memSame (s : State) (n : Nat) : s.MemSame (s.windowSend n) := by
  simp [State.windowSend]

@[simp] theorem State.winResp_memSame (s : State) (n seq : Nat) (ds : List Nat) : s.MemSame (s.winResp n seq ds) := by
  unfold State.winResp
  dsimp only
  split <;> simp

@[simp] theorem State.responseRx_memSame (s : State) : s.MemSame (State.responseRx s) := by
  unfold State.responseRx
  repeat' split
  all_goals simp

@[simp] theorem State.winRetry_memSame (s : State) (n : Nat) : s.MemSame (s.winRetry n) := by
  simp [State.winRetry]

@[simp] theorem State.winReadOut_memSame (s : State) (n : Nat) : s.MemSame (s.winReadOut n) := by
  simp [State.winReadOut]

@[simp] theorem State.intrRx_memSame (s : State) : s.MemSame (State.intrRx s) := by
  unfold State.intrRx
  repeat' split
  all_goals simp

end Sys2Proof.Machine
end

section
/-!
PROOFS. The canonical form of memory and MRAM through every function of the state that writes them.
-/
namespace Sys2Proof.Machine
open Sys2Proof

/-- Memory and MRAM are in canonical form. -/
abbrev State.MemForm (s : State) : Prop := Memory.wf s.mem = true ∧ Memory.wf s.mram = true

@[simp] theorem State.memForm_iff (s : State) : s.MemForm ↔ Memory.wf s.mem = true ∧ Memory.wf s.mram = true := Iff.rfl

@[simp] theorem wf_ite (c : Prop) [Decidable c] (m m' : List (Nat × Byte)) :
    Memory.wf (if c then m else m') = if c then Memory.wf m else Memory.wf m' := apply_ite Memory.wf c m m'

theorem State.MemForm.same {s t : State} (hm : s.MemForm) (h : s.MemSame t) : t.MemForm := by
  rw [State.MemForm, h.1, h.2]; exact hm

theorem State.MemForm.ite {s t : State} {c : Prop} [Decidable c] (hs : s.MemForm) (ht : t.MemForm) : (if c then s else t).MemForm :=
  iteInduction (fun _ => hs) fun _ => ht

@[simp] theorem foldl_memForm {α : Type} {f : State → α → State}
    (hf : ∀ (u : State) a, u.MemForm → (f u a).MemForm) (l : List α) {s : State} (hm : s.MemForm) : (l.foldl f s).MemForm :=
  List.foldlRecOn (motive := fun u : State => u.MemForm) l f hm fun u hu a _ => hf u a hu

@[simp] theorem foldl_snd_memForm {α β : Type} {f : β × State → α → β × State}
    (hf : ∀ (c : β × State) a, c.2.MemForm → (f c a).2.MemForm) (l : List α) {c : β × State}
    (hm : c.2.MemForm) : (l.foldl f c).2.MemForm :=
  List.foldlRecOn (motive := fun u : β × State => u.2.MemForm) l f hm fun u hu a _ => hf u a hu

@[simp] theorem foldl_fst_memForm {α β : Type} {f : State × β → α → State × β}
    (hf : ∀ (c : State × β) a, c.1.MemForm → (f c a).1.MemForm) (l : List α) {c : State × β}
    (hm : c.1.MemForm) : (l.foldl f c).1.MemForm :=
  List.foldlRecOn (motive := fun u : State × β => u.1.MemForm) l f hm fun u hu a _ => hf u a hu

@[simp] theorem iter_memForm {f : Nat → State → State} (hf : ∀ n (u : State), u.MemForm → (f n u).MemForm) (n : Nat) {s : State}
    (hm : s.MemForm) : (iter n f s).MemForm :=
  foldl_memForm (fun u a hu => hf a u hu) _ hm

theorem State.memSame_ops (s : State) (l : List Op) : s.MemSame { s with ops := l } := ⟨rfl, rfl⟩

section
variable {s : State} (hm : s.MemForm)
include hm

@[simp] theorem State.MemForm.ifUnlocked (p off : Nat) {f : State → State} (hf : ∀ u : State, u.MemForm → (f u).MemForm) :
    (s.ifUnlocked p off f).MemForm := by
  unfold State.ifUnlocked
  exact .ite (hf s hm) (hm.same (s.memSame_refuse _ _ _))

/-! ### Memory and its Cruiser -/

@[simp] theorem State.MemForm.writeMram (a : Nat) (bs : List Nat) : (s.writeMram a bs).MemForm := ⟨hm.1, s.writeMram_wf a bs hm.2⟩

@[simp] theorem State.MemForm.setWordState (a : Nat) (poisoned : Bool) : (s.setWordState a poisoned).MemForm :=
  ⟨s.setWordState_wf a poisoned hm.1, by cases poisoned <;> exact hm.2⟩

@[simp] theorem State.MemForm.corrected (a kind req idx : Nat) : (s.corrected a kind req idx).MemForm := by
  simp [State.corrected, hm.1, hm.2]

@[simp] theorem State.MemForm.uncorrectable (a kind req idx : Nat) : (s.uncorrectable a kind req idx).MemForm := by
  simp [State.uncorrectable, hm.1, hm.2]

@[simp] theorem State.MemForm.wordIs (a : Nat) : (s.wordIs a).2.MemForm := by
  refine ⟨s.wordIs_wf a hm.1, ?_⟩
  unfold State.wordIs
  dsimp only
  repeat' split
  all_goals exact hm.2

@[simp] theorem State.MemForm.readWord (a req idx : Nat) : (s.readWord a req idx).2.MemForm := by
  unfold State.readWord
  dsimp only
  split <;> simp [hm.1, hm.2]

@[simp] theorem State.MemForm.readMem (a n req idx : Nat) : (s.readMem a n req idx).2.2.MemForm := by
  simp +contextual [State.readMem, hm.1, hm.2]

@[simp] theorem State.MemForm.readAt (as : List Nat) (req idx : Nat) : (s.readAt as req idx).MemForm := by
  simp +contextual [State.readAt, hm.1, hm.2]

@[simp] theorem State.MemForm.partialWrite (a : Nat) (bs : List Nat) (req idx : Nat) : (s.partialWrite a bs req idx).2.MemForm := by
  have hw := hm.wordIs a
  unfold State.partialWrite
  dsimp only
  split
  · exact ⟨putBytes_wf a bs _ hw.1, hw.2⟩
  · have h := (hw.same (State.memSame_bump _ pMEM R.MEM_CNT_PW_MERGED)).corrected (a / 8 * 8) 1 req idx
    exact ⟨putBytes_wf a bs _ h.1, h.2⟩
  · exact ((hw.same (State.memSame_bump _ _ _)).same (State.memSame_irq _ _ _)).uncorrectable _ _ _ _
  · exact ((hw.same (State.memSame_bump _ _ _)).same (State.memSame_irq _ _ _)).same (State.memEvent_memSame _ _ _ _ _)

@[simp] theorem State.MemForm.writeWords (a : Nat) (bs : List Nat) : (s.writeWords a bs).MemForm := ⟨s.writeWords_wf a bs hm.1, hm.2⟩

@[simp] theorem State.MemForm.writeMem (a : Nat) (bs : List Nat) (req idx : Nat) : (s.writeMem a bs req idx).2.MemForm := by
  unfold State.writeMem
  extract_lets head mid r1 s2 tail r3
  have h1 : r1.2.MemForm := by
    dsimp only [r1]
    split
    · exact hm
    · exact hm.partialWrite _ _ _ _
  have h2 : s2.MemForm := h1.writeWords _ _
  dsimp only [r3]
  split
  · exact h2
  · exact h2.partialWrite _ _ _ _

@[simp] theorem State.MemForm.cruise (m : Nat) : (s.cruise m).MemForm := by
  unfold State.cruise
  dsimp only
  repeat' split
  all_goals simp [hm.1, hm.2]

@[simp] theorem State.MemForm.remapWritten (e : Nat) : (s.remapWritten e).MemForm := by
  simp [State.remapWritten, hm.1, hm.2]

/-! ### Ports and the Crosscut -/

@[simp] theorem State.MemForm.lndRead (id cells e : Nat) : (s.lndRead id cells e).2.MemForm := by
  simp +contextual [State.lndRead, apply_ite Prod.snd, hm.1, hm.2]

@[simp] theorem State.MemForm.select (e : Nat) (l : Nat) : (s.select e l).MemForm := by
  induction l generalizing s with
  | zero => exact hm
  | succ n ih =>
    have hdrop {u : State} (hu : u.MemForm) (x : QEntry) (p o : Nat) : ((u.lndDrop x.id).bump p o).MemForm :=
      (hu.same (u.lndDrop_memSame x.id)).same (State.memSame_bump _ p o)
    rw [State.select]
    split
    · exact hm
    next q _ =>
    split
    · exact hm
    next x _ =>
    have h1 : (s.deq e q).MemForm := hm.same (s.deq_memSame e q)
    generalize s.deq e q = s1 at h1
    have h2 := h1.lndRead x.id x.cells e
    dsimp only
    generalize s1.lndRead x.id x.cells e = bad at h2
    have hcnt : (bad.2.bump (pEG e) (qCnt q 1)).MemForm := h2.same (State.memSame_bump _ _ _)
    split
    · exact ih ((hdrop h1 x _ _).same (State.memSame_irq _ _ _))
    split
    · split
      · exact ih (hdrop h2 x _ _)
      · exact hcnt
    generalize bad.2.bump (pEG e) (qCnt q 1) = s3 at hcnt
    have h4 := hcnt.same (s3.ptpOut_memSame e x s3.ns (if e = 6 || e = 7 then 0 else s3.frac))
    generalize s3.ptpOut e x s3.ns (if e = 6 || e = 7 then 0 else s3.frac) = r at h4
    have h5 := h4.same (r.2.macsecTx_memSame e r.1)
    generalize r.2.macsecTx e r.1 = y at h5
    obtain ⟨o, u⟩ := y
    cases o with
    | none => exact ih (h5.same (State.lndDrop_memSame _ _))
    | some f => exact h5

/-! ### Filter engines and converters -/

@[simp] theorem State.MemForm.fltRun (e : Nat) : (s.fltRun e).MemForm := by
  unfold State.fltRun
  dsimp only
  repeat' split
  all_goals simp +contextual [hm.1, hm.2]

/-! ### The event deck -/

@[simp] theorem State.MemForm.postDone  : (s.postDone).MemForm := by
  unfold State.postDone
  split <;> simp [hm.1, hm.2]

@[simp] theorem State.MemForm.privWrite  : (s.privWrite).MemForm := by
  unfold State.privWrite
  split <;> simp [hm.1, hm.2]

/-! ### The cycle executor -/

@[simp] theorem State.MemForm.fixView (j : Nat) : (s.fixView j).MemForm := by
  simp +contextual [State.fixView, hm.1, hm.2]

@[simp] theorem State.MemForm.cycBegin (j : Nat) : (s.cycBegin j).MemForm := by
  simp +contextual [State.cycBegin, hm.1, hm.2]

@[simp] theorem State.MemForm.snapEnd  : (s.snapEnd).MemForm := by
  simp [State.snapEnd, hm.1, hm.2]

/-! ### Capture of a tick -/

@[simp] theorem State.MemForm.acqSetTick (n k : Nat) : (s.acqSetTick n k).MemForm := by
  unfold State.acqSetTick
  extract_lets s1 pre s2 c mine waiting s3 frozen s4 r a b all now s5 trig blk0 blk s6 s7 s8 y0 y s9 s10
  have hplace (u : State) (t : AcqTrig) (hu : u.MemForm) : (u.acqPlace n k t).MemForm := hu.same (u.acqPlace_memSame n k t)
  have h3 : s3.MemForm := hm.same (s.acqCtl_memSame n k k)
  clear_value s1 s2 s3
  split
  · exact foldl_memForm hplace _ h3
  have h4 : s4.MemForm := h3.readAt _ _ _
  have ha : a.1.MemForm := h4.same (s4.acqSampled_memSame n k r.1 r.2)
  have hb : b.1.MemForm := ha.same (a.1.acqMasks_memSame n k r.2)
  have h5 : s5.MemForm := hb
  clear_value s4 a b s5
  have h6 : s6.MemForm := foldl_memForm hplace _ h5
  clear_value s6
  have h7 : s7.MemForm := .ite h6 (h6.same (s6.acqRing_memSame n blk))
  clear_value s7
  have h8 : s8.MemForm := by
    dsimp only [s8]
    split
    · exact .ite (h7.same (s7.acqStage_memSame _ _)) h7
    · exact h7
  clear_value s8
  have h9 : s9.MemForm := h8
  clear_value s9
  have h10 : s10.MemForm := by
    dsimp only [s10]
    split
    · exact .ite (h9.same (s9.acqEnd_memSame n k 0)) h9
    · exact h9
  exact h10.same (s10.acqCtl_memSame n k (k + 1))

@[simp] theorem State.MemForm.acqTick  : (s.acqTick).MemForm := by
  unfold State.acqTick
  dsimp only
  repeat' split
  all_goals simp +contextual [hm.1, hm.2]

/-! ### Regions of a function -/

@[simp] theorem State.MemForm.dirtyMark (f : Nat) (bm : Bool) (a n : Nat) : (s.dirtyMark f bm a n).MemForm := by
  refine ⟨s.dirtyMark_wf f bm a n hm.1, ?_⟩
  unfold State.dirtyMark
  split <;> exact hm.2

@[simp] theorem State.MemForm.copyMem (f src dst n : Nat) :
    (s.copyMem f src dst n).MemForm := ((hm.readMem src n 3 s.kerfSkd).writeMem _ _ _ _).dirtyMark _ _ _ _

/-! ### GOOSE and the on-line change -/

@[simp] theorem State.MemForm.pubStep (quiet : Nat → Bool) (n : Nat) : (s.pubStep quiet n).MemForm := by
  simp [State.pubStep, hm.1, hm.2]

@[simp] theorem State.MemForm.olcCopy  : (s.olcCopy).MemForm := by
  refine foldl_memForm (fun u c hu => ?_) _ hm
  dsimp only
  split
  · exact (hu.copyMem _ _ _ _).copyMem _ _ _ _
  split
  · exact hu.copyMem _ _ _ _
  · exact hu.copyMem _ _ _ _

@[simp] theorem State.MemForm.olcEdges  : (s.olcEdges).MemForm := foldl_memForm (fun _ _ hu => (hu.writeMem _ _ _ _).dirtyMark _ _ _ _) _ hm

@[simp] theorem State.MemForm.olcSwitch  : (s.olcSwitch).MemForm := by
  simp [State.olcSwitch, hm.1, hm.2]

@[simp] theorem State.MemForm.kerfOlc  : (s.kerfOlc).MemForm := by
  simp [State.kerfOlc, hm.1, hm.2]

@[simp] theorem State.MemForm.olcHeldEnd  : (s.olcHeldEnd).MemForm := by
  simp [State.olcHeldEnd, hm.1, hm.2]

/-! ### Function instances -/

@[simp] theorem State.MemForm.fetchDesc (q d idx : Nat) : (s.fetchDesc q d idx).2.MemForm := by
  unfold State.fetchDesc
  extract_lets +onlyGivenNames f base size
  clear_value base size
  split
  · exact hm.same (s.winFault_memSame _)
  have hr := hm.readMem (base + idx * 32) 32 3 (s.qSkd q)
  rcases he : s.readMem (base + idx * 32) 32 3 (s.qSkd q) with ⟨bs, bad, u⟩
  rw [he] at hr
  refine iteInduction (motive := fun x : Option (List Word) × State => x.2.MemForm) (fun _ => hr) fun _ => hr

@[simp] theorem State.MemForm.descFetch (q : Nat) : (s.descFetch q).MemForm := by
  have h1 := hm.fetchDesc q 0 (s.qp q).txHead
  rcases hr : s.fetchDesc q 0 (s.qp q).txHead with ⟨_ | ws, s1⟩ <;> rw [hr] at h1 <;> rw [State.descFetch]
  · refine .ite hm (.ite hm ?_)
    rw [hr]
    exact h1.same (s1.ringStop_memSame _ _ _)
  · refine .ite hm (.ite hm ?_)
    rw [hr]
    dsimp only
    split
    · exact (State.MemForm.ite (h1.same (s1.winFault_memSame _)) h1).same (State.memSame_ops _ _)
    · exact (h1.same (s1.memSame_ops _)).same (State.skdGo_memSame _ _)

@[simp] theorem State.MemForm.readBack (k : Nat) (r : Req) : (s.readBack k r).MemForm := by
  simp [State.readBack, hm.1, hm.2]

@[simp] theorem State.MemForm.writeBack (k : Nat) (r : Req) : (s.writeBack k r).MemForm := by
  unfold State.writeBack
  extract_lets w s1 s2 s3 s4
  have h1 : s1.MemForm := (hm.writeMem _ _ _ _).same (State.memSame_bumpBy _ _ _ _)
  clear_value s1
  have h2 : s2.MemForm := .ite (h1.same (State.memSame_bump _ _ _)) h1
  have h3 : s3.MemForm := foldl_memForm (fun _ a hu => hu.setWordState a true) _ h2
  have h4 : s4.MemForm := h3.dirtyMark _ _ _ _
  exact .ite h4 (h4.same (State.updOp_memSame _ _ _ _))

@[simp] theorem State.MemForm.skdReturn (k i : Nat) : (s.skdReturn k i).MemForm := by
  unfold State.skdReturn
  dsimp only
  split <;> simp [hm.1, hm.2]

@[simp] theorem State.MemForm.descComplete (ring : Nat) : (s.descComplete ring).MemForm := by
  unfold State.descComplete
  split
  · exact hm
  next o _ =>
  extract_lets q d f st s1 r1 r2 s2 x size adv s3 s4 s5 s6
  clear_value st
  split
  · exact hm
  have h1 : s1.MemForm := hm
  clear_value s1
  have hr1 : r1.2.MemForm := by
    dsimp only [r1]
    split
    · exact h1.writeMem _ _ _ _
    · exact h1
  clear_value r1
  have hr2 : r2.2.MemForm := by
    dsimp only [r2]
    split
    · exact hr1
    · exact hr1.writeMem _ _ _ _
  clear_value r2
  have h2 : s2.MemForm := hr2.dirtyMark _ _ _ _
  clear_value s2
  have h4 : s4.MemForm := State.MemForm.same (s := s3) h2 ((State.memSame_bump _ _ _).trans (State.memSame_bump _ _ _))
  clear_value s4
  have h5 : s5.MemForm := by
    dsimp only [s5]
    split
    · exact h4.same (State.memSame_bump _ _ _)
    · exact (h4.same (State.memSame_bump _ _ _)).same (State.memSame_irq _ _ _)
    · exact h4.same (State.memSame_bump _ _ _)
    · exact h4
  clear_value s5
  have h6 : s6.MemForm := .ite (h5.same (State.memSame_bump _ _ _)) (.ite (h5.same (State.memSame_bump _ _ _)) h5)
  split
  · exact h2.same (State.ringStop_memSame _ _ _ _)
  · exact .ite (h6.same (State.ringEvent_memSame _ _ _ _)) h6

@[simp] theorem State.MemForm.rxCopy (x : QEntry) (group : Bool) (q : Nat) : (s.rxCopy x group q).MemForm := by
  rw [State.rxCopy]
  refine .ite (hm.same (State.memSame_bump _ _ _)) (.ite ((hm.same (State.memSame_bump _ _ _)).same (State.memSame_irq _ _ _)) ?_)
  extract_lets +onlyGivenNames idx
  clear_value idx
  have h1 := hm.fetchDesc q 1 idx
  rcases hr : s.fetchDesc q 1 idx with ⟨_ | ws, s1⟩ <;> rw [hr] at h1
  · exact h1.same (s1.ringStop_memSame _ _ _)
  · exact ((State.MemForm.ite (h1.same (s1.winFault_memSame _)) h1).same (State.memSame_ops _ _)).same (State.skdGo_memSame _ _)

@[simp] theorem State.MemForm.rselDeliver (x : QEntry) : (s.rselDeliver x).MemForm := by
  simp +contextual [State.rselDeliver, hm.1, hm.2]

@[simp] theorem State.MemForm.h1Deliver  : (s.h1Deliver).MemForm := by
  unfold State.h1Deliver
  dsimp only
  repeat' split
  all_goals simp [hm.1, hm.2]

@[simp] theorem State.MemForm.h1Goose  : (s.h1Goose).MemForm := by
  unfold State.h1Goose
  split
  · split
    · exact hm.h1Deliver
    · exact hm
  · exact hm

@[simp] theorem State.MemForm.taskReads (i : Nat) (reads : List Nat) : (s.taskReads i reads).MemForm := by
  simp [State.taskReads, hm.1, hm.2]

@[simp] theorem State.MemForm.storeBy (a : Nat) (bs : List Nat) (req idx : Nat) : (s.storeBy a bs req idx).MemForm := by
  unfold State.storeBy
  dsimp only
  split <;> simp [hm.1, hm.2]

/-! ### Migration -/

@[simp] theorem State.MemForm.migFrameRx  : (s.migFrameRx).MemForm := by
  unfold State.migFrameRx
  split <;> simp [hm.1, hm.2]

@[simp] theorem State.MemForm.migSwitchIn (f : Nat) : (s.migSwitchIn f).MemForm := by
  unfold State.migSwitchIn
  extract_lets x base s1 s2 st s3 held s4 s5
  have h1 : s1.MemForm := foldl_memForm (fun _ _ hu => hu.copyMem _ _ _ _) _ hm
  clear_value s1
  have h2 : s2.MemForm := h1.same (s1.kerfCopied_memSame _ _)
  clear_value s2
  have h3 : s3.MemForm := by
    refine foldl_memForm (fun u r hu => ?_) _ h2
    split
    · exact hu
    · exact hu
  clear_value s3
  have h4 : s4.MemForm := h3.same (s3.updInst_memSame _ _)
  clear_value s4
  have h5 : s5.MemForm := h4.same (s4.updMig_memSame _ _)
  exact .ite (h5.same (State.migGo_memSame _ _ _)) ((h5.same (State.migGo_memSame _ _ _)).same (State.migRec_memSame _ _))

@[simp] theorem State.MemForm.migKerfPost  : (s.migKerfPost).MemForm := by
  simp +contextual [State.migKerfPost, hm.1, hm.2]

/-! ### Tally engines -/

@[simp] theorem State.MemForm.talKerf  : (s.talKerf).MemForm := by
  simp +contextual [State.talKerf, hm.1, hm.2]

@[simp] theorem State.MemForm.talRunTick (e k done : Nat) : (s.talRunTick e k done).MemForm := by
  unfold State.talRunTick
  dsimp only
  split <;> simp +contextual [hm.1, hm.2]

/-! ### Commands of the tally engines and pulse outputs -/

@[simp] theorem State.MemForm.saveOpen (e : Nat) : (s.saveOpen e).MemForm := by
  unfold State.saveOpen
  split <;> simp [hm.1, hm.2]

@[simp] theorem State.MemForm.saveStart (e k : Nat) (final : Bool) : (s.saveStart e k final).MemForm := by
  simp [State.saveStart, hm.1, hm.2]

@[simp] theorem State.MemForm.saveAfter (e k : Nat) : (s.saveAfter e k).MemForm := by
  simp [State.saveAfter, hm.1, hm.2]

@[simp] theorem State.MemForm.talRun (e : Nat) : (s.talRun e).MemForm := by
  unfold State.talRun
  split <;> simp [hm.1, hm.2]

@[simp] theorem State.MemForm.saveDone (e : Nat) : (s.saveDone e).MemForm := by
  unfold State.saveDone
  split
  · exact hm
  split
  · exact hm
  next v rest _ _ =>
  extract_lets a s1 s2 s3 s4
  have h2 : s2.MemForm := (hm.writeMram _ _).writeMram _ _
  have h3 : s3.MemForm := h2.same (State.updTe_memSame _ _ _)
  have h4 : s4.MemForm := (h3.same (State.memSame_bump _ _ _)).saveOpen e
  exact .ite (h4.same s4.finalRecords_memSame) h4

@[simp] theorem State.MemForm.talFinals  : (s.talFinals).MemForm := by
  simp +contextual [State.talFinals, hm.1, hm.2]

/-! ### The duplex pair -/

@[simp] theorem State.MemForm.mirAdopt (bs : List Nat) : (s.mirAdopt bs).MemForm := by
  refine foldl_fst_memForm (c := (s, bs)) (fun c i hc => ?_) _ hm
  extract_lets u w n
  split
  · exact hc
  split
  · exact foldl_memForm (fun v k hv => hv.same (v.writePt_memSame _ _)) _ hc
  · exact hc.writeMem _ _ _ _

/-! ### Resynchronisation -/

@[simp] theorem State.MemForm.mirTry  : (s.mirTry).MemForm := by
  unfold State.mirTry
  split <;> simp [hm.1, hm.2]

@[simp] theorem State.MemForm.fltTickRun (e : Nat) : (s.fltTickRun e).MemForm := by
  simp [State.fltTickRun, hm.1, hm.2]

@[simp] theorem State.MemForm.talTickRun (e : Nat) : (s.talTickRun e).MemForm := by
  simp [State.talTickRun, hm.1, hm.2]

/-! ### Commands of the pair -/

@[simp] theorem State.MemForm.syncIn (m : SyncMsg) : (s.syncIn m).MemForm := by
  simp [State.syncIn, hm.1, hm.2]

@[simp] theorem State.MemForm.dupSyncRx  : (s.dupSyncRx).MemForm := by
  unfold State.dupSyncRx
  split <;> simp [hm.1, hm.2]

@[simp] theorem State.MemForm.mirrorRx  : (s.mirrorRx).MemForm := by
  unfold State.mirrorRx
  split <;> simp [hm.1, hm.2]

/-! ### The kerf and the tick -/

@[simp] theorem State.MemForm.kerf (used : Nat) : (s.kerf used).MemForm := by
  unfold State.kerf
  extract_lets j lenient s1 quiet s2 s3 armed s4 s5
  have h1 : s1.MemForm := by
    refine State.MemForm.same ?_ (State.migPubs_memSame _)
    refine State.MemForm.talKerf ?_
    exact ((hm.same s.dupKerfPre_memSame).same (State.migKerfPre_memSame _)).same (State.kerf12_memSame _ _ _)
  clear_value s1
  have h2 : s2.MemForm := foldl_memForm (fun _ _ hu => hu.pubStep _ _) _ h1
  clear_value s2
  have h3 : s3.MemForm := (h2.same s2.dupKerf_memSame).same (State.sendPubs_memSame _)
  clear_value s3
  have h4 : s4.MemForm := h3.kerfOlc
  clear_value s4
  have h5 : s5.MemForm := .ite (h4.same (s4.kerfCopied_memSame _ _)) h4
  exact h5.migKerfPost

@[simp] theorem State.MemForm.kerfStart (used : Nat) : (s.kerfStart used).MemForm := by
  simp [State.kerfStart, hm.1, hm.2]

@[simp] theorem State.MemForm.cycleStart  : (s.cycleStart).MemForm := by
  unfold State.cycleStart
  split <;> simp [hm.1, hm.2]

/-! ### Keys -/

@[simp] theorem State.MemForm.genUp (i : Nat) : (s.genUp i).MemForm := by
  simp [State.genUp, hm.1, hm.2]

@[simp] theorem State.MemForm.kRead (a n : Nat) : (s.kRead a n).2.MemForm := by
  simp [State.kRead, hm.1, hm.2]

@[simp] theorem State.MemForm.kWrite (a : Nat) (bs : List Nat) : (s.kWrite a bs).MemForm := by
  simp [State.kWrite, hm.1, hm.2]

@[simp] theorem State.MemForm.kDerive (o : KOp) : (s.kDerive o).2.MemForm := by
  unfold State.kDerive
  dsimp only
  repeat' split
  all_goals simp [hm.1, hm.2]

@[simp] theorem State.MemForm.kStage (o : KOp) : (s.kStage o).2.MemForm := by
  simp [State.kStage, apply_ite Prod.snd, hm.1, hm.2]

@[simp] theorem State.MemForm.kCommit (o : KOp) : (s.kCommit o).2.MemForm := by
  unfold State.kCommit
  split <;> simp [hm.1, hm.2]

@[simp] theorem State.MemForm.kUnwrap (o : KOp) : (s.kUnwrap o).2.MemForm := by
  unfold State.kUnwrap
  dsimp only
  repeat' split
  all_goals simp [hm.1, hm.2]

@[simp] theorem State.MemForm.kMsg (o : KOp) : (s.kMsg o).2.MemForm := by
  unfold State.kMsg
  extract_lets bad r s1 slot s2 s3 n
  have hbad (u : State) (c : Nat) (hu : u.MemForm) : (bad u c).2.MemForm :=
    (hu.same (u.keyRec_memSame _ _ _)).same (State.memSame_bump _ _ _)
  clear_value bad
  split
  · exact hbad s _ hm
  split
  · exact hbad s _ hm
  have h1 : s1.MemForm := hm.kRead o.addr 424
  clear_value s1
  split
  · exact hbad s1 _ h1
  next pt _ =>
  extract_lets t2 t3
  have h3 : s3.MemForm := (h1.writeMram 0x3FB00 _).same (State.memSame_bump _ _ _)
  have h4 : t2.MemForm := h3.same (s3.install_memSame _ _ _ _ _)
  have h5 : t3.MemForm := h3
  clear_value t2 t3 slot
  split
  · exact (h4.genUp slot).same (State.keyRec_memSame _ _ _ _)
  · exact (h5.same (State.keyRec_memSame _ _ _ _)).same (State.keyRec_memSame _ _ _ _)

@[simp] theorem State.MemForm.kSign (o : KOp) : (s.kSign o).2.MemForm := by
  unfold State.kSign
  split <;> simp [apply_ite Prod.snd, hm.1, hm.2]

@[simp] theorem State.MemForm.kPubkey (o : KOp) : (s.kPubkey o).2.MemForm := by
  simp [State.kPubkey, apply_ite Prod.snd, hm.1, hm.2]

@[simp] theorem State.MemForm.kSaveBlob (o : KOp) : (s.kSaveBlob o).2.MemForm := by
  simp [State.kSaveBlob, apply_ite Prod.snd, hm.1, hm.2]

@[simp] theorem State.MemForm.kLoadBlob (o : KOp) : (s.kLoadBlob o).2.MemForm := by
  unfold State.kLoadBlob
  dsimp only
  repeat' split
  all_goals simp [hm.1, hm.2]

@[simp] theorem State.MemForm.kSetOwner (o : KOp) : (s.kSetOwner o).2.MemForm := by
  simp [State.kSetOwner, apply_ite Prod.snd, hm.1, hm.2]

@[simp] theorem State.MemForm.kWork (o : KOp) : (s.kWork o).2.MemForm := by
  unfold State.kWork
  split <;> simp [hm.1, hm.2]

@[simp] theorem State.MemForm.ksuDone  : (s.ksuDone).MemForm := by
  unfold State.ksuDone
  dsimp only
  repeat' split
  all_goals simp [hm.1, hm.2]

/-! ### Tamper -/

@[simp] theorem State.MemForm.tmpEntry (src : Nat) (clear : Bool) (st cls resp value : Nat) :
    (s.tmpEntry src clear st cls resp value).MemForm := by
  simp [State.tmpEntry, hm.1, hm.2]

@[simp] theorem State.MemForm.tmpDeck (typ src seq resp : Nat) : (s.tmpDeck typ src seq resp).MemForm := by
  simp [State.tmpDeck, hm.1, hm.2]

@[simp] theorem State.MemForm.tamperDetect (src value : Nat) : (s.tamperDetect src value).MemForm := by
  simp [State.tamperDetect, hm.1, hm.2]

@[simp] theorem State.MemForm.tamperClear (src value : Nat) : (s.tamperClear src value).MemForm := by
  simp [State.tamperClear, hm.1, hm.2]

@[simp] theorem State.MemForm.tmpReport  : (s.tmpReport).MemForm := by
  simp +contextual [State.tmpReport, hm.1, hm.2]

/-! ### Supplies and starts -/

@[simp] theorem State.MemForm.flushSaves  : (s.flushSaves).MemForm := by
  simp [State.flushSaves, hm.1, hm.2]

@[simp] theorem State.MemForm.pfWarning (ext : Bool) : (s.pfWarning ext).MemForm := by
  simp [State.pfWarning, hm.1, hm.2]

@[simp] theorem State.MemForm.resetReq (cause : Nat) : (s.resetReq cause).MemForm := by
  unfold State.resetReq
  dsimp only
  repeat' split
  all_goals simp [hm.1, hm.2]

@[simp] theorem State.MemForm.warmState (cause : Nat) : (s.warmState cause).MemForm := by
  simp +contextual [State.warmState, hm.1, hm.2]

@[simp] theorem State.MemForm.warmReset (cause : Nat) : (s.warmReset cause).MemForm := by
  simp +contextual [State.warmReset, hm.1, hm.2]

@[simp] theorem State.MemForm.fillBad (a : Nat) : (s.fillBad a).MemForm := by
  simp [State.fillBad, hm.1, hm.2]

@[simp] theorem State.MemForm.coldState (cause : Nat) (b : StartUp) : (s.coldState cause b).MemForm := ⟨rfl, hm.2⟩

@[simp] theorem State.MemForm.powerOn (cause : Nat) (b : StartUp) : (s.powerOn cause b).MemForm := by
  unfold State.powerOn
  extract_lets cut t1 t2 t3 t4 t5 t6 loss t7 t8 t9
  have h1 : t1.MemForm := (hm.coldState cause b).same (State.remapSaved_memSame _)
  clear_value t1
  have h2 : t2.MemForm := .ite (((h1.same t1.bootHalt_memSame).same (State.memSame_irq _ _ _)).same (State.keyRec_memSame _ _ _ _)) h1
  clear_value t2
  have h3 : t3.MemForm := .ite (h2.same t2.bootHalt_memSame) h2
  clear_value t3
  have h4 : t4.MemForm := .ite h3 (h3.same (State.memSame_irq _ _ _))
  clear_value t4
  have h5 : t5.MemForm := (foldl_memForm (fun _ a hu => hu.fillBad a) _ h4).same (State.remapDrop_memSame _)
  clear_value t5
  have h6 : t6.MemForm := h5.same (t5.selfTests_memSame _)
  clear_value t6
  have h7 : t7.MemForm := (iter_memForm (fun n u hu => hu.same (u.talRestore_memSame _ _)) 8 h6).same (State.evrScan_memSame _)
  clear_value t7
  have h8 : t8.MemForm := (h7.same t7.abruptSeen_memSame).same (State.memSame_bumpBy _ _ _ _)
  clear_value t8
  have h9 : t9.MemForm := .ite (h8.same (State.memSame_bump _ _ _)) h8
  exact (h9.tmpReport).same (State.hltShow_memSame _)

@[simp] theorem State.MemForm.msgCut  : (s.msgCut).MemForm := by
  unfold State.msgCut
  dsimp only
  repeat' split
  all_goals simp [hm.1, hm.2]

@[simp] theorem State.MemForm.powerLoss  : (s.powerLoss).MemForm := by
  unfold State.powerLoss
  dsimp only
  split <;> simp [hm.1, hm.2]

@[simp] theorem State.MemForm.tornWrite  : (s.tornWrite).MemForm := by
  unfold State.tornWrite
  split <;> simp [hm.1, hm.2]

@[simp] theorem State.MemForm.abruptLoss (torn : Bool) : (s.abruptLoss torn).MemForm := by
  simp [State.abruptLoss, hm.1, hm.2]

@[simp] theorem State.MemForm.storeEmpty  : (s.storeEmpty).MemForm := by
  simp [State.storeEmpty, hm.1, hm.2]

@[simp] theorem State.MemForm.powerOnReset (b : StartUp) : (s.powerOnReset b).MemForm := by
  unfold State.powerOnReset
  split
  · exact hm.powerOn 0 b
  · split
    · exact .ite (hm.powerOn 2 b) hm
    · exact hm

@[simp] theorem State.MemForm.press (rstIn : Bool) : (s.press rstIn).MemForm := by
  simp [State.press, hm.1, hm.2]

@[simp] theorem State.MemForm.wdogExpiry  : (s.wdogExpiry).MemForm := by
  simp [State.wdogExpiry, hm.1, hm.2]

@[simp] theorem State.MemForm.rstCmd (v : Word) : (s.rstCmd v).MemForm := by
  simp [State.rstCmd, hm.1, hm.2]

/-! ### Register writes -/

@[simp] theorem State.MemForm.cmdSystem (p off : Nat) (v : Word) : ((s.cmdSystem p off v).getD s).MemForm := by
  have hnone : ((none : Option State).getD s).MemForm := hm
  unfold State.cmdSystem
  split
  · split
    · exact .ite hm (hm.ifUnlocked _ _ fun u hu => hu.rstCmd v)
    split
    · exact hm.same (s.wdogKick_memSame v)
    · exact hnone
  · split
    · exact hm.same (s.ksuCmd_memSame _ _ _)
    · exact hnone
  · split
    · exact .ite hm hm
    · exact hnone
  · split
    · exact .ite (hm.same (s.memInj_memSame v)) (hm.ifUnlocked _ _ fun u hu => hu.same (u.memInj_memSame v))
    split
    · exact .ite (hm.ifUnlocked _ _ fun u hu => hu) hm
    split
    · exact .ite hm hm
    · exact hnone
  · split
    · exact hm.same (s.adjRate_memSame v)
    split
    · exact hm.same (s.adjPhase_memSame v)
    split
    · exact .ite (hm.ifUnlocked _ _ fun u hu => hu.same (u.tsuCmd_memSame v)) (hm.same (s.tsuCmd_memSame v))
    split
    · exact hm.same (s.tiPop_memSame v)
    · exact hnone
  · split
    · exact hm.same (s.evrPost_memSame v)
    split
    · exact .ite (hm.same s.flushStart_memSame) hm
    split
    · exact hm.same (s.privRelease_memSame v)
    · exact hnone
  · split
    · dsimp only [Option.getD_some]
      split
      · exact hm.ifUnlocked _ _ fun u hu => hu.same (u.forget_memSame _)
      · exact hm.same (s.ackReset_memSame _)
      · exact hm
    · exact hnone
  · split
    · refine .ite hm (hm.ifUnlocked _ _ fun u hu => ?_)
      split
      · exact hu.same (u.hltRestart_memSame _)
      · exact hu.same (u.soReplaced_memSame _)
      · exact hu.same (u.memSame_refuse _ _ _)
      · exact hu
    · exact hnone
  · exact hnone

@[simp] theorem State.MemForm.cmdWrite (p off : Nat) (v : Word) : ((s.cmdWrite p off v).getD s).MemForm := by
  have hsys := hm.cmdSystem p off v
  have hsig := hm.same (s.cmdSignal_memSame p off v)
  have hexe := hm.same (s.cmdExec_memSame p off v)
  unfold State.cmdWrite
  generalize s.cmdSystem p off v = x at hsys
  generalize s.cmdSignal p off v = y at hsig
  cases x with
  | some t => exact hsys
  | none =>
    cases y with
    | some t => exact hsig
    | none => exact hexe

/-! ### Tables -/

@[simp] theorem State.MemForm.entryWritten (p a : Nat) (ws : List Word) : (s.entryWritten p a ws).MemForm := by
  unfold State.entryWritten
  split <;> simp [hm.1, hm.2]

@[simp] theorem State.MemForm.tblDone (p : Nat) : (s.tblDone p).MemForm := by
  unfold State.tblDone
  dsimp only
  repeat' split
  all_goals simp [hm.1, hm.2]

@[simp] theorem State.MemForm.regWrite (m a : Nat) (v : Word) : (s.regWrite m a v).MemForm := by
  unfold State.regWrite
  extract_lets p off s1
  split
  · exact hm.same (s.badAccess_memSame _)
  have ht := hm.same (s.memSame_touch p)
  have h1 : s1.MemForm := ht
  clear_value s1 p off
  split
  · exact ht.same (State.memSame_refuse _ _ _ _)
  split
  · exact hm.same (s.lockKey_memSame _ _)
  split
  · exact h1.same (s1.hdrWrite_memSame _ _ _ _)
  split
  · exact h1.same (s1.winWrite_memSame _ _ _)
  next r _ hi _ =>
  have hc := h1.cmdWrite p off v
  have hh := h1.same (s1.holdWrite_memSame p off r hi v)
  generalize s1.cmdWrite p off v = x at hc
  cases x with
  | none => exact hh
  | some t => exact hc

/-! ### Accesses -/

@[simp] theorem State.MemForm.ctrlCmd (m p : Nat) (v : Word) (i : Nat) : (s.ctrlCmd m p v i).MemForm := hm.regWrite _ _ _

/-! ### The tick start -/

@[simp] theorem State.MemForm.cycleBound  : (s.cycleBound).MemForm := by
  simp +contextual [State.cycleBound, hm.1, hm.2]

/-! ### The host window -/

@[simp] theorem State.MemForm.winDo (o : WinOp) : (s.winDo o).1.MemForm := by
  unfold State.winDo
  split <;> simp [hm.1, hm.2]

@[simp] theorem State.MemForm.winPerform (l : List WinOp) : (s.winPerform l).1.MemForm := by
  induction l generalizing s with
  | nil => exact hm
  | cons o os ih => exact ih (hm.winDo o)

@[simp] theorem State.MemForm.hostAccess (bar tag addr : Nat) (wr : Bool) (dws : List HostDw) :
    (s.hostAccess bar tag addr wr dws).MemForm := by
  simp [State.hostAccess, hm.1, hm.2]

@[simp] theorem State.MemForm.winTake (src seq : Nat) (ops : List WinOp) : (s.winTake src seq ops).MemForm := by
  unfold State.winTake
  dsimp only
  split <;> simp [hm.1, hm.2]

@[simp] theorem State.MemForm.windowRx  : (s.windowRx).MemForm := by
  unfold State.windowRx
  dsimp only
  repeat' split
  all_goals simp [hm.1, hm.2]

end

end Sys2Proof.Machine
end

section
/-!
PROOFS. The canonical form through every command and every step: O47.
-/
namespace Sys2Proof.Machine
open Sys2Proof

variable {s t : State}

theorem State.MemForm.act {on : State → Bool} {f : State → State} (hm : s.MemForm) (h : act on f s = .next t)
    (hf : ∀ u : State, u.MemForm → (f u).MemForm) : t.MemForm := by
  unfold Machine.act at h
  cases h
  split
  · exact hf s hm
  · exact hm

theorem State.MemForm.actReg {on : State → Bool} {p : Nat} {f : State → State} (hm : s.MemForm) (h : actReg on p f s = .next t)
    (hf : ∀ u : State, u.MemForm → (f u).MemForm) : t.MemForm :=
  hm.act h fun u hu => hf _ (hu.same (u.memSame_touch p))

theorem State.MemForm.exec {i : Instr} (hm : s.MemForm) (h : exec i s = .next t) : t.MemForm := by
  cases i with
  | badAccess m a width wr => exact hm.act ((exec_badAccess m a width wr s).symm.trans h) fun u hu => hu.same (u.oddAccess_memSame _ _ _ _)
  | regWrite m a v => exact hm.act ((exec_regWrite m a v s).symm.trans h) fun u hu => hu.regWrite _ _ _
  | reg64LowRead m a => exact hm.act ((exec_reg64LowRead m a s).symm.trans h) fun u hu => hu.same (u.regRead_memSame _ _)
  | reg64HighWrite m a v => exact hm.act ((exec_reg64HighWrite m a v s).symm.trans h) fun u hu => hu.regWrite _ _ _
  | rwsWrite m a v => exact hm.act ((exec_rwsWrite m a v s).symm.trans h) fun u hu => hu.regWrite _ _ _
  | enable m p v => exact hm.act ((exec_enable m p v s).symm.trans h) fun u hu => hu.regWrite _ _ _
  | softReset m p v => exact hm.act ((exec_softReset m p v s).symm.trans h) fun u hu => hu.ctrlCmd _ _ _ _
  | commit m p v => exact hm.act ((exec_commit m p v s).symm.trans h) fun u hu => hu.ctrlCmd _ _ _ _
  | commitApply p => exact hm.act ((exec_commitApply p s).symm.trans h) fun u hu => hu.same (u.commitApply_memSame _)
  | stop m p v => exact hm.act ((exec_stop m p v s).symm.trans h) fun u hu => hu.ctrlCmd _ _ _ _
  | start m p v => exact hm.act ((exec_start m p v s).symm.trans h) fun u hu => hu.ctrlCmd _ _ _ _
  | cntSnapshot m p v => exact hm.act ((exec_cntSnapshot m p v s).symm.trans h) fun u hu => hu.ctrlCmd _ _ _ _
  | cntClear m p v => exact hm.act ((exec_cntClear m p v s).symm.trans h) fun u hu => hu.ctrlCmd _ _ _ _
  | irqStatusClear m p v => exact hm.act ((exec_irqStatusClear m p v s).symm.trans h) fun u hu => hu.regWrite _ _ _
  | irqForce m p v => exact hm.act ((exec_irqForce m p v s).symm.trans h) fun u hu => hu.regWrite _ _ _
  | irqRouteWrite m p v => exact hm.act ((exec_irqRouteWrite m p v s).symm.trans h) fun u hu => hu.regWrite _ _ _
  | lockWrite m p v => exact hm.act ((exec_lockWrite m p v s).symm.trans h) fun u hu => hu.regWrite _ _ _
  | lockTimeout p => exact hm.act ((exec_lockTimeout p s).symm.trans h) fun u hu => hu.same (u.lockTimeout_memSame _)
  | tblRead m p => exact hm.act ((exec_tblRead m p s).symm.trans h) fun u hu => hu.regWrite _ _ _
  | tblWrite m p => exact hm.act ((exec_tblWrite m p s).symm.trans h) fun u hu => hu.regWrite _ _ _
  | tblOpDone p => exact hm.act ((exec_tblOpDone p s).symm.trans h) fun u hu => hu.tblDone _
  | unitFence p => exact hm.act ((exec_unitFence p s).symm.trans h) fun u hu => hu.same (u.fence_memSame _ _)
  | moduleFail p cause => exact hm.act ((exec_moduleFail p cause s).symm.trans h) fun u hu => hu.same (u.unitFail_memSame _ _)
  | frameRx p f => exact hm.act ((exec_frameRx p f s).symm.trans h) fun u hu => hu.same (u.frameRx_memSame _ _)
  | pauseExpiry p => exact hm.act ((exec_pauseExpiry p s).symm.trans h) fun u hu => hu.same (u.pauseExpire_memSame _)
  | pauseWdog p => exact hm.act ((exec_pauseWdog p s).symm.trans h) fun u hu => hu.same (u.pauseWdog_memSame _)
  | pauseHoldoffEnd p => exact hm.act ((exec_pauseHoldoffEnd p s).symm.trans h) fun u hu => hu.same (u.pauseHoldoffEnd_memSame _)
  | h1Post => exact hm.act ((exec_h1Post s).symm.trans h) fun u hu => hu.same u.h1Take_memSame
  | portFrameSelect e => exact hm.act ((exec_portFrameSelect e s).symm.trans h) fun u hu => .ite (hu.select _ _) hu
  | frameTxDone e => exact hm.act ((exec_frameTxDone e s).symm.trans h) fun u hu => hu.same (u.txDone_memSame _)
  | linkUp p => exact hm.act ((exec_linkUp p s).symm.trans h) fun u hu => hu.same (u.linkGained_memSame _)
  | linkDown p => exact hm.act ((exec_linkDown p s).symm.trans h) fun u hu => hu.same (u.linkLost_memSame _)
  | gateEntryAdvance e => exact hm.act ((exec_gateEntryAdvance e s).symm.trans h) fun u hu => hu.same (u.gateAdvance_memSame _)
  | gateBankSwitch e => exact hm.act ((exec_gateBankSwitch e s).symm.trans h) fun u hu => hu.same (u.gateSwitch_memSame _)
  | fdbAgeOut i => exact hm.act ((exec_fdbAgeOut i s).symm.trans h) fun u hu => .ite (hu.same (u.fdbAgeOut_memSame _)) hu
  | dupEntryForget i => exact hm.act ((exec_dupEntryForget i s).symm.trans h) fun u hu => .ite (hu.same (u.dupForget_memSame _)) hu
  | supervisionSend pair => exact hm.act ((exec_supervisionSend pair s).symm.trans h) fun u hu => hu.same (u.supervise_memSame _)
  | cageSupplyTrip p => exact hm.act ((exec_cageSupplyTrip p s).symm.trans h) fun u hu => hu.same (u.cageTrip_memSame _)
  | macTsfPop p => exact hm.actReg ((exec_macTsfPop p s).symm.trans h) fun u hu => hu
  | tickStart => exact hm.act ((exec_tickStart s).symm.trans h) fun u hu => hu.same u.tickStart_memSame
  | tsuAdjRate v => exact hm.actReg ((exec_tsuAdjRate v s).symm.trans h) fun u hu => hu.same (u.adjRate_memSame _)
  | tsuAdjPhase v => exact hm.actReg ((exec_tsuAdjPhase v s).symm.trans h) fun u hu => hu.same (u.adjPhase_memSame _)
  | slewDone => exact hm.act ((exec_slewDone s).symm.trans h) fun u hu => .ite hu hu
  | latch => exact hm.actReg ((exec_latch s).symm.trans h) fun u hu => hu.same u.tsuLatch_memSame
  | step => exact hm.actReg ((exec_step s).symm.trans h) fun u hu => .ite (hu.same u.tsuStep_memSame) (hu.same (u.memSame_refuse _ _ _))
  | locked => exact hm.actReg ((exec_locked s).symm.trans h) fun u hu => hu.same u.tsuLocked_memSame
  | hold => exact hm.actReg ((exec_hold s).symm.trans h) fun u hu => hu.same u.tsuHold_memSame
  | release => exact hm.actReg ((exec_release s).symm.trans h) fun u hu => hu.same u.tsuRelease_memSame
  | discWdog => exact hm.act ((exec_discWdog s).symm.trans h) fun u hu => .ite (hu.same (u.enterHold_memSame _)) hu
  | holdUpdate dT => exact hm.act ((exec_holdUpdate dT s).symm.trans h) fun u hu => hu.same (u.holdUpdate_memSame _)
  | toEdge n =>
    exact hm.act ((exec_toEdge n s).symm.trans h) fun u hu =>
      (hu.same (u.toEdge_memSame _)).same (State.ownEdge_memSame _ _ _ _)
  | toPulseEnd n =>
    exact hm.act ((exec_toPulseEnd n s).symm.trans h) fun u hu =>
      (hu.same (u.toPulseEnd_memSame _)).same (State.ownEdge_memSame _ _ _ _)
  | tiEdge n falling width =>
    exact hm.act ((exec_tiEdge n falling width s).symm.trans h) fun u hu =>
      .ite (hu.same (u.tiContend_memSame _ _)) (.ite (hu.same (u.tiEdge_memSame _ _ _)) hu)
  | tsuTiPop v => exact hm.actReg ((exec_tsuTiPop v s).symm.trans h) fun u hu => hu.same (u.tiPop_memSame _)
  | tcSyncEntryRelease =>
    refine hm.act (exec_tcSyncEntryRelease s ▸ h) fun u hu => ?_
    split
    · exact .ite hu hu
    · exact hu
  | svFrameDecode lane => exact hm.act ((exec_svFrameDecode lane s).symm.trans h) fun u hu => hu.same (u.svDecode_memSame _)
  | svaStrPop => exact hm.actReg ((exec_svaStrPop s).symm.trans h) fun u hu => hu.same u.strPop_memSame
  | tickClose => exact hm.act ((exec_tickClose s).symm.trans h) fun u hu => hu.same u.tickClose_memSame
  | partnerMapRx => exact hm.act ((exec_partnerMapRx s).symm.trans h) fun u hu => hu.same u.mapRx_memSame
  | agreeWaitExpiry => exact hm.act ((exec_agreeWaitExpiry s).symm.trans h) fun u hu => hu.same u.agreeExpire_memSame
  | fltTickRun e => exact hm.act ((exec_fltTickRun e s).symm.trans h) fun u hu => .ite (hu.fltTickRun _) hu
  | fltChainStart e c => exact hm.actReg ((exec_fltChainStart e c s).symm.trans h) fun u hu => hu.same (u.chainStart_memSame _ _ _)
  | fltChainStop e c => exact hm.actReg ((exec_fltChainStop e c s).symm.trans h) fun u hu => hu.same (u.chainStop_memSame _ _)
  | clearSat e c => exact hm.actReg ((exec_clearSat e c s).symm.trans h) fun u hu => hu.same (u.chainClearSat_memSame _ _)
  | fltRefCmd e v => exact hm.actReg ((exec_fltRefCmd e v s).symm.trans h) fun u hu => hu.same (u.fltRefCmd_memSame _ _)
  | fltEvtPop e => exact hm.actReg ((exec_fltEvtPop e s).symm.trans h) fun u hu => hu
  | adcScanStart c temp => exact hm.act ((exec_adcScanStart c temp s).symm.trans h) fun u hu => hu.same (u.adcScan_memSame _ _)
  | adcConversionDone c raw =>
    exact hm.act ((exec_adcConversionDone c raw s).symm.trans h) fun u hu =>
      .ite (hu.same (u.adcDone_memSame _ _)) hu
  | shuntTrip a => exact hm.act ((exec_shuntTrip a s).symm.trans h) fun u hu => hu.same (u.shuntTrip_memSame _)
  | shuntClose c => exact hm.actReg ((exec_shuntClose c s).symm.trans h) fun u hu => .ite (hu.same (u.shuntClose_memSame _)) hu
  | urgent c => exact hm.actReg ((exec_urgent c s).symm.trans h) fun u hu => .ite (hu.same (u.adcUrgent_memSame _ _)) hu
  | cal c => exact hm.actReg ((exec_cal c s).symm.trans h) fun u hu => .ite (hu.same (u.adcCalStart_memSame _)) hu
  | calDone c offs gains temp =>
    exact hm.act ((exec_calDone c offs gains temp s).symm.trans h) fun u hu =>
      .ite (hu.same (u.adcCalDone_memSame _ _ _ _)) hu
  | adcDataRead c => exact hm.actReg ((exec_adcDataRead c s).symm.trans h) fun u hu => .ite (hu.same (u.adcRead_memSame _)) hu
  | cycleStart => exact hm.act ((exec_cycleStart s).symm.trans h) fun u hu => hu.cycleBound
  | snapWaitEnd => exact hm.act ((exec_snapWaitEnd s).symm.trans h) fun u hu => hu.snapEnd
  | windowStart w =>
    refine hm.act (exec_windowStart w s ▸ h) fun u hu => ?_
    have ht := hu.same (u.winOpen_memSame w.inst)
    exact .ite ((ht.same (State.windowVecs_memSame _ _)).taskReads _ _) ht
  | windowEnd i => exact hm.act ((exec_windowEnd i s).symm.trans h) fun u hu => hu.same (u.winClose_memSame _)
  | activationEnd i cls => exact hm.act ((exec_activationEnd i cls s).symm.trans h) fun u hu => hu.same (u.actEnd_memSame _ _)
  | pointWrite i cls p value qual keep =>
    exact hm.act ((exec_pointWrite i cls p value qual keep s).symm.trans h) fun u hu =>
      hu.same (u.pointWrite_memSame _ _ _ _ _ _)
  | kerfStart used => exact hm.act ((exec_kerfStart used s).symm.trans h) fun u hu => hu.kerfStart _
  | piRead => exact hm.actReg ((exec_piRead s).symm.trans h) fun u hu => hu.same u.piRead_memSame
  | piWrite keep => exact hm.actReg ((exec_piWrite keep s).symm.trans h) fun u hu => hu.same (u.piWrite_memSame _)
  | piDirectoryWrite => exact hm.actReg ((exec_piDirectoryWrite s).symm.trans h) fun u hu => hu.same u.piDir_memSame
  | instStart i => exact hm.actReg ((exec_instStart i s).symm.trans h) fun u hu => hu.same (u.instStart_memSame _ _ _)
  | instStop i => exact hm.actReg ((exec_instStop i s).symm.trans h) fun u hu => hu.same (u.instStop_memSame _ _ _)
  | restart i => exact hm.actReg ((exec_restart i s).symm.trans h) fun u hu => hu.same (u.instRestart_memSame _)
  | prepare m v => exact hm.act ((exec_prepare m v s).symm.trans h) fun u hu => hu.regWrite _ _ _
  | prepareDone => exact hm.act ((exec_prepareDone s).symm.trans h) fun u hu => hu.same u.olcPrepared_memSame
  | arm => exact hm.actReg ((exec_arm s).symm.trans h) fun u hu => hu.same u.olcArm_memSame
  | abort => exact hm.actReg ((exec_abort s).symm.trans h) fun u hu => hu.same u.olcAbort_memSame
  | olcRelease => exact hm.actReg ((exec_olcRelease s).symm.trans h) fun u hu => hu.same u.olcRelease_memSame
  | olcHeldCycleEnd => exact hm.act ((exec_olcHeldCycleEnd s).symm.trans h) fun u hu => hu.olcHeldEnd
  | gooseRx => exact hm.act ((exec_gooseRx s).symm.trans h) fun u hu => hu.h1Goose
  | gooseExpired n => exact hm.act ((exec_gooseExpired n s).symm.trans h) fun u hu => hu.same (u.gooseDeadline_memSame _)
  | ringTailWrite f l d v =>
    exact hm.actReg ((exec_ringTailWrite f l d v s).symm.trans h) fun u hu =>
      .ite (hu.same (u.tailWrite_memSame _ _ _ _)) hu
  | descriptorFetch q => exact hm.act ((exec_descriptorFetch q s).symm.trans h) fun u hu => hu.descFetch _
  | skidderReturn k i => exact hm.act ((exec_skidderReturn k i s).symm.trans h) fun u hu => hu.skdReturn _ _
  | descriptorComplete ring => exact hm.act ((exec_descriptorComplete ring s).symm.trans h) fun u hu => hu.descComplete _
  | h1RxDeliver => exact hm.act ((exec_h1RxDeliver s).symm.trans h) fun u hu => hu.h1Deliver
  | itrExpiry f l => exact hm.act ((exec_itrExpiry f l s).symm.trans h) fun u hu => hu.same (u.itrExpire_memSame _ _)
  | resetDrain f =>
    exact hm.actReg ((exec_resetDrain f s).symm.trans h) fun u hu =>
      hu.same (u.vfReset_memSame _ _ _ fun v => v.migAbortReset_memSame _)
  | resetSquash f =>
    exact hm.actReg ((exec_resetSquash f s).symm.trans h) fun u hu =>
      hu.same (u.vfReset_memSame _ _ _ fun v => v.migAbortReset_memSame _)
  | resetTagTimeout f => exact hm.act ((exec_resetTagTimeout f s).symm.trans h) fun u hu => hu.same (u.resetTimeout_memSame _)
  | resetDone f => exact hm.act ((exec_resetDone f s).symm.trans h) fun u hu => hu.same (u.resetDone_memSame _)
  | swapLog f => exact hm.actReg ((exec_swapLog f s).symm.trans h) fun u hu => hu.same (u.swapLog_memSame _)
  | swapLogDone f => exact hm.act ((exec_swapLogDone f s).symm.trans h) fun u hu => hu.same (u.swapDone_memSame _)
  | migArm f => exact hm.actReg ((exec_migArm f s).symm.trans h) fun u hu => hu.same (u.migArm_memSame _)
  | migAbort f => exact hm.actReg ((exec_migAbort f s).symm.trans h) fun u hu => hu.same (u.migAbortCmd_memSame _)
  | qpRestart q => exact hm.actReg ((exec_qpRestart q s).symm.trans h) fun u hu => hu.same (u.qpRestart_memSame _)
  | qpStop q => exact hm.actReg ((exec_qpStop q s).symm.trans h) fun u hu => hu.same (u.qpStop_memSame _)
  | migFreeze f => exact hm.act ((exec_migFreeze f s).symm.trans h) fun u hu => hu.same (u.migFreeze_memSame _)
  | migFrameRx => exact hm.act ((exec_migFrameRx s).symm.trans h) fun u hu => hu.migFrameRx
  | migDeadline f => exact hm.act ((exec_migDeadline f s).symm.trans h) fun u hu => hu.same (u.migDeadline_memSame _)
  | migAckRx => exact hm.act ((exec_migAckRx s).symm.trans h) fun u hu => hu.same u.migAck_memSame
  | migAbortRx => exact hm.act ((exec_migAbortRx s).symm.trans h) fun u hu => hu.same u.migAbortRx_memSame
  | talTickRun e => exact hm.act ((exec_talTickRun e s).symm.trans h) fun u hu => .ite (hu.talTickRun _) hu
  | saveWriteDone e => exact hm.act ((exec_saveWriteDone e s).symm.trans h) fun u hu => .ite (hu.saveDone _) hu
  | talPointStart e l => exact hm.actReg ((exec_talPointStart e l s).symm.trans h) fun u hu => .ite (hu.same (u.talStart_memSame _ _)) hu
  | talPointStop e l => exact hm.actReg ((exec_talPointStop e l s).symm.trans h) fun u hu => .ite (hu.same (u.talStop_memSame _ _)) hu
  | talClearSat e l => exact hm.actReg ((exec_talClearSat e l s).symm.trans h) fun u hu => .ite (hu.same (u.talClearSat_memSame _ _)) hu
  | saveNow e =>
    exact hm.actReg ((exec_saveNow e s).symm.trans h) fun u hu =>
      .ite (hu.same (u.saveCmd_memSame _ _ _ fun v => v.saveNow_memSame _)) hu
  | zeroPoint e l =>
    exact hm.actReg ((exec_zeroPoint e l s).symm.trans h) fun u hu =>
      .ite (hu.same (u.saveCmd_memSame _ _ _ fun v => v.zeroPoint_memSame _ _)) hu
  | acceptEmpty e =>
    exact hm.actReg ((exec_acceptEmpty e s).symm.trans h) fun u hu =>
      .ite (hu.same (u.saveCmd_memSame _ _ _ fun v => v.acceptEmpty_memSame _)) hu
  | dfoPulseEnd n => exact hm.act ((exec_dfoPulseEnd n s).symm.trans h) fun u hu => hu.same (u.dfoPulseEnd_memSame _)
  | safetyCycle a b misaligned =>
    exact hm.act ((exec_safetyCycle a b misaligned s).symm.trans h) fun u hu =>
      hu.same (u.safetyCycle_memSame _ _ _)
  | safetyReqVector => exact hm.act ((exec_safetyReqVector s).symm.trans h) fun u hu => hu.same u.reqVectorIn_memSame
  | outputOverload n => exact hm.act ((exec_outputOverload n s).symm.trans h) fun u hu => .ite (hu.same (u.overload_memSame _)) hu
  | faultAck out => exact hm.actReg ((exec_faultAck out s).symm.trans h) fun u hu => hu.same (u.hwsCmd_memSame _)
  | safetySelftestDone => exact hm.act ((exec_safetySelftestDone s).symm.trans h) fun u hu => hu
  | acqTickBlock => exact hm.act ((exec_acqTickBlock s).symm.trans h) fun u hu => hu.acqTick
  | chokeStep => exact hm.act ((exec_chokeStep s).symm.trans h) fun u hu => hu.same u.chokeStep_memSame
  | flashUnitWrite u => exact hm.act ((exec_flashUnitWrite u s).symm.trans h) fun u hu => hu.same (u.flashUnit_memSame _)
  | acqSetStart n => exact hm.actReg ((exec_acqSetStart n s).symm.trans h) fun u hu => .ite (hu.same (u.acqStart_memSame _)) hu
  | acqSetStop n => exact hm.actReg ((exec_acqSetStop n s).symm.trans h) fun u hu => .ite (hu.same (u.acqStop_memSame _)) hu
  | trigger n => exact hm.actReg ((exec_trigger n s).symm.trans h) fun u hu => .ite (hu.same (u.acqManual_memSame _)) hu
  | resume n => exact hm.actReg ((exec_resume n s).symm.trans h) fun u hu => .ite (hu.same (u.acqResume_memSame _)) hu
  | acqXtrigCmd v => exact hm.actReg ((exec_acqXtrigCmd v s).symm.trans h) fun u hu => hu.same (u.acqXtrig_memSame _)
  | rescan => exact hm.actReg ((exec_rescan s).symm.trans h) fun u hu => hu.same u.acqRescan_memSame
  | acqRecRelease v => exact hm.actReg ((exec_acqRecRelease v s).symm.trans h) fun u hu => hu.same (u.acqRelease_memSame _)
  | acqRecPop => exact hm.actReg ((exec_acqRecPop s).symm.trans h) fun u hu => hu.same u.acqRecPop_memSame
  | evrPost v => exact hm.actReg ((exec_evrPost v s).symm.trans h) fun u hu => hu.same (u.evrPost_memSame _)
  | postDone => exact hm.act ((exec_postDone s).symm.trans h) fun u hu => hu.postDone
  | hwRecordSubmit => exact hm.act ((exec_hwRecordSubmit s).symm.trans h) fun u hu => hu.same u.hwSubmit_memSame
  | privRecordWrite => exact hm.act ((exec_privRecordWrite s).symm.trans h) fun u hu => hu.privWrite.same (State.pfStep3_memSame _)
  | privLossRecord => exact hm.act ((exec_privLossRecord s).symm.trans h) fun u hu => hu.same u.privLossRec_memSame
  | privMirror => exact hm.act ((exec_privMirror s).symm.trans h) fun u hu => hu.same u.privMirror_memSame
  | flush => exact hm.actReg ((exec_flush s).symm.trans h) fun u hu => hu.same u.flushStart_memSame
  | flushDone => exact hm.act ((exec_flushDone s).symm.trans h) fun u hu => hu.same u.flushDone_memSame
  | evrPrivRelease v => exact hm.actReg ((exec_evrPrivRelease v s).symm.trans h) fun u hu => hu.same (u.privRelease_memSame _)
  | dupSyncRx => exact hm.act ((exec_dupSyncRx s).symm.trans h) fun u hu => hu.dupSyncRx
  | mirrorRx => exact hm.act ((exec_mirrorRx s).symm.trans h) fun u hu => hu.mirrorRx
  | rstateRx => exact hm.act ((exec_rstateRx s).symm.trans h) fun u hu => hu.same u.rstateRx_memSame
  | configDiverge => exact hm.act ((exec_configDiverge s).symm.trans h) fun u hu => hu.same u.configDiverge_memSame
  | pairingTimeout => exact hm.act ((exec_pairingTimeout s).symm.trans h) fun u hu => hu.same u.pairingTimeout_memSame
  | resync => exact hm.actReg ((exec_resync s).symm.trans h) fun u hu => hu.same u.dupResync_memSame
  | swap => exact hm.actReg ((exec_swap s).symm.trans h) fun u hu => hu.same u.dupSwap_memSame
  | take => exact hm.actReg ((exec_take s).symm.trans h) fun u hu => hu.ifUnlocked _ _ fun v hv => hv.same v.dupTake_memSame
  | preferredReturn => exact hm.act ((exec_preferredReturn s).symm.trans h) fun u hu => hu.same u.preferredReturn_memSame
  | go => exact hm.actReg ((exec_go s).symm.trans h) fun u hu => hu.same u.dupInject_memSame
  | cruiserRead m => exact hm.act ((exec_cruiserRead m s).symm.trans h) fun u hu => hu.cruise _
  | partialWrite a bs req idx => exact hm.act ((exec_partialWrite a bs req idx s).symm.trans h) fun u hu => .ite hu (hu.storeBy _ _ _ _)
  | lapWarn m => exact hm.act ((exec_lapWarn m s).symm.trans h) fun u hu => hu.same (u.lapWarn_memSame _)
  | memInjCmd v =>
    exact hm.actReg ((exec_memInjCmd v s).symm.trans h) fun u hu =>
      .ite (hu.same (u.memInj_memSame _)) (hu.same (u.memSame_refuse _ _ _))
  | clearSaved => exact hm.actReg ((exec_clearSaved s).symm.trans h) fun u hu => .ite hu (hu.same (u.memSame_refuse _ _ _))
  | memLogPop => exact hm.actReg ((exec_memLogPop s).symm.trans h) fun u hu => hu
  | flashWear used spare => exact hm.act ((exec_flashWear used spare s).symm.trans h) fun u hu => hu.same (u.flashWear_memSame _ _)
  | derive slot => exact hm.actReg ((exec_derive slot s).symm.trans h) fun u hu => hu.same (u.ksuCmd_memSame _ _ _)
  | stage slot => exact hm.actReg ((exec_stage slot s).symm.trans h) fun u hu => hu.same (u.ksuCmd_memSame _ _ _)
  | verify slot => exact hm.actReg ((exec_verify slot s).symm.trans h) fun u hu => hu.same (u.ksuCmd_memSame _ _ _)
  | ksuCommit slot => exact hm.actReg ((exec_ksuCommit slot s).symm.trans h) fun u hu => hu.same (u.ksuCmd_memSame _ _ _)
  | abortStage slot => exact hm.actReg ((exec_abortStage slot s).symm.trans h) fun u hu => hu.same (u.ksuCmd_memSame _ _ _)
  | unwrap slot parent => exact hm.actReg ((exec_unwrap slot parent s).symm.trans h) fun u hu => hu.same (u.ksuCmd_memSame _ _ _)
  | msg slot => exact hm.actReg ((exec_msg slot s).symm.trans h) fun u hu => hu.same (u.ksuCmd_memSame _ _ _)
  | invalidate slot => exact hm.actReg ((exec_invalidate slot s).symm.trans h) fun u hu => hu.same (u.ksuCmd_memSame _ _ _)
  | sign slot => exact hm.actReg ((exec_sign slot s).symm.trans h) fun u hu => hu.same (u.ksuCmd_memSame _ _ _)
  | pubkey slot arg => exact hm.actReg ((exec_pubkey slot arg s).symm.trans h) fun u hu => hu.same (u.ksuCmd_memSame _ _ _)
  | saveBlob slot => exact hm.actReg ((exec_saveBlob slot s).symm.trans h) fun u hu => hu.same (u.ksuCmd_memSame _ _ _)
  | loadBlob slot => exact hm.actReg ((exec_loadBlob slot s).symm.trans h) fun u hu => hu.same (u.ksuCmd_memSame _ _ _)
  | extend mr => exact hm.actReg ((exec_extend mr s).symm.trans h) fun u hu => hu.same (u.ksuCmd_memSame _ _ _)
  | lockMr mr => exact hm.actReg ((exec_lockMr mr s).symm.trans h) fun u hu => hu.same (u.ksuCmd_memSame _ _ _)
  | run => exact hm.actReg ((exec_run s).symm.trans h) fun u hu => hu.same (u.ksuCmd_memSame _ _ _)
  | setOwner => exact hm.actReg ((exec_setOwner s).symm.trans h) fun u hu => hu.same (u.ksuCmd_memSame _ _ _)
  | opDone => exact hm.act ((exec_opDone s).symm.trans h) fun u hu => hu.ksuDone
  | tamperDetect src value => exact hm.act ((exec_tamperDetect src value s).symm.trans h) fun u hu => hu.tamperDetect _ _
  | tamperClear src value => exact hm.act ((exec_tamperClear src value s).symm.trans h) fun u hu => hu.tamperClear _ _
  | tamperHoldEnd => exact hm.act ((exec_tamperHoldEnd s).symm.trans h) fun u hu => hu.same u.tamperHoldEnd_memSame
  | ack => exact hm.actReg ((exec_ack s).symm.trans h) fun u hu => hu
  | powerFailWarning ext => exact hm.act ((exec_powerFailWarning ext s).symm.trans h) fun u hu => hu.pfWarning _
  | pfwCleared => exact hm.act ((exec_pfwCleared s).symm.trans h) fun u hu => hu.same u.pfCleared_memSame
  | flushEnd => exact hm.act ((exec_flushEnd s).symm.trans h) fun u hu => hu.same u.flushEnd_memSame
  | shedRecover b => exact hm.act ((exec_shedRecover b s).symm.trans h) fun u hu => hu.powerOn _ _
  | storeEmpty => exact hm.act ((exec_storeEmpty s).symm.trans h) fun u hu => hu.storeEmpty
  | abruptLoss torn => exact hm.act ((exec_abruptLoss torn s).symm.trans h) fun u hu => hu.abruptLoss _
  | holdupReady chargeUs => exact hm.act ((exec_holdupReady chargeUs s).symm.trans h) fun u hu => hu.same (u.holdupReady_memSame _)
  | vauxLow => exact hm.act ((exec_vauxLow s).symm.trans h) fun u hu => hu.same u.vauxLow_memSame
  | overtempShutdown => exact hm.act ((exec_overtempShutdown s).symm.trans h) fun u hu => hu.powerLoss
  | powerOnReset b => exact hm.act ((exec_powerOnReset b s).symm.trans h) fun u hu => hu.powerOnReset _
  | warm => exact hm.actReg ((exec_warm s).symm.trans h) fun u hu => hu.ifUnlocked _ _ fun v hv => hv.rstCmd _
  | cold => exact hm.actReg ((exec_cold s).symm.trans h) fun u hu => hu.ifUnlocked _ _ fun v hv => hv.rstCmd _
  | warmReset =>
    refine hm.act (exec_warmReset s ▸ h) fun u hu => ?_
    split
    · exact hu.warmReset _
    · exact hu
  | rstWdogKick v => exact hm.actReg ((exec_rstWdogKick v s).symm.trans h) fun u hu => hu.same (u.wdogKick_memSame _)
  | wdogExpiry => exact hm.act ((exec_wdogExpiry s).symm.trans h) fun u hu => hu.wdogExpiry
  | buttonPress rstIn => exact hm.act ((exec_buttonPress rstIn s).symm.trans h) fun u hu => hu.press _
  | resetHoldRelease => exact hm.act ((exec_resetHoldRelease s).symm.trans h) fun u hu => hu.same u.holdRelease_memSame
  | stuckClear rstIn => exact hm.act ((exec_stuckClear rstIn s).symm.trans h) fun u hu => hu.same (u.stuckClear_memSame _)
  | perstN => exact hm.act ((exec_perstN s).symm.trans h) fun u hu => hu.same u.perst_memSame
  | announceSend => exact hm.act ((exec_announceSend s).symm.trans h) fun u hu => hu.same u.annSend_memSame
  | announceRx => exact hm.act ((exec_announceRx s).symm.trans h) fun u hu => hu.same u.annRx_memSame
  | slotLost n => exact hm.act ((exec_slotLost n s).symm.trans h) fun u hu => .ite (hu.same (u.slotLost_memSame _)) hu
  | slotConflictEnd n => exact hm.act ((exec_slotConflictEnd n s).symm.trans h) fun u hu => .ite (hu.same (u.conflictEnd_memSame _)) hu
  | mgrTakeover => exact hm.act ((exec_mgrTakeover s).symm.trans h) fun u hu => hu.same u.takeover_memSame
  | hostWindowAccess bar tag addr wr dws =>
    exact hm.act ((exec_hostWindowAccess bar tag addr wr dws s).symm.trans h) fun u hu =>
      hu.hostAccess _ _ _ _ _
  | windowFrameSend n => exact hm.act ((exec_windowFrameSend n s).symm.trans h) fun u hu => .ite (hu.same (u.windowSend_memSame _)) hu
  | windowFrameRx => exact hm.act ((exec_windowFrameRx s).symm.trans h) fun u hu => hu.windowRx
  | windowResponseRx => exact hm.act ((exec_windowResponseRx s).symm.trans h) fun u hu => hu.same u.responseRx_memSame
  | windowRetryTimeout n => exact hm.act ((exec_windowRetryTimeout n s).symm.trans h) fun u hu => .ite (hu.same (u.winRetry_memSame _)) hu
  | windowReadTimeout n => exact hm.act ((exec_windowReadTimeout n s).symm.trans h) fun u hu => .ite (hu.same (u.winReadOut_memSame _)) hu
  | intrFrameRx => exact hm.act ((exec_intrFrameRx s).symm.trans h) fun u hu => hu.same u.intrRx_memSame
  | forget n =>
    exact hm.actReg ((exec_forget n s).symm.trans h) fun u hu =>
      hu.ifUnlocked _ _ fun v hv => .ite (hv.same (v.forget_memSame _)) hv
  | ackReset n => exact hm.actReg ((exec_ackReset n s).symm.trans h) fun u hu => .ite (hu.same (u.ackReset_memSame _)) hu
  | hltSample ro sfp => exact hm.act ((exec_hltSample ro sfp s).symm.trans h) fun u hu => hu.same (u.hltSample_memSame _ _)
  | hltRestart i =>
    exact hm.actReg ((exec_hltRestart i s).symm.trans h) fun u hu =>
      hu.ifUnlocked _ _ fun v hv => hv.same (v.hltRestart_memSame _)
  | soReplaced i =>
    exact hm.actReg ((exec_soReplaced i s).symm.trans h) fun u hu =>
      hu.ifUnlocked _ _ fun v hv => hv.same (v.soReplaced_memSame _)
  | mgrLost => exact hm.act ((exec_mgrLost s).symm.trans h) fun u hu => hu.same u.mgrLoss_memSame
  | sfpRefit p => exact hm.act ((exec_sfpRefit p s).symm.trans h) fun u hu => hu.same (u.sfpRefit_memSame _)
  | keepAliveOff => exact hm.act ((exec_keepAliveOff s).symm.trans h) fun u hu => hu.same u.keepOff_memSame
  | vauxReturn => exact hm.act ((exec_vauxReturn s).symm.trans h) fun u hu => hu.same u.vauxReturn_memSame
  | buttonRelease rstIn => exact hm.act ((exec_buttonRelease rstIn s).symm.trans h) fun u hu => hu.same (u.unpress_memSame _)

/-- Settles O47: no command and no clock takes memory or MRAM out of its canonical form. -/
theorem memoryKeepsItsForm : Obligations.MemoryKeepsItsForm := by
  intro s t hmem hmram h
  have hm : s.MemForm := ⟨hmem, hmram⟩
  unfold step at h
  split at h
  · cases h
    exact State.MemForm.ite hm (hm.same ⟨rfl, rfl⟩)
  · next c rest _ => exact State.MemForm.exec (s := { s with pending := rest }) hm h

end Sys2Proof.Machine
end
